-- ==== Sys2Proof/Word.lean ====
section
/-! DEFINITION. The word types of the RZ7740 model and the sparse table that holds everything the spec numbers
(queues, pools, slots, contexts, sectors, bytes of the keeper die). -/

namespace Sys2Proof

/-- One byte of a packet, a record or a memory. -/
abbrev Byte := BitVec 8

/-- A byte string, lowest address first. -/
abbrev Bytes := List Byte

/-- A queue number, 0 to 16,383 (R15). -/
abbrev QId := BitVec 14

/-- A pool identifier, 0x0000 to 0xFFFF (R15). -/
abbrev PoolId := BitVec 16

/-- An issuer domain, 0 to 255 (R15). -/
abbrev Dom := BitVec 8

/-- A 40-bit serial number (R73). -/
abbrev Serial := BitVec 40

/-- A sparse table by number: strictly rising keys; a number that is not listed reads as the table's default. -/
abbrev Tab (α : Type) := List (Nat × α)

/-- The entry listed for a number, if one is. -/
def Tab.find {α : Type} : Tab α → Nat → Option α
  | [], _ => none
  | (j, v) :: rest, k => if j = k then some v else if k < j then none else Tab.find rest k

/-- The entry of a number, or the default where none is listed. -/
def Tab.get {α : Type} (t : Tab α) (k : Nat) (d : α) : α := (t.find k).getD d

/-- The table with an entry set. -/
def Tab.put {α : Type} : Tab α → Nat → α → Tab α
  | [], k, v => [(k, v)]
  | (j, w) :: rest, k, v =>
    if j = k then (k, v) :: rest
    else if k < j then (k, v) :: (j, w) :: rest
    else (j, w) :: Tab.put rest k v

/-- The table with an entry removed, so that its number reads as the default again. -/
def Tab.del {α : Type} : Tab α → Nat → Tab α
  | [], _ => []
  | (j, w) :: rest, k => if j = k then rest else if k < j then (j, w) :: rest else (j, w) :: Tab.del rest k

/-- Every listed entry changed by a function of its number and itself. -/
def Tab.mapVals {α β : Type} (f : Nat → α → β) (t : Tab α) : Tab β := t.map fun p => (p.1, f p.1 p.2)

/-- The listed entries that meet a test. -/
def Tab.keep {α : Type} (f : Nat → α → Bool) (t : Tab α) : Tab α := t.filter fun p => f p.1 p.2

/-- The canonical form: keys strictly rising. -/
def Tab.sorted {α : Type} : Tab α → Bool
  | [] => true
  | [_] => true
  | (j, _) :: (k, w) :: rest => decide (j < k) && Tab.sorted ((k, w) :: rest)

/-- The lowest number from `k` upward, among `fuel` numbers, that meets a test. -/
def lowestFrom (f : Nat → Bool) : Nat → Nat → Option Nat
  | 0, _ => none
  | fuel + 1, k => if f k then some k else lowestFrom f fuel (k + 1)

/-- An element of a list set by position; a position past the end changes nothing. -/
def setAt {α : Type} : List α → Nat → α → List α
  | [], _, _ => []
  | _ :: rest, 0, v => v :: rest
  | w :: rest, k + 1, v => w :: setAt rest k v

end Sys2Proof
end

