-- ==== Sys2Proof/Machine/Bits.lean ====
section
/-! DEFINITION. Byte order and bit fields (R6, R7): numbers as little-endian or big-endian byte strings, fields of a
word, saturating counters. -/

namespace Sys2Proof.Machine

/-- The low `n` bytes of a number, lowest byte first (R7). -/
def leBytes : Nat → Nat → Bytes
  | 0, _ => []
  | n + 1, v => BitVec.ofNat 8 v :: leBytes n (v / 256)

/-- The number a little-endian byte string spells (R7). -/
def leNat : Bytes → Nat
  | [] => 0
  | b :: rest => b.toNat + 256 * leNat rest

/-- The low `n` bytes of a number, highest byte first. -/
def beBytes (n v : Nat) : Bytes := (leBytes n v).reverse

/-- The number a big-endian byte string spells. -/
def beNat (bs : Bytes) : Nat := leNat bs.reverse

/-- `n` bytes from position `k`, zeros past the end. -/
def slice (bs : Bytes) (k n : Nat) : Bytes :=
  let t := (bs.drop k).take n
  t ++ List.replicate (n - t.length) 0

/-- The little-endian field of `n` bytes at byte `k` of a record. -/
def leAt (bs : Bytes) (k n : Nat) : Nat := leNat (slice bs k n)

/-- A string of zero bytes. -/
def zeros (n : Nat) : Bytes := List.replicate n 0

/-- A byte string with another written into it at position `k`; what would fall past the end is dropped. -/
def writeAt (bs : Bytes) (k : Nat) (new : Bytes) : Bytes :=
  (bs.take k ++ new ++ bs.drop (k + new.length)).take bs.length

/-- The field of `w` bits from bit `lo` of a number. -/
def bitsAt (v lo w : Nat) : Nat := (v / 2 ^ lo) % 2 ^ w

/-- A counter that saturates at the all-ones value of its width. -/
def satAdd {w : Nat} (c : BitVec w) (n : Nat) : BitVec w :=
  if c.toNat + n < 2 ^ w then BitVec.ofNat w (c.toNat + n) else BitVec.allOnes w

/-- The count as a field of `w` bits that saturates (R53). -/
def sat (w n : Nat) : BitVec w := if n < 2 ^ w then BitVec.ofNat w n else BitVec.allOnes w

/-- One bit of a word set or cleared. -/
def setBit {w : Nat} (v : BitVec w) (i : Nat) (b : Bool) : BitVec w :=
  if b then v ||| (1#w <<< i) else v &&& ~~~(1#w <<< i)

/-- The number of ones of a word. -/
def popcount (n : Nat) (v : Nat) : Nat := ((List.range n).filter fun i => v.testBit i).length

/-- The quotient rounded up. -/
def ceilDiv (a b : Nat) : Nat := (a + b - 1) / b

/-- The exclusive or of two byte strings, as long as the shorter. -/
def xorBytes (a b : Bytes) : Bytes := List.zipWith (· ^^^ ·) a b

/-- CRC-32 with polynomial 0x04C1_1DB7, initial value 0, not reflected, no final XOR, each byte from bit 7 down
(R221): one byte. -/
def crc32Byte (crc : BitVec 32) (b : Byte) : BitVec 32 :=
  (List.range 8).foldl
    (fun c i =>
      let fb := c.getLsbD 31 != b.getLsbD (7 - i)
      if fb then (c <<< 1) ^^^ 0x04C11DB7#32 else c <<< 1) crc

/-- CRC-32 of a byte string in address order (R221). -/
def crc32 (bs : Bytes) : BitVec 32 := bs.foldl crc32Byte 0

end Sys2Proof.Machine
end

