-- ==== Sys2Proof/Syntax.lean ====
section
/-! DEFINITION. The commands of the block: one constructor of `Instr` for each row of spec/opcode_table.json, and
the plain data their operands carry. A host or management opcode's row takes a whole command packet (R41) with what
its environment supplies; an event's row takes what the event brings with it. -/

namespace Sys2Proof

/-- The three ways a command packet reaches the device (R349). -/
inductive Transport where
  /-- a host queue -/
  | host
  /-- the SMBus side-band port -/
  | smbus
  /-- the service SPI port -/
  | spi
  deriving DecidableEq, Repr

/-- The 64-byte command packet of R41. `inl` holds bytes 32 to 63, byte 32 in bits [7:0] (R6, R7): the inline
parameters, and `out_ptr` in bits [255:192] when `out_len` is not 0. -/
structure Packet where
  opcode : BitVec 16
  flags : BitVec 16
  tag : BitVec 32
  handleA : BitVec 32
  handleB : BitVec 32
  dataPtr : BitVec 64
  dataLen : BitVec 32
  outLen : BitVec 32
  inl : BitVec 256
  deriving DecidableEq, Repr

/-- The wait terms of a command's path, in cycles (R53): first those at the arbiters of R242 on CLK_CORE, each named as the
manual names its W term, then those that `arbitration_wait` holds no part of. -/
structure Waits where
  wFp : Nat := 0
  wCx : Nat := 0
  wLedger : Nat := 0
  wReg : Nat := 0
  wSm3 : Nat := 0
  wSign : Nat := 0
  wVerify : Nat := 0
  wSeal : Nat := 0
  wHold : Nat := 0
  wKs : Nat := 0
  wCu : Nat := 0
  wDma : Nat := 0
  wSlot : Nat := 0
  wMiss : Nat := 0
  wBoundary : Nat := 0
  wAck : Nat := 0
  wYield : Nat := 0
  wDrain : Nat := 0
  wIdle : Nat := 0
  wQuiesce : Nat := 0
  wDraw : Nat := 0
  wCkpt : Nat := 0
  wRb : Nat := 0
  wCard : Nat := 0
  wSkein : Nat := 0
  wNvm : Nat := 0
  wMss : Nat := 0
  wSpare : Nat := 0
  deriving DecidableEq, Repr

/-- What `arbitration_wait` holds of a path's waits: those at an arbiter on CLK_CORE (R22, R53). -/
def Waits.arb (w : Waits) : Nat :=
  w.wFp + w.wCx + w.wLedger + w.wReg + w.wSm3 + w.wSign + w.wVerify + w.wSeal + w.wHold + w.wKs + w.wCu

/-- All the waits of a path, which `cycles` holds beside its fixed cycles (R53). -/
def Waits.total (w : Waits) : Nat :=
  w.arb + (w.wDma + w.wSlot + w.wMiss + w.wBoundary + w.wAck + w.wYield + w.wDrain + w.wIdle + w.wQuiesce + w.wDraw +
    w.wCkpt + w.wRb + w.wCard + w.wSkein + w.wNvm + w.wMss + w.wSpare)

/-- A command packet with what its surroundings bring: the queue it came from, the transport, the bytes the host
memory holds at `data_ptr` (or the inline data of a management message), a host read that failed after so many bytes
(R50), the wait terms of its path (R53), the error pattern a fault injected into
its signing job puts on the output latch (R156; 0 for none), and whether its spindle, seal or digest work is still
running when this step ends. `dom` is the domain of its queue where another node forwards it (R280). -/
structure Cmd where
  q : QId := 0
  dom : Dom := 0
  via : Transport := .host
  pkt : Packet
  data : Bytes := []
  memErr : Option Nat := none
  waits : Waits := {}
  glitch : BitVec 512 := 0
  async : Bool := false
  deriving DecidableEq, Repr

/-- What a host memory read returned (R50). -/
inductive ReadResult where
  | data (bytes : Bytes)
  /-- Unsupported Request, Completer Abort, Poisoned or a timeout, after so many bytes -/
  | failed (after : Nat)
  deriving DecidableEq, Repr

/-- A Skein port (R265). -/
inductive Port where
  | east | west
  deriving DecidableEq, Repr

/-- The ledger registers whose _LO half latches (R103). -/
inductive LedgerLo where
  | next | cseq | jseq | tot | fseq
  deriving DecidableEq, Repr

/-- The register-block registers whose _LO half latches (R142). -/
inductive RegLo where
  | seq | ack | ckptId | rbldSeq
  deriving DecidableEq, Repr

/-- The seal registers whose _LO half latches (R199). -/
inductive SealLo where
  | blk | floor
  deriving DecidableEq, Repr

/-- The command a port watchdog found stuck (R248): the arbiter, the engine number and requester, and the command. -/
structure Stuck where
  arb : BitVec 6
  inst : Nat
  req : Nat
  q : QId
  tag : BitVec 32
  ctx : Nat
  deriving DecidableEq, Repr

/-- A 32-byte register entry (R104). -/
structure Entry where
  fp : BitVec 128
  pool : PoolId
  serial : Serial
  state : Byte
  admits : Byte
  limit : Byte
  node : Byte
  flags : Byte
  time : BitVec 32
  deriving DecidableEq, Repr

/-- What one register operation does to the entry it finds (R113). -/
inductive RegOp where
  /-- compare only -/
  | lookup (fp : BitVec 128)
  /-- insert under R109 and R110 -/
  | insert (e : Entry)
  /-- replace the live entry of the same fingerprint -/
  | update (e : Entry)
  /-- free the live entry (R111) -/
  | free (fp : BitVec 128)
  deriving DecidableEq, Repr

/-- What a transfer read from DRAM is found to be by its check bits and tag (R12, R255). -/
inductive EccResult where
  | clean | corrected | multiBit
  deriving DecidableEq, Repr

/-- One VC's counters of the other side of a link, as a census or reconciliation carries them (R274). -/
structure PeerCount where
  accepted : BitVec 32
  freed : BitVec 32
  occupied : Byte
  deriving DecidableEq, Repr

/-- The causes of a link failure (R269). -/
inductive LinkFault where
  | blockLock | groupTag | heartbeats | census
  deriving DecidableEq, Repr

/-- A Skein packet (R271). -/
structure SkPacket where
  dest : Byte
  src : Byte
  vc : Byte
  kind : Byte
  flags : BitVec 16
  seq : BitVec 32
  tag : BitVec 32
  payload : Bytes
  deriving DecidableEq, Repr

/-- What a member asks the head to carry to host memory (R277). -/
inductive HostAccess where
  | read (addr : BitVec 64) (len : Nat) (data : Bytes)
  | write (addr : BitVec 64) (data : Bytes)
  | msix (vector : BitVec 11)
  | journal (addr : BitVec 64) (record : Bytes)
  deriving DecidableEq, Repr

/-- The reply a routed command brought back from its owner (R280). -/
structure RouteReply where
  status : BitVec 16
  inl : BitVec 64
  result : Bytes
  arbWaits : Nat
  deriving DecidableEq, Repr

/-- A removable card in the socket (R371, R375): its identification, whether CMD1 reports ready at once, its write
protect switch, and the blocks that are not all zeros. -/
structure Media where
  cid : BitVec 128
  capacity : Nat
  highSpeed : Bool
  readyAtOnce : Bool
  wp : Bool
  blocks : Tab Bytes
  deriving DecidableEq, Repr

/-- The three PLLs a start checks (R391). -/
inductive Pll where
  | core | memory | skein
  deriving DecidableEq, Repr

/-- The wake sources of DOZE, with a held BAR write where there is one (R394). -/
inductive WakeSrc where
  | bar0Write (addr : BitVec 20) (v : BitVec 32)
  | bar2Write (addr : BitVec 18) (v : BitVec 32)
  | bar4Write (addr : BitVec 24) (v : BitVec 32)
  | bar0Read
  | skein
  | card
  | tamper
  | mss
  | dozeCleared
  deriving DecidableEq, Repr

/-- The record areas of the flash (R301). -/
inductive FlashArea where
  | log | config | archive
  deriving DecidableEq, Repr

/-- A frame the record controller is asked to write (R303). -/
structure FlashReq where
  area : FlashArea
  kind : Byte
  key : BitVec 32
  payload : Bytes
  deriving DecidableEq, Repr

/-- What the FeRAM scrub found in the page it read at margin (R314): the bank, and what was wrong. -/
inductive FeScrub where
  | clean
  | corrected (bank : Bool)
  /-- a group, by its index in the page, that cannot be corrected in one bank -/
  | oneBank (bank : Bool) (group : BitVec 3)
  /-- a group that cannot be corrected in either bank -/
  | bothBanks (group : BitVec 3)
  deriving DecidableEq, Repr

/-- The commands of the RZ7740, one for each row of the table of operations and events. -/
inductive Instr where
  /-- R58. Administrative no-operation that returns the low 64 bits of the cycle counter in its reply. -/
  | nop (c : Cmd)
  /-- R59. Creates a queue pair with its rings, domain, interrupt mode and coalescing, and returns the new epoch. -/
  | queueCreate (c : Cmd)
  /-- R62. Runs steps 1 to 4 and 6 to 7 of the queue reset procedure and leaves the queue absent. -/
  | queueDelete (c : Cmd)
  /-- R62. Stops fetch, aborts undispatched packets, drains, releases locks, increments the epoch and zeroes the ring indices. -/
  | queueReset (c : Cmd)
  /-- R38. Installs a 192-byte domain policy record after checking it against R39. -/
  | domainConfig (c : Cmd)
  /-- R60. Returns one identity, unit-count, link or queue-count page. -/
  | getInfo (c : Cmd)
  /-- R61. Sets the device time, or slews it when the new value is up to 86,400 s earlier. -/
  | timeSet (c : Cmd)
  /-- R83. Reserves n units A to R and a serial run as a pool lock owned by the pair (queue, epoch). -/
  | lockAcquire (c : Cmd)
  /-- R84. Ends a pool lock, returns its unused units R to A and abandons its unused serials. -/
  | lockRelease (c : Cmd)
  /-- R81. POOL_CREATE mode 0 creates an OPEN pool with zero counters and a serial range. -/
  | poolCreateNew (c : Cmd)
  /-- R101. POOL_CREATE mode 1 recreates a pool from a RECOVERY certificate after SCOUR, with RECOVERING set. -/
  | poolCreateRecover (c : Cmd)
  /-- R72. Checks a LOAD certificate and adds its units to L and A. -/
  | poolLoad (c : Cmd)
  /-- R20. Reserves a unit, takes a serial, builds the header, signs or tags the ticket, inserts it into the register and replies after durability. -/
  | issue (c : Cmd)
  /-- R82. Moves an issued, unadmitted ticket I to S and marks its register entry SPOILED. -/
  | spoil (c : Cmd)
  /-- R82. Moves an issued, unadmitted ticket I to V and marks its register entry VOIDED. -/
  | void (c : Cmd)
  /-- R82. Moves n voided units V to A in a pool whose policy has REISSUE set. -/
  | reclaim (c : Cmd)
  /-- R102. Returns the pool record and a summary of the pool's lock. -/
  | poolQuery (c : Cmd)
  /-- R90. POOL_FREEZE op 0 sets the HOST freeze cause, drains the pool and journals a FREEZE record. -/
  | poolFreezeSet (c : Cmd)
  /-- R90. POOL_FREEZE op 1 clears the HOST freeze cause and journals a THAW record. -/
  | poolFreezeClear (c : Cmd)
  /-- R101. POOL_FREEZE op 2 replaces the pool record from a RECOVERY certificate and sets RECOVERING. -/
  | poolFreezeRecovery (c : Cmd)
  /-- R91. Sets RETIRING, drains the pool, moves all of A to W and sets RETIRED. -/
  | poolRetire (c : Cmd)
  /-- R379. Moves units A to T, writes a slip and a CONFIRM marker to the card, then moves the units T to X. -/
  | exportCard (c : Cmd)
  /-- R380. Checks a confirmed slip on the card and adds its units to M and A. -/
  | importCard (c : Cmd)
  /-- R284. Moves units A to T and sends a TRANSFER packet to another node of the cluster. -/
  | transferOut (c : Cmd)
  /-- R285. RECONCILE of a Skein transfer in DOUBT sends a QUERY to the receiving node. -/
  | reconcileTransfer (c : Cmd)
  /-- R381. RECONCILE of a card slip in DOUBT reads the card slot and confirms or cancels the slip. -/
  | reconcileSlip (c : Cmd)
  /-- R102. LEDGER_AUDIT op 0 sums all pool records and compares the sums with the durable totals. -/
  | ledgerAuditSum (c : Cmd)
  /-- R101. LEDGER_AUDIT op 1 clears the STRIP freeze, or sets TOTALS when the totals disagree. -/
  | ledgerAuditClearStrip (c : Cmd)
  /-- R101. LEDGER_AUDIT op 2 sets new durable totals from a TOTALS certificate. -/
  | ledgerAuditTotals (c : Cmd)
  /-- R71. Checks a WRITE_OFF certificate and moves units A to W or T to W. -/
  | writeOff (c : Cmd)
  /-- R117. Verifies a ticket or credential and increments the admit_count of its live register entry. -/
  | admitSerial (c : Cmd)
  /-- R119. Performs one register lookup and returns the entry without changing it. -/
  | lookup (c : Cmd)
  /-- R120. Inserts an EXTERNAL credential entry into the register and chains an ENROL record. -/
  | enrolExternal (c : Cmd)
  /-- R131. Cuts, seals and hashes a checkpoint image of the pools, the transfers and the register, and records its root in FeRAM. -/
  | checkpoint (c : Cmd)
  /-- R138. Verifies and loads a checkpoint image, or makes an empty start, to begin a register rebuild. -/
  | rebuildBegin (c : Cmd)
  /-- R139. Applies a batch of journal records to the rebuild while checking the chain. -/
  | rebuildFeed (c : Cmd)
  /-- R140. Ends the rebuild, marks inconsistent pools and completes ledger recovery. -/
  | rebuildEnd (c : Cmd)
  /-- R130. Raises the acknowledged journal sequence. -/
  | journalAck (c : Cmd)
  /-- R121. PURGE op 0 frees one voided, spoiled, external or exhausted register entry. -/
  | purgeEntry (c : Cmd)
  /-- R121. PURGE op 1 sweeps every bucket and the stash, freeing every live entry of a retired pool. -/
  | purgePool (c : Cmd)
  /-- R189. Opens a SEAL, OPEN or TICKET context, derives its key and returns a session record. -/
  | ctxOpen (c : Cmd)
  /-- R187. Starts or continues a sealed message and writes its ciphertext. -/
  | sealData (c : Cmd)
  /-- R187. Finishes a sealed message, checks the declared length and writes the tag. -/
  | sealFinal (c : Cmd)
  /-- R195. Decrypts into a hold buffer and releases the plaintext only if the tag passes. -/
  | openVerify (c : Cmd)
  /-- R196. Writes a clear or wrapped save record of a context, and closes a SEAL context saved in wrapped form. -/
  | ctxSave (c : Cmd)
  /-- R197. Restores a context from a save record, subject to the restore floor for wrapped SEAL records. -/
  | ctxRestore (c : Cmd)
  /-- R198. Waits for the context's commands in flight, then zeroes and closes the context. -/
  | ctxClose (c : Cmd)
  /-- R171. Signs a message or digest with an SM2 secret key and runs verify-after-sign. -/
  | sign (c : Cmd)
  /-- R171. Verifies an SM2 signature over a message or digest. -/
  | verify (c : Cmd)
  /-- R166. Checks a public key on its curve, computes Z and stores the key in a slot. -/
  | pubkeyLoad (c : Cmd)
  /-- R160. Runs one modular or elliptic-curve primitive on a verify spindle. -/
  | bnJob (c : Cmd)
  /-- R163. Aborts an open BN_JOB job, either while it is parked or while it runs. -/
  | bnAbort (c : Cmd)
  /-- R168. CURVE_LOAD op 0 runs the curve check program and stores a valid curve record. -/
  | curveLoadLoad (c : Cmd)
  /-- R168. CURVE_LOAD op 1 clears a curve slot. -/
  | curveLoadClear (c : Cmd)
  /-- R207. Opens or resets a digest context, optionally absorbing a keyed leading block. -/
  | hashInit (c : Cmd)
  /-- R206. Absorbs whole blocks into a digest context, starting from the IV on an IDLE context. -/
  | hashData (c : Cmd)
  /-- R205. Absorbs the final blocks, writes the digest and resets the context to IDLE. -/
  | hashFinal (c : Cmd)
  /-- R209. Absorbs the final blocks and compares the digest with an expected value in constant time. -/
  | hashCompare (c : Cmd)
  /-- R210. Absorbs the final blocks and writes the digest into a key slot. -/
  | hashToKey (c : Cmd)
  /-- R208. Waits for the context's commands in flight, then zeroes and closes the digest context. -/
  | hashClose (c : Cmd)
  /-- R226. Checks and unwraps a wrapped key blob into a slot or into the domain key table. -/
  | keyLoadBlob (c : Cmd)
  /-- R237. Generates a key, wraps it as a blob and optionally loads it or allocates an entry for it. -/
  | keyGenerate (c : Cmd)
  /-- R238. KEY_WRAP op 0 re-wraps a slot's key under a KEK or under the domain's DMK. -/
  | keyWrapRewrap (c : Cmd)
  /-- R238. KEY_WRAP op 1 wraps a clear value under a KEK that permits CLEAR_IMPORT. -/
  | keyWrapClear (c : Cmd)
  /-- R238. KEY_WRAP op 2 wraps a domain master key under the transport key. -/
  | keyWrapDmk (c : Cmd)
  /-- R230. Replaces a lineage key atomically through a shadow slot and a generation-table write. -/
  | keyReplace (c : Cmd)
  /-- R229. KEY_INVALIDATE op 0 advances a domain's DMK generation, orphaning its blobs. -/
  | keyInvalidateDmk (c : Cmd)
  /-- R229. KEY_INVALIDATE op 1 advances the generation of a KEK or lineage entry. -/
  | keyInvalidateEntry (c : Cmd)
  /-- R229. KEY_INVALIDATE op 2 advances the generation of a KEK or lineage entry and frees the entry. -/
  | keyInvalidateFree (c : Cmd)
  /-- R240. Empties a key slot. -/
  | keyEvict (c : Cmd)
  /-- R239. KEY_QUERY op 0 returns a slot's attributes. -/
  | keyQuerySlot (c : Cmd)
  /-- R239. KEY_QUERY op 1 returns a generation-table entry. -/
  | keyQueryEntry (c : Cmd)
  /-- R239. KEY_QUERY op 2 returns slot and entry counts and the sweep revolution count. -/
  | keyQuerySummary (c : Cmd)
  /-- R291. NODE_REG op 0 reads a BAR0 register of a cluster node. -/
  | nodeRegRead (c : Cmd)
  /-- R291. NODE_REG op 1 writes a BAR0 register of a cluster node. -/
  | nodeRegWrite (c : Cmd)
  /-- R282. Installs a new partition map on every member in two phases. -/
  | mapSet (c : Cmd)
  /-- R291. Returns the partition map and its version. -/
  | mapGet (c : Cmd)
  /-- R266. NODE_MEMBER op 0 admits a candidate device under a free node number. -/
  | nodeMemberAdmit (c : Cmd)
  /-- R291. NODE_MEMBER op 1 retires an unreachable member and adds its serial to the retired list. -/
  | nodeMemberRetire (c : Cmd)
  /-- R383. CARD_INFO op 0 reports the card state and slot counts. -/
  | cardInfoReport (c : Cmd)
  /-- R372. CARD_INFO op 1 identifies the card again and rebuilds the slot map. -/
  | cardInfoIdentify (c : Cmd)
  /-- R384. Writes the volume header and zeroes blocks 1 to 1,599, unless an unimported confirmed slip is present. -/
  | cardFormat (c : Cmd)
  /-- R383. Reads one 512-byte card block. -/
  | cardRead (c : Cmd)
  /-- R384. Zeroes both blocks of a card slot, unless it holds an unimported confirmed slip. -/
  | cardClear (c : Cmd)
  /-- R385. Writes a tagged audit block holding the ledger audit result. -/
  | cardAudit (c : Cmd)
  /-- R356. Returns sixteen sensor readings. -/
  | sensorRead (c : Cmd)
  /-- R358. Returns up to 16 event log records, starting from a given sequence. -/
  | logRead (c : Cmd)
  /-- R340. Draws and holds a 16-byte authorisation challenge. -/
  | challenge (c : Cmd)
  /-- R341. Verifies an authorisation and makes a fuse-counted life-cycle transition. -/
  | lifecycle (c : Cmd)
  /-- R260. UNIT_SERVICE op 0 takes a unit out of service after its granted work ends. -/
  | unitServiceRemove (c : Cmd)
  /-- R260. UNIT_SERVICE op 1 tests a unit and returns it to service. -/
  | unitServiceReturn (c : Cmd)
  /-- R260. UNIT_SERVICE op 2 spares a DRAM row. -/
  | unitServiceSpareRow (c : Cmd)
  /-- R343. Checks an enrolment package, creates the owner root and keys, and moves the device to ENROLLED. -/
  | enrol (c : Cmd)
  /-- R322. TAMPER_CONFIG op 0 returns the tamper configuration record. -/
  | tamperConfigRead (c : Cmd)
  /-- R322. TAMPER_CONFIG op 1 writes the tamper configuration subject to the check, limits and life-cycle floors. -/
  | tamperConfigWrite (c : Cmd)
  /-- R329. Runs the built-in tests and releases a latched HOLD, a STRIP or a SCOUR. -/
  | tamperRelease (c : Cmd)
  /-- R357. Reads raw bytes of a keeper-die region under its password. -/
  | nvmRawRead (c : Cmd)
  /-- R357. Writes raw bytes of region 3 or a frame of region 7 under the region's password. -/
  | nvmRawWrite (c : Cmd)
  /-- R357. Changes a region password on presentation of the current one. -/
  | nvmPasswordSet (c : Cmd)
  /-- R319. Returns the 64-byte keeper status record. -/
  | keeperStatus (c : Cmd)
  /-- R363. FW_STAGE op 0 erases the inactive bank and starts a staging session. -/
  | fwStageBegin (c : Cmd)
  /-- R363. FW_STAGE op 1 writes the next image chunk to the staging bank. -/
  | fwStageChunk (c : Cmd)
  /-- R363. FW_STAGE op 2 checks the total length and marks the bank STAGED. -/
  | fwStageEnd (c : Cmd)
  /-- R363. FW_STAGE op 3 abandons the staging session. -/
  | fwStageAbandon (c : Cmd)
  /-- R366. FW_ACTIVATE op 0 runs the hitless handover of both command-core sets to the staged bank. -/
  | fwActivateHandover (c : Cmd)
  /-- R368. FW_ACTIVATE op 1 names the staged MSS bank in the boot record and resets the MSS. -/
  | fwActivateMssReboot (c : Cmd)
  /-- R365. FW_ACTIVATE op 2 blows security-version fuses up to the running image's sv. -/
  | fwActivateCommitSv (c : Cmd)
  /-- R364. Returns the boot record and the handover status. -/
  | fwStatus (c : Cmd)
  /-- R370. SETTING op 0 reads a management setting. -/
  | settingGet (c : Cmd)
  /-- R370. SETTING op 1 writes a management setting. -/
  | settingSet (c : Cmd)
  /-- R370. SETTING op 2 restores a management setting to its default. -/
  | settingDefault (c : Cmd)
  /-- R148. Spindle instruction NOP, which does nothing. -/
  | spindleNop (sp : BitVec 6) (d a b : BitVec 7) (m : BitVec 5)
  /-- R148. Spindle 256-bit addition that sets the carry. -/
  | add (sp : BitVec 6) (d a b : BitVec 7) (m : BitVec 5)
  /-- R148. Spindle addition with carry in. -/
  | addc (sp : BitVec 6) (d a b : BitVec 7) (m : BitVec 5)
  /-- R148. Spindle 256-bit subtraction that sets the borrow. -/
  | sub (sp : BitVec 6) (d a b : BitVec 7) (m : BitVec 5)
  /-- R148. Spindle subtraction with borrow in. -/
  | subc (sp : BitVec 6) (d a b : BitVec 7) (m : BitVec 5)
  /-- R148. Spindle compare that sets the C and E flags. -/
  | cmp (sp : BitVec 6) (d a b : BitVec 7) (m : BitVec 5)
  /-- R148. Spindle flag-controlled select. -/
  | sel (sp : BitVec 6) (d a b : BitVec 7) (m : BitVec 5)
  /-- R148. Spindle bitwise AND. -/
  | and (sp : BitVec 6) (d a b : BitVec 7) (m : BitVec 5)
  /-- R148. Spindle bitwise OR. -/
  | or (sp : BitVec 6) (d a b : BitVec 7) (m : BitVec 5)
  /-- R148. Spindle bitwise XOR. -/
  | xor (sp : BitVec 6) (d a b : BitVec 7) (m : BitVec 5)
  /-- R148. Spindle funnel shift right over two words. -/
  | fsr (sp : BitVec 6) (d a b : BitVec 7) (m : BitVec 5)
  /-- R148. Spindle bit test into the E flag. -/
  | bit (sp : BitVec 6) (d a b : BitVec 7) (m : BitVec 5)
  /-- R148. Spindle word move. -/
  | mov (sp : BitVec 6) (d a b : BitVec 7) (m : BitVec 5)
  /-- R148. Spindle word clear. -/
  | clr (sp : BitVec 6) (d a b : BitVec 7) (m : BitVec 5)
  /-- R148. Spindle load of a 12-bit immediate. -/
  | ldi (sp : BitVec 6) (d : BitVec 7) (imm : BitVec 12)
  /-- R148. Spindle write of a word to the output latch. -/
  | outw (sp : BitVec 6) (d a b : BitVec 7) (m : BitVec 5)
  /-- R148. Spindle 256 by 256 multiply into the accumulator. -/
  | mul (sp : BitVec 6) (d a b : BitVec 7) (m : BitVec 5)
  /-- R148. Spindle 256 by 256 multiply-accumulate. -/
  | mac (sp : BitVec 6) (d a b : BitVec 7) (m : BitVec 5)
  /-- R148. Spindle 256 by 64 multiply into the accumulator. -/
  | mull (sp : BitVec 6) (d a b : BitVec 7) (m : BitVec 5)
  /-- R148. Spindle 256 by 64 multiply-accumulate. -/
  | macl (sp : BitVec 6) (d a b : BitVec 7) (m : BitVec 5)
  /-- R148. Spindle load of the accumulator. -/
  | accld (sp : BitVec 6) (d a b : BitVec 7) (m : BitVec 5)
  /-- R148. Spindle addition of a word to the accumulator. -/
  | accadd (sp : BitVec 6) (d a b : BitVec 7) (m : BitVec 5)
  /-- R148. Spindle right shift of the accumulator. -/
  | accsh (sp : BitVec 6) (d a b : BitVec 7) (m : BitVec 5)
  /-- R148. Spindle read of the accumulator's low word. -/
  | acclo (sp : BitVec 6) (d a b : BitVec 7) (m : BitVec 5)
  /-- R148. Spindle read of the accumulator's high word. -/
  | acchi (sp : BitVec 6) (d a b : BitVec 7) (m : BitVec 5)
  /-- R148. Spindle read of the accumulator's top 64 bits. -/
  | accx (sp : BitVec 6) (d a b : BitVec 7) (m : BitVec 5)
  /-- R148. Spindle set of a loop counter. -/
  | setlc (sp : BitVec 6) (n : BitVec 2) (imm : BitVec 16)
  /-- R148. Spindle decrement of a loop counter and branch. -/
  | loop (sp : BitVec 6) (n : BitVec 2) (imm : BitVec 16)
  /-- R148. Spindle set of an index register. -/
  | setix (sp : BitVec 6) (n : BitVec 2) (imm : BitVec 16)
  /-- R148. Spindle addition to an index register. -/
  | addix (sp : BitVec 6) (n : BitVec 2) (imm : BitVec 16)
  /-- R148. Spindle jump. -/
  | jmp (sp : BitVec 6) (n : BitVec 2) (imm : BitVec 16)
  /-- R148. Spindle call, which faults on a fifth nested call. -/
  | call (sp : BitVec 6) (n : BitVec 2) (imm : BitVec 16)
  /-- R148. Spindle return, which faults on an empty stack. -/
  | ret (sp : BitVec 6) (n : BitVec 2) (imm : BitVec 16)
  /-- R148. Spindle end of program, setting the job status. -/
  | halt (sp : BitVec 6) (n : BitVec 2) (imm : BitVec 16)
  /-- R148. Spindle load of an entropy word, or of zero on a verify spindle. -/
  | rnd (sp : BitVec 6) (d a b : BitVec 7) (m : BitVec 5)
  /-- R148. Spindle load of a key operand word, or of zero on a verify spindle. -/
  | key (sp : BitVec 6) (d a b : BitVec 7) (m : BitVec 5)
  /-- R151. An undefined instruction code, or a fetch outside the allowed program memory, faults the job. -/
  | spindleUndefinedCode (sp : BitVec 6) (word : BitVec 32)
  /-- R33. Doorbell write of a new submission tail, checked for epoch and range; `upper` is the other half of a 64-bit
  write, the completion head, which follows (R34). -/
  | doorbellSqTail (q : QId) (v : BitVec 32) (upper : Option (BitVec 32) := none)
  /-- R33. Doorbell write of a new completion head, checked for epoch and range. -/
  | doorbellCqHead (q : QId) (v : BitVec 32)
  /-- R276. A head BAR4 doorbell write is forwarded on VC 0, or discarded for an unreachable node. -/
  | bar4DoorbellWrite (addr : BitVec 24) (v : BitVec 32)
  /-- R29. A write of EN in GCTL_CTL enables or stops packet fetch. -/
  | gctlEnWrite (en : Bool)
  /-- R62. A write of 1 to AQ_RESET resets queue 0 by steps 1 to 6. -/
  | aqReset
  /-- R29. A write of 1 to EVT_TEST sends one message on the event vector. -/
  | evtTest
  /-- R130. A write of EN in JRNL_CFG starts or stops journal ring writes; held records are written when EN is set. -/
  | jrnlEnWrite (en : Bool)
  /-- R246. A write of 1 to CLEAR zeroes the selected arbiter's counters. -/
  | arbCounterClear
  /-- R247. A write of 1 to STARVE clears a requester's starvation flag. -/
  | starveClear
  /-- R252. A write of 1 to SWAP requests a memory slot table swap at the next frame boundary. -/
  | msSwapRequest
  /-- R275. A write of 1 to SWAP_E requests an East bandwidth table swap at the next revolution. -/
  | swapE
  /-- R275. A write of 1 to SWAP_W requests a West bandwidth table swap at the next revolution. -/
  | swapW
  /-- R267. A write of EN in SKN_CTL lets the Skein ports train and form the ring. -/
  | sknEnWrite (en : Bool)
  /-- R393. A write of DOZE in PWR_CTL requests DOZE, or a write of 0 ends it. -/
  | dozeRequest (doze : Bool)
  /-- R398. PWR_CMD op 1 drains, flushes and resets the data-plane units and reloads the pool records. -/
  | dataPlaneReset (key : BitVec 16)
  /-- R369. PWR_CMD op 2 resets the MSS without affecting the other planes. -/
  | mssReset (key : BitVec 16)
  /-- R8. A write to a register field that has no row of its own, under its access code. -/
  | registerWrite (addr : BitVec 20) (nbytes : Nat) (v : BitVec 32)
  /-- R30. A read of DB_ERR_Q returns COUNT and clears it. -/
  | dbErrQRead (nbytes : Nat := 4)
  /-- R103. A read of LEDGER_REFUSED returns its count and clears it. -/
  | ledgerRefusedRead (nbytes : Nat := 4)
  /-- R142. A read of REG_STASH clears the HIGH mark. -/
  | regStashRead (nbytes : Nat := 4)
  /-- R142. A read of REG_OPS returns its count and clears it. -/
  | regOpsRead (nbytes : Nat := 4)
  /-- R173. A read of SPN_JOBS returns the job count and clears it. -/
  | spnJobsRead (nbytes : Nat := 4)
  /-- R173. A read of SPN_EVENTS clears all four event counts. -/
  | spnEventsRead (nbytes : Nat := 4)
  /-- R199. A read of SEAL_MISS returns the miss count and clears it. -/
  | sealMissRead (nbytes : Nat := 4)
  /-- R199. A read of SEAL_EVT clears its three counts. -/
  | sealEvtRead (nbytes : Nat := 4)
  /-- R212. A read of DIG_EVT clears both counts. -/
  | digEvtRead (nbytes : Nat := 4)
  /-- R212. A read of DIG_UTIL returns the busy cycles and clears them. -/
  | digUtilRead (nbytes : Nat := 4)
  /-- R241. A read of KS_EVT clears its four counts. -/
  | ksEvtRead (nbytes : Nat := 4)
  /-- R263. A read of ARB_WDOG_CNT returns the watchdog firings and clears them. -/
  | arbWdogCntRead (nbytes : Nat := 4)
  /-- R264. A read of MS_ECC returns the correction count and clears it. -/
  | msEccRead (nbytes : Nat := 4)
  /-- R292. A read of SKN_CENSUS clears its census counts. -/
  | sknCensusRead (nbytes : Nat := 4)
  /-- R346. A read of TMP_COUNT returns the alarm count and clears it. -/
  | tmpCountRead (nbytes : Nat := 4)
  /-- R346. A read of TMP_TEST clears the count of failed tests. -/
  | tmpTestRead (nbytes : Nat := 4)
  /-- R387. A read of CARD_ERRS clears both counts. -/
  | cardErrsRead (nbytes : Nat := 4)
  /-- R404. A read of PWR_DOZE_CNT returns the DOZE entry count and clears it. -/
  | pwrDozeCntRead (nbytes : Nat := 4)
  /-- R29. A read of GCTL_CYCLE_LO latches the high half for the next read. -/
  | gctlCycleLoRead (nbytes : Nat := 4)
  /-- R103. A read of a ledger _LO register latches its _HI register. -/
  | ledgerLoRead (which : LedgerLo) (nbytes : Nat := 4)
  /-- R142. A read of a register-block _LO register latches its _HI register. -/
  | regLoRead (which : RegLo) (nbytes : Nat := 4)
  /-- R199. A read of a seal _LO register latches its _HI register. -/
  | sealLoRead (which : SealLo) (nbytes : Nat := 4)
  /-- R212. A read of a digest _LO register latches its _HI register. -/
  | digLoRead (nbytes : Nat := 4)
  /-- R36. A host fetch arbiter grant reads up to 8 packets from a ready queue after reserving completion slots. -/
  | packetFetch (q : QId) (ring : List Packet)
  /-- R47. A packet that lands, or whose FENCE or chain wait ends, is decoded and checked. -/
  | packetDecode (q : QId)
  /-- R57. A decoded packet is granted to a fast-path sequencer or to a command core of its slice's set. -/
  | dispatch (q : QId)
  /-- R50. Data of a host memory read arrive, or the read fails with STATUS_HOST_MEMORY_ERROR. -/
  | hostReadCompletion (q : QId) (tag : BitVec 32) (r : ReadResult)
  /-- R59. The coalescing time of the first waiting reply expires and the queue's MSI-X message is sent. -/
  | coalescingTimeout (q : QId)
  /-- R62. The last dispatched packet of a resetting queue posts its reply, and the reset continues at step 4. -/
  | queueDrainEnd (q : QId)
  /-- R25. The function enters D3hot and stops fetching and accepting doorbells. -/
  | d3hotEntry
  /-- R25. The function returns to D0 and posts its held writes in completion order. -/
  | d3hotExit
  /-- R61. Real time catches up with a slewed device time, which advances again. -/
  | timeSlewEnd
  /-- R243. An arbiter grants a parked or new request by weighted round robin. -/
  | arbiterGrant (arb : BitVec 6) (arrivals : List Nat) (accept : Bool)
  /-- R247. A parked request's wait reaches its threshold plus 1 and sets STARVE. -/
  | starvationFlag (arb : BitVec 6) (req : Nat)
  /-- R248. A port watchdog reaches its limit and resets the port, ending the command. -/
  | watchdogFire (w : Stuck)
  /-- R92. A commit period ends and closes the open group into a commit record. -/
  | commitBoundary
  /-- R17. A waiting FeRAM record takes the commit unit at its first free cycle, in the order of R17. -/
  | commitUnitTake
  /-- R94. The bank 0 write of a FeRAM record completes and the bank 1 write begins. -/
  | commitBank0Written
  /-- R94. Bank 1 completes, the record is durable and its held replies and waiting commands proceed. -/
  | commitDurable
  /-- R228. A generation-table write becomes durable and takes effect in the key store. -/
  | genTableWriteDurable
  /-- R135. A checkpoint root record becomes durable. -/
  | checkpointRootDurable
  /-- R128. Journal room appears and a waiting forced record is chained with its change. -/
  | forcedRecordRoom
  /-- R86. A lock's lease runs out; the lock ends, its units return and LOCK_LAPSED is set. -/
  | lockLapse (pool : PoolId)
  /-- R113. The register engine accepts an operation and forms its bucket numbers. -/
  | registerOperation (op : RegOp)
  /-- R254. An operation's bucket read pair begins in its memory slot, and the entry is compared and updated. -/
  | registerReadPair (r : EccResult)
  /-- R112. A buffered bucket is written back to DRAM in a free slot position. -/
  | registerWriteBack
  /-- R132. A change to an unsealed snapshot unit first copies its pre-image into the staging area. -/
  | checkpointStagingCopy (unit : Nat)
  /-- R135. The last checkpoint leaf and parent are hashed and the root record requests the commit unit. -/
  | checkpointRootFormed
  /-- R150. A spindle job's occupancy ends and its output latch is read out. -/
  | spindleJobEnd (sp : BitVec 6) (glitch : BitVec 512)
  /-- R158. A signing job at a 1,024-cycle yield point yields to a shorter pending job. -/
  | yieldPoint (sp : BitVec 6)
  /-- R158. The 16-cycle save of a yielded job ends and the pending job starts. -/
  | shadowSaveEnd (sp : BitVec 6)
  /-- R158. The 16-cycle restore ends and the yielded job resumes. -/
  | shadowRestoreEnd (sp : BitVec 6)
  /-- R157. A spindle's known-answer test ends, returning the spindle to service or leaving it out. -/
  | knownAnswerTestEnd (sp : BitVec 6) (pass : Bool)
  /-- R234. A signing spindle's entropy buffer is refilled between jobs. -/
  | entropyBufferRefill (sp : BitVec 6)
  /-- R192. A block enters the SM4 pipeline on a seal admission grant. -/
  | sealBlockAdmit (ctx : Nat)
  /-- R193. A block leaves the pipeline; its ciphertext is written and GHASH absorbs it. -/
  | sealBlockOut
  /-- R193. The length block is absorbed and the tag is formed or compared. -/
  | sealTagFormed (ctx : Nat)
  /-- R179. A context record fill completes after a cache miss. -/
  | contextCacheFill (ctx : Nat) (r : EccResult)
  /-- R200. The compression unit finishes absorbing one block into a context. -/
  | digestBlockDone (ctx : BitVec 6)
  /-- R222. The sweep re-masks and checks a key slot and, with it, a domain key table entry. -/
  | sweepVisit
  /-- R235. A health test fails; the generator restarts, and after three failures the source leaves service. -/
  | entropyHealthFail (source : BitVec 1) (test : BitVec 8)
  /-- R233. The generator reseeds after 65,536 outputs. -/
  | entropyReseed
  /-- R253. At a frame boundary the live slot table takes the shadow, or the swap is refused. -/
  | memoryTableSwap
  /-- R255. The scrub reads a DRAM unit and counts corrections. -/
  | scrubRead (row : BitVec 20) (r : EccResult)
  /-- R255. A row with three corrections is copied into a spare row. -/
  | rowSpare (row : BitVec 20)
  /-- R255. A spare-row copy completes. -/
  | rowSpareDone (row : BitVec 20)
  /-- R268. A Skein port reaches block lock and forms its link key. -/
  | skeinTrainingDone (port : Port) (peerSerial : BitVec 64) (peerNonce : BitVec 128)
  /-- R274. After training, the two sides exchange counters, reset credits and replay groups. -/
  | skeinReconciliation (port : Port) (peer : List PeerCount)
  /-- R269. A Skein group arrives and is tag-checked, or discarded and replayed. -/
  | skeinGroupReceive (port : Port) (gseq : BitVec 32) (cipher : Bytes) (tag : Bytes)
  /-- R269. A link failure takes the port out of service and reroutes its packets. -/
  | skeinLinkFailure (port : Port) (cause : LinkFault)
  /-- R272. A packet arrives and is accepted in seq order, buffered or discarded. -/
  | skeinPacketReceive (port : Port) (p : SkPacket)
  /-- R271. A transit node sends on a packet 80 PCS cycles after it arrives. -/
  | skeinForward (port : Port)
  /-- R274. Every 1 ms the head sends a census marker, and each link checks its credit equations. -/
  | censusMarker (port : Port) (peer : List PeerCount)
  /-- R267. The head sends enumeration packets and the ring or chain is formed. -/
  | ringEnumeration (returned : Bool) (reach : BitVec 7) (secondHead : Option Port)
  /-- R266. A device presents its serial and is joined, refused or held as a candidate. -/
  | memberJoin (serial : BitVec 64) (number : BitVec 6) (kcv : BitVec 32)
  /-- R290. A port in DOZE sends its 1 ms heartbeat. -/
  | heartbeat (port : Port)
  /-- R290. A port in DOZE returns to full rate for a packet that must cross it. -/
  | lowRateReturn (port : Port)
  /-- R275. At a revolution boundary the bandwidth table takes the shadow, or the swap is refused. -/
  | bwTableSwap (port : Port)
  /-- R277. The head carries a member's host read, write or journal record to the host. -/
  | skeinRemoteHostAccess (node : BitVec 6) (a : HostAccess)
  /-- R280. The owning node receives a routed register command and runs it. -/
  | routedCommand (src : BitVec 6) (tag : BitVec 32) (c : Cmd)
  /-- R280. The forwarding node receives the reply and posts it on the original queue. -/
  | routedReply (tag : BitVec 32) (r : RouteReply)
  /-- R281. No reply arrives within SKN_TIMEOUT and the command completes with STATUS_NODE_UNREACHABLE. -/
  | routedTimeout (tag : BitVec 32)
  /-- R284. A receiver gets a TRANSFER packet and imports it, or refuses it. -/
  | transferReceive (src : BitVec 6) (id : BitVec 64) (dom : Dom) (pool : PoolId) (n : BitVec 32)
  /-- R284. The sender gets ACCEPT or REFUSE and completes the transfer or cancels it. -/
  | transferAnswer (id : BitVec 64) (refused : Option (BitVec 16))
  /-- R285. No answer arrives within SKN_TIMEOUT and the transfer goes to DOUBT. -/
  | transferTimeout (id : BitVec 64)
  /-- R284. The receiver gets DONE, frees its record and chains CLOSE. -/
  | transferDoneReceive (id : BitVec 64)
  /-- R285. The receiver answers QUERY with IMPORTED, or writes a tombstone and answers NONE. -/
  | transferQueryReceive (src : BitVec 6) (id : BitVec 64)
  /-- R285. The sender gets IMPORTED or NONE and completes or cancels the transfer. -/
  | reconcileAnswer (id : BitVec 64) (imported : Bool)
  /-- R282. Each member switches to a stored partition map at one census marker. -/
  | mapSwitch
  /-- R288. A member becomes unreachable from the head; its queues end and its locks are released. -/
  | memberUnreachable (node : BitVec 6)
  /-- R289. A member becomes reachable again, writes its waiting records and rejoins. -/
  | memberRejoin (node : BitVec 6)
  /-- R373. A filtered and stable CARD_DET# change is accepted as an insertion or a removal. -/
  | cardDetectChange (media : Option Media)
  /-- R372. The 1 ms retry of CMD1 repeats until the card reports ready. -/
  | cardCmd1Retry (ready : Bool)
  /-- R374. The card releases CARD_DAT0 after a write, and the slot sends CMD13 and continues. -/
  | cardBusyEnd (status : BitVec 32)
  /-- R373. Busy lasts beyond BUSY_MS and the slot treats the card as removed. -/
  | cardBusyTimeout
  /-- R373. A read returns no data within 100 ms and the slot treats the card as removed. -/
  | cardReadTimeout
  /-- R324. A monitor alarm reaches the controller, is logged, and starts or escalates a response. -/
  | tamperAlarm (src : BitVec 5) (detail : Byte)
  /-- R327. The clears of aborted key operations end, HOLD completes, and the STRIP steps follow. -/
  | tamperClearsEnd
  /-- R327. Under STRIP, slots, keys, contexts and operand memories are erased 64 cycles after the freeze. -/
  | secretsErase
  /-- R327. Under SCOUR, the 800-cycle clear pulse erasing the root shares and the mnonce ends. -/
  | bbramClearPulseEnd
  /-- R327. At the first frame boundary the context store wipe begins and WIPING is set. -/
  | contextStoreWipeBegin
  /-- R327. The wipe ends, slot 1 is erased, the DRAM enters self-refresh and the response completes. -/
  | contextStoreWipeEnd
  /-- R329. The hold_dwell time passes with no HOLD-level source active, and the release tests begin. -/
  | holdSelfRelease
  /-- R332. The periodic test period expires and the MSS tests the next monitor source. -/
  | builtInTestStart
  /-- R332. A source's 64 µs suppression ends; the source is evaluated again and the result logged. -/
  | builtInTestEnd (pass : Bool)
  /-- R335. On backup alone a watched source stores an event, and a SCOUR source erases the shares. -/
  | backupAlarm (src : BitVec 5) (detail : Byte)
  /-- R341. 100,000 mcyc after the reply, the planes reset and start up in the new life-cycle state. -/
  | lifecyclePlaneReset
  /-- R389. VDD_MSS falls below 0.70 V and asserts power-on reset. -/
  | por
  /-- R389. POR is released 64 aot after VDD_MSS rises, and start-up begins. -/
  | porRelease (sknHead v18 : Bool)
  /-- R389. A plane rail leaves its window and resets the planes as SYS_RST# does. -/
  | planeSupplyReset
  /-- R396. A filtered SYS_RST# resets the control and data planes, the Skein ports and the card slot. -/
  | sysRst
  /-- R63. A filtered PERST# ends every queue without a reply, releases locks and clears journal EN. -/
  | perst
  /-- R399. PERST# rises and link training begins once POR has released. -/
  | perstRelease
  /-- R63. Function Level Reset acts as PERST# without retraining the link. -/
  | functionLevelReset
  /-- R98. Main power fails; the device is left with its durable state and runs on backup. -/
  | powerFailure (vholdInSpec cellPresent : Bool)
  /-- R308. The VHOLD comparator trips; no new FeRAM or flash write starts. -/
  | vholdTrip
  /-- R308. The comparator releases and waiting records may start. -/
  | vholdRelease
  /-- R308. VHOLD reaches 5.0 V and the keeper die is held in reset. -/
  | commitDomainStop
  /-- R311. The commit domain powers up from VHOLD and recall runs. -/
  | commitDomainPowerUp
  /-- R396. The MSS watchdog fires after 100,000,000 mcyc without service and resets the MSS. -/
  | mssWatchdog
  /-- R391. 2,500 reference cycles after a PLL starts, its output is used, or its monitor fires. -/
  | pllStartCheck (pll : Pll) (locked : Bool)
  /-- R400. Start-up stage 3: the entropy start-up tests and the spindle known-answer tests end. -/
  | entropyStartupTestsEnd (entropyOk : Bool) (kats : BitVec 40)
  /-- R311. A recall stage ends and the next begins. -/
  | recallStageEnd
  /-- R311. Recall ends, RECALL clears and the held event posts are written. -/
  | recallEnd
  /-- R348. The MSS ROM checks and boots an MSS image, falling back to the other bank or to ROM-only mode. -/
  | mssBoot
  /-- R214. Start-up stage 7 derives the root, the mnonce and the memory keys into slots 0 and 1. -/
  | rootDerive
  /-- R400. DRAM training completes and integrity initialisation begins. -/
  | dramTrainingEnd (trained : Bool)
  /-- R400. Integrity initialisation of the whole DRAM completes. -/
  | dramInitEnd
  /-- R362. The control-plane image is checked and loaded into sets A and B. -/
  | controlPlaneBoot
  /-- R219. The archive is loaded into the reserved slots and FPK_SLOT is set. -/
  | archiveLoad
  /-- R99. The commit rings are scanned, the pools are rebuilt or REBUILDING is set, and the recovery group is committed. -/
  | ledgerRecovery
  /-- R400. READY is set in GCTL_STAT and logged. -/
  | startupReady
  /-- R393. All DOZE conditions hold; fetch stops, the DRAM self-refreshes and the PLLs stop at a frame boundary. -/
  | dozeEntry
  /-- R394. A wake source restarts the PLLs to leave DOZE. -/
  | dozeWake (src : WakeSrc)
  /-- R394. The DRAM leaves self-refresh, held writes are applied, fetch resumes and the device is ACTIVE. -/
  | dozeWakeEnd
  /-- R398. Dispatched commands finish and the data-plane reset flushes, resets and reloads; `bad` names a pool whose record in DRAM
  fails its integrity check (R12). -/
  | dataPlaneDrainEnd (bad : Option PoolId := none)
  /-- R366. Every core of the draining set becomes idle, and that set is checked and loaded. -/
  | handoverSetIdle
  /-- R366. A set finishes loading its image, and slices move or the handover fails over. -/
  | handoverSetLoaded
  /-- R368. The rebooted MSS reports its bank and the FW_ACTIVATE reply is posted. -/
  | mssRebootDone
  /-- R351. A complete management message arrives over MCTP on SMBus. -/
  | smbusMessage (msg : Bytes)
  /-- R350. An MCTP control message is answered. -/
  | mctpControlMessage (msg : Bytes)
  /-- R350. A message whose packets do not all arrive within 100 ms is discarded. -/
  | mctpReassemblyTimeout
  /-- R415. SMB_SCL is held low beyond tTIMEOUT and the port is reset. -/
  | smbusTimeout
  /-- R352. A service port command frame arrives and is checked. -/
  | spiCommandFrame (frame : Bytes)
  /-- R353. A poll frame returns not-ready, a reply frame or a frame-error frame. -/
  | spiPollFrame
  /-- R416. A change of SVC_EN during a frame ends the frame and discards it. -/
  | svcEnChange (level frameOpen : Bool)
  /-- R349. The idle MSS takes the next management command from arbiter 26 or from a host queue. -/
  | managementCommandTake
  /-- R356. Every 100,000 mcyc the MSS samples every sensor and logs crossings of the warning limits. -/
  | sensorSample (readings : List (BitVec 16))
  /-- R360. A posted event record is written to the event log in order of posting. -/
  | eventLogWrite
  /-- R336. When the MSS runs, it posts the BBRAM event store records and empties the store. -/
  | backupStorePost
  /-- R304. The record controller starts writing one frame, suspending any erase. -/
  | flashFrameWrite (f : FlashReq)
  /-- R304. A page program of a frame completes and the next page or the marker program starts. -/
  | flashPageProgramDone (verified : Bool)
  /-- R304. The marker program completes and the frame becomes valid. -/
  | flashMarkerDone
  /-- R305. An area short of blank sectors copies the live frames of its oldest sector and erases it. -/
  | flashSectorReclaim (area : FlashArea)
  /-- R305. A sector erase completes, is blank-checked and gets its header. -/
  | flashEraseDone (blank : Bool)
  /-- R298. An MSS configuration or wear-ring record is queued for the commit unit. -/
  | mssFeramRecord (off : BitVec 19) (bytes : Bytes)
  /-- R299. Every 60 s, wear ring 1 is written with the operating minutes. -/
  | operatingTimeTick
  /-- R299. Every 64 s, wear ring 2 is written with the time floor. -/
  | timeFloorTick
  /-- R314. Every 8,192 mcyc a FeRAM page of each bank is read at margin and repaired if needed. -/
  | feramScrub (r : FeScrub)
  /-- R315. Every 84.375 s a flash sector is read at margin and relocated if weak. -/
  | flashScrub (weak : Bool)
  /-- R400. SYS_RST# rises after its filter and the planes start up from stage 6, with SKN_HEAD sampled. -/
  | sysRstRelease (sknHead : Bool)
  /-- R389. 64 aot after every plane rail has stayed inside its window, the plane supply reset is released and a SYS_RST# start-up begins. -/
  | planeSupplyResetRelease (sknHead : Bool)
  /-- R328. A monitor source's trip condition stops holding; TMP_ACTIVE and RELEASABLE change and the HOLD release dwell starts once no HOLD-level source is active. -/
  | sourceInactive (src : BitVec 5)
  /-- R392. After 16 cyc with no request, a unit's clock is gated and the unit enters IDLE. -/
  | idleEntry (unit : Byte)
  /-- R373. A card read returns its data block, which is CRC-checked; a CRC error is treated as a removal. -/
  | cardReadData (crcOk : Bool)
  /-- R179. An evicted context record is written back to the context store in seal-slot positions that fills leave free. -/
  | sealContextWriteBack
  /-- R65. A pool record change is written through to the DRAM pool table in a ledger memory slot. -/
  | poolTableWriteThrough (pool : PoolId)
  /-- R235. After a health-test failure, the restarted noise sources finish their start-up tests and the generator is seeded again. -/
  | entropyRestartTestsEnd (pass : Bool)
  deriving DecidableEq, Repr

end Sys2Proof
end

