-- ==== Sys2Proof/Decode.lean ====
section
/-! DEFINITION. Reading a command packet: its fields by byte number (R41 to R43), a packet from its 64 bytes, and the word
decoder the host asks for. -/

namespace Sys2Proof

open Sys2Proof.Machine

/-- Whether a packet carries FENCE, LOCKED, CHAIN, NOTIFY (R43). -/
def Packet.fence (p : Packet) : Bool := p.flags.getLsbD 0
def Packet.locked (p : Packet) : Bool := p.flags.getLsbD 1
def Packet.chain (p : Packet) : Bool := p.flags.getLsbD 2
def Packet.notify (p : Packet) : Bool := p.flags.getLsbD 3

/-- A byte of the packet, by its number in the packet, from 32 upward (R41). -/
def Packet.byteAt (p : Packet) (k : Nat) : Byte := p.inl.extractLsb' (8 * (k - 32)) 8

/-- A little-endian field of the inline parameters (R41). -/
def Packet.field (p : Packet) (k n : Nat) : Nat := bitsAt p.inl.toNat (8 * (k - 32)) (8 * n)

/-- `out_ptr`, bytes 56 to 63 (R41). -/
def Packet.outPtr (p : Packet) : BitVec 64 := p.inl.extractLsb' 192 64

/-- The usage mask at bytes 34 and 35. -/
def Packet.usage (p : Packet) : BitVec 16 := BitVec.ofNat 16 (p.field 34 2)

/-- The byte that tells the ops of an opcode apart: byte 32, but for `KEY_WRAP`, whose op 1 carries its key type there (R238) and
whose op byte the manual does not place: the flags byte of R237's positions, which it leaves free (DESIGN CHOICE,
notes/assumptions/14.md). -/
def opByte (op : BitVec 16) : Nat := if op = 0x0703 then 38 else 32

/-- The packet with an inline byte set. -/
def Packet.setByte (p : Packet) (k : Nat) (b : Byte) : Packet :=
  { p with inl := (p.inl &&& ~~~(0xFF#256 <<< (8 * (k - 32)))) ||| (b.setWidth 256 <<< (8 * (k - 32))) }

/-- A handle's type and index (R42). -/
def hType (h : BitVec 32) : Byte := h.extractLsb' 24 8
def hIndex (h : BitVec 32) : Nat := (h.extractLsb' 0 24).toNat

/-- The packet that 64 bytes spell (R7, R41). -/
def packetOf (bs : Bytes) : Packet :=
  { opcode := BitVec.ofNat 16 (leAt bs 0 2), flags := BitVec.ofNat 16 (leAt bs 2 2), tag := BitVec.ofNat 32 (leAt bs 4 4)
    handleA := BitVec.ofNat 32 (leAt bs 8 4), handleB := BitVec.ofNat 32 (leAt bs 12 4)
    dataPtr := BitVec.ofNat 64 (leAt bs 16 8), dataLen := BitVec.ofNat 32 (leAt bs 24 4)
    outLen := BitVec.ofNat 32 (leAt bs 28 4), inl := BitVec.ofNat 256 (leAt bs 32 32) }

/-! ## Spindle instruction words (R147, R148) -/

/-- The instruction that a 32-bit word is on a spindle: the code at [31:26]; format A has D at [25:19], A at [18:12], B at [11:5] and M at
[4:0], format I an immediate at [18:7], format C N at [25:24] and an immediate at [15:0]. A code that is not listed is undefined. -/
def spindleInstr (sp : BitVec 6) (w : BitVec 32) : Instr :=
  let d := w.extractLsb' 19 7
  let a := w.extractLsb' 12 7
  let b := w.extractLsb' 5 7
  let m := w.extractLsb' 0 5
  let n := w.extractLsb' 24 2
  let imm := w.extractLsb' 0 16
  match (w.extractLsb' 26 6).toNat with
  | 0x00 => .spindleNop sp d a b m
  | 0x01 => .add sp d a b m
  | 0x02 => .addc sp d a b m
  | 0x03 => .sub sp d a b m
  | 0x04 => .subc sp d a b m
  | 0x05 => .cmp sp d a b m
  | 0x06 => .sel sp d a b m
  | 0x07 => .and sp d a b m
  | 0x08 => .or sp d a b m
  | 0x09 => .xor sp d a b m
  | 0x0A => .fsr sp d a b m
  | 0x0B => .bit sp d a b m
  | 0x0C => .mov sp d a b m
  | 0x0D => .clr sp d a b m
  | 0x0E => .ldi sp d (w.extractLsb' 7 12)
  | 0x0F => .outw sp d a b m
  | 0x10 => .mul sp d a b m
  | 0x11 => .mac sp d a b m
  | 0x12 => .mull sp d a b m
  | 0x13 => .macl sp d a b m
  | 0x14 => .accld sp d a b m
  | 0x15 => .accadd sp d a b m
  | 0x16 => .accsh sp d a b m
  | 0x17 => .acclo sp d a b m
  | 0x18 => .acchi sp d a b m
  | 0x19 => .accx sp d a b m
  | 0x20 => .setlc sp n imm
  | 0x21 => .loop sp n imm
  | 0x22 => .setix sp n imm
  | 0x23 => .addix sp n imm
  | 0x24 => .jmp sp n imm
  | 0x25 => .call sp n imm
  | 0x26 => .ret sp n imm
  | 0x27 => .halt sp n imm
  | 0x28 => .rnd sp d a b m
  | 0x29 => .key sp d a b m
  | _ => .spindleUndefinedCode sp w

/-- A word whose code R148 lists. -/
def spindleDefined (w : BitVec 32) : Bool :=
  match spindleInstr 0 w with
  | .spindleUndefinedCode .. => false
  | _ => true

/-- A word of format A, and one of format C with its reserved bits 0 (R147). -/
def formatA (code : BitVec 6) (d a b : BitVec 7) (m : BitVec 5) : BitVec 32 := code ++ d ++ a ++ b ++ m
def formatC (code : BitVec 6) (n : BitVec 2) (imm : BitVec 16) : BitVec 32 := code ++ n ++ 0#8 ++ imm

/-- The word of a spindle instruction, its reserved bits 0; none for what is no spindle instruction. -/
def spindleWord (i : Instr) : Option (BitVec 32) :=
  match i with
  | .spindleNop _ d a b m => some (formatA 0x00 d a b m)
  | .add _ d a b m => some (formatA 0x01 d a b m)
  | .addc _ d a b m => some (formatA 0x02 d a b m)
  | .sub _ d a b m => some (formatA 0x03 d a b m)
  | .subc _ d a b m => some (formatA 0x04 d a b m)
  | .cmp _ d a b m => some (formatA 0x05 d a b m)
  | .sel _ d a b m => some (formatA 0x06 d a b m)
  | .and _ d a b m => some (formatA 0x07 d a b m)
  | .or _ d a b m => some (formatA 0x08 d a b m)
  | .xor _ d a b m => some (formatA 0x09 d a b m)
  | .fsr _ d a b m => some (formatA 0x0A d a b m)
  | .bit _ d a b m => some (formatA 0x0B d a b m)
  | .mov _ d a b m => some (formatA 0x0C d a b m)
  | .clr _ d a b m => some (formatA 0x0D d a b m)
  | .outw _ d a b m => some (formatA 0x0F d a b m)
  | .mul _ d a b m => some (formatA 0x10 d a b m)
  | .mac _ d a b m => some (formatA 0x11 d a b m)
  | .mull _ d a b m => some (formatA 0x12 d a b m)
  | .macl _ d a b m => some (formatA 0x13 d a b m)
  | .accld _ d a b m => some (formatA 0x14 d a b m)
  | .accadd _ d a b m => some (formatA 0x15 d a b m)
  | .accsh _ d a b m => some (formatA 0x16 d a b m)
  | .acclo _ d a b m => some (formatA 0x17 d a b m)
  | .acchi _ d a b m => some (formatA 0x18 d a b m)
  | .accx _ d a b m => some (formatA 0x19 d a b m)
  | .rnd _ d a b m => some (formatA 0x28 d a b m)
  | .key _ d a b m => some (formatA 0x29 d a b m)
  | .ldi _ d imm => some (0x0E#6 ++ d ++ imm ++ 0#7)
  | .setlc _ n imm => some (formatC 0x20 n imm)
  | .loop _ n imm => some (formatC 0x21 n imm)
  | .setix _ n imm => some (formatC 0x22 n imm)
  | .addix _ n imm => some (formatC 0x23 n imm)
  | .jmp _ n imm => some (formatC 0x24 n imm)
  | .call _ n imm => some (formatC 0x25 n imm)
  | .ret _ n imm => some (formatC 0x26 n imm)
  | .halt _ n imm => some (formatC 0x27 n imm)
  | .spindleUndefinedCode _ w => if spindleDefined w then none else some w
  | _ => none

/-- The command a word spells by the bits of the table of operations: the table gives no row any bits, so none. -/
def decodeTableWord (_nbits _w : Nat) : Option Instr := none

end Sys2Proof
end

