-- ==== Sys2Proof/Config.lean ====
section
/-! DEFINITION. What one device fixes, and the values the manual leaves free. Every constant here is opaque: no proof can
see a value, so a statement holds whatever it is. -/

namespace Sys2Proof.Config

/-- The 64-bit device serial, fused (R29). -/
opaque serial : BitVec 64

/-- The fuse share F, programmed from the entropy source (R214). -/
opaque fuseShare : BitVec 256

/-- The ordering code is RZ7740-AF or -AF-T, not -CF or -CF-T (R2). -/
opaque isAF : Bool

/-- The 256-bit words the entropy source delivers, by draw (R233). FREE VALUE: the manual gives no value of one; the key store
counts the draws (notes/assumptions/5.md). -/
opaque entropy : Nat → BitVec 256

/-- The share S1 a slot or domain key table entry is written with, by the count of entropy draws (R220). FREE VALUE: only the
exclusive or of the shares is ever used (notes/assumptions/5.md). -/
opaque mask : Nat → BitVec 512

/-- x ‖ y of the firmware image key of slot 6, in mask ROM (R219), and its Z (R361). -/
opaque imageKey : BitVec 512
opaque imageKeyZ : BitVec 256

/-- x ‖ y of the vendor service key, in mask ROM (R340), and its Z. -/
opaque vendorKey : BitVec 512
opaque vendorKeyZ : BitVec 256

/-- The width and the rate a PCI Express training ends at, each one of the four of R24, in rising order: x1, x2, x4, x8 and 2.5, 5, 8,
16 GT/s. -/
opaque trainedWidth : Fin 4
opaque trainedRate : Fin 4

/-- The lanes and the rate code of R426 that stand for them. -/
def linkWidth : Nat := 2 ^ trainedWidth.val
def linkRate : Nat := trainedRate.val + 1

/-- VDD_CARD is 1.8 V (R371). -/
opaque cardV18 : Bool

/-- The spindle ROM (R151): the instruction at an address. The manual gives the programs' results, not their words. -/
opaque spindleRom : BitVec 12 → BitVec 32

/-- The fixed test digest that `KEY_GENERATE` and `KEY_REPLACE` sign (R156, R230). The manual gives no value. -/
opaque testDigest : BitVec 256

/-- The unit, submission head and PHASE a status reply on the side-band and service ports carries: no queue and no core is
there, and the manual gives those fields no value. FREE VALUES, notes/assumptions/17.md. -/
opaque sideUnit : BitVec 8
opaque sideHead : BitVec 12
opaque sidePhase : Bool

/-- The type byte of a Skein packet by the model's kind number (R271), how many links lie East-going between this device and a
node, and whether a node of a chain lies on its East side, given the members that are lost (R265, R267). The manual gives no
type numbers; the rest is cabling. FREE VALUES, notes/assumptions/29.md. -/
opaque skeinType : Nat → BitVec 8
opaque eastHops : BitVec 6 → Nat
opaque chainEast : List (BitVec 6) → BitVec 6 → Bool

/-- The peer node and peer pool of a transfer record that a rebuild re-creates, by the transfer's identifier: the journal records
carry neither (R96, R124). FREE VALUE, notes/assumptions/30.md. -/
opaque rebuiltPeer : BitVec 64 → BitVec 8 × BitVec 16

/-- The class and cause bytes of a RESET record, by the model's kind number of the reset (R359). The manual gives no codes.
FREE VALUES, notes/assumptions/35.md. -/
opaque resetDetail : Nat → BitVec 8 × BitVec 8

/-- The number of DRAM rows in service, as byte 25 of the reply of `UNIT_SERVICE` op 2 carries it: the manual does not say what
the byte holds for a kind of more than 255 units. FREE VALUE, notes/assumptions/36.md. -/
opaque rowUnits : BitVec 8

/-- The code and the detail of the record of a sensor reading that crosses a warning limit, by sensor, side and reading (R370,
R420): the table of R359 has no row for it. FREE VALUES, notes/assumptions/39.md. -/
opaque sensorCode : BitVec 16
opaque sensorDetail : Nat → Bool → BitVec 16 → BitVec 256

/-- The version number and the vendor command set version that MCTP control replies carry, which DSP0236 leaves to the device.
FREE VALUES, notes/assumptions/40.md. -/
opaque mctpVersion : BitVec 32
opaque vendorVersion : BitVec 16

/-- The periods of an arbiter's own clock between two counts of the core counter, for the arbiters on the PCI Express and Skein
clocks (R242, R246), whose counts the state does not hold. FREE VALUES, notes/assumptions/43.md. -/
opaque clockSpan : Nat → Nat → Nat → Nat

/-- The DRAM address of a bucket (kind 0), a context record (1), a row (2) or a pool record (3), by its number: the manual gives the regions' sizes,
not their places (R13). FREE VALUES, notes/assumptions/44.md. -/
opaque dramAddress : Nat → Nat → BitVec 64

/-- The DRAM row in which a bucket (kind 0) or a context record (1) lies, by its number: not given either. FREE VALUES,
notes/assumptions/44.md. -/
opaque dramRow : Nat → Nat → BitVec 20

/-- What a power failure leaves undefined in the keeper die (R310), by the count of entropy draws: a byte of a flash page or sector
by its address, and how many groups of the FeRAM record that was taken are new. FREE VALUES, notes/assumptions/45.md. -/
opaque tornByte : Nat → Nat → BitVec 8
opaque tornGroups : Nat → Nat

/-- The record of a failed DRAM training (R401): code, plane, severity and detail, for which the table of R359 has no row. FREE
VALUES, notes/assumptions/46.md. -/
opaque trainingRecord : BitVec 16 × BitVec 8 × BitVec 8 × BitVec 256

/-- The cycles of the body of an opcode that is refused after dispatch, by opcode and status, where the manual times only the path
that succeeds (R57). FREE VALUES, notes/assumptions/20.md. -/
opaque refusedBody : BitVec 16 → BitVec 16 → Nat

end Sys2Proof.Config
end

