-- ==== Sys2Proof/Machine/Sm3.lean ====
section
/-! DEFINITION. SM3 as GB/T 32905 defines it, which the spec names as its digest (R7, R200). PRESUMED: the
algorithm's text is the standard's, not the manual's (notes/assumptions/3.md). -/

namespace Sys2Proof.Machine

/-- The chaining value: eight 32-bit words, the first highest, as the standard writes a digest (R202). -/
abbrev Digest := BitVec 256

/-- The initial value of GB/T 32905. -/
def sm3Iv : Digest := 0x7380166f4914b2b9172442d7da8a0600a96f30bc163138aae38dee4db0fb0e4e

/-- The eight working registers of one compression. -/
structure Sm3Regs where
  a : BitVec 32
  b : BitVec 32
  c : BitVec 32
  d : BitVec 32
  e : BitVec 32
  f : BitVec 32
  g : BitVec 32
  h : BitVec 32
  deriving DecidableEq, Repr

/-- The registers a chaining value holds. -/
def sm3Split (v : Digest) : Sm3Regs :=
  { a := v.extractLsb' 224 32, b := v.extractLsb' 192 32, c := v.extractLsb' 160 32, d := v.extractLsb' 128 32
    e := v.extractLsb' 96 32, f := v.extractLsb' 64 32, g := v.extractLsb' 32 32, h := v.extractLsb' 0 32 }

/-- The chaining value of eight registers. -/
def sm3Join (r : Sm3Regs) : Digest :=
  r.a ++ r.b ++ r.c ++ r.d ++ r.e ++ r.f ++ r.g ++ r.h

/-- Permutation P0 of GB/T 32905. -/
def sm3P0 (x : BitVec 32) : BitVec 32 := x ^^^ x.rotateLeft 9 ^^^ x.rotateLeft 17

/-- Permutation P1 of GB/T 32905. -/
def sm3P1 (x : BitVec 32) : BitVec 32 := x ^^^ x.rotateLeft 15 ^^^ x.rotateLeft 23

/-- The word that follows a window of sixteen expanded message words. -/
def sm3NextWord (w : List (BitVec 32)) : BitVec 32 :=
  sm3P1 (w.getD 0 0 ^^^ w.getD 7 0 ^^^ (w.getD 13 0).rotateLeft 15) ^^^ (w.getD 3 0).rotateLeft 7 ^^^ w.getD 10 0

/-- Round `j` on the registers, with the expanded words of its window. -/
def sm3Round (j : Nat) (w : List (BitVec 32)) (r : Sm3Regs) : Sm3Regs :=
  let t : BitVec 32 := if j < 16 then 0x79cc4519 else 0x7a879d8a
  let ss1 := (r.a.rotateLeft 12 + r.e + t.rotateLeft (j % 32)).rotateLeft 7
  let ss2 := ss1 ^^^ r.a.rotateLeft 12
  let ff := if j < 16 then r.a ^^^ r.b ^^^ r.c else (r.a &&& r.b) ||| (r.a &&& r.c) ||| (r.b &&& r.c)
  let gg := if j < 16 then r.e ^^^ r.f ^^^ r.g else (r.e &&& r.f) ||| (~~~r.e &&& r.g)
  let tt1 := ff + r.d + ss2 + (w.getD 0 0 ^^^ w.getD 4 0)
  let tt2 := gg + r.h + ss1 + w.getD 0 0
  { a := tt1, b := r.a, c := r.b.rotateLeft 9, d := r.c, e := sm3P0 tt2, f := r.e, g := r.f.rotateLeft 19, h := r.g }

/-- `fuel` rounds from round `64 - fuel` on. -/
def sm3Rounds : Nat → List (BitVec 32) → Sm3Regs → Sm3Regs
  | 0, _, r => r
  | fuel + 1, w, r => sm3Rounds fuel (w.drop 1 ++ [sm3NextWord w]) (sm3Round (64 - (fuel + 1)) w r)

/-- The sixteen big-endian words of a 64-byte block. -/
def sm3Words (block : Bytes) : List (BitVec 32) :=
  (List.range 16).map fun i => BitVec.ofNat 32 (beNat (slice block (4 * i) 4))

/-- The compression function CF of GB/T 32905 on one 64-byte block (R125, R200). -/
def sm3CF (v : Digest) (block : Bytes) : Digest := sm3Join (sm3Rounds 64 (sm3Words block) (sm3Split v)) ^^^ v

/-- `n` whole blocks absorbed in order. -/
def sm3Absorb : Nat → Digest → Bytes → Digest
  | 0, v, _ => v
  | n + 1, v, bs => sm3Absorb n (sm3CF v (slice bs 0 64)) (bs.drop 64)

/-- A message with the standard's padding: 0x80, zeros, the bit length as 8 bytes big-endian (R204). -/
def sm3Pad (m : Bytes) : Bytes :=
  let n := ceilDiv (m.length + 9) 64 * 64
  m ++ [0x80] ++ zeros (n - m.length - 9) ++ beBytes 8 (8 * m.length)

/-- The SM3 digest of a message. -/
def sm3 (m : Bytes) : Digest :=
  let p := sm3Pad m
  sm3Absorb (p.length / 64) sm3Iv p

/-- The digest in the byte order of GB/T 32905 (R7, R202). -/
def digestBytes (d : Digest) : Bytes := beBytes 32 d.toNat

/-- The first `n` bytes of the SM3 digest of a message. -/
def sm3First (n : Nat) (m : Bytes) : Bytes := (digestBytes (sm3 m)).take n

end Sys2Proof.Machine
end

