-- ==== Sys2Proof/Machine/Sm2.lean ====
section
/-! DEFINITION. The arithmetic of the spindle programs (R152 to R155, R160 to R162): modular primitives, the complete
addition law the spec names, the schedules of EC_MUL and EC_MUL2, SM2 signing and verification, the on-curve check and
public-key derivation. PRESUMED: the parameters of curve 0 are those of GB/T 32918, and the addition law is Algorithm 1
of Renes, Costello and Batina, both named by the spec and not printed in it (notes/assumptions/3.md). -/

namespace Sys2Proof.Machine

/-- The parameters of a curve of `w` bits (R152, R167). -/
structure Curve where
  w : Nat
  p : Nat
  a : Nat
  b : Nat
  gx : Nat
  gy : Nat
  n : Nat
  deriving DecidableEq, Repr

/-- Curve 0: the SM2 recommended 256-bit curve of GB/T 32918 (R152). -/
def curve0 : Curve where
  w := 256
  p := 0xFFFFFFFEFFFFFFFFFFFFFFFFFFFFFFFFFFFFFFFF00000000FFFFFFFFFFFFFFFF
  a := 0xFFFFFFFEFFFFFFFFFFFFFFFFFFFFFFFFFFFFFFFF00000000FFFFFFFFFFFFFFFC
  b := 0x28E9FA9E9D9F5E344D5A9E4BCF6509A7F39789F515AB8F92DDBCBD414D940E93
  gx := 0x32C4AE2C1F1981195F9904466A39C9948FE30BBFF2660BE1715A4589334C74C7
  gy := 0xBC3736A2F4F6779C59BDCEE36B692153D0A9877CC62A474002DF32E52139F0A0
  n := 0xFFFFFFFEFFFFFFFFFFFFFFFFFFFFFFFF7203DF6B21C6052B53BBF40939D54123

/-- The conditional reduction v′ of the spec: v − q where v ≥ q, and v otherwise (before R153). -/
def reduceOnce (v q : Nat) : Nat := if q ≤ v then v - q else v

/-- `fuel` steps of square and multiply from bit 0 of the exponent on. -/
def powModSteps : Nat → Nat → Nat → Nat → Nat → Nat
  | 0, _, _, _, acc => acc
  | fuel + 1, b, e, m, acc =>
    powModSteps fuel (b * b % m) (e / 2) m (if e % 2 = 1 then acc * b % m else acc)

/-- b^e mod m for an exponent below 2^w. -/
def powMod (w b e m : Nat) : Nat := powModSteps w (b % m) e m (1 % m)

/-- A projective point (X : Y : Z). -/
structure Pt where
  x : Nat
  y : Nat
  z : Nat
  deriving DecidableEq, Repr

/-- The point at infinity (0 : 1 : 0) (R162). -/
def Pt.inf : Pt := { x := 0, y := 1, z := 0 }

/-- The difference modulo p of two reduced numbers. -/
def subMod (p a b : Nat) : Nat := (a + p - b) % p

/-- The complete addition of Algorithm 1, general a, applied as it stands to any coordinates (R162). -/
def ecAdd (c : Curve) (P Q : Pt) : Pt :=
  let p := c.p
  let b3 := 3 * c.b % p
  let t0 := P.x * Q.x % p
  let t1 := P.y * Q.y % p
  let t2 := P.z * Q.z % p
  let t3 := subMod p ((P.x + P.y) % p * ((Q.x + Q.y) % p) % p) ((t0 + t1) % p)
  let t4 := subMod p ((P.x + P.z) % p * ((Q.x + Q.z) % p) % p) ((t0 + t2) % p)
  let t5 := subMod p ((P.y + P.z) % p * ((Q.y + Q.z) % p) % p) ((t1 + t2) % p)
  let zz := (b3 * t2 + c.a * t4) % p
  let x3 := subMod p t1 zz
  let z3 := (t1 + zz) % p
  let y3 := x3 * z3 % p
  let at2 := c.a * t2 % p
  let u1 := (3 * t0 + at2) % p
  let u2 := c.a * subMod p t0 at2 % p
  let u4 := (b3 * t4 + u2) % p
  { x := subMod p (t3 * x3 % p) (t5 * u4 % p)
    y := (y3 + u1 * u4) % p
    z := (t5 * z3 + t3 * u1) % p }

/-- The input rule: (0, 0) stands for infinity, any other pair is reduced once (R162). -/
def ecIn (c : Curve) (x y : Nat) : Pt :=
  if x = 0 ∧ y = 0 then Pt.inf else { x := reduceOnce x c.p, y := reduceOnce y c.p, z := 1 }

/-- The output rule: affine by Z^(p−2), (0, 0) for Z = 0 (R162). -/
def ecOut (c : Curve) (P : Pt) : Nat × Nat :=
  if P.z = 0 then (0, 0)
  else
    let zi := powMod c.w P.z (c.p - 2) c.p
    (P.x * zi % c.p, P.y * zi % c.p)

/-- The base point. -/
def Curve.g (c : Curve) : Pt := { x := c.gx, y := c.gy, z := 1 }

/-- The schedule of EC_MUL over `fuel` low bits of the scalar, from the highest (R162). -/
def ecMulSteps (c : Curve) (k : Nat) : Nat → Pt → Pt → Pt
  | 0, S, _ => S
  | i + 1, S, T =>
    if k.testBit i then ecMulSteps c k i (ecAdd c S T) (ecAdd c T T)
    else ecMulSteps c k i (ecAdd c S S) (ecAdd c S T)

/-- EC_MUL (k, P) (R162). -/
def ecMul (c : Curve) (k : Nat) (P : Pt) : Pt := ecMulSteps c k c.w Pt.inf P

/-- The schedule of EC_MUL2 with its table of four points (R162). -/
def ecMul2Steps (c : Curve) (k1 k2 : Nat) (G P GP : Pt) : Nat → Pt → Pt
  | 0, S => S
  | i + 1, S =>
    let t := if k2.testBit i then (if k1.testBit i then GP else P) else if k1.testBit i then G else Pt.inf
    ecMul2Steps c k1 k2 G P GP i (ecAdd c (ecAdd c S S) t)

/-- EC_MUL2 (k1, k2, P): k1·G + k2·P (R162). -/
def ecMul2 (c : Curve) (k1 k2 : Nat) (P : Pt) : Pt := ecMul2Steps c k1 k2 c.g P (ecAdd c c.g P) c.w Pt.inf

/-- The on-curve check of R155. -/
def onCurve (c : Curve) (x y : Nat) : Bool :=
  decide (x < c.p) && decide (y < c.p) && !(x == 0 && y == 0) &&
    (y * y % c.p == (x * x % c.p * x + c.a * x + c.b) % c.p)

/-- The outcome of a sign job: its HALT status with r and s (R153). -/
structure SignOut where
  regen : Bool
  r : Nat
  s : Nat
  deriving DecidableEq, Repr

/-- The SM2 sign program on digest `e`, key `d` and the 512 random bits `u` (R153). The nonzero factor of the starting
coordinates changes no result: `x1` is affine. -/
def sm2Sign (c : Curve) (e d u : Nat) : SignOut :=
  let k := u % (c.n - 1) + 1
  let x1 := (ecOut c (ecMul c k c.g)).1
  let r := (reduceOnce e c.n + reduceOnce x1 c.n) % c.n
  let s := powMod c.w (1 + d) (c.n - 2) c.n * ((k + c.n * c.n - r * d) % c.n) % c.n
  { regen := r == 0 || r + k == c.n || s == 0, r := r, s := s }

/-- The SM2 verify program (R154). -/
def sm2Verify (c : Curve) (e r s xq yq : Nat) : Bool :=
  let t := (r + s) % c.n
  let R := ecMul2 c s t (ecIn c xq yq)
  let x1 := (ecOut c R).1
  decide (1 ≤ r) && decide (r < c.n) && decide (1 ≤ s) && decide (s < c.n) && decide (t ≠ 0) && decide (R.z ≠ 0) &&
    ((reduceOnce e c.n + reduceOnce x1 c.n) % c.n == r)

/-- The public-key derivation program: none is the status IMPROPER (R155). -/
def sm2Derive (c : Curve) (d : Nat) : Option (Nat × Nat) :=
  if d = 0 ∨ c.n - 1 ≤ d then none else some (ecOut c (ecMul c d c.g))

/-- Z of GB/T 32918: SM3(ENTL ‖ ID ‖ a ‖ b ‖ xG ‖ yG ‖ x ‖ y), ENTL the bit length of the ID in two bytes (R166). -/
def sm2Z (c : Curve) (id : Bytes) (x y : Nat) : Digest :=
  let f := beBytes (c.w / 8)
  sm3 (beBytes 2 (8 * id.length) ++ id ++ f c.a ++ f c.b ++ f c.gx ++ f c.gy ++ f x ++ f y)

/-- The signed digest SM3(Z ‖ M) as the integer e (R153). -/
def sm2E (z : Digest) (m : Bytes) : Nat := (sm3 (digestBytes z ++ m)).toNat

/-- The modulus test of R161: odd, with bit w − 1 set. -/
def properMod (w m : Nat) : Bool := decide (m % 2 = 1) && m.testBit (w - 1)

/-- One Miller–Rabin round to base `b` on an odd `p` of at most `w` bits: squarings from the odd part on. -/
def millerRabinSquares : Nat → Nat → Nat → Bool
  | 0, _, _ => false
  | k + 1, x, p => if x = p - 1 then true else millerRabinSquares k (x * x % p) p

/-- The number of factors 2 of a number, up to `fuel`. -/
def twos : Nat → Nat → Nat
  | 0, _ => 0
  | fuel + 1, n => if n % 2 = 0 then 1 + twos fuel (n / 2) else 0

/-- A Miller–Rabin round (check 3 of R168). -/
def millerRabin (w p base : Nat) : Bool :=
  let s := twos w (p - 1)
  let x := powMod w base ((p - 1) / 2 ^ s) p
  decide (x = 1) || millerRabinSquares s x p

end Sys2Proof.Machine
end

