-- ==== Sys2Proof/Machine/Units.lean ====
section
/-! DEFINITION. The plain data each unit of the RZ7740 holds, unit by unit in the order of the manual's chapters.
`State` (Machine/State.lean) is the product of these records. Counters that the manual bounds by a checker or a
saturation rule are natural numbers; what software reads as a register field is a bit vector. -/

namespace Sys2Proof.Machine

/-! ## What leaves the block -/

/-- The 32-byte status reply of R51, with its phase_flags of R52 split into their bits. -/
structure Reply where
  tag : BitVec 32
  status : BitVec 16
  unit : Byte
  chainEnd : Bool
  truncated : Bool
  phase : Bool
  sqHead : BitVec 12
  resultLen : BitVec 32
  cycles : BitVec 32
  arbWait : BitVec 32
  inl : BitVec 64
  deriving DecidableEq, Repr

/-- Everything the block sends out, in the order in which it is posted (R31); on a node that is not the head, what it gives its Skein
boundary (R277; DESIGN CHOICE, notes/assumptions/87.md). -/
inductive Posted where
  /-- a posted write to host memory: a result, a journal record, an image (R31, R127) -/
  | hostWrite (addr : BitVec 64) (bytes : Bytes)
  /-- a status reply written to its slot of the completion ring of its queue (R35, R51) -/
  | reply (q : QId) (slot : BitVec 12) (r : Reply)
  /-- an MSI-X message (R24, R31) -/
  | msix (vector : BitVec 11)
  /-- the completion of a BAR read (R27) -/
  | barRead (v : BitVec 32)
  /-- Unsupported Request (R27) -/
  | unsupported
  /-- a packet given to a Skein port (R271) -/
  | skein (port : Port) (p : SkPacket)
  /-- a group of eight flits that leaves by a Skein port, encrypted, and the 12 bytes of its tag (R268, R269) -/
  | group (port : Port) (gseq : BitVec 32) (cipher : Bytes) (tag : Bytes)
  /-- a replay asked of the peer, from a group on (R269) -/
  | replay (port : Port) (gseq : BitVec 32)
  /-- credits of a virtual channel given back to the peer (R273) -/
  | credit (port : Port) (vc : Byte) (flits : Nat)
  /-- a message sent on the SMBus side-band port (R351) -/
  | smbus (msg : Bytes)
  /-- a frame driven on SVC_MISO (R352) -/
  | spi (frame : Bytes)
  deriving DecidableEq, Repr

/-- A finished command whose reply has not been posted yet: the reply's contents, the result it writes first (R31), and
whether its packet carried CHAIN, ends a chain, or asks for an immediate message (R43). -/
structure Held where
  q : QId
  via : Transport
  id : Nat
  tag : BitVec 32
  status : BitVec 16
  unit : Byte
  chainEnd : Bool
  truncated : Bool
  notify : Bool
  sqHead : BitVec 12
  resultLen : BitVec 32
  cycles : BitVec 32
  arbWait : BitVec 32
  inl : BitVec 64
  write : Option (BitVec 64 × Bytes)
  deriving DecidableEq, Repr

/-! ## Host link and queues (R24 to R63) -/

/-- The STATE field of `QINFO` (R37). -/
inductive QueueSt where
  | absent | active | resetting | deleting
  deriving DecidableEq, Repr

/-- How far a fetched packet has come (R57). -/
inductive Stage where
  /-- its fetch has been granted and its read from the ring is under way (R36, R62) -/
  | granted
  /-- landed; not decoded, because decode is its next stage or a FENCE or chain wait holds it (R44) -/
  | landed
  /-- decoded and checked, waiting for a sequencer or a core -/
  | decoded
  /-- granted to the unit of that code (R52) -/
  | dispatched (unit : Byte)
  deriving DecidableEq, Repr

/-- A fetched packet whose reply has not been posted: INFLIGHT of `QLOAD` counts them (R37). One that belongs to no chain, or whose
chain has been ended, is not `linked`: CHAIN_END ends a chain of two packets or more (R44; DESIGN CHOICE, notes/assumptions/69.md). -/
structure Fetched where
  id : Nat
  pkt : Packet
  sqHead : BitVec 12
  stage : Stage
  /-- the packet before it in the ring carried CHAIN (R44) -/
  linked : Bool
  /-- how that packet was answered, once it was: whether with `STATUS_OK` -/
  prior : Option Bool
  /-- the packet was handed to its sequencer or core and its effect has begun -/
  running : Bool
  /-- the completion slot reserved for its reply, with the PHASE of that pass (R35, R52) -/
  slot : BitVec 12
  phase : Bool
  /-- it landed while HOLD or a stronger response was in force and is answered so (R46) -/
  onHold : Bool
  /-- the key ranges of the policy it was decoded under (R40), and the cycle at which it was decoded -/
  keys : BitVec 256
  since : Nat
  deriving DecidableEq, Repr

/-- A reset or deletion of a queue that has come to step 3 of R62: the reply of its command (none for AQ_RESET), whether it
deletes, and how many packets step 2 answered. -/
structure Ending where
  h : Option Held
  delete : Bool
  aborted : Nat
  deriving DecidableEq, Repr

/-- A queue pair (R32 to R37, R59). -/
structure Queue where
  st : QueueSt
  epoch : BitVec 16
  dom : Dom
  sqTail : BitVec 12
  sqHead : BitVec 12
  cqHead : BitVec 12
  cqTail : BitVec 12
  sqSize : Nat
  cqSize : Nat
  sqBase : BitVec 64
  cqBase : BitVec 64
  irqMode : BitVec 2
  vector : BitVec 11
  coalCount : Byte
  coalTime : BitVec 16
  /-- replies posted since the last message, and the cycle of the first of them (R59) -/
  owed : Nat
  owedSince : Nat
  /-- the next completion slot to reserve with the PHASE of its pass, and slots written before an earlier one -/
  cqRes : BitVec 12
  phase : Bool
  written : List (BitVec 12)
  inflight : List Fetched
  /-- the last packet fetched carried CHAIN, so the next one belongs to its chain (R44) -/
  chainOpen : Bool
  /-- how the last packet fetched was answered, once it was: whether with `STATUS_OK` -/
  lastAnswer : Option Bool
  /-- the reset or deletion that is under way (R62) -/
  ending : Option Ending
  deriving DecidableEq, Repr

/-- A domain policy (R38). -/
structure Policy where
  allow : BitVec 512
  pools : BitVec 256
  keys : BitVec 256
  weight : Byte
  enabled : Bool
  maxQueues : BitVec 16
  starve : BitVec 32
  deriving DecidableEq, Repr

/-- The global control block, the event interrupts and the queue engine's own registers (R29, R30, R37). -/
structure Gctl where
  en : Bool
  aqReset : Bool
  aqSqM1 : BitVec 12
  aqCqM1 : BitVec 12
  aqSqBase : BitVec 64
  aqCqBase : BitVec 64
  aqIrqMode : BitVec 2
  aqVector : BitVec 11
  aqCoalTime : BitVec 16
  aqCoalCount : Byte
  cycle : BitVec 64
  cycleHi : BitVec 32
  time : BitVec 32
  /-- seconds the device time still holds still (R61) -/
  slew : BitVec 32
  evtStat : BitVec 11
  evtMask : BitVec 11
  evtVec : BitVec 11
  dbCount : Byte
  dbCause : BitVec 2
  dbEpoch : Bool
  dbQueue : QId
  qsel : QId
  sliceOwner : BitVec 256
  ready : Bool
  recalling : Bool
  d3hot : Bool
  /-- posted writes held through D3hot (R25) -/
  d3held : List Posted
  /-- the PERST# input and the PCI Express link (R399) -/
  perstLow : Bool
  linkWidth : Nat
  linkRate : Nat
  msix : Tab (BitVec 128)
  pba : Tab Bool
  /-- the number the next fetched packet gets -/
  nextId : Nat
  deriving DecidableEq, Repr

/-! ## Ledger (R64 to R103) -/

/-- A pool record (R65). An ABSENT pool is not listed. -/
structure Pool where
  l : Nat
  m : Nat
  a : Nat
  r : Nat
  i : Nat
  s : Nat
  v : Nat
  t : Nat
  x : Nat
  w : Nat
  next : Nat
  limit : Nat
  dom : Dom
  st : BitVec 2
  host : Bool
  rebuild : Bool
  checker : Bool
  recovering : Bool
  slot : BitVec 12
  reissue : Bool
  exclusive : Bool
  deriving DecidableEq, Repr

/-- Ten totals, one for each of L, M and the eight states (R67, R93). -/
structure Totals where
  l : Nat
  m : Nat
  a : Nat
  r : Nat
  i : Nat
  s : Nat
  v : Nat
  t : Nat
  x : Nat
  w : Nat
  deriving DecidableEq, Repr

/-- A pool lock (R83, R85, R86): its owner, its run of serials, its units in R, its lease in units of 800,000 cyc and the
cycle at whose end the lease runs out. -/
structure Lock where
  gen : Byte
  q : QId
  epoch : BitVec 16
  first : Nat
  next : Nat
  last : Nat
  units : Nat
  lease : Nat
  deadline : Nat
  deriving DecidableEq, Repr

/-- A commit record (R93); `mark` tells a record that newly sets REBUILD or CHECKER on a pool, or TOTALS or SCOUR (R101). -/
structure CommitRec where
  seq : Nat
  tot : Totals
  jseq : Nat
  head : Digest
  ckpt : Nat
  time : BitVec 32
  strip : Bool
  scour : Bool
  totals : Bool
  recovery : Bool
  period : BitVec 3
  mark : Bool
  deriving DecidableEq, Repr

/-- A transfer record (R283, R378). `card` is bytes 32 to 63. -/
structure Transfer where
  id : BitVec 64
  kind : Byte
  st : Byte
  pool : PoolId
  units : BitVec 32
  peer : Byte
  dom : Dom
  peerPool : PoolId
  time : BitVec 32
  jseq : BitVec 64
  card : BitVec 256
  deriving DecidableEq, Repr

/-- What follows when a commit group, a generation-table write or another FeRAM record becomes durable. -/
inductive After where
  /-- a held reply is posted (R94) -/
  | reply (h : Held)
  /-- `EXPORT_CARD` goes on to write its slip (R379 step 2) -/
  | exportCard (h : Held) (row : Nat) (dest : BitVec 64)
  /-- `TRANSFER_OUT` sends its TRANSFER packet (R284 step 2) -/
  | transferSend (h : Held) (row : Nat)
  /-- the sender sends DONE and replies (R284 steps 4 and 5) -/
  | transferDone (h : Held) (peer : Byte) (id : BitVec 64)
  /-- the receiver answers ACCEPT (R284 step 3) -/
  | accept (src : BitVec 6) (id : BitVec 64)
  /-- the receiver answers NONE (R285) -/
  | tombstone (src : BitVec 6) (id : BitVec 64)
  /-- AQ_RESET clears (R62) -/
  | aqReset
  /-- a routed command's reply goes back to its node on VC 1 (R280) -/
  | routed (src : BitVec 6) (tag : BitVec 32) (h : Held)
  deriving DecidableEq, Repr

/-- The open commit group (R93): whether it holds a change, whether it is produced in any case (a tamper record, the
recovery group), the totals a TOTALS certificate gave it, and what follows its durability. -/
structure Group where
  change : Bool
  force : Bool
  recovery : Bool
  mark : Bool
  setTotals : Option Totals
  after : List After
  deriving DecidableEq, Repr

/-- What a `POOL_FREEZE` or `POOL_RETIRE` does once the commands that reserved on its pool have replied (R90, R91). -/
inductive DrainFor where
  | freeze | retire | retired
  deriving DecidableEq, Repr

/-- Such a command that waits (W_drain). -/
structure Drain where
  pool : PoolId
  what : DrainFor
  h : Held
  deriving DecidableEq, Repr

/-- The ledger engine (R64 to R103). -/
structure Ledger where
  pools : Tab Pool
  /-- the pool table in DRAM, and the pools whose change is not written through yet (R65) -/
  dram : Tab Pool
  pendingWt : List Nat
  live : Totals
  locks : Tab Lock
  lockGen : Tab Byte
  drains : List Drain
  strip : Bool
  scour : Bool
  totals : Bool
  group : Group
  /-- a closed record that waits for the commit unit, VHOLD or acknowledgement (R95, R129) -/
  waiting : Option (CommitRec × List After)
  /-- the last record made or loaded; its totals are the ones a later record carries forward (R93) -/
  lastRec : CommitRec
  durable : CommitRec
  /-- a durable commit record exists (R137) -/
  haveDurable : Bool
  fseq : Nat
  periodCfg : BitVec 3
  period : BitVec 3
  nextBoundary : Nat
  totLive : Bool
  totQty : BitVec 4
  refused : BitVec 32
  recovered : Bool
  /-- an owner certificate has been applied since TOTALS or SCOUR was last newly set (R101 step 4) -/
  applied : Bool
  nextHi : BitVec 32
  cseqHi : BitVec 32
  jseqHi : BitVec 32
  totHi : BitVec 32
  fseqHi : BitVec 32
  deriving DecidableEq, Repr

/-! ## Journal, register, checkpoints, rebuild (R104 to R142) -/

/-- A journal record before it is chained (R124): its sequence and chain tag are added when it is. -/
structure JRec where
  typ : Byte
  flags : Byte := 0
  pool : PoolId := 0
  serial : Serial := 0
  node : Byte := 0
  admits : Byte := 0
  fp : BitVec 128 := 0
  delta : BitVec 32 := 0
  aux : BitVec 32 := 0
  deriving DecidableEq, Repr

/-- A forced record that waits for room together with its change (R90, R128). -/
inductive Forced where
  /-- the lock of a pool ends (R85), with the UNLOCK flags of R96 and what waits for it -/
  | endLock (pool : PoolId) (flags : Byte) (after : List After)
  /-- causes of a freeze are set on a pool (R90, R96) -/
  | freeze (pool : PoolId) (causes : Byte) (after : List After)
  /-- causes of a pool's freeze end (the bits of its status byte to clear), and stranded units return (R88, R90, R101) -/
  | thaw (pool : PoolId) (causes : Byte) (after : List After)
  /-- a RECOVERY certificate's record replaces the pool's (R101 step 2): the record, the certificate's ref, and the command's reply -/
  | replace (pool : PoolId) (record : Pool) (ref : Nat) (h : Held)
  /-- a pool's units in R return to A at start-up, with a RECOVERY record (R99) -/
  | recover (pool : PoolId)
  /-- the receiver frees its record on DONE (R284 step 6) -/
  | close (id : BitVec 64)
  /-- the receiver writes a tombstone (R285) -/
  | tombstone (src : BitVec 6) (id : BitVec 64)
  /-- steps 5 to 7 of the reset or deletion of a queue, whose locks end before it (R62): it has no record and needs no room -/
  | endQueue (q : QId) (e : Ending) (locks : Nat)
  deriving DecidableEq, Repr

/-- The journal chainer and the ring's configuration (R124 to R130). -/
structure Journal where
  seq : Nat
  head : Digest
  ack : Nat
  /-- records pledged by admitted commands and not chained yet (R128) -/
  pledged : Nat
  /-- chained records not written to the ring (R130), lowest sequence first -/
  unwritten : List (Nat × Bytes)
  written : Nat
  forced : List Forced
  base : BitVec 64
  en : Bool
  ackGate : Bool
  depth : BitVec 5
  seqHi : BitVec 32
  ackHi : BitVec 32
  ckptHi : BitVec 32
  rbldHi : BitVec 32
  deriving DecidableEq, Repr

/-- A `PURGE` op 1 under way (R121): the bucket its sweep comes to next, the entries freed, and the reply it will give. -/
structure Sweep where
  pool : PoolId
  next : Nat
  count : Nat
  h : Held
  deriving DecidableEq, Repr

/-- The issue register (R104 to R114). -/
structure Register where
  buckets : Tab (List Entry)
  stash : Tab Entry
  /-- the write-back buffer, oldest bucket first (R114) -/
  wbuf : List (Nat × List Entry)
  /-- operations accepted whose read pair has not run (R113), oldest first -/
  accepted : List RegOp
  /-- fingerprints whose last change has that journal sequence and is not settled yet (R118) -/
  changed : List (BitVec 128 × Nat)
  stashWarn : BitVec 13
  fpkSlot : BitVec 12
  stashHigh : BitVec 13
  ops : BitVec 32
  /-- sweeps under way, oldest first -/
  sweeps : List Sweep := []
  deriving DecidableEq, Repr

/-- The snapshot a running checkpoint images (R131 to R134). -/
structure Ckpt where
  id : Nat
  jseq : Nat
  head : Digest
  time : BitVec 32
  pools : Tab Pool
  transfers : Tab Transfer
  stash : Tab Entry
  buckets : Tab (List Entry)
  /-- snapshot units copied into the staging area (R132) -/
  staged : List Nat
  leaves : Nat
  root : Option Digest
  /-- the root record is durable in FeRAM (R135) -/
  rooted : Bool
  held : Held
  outPtr : BitVec 64
  /-- the cycle of the cut -/
  began : Nat
  deriving DecidableEq, Repr

/-- The rebuild of the register (R137 to R140). -/
structure Rebuild where
  needed : Bool
  begun : Bool
  expect : Nat
  head : Digest
  broken : Bool
  last : Nat
  leaves : Nat
  deriving DecidableEq, Repr

/-- The register unit. -/
structure RegUnit where
  reg : Register
  jrn : Journal
  ckpt : Option Ckpt
  /-- checkpoints that wait for the running one (R136) -/
  ckptWait : List Cmd
  ckptDone : Nat
  ckptNext : Nat
  rb : Rebuild
  deriving DecidableEq, Repr

/-! ## Spindles (R143 to R173) -/

/-- The ROM programs of R152 and R160, with what their results depend on. -/
inductive Prog where
  /-- SM2 sign: the digest, the secret key and the entropy drawn for u (R153), with the public key and the occupancy of the
  verify program that follows (R156) -/
  | sign (cv : Curve) (e d u qx qy lv : Nat)
  /-- SM2 verify (R154), with the spindle that signed where it is a verify-after-sign -/
  | verify (cv : Curve) (e r s qx qy : Nat) (signer : Option Nat)
  /-- a `BN_JOB` primitive with its width, curve and operands (R160) -/
  | bn (code : Byte) (w : Nat) (cv : Curve) (ops : List Nat)
  /-- a program within a firmware command: a derivation with its key operand (R155), an on-curve or a curve check, a verification -/
  | part (signing : Bool) (key : Nat)
  deriving DecidableEq, Repr

/-- A program that a firmware command has a spindle run (R143, R155, R168, R230): the kind of spindle, the occupancy, and the key operand
of a derivation. -/
structure Part where
  signing : Bool
  len : Nat
  key : Nat
  deriving DecidableEq, Repr

/-- An `ISSUE` whose signature or tag is still being made (R20): what steps 7 to 10 need. -/
structure IssueRun where
  pool : PoolId
  serial : Serial
  locked : Bool
  header : Bytes
  admitLimit : Byte
  mode : Byte
  time : BitVec 32
  deriving DecidableEq, Repr

/-- The command a job belongs to. -/
inductive JobFor where
  | issue (r : IssueRun)
  | sign
  | verify
  | bn (num : BitVec 12)
  /-- one of the programs of a firmware command, which goes on when it ends, and those that follow -/
  | part (c : Cmd) (rest : List Part)
  deriving DecidableEq, Repr

/-- A spindle job (R145, R150). `h` is the reply its command will give, completed when the job ends; `cyc` is the whole of the
command's cycles on the path that succeeds. -/
structure Job where
  prog : Prog
  len : Nat
  what : JobFor
  h : Held
  cyc : Nat
  glitch : BitVec 512
  /-- it has yielded once (R158) -/
  yielded : Bool
  /-- the cycle at which it started on a spindle -/
  began : Option Nat := none
  deriving DecidableEq, Repr

/-- The part of a spindle's state that a yield saves in the shadow (R146). -/
structure Lane where
  w : Vector (BitVec 256) 128
  acc : BitVec 576
  c : Bool
  e : Bool
  lc : Vector (BitVec 16) 4
  ix : Vector (BitVec 7) 4
  pc : BitVec 12
  stack : List (BitVec 12)
  /-- cycles of the program run so far, and the cycle at which the multiply-accumulate unit is idle again (R148) -/
  elapsed : Nat
  macFree : Nat
  deriving DecidableEq, Repr

/-- The states of a spindle in unit service (R157, R257). -/
inductive SpSvc where
  | out | inService | testing
  deriving DecidableEq, Repr

/-- A spindle (R146). -/
structure Spindle where
  lane : Lane
  out : Vector (BitVec 256) 4
  job : Option Job
  shadow : Option (Lane × Job)
  /-- the pending job granted at a yield point, while the save runs (R158) -/
  taking : Option Job
  /-- the restore of the shadow runs (R158) -/
  restoring : Bool
  /-- the key operand that `KEY` delivers (R148) -/
  keyOp : BitVec 512
  /-- the status of the last `HALT` and whether the program has halted (R148) -/
  halted : Option (BitVec 2)
  ent : List (BitVec 256)
  ram : Tab (BitVec 32)
  svc : SpSvc
  /-- why it left service, as USVC_LAST codes it (R263) -/
  why : BitVec 3
  jobs : BitVec 32
  yields : Byte
  aborts : Byte
  katFails : Byte
  vasFails : Byte
  deriving DecidableEq, Repr

/-- A loaded curve slot (R167, R168). -/
structure CurveSlot where
  cv : Curve
  valid : Bool
  deriving DecidableEq, Repr

/-- The spindle pool. -/
structure SpindleUnit where
  sp : Vector Spindle 40
  signParked : List Job
  verifyParked : List Job
  curves : Tab CurveSlot
  sel : BitVec 6
  /-- the programs that the command under way has had run, in order; empty between commands -/
  ran : List Part
  katRunning : Bool
  katPass : Bool
  katSpindle : BitVec 6
  deriving DecidableEq, Repr

/-! ## Seal engine (R174 to R199) -/

/-- A context record (R178); a CLOSED context is not listed. The key stands for its round keys and h, which follow from it. -/
structure SealCtx where
  key : BitVec 128
  ekJ0 : BitVec 128
  salt : BitVec 32
  inv : BitVec 64
  blk : BitVec 32
  ghash : BitVec 128
  aadLen : Nat
  dataLen : Nat
  declLen : Nat
  declAad : Nat
  usage : Byte
  st : Byte
  dom : Dom
  format : Byte
  printer : BitVec 16
  keySlot : BitVec 12
  ordered : Bool
  inflight : Bool
  nonce : BitVec 128
  invCur : BitVec 64
  deriving DecidableEq, Repr

/-- What a run of the seal pipeline does: part of a sealed message, its end, or an `OPEN_VERIFY` with the invocation, the tag it
must meet, the hold buffer and the plaintext in it (R192 to R195). -/
inductive SealKind where
  | data
  | final
  | opens (inv : BitVec 64) (tag : Bytes) (buffer : Nat) (plain : Bytes)
  | ticket (r : IssueRun) (cyc : Nat)
  deriving DecidableEq, Repr

/-- A command whose blocks still pass the pipeline one by one (R192, R193). -/
structure SealRun where
  ctx : Nat
  kind : SealKind
  /-- the context as the command found it -/
  was : SealCtx
  /-- J0, authenticated data, then data, not admitted yet -/
  j0 : Bool
  aad : Bytes
  data : Bytes
  /-- where the next ciphertext byte goes in host memory -/
  outPtr : BitVec 64
  entered : Bool
  h : Held
  deriving DecidableEq, Repr

/-- The seal engine. -/
structure SealUnit where
  ctxs : Tab SealCtx
  /-- the cached contexts, most recently used first (R179) -/
  cache : List Nat
  /-- evicted records not written back yet, oldest first (R179) -/
  evicted : List Nat
  /-- fills that a miss has asked for -/
  fills : List Nat
  runs : List SealRun
  /-- blocks in the pipeline, oldest first: the context, whether authenticated data, and the bytes -/
  pipe : List (Nat × Bool × Bytes)
  holdBusy : BitVec 4
  key : BitVec 128
  sd : Tab (BitVec 64)
  /-- contexts restored from a wrapped SEAL save that wait for the floor (R197) -/
  restoring : Tab SealCtx
  wiping : Bool
  miss : BitVec 32
  broken : Byte
  exhausted : Byte
  tagFails : BitVec 16
  blocks : BitVec 64
  blocksHi : BitVec 32
  dsel : Byte
  floorHi : BitVec 32
  deriving DecidableEq, Repr

/-! ## Digest engine (R200 to R212) -/

/-- A digest context (R202); `finished` tells that its previous command was a finishing one (R206). -/
structure DigCtx where
  v : Digest
  blocks : BitVec 64
  st : BitVec 2
  keyed : Bool
  dom : Dom
  finished : Bool
  deriving DecidableEq, Repr

/-- What a class 0x06 command does with its context once its blocks are absorbed (R205 to R210). -/
inductive DigKind where
  | init
  | data
  | final
  | compare (want : Bytes)
  | toKey (keys : BitVec 256) (typ : Byte) (usage : BitVec 16) (len : Nat)
  deriving DecidableEq, Repr

/-- A command whose blocks are still being absorbed one by one (R203). -/
structure DigRun where
  ctx : Nat
  kind : DigKind
  /-- a block of the command has been absorbed -/
  began : Bool
  data : Bytes
  h : Held
  deriving DecidableEq, Repr

/-- The digest engine. -/
structure DigestUnit where
  ctxs : Vector DigCtx 64
  runs : List DigRun
  restarts : BitVec 16
  mismatch : BitVec 16
  blocks : BitVec 64
  blocksHi : BitVec 32
  util : BitVec 32
  deriving DecidableEq, Repr

/-! ## Key store (R213 to R241) -/

/-- The attributes of a slot (R220, R239). -/
structure KeyAttr where
  typ : Byte
  usage : BitVec 16
  curve : Byte
  dom : Dom
  parent : BitVec 16
  parentGen : BitVec 32
  lineage : BitVec 16
  lineageGen : BitVec 32
  origin : Byte
  kcv : BitVec 32
  deriving DecidableEq, Repr

/-- The states of a slot (R220); an EMPTY slot is not listed. -/
inductive SlotSt where
  | valid | shadow | corrupt | reserved
  deriving DecidableEq, Repr

/-- A key slot (R220): the masked value, the companion Q and Z, the attributes, the ICV and the time of loading. -/
structure Slot where
  s0 : BitVec 512
  s1 : BitVec 512
  q : BitVec 1024
  z : BitVec 256
  st : SlotSt
  attr : KeyAttr
  icv : BitVec 32
  loaded : BitVec 32
  /-- the distinguishing ID of an SM2 secret key, which `KEY_WRAP` op 0 authenticates again (notes/assumptions/27.md) -/
  id : Bytes
  /-- the generation its domain's DMK had when the key was loaded: a KEK entry is live only while it stands (R227) -/
  domGen : BitVec 32
  deriving DecidableEq, Repr

/-- A generation-table entry (R227): `present` and `floor` for entries 0 to 255, `kcv`, `kind` and `dom` for the others. -/
structure GenEntry where
  gen : BitVec 32
  present : Bool
  floor : BitVec 64
  kcv : BitVec 32
  kind : Byte
  dom : Byte
  deriving DecidableEq, Repr

/-- What a generation-table write does beside the entry when it becomes durable. -/
inductive GenThen where
  | nothing
  /-- step 5 of R230: the shadow slot's contents move into the old slot -/
  | switch (old shadow : Nat)
  /-- the restored context becomes usable (R197) -/
  | restore (ctx : Nat)
  /-- the slot that the command reserved becomes VALID (R220) -/
  | fill (slot : Nat)
  deriving DecidableEq, Repr

/-- A generation-table write (R228): the entry with its new contents; for a replacement the generation that must still stand
when the commit unit takes it (R230 step 4). -/
structure GenWrite where
  entry : Nat
  val : GenEntry
  check : Option (BitVec 32)
  what : GenThen
  after : List After
  deriving DecidableEq, Repr

/-- An entry of the domain key table: a DMK masked like a slot's value, with its ICV (R216, R221, R222). -/
structure DmkKey where
  s0 : BitVec 256
  s1 : BitVec 256
  icv : BitVec 32
  deriving DecidableEq, Repr

/-- The key store. -/
structure KeyUnit where
  slots : Tab Slot
  dmks : Tab DmkKey
  gens : Tab GenEntry
  /-- the fuse share F and the BBRAM shares by label (R213, R214) -/
  fuse : BitVec 256
  shares : Tab (BitVec 256)
  mnonce : Option (BitVec 128)
  /-- which root slot 0 holds: 0 none, else its label (R241) -/
  root : BitVec 3
  archiveLoaded : Bool
  /-- the generator has a seed, the outputs since it, and the free-value counter (R233) -/
  seeded : Bool
  outputs : Nat
  draws : Nat
  entIn : Bool
  entFails : Nat
  entTesting : Bool
  sweep : BitVec 12
  revs : BitVec 64
  orphaned : Byte
  corrupted : Byte
  kcvFails : Byte
  entFailCount : Byte
  dsel : BitVec 12
  deriving DecidableEq, Repr

/-! ## Arbiters, memory schedule, unit service (R242 to R264) -/

/-- A request parked at an arbiter: when it parked, and whether it has set the starvation flag (R244, R247). -/
structure Parked where
  since : Nat
  starved : Bool
  deriving DecidableEq, Repr

/-- One requester of one arbiter (R243 to R247). -/
structure Requester where
  weight : Byte
  credit : Byte
  thresh : BitVec 32
  starve : Bool
  grants : BitVec 32
  waits : BitVec 32
  longest : BitVec 32
  parked : List Parked
  deriving DecidableEq, Repr

/-- One arbiter. A requester that is not listed is as at power-on reset. -/
structure Arbiter where
  reqs : Tab Requester
  pointer : Nat
  /-- level two of arbiter 0: the queue from which the next choice within a domain starts (R36) -/
  queuePtr : Tab Nat
  frozen : Bool
  /-- the count of its clock at which its counters were last cleared (R249) -/
  clearedAt : Option Nat
  wdog : BitVec 16
  deriving DecidableEq, Repr

/-- The memory schedule (R250 to R255). -/
structure MemUnit where
  live : Vector (BitVec 4) 64
  shadow : Vector (BitVec 4) 64
  swap : Bool
  /-- the frame boundary at which a swap that was asked for takes place (R252) -/
  swapAt : Nat
  bad : Bool
  spare : Vector Nat 4
  corrections : Tab Nat
  /-- rows being copied, and rows spared -/
  copying : List (BitVec 20)
  spared : List (BitVec 20)
  ecc : BitVec 32
  selfRefresh : Bool
  trained : Bool
  inited : Bool
  deriving DecidableEq, Repr

/-- The arbiter index block and the unit service controller (R256 to R263). -/
structure ArbUnit where
  arbs : Tab Arbiter
  selArb : BitVec 6
  selReq : BitVec 14
  /-- unit codes out of service, bit by code (R263) -/
  out : BitVec 128
  lastCause : BitVec 3
  lastIn : Bool
  lastUnit : Byte
  /-- service requests that wait for a handover or a response to end (R262) -/
  waiting : List Cmd
  /-- replies of removals that wait for a unit's granted work, and of returns that wait for its test, by unit code (R260) -/
  leaving : Tab Held
  returning : Tab Held
  deriving DecidableEq, Repr

/-! ## Skein (R265 to R292) -/

/-- The STATE field of `SKN_PORT_E` (R292). -/
inductive PortSt where
  | down | training | reconciling | up | lowRate
  deriving DecidableEq, Repr

/-- The counters of one virtual channel of one port (R273): S sent and Rt returned as sender, A accepted, F freed and O
occupied as receiver; H = B - S + Rt. -/
structure Vc where
  sent : BitVec 32
  returned : BitVec 32
  accepted : BitVec 32
  freed : BitVec 32
  occupied : Nat
  held : Nat
  deriving DecidableEq, Repr

/-- A Skein port (R268 to R275). -/
structure SkPort where
  st : PortSt
  lanes : BitVec 2
  inService : Bool
  bad : Bool
  swap : Bool
  /-- held down after a second head or a refused device (R265, R266) -/
  heldDown : Bool
  key : Option (BitVec 128)
  myNonce : BitVec 128
  peerSerial : BitVec 64
  txGroup : BitVec 32
  rxGroup : BitVec 32
  /-- the group that failed its tag last, and how often in succession (R269) -/
  failGroup : BitVec 32
  tagFails : Nat
  /-- flits sent of a group not yet full, and flits of packets not yet whole that have arrived (R268) -/
  txFlits : Bytes
  rxFlits : Bytes
  /-- the slot of the bandwidth table that comes next (R275) -/
  slot : Fin 64
  /-- packets sent and kept for replay, newest last, with S of their VC after the last flit (R268, R274) -/
  replay : List (BitVec 32 × SkPacket)
  /-- packets waiting to be sent, those in transit with the port they came in on -/
  egress : List (Option Port × SkPacket)
  vcs : Vector Vc 5
  live : Vector (BitVec 4) 64
  shadow : Vector (BitVec 4) 64
  /-- a census mismatch has already been followed by a reconciliation (R269) -/
  mismatched : Bool
  deriving DecidableEq, Repr

/-- A member of the cluster (R266). -/
structure Member where
  serial : BitVec 64
  kcv : BitVec 32
  deriving DecidableEq, Repr

/-- A command routed to its owner and not answered yet (R280). -/
structure Routed where
  h : Held
  owner : BitVec 6
  deriving DecidableEq, Repr

/-- A transfer that waits for its answer (R284, R285). -/
structure XferWait where
  h : Held
  row : Nat
  query : Bool
  deriving DecidableEq, Repr

/-- A `MAP_SET` that waits for the members' answers (R282). -/
structure MapAsk where
  h : Held
  map : Tab (BitVec 6)
  version : BitVec 64
  waiting : List (BitVec 6)
  deriving DecidableEq, Repr

/-- The Skein unit. -/
structure SkeinUnit where
  en : Bool
  autoReturn : Bool
  keySlot : BitVec 12
  east : SkPort
  west : SkPort
  ring : Bool
  reach : BitVec 7
  nodes : BitVec 7
  head : Bool
  nodeId : BitVec 6
  mismatch : BitVec 16
  rounds : BitVec 16
  timeout : BitVec 16
  cselWest : Bool
  cselVc : BitVec 3
  /-- next sequence to send by (dest, vc) and next expected by (src, vc), from 1 (R271, R272) -/
  txSeq : Tab (BitVec 32)
  rxSeq : Tab (BitVec 32)
  /-- packets that wait for a gap to fill, with the port they came in on (R272) -/
  rxBuf : List (Port × SkPacket)
  members : Tab Member
  candidates : List (BitVec 64 × BitVec 32)
  /-- this device is itself a candidate (R266), and the port on which the last enumeration packet arrived (R267) -/
  candidate : Bool
  arrived : Option Port
  /-- payloads that go on in further packets, by the key of the source and VC, and the tag (R271) -/
  parts : List ((Nat × BitVec 32) × Bytes)
  retired : List (BitVec 64)
  /-- members not reachable now -/
  lost : List (BitVec 6)
  map : Tab (BitVec 6)
  version : BitVec 64
  /-- a map stored and not switched to yet (R282) -/
  newMap : Option (Tab (BitVec 6) × BitVec 64)
  /-- on the head, a map in its first phase; on a member, the part of a map that has arrived and one it has agreed to -/
  mapAsk : Option MapAsk
  mapIn : Bytes
  agreed : Option (Tab (BitVec 6) × BitVec 64)
  /-- a member that cannot reach the head (R288) -/
  cutOff : Bool
  transfers : Tab Transfer
  xwait : List (BitVec 64 × XferWait)
  routed : Tab Routed
  nextTag : BitVec 32
  deriving DecidableEq, Repr

/-! ## Keeper die (R293 to R319) -/

/-- What the commit unit writes (R17, R298). -/
inductive CuReq where
  | ledger (r : CommitRec) (after : List After)
  | gen (g : GenWrite)
  /-- a checkpoint root record: the checkpoint's identifier and the record's bytes -/
  | root (id : Nat) (bytes : Bytes)
  /-- an MSS record: bank offset and bytes, and what follows -/
  | mss (off : Nat) (bytes : Bytes) (after : List After)
  /-- a page rewritten by refresh: with its own contents, or with a group of one bank copied from the other (R314) -/
  | refresh (off : Nat) (fix : Option (Bool × Nat))
  deriving DecidableEq, Repr

/-- A frame being written (R303, R304): where it lies, its bytes up to the marker, how many of them are programmed, and
whether the marker program runs. -/
structure FlashWrite where
  req : FlashReq
  addr : Nat
  bytes : Bytes
  done : Nat
  marker : Bool
  seq : Nat
  deriving DecidableEq, Repr

/-- The append point of a record area (R304): the physical sector and the offset in it, with the area's highest frame_seq
and sector_seq. -/
structure Append where
  sector : Nat
  off : Nat
  frameSeq : Nat
  sectorSeq : Nat
  /-- sectors of the area with a header, oldest first, and blank sectors -/
  used : List Nat
  blank : List Nat
  deriving DecidableEq, Repr

/-- An event log record (R358) before it has its sequence. -/
structure Event where
  code : BitVec 16
  plane : Byte
  severity : Byte
  time : BitVec 32
  stamp : BitVec 64
  detail : Bytes
  deriving DecidableEq, Repr

/-- The keeper die, the commit unit and the record controller. -/
structure Keeper where
  fe0 : List Host.Cell
  fe1 : List Host.Cell
  flash : List Host.Cell
  powered : Bool
  tripped : Bool
  /-- the recall stage that runs, 0 for none (R311) -/
  stage : Nat
  cu : Option (CuReq × Bool)
  queue : List CuReq
  log : Append
  config : Append
  archive : Append
  frame : Option FlashWrite
  frames : List FlashReq
  /-- the sector being erased, and whether the erase is suspended (R304) -/
  erase : Option (Nat × Bool)
  eraseQueue : List Nat
  /-- erase counts of sectors, kept in their headers while they have one -/
  erases : Tab Nat
  /-- the replacement map: the sector that replacement sector k stands for (R296) -/
  replaced : Tab Nat
  failedSectors : List Nat
  records : Tab Bytes
  blobs : Tab Bytes
  posts : List Event
  postsLost : Nat
  regionFails : Tab Nat
  feCorrected : Nat
  feRepaired : Nat
  flRelocated : Nat
  fePage : Nat
  flSector : Nat
  deriving DecidableEq, Repr

/-! ## Tamper controller and life cycle (R320 to R346) -/

/-- How far a response has run (R327). -/
inductive RespStage where
  | idle | clearing | erasing | wipeDue | wiping
  /-- a SCOUR that escalated a finished STRIP waits for its clear pulse only -/
  | shares
  deriving DecidableEq, Repr

/-- The canary beside the shares (R337): `blank` until the first enrolment writes it, `lost` once BBRAM was without power. -/
inductive Canary where
  | blank | valid | scoured | lost
  deriving DecidableEq, Repr

/-- The tamper response controller, the backup domain's BBRAM and the life-cycle fuses. -/
structure Tamper where
  level : BitVec 2
  latched : Bool
  active : BitVec 25
  fired : BitVec 25
  /-- the tamper configuration record (R322) -/
  cfg : BitVec 512
  lastResp : BitVec 2
  lastDetail : Byte
  lastSource : BitVec 5
  count : BitVec 32
  testFails : BitVec 16
  lastTest : BitVec 5
  /-- sources whose test is pending, the one under test first (R332) -/
  tests : List (BitVec 5)
  testing : Bool
  /-- a source whose condition held while it was under test (R332) -/
  suppressed : Option Byte
  stage : RespStage
  /-- a test of a release, or of start-up, has failed -/
  testFailed : Bool
  dwell : Bool
  releasing : Bool
  /-- a release command that waits for the response or the tests (R329) -/
  release : Option Held
  store : List (BitVec 128)
  overflow : Byte
  canary : Canary
  aotCount : BitVec 32
  aotAcc : Nat
  deriving DecidableEq, Repr

/-- Fuses and the life-cycle machinery (R338 to R344). -/
structure Life where
  serial : BitVec 64
  count : BitVec 3
  ownerHash : Option (BitVec 256)
  challenge : Option (BitVec 128)
  cpSv : Nat
  mssSv : Nat
  /-- step 5 of R341 is due -/
  resetDue : Bool
  deriving DecidableEq, Repr

/-! ## Management subsystem (R347 to R370) -/

inductive MssSt where
  | off | booting | running | romOnly | down
  deriving DecidableEq, Repr

/-- The release a command-core set or the MSS runs: its major, minor, security version, build and image bank. -/
structure Running where
  major : Byte
  minor : Byte
  sv : Byte
  schema : BitVec 16
  bankB : Bool
  deriving DecidableEq, Repr

/-- The boot record (R364): states 0 EMPTY, 1 STAGED, 2 ACTIVE, 3 REJECTED of control-plane A, B, MSS A, B. -/
structure BootRec where
  cpB : Bool
  mssB : Bool
  states : Vector Byte 4
  deriving DecidableEq, Repr

/-- A staging session (R363): kind, bank, next offset, and the transport it is bound to. -/
structure Staging where
  kind : Byte
  bankB : Bool
  next : Nat
  via : Transport
  deriving DecidableEq, Repr

/-- A running hitless handover (R366). -/
structure Handover where
  step : Nat
  plan : BitVec 256
  failing : Nat
  back : Bool
  paused : Bool
  h : Held
  deriving DecidableEq, Repr

/-- The management subsystem. -/
structure MssUnit where
  st : MssSt
  setA : Option Running
  setB : Option Running
  mss : Option Running
  boot : BootRec
  staging : Option Staging
  ho : Option Handover
  hoStep : Byte
  hoOutcome : Byte
  /-- management messages that wait on SMBus, the one command that runs, and commands forwarded from host queues (R349) -/
  smbus : List Bytes
  running : Option (Transport × Cmd)
  /-- its effect has begun -/
  begun : Bool
  forwarded : List Cmd
  spiWaiting : Option Bytes
  /-- the reply frame that polls return, and whether the next poll returns a frame-error frame (R353) -/
  spiOut : Option Bytes
  spiErr : Bool
  svcEn : Bool
  eid : Byte
  partialMsg : Bytes
  discarded : BitVec 16
  smbAddr : BitVec 7
  sensors : Vector (BitVec 16) 16
  /-- an MSS reboot of `FW_ACTIVATE` op 1, with its reply (R368) -/
  reboot : Option Held
  /-- the MSS starts after `FW_ACTIVATE` op 1 -/
  update : Bool
  rebootCheck : Nat
  /-- the MSS clock's counter, and nominal core cycles since its last count (R18) -/
  mcyc : BitVec 64
  mdiv : BitVec 3
  deriving DecidableEq, Repr

/-! ## Card slot (R371 to R387) -/

/-- A card transaction that runs over several events (R372, R374, R379, R381, R384, R385). -/
inductive CardOp where
  /-- identification, with the CMD1 attempts made; `CARD_INFO` op 1 may wait for it -/
  | ident (tries : Nat) (h : Option Held)
  /-- an export whose first step is not durable yet, and what has ended it meanwhile, or 0 (R379) -/
  | exportDue (row : Nat) (cut : BitVec 16)
  /-- an export: the record, the slip's two blocks, and whether the slip write, its readback or the marker write runs -/
  | exportSlip (row : Nat) (slip marker : Bytes) (h : Held)
  | exportCheck (row : Nat) (slip marker : Bytes) (h : Held)
  | exportMark (row : Nat) (slip marker : Bytes) (h : Held)
  /-- a settlement that writes CANCEL (R381) -/
  | cancel (row : Nat) (marker : Bytes) (h : Held)
  | cancelCheck (row : Nat) (marker : Bytes) (h : Held)
  /-- plain block writes: what is left, and the reply that follows -/
  | write (blocks : List (Nat × Bytes)) (h : Held)
  /-- a block read for `CARD_READ` -/
  | read (block : Nat) (h : Held) (outPtr : BitVec 64) (outLen : Nat)
  deriving DecidableEq, Repr

/-- The card slot. -/
structure CardUnit where
  en : Bool
  auto : Bool
  wide : Bool
  maxClk : BitVec 2
  detFilter : Byte
  busyMs : Byte
  present : Bool
  ready : Bool
  hs : Bool
  busy : Bool
  err : Bool
  v18 : Bool
  power : Bool
  cid : BitVec 128
  media : Option Media
  /-- the card carries the volume header (R375) -/
  formatted : Bool
  op : Option CardOp
  auditNext : Nat
  removals : BitVec 16
  failures : BitVec 16
  deriving DecidableEq, Repr

/-! ## Power, clocks, reset, start-up (R388 to R404) -/

inductive PowerSt where
  | active | doze | waking | backup | inReset
  deriving DecidableEq, Repr

/-- A BAR access held through DOZE (R394). -/
inductive HeldWrite where
  | read0 (addr : BitVec 20)
  | bar0 (addr : BitVec 20) (v : BitVec 32)
  | bar2 (addr : BitVec 18) (v : BitVec 32)
  | bar4 (addr : BitVec 24) (v : BitVec 32)
  deriving DecidableEq, Repr

/-- The power and clocks block and the start-up sequence. -/
structure PowerUnit where
  st : PowerSt
  wakeSrc : Byte
  bad : Bool
  dpReset : Bool
  dozePend : Bool
  doze : Bool
  rstCause : BitVec 7
  sscEn : Bool
  spread : BitVec 4
  slewCard : BitVec 2
  slewSvc : BitVec 2
  slewTloop : BitVec 2
  slewMisc : BitVec 2
  filtSys : Byte
  filtPerst : Byte
  dozeCnt : BitVec 32
  corePll : Bool
  memPll : Bool
  sknPll : Bool
  porLow : Bool
  sysLow : Bool
  planeLow : Bool
  /-- start-up stages of R400 that have ended -/
  stages : List Nat
  /-- units whose clock is gated (R392) -/
  idle : List Byte
  heldWrites : List HeldWrite
  deriving DecidableEq, Repr

end Sys2Proof.Machine
end

