-- ==== Sys2Proof/Machine/Defaults.lean ====
section
/-! DEFINITION. Default tables and start-up records: the domain policies of R425, the memory and bandwidth tables of R251
and R275, the tamper configuration of R320 to R322, a cleared spindle, the requester of an arbiter at power-on reset. -/

namespace Sys2Proof.Machine

/-- The policy a start-up installs for a domain (R425). -/
def startPolicy (d : Dom) : Policy :=
  if d = 0 then
    { allow := BitVec.allOnes 512
      pools := BitVec.ofNat 256 (leNat ([0x00, 0x00, 0xFF, 0xFF] ++ (List.replicate 7 [0xFF, 0xFF, 0x00, 0x00]).flatten))
      keys := BitVec.ofNat 256 (leNat ([0x00, 0x00, 0xFF, 0x0F] ++ (List.replicate 7 [0xFF, 0xFF, 0x00, 0x00]).flatten))
      weight := 1, enabled := true, maxQueues := 16384, starve := 0x00100000 }
  else
    { allow := 0
      pools := BitVec.ofNat 256 (leNat (List.replicate 8 [0xFF, 0xFF, 0x00, 0x00]).flatten)
      keys := BitVec.ofNat 256 (leNat (List.replicate 8 [0xFF, 0xFF, 0x00, 0x00]).flatten)
      weight := 1, enabled := false, maxQueues := 0, starve := 0 }

/-- The owner of position `g` of a group of 16 memory slots (R251). -/
def memOwner (g : Nat) : BitVec 4 := ([0, 0, 1, 0, 0, 2, 0, 0, 1, 0, 0, 3, 0, 0, 4, 15] : List (BitVec 4)).getD g 0

/-- The default memory slot table (R251). -/
def memTable : Vector (BitVec 4) 64 := Vector.ofFn fun j => memOwner (j.val % 16)

/-- The VC of position `g` of a group of 16 bandwidth slots (R275). -/
def bwOwner (g : Nat) : BitVec 4 := ([2, 0, 2, 1, 2, 0, 2, 1, 2, 3, 2, 1, 2, 4, 2, 0] : List (BitVec 4)).getD g 0

/-- The default bandwidth table (R275). -/
def bwTable : Vector (BitVec 4) 64 := Vector.ofFn fun j => bwOwner (j.val % 16)

/-- The default response of each source (R320): 0 NOTE, 1 HOLD, 2 STRIP, 3 SCOUR. -/
def defaultResponses : List Nat := [1, 2, 1, 2, 1, 1, 0, 0, 2, 1, 1, 1, 1, 1, 1, 2, 1, 1, 3, 0, 0, 0, 0, 1, 1]

/-- The floor of each source in IN_SERVICE (R320). -/
def responseFloors : List Nat := [1, 1, 1, 1, 0, 0, 0, 0, 1, 1, 1, 0, 0, 1, 1, 2, 1, 0, 2, 0, 0, 0, 0, 1, 1]

/-- Two-bit fields packed from bit 0 upward. -/
def pack2 : List Nat → Nat
  | [] => 0
  | r :: rest => r % 4 + 4 * pack2 rest

/-- The default TEMP_LO and TEMP_HI of the ordering code, as bytes (R320). -/
def defaultTemps : Byte × Byte :=
  if Config.isAF then (BitVec.ofInt 8 (-50), BitVec.ofInt 8 115) else (BitVec.ofInt 8 (-10), BitVec.ofInt 8 105)

/-- Bytes 0 to 59 of the default tamper configuration (R322). DESIGN CHOICE, notes/assumptions/9.md: no latch bit, static
loops, filter length 1. -/
def defaultTamperBody : Bytes :=
  leBytes 8 (pack2 defaultResponses) ++ zeros 9 ++ [defaultTemps.1, defaultTemps.2, 10] ++ leBytes 2 1440 ++ zeros 38

/-- The default tamper configuration with its check (R322). -/
def defaultTamper : BitVec 512 :=
  BitVec.ofNat 512 (leNat (defaultTamperBody ++ leBytes 4 (crc32 defaultTamperBody).toNat))

/-- A spindle's lane after the clear of R150. -/
def clearLane : Lane :=
  { w := Vector.replicate 128 0, acc := 0, c := false, e := false, lc := Vector.replicate 4 0, ix := Vector.replicate 4 0
    pc := 0, stack := [], elapsed := 0, macFree := 0 }

/-- A spindle after power-on reset: cleared, out of service until its test passes (R157, R173). -/
def resetSpindle : Spindle :=
  { lane := clearLane, out := Vector.replicate 4 0, job := none, shadow := none, taking := none, restoring := false
    keyOp := 0, halted := none, ent := [], ram := [], svc := .out, why := 0, jobs := 0, yields := 0, aborts := 0, katFails := 0
    vasFails := 0 }

/-- A requester at power-on reset (R243, R263). -/
def resetRequester : Requester :=
  { weight := 1, credit := 1, thresh := 0x00100000, starve := false, grants := 0, waits := 0, longest := 0, parked := [] }

/-- An arbiter at power-on reset (R243). -/
def resetArbiter : Arbiter := { reqs := [], pointer := 0, queuePtr := [], frozen := false, clearedAt := none, wdog := 0 }

/-- A digest context that is CLOSED (R202). -/
def closedDig : DigCtx := { v := 0, blocks := 0, st := 0, keyed := false, dom := 0, finished := false }

/-- The counters of a virtual channel before any training (R273, R292). -/
def resetVc : Vc := { sent := 0, returned := 0, accepted := 0, freed := 0, occupied := 0, held := 0 }

/-- A Skein port that is down (R292). -/
def resetPort : SkPort :=
  { st := .down, lanes := 0, inService := false, bad := false, swap := false, heldDown := false, key := none, myNonce := 0
    peerSerial := 0, txGroup := 0, rxGroup := 0, failGroup := 0, tagFails := 0, txFlits := [], rxFlits := [], slot := 0
    replay := [], egress := [], vcs := Vector.replicate 5 resetVc
    live := bwTable, shadow := bwTable, mismatched := false }

/-- No units anywhere. -/
def zeroTotals : Totals := { l := 0, m := 0, a := 0, r := 0, i := 0, s := 0, v := 0, t := 0, x := 0, w := 0 }

/-- The commit record before any is made: sequence 0, no units. -/
def zeroRec : CommitRec :=
  { seq := 0, tot := zeroTotals, jseq := 0, head := 0, ckpt := 0, time := 0, strip := false, scour := false
    totals := false, recovery := false, period := 2, mark := false }

/-- An open group that holds nothing. -/
def emptyGroup : Group :=
  { change := false, force := false, recovery := false, mark := false, setTotals := none, after := [] }

/-- The commit period in cyc (R92). -/
def periodCyc (p : BitVec 3) : Nat := 800000 * 2 ^ p.toNat

/-- A record area of the flash that holds nothing (R301). -/
def freshArea (first count : Nat) : Append :=
  { sector := first, off := 0, frameSeq := 0, sectorSeq := 0, used := [], blank := (List.range count).map (first + ·) }

/-- A generation-table entry that has never been written (R227). -/
def zeroGen : GenEntry := { gen := 0, present := false, floor := 0, kcv := 0, kind := 0, dom := 0 }

/-- The boot record as shipped: bank A of both kinds ACTIVE. DESIGN CHOICE, notes/assumptions/7.md. -/
def shippedBoot : BootRec := { cpB := false, mssB := false, states := #v[2, 0, 2, 0] }

end Sys2Proof.Machine
end

