-- ==== Sys2Proof/Machine/State.lean ====
section
/-! DEFINITION. The machine: its state, the reasons a step can stop, and the state right after power-on reset. -/

namespace Sys2Proof.Machine

/-- Why a step stops with a fault. -/
inductive Fault where
  /-- A row of the table of operations names a spindle, arbiter, monitor source or seal context that the device does not
  have (R15, R242): raised by step for an ill-formed command. Safe: the hardware cannot receive one. -/
  | noSuchUnit
  deriving DecidableEq, Repr

/-- Why a step is refused. -/
inductive Refusal where
  /-- The model gives the command no meaning yet. Safe: nothing can be proved about what it does. -/
  | notModelled (mnemonic : String)
  deriving DecidableEq, Repr

/-- The state of one RZ7740 (INVENTORY.md lists it field by field), with everything it has sent out since reset and the
queue of commands that wait, first in, first out. -/
structure State where
  gctl : Gctl
  queues : Tab Queue
  /-- the epoch of a queue that is not listed (R34, R63) -/
  epochBase : BitVec 16
  domains : Tab Policy
  led : Ledger
  ru : RegUnit
  spn : SpindleUnit
  sl : SealUnit
  dig : DigestUnit
  ks : KeyUnit
  arb : ArbUnit
  mem : MemUnit
  skn : SkeinUnit
  kp : Keeper
  tmp : Tamper
  life : Life
  mss : MssUnit
  card : CardUnit
  pwr : PowerUnit
  posted : List Posted
  pending : List Instr
  deriving DecidableEq, Repr

/-- The GCTL, event and queue engine registers at power-on reset (R29, R30, R37). -/
def Gctl.reset : Gctl :=
  { en := false, aqReset := false, aqSqM1 := 1, aqCqM1 := 1, aqSqBase := 0, aqCqBase := 0, aqIrqMode := 0, aqVector := 0
    aqCoalTime := 0, aqCoalCount := 1, cycle := 0, cycleHi := 0, time := 0, slew := 0, evtStat := 0, evtMask := 0x7FF
    evtVec := 0, dbCount := 0, dbCause := 0, dbEpoch := false, dbQueue := 0, qsel := 0, sliceOwner := 0, ready := false
    recalling := true, d3hot := false, d3held := [], perstLow := true, linkWidth := 0, linkRate := 0, msix := []
    pba := [], nextId := 0 }

/-- Queue 0 as GCTL configures it at power-on reset, owned by domain 0 (R32). -/
def Queue.admin : Queue :=
  { st := .active, epoch := 0, dom := 0, sqTail := 0, sqHead := 0, cqHead := 0, cqTail := 0, sqSize := 2, cqSize := 2
    sqBase := 0, cqBase := 0, irqMode := 0, vector := 0, coalCount := 1, coalTime := 0, owed := 0, owedSince := 0
    cqRes := 0, phase := true, written := [], inflight := [], chainOpen := false, lastAnswer := none, ending := none }

/-- The ledger at power-on reset (R103). -/
def Ledger.reset : Ledger :=
  { pools := [], dram := [], pendingWt := [], live := zeroTotals, locks := [], lockGen := [], drains := [], strip := false, scour := false
    totals := false, group := emptyGroup, waiting := none, lastRec := zeroRec, durable := zeroRec, haveDurable := false
    fseq := 0, periodCfg := 2, period := 2, nextBoundary := 0, totLive := false, totQty := 0, refused := 0
    recovered := false, applied := false, nextHi := 0, cseqHi := 0, jseqHi := 0, totHi := 0, fseqHi := 0 }

/-- The register unit at power-on reset (R142). -/
def RegUnit.reset : RegUnit :=
  { reg := { buckets := [], stash := [], wbuf := [], accepted := [], changed := [], stashWarn := 0xE00, fpkSlot := 0
             stashHigh := 0, ops := 0 }
    jrn := { seq := 0, head := 0, ack := 0, pledged := 0, unwritten := [], written := 0, forced := [], base := 0
             en := false, ackGate := false, depth := 16, seqHi := 0, ackHi := 0, ckptHi := 0, rbldHi := 0 }
    ckpt := none, ckptWait := [], ckptDone := 0, ckptNext := 1
    rb := { needed := false, begun := false, expect := 0, head := 0, broken := false, last := 0, leaves := 0 } }

/-- The spindle pool at power-on reset (R173). -/
def SpindleUnit.reset : SpindleUnit :=
  { sp := Vector.replicate 40 resetSpindle, signParked := [], verifyParked := [], curves := [], sel := 0
    ran := [], katRunning := false, katPass := false, katSpindle := 0 }

/-- The seal engine at power-on reset (R199). -/
def SealUnit.reset : SealUnit :=
  { ctxs := [], cache := [], evicted := [], fills := [], runs := [], pipe := [], holdBusy := 0, key := 0, sd := [], restoring := []
    wiping := false, miss := 0, broken := 0, exhausted := 0, tagFails := 0, blocks := 0, blocksHi := 0, dsel := 0
    floorHi := 0 }

/-- The digest engine at power-on reset (R211, R212). -/
def DigestUnit.reset : DigestUnit :=
  { ctxs := Vector.replicate 64 closedDig, runs := [], restarts := 0, mismatch := 0, blocks := 0, blocksHi := 0
    util := 0 }

/-- The key store at power-on reset, with what fuses and BBRAM hold in a device never powered before (R213, R241). -/
def KeyUnit.reset : KeyUnit :=
  { slots := [], dmks := [], gens := [], fuse := Config.fuseShare, shares := [], mnonce := none, root := 0
    archiveLoaded := false, seeded := false, outputs := 0, draws := 0, entIn := false, entFails := 0, entTesting := false
    sweep := 0, revs := 0, orphaned := 0, corrupted := 0, kcvFails := 0, entFailCount := 0, dsel := 0 }

/-- The arbiter index block at power-on reset (R243, R263). -/
def ArbUnit.reset : ArbUnit :=
  { arbs := [], selArb := 0, selReq := 0, out := 0, lastCause := 0, lastIn := false, lastUnit := 0, waiting := [], leaving := [], returning := [] }

/-- The memory schedule at power-on reset (R251, R264). -/
def MemUnit.reset : MemUnit :=
  { live := memTable, shadow := memTable, swap := false, swapAt := 0, bad := false, spare := Vector.replicate 4 32
    corrections := [], copying := [], spared := [], ecc := 0, selfRefresh := false, trained := false, inited := false }

/-- The Skein unit at power-on reset (R29, R292). -/
def SkeinUnit.reset : SkeinUnit :=
  { en := false, autoReturn := true, keySlot := 0, east := resetPort, west := resetPort, ring := false, reach := 1
    nodes := 1, head := true, nodeId := 0, mismatch := 0, rounds := 0, timeout := 100, cselWest := false, cselVc := 0
    txSeq := [], rxSeq := [], rxBuf := [], members := [], candidates := [], candidate := false, arrived := none, parts := [], retired := [], lost := [], map := []
    version := 0, newMap := none, mapAsk := none, mapIn := [], agreed := none, cutOff := false, transfers := [], xwait := [], routed := [], nextTag := 0 }

/-- The keeper die as shipped, with recall running (R311). -/
def Keeper.reset : Keeper :=
  { fe0 := [], fe1 := [], flash := [], powered := true, tripped := false, stage := 1, cu := none, queue := []
    log := freshArea 288 99, config := freshArea 387 16, archive := freshArea 403 8, frame := none, frames := []
    erase := none, eraseQueue := [], erases := [], replaced := [], failedSectors := [], records := [], blobs := []
    posts := [], postsLost := 0, regionFails := [], feCorrected := 0, feRepaired := 0, flRelocated := 0, fePage := 0
    flSector := 0 }

/-- The tamper controller of a device never powered before (R322, R346). -/
def Tamper.reset : Tamper :=
  { level := 0, latched := false, active := 0, fired := 0, cfg := defaultTamper, lastResp := 0, lastDetail := 0
    lastSource := 0, count := 0, testFails := 0, lastTest := 0, tests := [], testing := false, suppressed := none
    stage := .idle, testFailed := false, dwell := false, releasing := false, release := none, store := [], overflow := 0
    canary := .blank, aotCount := 0, aotAcc := 0 }

/-- The fuses of a device in FAB (R29, R338). -/
def Life.reset : Life :=
  { serial := Config.serial, count := 0, ownerHash := none, challenge := none, cpSv := 0, mssSv := 0, resetDue := false }

/-- The management subsystem at power-on reset: its ROM waits for recall to boot it (R348). -/
def MssUnit.reset : MssUnit :=
  { st := .booting, setA := none, setB := none, mss := none, boot := shippedBoot, staging := none, ho := none, hoStep := 0
    hoOutcome := 0, smbus := [], running := none, begun := false, forwarded := [], spiWaiting := none, spiOut := none, spiErr := false, svcEn := false
    eid := 0, partialMsg := [], discarded := 0, smbAddr := 0x62, sensors := Vector.replicate 16 0, reboot := none, update := false
    rebootCheck := 0, mcyc := 0, mdiv := 0 }

/-- The card slot at power-on reset (R387). -/
def CardUnit.reset : CardUnit :=
  { en := false, auto := true, wide := true, maxClk := 2, detFilter := 255, busyMs := 250, present := false
    ready := false, hs := false, busy := false, err := false, v18 := Config.cardV18, power := false, cid := 0, media := none
    formatted := false, op := none, auditNext := 0, removals := 0, failures := 0 }

/-- The power and clocks block at power-on reset, stage 1 of start-up ended (R400, R404). -/
def PowerUnit.reset : PowerUnit :=
  { st := .active, wakeSrc := 0, bad := false, dpReset := false, dozePend := false, doze := false, rstCause := 1
    sscEn := false, spread := 0, slewCard := 2, slewSvc := 1, slewTloop := 1, slewMisc := 1, filtSys := 24
    filtPerst := 24, dozeCnt := 0, corePll := false, memPll := false, sknPll := false, porLow := false, sysLow := false
    planeLow := false, stages := [1], idle := [], heldWrites := [] }

/-- The machine right after power-on reset is released: every field at the value the manual states for reset; the values
it leaves open are those of notes/assumptions/6.md and 7.md. -/
def State.reset : State :=
  { gctl := .reset, queues := [], epochBase := 0, domains := [], led := .reset, ru := .reset, spn := .reset
    sl := .reset, dig := .reset, ks := .reset, arb := .reset, mem := .reset, skn := .reset, kp := .reset, tmp := .reset
    life := .reset, mss := .reset, card := .reset, pwr := .reset, posted := [], pending := [] }

end Sys2Proof.Machine
end

