-- ==== Sys2Proof/Machine/Ops.lean ====
section
/-! DEFINITION. The operations every family of commands shares: what is sent out and in which order, events and the event
log, entropy, time, the posting of a reply, and what a body answers. -/

namespace Sys2Proof.Machine

/-! ## Sending -/

/-- A posted write, reply or message leaves the device; in D3hot it is held until D0 returns (R25, R31). -/
def State.post (o : Posted) (s : State) : State :=
  if s.gctl.d3hot then { s with gctl := { s.gctl with d3held := s.gctl.d3held ++ [o] } }
  else { s with posted := s.posted ++ [o] }

/-- A completion, a Skein packet or a side-band message leaves the device at once. -/
def State.emit (o : Posted) (s : State) : State := { s with posted := s.posted ++ [o] }

/-- The entry of the MSI-X table, with the mask bit set where it was never written. -/
def State.msixEntry (s : State) (v : BitVec 11) : BitVec 128 := s.gctl.msix.get v.toNat (1#128 <<< 96)

/-- An MSI-X message on a vector: sent, or left pending while the vector is masked (notes/assumptions/10.md). -/
def State.sendMsix (v : BitVec 11) (s : State) : State :=
  if (s.msixEntry v).getLsbD 96 then { s with gctl := { s.gctl with pba := s.gctl.pba.put v.toNat true } }
  else s.post (.msix v)

/-- A bit of `EVT_STAT` is set; if it was 0 and is not masked, the device sends a message on the event vector (R30). -/
def State.raise (bit : Nat) (s : State) : State :=
  let s' := { s with gctl := { s.gctl with evtStat := setBit s.gctl.evtStat bit true } }
  if !s.gctl.evtStat.getLsbD bit && !s.gctl.evtMask.getLsbD bit then s'.sendMsix s.gctl.evtVec else s'

/-- The bits of `EVT_STAT` (R30). -/
def evStarve : Nat := 0
def evTamper : Nat := 1
def evUnitSvc : Nat := 2
def evJournalBp : Nat := 3
def evLockLapsed : Nat := 4
def evDbErr : Nat := 5
def evHandover : Nat := 6
def evCard : Nat := 7
def evNode : Nat := 8
def evWatchdog : Nat := 9
def evFrozen : Nat := 10

/-- An event record is posted to the log; while the MSS does not run or recall is in progress, posts beyond 64 are lost and
counted (R312, R360). -/
def State.log (code : BitVec 16) (plane severity : Byte) (detail : Bytes) (s : State) : State :=
  let held := s.gctl.recalling || s.mss.st != .running
  if held && decide (64 ≤ s.kp.posts.length) then { s with kp := { s.kp with postsLost := s.kp.postsLost + 1 } }
  else
    let e : Event := { code, plane, severity, time := s.gctl.time
                       stamp := if plane = 2 then s.mss.mcyc else s.gctl.cycle, detail := slice detail 0 32 }
    { s with kp := { s.kp with posts := s.kp.posts ++ [e] } }

/-! ## Entropy and time -/

/-- The next 256-bit word of the entropy source (R233): a FREE VALUE, notes/assumptions/5.md. -/
def State.draw (s : State) : BitVec 256 := Config.entropy s.ks.draws

/-- The generator has delivered `n` words; it reseeds after every 65,536 outputs (R233). -/
def State.drawn (n : Nat) (s : State) : State :=
  { s with ks := { s.ks with draws := s.ks.draws + n, outputs := (s.ks.outputs + n) % 65536 } }

/-- The digest engine has compressed `n` blocks, 17 cycles each (R200, R212). -/
def State.hashed (n : Nat) (s : State) : State :=
  { s with dig := { s.dig with blocks := s.dig.blocks + BitVec.ofNat 64 n, util := satAdd s.dig.util (17 * n) } }

/-- The cycle counter as a number. -/
def State.now (s : State) : Nat := s.gctl.cycle.toNat

/-- `n` seconds of real time pass: the device time advances, less the seconds for which `TIME_SET` holds it still (R5, R61). -/
def Gctl.seconds (n : Nat) (g : Gctl) : Gctl :=
  let still := min n g.slew.toNat
  { g with time := g.time + BitVec.ofNat 32 (n - still), slew := g.slew - BitVec.ofNat 32 still }

/-- `n` nominal core cycles pass outside CLK_CORE: the MSS clock counts an eighth of them, and the always-on clock one period in
390,625 sixteenths of a cycle, 32,768 of which are one second of the device time (R4, R5, R18). -/
def State.lapsed (n : Nat) (s : State) : State :=
  let k := (s.tmp.aotAcc + 16 * n) / 390625
  { s with
    mss := if s.mss.st = .off then s.mss
           else { s.mss with mdiv := BitVec.ofNat 3 (s.mss.mdiv.toNat + n)
                             mcyc := s.mss.mcyc + BitVec.ofNat 64 ((s.mss.mdiv.toNat + n) / 8) }
    tmp := { s.tmp with aotAcc := (s.tmp.aotAcc + 16 * n) % 390625, aotCount := s.tmp.aotCount + BitVec.ofNat 32 k }
    gctl := s.gctl.seconds ((s.tmp.aotCount.toNat % 32768 + k) / 32768) }

/-- The slots an owner has in a table. -/
def slotsOf (t : Vector (BitVec 4) 64) (o : Nat) : Nat := (t.toList.filter fun v => v.toNat == o).length

/-- A table R253 lets in. -/
def tableOk (t : Vector (BitVec 4) 64) : Bool :=
  (t.toList.all fun v => !(decide (5 ≤ v.toNat ∧ v.toNat ≤ 14))) && decide (8 ≤ slotsOf t 0) &&
  ([1, 2, 3, 4] : List Nat).all fun o => decide (1 ≤ slotsOf t o)

/-- A frame boundary: the live table takes the shadow, or the swap is refused (R252, R253). -/
def MemUnit.swapped (m : MemUnit) : MemUnit :=
  if tableOk m.shadow then { m with live := m.shadow, swap := false, bad := false } else { m with swap := false, bad := true }

/-- The memory schedule at a cycle: a swap whose boundary has come is made (R252). -/
def MemUnit.settled (t : Nat) (m : MemUnit) : MemUnit := if m.swap && decide (m.swapAt ≤ t) then m.swapped else m

/-- The owner of the slot in which a cycle lies is `o` (R250). A row that brings a transfer in another owner's slot changes nothing (DESIGN
CHOICE, notes/assumptions/84.md). -/
def State.slotIs (s : State) (t o : Nat) : Bool := (s.mem.live.toList.getD (t / 16 % 64) 0).toNat == o

/-- The cycle counter moves on to a cycle that has not passed yet, and with it every other clock (R18); a table swap on the way is made
(R252). -/
def State.advanceTo (t : Nat) (s : State) : State :=
  if s.now ≤ t then
    let s' := s.lapsed (t - s.now)
    { s' with gctl := { s'.gctl with cycle := BitVec.ofNat 64 t }, mem := s.mem.settled t }
  else s

/-! ## Queues -/

/-- The queue of a number; one never created is absent (R34). -/
def State.queue (s : State) (q : QId) : Queue :=
  s.queues.get q.toNat { Queue.admin with st := .absent, epoch := s.epochBase }

/-- A queue changed. -/
def State.setQueue (q : QId) (x : Queue) (s : State) : State := { s with queues := s.queues.put q.toNat x }

/-- The policy in force for a domain (R40, R425). -/
def State.policy (s : State) (d : Dom) : Policy := s.domains.get d.toNat (startPolicy d)

/-- A ring index after the next entry (R32). -/
def ringNext (size : Nat) (i : BitVec 12) : BitVec 12 := BitVec.ofNat 12 ((i.toNat + 1) % size)

/-- How many entries lie from one ring index to another. -/
def ringSpan (size : Nat) (a b : BitVec 12) : Nat := (b.toNat + size - a.toNat % size) % size

/-- The completion slots of a queue that are neither written and unreleased nor reserved (R32, R35). -/
def Queue.freeSlots (x : Queue) : Nat := x.cqSize - 1 - ringSpan x.cqSize x.cqHead x.cqRes

/-- The completion tail moves past every slot that has been written (R32). -/
def Queue.settle : Nat → Queue → Queue
  | 0, x => x
  | n + 1, x =>
    if x.written.contains x.cqTail then
      Queue.settle n { x with written := x.written.erase x.cqTail, cqTail := ringNext x.cqSize x.cqTail }
    else x

/-- A queue after replies have been signalled (R59). -/
def Queue.signalled (x : Queue) : Queue := { x with owed := 0, owedSince := 0 }

/-- The message a reply gives rise to (R59): none in mode 0; one for every reply in mode 1; in coalesced mode one when the
count is full or the packet carries NOTIFY. -/
def State.signal (q : QId) (notify : Bool) (s : State) : State :=
  let x := s.queue q
  if x.irqMode = 0 then s
  else if x.irqMode = 1 ∨ notify ∨ x.coalCount.toNat ≤ x.owed + 1 then
    (s.setQueue q x.signalled).sendMsix x.vector
  else s.setQueue q { x with owed := x.owed + 1, owedSince := if x.owed = 0 then s.now else x.owedSince }

/-- The status reply of a held command on a queue in its present phase (R51, R52). -/
def Held.reply (h : Held) (phase : Bool) : Reply :=
  { tag := h.tag, status := h.status, unit := h.unit, chainEnd := h.chainEnd, truncated := h.truncated, phase
    sqHead := h.sqHead, resultLen := h.resultLen, cycles := h.cycles, arbWait := h.arbWait, inl := h.inl }

/-- The 32 bytes of a status reply (R51, R52). -/
def Reply.bytes (r : Reply) : Bytes :=
  leBytes 4 r.tag.toNat ++ leBytes 2 r.status.toNat ++
  [BitVec.ofNat 8 (r.phase.toNat + 2 * r.truncated.toNat + 4 * r.chainEnd.toNat), r.unit] ++
  leBytes 4 r.sqHead.toNat ++ leBytes 4 r.resultLen.toNat ++ leBytes 4 r.cycles.toNat ++ leBytes 4 r.arbWait.toNat ++
  leBytes 8 r.inl.toNat

/-- The reply message of the side-band port (R351). -/
def smbusReply (h : Held) : Bytes :=
  [0x7E, 0x1F, 0x3C, 0x81] ++ (h.reply Config.sidePhase).bytes ++ zeros 32 ++ (h.write.map Prod.snd).getD []

/-- A service port frame with its CRC (R352). -/
def spiFrame (typ : Byte) (payload : Bytes) : Bytes :=
  let b := [0x5A, typ] ++ leBytes 2 payload.length ++ payload
  b ++ leBytes 4 (crc32 b).toNat

/-- The packet that follows an answered one in the ring learns how that one was answered (R44). -/
def answered (id : Nat) (ok : Bool) : List Fetched → List Fetched
  | a :: b :: rest =>
    if a.id = id then a :: { b with prior := some ok } :: rest else a :: answered id ok (b :: rest)
  | l => l

/-- A reply enters the PCIe boundary FIFO: the result write, then the reply in the slot reserved for it, then the
message that is due (R31, R35, R59). A command whose queue a reset has ended posts nothing (R63); no reply carries CHAIN_END for a
chain that a reset of the queue has ended (R44). -/
def State.postHost (h : Held) (s : State) : State :=
  let x := s.queue h.q
  match x.inflight.find? (·.id == h.id) with
  | none => s
  | some f =>
    let s := match h.write with
      | some (addr, bytes) => if bytes.isEmpty then s else s.post (.hostWrite addr bytes)
      | none => s
    let s := s.post (.reply h.q f.slot ({ h with chainEnd := h.chainEnd && f.linked }.reply f.phase))
    let s := s.setQueue h.q <| Queue.settle x.cqSize
      { x with written := f.slot :: x.written
               inflight := (answered h.id (h.status == 0) x.inflight).filter (·.id != h.id)
               lastAnswer := if (x.inflight.getLast?.map (·.id)) = some h.id then some (h.status == 0) else x.lastAnswer }
    s.signal h.q h.notify

/-- The MSS has done with a command that came through a host queue (R349). -/
def State.mssDone (h : Held) (s : State) : State :=
  match s.mss.running with
  | some (.host, c) =>
    if c.q = h.q ∧ c.pkt.tag = h.tag then { s with mss := { s.mss with running := none } } else s
  | _ => s

/-- The side-band or service port command that the MSS runs is the one a reply belongs to; a reset of the MSS discards it (R369). -/
def State.sideRuns (h : Held) (s : State) : Bool :=
  match s.mss.running with
  | some (v, c) => v == h.via && c.pkt.tag == h.tag
  | none => false

/-- A reply leaves by the transport its command came on (R31, R349). -/
def State.postReply (h : Held) (s : State) : State :=
  match h.via with
  | .host => (s.postHost h).mssDone h
  | .smbus =>
    if s.sideRuns h then { s with posted := s.posted ++ [.smbus (smbusReply h)], mss := { s.mss with running := none } } else s
  | .spi =>
    let f := spiFrame 0x81 ((h.reply Config.sidePhase).bytes ++ (h.write.map Prod.snd).getD [])
    if s.sideRuns h then { s with mss := { s.mss with running := none, spiOut := some f } } else s

/-! ## What a command's body answers -/

/-- A command that has been dispatched: the packet with what its surroundings bring, its queue's epoch and domain, the unit
that runs it, and its place in the ring and in a chain. -/
structure Ctx where
  c : Cmd
  epoch : BitVec 16
  dom : Dom
  id : Nat
  unit : Byte
  sqHead : BitVec 12
  chainEnd : Bool
  /-- the key ranges of the policy it was decoded under (R40) -/
  keys : BitVec 256
  deriving DecidableEq, Repr

/-- When the reply of a command is posted. -/
inductive When where
  /-- as the command ends -/
  | now
  /-- when the open commit group is durable (R21) -/
  | group
  /-- by a step that comes later, which holds the reply -/
  | later
  deriving DecidableEq, Repr

/-- What a body answers: the new state, the status, the fixed cycles of the path taken, inline_result, the full result and
when the reply is posted. -/
structure Out where
  s : State
  status : BitVec 16 := 0
  cyc : Nat
  inl : BitVec 64 := 0
  result : Bytes := []
  when_ : When := .now

/-- A refusal or failure: the state as given, no result. -/
def Out.stop (s : State) (status : BitVec 16) (cyc : Nat) : Out := { s, status, cyc }

/-- The reply of a command (R48, R51, R53): cycles and waits saturate, and a result longer than `out_len` is cut. -/
def Ctx.held (x : Ctx) (status : BitVec 16) (cyc : Nat) (inl : BitVec 64) (result : Bytes) : Held :=
  let p := x.c.pkt
  { q := x.c.q, via := x.c.via, id := x.id, tag := p.tag, status, unit := x.unit, chainEnd := x.chainEnd
    truncated := decide (p.outLen.toNat < result.length), notify := p.notify, sqHead := x.sqHead
    resultLen := sat 32 result.length, cycles := sat 32 (cyc + x.c.waits.total), arbWait := sat 32 x.c.waits.arb, inl
    write := if result.isEmpty then none
             else some (p.outPtr, result.take p.outLen.toNat) }

/-- A held command fails: its status, no result, its cycles. -/
def Held.fail (st : BitVec 16) (cyc : Nat) (h : Held) : Held :=
  { h with status := st, truncated := false, resultLen := 0, inl := 0, write := none, cycles := sat 32 cyc }

/-- inline_result with a value at byte `24 + k`. -/
def inlAt (k v : Nat) : BitVec 64 := BitVec.ofNat 64 (v * 256 ^ k)

/-! ## Statuses (R55) -/

def stBadOpcode : BitVec 16 := 0x0101
def stBadLength : BitVec 16 := 0x0102
def stLengthMismatch : BitVec 16 := 0x0103
def stBadHandle : BitVec 16 := 0x0104
def stNotPermitted : BitVec 16 := 0x0105
def stQueueResetAbort : BitVec 16 := 0x0106
def stChainBroken : BitVec 16 := 0x0107
def stBadParameter : BitVec 16 := 0x0108
def stHostMemory : BitVec 16 := 0x0109
def stWatchdog : BitVec 16 := 0x0201
def stOutOfService : BitVec 16 := 0x0202
def stPoolEmpty : BitVec 16 := 0x0301
def stSerialExhausted : BitVec 16 := 0x0302
def stPoolFrozen : BitVec 16 := 0x0303
def stLockHeld : BitVec 16 := 0x0304
def stConservation : BitVec 16 := 0x0305
def stBackpressure : BitVec 16 := 0x0306
def stCertInvalid : BitVec 16 := 0x0307
def stDuplicate : BitVec 16 := 0x0401
def stNotFound : BitVec 16 := 0x0402
def stAdmitLimit : BitVec 16 := 0x0403
def stStateConflict : BitVec 16 := 0x0404
def stStashFull : BitVec 16 := 0x0405
def stRebuilding : BitVec 16 := 0x0406
def stRebuildMismatch : BitVec 16 := 0x0407
def stTagMismatch : BitVec 16 := 0x0501
def stSignatureReject : BitVec 16 := 0x0502
def stNonceExhausted : BitVec 16 := 0x0503
def stMessageTooLong : BitVec 16 := 0x0504
def stContextBroken : BitVec 16 := 0x0505
def stJobAborted : BitVec 16 := 0x0506
def stSelfCheck : BitVec 16 := 0x0507
def stSlotCorrupt : BitVec 16 := 0x0601
def stParentInvalid : BitVec 16 := 0x0602
def stKcvMismatch : BitVec 16 := 0x0603
def stUsageDenied : BitVec 16 := 0x0604
def stNoFreeSlot : BitVec 16 := 0x0605
def stTamperAbort : BitVec 16 := 0x0701
def stHoldActive : BitVec 16 := 0x0702
def stLifecycleDenied : BitVec 16 := 0x0703
def stRecallBusy : BitVec 16 := 0x0801
def stSupplyLow : BitVec 16 := 0x0802
def stPassword : BitVec 16 := 0x0803
def stMirrorConflict : BitVec 16 := 0x0804
def stNodeUnreachable : BitVec 16 := 0x0901
def stInDoubt : BitVec 16 := 0x0902
def stCardAbsent : BitVec 16 := 0x0A01
def stCardProtected : BitVec 16 := 0x0A02
def stCardPulled : BitVec 16 := 0x0A03
def stSlipInvalid : BitVec 16 := 0x0A04
def stSlipUnconfirmed : BitVec 16 := 0x0A05
def stImageRejected : BitVec 16 := 0x0B01
def stHandoverAborted : BitVec 16 := 0x0B02

/-- A check that refuses with a status when its condition fails; the first failure of a list counts (R47). -/
def firstFail : List (Bool × BitVec 16) → Option (BitVec 16)
  | [] => none
  | (ok, st) :: rest => if ok then firstFail rest else some st

end Sys2Proof.Machine
end

