-- ==== Sys2Proof/Machine/Clock.lean ====
section
/-! DEFINITION. The passing of one nominal core clock cycle while no command waits (R4, R5, R18): what `step` does on an empty
queue (notes/assumptions/2.md). -/

namespace Sys2Proof.Machine

/-- CLK_CORE runs: outside DOZE and reset, once the core PLL's output is used (R19, R391, R394, R397). -/
def State.coreRuns (s : State) : Bool := s.pwr.st == .active && s.pwr.corePll

/-- One cycle: the core counter, where CLK_CORE runs, a table swap at a frame boundary (R252), and the clocks beside it. -/
def State.tick (s : State) : State :=
  let s : State := if s.coreRuns then
      { s with gctl := { s.gctl with cycle := s.gctl.cycle + 1 }, mem := s.mem.settled (s.now + 1) }
    else s
  s.lapsed 1

end Sys2Proof.Machine
end

