-- ==== Sys2Proof/Machine/Memory.lean ====
section
/-! DEFINITION. A sparse byte memory in canonical form: the cells that do not hold what an unlisted address reads as, by
strictly rising address. The FeRAM banks read 0 where nothing was written (R295), the flash 0xFF (R293). -/

namespace Sys2Proof.Machine

/-- The cells of a memory. -/
abbrev Memory := List Host.Cell

/-- What an unlisted byte of FeRAM, and of erased flash, reads as (R293, R295). -/
def feBlank : Byte := 0
def flBlank : Byte := 0xFF

/-- The byte at an address, with `d` for what is not listed. -/
def readByte (d : Byte) : Memory → Nat → Byte
  | [], _ => d
  | (j, b) :: rest, a => if j = a then b else if a < j then d else readByte d rest a

/-- A byte set; the value an unlisted address reads as removes the cell. -/
def writeByte (d : Byte) : Memory → Nat → Byte → Memory
  | [], a, b => if b = d then [] else [(a, b)]
  | (j, c) :: rest, a, b =>
    if j = a then (if b = d then rest else (a, b) :: rest)
    else if a < j then (if b = d then (j, c) :: rest else (a, b) :: (j, c) :: rest)
    else (j, c) :: writeByte d rest a b

/-- `n` bytes from an address. -/
def readBytes (d : Byte) (m : Memory) (a n : Nat) : Bytes := (List.range n).map fun k => readByte d m (a + k)

/-- A byte string written from an address upward. -/
def writeBytes (d : Byte) : Memory → Nat → Bytes → Memory
  | m, _, [] => m
  | m, a, b :: rest => writeBytes d (writeByte d m a b) (a + 1) rest

/-- Bytes programmed into flash: a bit only goes from 1 to 0 (R293). -/
def programBytes : Memory → Nat → Bytes → Memory
  | m, _, [] => m
  | m, a, b :: rest => programBytes (writeByte flBlank m a (readByte flBlank m a &&& b)) (a + 1) rest

/-- A range of addresses erased: it reads as unlisted. -/
def eraseRange (m : Memory) (a n : Nat) : Memory := m.filter fun c => !(decide (a ≤ c.1) && decide (c.1 < a + n))

/-- The cells' addresses rise strictly from `lo` on, and none holds what an unlisted address reads as. -/
def wfFrom (d : Byte) : Nat → Memory → Bool
  | _, [] => true
  | lo, (j, b) :: rest => decide (lo ≤ j) && b != d && wfFrom d (j + 1) rest

/-- The canonical form. -/
def Memory.wf (d : Byte) (m : Memory) : Bool := wfFrom d 0 m

end Sys2Proof.Machine
end

