-- ==== Sys2Proof/Machine/Codec.lean ====
section
/-! DEFINITION. The records the manual lays out byte by byte: pool, journal, register, commit, checkpoint root, transfer and
generation-table records, wear ring slots and flash frames, with the readers of those the device reads back. -/

namespace Sys2Proof.Machine

/-! ## Pool records (R65) -/

/-- The ten counters in the order of R93: L, M, then the eight states. -/
def Totals.list (t : Totals) : List Nat := [t.l, t.m, t.a, t.r, t.i, t.s, t.v, t.t, t.x, t.w]

/-- Ten counters read in that order. -/
def totalsOf (f : Nat → Nat) : Totals :=
  { l := f 0, m := f 1, a := f 2, r := f 3, i := f 4, s := f 5, v := f 6, t := f 7, x := f 8, w := f 9 }

/-- The counters of a pool. -/
def Pool.totals (p : Pool) : Totals :=
  { l := p.l, m := p.m, a := p.a, r := p.r, i := p.i, s := p.s, v := p.v, t := p.t, x := p.x, w := p.w }

/-- A pool with other counters. -/
def Pool.withTotals (t : Totals) (p : Pool) : Pool :=
  { p with l := t.l, m := t.m, a := t.a, r := t.r, i := t.i, s := t.s, v := t.v, t := t.t, x := t.x, w := t.w }

/-- The status byte of a pool record. -/
def Pool.status (p : Pool) : Byte :=
  BitVec.ofNat 8 (p.st.toNat + 4 * p.host.toNat + 8 * p.rebuild.toNat + 16 * p.checker.toNat + 32 * p.recovering.toNat)

/-- A pool with other freeze causes: bits 2 to 5 of the status byte. -/
def Pool.withCauses (v : Byte) (p : Pool) : Pool :=
  { p with host := v.getLsbD 2, rebuild := v.getLsbD 3, checker := v.getLsbD 4, recovering := v.getLsbD 5 }

/-- The policy field of a pool record, bytes 62 to 63. -/
def Pool.policy (p : Pool) : Nat := p.slot.toNat + 0x1000 * p.reissue.toNat + 0x2000 * p.exclusive.toNat

/-- A pool with the policy of a field. -/
def Pool.withPolicy (v : Nat) (p : Pool) : Pool :=
  { p with slot := BitVec.ofNat 12 v, reissue := v.testBit 12, exclusive := v.testBit 13 }

/-- An OPEN pool with all counters 0 (R81). -/
def newPool (dom : Dom) (base limit policy : Nat) : Pool :=
  ({ l := 0, m := 0, a := 0, r := 0, i := 0, s := 0, v := 0, t := 0, x := 0, w := 0, next := base, limit, dom, st := 1
     host := false, rebuild := false, checker := false, recovering := false, slot := 0, reissue := false
     exclusive := false } : Pool).withPolicy policy

/-- The 64 bytes of a pool record (R65). -/
def Pool.bytes (p : Pool) : Bytes :=
  (p.totals.list.flatMap (leBytes 5)) ++ leBytes 5 p.next ++ leBytes 5 p.limit ++ [p.dom, p.status] ++ leBytes 2 p.policy

/-- A pool record read back; none where the state is ABSENT. -/
def poolOf (bs : Bytes) : Option Pool :=
  let st : Byte := (slice bs 61 1).headD 0
  if st &&& 3 = 0 then none
  else some <|
    (((newPool ((slice bs 60 1).headD 0) (leAt bs 50 5) (leAt bs 55 5) (leAt bs 62 2)).withTotals
      (totalsOf fun k => leAt bs (5 * k) 5)).withCauses st |> fun p => { p with st := st.setWidth 2 })

/-! ## Register entries (R104) -/

/-- The fingerprint that 16 bytes spell: bit i is bit (i mod 8) of byte i/8 (R107). -/
def fpOf (bs : Bytes) : BitVec 128 := BitVec.ofNat 128 (leAt bs 0 16)

/-- The bytes of a fingerprint. -/
def fpBytes (fp : BitVec 128) : Bytes := leBytes 16 fp.toNat

/-- A FREE position: every byte 0 (R105). -/
def freeEntry : Entry :=
  { fp := 0, pool := 0, serial := 0, state := 0, admits := 0, limit := 0, node := 0, flags := 0, time := 0 }

/-- The 32 bytes of an entry (R104). -/
def entryBytes (e : Entry) : Bytes :=
  fpBytes e.fp ++ leBytes 2 e.pool.toNat ++ leBytes 5 e.serial.toNat ++ [e.state, e.admits, e.limit, e.node, e.flags] ++
  leBytes 4 e.time.toNat

/-- An entry read back. -/
def entryOf (bs : Bytes) : Entry :=
  let b (k : Nat) : Byte := (slice bs k 1).headD 0
  { fp := fpOf bs, pool := BitVec.ofNat 16 (leAt bs 16 2), serial := BitVec.ofNat 40 (leAt bs 18 5), state := b 23
    admits := b 24, limit := b 25, node := b 26, flags := b 27, time := BitVec.ofNat 32 (leAt bs 28 4) }

/-! ## Journal records (R124) -/

/-- Bytes 0 to 47 of a journal record. -/
def JRec.bytes (r : JRec) (seq : Nat) (time : BitVec 32) : Bytes :=
  leBytes 8 seq ++ [r.typ, r.flags] ++ leBytes 2 r.pool.toNat ++ leBytes 5 r.serial.toNat ++ [r.node, r.admits, 0] ++
  fpBytes r.fp ++ leBytes 4 time.toNat ++ leBytes 4 r.delta.toNat ++ leBytes 4 r.aux.toNat

/-- A journal record read back (its sequence, time and chain tag are bytes 0–7, 36–39 and 48–63). -/
def jrecOf (bs : Bytes) : JRec :=
  let b (k : Nat) : Byte := (slice bs k 1).headD 0
  { typ := b 8, flags := b 9, pool := BitVec.ofNat 16 (leAt bs 10 2), serial := BitVec.ofNat 40 (leAt bs 12 5)
    node := b 17, admits := b 18, fp := fpOf (slice bs 20 16), delta := BitVec.ofNat 32 (leAt bs 40 4)
    aux := BitVec.ofNat 32 (leAt bs 44 4) }

/-- The chain head after a record (R125). -/
def chainNext (head : Digest) (rec48 : Bytes) : Digest := sm3CF head (rec48 ++ zeros 16)

/-- The head before the first record: SM3 (JK, device serial, 0x01) (R125). -/
def chainStart (jk : BitVec 256) : Digest := sm3 (digestBytes jk ++ leBytes 8 Config.serial.toNat ++ [0x01])

/-! ## Commit records (R93) -/

/-- A check value: the first bytes of SM3 over what it covers. -/
def checkOf (n : Nat) (bs : Bytes) : Bytes := sm3First n bs

/-- Bytes 0 to 123 of a commit record. -/
def CommitRec.body (r : CommitRec) : Bytes :=
  leBytes 8 r.seq ++ r.tot.list.flatMap (leBytes 6) ++ leBytes 8 r.jseq ++ digestBytes r.head ++ leBytes 8 r.ckpt ++
  leBytes 4 r.time.toNat ++
  leBytes 2 (r.strip.toNat + 2 * r.scour.toNat + 4 * r.totals.toNat + 8 * r.recovery.toNat) ++
  [BitVec.ofNat 8 r.period.toNat, 0]

/-- The 128 bytes of a commit record. -/
def CommitRec.bytes (r : CommitRec) : Bytes := r.body ++ checkOf 4 r.body

/-- A commit record read back, if its check passes. -/
def commitOf (bs : Bytes) : Option CommitRec :=
  if slice bs 124 4 = checkOf 4 (slice bs 0 124) ∧ leAt bs 0 8 ≠ 0 then
    let f := leAt bs 120 2
    some
      { seq := leAt bs 0 8, tot := totalsOf fun k => leAt bs (8 + 6 * k) 6, jseq := leAt bs 68 8
        head := BitVec.ofNat 256 (beNat (slice bs 76 32)), ckpt := leAt bs 108 8, time := BitVec.ofNat 32 (leAt bs 116 4)
        strip := f.testBit 0, scour := f.testBit 1, totals := f.testBit 2, recovery := f.testBit 3
        period := BitVec.ofNat 3 (leAt bs 122 1), mark := false }
  else none

/-! ## Checkpoint root records (R135) -/

/-- A checkpoint root record. -/
structure RootRec where
  id : Nat
  jseq : Nat
  head : Digest
  root : Digest
  time : BitVec 32
  leaves : Nat
  deriving DecidableEq, Repr

/-- Its 96 bytes. -/
def RootRec.bytes (r : RootRec) : Bytes :=
  let b := leBytes 8 r.id ++ leBytes 8 r.jseq ++ digestBytes r.head ++ digestBytes r.root ++ leBytes 4 r.time.toNat ++
    leBytes 2 r.leaves ++ leBytes 2 1 ++ zeros 4
  b ++ checkOf 4 b

/-- A root record read back, if its check passes. -/
def rootOf (bs : Bytes) : Option RootRec :=
  if slice bs 92 4 = checkOf 4 (slice bs 0 92) ∧ leAt bs 86 2 = 1 then
    some { id := leAt bs 0 8, jseq := leAt bs 8 8, head := BitVec.ofNat 256 (beNat (slice bs 16 32))
           root := BitVec.ofNat 256 (beNat (slice bs 48 32)), time := BitVec.ofNat 32 (leAt bs 80 4)
           leaves := leAt bs 84 2 }
  else none

/-! ## Transfer records (R283, R378) -/

/-- The 64 bytes of a transfer record. -/
def Transfer.bytes (t : Transfer) : Bytes :=
  leBytes 8 t.id.toNat ++ [t.kind, t.st] ++ leBytes 2 t.pool.toNat ++ leBytes 4 t.units.toNat ++ [t.peer, t.dom] ++
  leBytes 2 t.peerPool.toNat ++ leBytes 4 t.time.toNat ++ leBytes 8 t.jseq.toNat ++ leBytes 32 t.card.toNat

/-- A transfer record read back; none where its kind is 0, free. -/
def transferOf (bs : Bytes) : Option Transfer :=
  let b (k : Nat) : Byte := (slice bs k 1).headD 0
  if b 8 = 0 then none
  else some { id := BitVec.ofNat 64 (leAt bs 0 8), kind := b 8, st := b 9, pool := BitVec.ofNat 16 (leAt bs 10 2)
              units := BitVec.ofNat 32 (leAt bs 12 4), peer := b 16, dom := b 17, peerPool := BitVec.ofNat 16 (leAt bs 18 2)
              time := BitVec.ofNat 32 (leAt bs 20 4), jseq := BitVec.ofNat 64 (leAt bs 24 8)
              card := BitVec.ofNat 256 (leAt bs 32 32) }

/-! ## The generation table (R227) -/

/-- The 16 bytes of entry `e`. -/
def GenEntry.bytes (e : Nat) (g : GenEntry) : Bytes :=
  if e < 256 then leBytes 4 g.gen.toNat ++ [if g.present then 1 else 0] ++ zeros 3 ++ leBytes 8 g.floor.toNat
  else leBytes 4 g.gen.toNat ++ leBytes 4 g.kcv.toNat ++ [g.kind, g.dom] ++ zeros 6

/-- Entry `e` read back. -/
def genOf (e : Nat) (bs : Bytes) : GenEntry :=
  let b (k : Nat) : Byte := (slice bs k 1).headD 0
  let gen := BitVec.ofNat 32 (leAt bs 0 4)
  if e < 256 then
    { gen, present := b 4 == 1, floor := BitVec.ofNat 64 (leAt bs 8 8), kcv := 0, kind := 0, dom := 0 }
  else { gen, present := false, floor := 0, kcv := BitVec.ofNat 32 (leAt bs 4 4), kind := b 8, dom := b 9 }

/-! ## Wear rings (R299) and blocks (R296) -/

/-- A slot of a wear ring. -/
def wearSlot (v seq : Nat) : Bytes :=
  let b := leBytes 8 v ++ leBytes 4 seq
  b ++ leBytes 4 (crc32 b).toNat

/-- The value and sequence of a slot, if its CRC passes; a sequence of 0 is no write. -/
def wearOf (bs : Bytes) : Option (Nat × Nat) :=
  if leAt bs 12 4 = (crc32 (slice bs 0 12)).toNat ∧ leAt bs 8 4 ≠ 0 then some (leAt bs 0 8, leAt bs 8 4) else none

/-- A configuration word block of 64 bytes from its first 60 (R296). -/
def wordBlock (body : Bytes) : Bytes := slice body 0 60 ++ checkOf 4 (slice body 0 60)

/-- Whether a block's check passes. -/
def wordBlockOk (bs : Bytes) : Bool := slice bs 60 4 == checkOf 4 (slice bs 0 60)

/-! ## Flash records (R302, R303) -/

/-- A sector header (R302). -/
def sectorHeader (area : Byte) (st : Byte) (seq erases : Nat) : Bytes :=
  let a := leBytes 4 0x5EC77740 ++ [area]
  let b := [0xFF, 0xFF] ++ leBytes 8 seq ++ leBytes 4 erases ++ List.replicate 40 0xFF
  a ++ [st] ++ b ++ checkOf 4 (a ++ b)

/-- The bytes of a frame up to its marker, without it (R303). -/
def frameBytes (typ : Byte) (seq : Nat) (key : BitVec 32) (payload : Bytes) : Bytes :=
  let h := [0xC3, typ] ++ leBytes 2 payload.length ++ leBytes 8 seq ++ leBytes 4 key.toNat
  h ++ payload ++ List.replicate (ceilDiv payload.length 16 * 16 - payload.length) 0xFF ++ checkOf 12 (h ++ payload) ++
  [0xFF, 0xFF, 0xFF]

/-- The 64-byte event log record (R358). -/
def Event.bytes (e : Event) (seq : Nat) : Bytes :=
  leBytes 8 seq ++ leBytes 2 e.code.toNat ++ [e.plane, e.severity] ++ leBytes 4 e.time.toNat ++ leBytes 8 e.stamp.toNat ++
  slice e.detail 0 32 ++ zeros 8

end Sys2Proof.Machine
end

