-- ==== Sys2Proof/Machine/Operands.lean ====
section
/-! DEFINITION. What a command's packet names, and the checks decode makes of it: handles (R42), the policy of R39, the
ranges of `data_len` and `out_len` (R48, R49), flags and inline parameters, units in service, and the rebuild (R47). -/

namespace Sys2Proof.Machine

/-! ## What packets name -/

/-- The record of a pool; none while it is ABSENT (R65). -/
def State.pool (s : State) (p : PoolId) : Option Pool := s.led.pools.find p.toNat

/-- The lock of a pool (R83). -/
def State.lock (s : State) (p : PoolId) : Option Lock := s.led.locks.find p.toNat

/-- The slot of a number; none while it is EMPTY (R220). -/
def State.slot (s : State) (n : Nat) : Option Slot := s.ks.slots.find n

/-- A slot that is VALID (R220). -/
def State.validSlot (s : State) (n : Nat) : Option Slot := (s.slot n).filter (·.st == .valid)

/-- The value of a slot: S0 XOR S1 (R220). -/
def Slot.value (k : Slot) : BitVec 512 := k.s0 ^^^ k.s1

/-- The seal context of an index; none while it is CLOSED (R177). -/
def State.sealCtx (s : State) (n : Nat) : Option SealCtx := s.sl.ctxs.find n

/-- The digest context of an index. -/
def State.dig' (s : State) (n : Nat) : DigCtx := s.dig.ctxs.toList.getD n closedDig

/-- A curve by its number: 0 built in, 1 to 4 loaded and valid (R152, R168). -/
def State.curve (s : State) (n : Nat) : Option Curve :=
  if n = 0 then some curve0 else ((s.spn.curves.find n).filter (·.valid)).map (·.cv)

/-- The curve a slot's key lies on. -/
def State.slotCurve (s : State) (n : Nat) : Option Curve := (s.slot n).bind fun k => s.curve k.attr.curve.toNat

/-- The DMK of a domain, unmasked; none when it is absent (R216). -/
def State.dmk (s : State) (d : Dom) : Option (BitVec 256) := (s.ks.dmks.find d.toNat).map fun p => p.s0 ^^^ p.s1

/-- A generation-table entry (R227). -/
def State.gen (s : State) (e : Nat) : GenEntry := s.ks.gens.get e zeroGen

/-- `BN_JOB` jobs that are open, by number, with the queue each came from (R172). -/
def State.bnJobs (s : State) : List (BitVec 12 × QId) :=
  let of (j : Job) : List (BitVec 12 × QId) := match j.what with | .bn n => [(n, j.h.q)] | _ => []
  (s.spn.sp.toList.flatMap fun p => (p.job.map of).getD []) ++ s.spn.verifyParked.flatMap of

/-- The numbers of the open jobs. -/
def State.openJobs (s : State) : List (BitVec 12) := s.bnJobs.map Prod.fst

/-- A spindle by number, read and set. -/
def State.spindle (s : State) (n : Nat) : Spindle := s.spn.sp.toList.getD n resetSpindle
def State.setSpindle (n : Nat) (p : Spindle) (s : State) : State :=
  { s with spn := { s.spn with sp := s.spn.sp.setIfInBounds n p } }

/-- A spindle runs nothing, holds no yielded job, and is in service. -/
def Spindle.idle (p : Spindle) : Bool :=
  p.job.isNone && p.shadow.isNone && p.taking.isNone && !p.restoring && p.svc == .inService

/-- The lowest idle spindle of a kind (R145). -/
def State.idleSpindle (s : State) (signing : Bool) : Option Nat :=
  if signing then lowestFrom (fun n => (s.spindle n).idle) 8 0 else lowestFrom (fun n => (s.spindle n).idle) 32 8

/-- A job ended and is counted (R173). -/
def State.countJob (n : Nat) (s : State) : State :=
  let p := s.spindle n
  s.setSpindle n { p with jobs := satAdd p.jobs 1 }

/-- A job that ends within its own step: the lowest idle spindle of its kind counts it (R173). -/
def State.countIdle (signing : Bool) (s : State) : State :=
  match s.idleSpindle signing with
  | some n => s.countJob n
  | none => s

/-- A firmware command has a program run on a spindle: its step goes on as if it had ended, and `spindled` sees to the spindle. -/
def State.usedSpindle (p : Part) (s : State) : State := { s with spn := { s.spn with ran := s.spn.ran ++ [p] } }

/-! ## Policies (R39) -/

/-- Pair `k` of a range table of eight 16-bit pairs (R38). -/
def rangePair (v : BitVec 256) (k : Nat) : Nat × Nat := (bitsAt v.toNat (32 * k) 16, bitsAt v.toNat (32 * k + 16) 16)

/-- A number lies in one of the eight ranges. -/
def inRanges (v : BitVec 256) (n : Nat) : Bool :=
  (List.range 8).any fun k => decide ((rangePair v k).1 ≤ n) && decide (n ≤ (rangePair v k).2)

/-- The policy allows the opcode: bit n of word c (R38). -/
def Policy.allows (p : Policy) (op : BitVec 16) : Bool :=
  let cls := op.toNat / 256
  let n := op.toNat % 256
  decide (cls < 16) && decide (n < 32) && p.allow.getLsbD (32 * cls + n)

/-- A queue of domain `d` may use a pool: it lies in the domain's ranges, and belongs to the domain when it exists (R39). -/
def State.mayPool (s : State) (d : Dom) (p : PoolId) : Bool :=
  inRanges (s.policy d).pools p.toNat && ((s.pool p).all (·.dom == d))

/-- A queue of domain `d` may use a key slot (R39). -/
def State.mayKey (s : State) (d : Dom) (n : Nat) : Bool := inRanges (s.policy d).keys n

/-- The lowest EMPTY general slot in the key ranges a command was decoded under (R40, R166, R237). -/
def State.freeSlot (s : State) (keys : BitVec 256) : Option Nat :=
  lowestFrom (fun n => (s.slot n).isNone && inRanges keys n) 4080 16

/-! ## The opcode table -/

/-- What a handle of a packet names (R42). -/
inductive HandleUse where
  | unused
  /-- a pool that exists -/
  | pool
  /-- a pool, whether it exists or not -/
  | poolAny
  /-- a pool that is ABSENT (R81) -/
  | poolNew
  /-- a VALID key slot -/
  | key
  /-- a VALID key slot, or 0 for none -/
  | keyOpt
  /-- a key slot that is VALID or CORRUPT (R221) -/
  | keyAny
  /-- a host seal context, open or not, and one that is CLOSED (R189) -/
  | sealAny
  | sealNew
  | sealOpen
  /-- a host digest context -/
  | digAny
  | digOpen
  /-- a job number that is not open, or one that is -/
  | jobNew
  | jobOpen
  /-- a queue that does not exist and is not queue 0 (R59); another queue that exists, and one but queue 0 (R62) -/
  | queueNew
  | queueReset
  | queueDelete
  | lock
  deriving DecidableEq, Repr

/-- What decode knows of an opcode: its path, whether only domain 0 queues may send it (R58, R115, R261, R291, R383), its
handles, whether a short `out_len` is truncated (R48), and whether a rebuild refuses it (R137). -/
structure OpInfo where
  name : String
  fast : Bool := false
  dom0 : Bool := false
  a : HandleUse := .unused
  b : HandleUse := .unused
  trunc : Bool := false
  rebuild : Bool := false
  deriving DecidableEq, Repr

/-- The opcodes of classes 0x01 to 0x0A (R58, R75, R115, R170, R188, R208, R236, R291, R355, R383). -/
def opTable : List (Nat × OpInfo) :=
  [(0x0100, { name := "NOP" }),
   (0x0101, { name := "QUEUE_CREATE", dom0 := true, a := .queueNew }),
   (0x0102, { name := "QUEUE_DELETE", dom0 := true, a := .queueDelete }),
   (0x0103, { name := "QUEUE_RESET", dom0 := true, a := .queueReset }),
   (0x0104, { name := "DOMAIN_CONFIG", dom0 := true }),
   (0x0105, { name := "GET_INFO", trunc := true }),
   (0x0106, { name := "TIME_SET", dom0 := true }),
   (0x0107, { name := "LOCK_ACQUIRE", a := .pool, rebuild := true }),
   (0x0108, { name := "LOCK_RELEASE", a := .lock, rebuild := true }),
   (0x0201, { name := "POOL_CREATE", a := .poolNew, b := .keyOpt, rebuild := true }),
   (0x0202, { name := "POOL_LOAD", a := .pool, rebuild := true }),
   (0x0203, { name := "ISSUE", fast := true, a := .pool, rebuild := true }),
   (0x0205, { name := "SPOIL", a := .pool, rebuild := true }),
   (0x0206, { name := "VOID", a := .pool, rebuild := true }),
   (0x0207, { name := "RECLAIM", a := .pool, rebuild := true }),
   (0x0208, { name := "POOL_QUERY", a := .pool, trunc := true }),
   (0x0209, { name := "POOL_FREEZE", a := .pool, rebuild := true }),
   (0x020A, { name := "POOL_RETIRE", a := .pool, rebuild := true }),
   (0x020B, { name := "EXPORT_CARD", a := .pool, rebuild := true }),
   (0x020C, { name := "IMPORT_CARD", a := .pool, rebuild := true }),
   (0x020D, { name := "TRANSFER_OUT", a := .pool, rebuild := true }),
   (0x020E, { name := "RECONCILE", rebuild := true })] ++
  [(0x020F, { name := "LEDGER_AUDIT", trunc := true }),
   (0x0210, { name := "WRITE_OFF", a := .pool, rebuild := true }),
   (0x0301, { name := "ADMIT", fast := true, a := .poolAny, rebuild := true }),
   (0x0302, { name := "LOOKUP", fast := true, trunc := true, rebuild := true }),
   (0x0303, { name := "ENROL_EXTERNAL", a := .pool, rebuild := true }),
   (0x0304, { name := "CHECKPOINT", dom0 := true }),
   (0x0305, { name := "REBUILD_BEGIN", dom0 := true }),
   (0x0306, { name := "REBUILD_FEED", dom0 := true }),
   (0x0307, { name := "REBUILD_END", dom0 := true }),
   (0x0308, { name := "JOURNAL_ACK" }),
   (0x0309, { name := "PURGE", a := .pool, rebuild := true }),
   (0x0401, { name := "CTX_OPEN", a := .sealNew, b := .key }),
   (0x0402, { name := "SEAL_DATA", fast := true, a := .sealOpen }),
   (0x0403, { name := "SEAL_FINAL", fast := true, a := .sealOpen }),
   (0x0404, { name := "OPEN_VERIFY", a := .sealOpen }),
   (0x0405, { name := "CTX_SAVE", a := .sealAny }),
   (0x0406, { name := "CTX_RESTORE", a := .sealAny }),
   (0x0407, { name := "CTX_CLOSE", a := .sealOpen }),
   (0x0501, { name := "SIGN", a := .key }),
   (0x0502, { name := "VERIFY", fast := true, a := .key }),
   (0x0503, { name := "PUBKEY_LOAD" }),
   (0x0504, { name := "BN_JOB", a := .jobNew }),
   (0x0505, { name := "BN_ABORT", a := .jobOpen }),
   (0x0506, { name := "CURVE_LOAD", dom0 := true })] ++
  [(0x0601, { name := "HASH_INIT", a := .digAny, b := .keyOpt }),
   (0x0602, { name := "HASH_DATA", fast := true, a := .digOpen }),
   (0x0603, { name := "HASH_FINAL", a := .digOpen }),
   (0x0604, { name := "HASH_COMPARE", a := .digOpen }),
   (0x0605, { name := "HASH_TO_KEY", a := .digOpen }),
   (0x0606, { name := "HASH_CLOSE", a := .digOpen }),
   (0x0701, { name := "KEY_LOAD_BLOB", b := .keyOpt }),
   (0x0702, { name := "KEY_GENERATE", b := .keyOpt }),
   (0x0703, { name := "KEY_WRAP", b := .keyOpt }),
   (0x0704, { name := "KEY_REPLACE", a := .key, b := .keyOpt }),
   (0x0705, { name := "KEY_INVALIDATE" }),
   (0x0706, { name := "KEY_EVICT", a := .keyAny }),
   (0x0707, { name := "KEY_QUERY", trunc := true }),
   (0x0801, { name := "NODE_REG", dom0 := true }),
   (0x0802, { name := "MAP_SET", dom0 := true }),
   (0x0803, { name := "MAP_GET", dom0 := true, trunc := true }),
   (0x0804, { name := "NODE_MEMBER", dom0 := true }),
   (0x0901, { name := "CARD_INFO", trunc := true }),
   (0x0902, { name := "CARD_FORMAT", dom0 := true }),
   (0x0903, { name := "CARD_READ", trunc := true }),
   (0x0904, { name := "CARD_CLEAR", dom0 := true }),
   (0x0905, { name := "CARD_AUDIT", dom0 := true })] ++
  [(0x0A01, { name := "SENSOR_READ", dom0 := true, trunc := true }),
   (0x0A02, { name := "LOG_READ", dom0 := true, trunc := true }),
   (0x0A03, { name := "CHALLENGE", dom0 := true }),
   (0x0A04, { name := "LIFECYCLE", dom0 := true }),
   (0x0A05, { name := "UNIT_SERVICE", dom0 := true }),
   (0x0A06, { name := "ENROL", dom0 := true }),
   (0x0A07, { name := "TAMPER_CONFIG", dom0 := true, trunc := true }),
   (0x0A08, { name := "TAMPER_RELEASE", dom0 := true }),
   (0x0A09, { name := "NVM_RAW_READ", dom0 := true, trunc := true }),
   (0x0A0A, { name := "NVM_RAW_WRITE", dom0 := true }),
   (0x0A0B, { name := "NVM_PASSWORD_SET", dom0 := true }),
   (0x0A0C, { name := "KEEPER_STATUS", dom0 := true, trunc := true }),
   (0x0A0D, { name := "FW_STAGE", dom0 := true }),
   (0x0A0E, { name := "FW_ACTIVATE", dom0 := true }),
   (0x0A0F, { name := "FW_STATUS", dom0 := true, trunc := true }),
   (0x0A10, { name := "SETTING", dom0 := true, trunc := true })]

/-- The entry of an opcode; none for one that is not defined (R56). -/
def opInfo (op : BitVec 16) : Option OpInfo := (opTable.find? (·.1 == op.toNat)).map Prod.snd

/-- The handles that depend on the packet: `ISSUE` and `ADMIT` by seal mode (R77, R116), `POOL_CREATE` mode 1 (R81), the slot
of `KEY_QUERY` op 0 and of `KEY_WRAP` op 0 (R238, R239). -/
def handleUses (p : Packet) (i : OpInfo) : HandleUse × HandleUse :=
  match p.opcode.toNat with
  | 0x0201 => (i.a, if p.byteAt 32 = 1 then .unused else .key)
  | 0x0203 => (i.a, if p.byteAt 32 = 1 then .key else if p.byteAt 32 = 2 ∨ p.byteAt 32 = 3 then .sealOpen else .unused)
  | 0x0301 => (i.a, if p.byteAt 32 = 1 then .unused else if p.byteAt 33 = 1 then .key
      else if p.byteAt 33 = 2 ∨ p.byteAt 33 = 3 then .sealOpen else .unused)
  | 0x0703 => (if p.byteAt (opByte p.opcode) = 0 then .key else .unused, i.b)
  | 0x0707 => (if p.byteAt 32 = 0 then .key else .unused, i.b)
  | _ => (i.a, i.b)

/-! ## The checks -/

/-- The queue a queue handle names. -/
def hQueue (h : BitVec 32) : QId := BitVec.ofNat 14 (hIndex h)

/-- Check 3 of R47 for one handle of a packet of queue `q`: type, range, open. -/
def handleOk (s : State) (q : QId) (u : HandleUse) (h : BitVec 32) : Bool :=
  let n := hIndex h
  match u with
  | .unused => true
  | .poolAny => hType h == 1 && decide (n < 65536)
  | .poolNew => hType h == 1 && decide (n < 65536) && (s.led.pools.find n).isNone
  | .pool => hType h == 1 && decide (n < 65536) && (s.led.pools.find n).isSome
  | .key => hType h == 2 && (s.validSlot n).isSome
  | .keyOpt => h == 0 || (hType h == 2 && (s.validSlot n).isSome)
  | .keyAny => hType h == 2 && ((s.slot n).any fun k => k.st == .valid || k.st == .corrupt)
  | .sealAny => hType h == 3 && decide (n < 40944)
  | .sealNew => hType h == 3 && decide (n < 40944) && (s.sealCtx n).isNone
  | .sealOpen => hType h == 3 && decide (n < 40944) && (s.sealCtx n).isSome
  | .digAny => hType h == 4 && decide (n < 48)
  | .digOpen => hType h == 4 && decide (n < 48) && (s.dig' n).st != 0
  | .jobNew => hType h == 5 && decide (n < 4096) && !(s.openJobs.contains (BitVec.ofNat 12 n))
  | .jobOpen => hType h == 5 && decide (n < 4096) && s.openJobs.contains (BitVec.ofNat 12 n)
  | .queueNew => hType h == 6 && decide (n < 16384) && n != 0 && (s.queue (hQueue h)).st == .absent
  | .queueReset => hType h == 6 && decide (n < 16384) && hQueue h != q && (s.queue (hQueue h)).st == .active
  | .queueDelete =>
    hType h == 6 && decide (n < 16384) && n != 0 && hQueue h != q && (s.queue (hQueue h)).st == .active
  | .lock => hType h == 7 && ((s.led.locks.find (n % 65536)).any fun k => k.gen == BitVec.ofNat 8 (n / 65536))

/-- The pool a packet names, if it names one: by `handle_a`, or in a `LOOKUP` of a ticket (R39, R45, R119). -/
def namedPool (p : Packet) (i : OpInfo) : Option PoolId :=
  match i.a with
  | .pool | .poolAny | .poolNew => some (BitVec.ofNat 16 (hIndex p.handleA))
  | .lock => some (BitVec.ofNat 16 (hIndex p.handleA % 65536))
  | _ => if p.opcode = 0x0302 ∧ p.byteAt 32 = 0 then some (BitVec.ofNat 16 (p.field 34 2)) else none

/-- A packet with LOCKED set finds the lock of (queue, current epoch) on its pool (R45). -/
def lockedOk (s : State) (q : QId) (p : Packet) (i : OpInfo) : Bool :=
  !p.locked || match namedPool p i with
    | none => true
    | some n => (s.lock n).any fun k => k.q == q && k.epoch == (s.queue q).epoch

/-- Check 4 of R47 for one handle. A domain 0 queue may name any pool in `POOL_QUERY`, `POOL_FREEZE` and `LEDGER_AUDIT` (R39), and in
no other opcode (notes/assumptions/13.md). -/
def domainOk (s : State) (d : Dom) (op : Nat) (u : HandleUse) (h : BitVec 32) : Bool :=
  let n := hIndex h
  match u with
  | .pool | .poolAny | .poolNew | .lock =>
    if d = 0 ∧ (op = 0x0208 ∨ op = 0x0209) then true else s.mayPool d (BitVec.ofNat 16 (n % 65536))
  | .key | .keyAny => s.mayKey d n
  | .keyOpt => h == 0 || s.mayKey d n
  | .sealAny | .sealNew | .sealOpen => (s.sealCtx n).all (·.dom == d)
  | .digAny | .digOpen => (s.dig' n).st == 0 || (s.dig' n).dom == d
  | .jobOpen => s.bnJobs.all fun j => j.1.toNat != n || (s.queue j.2).dom == d
  | _ => true

/-- Check 4 of R47 for the pool a `LOOKUP` of a ticket names. -/
def poolsOk (s : State) (d : Dom) (p : Packet) : Bool :=
  !(p.opcode == 0x0302 && p.byteAt 32 == 0) || s.mayPool d (BitVec.ofNat 16 (p.field 34 2))

/-- The bytes of one coordinate of a point on a curve. -/
def Curve.bytes (cv : Curve) : Nat := cv.w / 8

/-- The value length of a key type in bytes; SM2 secret keys take their curve's width (R223). -/
def valueLen (s : State) (typ : Byte) (curve : Nat) : Nat :=
  match typ.toNat with
  | 1 | 2 | 7 => 16
  | 3 | 8 => 32
  | 4 => 64
  | 5 => ((s.curve curve).map (·.bytes)).getD 32
  | _ => 0

/-- The width a `BN_JOB` names (R172). -/
def bnWidth (p : Packet) : Nat := ([256, 384, 512] : List Nat).getD (p.byteAt 33).toNat 256

/-- The operand words of a primitive (R160). -/
def bnOperands (code : Nat) : Nat :=
  match code with
  | 0x01 | 0x02 | 0x03 | 0x04 | 0x12 => 3
  | 0x05 | 0x11 | 0x14 => 2
  | 0x10 | 0x13 => 4
  | _ => 0

/-- Check 5 of R47 for `data_len`, where the opcode limits it. -/
def dataLenOk (s : State) (p : Packet) (via : Transport) : Bool :=
  let n := p.dataLen.toNat
  let lim := match via with | .host => 16777216 | .smbus => 1024 | .spi => 4096
  let b32 := (p.byteAt 32).toNat
  -- the bytes of a signature of the named key; none on a curve slot that is not valid, which R168 refuses later
  let g : Option Nat := (s.slotCurve (hIndex p.handleA)).map fun cv => 2 * cv.bytes
  if p.opcode = 0x0305 then decide (n = 0 ∨ n = 1080098816) else
  decide (n ≤ lim) &&
  match p.opcode.toNat with
  | 0x0104 => decide (n = 192)
  | 0x0203 => decide (n ≤ 512)
  | 0x0301 =>
    if b32 = 1 then decide (1 ≤ n ∧ n ≤ 256) else
      let t := if p.byteAt 33 = 1 then 64 else if p.byteAt 33 = 2 then 16 else 8
      decide (24 + t ≤ n ∧ n ≤ 536 + t)
  | 0x0302 => b32 != 1 || decide (1 ≤ n ∧ n ≤ 256)
  | 0x0303 => decide (1 ≤ n ∧ n ≤ 256)
  | 0x0309 => decide (n ≤ 256)
  | 0x0306 => decide (64 ≤ n ∧ n ≤ 4194304 ∧ n % 64 = 0)
  | 0x0401 => b32 != 2 || decide (n = 32)
  | 0x0501 => b32 != 1 || decide (n = 32)
  | 0x0502 => g.all fun g => if b32 = 1 then decide (n = g + 32) else decide (g ≤ n)
  | 0x0503 => (s.curve b32).all fun cv => decide (n = 2 * cv.bytes + (p.byteAt 33).toNat)
  | 0x0504 => decide (n = bnOperands b32 * (bnWidth p / 8)) || bnOperands b32 == 0
  | 0x0506 => b32 != 0 || decide (n = 400)
  | 0x0602 | 0x0603 | 0x0605 => decide (n % 64 = 0)
  | 0x0604 => decide (b32 ≤ n ∧ (n - b32) % 64 = 0)
  | 0x0702 => decide (n = (p.byteAt 39).toNat)
  | 0x0703 => p.byteAt (opByte p.opcode) != 1 || (p.byteAt 32 == 5 && (s.curve (p.byteAt 33).toNat).isNone) ||
      decide (n = valueLen s (p.byteAt 32) (p.byteAt 33).toNat + (p.byteAt 39).toNat)
  | 0x0802 => decide (n = 4104)
  | 0x0A04 => decide (n = 64)
  | 0x0A06 => decide (n = 224)
  | 0x0A07 => b32 != 1 || decide (n = 64)
  | 0x0A0A => decide (n = p.field 44 2)
  | 0x0A0B => decide (n = 16)
  | _ => true

/-- The smallest `out_len` of an opcode that does not truncate: its maximum result size (R48). -/
def outMin (s : State) (p : Packet) : Nat :=
  let b32 := (p.byteAt 32).toNat
  let n := p.dataLen.toNat
  let sealOut (extra : Nat) : Nat :=
    match s.sealCtx (hIndex p.handleA) with
    | none => extra
    | some k =>
      let start := p.byteAt 32 &&& 1 == 1
      extra + (if start && k.format == 1 then n - p.field 48 2 else n) + (if start && k.format == 0 then 32 else 0)
  match p.opcode.toNat with
  | 0x0203 => 88
  | 0x0304 => 1080098816
  | 0x0401 => 32
  | 0x0402 => sealOut 0
  | 0x0403 => sealOut 16
  | 0x0404 =>
    match s.sealCtx (hIndex p.handleA) with
    | some k => if k.format = 0 then n - 48 else n - p.field 32 2 - 16
    | none => 0
  | 0x0405 => if b32 = 1 then 96 else 208
  | 0x0501 => 2 * ((s.slotCurve (hIndex p.handleA)).map (·.bytes)).getD 0
  | 0x0504 => if b32 = 0x14 then 0 else if b32 < 0x10 then bnWidth p / 8 else 2 * (bnWidth p / 8)
  | 0x0603 => 32
  | 0x0702 => 128 + if b32 = 5 then 2 * ((s.curve (p.byteAt 33).toNat).map (·.bytes)).getD 0 else 0
  | 0x0703 => 128
  | 0x0A03 => 16
  | _ => 0

/-- The queues a domain owns. -/
def State.queueCount (s : State) (d : Dom) : Nat :=
  (s.queues.filter fun p => p.2.st != .absent && p.2.dom == d).length

/-- The parameters `QUEUE_CREATE` accepts (R59). -/
def queueParamsOk (s : State) (p : Packet) : Bool :=
  let d : Dom := p.byteAt 52
  let sq := p.field 48 2
  let cq := p.field 50 2
  decide (p.field 32 8 % 4096 = 0) && decide (p.field 40 8 % 4096 = 0) && decide (2 ≤ sq ∧ sq ≤ 4096) &&
  decide (2 ≤ cq ∧ cq ≤ 4096) && decide (p.field 54 2 ≤ 2047) && decide ((p.byteAt 53).toNat ≤ 2) &&
  !(p.byteAt 53 == 2 && p.byteAt 56 == 0) && (s.policy d).enabled &&
  decide (s.queueCount d < (s.policy d).maxQueues.toNat)

/-- The bits a key type permits (R224). -/
def usageOf (typ : Nat) : BitVec 16 :=
  match typ with
  | 1 => 0x20E0
  | 2 | 4 => 0x0100
  | 3 => 0x1900
  | 5 => 0x0003
  | 6 => 0x001C
  | 7 => 0x0600
  | _ => 0

/-- A usage mask is permitted: no bit outside the type's, bits 11 to 13 only on domain 0 keys, bit 13 only for slot 4. -/
def usageOk (typ : Byte) (usage : BitVec 16) (dom : Dom) : Bool :=
  usage &&& ~~~(usageOf typ.toNat) == 0 && (dom == 0 || usage &&& 0x3800 == 0) && !usage.getLsbD 13

/-- The key type, curve, usage, flags and ID length that `KEY_GENERATE` accepts, its usage mask (R223, R224,
R237). -/
def genParamOk (s : State) (d : Dom) (p : Packet) : Bool :=
  let t := (p.byteAt 32).toNat
  let f := p.byteAt 38
  decide (1 ≤ t ∧ t ≤ 8 ∧ t ≠ 6) && usageOk (p.byteAt 32) (BitVec.ofNat 16 (p.field 34 2)) d &&
  decide (t = 5 ∨ p.byteAt 39 = 0) && !(t == 5 && decide (4 < (p.byteAt 33).toNat)) &&
  !(f.getLsbD 1 && f.getLsbD 2) && !((f.getLsbD 1 || f.getLsbD 2) && (t == 7 || t == 8)) &&
  !(t == 8 && (s.gen (p.byteAt 42).toNat).present)

/-- The usage, format and printer that `CTX_OPEN` accepts (R189). -/
def ctxOpenOk (p : Packet) : Bool :=
  let u := p.byteAt 32
  let f := p.byteAt 33
  (u == 1 || u == 2 || u == 3) && (if u = 3 then f != 0 && decide (f.toNat < 4) else decide (f.toNat < 2)) &&
  (!(u == 1 && f == 0) || decide (p.field 40 2 ≤ 16383))

/-- A unit code that `UNIT_SERVICE` takes for removal and return (R256). -/
def serviceCode (code : Nat) : Bool :=
  decide (code < 0x14) || (decide (0x20 ≤ code) && decide (code < 0x48)) || decide (0x50 ≤ code ∧ code ≤ 0x52) ||
  code == 0x60 || code == 0x61 || code == 0x70

/-- The type and value bytes of a key that `HASH_TO_KEY` writes (R210, R223; notes/assumptions/25.md). -/
def hashKeyType (usage : BitVec 16) (len : Nat) : Byte × Nat :=
  if usage &&& 0x00E0 ≠ 0 then (1, 16) else if len = 16 then (2, 16) else (3, 32)

/-- Check 6 of R47: flags and inline parameters that decode can judge, on a queue of a domain. -/
def paramOk (s : State) (d : Dom) (p : Packet) : Bool :=
  let b (k : Nat) : Nat := (p.byteAt k).toNat
  match p.opcode.toNat with
  | 0x0101 => queueParamsOk s p
  | 0x0105 => decide (b 32 ≤ 3)
  | 0x0106 => decide (s.gctl.time.toNat ≤ p.field 32 4 + 86400)
  | 0x0107 => decide (1 ≤ p.field 32 4 ∧ p.field 32 4 ≤ 1048576)
  | 0x0201 =>
    decide (b 32 = 1) ||
      decide (b 32 = 0 ∧ p.field 36 5 ≤ p.field 41 5 ∧ p.field 41 5 ≤ 0xFFFFFFFFFE)
  | 0x0203 => decide (1 ≤ b 32 ∧ b 32 ≤ 3 ∧ 1 ≤ b 33)
  | 0x0209 | 0x020F => decide (b 32 ≤ 2)
  | 0x0301 => decide (b 32 = 0 ∧ 1 ≤ b 33 ∧ b 33 ≤ 3) || decide (b 32 = 1 ∧ b 33 = 0)
  | 0x0302 => decide (b 32 ≤ 1)
  | 0x0303 => decide (1 ≤ b 33)
  | 0x0309 => decide (b 32 ≤ 1)
  | 0x0401 => ctxOpenOk p
  | 0x0405 => decide (b 32 = 1 ∨ b 32 = 2)
  | 0x0501 | 0x0502 => decide (b 32 ≤ 1)
  | 0x0503 => decide (b 32 ≤ 4) && usageOk 6 p.usage d
  | 0x0504 => bnOperands (b 32) != 0 && decide (b 33 ≤ 2 ∧ b 34 ≤ 4)
  | 0x0506 => decide (b 32 ≤ 1 ∧ 1 ≤ b 33 ∧ b 33 ≤ 4)
  | 0x0604 => decide (1 ≤ b 32 ∧ b 32 ≤ 32)
  | 0x0605 => decide (b 32 = 16 ∨ b 32 = 32) && usageOk (hashKeyType p.usage (b 32)).1 p.usage d
  | 0x0702 => genParamOk s d p
  | 0x0703 => decide (b (opByte p.opcode) ≤ 2)
  | 0x0705 => decide (b 32 ≤ 2)
  | 0x0707 => decide (b 32 ≤ 2) && (b 32 != 1 || decide (p.field 34 2 < 4096))
  | 0x0801 => decide (b 33 ≤ 1 ∧ b 32 < 64 ∧ p.field 36 4 < 0x10000 ∧ p.field 36 4 % 4 = 0)
  | 0x0804 => decide (b 32 ≤ 1 ∧ b 33 < 64)
  | 0x0901 => decide (b 32 ≤ 1)
  | 0x0903 => decide (p.field 32 4 < 1600)
  | 0x0904 => decide (p.field 32 2 < 256)
  | 0x0A02 => decide (1 ≤ b 40 ∧ b 40 ≤ 16)
  | 0x0A05 => if b 32 = 2 then b 33 == 0x80 else decide (b 32 ≤ 1) && serviceCode (b 33)
  | 0x0A07 => decide (b 32 ≤ 1)
  | 0x0A0D => decide (b 32 ≤ 3 ∧ 1 ≤ b 33 ∧ b 33 ≤ 2)
  | 0x0A0E => decide (b 32 ≤ 2 ∧ 1 ≤ b 33 ∧ b 33 ≤ 2)
  | 0x0A10 => decide (b 32 ≤ 2)
  | _ => true

/-- A port of the device, read and set. -/
def State.port (s : State) : Port → SkPort
  | .east => s.skn.east | .west => s.skn.west
def State.setPort (w : Port) (p : SkPort) (s : State) : State :=
  match w with
  | .east => { s with skn := { s.skn with east := p } }
  | .west => { s with skn := { s.skn with west := p } }

/-- A unit of R256 is out of service. -/
def State.isOut (s : State) (code : Nat) : Bool := s.arb.out.getLsbD code

/-- The set that serves a queue's slice (R37): false set A, true set B. -/
def State.setOf (s : State) (q : QId) : Bool := s.gctl.sliceOwner.getLsbD (q.toNat / 64)

/-- Some spindle of a kind is in service (R145). -/
def State.spindlesIn (s : State) (lo hi : Nat) : Bool :=
  (s.spn.sp.toList.zipIdx.any fun p => decide (lo ≤ p.2) && decide (p.2 < hi) && p.1.svc == .inService)

/-- The key that a `KEY_REPLACE` replaces is an SM2 private key, so that its path derives, signs, verifies and hashes (R230, R236). -/
def State.replacesSm2 (s : State) (p : Packet) : Bool := (s.slot (hIndex p.handleA)).any (·.attr.typ == 5)

/-- Whether the opcode's path signs, verifies, hashes on the digest engine, seals, or needs entropy (R145, R198, R211, R235). -/
def needsSign (s : State) (p : Packet) : Bool :=
  match p.opcode.toNat with
  | 0x0203 => p.byteAt 32 == 1
  | 0x0501 => true
  | 0x0704 => s.replacesSm2 p
  | 0x0702 => p.byteAt 32 == 5
  | _ => false

def needsVerify (s : State) (p : Packet) : Bool :=
  match p.opcode.toNat with
  | 0x0704 => s.replacesSm2 p
  | 0x0202 | 0x0210 | 0x0501 | 0x0502 | 0x0503 | 0x0504 => true
  | 0x0203 => p.byteAt 32 == 1
  | 0x0301 => p.byteAt 32 == 0 && p.byteAt 33 == 1
  | 0x0201 => p.byteAt 32 == 1
  | 0x0209 | 0x020F => p.byteAt 32 == 2
  | 0x0506 => p.byteAt 32 == 0
  | 0x0702 => p.byteAt 32 == 5
  | _ => false

def needsDigest (s : State) (p : Packet) : Bool :=
  match p.opcode.toNat with
  | 0x0704 => s.replacesSm2 p
  | 0x0202 | 0x0210 | 0x0503 | 0x0304 => true
  | 0x0203 => p.byteAt 32 == 1
  | 0x0301 => p.byteAt 32 == 0 && p.byteAt 33 == 1
  | 0x0201 => p.byteAt 32 == 1
  | 0x0209 | 0x020F => p.byteAt 32 == 2
  | 0x0305 => p.dataLen != 0
  | 0x0501 | 0x0502 => p.byteAt 32 == 0
  | 0x0702 => p.byteAt 32 == 5
  | n => decide (0x0600 ≤ n ∧ n < 0x0700)

def needsSeal (p : Packet) : Bool :=
  match p.opcode.toNat with
  | 0x0203 => p.byteAt 32 != 1
  | 0x0301 => p.byteAt 32 == 0 && p.byteAt 33 != 1
  | n => decide (0x0400 ≤ n ∧ n < 0x0500)

def needsEntropy (p : Packet) : Bool :=
  match p.opcode.toNat with
  | 0x0203 => p.byteAt 32 == 1
  | 0x0401 => p.byteAt 32 == 1
  | 0x0405 => p.byteAt 32 == 2
  | 0x0501 | 0x0702 | 0x0703 | 0x0704 | 0x0905 | 0x0A03 | 0x0A06 => true
  | 0x0A04 => p.byteAt 32 == 4
  | 0x0506 => p.byteAt 32 == 0
  | _ => false

/-- The opcodes a data-plane reset refuses (R398). -/
def inDataPlane (op : Nat) : Bool :=
  decide (0x0200 ≤ op ∧ op < 0x0800) || decide (0x0900 ≤ op ∧ op < 0x0A00) || op == 0x0107 || op == 0x0108

/-- What carries an opcode of a host queue to its unit is in service: a fast-path sequencer, or a core of the set that serves the
queue's slice (R57, R257). -/
def State.pathOk (s : State) (q : QId) (p : Packet) (via : Transport) : Bool :=
  if (opInfo p.opcode).any (·.fast) then (List.range 4).any fun k => !s.isOut (0x10 + k)
  else via != .host || (List.range 8).any fun k => !s.isOut ((if s.setOf q then 8 else 0) + k)

/-- The entropy source delivers words: in service and seeded (R233, R235). -/
def State.entropyOk (s : State) : Bool := s.ks.entIn && s.ks.seeded

/-- Check 7 of R47. -/
def serviceOk (s : State) (q : QId) (p : Packet) (via : Transport) : Bool :=
  let op := p.opcode.toNat
  !(s.pwr.dpReset && inDataPlane op) &&
  (!needsSign s p || s.spindlesIn 0 8) && (!needsVerify s p || s.spindlesIn 8 40) &&
  (!needsDigest s p || !s.isOut 0x51) && (!needsSeal p || !s.isOut 0x50) && (!needsEntropy p || s.ks.entIn) &&
  (!(decide (0x0900 ≤ op ∧ op < 0x0A00) || op == 0x020B || op == 0x020C) || !s.isOut 0x70) && s.pathOk q p via

/-- The opcodes a life-cycle state permits; `CURVE_LOAD` has a column of its own (R169, R338, R355). -/
def lifeOk (s : State) (p : Packet) : Bool :=
  let op := p.opcode.toNat
  let admin := decide (0x0100 ≤ op ∧ op < 0x0200) || decide (0x0A00 ≤ op ∧ op < 0x0B00)
  match s.life.count.toNat with
  | 0 => true
  | 2 | 3 => op != 0x0506
  | 1 => admin
  | 4 => admin || op == 0x0208 || (op == 0x020F && p.byteAt 32 == 0) || op == 0x0506
  | _ => op == 0x0100 || op == 0x0105 || op == 0x0A01 || op == 0x0A02 || op == 0x0A0C

/-- Whether `PURGE` op 0 is excepted from the rule that only domain 0 queues send `PURGE` (R115), and whether the cluster
opcodes are sent on the head (R291), and `RECOVERY` and `TOTALS` certificates and audits from domain 0 (R90, R101). -/
def senderOk (s : State) (d : Dom) (p : Packet) (i : OpInfo) : Bool :=
  let op := p.opcode.toNat
  (!i.dom0 || d == 0) &&
  (!(op == 0x0309 && p.byteAt 32 == 1) || d == 0) &&
  (!(op == 0x0209 && p.byteAt 32 == 2) || d == 0) &&
  (!(op == 0x020F && p.byteAt 32 != 0) || d == 0) &&
  (!(op == 0x0201 && p.byteAt 32 == 1) || d == 0) &&
  (!(op == 0x0705 && p.byteAt 32 == 0) || d == 0) && (!(op == 0x0702 && p.byteAt 32 == 8) || d == 0) &&
  (!(decide (0x0800 ≤ op ∧ op < 0x0900)) || s.skn.head)

/-- The transports an opcode may come on (R355): only S and P for the tamper and raw commands, only P for `ENROL`. -/
def viaOk (op : Nat) (via : Transport) : Bool :=
  match via with
  | .host => !(op == 0x0A06 || op == 0x0A07 || op == 0x0A08 || op == 0x0A09 || op == 0x0A0A || op == 0x0A0B)
  | .smbus => op != 0x0A06
  | .spi => true

/-- A reserved slot named by a host command (R219): `KEY_QUERY`, and `KEY_REPLACE` of slot 5 from domain 0, excepted. -/
def reservedNamed (d : Dom) (p : Packet) (i : OpInfo) : Bool :=
  let (ua, ub) := handleUses p i
  let isKey (u : HandleUse) (h : BitVec 32) : Bool :=
    (u == .key || u == .keyAny || u == .keyOpt) && h != 0 && hType h == 2 && decide (hIndex h < 16)
  p.opcode != 0x0707 && !(p.opcode == 0x0704 && d == 0 && hIndex p.handleA == 5 && !isKey ub p.handleB) &&
  (isKey ua p.handleA || isKey ub p.handleB)

/-- Checks 1 and 2 of R47, with the life-cycle rule of R338 after check 1 (notes/assumptions/12.md). -/
def decodeFirst (s : State) (d : Dom) (p : Packet) (i : OpInfo) (via : Transport) : Option (BitVec 16) :=
  firstFail
    [(lifeOk s p, stLifecycleDenied),
     ((s.policy d).allows p.opcode && senderOk s d p i && viaOk p.opcode.toNat via, stNotPermitted)]

/-- Checks 3 to 8 of R47 in their order. The refusal of a reserved key slot (R219) comes before them, whether the slot holds a key or
not: R47 gives it no place (DESIGN CHOICE, notes/assumptions/70.md). -/
def decodeRest (s : State) (q : QId) (d : Dom) (p : Packet) (i : OpInfo) (via : Transport) : Option (BitVec 16) :=
  let (ua, ub) := handleUses p i
  let op := p.opcode.toNat
  firstFail
    [(!reservedNamed d p i, stUsageDenied),
     (handleOk s q ua p.handleA && handleOk s q ub p.handleB && lockedOk s q p i, stBadHandle),
     (poolsOk s d p && domainOk s d op ua p.handleA && domainOk s d op ub p.handleB, stNotPermitted),
     (dataLenOk s p via && (i.trunc || decide (outMin s p ≤ p.outLen.toNat)), stBadLength),
     (paramOk s d p && !(p.locked && (namedPool p i).isNone), stBadParameter),
     (serviceOk s q p via, stOutOfService),
     (!(i.rebuild && s.ru.rb.needed), stRebuilding)]

/-- The owner of the entry a register command names (R279, R280): none while it takes the command's data to tell, or for a
command that is not routed at all, which runs here. -/
def State.ownerAtDecode (s : State) (p : Packet) : Option (BitVec 6) :=
  let named : Option (BitVec 6) := if p.byteAt 33 < 64 then some ((p.byteAt 33).setWidth 6) else none
  let byRange : Option (BitVec 6) := if s.skn.map.isEmpty then some 0 else none
  match p.opcode.toNat with
  | 0x0301 => if p.byteAt 32 = 1 then byRange else none
  | 0x0302 => if p.byteAt 32 = 1 then byRange else named
  | 0x0303 => byRange
  | 0x0309 => if p.byteAt 32 = 1 then some s.skn.nodeId else if p.dataLen = 0 then named else byRange
  | _ => some s.skn.nodeId

/-- The checks of R47 in their order, with the status of the first that fails. A register command that another node may own
takes checks 3 to 8 where it runs (R280); a sequencer must be in service in any case. -/
def decodeCheck (s : State) (q : QId) (p : Packet) (via : Transport) : Option (BitVec 16) :=
  let d : Dom := match via with | .host => (s.queue q).dom | _ => 0
  match opInfo p.opcode with
  | none => some stBadOpcode
  | some i =>
    match decodeFirst s d p i via with
    | some st => some st
    | none =>
      if s.ownerAtDecode p = some s.skn.nodeId then decodeRest s q d p i via
      else if !s.pathOk q p via then some stOutOfService
      else none

end Sys2Proof.Machine
end

