-- ==== Sys2Proof/Machine/Arbiters.lean ====
section
/-! DEFINITION. The arbiters (R17, R36, R242 to R247): what asks at each, how a request parks and is granted by weighted round robin,
and how its wait is counted. The fetch of packets, their dispatch, the spindles' jobs, the blocks of the seal pipeline and of the
digest unit and the records of the commit unit ask here themselves; a row of `arbiterGrant` brings the requests of every other
resource (notes/assumptions/43.md). -/

namespace Sys2Proof.Machine

/-! ## Access -/

/-- The requesters of each arbiter (R242; those of arbiters 16 and 29 to 33 are DEDUCED, notes/assumptions/37.md). -/
def arbRequesters (n : Nat) : Nat :=
  ([16384, 256, 256, 256, 23, 23, 2048, 2, 64, 8, 8, 8, 8, 8, 8, 8, 8, 8, 10, 8, 10, 4, 4, 4, 4, 3, 2, 3, 2, 8, 5, 5, 5, 5] :
    List Nat).getD n 0

/-- An arbiter and one of its requesters, read and set. -/
def State.arbiter (s : State) (n : Nat) : Arbiter := s.arb.arbs.get n resetArbiter
def Arbiter.req (a : Arbiter) (r : Nat) : Requester := a.reqs.get r resetRequester
def State.setArbiter (n : Nat) (a : Arbiter) (s : State) : State := { s with arb := { s.arb with arbs := s.arb.arbs.put n a } }
def State.setReq (n r : Nat) (k : Requester) (s : State) : State :=
  let a := s.arbiter n
  s.setArbiter n { a with reqs := a.reqs.put r k }

/-- The policy of the queue that requester `r` of arbiter 0 is (R38); a queue that does not exist has none. -/
def State.queuePolicy (s : State) (r : Nat) : Option Policy :=
  let x := s.queue (BitVec.ofNat 14 r)
  if x.st = .absent then none else some (s.policy x.dom)

/-! ## Clocks and waits -/

/-- The count of an arbiter's clock at which a request parks: mcyc for arbiters 22 to 28, cyc for the others. -/
def State.stamp (s : State) (arb : Nat) : Nat := if 22 ≤ arb ∧ arb ≤ 28 then s.mss.mcyc.toNat else s.now

/-- An arbiter on the PCI Express or the Skein clock (R242). -/
def farClock (arb : Nat) : Bool := decide (5 ≤ arb ∧ arb ≤ 7) || decide (30 ≤ arb)

/-- The wait of a request that parked at a stamp (R244). -/
def State.waitOf (s : State) (arb since : Nat) : Nat :=
  let n := s.stamp arb
  if n = since then 0 else if farClock arb then Config.clockSpan arb since n else n - since

/-! ## Who asks -/

/-- The queue engine fetches from a queue (R25, R29, R37, R40, R393, R399). -/
def State.fetches (s : State) (q : QId) : Bool :=
  s.gctl.en && (s.queue q).st == .active && (s.policy (s.queue q).dom).enabled && !s.gctl.d3hot && !s.gctl.perstLow &&
  s.pwr.st == .active && !s.skn.cutOff

/-- The unfetched packets of a queue (R32). -/
def Queue.unfetched (x : Queue) : Nat := ringSpan x.sqSize x.sqHead x.sqTail

/-- A ready queue (R36). -/
def State.queueReady (s : State) (q : QId) : Bool :=
  s.fetches q && decide (0 < (s.queue q).unfetched) && decide (0 < (s.queue q).freeSlots)

/-- The arbiter at which a decoded packet of a queue asks for its sequencer or its core (R57, R242). -/
def State.dispatchArb (s : State) (q : QId) (p : Packet) : Nat :=
  if (opInfo p.opcode).any (·.fast) then 1 else if s.setOf q then 3 else 2

/-- The index in the standard requester set of the unit that a command runs on (R242). -/
def standardRequester (unit : Byte) : Nat :=
  if unit.toNat < 8 then 4 else if unit.toNat < 16 then 5 else if unit.toNat < 0x14 then unit.toNat - 16 else 6

/-- A ledger record that requests the commit unit: with ACK_GATE, once its last record is acknowledged (R129). -/
def State.ledgerAsks (s : State) : Option (CommitRec × List After) :=
  s.led.waiting.filter fun p => !s.ru.jrn.ackGate || decide (p.1.jseq ≤ s.ru.jrn.ack)

/-- The requester of the commit unit that a record belongs to (R242). -/
def CuReq.requester : CuReq → Nat
  | .ledger .. => 0
  | .gen _ => 1
  | .mss .. | .refresh .. => 2
  | .root .. => 3

/-- A run of the seal pipeline holds a block ready: its context's record is cached, and a block is left (R179, R192). -/
def State.runAsks (s : State) (r : SealRun) : Bool :=
  !s.sl.fills.contains r.ctx && (r.j0 || !r.aad.isEmpty || !r.data.isEmpty)

/-- The requester of each request that waits at an arbiter now, as the units themselves have them: ready queues, decoded packets by
domain, parked jobs, blocks of the seal pipeline and of the digest unit, records for the commit unit; none for an arbiter whose requests the rows bring. -/
def State.asks (s : State) (n : Nat) : Option (List Nat) :=
  match n with
  | 0 => some ((s.queues.map Prod.fst).filter fun q => s.queueReady (BitVec.ofNat 14 q))
  | 1 | 2 | 3 => some (s.queues.flatMap fun p => p.2.inflight.filterMap fun f =>
      if f.stage == .decoded && s.dispatchArb (BitVec.ofNat 14 p.1) f.pkt == n then some p.2.dom.toNat else none)
  | 12 => some (s.spn.signParked.map fun j => standardRequester j.h.unit)
  | 13 => some (s.spn.verifyParked.map fun j => standardRequester j.h.unit)
  | 14 => some ((s.sl.runs.filter s.runAsks).map fun r => standardRequester r.h.unit)
  | 17 => some (s.dig.runs.map fun r => standardRequester r.h.unit)
  | 21 => some (s.ledgerAsks.toList.map (fun _ => 0) ++ s.kp.queue.map CuReq.requester)
  | _ => none

/-- The requests of a requester brought to a number: new ones park now, those that have ended leave (R244). -/
def Requester.sync (stamp k : Nat) (r : Requester) : Requester :=
  { r with parked := r.parked.drop (r.parked.length - k) ++
                     List.replicate (k - r.parked.length) { since := stamp, starved := false } }

/-- The pending queue of an arbiter brought to what its requesters ask now. -/
def State.sync (n : Nat) (s : State) : State :=
  match s.asks n with
  | none => s
  | some asks =>
    let a := s.arbiter n
    let ids := (asks ++ a.reqs.map Prod.fst).dedup.filter fun i => asks.count i != (a.req i).parked.length
    if ids.isEmpty then s
    else s.setArbiter n
      { a with reqs := ids.foldl (fun t i => t.put i ((a.req i).sync (s.stamp n) (asks.count i))) a.reqs }

/-- Requests park (R244). -/
def State.park (n : Nat) (arrivals : List Nat) (s : State) : State :=
  arrivals.foldl
    (fun s i =>
      let r := (s.arbiter n).req i
      s.setReq n i { r with parked := r.parked ++ [{ since := s.stamp n, starved := false }] }) s

/-! ## Choosing (R243) -/

/-- Step 2 of R243: the first requester from the pointer upward, cyclically, among those that ask and hold credit. -/
def nextAsking (p : Nat) (asks : List Nat) : Option Nat :=
  match (asks.filter fun i => decide (p ≤ i)).min? with
  | some i => some i
  | none => asks.min?

/-- The requesters with a parked request. -/
def Arbiter.asking (a : Arbiter) : List Nat := (a.reqs.filter fun p => !p.2.parked.isEmpty).map Prod.fst

/-- Step 1 of R243 over the requesters that a test names: where none that asks holds credit, every credit becomes its weight. -/
def Arbiter.reload (mine : Nat → Bool) (weight : Nat → Requester → Byte) (asks : List Nat) (a : Arbiter) : Arbiter :=
  if asks.any fun i => (a.req i).credit != 0 then a
  else { a with reqs := a.reqs.mapVals fun i r => if mine i then { r with credit := weight i r } else r }

/-- A requester spends a credit. -/
def Arbiter.spend (i : Nat) (a : Arbiter) : Arbiter :=
  { a with reqs := a.reqs.put i { a.req i with credit := (a.req i).credit - 1 } }

/-- The number under which arbiter 0 keeps the credit of a domain, beside its queues. -/
def domainReq (d : Dom) : Nat := 16384 + d.toNat

/-- The domains of a list hold credit entries of their own: one that was never listed holds its `fetch_weight` at power-on reset's
value of 1. -/
def Arbiter.listDomains (ds : List Nat) (a : Arbiter) : Arbiter :=
  { a with reqs := ds.foldl (fun t i => t.put i (a.req i)) a.reqs }

/-- The choice of an arbiter with one level. -/
def State.pick (s : State) (n : Nat) : Option (Nat × Arbiter) :=
  let a := s.arbiter n
  let asks := a.asking
  if n = 21 then
    -- R17: a ledger record first, then the oldest
    let oldest := asks.foldl (fun best i =>
      let t (j : Nat) : Nat := ((a.req j).parked.head?.map (·.since)).getD 0
      match best with | some j => if t i < t j then some i else some j | none => some i) (none : Option Nat)
    (if asks.contains 0 then some 0 else oldest).map fun i => (i, a)
  else
    let a := a.reload (fun _ => true) (fun _ r => r.weight) asks
    (nextAsking a.pointer (asks.filter fun i => (a.req i).credit != 0)).map fun i =>
      let b := a.spend i
      let more := decide (1 < (b.req i).parked.length)
      (i, { b with pointer := if (b.req i).credit = 0 || !more then i + 1 else i })

/-- The choice of arbiter 0: a domain by weight, then a queue of it (R36, R243). A reload of level one sets the credit of every domain
whose policy was ever set, beside those that ask; one of level two sets that of every queue of the domain. -/
def State.pickQueue (s : State) : Option (Nat × Arbiter) :=
  let a := s.arbiter 0
  let asks := a.asking
  let domOf (i : Nat) : Dom := (s.queue (BitVec.ofNat 14 i)).dom
  let doms := (asks.map fun i => domainReq (domOf i)).dedup
  let a := (a.listDomains (doms ++ s.domains.map fun p => 16384 + p.1)).reload (fun i => decide (16384 ≤ i))
    (fun i _ => (s.policy (BitVec.ofNat 8 (i - 16384))).weight) doms
  match nextAsking a.pointer (doms.filter fun i => (a.req i).credit != 0) with
  | none => none
  | some d =>
    let mine := asks.filter fun i => domainReq (domOf i) == d
    let a := a.reload (fun i => decide (i < 16384) && domainReq (domOf i) == d) (fun _ _ => 1) mine
    (nextAsking (a.queuePtr.get d 0) (mine.filter fun i => (a.req i).credit != 0)).map fun q =>
      let b := (a.spend d).spend q
      let left := mine.any fun i => i != q || decide (1 < (b.req i).parked.length)
      (q, { b with pointer := if (b.req d).credit = 0 || !left then d + 1 else d
                   queuePtr := b.queuePtr.put d (q + 1) })

/-- The requester an arbiter grants next, with the arbiter after the choice. -/
def State.choose (s : State) (n : Nat) : Option (Nat × Arbiter) := if n = 0 then s.pickQueue else s.pick n

/-- A requester after a grant: its oldest request leaves, and the wait is counted unless the counters are held (R246). -/
def Requester.granted (held : Bool) (wait : Nat) (r : Requester) : Requester :=
  let r := { r with parked := r.parked.drop 1 }
  if held then r
  else { r with grants := satAdd r.grants 1, waits := satAdd r.waits wait
                longest := if r.longest.toNat < wait then sat 32 wait else r.longest }

/-- The counters of an arbiter do not count a grant: FREEZE holds them (R246), or CLEAR was written in the same cycle (R249). -/
def State.uncounted (s : State) (n : Nat) : Bool :=
  (s.arbiter n).frozen || (s.arbiter n).clearedAt == some (s.stamp n)

/-- The grant of a choice. -/
def State.grantTo (n i : Nat) (a : Arbiter) (s : State) : State :=
  let r := a.req i
  let wait := s.waitOf n ((r.parked.head?.map (·.since)).getD 0)
  s.setArbiter n { a with reqs := a.reqs.put i (r.granted (s.uncounted n) wait) }

/-- One transfer is granted. -/
def State.grant (n : Nat) (s : State) : State :=
  match s.choose n with
  | none => s
  | some (i, a) => s.grantTo n i a

/-- A transfer is granted to one requester where the arbiter chooses it, and to none else. -/
def State.grantFor (n i : Nat) (s : State) : Option State :=
  match s.choose n with
  | some (j, a) => if j = i then some (s.grantTo n i a) else none
  | none => none

/-- A request that a free resource takes in the cycle it is made (R244). -/
def State.grantAtOnce (n i : Nat) (s : State) : State := (s.park n [i]).grant n

/-- The transfers of one command while nothing else asks: each is granted in the cycle it is ready (R192, R203, R244). -/
def State.grantsAtOnce (n i k : Nat) (s : State) : State := (List.range k).foldl (fun s _ => s.grantAtOnce n i) s

/-- A requester's request is granted whatever the arbiter would choose: the command waits for just this one. -/
def State.grantOwn (n i : Nat) (s : State) : State := let s := s.sync n; s.grantTo n i (s.arbiter n)

/-- Nothing asks at an arbiter that the units ask at themselves. -/
def State.quiet (s : State) (n : Nat) : Bool := ((s.asks n).getD []).isEmpty

end Sys2Proof.Machine
end

