-- ==== Sys2Proof/Machine/Landing.lean ====
section
/-! DEFINITION. How a packet comes to run: landing (R35, R36), decode and its refusals (R46, R47), dispatch (R57), and the one
wrapper through which every opcode's row runs its body and gives its reply. -/

namespace Sys2Proof.Machine

/-- HOLD or a stronger response is in force (R46). -/
def State.holding (s : State) : Bool := s.tmp.level != 0

/-- The packets HOLD does not refuse: `NOP` and `GET_INFO` on queue 0 (R46). -/
def holdExempt (q : QId) (p : Packet) : Bool := q == 0 && (p.opcode == 0x0100 || p.opcode == 0x0105)

/-- The packet a row stands for: the row fixes the opcode and, where the table splits an opcode, its op byte. -/
def rowPacket (op : BitVec 16) (sub : Option Byte) (p : Packet) : Packet :=
  let p' := { p with opcode := op }
  match sub with
  | some b => p'.setByte (opByte op) b
  | none => p'

/-- A packet is fetched from the ring with its completion slot reserved (R35, R36): its read is under way, or it has landed. -/
def Queue.land (id : Nat) (stage : Stage) (onHold : Bool) (p : Packet) (x : Queue) : Queue :=
  let head := ringNext x.sqSize x.sqHead
  let res := ringNext x.cqSize x.cqRes
  let f : Fetched :=
    { id, pkt := p, sqHead := head, stage, linked := x.chainOpen
      prior := if x.chainOpen then x.lastAnswer else none, running := false, slot := x.cqRes, phase := x.phase, onHold
      keys := 0, since := 0 }
  { x with sqHead := head, sqTail := if x.sqHead = x.sqTail then head else x.sqTail, cqRes := res
           phase := if res = 0 then !x.phase else x.phase, inflight := x.inflight ++ [f], chainOpen := p.chain
           lastAnswer := none }

/-- A packet of a queue lands. -/
def State.land (q : QId) (p : Packet) (s : State) : State :=
  let x := (s.queue q).land s.gctl.nextId .landed (s.holding && !holdExempt q p) p
  { s.setQueue q x with gctl := { s.gctl with nextId := s.gctl.nextId + 1 } }

/-- The fetch of a packet of a queue is granted; it lands later (R36). -/
def State.grantFetch (q : QId) (p : Packet) (s : State) : State :=
  let x := (s.queue q).land s.gctl.nextId .granted false p
  { s.setQueue q x with gctl := { s.gctl with nextId := s.gctl.nextId + 1 } }

/-- A packet waits: behind an earlier packet of its queue under FENCE, or for the reply of the packet before it in its chain
(R43, R44). -/
def Fetched.waits (f : Fetched) (earlier : List Fetched) : Bool :=
  !f.onHold && ((f.pkt.fence && !earlier.isEmpty) || (f.linked && f.prior == none))

/-- What a decode answers: the status that refuses the packet, or none (R44, R46, R47). -/
def State.judge (s : State) (q : QId) (f : Fetched) : Option (BitVec 16) :=
  if f.onHold then some stHoldActive
  else if f.linked && f.prior == some false then some stChainBroken
  else decodeCheck s q f.pkt .host

/-- The reply of a packet answered at decode: unit 0xFF, 18 cyc (R46, R57). -/
def Fetched.refusal (q : QId) (f : Fetched) (st : BitVec 16) : Held :=
  { q, via := .host, id := f.id, tag := f.pkt.tag, status := st, unit := 0xFF, chainEnd := f.linked && !f.pkt.chain
    truncated := false, notify := f.pkt.notify, sqHead := f.sqHead, resultLen := 0, cycles := 18, arbWait := 0, inl := 0
    write := none }

/-- A packet in flight changed. -/
def State.setFetched (q : QId) (f : Fetched) (s : State) : State :=
  let x := s.queue q
  s.setQueue q { x with inflight := x.inflight.map fun g => if g.id = f.id then f else g }

/-- The next packet of a queue to decode, with those before it: the first that has landed and is not decoded (R45). -/
def Queue.nextLanded (x : Queue) : Option (List Fetched × Fetched) :=
  ((x.inflight.zipIdx.find? fun p => p.1.stage == .landed)).map fun p => (x.inflight.take p.2, p.1)

/-- A packet whose read ends after its queue began to reset is answered as one that was never dispatched (R62 step 2). -/
def State.landAborted (q : QId) (f : Fetched) (s : State) : State :=
  let s := s.postReply ({ f with linked := false }.refusal q stQueueResetAbort)
  let x := s.queue q
  s.setQueue q { x with ending := x.ending.map fun e => { e with aborted := e.aborted + 1 } }

/-- The oldest packet of a queue whose read is under way lands. -/
def State.landNext (q : QId) (s : State) : State :=
  match (s.queue q).inflight.find? (·.stage == .granted) with
  | none => s
  | some f =>
    if (s.queue q).ending.isSome then s.landAborted q f
    else s.setFetched q { f with stage := .landed, onHold := s.holding && !holdExempt q f.pkt }

/-- The next packet of a queue that has landed is decoded, unless it waits. -/
def State.judgeNext (q : QId) (s : State) : State :=
  match (s.queue q).nextLanded with
  | none => s
  | some (before, f) =>
    if f.waits before then s
    else match s.judge q f with
      | some st => s.postReply (f.refusal q st)
      | none =>
        (s.setFetched q { f with stage := .decoded, keys := (s.policy (s.queue q).dom).keys, since := s.now }).sync
          (s.dispatchArb q f.pkt)

/-- A packet of a queue lands where one is on its way, and the next one is decoded (R45, R47). -/
def State.decodeNext (q : QId) (s : State) : State := (s.landNext q).judgeNext q

/-- A packet holds the unit it was dispatched to: a command core until its reply, but a class 0x0A packet passed on to the MSS
only until then (R355), and a fast-path sequencer until it waits for other units (notes/assumptions/15.md). -/
def Fetched.holds (f : Fetched) (u : Nat) : Bool :=
  f.stage == .dispatched (BitVec.ofNat 8 u) &&
  (!f.running || (decide (u < 16) && !(f.pkt.opcode.toNat / 256 == 0x0A && f.pkt.opcode != 0x0A05)))

/-- A sequencer or core feeds a unit with blocks that have not all entered yet (R193). -/
def State.feeds (s : State) (u : Nat) : Bool :=
  (s.sl.runs.any fun r => r.h.unit.toNat == u && (r.j0 || !r.aad.isEmpty || !r.data.isEmpty)) ||
  s.dig.runs.any fun r => r.h.unit.toNat == u

/-- A unit is idle and in service (R243). -/
def State.idleUnit (s : State) (u : Nat) : Bool :=
  !s.isOut u && !s.feeds u && s.queues.all fun p => p.2.inflight.all fun f => !f.holds u

/-- The unit a decoded packet is granted: the lowest idle sequencer, or the lowest idle core of its slice's set (R57, R243). -/
def State.unitFor (s : State) (q : QId) (p : Packet) : Option Nat :=
  if (opInfo p.opcode).any (·.fast) then lowestFrom s.idleUnit 4 0x10
  else lowestFrom s.idleUnit 8 (if s.setOf q then 8 else 0)

/-- Of two packets with the queues they came on, the one that asked for its unit first (R244). -/
def earlier (a b : QId × Fetched) : QId × Fetched :=
  if b.2.since < a.2.since ∨ (b.2.since = a.2.since ∧ b.2.id < a.2.id) then b else a

/-- The packets of a domain that ask at a dispatch arbiter, with their queues. -/
def State.asksOf (s : State) (n d : Nat) : List (QId × Fetched) :=
  s.queues.flatMap fun p =>
    if p.2.dom.toNat ≠ d then []
    else (p.2.inflight.filter fun f => f.stage == .decoded && s.dispatchArb (BitVec.ofNat 14 p.1) f.pkt == n).map fun f =>
      (BitVec.ofNat 14 p.1, f)

/-- What a dispatch arbiter grants now: a packet of the domain it chooses, the one that asked first, the unit it goes to, and the arbiter's
choice (R57, R243, R244). -/
def State.nextDispatch (n : Nat) (s : State) : Option ((QId × Fetched) × Nat × Nat × Arbiter) :=
  let s := s.sync n
  match s.choose n with
  | none => none
  | some (d, a) =>
    match s.asksOf n d with
    | [] => none
    | x :: rest =>
      let o := rest.foldl earlier x
      (s.unitFor o.1 o.2.pkt).map fun u => (o, u, d, a)

/-- The packet that a dispatch arbiter grants goes to its unit. -/
def State.dispatchAt (n : Nat) (s : State) : State :=
  match s.nextDispatch n with
  | some (o, u, d, a) => ((s.sync n).grantTo n d a).setFetched o.1 { o.2 with stage := .dispatched (BitVec.ofNat 8 u) }
  | none => s

/-- The first decoded packet of a queue for which a unit is idle is dispatched, where the arbiter of its path grants it (R45, R57,
R243). -/
def State.dispatchNext (q : QId) (s : State) : State :=
  match (s.queue q).inflight.find? fun f => f.stage == .decoded && (s.unitFor q f.pkt).isSome with
  | none => s
  | some f =>
    let n := s.dispatchArb q f.pkt
    if (s.nextDispatch n).any fun o => o.1.1 == q && o.1.2.id == f.id then s.dispatchAt n else s

/-- The dispatched packet of a queue that a row runs: the first equal one that does not run yet. -/
def Queue.ready (x : Queue) (p : Packet) : Option Fetched :=
  x.inflight.find? fun f => !f.running && f.pkt == p && (match f.stage with | .dispatched _ => true | _ => false)

/-- Two packets of one queue whose commands reach their unit in ring order: LOCKED ones, and those of classes 0x04 and 0x06 on one
context (R45, R191, R203). -/
def inOrder (p r : Packet) : Bool :=
  (p.locked && r.locked) ||
  ((p.opcode.toNat / 256 == 4 || p.opcode.toNat / 256 == 6) && r.opcode.toNat / 256 == p.opcode.toNat / 256 && p.handleA == r.handleA)

/-- A packet reaches its unit only after the earlier packets of its queue that it must follow (R45, R191, R203). -/
def Queue.ringTurn (x : Queue) (f : Fetched) : Bool :=
  (x.inflight.takeWhile (·.id != f.id)).all fun g => !inOrder f.pkt g.pkt || g.running

/-- The leaves a running checkpoint has hashed by a cycle: the header's 96 + 85 cycles after the cut, then one every 278,545 cycles
(R134, R135); what its reads and writes stall is not known before its root is formed (DESIGN CHOICE, notes/assumptions/78.md). -/
def Ckpt.leavesAt (now : Nat) (k : Ckpt) : Nat :=
  if k.root.isSome then 1031 else if now < k.began + 181 then 0 else min 1030 (1 + (now - k.began - 181) / 278545)

/-- The chunk that a unit of the snapshot lies in: units are the 128-byte pieces of chunks 1 to 1,030 in order (R132, R133). -/
def unitChunk (unit : Nat) : Nat := 1 + unit / 8192

/-- The units in the staging area at a cycle: those of chunks not sealed yet (R132). -/
def Ckpt.stagedAt (now : Nat) (k : Ckpt) : List Nat := k.staged.filter fun u => decide (k.leavesAt now ≤ unitChunk u)

/-- The staging area holds all it can (R132, R142). -/
def State.stagingFull (s : State) : Bool := s.ru.ckpt.any fun k => decide (2097152 ≤ (k.stagedAt s.now).length)

/-- The opcodes that change units of a snapshot: pool records, transfer records and register entries. -/
def changesUnits (op : Nat) : Bool :=
  op == 0x0107 || op == 0x0108 || (op / 256 == 2 && op != 0x0208 && op != 0x020F) || op == 0x0301 || op == 0x0303 || op == 0x0309

/-- A command that changes the ledger or the register waits while the staging area is full (R132); the manual lets a change of a unit
that is staged already go on, the model lets the whole command wait (DESIGN CHOICE, notes/assumptions/78.md). -/
def State.stagingHolds (s : State) (p : Packet) : Bool := s.stagingFull && changesUnits p.opcode.toNat

/-- The line of the context cache that a miss evicts: the least recently used one that is not a TICKET context's and has no command in
flight (R179). -/
def State.victim (s : State) : Option Nat :=
  s.sl.cache.reverse.find? fun n => (s.sealCtx n).all fun k => k.usage != 3 && !k.inflight

/-- A class 0x04 command whose context's record is not cached waits while no line of the cache can be evicted (R179). -/
def State.cacheHolds (s : State) (p : Packet) : Bool :=
  p.opcode.toNat / 256 == 4 && decide (4096 ≤ s.sl.cache.length) && !s.sl.cache.contains (hIndex p.handleA) && s.victim.isNone

/-- What a unit cannot take now: a command that changes staged units, one that needs a cache line, one that waits for entropy. -/
def State.holdsBack (s : State) (p : Packet) : Bool :=
  s.stagingHolds p || s.cacheHolds p || (needsEntropy p && !s.entropyOk)

/-- The opcodes whose commands reach the ledger engine with the pool they name: those whose cycles of R58 and R75 hold W_ledger. -/
def reachesLedger (op : Nat) : Bool := op == 0x0107 || (op / 256 == 2 && op != 0x0208 && op != 0x020F)

/-- A LOCKED command of the owner reaches the ledger engine on a pool: the lease restarts (R86). -/
def State.touchLock (q : QId) (p : Packet) (s : State) : State :=
  match (opInfo p.opcode).bind (namedPool p) with
  | none => s
  | some n =>
    match s.lock n with
    | none => s
    | some k =>
      if p.locked && reachesLedger p.opcode.toNat && k.q == q && k.epoch == (s.queue q).epoch then
        { s with led := { s.led with locks := s.led.locks.put n.toNat { k with deadline := s.now + k.lease * 800000 } } }
      else s

/-- A queue asks the host fetch arbiter for the packet of a row. -/
def State.askFetch (q : QId) (s : State) : State :=
  let s := s.sync 0
  if ((s.arbiter 0).req q.toNat).parked.isEmpty then s.park 0 [q.toNat] else s

/-- The packet of a row comes in: where no dispatched packet of the queue is the one it names, the host fetch arbiter grants its fetch
where its turn has come, the packet lands, and is decoded and dispatched where nothing holds it back. -/
def State.bringIn (q : QId) (p : Packet) (s : State) : State :=
  if ((s.queue q).ready p).isSome then s
  else if s.fetches q && decide (0 < (s.queue q).freeSlots) then
    match (s.askFetch q).grantFor 0 q.toNat with
    | some s => ((s.land q p).judgeNext q).dispatchNext q
    | none => s
  else s

/-- The context in which a packet in flight runs. -/
def State.ctxOf (s : State) (c : Cmd) (p : Packet) (f : Fetched) : Ctx :=
  { c := { c with pkt := p }, epoch := (s.queue c.q).epoch, dom := (s.queue c.q).dom, id := f.id
    unit := match f.stage with | .dispatched u => u | _ => 0xFF
    sqHead := f.sqHead, chainEnd := f.linked && !p.chain, keys := f.keys }

/-- The context of a command on the side-band or the service port (R349, R354). -/
def sideCtx (c : Cmd) (p : Packet) : Ctx :=
  { c := { c with pkt := p }, epoch := 0, dom := 0, id := 0, unit := Config.sideUnit, sqHead := Config.sideHead
    chainEnd := false, keys := 0 }

/-- What a body answered becomes a reply: at once, after the open commit group, or by a later step (R21, R31). -/
def Out.finish (x : Ctx) (o : Out) : State :=
  match o.when_ with
  | .now => o.s.postReply (x.held o.status o.cyc o.inl o.result)
  | .group =>
    let g := o.s.led.group
    { o.s with led := { o.s.led with group :=
      { g with after := g.after ++ [.reply (x.held o.status o.cyc o.inl o.result)] } } }
  | .later => o.s

/-- The MSS is free for a command of a transport, or has taken just that command (R349). -/
def State.mssTakes (s : State) (via : Transport) (c : Cmd) (p : Packet) : Bool :=
  match s.mss.running with
  | none => true
  | some (v, d) => v == via && d.q == c.q && d.pkt == p && !s.mss.begun

/-- The MSS answers in its ROM-only mode (R348). -/
def romOnly (op : BitVec 16) : Bool :=
  op == 0x0100 || op == 0x0105 || op == 0x0A0C || op == 0x0A0D || op == 0x0A0F

/-- What refuses a command of the side-band or the service port: ROM-only mode, opcodes outside the management subset (R348,
R354), the checks of R47. -/
def State.judgeSide (s : State) (p : Packet) (via : Transport) : Option (BitVec 16) :=
  let op := p.opcode
  if !(op == 0x0100 || op == 0x0105 || op.toNat / 256 == 0x0A) then some stBadOpcode
  else if s.mss.st == .romOnly && !romOnly op then some stBadOpcode
  else decodeCheck s 0 p via

/-- A class 0x0A packet other than `UNIT_SERVICE` is carried out by the MSS (R355). -/
def forMss (op : BitVec 16) : Bool := op.toNat / 256 == 0x0A && op != 0x0A05

/-- The packet of a host queue that the MSS has taken and has not carried out yet (R349). -/
def State.taken (s : State) (q : QId) (p : Packet) : Option Fetched :=
  match s.mss.running with
  | some (.host, d) =>
    if d.q = q ∧ d.pkt = p ∧ !s.mss.begun then (s.queue q).inflight.find? fun f => f.running && f.pkt == p else none
  | _ => none

/-- The inline data of a side-band or service port command: that of the message the MSS took, where it took one (R349). -/
def State.sideData (s : State) (c : Cmd) : Bytes :=
  match s.mss.running with
  | some (_, d) => d.data
  | none => c.data

/-- A row of an opcode runs: its packet is brought in on its transport, and its body runs once it is dispatched and its unit
free; a packet held back on the way stays where R44, R45 and R57 hold it. -/
def runOp (op : BitVec 16) (sub : Option Byte) (body : Ctx → State → Out) (c : Cmd) (s : State) : State :=
  let p := rowPacket op sub c.pkt
  match c.via with
  | .host =>
    match s.taken c.q p with
    | some f =>
      let k := s.ctxOf c p f
      (body k { s with mss := { s.mss with begun := true } }).finish k
    | none =>
      let s := s.bringIn c.q p
      let x := s.queue c.q
      match x.ready p with
      | none => s
      | some f =>
        if !x.ringTurn f || s.holdsBack p then s
        else
          let k := s.ctxOf c p f
          let s := (s.setFetched c.q { f with running := true }).touchLock c.q p
          if !forMss op then (body k s).finish k
          else if s.mss.st == .running && s.mss.running.isNone then
            (body k { s with mss := { s.mss with running := some (.host, k.c), begun := true } }).finish k
          else { s with mss := { s.mss with forwarded := s.mss.forwarded ++ [k.c] } }
  | via =>
    if (s.mss.st == .running || s.mss.st == .romOnly) && s.mssTakes via c p then
      let k := sideCtx { c with data := s.sideData c } p
      let s := { s with mss := { s.mss with running := some (via, k.c), begun := true } }
      match s.judgeSide p via with
      | some st => s.postReply (k.held st 0 0 [])
      | none => (body k s).finish k
    else s

/-- The fixed cycles of a path on a host queue; the side-band and service ports count theirs as the MSS's part (R355,
notes/assumptions/20.md). -/
def Ctx.cyc (x : Ctx) (n : Nat) : Nat := match x.c.via with | .host => n | _ => 0

/-- The fixed cycles of a refusal after dispatch whose body the manual does not time: decode, dispatch and post (R57), and the
body's own, a FREE VALUE (notes/assumptions/20.md). -/
def Ctx.refused (x : Ctx) (s : State) (st : BitVec 16) : Out :=
  let p := x.c.pkt
  .stop s st (x.cyc ((if (opInfo p.opcode).any (·.fast) then 22 else 24) + Config.refusedBody p.opcode st))

/-- The input data of a command: exactly `data_len` bytes (R49). -/
def Ctx.data (x : Ctx) : Bytes := slice x.c.data 0 x.c.pkt.dataLen.toNat

/-- A host memory read of the command failed (R50). -/
def Ctx.readFailed (x : Ctx) : Bool := x.c.memErr.isSome && x.c.pkt.dataLen != 0

/-- A command that reads data fails when the read does, with no effect (R50). -/
def withData (x : Ctx) (s : State) (k : Bytes → Out) : Out :=
  if x.readFailed then x.refused s stHostMemory else k x.data

end Sys2Proof.Machine
end

