-- ==== Sys2Proof/Machine/Ledgering.lean ====
section
/-! DEFINITION. The ledger engine's shared operations: the checker (R67, R68), journal room, pledges and the chainer (R124 to
R130), forced records with their changes (R128), locks (R83 to R86), freezing and thawing (R88 to R90), the open group and
the comparison that ends a recovery (R92, R93, R101, R102). -/

namespace Sys2Proof.Machine

/-! ## The checker -/

/-- A vector of counter deltas (R68, R76). -/
structure Delta where
  l : Int := 0
  m : Int := 0
  a : Int := 0
  r : Int := 0
  i : Int := 0
  s : Int := 0
  v : Int := 0
  t : Int := 0
  x : Int := 0
  w : Int := 0
  deriving DecidableEq, Repr

/-- The conservation law of R67. -/
def Totals.sound (t : Totals) : Bool := t.l + t.m == t.a + t.r + t.i + t.s + t.v + t.t + t.x + t.w

/-- Every counter lies within a width. -/
def Totals.within (w : Nat) (t : Totals) : Bool := t.list.all fun n => decide (n < 2 ^ w)

/-- A counter moved by a delta; none where it would leave its range. -/
def moved (w : Nat) (c : Nat) (d : Int) : Option Nat :=
  if 0 ≤ (c : Int) + d ∧ (c : Int) + d < 2 ^ w then some ((c : Int) + d).toNat else none

/-- Ten counters moved by a vector of deltas, each within `w` bits; none where one would leave its range. -/
def Totals.shift (w : Nat) (d : Delta) (t : Totals) : Option Totals :=
  match moved w t.l d.l, moved w t.m d.m, moved w t.a d.a, moved w t.r d.r, moved w t.i d.i, moved w t.s d.s,
    moved w t.v d.v, moved w t.t d.t, moved w t.x d.x, moved w t.w d.w with
  | some l, some m, some a, some r, some i, some s, some v, some tt, some x, some ww =>
    some { l, m, a, r, i, s, v, t := tt, x, w := ww }
  | _, _, _, _, _, _, _, _, _, _ => none

/-- The checker (R68): the counters after a change of a pool and of the live totals, if every test passes. -/
def checked (d : Delta) (p live : Totals) : Option (Totals × Totals) :=
  if !p.sound then none
  else match p.shift 40 d, live.shift 48 d with
    | some p', some live' => if p'.sound then some (p', live') else none
    | _, _ => none

/-- The working copy of a pool record changes, and its write-through waits for a ledger memory slot (R65). -/
def State.putPool (n : PoolId) (p : Pool) (s : State) : State :=
  { s with led := { s.led with
      pools := s.led.pools.put n.toNat p
      pendingWt := if s.led.pendingWt.contains n.toNat then s.led.pendingWt else s.led.pendingWt ++ [n.toNat] } }

/-- A `STATUS_CONSERVATION_REFUSED` completion is counted (R103). -/
def State.countRefused (s : State) : State :=
  { s with led := { s.led with refused := satAdd s.led.refused 1 } }

/-- A pool that fails R67 by itself is marked CHECKER (R68). R96 names no record of the mark and R76 no group: it chains none, and is
carried by the next record of the group (DESIGN CHOICE, notes/assumptions/72.md). -/
def State.markChecker (n : PoolId) (p : Pool) (s : State) : State :=
  let s := s.putPool n { p with checker := true }
  ({ s with led := { s.led with group := { s.led.group with mark := s.led.group.mark || !p.checker } } }).raise evFrozen

/-- One ledger change: a vector of deltas on a pool and on the live totals, with the rest of the record changed by `f` in the
same cycle. Where the checker refuses, nothing changes but the count and, for a record that already failed, its CHECKER mark;
the second component tells whether the change was made (R68). -/
def State.change (n : PoolId) (d : Delta) (f : Pool → Pool) (s : State) : State × Bool :=
  match s.pool n with
  | none => (s.countRefused, false)
  | some p =>
    match checked d p.totals s.led.live with
    | some (t, live) => (({ s with led := { s.led with live } }).putPool n (f (p.withTotals t)), true)
    | none =>
      let s := s.countRefused
      (if p.totals.sound then s else s.markChecker n p, false)

/-! ## Freezing -/

/-- A device-wide freeze flag is set (R89). -/
def State.deviceFrozen (s : State) : Bool := s.led.strip || s.led.scour || s.led.totals

/-- A cause of the pool's own freezes it (R65). -/
def Pool.frozen (p : Pool) : Bool := p.host || p.rebuild || p.checker || p.recovering

/-- A pool is frozen (R65). -/
def State.isFrozen (s : State) (p : Pool) : Bool := p.frozen || s.deviceFrozen

/-- A pool is OPEN and not frozen. -/
def State.isOpen (s : State) (p : Pool) : Bool := p.st == 1 && !s.isFrozen p

/-! ## Journal room and the chainer -/

/-- The ring's depth in records. -/
def State.ringDepth (s : State) : Nat := 2 ^ s.ru.jrn.depth.toNat

/-- A command that will produce `j` records may be admitted (R128, R130). -/
def State.room (s : State) (j : Nat) : Bool :=
  s.ru.jrn.en && decide (s.ru.jrn.seq + s.ru.jrn.pledged + j + 64 ≤ s.ru.jrn.ack + s.ringDepth)

/-- A forced record may be chained (R128). -/
def State.forcedRoom (s : State) : Bool :=
  decide (s.ru.jrn.seq + s.ru.jrn.pledged + 1 ≤ s.ru.jrn.ack + s.ringDepth)

/-- `n` records are pledged, or pledges are used or given back. -/
def State.pledge (n : Nat) (s : State) : State :=
  { s with ru := { s.ru with jrn := { s.ru.jrn with pledged := s.ru.jrn.pledged + n } } }
def State.unpledge (n : Nat) (s : State) : State :=
  { s with ru := { s.ru with jrn := { s.ru.jrn with pledged := s.ru.jrn.pledged - n } } }

/-- `STATUS_JOURNAL_BACKPRESSURE` sets JOURNAL_BP (R128). -/
def State.backpressure (s : State) : State := s.raise evJournalBp

/-- The open group holds a change (R93). -/
def State.groupChange (s : State) : State :=
  { s with led := { s.led with group := { s.led.group with change := true } } }

/-- The open group newly sets a mark that `LEDGER_FSEQ` names (R101). -/
def State.groupMark (s : State) : State :=
  { s with led := { s.led with group := { s.led.group with mark := true } } }

/-- What waits for the open group's durability. -/
def State.afterGroup (a : List After) (s : State) : State :=
  { s with led := { s.led with group := { s.led.group with after := s.led.group.after ++ a } } }

/-- The host address of the ring slot of a sequence (R127). -/
def State.ringAddr (s : State) (seq : Nat) : BitVec 64 :=
  s.ru.jrn.base + BitVec.ofNat 64 (64 * (seq % s.ringDepth))

/-- A record goes to the ring, or is held while EN = 0, in D3hot, or while a member cannot reach the head (R25, R127, R130, R288): a
reset of the link takes none of them (R63). -/
def State.toRing (seq : Nat) (bytes : Bytes) (s : State) : State :=
  if s.ru.jrn.en && !s.skn.cutOff && !s.gctl.d3hot then
    let s := s.post (.hostWrite (s.ringAddr seq) bytes)
    { s with ru := { s.ru with jrn := { s.ru.jrn with written := seq } } }
  else { s with ru := { s.ru with jrn := { s.ru.jrn with unwritten := s.ru.jrn.unwritten ++ [(seq, bytes)] } } }

/-- The records that were held are written, lowest sequence first (R130). -/
def State.flushJournal (s : State) : State :=
  let held := s.ru.jrn.unwritten
  held.foldl (fun s p => s.toRing p.1 p.2) { s with ru := { s.ru with jrn := { s.ru.jrn with unwritten := [] } } }

/-- The chainer: the record takes the next sequence, the chain moves on, the record is written in ring order, and the open
group holds a change (R93, R124, R125, R127). -/
def State.chain (r : JRec) (s : State) : State :=
  let seq := s.ru.jrn.seq + 1
  let b := r.bytes seq s.gctl.time
  let head := chainNext s.ru.jrn.head b
  let s := { s with ru := { s.ru with jrn := { s.ru.jrn with seq, head } } }
  (s.toRing seq (b ++ (digestBytes head).take 16)).groupChange

/-! ## Locks -/

/-- A lock's handle (R83). -/
def lockHandle (n : PoolId) (k : Lock) : BitVec 32 := BitVec.ofNat 32 (0x07000000 + k.gen.toNat * 65536 + n.toNat)

/-- A pool's lock ends (R85): its units return R → A, or are stranded on a frozen pool (R88), and the UNLOCK record names the
first unused serial. -/
def State.endLock (n : PoolId) (flags : Byte) (after : List After) (s : State) : State :=
  match s.lock n with
  | none => s
  | some k =>
    let s := { s with led := { s.led with locks := s.led.locks.del n.toNat } }
    let frozen := (s.pool n).any s.isFrozen
    let u := if frozen then 0 else k.units
    let (s', ok) := if frozen then (s, false) else s.change n { a := k.units, r := -(k.units : Int) } id
    (s'.chain { typ := 0x09, flags, pool := n, serial := BitVec.ofNat 40 k.next
                delta := BitVec.ofNat 32 (if ok then u else 0) }).afterGroup after

/-- The jobs a spindle holds, in its lane, in its shadow or being switched to. -/
def Spindle.jobsHeld (p : Spindle) : List Job :=
  p.job.toList ++ (p.shadow.map Prod.snd).toList ++ p.taking.toList

/-- The `ISSUE`s in flight between reservation and completion. -/
def State.issuesInFlight (s : State) : List IssueRun :=
  let run (j : Job) : List IssueRun := match j.what with | .issue r => [r] | _ => []
  s.spn.sp.toList.flatMap (fun p => p.jobsHeld.flatMap run) ++ s.spn.signParked.flatMap run ++ s.spn.verifyParked.flatMap run

/-- The units of a pool in R that neither a live lock nor a command in flight holds (R88). -/
def State.stranded (s : State) (n : PoolId) : Nat :=
  match s.pool n with
  | none => 0
  | some p => p.r - ((s.lock n).map (·.units)).getD 0 - (s.issuesInFlight.filter (·.pool == n)).length

/-! ## Forced records -/

/-- Causes of a freeze set on a pool, with its FREEZE record (R90, R96). -/
def State.freezePool (n : PoolId) (causes : Byte) (after : List After) (s : State) : State :=
  match s.pool n with
  | none => s
  | some p =>
    let p' := p.withCauses (p.status ||| causes)
    let s := (s.putPool n p').raise evFrozen
    (s.chain { typ := 0x0F, flags := p'.status, pool := n }).afterGroup after

/-- Causes of a freeze cleared on a pool, with its THAW record; where nothing freezes it any more, stranded units return
R → A (R88, R90, R101). -/
def State.thawPool (n : PoolId) (causes : Byte) (after : List After) (s : State) : State :=
  match s.pool n with
  | none => s
  | some p =>
    let p' := p.withCauses (p.status &&& ~~~causes)
    let s := s.putPool n p'
    let u := if s.isFrozen p' then 0 else s.stranded n
    let (s, ok) := if u = 0 then (s, false) else s.change n { a := u, r := -(u : Int) } id
    (s.chain { typ := 0x10, flags := p'.status, pool := n, delta := BitVec.ofNat 32 (if ok then u else 0) }).afterGroup after

/-- The row of the transfer table that holds an identifier (R283). -/
def State.transferRow (s : State) (id : BitVec 64) : Option (Nat × Transfer) :=
  s.skn.transfers.find? fun p => p.2.id == id

/-- The lowest free row of the transfer table. -/
def State.freeRow (s : State) : Option Nat := lowestFrom (fun k => (s.skn.transfers.find k).isNone) 16384 0

/-- A row of the transfer table set, or freed. -/
def State.setTransfer (row : Nat) (t : Transfer) (s : State) : State :=
  { s with skn := { s.skn with transfers := s.skn.transfers.put row t } }
def State.freeTransfer (row : Nat) (s : State) : State :=
  { s with skn := { s.skn with transfers := s.skn.transfers.del row } }

/-- The fingerprint field of a record that names an identifier: bytes 0 to 7 (R96, R286). -/
def idFp (id : BitVec 64) : BitVec 128 := id.setWidth 128

/-- The receiver's record is freed on DONE, with a CLOSE record (R284 step 6, R286). -/
def State.closeTransfer (id : BitVec 64) (s : State) : State :=
  match s.skn.transfers.find? fun p => p.2.id == id && (p.2.kind == 3 || p.2.kind == 4) with
  | none => s
  | some (row, t) =>
    (s.freeTransfer row).chain { typ := 0x25, flags := if t.kind = 3 then 1 else 2, pool := t.pool, fp := idFp id }

/-- A tombstone is created, with its TOMBSTONE record; the answer NONE follows its durability (R285). -/
def State.makeTombstone (src : BitVec 6) (id : BitVec 64) (s : State) : State :=
  match s.freeRow with
  | none => s
  | some row =>
    let t : Transfer := { id, kind := 4, st := 1, pool := 0, units := 0, peer := src.setWidth 8, dom := 0, peerPool := 0
                          time := s.gctl.time, jseq := BitVec.ofNat 64 (s.ru.jrn.seq + 1), card := 0 }
    ((s.setTransfer row t).chain { typ := 0x24, fp := idFp id }).afterGroup [.tombstone src id]

/-- A pool record replaced by a RECOVERY certificate's, without the checker's test of the record before (R68, R101): the live
totals move by the difference; refused where the new counters or totals do not pass. -/
def State.replacePool (n : PoolId) (new : Pool) (s : State) : State × Bool :=
  let old := ((s.pool n).map Pool.totals).getD zeroTotals
  let t := new.totals
  let d (f : Totals → Nat) : Int := (f t : Int) - f old
  let delta : Delta := { l := d (·.l), m := d (·.m), a := d (·.a), r := d (·.r), i := d (·.i), s := d (·.s), v := d (·.v)
                         t := d (·.t), x := d (·.x), w := d (·.w) }
  match s.led.live.shift 48 delta with
  | some live =>
    if t.sound && t.within 40 then (({ s with led := { s.led with live } }).putPool n new, true)
    else (s.countRefused, false)
  | none => (s.countRefused, false)

/-- An owner certificate has been applied: the totals are compared from now on (R101 step 4). -/
def State.noteApplied (s : State) : State := { s with led := { s.led with applied := true } }

/-- A replacement with its FREEZE record (R96, R101 step 2). Check 5 of R72 is repeated now; a certificate overtaken by another mark,
or refused by the checker, answers its command so. -/
def State.replaceForced (n : PoolId) (new : Pool) (ref : Nat) (h : Held) (s : State) : State :=
  if ref ≠ s.led.fseq then s.postReply (h.fail stCertInvalid h.cycles.toNat)
  else match s.replacePool n new with
    | (s, false) => s.postReply (h.fail stConservation h.cycles.toNat)
    | (s, true) =>
      (((s.raise evFrozen).chain { typ := 0x0F, flags := new.status, pool := n }).afterGroup [.reply h]).noteApplied

/-- A pool's units in R return to A at start-up, with a RECOVERY record (R96, R99). -/
def State.recoverPool (n : PoolId) (s : State) : State :=
  let r : Nat := ((s.pool n).map (·.r)).getD 0
  if r = 0 then s
  else match s.change n { a := r, r := -(r : Int) } id with
    | (s, true) => s.chain { typ := 0x12, pool := n, delta := BitVec.ofNat 32 r }
    | (s, false) => s

/-! ## The end of a queue's reset (R62) -/

/-- A queue with its rings empty under its next epoch (R62 step 5). -/
def Queue.renewed (x : Queue) : Queue :=
  { x with epoch := x.epoch + 1, sqTail := 0, sqHead := 0, cqHead := 0, cqTail := 0, cqRes := 0, phase := true
           written := [], inflight := [], owed := 0, owedSince := 0, chainOpen := false, lastAnswer := none
           ending := none, st := .active }

/-- The reply of a reset or deletion: replies aborted, locks released, and the new epoch of a reset (R58). -/
def Ending.reply (e : Ending) (locks : Nat) (epoch : BitVec 16) (h : Held) : Held :=
  { h with inl := inlAt 0 e.aborted ||| inlAt 2 locks ||| (if e.delete then 0 else inlAt 4 epoch.toNat)
           cycles := if locks = 0 then h.cycles else sat 32 (h.cycles.toNat + 1920) }

/-- Steps 5 to 7 of R62: where locks were released, the reply, or the end of AQ_RESET, waits for their commit group. -/
def State.finishQueue (q : QId) (e : Ending) (locks : Nat) (s : State) : State :=
  let x := s.queue q
  let x' := x.renewed
  let s := s.setQueue q (if e.delete then { x with st := .absent, ending := none } else x')
  let s := if !e.delete && x.irqMode != 0 && decide (0 < x.owed) then s.sendMsix x.vector else s
  let waits := decide (0 < locks) && s.led.group.change
  match e.h with
  | some h =>
    if waits then s.afterGroup [.reply (e.reply locks x'.epoch h)] else s.postReply (e.reply locks x'.epoch h)
  | none => if waits then s.afterGroup [.aqReset] else { s with gctl := { s.gctl with aqReset := false } }

/-- A change with its forced record is made now. -/
def State.doForced (f : Forced) (s : State) : State :=
  match f with
  | .endLock n flags after => s.endLock n flags after
  | .freeze n causes after => s.freezePool n causes after
  | .thaw n causes after => s.thawPool n causes after
  | .replace n new ref h => s.replaceForced n new ref h
  | .recover n => s.recoverPool n
  | .close id => s.closeTransfer id
  | .tombstone src id => s.makeTombstone src id
  | .endQueue q e locks => s.finishQueue q e locks

/-- A change with a forced record: made when the record has room and none waits before it; else both wait together (R90,
R128). -/
def State.force (f : Forced) (s : State) : State :=
  if s.forcedRoom && s.ru.jrn.forced.isEmpty then s.doForced f
  else { s with ru := { s.ru with jrn := { s.ru.jrn with forced := s.ru.jrn.forced ++ [f] } } }

/-- What has no record of its own follows the forced records that wait, and needs no room (R62). -/
def State.forceLast (f : Forced) (s : State) : State :=
  if s.ru.jrn.forced.isEmpty then s.doForced f
  else { s with ru := { s.ru with jrn := { s.ru.jrn with forced := s.ru.jrn.forced ++ [f] } } }

/-- The locks a queue owns under an epoch, by pool. -/
def State.locksOf (s : State) (q : QId) (epoch : BitVec 16) : List PoolId :=
  (s.led.locks.filter fun p => p.2.q == q && p.2.epoch == epoch).map fun p => BitVec.ofNat 16 p.1

/-- Every lock of a list of pools ends (R62 step 4, R63). -/
def State.endLocks (flags : Byte) (ns : List PoolId) (s : State) : State :=
  ns.foldl (fun s n => s.force (.endLock n flags [])) s

/-! ## Agreement and the end of a recovery -/

/-- Two vectors of totals agree: L, M, I, S, V, T, X and W, and A + R (R102). -/
def Totals.agrees (p q : Totals) : Bool :=
  p.l == q.l && p.m == q.m && p.i == q.i && p.s == q.s && p.v == q.v && p.t == q.t && p.x == q.x && p.w == q.w &&
  p.a + p.r == q.a + q.r

/-- The sums over the pool records (R102). -/
def sumPools (ps : Tab Pool) : Totals :=
  let f (g : Pool → Nat) : Nat := (ps.map fun p => g p.2).sum
  { l := f (·.l), m := f (·.m), a := f (·.a), r := f (·.r), i := f (·.i), s := f (·.s), v := f (·.v), t := f (·.t)
    x := f (·.x), w := f (·.w) }

/-- A recovery is under way: a pool is RECOVERING, or TOTALS or SCOUR is in force (R89). -/
def State.recovering (s : State) : Bool :=
  s.led.totals || s.led.scour || s.led.pools.any fun p => p.2.recovering

/-- When, after an owner certificate was applied, the live and the durable totals agree, RECOVERING, REBUILD and CHECKER end on every
pool, and TOTALS and SCOUR, in one group (R89, R101 step 4). -/
def State.settleTotals (s : State) : State :=
  if s.led.applied && s.recovering && s.led.live.agrees s.led.durable.tot then
    let s := ({ s with led := { s.led with totals := false, scour := false, applied := false } }).groupChange
    s.led.pools.foldl
      (fun s p =>
        let n : PoolId := BitVec.ofNat 16 p.1
        if p.2.rebuild || p.2.checker || p.2.recovering || decide (0 < s.stranded n) then s.force (.thaw n 0x38 []) else s) s
  else s

/-- The STRIP freeze ends (R101), and stranded units of pools that thaw return (R88). -/
def State.clearStrip (s : State) : State :=
  let s := ({ s with led := { s.led with strip := false } }).groupChange
  if s.deviceFrozen then s
  else s.led.pools.foldl
    (fun s p =>
      let n : PoolId := BitVec.ofNat 16 p.1
      if !p.2.frozen && decide (0 < s.stranded n) then s.force (.thaw n 0 []) else s) s

/-! ## The group -/

/-- The totals a commit record made now carries (R93). -/
def State.recordTotals (s : State) : Totals :=
  match s.led.group.setTotals with
  | some t => t
  | none =>
    if !s.deviceFrozen || !(s.led.lastRec.strip || s.led.lastRec.scour || s.led.lastRec.totals) then s.led.live
    else s.led.lastRec.tot

/-- The identifier of the checkpoint a commit record carries: the running one once its root record is durable (R135). -/
def State.recordCkpt (s : State) : Nat :=
  match s.ru.ckpt with
  | some k => if k.rooted then k.id else s.ru.ckptDone
  | none => s.ru.ckptDone

/-- The commit record that closes the open group (R93); a record that still waits merges with it and gives its sequence
(R95, R129). -/
def State.groupRecord (s : State) : CommitRec :=
  { seq := (s.led.waiting.map fun p => p.1.seq).getD (s.led.lastRec.seq + 1), tot := s.recordTotals
    jseq := s.ru.jrn.seq, head := s.ru.jrn.head, ckpt := s.recordCkpt, time := s.gctl.time
    strip := s.led.strip, scour := s.led.scour, totals := s.led.totals
    recovery := s.led.group.recovery || s.led.waiting.any (·.1.recovery), period := s.led.period
    mark := s.led.group.mark || s.led.waiting.any (·.1.mark) }

/-- The open group closes: its record waits for the commit unit with what follows its durability (R92 to R95). -/
def State.closeGroup (s : State) : State :=
  let g := s.led.group
  if g.change || g.force || g.recovery then
    let r := s.groupRecord
    let s := { s with led := { s.led with
        group := emptyGroup, waiting := some (r, ((s.led.waiting.map Prod.snd).getD []) ++ g.after), lastRec := r } }
    s.sync 21
  else s

/-- A commit record waits because VHOLD is low (R95, R103). -/
def State.supplyLow (s : State) : Bool := s.kp.tripped

end Sys2Proof.Machine
end

