-- ==== Sys2Proof/Machine/Sm4.lean ====
section
/-! DEFINITION. SM4 (GB/T 32907) and its GCM mode (NIST SP 800-38D) as the spec uses them (R174). PRESUMED: the two
algorithms' text is the standards', not the manual's (notes/assumptions/3.md). -/

namespace Sys2Proof.Machine

/-- The S-box of GB/T 32907, entry 0 in the highest byte. -/
def sm4Box : Nat :=
  0xd690e9fecce13db716b614c228fb2c052b679a762abe04c3aa441326498606999c4250f491ef987a33540b43edcfac62e4b31ca9c908e89580df94fa758f3fa64707a7fcf37317ba83593c19e6854fa8686b81b27164da8bf8eb0f4b70569d351e240e5e6358d1a225227c3b01217887d40046579fd327524c3602e7a0c4c89eeabf8ad240c738b5a3f7f2cef96115a1e0ae5da49b341a55ad933230f58cb1e31df6e22e8266ca60c02923ab0d534e6fd5db3745defd8e2f03ff6a726d6c5b518d1baf92bbddbc7f11d95c411f105ad80ac13188a5cd7bbd2d74d012b8e5b4b08969974a0c96777e65b9f109c56ec68418f07dec3adc4d2079ee5f3ed7cb3948

/-- The substitution of one byte. -/
def sm4Sub (b : BitVec 8) : BitVec 8 := BitVec.ofNat 8 (sm4Box >>> (8 * (255 - b.toNat)))

/-- The substitution of the four bytes of a word. -/
def sm4Tau (x : BitVec 32) : BitVec 32 :=
  sm4Sub (x.extractLsb' 24 8) ++ sm4Sub (x.extractLsb' 16 8) ++ sm4Sub (x.extractLsb' 8 8) ++ sm4Sub (x.extractLsb' 0 8)

/-- The linear transform of a round. -/
def sm4L (x : BitVec 32) : BitVec 32 :=
  x ^^^ x.rotateLeft 2 ^^^ x.rotateLeft 10 ^^^ x.rotateLeft 18 ^^^ x.rotateLeft 24

/-- The linear transform of the key schedule. -/
def sm4L' (x : BitVec 32) : BitVec 32 := x ^^^ x.rotateLeft 13 ^^^ x.rotateLeft 23

/-- The constant CK of round `i`. -/
def sm4Ck (i : Nat) : BitVec 32 :=
  BitVec.ofNat 8 (28 * i) ++ BitVec.ofNat 8 (28 * i + 7) ++ BitVec.ofNat 8 (28 * i + 14) ++ BitVec.ofNat 8 (28 * i + 21)

/-- `fuel` round keys from round `32 - fuel` on. -/
def sm4KeyRounds : Nat → BitVec 32 → BitVec 32 → BitVec 32 → BitVec 32 → List (BitVec 32)
  | 0, _, _, _, _ => []
  | fuel + 1, k0, k1, k2, k3 =>
    let k4 := k0 ^^^ sm4L' (sm4Tau (k1 ^^^ k2 ^^^ k3 ^^^ sm4Ck (32 - (fuel + 1))))
    k4 :: sm4KeyRounds fuel k1 k2 k3 k4

/-- The 32 round keys of a key (the key expander of R174). -/
def sm4Keys (key : BitVec 128) : List (BitVec 32) :=
  let k := key ^^^ 0xa3b1bac656aa3350677d9197b27022dc#128
  sm4KeyRounds 32 (k.extractLsb' 96 32) (k.extractLsb' 64 32) (k.extractLsb' 32 32) (k.extractLsb' 0 32)

/-- The rounds of a block under the round keys given. -/
def sm4Rounds : List (BitVec 32) → BitVec 32 → BitVec 32 → BitVec 32 → BitVec 32 → BitVec 128
  | [], x0, x1, x2, x3 => x3 ++ x2 ++ x1 ++ x0
  | rk :: rest, x0, x1, x2, x3 => sm4Rounds rest x1 x2 x3 (x0 ^^^ sm4L (sm4Tau (x1 ^^^ x2 ^^^ x3 ^^^ rk)))

/-- One block encrypted under expanded keys. -/
def sm4EncWith (rks : List (BitVec 32)) (x : BitVec 128) : BitVec 128 :=
  sm4Rounds rks (x.extractLsb' 96 32) (x.extractLsb' 64 32) (x.extractLsb' 32 32) (x.extractLsb' 0 32)

/-- One block encrypted under a key. -/
def sm4Enc (key x : BitVec 128) : BitVec 128 := sm4EncWith (sm4Keys key) x

/-- A 16-byte block as a number, its first byte highest. -/
def blockOf (bs : Bytes) : BitVec 128 := BitVec.ofNat 128 (beNat (slice bs 0 16))

/-- The bytes of a block. -/
def blockBytes (b : BitVec 128) : Bytes := beBytes 16 b.toNat

/-- `fuel` steps of the GF(2^128) product of SP 800-38D, from the highest bit of `x` on. -/
def gfMulSteps : Nat → BitVec 128 → BitVec 128 → BitVec 128 → BitVec 128
  | 0, _, _, z => z
  | fuel + 1, x, v, z =>
    let z' := if x.getLsbD fuel then z ^^^ v else z
    let v' := if v.getLsbD 0 then (v >>> 1) ^^^ (0xe1#128 <<< 120) else v >>> 1
    gfMulSteps fuel x v' z'

/-- The product of GF(2^128) that GHASH uses. -/
def gfMul (x y : BitVec 128) : BitVec 128 := gfMulSteps 128 x y 0

/-- GHASH absorbs one block. -/
def ghashBlock (h acc b : BitVec 128) : BitVec 128 := gfMul (acc ^^^ b) h

/-- GHASH absorbs `n` blocks of a byte string, the last one padded with zeros. -/
def ghashBytes : Nat → BitVec 128 → BitVec 128 → Bytes → BitVec 128
  | 0, _, acc, _ => acc
  | n + 1, h, acc, bs => ghashBytes n h (ghashBlock h acc (blockOf bs)) (bs.drop 16)

/-- J0 of a 96-bit IV (R181). -/
def gcmJ0 (iv : BitVec 96) : BitVec 128 := iv ++ 1#32

/-- The counter block `k` after J0: its last 32 bits count (R181). -/
def gcmCtr (iv : BitVec 96) (k : BitVec 32) : BitVec 128 := iv ++ (1#32 + k)

/-- The key stream applied to `n` blocks from counter `k` on. -/
def gcmCrypt : Nat → List (BitVec 32) → BitVec 96 → BitVec 32 → Bytes → Bytes
  | 0, _, _, _, _ => []
  | n + 1, rks, iv, k, bs =>
    xorBytes (bs.take 16) (blockBytes (sm4EncWith rks (gcmCtr iv k))) ++ gcmCrypt n rks iv (k + 1) (bs.drop 16)

/-- The length block: the bit lengths of the authenticated data and of the ciphertext (R181). -/
def gcmLenBlock (a c : Nat) : BitVec 128 := BitVec.ofNat 64 (8 * a) ++ BitVec.ofNat 64 (8 * c)

/-- The 16-byte GCM tag over authenticated data and ciphertext. -/
def gcmTag (key : BitVec 128) (iv : BitVec 96) (aad ct : Bytes) : Bytes :=
  let rks := sm4Keys key
  let h := sm4EncWith rks 0
  let x := ghashBytes (ceilDiv ct.length 16) h (ghashBytes (ceilDiv aad.length 16) h 0 aad) ct
  blockBytes (ghashBlock h x (gcmLenBlock aad.length ct.length) ^^^ sm4EncWith rks (gcmJ0 iv))

/-- The GCM key stream over a whole message: encryption and decryption alike. -/
def gcmStream (key : BitVec 128) (iv : BitVec 96) (bs : Bytes) : Bytes :=
  gcmCrypt (ceilDiv bs.length 16) (sm4Keys key) iv 1 bs

end Sys2Proof.Machine
end

