-- ==== Sys2Proof/Machine/Keying.lean ====
section
/-! DEFINITION. The key store's shared operations: slots with their shares, ICV and generation checks (R220 to R222), key check
values and usage (R223, R224), wrap keys and blobs (R218, R225), the archive (R219), roots (R213 to R215), generation-table
requests (R228). -/

namespace Sys2Proof.Machine

/-! ## Values -/

/-- A slot value from a byte string: the bytes first, zeros after (R220, R223). -/
def valueOf (bs : Bytes) : BitVec 512 := BitVec.ofNat 512 (beNat (slice bs 0 64))

/-- The 64 bytes of a slot's value. -/
def Slot.bytes (k : Slot) : Bytes := beBytes 64 k.value.toNat

/-- A slot's value as a key of 128 bits, and as one of 256. -/
def Slot.key128 (k : Slot) : BitVec 128 := k.value.extractLsb' 384 128
def Slot.key256 (k : Slot) : BitVec 256 := k.value.extractLsb' 256 256

/-- The scalar of an SM2 secret key on a curve of `w` bits. -/
def Slot.scalar (k : Slot) (w : Nat) : Nat := k.value.toNat / 2 ^ (512 - w)

/-- The point of an SM2 key on a curve of `w` bits. -/
def Slot.point (k : Slot) (w : Nat) : Nat × Nat := (k.q.toNat / 2 ^ w, k.q.toNat % 2 ^ w)

/-- x ‖ y of a point in the companion. -/
def pointOf (w x y : Nat) : BitVec 1024 := BitVec.ofNat 1024 (x * 2 ^ w + y)

/-- x ‖ y, big-endian. -/
def pointBytes (w x y : Nat) : Bytes := beBytes (w / 8) x ++ beBytes (w / 8) y

/-- A point from x ‖ y. -/
def pointAt (w : Nat) (bs : Bytes) : Nat × Nat := (beNat (slice bs 0 (w / 8)), beNat (slice bs (w / 8) (w / 8)))

/-- The key check value (R223). -/
def kcvOf (typ : Byte) (material : Bytes) : BitVec 32 :=
  BitVec.ofNat 32 (leNat (sm3First 4 ([0x4B, typ] ++ material)))

/-! ## Usage (R224) -/

def useSign : Nat := 0
def useSignDigest : Nat := 1
def useVerify : Nat := 2
def useVerifyDigest : Nat := 3
def useCert : Nat := 4
def useSeal : Nat := 5
def useOpen : Nat := 6
def useTicket : Nat := 7
def usePrefix : Nat := 8
def useWrap : Nat := 9
def useClearImport : Nat := 10
def useFingerprint : Nat := 11
def useJournal : Nat := 12
def useTransport : Nat := 13

/-! ## Slots -/

/-- The attributes in the order in which the ICV covers them (notes/assumptions/19.md). -/
def KeyAttr.bytes (a : KeyAttr) : Bytes :=
  [a.typ] ++ leBytes 2 a.usage.toNat ++ [a.curve, a.dom] ++ leBytes 2 a.parent.toNat ++ leBytes 4 a.parentGen.toNat ++
  leBytes 2 a.lineage.toNat ++ leBytes 4 a.lineageGen.toNat ++ [a.origin] ++ leBytes 4 a.kcv.toNat

/-- The code of a slot's state (R220). -/
def SlotSt.code : SlotSt → Byte
  | .valid => 1
  | .shadow => 2
  | .corrupt => 3
  | .reserved => 4

/-- The ICV of a slot: CRC (S0, companion, attributes with the state) XOR CRC (S1, zeros) (R221). -/
def Slot.check (k : Slot) : BitVec 32 :=
  let rest := leBytes 128 k.q.toNat ++ leBytes 32 k.z.toNat ++ k.attr.bytes ++ [k.st.code]
  crc32 (beBytes 64 k.s0.toNat ++ rest) ^^^ crc32 (beBytes 64 k.s1.toNat ++ zeros rest.length)

/-- A slot written with a value, its companion and its attributes (R220, R221). -/
def State.newSlot (s : State) (st : SlotSt) (v : BitVec 512) (q : BitVec 1024) (z : BitVec 256) (attr : KeyAttr) : Slot :=
  let m := Config.mask s.ks.draws
  let k : Slot := { s0 := v ^^^ m, s1 := m, q, z, st, attr, icv := 0, loaded := s.gctl.time, id := []
                    domGen := (s.gen attr.dom.toNat).gen }
  { k with icv := k.check }

/-- A slot in another state, its ICV with it. -/
def Slot.into (st : SlotSt) (k : Slot) : Slot := let k := { k with st }; { k with icv := k.check }

/-- A slot set, or emptied. -/
def State.putSlot (n : Nat) (k : Slot) (s : State) : State :=
  { s with ks := { s.ks with slots := s.ks.slots.put n k } }
def State.emptySlot (n : Nat) (s : State) : State := { s with ks := { s.ks with slots := s.ks.slots.del n } }

/-- The parent and lineage generations of a key still stand (R221, R227): its DMK's, or its KEK entry's while that is live, and
its lineage's; a KEK's own entry stays a KEK of its domain. -/
def State.gensOk (s : State) (k : Slot) : Bool :=
  let a := k.attr
  let p := a.parent.toNat
  let parentOk :=
    if p < 256 then (s.gen p).gen == a.parentGen
    else if p < 4096 then (s.gen p).kind == 2 && (s.gen p).gen == a.parentGen && (s.gen a.dom.toNat).gen == k.domGen
    else true
  let lineageOk :=
    if a.lineage == 0 || p ≥ 4096 then true
    else if a.typ = 7 then (s.gen a.lineage.toNat).kind == 2 && (s.gen a.lineage.toNat).dom == a.dom
    else (s.gen a.lineage.toNat).gen == a.lineageGen
  parentOk && lineageOk

/-- The active root label of a life-cycle state (R213). -/
def rootOfLife (n : Nat) : Nat := ([1, 2, 3, 3, 4] : List Nat).getD n 0

/-- The active root's share is present (R215). -/
def State.share (s : State) : Option (BitVec 256) := s.ks.shares.find (rootOfLife s.life.count.toNat)

/-- The root of a share and label (R214). -/
def rootFrom (fuse share : BitVec 256) (label : Byte) : BitVec 256 :=
  sm3 (digestBytes fuse ++ digestBytes share ++ [label] ++ leBytes 8 Config.serial.toNat)

/-- The root slot 0 holds, while it holds one. -/
def State.rootKey (s : State) : Option (BitVec 256) :=
  if s.ks.root = 0 then none else (s.ks.slots.find 0).map Slot.key256

/-! ## Blobs -/

/-- The wrap key of a parent value, parent number and generation (R218). -/
def wrapKey (p : Bytes) (parent : BitVec 16) (gen : BitVec 32) : BitVec 128 :=
  blockOf (sm3First 16 (p ++ [0x57] ++ leBytes 2 parent.toNat ++ leBytes 4 gen.toNat))

/-- The header of a blob: bytes 0 to 31 (R225). -/
structure BlobHead where
  typ : Byte
  usage : BitVec 16
  curve : Byte
  idLen : Byte
  parent : BitVec 16
  lineage : BitVec 16
  parentGen : BitVec 32
  lineageGen : BitVec 32
  iv : BitVec 96
  deriving DecidableEq, Repr

/-- Its 32 bytes. -/
def BlobHead.bytes (h : BlobHead) : Bytes :=
  [1, h.typ] ++ leBytes 2 128 ++ leBytes 2 h.usage.toNat ++ [h.curve, h.idLen] ++ leBytes 2 h.parent.toNat ++
  leBytes 2 h.lineage.toNat ++ leBytes 4 h.parentGen.toNat ++ leBytes 4 h.lineageGen.toNat ++ beBytes 12 h.iv.toNat

/-- The header of a blob read. -/
def blobHead (bs : Bytes) : BlobHead :=
  let b (k : Nat) : Byte := (slice bs k 1).headD 0
  { typ := b 1, usage := BitVec.ofNat 16 (leAt bs 4 2), curve := b 6, idLen := b 7, parent := BitVec.ofNat 16 (leAt bs 8 2)
    lineage := BitVec.ofNat 16 (leAt bs 10 2), parentGen := BitVec.ofNat 32 (leAt bs 12 4)
    lineageGen := BitVec.ofNat 32 (leAt bs 16 4), iv := BitVec.ofNat 96 (beNat (slice bs 20 12)) }

/-- A blob: the value wrapped under a wrap key, with the ID authenticated (R225). -/
def wrapBlob (wk : BitVec 128) (h : BlobHead) (id : Bytes) (material : Bytes) : Bytes :=
  let ct := gcmStream wk h.iv (slice material 0 64)
  h.bytes ++ ct ++ gcmTag wk h.iv (h.bytes ++ id) ct ++ zeros 16

/-- The material of a blob, if its tag passes with the ID (R225). -/
def unwrapBlob (wk : BitVec 128) (bs id : Bytes) : Option Bytes :=
  let h := blobHead bs
  let ct := slice bs 32 64
  if gcmTag wk h.iv (slice bs 0 32 ++ id) ct = slice bs 96 16 then some (gcmStream wk h.iv ct) else none

/-! ## The archive (R219) -/

/-- The archive entry of a DMK, and of a reserved slot (notes/assumptions/18.md). -/
def archiveDmk (d : Dom) : Nat := d.toNat
def archiveSlot (n : Nat) : Nat := 256 + n

/-- The usage a reserved slot's key has (R219). -/
def reservedUsage (n : Nat) : BitVec 16 :=
  match n with
  | 2 => 0x0010
  | 3 => 0x1000
  | 4 => 0x2000
  | 5 => 0x0800
  | _ => 0

/-- The ICV of an entry of the domain key table: that of its two shares alone (R221, R222; DEDUCED, notes/assumptions/81.md). -/
def dmkCheck (s0 s1 : BitVec 256) : BitVec 32 := crc32 (digestBytes s0) ^^^ crc32 (digestBytes s1)

/-- A DMK written into the domain key table, masked (R216, R222). -/
def State.putDmk (d : Dom) (v : BitVec 256) (s : State) : State :=
  let k : BitVec 256 := (Config.mask s.ks.draws).setWidth 256
  { s with ks := { s.ks with dmks := s.ks.dmks.put d.toNat { s0 := v ^^^ k, s1 := k, icv := dmkCheck (v ^^^ k) k } } }

/-- A DMK loaded from its archive blob under the root. -/
def State.loadDmk (root : BitVec 256) (d : Dom) (bs : Bytes) (s : State) : State :=
  let h := blobHead bs
  match unwrapBlob (wrapKey (digestBytes root) h.parent h.parentGen) (slice bs 0 128) [] with
  | none => s
  | some m =>
    s.putDmk d (BitVec.ofNat 256 (beNat (slice m 0 32)))

/-- A reserved slot filled from its archive blob: slots 2 and 4 under the root, 3 and 5 under DMK_0. -/
def State.loadReserved (root : BitVec 256) (n : Nat) (bs : Bytes) (s : State) : State :=
  let h := blobHead bs
  let parent : Option Bytes :=
    if n = 2 ∨ n = 4 then some (digestBytes root) else (s.dmk 0).map digestBytes
  match parent.bind fun p => unwrapBlob (wrapKey p h.parent h.parentGen) (slice bs 0 128) [] with
  | none => s
  | some m =>
    let pub := h.typ == 6
    let xy := pointAt 256 m
    let attr : KeyAttr :=
      { typ := h.typ, usage := h.usage, curve := h.curve, dom := 0, parent := h.parent, parentGen := h.parentGen
        lineage := h.lineage, lineageGen := h.lineageGen, origin := 5, kcv := kcvOf h.typ m }
    s.putSlot n <| if pub then s.newSlot .valid 0 (pointOf 256 xy.1 xy.2) (sm2Z curve0 (bs.drop 128) xy.1 xy.2) attr
      else s.newSlot .valid (valueOf m) 0 0 attr

/-- The firmware image key of slot 6, from mask ROM (R219). -/
def State.loadImageKey (s : State) : State :=
  s.putSlot 6 <| s.newSlot .valid 0 (Config.imageKey.setWidth 1024) Config.imageKeyZ
    { typ := 6, usage := 0, curve := 0, dom := 0, parent := 0xFFFF, parentGen := 0, lineage := 0, lineageGen := 0
      origin := 5, kcv := kcvOf 6 (beBytes 64 Config.imageKey.toNat) }

/-- The archive loaded into the domain key table and the reserved slots, and FPK_SLOT set (R219). -/
def State.loadArchive (s : State) : State :=
  match s.rootKey with
  | none => s.loadImageKey
  | some root =>
    let s := s.kp.blobs.foldl (fun s p => if p.1 < 256 then s.loadDmk root (BitVec.ofNat 8 p.1) p.2 else s) s
    let s := ([2, 3, 4, 5] : List Nat).foldl
      (fun s n => match s.kp.blobs.find (archiveSlot n) with | some b => s.loadReserved root n b | none => s) s
    let s := s.loadImageKey
    { s with ks := { s.ks with archiveLoaded := true }
             ru := { s.ru with reg := { s.ru.reg with fpkSlot := 5 } } }

/-! ## Roots and memory keys (R214, R217) -/

/-- The attributes of reserved slots 0 and 1: the active root, of origin 6 and no type, and MK_enc ‖ MK_int with its KCV (R219, R223,
R239). -/
def rootAttr : KeyAttr :=
  { typ := 0, usage := 0, curve := 0, dom := 0, parent := 0xFFFF, parentGen := 0, lineage := 0, lineageGen := 0, origin := 6, kcv := 0 }
def memoryAttr (mk : BitVec 256) : KeyAttr :=
  { rootAttr with typ := 3, origin := 0, kcv := kcvOf 3 (slice (digestBytes mk) 0 64) }

/-- A 256-bit value as a slot's value. -/
def wide (v : BitVec 256) : BitVec 512 := valueOf (digestBytes v)

/-- The active root is derived into slot 0, where its share is present (R214, R215). -/
def State.deriveRoot (s : State) : State :=
  let n := s.life.count.toNat
  let label := rootOfLife n
  match if n < 5 then s.share else none with
  | some b =>
    let s := s.putSlot 0 (s.newSlot .valid (wide (rootFrom s.ks.fuse b (BitVec.ofNat 8 label))) 0 0 rootAttr)
    { s with ks := { s.ks with root := BitVec.ofNat 3 label } }
  | none => { s.emptySlot 0 with ks := { (s.emptySlot 0).ks with root := 0 } }

/-- The root of the memory keys: the null root stands in where none is active (R217). -/
def State.memoryRoot (s : State) : BitVec 256 := s.rootKey.getD (rootFrom s.ks.fuse 0 0)

/-- The memory keys are formed into slot 1; a new mnonce is drawn where none is kept. -/
def State.deriveMemoryKeys (s : State) : State :=
  let s := if s.ks.mnonce.isSome then s
    else ({ s with ks := { s.ks with mnonce := some (s.draw.setWidth 128) } }).drawn 1
  let nonce := (s.ks.mnonce.getD 0).toNat
  let mk := sm3 (digestBytes s.memoryRoot ++ [0x4D] ++ leBytes 16 nonce)
  s.putSlot 1 (s.newSlot .valid (wide mk) 0 0 (memoryAttr mk))

/-- A reserved slot refilled from its source (R221). -/
def State.refill (n : Nat) (s : State) : State :=
  if n = 0 then s.deriveRoot
  else if n = 1 then s.deriveMemoryKeys
  else if n = 6 then s.loadImageKey
  else match s.rootKey, s.kp.blobs.find (archiveSlot n) with
    | some root, some b => s.loadReserved root n b
    | _, _ => s

/-! ## Reading a slot (R221) -/

/-- A slot fails its ICV: it becomes CORRUPT, or, reserved, is refilled; counted and logged (R221, R241). -/
def State.corruptSlot (n : Nat) (k : Slot) (s : State) : State :=
  let s := { s with ks := { s.ks with corrupted := satAdd s.ks.corrupted 1 } }
  let s := s.log 0x0023 1 2 (leBytes 2 n ++ [if n < 16 then 1 else 0])
  if n < 16 then s.refill n else s.putSlot n (k.into .corrupt)

/-- A slot is emptied by a generation check (R221, R241). -/
def State.orphanSlot (n : Nat) (s : State) : State :=
  let s := s.emptySlot n
  { s with ks := { s.ks with orphaned := satAdd s.ks.orphaned 1 } }

/-- A read of a slot through the key store port: its ICV and generations are checked (R221). The status of an EMPTY slot is
that of R215 where no root is active. -/
def State.readSlot (n : Nat) (s : State) : State × Except (BitVec 16) Slot :=
  match s.slot n with
  | none => (s, .error (if n < 16 && s.ks.root == 0 then stParentInvalid else stBadHandle))
  | some k =>
    if k.st == .corrupt then (s, .error stSlotCorrupt)
    else if k.st != .valid then (s, .error stBadHandle)
    else if k.check != k.icv then (s.corruptSlot n k, .error stSlotCorrupt)
    else if !s.gensOk k then (s.orphanSlot n, .error stParentInvalid)
    else (s, .ok k)

/-- A read of a slot for a use: the usage mask must permit it (R224). -/
def State.useSlot (n bit : Nat) (s : State) : State × Except (BitVec 16) Slot :=
  match s.readSlot n with
  | (s, .ok k) => if k.attr.usage.getLsbD bit then (s, .ok k) else (s, .error stUsageDenied)
  | r => r

/-! ## The generation table -/

/-- A generation-table write requests the commit unit (R228). -/
def State.genWrite (g : GenWrite) (s : State) : State :=
  let s : State := { s with kp := { s.kp with queue := s.kp.queue ++ [.gen g] } }
  s.sync 21

/-- The writes of an entry that are not durable yet, in order. -/
def State.genPending (s : State) (e : Nat) : List GenEntry :=
  let of (r : CuReq) : List GenEntry := match r with | .gen g => if g.entry = e then [g.val] else [] | _ => []
  (s.kp.cu.toList.flatMap fun p => of p.1) ++ s.kp.queue.flatMap of

/-- An entry as the last write requested for it leaves it. -/
def State.genLast (s : State) (e : Nat) : GenEntry := (s.genPending e).getLast?.getD (s.gen e)

/-- The lowest free entry from 256 upward (R237). -/
def State.freeEntry (s : State) : Option Nat :=
  lowestFrom (fun e => (s.gen e).kind == 0 && !(s.kp.queue.any fun r => match r with | .gen g => g.entry == e | _ => false)
    && !(s.kp.cu.any fun r => match r.1 with | .gen g => g.entry == e | _ => false)) 3840 256

/-- A generation that can be advanced (R227). -/
def genFull (g : GenEntry) : Bool := g.gen == 0xFFFFFFFF

/-- JK of slot 3 (R219). -/
def State.journalKey (s : State) : Option (BitVec 256) := (s.validSlot 3).map Slot.key256

/-- The head a journal starts from: H_0 under the journal key there is (R125). -/
def State.chainStart (s : State) : Digest := match s.journalKey with | some jk => Machine.chainStart jk | none => 0

end Sys2Proof.Machine
end

