-- ==== Sys2Proof/Machine/Registering.lean ====
section
/-! DEFINITION. The register engine's shared operations: fingerprints (R106), candidate buckets (R107), lookups, insertions, the
stash (R109 to R111) and the write-back buffer (R114). -/

namespace Sys2Proof.Machine

/-- The identity of a device ticket: 0x01, node, pool, serial (R106). -/
def ticketIdentity (node : Byte) (pool : PoolId) (serial : Serial) : Bytes :=
  [0x01, node] ++ leBytes 2 pool.toNat ++ leBytes 5 serial.toNat

/-- A fingerprint: the first 16 bytes of SM3 (FPK, identity) (R106). -/
def fingerprint (fpk : BitVec 256) (identity : Bytes) : BitVec 128 := fpOf (sm3First 16 (digestBytes fpk ++ identity))

/-- The hasher's blocks for an identity of `c` bytes (R106). -/
def identityBlocks (c : Nat) : Nat := ceilDiv (42 + c) 64

/-- The FPK, read from the slot that `REG_CFG` names, or the status of that slot (R108). -/
def State.fpk (s : State) : State × Except (BitVec 16) (BitVec 256) :=
  match s.useSlot s.ru.reg.fpkSlot.toNat useFingerprint with
  | (s, .ok k) => (s, .ok k.key256)
  | (s, .error e) => (s, .error e)

/-- The candidate buckets of a fingerprint (R107). -/
def bucketsOf (fp : BitVec 128) : Nat × Nat :=
  let b1 := (fp.extractLsb' 0 23).toNat
  let b2 := (fp.extractLsb' 23 23).toNat
  (b1, if b2 = b1 then b1 ^^^ 1 else b2)

/-- The range index of a fingerprint (R107). -/
def rangeIndex (fp : BitVec 128) : Nat := (fp.extractLsb' 116 12).toNat

/-- The four positions of an empty bucket. -/
def emptyBucket : List Entry := List.replicate 4 freeEntry

/-- An entry is live (R105). -/
def isLive (e : Entry) : Bool := e.state != 0

/-- A bucket as the register stands: the buffered copy, or the one in DRAM (R114). -/
def Register.bucket (r : Register) (b : Nat) : List Entry :=
  match r.wbuf.find? (·.1 == b) with
  | some p => p.2
  | none => r.buckets.get b emptyBucket

/-- Where an entry lies. -/
inductive Place where
  | bucket (b pos : Nat)
  | stash (k : Nat)
  deriving DecidableEq, Repr

/-- The position of a live entry of a fingerprint in a bucket. -/
def findIn (fp : BitVec 128) (es : List Entry) : Option Nat :=
  (es.zipIdx.find? fun p => isLive p.1 && p.1.fp == fp).map (·.2)

/-- A lookup: both buckets, the buffer and the whole stash (R109). -/
def Register.find (r : Register) (fp : BitVec 128) : Option (Entry × Place) :=
  let (b1, b2) := bucketsOf fp
  let at_ (b : Nat) : Option (Entry × Place) :=
    (findIn fp (r.bucket b)).map fun k => ((r.bucket b).getD k freeEntry, .bucket b k)
  match at_ b1 with
  | some x => some x
  | none =>
    match at_ b2 with
    | some x => some x
    | none => (r.stash.find? fun p => p.2.fp == fp).map fun p => (p.2, .stash p.1)

/-- A bucket changed is placed in the write-back buffer; the oldest leaves it for DRAM when the 32 are in use (R114). -/
def Register.putBucket (b : Nat) (es : List Entry) (r : Register) : Register :=
  if r.wbuf.any (·.1 == b) then { r with wbuf := r.wbuf.map fun p => if p.1 = b then (b, es) else p }
  else
    let r := match r.wbuf with
      | p :: rest => if 32 ≤ r.wbuf.length then { r with buckets := r.buckets.put p.1 p.2, wbuf := rest } else r
      | [] => r
    { r with wbuf := r.wbuf ++ [(b, es)] }

/-- An entry of the stash set, with the high mark of its occupancy (R142). -/
def Register.putStash (k : Nat) (e : Entry) (r : Register) : Register :=
  let stash := r.stash.put k e
  { r with stash, stashHigh := if r.stashHigh.toNat < stash.length then BitVec.ofNat 13 stash.length else r.stashHigh }

/-- An entry written over another at its place. -/
def Register.setEntry (at_ : Place) (e : Entry) (r : Register) : Register :=
  match at_ with
  | .bucket b k => r.putBucket b (setAt (r.bucket b) k e)
  | .stash k => { r with stash := r.stash.put k e }

/-- The FREE positions of a bucket, lowest first. -/
def freePositions (es : List Entry) : List Nat := (es.zipIdx.filter fun p => !isLive p.1).map (·.2)

/-- The result of a register operation. -/
inductive RegDone where
  | ok
  | duplicate
  | full
  deriving DecidableEq, Repr

/-- An insertion (R109, R110). -/
def Register.insert (e : Entry) (r : Register) : Register × RegDone :=
  if (r.find e.fp).isSome then (r, .duplicate)
  else
    let (b1, b2) := bucketsOf e.fp
    let f1 := freePositions (r.bucket b1)
    let f2 := freePositions (r.bucket b2)
    let b := if f1.length < f2.length then b2 else b1
    match if f1.length < f2.length then f2 else f1 with
    | k :: _ => (r.putBucket b (setAt (r.bucket b) k e), .ok)
    | [] =>
      match lowestFrom (fun k => (r.stash.find k).isNone) 4096 0 with
      | some k => (r.putStash k e, .ok)
      | none => (r, .full)

/-- A bucket position becomes FREE and takes the lowest-numbered stash entry that may lie there, but none of a pool that a sweep
purges (R111, R121). -/
def Register.freeAt (at_ : Place) (r : Register) : Register :=
  match at_ with
  | .stash k => { r with stash := r.stash.del k }
  | .bucket b k =>
    match r.stash.find? fun p => !(r.sweeps.any (·.pool == p.2.pool)) && ((bucketsOf p.2.fp).1 == b || (bucketsOf p.2.fp).2 == b) with
    | some p => ({ r with stash := r.stash.del p.1 }).putBucket b (setAt (r.bucket b) k p.2)
    | none => r.putBucket b (setAt (r.bucket b) k freeEntry)

/-- A register operation runs (R109 to R111, R113). -/
def Register.run (op : RegOp) (r : Register) : Register × RegDone :=
  match op with
  | .lookup _ => (r, .ok)
  | .insert e => r.insert e
  | .update e => match r.find e.fp with
    | some (_, p) => (r.setEntry p e, .ok)
    | none => (r, .ok)
  | .free fp => match r.find fp with
    | some (_, p) => (r.freeAt p, .ok)
    | none => (r, .ok)

/-- An operation runs and is counted (R142). -/
def Register.count (op : RegOp) (r : Register) : Register × RegDone := ({ r with ops := satAdd r.ops 1 }).run op

/-- The operations accepted run, in the order of their acceptance (R114). -/
def Register.settled (r : Register) : Register := r.accepted.foldl (fun r o => (r.count o).1) { r with accepted := [] }

/-- The register engine runs an operation now: the operations accepted before it run first (R114). -/
def Register.operate (op : RegOp) (r : Register) : Register × RegDone := r.settled.count op

/-- The register engine with an operation run. -/
def State.regRun (op : RegOp) (s : State) : State × RegDone :=
  let (reg, d) := s.ru.reg.operate op
  ({ s with ru := { s.ru with reg } }, d)

/-- A lookup through the engine. -/
def State.regFind (fp : BitVec 128) (s : State) : State × Option (Entry × Place) :=
  let (s, _) := s.regRun (.lookup fp)
  (s, s.ru.reg.find fp)

/-- The last change to an entry is in the journal record just chained (R118). -/
def State.noteChange (fp : BitVec 128) (s : State) : State :=
  { s with ru := { s.ru with reg := { s.ru.reg with
      changed := (fp, s.ru.jrn.seq) :: s.ru.reg.changed.filter (·.1 != fp) } } }

/-- An entry's last change is in a record not yet settled (R97, R118). -/
def State.unsettled (s : State) (fp : BitVec 128) : Bool :=
  s.ru.reg.changed.any fun p => p.1 == fp && decide (s.led.durable.jseq < p.2)

/-- The inline result of `ADMIT`, `LOOKUP` and `ENROL_EXTERNAL` (R118). -/
def State.entryInline (s : State) (e : Entry) (p : Place) : BitVec 64 :=
  let stashed := match p with | .stash _ => 2 | _ => 0
  BitVec.ofNat 64 (leNat [e.state, e.admits, e.limit, BitVec.ofNat 8 ((s.unsettled e.fp).toNat + stashed)] +
    e.time.toNat * 2 ^ 32)

/-- The inline result of a change that is settled when its reply is posted (R94, R97, R118). -/
def State.settledInline (s : State) (e : Entry) (p : Place) : BitVec 64 := s.entryInline e p &&& ~~~(1#64 <<< 24)

/-- Live entries in buckets, buffer and stash (R142). -/
def Register.liveCount (r : Register) : Nat :=
  let inDram := (r.buckets.filter fun p => !(r.wbuf.any (·.1 == p.1))).map fun p => (p.2.filter isLive).length
  let inBuf := r.wbuf.map fun p => (p.2.filter isLive).length
  inDram.sum + inBuf.sum + r.stash.length

/-- Entry states (R105). -/
def stIssued : Byte := 1
def stVoided : Byte := 2
def stSpoiled : Byte := 3
def stExternal : Byte := 4

/-- This node's number. -/
def State.node (s : State) : Byte := s.skn.nodeId.setWidth 8

end Sys2Proof.Machine
end

