-- ==== Sys2Proof/Machine/Keeping.lean ====
section
/-! DEFINITION. The keeper die's shared operations: FeRAM records at their offsets (R295), wear rings (R299), configuration word
blocks (R296), requests to the commit unit (R17, R298), the record controller with its sectors and frames (R301 to R306). -/

namespace Sys2Proof.Machine

/-! ## FeRAM -/

/-- Offsets of R295, R296 and R299. -/
def commitOff (seq : Nat) : Nat := 128 * (seq % 256)
def genOff (e : Nat) : Nat := 0x8000 + 16 * e
def rootOff (id : Nat) : Nat := 0x18000 + 128 * (id % 2)
def identityOff : Nat := 0x18100
def replaceOff : Nat := 0x18140
def verifierOff (q : Nat) : Nat := 0x181C0 + 64 * q
def ringOff (ring slot : Nat) : Nat := 0x19000 + 0x100 * ring + 16 * slot

/-- Bytes of a FeRAM bank: false bank 0, true bank 1. -/
def Keeper.fe (k : Keeper) (bank : Bool) : Memory := if bank then k.fe1 else k.fe0
def Keeper.feRead (k : Keeper) (bank : Bool) (off n : Nat) : Bytes := readBytes feBlank (k.fe bank) off n

/-- A record written to one bank. -/
def Keeper.feWrite (k : Keeper) (bank : Bool) (off : Nat) (bs : Bytes) : Keeper :=
  if bank then { k with fe1 := writeBytes feBlank k.fe1 off bs } else { k with fe0 := writeBytes feBlank k.fe0 off bs }

/-- The root record of the running checkpoint (R135). -/
def Ckpt.record (k : Ckpt) : RootRec :=
  { id := k.id, jseq := k.jseq, head := k.head, root := k.root.getD 0, time := k.time, leaves := 1031 }

/-- Where a request to the commit unit is written, and the bytes it changes (R93, R135, R227, R298, R314). -/
def CuReq.place (k : Keeper) (r : CuReq) : Nat × Bytes :=
  match r with
  | .ledger r _ => (commitOff r.seq, r.bytes)
  | .gen g => (genOff g.entry, g.val.bytes g.entry)
  | .root id bytes => (rootOff id, bytes)
  | .mss off bytes _ => (off, bytes)
  | .refresh off none => (off, [])
  | .refresh off (some (bank, g)) => (off + 8 * g, k.feRead (!bank) (off + 8 * g) 8)

/-- A request written to one bank. -/
def State.cuWrite (s : State) (bank : Bool) (r : CuReq) : State :=
  let (off, bs) := r.place s.kp
  { s with kp := s.kp.feWrite bank off bs }

/-- A refresh of a page requests the commit unit as an MSS record (R298, R314). -/
def State.refreshPage (page : Nat) (fix : Option (Bool × Nat)) (s : State) : State :=
  let s : State := { s with kp := { s.kp with queue := s.kp.queue ++ [.refresh (64 * page) fix] } }
  s.sync 21

/-- An MSS record requests the commit unit; a waiting one for the same block or slot merges with it (R298). -/
def State.mssWrite (off : Nat) (bs : Bytes) (after : List After) (s : State) : State :=
  let same (r : CuReq) : Bool := match r with | .mss o _ _ => o == off | _ => false
  if s.kp.queue.any same then
    { s with kp := { s.kp with queue := s.kp.queue.map fun r =>
        match r with | .mss o b a => if o = off then .mss o bs (a ++ after) else .mss o b a | r => r } }
  else
    let s : State := { s with kp := { s.kp with queue := s.kp.queue ++ [.mss off bs after] } }
    s.sync 21

/-- The value and sequence a wear ring of a bank holds, with its slot (R299). -/
def Keeper.ringTop (k : Keeper) (bank : Bool) (ring : Nat) : Nat × Nat × Nat :=
  (List.range 16).foldl
    (fun best i =>
      match wearOf (k.feRead bank (ringOff ring i) 16) with
      | some (v, q) => if best.2.1 < q then (v, q, i) else best
      | none => best) (0, 0, 15)

/-- The value of a wear ring. -/
def Keeper.ringValue (k : Keeper) (ring : Nat) : Nat :=
  let a := k.ringTop false ring
  let b := k.ringTop true ring
  if a.2.1 < b.2.1 then b.1 else a.1

/-- The value last requested for a wear ring, or the one it holds. -/
def State.ringNow (ring : Nat) (s : State) : Nat :=
  let of (r : CuReq) : Option Nat := match r with
    | .mss off bs _ => if ringOff ring 0 ≤ off ∧ off < ringOff (ring + 1) 0 then (wearOf bs).map Prod.fst else none
    | _ => none
  match s.kp.queue.findSome? of with
  | some v => v
  | none => ((s.kp.cu.map Prod.fst).bind of).getD (s.kp.ringValue ring)

/-- A wear ring's next value goes to the slot after the one with the highest sequence (R299). -/
def State.wearWrite (ring v : Nat) (s : State) : State :=
  let k := match s.kp.cu with
    | some (.mss off bs _, _) => s.kp.feWrite false off bs
    | _ => s.kp
  let (_, q, i) := k.ringTop false ring
  s.mssWrite (ringOff ring ((i + 1) % 16)) (wearSlot v (q + 1)) []

/-- The verifier of a region's password (R317). -/
def regionVerifier (pw : Bytes) (region : Nat) : Bytes :=
  sm3First 16 (pw ++ leBytes 8 Config.serial.toNat ++ [BitVec.ofNat 8 region])

/-- A configuration word block of the FeRAM as it stands, or its default where its check fails in both banks (R313). -/
def Keeper.block (k : Keeper) (off : Nat) (dflt : Bytes) : Bytes :=
  let a := k.feRead false off 64
  let b := k.feRead true off 64
  if wordBlockOk a then a else if wordBlockOk b then b else wordBlock dflt

/-- The default block of verifiers of a quarter: the all-zero password (R313). -/
def defaultVerifiers (q : Nat) : Bytes := ([0, 1, 2] : List Nat).flatMap fun k => regionVerifier (zeros 16) (3 * q + k)

/-- The stored verifier of a region (R296). -/
def Keeper.verifier (k : Keeper) (region : Nat) : Bytes :=
  slice (k.block (verifierOff (region / 3)) (defaultVerifiers (region / 3))) (16 * (region % 3)) 16

/-- A replacement map that requests the commit unit, or is being written, has not been written yet (R307). -/
def Keeper.mapDue (k : Keeper) : Bool :=
  ((k.cu.map Prod.fst).toList ++ k.queue).any fun r => match r with
    | .mss off _ _ => off == replaceOff || off == replaceOff + 64
    | _ => false

/-- The replacement map as two blocks (R296). -/
def replacementBlocks (m : Tab Nat) : List (Nat × Bytes) :=
  let ent (k : Nat) : Bytes := leBytes 2 (m.get k 0xFFFF)
  [(replaceOff, wordBlock ((List.range 30).flatMap ent)), (replaceOff + 64, wordBlock ([30, 31].flatMap ent))]

/-! ## Flash -/

/-- The first sector, the number of sectors and the code of a record area (R301). -/
def areaFirst : FlashArea → Nat
  | .log => 288 | .config => 387 | .archive => 403
def areaCount : FlashArea → Nat
  | .log => 99 | .config => 16 | .archive => 8
def areaCode : FlashArea → Byte
  | .log => 1 | .config => 2 | .archive => 3
def sectorArea (k : Nat) : Option FlashArea :=
  if 288 ≤ k ∧ k < 387 then some .log else if 387 ≤ k ∧ k < 403 then some .config
  else if 403 ≤ k ∧ k < 411 then some .archive else none

/-- An area's append point, read and set. -/
def Keeper.area (k : Keeper) : FlashArea → Append
  | .log => k.log | .config => k.config | .archive => k.archive
def Keeper.setArea (k : Keeper) (a : FlashArea) (x : Append) : Keeper :=
  match a with
  | .log => { k with log := x } | .config => { k with config := x } | .archive => { k with archive := x }

/-- The physical sector that stands for a sector: its replacement where it has one (R307). A replacement that failed keeps an
entry that names itself. -/
def Keeper.physical (k : Keeper) (sector : Nat) : Nat :=
  match k.replaced.find? (·.2 == sector) with
  | some p => 411 + p.1
  | none => sector

/-- The address of an offset in a sector. -/
def Keeper.addr (k : Keeper) (sector off : Nat) : Nat := 65536 * k.physical sector + off

/-- Bytes of a sector. -/
def Keeper.flRead (k : Keeper) (sector off n : Nat) : Bytes := readBytes flBlank k.flash (k.addr sector off) n

/-- Bytes programmed into a sector. -/
def Keeper.program (k : Keeper) (sector off : Nat) (bs : Bytes) : Keeper :=
  { k with flash := programBytes k.flash (k.addr sector off) bs }

/-- A sector erased, and its erase counted. -/
def Keeper.eraseSector (k : Keeper) (sector : Nat) : Keeper :=
  { k with flash := eraseRange k.flash (65536 * k.physical sector) 65536
           erases := k.erases.put (k.physical sector) (k.erases.get (k.physical sector) 0 + 1) }

/-- The length of a frame with a payload of `n` bytes (R303). -/
def frameLen (n : Nat) : Nat := 32 + ceilDiv n 16 * 16

/-- A blank sector becomes the append sector; it has its header since its erase (R302, R304). -/
def Keeper.openSector (k : Keeper) (a : FlashArea) : Keeper :=
  let x := k.area a
  match x.blank with
  | [] => k
  | sec :: rest => k.setArea a { x with sector := sec, off := 64, used := x.used ++ [sec], blank := rest }

/-- The append sector is closed FULL (R304). -/
def Keeper.closeSector (k : Keeper) (a : FlashArea) : Keeper :=
  let x := k.area a
  (k.program x.sector 5 [0x7F]).setArea a { x with off := 65536 }

/-- The append point has room for `n` more bytes. -/
def Append.fits (x : Append) (n : Nat) : Bool := x.off != 0 && decide (x.off + n ≤ 65536)

/-- The append point has room for a frame; where it has none, the next sector is opened (R304). -/
def Keeper.makeRoom (k : Keeper) (a : FlashArea) (n : Nat) : Keeper :=
  let x := k.area a
  if x.fits n then k
  else (if 0 < x.off ∧ x.off < 65536 then k.closeSector a else k).openSector a

/-- The append sector takes no more frames: it is closed FULL before the next one. -/
def Keeper.shut (k : Keeper) (a : FlashArea) : Keeper :=
  let x := k.area a
  if 0 < x.off ∧ x.off < 65536 then k.setArea a { x with off := 65535 } else k

/-- The working copies after a frame became valid (R306): a payload of length 0 deletes the key. -/
def Keeper.noted (k : Keeper) (req : FlashReq) : Keeper :=
  let key := req.key.toNat
  match req.area with
  | .log => k
  | .config =>
    { k with records := if req.payload.isEmpty then k.records.del key else k.records.put key req.payload }
  | .archive => { k with blobs := if req.payload.isEmpty then k.blobs.del key else k.blobs.put key req.payload }

/-- The record controller starts a frame at the append point (R304); an area with no sector left takes none. -/
def Keeper.startFrame (k : Keeper) (req : FlashReq) : Keeper :=
  let n := frameLen req.payload.length
  let k := k.makeRoom req.area n
  let x := k.area req.area
  let seq := x.frameSeq + 1
  if !x.fits n then k
  else
    { (k.setArea req.area { x with off := x.off + n, frameSeq := seq }) with
      frame := some { req, addr := k.addr x.sector x.off, bytes := frameBytes req.kind seq req.key req.payload, done := 0
                      marker := false, seq } }

/-- The bytes of the next page program of a frame: up to the end of its 256-byte page (R293, R304). -/
def FlashWrite.page (w : FlashWrite) : Bytes :=
  (w.bytes.drop w.done).take (256 - (w.addr + w.done) % 256)

/-- A frame completes at once: every page left, then the marker (R304). -/
def Keeper.finishFrame (k : Keeper) : Keeper :=
  match k.frame with
  | none => k
  | some w =>
    let fl := programBytes k.flash (w.addr + w.done) (w.bytes.drop w.done)
    ({ k with flash := programBytes fl (w.addr + w.bytes.length) [0x00], frame := none }).noted w.req

/-- Whether an area has a frame for the sector that a reclaim erases; its live frames are those whose key still stands for
them (R305, R306). A frame of a sector at an offset: its head, payload and validity. -/
structure FrameAt where
  off : Nat
  typ : Byte
  seq : Nat
  key : BitVec 32
  payload : Bytes
  deriving DecidableEq, Repr

/-- The frame at an offset of a sector: none at blank space or where it is torn (R306). -/
def Keeper.frameAt (k : Keeper) (sector off : Nat) : Option FrameAt :=
  let h := k.flRead sector off 16
  if h.headD 0 = 0xC3 ∧ off + 32 ≤ 65536 ∧ leAt h 2 2 ≤ 8192 then
    let n := leAt h 2 2
    let bs := k.flRead sector off (frameLen n)
    let payload := slice bs 16 n
    if slice bs (frameLen n - 1) 1 = [0x00] ∧ slice bs (frameLen n - 16) 12 = checkOf 12 (h ++ payload) then
      some { off, typ := (slice h 1 1).headD 0, seq := leAt h 4 8, key := BitVec.ofNat 32 (leAt h 12 4), payload }
    else none
  else none

/-- The valid frames of a sector in order, and the offset at which the walk stops (R306). -/
def Keeper.walk (k : Keeper) (sector : Nat) : Nat → Nat → List FrameAt × Nat
  | 0, off => ([], off)
  | fuel + 1, off =>
    match k.frameAt sector off with
    | none => ([], off)
    | some f =>
      let (fs, e) := k.walk sector fuel (off + frameLen f.payload.length)
      (f :: fs, e)

/-- All valid frames of a sector. -/
def Keeper.frames' (k : Keeper) (sector : Nat) : List FrameAt := (k.walk sector 2047 64).1

/-- A frame of the configuration or archive area is live: its key's record is the one it carries (R306). -/
def Keeper.live (k : Keeper) (a : FlashArea) (f : FrameAt) : Bool :=
  match a with
  | .log => false
  | .config => k.records.find f.key.toNat == some f.payload
  | .archive => k.blobs.find f.key.toNat == some f.payload

/-- A live frame copied to the append point with its sequence and key (R305). -/
def Keeper.copyFrame (a : FlashArea) (k : Keeper) (f : FrameAt) : Keeper :=
  let n := frameLen f.payload.length
  let k := k.makeRoom a n
  let x := k.area a
  if !x.fits n then k
  else
    let k := k.program x.sector x.off (frameBytes f.typ f.seq f.key f.payload ++ [0x00])
    k.setArea a { x with off := x.off + n }

/-- A sector of an area gives up its live frames and is queued for its erase (R305, R315). -/
def Keeper.retire (k : Keeper) (a : FlashArea) (sec : Nat) : Keeper :=
  let k := if (k.area a).sector = sec then k.shut a else k
  let live := (k.frames' sec).filter (k.live a)
  let x := k.area a
  let k := live.foldl (Keeper.copyFrame a) (k.setArea a { x with used := x.used.filter (· != sec) })
  let k := if a = .log then k else k.program sec 5 [0x3F]
  { k with eraseQueue := k.eraseQueue ++ [sec] }

/-- The oldest sector of an area is reclaimed (R305); the append sector never is. -/
def Keeper.reclaim (k : Keeper) (a : FlashArea) : Keeper :=
  match (k.area a).used with
  | sec :: _ :: _ => k.retire a sec
  | _ => k

/-- The blank sectors an area keeps (R305). -/
def areaSpare : FlashArea → Nat
  | .log => 1 | .config => 2 | .archive => 2

/-- A sector's erase ends: blank-checked, it gets its header and joins its area's blank sectors (R302, R305). -/
def Keeper.erased (k : Keeper) (sector : Nat) : Keeper :=
  let k := k.eraseSector sector
  match sectorArea sector with
  | some a =>
    let x := k.area a
    let seq := x.sectorSeq + 1
    let k := k.program sector 0 (sectorHeader (areaCode a) 0xFF seq (k.erases.get (k.physical sector) 0))
    k.setArea a { x with blank := x.blank ++ [sector], sectorSeq := seq }
  | none => k

/-- The next due erase starts. -/
def Keeper.startErase (k : Keeper) : Keeper :=
  match k.erase, k.eraseQueue with
  | none, sec :: rest =>
    if k.tripped || k.mapDue || k.failedSectors.contains sec then k else { k with erase := some (sec, k.frame.isSome), eraseQueue := rest }
  | _, _ => k

/-- The sectors of an area whose erase runs or is due. -/
def Keeper.due (k : Keeper) (a : FlashArea) : List Nat :=
  ((k.erase.map Prod.fst).toList ++ k.eraseQueue).filter fun n => sectorArea n == some a

/-- A sector's erase has ended by now. -/
def Keeper.eraseNow (sec : Nat) (k : Keeper) : Keeper :=
  { k with erase := k.erase.filter fun p => p.1 != sec, eraseQueue := k.eraseQueue.filter (· != sec) }.erased sec

/-- One blank sector more for an area that a frame of `n` bytes would leave short: a sector due for its erase, else the oldest
(R305). -/
def Keeper.refill (a : FlashArea) (n : Nat) (k : Keeper) : Keeper :=
  let x := k.area a
  if x.fits n || decide (areaSpare a < x.blank.length) then k
  else match k.due a with
    | sec :: _ => k.eraseNow sec
    | [] => match (k.reclaim a).due a with
      | sec :: _ => (k.reclaim a).eraseNow sec
      | [] => k

/-- The erases of all sectors, which wear ring 3 counts (R299). -/
def Keeper.eraseCount (k : Keeper) : Nat := (k.erases.map Prod.snd).sum

/-- Wear ring 3 is written after erases. -/
def State.noteErases (before : Nat) (s : State) : State :=
  if s.kp.eraseCount = before then s else s.wearWrite 3 s.kp.eraseCount

/-- The erases that a frame waits for (R305). -/
def Keeper.prepare (req : FlashReq) (k : Keeper) : Keeper :=
  let n := frameLen req.payload.length
  ((k.refill req.area n).refill req.area n).refill req.area n

/-- A frame is written to its end. -/
def Keeper.writeFrame (k : Keeper) (req : FlashReq) : Keeper := ((k.prepare req).startFrame req).finishFrame

/-- The frame that is being written and those queued behind it complete (R304). -/
def Keeper.flush (k : Keeper) : Keeper := k.frames.foldl Keeper.writeFrame { k.finishFrame with frames := [] }

/-- A flash record of a command is written while the command waits (W_nvm): the frames before it, the erases its area needs first,
then its own (R304, R305). -/
def State.flashNow (req : FlashReq) (s : State) : State :=
  ({ s with kp := s.kp.flush.writeFrame req }).noteErases s.kp.eraseCount

/-- The value of a management setting: its record after the schema, or its default (R370). -/
def State.settingBytes (s : State) (key : Nat) (dflt : Bytes) : Bytes :=
  match s.kp.records.find key with
  | some b => b.drop 2
  | none => dflt

/-- Why the record controller or the commit unit's MSS path refuses a request now (R308, R312). -/
def State.nvmStatus (s : State) : Option (BitVec 16) :=
  if s.gctl.recalling || !s.kp.powered then some stRecallBusy else if s.kp.tripped then some stSupplyLow else none

/-- A configuration record written, and an archive entry (R303, R306). -/
def configReq (key : Nat) (payload : Bytes) : FlashReq :=
  { area := .config, kind := 0x02, key := BitVec.ofNat 32 key, payload }
def archiveReq (entry : Nat) (payload : Bytes) : FlashReq :=
  { area := .archive, kind := 0x03, key := BitVec.ofNat 32 entry, payload }

end Sys2Proof.Machine
end

