-- ==== Sys2Proof/Machine/Admin.lean ====
section
/-! DEFINITION. The queue and administration opcodes, class 0x01 (R38 to R40, R58 to R62, R426), with the queue reset procedure,
and the two lock opcodes (R83, R84). -/

namespace Sys2Proof.Machine

/-! ## Queue reset (R62) -/

/-- Steps 1 and 2 of R62: fetch stops, every chain ends, and every packet that has landed and is not dispatched is answered in ring
order; the second component counts them. -/
def State.abortQueued (q : QId) (st : QueueSt) (s : State) : State × Nat :=
  let x := s.queue q
  let s := s.setQueue q { x with st, chainOpen := false, inflight := x.inflight.map fun f => { f with linked := false } }
  let aborted := x.inflight.filter fun f => match f.stage with | .dispatched _ | .granted => false | _ => true
  (aborted.foldl (fun s f => s.postReply ({ f with linked := false }.refusal q stQueueResetAbort)) s, aborted.length)

/-- The locks of a queue and epoch that no forced record is about to end already. -/
def State.locksLeft (s : State) (q : QId) (epoch : BitVec 16) : List PoolId :=
  (s.locksOf q epoch).filter fun n => !(s.ru.jrn.forced.any fun f => match f with | .endLock m _ _ => m == n | _ => false)

/-- Steps 4 to 7 of R62, once no packet of the queue is in flight: the locks end, and the rest follows the last of them. -/
def State.endQueue (q : QId) (e : Ending) (s : State) : State :=
  let locks := s.locksLeft q (s.queue q).epoch
  ((s.setQueue q { s.queue q with ending := none }).endLocks 3 locks).forceLast (.endQueue q e locks.length)

/-- A reset or deletion starts; it goes on at once when nothing of the queue is left in flight (R62). -/
def State.beginEnding (q : QId) (delete : Bool) (h : Option Held) (s : State) : State :=
  let (s, n) := s.abortQueued q (if delete then .deleting else .resetting)
  let e : Ending := { h, delete, aborted := n }
  if (s.queue q).inflight.isEmpty then s.endQueue q e
  else s.setQueue q { s.queue q with ending := some e }

/-- `QUEUE_RESET` and `QUEUE_DELETE` (R62): of another queue that exists; queue 0 is never deleted. -/
def queueEndBody (delete : Bool) (cyc : Nat) (x : Ctx) (s : State) : Out :=
  let q : QId := BitVec.ofNat 14 (hIndex x.c.pkt.handleA)
  if q = x.c.q ∨ (s.queue q).st ≠ .active ∨ (delete ∧ q = 0) then x.refused s stBadHandle
  else { s := s.beginEnding q delete (some (x.held 0 cyc 0 [])), cyc, when_ := .later }

/-! ## The bodies -/

/-- `NOP` (R58). -/
def nopBody (x : Ctx) (s : State) : Out := { s, cyc := x.cyc 36, inl := s.gctl.cycle }

/-- A queue created from the parameters of R59, under its next epoch (R34). -/
def newQueue (p : Packet) (epoch : BitVec 16) : Queue :=
  { Queue.admin with
    epoch, dom := p.byteAt 52, sqSize := p.field 48 2, cqSize := p.field 50 2, sqBase := BitVec.ofNat 64 (p.field 32 8)
    cqBase := BitVec.ofNat 64 (p.field 40 8), irqMode := (p.byteAt 53).setWidth 2, vector := BitVec.ofNat 11 (p.field 54 2)
    coalCount := p.byteAt 56, coalTime := BitVec.ofNat 16 (p.field 58 2) }

/-- `QUEUE_CREATE` (R59). -/
def queueCreateBody (x : Ctx) (s : State) : Out :=
  let p := x.c.pkt
  let q : QId := BitVec.ofNat 14 (hIndex p.handleA)
  if q = 0 ∨ (s.queue q).st ≠ .absent then x.refused s stBadHandle
  else if !queueParamsOk s p then x.refused s stBadParameter
  else
    let epoch := (s.queue q).epoch + 1
    { s := s.setQueue q (newQueue p epoch), cyc := 238, inl := inlAt 0 epoch.toNat }

/-- A policy record read (R38). -/
def policyOf (bs : Bytes) : Policy :=
  { allow := BitVec.ofNat 512 (leAt bs 0 64), pools := BitVec.ofNat 256 (leAt bs 64 32)
    keys := BitVec.ofNat 256 (leAt bs 96 32), weight := BitVec.ofNat 8 (leAt bs 128 1)
    enabled := (leAt bs 129 1).testBit 0, maxQueues := BitVec.ofNat 16 (leAt bs 130 2)
    starve := BitVec.ofNat 32 (leAt bs 132 4) }

/-- What `DOMAIN_CONFIG` accepts (R39). -/
def policyOk (s : State) (d : Dom) (v : Policy) : Bool :=
  (d != 0 || ([0x100, 0x101, 0x102, 0x103, 0x104, 0x105] : List (BitVec 16)).all v.allows) &&
  decide (s.queueCount d ≤ v.maxQueues.toNat ∧ v.maxQueues.toNat ≤ 16384) && v.weight != 0 &&
  (List.range 8).all fun k =>
    decide ((rangePair v.keys k).2 < (rangePair v.keys k).1) || decide ((rangePair v.keys k).2 ≤ 4095)

/-- `DOMAIN_CONFIG` (R38 to R40). -/
def domainConfigBody (x : Ctx) (s : State) : Out :=
  withData x s fun bs =>
    let d : Dom := x.c.pkt.byteAt 32
    let v := policyOf bs
    if !policyOk s d v then x.refused s stBadParameter
    else { s := ({ s with domains := s.domains.put d.toNat v }).sync 0, cyc := 366 }

/-! ## GET_INFO (R60, R426) -/

/-- The release of an image that runs, major then minor; 0 where none does. -/
def releaseBytes (r : Option Running) : Bytes := match r with | some r => [r.major, r.minor] | none => [0, 0]

/-- The release GCTL_REV shows: that of the set serving queue 0, 0 until start-up completes (R29). -/
def State.revRelease (s : State) : Bytes :=
  if s.gctl.ready then releaseBytes (if s.setOf 0 then s.mss.setB else s.mss.setA) else [0, 0]

/-- `GCTL_ID` and `GCTL_REV` (R29). -/
def gctlId : BitVec 32 := 0x77401F3C
def State.gctlRev (s : State) : BitVec 32 :=
  BitVec.ofNat 32 (0xB1 + 256 * ((s.revRelease.getD 1 0).toNat + 256 * (s.revRelease.getD 0 0).toNat))

/-- The Subsystem ID (R24, R370). -/
def State.subsystemId (s : State) : Bytes := slice (s.settingBytes 0x00050000 [0, 0]) 0 2

/-- A base address register (R26): 64-bit, not prefetchable, of two slots from `slot` on. -/
structure Bar where
  slot : Nat
  size : Nat
  deriving DecidableEq, Repr

/-- The base address registers that are implemented: BAR4 on a cluster head only (R26). -/
def State.bars (s : State) : List Bar :=
  [{ slot := 0, size := 2 ^ 20 }, { slot := 2, size := 2 ^ 18 }] ++ (if s.skn.head then [{ slot := 4, size := 2 ^ 24 }] else [])

/-- What a base address register reads once all ones are written to it: its size and type, or 0 where it is not implemented (R26). -/
def State.barProbe (s : State) (slot : Nat) : BitVec 64 :=
  match s.bars.find? (·.slot == slot) with
  | some b => BitVec.ofNat 64 (2 ^ 64 - b.size + 4)
  | none => 0

/-- What a read of the Type 0 configuration header presents (R3, R24): vendor and device, class code and revision, subsystem vendor
and subsystem. The table of operations has no row for a configuration access (notes/assumptions/71.md). -/
def State.configRead (s : State) (off : Nat) : BitVec 32 :=
  match off with
  | 0x00 => gctlId
  | 0x08 => 0x108000B1
  | 0x2C => BitVec.ofNat 32 (0x1F3C + 65536 * leNat s.subsystemId)
  | _ => 0

/-- What the configuration space declares of the function (R24): the largest payload and read request in bytes, non-posted reads
outstanding, and MSI-X vectors. -/
def maxPayload : Nat := 512
def maxReadRequest : Nat := 4096
def maxTags : Nat := 256
def msixVectors : Nat := 2048

/-- Page 0 of `GET_INFO`. -/
def State.infoIdentity (s : State) : Bytes :=
  leBytes 4 gctlId.toNat ++ leBytes 4 s.gctlRev.toNat ++ leBytes 8 s.life.serial.toNat ++
  [s.life.count.setWidth 8, s.skn.nodeId.setWidth 8, s.skn.nodes.setWidth 8, if s.skn.head then 1 else 0] ++
  s.subsystemId ++ releaseBytes s.mss.setA ++ releaseBytes s.mss.setB ++
  releaseBytes (if s.mss.st = .romOnly then none else s.mss.mss)

/-- Units of R256 with codes `lo` to `lo + n − 1` that are in service. -/
def State.inService (s : State) (lo n : Nat) : Nat := ((List.range n).filter fun k => !s.isOut (lo + k)).length

/-- The unit counts of R15, each with how many are in service. -/
def State.unitCounts (s : State) : List (Nat × Nat) :=
  let spin (lo n : Nat) : Nat := (((s.spn.sp.toList.drop lo).take n).filter (·.svc == .inService)).length
  let ports := s.skn.east.inService.toNat + s.skn.west.inService.toNat
  [(16384, 16384), (16, s.inService 0 16), (4, s.inService 0x10 4), (2048, 2048), (65536, 65536), (256, 256),
   (33558528, 33558528), (8, spin 0 8), (32, spin 8 32), (40960, 40960), (64, 64), (4096, 4096), (2, ports), (34, 34)]

/-- A page of `GET_INFO`. -/
def State.infoPage (s : State) (page : Nat) : Bytes :=
  match page with
  | 0 => slice s.infoIdentity 0 256
  | 1 => slice (s.unitCounts.flatMap fun p => leBytes 4 p.1 ++ leBytes 4 p.2) 0 256
  | 2 => slice ([BitVec.ofNat 8 (if s.gctl.perstLow then 0 else s.gctl.linkWidth), BitVec.ofNat 8 s.gctl.linkRate,
      s.led.periodCfg.setWidth 8, s.ru.jrn.depth.setWidth 8] ++ leBytes 4 s.gctl.time.toNat) 0 256
  | _ => ((List.range 256).flatMap fun d => leBytes 2 (s.queueCount (BitVec.ofNat 8 d))) ++
      (List.range 256).map fun k => if s.gctl.sliceOwner.getLsbD k then 1 else 0

/-- `GET_INFO` (R60). -/
def getInfoBody (x : Ctx) (s : State) : Out :=
  { s, cyc := x.cyc 142, result := s.infoPage (x.c.pkt.byteAt 32).toNat }

/-- `TIME_SET` (R61). -/
def timeSetBody (x : Ctx) (s : State) : Out :=
  let v := x.c.pkt.field 32 4
  let t := s.gctl.time.toNat
  if t ≤ v then { s := { s with gctl := { s.gctl with time := BitVec.ofNat 32 v, slew := 0 } }, cyc := 70 }
  else if t - v ≤ 86400 then
    { s := { s with gctl := { s.gctl with slew := BitVec.ofNat 32 (t - v) } }, cyc := 70, inl := inlAt 0 (t - v) }
  else x.refused s stBadParameter

/-! ## Pool locks (R83, R84) -/

/-- The checks of R83 in their order. -/
def lockRefusal (s : State) (x : Ctx) (n : PoolId) (u : Nat) (p : Pool) : Option (BitVec 16) :=
  firstFail
    [(s.isOpen p, stPoolFrozen), ((s.lock n).isNone, stLockHeld),
     (decide ((s.locksOf x.c.q x.epoch).length < 255), stBadParameter), (s.room 1, stBackpressure),
     (!s.supplyLow, stSupplyLow), (decide (u ≤ p.a), stPoolEmpty), (decide (p.next + u ≤ p.limit + 1), stSerialExhausted)]

/-- A refusal of a command that produces journal records; one for want of room sets JOURNAL_BP (R128). -/
def Ctx.refusedRoom (x : Ctx) (s : State) (st : BitVec 16) : Out :=
  x.refused (if st = stBackpressure then s.backpressure else s) st

/-- The lease of a `LOCK_ACQUIRE`, in milliseconds (R58). -/
def leaseOf (p : Packet) : Nat := if p.field 36 2 = 0 then 100 else p.field 36 2

/-- `LOCK_ACQUIRE` (R83). -/
def lockAcquireBody (x : Ctx) (s : State) : Out :=
  let n : PoolId := BitVec.ofNat 16 (hIndex x.c.pkt.handleA)
  let u := x.c.pkt.field 32 4
  match s.pool n with
  | none => x.refused s stBadHandle
  | some p =>
    match lockRefusal s x n u p with
    | some st => x.refusedRoom s st
    | none =>
      match s.change n { a := -(u : Int), r := u } (fun p => { p with next := p.next + u }) with
      | (s, false) => x.refused s stConservation
      | (s, true) =>
        let gen : Byte := s.led.lockGen.get n.toNat 0 + 1
        let k : Lock := { gen, q := x.c.q, epoch := x.epoch, first := p.next, next := p.next, last := p.next + u - 1
                          units := u, lease := leaseOf x.c.pkt, deadline := s.now + leaseOf x.c.pkt * 800000 }
        let s := { s with led := { s.led with locks := s.led.locks.put n.toNat k
                                              lockGen := s.led.lockGen.put n.toNat gen } }
        let s := s.chain { typ := 0x08, pool := n, serial := BitVec.ofNat 40 p.next, delta := BitVec.ofNat 32 u }
        { s, cyc := 2014, inl := inlAt 0 (lockHandle n k).toNat ||| inlAt 4 (p.next % 2 ^ 32), when_ := .group }

/-- `LOCK_RELEASE` (R84). -/
def lockReleaseBody (x : Ctx) (s : State) : Out :=
  let n : PoolId := BitVec.ofNat 16 (hIndex x.c.pkt.handleA % 65536)
  match s.lock n with
  | none => x.refused s stBadHandle
  | some k =>
    if k.gen.toNat ≠ hIndex x.c.pkt.handleA / 65536 ∨ k.first % 2 ^ 32 ≠ x.c.pkt.field 32 4 then x.refused s stBadHandle
    else
      let owner := k.q == x.c.q && k.epoch == x.epoch
      if !owner && x.dom != 0 then x.refused s stLockHeld
      else if !s.room 1 then x.refusedRoom s stBackpressure
      else
        let before := (s.pool n).map (·.a)
        let after := s.change n { a := k.units, r := -(k.units : Int) } id
        if !(s.pool n).any s.isFrozen && !after.2 then x.refused after.1 stConservation
        else
        let s := s.endLock n (if owner then 1 else 5) []
        { s, cyc := 2002, inl := inlAt 0 (((s.pool n).map (·.a)).getD 0 - before.getD 0), when_ := .group }

/-! ## The rows -/

/-- `NOP`. -/
def execNop (c : Cmd) (s : State) : Host.Outcome State Fault Refusal := .next (runOp 0x0100 none nopBody c s)

/-- `QUEUE_CREATE`. -/
def execQueueCreate (c : Cmd) (s : State) : Host.Outcome State Fault Refusal :=
  .next (runOp 0x0101 none queueCreateBody c s)

/-- `QUEUE_DELETE`. -/
def execQueueDelete (c : Cmd) (s : State) : Host.Outcome State Fault Refusal :=
  .next (runOp 0x0102 none (queueEndBody true 200) c s)

/-- `QUEUE_RESET`. -/
def execQueueReset (c : Cmd) (s : State) : Host.Outcome State Fault Refusal :=
  .next (runOp 0x0103 none (queueEndBody false 182) c s)

/-- `DOMAIN_CONFIG`. -/
def execDomainConfig (c : Cmd) (s : State) : Host.Outcome State Fault Refusal :=
  .next (runOp 0x0104 none domainConfigBody c s)

/-- `GET_INFO`. -/
def execGetInfo (c : Cmd) (s : State) : Host.Outcome State Fault Refusal := .next (runOp 0x0105 none getInfoBody c s)

/-- `TIME_SET`. -/
def execTimeSet (c : Cmd) (s : State) : Host.Outcome State Fault Refusal := .next (runOp 0x0106 none timeSetBody c s)

/-- `LOCK_ACQUIRE`. -/
def execLockAcquire (c : Cmd) (s : State) : Host.Outcome State Fault Refusal :=
  .next (runOp 0x0107 none lockAcquireBody c s)

/-- `LOCK_RELEASE`. -/
def execLockRelease (c : Cmd) (s : State) : Host.Outcome State Fault Refusal :=
  .next (runOp 0x0108 none lockReleaseBody c s)

end Sys2Proof.Machine
end

