-- ==== Sys2Proof/Machine/Flags.lean ====
section
/-! DEFINITION. The flags of the spindle's word arithmetic: carry, borrow and equality of unsigned 256-bit integers (R148). -/

namespace Sys2Proof.Machine

/-- A sum with a carry in: the word and C = carry out (R148). -/
def addFlags (a b : BitVec 256) (c : Bool) : BitVec 256 × Bool :=
  let n := a.toNat + b.toNat + c.toNat
  (BitVec.ofNat 256 n, decide (2 ^ 256 ≤ n))

/-- A difference with a borrow in: the word and C = borrow (R148). -/
def subFlags (a b : BitVec 256) (c : Bool) : BitVec 256 × Bool :=
  (a - b - BitVec.ofNat 256 c.toNat, decide (a.toNat < b.toNat + c.toNat))

/-- C and E of a comparison: C = (A < B), E = (A = B) (R148). -/
def cmpFlags (a b : BitVec 256) : Bool × Bool := (decide (a.toNat < b.toNat), a == b)

/-- The flag that M[1:0] chooses for `SEL`: 0 C, 1 E, 2 not C, 3 not E (R148). -/
def selFlag (m : BitVec 5) (c e : Bool) : Bool :=
  let f := if m.getLsbD 0 then e else c
  if m.getLsbD 1 then !f else f

/-- The status of `HALT`: IMM[1:0] where E = 1, else IMM[3:2] (R148). -/
def haltStatus (imm : BitVec 16) (e : Bool) : BitVec 2 := if e then imm.extractLsb' 0 2 else imm.extractLsb' 2 2

end Sys2Proof.Machine
end

