-- ==== Sys2Proof/Machine/Jobs.lean ====
section
/-! DEFINITION. Jobs for the spindles: occupancies (R152, R160), where a job runs or parks (R145, R150), and firmware commands that have
programs run on a spindle (R143). -/

namespace Sys2Proof.Machine

/-! ## Occupancies -/

/-- An occupancy by curve: built in, loaded of 256, 384 or 512 bits. -/
def lenOf (t : List Nat) (num w : Nat) : Nat :=
  t.getD (if num = 0 then 0 else if w = 256 then 1 else if w = 384 then 2 else 3) 0

/-- The programs of R152. -/
def lenSign : Nat → Nat → Nat := lenOf [24576, 32768, 196608, 262144]
def lenDerive : Nat → Nat → Nat := lenOf [16384, 21504, 129024, 172032]
def lenVerify : Nat → Nat → Nat := lenOf [40960, 57344, 344064, 458752]
def lenOnCurve : Nat → Nat → Nat := lenOf [2048, 2560, 10240, 10240]
def lenCurveCheck (w : Nat) : Nat := lenOf [0, 2140672, 8636416, 11462656] 1 w
def lenKat : Nat := 65536

/-- The primitives of R160, by code: 256, curve 0, 384, 512. -/
def bnTable : List (Nat × List Nat) :=
  [(0x01, [160, 160, 168, 168]), (0x02, [160, 160, 168, 168]), (0x03, [192, 192, 256, 256]),
   (0x04, [20480, 20480, 86016, 114688]), (0x05, [20480, 20480, 86016, 114688]),
   (0x10, [22528, 18432, 90112, 118784]), (0x11, [22528, 18432, 90112, 118784]),
   (0x12, [36864, 30720, 221184, 294912]), (0x13, [53248, 36864, 319488, 425984]),
   (0x14, [2560, 2048, 10240, 10240])]

/-- The occupancy of a primitive of a width on a curve number. -/
def lenBn (code w num : Nat) : Nat :=
  let t := ((bnTable.find? (·.1 == code)).map Prod.snd).getD []
  t.getD (if w = 384 then 2 else if w = 512 then 3 else if num = 0 then 1 else 0) 0

/-! ## Spindles -/

/-- A signing spindle's entropy buffer is filled up to four words (R234). -/
def State.fillEntropy (n : Nat) (s : State) : State :=
  let p := s.spindle n
  let k := 4 - p.ent.length
  if n < 8 ∧ s.entropyOk then
    (s.setSpindle n { p with ent := p.ent ++ (List.range k).map fun i => Config.entropy (s.ks.draws + i) }).drawn k
  else s

/-- A job is a signing spindle's (R143). -/
def Prog.signing : Prog → Bool
  | .sign .. => true
  | .part signing _ => signing
  | _ => false

/-- The program is SM2 sign, which takes entropy (R153). -/
def Prog.signs : Prog → Bool
  | .sign .. => true
  | _ => false

/-- The entropy a sign program takes: two words for u, one for the starting coordinates (R153). -/
def Prog.withEntropy (ent : List (BitVec 256)) : Prog → Prog
  | .sign cv e d _ qx qy lv => .sign cv e d ((ent.getD 0 0).toNat * 2 ^ 256 + (ent.getD 1 0).toNat) qx qy lv
  | p => p

/-- The key operand that the key store delivers to a job (R148). -/
def Prog.keyOperand : Prog → BitVec 512
  | .sign _ _ d _ _ _ _ => BitVec.ofNat 512 d
  | .part _ key => BitVec.ofNat 512 key
  | _ => 0

/-- A job starts on a spindle: its inputs are loaded and its counters begin (R150). -/
def State.startJob (n : Nat) (j : Job) (s : State) : State :=
  let s := if j.prog.signs then s.fillEntropy n else s
  let p := s.spindle n
  s.setSpindle n { p with
    lane := clearLane, halted := none, keyOp := j.prog.keyOperand
    job := some { j with prog := j.prog.withEntropy p.ent, began := some s.now }
    ent := if j.prog.signs then p.ent.drop 3 else p.ent }

/-- The arbiter of a kind of spindle (R242), and the parked jobs of a kind, read and set. -/
def spindleArb (signing : Bool) : Nat := if signing then 12 else 13
def State.parkedJobs (s : State) (signing : Bool) : List Job := if signing then s.spn.signParked else s.spn.verifyParked
def State.setParked (signing : Bool) (js : List Job) (s : State) : State :=
  if signing then { s with spn := { s.spn with signParked := js } } else { s with spn := { s.spn with verifyParked := js } }

/-- The lowest idle spindle that can start a program: for sign, one whose entropy buffer is full or can be filled (R145, R234). -/
def State.idleFor (s : State) (g : Prog) : Option Nat :=
  if g.signs then lowestFrom (fun n => (s.spindle n).idle && (decide (4 ≤ (s.spindle n).ent.length) || s.entropyOk)) 8 0
  else s.idleSpindle g.signing

/-- A job is requested: it starts on the lowest idle spindle of its kind, or parks at the arbiter (R145, R244). The second component is
the spindle it started on. -/
def State.request (j : Job) (s : State) : State × Option Nat :=
  let k := j.prog.signing
  match s.idleFor j.prog with
  | some n => ((s.grantAtOnce (spindleArb k) (standardRequester j.h.unit)).startJob n j, some n)
  | none => ((s.setParked k (s.parkedJobs k ++ [j])).sync (spindleArb k), none)

/-- The responses under which no job of a kind starts: HOLD and above for signing, STRIP and SCOUR for verifying (R164). -/
def State.jobsStopped (s : State) (signing : Bool) : Bool := if signing then s.holding else decide (2 ≤ s.tmp.level.toNat)

/-! ## Programs within a firmware command -/

/-- The program of a command is requested. While a response that stops its kind is in force the command is aborted (R164, R326). `cyc` is the
command's cycles up to the program's end. -/
def State.requestPart (x : Ctx) (cyc : Nat) (p : Part) (rest : List Part) (s : State) : State :=
  let j : Job := { prog := .part p.signing p.key, len := p.len, what := .part x.c rest, h := x.held 0 cyc 0 [], cyc, glitch := 0
                   yielded := false }
  if s.jobsStopped p.signing then s.postReply (j.h.fail stTamperAbort (cyc - p.len)) else (s.request j).1

/-- The programs that a command's step had run have ended, each on the lowest idle spindle of its kind. -/
def State.ended (s : State) : State :=
  s.spn.ran.foldl (fun s p => s.countIdle p.signing) { s with spn := { s.spn with ran := [] } }

/-- Spindles for the programs are idle, and no response stops them. -/
def State.partsRun (s : State) (ps : List Part) : Bool := ps.all fun p => (s.idleSpindle p.signing).isSome && !s.jobsStopped p.signing

/-- A firmware command whose body has programs run: within the command's step where it asks for no separate job ends and spindles are idle;
else the first is requested, and the command goes on when the last has ended. -/
def spindled (body : Ctx → State → Out) (x : Ctx) (s : State) : Out :=
  let o := body x s
  match o.s.spn.ran with
  | [] => o
  | p :: rest =>
    if !x.c.async && s.partsRun (p :: rest) then { o with s := o.s.ended }
    else
      let later := (rest.map (·.len)).sum
      { s := s.requestPart x (o.cyc + x.c.waits.total - later) p rest, cyc := 0, when_ := .later }

end Sys2Proof.Machine
end

