-- ==== Sys2Proof/Machine/Ledger.lean ====
section
/-! DEFINITION. The ledger opcodes, class 0x02, but for `ISSUE`, the card and the transfer opcodes (R64 to R103). -/

namespace Sys2Proof.Machine

/-! ## Owner certificates (R70 to R72) -/

/-- The checks of R72 before the signature: length, type and version, units and source, device and pool, time, prior value. -/
def certRefusal (s : State) (x : Ctx) (kind pool : Nat) (prior : Bool) (bs : Bytes) : Option (BitVec 16) :=
  let units := leAt bs 28 4
  let source := leAt bs 14 1
  firstFail
    [(decide (x.c.pkt.dataLen.toNat = 160 ∧ leAt bs 2 2 = 160), stLengthMismatch),
     (decide (leAt bs 0 1 = kind ∧ leAt bs 1 1 = 1) && (decide (2 < kind) || decide (1 ≤ units)) &&
       (decide (kind ≠ 2) || source == 0 || source == 5), stCertInvalid),
     (decide (leAt bs 4 8 = s.life.serial.toNat ∧ leAt bs 12 2 = pool), stCertInvalid),
     (decide (s.gctl.time.toNat ≤ leAt bs 16 4), stCertInvalid), (prior, stCertInvalid)]

/-- A signature r ‖ s at bytes 96 to 159 over SM3 (Z ‖ bytes 0–95), under the key of a slot. -/
def certSigned (s : State) (k : Slot) (bs : Bytes) : Bool :=
  match s.curve k.attr.curve.toNat with
  | none => false
  | some cv =>
    let pt := k.point cv.w
    sm2Verify cv (sm2E k.z (slice bs 0 96)) (beNat (slice bs 96 32)) (beNat (slice bs 128 32)) pt.1 pt.2

/-- The checks of R72 in their order: the status of the first that fails. -/
def State.certCheck (x : Ctx) (kind pool slot : Nat) (prior : Bool) (bs : Bytes) (s : State) : State × Option (BitVec 16) :=
  match certRefusal s x kind pool prior bs with
  | some st => (s, some st)
  | none =>
    match s.useSlot slot useCert with
    | (s, .error e) => (s, some (if e = stBadHandle then stUsageDenied else e))
    | (s, .ok k) =>
      match s.curve k.attr.curve.toNat with
      | none => (s, some stUsageDenied)
      | some cv =>
        ((s.hashed 3).usedSpindle { signing := false, len := lenVerify k.attr.curve.toNat cv.w, key := 0 },
         if certSigned s k bs then none else some stCertInvalid)

/-- The counters of a RECOVERY certificate and the record they give a pool (R71, R101). -/
def certPool (bs : Bytes) : Pool :=
  ((newPool (BitVec.ofNat 8 (leAt bs 88 1)) (leAt bs 78 5) (leAt bs 83 5) (leAt bs 90 2)).withTotals
    (totalsOf fun k => leAt bs (28 + 5 * k) 5)).withCauses 0x20

/-- The room, supply and checker order every other change follows (R79 checks 4, 5 and 8). -/
def gateRefusal (s : State) : Option (BitVec 16) := firstFail [(s.room 1, stBackpressure), (!s.supplyLow, stSupplyLow)]

/-- The pool a packet's handle_a names. -/
def Ctx.pool (x : Ctx) : PoolId := BitVec.ofNat 16 (hIndex x.c.pkt.handleA)

/-! ## Creating and loading -/

/-- The fingerprint field of a POOL_CREATE record: serial_limit, domain, policy (R96). -/
def createFp (p : Pool) : BitVec 128 := fpOf (leBytes 5 p.limit ++ [p.dom] ++ leBytes 2 p.policy ++ zeros 8)

/-- A pool created, with its record (R81, R96). -/
def State.createPool (n : PoolId) (p : Pool) (recover : Bool) (s : State) : State :=
  (s.putPool n p).chain
    { typ := 0x01, flags := if recover then 1 else 0, pool := n, serial := BitVec.ofNat 40 p.next, fp := createFp p }

/-- `POOL_CREATE` mode 0 (R81). Of the device-wide freezes only SCOUR refuses it, as R101 says; whether a STRIP or TOTALS freeze counts
for a pool that is ABSENT the manual does not say (DESIGN CHOICE, notes/assumptions/74.md). -/
def poolCreateNewBody (x : Ctx) (s : State) : Out :=
  let p := x.c.pkt
  let n := x.pool
  if s.led.scour then x.refused s stPoolFrozen
  else
    match s.useSlot (hIndex p.handleB) useCert with
    | (s, .error e) => x.refused s e
    | (s, .ok _) =>
      if (s.pool n).isSome then x.refused s stBadHandle
      else match gateRefusal s with
        | some st => x.refusedRoom s st
        | none =>
          let policy := hIndex p.handleB % 4096 + (p.field 34 2 / 4096 % 4) * 4096
          { s := s.createPool n (newPool x.dom (p.field 36 5) (p.field 41 5) policy) false, cyc := 2332, when_ := .group }

/-- `POOL_CREATE` mode 1 (R81, R101 step 3). The manual describes it after SCOUR and refuses it nowhere else, so an ABSENT pool takes it
whether SCOUR is in force or not (DESIGN CHOICE, notes/assumptions/75.md). -/
def poolCreateRecoverBody (x : Ctx) (s : State) : Out :=
  let n := x.pool
  withData x s fun bs =>
    match s.certCheck x 3 n.toNat 2 (leAt bs 20 8 == s.led.fseq) bs with
    | (s, some st) => x.refused s st
    | (s, none) =>
      let new := certPool bs
      match s.useSlot new.slot.toNat useCert with
      | (s, .error e) => x.refused s (if e = stBadHandle then stUsageDenied else e)
      | (s, .ok _) =>
        match gateRefusal s with
        | some st => x.refusedRoom s st
        | none =>
          if (s.pool n).isSome then x.refused s stBadHandle
          else match s.replacePool n new with
            | (s, false) => x.refused s stConservation
            | (s, true) =>
              { s := ((s.raise evFrozen).createPool n new true).noteApplied.settleTotals, cyc := 43343, when_ := .group }

/-- `POOL_LOAD` (R71, R72, R76). -/
def poolLoadBody (x : Ctx) (s : State) : Out :=
  let n := x.pool
  match s.pool n with
  | none => x.refused s stBadHandle
  | some p =>
    if !s.isOpen p then x.refused s stPoolFrozen
    else withData x s fun bs =>
      match s.certCheck x 1 n.toNat p.slot.toNat (leAt bs 32 5 == p.l) bs with
      | (s, some st) => x.refused s st
      | (s, none) =>
        let u := leAt bs 28 4
        match gateRefusal s with
        | some st => x.refusedRoom s st
        | none =>
          match s.change n { l := u, a := u } id with
          | (s, false) => x.refused s stConservation
          | (s, true) =>
            { s := s.chain { typ := 0x02, pool := n, fp := fpOf (sm3First 16 (slice bs 0 160)), delta := BitVec.ofNat 32 u }
              cyc := 44171, inl := inlAt 0 (p.l + u), when_ := .group }

/-! ## Spoiling, voiding, reclaiming (R82) -/

/-- `SPOIL` and `VOID`: the entry and the unit change together. -/
def spoilBody (void : Bool) (x : Ctx) (s : State) : Out :=
  let n := x.pool
  let serial : Serial := BitVec.ofNat 40 (x.c.pkt.field 32 5)
  match s.pool n with
  | none => x.refused s stBadHandle
  | some p =>
    if s.isFrozen p then x.refused s stPoolFrozen
    else match s.fpk with
      | (s, .error e) => x.refused s e
      | (s, .ok fpk) =>
        let fp := fingerprint fpk (ticketIdentity s.node n serial)
        match s.regFind fp with
        | (s, none) => x.refused s stNotFound
        | (s, some (e, place)) =>
          if e.state ≠ stIssued ∨ e.admits ≠ 0 then x.refused s stStateConflict
          else match gateRefusal s with
            | some st => x.refusedRoom s st
            | none =>
              match s.change n (if void then { i := -1, v := 1 } else { i := -1, s := 1 }) id with
              | (s, false) => x.refused s stConservation
              | (s, true) =>
                let e' : Entry := { e with state := if void then stVoided else stSpoiled, time := s.gctl.time }
                let s := { s with ru := { s.ru with reg := s.ru.reg.setEntry place e' } }
                let s := s.chain { typ := if void then 0x06 else 0x05, pool := n, serial, node := s.node, fp, delta := 1 }
                { s := s.noteChange fp, cyc := 2156, when_ := .group }

/-- `RECLAIM`. -/
def reclaimBody (x : Ctx) (s : State) : Out :=
  let n := x.pool
  let u := x.c.pkt.field 32 4
  match s.pool n with
  | none => x.refused s stBadHandle
  | some p =>
    if !s.isOpen p then x.refused s stPoolFrozen
    else if !p.reissue then x.refused s stBadParameter
    else if p.v < u then x.refused s stPoolEmpty
    else match gateRefusal s with
      | some st => x.refusedRoom s st
      | none =>
        match s.change n { a := u, v := -(u : Int) } id with
        | (s, false) => x.refused s stConservation
        | (s, true) =>
          { s := s.chain { typ := 0x07, pool := n, delta := BitVec.ofNat 32 u }, cyc := 2084, inl := inlAt 0 (p.a + u)
            when_ := .group }

/-! ## POOL_QUERY (R102) -/

/-- The lock summary at bytes 64 to 95. -/
def lockSummary (s : State) (n : PoolId) : Bytes :=
  match s.lock n with
  | none => zeros 32
  | some k =>
    leBytes 4 (lockHandle n k).toNat ++ leBytes 2 k.q.toNat ++ leBytes 2 k.epoch.toNat ++ leBytes 4 k.units ++
    leBytes 5 k.next ++ leBytes 5 k.last ++ leBytes 4 ((k.deadline - s.now) / 1024) ++ zeros 6

/-- `POOL_QUERY`. -/
def poolQueryBody (x : Ctx) (s : State) : Out :=
  match s.pool x.pool with
  | none => x.refused s stBadHandle
  | some p => { s, cyc := 96, result := p.bytes ++ lockSummary s x.pool }

/-! ## Freezing and retiring (R90, R91) -/

/-- A command that reserves units of a pool: `ISSUE` and `LOCK_ACQUIRE` (R69, R83). -/
def reservesOn (n : PoolId) (p : Packet) : Bool :=
  (p.opcode == 0x0203 || p.opcode == 0x0107) && BitVec.ofNat 16 (hIndex p.handleA) == n

/-- A command that reserved on a pool has not posted its reply (W_drain of R75, R90, R91). -/
def State.poolBusy (s : State) (n : PoolId) : Bool :=
  s.queues.any fun p => p.2.inflight.any fun f => f.running && reservesOn n f.pkt

/-- A reply that follows the FREEZE record of a pool: with the record while that waits for room, else with the open group. -/
def State.afterFreeze (n : PoolId) (h : Held) (s : State) : State :=
  let mine (f : Forced) : Bool := match f with | .freeze m _ _ => m == n | _ => false
  if s.ru.jrn.forced.any mine then
    { s with ru := { s.ru with jrn := { s.ru.jrn with forced := s.ru.jrn.forced.map fun f =>
        match f with
        | .freeze m c a => if m = n then .freeze m c (a ++ [.reply h]) else .freeze m c a
        | f => f } } }
  else s.afterGroup [.reply h]

/-- The one change of a retirement: all of A to W, and RETIRED (R91). The manual does not say what becomes of RETIRING where the checker
refuses the change: the pool is OPEN again (DESIGN CHOICE, notes/assumptions/73.md). -/
def State.retirePool (n : PoolId) (h : Held) (s : State) : State :=
  let a : Nat := ((s.pool n).map (·.a)).getD 0
  match s.change n { a := -(a : Int), w := a } (fun p => { p with st := 3 }) with
  | (s, true) =>
    ((s.unpledge 1).chain { typ := 0x11, pool := n, delta := BitVec.ofNat 32 a }).afterGroup [.reply { h with inl := inlAt 0 a }]
  | (s, false) =>
    let s := match s.pool n with | some p => s.putPool n { p with st := 1 } | none => s
    (s.unpledge 1).postReply { h with status := stConservation, cycles := sat 32 (h.cycles.toNat - 1920) }

/-- What waited for the commands in flight on a pool goes on once none is left (R90, R91). -/
def State.releaseDrains (n : PoolId) (s : State) : State :=
  if s.poolBusy n then s
  else
    let mine := s.led.drains.filter (·.pool == n)
    mine.foldl
      (fun s d => match d.what with
        | .freeze => s.afterFreeze n d.h
        | .retire => s.retirePool n d.h
        | .retired => s.afterGroup [.reply d.h])
      { s with led := { s.led with drains := s.led.drains.filter (·.pool != n) } }

/-- Replies have been posted: what waited on any pool goes on where no command is left (R90, R91). -/
def State.releaseAll (s : State) : State :=
  ((s.led.drains.map (·.pool)).eraseDups).foldl (fun s n => s.releaseDrains n) s

/-- A command waits for the commands in flight on its pool. -/
def State.drain (d : Drain) (s : State) : State := { s with led := { s.led with drains := s.led.drains ++ [d] } }

/-- `POOL_FREEZE` op 0 (R90). -/
def poolFreezeSetBody (x : Ctx) (s : State) : Out :=
  let n := x.pool
  match s.pool n with
  | none => x.refused s stBadHandle
  | some p =>
    if p.host then { s, cyc := 140, inl := inlAt 0 p.status.toNat }
    else
      let h := x.held 0 2060 (inlAt 0 (p.status ||| 4).toNat) []
      if s.poolBusy n then { s := (s.force (.freeze n 4 [])).drain { pool := n, what := .freeze, h }, cyc := 2060, when_ := .later }
      else { s := s.force (.freeze n 4 [.reply h]), cyc := 2060, when_ := .later }

/-- `POOL_FREEZE` op 1 (R90). -/
def poolFreezeClearBody (x : Ctx) (s : State) : Out :=
  let n := x.pool
  match s.pool n with
  | none => x.refused s stBadHandle
  | some p =>
    if !p.host then { s, cyc := 140, inl := inlAt 0 p.status.toNat }
    else
      let h := x.held 0 2060 (inlAt 0 (p.status &&& ~~~4#8).toNat) []
      { s := s.force (.thaw n 4 [.reply h]), cyc := 2060, when_ := .later }

/-- `POOL_FREEZE` op 2 (R101 step 2): the certificate's record, with RECOVERING set; the certificate clears REBUILD and CHECKER, and
HOST stays (R89). -/
def poolFreezeRecoveryBody (x : Ctx) (s : State) : Out :=
  let n := x.pool
  match s.pool n with
  | none => x.refused s stBadHandle
  | some p =>
    if !(p.rebuild || p.checker || p.recovering || s.led.totals) then x.refused s stBadParameter
    else withData x s fun bs =>
      match s.certCheck x 3 n.toNat 2 (leAt bs 20 8 == s.led.fseq) bs with
      | (s, some st) => x.refused s st
      | (s, none) =>
        let new : Pool := { (certPool bs).withCauses ((p.status &&& 4) ||| 0x20) with st := p.st }
        match s.replacePool n new with
        | (s, false) => x.refused s stConservation
        | (_, true) =>
          let h := x.held 0 43071 (inlAt 0 new.status.toNat) []
          { s := (s.force (.replace n new (leAt bs 20 8) h)).settleTotals, cyc := 43071, when_ := .later }

/-- `POOL_RETIRE` (R91). -/
def poolRetireBody (x : Ctx) (s : State) : Out :=
  let n := x.pool
  match s.pool n with
  | none => x.refused s stBadHandle
  | some p =>
    if p.st = 3 then { s, cyc := 180 }
    else if p.st = 2 then
      if s.poolBusy n then { s := s.drain { pool := n, what := .retired, h := x.held 0 180 0 [] }, cyc := 180, when_ := .later }
      else { s, cyc := 180 }
    else match firstFail [((s.lock n).isNone, stLockHeld), (decide (p.t = 0), stInDoubt), (!s.isFrozen p, stPoolFrozen)] with
      | some st => x.refused s st
      | none =>
        match gateRefusal s with
        | some st => x.refusedRoom s st
        | none =>
          let s := (s.putPool n { p with st := 2 }).pledge 1
          let h := x.held 0 2100 0 []
          if s.poolBusy n then { s := s.drain { pool := n, what := .retire, h }, cyc := 2100, when_ := .later }
          else { s := s.retirePool n h, cyc := 2100, when_ := .later }

/-! ## LEDGER_AUDIT (R101, R102) -/

/-- The 128-byte result. -/
def State.auditBytes (s : State) : Bytes :=
  s.led.durable.tot.list.flatMap (leBytes 6) ++ (sumPools s.led.pools).list.flatMap (leBytes 6) ++ leBytes 8 s.led.durable.seq

/-- inline_result byte 24. -/
def State.auditInline (s : State) : BitVec 64 := inlAt 0 ((sumPools s.led.pools).agrees s.led.durable.tot).toNat

/-- `LEDGER_AUDIT` op 0. -/
def ledgerAuditSumBody (_ : Ctx) (s : State) : Out :=
  { s, cyc := 65746, inl := s.auditInline, result := s.auditBytes }

/-- `LEDGER_AUDIT` op 1. -/
def ledgerAuditClearStripBody (_ : Ctx) (s : State) : Out :=
  if !s.led.strip then { s, cyc := 65746, inl := s.auditInline, result := s.auditBytes }
  else if (sumPools s.led.pools).agrees s.led.durable.tot then
    let s := s.clearStrip
    { s, cyc := 67666, inl := s.auditInline, result := s.auditBytes, when_ := .group }
  else
    let s := (({ s with led := { s.led with strip := false, totals := true, applied := false } }).countRefused.groupChange).groupMark
    { s, status := stConservation, cyc := 67666, inl := s.auditInline, result := s.auditBytes, when_ := .group }

/-- `LEDGER_AUDIT` op 2 (R101 step 1). -/
def ledgerAuditTotalsBody (x : Ctx) (s : State) : Out :=
  if !s.led.totals then x.refused s stBadParameter
  else withData x s fun bs =>
    match s.certCheck x 4 0 2 (leAt bs 20 8 == s.led.fseq) bs with
    | (s, some st) => x.refused s st
    | (s, none) =>
      let t := totalsOf fun k => leAt bs (28 + 6 * k) 6
      if !t.sound then x.refused s.countRefused stConservation
      else
        let s := ({ s with led := { s.led with group := { s.led.group with setTotals := some t } } }).groupChange.noteApplied
        { s, cyc := 108677, inl := s.auditInline, result := s.auditBytes, when_ := .group }

/-! ## WRITE_OFF (R71, R287, R382) -/

/-- A write-off from T names a transfer of the pool in DOUBT, and for a Skein transfer a peer that is retired (R287, R382). -/
def State.writeOffRow (s : State) (n : PoolId) (ref : BitVec 64) : Option Nat :=
  match s.transferRow ref with
  | none => none
  | some (row, t) =>
    let doubt := t.pool == n && t.st == 2
    let retired := (s.skn.members.find t.peer.toNat).any fun m => s.skn.retired.contains m.serial
    if doubt && (t.kind == 2 || (t.kind == 1 && retired)) then some row else none

/-- `WRITE_OFF`. -/
def writeOffBody (x : Ctx) (s : State) : Out :=
  let n := x.pool
  match s.pool n with
  | none => x.refused s stBadHandle
  | some p =>
    if s.isFrozen p then x.refused s stPoolFrozen
    else withData x s fun bs =>
      let fromT := leAt bs 14 1 == 5
      let row := s.writeOffRow n (BitVec.ofNat 64 (leAt bs 20 8))
      match s.certCheck x 2 n.toNat p.slot.toNat (leAt bs 32 5 == p.w && (!fromT || row.isSome)) bs with
      | (s, some st) => x.refused s st
      | (s, none) =>
        let u := leAt bs 28 4
        match gateRefusal s with
        | some st => x.refusedRoom s st
        | none =>
          match s.change n (if fromT then { t := -(u : Int), w := u } else { a := -(u : Int), w := u }) id with
          | (s, false) => x.refused s stConservation
          | (s, true) =>
            let s := if fromT then s.freeTransfer (row.getD 16384) else s
            { s := s.chain { typ := 0x0E, flags := if fromT then 5 else 0, pool := n, delta := BitVec.ofNat 32 u }
              cyc := 44171, inl := inlAt 0 u, when_ := .group }

/-! ## The rows -/

/-- `POOL_CREATE` mode 0. -/
def execPoolCreateNew (c : Cmd) (s : State) : Host.Outcome State Fault Refusal :=
  .next (runOp 0x0201 (some 0) poolCreateNewBody c s)

/-- `POOL_CREATE` mode 1. -/
def execPoolCreateRecover (c : Cmd) (s : State) : Host.Outcome State Fault Refusal :=
  .next (runOp 0x0201 (some 1) (spindled poolCreateRecoverBody) c s)

/-- `POOL_LOAD`. -/
def execPoolLoad (c : Cmd) (s : State) : Host.Outcome State Fault Refusal := .next (runOp 0x0202 none (spindled poolLoadBody) c s)

/-- `SPOIL`. -/
def execSpoil (c : Cmd) (s : State) : Host.Outcome State Fault Refusal := .next (runOp 0x0205 none (spoilBody false) c s)

/-- `VOID`. -/
def execVoid (c : Cmd) (s : State) : Host.Outcome State Fault Refusal := .next (runOp 0x0206 none (spoilBody true) c s)

/-- `RECLAIM`. -/
def execReclaim (c : Cmd) (s : State) : Host.Outcome State Fault Refusal := .next (runOp 0x0207 none reclaimBody c s)

/-- `POOL_QUERY`. -/
def execPoolQuery (c : Cmd) (s : State) : Host.Outcome State Fault Refusal := .next (runOp 0x0208 none poolQueryBody c s)

/-- `POOL_FREEZE` op 0. -/
def execPoolFreezeSet (c : Cmd) (s : State) : Host.Outcome State Fault Refusal :=
  .next (runOp 0x0209 (some 0) poolFreezeSetBody c s)

/-- `POOL_FREEZE` op 1. -/
def execPoolFreezeClear (c : Cmd) (s : State) : Host.Outcome State Fault Refusal :=
  .next (runOp 0x0209 (some 1) poolFreezeClearBody c s)

/-- `POOL_FREEZE` op 2. -/
def execPoolFreezeRecovery (c : Cmd) (s : State) : Host.Outcome State Fault Refusal :=
  .next (runOp 0x0209 (some 2) (spindled poolFreezeRecoveryBody) c s)

/-- `POOL_RETIRE`. -/
def execPoolRetire (c : Cmd) (s : State) : Host.Outcome State Fault Refusal := .next (runOp 0x020A none poolRetireBody c s)

/-- `LEDGER_AUDIT` op 0. -/
def execLedgerAuditSum (c : Cmd) (s : State) : Host.Outcome State Fault Refusal :=
  .next (runOp 0x020F (some 0) ledgerAuditSumBody c s)

/-- `LEDGER_AUDIT` op 1. -/
def execLedgerAuditClearStrip (c : Cmd) (s : State) : Host.Outcome State Fault Refusal :=
  .next (runOp 0x020F (some 1) ledgerAuditClearStripBody c s)

/-- `LEDGER_AUDIT` op 2. -/
def execLedgerAuditTotals (c : Cmd) (s : State) : Host.Outcome State Fault Refusal :=
  .next (runOp 0x020F (some 2) (spindled ledgerAuditTotalsBody) c s)

/-- `WRITE_OFF`. -/
def execWriteOff (c : Cmd) (s : State) : Host.Outcome State Fault Refusal := .next (runOp 0x0210 none (spindled writeOffBody) c s)

end Sys2Proof.Machine
end

