-- ==== Sys2Proof/Machine/Service.lean ====
section
/-! DEFINITION. Units leaving and entering service (R256 to R259): what every change of service does, requested or not. -/

namespace Sys2Proof.Machine

/-! ## Causes of USVC_LAST (R263) -/

def causeCommand : Nat := 0
def causeTest : Nat := 1
def causeVas : Nat := 2
def causeWatchdog : Nat := 3
def causeEntropy : Nat := 4
def causeRow : Nat := 5
def causeLink : Nat := 6

/-- A change of service: `USVC_OUT`, `USVC_LAST`, UNIT_SVC and its event record (R259). -/
def State.serviceChange (code cause : Nat) (in_ : Bool) (s : State) : State :=
  let s := { s with arb := { s.arb with
      out := setBit s.arb.out code (!in_), lastCause := BitVec.ofNat 3 cause, lastIn := in_, lastUnit := BitVec.ofNat 8 code } }
  (s.raise evUnitSvc).log 0x0020 2 1 [BitVec.ofNat 8 code, BitVec.ofNat 8 cause, if in_ then 1 else 0]

/-- The unit code of a spindle (R256). -/
def spindleCode (n : Nat) : Nat := 0x20 + n

/-- The result of `UNIT_SERVICE`: state after, units of the kind in service, spare rows left (R260). -/
def serviceInline (state units spares : Nat) : BitVec 64 := inlAt 0 state ||| inlAt 1 units ||| inlAt 2 spares

/-- The codes of the kind a unit belongs to. -/
def kindOf (code : Nat) : List Nat :=
  if code < 0x10 then List.range 16
  else if code < 0x14 then (List.range 4).map (0x10 + ·)
  else if code < 0x28 then (List.range 8).map (0x20 + ·)
  else if code < 0x48 then (List.range 32).map (0x28 + ·)
  else if code = 0x60 ∨ code = 0x61 then [0x60, 0x61]
  else [code]

/-- The port of a unit code. -/
def portOf (code : Nat) : Port := if code = 0x60 then .east else .west

/-- A unit is out of service, a spindle by its own record (R157). -/
def State.unitOut (s : State) (code : Nat) : Bool :=
  if 0x20 ≤ code ∧ code < 0x48 then (s.spindle (code - 0x20)).svc != .inService
  else if code = 0x52 then !s.ks.entIn
  else if code = 0x60 ∨ code = 0x61 then !(s.port (portOf code)).inService
  else s.isOut code

/-- Units of a unit's kind in service (R260). -/
def State.unitsIn (s : State) (code : Nat) : Nat := ((kindOf code).filter fun k => !s.unitOut k).length

/-- The reply of `UNIT_SERVICE` that waits for a unit's return. -/
def State.returned (code : Nat) (pass : Bool) (s : State) : State :=
  match s.arb.returning.find code with
  | none => s
  | some h =>
    let s := { s with arb := { s.arb with returning := s.arb.returning.del code } }
    s.postReply { h with status := if pass then 0 else stOutOfService
                         inl := serviceInline (if pass then 1 else 2) (s.unitsIn code) (h.inl.toNat / 65536 % 65536) }

end Sys2Proof.Machine
end

