-- ==== Sys2Proof/Machine/Issuing.lean ====
section
/-! DEFINITION. How an `ISSUE` ends: steps 7 to 10 of R20 once its signature or tag is made, and its failure after the
reservation (R80). -/

namespace Sys2Proof.Machine

/-- The result of a held command written at its place: cut to what `out_len` takes. -/
def Held.withResult (bs : Bytes) (h : Held) : Held := { h with write := h.write.map fun p => (p.1, bs.take p.2.length) }

/-- The ticket header (R78). -/
def ticketHeader (s : State) (mode : Byte) (pool : PoolId) (serial : Serial) (flags : Nat) : Bytes :=
  [1, mode] ++ leBytes 8 s.life.serial.toNat ++ leBytes 2 pool.toNat ++ leBytes 5 serial.toNat ++
  leBytes 4 s.gctl.time.toNat ++ leBytes 2 flags ++ [s.node]

/-- An `ISSUE` fails after its reservation: its serial is abandoned, its unit returns R → A or stays stranded in R on a frozen
pool, and one ABANDON record is written under its pledge (R80, R88, R96). `flags` is 0 where a reset ends it. -/
def State.abandon (r : IssueRun) (flags : Byte) (s : State) : State :=
  let frozen := (s.pool r.pool).any s.isFrozen
  let (s, ok) := if frozen then (s, false) else s.change r.pool { a := 1, r := -1 } id
  let code := (if r.locked then 2 else 0) + (if ok then 0 else 1)
  (s.unpledge 1).chain
    { typ := 0x04, flags, pool := r.pool, serial := r.serial, node := s.node
      delta := if code = 1 ∨ code = 2 then 1 else 0, aux := BitVec.ofNat 32 code }

/-- A failed `ISSUE`'s reply waits for the group of its ABANDON record (R80). -/
def State.failIssue (r : IssueRun) (st : BitVec 16) (cyc : Nat) (h : Held) (s : State) : State :=
  (s.abandon r (st.setWidth 8)).afterGroup [.reply (h.fail st cyc)]

/-- The register entry of an issued ticket (R105). -/
def issueEntry (s : State) (r : IssueRun) (fp : BitVec 128) : Entry :=
  { fp, pool := r.pool, serial := r.serial, state := stIssued, admits := 0, limit := r.admitLimit, node := s.node
    flags := r.mode ||| (if r.locked then 4 else 0), time := r.time }

/-- Steps 7 to 9 of R20: the entry is inserted, the unit moves R → I, and the record is chained; the reply waits for the
group. Where the checker refuses the move, no entry is inserted and the command fails (R68). -/
def State.completeIssue (r : IssueRun) (tail : Bytes) (cyc : Nat) (h : Held) (s : State) : State :=
  match s.fpk with
  | (s, .error e) => s.failIssue r e cyc h
  | (s, .ok fpk) =>
    let fp := fingerprint fpk (ticketIdentity s.node r.pool r.serial)
    match s.regRun (.insert (issueEntry s r fp)) with
    | (s, .duplicate) => s.failIssue r stDuplicate cyc h
    | (s, .full) => s.failIssue r stStashFull cyc h
    | (s', .ok) =>
      match s'.change r.pool { i := 1, r := -1 } id with
      | (_, false) => (s.change r.pool { i := 1, r := -1 } id).1.failIssue r stConservation cyc h
      | (s, true) =>
        let s := (s.unpledge 1).chain
          { typ := 0x03, flags := if r.locked then 1 else 0, pool := r.pool, serial := r.serial, node := s.node, fp, delta := 1
            aux := BitVec.ofNat 32 (r.admitLimit.toNat + 256 * r.mode.toNat) }
        let h' := { h.withResult (r.header ++ tail) with cycles := sat 32 cyc }
        (s.noteChange fp).afterGroup [.reply h']

end Sys2Proof.Machine
end

