-- ==== Sys2Proof/Machine/Spindling.lean ====
section
/-! DEFINITION. Spindle jobs: which parked job runs (R145), what a program gives (R153 to R155,
R160 to R162), verify-after-sign (R156, R157), and how a job ends (R150, R163, R164). -/

namespace Sys2Proof.Machine

/-! ## Parked jobs -/

/-- A parked job of a kind takes an idle spindle: the oldest of the requester that the arbiter chooses; none does while a response that
stops its kind is in force (R145, R164, R243, R244). -/
def State.grantParked (k : Bool) (s : State) : State :=
  match (s.sync (spindleArb k)).choose (spindleArb k) with
  | some (i, a) =>
    let js := s.parkedJobs k
    match js.find? fun j => standardRequester j.h.unit == i with
    | some j =>
      match s.idleFor j.prog with
      | some n =>
        if s.jobsStopped k then s
        else (((s.sync (spindleArb k)).grantTo (spindleArb k) i a).setParked k (js.erase j)).startJob n j
      | none => s
    | none => s
  | none => s

/-! ## What a primitive gives (R160 to R162) -/

/-- The result words of a primitive, and its flags: bit 0 IMPROPER, bit 1 result at infinity, bit 2 on the curve (R172). -/
structure BnOut where
  words : List Nat
  flags : Nat
  deriving DecidableEq, Repr

/-- A modular result, 0 with IMPROPER for a modulus that is not proper (R161). -/
def bnMod (w m v : Nat) : BnOut := if properMod w m then { words := [v], flags := 0 } else { words := [0], flags := 1 }

/-- A point result, with flag bit 1 at infinity (R162). -/
def bnPoint (cv : Curve) (P : Pt) : BnOut :=
  let o := ecOut cv P
  { words := [o.1, o.2], flags := if P.z = 0 then 2 else 0 }

/-- A primitive on its operands. -/
def bnRun (code w : Nat) (cv : Curve) (ops : List Nat) : BnOut :=
  let o (k : Nat) : Nat := ops.getD k 0
  match code with
  | 0x01 => bnMod w (o 2) ((reduceOnce (o 0) (o 2) + reduceOnce (o 1) (o 2)) % o 2)
  | 0x02 => bnMod w (o 2) (subMod (o 2) (reduceOnce (o 0) (o 2)) (reduceOnce (o 1) (o 2)))
  | 0x03 => bnMod w (o 2) (reduceOnce (o 0) (o 2) * reduceOnce (o 1) (o 2) % o 2)
  | 0x04 => bnMod w (o 2) (powMod w (reduceOnce (o 0) (o 2)) (o 1) (o 2))
  | 0x05 => bnMod w (o 1) (powMod w (reduceOnce (o 0) (o 1)) (o 1 - 2) (o 1))
  | 0x10 => bnPoint cv (ecAdd cv (ecIn cv (o 0) (o 1)) (ecIn cv (o 2) (o 3)))
  | 0x11 => bnPoint cv (ecAdd cv (ecIn cv (o 0) (o 1)) (ecIn cv (o 0) (o 1)))
  | 0x12 => bnPoint cv (ecMul cv (o 0) (ecIn cv (o 1) (o 2)))
  | 0x13 => bnPoint cv (ecMul2 cv (o 0) (o 1) (ecIn cv (o 2) (o 3)))
  | 0x14 => { words := [], flags := if onCurve cv (o 0) (o 1) then 4 else 0 }
  | _ => { words := [], flags := 0 }

/-! ## How a job ends -/

/-- A command that a job belonged to fails with a status: an `ISSUE` under R80, others at once. -/
def State.failJob (j : Job) (st : BitVec 16) (cyc : Nat) (s : State) : State :=
  match j.what with
  | .issue r => s.failIssue r st cyc j.h
  | _ => s.postReply (j.h.fail st cyc)

/-- A spindle whose unit service `UNIT_SERVICE` waits for has ended its granted work (R257). -/
def State.leaveDone (n : Nat) (s : State) : State :=
  let p := s.spindle n
  match s.arb.leaving.find (spindleCode n) with
  | some h =>
    if p.job.isNone && p.shadow.isNone && p.taking.isNone then
      ({ s with arb := { s.arb with leaving := s.arb.leaving.del (spindleCode n) } }).postReply h
    else s
  | none => s

/-- A spindle leaves service for its known-answer test (R157); a return of it that was testing ends (R262). -/
def State.toTest (n cause : Nat) (s : State) : State :=
  let p := s.spindle n
  let s := (s.setSpindle n { p with svc := .testing, why := BitVec.ofNat 3 cause }).serviceChange (spindleCode n) cause false
  let s := s.returned (spindleCode n) false
  { s with spn := { s.spn with katRunning := true, katSpindle := BitVec.ofNat 6 n } }

/-- A spindle is free of its job, cleared (R150); a job in its shadow comes back (R158), or a parked one starts. -/
def State.freeSpindle (n : Nat) (s : State) : State :=
  let p := s.spindle n
  let s := s.setSpindle n { p with lane := clearLane, out := Vector.replicate 4 0, keyOp := 0, job := none
                                   restoring := p.shadow.isSome }
  ((s.grantParked true).grantParked false).leaveDone n

/-- The cycles of steps 7 to 10 that a failure before them leaves out: `ISSUE` gives back the register insert, `SIGN` nothing
(R80). -/
def Job.early (j : Job) : Nat := match j.what with | .issue _ => j.cyc - 22 | _ => j.cyc

/-- The cycles of a command whose job ends at a cycle before its end: the steps completed, without what is left of the job and without
the verification that would follow a signature (R80). -/
def Job.cut (now : Nat) (j : Job) : Nat :=
  let done := match j.began with | some t => min j.len (now - t) | none => 0
  j.early - (j.len - done) - (match j.prog with | .sign _ _ _ _ _ _ lv => lv | _ => 0)

/-- The verify-after-sign job of a signature (R156): the errors an injected fault put on the output latch are in r and s. -/
def vasJob (j : Job) (n : Nat) (cv : Curve) (e qx qy lv r v : Nat) (glitch : BitVec 512) : Job :=
  let g := glitch.toNat
  let w := 2 ^ cv.w
  { j with prog := .verify cv e ((r ^^^ (g / 2 ^ 256)) % w) ((v ^^^ (g % 2 ^ 256)) % w) qx qy (some n), len := lv }

/-- Verify-after-sign rejects: both spindles are named, and the signing spindle leaves for its test (R156, R157). -/
def State.vasMark (n vp : Nat) (s : State) : State :=
  let p := s.spindle n
  let s := s.setSpindle n { p with vasFails := satAdd p.vasFails 1 }
  (s.toTest n causeVas).log 0x0022 1 2 [BitVec.ofNat 8 n, BitVec.ofNat 8 vp]

/-- The command whose signature was rejected completes with `STATUS_SIGN_SELF_CHECK_FAIL` (R156). -/
def State.vasFail (n vp : Nat) (j : Job) (s : State) : State := (s.vasMark n vp).failJob j stSelfCheck j.early

/-- A signature leaves: `SIGN`'s result, or the end of an `ISSUE`. -/
def State.release (j : Job) (bs : Bytes) (s : State) : State :=
  match j.what with
  | .issue r => s.completeIssue r bs j.cyc j.h
  | _ => s.postReply { j.h.withResult bs with cycles := sat 32 j.cyc }

/-- A verify program ends (R154, R156). -/
def State.verifyEnd (vp : Nat) (j : Job) (s : State) : State :=
  match j.prog with
  | .verify cv e r v qx qy signer =>
    let ok := sm2Verify cv e r v qx qy
    match signer with
    | some n => if ok then s.release j (beBytes cv.bytes r ++ beBytes cv.bytes v) else s.vasFail n vp j
    | none => s.postReply { j.h with status := if ok then 0 else stSignatureReject, cycles := sat 32 j.cyc }
  | .bn code w cv ops =>
    let o := bnRun code.toNat w cv ops
    s.postReply
      { j.h.withResult (o.words.flatMap (beBytes (w / 8))) with
        cycles := sat 32 j.cyc, inl := inlAt 0 o.flags ||| inlAt 1 vp }
  | .sign .. | .part .. => s

/-- A verify job ends on its spindle. -/
def State.verifyJobEnd (vp : Nat) (j : Job) (s : State) : State := ((s.countJob vp).verifyEnd vp j).freeSpindle vp

/-- A signing job ends (R150, R153, R156): a REGEN releases nothing; a signature asks for its verification, which `now` lets
end within the same step where a verify spindle is idle. -/
def State.signJobEnd (n : Nat) (j : Job) (glitch : BitVec 512) (now : Bool) (s : State) : State :=
  let s := (s.countJob n).freeSpindle n
  match j.prog with
  | .sign cv e d u qx qy lv =>
    let o := sm2Sign cv e d u
    if o.regen then s.failJob j stSelfCheck (j.early - lv)
    else
      let k := vasJob j n cv e qx qy lv o.r o.s (j.glitch ^^^ glitch)
      let (s, at_) := s.request k
      match at_ with
      | some vp => if now then s.verifyJobEnd vp k else s
      | none => s
  | _ => s

/-- The job of a spindle ends. -/
def State.jobEnd (n : Nat) (glitch : BitVec 512) (now : Bool) (s : State) : State :=
  match (s.spindle n).job with
  | none => s
  | some j => if j.prog.signing then s.signJobEnd n j glitch now else s.verifyJobEnd n j

/-- A command's job is requested; where the command asks for no separate job end and a spindle is idle, it ends in the same
step. A job requested while a response that stops its kind is in force is removed (R164); so is a sign job for which no full entropy buffer is
left once the source is out of service (R235). -/
def State.runJob (j : Job) (async : Bool) (s : State) : State :=
  if s.jobsStopped j.prog.signing then
    s.failJob j stTamperAbort ({ j with began := none }.cut s.now)
  else if j.prog.signs && !s.ks.entIn && (s.idleFor j.prog).isNone then
    s.failJob j stOutOfService ({ j with began := none }.cut s.now)
  else
    let (s, at_) := s.request j
    match at_ with
    | some n => if async then s else s.jobEnd n 0 true
    | none => s

/-! ## Abort -/

/-- A spindle's jobs are aborted and its state cleared, with the count of aborts (R163, R164, R173). -/
def State.clearSpindle (n : Nat) (s : State) : State :=
  let p := s.spindle n
  let k := p.jobsHeld.length
  s.setSpindle n { p with
    lane := clearLane, out := Vector.replicate 4 0, keyOp := 0, job := none, shadow := none, taking := none
    restoring := false, aborts := satAdd p.aborts k }

/-- Every job of a spindle is aborted with a status (R164). -/
def State.abortSpindle (st : BitVec 16) (n : Nat) (s : State) : State :=
  let js := (s.spindle n).jobsHeld
  js.foldl (fun s j => s.failJob j st (j.cut s.now)) (s.clearSpindle n)

/-- A job is that of a packet of a host queue. -/
def Job.isOf (q : QId) (tag : BitVec 32) (j : Job) : Bool := j.h.via == .host && j.h.q == q && j.h.tag == tag

/-- The job of a packet, on a spindle or parked. -/
def State.jobOf (s : State) (q : QId) (tag : BitVec 32) : Option Job :=
  (s.spn.sp.toList.flatMap Spindle.jobsHeld ++ s.spn.signParked ++ s.spn.verifyParked).find? fun j => j.isOf q tag

/-- A job is an `ISSUE`'s. -/
def Job.issues (j : Job) : Bool := match j.what with | .issue _ => true | _ => false

/-- A job leaves one spindle: its lane where it runs there, its place in the shadow or among the jobs being switched to. -/
def State.dropFrom (j : Job) (s : State) (n : Nat) : State :=
  let p := s.spindle n
  let mine (k : Job) : Bool := k.isOf j.h.q j.h.tag
  if p.job.any mine then s.freeSpindle n
  else if (p.shadow.map Prod.snd).any mine then s.setSpindle n { p with shadow := none, restoring := false }
  else if p.taking.any mine then s.setSpindle n { p with taking := none }
  else s

/-- A job is taken from wherever it is, and its command fails with a status (R50, R80, R248). -/
def State.cutJob (j : Job) (st : BitVec 16) (s : State) : State :=
  let mine (k : Job) : Bool := k.isOf j.h.q j.h.tag
  let s := { s with spn := { s.spn with signParked := s.spn.signParked.filter fun k => !mine k
                                        verifyParked := s.spn.verifyParked.filter fun k => !mine k } }
  ((List.range 40).foldl (State.dropFrom j) s).failJob j st (j.cut s.now)

/-- The parked jobs of a kind whose program a test names are removed without being granted (R164, R235). -/
def State.dropParked (st : BitVec 16) (t : Prog → Bool) (signing : Bool) (s : State) : State :=
  let js := (s.parkedJobs signing).filter fun j => t j.prog
  let s := s.setParked signing ((s.parkedJobs signing).filter fun j => !t j.prog)
  js.foldl (fun s j => s.failJob j st (j.cut s.now)) s

end Sys2Proof.Machine
end

