-- ==== Sys2Proof/Machine/Sealing.lean ====
section
/-! DEFINITION. The seal engine's shared operations: context records (R178), the context cache (R179), keys and IVs (R180, R181),
the blocks of a message (R192, R193), and the GMAC tags of tickets (R183). -/

namespace Sys2Proof.Machine

/-! ## Contexts -/

/-- Usages (R176) and states (R177). -/
def usSeal : Byte := 1
def usOpen : Byte := 2
def usTicket : Byte := 3
def ctIdle : Byte := 1
def ctMessage : Byte := 2
def ctBroken : Byte := 3

/-- A context record set, or zeroed with its cache line (R198). -/
def State.setCtx (n : Nat) (k : SealCtx) (s : State) : State := { s with sl := { s.sl with ctxs := s.sl.ctxs.put n k } }
def State.closeCtx (n : Nat) (s : State) : State :=
  { s with sl := { s.sl with
      ctxs := s.sl.ctxs.del n, cache := s.sl.cache.filter (· != n), evicted := s.sl.evicted.filter (· != n)
      fills := s.sl.fills.filter (· != n) } }

/-- H of a context: the encrypted zero block (R178). -/
def SealCtx.h (k : SealCtx) : BitVec 128 := sm4Enc k.key 0

/-- The IV of an invocation (R181). -/
def SealCtx.iv (k : SealCtx) (inv : BitVec 64) : BitVec 96 := k.salt ++ inv

/-- The salt of its four bytes in address order. -/
def saltOf (bs : Bytes) : BitVec 32 := BitVec.ofNat 32 (beNat (slice bs 0 4))

/-- The context key derived from a slot's key (R180). -/
def ctxKey (slotKey : BitVec 128) (salt : BitVec 32) (nonce : BitVec 128) (serial : BitVec 64) : BitVec 128 :=
  blockOf (sm3First 16 (blockBytes slotKey ++ [0x53] ++ beBytes 4 salt.toNat ++ blockBytes nonce ++ leBytes 8 serial.toNat))

/-- Bytes 128 to 255 of a context record (R178). -/
def SealCtx.tailBytes (k : SealCtx) : Bytes :=
  blockBytes k.h ++ blockBytes k.ekJ0 ++ beBytes 4 k.salt.toNat ++ leBytes 8 k.inv.toNat ++ leBytes 4 k.blk.toNat ++
  blockBytes k.ghash ++ leBytes 8 k.aadLen ++ leBytes 8 k.dataLen ++ leBytes 8 k.declLen ++ leBytes 2 k.declAad ++
  [k.usage, k.st, k.dom, k.format] ++ leBytes 2 k.printer.toNat ++ leBytes 2 k.keySlot.toNat ++
  [BitVec.ofNat 8 (k.ordered.toNat + 2 * (k.usage == usTicket).toNat), 0] ++ blockBytes k.nonce ++
  leBytes 8 k.invCur.toNat ++ zeros 4

/-- A context read from its key and bytes 128 to 255. -/
def ctxOf (key : BitVec 128) (bs : Bytes) : SealCtx :=
  let b (k : Nat) : Byte := (slice bs (k - 128) 1).headD 0
  let f (k n : Nat) : Nat := leAt bs (k - 128) n
  let blk (k : Nat) : BitVec 128 := blockOf (slice bs (k - 128) 16)
  { key, ekJ0 := blk 144, salt := saltOf (slice bs 32 4), inv := BitVec.ofNat 64 (f 164 8), blk := BitVec.ofNat 32 (f 172 4)
    ghash := blk 176, aadLen := f 192 8, dataLen := f 200 8, declLen := f 208 8, declAad := f 216 2, usage := b 218
    st := b 219, dom := b 220, format := b 221, printer := BitVec.ofNat 16 (f 222 2), keySlot := BitVec.ofNat 12 (f 224 2)
    ordered := (b 226).getLsbD 0, inflight := false, nonce := blk 228, invCur := BitVec.ofNat 64 (f 244 8) }

/-- TICKET contexts that are open (R179, R199). -/
def State.pinned (s : State) : Nat := (s.sl.ctxs.filter fun p => p.2.usage == usTicket).length

/-! ## The cache (R179) -/

/-- A record takes a cache line, evicting one to the write-back buffer where all 4,096 are in use; where none can be evicted the
fill waits. -/
def State.cacheLine (n : Nat) (s : State) : State :=
  let cache := s.sl.cache
  if cache.length < 4096 then { s with sl := { s.sl with cache := n :: cache } }
  else match s.victim with
    | none => { s with sl := { s.sl with fills := s.sl.fills.filter (· != n) ++ [n] } }
    | some v =>
      { s with sl := { s.sl with cache := n :: cache.filter (· != v), evicted := s.sl.evicted ++ [v] } }

/-- A record fill completes after a miss (R179). -/
def State.fillDone (n : Nat) (s : State) : State :=
  if s.sl.fills.contains n then
    ({ s with sl := { s.sl with fills := s.sl.fills.filter (· != n) } }).cacheLine n
  else s

/-- A command uses a context's record: a hit moves its line to the front, a miss is counted and filled (R179, R199). -/
def State.cacheUse (n : Nat) (s : State) : State :=
  if s.sl.cache.contains n then { s with sl := { s.sl with cache := n :: s.sl.cache.filter (· != n) } }
  else if s.sl.fills.contains n then s.fillDone n
  else ({ s with sl := { s.sl with miss := satAdd s.sl.miss 1 } }).cacheLine n

/-- Blocks admitted to the pipeline are counted, J0 and the zero block of an open among them (R199, notes/assumptions/23.md). -/
def State.admitted (n : Nat) (s : State) : State :=
  { s with sl := { s.sl with blocks := s.sl.blocks + BitVec.ofNat 64 n } }

/-- The blocks of one command pass while nothing else asks at the seal admission arbiter: one slot each (R192). -/
def State.passed (u : Byte) (n : Nat) (s : State) : State := (s.grantsAtOnce 14 (standardRequester u) n).admitted n

/-! ## Messages -/

/-- A message starts: its invocation is consumed (R182), its lengths are declared, J0 passes the pipeline. -/
def SealCtx.start (declAad declLen : Nat) (k : SealCtx) : SealCtx :=
  { k with
    ekJ0 := sm4Enc k.key (gcmJ0 (k.iv k.inv)), inv := k.inv + 1, invCur := k.inv, blk := 2, ghash := 0, aadLen := 0
    dataLen := 0, declLen, declAad, st := ctMessage }

/-- Authenticated data pass GHASH, the last block padded. -/
def SealCtx.absorb (bs : Bytes) (k : SealCtx) : SealCtx :=
  { k with ghash := ghashBytes (ceilDiv bs.length 16) k.h k.ghash bs, aadLen := k.aadLen + bs.length }

/-- The key stream of a context's message from its next counter block on, over some bytes. -/
def SealCtx.crypt (bs : Bytes) (k : SealCtx) : Bytes :=
  gcmCrypt (ceilDiv bs.length 16) (sm4Keys k.key) (k.iv k.invCur) (k.blk - 1) bs

/-- Data of a message are sealed: the ciphertext, and the context after it. -/
def SealCtx.seals (bs : Bytes) (k : SealCtx) : SealCtx × Bytes :=
  let ct := k.crypt bs
  let n := ceilDiv bs.length 16
  ({ k with ghash := ghashBytes n k.h k.ghash ct, blk := k.blk + BitVec.ofNat 32 n, dataLen := k.dataLen + bs.length }, ct)

/-- The tag of a context's message (R193). -/
def SealCtx.tag (k : SealCtx) : Bytes := blockBytes (ghashBlock k.h k.ghash (gcmLenBlock k.aadLen k.dataLen) ^^^ k.ekJ0)

/-- A context becomes BROKEN and is counted (R199). -/
def State.breakCtx (n : Nat) (k : SealCtx) (s : State) : State :=
  ({ s with sl := { s.sl with broken := satAdd s.sl.broken 1 } }).setCtx n { k with st := ctBroken, inflight := false }

/-- A `STATUS_TAG_MISMATCH` completion is counted (R199). -/
def State.tagFailed (s : State) : State := { s with sl := { s.sl with tagFails := satAdd s.sl.tagFails 1 } }

/-! ## Runs: the commands whose blocks pass the pipeline one by one (R192, R193) -/

/-- A message's command that ends has its context as the next one finds it: IDLE after `SEAL_FINAL`. -/
def sealEnd (final : Bool) (k : SealCtx) : SealCtx := { k with st := if final then ctIdle else ctMessage, inflight := false }

/-- A run asks for a context whose record is not cached (R179). -/
def State.askFill (n : Nat) (s : State) : State :=
  if s.sl.cache.contains n then s.cacheUse n
  else if s.sl.fills.contains n then s
  else { s with sl := { s.sl with miss := satAdd s.sl.miss 1, fills := s.sl.fills ++ [n] } }

/-- A command whose blocks pass the pipeline one by one starts. -/
def State.startRun (r : SealRun) (k : SealCtx) (s : State) : State :=
  let s := (s.askFill r.ctx).setCtx r.ctx { k with inflight := true }
  let s : State := { s with sl := { s.sl with runs := s.sl.runs ++ [r] } }
  s.sync 14

/-- A run's next block: J0 at a message's start, then authenticated data, then data (R193); with the run after it, whether the block
is authenticated data, and its bytes. J0 passes as a block of none. -/
def SealRun.nextBlock (r : SealRun) : Option (SealRun × Bool × Bytes) :=
  if r.j0 then some ({ r with j0 := false, entered := true }, true, [])
  else if !r.aad.isEmpty then some ({ r with aad := r.aad.drop 16, entered := true }, true, r.aad.take 16)
  else if !r.data.isEmpty then some ({ r with data := r.data.drop 16, entered := true }, false, r.data.take 16)
  else none

/-- A run changed, by its context. -/
def State.setRun (r : SealRun) (s : State) : State :=
  { s with sl := { s.sl with runs := s.sl.runs.map fun q => if q.ctx = r.ctx then r else q } }

/-- A run ended, with what it left in the pipeline taken out. -/
def State.dropRun (ctx : Nat) (s : State) : State :=
  { s with sl := { s.sl with runs := s.sl.runs.filter (·.ctx != ctx), pipe := s.sl.pipe.filter (·.1 != ctx) } }

/-- The run of a context. -/
def State.runOf (s : State) (ctx : Nat) : Option SealRun := s.sl.runs.find? (·.ctx == ctx)

/-- Nothing of a run is left outside or inside the pipeline. -/
def State.drained (s : State) (r : SealRun) : Bool :=
  !r.j0 && r.aad.isEmpty && r.data.isEmpty && !(s.sl.pipe.any (·.1 == r.ctx))

/-- A hold buffer in use or released (R194, R199). -/
def State.setHold (k : Nat) (b : Bool) (s : State) : State := { s with sl := { s.sl with holdBusy := setBit s.sl.holdBusy k b } }

/-- What a message that is not kept in its context leaves there: nothing. -/
def SealCtx.rested (k : SealCtx) : SealCtx :=
  { k with inflight := false, ghash := 0, aadLen := 0, dataLen := 0, blk := 0, ekJ0 := 0, invCur := 0 }

/-- The tag of a run is formed and, for `OPEN_VERIFY`, compared; the command ends, or the `ISSUE` goes on (R20, R193 to R195). -/
def State.formTag (r : SealRun) (k : SealCtx) (s : State) : State :=
  let s := s.dropRun r.ctx
  match r.kind with
  | .data => (s.setCtx r.ctx (sealEnd false k)).postReply r.h
  | .final => ((s.post (.hostWrite r.outPtr k.tag)).setCtx r.ctx (sealEnd true k)).postReply r.h
  | .opens inv tag buffer plain =>
    let s := s.setHold buffer false
    if k.tag = tag then
      (s.setCtx r.ctx { k.rested with inv := if k.ordered then inv else k.inv }).postReply
        { r.h with write := r.h.write.map fun w => (w.1, plain.take w.2.length) }
    else ((s.setCtx r.ctx k.rested).tagFailed).postReply (r.h.fail stTagMismatch r.h.cycles.toNat)
  | .ticket i cyc => (s.setCtx r.ctx k.rested).completeIssue i (k.tag.take (if i.mode = 2 then 16 else 8)) cyc r.h

/-- A block leaves the pipeline: GHASH absorbs it, and ciphertext goes to host memory or plaintext to its hold buffer (R193). -/
def State.blockOut (s : State) : State :=
  match s.sl.pipe with
  | [] => s
  | (n, aad, bs) :: rest =>
    let s := { s with sl := { s.sl with pipe := rest } }
    match s.runOf n, s.sealCtx n with
    | some r, some k =>
      if aad then s.setCtx n (k.absorb bs)
      else
        match r.kind with
        | .opens inv tag b plain =>
          let pt := k.crypt bs
          let k := { k.absorb bs with blk := k.blk + 1, dataLen := k.dataLen + bs.length, aadLen := k.aadLen }
          (s.setCtx n k).setRun { r with kind := .opens inv tag b (plain ++ pt) }
        | _ =>
          let (k, ct) := k.seals bs
          (((s.post (.hostWrite r.outPtr ct)).setCtx n k).setRun { r with outPtr := r.outPtr + BitVec.ofNat 64 ct.length })
    | _, _ => s

/-- A `SEAL_DATA` whose last block has left is answered (R193). -/
def State.dataDone (n : Nat) (s : State) : State :=
  match s.runOf n, s.sealCtx n with
  | some r, some k => if r.kind == .data && s.drained r then s.formTag r k else s
  | _, _ => s

/-- A run's next block enters the pipeline; the block after it asks behind the others of its requester (R192). -/
def State.admitBlock (r : SealRun) (s : State) : State :=
  match r.nextBlock with
  | none => s
  | some (r', aad, bs) =>
    let s : State := { s with sl := { s.sl with runs := s.sl.runs.filter (·.ctx != r.ctx) ++ [r']
                                                pipe := s.sl.pipe ++ [(r.ctx, aad, bs)] } }
    (s.admitted 1).sync 14

/-- A run goes on to its end at once: its blocks enter and leave, and its tag is formed (R191: the next command of its context
waits for it). -/
def State.drainRun : Nat → Nat → State → State
  | 0, _, s => s
  | fuel + 1, n, s =>
    match s.runOf n, s.sealCtx n with
    | some r, some k =>
      if r.nextBlock.isSome then State.drainRun fuel n ((s.grantOwn 14 (standardRequester r.h.unit)).admitBlock r)
      else if s.sl.pipe.any (·.1 == n) then State.drainRun fuel n s.blockOut
      else s.formTag r k
    | _, _ => s

/-- The blocks a run may still take to its end. -/
def State.drainFuel (s : State) (n : Nat) : Nat :=
  match s.runOf n with
  | some r => 2 * (r.aad.length + r.data.length) + 2 * s.sl.pipe.length + 6
  | none => 0

/-- The commands of a context in flight have ended, with the fill they asked for (R191, R198). -/
def State.settleCtx (n : Nat) (s : State) : State := if (s.runOf n).isNone then s else (s.fillDone n).drainRun (s.drainFuel n) n

/-- The command of a run fails: an `ISSUE` under R80, with the steps completed up to the failure, any other at once. -/
def State.failRun (r : SealRun) (st : BitVec 16) (s : State) : State :=
  match r.kind with
  | .ticket i cyc => s.failIssue i st (cyc - 60 - ceilDiv r.aad.length 16) r.h
  | _ => s.postReply (r.h.fail st r.h.cycles.toNat)

/-- A run is cut: a SEAL context with a block of it entered becomes BROKEN, any other is as the command found it, a hold buffer is
zeroed, and the command fails (R198). -/
def State.cutRun (r : SealRun) (st : BitVec 16) (breaks : Bool) (s : State) : State :=
  let s := s.dropRun r.ctx
  let s : State := { s with sl := { s.sl with fills := s.sl.fills.filter (· != r.ctx) } }
  let s := match r.kind with
    | .data | .final => match s.sealCtx r.ctx with
      | some k => if breaks then s.breakCtx r.ctx k else s.setCtx r.ctx { r.was with inflight := false }
      | none => s
    | .opens _ _ b _ => (s.setHold b false).setCtx r.ctx { r.was with inflight := false }
    | .ticket .. => s.setCtx r.ctx { r.was with inflight := false }
  (s.failRun r st).sync 14

/-! ## Tickets (R181, R183) -/

/-- The IV of a ticket under a TICKET context: the salt, then node, pool and serial of the header (R181). -/
def SealCtx.ticketIv (k : SealCtx) (header : Bytes) : BitVec 96 :=
  k.salt ++ BitVec.ofNat 64 (beNat (slice header 23 1 ++ (slice header 10 2).reverse ++ (slice header 12 5).reverse))

/-- The GMAC tag of header ‖ body under a TICKET context: 16 bytes in mode 2, 8 in mode 3. -/
def SealCtx.gmac (k : SealCtx) (mode : Nat) (header body : Bytes) : Bytes :=
  (gcmTag k.key (k.ticketIv header) (header ++ body) []).take (if mode = 2 then 16 else 8)

/-- A TICKET context permits a ticket mode (R176). -/
def SealCtx.permits (k : SealCtx) (mode : Nat) : Bool := k.usage == usTicket && k.format.getLsbD (mode - 2)

/-! ## Firmware's wrapped saves (R196, R218) -/

/-- The wrap key of a domain's context saves, while its DMK is present. -/
def State.saveKey (s : State) (d : Dom) : Option (BitVec 128) :=
  (s.dmk d).map fun m => wrapKey (digestBytes m) (d.setWidth 16) (s.gen d.toNat).gen

/-- S_d of every domain set to its F_d, at start-up (R197, R198). -/
def State.seatSaves (s : State) : State :=
  { s with sl := { s.sl with sd := (s.ks.gens.filter fun p => decide (p.1 < 256)).map fun p => (p.1, p.2.floor) } }

/-- S_d: the restore numbers a domain's wrapped saves have taken; F_d as start-up found it where none has been made since (R197). -/
def State.saves (s : State) (d : Dom) : BitVec 64 := s.sl.sd.get d.toNat 0

end Sys2Proof.Machine
end

