-- ==== Sys2Proof/Machine/Issue.lean ====
section
/-! DEFINITION. `ISSUE` (R20, R77 to R80). -/

namespace Sys2Proof.Machine

/-- The key of an SM2 `ISSUE` as its path needs it: the curve, the scalar and the point with its Z. -/
structure SignKey where
  cv : Curve
  num : Nat
  d : Nat
  qx : Nat
  qy : Nat
  z : Digest
  deriving DecidableEq, Repr

/-- The signing key of a slot; none while its curve is not valid (R168). -/
def signKey (s : State) (k : Slot) : Option SignKey :=
  (s.curve k.attr.curve.toNat).map fun cv =>
    let pt := k.point cv.w
    { cv, num := k.attr.curve.toNat, d := k.scalar cv.w, qx := pt.1, qy := pt.2, z := k.z }

/-- What seals a ticket: an SM2 key or a TICKET context. -/
inductive TicketSeal where
  | sm2 (k : SignKey)
  | gmac (n : Nat) (k : SealCtx)
  deriving DecidableEq, Repr

/-- Check 1 of R79: the key slot or the context permits the seal mode. -/
def State.ticketSeal (p : Packet) (s : State) : State × Except (BitVec 16) TicketSeal :=
  let n := hIndex p.handleB
  if p.byteAt 32 = 1 then
    match s.useSlot n useSign with
    | (s, .error e) => (s, .error e)
    | (s, .ok k) => match signKey s k with
      | none => (s, .error stUsageDenied)
      | some k => (s, .ok (.sm2 k))
  else
    let s := s.settleCtx n
    match s.sealCtx n with
    | none => (s, .error stBadHandle)
    | some k => (s, if k.st = ctBroken then .error stContextBroken else if k.permits (p.byteAt 32).toNat then .ok (.gmac n k) else .error stUsageDenied)

/-- The lock under which a LOCKED packet issues: that of its queue and epoch on the pool (R45, R79). -/
def Ctx.ownLock (x : Ctx) (s : State) : Option Lock :=
  (s.lock x.pool).filter fun k => k.q == x.c.q && k.epoch == x.epoch

/-- Checks 2 to 7 of R79. -/
def issueRefusal (x : Ctx) (s : State) (p : Pool) : Option (BitVec 16) :=
  let locked := x.c.pkt.locked
  let lock := s.lock x.pool
  firstFail
    [(s.isOpen p, stPoolFrozen),
     (locked || !p.exclusive || (x.ownLock s).isSome || lock.isNone, stLockHeld),
     (s.room 1, stBackpressure), (!s.supplyLow, stSupplyLow),
     (if locked then lock.any fun k => decide (1 ≤ k.units) else decide (1 ≤ p.a), stPoolEmpty),
     (locked || decide (p.next ≤ p.limit), stSerialExhausted)]

/-- A unit and a serial are reserved: A → R and the pool's next serial, or a unit of the lock and the run's next serial (R69,
R76, R85). -/
def State.reserve (x : Ctx) (p : Pool) (s : State) : State × Option Nat :=
  if x.c.pkt.locked then
    match s.lock x.pool with
    | none => (s, none)
    | some k =>
      ({ s with led := { s.led with
          locks := s.led.locks.put x.pool.toNat { k with units := k.units - 1, next := k.next + 1 } } }, some k.next)
  else
    match s.change x.pool { a := -1, r := 1 } (fun q => { q with next := p.next + 1 }) with
    | (s, true) => (s, some p.next)
    | (s, false) => (s, none)

/-- The fixed cycles of an `ISSUE` (R20, R75). -/
def issueCycles (t : TicketSeal) (bodyLen : Nat) : Nat :=
  match t with
  | .sm2 k => 1997 + lenSign k.num k.cv.w + lenVerify k.num k.cv.w + 17 * ceilDiv (65 + bodyLen) 64
  | .gmac _ _ => 2035 + ceilDiv (24 + bodyLen) 16

/-- Steps 4 to 10: the header, the signature or tag, and the end of the command. R77 and R78 give a signature of 64 bytes; for a key on
a loaded curve of 384 or 512 bits the signature has that curve's length (DESIGN CHOICE, notes/assumptions/77.md). -/
def State.issueSeal (x : Ctx) (t : TicketSeal) (r : IssueRun) (body : Bytes) (s : State) : State :=
  let cyc := issueCycles t body.length + x.c.waits.total
  let bytes := match t with | .sm2 k => 2 * k.cv.bytes | .gmac _ _ => if r.mode = 2 then 16 else 8
  let h := x.held 0 (issueCycles t body.length) (inlAt 0 r.serial.toNat) (zeros (24 + bytes))
  match t with
  | .gmac n k =>
    if x.c.async || !s.quiet 14 then
      s.startRun
        { ctx := n, kind := .ticket r cyc, was := k, j0 := true, aad := r.header ++ body, data := [], outPtr := 0, entered := false, h }
        { k with ekJ0 := sm4Enc k.key (gcmJ0 (k.ticketIv r.header)), blk := 2, ghash := 0, aadLen := 0, dataLen := 0 }
    else
      ((s.cacheUse n).passed x.unit (1 + ceilDiv (24 + body.length) 16)).completeIssue r (k.gmac r.mode.toNat r.header body) cyc h
  | .sm2 k =>
    (s.hashed (ceilDiv (65 + body.length) 64)).runJob
      { prog := .sign k.cv (sm2E k.z (r.header ++ body)) k.d 0 k.qx k.qy (lenVerify k.num k.cv.w)
        len := lenSign k.num k.cv.w, what := .issue r, h, cyc, glitch := x.c.glitch, yielded := false } x.c.async

/-- `ISSUE` once the body is in. -/
def issueWith (x : Ctx) (s : State) (body : Bytes) : Out :=
  let p := x.c.pkt
  let n := x.pool
  let refuse (s : State) (st : BitVec 16) : Out := .stop s st 31
  if p.locked && (x.ownLock s).isNone then refuse s stBadHandle
  else
    match s.ticketSeal p with
    | (s, .error e) => refuse s e
    | (s, .ok t) =>
      match s.pool n with
      | none => refuse s stBadHandle
      | some pool =>
        match issueRefusal x s pool with
        | some st => refuse (if st = stBackpressure then s.backpressure else s) st
        | none =>
          match s.reserve x pool with
          | (s, none) => refuse s stConservation
          | (s, some serial) =>
            let sn : Serial := BitVec.ofNat 40 serial
            let r : IssueRun :=
              { pool := n, serial := sn, locked := p.locked, header := ticketHeader s (p.byteAt 32) n sn (p.field 34 2)
                admitLimit := p.byteAt 33, mode := p.byteAt 32, time := s.gctl.time }
            { s := (s.pledge 1).issueSeal x t r body, cyc := 0, when_ := .later }

/-- `ISSUE` (R20). -/
def issueBody (x : Ctx) (s : State) : Out := withData x s (issueWith x s)

/-- `ISSUE`. -/
def execIssue (c : Cmd) (s : State) : Host.Outcome State Fault Refusal := .next (runOp 0x0203 none issueBody c s)

end Sys2Proof.Machine
end

