-- ==== Sys2Proof/Machine/Spindle.lean ====
section
/-! DEFINITION. The spindle opcodes, class 0x05 (R163, R166 to R172). -/

namespace Sys2Proof.Machine

/-! ## SIGN and VERIFY (R170, R171) -/

/-- The digest e: SM3 (Z ‖ M) in mode 0, the 32 bytes supplied in mode 1. -/
def digestOf (mode : Byte) (z : Digest) (m : Bytes) : Nat := if mode = 0 then sm2E z m else beNat (slice m 0 32)

/-- SM3 blocks over Z ‖ M: ⌈(41 + length) ÷ 64⌉ in mode 0, 0 in mode 1. -/
def digestBlocks (mode : Byte) (n : Nat) : Nat := if mode = 0 then ceilDiv (41 + n) 64 else 0

/-- `SIGN`. -/
def signBody (x : Ctx) (s : State) : Out :=
  let mode := x.c.pkt.byteAt 32
  withData x s fun m =>
    match s.useSlot (hIndex x.c.pkt.handleA) (if mode = 0 then useSign else useSignDigest) with
    | (s, .error e) => x.refused s e
    | (s, .ok slot) =>
      match signKey s slot with
      | none => x.refused s stUsageDenied
      | some k =>
        let lv := lenVerify k.num k.cv.w
        let ls := lenSign k.num k.cv.w
        let cyc := 120 + 17 * digestBlocks mode m.length + ls + lv
        let h := x.held 0 cyc 0 (zeros (2 * k.cv.bytes))
        { s := (s.hashed (digestBlocks mode m.length)).runJob
            { prog := .sign k.cv (digestOf mode k.z m) k.d 0 k.qx k.qy lv, len := ls, what := .sign, h
              cyc := cyc + x.c.waits.total, glitch := x.c.glitch, yielded := false } x.c.async
          cyc, when_ := .later }

/-- `VERIFY`. -/
def verifyBody (x : Ctx) (s : State) : Out :=
  let mode := x.c.pkt.byteAt 32
  withData x s fun bs =>
    match s.useSlot (hIndex x.c.pkt.handleA) (if mode = 0 then useVerify else useVerifyDigest) with
    | (s, .error e) => x.refused s e
    | (s, .ok slot) =>
      match signKey s slot with
      | none => x.refused s stUsageDenied
      | some k =>
        let g := 2 * k.cv.bytes
        let m := bs.drop g
        let lv := lenVerify k.num k.cv.w
        let cyc := if mode = 0 then 28 + 17 * digestBlocks mode m.length + lv else 22 + lv
        let h := x.held 0 cyc 0 []
        let rs := pointAt k.cv.w bs
        { s := (s.hashed (digestBlocks mode m.length)).runJob
            { prog := .verify k.cv (digestOf mode k.z m) rs.1 rs.2 k.qx k.qy none, len := lv, what := .verify, h
              cyc := cyc + x.c.waits.total, glitch := 0, yielded := false } x.c.async
          cyc, when_ := .later }

/-! ## PUBKEY_LOAD (R166) -/

/-- The attributes of a loaded public key (R220, R239). -/
def pubAttr (usage : BitVec 16) (curve : Byte) (dom : Dom) (w x y : Nat) : KeyAttr :=
  { typ := 6, usage, curve, dom, parent := 0xFFFF, parentGen := 0, lineage := 0, lineageGen := 0, origin := 4
    kcv := kcvOf 6 (pointBytes w x y) }

/-- `PUBKEY_LOAD`. -/
def pubkeyLoadBody (x : Ctx) (s : State) : Out :=
  let p := x.c.pkt
  let num := (p.byteAt 32).toNat
  let usage : BitVec 16 := BitVec.ofNat 16 (p.field 34 2)
  match s.curve num with
  | none => x.refused s stUsageDenied
  | some cv =>
    withData x s fun bs =>
      let pt := pointAt cv.w bs
        let s := s.usedSpindle { signing := false, len := lenOnCurve num cv.w, key := 0 }
        if !onCurve cv pt.1 pt.2 then x.refused s stBadParameter
        else match s.freeSlot x.keys with
          | none => x.refused s stNoFreeSlot
          | some n =>
            let id := bs.drop (2 * cv.bytes)
            let z := sm2Z cv id pt.1 pt.2
            let attr := pubAttr usage (p.byteAt 32) x.dom cv.w pt.1 pt.2
            let s := s.putSlot n (s.newSlot .valid 0 (pointOf cv.w pt.1 pt.2) z attr)
            let kz := ceilDiv (11 + id.length + 6 * cv.bytes) 64
            { s := s.hashed kz, cyc := 210 + lenOnCurve num cv.w + 17 * kz
              inl := inlAt 0 (0x02000000 + n) ||| inlAt 4 (leNat ((digestBytes z).take 4)) }

/-! ## BN_JOB and BN_ABORT (R160 to R163, R172) -/

/-- The operands of a job: big-endian strings of the width, in order. -/
def bnOps (w n : Nat) (bs : Bytes) : List Nat := (List.range n).map fun k => beNat (slice bs (k * (w / 8)) (w / 8))

/-- `BN_JOB`. -/
def bnJobBody (x : Ctx) (s : State) : Out :=
  let p := x.c.pkt
  let code := (p.byteAt 32).toNat
  let w := bnWidth p
  let num := if code < 0x10 then 0 else (p.byteAt 34).toNat
  let cv? := if code < 0x10 then some curve0 else (s.curve num).filter (·.w == w)
  match cv? with
  | none => x.refused s stBadParameter
  | some cv =>
    withData x s fun bs =>
      let len := lenBn code w num
      let bytes := if code = 0x14 then 0 else if code < 0x10 then w / 8 else 2 * (w / 8)
      let h := x.held 0 (88 + len) 0 (zeros bytes)
      { s := s.runJob
          { prog := .bn (p.byteAt 32) w cv (bnOps w (bnOperands code) bs), len
            what := .bn (BitVec.ofNat 12 (hIndex p.handleA)), h, cyc := 88 + len + x.c.waits.total, glitch := 0
            yielded := false } x.c.async
        cyc := 88 + len, when_ := .later }

/-- A job is the open one of a number. -/
def Job.isBn (num : BitVec 12) (j : Job) : Bool := j.what == .bn num

/-- A running `BN_JOB` is stopped and its spindle cleared (R163). -/
def State.abortBn (n : Nat) (j : Job) (s : State) : State :=
  let p := s.spindle n
  let s := s.setSpindle n { p with aborts := satAdd p.aborts 1 }
  (s.postReply (j.h.fail stJobAborted j.cyc)).freeSpindle n

/-- `BN_ABORT`. -/
def bnAbortBody (x : Ctx) (s : State) : Out :=
  let num : BitVec 12 := BitVec.ofNat 12 (hIndex x.c.pkt.handleA)
  match s.spn.verifyParked.find? (Job.isBn num) with
  | some j =>
    let s := { s with spn := { s.spn with verifyParked := s.spn.verifyParked.filter (!Job.isBn num ·) } }
    { s := s.postReply (j.h.fail stJobAborted (j.cyc - j.len)), cyc := 68, inl := inlAt 0 1 }
  | none =>
    match lowestFrom (fun n => (s.spindle n).job.any (Job.isBn num)) 32 8 with
    | some n =>
      let p := s.spindle n
      match p.job, p.halted with
      | some j, none => { s := s.abortBn n j, cyc := 204, inl := inlAt 0 1 }
      | _, _ => { s, cyc := 68, inl := 0 }
    | none => x.refused s stBadHandle

/-! ## CURVE_LOAD (R167 to R169) -/

/-- A field of a curve record: a parameter right-aligned in 64 bytes. -/
def curveField (bs : Bytes) (k : Nat) : Nat := beNat (slice bs k 64)

/-- The curve that a record describes. -/
def curveOf (bs : Bytes) : Curve :=
  { w := leAt bs 2 2, p := curveField bs 8, a := curveField bs 72, b := curveField bs 136, gx := curveField bs 200
    gy := curveField bs 264, n := curveField bs 328 }

/-- Check 1 of R168. -/
def curveStructure (slot : Byte) (bs : Bytes) (cv : Curve) : Bool :=
  leAt bs 0 1 == 1 && leAt bs 1 1 == slot.toNat && decide (1 ≤ leAt bs 1 1 ∧ leAt bs 1 1 ≤ 4) &&
  (cv.w == 256 || cv.w == 384 || cv.w == 512) &&
  ([cv.p, cv.a, cv.b, cv.gx, cv.gy, cv.n].all fun v => decide (v < 2 ^ cv.w)) && properMod cv.w cv.p &&
  ([cv.a, cv.b, cv.gx, cv.gy].all fun v => decide (v < cv.p)) && decide (1 < cv.n)

/-- The Miller–Rabin base of a round, from the entropy source (R168). -/
def mrBase (draws k p : Nat) : Nat :=
  2 + ((Config.entropy (draws + 2 * k)).toNat * 2 ^ 256 + (Config.entropy (draws + 2 * k + 1)).toNat) % (p - 3)

/-- The number of the first check of R168 that fails; 0 where all pass. -/
def curveCheck (draws : Nat) (slot : Byte) (bs : Bytes) : Nat :=
  let cv := curveOf bs
  if !curveStructure slot bs cv then 1
  else if (4 * cv.a ^ 3 + 27 * cv.b ^ 2) % cv.p = 0 then 2
  else if !(List.range 64).all fun k => millerRabin cv.w cv.p (mrBase draws k cv.p) then 3
  else if !onCurve cv cv.gx cv.gy then 4
  else if ecOut cv (ecMul cv cv.n cv.g) ≠ (0, 0) then 5
  else 0

/-- The configuration record of a curve slot (R306). -/
def curveKey (slot : Nat) : Nat := 0x00010000 + slot

/-- The occupancy of the check of a record whose width may not be one: that of the nearest width the program has. -/
def curveCheckLen (w : Nat) : Nat := if w = 384 ∨ w = 512 then lenCurveCheck w else lenCurveCheck 256

/-- `CURVE_LOAD` op 0. -/
def curveLoadLoadBody (x : Ctx) (s : State) : Out :=
  let slot := x.c.pkt.byteAt 33
  if (s.spn.curves.get slot.toNat { cv := curve0, valid := false }).valid then x.refused s stBadParameter
  else withData x s fun bs =>
    let cyc := 1232 + curveCheckLen (leAt bs 2 2)
    let n := curveCheck s.ks.draws slot bs
    let s := (s.drawn 128).usedSpindle { signing := false, len := curveCheckLen (leAt bs 2 2), key := 0 }
    if n ≠ 0 then { s, status := stBadParameter, cyc, inl := inlAt 0 n }
    else match s.nvmStatus with
      | some st => x.refused s st
      | none =>
        let s := s.flashNow (configReq (curveKey slot.toNat) bs)
        { s := { s with spn := { s.spn with curves := s.spn.curves.put slot.toNat { cv := curveOf bs, valid := true } } }, cyc }

/-- `CURVE_LOAD` op 1. -/
def curveLoadClearBody (x : Ctx) (s : State) : Out :=
  let slot := (x.c.pkt.byteAt 33).toNat
  match s.nvmStatus with
  | some st => x.refused s st
  | none =>
    let s := s.flashNow (configReq (curveKey slot) [])
    { s := { s with spn := { s.spn with curves := s.spn.curves.del slot } }, cyc := 240 }

/-! ## The rows -/

/-- `SIGN`. -/
def execSign (c : Cmd) (s : State) : Host.Outcome State Fault Refusal := .next (runOp 0x0501 none signBody c s)

/-- `VERIFY`. -/
def execVerify (c : Cmd) (s : State) : Host.Outcome State Fault Refusal := .next (runOp 0x0502 none verifyBody c s)

/-- `PUBKEY_LOAD`. -/
def execPubkeyLoad (c : Cmd) (s : State) : Host.Outcome State Fault Refusal := .next (runOp 0x0503 none (spindled pubkeyLoadBody) c s)

/-- `BN_JOB`. -/
def execBnJob (c : Cmd) (s : State) : Host.Outcome State Fault Refusal := .next (runOp 0x0504 none bnJobBody c s)

/-- `BN_ABORT`. -/
def execBnAbort (c : Cmd) (s : State) : Host.Outcome State Fault Refusal := .next (runOp 0x0505 none bnAbortBody c s)

/-- `CURVE_LOAD` op 0. -/
def execCurveLoadLoad (c : Cmd) (s : State) : Host.Outcome State Fault Refusal :=
  .next (runOp 0x0506 (some 0) (spindled curveLoadLoadBody) c s)

/-- `CURVE_LOAD` op 1. -/
def execCurveLoadClear (c : Cmd) (s : State) : Host.Outcome State Fault Refusal :=
  .next (runOp 0x0506 (some 1) curveLoadClearBody c s)

end Sys2Proof.Machine
end

