-- ==== Sys2Proof/Machine/SpindleIsa.lean ====
section
/-! DEFINITION. The spindle's instruction set (R146 to R151): each row runs one instruction of the program of a spindle at its
PC, on the lane that the spindle works on. -/

namespace Sys2Proof.Machine

/-! ## The sequencer -/

/-- A word of operand memory. -/
def Lane.word (l : Lane) (k : BitVec 7) : BitVec 256 := l.w.toList.getD k.toNat 0

/-- A word written. -/
def Lane.put (k : BitVec 7) (v : BitVec 256) (l : Lane) : Lane := { l with w := l.w.setIfInBounds k.toNat v }

/-- A loop counter and an index register by number, read and set. -/
def Lane.lcAt (l : Lane) (n : BitVec 2) : BitVec 16 := l.lc.toList.getD n.toNat 0
def Lane.ixAt (l : Lane) (n : BitVec 2) : BitVec 7 := l.ix.toList.getD n.toNat 0
def Lane.setLc (n : BitVec 2) (v : BitVec 16) (l : Lane) : Lane := { l with lc := l.lc.setIfInBounds n.toNat v }
def Lane.setIx (n : BitVec 2) (v : BitVec 7) (l : Lane) : Lane := { l with ix := l.ix.setIfInBounds n.toNat v }

/-- The word that A names in format A: M[4] adds IX[M[3:2]] (R147). -/
def Lane.srcA (l : Lane) (a : BitVec 7) (m : BitVec 5) : BitVec 256 :=
  l.word (if m.getLsbD 4 then a + l.ixAt (m.extractLsb' 2 2) else a)

/-- The sequencer goes on to the next address; none past 0xFFF (R151). -/
def Lane.next (l : Lane) : Option Lane := if l.pc = 0xFFF then none else some { l with pc := l.pc + 1 }

/-- The time an instruction takes: it issues when the multiply-accumulate unit is idle, where it uses it, and keeps that unit
busy for `busy` cycles (R148). -/
def Lane.timed (usesMac : Bool) (cyc busy : Nat) (l : Lane) : Lane :=
  let start := if usesMac then max l.elapsed l.macFree else l.elapsed
  { l with elapsed := start + cyc, macFree := if busy = 0 then l.macFree else start + busy }

/-- A spindle may fetch from its PC: not from 0xC00 up on a signing spindle (R151). -/
def fetchOk (n : Nat) (l : Lane) : Bool := decide (8 ≤ n) || decide (l.pc.toNat < 0xC00)

/-- A job faults: it is cleared, its command completes with `STATUS_JOB_ABORTED`, and the spindle leaves for its test (R151,
R157; the cause code: notes/assumptions/22.md). -/
def State.faultJob (n : Nat) (s : State) : State :=
  let p := s.spindle n
  let s := match p.job with
    | some j => s.failJob j stJobAborted j.early
    | none => s
  (s.toTest n causeVas).freeSpindle n

/-- One instruction of a spindle: `f` gives the spindle after it, or none where it faults. A program that has halted runs
nothing more. -/
def runIsa (sp : BitVec 6) (f : Spindle → Option Spindle) (s : State) : Host.Outcome State Fault Refusal :=
  let n := sp.toNat
  if 40 ≤ n then .fault .noSuchUnit
  else
    let p := s.spindle n
    if p.halted.isSome then .next s
    else if !fetchOk n p.lane then .next (s.faultJob n)
    else match f p with
      | some p' => .next (s.setSpindle n p')
      | none => .next (s.faultJob n)

/-- An instruction that changes the lane alone and goes on to the next address. -/
def laneOp (usesMac : Bool) (busy : Nat) (g : Lane → Lane) (p : Spindle) : Option Spindle :=
  ((g (p.lane.timed usesMac 1 busy)).next).map fun l => { p with lane := l }

/-- A word instruction of format A without flags. -/
def wordOp (d a b : BitVec 7) (m : BitVec 5) (g : BitVec 256 → BitVec 256 → BitVec 256) (p : Spindle) : Option Spindle :=
  laneOp false 0 (fun l => l.put d (g (l.srcA a m) (l.word b))) p

/-- An arithmetic instruction that writes D and C. -/
def carryOp (d a b : BitVec 7) (m : BitVec 5) (g : BitVec 256 → BitVec 256 → Bool → BitVec 256 × Bool) (p : Spindle) :
    Option Spindle :=
  laneOp false 0
    (fun l =>
      let r := g (l.srcA a m) (l.word b) l.c
      { l.put d r.1 with c := r.2 }) p

/-- The 64-bit word of B that M[1:0] selects (R148). -/
def limb (b : BitVec 256) (m : BitVec 5) : BitVec 64 := b.extractLsb' (64 * (m.extractLsb' 0 2).toNat) 64

/-- A product in the accumulator's width. -/
def macProduct (a : BitVec 256) (b : Nat) : BitVec 576 := BitVec.ofNat 576 (a.toNat * b)

/-! ## The rows -/

/-- `NOP`. -/
def execSpindleNop (sp : BitVec 6) (_d _a _b : BitVec 7) (_m : BitVec 5) (s : State) : Host.Outcome State Fault Refusal :=
  runIsa sp (laneOp false 0 id) s

/-- `ADD`. -/
def execAdd (sp : BitVec 6) (d a b : BitVec 7) (m : BitVec 5) (s : State) : Host.Outcome State Fault Refusal :=
  runIsa sp (carryOp d a b m fun x y _ => addFlags x y false) s

/-- `ADDC`. -/
def execAddc (sp : BitVec 6) (d a b : BitVec 7) (m : BitVec 5) (s : State) : Host.Outcome State Fault Refusal :=
  runIsa sp (carryOp d a b m addFlags) s

/-- `SUB`. -/
def execSub (sp : BitVec 6) (d a b : BitVec 7) (m : BitVec 5) (s : State) : Host.Outcome State Fault Refusal :=
  runIsa sp (carryOp d a b m fun x y _ => subFlags x y false) s

/-- `SUBC`. -/
def execSubc (sp : BitVec 6) (d a b : BitVec 7) (m : BitVec 5) (s : State) : Host.Outcome State Fault Refusal :=
  runIsa sp (carryOp d a b m subFlags) s

/-- `CMP`. -/
def execCmp (sp : BitVec 6) (_d a b : BitVec 7) (m : BitVec 5) (s : State) : Host.Outcome State Fault Refusal :=
  runIsa sp
    (laneOp false 0 fun l =>
      let r := cmpFlags (l.srcA a m) (l.word b)
      { l with c := r.1, e := r.2 }) s

/-- `SEL`. -/
def execSel (sp : BitVec 6) (d a b : BitVec 7) (m : BitVec 5) (s : State) : Host.Outcome State Fault Refusal :=
  runIsa sp (laneOp false 0 fun l => l.put d (if selFlag m l.c l.e then l.srcA a m else l.word b)) s

/-- `AND`. -/
def execAnd (sp : BitVec 6) (d a b : BitVec 7) (m : BitVec 5) (s : State) : Host.Outcome State Fault Refusal :=
  runIsa sp (wordOp d a b m (· &&& ·)) s

/-- `OR`. -/
def execOr (sp : BitVec 6) (d a b : BitVec 7) (m : BitVec 5) (s : State) : Host.Outcome State Fault Refusal :=
  runIsa sp (wordOp d a b m (· ||| ·)) s

/-- `XOR`. -/
def execXor (sp : BitVec 6) (d a b : BitVec 7) (m : BitVec 5) (s : State) : Host.Outcome State Fault Refusal :=
  runIsa sp (wordOp d a b m (· ^^^ ·)) s

/-- `FSR`: bits [s + 255 : s] of B ‖ A, with s = 32 × M[2:0]; M[4] is ignored (R147). -/
def execFsr (sp : BitVec 6) (d a b : BitVec 7) (m : BitVec 5) (s : State) : Host.Outcome State Fault Refusal :=
  runIsa sp
    (laneOp false 0 fun l => l.put d ((l.word b ++ l.word a).extractLsb' (32 * (m.extractLsb' 0 3).toNat) 256)) s

/-- `BIT`: E = bit (LC[M[1:0]] mod 256) of A. -/
def execBit (sp : BitVec 6) (_d a _b : BitVec 7) (m : BitVec 5) (s : State) : Host.Outcome State Fault Refusal :=
  runIsa sp
    (laneOp false 0 fun l =>
      { l with e := (l.srcA a m).getLsbD ((l.lcAt (m.extractLsb' 0 2)).toNat % 256) }) s

/-- `MOV`. -/
def execMov (sp : BitVec 6) (d a b : BitVec 7) (m : BitVec 5) (s : State) : Host.Outcome State Fault Refusal :=
  runIsa sp (wordOp d a b m fun x _ => x) s

/-- `CLR`. -/
def execClr (sp : BitVec 6) (d _a _b : BitVec 7) (_m : BitVec 5) (s : State) : Host.Outcome State Fault Refusal :=
  runIsa sp (laneOp false 0 (Lane.put d 0)) s

/-- `LDI`. -/
def execLdi (sp : BitVec 6) (d : BitVec 7) (imm : BitVec 12) (s : State) : Host.Outcome State Fault Refusal :=
  runIsa sp (laneOp false 0 (Lane.put d (imm.setWidth 256))) s

/-- `OUTW`: OUT[M[1:0]] = A. -/
def execOutw (sp : BitVec 6) (_d a _b : BitVec 7) (m : BitVec 5) (s : State) : Host.Outcome State Fault Refusal :=
  runIsa sp
    (fun p => laneOp false 0 id { p with out := p.out.setIfInBounds (m.extractLsb' 0 2).toNat (p.lane.srcA a m) }) s

/-- `MUL`. -/
def execMul (sp : BitVec 6) (_d a b : BitVec 7) (m : BitVec 5) (s : State) : Host.Outcome State Fault Refusal :=
  runIsa sp (laneOp true 4 fun l => { l with acc := macProduct (l.srcA a m) (l.word b).toNat }) s

/-- `MAC`. -/
def execMac (sp : BitVec 6) (_d a b : BitVec 7) (m : BitVec 5) (s : State) : Host.Outcome State Fault Refusal :=
  runIsa sp (laneOp true 4 fun l => { l with acc := l.acc + macProduct (l.srcA a m) (l.word b).toNat }) s

/-- `MULL`. -/
def execMull (sp : BitVec 6) (_d a b : BitVec 7) (m : BitVec 5) (s : State) : Host.Outcome State Fault Refusal :=
  runIsa sp (laneOp true 1 fun l => { l with acc := macProduct (l.srcA a m) (limb (l.word b) m).toNat }) s

/-- `MACL`. -/
def execMacl (sp : BitVec 6) (_d a b : BitVec 7) (m : BitVec 5) (s : State) : Host.Outcome State Fault Refusal :=
  runIsa sp (laneOp true 1 fun l => { l with acc := l.acc + macProduct (l.srcA a m) (limb (l.word b) m).toNat }) s

/-- `ACCLD`. -/
def execAccld (sp : BitVec 6) (_d a _b : BitVec 7) (m : BitVec 5) (s : State) : Host.Outcome State Fault Refusal :=
  runIsa sp (laneOp true 1 fun l => { l with acc := (l.srcA a m).setWidth 576 }) s

/-- `ACCADD`. -/
def execAccadd (sp : BitVec 6) (_d a _b : BitVec 7) (m : BitVec 5) (s : State) : Host.Outcome State Fault Refusal :=
  runIsa sp (laneOp true 1 fun l => { l with acc := l.acc + (l.srcA a m).setWidth 576 }) s

/-- `ACCSH`: ACC >> 64 × (M[1:0] + 1). -/
def execAccsh (sp : BitVec 6) (_d _a _b : BitVec 7) (m : BitVec 5) (s : State) : Host.Outcome State Fault Refusal :=
  runIsa sp (laneOp true 1 fun l => { l with acc := l.acc >>> (64 * ((m.extractLsb' 0 2).toNat + 1)) }) s

/-- `ACCLO`. -/
def execAcclo (sp : BitVec 6) (d _a _b : BitVec 7) (_m : BitVec 5) (s : State) : Host.Outcome State Fault Refusal :=
  runIsa sp (laneOp true 0 fun l => l.put d (l.acc.extractLsb' 0 256)) s

/-- `ACCHI`. -/
def execAcchi (sp : BitVec 6) (d _a _b : BitVec 7) (_m : BitVec 5) (s : State) : Host.Outcome State Fault Refusal :=
  runIsa sp (laneOp true 0 fun l => l.put d (l.acc.extractLsb' 256 256)) s

/-- `ACCX`. -/
def execAccx (sp : BitVec 6) (d _a _b : BitVec 7) (_m : BitVec 5) (s : State) : Host.Outcome State Fault Refusal :=
  runIsa sp (laneOp true 0 fun l => l.put d ((l.acc.extractLsb' 512 64).setWidth 256)) s

/-- `SETLC`. -/
def execSetlc (sp : BitVec 6) (n : BitVec 2) (imm : BitVec 16) (s : State) : Host.Outcome State Fault Refusal :=
  runIsa sp (laneOp false 0 (Lane.setLc n imm)) s

/-- A jump to IMM[11:0], in two cycles. -/
def jumpTo (imm : BitVec 16) (l : Lane) : Lane := { l.timed false 2 0 with pc := imm.setWidth 12 }

/-- `LOOP`: taken, with LC[N] one lower, unless it is 0. -/
def execLoop (sp : BitVec 6) (n : BitVec 2) (imm : BitVec 16) (s : State) : Host.Outcome State Fault Refusal :=
  runIsa sp
    (fun p =>
      if p.lane.lcAt n = 0 then laneOp false 0 id p
      else some { p with lane := jumpTo imm (p.lane.setLc n (p.lane.lcAt n - 1)) }) s

/-- `SETIX`. -/
def execSetix (sp : BitVec 6) (n : BitVec 2) (imm : BitVec 16) (s : State) : Host.Outcome State Fault Refusal :=
  runIsa sp (laneOp false 0 (Lane.setIx n (imm.setWidth 7))) s

/-- `ADDIX`. -/
def execAddix (sp : BitVec 6) (n : BitVec 2) (imm : BitVec 16) (s : State) : Host.Outcome State Fault Refusal :=
  runIsa sp (laneOp false 0 fun l => l.setIx n (l.ixAt n + imm.setWidth 7)) s

/-- `JMP`. -/
def execJmp (sp : BitVec 6) (_n : BitVec 2) (imm : BitVec 16) (s : State) : Host.Outcome State Fault Refusal :=
  runIsa sp (fun p => some { p with lane := jumpTo imm p.lane }) s

/-- `CALL`: a fifth nested call faults (R151). -/
def execCall (sp : BitVec 6) (_n : BitVec 2) (imm : BitVec 16) (s : State) : Host.Outcome State Fault Refusal :=
  runIsa sp
    (fun p =>
      if 4 ≤ p.lane.stack.length then none
      else some { p with lane := jumpTo imm { p.lane with stack := (p.lane.pc + 1) :: p.lane.stack } }) s

/-- `RET`: it faults on an empty stack (R151). -/
def execRet (sp : BitVec 6) (_n : BitVec 2) (_imm : BitVec 16) (s : State) : Host.Outcome State Fault Refusal :=
  runIsa sp
    (fun p =>
      match p.lane.stack with
      | [] => none
      | a :: rest => some { p with lane := { p.lane.timed false 2 0 with pc := a, stack := rest } }) s

/-- `HALT`. -/
def execHalt (sp : BitVec 6) (_n : BitVec 2) (imm : BitVec 16) (s : State) : Host.Outcome State Fault Refusal :=
  runIsa sp (fun p => some { p with lane := p.lane.timed false 1 0, halted := some (haltStatus imm p.lane.e) }) s

/-- A signing spindle's empty entropy buffer is filled, or takes a free word where the source is out of service. -/
def State.entropyFor (n : Nat) (s : State) : State :=
  if s.entropyOk then s.fillEntropy n
  else (s.setSpindle n { s.spindle n with ent := [Config.entropy s.ks.draws] }).drawn 1

/-- `RND`: the next word of the spindle's entropy buffer on a signing spindle, 0 on a verify spindle; 8 cycles (R148, R234). A
word the buffer does not hold comes from the source; what a source that delivers none gives is free (notes/assumptions/5.md). -/
def execRnd (sp : BitVec 6) (d _a _b : BitVec 7) (_m : BitVec 5) (s : State) : Host.Outcome State Fault Refusal :=
  let n := sp.toNat
  let p := s.spindle n
  let s := if n < 8 ∧ p.ent.isEmpty ∧ p.halted.isNone ∧ fetchOk n p.lane then s.entropyFor n else s
  runIsa sp
    (fun p =>
      let v : BitVec 256 := if n < 8 then p.ent.headD 0 else 0
      ((p.lane.timed false 8 0).put d v).next.map fun l => { p with lane := l, ent := if n < 8 then p.ent.drop 1 else p.ent }) s

/-- `KEY`: word M[0] of the job's key operand on a signing spindle, 0 on a verify spindle; 4 cycles; M[4] is ignored (R147). -/
def execKey (sp : BitVec 6) (d _a _b : BitVec 7) (m : BitVec 5) (s : State) : Host.Outcome State Fault Refusal :=
  let n := sp.toNat
  runIsa sp
    (fun p =>
      let v : BitVec 256 := if n < 8 then p.keyOp.extractLsb' (256 * (m.extractLsb' 0 1).toNat) 256 else 0
      ((p.lane.timed false 4 0).put d v).next.map fun l => { p with lane := l }) s

/-- An undefined code, or a fetch that is not allowed, faults the job (R148, R151); a word whose code is listed is no undefined code. -/
def execSpindleUndefinedCode (sp : BitVec 6) (word : BitVec 32) (s : State) : Host.Outcome State Fault Refusal :=
  runIsa sp (fun p => if spindleDefined word then some p else none) s

/-- The word that a spindle fetches at its PC: from the ROM below 0xC00, from the program RAM above, which a signing spindle does not
have (R151); a RAM word that was never loaded is 0. -/
def State.spindleFetch (s : State) (sp : BitVec 6) : Option (BitVec 32) :=
  let p := s.spindle sp.toNat
  if !fetchOk sp.toNat p.lane then none
  else some (if p.lane.pc.toNat < 0xC00 then Config.spindleRom p.lane.pc else p.ram.get p.lane.pc.toNat 0)

/-- The instruction that a spindle's program has at its PC: the row that comes next on it. The manual gives the ROM's results and not its
words, and its firmware loads no program RAM (R151), so a row brings its own instruction (DESIGN CHOICE, notes/assumptions/79.md). -/
def State.spindleNext (s : State) (sp : BitVec 6) : Option Instr := (s.spindleFetch sp).map (spindleInstr sp)

end Sys2Proof.Machine
end

