-- ==== Sys2Proof/Machine/SpindleEvents.lean ====
section
/-! DEFINITION. What happens on the spindles without a command: yield points, known-answer tests, refills (R157, R158, R234). -/

namespace Sys2Proof.Machine

/-! ## Yields (R158) -/

/-- The oldest parked job shorter than the running one, with the jobs that stay parked. -/
def shorter (len : Nat) : List Job → Option (Job × List Job)
  | [] => none
  | j :: rest =>
    if j.len < len then some (j, rest)
    else (shorter len rest).map fun r => (r.1, j :: r.2)

/-- No signing spindle is idle. -/
def State.signersBusy (s : State) : Bool := (s.idleSpindle true).isNone

/-- A job yields at a yield point when the conditions of R158 hold; the save begins and the pending job is granted. -/
def yieldAt (n : Nat) (s : State) : State :=
  let p := s.spindle n
  match p.job with
  | none => s
  | some j =>
    if n < 8 ∧ !j.yielded ∧ p.shadow.isNone ∧ p.taking.isNone ∧ !p.restoring ∧ s.signersBusy ∧ !s.holding then
      match shorter j.len s.spn.signParked with
      | none => s
      | some (k, rest) =>
        let s := s.grantOwn 12 (standardRequester k.h.unit)
        let s := { s with spn := { s.spn with signParked := rest } }
        s.setSpindle n { p with
          shadow := some (p.lane, { j with yielded := true, cyc := j.cyc + 32 + k.len }), taking := some k, job := none
          yields := satAdd p.yields 1 }
    else s

/-- The save ends and the pending job starts. -/
def saveEnd (n : Nat) (s : State) : State :=
  let p := s.spindle n
  match p.taking with
  | none => s
  | some k => (s.setSpindle n { p with taking := none }).startJob n k

/-- The restore ends and the yielded job resumes. -/
def restoreEnd (n : Nat) (s : State) : State :=
  let p := s.spindle n
  match p.restoring, p.shadow with
  | true, some (l, j) =>
    s.setSpindle n { p with lane := l, job := some j, shadow := none, restoring := false, halted := none, keyOp := j.prog.keyOperand }
  | _, _ => s

/-! ## Known-answer tests (R157, R258) -/

/-- A spindle's known-answer test ends: it returns to service, or stays out (R157). -/
def katEnd (n : Nat) (pass : Bool) (s : State) : State :=
  let p := s.spindle n
  if p.svc != .testing then s
  else
    let code := spindleCode n
    let s := s.setSpindle n { p with svc := if pass then .inService else .out
                                     katFails := if pass then p.katFails else satAdd p.katFails 1 }
    let s := { s with spn := { s.spn with katPass := pass, katRunning := s.spn.sp.toList.any fun (q : Spindle) => q.svc == SpSvc.testing } }
    let cause := if !pass then causeTest else if (s.arb.returning.find code).isSome then causeCommand else p.why.toNat
    let s := (s.serviceChange code cause pass).returned code pass
    if pass then (s.grantParked true).grantParked false else s

/-- A refill of a signing spindle's entropy buffer, between jobs (R234). -/
def refillEvent (n : Nat) (s : State) : State := if (s.spindle n).job.isNone then s.fillEntropy n else s

/-! ## The rows -/

/-- An event of a spindle the device has. -/
def onSpindle (sp : BitVec 6) (f : State → State) (s : State) : Host.Outcome State Fault Refusal :=
  if 40 ≤ sp.toNat then .fault .noSuchUnit else .next (f s)

/-- A yield point. -/
def execYieldPoint (sp : BitVec 6) (s : State) : Host.Outcome State Fault Refusal := onSpindle sp (yieldAt sp.toNat) s

/-- The end of a save. -/
def execShadowSaveEnd (sp : BitVec 6) (s : State) : Host.Outcome State Fault Refusal := onSpindle sp (saveEnd sp.toNat) s

/-- The end of a restore. -/
def execShadowRestoreEnd (sp : BitVec 6) (s : State) : Host.Outcome State Fault Refusal :=
  onSpindle sp (restoreEnd sp.toNat) s

/-- A refill. -/
def execEntropyBufferRefill (sp : BitVec 6) (s : State) : Host.Outcome State Fault Refusal :=
  onSpindle sp (refillEvent sp.toNat) s

end Sys2Proof.Machine
end

