-- ==== Sys2Proof/Machine/Seal.lean ====
section
/-! DEFINITION. The seal opcodes, class 0x04, and the events of the seal pipeline (R174 to R198). -/

namespace Sys2Proof.Machine

/-! ## CTX_OPEN (R180, R184, R189) -/

/-- A session record (R184). -/
def sessionRecord (usage : Byte) (printer : Nat) (salt : BitVec 32) (serial : BitVec 64) (nonce : BitVec 128) : Bytes :=
  [1, usage] ++ leBytes 2 printer ++ beBytes 4 salt.toNat ++ leBytes 8 serial.toNat ++ blockBytes nonce

/-- A context just opened. -/
def newCtx (key : BitVec 128) (salt : BitVec 32) (inv : BitVec 64) (usage dom format : Byte) (printer : Nat) (slot : Nat)
    (ordered : Bool) (nonce : BitVec 128) : SealCtx :=
  { key, ekJ0 := 0, salt, inv, blk := 0, ghash := 0, aadLen := 0, dataLen := 0, declLen := 0, declAad := 0, usage
    st := ctIdle, dom, format, printer := BitVec.ofNat 16 printer, keySlot := BitVec.ofNat 12 slot, ordered
    inflight := false, nonce, invCur := 0 }

/-- The context that `CTX_OPEN` makes, and its session record: the salt, printer, serial and nonce of a SEAL or TICKET context
from the parameters and this device, those of an OPEN context from the sender's record (R180, R184, R189). -/
def openedCtx (s : State) (x : Ctx) (slotKey : BitVec 128) (slot : Nat) (bs : Bytes) : SealCtx × Bytes :=
  let p := x.c.pkt
  let u := p.byteAt 32
  let f := p.byteAt 33
  let own := saltOf (leBytes 4 (p.field 36 4))
  if u = 1 then
    let nonce : BitVec 128 := s.draw.setWidth 128
    (newCtx (ctxKey slotKey own nonce s.life.serial) own (BitVec.ofNat 64 (p.field 48 8)) u x.dom f (p.field 40 2) slot false
      nonce, sessionRecord u (p.field 40 2) own s.life.serial nonce)
  else if u = 2 then
    let salt := saltOf (slice bs 4 4)
    let nonce := blockOf (slice bs 16 16)
    let serial : BitVec 64 := BitVec.ofNat 64 (leAt bs 8 8)
    (newCtx (ctxKey slotKey salt nonce serial) salt 0 u x.dom f (leAt bs 2 2) slot ((p.byteAt 34).getLsbD 0) nonce,
      sessionRecord u (leAt bs 2 2) salt serial nonce)
  else
    (newCtx slotKey own 0 u x.dom f (p.field 40 2) slot false 0, sessionRecord u (p.field 40 2) own s.life.serial 0)

/-- `CTX_OPEN`. -/
def ctxOpenBody (x : Ctx) (s : State) : Out :=
  let p := x.c.pkt
  let n := hIndex p.handleA
  let u := p.byteAt 32
  if (s.sealCtx n).any (·.st == ctBroken) then x.refused s stContextBroken
  else if (s.sealCtx n).isSome || (s.sl.restoring.find n).isSome then x.refused s stBadHandle
  else if u = 3 ∧ 256 ≤ s.pinned then x.refused s stBadParameter
  else
    let go (s : State) (bs : Bytes) : Out :=
      if u = 2 ∧ p.byteAt 33 = 0 ∧ 16383 < leAt bs 2 2 then x.refused s stBadParameter
      else
        let slot := hIndex p.handleB
        match s.useSlot slot (if u = 1 then useSeal else if u = 2 then useOpen else useTicket) with
        | (s, .error e) => x.refused s e
        | (s, .ok k) =>
          let (c, rec32) := openedCtx s x k.key128 slot bs
          let s := if u = 1 then s.drawn 1 else s
          { s := ((s.setCtx n c).cacheLine n).admitted 1, cyc := if u = 3 then 240 else 257, result := rec32 }
    if u = 2 then withData x s (go s) else go s []

/-! ## SEAL_DATA and SEAL_FINAL (R185 to R187, R190) -/

/-- What a `SEAL_DATA` or `SEAL_FINAL` brings: START, the authenticated data at the head of its data, the declared length and
the length of its data proper. -/
structure SealArgs where
  start : Bool
  aad : Nat
  decl : Nat
  before : Nat
  w : Nat
  deriving DecidableEq, Repr

/-- The arguments of a packet on a context. -/
def sealArgs (k : SealCtx) (p : Packet) : SealArgs :=
  let start := (p.byteAt 32).getLsbD 0
  let aad := if start && k.format == 1 then p.field 48 2 else 0
  { start, aad, decl := if start then p.field 40 8 else k.declLen, before := if start then 0 else k.dataLen
    w := p.dataLen.toNat - aad }

/-- The checks of R187 in their order: the status, and whether the context becomes BROKEN. -/
def sealRefusal (k : SealCtx) (p : Packet) (final : Bool) : Option (BitVec 16 × Bool) :=
  let a := sealArgs k p
  if k.usage != usSeal then some (stUsageDenied, false)
  else if k.st = ctBroken then some (stContextBroken, false)
  else if k.st ≠ (if a.start then ctIdle else ctMessage) then some (stBadParameter, false)
  else if a.start && k.format == 0 && !decide (1 ≤ (p.byteAt 33).toNat ∧ (p.byteAt 33).toNat ≤ 3) then
    some (stBadParameter, false)
  else if a.start && k.inv == BitVec.allOnes 64 then some (stNonceExhausted, false)
  else if a.start && decide (2 ^ 36 - 32 < a.decl) then some (stMessageTooLong, false)
  else if p.dataLen.toNat < a.aad ∨ (a.w % 16 ≠ 0 ∧ a.before + a.w ≠ a.decl) then some (stBadLength, false)
  else if a.decl < a.before + a.w then some (stLengthMismatch, true)
  else if final ∧ a.before + a.w ≠ a.decl then some (stLengthMismatch, true)
  else none

/-- The 32-byte frame header (R185). -/
def frameHeader (s : State) (k : SealCtx) (p : Packet) : Bytes :=
  [1, p.byteAt 33] ++ leBytes 2 k.printer.toNat ++ leBytes 4 (p.field 36 4) ++ leBytes 8 k.inv.toNat ++
  leBytes 8 (p.field 40 8) ++ leBytes 4 s.gctl.time.toNat ++ leBytes 2 (p.field 34 2) ++ [s.node, 0]

/-- The context once a message has started where the command starts one, with the authenticated data and the bytes that lead
the output. -/
def sealStart (s : State) (k : SealCtx) (p : Packet) (bs : Bytes) : SealCtx × Bytes × Bytes :=
  let a := sealArgs k p
  if !a.start then (k, [], [])
  else if k.format = 0 then (k.start 32 a.decl, frameHeader s k p, frameHeader s k p)
  else (k.start a.aad a.decl, bs.take a.aad, [])

/-- The fixed cycles of `SEAL_DATA` and `SEAL_FINAL` (R188). -/
def sealCycles (k : SealCtx) (a : SealArgs) (final : Bool) : Nat :=
  let c := ceilDiv a.w 16
  let t := if final then 4 else 0
  if !a.start then (if final ∧ c = 0 then 26 else 56 + t + c)
  else if k.format = 0 then 64 + t + c
  else 56 + t + ceilDiv a.aad 16 + c

/-- `SEAL_DATA` and `SEAL_FINAL`. -/
def sealBody (final : Bool) (x : Ctx) (s : State) : Out :=
  let p := x.c.pkt
  let n := hIndex p.handleA
  let s := s.settleCtx n
  match s.sealCtx n with
  | none => x.refused s stBadHandle
  | some k =>
    match sealRefusal k p final with
    | some (st, breaks) =>
      let s := s.cacheUse n
      let s := if st = stNonceExhausted then { s with sl := { s.sl with exhausted := satAdd s.sl.exhausted 1 } } else s
      .stop (if breaks then s.breakCtx n (sealStart s k p []).1 else s) st 22
    | none =>
      let a := sealArgs k p
      let bs := if x.readFailed then slice x.c.data 0 (min p.dataLen.toNat (x.c.memErr.getD 0)) else x.data
      let (k', aad, lead) := sealStart s k p bs
      if x.readFailed ∧ bs.length < 16 then x.refused s stHostMemory
      else
        let whole := if x.readFailed then bs.take (bs.length / 16 * 16) else bs
        let data := whole.drop a.aad
        let cyc := sealCycles k a final
        let inl : BitVec 64 := k'.invCur
        let tagLen := if final then 16 else 0
        let kind : SealKind := if final then .final else .data
        let h := x.held 0 cyc inl (zeros (lead.length + a.w + tagLen))
        let slots := a.start.toNat + ceilDiv aad.length 16 + ceilDiv data.length 16
        if (x.c.async || !s.quiet 14) && !x.readFailed && (final || slots != 0) then
          let s := if lead.isEmpty then s else s.post (.hostWrite p.outPtr lead)
          { s := s.startRun
              { ctx := n, kind, was := k, j0 := a.start, aad, data, outPtr := p.outPtr + BitVec.ofNat 64 lead.length
                entered := false, h := { h with write := none } } k'
            cyc, when_ := .later }
        else
          let (k', ct) := (k'.absorb aad).seals data
          let s := (s.cacheUse n).passed x.unit slots
          if x.readFailed then
            let out := lead ++ ct
            let s := if out.isEmpty then s else s.post (.hostWrite p.outPtr out)
            x.refused (s.breakCtx n k') stHostMemory
          else
            { s := s.setCtx n (sealEnd final k'), cyc, inl, result := lead ++ ct ++ (if final then k'.tag else []) }

/-! ## OPEN_VERIFY (R194, R195) -/

/-- What an `OPEN_VERIFY` opens: authenticated data, ciphertext, tag and invocation. -/
structure OpenArgs where
  aad : Bytes
  ct : Bytes
  tag : Bytes
  inv : BitVec 64
  deriving DecidableEq, Repr

/-- The parts of the data of an `OPEN_VERIFY` by format. -/
def openArgs (k : SealCtx) (p : Packet) (bs : Bytes) : OpenArgs :=
  let n := bs.length
  let a := if k.format = 0 then 32 else p.field 32 2
  { aad := bs.take a, ct := (bs.drop a).take (n - a - 16), tag := bs.drop (n - 16)
    inv := if k.format = 0 then BitVec.ofNat 64 (leAt bs 8 8) else BitVec.ofNat 64 (p.field 40 8) }

/-- Checks 1 to 4 of R195, after what a BROKEN context answers (R177). -/
def openRefusal (k : SealCtx) (p : Packet) (bs : Bytes) : Option (BitVec 16) :=
  let n := bs.length
  let a := if k.format = 0 then 32 else p.field 32 2
  let o := openArgs k p bs
  firstFail
    [(k.st != ctBroken, stContextBroken), (k.usage == usOpen, stUsageDenied), (decide (n ≤ a + 16 + 65536), stMessageTooLong),
     (if k.format = 0 then decide (48 ≤ n) && leAt bs 0 1 == 1 && leAt bs 2 2 == k.printer.toNat else decide (a + 16 ≤ n),
       stBadParameter),
     (k.format != 0 || leAt bs 16 8 == n - 48, stLengthMismatch),
     (!k.ordered || decide (k.inv.toNat < o.inv.toNat), stBadParameter)]

/-- The lowest hold buffer that is free. -/
def State.freeHold (s : State) : Option Nat := lowestFrom (fun b => !s.sl.holdBusy.getLsbD b) 4 0

/-- An `OPEN_VERIFY` waits for a hold buffer while all four are in use: the one that took its buffer first ends (R194). -/
def State.awaitHold (s : State) : State :=
  if s.freeHold.isSome then s
  else match s.sl.runs.find? fun r => match r.kind with | .opens .. => true | _ => false with
    | some r => s.settleCtx r.ctx
    | none => s

/-- `OPEN_VERIFY`. -/
def openVerifyBody (x : Ctx) (s : State) : Out :=
  let p := x.c.pkt
  let n := hIndex p.handleA
  withData x (s.settleCtx n) fun bs =>
    let s := s.settleCtx n
    match s.sealCtx n with
    | none => x.refused s stBadHandle
    | some k =>
      let s := s.cacheUse n
      match openRefusal k p bs with
      | some st => .stop s st 62
      | none =>
        let o := openArgs k p bs
        let c := ceilDiv o.ct.length 16
        let a := ceilDiv o.aad.length 16
        let cyc := 102 + a + 2 * c
        let iv := k.iv o.inv
        let s := s.awaitHold
        match x.c.async || !s.quiet 14, s.freeHold with
        | true, some b =>
          { s := (s.setHold b true).startRun
              { ctx := n, kind := .opens o.inv o.tag b [], was := k, j0 := true, aad := o.aad, data := o.ct, outPtr := p.outPtr
                entered := false, h := x.held 0 cyc 0 (zeros o.ct.length) }
              { k with ekJ0 := sm4Enc k.key (gcmJ0 iv), invCur := o.inv, blk := 2, ghash := 0, aadLen := 0, dataLen := 0 }
            cyc, when_ := .later }
        | _, _ =>
          let s := s.passed x.unit (1 + a + c)
          if gcmTag k.key iv o.aad o.ct = o.tag then
            { s := if k.ordered then s.setCtx n { k with inv := o.inv } else s, cyc, result := gcmStream k.key iv o.ct }
          else { s := s.tagFailed, status := stTagMismatch, cyc }

/-! ## Saving, restoring, closing (R196 to R198) -/

/-- Bytes 0 to 31 of a save record (R196). -/
def saveHead (s : State) (form : Byte) (len n : Nat) (k : SealCtx) (restoreNo : BitVec 64) : Bytes :=
  [form, 1] ++ leBytes 2 len ++ leBytes 8 s.life.serial.toNat ++ leBytes 4 n ++ [k.dom, k.usage, 0, 0] ++
  leBytes 8 restoreNo.toNat ++ leBytes 4 s.gctl.time.toNat

/-- The clear form's chaining bytes 32 to 95 (R196). -/
def saveClear (k : SealCtx) : Bytes :=
  beBytes 4 k.salt.toNat ++ leBytes 8 k.inv.toNat ++ leBytes 4 k.blk.toNat ++ leBytes 8 k.aadLen ++ leBytes 8 k.dataLen ++
  leBytes 8 k.declLen ++ leBytes 2 k.declAad ++ [k.st, k.format] ++ leBytes 2 k.printer.toNat ++
  leBytes 2 k.keySlot.toNat ++ blockBytes k.nonce

/-- `CTX_SAVE`, clear form. -/
def ctxSaveClear (x : Ctx) (n : Nat) (k : SealCtx) (s : State) : Out :=
  if k.usage = usTicket then x.refused s stBadParameter
  else { s := s.cacheUse n, cyc := 112, result := saveHead s 1 96 n k 0 ++ saveClear k }

/-- `CTX_SAVE`, wrapped form: a SEAL context moves out (R197). -/
def ctxSaveWrapped (x : Ctx) (n : Nat) (k : SealCtx) (s : State) : Out :=
  if k.st = ctBroken then x.refused s stContextBroken
  else match s.saveKey k.dom with
    | none => x.refused s stParentInvalid
    | some wk =>
      let no : BitVec 64 := if k.usage = usSeal then s.saves k.dom + 1 else 0
      let iv : BitVec 96 := s.draw.setWidth 96
      let head := saveHead s 2 208 n k no ++ beBytes 12 iv.toNat ++ zeros 4
      let ct := gcmStream wk iv (blockBytes k.key ++ k.tailBytes)
      let result := head ++ ct ++ gcmTag wk iv head ct
      let s := ((s.drawn 1).cacheUse n).admitted 13
      let s := if k.usage = usSeal then
          ({ s with sl := { s.sl with sd := s.sl.sd.put k.dom.toNat no } }).closeCtx n else s
      { s, cyc := 194, result }

/-- `CTX_SAVE`. -/
def ctxSaveBody (x : Ctx) (s : State) : Out :=
  let n := hIndex x.c.pkt.handleA
  let s := s.settleCtx n
  match s.sealCtx n with
  | none => x.refused s stBadParameter
  | some k => if x.c.pkt.byteAt 32 = 1 then ctxSaveClear x n k s else ctxSaveWrapped x n k s

/-- `CTX_RESTORE`, clear form (R197). -/
def ctxRestoreClear (x : Ctx) (n : Nat) (bs : Bytes) (s : State) : Out :=
  match s.sealCtx n with
  | none => x.refused s stBadParameter
  | some k =>
    let inv : BitVec 64 := BitVec.ofNat 64 (leAt bs 36 8)
    if k.st = ctBroken then x.refused s stContextBroken
    else if leAt bs 1 1 = 1 ∧ leAt bs 2 2 = 96 ∧ leAt bs 4 8 = s.life.serial.toNat ∧ leAt bs 12 4 = n ∧
        leAt bs 17 1 = k.usage.toNat ∧ k.usage ≠ usTicket ∧ k.st = ctIdle ∧ leAt bs 74 1 = 1 ∧ k.inv.toNat ≤ inv.toNat then
      { s := (s.cacheUse n).setCtx n (if k.usage = usSeal ∨ k.ordered then { k with inv } else k), cyc := 94 }
    else x.refused s stBadParameter

/-- `CTX_RESTORE`, wrapped form (R197): a SEAL record waits for its restore floor. -/
def ctxRestoreWrapped (x : Ctx) (n : Nat) (bs : Bytes) (s : State) : Out :=
  let dom : Dom := (slice bs 16 1).headD 0
  let usage : Byte := (slice bs 17 1).headD 0
  let no : BitVec 64 := BitVec.ofNat 64 (leAt bs 20 8)
  let g := s.gen dom.toNat
  if (s.sealCtx n).any (·.st == ctBroken) then x.refused s stContextBroken
  else if (s.sealCtx n).isSome ∨ (s.sl.restoring.find n).isSome ∨ leAt bs 1 1 ≠ 1 ∨ leAt bs 2 2 ≠ 208 ∨ bs.length < 208 then
    x.refused s stBadParameter
  else if usage = usSeal ∧ (leAt bs 4 8 ≠ s.life.serial.toNat ∨ no.toNat ≤ max g.floor.toNat (s.genLast dom.toNat).floor.toNat) then x.refused s stBadParameter
  else if usage = usTicket ∧ 256 ≤ s.pinned then x.refused s stBadParameter
  else if dom ≠ x.dom then x.refused s stNotPermitted
  else match s.saveKey dom with
    | none => x.refused s stParentInvalid
    | some wk =>
      let iv : BitVec 96 := BitVec.ofNat 96 (beNat (slice bs 32 12))
      let s := s.admitted 13
      if gcmTag wk iv (slice bs 0 48) (slice bs 48 144) ≠ slice bs 192 16 then
        { s := s.tagFailed, status := stTagMismatch, cyc := 236 }
      else
        let m := gcmStream wk iv (slice bs 48 144)
        let k := ctxOf (blockOf (slice m 0 16)) (slice m 16 128)
        if k.usage = usSeal then
          let h := x.held 0 2156 0 []
          { s := ({ s with sl := { s.sl with restoring := s.sl.restoring.put n k } }).genWrite
              { entry := dom.toNat, val := { s.genLast dom.toNat with floor := no }, check := none, what := .restore n, after := [.reply h] }
            cyc := 2156, when_ := .later }
        else { s := (s.setCtx n k).cacheLine n, cyc := 236 }

/-- `CTX_RESTORE`. -/
def ctxRestoreBody (x : Ctx) (s : State) : Out :=
  let n := hIndex x.c.pkt.handleA
  withData x s fun bs =>
    let s := s.settleCtx n
    if 4 ≤ bs.length ∧ leAt bs 2 2 ≠ bs.length then x.refused s stLengthMismatch
    else if leAt bs 0 1 = 1 then ctxRestoreClear x n bs s
    else if leAt bs 0 1 = 2 then ctxRestoreWrapped x n bs s
    else x.refused s stBadParameter

/-- `CTX_CLOSE`. -/
def ctxCloseBody (x : Ctx) (s : State) : Out :=
  let n := hIndex x.c.pkt.handleA
  let s := s.settleCtx n
  if (s.sealCtx n).isNone then x.refused s stBadHandle else { s := s.closeCtx n, cyc := 88 }

/-! ## The events of the pipeline -/

/-- The block that a requester of the seal admission arbiter asked first for: its first run with a block ready. -/
def State.nextRun (s : State) (i : Nat) : Option SealRun :=
  s.sl.runs.find? fun r => s.runAsks r && standardRequester r.h.unit == i

/-- The seal admission arbiter grants its choice, and that block enters the pipeline (R192, R243). -/
def State.admitNext (s : State) : State :=
  let s := s.sync 14
  match s.choose 14 with
  | none => s
  | some (i, a) => match s.nextRun i with
    | some r => (s.grantTo 14 i a).admitBlock r
    | none => s

/-- A block of a context's run enters the pipeline, where the seal admission arbiter grants it (R192). -/
def blockAdmitEvent (n : Nat) (s : State) : State :=
  let s := s.sync 14
  match (s.choose 14).bind fun o => s.nextRun o.1 with
  | some r => if r.ctx = n then s.admitNext else s
  | none => s

/-- A block leaves the pipeline; a `SEAL_DATA` ends with its last (R193). -/
def blockOutEvent (s : State) : State :=
  match s.sl.pipe with
  | [] => s
  | (n, _, _) :: _ => (s.blockOut).dataDone n

/-- The tag of a context's run is formed, when its last block has left (R193). -/
def tagFormedEvent (n : Nat) (s : State) : State :=
  match s.runOf n, s.sealCtx n with
  | some r, some k => if s.drained r && r.kind != .data then s.formTag r k else s
  | _, _ => s

/-- An evicted record goes back to the context store, in a seal slot (R179, R250). -/
def writeBackEvent (s : State) : State :=
  if s.slotIs s.now 1 then { s with sl := { s.sl with evicted := s.sl.evicted.drop 1 } } else s

/-! ## The rows -/

/-- `CTX_OPEN`. -/
def execCtxOpen (c : Cmd) (s : State) : Host.Outcome State Fault Refusal := .next (runOp 0x0401 none ctxOpenBody c s)

/-- `SEAL_DATA`. -/
def execSealData (c : Cmd) (s : State) : Host.Outcome State Fault Refusal := .next (runOp 0x0402 none (sealBody false) c s)

/-- `SEAL_FINAL`. -/
def execSealFinal (c : Cmd) (s : State) : Host.Outcome State Fault Refusal := .next (runOp 0x0403 none (sealBody true) c s)

/-- `OPEN_VERIFY`. -/
def execOpenVerify (c : Cmd) (s : State) : Host.Outcome State Fault Refusal := .next (runOp 0x0404 none openVerifyBody c s)

/-- `CTX_SAVE`. -/
def execCtxSave (c : Cmd) (s : State) : Host.Outcome State Fault Refusal := .next (runOp 0x0405 none ctxSaveBody c s)

/-- `CTX_RESTORE`. -/
def execCtxRestore (c : Cmd) (s : State) : Host.Outcome State Fault Refusal := .next (runOp 0x0406 none ctxRestoreBody c s)

/-- `CTX_CLOSE`. -/
def execCtxClose (c : Cmd) (s : State) : Host.Outcome State Fault Refusal := .next (runOp 0x0407 none ctxCloseBody c s)

/-- A seal context a firmware or host command may name (R174). -/
def execSealBlockAdmit (ctx : Nat) (s : State) : Host.Outcome State Fault Refusal :=
  if 40960 ≤ ctx then .fault .noSuchUnit else .next (blockAdmitEvent ctx s)

/-- A block out of the pipeline. -/
def execSealBlockOut (s : State) : Host.Outcome State Fault Refusal := .next (blockOutEvent s)

/-- A tag formed. -/
def execSealTagFormed (ctx : Nat) (s : State) : Host.Outcome State Fault Refusal :=
  if 40960 ≤ ctx then .fault .noSuchUnit else .next (tagFormedEvent ctx s)

/-- An evicted record written back. -/
def execSealContextWriteBack (s : State) : Host.Outcome State Fault Refusal := .next (writeBackEvent s)

end Sys2Proof.Machine
end

