-- ==== Sys2Proof/Machine/Digest.lean ====
section
/-! DEFINITION. The digest engine: contexts, the class 0x06 opcodes and the absorbing of blocks one by one (R200 to R211). -/

namespace Sys2Proof.Machine

/-! ## Contexts -/

/-- A digest context set. -/
def State.setDig (n : Nat) (k : DigCtx) (s : State) : State :=
  { s with dig := { s.dig with ctxs := s.dig.ctxs.setIfInBounds n k } }

/-- An IDLE context of a domain (R202). -/
def idleDig (dom : Dom) (finished : Bool) : DigCtx := { v := sm3Iv, blocks := 0, st := 1, keyed := false, dom, finished }

/-- A context absorbs whole blocks (R202, R204). -/
def DigCtx.absorb (bs : Bytes) (k : DigCtx) : DigCtx :=
  let n := bs.length / 64
  if n = 0 then k else { k with v := sm3Absorb n k.v bs, blocks := satAdd k.blocks n, st := 2 }

/-- The run of a context (R203). -/
def State.digRun (s : State) (n : Nat) : Option DigRun := s.dig.runs.find? (·.ctx == n)

/-- A run ended. -/
def State.dropDig (n : Nat) (s : State) : State :=
  let s : State := { s with dig := { s.dig with runs := s.dig.runs.filter (·.ctx != n) } }
  s.sync 17

/-- What a command does once its blocks are absorbed, the context as they leave it: a finishing command has it IDLE again (R205 to
R210). `HASH_TO_KEY` takes the slot that is free at its end (DESIGN CHOICE, notes/assumptions/80.md). -/
def State.digEnd (r : DigRun) (s : State) : State :=
  let k := s.dig' r.ctx
  let idle := s.setDig r.ctx (idleDig k.dom true)
  match r.kind with
  | .init => (s.setDig r.ctx { k with keyed := true }).postReply { r.h with inl := k.blocks }
  | .data => s.postReply { r.h with inl := k.blocks }
  | .final => idle.postReply { r.h.withResult (digestBytes k.v) with inl := k.blocks }
  | .compare want =>
    let eq := (digestBytes k.v).take want.length == want
    (if eq then idle else { idle with dig := { idle.dig with mismatch := satAdd s.dig.mismatch 1 } }).postReply
      { r.h with inl := if eq then 1 else 0 }
  | .toKey keys typ usage len =>
    match s.freeSlot keys with
    | none => idle.postReply (r.h.fail stNoFreeSlot r.h.cycles.toNat)
    | some slot =>
      let v := (digestBytes k.v).take len
      let attr : KeyAttr :=
        { typ, usage, curve := 0, dom := k.dom, parent := 0xFFFF, parentGen := 0, lineage := 0, lineageGen := 0, origin := 3
          kcv := kcvOf typ (slice v 0 64) }
      (idle.putSlot slot (s.newSlot .valid (valueOf v) 0 0 attr)).postReply { r.h with inl := inlAt 0 (0x02000000 + slot) }

/-- The unit absorbs some bytes of a run. -/
def State.digTake (r : DigRun) (bs : Bytes) (s : State) : State :=
  (s.setDig r.ctx ((s.dig' r.ctx).absorb bs)).hashed (bs.length / 64)

/-- The commands of a context in flight end (R203, R211): the blocks left are absorbed, each with its grant. -/
def State.settleDig (n : Nat) (s : State) : State :=
  match s.digRun n with
  | none => s
  | some r =>
    let s := (List.range (r.data.length / 64)).foldl (fun s _ => s.grantOwn 17 (standardRequester r.h.unit)) s
    ((s.digTake r r.data).dropDig n).digEnd r

/-- A command's blocks are absorbed one by one where it asks for that or another command's block asks for the unit; else at once, one
grant each (R203). -/
def State.digStart (x : Ctx) (r : DigRun) (cyc : Nat) (s : State) : Out :=
  let n := r.data.length / 64
  if (x.c.async || !s.quiet 17) && n != 0 then
    let s : State := { s with dig := { s.dig with runs := s.dig.runs ++ [r] } }
    { s := s.sync 17, cyc, when_ := .later }
  else { s := ((s.grantsAtOnce 17 (standardRequester x.unit) n).digTake r r.data).digEnd r, cyc, when_ := .later }

/-- The reply of a run that is cut: a context with a block of the command absorbed becomes IDLE with KEYED 0 (R211). -/
def State.cutDig (r : DigRun) (st : BitVec 16) (always : Bool) (s : State) : State :=
  let k := s.dig' r.ctx
  let s := s.dropDig r.ctx
  (if always then s.setDig r.ctx (idleDig k.dom k.finished) else s).postReply (r.h.fail st r.h.cycles.toNat)

/-- The blocks that came in before a host memory read failed. -/
def Ctx.wholeBlocks (x : Ctx) : Nat := min (x.c.memErr.getD 0) x.c.pkt.dataLen.toNat / 64

/-- A host memory read failed: with a block absorbed already, the context becomes IDLE; else nothing happened (R211). -/
def digReadFailed (x : Ctx) (n : Nat) (s : State) : Out :=
  let k := s.dig' n
  x.refused (if x.wholeBlocks = 0 then s else (s.setDig n (idleDig k.dom k.finished)).hashed x.wholeBlocks) stHostMemory

/-! ## The bodies -/

/-- The leading block of a keyed context: the key value, zero-extended, XOR the pad byte (R207). -/
def prefixBlock (k : Slot) (pad : Byte) : Bytes := k.bytes.map (· ^^^ pad)

/-- `HASH_INIT` (R207, R208). -/
def hashInitBody (x : Ctx) (s : State) : Out :=
  let p := x.c.pkt
  let n := hIndex p.handleA
  let s := s.settleDig n
  if p.handleB = 0 then { s := s.setDig n (idleDig x.dom false), cyc := 84, inl := 0 }
  else match s.useSlot (hIndex p.handleB) usePrefix with
    | (s, .error e) => x.refused s e
    | (s, .ok k) =>
      (s.setDig n (idleDig x.dom false)).digStart x
        { ctx := n, kind := .init, began := false, data := prefixBlock k (p.byteAt 32), h := x.held 0 101 0 [] } 101

/-- A `HASH_DATA` lands on an open context: one whose previous command was a finishing one is counted (R206). -/
def State.digLand (n : Nat) (s : State) : State :=
  let k := s.dig' n
  let s : State := if k.finished then { s with dig := { s.dig with restarts := satAdd s.dig.restarts 1 } } else s
  s.setDig n { k with finished := false }

/-- `HASH_DATA` (R206). -/
def hashDataBody (x : Ctx) (s : State) : Out :=
  let n := hIndex x.c.pkt.handleA
  let s := s.settleDig n
  if (s.dig' n).st = 0 then x.refused s stBadHandle
  else
    let s := s.digLand n
    if x.readFailed then digReadFailed x n s
    else
      let cyc := 22 + 17 * (x.data.length / 64)
      s.digStart x { ctx := n, kind := .data, began := false, data := x.data, h := x.held 0 cyc 0 [] } cyc

/-- A finishing command lands on an open context (R205, R206). -/
def State.digFinishing (n : Nat) (s : State) : State := s.setDig n { s.dig' n with finished := true }

/-- `HASH_FINAL`. -/
def hashFinalBody (x : Ctx) (s : State) : Out :=
  let n := hIndex x.c.pkt.handleA
  let s := s.settleDig n
  let k := s.dig' n
  if k.st = 0 then x.refused s stBadHandle
  else
    let s := s.digFinishing n
    if k.keyed then x.refused s stUsageDenied
    else if x.readFailed then digReadFailed x n s
    else
      let cyc := 64 + 17 * (x.data.length / 64)
      s.digStart x { ctx := n, kind := .final, began := false, data := x.data, h := x.held 0 cyc 0 (zeros 32) } cyc

/-- `HASH_COMPARE` (R209). -/
def hashCompareBody (x : Ctx) (s : State) : Out :=
  let n := hIndex x.c.pkt.handleA
  let m := (x.c.pkt.byteAt 32).toNat
  let s := s.settleDig n
  if (s.dig' n).st = 0 then x.refused s stBadHandle
  else
    let s := s.digFinishing n
    if x.readFailed then digReadFailed x n s
    else
      let b := x.data.length - m
      let cyc := 72 + 17 * (b / 64)
      s.digStart x
        { ctx := n, kind := .compare (slice x.data b m), began := false, data := x.data.take b, h := x.held 0 cyc 0 [] } cyc

/-- `HASH_TO_KEY` (R206, R210). -/
def hashToKeyBody (x : Ctx) (s : State) : Out :=
  let p := x.c.pkt
  let n := hIndex p.handleA
  let s := s.settleDig n
  let k := s.dig' n
  let usage : BitVec 16 := BitVec.ofNat 16 (p.field 34 2)
  let (typ, len) := hashKeyType usage (p.byteAt 32).toNat
  if k.st = 0 then x.refused s stBadHandle
  else
    let s := s.digFinishing n
    if k.st = 1 ∧ p.dataLen = 0 then x.refused s stBadParameter
    else if (s.freeSlot x.keys).isNone then x.refused s stNoFreeSlot
    else if x.readFailed then digReadFailed x n s
    else
      let cyc := 110 + 17 * (x.data.length / 64)
      s.digStart x
        { ctx := n, kind := .toKey x.keys typ usage len, began := false, data := x.data, h := x.held 0 cyc 0 [] } cyc

/-- `HASH_CLOSE`. -/
def hashCloseBody (x : Ctx) (s : State) : Out :=
  let n := hIndex x.c.pkt.handleA
  let s := s.settleDig n
  if (s.dig' n).st = 0 then x.refused s stBadHandle else { s := s.setDig n closedDig, cyc := 58 }

/-! ## Block by block (R200, R203) -/

/-- One block of a run is absorbed; its next block asks behind the others of its requester. -/
def State.absorbBlock (r : DigRun) (s : State) : State :=
  let s := s.digTake r (r.data.take 64)
  let rest := r.data.drop 64
  if rest.isEmpty then (s.dropDig r.ctx).digEnd r
  else
    let s : State := { s with dig := { s.dig with
      runs := s.dig.runs.filter (·.ctx != r.ctx) ++ [{ r with data := rest, began := true }] } }
    s.sync 17

/-- The block that a requester of the digest arbiter asked first for. -/
def State.nextDig (s : State) (i : Nat) : Option DigRun := s.dig.runs.find? fun r => standardRequester r.h.unit == i

/-- The digest arbiter grants its choice, and the unit absorbs that block (R203, R243). -/
def State.absorbNext (s : State) : State :=
  let s := s.sync 17
  match s.choose 17 with
  | none => s
  | some (i, a) => match s.nextDig i with
    | some r => (s.grantTo 17 i a).absorbBlock r
    | none => s

/-- The unit finishes absorbing a block of a context's run, where the arbiter has granted it. -/
def digestBlockEvent (n : Nat) (s : State) : State :=
  let s := s.sync 17
  match (s.choose 17).bind fun o => s.nextDig o.1 with
  | some r => if r.ctx = n then s.absorbNext else s
  | none => s

/-! ## The rows -/

/-- `HASH_INIT`. -/
def execHashInit (c : Cmd) (s : State) : Host.Outcome State Fault Refusal := .next (runOp 0x0601 none hashInitBody c s)

/-- `HASH_DATA`. -/
def execHashData (c : Cmd) (s : State) : Host.Outcome State Fault Refusal := .next (runOp 0x0602 none hashDataBody c s)

/-- `HASH_FINAL`. -/
def execHashFinal (c : Cmd) (s : State) : Host.Outcome State Fault Refusal := .next (runOp 0x0603 none hashFinalBody c s)

/-- `HASH_COMPARE`. -/
def execHashCompare (c : Cmd) (s : State) : Host.Outcome State Fault Refusal :=
  .next (runOp 0x0604 none hashCompareBody c s)

/-- `HASH_TO_KEY`. -/
def execHashToKey (c : Cmd) (s : State) : Host.Outcome State Fault Refusal := .next (runOp 0x0605 none hashToKeyBody c s)

/-- `HASH_CLOSE`. -/
def execHashClose (c : Cmd) (s : State) : Host.Outcome State Fault Refusal := .next (runOp 0x0606 none hashCloseBody c s)

/-- A block absorbed. -/
def execDigestBlockDone (ctx : BitVec 6) (s : State) : Host.Outcome State Fault Refusal :=
  .next (digestBlockEvent ctx.toNat s)

end Sys2Proof.Machine
end

