-- ==== Sys2Proof/Machine/Key.lean ====
section
/-! DEFINITION. The key opcodes, class 0x07 (R225 to R232, R236 to R240). -/

namespace Sys2Proof.Machine

/-! ## Shared steps -/

/-- The wrap key and number of a parent: the domain's DMK, or a KEK entry by its slot (R218, R225). -/
structure Parent where
  num : BitVec 16
  gen : BitVec 32
  wk : BitVec 128
  deriving DecidableEq, Repr

/-- A DMK as parent; none while it is absent. -/
def State.dmkParent (s : State) (d : Dom) : Option Parent :=
  (s.dmk d).map fun m =>
    let g := (s.gen d.toNat).gen
    { num := d.setWidth 16, gen := g, wk := wrapKey (digestBytes m) (d.setWidth 16) g }

/-- A KEK slot as parent, its use permitted (R224, R238). -/
def State.kekParent (n bit : Nat) (dom : Dom) (s : State) : State × Except (BitVec 16) Parent :=
  match s.useSlot n bit with
  | (s, .error e) => (s, .error e)
  | (s, .ok k) =>
    if k.attr.typ ≠ 7 ∨ k.attr.dom ≠ dom then (s, .error stUsageDenied)
    else
      let g := (s.gen k.attr.lineage.toNat).gen
      (s, .ok { num := k.attr.lineage, gen := g, wk := wrapKey (blockBytes k.key128) k.attr.lineage g })

/-- The parent that handle_b names: a KEK slot, or the domain's DMK for 0. -/
def State.parentOf (p : Packet) (bit : Nat) (dom : Dom) (s : State) : State × Except (BitVec 16) Parent :=
  if p.handleB = 0 then
    (s, match s.dmkParent dom with | some q => .ok q | none => .error stParentInvalid)
  else s.kekParent (hIndex p.handleB) bit dom

/-- The head of a blob (R225). -/
def blobFor (typ : Byte) (usage : BitVec 16) (curve : Byte) (idLen : Nat) (q : Parent) (lineage : BitVec 16)
    (lineageGen : BitVec 32) (iv : BitVec 96) : BlobHead :=
  { typ, usage, curve := if typ = 5 ∨ typ = 6 then curve else 0xFF, idLen := BitVec.ofNat 8 idLen, parent := q.num, lineage
    parentGen := q.gen, lineageGen, iv }

/-- A DMK's blob under the root, or under the transport key, with its domain as lineage (R225). -/
def dmkBlob (wk : BitVec 128) (parent : BitVec 16) (d : Dom) (v : BitVec 256) (iv : BitVec 96) : Bytes :=
  wrapBlob wk (blobFor 8 0 0xFF 0 { num := parent, gen := 0, wk } (d.setWidth 16) 0 iv) [] (digestBytes v)

/-- A DMK enters the domain key table and the archive; its entry's present byte is written behind it (R216, R219;
notes/assumptions/26.md). The second component is its blob under the root. -/
def State.installDmk (d : Dom) (v : BitVec 256) (root : BitVec 256) (s : State) : State × Bytes :=
  let blob := dmkBlob (wrapKey (digestBytes root) 0xFFFF 0) 0xFFFF d v (s.draw.setWidth 96)
  let s := ((s.drawn 1).putDmk d v).flashNow (archiveReq (archiveDmk d) blob)
  (s.genWrite { entry := d.toNat, val := { s.genLast d.toNat with present := true }, check := none, what := .nothing, after := [] },
   blob)

/-- The target slot of a load (R237): named or the lowest EMPTY of the domain's ranges; `KEY_LOAD_BLOB` also writes a CORRUPT slot
(R221). -/
def State.target (s : State) (keys : BitVec 256) (corrupt : Bool) (n : Nat) : Except (BitVec 16) Nat :=
  if n = 0 then (match s.freeSlot keys with | some k => .ok k | none => .error stNoFreeSlot)
  else if 16 ≤ n ∧ n < 4096 ∧ inRanges keys n ∧ ((s.slot n).all fun k => corrupt && k.st == .corrupt) then .ok n
  else .error stBadParameter

/-- SM3 blocks of Z for an ID and a curve (R166). -/
def zBlocks (idLen : Nat) (cv : Curve) : Nat := ceilDiv (11 + idLen + 6 * cv.bytes) 64

/-- A key just unwrapped or drawn: its attributes, its material, its companion. -/
structure NewKey where
  attr : KeyAttr
  material : Bytes
  q : BitVec 1024
  z : BitVec 256
  id : Bytes
  deriving DecidableEq, Repr

/-- A key written into a slot. -/
def State.installKey (n : Nat) (st : SlotSt) (k : NewKey) (s : State) : State :=
  s.putSlot n { s.newSlot st (valueOf k.material) k.q k.z k.attr with id := k.id }

/-- A secret key's public point and Z, derived on a signing spindle (R155, R226); none is IMPROPER. -/
def State.derived (num : Nat) (cv : Curve) (material id : Bytes) (s : State) : State × Option (Nat × Nat × Digest) :=
  let d := beNat (slice material 0 cv.bytes)
  let s := s.usedSpindle { signing := true, len := lenDerive num cv.w, key := d }
  match sm2Derive cv d with
  | none => (s, none)
  | some (x, y) => (s.hashed (zBlocks id.length cv), some (x, y, sm2Z cv id x y))

/-- The test signature of a secret key (R156, R230): made on a signing spindle, verified on a verify spindle, an injected fault
in its output latch. Answers whether it passed. -/
def State.testSign (num : Nat) (cv : Curve) (material : Bytes) (x y : Nat) (glitch : BitVec 512) (s : State) : State × Bool :=
  let d := beNat (slice material 0 cv.bytes)
  let e := Config.testDigest.toNat
  let n := (s.idleSpindle true).getD 0
  let vp := (s.idleSpindle false).getD 8
  let s := s.fillEntropy n
  let p := s.spindle n
  let u := (p.ent.getD 0 0).toNat * 2 ^ 256 + (p.ent.getD 1 0).toNat
  let s := (s.setSpindle n { p with ent := p.ent.drop 3 }).usedSpindle { signing := true, len := lenSign num cv.w, key := d }
  let o := sm2Sign cv e d u
  if o.regen then (s, false)
  else
    let g := glitch.toNat
    let w := 2 ^ cv.w
    let ok := sm2Verify cv e ((o.r ^^^ (g / 2 ^ 256)) % w) ((o.s ^^^ (g % 2 ^ 256)) % w) x y
    let s := s.usedSpindle { signing := false, len := lenVerify num cv.w, key := 0 }
    if ok then (s, true) else (s.vasMark n vp, false)

/-- A `STATUS_KCV_MISMATCH` completion is counted (R241). -/
def State.kcvFailed (s : State) : State := { s with ks := { s.ks with kcvFails := satAdd s.ks.kcvFails 1 } }

/-- The inline result of a load: the handle, 0 where no slot is written, and the KCV (R236). -/
def keyInline (slot : Option Nat) (kcv : BitVec 32) : BitVec 64 :=
  inlAt 0 ((slot.map (0x02000000 + ·)).getD 0) ||| inlAt 4 kcv.toNat

/-! ## KEY_LOAD_BLOB (R226, R232) -/

/-- The domain of a blob's parent (check 3): none for a parent no host blob may name. -/
def State.parentDomain (s : State) (parent : Nat) : Option Dom :=
  if parent < 256 then some (BitVec.ofNat 8 parent)
  else if parent < 4096 then some (s.gen parent).dom
  else if parent = 0xFFFE then some 0
  else none

/-- Checks 1 to 4 of R226. -/
def blobRefusal (s : State) (dom : Dom) (bs : Bytes) : Option (BitVec 16) :=
  let h := blobHead bs
  let t := h.typ.toNat
  firstFail
    [(decide (128 ≤ bs.length ∧ bs.length = 128 + h.idLen.toNat) && leAt bs 2 2 == 128, stLengthMismatch),
     (leAt bs 0 1 == 1 && decide (1 ≤ t ∧ t ≤ 8 ∧ t ≠ 6) && usageOk h.typ h.usage dom && slice bs 112 16 == zeros 16 &&
       (t == 8) == (h.parent == 0xFFFE) && (t != 8 || decide (h.lineage.toNat < 256)), stBadParameter),
     (s.parentDomain h.parent.toNat == some dom, stNotPermitted),
     (t != 5 || (s.curve h.curve.toNat).isSome, stUsageDenied)]

/-- Checks 5 and 6 of R226: the parent is present and its generation current. Answers its wrap key. -/
def State.blobParent (p : Packet) (h : BlobHead) (dom : Dom) (s : State) : State × Except (BitVec 16) (BitVec 128) :=
  if h.parent = 0xFFFE then
    match s.readSlot 4 with
    | (s, .ok k) =>
      (s, if h.parentGen = 0 then .ok (wrapKey (blockBytes k.key128) 0xFFFE 0) else .error stParentInvalid)
    | (s, .error e) => (s, .error (if e = stSlotCorrupt then e else stParentInvalid))
  else
    let r : State × Except (BitVec 16) Parent :=
      if h.parent.toNat < 256 then
        (s, match s.dmkParent dom with | some q => .ok q | none => .error stParentInvalid)
      else if p.handleB = 0 then (s, .error stParentInvalid)
      else match s.kekParent (hIndex p.handleB) useWrap dom with
        | (s, .ok q) => (s, if q.num = h.parent then .ok q else .error stParentInvalid)
        | (s, .error e) => (s, .error (if e = stSlotCorrupt then e else stParentInvalid))
    match r with
    | (s, .ok q) => (s, if q.gen = h.parentGen then .ok q.wk else .error stParentInvalid)
    | (s, .error e) => (s, .error e)

/-- How check 7 of R226 takes a lineage: none refuses; `some none` loads as it stands; `some (some g)` adopts, writing that
entry (R232). A KEK names its own entry there (notes/assumptions/28.md). No adoption lowers a generation, that of a freed entry neither
(R227; DESIGN CHOICE, notes/assumptions/82.md). -/
def State.lineageOf (s : State) (h : BlobHead) (dom : Dom) (adopt : Bool) : Option (Option GenEntry) :=
  let e := h.lineage.toNat
  if h.typ = 8 then some none
  else
    let g := s.gen e
    let inTable := decide (256 ≤ e ∧ e < 4096)
    if h.typ = 7 then (if inTable ∧ g.kind = 2 ∧ g.dom = dom then some none else none)
    else if e = 0 then some none
    else if inTable ∧ g.kind = 3 ∧ g.dom = dom ∧ g.gen = h.lineageGen then some none
    else if adopt ∧ inTable ∧ (g.kind = 0 ∨ (g.kind = 3 ∧ g.dom = dom)) ∧ (s.genLast e).gen.toNat ≤ h.lineageGen.toNat then
      some (some { g with gen := h.lineageGen, kind := 3, dom })
    else none

/-- A key from a blob's head and material. -/
def keyOfBlob (h : BlobHead) (dom : Dom) (origin : Byte) (m id : Bytes) : NewKey :=
  { attr := { typ := h.typ, usage := h.usage, curve := h.curve, dom, parent := h.parent, parentGen := h.parentGen
              lineage := h.lineage, lineageGen := h.lineageGen, origin, kcv := kcvOf h.typ m }
    material := m, q := 0, z := 0, id }

/-- The companion of a secret key. -/
def NewKey.withPoint (k : NewKey) (cv : Curve) (x y : Nat) (z : Digest) : NewKey := { k with q := pointOf cv.w x y, z }

/-- Check 11 of R226 for an SM2 secret key; other keys pass. The cycles are those it adds. -/
def State.finishKey (k : NewKey) (s : State) : State × Option (NewKey × Nat) :=
  if k.attr.typ ≠ 5 then (s, some (k, 0))
  else match s.curve k.attr.curve.toNat with
    | none => (s, none)
    | some cv =>
      match s.derived k.attr.curve.toNat cv k.material k.id with
      | (s, none) => (s, none)
      | (s, some (x, y, z)) =>
        (s, some (k.withPoint cv x y z, lenDerive k.attr.curve.toNat cv.w + 17 * zBlocks k.id.length cv))

/-- A DMK from a transport blob. -/
def loadDmkBlob (x : Ctx) (h : BlobHead) (wk : BitVec 128) (bs : Bytes) (s : State) : Out :=
  let d : Dom := h.lineage.setWidth 8
  if (s.dmk d).isSome then x.refused s stNoFreeSlot
  else match unwrapBlob wk (slice bs 0 128) (bs.drop 128) with
    | none => x.refused s.tagFailed stTagMismatch
    | some m =>
      match s.rootKey, s.nvmStatus with
      | none, _ => x.refused s stParentInvalid
      | _, some st => x.refused s st
      | some root, none =>
        let (s, _) := s.installDmk d (BitVec.ofNat 256 (beNat (slice m 0 32))) root
        { s, cyc := 243 + 4 * ceilDiv h.idLen.toNat 16, inl := keyInline none (kcvOf 8 m) }

/-- `KEY_LOAD_BLOB`. -/
def keyLoadBody (x : Ctx) (s : State) : Out :=
  let p := x.c.pkt
  withData x s fun bs =>
    match blobRefusal s x.dom bs with
    | some st => x.refused s st
    | none =>
      let h := blobHead bs
      if h.typ = 5 ∧ (!s.spindlesIn 0 8 || s.isOut 0x51) then x.refused s stOutOfService
      else match s.blobParent p h x.dom with
      | (s, .error e) => x.refused s e
      | (s, .ok wk) =>
        match s.lineageOf h x.dom ((p.byteAt 38).getLsbD 0) with
        | none => x.refused s stParentInvalid
        | some adopt =>
          if h.typ = 8 then loadDmkBlob x h wk bs s
          else match s.target x.keys true (p.field 36 2) with
            | .error e => x.refused s e
            | .ok n =>
              match unwrapBlob wk (slice bs 0 128) (bs.drop 128) with
              | none => x.refused s.tagFailed stTagMismatch
              | some m =>
                let k := keyOfBlob h x.dom 2 m (bs.drop 128)
                if h.typ ≠ 7 ∧ h.lineage ≠ 0 ∧ adopt = none ∧ (s.gen h.lineage.toNat).kcv ≠ k.attr.kcv then
                  x.refused s.kcvFailed stKcvMismatch
                else match s.finishKey k with
                  | (s, none) => x.refused s stBadParameter
                  | (s, some (k, extra)) =>
                    let cyc := 243 + 4 * ceilDiv h.idLen.toNat 16 + extra
                    let inl := keyInline (some n) k.attr.kcv
                    match adopt with
                    | none => { s := s.installKey n .valid k, cyc, inl }
                    | some g =>
                      let w : GenWrite :=
                        { entry := h.lineage.toNat, val := { g with kcv := k.attr.kcv }, check := none, what := .fill n
                          after := [.reply (x.held 0 (cyc + 1920) inl [])] }
                      { s := (s.installKey n .reserved k).genWrite w, cyc, when_ := .later }

/-! ## KEY_GENERATE (R234, R237) -/

/-- A scalar drawn by rejection: the first of the source's draws, masked to the bit length of n, that lies in 1 to n − 2, and
the draws it took (R234); after 4,096 rejections the last draw reduced into that range. -/
def drawScalar (cv : Curve) (draws : Nat) : Nat × Nat :=
  let words := ceilDiv cv.w 256
  let bits := Nat.log2 cv.n + 1
  let v (k : Nat) : Nat :=
    ((List.range words).foldl (fun a i => a * 2 ^ 256 + (Config.entropy (draws + words * k + i)).toNat) 0) % 2 ^ bits
  match lowestFrom (fun k => decide (1 ≤ v k ∧ v k ≤ cv.n - 2)) 4096 0 with
  | some k => (v k, words * (k + 1))
  | none => (v 4095 % (cv.n - 2) + 1, words * 4096)

/-- The material that `KEY_GENERATE` draws for a type (R223, R234, R237). -/
def State.drawKey (typ : Byte) (cv : Curve) (s : State) : State × Bytes :=
  if typ = 5 then
    let (d, n) := drawScalar cv s.ks.draws
    (s.drawn n, slice (beBytes cv.bytes d) 0 64)
  else
    let w := digestBytes (Config.entropy s.ks.draws) ++ digestBytes (Config.entropy (s.ks.draws + 1))
    (s.drawn 2, slice (w.take (valueLen s typ 0)) 0 64)

/-- What `KEY_GENERATE` writes into the generation table: the entry it allocates for a KEK or a lineage (R237). -/
def State.allocated (s : State) (typ : Byte) (lineage : Bool) (kcv : BitVec 32) (dom : Dom) :
    Except (BitVec 16) (Option (Nat × GenEntry)) :=
  if typ = 7 ∨ lineage then
    match s.freeEntry with
    | none => .error stNoFreeSlot
    | some e =>
      .ok (some (e, { s.gen e with kind := if typ = 7 then 2 else 3, kcv := if typ = 7 then 0 else kcv, dom }))
  else .ok none

/-- `KEY_GENERATE` of a domain master key. -/
def generateDmk (x : Ctx) (s : State) : Out :=
  let d := x.c.pkt.byteAt 42
  match s.rootKey, s.nvmStatus with
  | none, _ => x.refused s stParentInvalid
  | _, some st => x.refused s st
  | some root, none =>
    if (s.gen d.toNat).present || (s.dmk d).isSome then x.refused s stBadParameter
    else
      let (s, m) := s.drawKey 8 curve0
      let (s, blob) := s.installDmk d (BitVec.ofNat 256 (beNat (slice m 0 32))) root
      { s, cyc := 271, inl := keyInline none (kcvOf 8 m), result := blob }

/-- The lineage fields of a generated key: those of the entry allocated, or of a SUCCESSOR, whose generation is the next. -/
def State.generateLineage (s : State) (x : Ctx) (alloc : Option (Nat × GenEntry)) : Except (BitVec 16) (BitVec 16 × BitVec 32) :=
  let p := x.c.pkt
  match alloc with
  | some (e, g) => .ok (BitVec.ofNat 16 e, g.gen)
  | none =>
    if (p.byteAt 38).getLsbD 2 then
      let e := p.field 40 2
      let g := s.gen e
      if ¬(256 ≤ e ∧ e < 4096) ∨ g.kind ≠ 3 ∨ g.dom ≠ x.dom then .error stParentInvalid
      else if genFull g then .error stBadParameter
      else .ok (BitVec.ofNat 16 e, g.gen + 1)
    else .ok (0, 0)

/-- `KEY_GENERATE` once its parent, curve, slot and entry are known. -/
def generateWith (x : Ctx) (id : Bytes) (q : Parent) (cv : Curve) (slot : Option Nat) (alloc : Option (Nat × GenEntry))
    (lin : BitVec 16 × BitVec 32) (m : Bytes) (s : State) : Out :=
  let p := x.c.pkt
  let typ := p.byteAt 32
  let usage : BitVec 16 := BitVec.ofNat 16 (p.field 34 2)
  let h := blobFor typ usage (p.byteAt 33) id.length q lin.1 lin.2 (s.draw.setWidth 96)
  let s := s.drawn 1
  let blob := wrapBlob q.wk h id m
  let k := keyOfBlob h x.dom 1 m id
  let base := 271 + 4 * ceilDiv id.length 16 + (if slot.isSome then 8 else 0)
  match s.finishKey k with
  | (s, none) => x.refused s stBadParameter
  | (s, some (k, extra)) =>
    let pt := pointAt cv.w (beBytes (2 * cv.bytes) k.q.toNat)
    let (s, ok) := if typ = 5 then s.testSign (p.byteAt 33).toNat cv m pt.1 pt.2 x.c.glitch else (s, true)
    if !ok then x.refused s stSelfCheck
    else
      let cyc := base + (if typ = 5 then extra + lenSign (p.byteAt 33).toNat cv.w + lenVerify (p.byteAt 33).toNat cv.w else 0)
      let inl := keyInline slot k.attr.kcv
      let result := blob ++ if typ = 5 then pointBytes cv.w pt.1 pt.2 else []
      match alloc with
      | none => { s := (match slot with | some n => s.installKey n .valid k | none => s), cyc, inl, result }
      | some (e, g) =>
        let g := if typ = 7 then g else { g with kcv := k.attr.kcv }
        let s := match slot with | some n => s.installKey n .reserved k | none => s
        { s := s.genWrite
            { entry := e, val := g, check := none, what := (match slot with | some n => .fill n | none => .nothing)
              after := [.reply (x.held 0 (cyc + 1920) inl result)] }
          cyc, when_ := .later }

/-- `KEY_GENERATE`. -/
def keyGenerateBody (x : Ctx) (s : State) : Out :=
  let p := x.c.pkt
  let typ := p.byteAt 32
  withData x s fun id =>
    if typ = 8 then generateDmk x s
    else if typ = 7 ∧ p.handleB ≠ 0 then x.refused s stBadParameter
    else match (if typ = 5 then s.curve (p.byteAt 33).toNat else some curve0) with
      | none => x.refused s stUsageDenied
      | some cv =>
        match s.parentOf p useWrap x.dom with
        | (s, .error e) => x.refused s e
        | (s, .ok q) =>
          match s.allocated typ ((p.byteAt 38).getLsbD 1) 0 x.dom with
          | .error e => x.refused s e
          | .ok alloc =>
            match s.generateLineage x alloc with
            | .error e => x.refused s e
            | .ok lin =>
              let (s', m) := s.drawKey typ cv
              if (p.byteAt 38).getLsbD 0 then
                match s.target x.keys false (p.field 36 2) with
                | .error e => x.refused s e
                | .ok n => generateWith x id q cv (some n) alloc lin m s'
              else generateWith x id q cv none alloc lin m s'

/-! ## KEY_WRAP (R238) -/

/-- A slot that cannot be wrapped: reserved, or of origin `PUBKEY_LOAD`. -/
def unwrappable (n : Nat) (k : Slot) : Bool := decide (n < 16) || k.attr.origin == 4 || k.attr.typ == 6

/-- `KEY_WRAP` op 0. -/
def keyWrapRewrapBody (x : Ctx) (s : State) : Out :=
  let p := x.c.pkt
  let n := hIndex p.handleA
  match s.readSlot n with
  | (s, .error e) => x.refused s e
  | (s, .ok k) =>
    if unwrappable n k then x.refused s stUsageDenied
    else if k.attr.typ = 7 ∧ p.handleB ≠ 0 then x.refused s stBadParameter
    else match s.parentOf p useWrap k.attr.dom with
      | (s, .error e) => x.refused s e
      | (s, .ok q) =>
        let h := blobFor k.attr.typ k.attr.usage k.attr.curve k.id.length q k.attr.lineage k.attr.lineageGen (s.draw.setWidth 96)
        { s := s.drawn 1, cyc := 191 + 4 * ceilDiv k.id.length 16, result := wrapBlob q.wk h k.id k.bytes }

/-- `KEY_WRAP` op 1: type, curve, usage, id_len and lineage in the positions of R237, bytes 32, 33, 34–35, 39 and 40–41
(notes/assumptions/14.md). -/
def keyWrapClearBody (x : Ctx) (s : State) : Out :=
  let p := x.c.pkt
  let typ := p.byteAt 32
  let usage : BitVec 16 := BitVec.ofNat 16 (p.field 34 2)
  let e := p.field 40 2
  withData x s fun bs =>
    if ¬(1 ≤ typ.toNat ∧ typ.toNat ≤ 5) ∨ !usageOk typ usage x.dom ∨ (typ ≠ 5 ∧ p.byteAt 39 ≠ 0) then
      x.refused s stBadParameter
    else if typ = 5 ∧ (s.curve (p.byteAt 33).toNat).isNone then x.refused s stUsageDenied
    else if p.handleB = 0 then x.refused s stUsageDenied
    else match s.kekParent (hIndex p.handleB) useClearImport x.dom with
      | (s, .error e) => x.refused s e
      | (s, .ok q) =>
        let g := s.gen e
        if e ≠ 0 ∧ (¬(256 ≤ e ∧ e < 4096) ∨ g.kind ≠ 3 ∨ g.dom ≠ x.dom) then x.refused s stParentInvalid
        else if e ≠ 0 ∧ genFull g then x.refused s stBadParameter
        else
          let len := valueLen s typ (p.byteAt 33).toNat
          let id := bs.drop len
          let h := blobFor typ usage (p.byteAt 33) id.length q (BitVec.ofNat 16 e) (if e = 0 then 0 else g.gen + 1)
            (s.draw.setWidth 96)
          { s := s.drawn 1, cyc := 225 + 4 * ceilDiv id.length 16
            result := wrapBlob q.wk h id (slice (bs.take len) 0 64) }

/-- `KEY_WRAP` op 2. -/
def keyWrapDmkBody (x : Ctx) (s : State) : Out :=
  let d := x.c.pkt.byteAt 42
  if x.dom ≠ 0 then x.refused s stNotPermitted
  else match s.readSlot 4 with
    | (s, .error e) => x.refused s (if e = stSlotCorrupt then e else stParentInvalid)
    | (s, .ok tk) =>
      match s.dmk d with
      | none => x.refused s stParentInvalid
      | some v =>
        { s := s.drawn 1, cyc := 191
          result := dmkBlob (wrapKey (blockBytes tk.key128) 0xFFFE 0) 0xFFFE d v (s.draw.setWidth 96) }

/-! ## KEY_REPLACE (R230) -/

/-- The blob of a `KEY_REPLACE` fits the slot: its type, domain and lineage, and the next generation. -/
def replaceRefusal (s : State) (dom : Dom) (k : Slot) (h : BlobHead) : Option (BitVec 16) :=
  let g := s.gen k.attr.lineage.toNat
  firstFail
    [(k.attr.lineage != 0 && k.attr.typ != 7 && h.typ == k.attr.typ && k.attr.dom == dom && h.lineage == k.attr.lineage &&
       (k.attr.typ != 5 || h.curve == k.attr.curve), stBadParameter),
     (!genFull g, stBadParameter), (h.lineageGen == g.gen + 1, stParentInvalid)]

/-- The steps of R230 from the unwrapped key on. -/
def replaceWith (x : Ctx) (old shadow : Nat) (k : NewKey) (e : Nat) (s : State) : Out :=
  let p := x.c.pkt
  if k.attr.kcv ≠ BitVec.ofNat 32 (p.field 32 4) then x.refused s.kcvFailed stKcvMismatch
  else match s.finishKey k with
    | (s, none) => x.refused s stBadParameter
    | (s, some (k, extra)) =>
      let cv := (s.curve k.attr.curve.toNat).getD curve0
      let pt := pointAt cv.w (beBytes (2 * cv.bytes) k.q.toNat)
      let (s, ok) := if k.attr.typ = 5 then s.testSign k.attr.curve.toNat cv k.material pt.1 pt.2 x.c.glitch else (s, true)
      if !ok then x.refused s stSelfCheck
      else
        let g := s.gen e
        let more := if k.attr.typ = 5 then extra + lenSign k.attr.curve.toNat cv.w + lenVerify k.attr.curve.toNat cv.w else 0
        let h := x.held 0 (2201 + 4 * ceilDiv k.id.length 16 + more) (inlAt 0 (g.gen + 1).toNat) []
        { s := (s.installKey shadow .shadow k).genWrite
            { entry := e, val := { g with gen := g.gen + 1, kcv := k.attr.kcv }, check := some g.gen
              what := .switch old shadow, after := [.reply h] }
          cyc := 2201 + 4 * ceilDiv k.id.length 16 + more, when_ := .later }

/-- `KEY_REPLACE`. -/
def keyReplaceBody (x : Ctx) (s : State) : Out :=
  let p := x.c.pkt
  let n := hIndex p.handleA
  withData x s fun bs =>
    if n = s.ru.reg.fpkSlot.toNat ∧ s.ru.reg.liveCount ≠ 0 then x.refused s stUsageDenied
    else match s.readSlot n with
      | (s, .error e) => x.refused s e
      | (s, .ok k) =>
        match blobRefusal s x.dom bs with
        | some st => x.refused s st
        | none =>
          let h := blobHead bs
          match replaceRefusal s x.dom k h with
          | some st => x.refused s st
          | none =>
            match s.blobParent p h x.dom with
            | (s, .error e) => x.refused s e
            | (s, .ok wk) =>
              match s.freeSlot x.keys with
              | none => x.refused s stNoFreeSlot
              | some sh =>
                match unwrapBlob wk (slice bs 0 128) (bs.drop 128) with
                | none => x.refused s.tagFailed stTagMismatch
                | some m => replaceWith x n sh (keyOfBlob h x.dom 2 m (bs.drop 128)) k.attr.lineage.toNat s

/-! ## KEY_INVALIDATE, KEY_EVICT, KEY_QUERY (R229, R239, R240) -/

/-- A generation advanced by one from where the writes requested before leave it, the reply with its new value after durability. -/
def advanceGen (x : Ctx) (e : Nat) (g : GenEntry) (s : State) : Out :=
  { s := s.genWrite { entry := e, val := g, check := none, what := .nothing
                      after := [.reply (x.held 0 2054 (inlAt 0 g.gen.toNat) [])] }
    cyc := 2054, when_ := .later }

/-- `KEY_INVALIDATE` op 0. -/
def keyInvalidateDmkBody (x : Ctx) (s : State) : Out :=
  let d := x.c.pkt.field 34 2
  let g := s.genLast d
  if d = 0 then x.refused s stUsageDenied
  else if 256 ≤ d ∨ !(s.gen d).present ∨ genFull g then x.refused s stBadParameter
  else advanceGen x d { g with gen := g.gen + 1 } s

/-- What refuses `KEY_INVALIDATE` of an entry. -/
def entryRefusal (x : Ctx) (s : State) : Option (BitVec 16) :=
  let e := x.c.pkt.field 34 2
  let g := s.gen e
  firstFail
    [(decide (256 ≤ e ∧ e < 4096) && (g.kind == 2 || g.kind == 3), stBadParameter), (g.dom == x.dom, stNotPermitted),
     (!genFull (s.genLast e), stBadParameter)]

/-- `KEY_INVALIDATE` op 1. -/
def keyInvalidateEntryBody (x : Ctx) (s : State) : Out :=
  let e := x.c.pkt.field 34 2
  match entryRefusal x s with
  | some st => x.refused s st
  | none => advanceGen x e { s.genLast e with gen := (s.genLast e).gen + 1 } s

/-- `KEY_INVALIDATE` op 2: an entry freed at the highest generation is spent (R227). -/
def keyInvalidateFreeBody (x : Ctx) (s : State) : Out :=
  let e := x.c.pkt.field 34 2
  match entryRefusal x s with
  | some st => x.refused s st
  | none =>
    let gen := (s.genLast e).gen + 1
    advanceGen x e { s.genLast e with gen, kind := if gen = 0xFFFFFFFF then 4 else 0 } s

/-- `KEY_EVICT`. -/
def keyEvictBody (x : Ctx) (s : State) : Out :=
  let n := hIndex x.c.pkt.handleA
  match s.slot n with
  | some k => if k.st == .valid || k.st == .corrupt then { s := s.emptySlot n, cyc := 88 } else x.refused s stBadHandle
  | none => x.refused s stBadHandle

/-- The 64 bytes of `KEY_QUERY` op 0 (R239). -/
def slotRecord (n : Nat) (k : Slot) : Bytes :=
  let a := k.attr
  leBytes 2 n ++ [a.typ, 1] ++ leBytes 2 a.usage.toNat ++ [a.curve, a.dom] ++ leBytes 2 a.parent.toNat ++
  leBytes 2 a.lineage.toNat ++ leBytes 4 a.parentGen.toNat ++ leBytes 4 a.lineageGen.toNat ++ leBytes 4 a.kcv.toNat ++
  [a.origin, 0, 0, 0] ++ leBytes 4 k.loaded.toNat ++ digestBytes k.z

/-- `KEY_QUERY` op 0. -/
def keyQuerySlotBody (x : Ctx) (s : State) : Out :=
  let n := hIndex x.c.pkt.handleA
  match s.readSlot n with
  | (s, .error e) => x.refused s e
  | (s, .ok k) => { s, cyc := 96, result := slotRecord n k }

/-- `KEY_QUERY` op 1. -/
def keyQueryEntryBody (x : Ctx) (s : State) : Out :=
  let e := x.c.pkt.field 34 2
  { s, cyc := 96, result := (s.gen e).bytes e }

/-- Slots in a state (R241). -/
def State.slotCount (s : State) (st : SlotSt) : Nat := (s.ks.slots.filter fun p => p.2.st == st).length

/-- Entries of kind KEK or lineage in use (R241). -/
def State.entriesUsed (s : State) : Nat := (s.ks.gens.filter fun p => p.2.kind == 2 || p.2.kind == 3).length

/-- `KEY_QUERY` op 2. -/
def keyQuerySummaryBody (_x : Ctx) (s : State) : Out :=
  { s, cyc := 96
    result := leBytes 2 (s.slotCount .valid) ++ leBytes 2 (s.slotCount .corrupt) ++ leBytes 2 s.entriesUsed ++
      leBytes 2 s.ks.dmks.length ++ leBytes 8 s.ks.revs.toNat }

/-! ## The rows -/

/-- `KEY_LOAD_BLOB`. -/
def execKeyLoadBlob (c : Cmd) (s : State) : Host.Outcome State Fault Refusal := .next (runOp 0x0701 none (spindled keyLoadBody) c s)

/-- `KEY_GENERATE`. -/
def execKeyGenerate (c : Cmd) (s : State) : Host.Outcome State Fault Refusal :=
  .next (runOp 0x0702 none (spindled keyGenerateBody) c s)

/-- `KEY_WRAP` op 0. -/
def execKeyWrapRewrap (c : Cmd) (s : State) : Host.Outcome State Fault Refusal :=
  .next (runOp 0x0703 (some 0) keyWrapRewrapBody c s)

/-- `KEY_WRAP` op 1. -/
def execKeyWrapClear (c : Cmd) (s : State) : Host.Outcome State Fault Refusal :=
  .next (runOp 0x0703 (some 1) keyWrapClearBody c s)

/-- `KEY_WRAP` op 2. -/
def execKeyWrapDmk (c : Cmd) (s : State) : Host.Outcome State Fault Refusal :=
  .next (runOp 0x0703 (some 2) keyWrapDmkBody c s)

/-- `KEY_REPLACE`. -/
def execKeyReplace (c : Cmd) (s : State) : Host.Outcome State Fault Refusal := .next (runOp 0x0704 none (spindled keyReplaceBody) c s)

/-- `KEY_INVALIDATE` op 0. -/
def execKeyInvalidateDmk (c : Cmd) (s : State) : Host.Outcome State Fault Refusal :=
  .next (runOp 0x0705 (some 0) keyInvalidateDmkBody c s)

/-- `KEY_INVALIDATE` op 1. -/
def execKeyInvalidateEntry (c : Cmd) (s : State) : Host.Outcome State Fault Refusal :=
  .next (runOp 0x0705 (some 1) keyInvalidateEntryBody c s)

/-- `KEY_INVALIDATE` op 2. -/
def execKeyInvalidateFree (c : Cmd) (s : State) : Host.Outcome State Fault Refusal :=
  .next (runOp 0x0705 (some 2) keyInvalidateFreeBody c s)

/-- `KEY_EVICT`. -/
def execKeyEvict (c : Cmd) (s : State) : Host.Outcome State Fault Refusal := .next (runOp 0x0706 none keyEvictBody c s)

/-- `KEY_QUERY` op 0. -/
def execKeyQuerySlot (c : Cmd) (s : State) : Host.Outcome State Fault Refusal :=
  .next (runOp 0x0707 (some 0) keyQuerySlotBody c s)

/-- `KEY_QUERY` op 1. -/
def execKeyQueryEntry (c : Cmd) (s : State) : Host.Outcome State Fault Refusal :=
  .next (runOp 0x0707 (some 1) keyQueryEntryBody c s)

/-- `KEY_QUERY` op 2. -/
def execKeyQuerySummary (c : Cmd) (s : State) : Host.Outcome State Fault Refusal :=
  .next (runOp 0x0707 (some 2) keyQuerySummaryBody c s)

end Sys2Proof.Machine
end

