-- ==== Sys2Proof/Machine/KeyEvents.lean ====
section
/-! DEFINITION. What happens in the key store without a command: the sweep (R222) and the entropy source's health (R233,
R235). -/

namespace Sys2Proof.Machine

/-- The shares of a value under a new mask (R222). -/
def remask (m : BitVec 512) (k : Slot) : Slot := { k with s0 := k.s0 ^^^ m, s1 := k.s1 ^^^ m }

/-- The sweep visits a slot: re-masked where the source delivers, then checked (R222, R235). The generations of a SHADOW or RESERVED
slot's key do not stand yet. -/
def State.sweepSlot (n : Nat) (s : State) : State :=
  match s.slot n with
  | none => s
  | some k =>
    let s := if s.entropyOk then (s.putSlot n (remask (Config.mask s.ks.draws) k)).drawn 2 else s
    if k.st == .corrupt then s
    else if k.check != k.icv then s.corruptSlot n k
    else if k.st == .valid && !s.gensOk k then s.orphanSlot n
    else s

/-- An entry of the domain key table fails its ICV: it is taken from its archive blob again, counted and logged like a reserved slot
(R221, R222; DESIGN CHOICE, notes/assumptions/81.md). -/
def State.reloadDmk (d : Nat) (s : State) : State :=
  let s : State := { s with ks := { s.ks with dmks := s.ks.dmks.del d, corrupted := satAdd s.ks.corrupted 1 } }
  let s := s.log 0x0023 1 2 (leBytes 2 (16 * d) ++ [1])
  match s.rootKey, s.kp.blobs.find d with
  | some root, some b => s.loadDmk root (BitVec.ofNat 8 d) b
  | _, _ => s

/-- With slot 16 × d the sweep visits entry d of the domain key table: re-masked where the source delivers, then checked (R222). -/
def State.sweepDmk (n : Nat) (s : State) : State :=
  match if n % 16 = 0 then s.ks.dmks.find (n / 16) else none with
  | none => s
  | some p =>
    let m : BitVec 256 := (Config.mask s.ks.draws).setWidth 256
    let s := if s.entropyOk then
        ({ s with ks := { s.ks with dmks := s.ks.dmks.put (n / 16) { p with s0 := p.s0 ^^^ m, s1 := p.s1 ^^^ m } } }).drawn 2
      else s
    if dmkCheck p.s0 p.s1 = p.icv then s else s.reloadDmk (n / 16)

/-- One visit of the sweep; a revolution ends after slot 4,095. -/
def sweepEvent (s : State) : State :=
  let n := s.ks.sweep.toNat
  let s := (s.sweepSlot n).sweepDmk n
  { s with ks := { s.ks with sweep := s.ks.sweep + 1, revs := if n = 4095 then s.ks.revs + 1 else s.ks.revs } }

/-- Packets that need entropy, decoded or dispatched and not begun, end (R235). -/
def State.endEntropyPackets (s : State) : State :=
  s.queues.foldl
    (fun s p =>
      let q : QId := BitVec.ofNat 14 p.1
      (p.2.inflight.filter fun f => !f.running && needsEntropy f.pkt &&
        (match f.stage with | .decoded | .dispatched _ => true | _ => false)).foldl
        (fun s f => s.postReply { f.refusal q stOutOfService with
          unit := match f.stage with | .dispatched u => u | _ => 0xFF }) s) s

/-- The entropy source leaves service: commands that wait for entropy end (R235), and so does a return of it that was testing (R262). -/
def State.entropyOut (s : State) : State :=
  if s.ks.entIn then
    ((({ s with ks := { s.ks with entIn := false } }).serviceChange 0x52 causeEntropy false).dropParked stOutOfService
      Prog.signs true).endEntropyPackets
  else s.returned 0x52 false

/-- A health test fails (R235). -/
def healthFailEvent (source : BitVec 1) (test : Byte) (s : State) : State :=
  let n := s.ks.entFails + 1
  let s := { s with ks := { s.ks with
      entFails := n, seeded := false, outputs := 0, entTesting := true, entFailCount := satAdd s.ks.entFailCount 1 } }
  let s := s.log 0x0024 1 2 [source.setWidth 8, test, BitVec.ofNat 8 n]
  if 3 ≤ n then s.entropyOut else s

/-- The generator reseeds (R233). -/
def reseedEvent (s : State) : State := { s with ks := { s.ks with outputs := 0 } }

/-- The start-up tests of the restarted sources end: the generator is seeded, and a source that `UNIT_SERVICE` returns is back in
service (R235, R258). -/
def restartTestsEvent (pass : Bool) (s : State) : State :=
  if !s.ks.entTesting then s
  else
    let back := (s.arb.returning.find 0x52).isSome
    let s := { s with ks := { s.ks with
        entTesting := false, seeded := pass, entFails := if pass then 0 else s.ks.entFails
        entIn := if back then pass else s.ks.entIn } }
    if back then ((if pass then s.serviceChange 0x52 causeCommand true else s.serviceChange 0x52 causeTest false)).returned 0x52 pass
    else s

/-! ## The rows -/

/-- A visit of the sweep. -/
def execSweepVisit (s : State) : Host.Outcome State Fault Refusal := .next (sweepEvent s)

/-- A health failure. -/
def execEntropyHealthFail (source : BitVec 1) (test : BitVec 8) (s : State) : Host.Outcome State Fault Refusal :=
  .next (healthFailEvent source test s)

/-- A reseed. -/
def execEntropyReseed (s : State) : Host.Outcome State Fault Refusal := .next (reseedEvent s)

end Sys2Proof.Machine
end

