-- ==== Sys2Proof/Machine/Skeining.lean ====
section
/-! DEFINITION. The Skein ports' shared operations: packets with their virtual channel, sequence and way round the ring
(R270, R271), credits (R273), reachability, and the commands and transfers that wait for another node (R280, R284). -/

namespace Sys2Proof.Machine

/-! ## Packets -/

/-- What a packet carries (R270). -/
inductive SkKind where
  | doorbell | routed | routedReply | hostBound | hostRead | readDone | journal
  | transfer | accept | refuse | done | query | imported | noRecord
  | census | enumerate | heartbeat | member | map | register
  deriving DecidableEq, Repr

/-- The virtual channel of a kind (R270). -/
def SkKind.vc : SkKind → Nat
  | .doorbell | .routed => 0
  | .routedReply | .hostBound => 1
  | .hostRead | .readDone => 2
  | .journal => 3
  | _ => 4

/-- The model's number of a kind, by which `Config.skeinType` gives its type byte. -/
def SkKind.num : SkKind → Nat
  | .doorbell => 0 | .routed => 1 | .routedReply => 2 | .hostBound => 3 | .hostRead => 4 | .readDone => 5 | .journal => 6
  | .transfer => 7 | .accept => 8 | .refuse => 9 | .done => 10 | .query => 11 | .imported => 12 | .noRecord => 13
  | .census => 14 | .enumerate => 15 | .heartbeat => 16 | .member => 17 | .map => 18 | .register => 19

/-- The receive buffers in flits (R270). -/
def vcBuffer (vc : Nat) : Nat := ([64, 32, 128, 32, 32] : List Nat).getD vc 0

/-- The flits of a packet: a header flit with 48 payload bytes, and data flits (R271). -/
def skFlits (p : SkPacket) : Nat := 1 + ceilDiv (p.payload.length - 48) 64

/-- The 64 bytes of a command packet (R41). -/
def packetBytes (p : Packet) : Bytes :=
  leBytes 2 p.opcode.toNat ++ leBytes 2 p.flags.toNat ++ leBytes 4 p.tag.toNat ++ leBytes 4 p.handleA.toNat ++
  leBytes 4 p.handleB.toNat ++ leBytes 8 p.dataPtr.toNat ++ leBytes 4 p.dataLen.toNat ++ leBytes 4 p.outLen.toNat ++
  leBytes 32 p.inl.toNat

/-! ## Ports -/

/-- The other port. -/
def otherPort : Port → Port
  | .east => .west | .west => .east

/-- The unit code of a port (R256). -/
def portCode : Port → Nat
  | .east => 0x60 | .west => 0x61

/-- A port carries traffic. -/
def SkPort.isUp (p : SkPort) : Bool := (p.st == .up || p.st == .lowRate) && p.inService

/-- The way to a node: the shorter way round a ring, East on a tie; the only path of a chain (R271). -/
def State.wayTo (s : State) (dest : BitVec 6) : Port :=
  if !s.skn.east.isUp then .west
  else if !s.skn.west.isUp then .east
  else if s.skn.ring then
    if 2 * Config.eastHops dest ≤ s.skn.reach.toNat then .east else .west
  else if Config.chainEast s.skn.lost dest then .east else .west

/-- A virtual channel of a port, read and set. -/
def SkPort.vcAt (p : SkPort) (vc : Nat) : Vc := p.vcs.toList.getD vc resetVc
def SkPort.setVc (vc : Nat) (v : Vc) (p : SkPort) : SkPort := { p with vcs := p.vcs.setIfInBounds vc v }

/-- `n` flits are sent against `n` credits (R273). -/
def Vc.send (n : Nat) (v : Vc) : Vc := { v with sent := v.sent + BitVec.ofNat 32 n, held := v.held - n }

/-- The flits of the packets kept. -/
def keptFlits (l : List (BitVec 32 × SkPacket)) : Nat := (l.map fun p => skFlits p.2).sum

/-- A replay buffer holds 32 groups of 8 flits: the oldest packets leave it (R268). -/
def keepReplay : List (BitVec 32 × SkPacket) → List (BitVec 32 × SkPacket)
  | [] => []
  | p :: rest => if keptFlits (p :: rest) ≤ 256 then p :: rest else keepReplay rest

/-! ## Groups (R268, R269) -/

/-- The bytes of a packet's flits: the header flit, then data flits, the last one filled with zeros (R271,
notes/assumptions/29.md). -/
def skBytes (p : SkPacket) : Bytes :=
  [p.dest, p.src, p.vc, p.kind] ++ leBytes 2 p.payload.length ++ leBytes 2 p.flags.toNat ++ leBytes 4 p.seq.toNat ++
  leBytes 4 p.tag.toNat ++ p.payload ++ zeros (64 * skFlits p - 16 - p.payload.length)

/-- A flit that carries nothing: a header of no virtual channel (notes/assumptions/29.md). -/
def idleFlit : Bytes := [0, 0, 0xFF] ++ zeros 61

/-- The IV of a group: the code of the direction in which a link carries it, and the group sequence (R269). -/
def groupIv (west : Bool) (gseq : BitVec 32) : BitVec 96 := (if west then 0x57#32 else 0x45#32) ++ gseq.setWidth 64

/-- A full group leaves: eight flits encrypted under the link key, with the group sequence and 12 bytes of the tag as its trailer
(R268, R269). -/
def State.sendGroup (w : Port) (flits : Bytes) (s : State) : State :=
  let k := s.port w
  match k.key with
  | none => s
  | some key =>
    let iv := groupIv (w == .west) k.txGroup
    let cipher := gcmStream key iv flits
    (s.setPort w { k with txGroup := k.txGroup + 1 }).emit (.group w k.txGroup cipher ((gcmTag key iv [] cipher).take 12))

/-- Flits join the group being formed; each eight of them leave. `n` bounds the groups. -/
def State.formGroups (w : Port) : Nat → Bytes → State → State
  | 0, bs, s => s.setPort w { s.port w with txFlits := bs }
  | n + 1, bs, s =>
    if bs.length < 512 then s.setPort w { s.port w with txFlits := bs }
    else State.formGroups w n (bs.drop 512) (s.sendGroup w (bs.take 512))

/-- The group being formed is filled with idle flits and leaves. -/
def State.fillGroup (w : Port) (s : State) : State :=
  let bs := (s.port w).txFlits
  if bs.isEmpty then s
  else s.formGroups w 1 (bs ++ (List.replicate (8 - bs.length / 64) idleFlit).flatten)

/-- A packet goes out on a link: its flits are counted against credits, take slots of the bandwidth table, are kept for replay
and join a group (R268, R273, R275). -/
def State.transmit (w : Port) (p : SkPacket) (s : State) : State :=
  let k := s.port w
  let v := (k.vcAt p.vc.toNat).send (skFlits p)
  let s := (s.setPort w { k.setVc p.vc.toNat v with
    replay := keepReplay (k.replay ++ [(v.sent, p)]), slot := k.slot + Fin.ofNat 64 (skFlits p) }).emit (.skein w p)
  s.formGroups w 3 (k.txFlits ++ skBytes p)

/-- A packet's flits leave the receive buffer of the port it came in on, and their credits return (R273). -/
def State.freeFlits (from_ : Option Port) (p : SkPacket) (s : State) : State :=
  match from_ with
  | none => s
  | some w =>
    let k := s.port w
    let v := k.vcAt p.vc.toNat
    (s.setPort w (k.setVc p.vc.toNat
      { v with freed := v.freed + BitVec.ofNat 32 (skFlits p), occupied := v.occupied - skFlits p })).emit
      (.credit w p.vc (skFlits p))

/-! ## The bandwidth table (R275) -/

/-- The first packet that waits at a port in a virtual channel. -/
def SkPort.first (k : SkPort) (vc : Nat) : Option (Option Port × SkPacket) := k.egress.find? (·.2.vc.toNat == vc)

/-- A virtual channel has a packet ready and the credits for it (R273). -/
def SkPort.ready (k : SkPort) (vc : Nat) : Bool := (k.first vc).any fun e => decide (skFlits e.2 ≤ (k.vcAt vc).held)

/-- The virtual channel that sends next: the owner of the next slot, or else the lowest-numbered one that can (R275). -/
def SkPort.turn (k : SkPort) : Option Nat :=
  let owner := k.live[k.slot].toNat
  if k.ready owner then some owner else (List.range 5).find? k.ready

/-- Packets that wait at a port that runs at full rate leave, each virtual channel's in order, as the bandwidth table gives them
their turns and their credits allow (R271, R273, R275, R290). -/
def State.drainTurns (w : Port) : Nat → State → State
  | 0, s => s
  | n + 1, s =>
    let k := s.port w
    match if k.st == .up && k.inService then k.turn.bind k.first else none with
    | none => s
    | some e => State.drainTurns w n (((s.setPort w { k with egress := k.egress.erase e }).transmit w e.2).freeFlits e.1 e.2)
def State.drainEgress (w : Port) (s : State) : State := (s.drainTurns w (s.port w).egress.length).fillGroup w

/-- A packet joins those that wait at a port, and leaves as soon as it can. -/
def State.sendOn (w : Port) (p : SkPacket) (s : State) : State :=
  let k := s.port w
  (s.setPort w { k with egress := k.egress ++ [(none, p)] }).drainEgress w

/-- The flags of a packet: bit 0 West-going, bit 1 rerouted (R271). -/
def skFlags (w : Port) (rerouted : Bool) : BitVec 16 :=
  BitVec.ofNat 16 ((if w = .west then 1 else 0) + 2 * rerouted.toNat)

/-- Packets held for a link go the other way, in order, with the rerouted flag; while no other port is up they wait where they
are (R288). -/
def State.reroute (w : Port) (s : State) : State :=
  let o := otherPort w
  if !(s.port o).isUp then s
  else
    let k := s.port w
    let ps := (k.replay.map fun p => ((none : Option Port), p.2)) ++ k.egress
    let s := s.setPort w { k with replay := [], egress := [] }
    let e := s.port o
    (s.setPort o { e with egress := e.egress ++ ps.map fun p => (p.1, { p.2 with flags := skFlags o true }) }).drainEgress o

/-- A port leaves service: a ring becomes a chain, and its packets are rerouted (R257, R288). -/
def State.portOut (w : Port) (st : PortSt) (s : State) : State :=
  let s := s.setPort w { s.port w with inService := false, st }
  { s with skn := { s.skn with ring := false } }.reroute w

/-- The key of an end-to-end sequence. -/
def seqKey (node vc : Nat) : Nat := 8 * node + vc

/-- A packet of this node, with the next sequence of its (destination, VC) (R271), to leave by each of some ports. -/
def State.sendBy (ws : List Port) (kind : SkKind) (dest : Nat) (tag : BitVec 32) (payload : Bytes) (s : State) : State :=
  let k := seqKey dest kind.vc
  let seq := s.skn.txSeq.get k 1
  let s := { s with skn := { s.skn with txSeq := s.skn.txSeq.put k (seq + 1) } }
  ws.foldl (fun s w => s.sendOn w { dest := BitVec.ofNat 8 dest, src := s.node, vc := BitVec.ofNat 8 kind.vc
                                    kind := Config.skeinType kind.num, flags := skFlags w false, seq, tag, payload }) s

/-- The most payload of one packet: 48 bytes in its header flit and 16 data flits (R271). -/
def skPayload : Nat := 1072

/-- A payload cut into packets: each but the last is full, and one that is full is followed by another
(notes/assumptions/29.md). -/
def skParts (bs : Bytes) : List Bytes := (List.range (bs.length / skPayload + 1)).map fun k => slice bs (skPayload * k) (min skPayload (bs.length - skPayload * k))

/-- A payload to a node by its way. -/
def State.sendTo (kind : SkKind) (dest : BitVec 6) (tag : BitVec 32) (payload : Bytes) (s : State) : State :=
  (skParts payload).foldl (fun s bs => s.sendBy [s.wayTo dest] kind dest.toNat tag bs) s

/-- A member is reachable: a port is up, and it is in the member table and not lost (R281, R288). -/
def State.reaches (s : State) (n : BitVec 6) : Bool :=
  n != s.skn.nodeId && (s.skn.east.isUp || s.skn.west.isUp) && (s.skn.members.find n.toNat).isSome && !s.skn.lost.contains n

/-! ## Routed commands (R279, R280) -/

/-- The owner of an external credential's entry. -/
def State.rangeOwner (s : State) (fp : BitVec 128) : BitVec 6 := s.skn.map.get (rangeIndex fp) 0

/-- A register command is sent on to its owner, with its data, and its reply waits; an owner that is not reachable is refused
(R280, R281). `cyc` is the command's fixed cycles on this node. -/
def State.route (x : Ctx) (owner : BitVec 6) (data : Bytes) (cyc : Nat) (s : State) : Out :=
  if !s.reaches owner then x.refused s stNodeUnreachable
  else
    let tag := s.skn.nextTag
    let r : Routed := { h := x.held 0 cyc 0 (if x.c.pkt.opcode = 0x0302 then zeros 32 else []), owner }
    let s := { s with skn := { s.skn with nextTag := tag + 1, routed := s.skn.routed.put tag.toNat r } }
    { s := s.sendTo .routed owner tag (packetBytes x.c.pkt ++ [x.dom] ++ data), cyc, when_ := .later }

/-- Checks 3 to 8 of R47 for a register command whose owner decode could not tell; the others have passed them there. -/
def State.lateChecks (x : Ctx) (s : State) : Option (BitVec 16) :=
  if s.ownerAtDecode x.c.pkt = some s.skn.nodeId then none
  else match opInfo x.c.pkt.opcode with
    | none => none
    | some i => decodeRest s x.c.q x.dom x.c.pkt i .host

end Sys2Proof.Machine
end

