-- ==== Sys2Proof/Machine/Recovering.lean ====
section
/-! DEFINITION. Checkpoints and rebuilds: the image and its root (R131 to R135), what a rebuild applies for each journal record
(R96, R126, R140, R286, R378), and how a recovery ends (R99). -/

namespace Sys2Proof.Machine

/-! ## The image (R133, R134) -/

/-- The length of an image, and of a chunk. -/
def imageLen : Nat := 1080098816
def chunkLen : Nat := 1048576

/-- The checkpoint key (R134). -/
def ckptKey (jk : BitVec 256) (id : Nat) : BitVec 128 := blockOf (sm3First 16 (digestBytes jk ++ [0x43] ++ leBytes 8 id))

/-- The 256-byte header. -/
def imageHeader (time : BitVec 32) (id jseq : Nat) (node : Byte) : Bytes :=
  leBytes 2 1 ++ leBytes 2 1031 ++ leBytes 4 time.toNat ++ leBytes 8 Config.serial.toNat ++ leBytes 8 id ++ leBytes 8 jseq ++
  [node] ++ zeros 223

/-- The plaintext of chunk `c`, 1 to 1,030: pools, transfers, stash, buckets. -/
def chunkPlain (pools : Tab Pool) (transfers : Tab Transfer) (stash : Tab Entry) (bucket : Nat → List Entry) (c : Nat) : Bytes :=
  if c < 5 then (List.range 16384).flatMap fun k =>
    ((pools.find (16384 * (c - 1) + k)).map Pool.bytes).getD (zeros 64)
  else if c = 5 then (List.range 16384).flatMap fun k => ((transfers.find k).map Transfer.bytes).getD (zeros 64)
  else if c = 6 then slice ((List.range 4096).flatMap fun k => entryBytes (stash.get k freeEntry)) 0 chunkLen
  else (List.range 8192).flatMap fun k => (bucket (8192 * (c - 7) + k)).flatMap entryBytes

/-- The IV of a chunk. -/
def chunkIv (c : Nat) : BitVec 96 := BitVec.ofNat 96 c

/-- One level of the tree: neighbours paired, an unpaired last node unchanged. -/
def pairUp : List Digest → List Digest
  | a :: b :: rest => sm3 ([0x01] ++ digestBytes a ++ digestBytes b) :: pairUp rest
  | l => l

/-- The root over the leaves. -/
def treeRoot : Nat → List Digest → Digest
  | 0, l => l.headD 0
  | n + 1, l => treeRoot n (pairUp l)

/-- The root of an image: its header, and each chunk's ciphertext with its tag. -/
def imageRoot (header : Bytes) (chunks : List (Bytes × Bytes)) : Digest :=
  treeRoot 11 (sm3 ([0x00] ++ header) :: chunks.map fun p => sm3 ([0x00] ++ p.1 ++ p.2))

/-- The digest blocks of an image's tree (R134). -/
def treeBlocks : Nat := 1030 * 16385 + 5 + 1030 * 2

/-- The blocks of an image that pass the SM4 pipeline: J0, the header and the data of each chunk, and the zero block. -/
def imageBlocks : Nat := 1030 * (1 + 16 + 65536) + 1

/-- The buckets as the register stands, with those of the write-back buffer. -/
def Register.allBuckets (r : Register) : Tab (List Entry) := r.wbuf.foldl (fun t p => t.put p.1 p.2) r.buckets

/-- Serials of a pool that commands in flight hold outside a lock. -/
def State.openSerials (s : State) (n : PoolId) : List Nat :=
  (s.issuesInFlight.filter fun r => r.pool == n && !r.locked).map (·.serial.toNat)

/-- serial_next lowered past the highest serials that no record has consumed yet. -/
def lowerNext (held : List Nat) : Nat → Nat → Nat
  | 0, next => next
  | fuel + 1, next => if 0 < next ∧ held.contains (next - 1) then lowerNext held fuel (next - 1) else next

/-- A pool as the journal sees it at a cut: units reserved by commands in flight stand in A (R131). -/
def State.journalPool (s : State) (n : Nat) (p : Pool) : Pool :=
  let held := s.openSerials (BitVec.ofNat 16 n)
  { p with a := p.a + held.length, r := p.r - held.length, next := lowerNext held held.length p.next }

/-- The header of a running checkpoint. -/
def Ckpt.header (k : Ckpt) (node : Byte) : Bytes := imageHeader k.time k.id k.jseq node

/-- The sealed chunks of a running checkpoint: ciphertext and tag, chunks 1 to 1,030. -/
def Ckpt.chunks (k : Ckpt) (ck : BitVec 128) (node : Byte) : List (Bytes × Bytes) :=
  (List.range 1030).map fun i =>
    let c := i + 1
    let ct := gcmStream ck (chunkIv c) (chunkPlain k.pools k.transfers k.stash (fun b => k.buckets.get b emptyBucket) c)
    (ct, gcmTag ck (chunkIv c) (k.header node) ct)

/-- The image as it lies in host memory from offset 0 (R133). -/
def imageBytes (header : Bytes) (chunks : List (Bytes × Bytes)) : Bytes :=
  slice (header ++ chunks.flatMap Prod.snd) 0 65536 ++ chunks.flatMap Prod.fst

/-! ## Loading an image (R138) -/

/-- The root record of a checkpoint in FeRAM (R135). -/
def State.rootRecord (s : State) (id : Nat) : Option RootRec :=
  let at_ (bank : Bool) : Option RootRec := (rootOf (s.kp.feRead bank (rootOff id) 96)).filter (·.id == id)
  match at_ false with
  | some r => some r
  | none => at_ true

/-- The chunks of an image: ciphertext and tag. -/
def chunksOf (bs : Bytes) : List (Bytes × Bytes) :=
  (List.range 1030).map fun i => (slice bs (65536 + i * chunkLen) chunkLen, slice bs (256 + 16 * i) 16)

/-- An image agrees with its root record: the header, every chunk's tag, the root. -/
def imageOk (ck : BitVec 128) (r : RootRec) (bs : Bytes) : Bool :=
  let header := slice bs 0 256
  let chunks := chunksOf bs
  leAt bs 0 2 == 1 && leAt bs 2 2 == r.leaves && leAt bs 4 4 == r.time.toNat && leAt bs 8 8 == Config.serial.toNat &&
  leAt bs 16 8 == r.id && leAt bs 24 8 == r.jseq &&
  (chunks.zipIdx.all fun p => gcmTag ck (chunkIv (p.2 + 1)) header p.1.1 == p.1.2) && imageRoot header chunks == r.root

/-- The records of a chunk that are listed: those a reader finds something in. -/
def tabOf {α : Type} (f : Nat → Option α) (n : Nat) : Tab α := (List.range n).filterMap fun k => (f k).map fun v => (k, v)

/-- An entry that a rebuild restores has REBUILT set (R141). -/
def rebuiltEntry (e : Entry) : Entry := if isLive e then { e with flags := e.flags ||| 8 } else e

/-- The register, pools and transfers of an image loaded. -/
def State.loadImage (ck : BitVec 128) (bs : Bytes) (s : State) : State :=
  let plain (c : Nat) : Bytes := gcmStream ck (chunkIv c) (slice bs (65536 + (c - 1) * chunkLen) chunkLen)
  let pools := tabOf (fun n => poolOf (slice (plain (1 + n / 16384)) (64 * (n % 16384)) 64)) 65536
  let transfers := tabOf (fun k => transferOf (slice (plain 5) (64 * k) 64)) 16384
  let entry (bs : Bytes) (k : Nat) : Entry := rebuiltEntry (entryOf (slice bs (32 * k) 32))
  let stash := tabOf (fun k => some (entry (plain 6) k) |>.filter isLive) 4096
  let bucket (b : Nat) : List Entry := (List.range 4).map fun k => entry (plain (7 + b / 8192)) (4 * (b % 8192) + k)
  let buckets := tabOf (fun b => some (bucket b) |>.filter (·.any isLive)) 8388608
  { s with led := { s.led with pools, dram := pools, pendingWt := [], live := sumPools pools }
           skn := { s.skn with transfers }
           ru := { s.ru with reg := { s.ru.reg with
             buckets, stash, wbuf := [], accepted := [], changed := []
             stashHigh := if s.ru.reg.stashHigh.toNat < stash.length then BitVec.ofNat 13 stash.length else s.ru.reg.stashHigh } } }

/-- The register, the pool table and the transfer table emptied. -/
def State.emptyRegister (s : State) : State :=
  { s with led := { s.led with pools := [], dram := [], pendingWt := [], live := zeroTotals }
           skn := { s.skn with transfers := [] }
           ru := { s.ru with reg := { s.ru.reg with buckets := [], stash := [], wbuf := [], accepted := [], changed := [] } } }

/-! ## Applying journal records (R140) -/

/-- REBUILD marked on a pool, where it exists. -/
def State.markRebuild (n : PoolId) (s : State) : State :=
  match s.pool n with
  | none => s
  | some p => ((s.putPool n { p with rebuild := true }).groupMark).raise evFrozen

/-- The counter deltas of a record of `n` units (R96). -/
def recordDelta (r : JRec) : Delta :=
  let n : Int := r.delta.toNat
  match r.typ.toNat with
  | 0x02 => { l := n, a := n }
  | 0x03 => if r.flags.getLsbD 0 then { r := -1, i := 1 } else { a := -1, i := 1 }
  | 0x04 => match r.aux.toNat % 256 with
    | 1 => { a := -1, r := 1 }
    | 2 => { a := 1, r := -1 }
    | _ => {}
  | 0x05 => { i := -1, s := 1 }
  | 0x06 => { i := -1, v := 1 }
  | 0x07 => { v := -n, a := n }
  | 0x08 => { a := -n, r := n }
  | 0x09 | 0x10 | 0x12 => { a := n, r := -n }
  | 0x0A => { a := -n, t := n }
  | 0x0B => { t := -n, x := n }
  | 0x0C => { m := n, a := n }
  | 0x0D => { t := -n, a := n }
  | 0x0E => if r.flags = 5 then { t := -n, w := n } else { a := -n, w := n }
  | 0x11 => { a := -n, w := n }
  | _ => {}

/-- One more than the last serial a record consumes; 0 for a record that consumes none (R140). -/
def recordNext (r : JRec) : Nat :=
  match r.typ.toNat with
  | 0x03 | 0x04 => r.serial.toNat + 1
  | 0x08 => r.serial.toNat + r.delta.toNat
  | _ => 0

/-- What a record does to a pool beside its counters. -/
def recordPool (r : JRec) (p : Pool) : Pool :=
  let p := { p with next := max p.next (recordNext r) }
  match r.typ.toNat with
  | 0x0F => { p.withCauses r.flags with rebuild := p.rebuild || r.flags.getLsbD 5 || r.flags.getLsbD 3 }
  | 0x10 => { p.withCauses r.flags with rebuild := p.rebuild || r.flags.getLsbD 3 }
  | 0x11 => { p with st := 3 }
  | _ => p

/-- The register entry a record leaves (R105, R126): the operation, and the record's entry. -/
def recordEntry (s : State) (r : JRec) (time : BitVec 32) : Option RegOp :=
  let found : Option Entry := (s.ru.reg.find r.fp).map Prod.fst
  let ent : Entry := { fp := r.fp, pool := r.pool, serial := r.serial, state := stIssued, admits := 0
                       limit := r.aux.setWidth 8, node := r.node, flags := 8, time }
  match r.typ.toNat with
  | 0x03 => some (.insert { ent with flags := 8 ||| (r.aux >>> 8).setWidth 8 &&& 3 ||| (if r.flags.getLsbD 0 then 4 else 0) })
  | 0x05 => found.map fun e => .update (rebuiltEntry { e with state := stSpoiled, time })
  | 0x06 => found.map fun e => .update (rebuiltEntry { e with state := stVoided, time })
  | 0x20 => found.map fun e => .update (rebuiltEntry { e with admits := r.admits, time })
  | 0x21 => some (.insert { ent with serial := 0, state := stExternal })
  | 0x22 => if r.flags = 0 then some (.free r.fp) else none
  | _ => none

/-- A live entry of a pool. -/
def ofPool (n : PoolId) (e : Entry) : Bool := isLive e && e.pool == n

/-- The live entries of a pool in one bucket are freed; the second component counts them (R121). -/
def Register.sweepBucket (n : PoolId) (b : Nat) (r : Register) : Register × Nat :=
  let mine := ((r.bucket b).zipIdx.filter fun e => ofPool n e.1).map Prod.snd
  (mine.foldl (fun r k => r.freeAt (.bucket b k)) r, mine.length)

/-- The stash pass that ends a sweep (R121). -/
def Register.sweepStash (n : PoolId) (r : Register) : Register × Nat :=
  ({ r with stash := r.stash.filter fun p => !ofPool n p.2 }, (r.stash.filter fun p => ofPool n p.2).length)

/-- The reply of a purge that no command waits for: a rebuild's. -/
def noReply : Held :=
  { q := 0, via := .host, id := 0, tag := 0, status := 0, unit := 0, chainEnd := false, truncated := false, notify := false
    sqHead := 0, resultLen := 0, cycles := 0, arbWait := 0, inl := 0, write := none }

/-- The buckets that a sweep reads. -/
def bucketCount : Nat := 8388608

/-- Every live entry of a pool is freed, buckets first, then the stash; the moves of R111 take no stash entry of the pool
(R121). The second component counts them. -/
def Register.purge (n : PoolId) (r : Register) : Register × Nat :=
  let before := r.sweeps
  let r := { r.settled with sweeps := { pool := n, next := 0, count := 0, h := noReply } :: before }
  let (r, k) := (r.allBuckets.map Prod.fst).foldl
    (fun a b => let (r, k) := a.1.sweepBucket n b; (r, a.2 + k)) (r, 0)
  let (r, j) := r.sweepStash n
  ({ r with sweeps := before, ops := satAdd r.ops bucketCount }, k + j)

/-- The MARK record of a source after an import of a sequence (R378, R380). -/
def markWith (t : Transfer) (seq : Nat) : Transfer :=
  let high := bitsAt t.card.toNat 96 64
  let win := bitsAt t.card.toNat 160 96
  let (high', win') :=
    if high < seq then (seq, (win * 2 + 1) * 2 ^ (seq - high - 1) % 2 ^ 96)
    else (high, if seq < high ∧ high - 1 - seq < 96 then win ||| 2 ^ (high - 1 - seq) else win)
  { t with card := BitVec.ofNat 256 (bitsAt t.card.toNat 0 96 + high' * 2 ^ 96 + win' * 2 ^ 160) }

/-- A new MARK record of a source, with one sequence imported. -/
def newMark (serial : BitVec 64) (kcv time : BitVec 32) (jseq seq : Nat) : Transfer :=
  { id := 0, kind := 2, st := 3, pool := 0, units := 0, peer := 0, dom := 0, peerPool := 0, time, jseq := BitVec.ofNat 64 jseq
    card := BitVec.ofNat 256 (serial.toNat + kcv.toNat * 2 ^ 64 + seq * 2 ^ 96) }

/-- The row of the MARK record of a source (R378). -/
def State.markRow (s : State) (serial : BitVec 64) (kcv : BitVec 32) : Option (Nat × Transfer) :=
  s.skn.transfers.find? fun p =>
    p.2.kind == 2 && p.2.st == 3 && bitsAt p.2.card.toNat 0 64 == serial.toNat && bitsAt p.2.card.toNat 64 32 == kcv.toNat

/-- The sequence in an identifier (R283, R376). -/
def idSeq (id : BitVec 64) : Nat := id.toNat % 2 ^ 56

/-- A slip of a source is noted as imported. -/
def State.noteImport (serial : BitVec 64) (kcv time : BitVec 32) (jseq : Nat) (id : BitVec 64) (s : State) : State :=
  match s.markRow serial kcv with
  | some (row, t) => s.setTransfer row (markWith t (idSeq id))
  | none => match s.freeRow with
    | some row => s.setTransfer row (newMark serial kcv time jseq (idSeq id))
    | none => s

/-- The transfer records a journal record creates or frees (R283, R286, R378). -/
def State.recordTransfer (r : JRec) (seq : Nat) (time : BitVec 32) (s : State) : State :=
  let id : BitVec 64 := r.fp.setWidth 64
  let hash := bitsAt r.fp.toNat 64 64
  let dom : Dom := ((s.pool r.pool).map (·.dom)).getD 0
  let base : Transfer := { id, kind := 1, st := 2, pool := r.pool, units := r.delta, peer := (Config.rebuiltPeer id).1, dom
                           peerPool := (Config.rebuiltPeer id).2, time, jseq := BitVec.ofNat 64 seq, card := 0 }
  let add (t : Transfer) : State := match s.freeRow with | some row => s.setTransfer row t | none => s
  let drop : State := match s.transferRow id with | some (row, _) => s.freeTransfer row | none => s
  match r.typ.toNat with
  | 0x0A => if hash = 0 then add base
      else add { base with kind := 2, peer := 0, peerPool := 0
                           card := BitVec.ofNat 256 (hash + r.serial.toNat % 65536 * 2 ^ 64) }
  | 0x0B | 0x0D | 0x25 => drop
  | 0x0C => if r.flags.getLsbD 0 then s.noteImport (BitVec.ofNat 64 hash) r.aux time seq id
      else add { base with kind := 3, st := 1, peer := r.node }
  | 0x24 => add { base with kind := 4, st := 1, pool := 0, units := 0, dom := 0 }
  | _ => s

/-- One record applied by a rebuild; the second component tells whether its counters could be (R140). -/
def State.applyRecord (r : JRec) (seq : Nat) (time : BitVec 32) (s : State) : State × Bool :=
  if r.typ = 0x01 then
    let p := newPool ((slice (fpBytes r.fp) 5 1).headD 0) r.serial.toNat (leAt (fpBytes r.fp) 0 5) (leAt (fpBytes r.fp) 6 2)
    (s.putPool r.pool { p with rebuild := r.flags.getLsbD 0 }, true)
  else if 0x20 ≤ r.typ then
    let s := match recordEntry s r time with | some op => (s.regRun op).1 | none => s
    let s := if r.typ = 0x22 ∧ r.flags = 1 then { s with ru := { s.ru with reg := (s.ru.reg.purge r.pool).1 } } else s
    (s.recordTransfer r seq time, true)
  else
    match s.change r.pool (recordDelta r) (recordPool r) with
    | (s, false) => (s.markRebuild r.pool, false)
    | (s, true) =>
      let s := match recordEntry s r time with | some op => (s.regRun op).1 | none => s
      (s.recordTransfer r seq time, true)

/-- One record of a batch fed to the rebuild; the counts are applied and not applied (R140). -/
def State.feedRecord (bs : Bytes) (s : State) (done left : Nat) : State × Nat × Nat :=
  let seq := leAt bs 0 8
  let r := jrecOf bs
  if s.led.durable.jseq < seq then (s, done, left + 1)
  else
    let rb := s.ru.rb
    let next := chainNext rb.head (slice bs 0 48)
    let s' := { s with ru := { s.ru with rb := { rb with expect := rb.expect + 1 } } }
    if !rb.broken && (digestBytes next).take 16 == slice bs 48 16 then
      let s' := { s' with ru := { s'.ru with rb := { s'.ru.rb with head := next } } }
      match s'.applyRecord r seq (BitVec.ofNat 32 (leAt bs 36 4)) with
      | (t, true) => ({ t with ru := { t.ru with rb := { t.ru.rb with last := seq } } }, done + 1, left)
      | (t, false) => (t, done, left + 1)
    else
      let s' := { s' with ru := { s'.ru with rb := { s'.ru.rb with broken := true } } }
      (s'.markRebuild r.pool, done, left + 1)

/-- The records of a batch in order. -/
def State.feed : List Bytes → State → Nat → Nat → State × Nat × Nat
  | [], s, done, left => (s, done, left)
  | b :: rest, s, done, left =>
    let (s, d, l) := s.feedRecord b done left
    State.feed rest s d l

/-- A batch carries the next expected sequence first and has no gap (R139). -/
def batchOk : Nat → List Bytes → Bool
  | _, [] => true
  | k, b :: rest => leAt b 0 8 == k && batchOk (k + 1) rest

/-- The 64-byte records of a batch. -/
def recordsOf (bs : Bytes) : List Bytes := (List.range (bs.length / 64)).map fun k => slice bs (64 * k) 64

/-! ## The end of a recovery (R99, R140) -/

/-- Transfers that were under way are in doubt (R283, R378, R402). -/
def State.doubtTransfers (s : State) : State :=
  { s with skn := { s.skn with transfers := s.skn.transfers.mapVals fun _ t =>
      if (t.kind == 1 || t.kind == 2) && t.st == 1 then { t with st := 2 } else t } }

/-- The remainder of R99 from the comparison of sums: TOTALS, RECOVERY records, flags carried forward, the recovery group with the
chosen record's totals while a device-wide flag is in force (R93). -/
def State.finishRecovery (s : State) : State :=
  let d := s.led.durable
  let off := s.led.totals || d.totals || !((sumPools s.led.pools).agrees d.tot)
  let s := s.doubtTransfers
  let s := { s with led := { s.led with
      strip := s.led.strip || d.strip, scour := s.led.scour || d.scour, totals := off, live := sumPools s.led.pools
      recovered := true } }
  let s := s.led.pools.foldl (fun s p => if p.2.r = 0 then s else s.force (.recover (BitVec.ofNat 16 p.1))) s
  let marks := s.led.totals || s.led.scour || s.led.pools.any fun p => p.2.rebuild || p.2.checker
  let tot : Option Totals := if s.deviceFrozen then some d.tot else s.led.group.setTotals
  { s with led := { s.led with group := { s.led.group with recovery := true, mark := s.led.group.mark || marks, setTotals := tot } } }

/-- A rebuild that is consistent: the chain never broke, and the last record and the head are the durable ones (R140). -/
def State.consistent (s : State) : Bool :=
  !s.ru.rb.broken && s.ru.rb.expect == s.led.durable.jseq + 1 && s.ru.rb.head == s.led.durable.head

/-- Every pool is marked REBUILD. -/
def State.markAll (s : State) : State :=
  s.led.pools.foldl (fun s p => if p.2.rebuild then s else s.markRebuild (BitVec.ofNat 16 p.1)) s

end Sys2Proof.Machine
end

