-- ==== Sys2Proof/Machine/Register.lean ====
section
/-! DEFINITION. The register opcodes, class 0x03: admission, lookups, enrolment, purging (R115 to R123), journal acknowledgement
(R130), checkpoints (R131 to R136) and the rebuild (R137 to R141). -/

namespace Sys2Proof.Machine

/-- A refusal with inline_result of the entry concerned (R118). -/
def refusedWith (s : State) (st : BitVec 16) (cyc : Nat) (inl : BitVec 64) : Out := { s, status := st, cyc, inl }

/-- The identity of an external credential (R106). -/
def credentialIdentity (bs : Bytes) : Bytes := 0x02 :: bs

/-- The pool of a register entry is marked REBUILD (R122). -/
def State.staleFor (s : State) (n : PoolId) : Bool := (s.pool n).any (·.rebuild)

/-- A device ticket's identity as `LOOKUP` and `PURGE` op 0 name it (R119, R121). -/
def namedTicket (p : Packet) : Byte × Bytes :=
  (p.byteAt 33, ticketIdentity (p.byteAt 33) (BitVec.ofNat 16 (p.field 34 2)) (BitVec.ofNat 40 (p.field 36 5)))

/-! ## ADMIT (R116, R117) -/

/-- What authenticates a presented ticket or credential, with the fixed cycles of check 5, of checks 6 to 9, and of success. -/
structure AdmitPath where
  check5 : Nat
  later : Nat
  done : Nat
  deriving DecidableEq, Repr

/-- The cycle counts of R115 and R117: `kind` 1 for a credential, else by seal mode; `n` is the length of header ‖ body, or of
the credential's identity. -/
def admitPath (mode : Byte) (n : Nat) : AdmitPath :=
  if mode = 0 then
    let k := identityBlocks n
    { check5 := 42 + 17 * k, later := 42 + 17 * k, done := 62 + 17 * k }
  else if mode = 1 then
    let k := ceilDiv (41 + n) 64
    { check5 := 40988 + 17 * k, later := 41008 + 17 * k, done := 41028 + 17 * k }
  else
    let m := ceilDiv n 16
    { check5 := 60 + m, later := 80 + m, done := 100 + m }

/-- Checks 2 to 4 of R117. -/
def admitEarly (s : State) (n : PoolId) : Option (BitVec 16) :=
  firstFail [(!s.ru.rb.needed, stRebuilding), ((s.pool n).isSome, stNotFound), (s.room 1, stBackpressure)]

/-- Checks 7 to 9 of R117, on the entry found. -/
def admitLate (s : State) (n : PoolId) (mode : Byte) (e : Entry) : Option (BitVec 16) :=
  firstFail
    [(!s.staleFor n, stRebuildMismatch),
     (e.state == (if mode = 0 then stExternal else stIssued) && e.pool == n && e.flags &&& 3 == mode, stStateConflict),
     (decide (e.admits < e.limit), stAdmitLimit)]

/-- The admission once authenticated: checks 6 to 9, then the entry and its record. -/
def admitEntry (mode : Byte) (path : AdmitPath) (fp : BitVec 128) (x : Ctx) (s : State) : Out :=
  let n := x.pool
  match s.regFind fp with
  | (s, none) => refusedWith s stNotFound path.later 0
  | (s, some (e, place)) =>
    match admitLate s n mode e with
    | some st => refusedWith s st path.later (s.entryInline e place)
    | none =>
      let e' : Entry := { e with admits := e.admits + 1, time := s.gctl.time }
      let s := { s with ru := { s.ru with reg := s.ru.reg.setEntry place e' } }
      let s := (s.chain { typ := 0x20, pool := n, serial := e.serial, node := e.node, admits := e'.admits, fp }).noteChange fp
      { s, cyc := path.done + 1920, inl := s.settledInline e' place, when_ := .group }

/-- Check 5 of R117 for a ticket: the signature under the key slot, or the tag under the context. -/
def State.ticketAuth (p : Packet) (mode : Byte) (signed tail : Bytes) (s : State) : State × Except (BitVec 16) Bool :=
  let n := hIndex p.handleB
  if mode = 1 then
    match s.useSlot n useVerify with
    | (s, .error e) => (s, .error e)
    | (s, .ok k) =>
      match s.curve k.attr.curve.toNat with
      | none => (s, .error stUsageDenied)
      | some cv =>
        let pt := k.point cv.w
        let ok := sm2Verify cv (sm2E k.z signed) (beNat (slice tail 0 32)) (beNat (slice tail 32 32)) pt.1 pt.2
        ((s.hashed (ceilDiv (41 + signed.length) 64)).usedSpindle
            { signing := false, len := lenVerify k.attr.curve.toNat cv.w, key := 0 }, .ok (ok && cv.w == 256))
  else
    let s := s.settleCtx n
    match s.sealCtx n with
    | none => (s, .error stBadHandle)
    | some k =>
      if k.st = ctBroken then (s, .error stContextBroken)
      else if !k.permits mode.toNat then (s, .error stUsageDenied)
      else
        let s := (s.cacheUse n).admitted (1 + ceilDiv signed.length 16)
        let ok := k.gmac mode.toNat (slice signed 0 24) (signed.drop 24) == tail
        (if ok then s else s.tagFailed, .ok ok)

/-- An admission refused by checks 3 to 8 of R47 on its owner: check 8 there is check 2 of R117, with its 22 cycles. -/
def Ctx.admitLateRefused (x : Ctx) (s : State) (st : BitVec 16) : Out :=
  if st = stRebuilding then .stop s st 22 else x.refused s st

/-- `ADMIT` of a ticket on its owner, after check 1 of R117. -/
def admitTicketHere (bs : Bytes) (x : Ctx) (s : State) : Out :=
  let p := x.c.pkt
  let mode := p.byteAt 33
  let t := if mode = 1 then 64 else if mode = 2 then 16 else 8
  let signed := bs.take (bs.length - t)
  let tail := bs.drop (bs.length - t)
  let path := admitPath mode signed.length
  match s.lateChecks x with
  | some st => x.admitLateRefused s st
  | none =>
    match admitEarly s x.pool with
    | some st => .stop (if st = stBackpressure then s.backpressure else s) st 22
    | none =>
      match s.ticketAuth p mode signed tail with
      | (s, .error e) => .stop s e 22
      | (s, .ok false) => .stop s (if mode = 1 then stSignatureReject else stTagMismatch) path.check5
      | (s, .ok true) =>
        match s.fpk with
        | (s, .error e) => .stop s e path.later
        | (s, .ok fpk) =>
          let fp := fingerprint fpk (ticketIdentity ((slice signed 23 1).headD 0) x.pool (BitVec.ofNat 40 (leAt signed 12 5)))
          admitEntry mode path fp x s

/-- `ADMIT` of a credential on its owner. -/
def admitExternalHere (bs : Bytes) (fp : BitVec 128) (x : Ctx) (s : State) : Out :=
  match s.lateChecks x with
  | some st => x.admitLateRefused s st
  | none =>
    match admitEarly s x.pool with
    | some st => .stop (if st = stBackpressure then s.backpressure else s) st 22
    | none => admitEntry 0 (admitPath 0 bs.length) fp x s

/-- A node number names a node. -/
def nodeOf (b : Byte) : Option (BitVec 6) := if b < 64 then some (b.setWidth 6) else none

/-- A command goes to the node of its entry: here, or on its way (R280). `here` tells that it has been routed to this node. -/
def State.onOwner (x : Ctx) (here : Bool) (owner : Option (BitVec 6)) (data : Bytes) (cyc : Nat) (s : State)
    (k : State → Out) : Out :=
  match owner with
  | none => x.refused s stNodeUnreachable
  | some n => if here || n == s.skn.nodeId then k s else s.route x n data cyc

/-- The fingerprint of a credential, or the status of the FPK slot. -/
def withCredential (x : Ctx) (bs : Bytes) (s : State) (k : State → BitVec 128 → Out) : Out :=
  match s.fpk with
  | (s, .error e) => x.refused s e
  | (s, .ok fpk) => k s (fingerprint fpk (credentialIdentity bs))

/-- `ADMIT`. -/
def admitBody (here : Bool) (x : Ctx) (s : State) : Out :=
  let p := x.c.pkt
  withData x s fun bs =>
    if p.byteAt 32 = 1 then
      withCredential x bs s fun s fp =>
        s.onOwner x here (some (s.rangeOwner fp)) bs (30 + 17 * identityBlocks bs.length) (admitExternalHere bs fp x)
    else if !(slice bs 0 2 == [1, p.byteAt 33] && leAt bs 10 2 == x.pool.toNat) then .stop s stBadParameter 22
    else s.onOwner x here (nodeOf ((slice bs 23 1).headD 0)) bs 30 (admitTicketHere bs x)

/-! ## LOOKUP (R119) -/

/-- A lookup on the owner, with `k` digest blocks for the fingerprint. -/
def lookupHere (fp : BitVec 128) (k : Nat) (x : Ctx) (s : State) : Out :=
  let cyc := 42 + 17 * k
  match s.lateChecks x with
  | some st => x.refused s st
  | none =>
    match s.regFind fp with
    | (s, none) => refusedWith s stNotFound cyc 0
    | (s, some (e, place)) =>
      if (s.pool e.pool).isNone then refusedWith s stNotFound cyc 0
      else
        { s, cyc, inl := s.entryInline e place, result := entryBytes e
          status := if s.staleFor e.pool then stRebuildMismatch else 0 }

/-- `LOOKUP`. -/
def lookupBody (here : Bool) (x : Ctx) (s : State) : Out :=
  if x.c.pkt.byteAt 32 = 0 then
    let (node, id) := namedTicket x.c.pkt
    s.onOwner x here (nodeOf node) [] 30 fun s =>
      match s.fpk with
      | (s, .error e) => x.refused s e
      | (s, .ok fpk) => lookupHere (fingerprint fpk id) 1 x s
  else
    withData x s fun bs => withCredential x bs s fun s fp =>
      s.onOwner x here (some (s.rangeOwner fp)) bs (30 + 17 * identityBlocks bs.length)
        (lookupHere fp (identityBlocks bs.length) x)

/-! ## ENROL_EXTERNAL (R120) -/

/-- An enrolment on the owner. -/
def enrolHere (fp : BitVec 128) (k : Nat) (x : Ctx) (s : State) : Out :=
  let n := x.pool
  let limit := x.c.pkt.byteAt 33
  match s.lateChecks x with
  | some st => x.refused s st
  | none =>
    match s.pool n with
    | none => x.refused s stBadHandle
    | some p =>
      if !s.isOpen p then x.refused s stPoolFrozen
      else if !s.room 1 then x.refusedRoom s stBackpressure
      else
        let e : Entry := { fp, pool := n, serial := 0, state := stExternal, admits := 0, limit, node := s.node, flags := 0
                           time := s.gctl.time }
        let shown (f : Entry → Place → BitVec 64) (s : State) : BitVec 64 := ((s.ru.reg.find fp).map fun q => f q.1 q.2).getD 0
        match s.regRun (.insert e) with
        | (s, .duplicate) => { x.refused s stDuplicate with inl := shown s.entryInline s }
        | (s, .full) => x.refused s stStashFull
        | (s, .ok) =>
          let s := (s.chain { typ := 0x21, pool := n, node := s.node, fp, aux := limit.setWidth 32 }).noteChange fp
          { s, cyc := 214 + 17 * k + 1920, inl := shown s.settledInline s, when_ := .group }

/-- `ENROL_EXTERNAL`. -/
def enrolExternalBody (here : Bool) (x : Ctx) (s : State) : Out :=
  withData x s fun bs => withCredential x bs s fun s fp =>
    s.onOwner x here (some (s.rangeOwner fp)) bs (30 + 17 * identityBlocks bs.length)
      (enrolHere fp (identityBlocks bs.length) x)

/-! ## PURGE (R121, R122) -/

/-- An entry that op 0 may free: VOIDED, SPOILED, EXTERNAL or exhausted ISSUED (R121). -/
def purgeable (e : Entry) : Bool :=
  e.state == stVoided || e.state == stSpoiled || e.state == stExternal || (e.state == stIssued && e.admits == e.limit)

/-- Op 0 on the owner. An entry of a pool other than handle_a's is a conflict (notes/assumptions/31.md). -/
def purgeHere (fp : BitVec 128) (k : Nat) (x : Ctx) (s : State) : Out :=
  let n := x.pool
  match s.lateChecks x with
  | some st => x.refused s st
  | none =>
    if (s.pool n).isNone then x.refused s stBadHandle
    else if s.staleFor n then x.refused s stRebuildMismatch
    else if !s.room 1 then x.refusedRoom s stBackpressure
    else match s.regFind fp with
      | (s, none) => x.refused s stNotFound
      | (s, some (e, place)) =>
        if !(purgeable e && e.pool == n) then x.refused s stStateConflict
        else
          let s := { s with ru := { s.ru with reg := s.ru.reg.freeAt place } }
          let s := s.chain { typ := 0x22, pool := n, fp, aux := 1 }
          { s, cyc := 204 + 17 * k + 1920, inl := inlAt 0 1, when_ := .group }

/-- `PURGE` op 0. -/
def purgeEntryBody (here : Bool) (x : Ctx) (s : State) : Out :=
  if x.c.pkt.dataLen = 0 then
    let (node, id) := namedTicket x.c.pkt
    s.onOwner x here (nodeOf node) [] 30 fun s =>
      match s.fpk with
      | (s, .error e) => x.refused s e
      | (s, .ok fpk) => purgeHere (fingerprint fpk id) 1 x s
  else
    withData x s fun bs => withCredential x bs s fun s fp =>
      s.onOwner x here (some (s.rangeOwner fp)) bs (30 + 17 * identityBlocks bs.length)
        (purgeHere fp (identityBlocks bs.length) x)

/-- The oldest sweep reads the next bucket that holds an entry of its pool, and those before it that hold none; past the last one the
stash pass ends it, with its record (R121). -/
def State.sweepNext (s : State) : State :=
  match s.ru.reg.sweeps with
  | [] => s
  | w :: rest =>
    let r := s.ru.reg
    match ((r.allBuckets.filter fun p => decide (w.next ≤ p.1) && p.2.any (ofPool w.pool)).map Prod.fst).min? with
    | some b =>
      let (r, k) := r.sweepBucket w.pool b
      let w' := { w with next := b + 1, count := w.count + k }
      { s with ru := { s.ru with reg := { r with sweeps := w' :: rest, ops := satAdd r.ops (b + 1 - w.next) } } }
    | none =>
      let (r, k) := r.sweepStash w.pool
      let s := { s with ru := { s.ru with reg := { r with sweeps := rest, ops := satAdd r.ops (bucketCount - w.next) } } }
      ((s.unpledge 1).chain { typ := 0x22, flags := 1, pool := w.pool, aux := BitVec.ofNat 32 (w.count + k) }).afterGroup
        [.reply { w.h with inl := inlAt 0 (w.count + k) }]

/-- `PURGE` op 1: at once, or with `async` bucket by bucket beside other commands. -/
def purgePoolBody (x : Ctx) (s : State) : Out :=
  let n := x.pool
  match s.pool n with
  | none => x.refused s stBadHandle
  | some p =>
    if p.rebuild then x.refused s stRebuildMismatch
    else if p.st ≠ 3 then x.refused s stStateConflict
    else if !s.room 1 then x.refusedRoom s stBackpressure
    else if x.c.async then
      let w : Sweep := { pool := n, next := 0, count := 0, h := x.held 0 (167776436 + 1920) 0 [] }
      { s := ({ s with ru := { s.ru with reg := { s.ru.reg with sweeps := s.ru.reg.sweeps ++ [w] } } }).pledge 1, cyc := 0
        when_ := .later }
    else
      let (reg, count) := s.ru.reg.purge n
      let s := { s with ru := { s.ru with reg } }
      let s := s.chain { typ := 0x22, flags := 1, pool := n, aux := BitVec.ofNat 32 count }
      { s, cyc := 167776436 + 1920, inl := inlAt 0 count, when_ := .group }

/-! ## JOURNAL_ACK (R130) -/

/-- `JOURNAL_ACK`. -/
def journalAckBody (x : Ctx) (s : State) : Out :=
  let v := x.c.pkt.field 32 8
  if s.ru.jrn.written < v then x.refused s stBadParameter
  else { s := { s with ru := { s.ru with jrn := { s.ru.jrn with ack := max s.ru.jrn.ack v } } }, cyc := 58 }

/-! ## CHECKPOINT (R131 to R136) -/

/-- The cut: the CHECKPOINT record, and the snapshot at its sequence, with every operation accepted before it (R114, R131). -/
def State.cut (x : Ctx) (s : State) : State :=
  let s := { s with ru := { s.ru with reg := s.ru.reg.settled } }
  let id := s.ru.ckptNext
  let s := s.chain { typ := 0x23, fp := BitVec.ofNat 128 id }
  let k : Ckpt :=
    { id, jseq := s.ru.jrn.seq, head := s.ru.jrn.head, time := s.gctl.time
      pools := s.led.pools.mapVals s.journalPool, transfers := s.skn.transfers, stash := s.ru.reg.stash
      buckets := s.ru.reg.allBuckets, staged := [], leaves := 0, root := none, rooted := false
      held := { x.held 0 (286938479 + 1920) (BitVec.ofNat 64 id) [] with resultLen := BitVec.ofNat 32 imageLen }
      outPtr := x.c.pkt.outPtr, began := s.now }
  { s with ru := { s.ru with ckpt := some k, ckptNext := id + 1 } }

/-- `CHECKPOINT`: one at a time (R136). -/
def checkpointBody (x : Ctx) (s : State) : Out :=
  if s.ru.ckpt.isSome then
    { s := { s with ru := { s.ru with ckptWait := s.ru.ckptWait ++ [x.c] } }, cyc := 0, when_ := .later }
  else match s.useSlot 3 useJournal with
    | (s, .error e) => x.refused s e
    | (s, .ok _) =>
      if !s.room 1 then x.refusedRoom s stBackpressure
      else { s := s.cut x, cyc := 0, when_ := .later }

/-! ## The rebuild (R137 to R140) -/

/-- What a rebuild starts from. -/
def State.beginRebuild (expect : Nat) (head : Digest) (leaves : Nat) (s : State) : State :=
  { s with ru := { s.ru with rb := { s.ru.rb with begun := true, expect, head, broken := false, last := expect - 1, leaves } } }

/-- `REBUILD_BEGIN` of an image. -/
def beginImage (x : Ctx) (bs : Bytes) (s : State) : Out :=
  let cyc := 286936575
  let fail (s : State) : Out :=
    .stop ({ s.emptyRegister with ru := { s.emptyRegister.ru with rb := { s.ru.rb with begun := false } } }) stRebuildMismatch
      (x.cyc cyc)
  match s.useSlot 3 useJournal with
  | (s, .error e) => x.refused s e
  | (s, .ok jk) =>
    match s.rootRecord (x.c.pkt.field 32 8) with
    | none => fail s
    | some r =>
      let ck := ckptKey jk.key256 r.id
      let s := s.hashed treeBlocks
      if !imageOk ck r bs then fail s
      else
        let s := (s.loadImage ck bs).admitted imageBlocks
        { s := s.beginRebuild (r.jseq + 1) r.head 1031, cyc, inl := BitVec.ofNat 64 r.jseq }

/-- `REBUILD_BEGIN`. The manual gives no status for one that comes when no rebuild is needed: `STATUS_BAD_PARAMETER` (DESIGN CHOICE,
notes/assumptions/76.md). -/
def rebuildBeginBody (x : Ctx) (s : State) : Out :=
  if !s.ru.rb.needed then x.refused s stBadParameter
  else if !s.ru.jrn.en then x.refusedRoom s stBackpressure
  else if x.c.pkt.dataLen = 0 then
    { s := s.emptyRegister.beginRebuild 1 s.chainStart 0, cyc := 136 }
  else withData x s fun bs => beginImage x bs s

/-- `REBUILD_FEED`; `STATUS_BAD_PARAMETER` where none was begun (DESIGN CHOICE, notes/assumptions/76.md). -/
def rebuildFeedBody (x : Ctx) (s : State) : Out :=
  if !(s.ru.rb.needed && s.ru.rb.begun) then x.refused s stBadParameter
  else withData x s fun bs =>
    let rs := recordsOf bs
    if !batchOk s.ru.rb.expect rs then x.refused s stBadParameter
    else
      let (s, done, left) := State.feed rs s 0 0
      { s, cyc := 104 + 40 * rs.length, inl := inlAt 0 done ||| inlAt 4 left }

/-- `REBUILD_END`: the recovery group follows, and the chain goes on from the durable head (R140);
`STATUS_BAD_PARAMETER` where none was begun (DESIGN CHOICE, notes/assumptions/76.md). -/
def rebuildEndBody (x : Ctx) (s : State) : Out :=
  if !(s.ru.rb.needed && s.ru.rb.begun) then x.refused s stBadParameter
  else
    let ok := s.consistent
    let s := if ok then s else s.markAll
    let rb : Rebuild := { s.ru.rb with needed := false, begun := false }
    let s := { s with ru := { s.ru with
        rb, jrn := { s.ru.jrn with seq := s.led.durable.jseq, head := s.led.durable.head } } }
    { s := s.finishRecovery, cyc := 131220 + 1920, inl := inlAt 0 ok.toNat, when_ := .group }

/-! ## The rows -/

/-- `ADMIT`. -/
def execAdmitSerial (c : Cmd) (s : State) : Host.Outcome State Fault Refusal :=
  .next (runOp 0x0301 none (spindled (admitBody false)) c s)

/-- `LOOKUP`. -/
def execLookup (c : Cmd) (s : State) : Host.Outcome State Fault Refusal := .next (runOp 0x0302 none (lookupBody false) c s)

/-- `ENROL_EXTERNAL`. -/
def execEnrolExternal (c : Cmd) (s : State) : Host.Outcome State Fault Refusal :=
  .next (runOp 0x0303 none (enrolExternalBody false) c s)

/-- `CHECKPOINT`. -/
def execCheckpoint (c : Cmd) (s : State) : Host.Outcome State Fault Refusal := .next (runOp 0x0304 none checkpointBody c s)

/-- `REBUILD_BEGIN`. -/
def execRebuildBegin (c : Cmd) (s : State) : Host.Outcome State Fault Refusal := .next (runOp 0x0305 none rebuildBeginBody c s)

/-- `REBUILD_FEED`. -/
def execRebuildFeed (c : Cmd) (s : State) : Host.Outcome State Fault Refusal := .next (runOp 0x0306 none rebuildFeedBody c s)

/-- `REBUILD_END`. -/
def execRebuildEnd (c : Cmd) (s : State) : Host.Outcome State Fault Refusal := .next (runOp 0x0307 none rebuildEndBody c s)

/-- `JOURNAL_ACK`. -/
def execJournalAck (c : Cmd) (s : State) : Host.Outcome State Fault Refusal := .next (runOp 0x0308 none journalAckBody c s)

/-- `PURGE` op 0. -/
def execPurgeEntry (c : Cmd) (s : State) : Host.Outcome State Fault Refusal :=
  .next (runOp 0x0309 (some 0) (purgeEntryBody false) c s)

/-- `PURGE` op 1. -/
def execPurgePool (c : Cmd) (s : State) : Host.Outcome State Fault Refusal := .next (runOp 0x0309 (some 1) purgePoolBody c s)

end Sys2Proof.Machine
end

