-- ==== Sys2Proof/Machine/Transfer.lean ====
section
/-! DEFINITION. Transfers of allotment between nodes (R283 to R287) and register commands that another node routed here or
answers (R280, R281). -/

namespace Sys2Proof.Machine

/-! ## Sending -/

/-- Checks 2 to 6 of R79 against `n` units, with room for `j` records, as exports and transfers take them (R284, R379). -/
def exportRefusal (s : State) (x : Ctx) (p : Pool) (j n : Nat) : Option (BitVec 16) :=
  firstFail
    [(s.isOpen p, stPoolFrozen),
     (x.c.pkt.locked || !p.exclusive || (s.lock x.pool).isNone || (x.ownLock s).isSome, stLockHeld),
     (s.room j, stBackpressure), (!s.supplyLow, stSupplyLow), (decide (n ≤ p.a), stPoolEmpty)]

/-- The identifier that the next record's sequence forms (R283). -/
def State.nextXferId (s : State) : BitVec 64 := BitVec.ofNat 64 (s.node.toNat * 2 ^ 56 + (s.ru.jrn.seq + 1) % 2 ^ 56)

/-- The first phase of an export or transfer: A → T, its EXPORT_T record, and its transfer record (R284, R379). -/
def State.phaseOne (n : PoolId) (u : Nat) (serial : Serial) (hash : BitVec 64) (row : Nat) (t : Transfer) (s : State) :
    State × Bool :=
  match s.change n { a := -(u : Int), t := u } id with
  | (s, false) => (s, false)
  | (s, true) =>
    let fp : BitVec 128 := hash ++ t.id
    (((s.chain { typ := 0x0A, pool := n, serial, fp, delta := BitVec.ofNat 32 u }).pledge 1).setTransfer row t, true)

/-- The second phase: T → X with EXPORT_X, or T → A with CANCEL; the record is freed (R284, R381). `pledged` tells whether the
record was pledged, the second component whether the checker let the change be made. -/
def State.phaseTwo (confirm pledged : Bool) (row : Nat) (t : Transfer) (serial : Serial) (hash : BitVec 64) (after : List After)
    (s : State) : State × Bool :=
  let u : Int := t.units.toNat
  let (s, ok) := s.change t.pool (if confirm then { t := -u, x := u } else { t := -u, a := u }) id
  let s := if pledged then s.unpledge 1 else s
  if ok then
    (((s.freeTransfer row).chain { typ := if confirm then 0x0B else 0x0D, pool := t.pool, serial, fp := hash ++ t.id
                                   delta := t.units }).afterGroup after, true)
  else (s, false)

/-- `TRANSFER_OUT` (R284). -/
def transferOutBody (x : Ctx) (s : State) : Out :=
  let p := x.c.pkt
  let n := x.pool
  let u := p.field 36 4
  match nodeOf (p.byteAt 32) with
  | none => x.refused s stNodeUnreachable
  | some dest =>
    if !s.reaches dest then x.refused s stNodeUnreachable
    else match s.pool n with
      | none => x.refused s stBadHandle
      | some pool =>
        match exportRefusal s x pool 2 u with
        | some st => x.refusedRoom s st
        | none =>
          match s.freeRow with
          | none => { x.refused s stBadParameter with inl := inlAt 0 1 }
          | some row =>
            let id := s.nextXferId
            let t : Transfer := { id, kind := 1, st := 1, pool := n, units := BitVec.ofNat 32 u, peer := dest.setWidth 8
                                  dom := pool.dom, peerPool := BitVec.ofNat 16 (p.field 34 2), time := s.gctl.time
                                  jseq := BitVec.ofNat 64 (s.ru.jrn.seq + 1), card := 0 }
            match s.phaseOne n u 0 0 row t with
            | (s, false) => x.refused s stConservation
            | (s, true) => { s := s.afterGroup [.transferSend (x.held 0 4096 id []) row], cyc := 4096, when_ := .later }

/-- Step 2: TRANSFER (id, domain, peer_pool, n), and the answer awaited. -/
def State.transferSend (h : Held) (row : Nat) (s : State) : State :=
  match s.skn.transfers.find row with
  | none => s
  | some t =>
    let s := { s with skn := { s.skn with xwait := s.skn.xwait ++ [(t.id, ({ h, row, query := false } : XferWait))] } }
    s.sendTo .transfer (t.peer.setWidth 6) 0
      (leBytes 8 t.id.toNat ++ [t.dom] ++ leBytes 2 t.peerPool.toNat ++ leBytes 4 t.units.toNat)

/-- The wait for an answer about an identifier, and the waits without it. -/
def State.xferWait (s : State) (id : BitVec 64) (query : Bool) : Option XferWait :=
  (s.skn.xwait.find? fun p => p.1 == id && p.2.query == query).map Prod.snd
def State.dropWait (id : BitVec 64) (s : State) : State :=
  { s with skn := { s.skn with xwait := s.skn.xwait.filter (·.1 != id) } }

/-- A settled transfer: the second phase, then DONE and the reply (R284 steps 4 and 5). -/
def State.settleTransfer (w : XferWait) (confirm : Bool) (h : Held) (s : State) : State :=
  match s.skn.transfers.find w.row with
  | none => s
  | some t =>
    match s.phaseTwo confirm true w.row t 0 0 [.transferDone h t.peer t.id] with
    | (s, true) => s
    | (s, false) => s.postReply (h.fail stConservation h.cycles.toNat)

/-- Steps 4 and 5: ACCEPT, or REFUSE with a status. An answer to a record in DOUBT finds no wait and is ignored (R285). -/
def transferAnswerEvent (id : BitVec 64) (refused : Option (BitVec 16)) (s : State) : State :=
  match s.xferWait id false with
  | none => s
  | some w =>
    let s := s.dropWait id
    match refused with
    | none => s.settleTransfer w true w.h
    | some st => s.settleTransfer w false (w.h.fail st w.h.cycles.toNat)

/-- No answer within `SKN_TIMEOUT`: the record goes to DOUBT (R285); a `RECONCILE` leaves it there. -/
def transferTimeoutEvent (id : BitVec 64) (s : State) : State :=
  match s.skn.xwait.find? (·.1 == id) with
  | none => s
  | some (_, w) =>
    let s := (s.dropWait id).unpledge 1
    if w.query then s.postReply (w.h.fail stNodeUnreachable w.h.cycles.toNat)
    else
      let s := match s.skn.transfers.find w.row with
        | some t => s.setTransfer w.row { t with st := 2 }
        | none => s
      s.postReply (w.h.fail stInDoubt w.h.cycles.toNat)

/-- `RECONCILE` of a Skein transfer in DOUBT: QUERY is sent (R285). -/
def reconcileSkein (x : Ctx) (row : Nat) (t : Transfer) (s : State) : Out :=
  if t.st ≠ 2 then x.refused s stBadParameter
  else if !s.reaches (t.peer.setWidth 6) then x.refused s stNodeUnreachable
  else match firstFail [((s.pool t.pool).all fun p => !s.isFrozen p, stPoolFrozen), (s.room 1, stBackpressure),
      (!s.supplyLow, stSupplyLow)] with
    | some st => x.refusedRoom s st
    | none =>
      let s := s.pledge 1
      let s := { s with skn := { s.skn with xwait := s.skn.xwait ++ [(t.id, ({ h := x.held 0 2280 0 [], row, query := true } : XferWait))] } }
      { s := s.sendTo .query (t.peer.setWidth 6) 0 (leBytes 8 t.id.toNat), cyc := 2280, when_ := .later }

/-- IMPORTED or NONE settles a transfer in DOUBT (R285). -/
def reconcileAnswerEvent (id : BitVec 64) (imported : Bool) (s : State) : State :=
  match s.xferWait id true with
  | none => s
  | some w => (s.dropWait id).settleTransfer w imported { w.h with inl := inlAt 0 (if imported then 1 else 2) }

/-! ## Receiving -/

/-- A record of one of two kinds with an identifier. -/
def State.xferOf (s : State) (id : BitVec 64) (kind : Byte) : Bool := s.skn.transfers.any fun p => p.2.id == id && p.2.kind == kind

/-- Step 3's checks, with the status of the first that fails (R284, notes/assumptions/32.md). -/
def importRefusal (s : State) (dom : Dom) (n : PoolId) : Option (BitVec 16) :=
  match s.pool n with
  | none => some stBadHandle
  | some p => firstFail [(s.isOpen p, stPoolFrozen), (p.dom == dom, stNotPermitted), (s.room 1, stBackpressure),
      (s.freeRow.isSome, stBadParameter)]

/-- Step 3: a TRANSFER packet. -/
def transferReceiveEvent (src : BitVec 6) (id : BitVec 64) (dom : Dom) (n : PoolId) (u : BitVec 32) (s : State) : State :=
  let refuse (st : BitVec 16) (s : State) : State := s.sendTo .refuse src 0 (leBytes 8 id.toNat ++ leBytes 2 st.toNat)
  if s.xferOf id 3 then s.sendTo .accept src 0 (leBytes 8 id.toNat)
  else if s.xferOf id 4 then refuse stSlipInvalid s
  else match importRefusal s dom n with
    | some st => refuse st s
    | none =>
      match s.change n { m := u.toNat, a := u.toNat } (fun p => p) with
      | (s, false) => refuse stConservation s
      | (s, true) =>
        let s := s.chain { typ := 0x0C, pool := n, node := src.setWidth 8, fp := idFp id, delta := u }
        let t : Transfer := { id, kind := 3, st := 1, pool := n, units := u, peer := src.setWidth 8, dom, peerPool := 0
                              time := s.gctl.time, jseq := BitVec.ofNat 64 s.ru.jrn.seq, card := 0 }
        (s.setTransfer (s.freeRow.getD 0) t).afterGroup [.accept src id]

/-- Step 6: DONE. -/
def transferDoneEvent (id : BitVec 64) (s : State) : State :=
  if s.xferOf id 3 || s.xferOf id 4 then s.force (.close id) else s

/-- QUERY: IMPORTED, or a tombstone and NONE (R285). -/
def transferQueryEvent (src : BitVec 6) (id : BitVec 64) (s : State) : State :=
  if s.xferOf id 3 then s.sendTo .imported src 0 (leBytes 8 id.toNat)
  else if s.xferOf id 4 then s.sendTo .noRecord src 0 (leBytes 8 id.toNat)
  else s.force (.tombstone src id)

/-! ## Routed commands -/

/-- The reply of a routed command goes back (R280). -/
def State.routedSend (src : BitVec 6) (tag : BitVec 32) (h : Held) (s : State) : State :=
  s.sendTo .routedReply src tag
    (leBytes 2 h.status.toNat ++ leBytes 8 h.inl.toNat ++ leBytes 4 h.arbWait.toNat ++ (h.write.map Prod.snd).getD [])

/-- The body of a register command that another node routed here; none for an opcode that is never routed. -/
def routedBody (p : Packet) : Option (Ctx → State → Out) :=
  match p.opcode.toNat with
  | 0x0301 => some (admitBody true)
  | 0x0302 => some (lookupBody true)
  | 0x0303 => some (enrolExternalBody true)
  | 0x0309 => some (purgeEntryBody true)
  | _ => none

/-- The owner runs a routed command: checks 3 to 8 of R47, then its body; the reply goes back at once or when its group is
durable (R280). -/
def routedCommandEvent (src : BitVec 6) (tag : BitVec 32) (c : Cmd) (s : State) : State :=
  let x : Ctx := { c, epoch := 0, dom := c.dom, id := 0, unit := 0xFF, sqHead := 0, chainEnd := false
                   keys := (s.policy c.dom).keys }
  match routedBody c.pkt, opInfo c.pkt.opcode with
  | some body, some i =>
    match decodeRest s c.q c.dom c.pkt i .host with
    | some st => s.routedSend src tag (x.held st 18 0 [])
    | none =>
      let o := body x s
      let o := { o with s := o.s.ended }
      let h := x.held o.status o.cyc o.inl o.result
      match o.when_ with
      | .now => o.s.routedSend src tag h
      | .group => o.s.afterGroup [.routed src tag h]
      | .later => o.s
  | _, _ => s

/-- The reply of a routed command is posted on its queue (R280). -/
def routedReplyEvent (tag : BitVec 32) (r : RouteReply) (s : State) : State :=
  match s.skn.routed.find tag.toNat with
  | none => s
  | some k =>
    let s := { s with skn := { s.skn with routed := s.skn.routed.del tag.toNat } }
    let h := if r.result.isEmpty then { k.h with write := none, truncated := false, resultLen := 0 } else k.h.withResult r.result
    s.postReply { h with status := r.status, inl := r.inl, arbWait := sat 32 (h.arbWait.toNat + r.arbWaits) }

/-- No reply within `SKN_TIMEOUT` (R281). -/
def routedTimeoutEvent (tag : BitVec 32) (s : State) : State :=
  match s.skn.routed.find tag.toNat with
  | none => s
  | some k =>
    let s := { s with skn := { s.skn with routed := s.skn.routed.del tag.toNat } }
    s.postReply (k.h.fail stNodeUnreachable k.h.cycles.toNat)

/-! ## The rows -/

/-- `TRANSFER_OUT`. -/
def execTransferOut (c : Cmd) (s : State) : Host.Outcome State Fault Refusal := .next (runOp 0x020D none transferOutBody c s)

/-- A TRANSFER packet arrives. -/
def execTransferReceive (src : BitVec 6) (id : BitVec 64) (dom : Dom) (pool : PoolId) (n : BitVec 32) (s : State) :
    Host.Outcome State Fault Refusal := .next (transferReceiveEvent src id dom pool n s)

/-- ACCEPT or REFUSE arrives. -/
def execTransferAnswer (id : BitVec 64) (refused : Option (BitVec 16)) (s : State) : Host.Outcome State Fault Refusal :=
  .next (transferAnswerEvent id refused s)

/-- No answer arrives. -/
def execTransferTimeout (id : BitVec 64) (s : State) : Host.Outcome State Fault Refusal := .next (transferTimeoutEvent id s)

/-- DONE arrives. -/
def execTransferDoneReceive (id : BitVec 64) (s : State) : Host.Outcome State Fault Refusal := .next (transferDoneEvent id s)

/-- QUERY arrives. -/
def execTransferQueryReceive (src : BitVec 6) (id : BitVec 64) (s : State) : Host.Outcome State Fault Refusal :=
  .next (transferQueryEvent src id s)

/-- IMPORTED or NONE arrives. -/
def execReconcileAnswer (id : BitVec 64) (imported : Bool) (s : State) : Host.Outcome State Fault Refusal :=
  .next (reconcileAnswerEvent id imported s)

/-- A routed command arrives. -/
def execRoutedCommand (src : BitVec 6) (tag : BitVec 32) (c : Cmd) (s : State) : Host.Outcome State Fault Refusal :=
  .next (routedCommandEvent src tag c s)

/-- A routed command's reply arrives. -/
def execRoutedReply (tag : BitVec 32) (r : RouteReply) (s : State) : Host.Outcome State Fault Refusal :=
  .next (routedReplyEvent tag r s)

/-- A routed command's reply does not arrive. -/
def execRoutedTimeout (tag : BitVec 32) (s : State) : Host.Outcome State Fault Refusal := .next (routedTimeoutEvent tag s)

end Sys2Proof.Machine
end

