-- ==== Sys2Proof/Machine/Card.lean ====
section
/-! DEFINITION. The allotment card slot: identification and removal (R371 to R374), the card's layout (R375 to R377), exports,
imports and settlement (R378 to R382), and the class 0x09 opcodes (R383 to R386). -/

namespace Sys2Proof.Machine

/-! ## The card -/

/-- A card unit changed. -/
def State.setCard (k : CardUnit) (s : State) : State := { s with card := k }

/-- A block of a card. -/
def mediaBlock (m : Media) (k : Nat) : Bytes := (m.blocks.find k).getD (zeros 512)
def CardUnit.block (k : CardUnit) (n : Nat) : Bytes := (k.media.map fun m => mediaBlock m n).getD (zeros 512)

/-- A block written; a block of zeros is not listed. -/
def mediaWrite (n : Nat) (bs : Bytes) (m : Media) : Media :=
  let b := slice bs 0 512
  { m with blocks := if b == zeros 512 then m.blocks.del n else m.blocks.put n b }
def CardUnit.write (n : Nat) (bs : Bytes) (k : CardUnit) : CardUnit := { k with media := k.media.map (mediaWrite n bs) }

/-- CARD_WP is high (R374). -/
def CardUnit.wp (k : CardUnit) : Bool := k.media.any (·.wp)

/-- The blocks of a slot (R375). -/
def slipBlock (slot : Nat) : Nat := 64 + 2 * slot
def markerBlock (slot : Nat) : Nat := 65 + 2 * slot

/-- The volume header (R375). -/
def volumeHeader : Bytes :=
  slice (leBytes 4 0x7740CA4D ++ [1, 0] ++ leBytes 2 256 ++ leBytes 4 576 ++ leBytes 4 1024) 0 512

/-- A slot holds a slip. -/
def CardUnit.used (k : CardUnit) (slot : Nat) : Bool := k.block (slipBlock slot) != zeros 512

/-- Slots in use, on a card that is READY and formatted. -/
def CardUnit.usedSlots (k : CardUnit) : List Nat :=
  if k.ready && k.formatted then (List.range 256).filter k.used else []

/-- Free slots (R387). -/
def CardUnit.freeSlots (k : CardUnit) : Nat := if k.ready && k.formatted then 256 - k.usedSlots.length else 0

/-- The first 8 bytes of SM3 of the card's CID (R378). -/
def cidHash (cid : BitVec 128) : BitVec 64 := BitVec.ofNat 64 (leNat (sm3First 8 (leBytes 16 cid.toNat)))

/-! ## Slips and markers (R376, R377) -/

/-- The slip key. -/
def slipKey (dmk : BitVec 256) (serial : BitVec 64) (kcv : BitVec 32) (id : BitVec 64) : BitVec 128 :=
  blockOf (sm3First 16 (digestBytes dmk ++ [0x54] ++ leBytes 8 serial.toNat ++ leBytes 4 kcv.toNat ++ leBytes 8 id.toNat))

/-- A block sealed by a tag over its bytes 0 to 495. -/
def tagged (key : BitVec 128) (iv : Nat) (body : Bytes) : Bytes :=
  let b := slice body 0 496
  b ++ gcmTag key (BitVec.ofNat 96 iv) b []
def tagOk (key : BitVec 128) (iv : Nat) (block : Bytes) : Bool :=
  gcmTag key (BitVec.ofNat 96 iv) (slice block 0 496) [] == slice block 496 16

/-- What a slip says. -/
structure Slip where
  id : BitVec 64
  serial : BitVec 64
  node : Byte
  dom : Dom
  pool : PoolId
  units : BitVec 32
  destSerial : BitVec 64
  destPool : PoolId
  kcv : BitVec 32
  time : BitVec 32
  cid : BitVec 128
  deriving DecidableEq, Repr

/-- The bytes of a slip that its tag covers. -/
def slipBody (v : Slip) : Bytes :=
  leBytes 4 0x7740511D ++ [1, 1, 0, 0] ++ leBytes 8 v.id.toNat ++ leBytes 8 v.serial.toNat ++ [v.node, v.dom] ++
  leBytes 2 v.pool.toNat ++ leBytes 4 v.units.toNat ++ leBytes 8 v.destSerial.toNat ++ leBytes 2 v.destPool.toNat ++ zeros 2 ++
  leBytes 4 v.kcv.toNat ++ leBytes 4 v.time.toNat ++ zeros 4 ++ leBytes 16 v.cid.toNat

/-- A slip read from its block; none where magic, version or state differ. -/
def slipOf (bs : Bytes) : Option Slip :=
  let b (k : Nat) : Byte := (slice bs k 1).headD 0
  if leAt bs 0 4 = 0x7740511D ∧ b 4 = 1 ∧ b 5 = 1 then
    some { id := BitVec.ofNat 64 (leAt bs 8 8), serial := BitVec.ofNat 64 (leAt bs 16 8), node := b 24, dom := b 25
           pool := BitVec.ofNat 16 (leAt bs 26 2), units := BitVec.ofNat 32 (leAt bs 28 4)
           destSerial := BitVec.ofNat 64 (leAt bs 32 8), destPool := BitVec.ofNat 16 (leAt bs 40 2)
           kcv := BitVec.ofNat 32 (leAt bs 44 4), time := BitVec.ofNat 32 (leAt bs 48 4)
           cid := BitVec.ofNat 128 (leAt bs 56 16) }
  else none

/-- A marker of a type: 2 CONFIRM, 3 CANCEL. -/
def markerBytes (key : BitVec 128) (typ : Byte) (id serial : BitVec 64) (time : BitVec 32) : Bytes :=
  tagged key typ.toNat
    (leBytes 4 0x7740511D ++ [1, typ, 0, 0] ++ leBytes 8 id.toNat ++ leBytes 8 serial.toNat ++ leBytes 4 time.toNat)

/-- The type of a marker that is valid for a slip (R377). -/
def validMarker (key : BitVec 128) (v : Slip) (bs : Bytes) : Option Byte :=
  let typ : Byte := (slice bs 5 1).headD 0
  if leAt bs 0 5 = 0x017740511D ∧ (typ = 2 ∨ typ = 3) ∧ tagOk key typ.toNat bs ∧ leAt bs 8 8 = v.id.toNat ∧
      leAt bs 16 8 = v.serial.toNat then some typ else none

/-- The key of a slip under the DMK of its domain. -/
def State.slipKeyOf (s : State) (v : Slip) : Option (BitVec 128) := (s.dmk v.dom).map fun m => slipKey m v.serial v.kcv v.id

/-- This device has imported a slip itself, by the MARK record of its source (R378). -/
def State.imported (s : State) (v : Slip) : Bool :=
  match s.markRow v.serial v.kcv with
  | none => false
  | some (_, t) =>
    let high := bitsAt t.card.toNat 96 64
    let q := idSeq v.id
    q == high || (decide (q < high) && decide (high - 1 - q < 96) && (bitsAt t.card.toNat 160 96).testBit (high - 1 - q))

/-- A slot holds a confirmed slip that this device has not imported, or one whose tag cannot be checked (R384). -/
def State.slotHeld (s : State) (slot : Nat) : Bool :=
  match slipOf (s.card.block (slipBlock slot)) with
  | none => false
  | some v =>
    match s.slipKeyOf v with
    | none => true
    | some k =>
      tagOk k 1 (s.card.block (slipBlock slot)) && validMarker k v (s.card.block (markerBlock slot)) == some 2 && !s.imported v

/-! ## Identification and removal (R372, R373) -/

/-- `CARD_STAT` bits [7:0] (R387). -/
def CardUnit.stat (k : CardUnit) : Byte :=
  BitVec.ofNat 8 (k.present.toNat + 2 * k.ready.toNat + 4 * k.hs.toNat + 8 * k.wp.toNat + 16 * k.op.isSome.toNat +
    32 * k.err.toNat + 64 * k.v18.toNat)

/-- The CID registers: 0 while no card is READY. -/
def CardUnit.shownCid (k : CardUnit) : BitVec 128 := if k.ready then k.cid else 0

/-- Slots whose marker block has a type. -/
def CardUnit.marked (k : CardUnit) (typ : Byte) : Nat :=
  (k.usedSlots.filter fun n => slice (k.block (markerBlock n)) 5 1 == [typ]).length

/-- The 64 bytes of `CARD_INFO` (R383): byte counts saturate. -/
def CardUnit.info (k : CardUnit) : Bytes :=
  let n (v : Nat) : Byte := sat 8 v
  slice ([k.stat, n k.freeSlots, n (k.usedSlots.length - k.marked 2 - k.marked 3), n (k.marked 2), n (k.marked 3), 0, 0, 0] ++
    leBytes 4 ((k.media.map (·.capacity)).getD 0) ++ leBytes 4 k.auditNext ++ leBytes 16 k.shownCid.toNat) 0 64

/-- Steps 4 to 6 of R372: the card is READY and its slot map built. -/
def CardUnit.identified (k : CardUnit) : CardUnit :=
  { k with ready := true, err := false, cid := (k.media.map (·.cid)).getD 0, hs := k.maxClk == 2 && k.media.any (·.highSpeed)
           formatted := leAt (k.block 0) 0 5 == 0x017740CA4D, op := none }

/-- The reply of a `CARD_INFO` op 1. -/
def State.infoReply (h : Option Held) (s : State) : State :=
  match h with
  | some h => s.postReply (h.withResult s.card.info)
  | none => s

/-- CMD1 has been answered: ready, or to be sent again, for at most 1,000 attempts. -/
def State.cmd1 (tries : Nat) (h : Option Held) (ok : Bool) (s : State) : State × Bool :=
  if ok then ((s.setCard s.card.identified).infoReply h, true)
  else (s.setCard { s.card with op := some (.ident (tries + 1) h) }, decide (tries + 1 < 1000))

/-- A transfer record of an interrupted export goes to DOUBT (R379). -/
def State.exportDoubt (row : Nat) (h : Held) (s : State) : State :=
  let s := match s.skn.transfers.find row with
    | some t => s.setTransfer row { t with st := 2 }
    | none => s
  (s.unpledge 1).postReply (h.fail stInDoubt h.cycles.toNat)

/-- The slot and the CID hash in a kind 2 record (R378). -/
def xferSlot (t : Transfer) : Serial := BitVec.ofNat 40 (bitsAt t.card.toNat 64 16)
def xferHash (t : Transfer) : BitVec 64 := BitVec.ofNat 64 (bitsAt t.card.toNat 0 64)

/-- The second phase of a card export or its settlement, with the reply after it (R379 step 5, R381). -/
def State.cardPhaseTwo (confirm : Bool) (row : Nat) (h : Held) (s : State) : State :=
  match s.skn.transfers.find row with
  | none => s
  | some t =>
    match s.phaseTwo confirm true row t (xferSlot t) (xferHash t) [.reply h] with
    | (s, true) => s
    | (s, false) => s.postReply (h.fail stConservation h.cycles.toNat)

/-- What a card transaction in progress comes to when the card is gone, or the slot is stopped with a status (R373, R379,
R381). -/
def State.endCardOp (st : BitVec 16) (s : State) : State :=
  let fail (h : Held) : Held := h.fail st h.cycles.toNat
  let op := s.card.op
  let s := s.setCard { s.card with op := none, busy := false }
  match op with
  | none => s
  | some (.ident _ h) => match h with | some h => s.postReply (fail h) | none => s
  | some (.exportDue row cut) => s.setCard { s.card with op := some (.exportDue row (if cut = 0 then st else cut)) }
  | some (.exportSlip row _ _ h) | some (.exportCheck row _ _ h) => s.cardPhaseTwo false row (fail h)
  | some (.exportMark row _ _ h) => s.exportDoubt row h
  | some (.cancel _ _ h) | some (.cancelCheck _ _ h) => (s.unpledge 1).postReply (fail h)
  | some (.write _ h) | some (.read _ h _ _) => s.postReply (fail h)

/-- The slot of a record, and the block being written to the card (R374, R375): at a card failure it is not written (DESIGN CHOICE,
notes/assumptions/88.md). -/
def State.slotOf (s : State) (row : Nat) : Nat := ((s.skn.transfers.find row).map fun t => (xferSlot t).toNat).getD 0
def State.blockDue (s : State) : Option (Nat × Bytes) :=
  if !s.card.busy then none
  else match s.card.op with
    | some (.exportSlip row slip _ _) => some (slipBlock (s.slotOf row), slip)
    | some (.exportMark row _ marker _) | some (.cancel row marker _) => some (markerBlock (s.slotOf row), marker)
    | some (.write (b :: _) _) => some b
    | _ => none

/-- The block being written reaches the card. -/
def State.writeDue (s : State) : State :=
  match s.blockDue with
  | some (n, bs) => s.setCard (s.card.write n bs)
  | none => s

/-- A removal: `fail` where a card failure caused it, not CARD_DET# (R373). -/
def State.cardRemoval (fail : Bool) (s : State) : State :=
  let k := s.card
  let s := s.setCard { k with ready := false, hs := false, power := false, err := fail, formatted := false
                              removals := satAdd k.removals 1, failures := satAdd k.failures fail.toNat }
  s.endCardOp stCardPulled

/-- Identification begins (R372). -/
def State.identify (h : Option Held) (s : State) : State :=
  let s := s.setCard { s.card with power := true, ready := false, err := false }
  match s.cmd1 0 h (s.card.media.any (·.readyAtOnce)) with
  | (s, _) => s

/-! ## Exports (R379) -/

/-- The key for the slips of a pool's domain and this device's JK, with the JK's KCV. -/
def State.exportKeys (d : Dom) (s : State) : State × Except (BitVec 16) (BitVec 256 × BitVec 32) :=
  match s.dmk d with
  | none => (s, .error stParentInvalid)
  | some m => match s.useSlot 3 useJournal with
    | (s, .error e) => (s, .error e)
    | (s, .ok k) => (s, .ok (m, k.attr.kcv))

/-- `EXPORT_CARD`: the checks and step 1. -/
def exportCardBody (x : Ctx) (s : State) : Out :=
  let p := x.c.pkt
  let n := x.pool
  let u := p.field 32 4
  match s.pool n with
  | none => x.refused s stBadHandle
  | some pool =>
    match exportRefusal s x pool 2 u with
    | some st => x.refusedRoom s st
    | none =>
      match firstFail [(decide (p.field 40 8 ≠ s.life.serial.toNat), stBadParameter), (s.card.ready, stCardAbsent),
          (!s.card.wp, stCardProtected), (s.card.formatted, stSlipInvalid)] with
      | some st => x.refused s st
      | none =>
        match lowestFrom (fun k => !s.card.used k) 256 0 with
        | none => { x.refused s stBadParameter with inl := inlAt 0 2 }
        | some slot =>
          match s.freeRow with
          | none => { x.refused s stBadParameter with inl := inlAt 0 1 }
          | some row =>
            match s.exportKeys pool.dom with
            | (s, .error e) => x.refused s e
            | (s, .ok _) =>
              let id := s.nextXferId
              let hash := cidHash s.card.cid
              let t : Transfer := { id, kind := 2, st := 1, pool := n, units := BitVec.ofNat 32 u, peer := 0, dom := pool.dom
                                    peerPool := BitVec.ofNat 16 (p.field 36 2), time := s.gctl.time
                                    jseq := BitVec.ofNat 64 (s.ru.jrn.seq + 1)
                                    card := BitVec.ofNat 256 (hash.toNat + slot * 2 ^ 64) }
              match s.phaseOne n u (BitVec.ofNat 40 slot) hash row t with
              | (s, false) => x.refused s stConservation
              | (s, true) =>
                let s := s.afterGroup [.exportCard (x.held 0 4212 id []) row (BitVec.ofNat 64 (p.field 40 8))]
                { s := s.setCard { s.card with op := some (.exportDue row 0) }, cyc := 4212, when_ := .later }

/-- What has ended an export before its first step was durable: a removal, or the response of a tamper alarm (R379;
notes/assumptions/88.md). -/
def State.exportCut (s : State) (row : Nat) (hash : BitVec 64) : Option (BitVec 16) :=
  match s.card.op with
  | some (.exportDue r cut) =>
    if r = row ∧ cut ≠ 0 then some cut
    else if r = row ∧ s.card.ready ∧ cidHash s.card.cid = hash then none else some stCardPulled
  | _ => some stCardPulled

/-- The slot is free again once an export's first step is over. -/
def State.exportBegun (s : State) (row : Nat) : State :=
  match s.card.op with
  | some (.exportDue r _) => if r = row then s.setCard { s.card with op := none } else s
  | _ => s

/-- Step 2: the slip is written once step 1 is durable; where the card is gone by then, the export is cancelled. -/
def State.exportWrite (h : Held) (row : Nat) (dest : BitVec 64) (s : State) : State :=
  match s.skn.transfers.find row with
  | none => s
  | some t =>
    let cut := s.exportCut row (xferHash t)
    let s := s.exportBegun row
    match s.exportKeys t.dom with
    | (s, .error e) => s.cardPhaseTwo false row (h.fail e h.cycles.toNat)
    | (s, .ok (m, kcv)) =>
      match cut with
      | some st => s.cardPhaseTwo false row (h.fail st h.cycles.toNat)
      | none =>
        let v : Slip := { id := t.id, serial := s.life.serial, node := s.node, dom := t.dom, pool := t.pool, units := t.units
                          destSerial := dest, destPool := t.peerPool, kcv, time := s.gctl.time, cid := s.card.cid }
        let sk := slipKey m v.serial kcv v.id
        let slip := tagged sk 1 (slipBody v)
        let marker := markerBytes sk 2 v.id v.serial s.gctl.time
        let s := s.admitted 66
        s.setCard { s.card with op := some (.exportSlip row slip marker h), busy := true }

/-! ## Imports (R380) -/

/-- Checks 4 to 7: the slip and its marker. -/
def slipRefusal (s : State) (n : PoolId) (p : Pool) (slot : Nat) (v : Slip) : Option (BitVec 16) :=
  let good := v.destSerial == s.life.serial && v.destPool == n && v.dom == p.dom && v.cid == s.card.cid
  if !good then some stSlipInvalid
  else match s.slipKeyOf v with
    | none => some stParentInvalid
    | some k =>
      if !tagOk k 1 (s.card.block (slipBlock slot)) then some stSlipInvalid
      else match validMarker k v (s.card.block (markerBlock slot)) with
        | none => some stSlipUnconfirmed
        | some t => if t = 2 then none else some stSlipInvalid

/-- Check 8: the sequence lies above high − 97 and has not been imported. -/
def State.sequenceOk (s : State) (v : Slip) : Bool :=
  match s.markRow v.serial v.kcv with
  | none => true
  | some (_, t) => decide (bitsAt t.card.toNat 96 64 < idSeq v.id + 97) && !s.imported v

/-- `IMPORT_CARD`. -/
def importCardBody (x : Ctx) (s : State) : Out :=
  let n := x.pool
  let slot := x.c.pkt.field 32 4
  match s.pool n with
  | none => x.refused s stBadHandle
  | some p =>
    match firstFail [(s.isOpen p, stPoolFrozen), (s.room 1, stBackpressure), (s.card.ready, stCardAbsent),
        (decide (slot < 256), stBadParameter), (s.card.formatted, stSlipInvalid)] with
    | some st => x.refusedRoom s st
    | none =>
      match slipOf (s.card.block (slipBlock slot)) with
      | none => x.refused s stSlipInvalid
      | some v =>
        match slipRefusal s n p slot v with
        | some st => x.refused s st
        | none =>
          if !s.sequenceOk v then x.refused s stSlipInvalid
          else if (s.markRow v.serial v.kcv).isNone && s.freeRow.isNone then
            { x.refused s stBadParameter with inl := inlAt 0 1 }
          else match s.change n { m := v.units.toNat, a := v.units.toNat } (fun p => p) with
            | (s, false) => x.refused s stConservation
            | (s, true) =>
              let s := s.chain { typ := 0x0C, flags := 1, pool := n, node := v.node, fp := v.serial ++ v.id, delta := v.units
                                 aux := v.kcv }
              let s := (s.noteImport v.serial v.kcv s.gctl.time s.ru.jrn.seq v.id).admitted 66
              { s, cyc := 2310, inl := inlAt 0 v.units.toNat, when_ := .group }

/-! ## Settlement (R285, R381) -/

/-- The slip of a record, read from its slot: the slip with its key, if it is the record's. -/
def State.slipFor (s : State) (t : Transfer) : Option (Slip × BitVec 128) :=
  let bs := s.card.block (slipBlock (xferSlot t).toNat)
  match slipOf bs with
  | none => none
  | some v => match s.slipKeyOf v with
    | none => none
    | some k => if v.id == t.id && v.serial == s.life.serial && tagOk k 1 bs then some (v, k) else none

/-- `RECONCILE` of a slip in DOUBT. -/
def reconcileSlip (x : Ctx) (row : Nat) (t : Transfer) (s : State) : Out :=
  if t.st ≠ 2 then x.refused s stBadParameter
  else match firstFail [((s.pool t.pool).all fun p => !s.isFrozen p, stPoolFrozen), (s.room 1, stBackpressure),
      (!s.supplyLow, stSupplyLow), (s.card.ready && cidHash s.card.cid == xferHash t, stCardAbsent)] with
    | some st => x.refusedRoom s st
    | none =>
      match s.slipFor t with
      | none => x.refused s stSlipInvalid
      | some (v, k) =>
        match validMarker k v (s.card.block (markerBlock (xferSlot t).toNat)) with
        | some m =>
          let h := x.held 0 2280 (inlAt 0 (if m = 2 then 1 else 2)) []
          { s := (s.pledge 1).cardPhaseTwo (m == 2) row h, cyc := 2280, when_ := .later }
        | none =>
          if s.card.wp then x.refused s stCardProtected
          else
            let h := x.held 0 (2280 + 69) (inlAt 0 2) []
            let marker := markerBytes k 3 v.id v.serial s.gctl.time
            let s := s.pledge 1
            { s := s.setCard { s.card with op := some (.cancel row marker h), busy := true }, cyc := 2349, when_ := .later }

/-- `RECONCILE`: of a transfer or of a slip, as the identifier's record is (R285, R381). -/
def reconcileBody (x : Ctx) (s : State) : Out :=
  match s.transferRow (BitVec.ofNat 64 (x.c.pkt.field 32 8)) with
  | none => x.refused s stBadParameter
  | some (row, t) =>
    if t.kind = 1 then reconcileSkein x row t s
    else if t.kind = 2 ∧ t.st ≠ 3 then reconcileSlip x row t s
    else x.refused s stBadParameter

/-! ## The class 0x09 opcodes (R383 to R385) -/

/-- `CARD_INFO` op 0. -/
def cardReportBody (_x : Ctx) (s : State) : Out := { s, cyc := 132, result := s.card.info }

/-- `CARD_INFO` op 1. -/
def cardIdentifyBody (x : Ctx) (s : State) : Out :=
  if !(s.card.present && s.card.en) then x.refused s stCardAbsent
  else { s := s.identify (some (x.held 0 132 0 (zeros 64))), cyc := 132, when_ := .later }

/-- A command that writes the card: READY, and CARD_WP low (R374). -/
def writeRefusal (s : State) : Option (BitVec 16) := firstFail [(s.card.ready, stCardAbsent), (!s.card.wp, stCardProtected)]

/-- Blocks are written one by one, and the reply follows. -/
def State.cardWrites (blocks : List (Nat × Bytes)) (h : Held) (s : State) : State :=
  s.setCard { s.card with op := some (.write blocks h), busy := true }

/-- `CARD_FORMAT`. -/
def cardFormatBody (x : Ctx) (s : State) : Out :=
  match writeRefusal s with
  | some st => x.refused s st
  | none =>
    if (List.range 256).any s.slotHeld then x.refused s stStateConflict
    else
      let blocks := (0, volumeHeader) :: (List.range 1599).map fun k => (k + 1, zeros 512)
      { s := (s.setCard { s.card with auditNext := 0 }).cardWrites blocks (x.held 0 180 0 []), cyc := 180, when_ := .later }

/-- `CARD_READ`. -/
def cardReadBody (x : Ctx) (s : State) : Out :=
  if !s.card.ready then x.refused s stCardAbsent
  else
    let h := x.held 0 140 0 (zeros 512)
    { s := s.setCard { s.card with op := some (.read (x.c.pkt.field 32 4) h x.c.pkt.outPtr x.c.pkt.outLen.toNat) }, cyc := 140
      when_ := .later }

/-- `CARD_CLEAR`. -/
def cardClearBody (x : Ctx) (s : State) : Out :=
  let slot := x.c.pkt.field 32 2
  match writeRefusal s with
  | some st => x.refused s st
  | none =>
    if s.slotHeld slot then x.refused s stStateConflict
    else { s := s.cardWrites [(slipBlock slot, zeros 512), (markerBlock slot, zeros 512)] (x.held 0 244 0 []), cyc := 244
           when_ := .later }

/-- The audit block (R385). -/
def State.auditBlock (s : State) (dmk : BitVec 256) (nonce : BitVec 128) : Bytes :=
  let body := leBytes 4 0x7740A0D1 ++ [1, 0] ++ leBytes 2 s.card.auditNext ++ leBytes 8 s.life.serial.toNat ++
    leBytes 8 s.led.durable.seq ++ s.auditBytes ++ digestBytes s.led.durable.head ++ leBytes 4 s.gctl.time.toNat ++ [s.node] ++
    blockBytes nonce
  tagged (blockOf (sm3First 16 (digestBytes dmk ++ [0x41] ++ leBytes 8 s.life.serial.toNat ++ blockBytes nonce))) 1 body

/-- `CARD_AUDIT`. -/
def cardAuditBody (x : Ctx) (s : State) : Out :=
  match writeRefusal s with
  | some st => x.refused s st
  | none =>
    if !s.card.formatted then x.refused s stSlipInvalid
    else match s.dmk 0 with
      | none => x.refused s stParentInvalid
      | some m =>
        let i := s.card.auditNext
        let bs := s.auditBlock m (s.draw.setWidth 128)
        let s := (s.drawn 1).admitted 33
        let s := s.setCard { s.card with auditNext := (i + 1) % 65536 }
        { s := s.cardWrites [(576 + i % 1024, bs)] (x.held 0 66072 (inlAt 0 i) []), cyc := 66072, when_ := .later }

/-! ## Events -/

/-- CARD_DET# changed, filtered and stable: an insertion or a removal (R373). -/
def cardDetectEvent (media : Option Media) (s : State) : State :=
  let s := s.raise evCard
  match media with
  | some m =>
    let s := s.setCard { s.card with present := true, media := some m, err := false }
    if s.card.en && s.card.auto then s.identify none else s
  | none =>
    let s := s.cardRemoval false
    s.setCard { s.card with present := false, media := none }

/-- CMD1 is sent again. -/
def cmd1Event (ready : Bool) (s : State) : State :=
  match s.card.op with
  | some (.ident tries h) =>
    match s.cmd1 tries h ready with
    | (s, true) => s
    | (s, false) => s.cardRemoval true
  | _ => s

/-- The bits of a CMD13 status that tell an error. PRESUMED: the error bits of the card status of the MMC standard
(notes/assumptions/34.md). -/
def cmd13Errors : BitVec 32 := 0xFDF9A080

/-- The card releases CARD_DAT0: the block is written, and the transaction goes on (R374, R379, R381). -/
def busyEndEvent (status : BitVec 32) (s : State) : State :=
  if !s.card.busy then s
  else if status &&& cmd13Errors != 0 then s.cardRemoval true
  else
    let k := s.card
    let s := s.writeDue
    let k' := s.card
    match k.op with
    | some (.exportSlip row slip marker h) => s.setCard { k' with op := some (.exportCheck row slip marker h), busy := false }
    | some (.exportMark row _ _ h) => (s.setCard { k' with op := none, busy := false }).cardPhaseTwo true row h
    | some (.cancel row marker h) => s.setCard { k' with op := some (.cancelCheck row marker h), busy := false }
    | some (.write (_ :: rest) h) =>
      let k := k'
      if rest.isEmpty then
        (s.setCard { k with op := none, busy := false, formatted := leAt (k.block 0) 0 5 == 0x017740CA4D }).postReply h
      else s.setCard { k with op := some (.write rest h) }
    | _ => s

/-- A transaction with the card runs, not only an export that waits for its first step. -/
def CardUnit.talks (k : CardUnit) : Bool :=
  match k.op with
  | none | some (.exportDue ..) => false
  | _ => true

/-- A read's data block arrives (R373, R379 step 3, R383). -/
def cardDataEvent (crcOk : Bool) (s : State) : State :=
  if !s.card.talks then s
  else if !crcOk then s.cardRemoval true
  else
    let k := s.card
    match k.op with
    | some (.read n h _ _) => (s.setCard { k with op := none }).postReply (h.withResult (k.block n))
    | some (.exportCheck row slip marker h) =>
      if k.block (slipBlock (s.slotOf row)) == slip then
        s.setCard { k with op := some (.exportMark row slip marker h), busy := true }
      else s.endCardOp stCardPulled
    | some (.cancelCheck row marker h) =>
      if k.block (markerBlock (s.slotOf row)) == marker then (s.setCard { k with op := none }).cardPhaseTwo false row h
      else s.endCardOp stCardPulled
    | _ => s

/-- Busy lasts beyond BUSY_MS (R373). -/
def busyTimeoutEvent (s : State) : State := if s.card.busy then s.cardRemoval true else s

/-- A read returns no data within 100 ms (R373). -/
def readTimeoutEvent (s : State) : State := if s.card.talks && !s.card.busy then s.cardRemoval true else s

/-- A card command waits at arbiter 29 while a card transaction runs: its packet stays where it is (R386). -/
def onCard (op : BitVec 16) (sub : Option Byte) (body : Ctx → State → Out) (c : Cmd) (s : State) : State :=
  if s.card.op.isSome then s.bringIn c.q (rowPacket op sub c.pkt) else runOp op sub body c s

/-! ## The rows -/

/-- `EXPORT_CARD`. -/
def execExportCard (c : Cmd) (s : State) : Host.Outcome State Fault Refusal := .next (onCard 0x020B none exportCardBody c s)

/-- `IMPORT_CARD`. -/
def execImportCard (c : Cmd) (s : State) : Host.Outcome State Fault Refusal := .next (onCard 0x020C none importCardBody c s)

/-- `RECONCILE` of a transfer. -/
def execReconcileTransfer (c : Cmd) (s : State) : Host.Outcome State Fault Refusal := .next (runOp 0x020E none reconcileBody c s)

/-- `RECONCILE` of a slip. -/
def execReconcileSlip (c : Cmd) (s : State) : Host.Outcome State Fault Refusal := .next (onCard 0x020E none reconcileBody c s)

/-- `CARD_INFO` op 0. -/
def execCardInfoReport (c : Cmd) (s : State) : Host.Outcome State Fault Refusal :=
  .next (runOp 0x0901 (some 0) cardReportBody c s)

/-- `CARD_INFO` op 1. -/
def execCardInfoIdentify (c : Cmd) (s : State) : Host.Outcome State Fault Refusal :=
  .next (onCard 0x0901 (some 1) cardIdentifyBody c s)

/-- `CARD_FORMAT`. -/
def execCardFormat (c : Cmd) (s : State) : Host.Outcome State Fault Refusal := .next (onCard 0x0902 none cardFormatBody c s)

/-- `CARD_READ`. -/
def execCardRead (c : Cmd) (s : State) : Host.Outcome State Fault Refusal := .next (onCard 0x0903 none cardReadBody c s)

/-- `CARD_CLEAR`. -/
def execCardClear (c : Cmd) (s : State) : Host.Outcome State Fault Refusal := .next (onCard 0x0904 none cardClearBody c s)

/-- `CARD_AUDIT`. -/
def execCardAudit (c : Cmd) (s : State) : Host.Outcome State Fault Refusal := .next (onCard 0x0905 none cardAuditBody c s)

/-- CARD_DET# changes. -/
def execCardDetectChange (media : Option Media) (s : State) : Host.Outcome State Fault Refusal := .next (cardDetectEvent media s)

/-- CMD1 is retried. -/
def execCardCmd1Retry (ready : Bool) (s : State) : Host.Outcome State Fault Refusal := .next (cmd1Event ready s)

/-- The card's busy ends. -/
def execCardBusyEnd (status : BitVec 32) (s : State) : Host.Outcome State Fault Refusal := .next (busyEndEvent status s)

/-- The card's busy lasts too long. -/
def execCardBusyTimeout (s : State) : Host.Outcome State Fault Refusal := .next (busyTimeoutEvent s)

/-- A card read times out. -/
def execCardReadTimeout (s : State) : Host.Outcome State Fault Refusal := .next (readTimeoutEvent s)

/-- A card read returns its data. -/
def execCardReadData (crcOk : Bool) (s : State) : Host.Outcome State Fault Refusal := .next (cardDataEvent crcOk s)

end Sys2Proof.Machine
end

