-- ==== Sys2Proof/Machine/Commit.lean ====
section
/-! DEFINITION. The commit unit and what follows durability (R17, R92 to R95, R97, R129, R135, R228, R297, R298), and the events
of the ledger, the journal, the register and the running checkpoint. -/

namespace Sys2Proof.Machine

/-! ## What follows durability -/

/-- One thing that waited for durability is done. -/
def State.doAfter (s : State) (a : After) : State :=
  match a with
  | .reply h => s.postReply h
  | .exportCard h row dest => s.exportWrite h row dest
  | .transferSend h row => s.transferSend h row
  | .transferDone h peer id => (s.sendTo .done (peer.setWidth 6) 0 (leBytes 8 id.toNat)).postReply h
  | .accept src id => s.sendTo .accept src 0 (leBytes 8 id.toNat)
  | .tombstone src id => s.sendTo .noRecord src 0 (leBytes 8 id.toNat)
  | .aqReset => { s with gctl := { s.gctl with aqReset := false } }
  | .routed src tag h => s.routedSend src tag h

/-- All that waited, in order. -/
def State.doAll (after : List After) (s : State) : State := after.foldl State.doAfter s

/-- What waited for a write that is not made: its commands fail with a status. -/
def State.failAfter (st : BitVec 16) (after : List After) (s : State) : State :=
  after.foldl
    (fun s a => match a with
      | .reply h => s.postReply (h.fail st h.cycles.toNat)
      | _ => s) s

/-! ## The unit (R17) -/

/-- The commit unit may start a record: the commit domain is powered, recall has ended, the comparator is not tripped
(R95, R308, R311). -/
def State.cuReady (s : State) : Bool := s.kp.powered && !s.gctl.recalling && !s.kp.tripped && s.kp.cu.isNone

/-- The generation that a replacement checked still stands (R230 step 4). -/
def State.genStands (s : State) (g : GenWrite) : Bool :=
  match g.check with
  | none => true
  | some v => (s.gen g.entry).gen == v

/-- A replacement's write is dropped: its shadow is zeroed and its command fails (R230). -/
def State.dropGen (st : BitVec 16) (g : GenWrite) (s : State) : State :=
  let s := match g.what with
    | .switch _ shadow => s.emptySlot shadow
    | .fill slot => s.emptySlot slot
    | .restore ctx => { s with sl := { s.sl with restoring := s.sl.restoring.del ctx } }
    | .nothing => s
  s.failAfter st g.after

/-- A record takes the unit: a ledger record first, else the oldest of the others (R17). -/
def takeEvent (s : State) : State :=
  if !s.cuReady then s
  else match s.ledgerAsks with
    | some (r, after) =>
      let s := s.grantOwn 21 0
      { s with led := { s.led with waiting := none }, kp := { s.kp with cu := some (.ledger r after, false) } }
    | none =>
      match s.kp.queue with
      | [] => s
      | r :: rest =>
        let s := s.grantOwn 21 r.requester
        let s := { s with kp := { s.kp with queue := rest } }
        match r with
        | .gen g => if s.genStands g then { s with kp := { s.kp with cu := some (.gen g, false) } } else s.dropGen stParentInvalid g
        | r => { s with kp := { s.kp with cu := some (r, false) } }

/-- Bank 0 is written and bank 1 begins (R94, R297). -/
def bank0Event (s : State) : State :=
  match s.kp.cu with
  | some (r, false) =>
    let s := s.cuWrite false r
    { s with kp := { s.kp with cu := some (r, true) } }
  | _ => s

/-- Bank 1 is written and the unit is free. -/
def State.bank1 (r : CuReq) (s : State) : State :=
  let s := s.cuWrite true r
  { s with kp := { s.kp with cu := none } }

/-! ## Ledger records -/

/-- A packet that runs on a queue is found again by its command. -/
def State.resumed (s : State) (c : Cmd) : Option Ctx :=
  ((s.queue c.q).inflight.find? fun f => f.running && f.pkt == c.pkt).map (s.ctxOf c c.pkt)

/-- A checkpoint that waited starts, or goes on waiting behind one that has started (R136). -/
def State.resumeCheckpoint (s : State) (c : Cmd) : State :=
  match s.resumed c with
  | some k => (checkpointBody k s).finish k
  | none => s

/-- The next checkpoint that waited starts: the oldest that is not refused (R136). -/
def State.nextCheckpoint (s : State) : State :=
  s.ru.ckptWait.foldl State.resumeCheckpoint { s with ru := { s.ru with ckptWait := [] } }

/-- The running checkpoint is complete when a durable commit record carries its identifier (R135). -/
def State.completeCheckpoint (r : CommitRec) (s : State) : State :=
  match s.ru.ckpt with
  | none => s
  | some k =>
    if k.rooted && r.ckpt == k.id then
      (({ s with ru := { s.ru with ckpt := none, ckptDone := k.id } }).postReply k.held).nextCheckpoint
    else s

/-- A ledger record becomes durable: its totals, the settled records, FSEQ, the checkpoint, then the replies (R93, R94, R97,
R101). -/
def State.ledgerDurable (r : CommitRec) (after : List After) (s : State) : State :=
  let s := { s with
    led := { s.led with durable := r, haveDurable := true, fseq := if r.mark then r.seq else s.led.fseq }
    ru := { s.ru with reg := { s.ru.reg with changed := s.ru.reg.changed.filter fun p => decide (r.jseq < p.2) } } }
  (((s.settleTotals).completeCheckpoint r).doAll after).releaseAll

/-- COMMIT_DURABLE: a ledger record, or an MSS record. -/
def durableEvent (s : State) : State :=
  match s.kp.cu with
  | some (.ledger r after, true) => (s.bank1 (.ledger r after)).ledgerDurable r after
  | some (.mss off bs after, true) =>
    let s := (s.bank1 (.mss off bs after)).doAll after
    { s with kp := s.kp.startErase }
  | some (.refresh off fix, true) => s.bank1 (.refresh off fix)
  | _ => s

/-! ## Generation-table writes (R228, R230) -/

/-- A slot's contents move into another, which keeps its number (R230 step 5). -/
def State.switchSlots (old shadow : Nat) (s : State) : State :=
  match s.slot shadow with
  | none => s
  | some k => (s.emptySlot shadow).putSlot old (if k.st = .corrupt then k else k.into .valid)

/-- A replaced reserved key is archived again under DMK_0, so that the next start-up fills its slot with it (R219; DESIGN CHOICE,
notes/assumptions/83.md). -/
def State.rearchive (n : Nat) (s : State) : State :=
  match if n < 16 then s.validSlot n else none, s.dmkParent 0 with
  | some k, some q =>
    let h := blobFor k.attr.typ k.attr.usage 0xFF 0 q k.attr.lineage k.attr.lineageGen (s.draw.setWidth 96)
    (s.drawn 1).flashNow (archiveReq (archiveSlot n) (wrapBlob q.wk h [] k.bytes))
  | _, _ => s

/-- What a generation-table write does beside the entry. -/
def State.genEffect (w : GenThen) (s : State) : State :=
  match w with
  | .nothing => s
  | .switch old shadow => (s.switchSlots old shadow).rearchive old
  | .fill n => match s.slot n with
    | some k => s.putSlot n (if k.st = .corrupt then k else k.into .valid)
    | none => s
  | .restore n => match s.sl.restoring.find n with
    | some k => (({ s with sl := { s.sl with restoring := s.sl.restoring.del n } }).setCtx n k).cacheLine n
    | none => s

/-- GEN_TABLE_WRITE_DURABLE. -/
def genDurableEvent (s : State) : State :=
  match s.kp.cu with
  | some (.gen g, true) =>
    let s := s.bank1 (.gen g)
    let s := { s with ks := { s.ks with gens := s.ks.gens.put g.entry g.val } }
    (s.genEffect g.what).doAll g.after
  | _ => s

/-! ## Checkpoints (R131 to R135) -/

/-- A unit's pre-image goes to the staging area before its first change after the cut: a unit of a chunk not sealed yet, other than the
stash's, which the die shadows, in a checkpoint slot; while the area is full the change waits (R132, R250). -/
def stagingEvent (unit : Nat) (s : State) : State :=
  match s.ru.ckpt with
  | none => s
  | some k =>
    let c := unitChunk unit
    if !s.slotIs s.now 3 ∨ c = 6 ∨ 1030 < c ∨ c < k.leavesAt s.now || k.staged.contains unit || s.stagingFull then s
    else { s with ru := { s.ru with ckpt := some { k with staged := k.staged ++ [unit] } } }

/-- The root is formed: the image has been written to host memory, and the root record requests the commit unit. -/
def rootFormedEvent (s : State) : State :=
  match s.ru.ckpt with
  | none => s
  | some k =>
    if k.root.isSome then s
    else
      let ck := ckptKey (s.journalKey.getD 0) k.id
      let chunks := k.chunks ck s.node
      let header := k.header s.node
      let s := ((s.post (.hostWrite k.outPtr (imageBytes header chunks))).hashed treeBlocks).admitted imageBlocks
      let k := { k with root := some (imageRoot header chunks), staged := [] }
      let s : State := { s with
        ru := { s.ru with ckpt := some k }, kp := { s.kp with queue := s.kp.queue ++ [.root k.id k.record.bytes] } }
      s.sync 21

/-- CHECKPOINT_ROOT_DURABLE. -/
def rootDurableEvent (s : State) : State :=
  match s.kp.cu with
  | some (.root id bytes, true) =>
    let s := s.bank1 (.root id bytes)
    match s.ru.ckpt with
    | some k => if k.id = id then { s with ru := { s.ru with ckpt := some { k with rooted := true } } } else s
    | none => s
  | _ => s

/-! ## The ledger's and the register's own events -/

/-- A commit boundary (R92): the open group closes, and the next boundary follows at the period then in force. -/
def boundaryEvent (s : State) : State :=
  let b := max s.now s.led.nextBoundary
  let s := (s.advanceTo b).closeGroup
  { s with led := { s.led with period := s.led.periodCfg, nextBoundary := b + periodCyc s.led.periodCfg } }

/-- What has no record of its own only follows the forced records before it (R62). -/
def Forced.follows : Forced → Bool
  | .endQueue .. => true
  | _ => false

/-- Room for the oldest waiting forced record (R128); what only follows it is done with it. -/
def forcedRoomEvent (s : State) : State :=
  match s.ru.jrn.forced with
  | [] => s
  | f :: rest =>
    if s.forcedRoom || f.follows then
      (rest.takeWhile Forced.follows).foldl (fun s g => s.doForced g)
        (({ s with ru := { s.ru with jrn := { s.ru.jrn with forced := rest.dropWhile Forced.follows } } }).doForced f).settleTotals
    else s

/-- A lease runs out (R86). -/
def lapseEvent (n : PoolId) (s : State) : State :=
  match s.lock n with
  | none => s
  | some k => ((s.advanceTo k.deadline).force (.endLock n 2 [])).raise evLockLapsed

/-- A register operation is accepted (R113). -/
def regAcceptEvent (op : RegOp) (s : State) : State :=
  { s with ru := { s.ru with reg := { s.ru.reg with accepted := s.ru.reg.accepted ++ [op] } } }

/-- The oldest buffered bucket goes to DRAM, in a register slot (R112, R114, R250). -/
def writeBackBucketEvent (s : State) : State :=
  match if s.slotIs s.now 0 then s.ru.reg.wbuf else [] with
  | [] => s
  | p :: rest =>
    { s with ru := { s.ru with reg := { s.ru.reg with wbuf := rest, buckets := s.ru.reg.buckets.put p.1 p.2 } } }

/-- A pool record's change reaches the pool table in DRAM, in a ledger slot (R65, R250). -/
def writeThroughEvent (n : PoolId) (s : State) : State :=
  if s.led.pendingWt.contains n.toNat && s.slotIs s.now 2 then
    let dram := match s.pool n with
      | some p => s.led.dram.put n.toNat p
      | none => s.led.dram.del n.toNat
    { s with led := { s.led with dram, pendingWt := s.led.pendingWt.filter (· != n.toNat) } }
  else s

/-- An MSS record of 8 to 128 bytes, aligned to 8 bytes and within two pages, is queued (R298). -/
def mssRecordEvent (off : Nat) (bs : Bytes) (s : State) : State :=
  let n := bs.length
  if off % 8 = 0 ∧ n % 8 = 0 ∧ 8 ≤ n ∧ n ≤ 128 ∧ (off + n - 1) / 64 ≤ off / 64 + 1 then s.mssWrite off bs [] else s

/-! ## The rows -/

/-- A commit boundary. -/
def execCommitBoundary (s : State) : Host.Outcome State Fault Refusal := .next (boundaryEvent s)

/-- A record takes the commit unit. -/
def execCommitUnitTake (s : State) : Host.Outcome State Fault Refusal := .next (takeEvent s)

/-- Bank 0 is written. -/
def execCommitBank0Written (s : State) : Host.Outcome State Fault Refusal := .next (bank0Event s)

/-- A record is durable. -/
def execCommitDurable (s : State) : Host.Outcome State Fault Refusal := .next (durableEvent s)

/-- A generation-table write is durable. -/
def execGenTableWriteDurable (s : State) : Host.Outcome State Fault Refusal := .next (genDurableEvent s)

/-- A checkpoint root record is durable. -/
def execCheckpointRootDurable (s : State) : Host.Outcome State Fault Refusal := .next (rootDurableEvent s)

/-- A forced record finds room. -/
def execForcedRecordRoom (s : State) : Host.Outcome State Fault Refusal := .next (forcedRoomEvent s)

/-- A lock lapses. -/
def execLockLapse (pool : PoolId) (s : State) : Host.Outcome State Fault Refusal := .next (lapseEvent pool s)

/-- A register operation is accepted. -/
def execRegisterOperation (op : RegOp) (s : State) : Host.Outcome State Fault Refusal := .next (regAcceptEvent op s)

/-- A bucket is written back. -/
def execRegisterWriteBack (s : State) : Host.Outcome State Fault Refusal := .next (writeBackBucketEvent s)

/-- A snapshot unit is staged. -/
def execCheckpointStagingCopy (unit : Nat) (s : State) : Host.Outcome State Fault Refusal := .next (stagingEvent unit s)

/-- The root of a checkpoint is formed. -/
def execCheckpointRootFormed (s : State) : Host.Outcome State Fault Refusal := .next (rootFormedEvent s)

/-- A pool record is written through. -/
def execPoolTableWriteThrough (pool : PoolId) (s : State) : Host.Outcome State Fault Refusal := .next (writeThroughEvent pool s)

/-- An MSS record is queued. -/
def execMssFeramRecord (off : BitVec 19) (bytes : Bytes) (s : State) : Host.Outcome State Fault Refusal :=
  .next (mssRecordEvent off.toNat bytes s)

end Sys2Proof.Machine
end

