-- ==== Sys2Proof/Machine/UnitService.lean ====
section
/-! DEFINITION. The unit service controller (R256 to R262): `UNIT_SERVICE`. -/

namespace Sys2Proof.Machine

/-- A command core is the last in service of a set that serves a slice (R256). -/
def State.lastCore (s : State) (code : Nat) : Bool :=
  let lo := if code < 8 then 0 else 8
  decide (code < 16) && ((List.range 8).filter fun k => !s.isOut (lo + k)) == [code - lo] &&
  (List.range 256).any fun k => s.gctl.sliceOwner.getLsbD k == decide (lo = 8)

/-- The channel of a row. -/
def rowChannel (row : BitVec 20) : Nat := row.toNat % 4

/-- Spare rows left in a channel. -/
def State.sparesLeft (s : State) (c : Nat) : Nat := s.mem.spare.toList.getD c 0

/-- The spare rows left in the channel that the packet's row field names (R260). -/
def Ctx.spares (x : Ctx) (s : State) : Nat := s.sparesLeft (rowChannel (BitVec.ofNat 20 (x.c.pkt.field 36 4)))

/-- A unit out of service by command: its reply, with its state after (R260). -/
def Out.service (x : Ctx) (s : State) (code state : Nat) : Out :=
  { s, cyc := x.cyc 142, inl := serviceInline state (s.unitsIn code) (x.spares s) }

/-- A spindle leaves by command; the reply waits until its granted jobs have ended (R257). -/
def removeSpindle (x : Ctx) (n : Nat) (s : State) : Out :=
  let code := spindleCode n
  let p := s.spindle n
  let s := (s.setSpindle n { p with svc := .out, why := 0 }).serviceChange code causeCommand false
  if p.jobsHeld.isEmpty then .service x s code 0
  else
    let h := x.held 0 (x.cyc 142) (serviceInline 0 (s.unitsIn code) (x.spares s)) []
    { s := { s with arb := { s.arb with leaving := s.arb.leaving.put code h } }, cyc := 142, when_ := .later }

/-- A unit leaves by command. Only a spindle's reply waits for work it was granted before (R257, R260; DESIGN CHOICE,
notes/assumptions/85.md). -/
def removeUnit (x : Ctx) (code : Nat) (s : State) : Out :=
  if 0x20 ≤ code ∧ code < 0x48 then removeSpindle x (code - 0x20) s
  else
    let s := if code = 0x52 then { s with ks := { s.ks with entIn := false } }
      else if code = 0x60 ∨ code = 0x61 then s.portOut (portOf code) (s.port (portOf code)).st
      else s
    .service x (s.serviceChange code causeCommand false) code 0

/-- T_ret: the cycles of a unit's test (R256, R260); a port's reconciliation is counted in the waits. -/
def testCycles (code : Nat) : Nat := if 0x20 ≤ code ∧ code < 0x48 then 65536 else if code = 0x52 then 131072 else 0

/-- The reply of a return waits for the unit's test or reconciliation (R258). -/
def waitReturn (x : Ctx) (code : Nat) (s : State) : Out :=
  let cyc := x.cyc (142 + testCycles code)
  { s := { s with arb := { s.arb with returning := s.arb.returning.put code (x.held 0 cyc (inlAt 2 (x.spares s)) []) } }
    cyc, when_ := .later }

/-- A unit returns by command: after its test where it has one (R256, R258); a port that is held down cannot train (R265). -/
def returnUnit (x : Ctx) (code : Nat) (s : State) : Out :=
  if 0x20 ≤ code ∧ code < 0x48 then
    let n := code - 0x20
    let s := s.setSpindle n { s.spindle n with svc := .testing, why := 0 }
    waitReturn x code { s with spn := { s.spn with katRunning := true, katSpindle := BitVec.ofNat 6 n } }
  else if code = 0x52 then waitReturn x code { s with ks := { s.ks with entTesting := true } }
  else if code = 0x60 ∨ code = 0x61 then
    let w := portOf code
    let k := s.port w
    if k.heldDown then { Out.service x s code 2 with status := stOutOfService }
    else waitReturn x code (s.setPort w { k with st := if k.st = .down ∨ k.st = .training then .training else .reconciling })
  else .service x (s.serviceChange code causeCommand true) code 1

/-! ## Spare rows (R255) -/

/-- The key under which the reply of a row's sparing waits. -/
def rowKey (row : BitVec 20) : Nat := 256 + row.toNat

/-- A row's copy into a spare row starts, where the channel has one left; either way a record says so (R255, R359). -/
def State.spareRow (row : BitVec 20) (s : State) : State :=
  let c := rowChannel row
  if s.mem.copying.contains row || s.mem.spared.contains row then s
  else if s.sparesLeft c = 0 then s.log 0x0026 1 2 (leBytes 4 row.toNat ++ [0])
  else
    ({ s with mem := { s.mem with
        spare := s.mem.spare.setIfInBounds c (s.sparesLeft c - 1), copying := s.mem.copying ++ [row] } }).log 0x0026 1 1
      (leBytes 4 row.toNat ++ [1])

/-- `UNIT_SERVICE` op 2: the reply waits for the row's copy. -/
def spareBody (x : Ctx) (row : BitVec 20) (s : State) : Out :=
  let s := s.spareRow row
  let reply := serviceInline 0 Config.rowUnits.toNat (s.sparesLeft (rowChannel row))
  if s.mem.copying.contains row then
    { s := { s with arb := { s.arb with leaving := s.arb.leaving.put (rowKey row) (x.held 0 (x.cyc 142) reply []) } }
      cyc := 142, when_ := .later }
  else { s, cyc := x.cyc 142, inl := reply }

/-- A row's copy has ended, its last transfer of 4 cycles in a scrub slot (R250): the row is spared, its change of service is noted, and a waiting reply is posted (R255, R259). -/
def State.rowSpared (row : BitVec 20) (s : State) : State :=
  if !s.mem.copying.contains row || !s.slotIs (s.now - 4) 4 then s
  else
    let s := { s with mem := { s.mem with copying := s.mem.copying.erase row, spared := s.mem.spared ++ [row] } }
    match s.arb.leaving.find (rowKey row) with
    | some h =>
      (({ s with arb := { s.arb with leaving := s.arb.leaving.del (rowKey row) } }).serviceChange 0x80 causeCommand false).postReply h
    | none => s.serviceChange 0x80 causeRow false

/-! ## The command -/

/-- A service request waits (R262, R368): the MSS does not run, a core's removal during a handover, a return while a response is
in force, any request while a return of its unit is testing. -/
def serviceWaits (op code : Nat) (s : State) : Bool :=
  s.mss.st != .running || (s.arb.returning.find code).isSome || (op == 0 && decide (code < 16) && s.mss.ho.isSome) || (op == 1 && s.holding)

/-- The controller holds a request that waits. -/
def holdService (x : Ctx) (s : State) : Out :=
  { s := { s with arb := { s.arb with waiting := s.arb.waiting ++ [x.c] } }, cyc := 0, when_ := .later }

/-- `UNIT_SERVICE` (R260, R261). -/
def unitServiceBody (x : Ctx) (s : State) : Out :=
  let op := (x.c.pkt.byteAt 32).toNat
  let code := (x.c.pkt.byteAt 33).toNat
  if op = 2 then
    if s.mss.st != .running then holdService x s
    else spareBody x (BitVec.ofNat 20 (x.c.pkt.field 36 4)) s
  else if serviceWaits op code s then holdService x s
  else if op = 0 then
    if s.unitOut code then .service x s code 0
    else if s.lastCore code then x.refused s stBadParameter
    else removeUnit x code s
  else if s.unitOut code then returnUnit x code s
  else .service x s code 1

/-- A service request that waited is taken up again where its command still runs. -/
def State.resumeOne (s : State) (c : Cmd) : State :=
  match c.via with
  | .host => match s.resumed c with
    | some k => (unitServiceBody k s).finish k
    | none => s
  | _ => (unitServiceBody (sideCtx c c.pkt) s).finish (sideCtx c c.pkt)

/-- The requests that waited are taken up again, those that still must wait in their order. -/
def State.resumeService (s : State) : State :=
  s.arb.waiting.foldl State.resumeOne { s with arb := { s.arb with waiting := [] } }

/-! ## The rows -/

/-- `UNIT_SERVICE` op 0. -/
def execUnitServiceRemove (c : Cmd) (s : State) : Host.Outcome State Fault Refusal :=
  .next (runOp 0x0A05 (some 0) unitServiceBody c s)

/-- `UNIT_SERVICE` op 1. -/
def execUnitServiceReturn (c : Cmd) (s : State) : Host.Outcome State Fault Refusal :=
  .next (runOp 0x0A05 (some 1) unitServiceBody c s)

/-- `UNIT_SERVICE` op 2. -/
def execUnitServiceSpareRow (c : Cmd) (s : State) : Host.Outcome State Fault Refusal :=
  .next (runOp 0x0A05 (some 2) unitServiceBody c s)

/-- A row with three corrections is spared (R255). -/
def execRowSpare (row : BitVec 20) (s : State) : Host.Outcome State Fault Refusal :=
  .next (if 3 ≤ s.mem.corrections.get row.toNat 0 then s.spareRow row else s)

/-- A row's copy ends. -/
def execRowSpareDone (row : BitVec 20) (s : State) : Host.Outcome State Fault Refusal := .next (s.rowSpared row)

/-! ## What may end the test of a return: the requests that waited for it go on (R262) -/

/-- The end of a known-answer test. -/
def execKnownAnswerTestEnd (sp : BitVec 6) (pass : Bool) (s : State) : Host.Outcome State Fault Refusal :=
  onSpindle sp (fun s => (katEnd sp.toNat pass s).resumeService) s

/-- The end of the restarted sources' tests. -/
def execEntropyRestartTestsEnd (pass : Bool) (s : State) : Host.Outcome State Fault Refusal :=
  .next (restartTestsEvent pass s).resumeService

end Sys2Proof.Machine
end

