-- ==== Sys2Proof/Machine/Resetting.lean ====
section
/-! DEFINITION. What the resets share (R63, R367, R369, R396, R397): queues that end without a reply, jobs and runs that a link
reset aborts, the end of a handover, and the reset of the MSS. -/

namespace Sys2Proof.Machine

/-! ## Causes (R404) -/

/-- Bits of `RST_CAUSE`. -/
def rcPor : Nat := 0
def rcSys : Nat := 1
def rcPerst : Nat := 2
def rcFlr : Nat := 3
def rcDp : Nat := 4
def rcMss : Nat := 5
def rcLc : Nat := 6

/-- A reset is noted: its bit of `RST_CAUSE` (R396). -/
def State.causeBit (bit : Nat) (s : State) : State :=
  { s with pwr := { s.pwr with rstCause := setBit s.pwr.rstCause bit true } }

/-- The RESET record of a reset (R359): its class and cause bytes are FREE VALUES, notes/assumptions/35.md. -/
def State.logReset (kind : Nat) (s : State) : State :=
  s.log 0x0001 0 0 [(Config.resetDetail kind).1, (Config.resetDetail kind).2]

/-- The kinds of reset that a RESET record tells apart. -/
def rkPor : Nat := 0
def rkSys : Nat := 1
def rkSupply : Nat := 2
def rkLife : Nat := 3
def rkPerst : Nat := 4
def rkFlr : Nat := 5
def rkMss : Nat := 6
def rkMssUpdate : Nat := 7
def rkMssWatchdog : Nat := 8
def rkMember : Nat := 9

/-! ## Arbiters (R246, R397) -/

/-- The counters and flags of a requester zeroed; its weight and threshold stay. -/
def Requester.cleared (r : Requester) : Requester :=
  { r with starve := false, grants := 0, waits := 0, longest := 0, parked := [] }

/-- The counters and flags of arbiters `lo` to `hi` zeroed. -/
def State.clearArbiters (lo hi : Nat) (s : State) : State :=
  { s with arb := { s.arb with arbs := s.arb.arbs.mapVals fun n a =>
      if lo ≤ n ∧ n ≤ hi then { a with reqs := a.reqs.mapVals fun _ r => r.cleared, wdog := 0 } else a } }

/-! ## The end of every queue (R63) -/

/-- A job that a link reset aborts: an `ISSUE`'s unit returns and its ABANDON record carries flags 0 (R80). -/
def State.abandonJob (s : State) (j : Job) : State :=
  match j.what with
  | .issue r => s.abandon r 0
  | _ => s

/-- Every job that runs or is parked is aborted and cleared, without a reply (R163, R164). -/
def State.abandonJobs (s : State) : State :=
  let js := s.spn.sp.toList.flatMap Spindle.jobsHeld ++ s.spn.signParked ++ s.spn.verifyParked
  let s := (List.range 40).foldl (fun s n => if (s.spindle n).jobsHeld.isEmpty then s else s.clearSpindle n) s
  js.foldl State.abandonJob { s with spn := { s.spn with signParked := [], verifyParked := [] } }

/-- A run of the seal pipeline ends without a reply: a SEAL context becomes BROKEN, an `ISSUE` leaves its ABANDON record, with flags 0
(R80, R198). -/
def State.abandonRun (s : State) (r : SealRun) : State :=
  match r.kind with
  | .data | .final => match s.sealCtx r.ctx with | some k => s.breakCtx r.ctx k | none => s
  | .opens .. => s.setCtx r.ctx { r.was with inflight := false }
  | .ticket i _ => (s.setCtx r.ctx { r.was with inflight := false }).abandon i 0

/-- Seal commands in flight end: a SEAL context with one becomes BROKEN, a hold buffer is zeroed (R198). -/
def State.endSealRuns (s : State) : State :=
  let runs := s.sl.runs
  let s := { s with sl := { s.sl with
      runs := [], pipe := [], fills := [], holdBusy := 0
      ctxs := s.sl.ctxs.mapVals fun _ k => { k with inflight := false } } }
  (runs.foldl State.abandonRun s).sync 14

/-- Digest commands in flight end, and every host context is zeroed and CLOSED (R211). -/
def State.closeDigests (s : State) : State :=
  let s : State := { s with dig := { s.dig with runs := [], ctxs := Vector.ofFn fun n => if n.val < 48 then closedDig else s.dig.ctxs[n.val] } }
  s.sync 17

/-- A queue under its next epoch after a link reset: queue 0 stays where it exists, every other is absent (R63). -/
def Queue.afterLink (n : Nat) (x : Queue) : Queue :=
  if n = 0 ∧ x.st ≠ .absent then x.renewed else { x.renewed with st := .absent }

/-- Every queue ends without a reply, every epoch is incremented, and no reset of a queue goes on (R63). -/
def State.dropQueues (s : State) : State :=
  { s with queues := s.queues.mapVals Queue.afterLink, epochBase := s.epochBase + 1
           ru := { s.ru with jrn := { s.ru.jrn with forced := s.ru.jrn.forced.filter fun f => !f.follows } }
           gctl := { s.gctl with en := false, aqReset := false, qsel := 0 } }

/-- A generation-table write that the commit unit has not taken is dropped with its command (R240). -/
def State.dropGens (st : BitVec 16) (s : State) : State :=
  let gs := s.kp.queue.filterMap fun r => match r with | .gen g => some g | _ => none
  let s := { s with kp := { s.kp with queue := s.kp.queue.filter fun r => match r with | .gen _ => false | _ => true } }
  gs.foldl (fun s g => s.dropGen st g) s

/-- A running checkpoint is abandoned, and those that wait with it (R136). Its identifier is given again, so that the slot of the last
complete checkpoint is not the next one to be written (R135; DESIGN CHOICE, notes/assumptions/78.md). -/
def State.abandonCheckpoint (s : State) : State :=
  { s with ru := { s.ru with ckpt := none, ckptWait := [], ckptNext := (s.ru.ckpt.map (·.id)).getD s.ru.ckptNext }
           kp := { s.kp with queue := s.kp.queue.filter fun r => r.requester != 3 } }

/-- Commands of host queues that the MSS or the unit service controller has not begun are gone with their queues. -/
def State.dropForwarded (s : State) : State :=
  { s with mss := { s.mss with
             forwarded := [], running := match s.mss.running with
               | some (.host, c) => if s.mss.begun then some (.host, c) else none
               | r => r }
           arb := { s.arb with waiting := s.arb.waiting.filter fun c => c.via != .host } }

/-- Every queue, lock, job and seal and digest command ends as R63 sets out; `EN` of the journal ring is cleared (R399). -/
def State.endAllQueues (s : State) : State :=
  let s := { s with ru := { s.ru with jrn := { s.ru.jrn with en := false } } }
  let locks : List PoolId := s.led.locks.map fun p => BitVec.ofNat 16 p.1
  let s := (s.dropQueues.dropForwarded.abandonJobs.endLocks 4 locks).endSealRuns.closeDigests.abandonCheckpoint
  (s.dropGens stQueueResetAbort).releaseAll

/-- The PCI Express endpoint with its MSI-X table, and the arbiters of the link, are reset (R396). -/
def State.resetLink (s : State) : State :=
  ({ s with gctl := { s.gctl with msix := [], pba := [], d3hot := false, d3held := [] } }.clearArbiters 0 0).clearArbiters 4 7

/-! ## Handovers that end early (R367) -/

/-- The queues' slices are assigned (R366). -/
def State.assign (v : BitVec 256) (s : State) : State := { s with gctl := { s.gctl with sliceOwner := v } }

/-- A handover is over: its outcome, the HANDOVER record and event, and its reply (R359, R366). -/
def State.endHandover (outcome : Byte) (status : BitVec 16) (s : State) : State :=
  match s.mss.ho with
  | none => s
  | some k =>
    let s := { s with mss := { s.mss with ho := none, hoStep := BitVec.ofNat 8 k.step, hoOutcome := outcome } }
    let s := (s.log 0x0042 2 (if outcome = 1 then 0 else 2) [BitVec.ofNat 8 k.step, outcome]).raise evHandover
    s.postReply { k.h with status, inl := inlAt 0 k.failing }

/-- A set has its image, or none. -/
def State.setImage (b : Bool) (r : Option Running) (s : State) : State :=
  if b then { s with mss := { s.mss with setB := r } } else { s with mss := { s.mss with setA := r } }

/-- A handover that STRIP or an MSS reset ends stays on the set that holds the slices; the other set is unloaded until the next
start-up (R345, R367; notes/assumptions/65.md). -/
def State.cutHandover (s : State) : State :=
  match s.mss.ho with
  | none => s
  | some _ => (s.setImage (s.gctl.sliceOwner == 0) none).endHandover 3 stHandoverAborted

/-! ## MSS reset (R369) -/

/-- The MSS is reset: the challenge, a staging session, the running and waiting side-band commands are gone, a handover ends;
the other planes do not change. -/
def State.resetMss (kind : Nat) (s : State) : State :=
  let s := s.cutHandover.logReset kind
  let s := { s with
    life := { s.life with challenge := none }
    tmp := { s.tmp with release := none, releasing := false, tests := [], testing := false, suppressed := none }
    mss := { s.mss with
      st := .booting, mss := none, staging := none, smbus := [], running := none, begun := false, spiWaiting := none
      spiOut := none, spiErr := false, eid := 0, partialMsg := [], discarded := 0 } }
  (s.clearArbiters 22 28).causeBit rcMss

end Sys2Proof.Machine
end

