-- ==== Sys2Proof/Machine/Registers.lean ====
section
/-! DEFINITION. What a read of BAR0 returns and what it changes (R27 to R30, R37, R103, R142, R173, R199, R212, R241, R263, R264,
R292, R346, R387, R404, with the access codes of R8). -/

namespace Sys2Proof.Machine

/-- A register word put together from fields: each a bit position and a value. -/
def word (fs : List (Nat × Nat)) : BitVec 32 := BitVec.ofNat 32 (fs.foldl (fun a p => a + p.2 * 2 ^ p.1) 0)

/-- The low and the high half of a 64-bit value. -/
def loHalf (v : Nat) : BitVec 32 := BitVec.ofNat 32 v
def hiHalf (v : Nat) : BitVec 32 := BitVec.ofNat 32 (v / 2 ^ 32)

/-- Flags as a word, bit k from element k. -/
def flagWord (l : List Bool) : Nat := l.zipIdx.foldl (fun a p => a + p.1.toNat * 2 ^ p.2) 0

/-- Four-bit owner codes `8 i` to `8 i + 7` of a slot table as a word (R264, R292). -/
def slotWord (t : Vector (BitVec 4) 64) (i : Nat) : BitVec 32 :=
  word ((List.range 8).map fun k => (4 * k, (t.toList.getD (8 * i + k) 0).toNat))

/-! ## GCTL, events, queue engine (R29, R30, R37) -/

/-- A pool is frozen somewhere (R29). -/
def State.frozenPools (s : State) : Nat := (s.led.pools.filter fun p => s.isFrozen p.2).length

/-- The GCTL block. -/
def State.readGctl (s : State) (off : Nat) : BitVec 32 :=
  let g := s.gctl
  match off with
  | 0x00 => gctlId
  | 0x04 => s.gctlRev
  | 0x08 => loHalf s.life.serial.toNat
  | 0x0C => hiHalf s.life.serial.toNat
  | 0x10 => word [(0, s.life.count.toNat)]
  | 0x14 => word [(0, s.skn.nodeId.toNat), (6, s.skn.head.toNat), (8, s.skn.nodes.toNat)]
  | 0x20 => word [(0, g.en.toNat), (1, g.aqReset.toNat)]
  | 0x24 => word [(0, g.ready.toNat), (1, g.recalling.toNat), (2, s.ru.rb.needed.toNat), (3, s.holding.toNat),
      (4, (decide (2 ≤ s.tmp.level.toNat)).toNat), (5, (decide (0 < s.frozenPools)).toNat), (6, s.mss.ho.isSome.toNat)]
  | 0x28 => word [(0, g.aqSqM1.toNat), (16, g.aqCqM1.toNat)]
  | 0x30 => loHalf g.aqSqBase.toNat
  | 0x34 => hiHalf g.aqSqBase.toNat
  | 0x38 => loHalf g.aqCqBase.toNat
  | 0x3C => hiHalf g.aqCqBase.toNat
  | 0x40 => word [(0, g.aqVector.toNat), (16, g.aqIrqMode.toNat)]
  | 0x44 => word [(0, g.aqCoalCount.toNat), (16, g.aqCoalTime.toNat)]
  | 0x48 => loHalf g.cycle.toNat
  | 0x4C => g.cycleHi
  | 0x50 => g.time
  | _ => 0

/-- The event interrupt block. -/
def State.readEvents (s : State) (off : Nat) : BitVec 32 :=
  let g := s.gctl
  match off with
  | 0x00 => word [(0, g.evtStat.toNat)]
  | 0x04 => word [(0, g.evtMask.toNat)]
  | 0x08 => word [(0, g.evtVec.toNat)]
  | 0x0C => word [(0, g.dbQueue.toNat), (16, g.dbEpoch.toNat), (17, g.dbCause.toNat), (24, g.dbCount.toNat)]
  | _ => 0

/-- The code of a queue's state (R37). -/
def QueueSt.code : QueueSt → Nat
  | .absent => 0 | .active => 1 | .resetting => 2 | .deleting => 3

/-- The queue engine block; the slice owners lie 0x1000 above it. -/
def State.readQueues (s : State) (off : Nat) : BitVec 32 :=
  let q := s.gctl.qsel
  let x := s.queue q
  if 0x1000 ≤ off then
    if off < 0x1020 then BitVec.ofNat 32 (bitsAt s.gctl.sliceOwner.toNat (8 * (off - 0x1000)) 32) else 0
  else match off with
  | 0x00 => word [(0, q.toNat)]
  | 0x04 => word [(0, x.st.code), (2, (s.setOf q).toNat), (8, if x.st = .absent then 0 else x.dom.toNat), (16, x.epoch.toNat)]
  | 0x08 => if x.st = .absent then 0 else word [(0, x.sqHead.toNat), (16, x.sqTail.toNat)]
  | 0x0C => if x.st = .absent then 0 else word [(0, x.cqTail.toNat), (16, x.cqHead.toNat)]
  | 0x10 => if x.st = .absent then 0 else word [(0, x.inflight.length), (24, (s.locksOf q x.epoch).length)]
  | _ => 0

/-! ## Ledger (R103) -/

/-- A quantity of a vector of totals: 0 to 7 the states of R66, 8 L, 9 M. -/
def Totals.at (t : Totals) (k : Nat) : Nat := ([t.a, t.r, t.i, t.s, t.v, t.t, t.x, t.w, t.l, t.m] : List Nat).getD k 0

/-- The 64-bit values of the ledger block. -/
def State.ledgerWide (s : State) : LedgerLo → Nat
  | .next => s.led.nextBoundary
  | .cseq => s.led.durable.seq
  | .jseq => s.led.durable.jseq
  | .tot => (if s.led.totLive then s.led.live else s.led.durable.tot).at s.led.totQty.toNat
  | .fseq => s.led.fseq

/-- The commit unit writes a ledger record. -/
def State.committing (s : State) : Bool := match s.kp.cu with | some (.ledger .., _) => true | _ => false

/-- The ledger block. -/
def State.readLedger (s : State) (off : Nat) : BitVec 32 :=
  let l := s.led
  match off with
  | 0x00 => word [(0, l.periodCfg.toNat)]
  | 0x04 => word [(0, l.recovered.toNat), (1, s.committing.toNat), (2, s.supplyLow.toNat),
      (3, (l.waiting.isSome && s.supplyLow).toNat), (4, l.strip.toNat), (5, l.scour.toNat), (6, l.totals.toNat)]
  | 0x08 => loHalf (s.ledgerWide .next)
  | 0x0C => l.nextHi
  | 0x10 => loHalf (s.ledgerWide .cseq)
  | 0x14 => l.cseqHi
  | 0x18 => loHalf (s.ledgerWide .jseq)
  | 0x1C => l.jseqHi
  | 0x20 => word [(0, l.totQty.toNat), (8, l.totLive.toNat)]
  | 0x24 => loHalf (s.ledgerWide .tot)
  | 0x28 => l.totHi
  | 0x2C => word [(0, s.frozenPools)]
  | 0x30 => l.refused
  | 0x34 => loHalf (s.ledgerWide .fseq)
  | 0x38 => l.fseqHi
  | _ => 0

/-! ## Register and journal (R142) -/

/-- Stash entries in use. -/
def Register.stashUsed (r : Register) : Nat := (r.stash.filter fun p => isLive p.2).length

/-- Records a command may still pledge (R128). -/
def State.journalRoom (s : State) : Nat :=
  let j := s.ru.jrn
  if j.en then j.ack + s.ringDepth - (j.seq + j.pledged + 64) else 0

/-- The 64-bit values of the register block. -/
def State.regWide (s : State) : RegLo → Nat
  | .seq => s.ru.jrn.seq
  | .ack => s.ru.jrn.ack
  | .ckptId => s.ru.ckptDone
  | .rbldSeq => s.ru.rb.last

/-- The register block. -/
def State.readRegister (s : State) (off : Nat) : BitVec 32 :=
  let r := s.ru.reg
  let j := s.ru.jrn
  match off with
  | 0x00 => word [(0, r.fpkSlot.toNat), (16, r.stashWarn.toNat)]
  | 0x04 => word [(0, s.ru.rb.needed.toNat), (1, s.ru.rb.broken.toNat), (2, s.ru.ckpt.isSome.toNat),
      (3, (decide (r.stashWarn.toNat ≤ r.stashUsed)).toNat),
      (4, s.stagingFull.toNat)]
  | 0x08 => word [(0, r.liveCount)]
  | 0x0C => word [(0, r.stashUsed), (16, r.stashHigh.toNat)]
  | 0x10 => r.ops
  | 0x20 => loHalf j.base.toNat
  | 0x24 => hiHalf j.base.toNat
  | 0x28 => word [(0, j.depth.toNat), (8, j.en.toNat), (9, j.ackGate.toNat)]
  | 0x30 => loHalf (s.regWide .seq)
  | 0x34 => j.seqHi
  | 0x38 => loHalf (s.regWide .ack)
  | 0x3C => j.ackHi
  | 0x40 => word [(0, s.journalRoom)]
  | 0x48 => loHalf (s.regWide .ckptId)
  | 0x4C => j.ckptHi
  | 0x50 => word [(0, (s.ru.ckpt.map fun k => k.leavesAt s.now).getD s.ru.rb.leaves)]
  | 0x58 => loHalf (s.regWide .rbldSeq)
  | 0x5C => j.rbldHi
  | _ => 0

/-! ## Seal, spindles, digest, key store (R173, R199, R212, R241) -/

/-- The 64-bit values of the seal block. -/
def State.sealWide (s : State) : SealLo → Nat
  | .blk => s.sl.blocks.toNat
  | .floor => (s.gen s.sl.dsel.toNat).floor.toNat

/-- The seal block. -/
def State.readSeal (s : State) (off : Nat) : BitVec 32 :=
  let l := s.sl
  match off with
  | 0x00 => word [(0, l.holdBusy.toNat), (4, l.wiping.toNat)]
  | 0x04 => word [(0, s.pinned), (16, l.ctxs.length)]
  | 0x08 => l.miss
  | 0x0C => word [(0, l.tagFails.toNat), (16, l.exhausted.toNat), (24, l.broken.toNat)]
  | 0x10 => loHalf (s.sealWide .blk)
  | 0x14 => l.blocksHi
  | 0x18 => word [(0, l.dsel.toNat)]
  | 0x1C => loHalf (s.sealWide .floor)
  | 0x20 => l.floorHi
  | _ => 0

/-- The width code of a curve slot: 0 256, 1 384, 2 512, 3 none. -/
def State.curveWidth (s : State) (j : Nat) : Nat :=
  match s.spn.curves.find j with
  | some c => if c.cv.w = 256 then 0 else if c.cv.w = 384 then 1 else 2
  | none => 3

/-- The spindle block. -/
def State.readSpindles (s : State) (off : Nat) : BitVec 32 :=
  let sp := s.spn.sp.toList
  let p := s.spindle s.spn.sel.toNat
  match off with
  | 0x00 => word [(0, flagWord ((sp.take 8).map fun (q : Spindle) => q.svc == SpSvc.inService))]
  | 0x04 => word [(0, flagWord ((sp.drop 8).map fun (q : Spindle) => q.svc == SpSvc.inService))]
  | 0x08 => word [(0, flagWord ((sp.take 8).map (·.job.isSome))), (8, flagWord ((sp.take 8).map (·.shadow.isSome)))]
  | 0x0C => word [(0, flagWord ((sp.drop 8).map (·.job.isSome)))]
  | 0x10 => word [(0, s.curveWidth 1), (2, s.curveWidth 2), (4, s.curveWidth 3), (6, s.curveWidth 4),
      (8, flagWord (([1, 2, 3, 4] : List Nat).map fun j => (s.spn.curves.find j).any (·.valid)))]
  | 0x20 => word [(0, s.spn.sel.toNat)]
  | 0x24 => p.jobs
  | 0x28 => word [(0, p.vasFails.toNat), (8, p.katFails.toNat), (16, p.aborts.toNat), (24, p.yields.toNat)]
  | 0x2C => word [(0, s.openJobs.length)]
  | 0x30 => word [(0, s.spn.katSpindle.toNat), (8, s.spn.katPass.toNat), (9, s.spn.katRunning.toNat)]
  | _ => 0

/-- The digest block. -/
def State.readDigest (s : State) (off : Nat) : BitVec 32 :=
  let hosts := s.dig.ctxs.toList.take 48
  match off with
  | 0x00 => word [(0, (hosts.filter fun k => k.st != 0).length), (16, (hosts.filter (·.keyed)).length)]
  | 0x04 => word [(0, s.dig.mismatch.toNat), (16, s.dig.restarts.toNat)]
  | 0x08 => loHalf s.dig.blocks.toNat
  | 0x0C => s.dig.blocksHi
  | 0x10 => s.dig.util
  | _ => 0

/-- The key store block. -/
def State.readKeys (s : State) (off : Nat) : BitVec 32 :=
  let k := s.ks
  match off with
  | 0x00 => word [(0, k.root.toNat), (3, (k.root != 0).toNat), (4, s.share.isSome.toNat),
      (5, k.archiveLoaded.toNat), (6, k.entIn.toNat)]
  | 0x04 => word [(0, (k.slots.filter fun p => p.2.st == .valid).length), (16, (k.slots.filter fun p => p.2.st == .corrupt).length)]
  | 0x08 => word [(0, k.sweep.toNat)]
  | 0x0C => word [(0, k.entFailCount.toNat), (8, k.kcvFails.toNat), (16, k.corrupted.toNat), (24, k.orphaned.toNat)]
  | 0x10 => word [(0, k.dsel.toNat)]
  | 0x14 => (s.gen k.dsel.toNat).gen
  | 0x18 => word [(0, (k.gens.filter fun p => decide (256 ≤ p.1) && (p.2.kind == 2 || p.2.kind == 3)).length)]
  | _ => 0

/-! ## Arbiters and the memory schedule (R242, R263, R264) -/

/-- The watchdog limits (R242, R263). -/
def arbLimit (n : Nat) : BitVec 32 :=
  match n with
  | 9 | 14 | 17 | 18 => 64
  | 10 | 11 | 15 | 19 => 256
  | 12 | 13 => 0xFFFFFFFF
  | _ => 0

/-- Some requester of an arbiter has STARVE set. -/
def Arbiter.starving (a : Arbiter) : Bool := a.reqs.any fun p => p.2.starve

/-- The arbiter index block. -/
def State.readArb (s : State) (off : Nat) : BitVec 32 :=
  let n := s.arb.selArb.toNat
  let r := s.arb.selReq.toNat
  let a := s.arbiter n
  let k := a.req r
  let known := decide (r < arbRequesters n)
  let first := (a.reqs.find? fun p => p.2.starve).map Prod.fst
  let map (lo count : Nat) : Nat := flagWord ((List.range count).map fun i => (s.arbiter (lo + i)).starving)
  match off with
  | 0x00 => word [(0, n), (16, r)]
  | 0x04 => word [(0, arbRequesters n), (16, (n == 0 || n == 21).toNat), (17, a.starving.toNat)]
  | 0x08 => if !known then 0 else if n = 0 then ((s.queuePolicy r).map fun p => p.weight.setWidth 32).getD 0 else k.weight.setWidth 32
  | 0x0C => if !known then 0 else if n = 0 then ((s.queuePolicy r).map (·.starve)).getD 0 else k.thresh
  | 0x10 => if known then word [(0, k.starve.toNat), (1, min 32767 k.parked.length)] else 0
  | 0x14 => match first with | some f => word [(0, f)] | none => word [(31, 1)]
  | 0x18 => word [(1, a.frozen.toNat)]
  | 0x1C => arbLimit n
  | 0x20 => word [(0, a.wdog.toNat)]
  | 0x24 => word [(0, map 0 32)]
  | 0x28 => word [(0, map 32 2)]
  | 0x100 | 0x104 | 0x108 | 0x10C => BitVec.ofNat 32 (bitsAt s.arb.out.toNat (8 * (off - 0x100)) 32)
  | 0x110 => word [(0, s.arb.lastUnit.toNat), (8, s.arb.lastIn.toNat), (9, s.arb.lastCause.toNat)]
  | _ => 0

/-- The window of per-requester counters. -/
def State.readWindow (s : State) (off : Nat) : BitVec 32 :=
  let r := off / 12
  if arbRequesters s.arb.selArb.toNat ≤ r then 0
  else
    let k := (s.arbiter s.arb.selArb.toNat).req r
    if off % 12 = 0 then k.grants else if off % 12 = 4 then k.waits else k.longest

/-- The memory schedule block. -/
def State.readMem (s : State) (off : Nat) : BitVec 32 :=
  let m := s.mem
  let c := s.gctl.cycle.toNat
  if 0x40 ≤ off ∧ off < 0x60 then slotWord m.live ((off - 0x40) / 4)
  else if 0x80 ≤ off ∧ off < 0xA0 then slotWord m.shadow ((off - 0x80) / 4)
  else match off with
  | 0x00 => word [(0, c % 1024 / 16), (16, c / 1024 % 65536)]
  | 0x04 => word [(0, m.swap.toNat), (1, m.bad.toNat)]
  | 0x08 => word ((List.range 4).map fun k => (8 * k, s.sparesLeft k))
  | 0x0C => m.ecc
  | _ => 0

/-! ## Skein, tamper, power, card (R292, R346, R387, R404) -/

/-- The code of a port's state (R292). -/
def PortSt.code : PortSt → Nat
  | .down => 0 | .training => 1 | .reconciling => 2 | .up => 3 | .lowRate => 4

/-- A port's status register. -/
def SkPort.word (p : SkPort) : BitVec 32 :=
  Machine.word [(0, p.st.code), (3, p.lanes.toNat), (5, p.inService.toNat), (6, p.bad.toNat)]

/-- The Skein block. -/
def State.readSkein (s : State) (off : Nat) : BitVec 32 :=
  let k := s.skn
  let vc := k.cselVc.toNat
  let v := (if k.cselWest then k.west else k.east).vcAt vc
  if 0x40 ≤ off ∧ off < 0x60 then slotWord k.east.live ((off - 0x40) / 4)
  else if 0x60 ≤ off ∧ off < 0x80 then slotWord k.east.shadow ((off - 0x60) / 4)
  else if 0x80 ≤ off ∧ off < 0xA0 then slotWord k.west.live ((off - 0x80) / 4)
  else if 0xA0 ≤ off ∧ off < 0xC0 then slotWord k.west.shadow ((off - 0xA0) / 4)
  else match off with
  | 0x00 => word [(0, k.en.toNat), (1, k.east.swap.toNat), (2, k.west.swap.toNat), (3, k.autoReturn.toNat)]
  | 0x04 => word [(0, k.keySlot.toNat)]
  | 0x08 => k.east.word
  | 0x0C => k.west.word
  | 0x10 => word [(0, k.reach.toNat), (8, k.ring.toNat)]
  | 0x14 => word [(0, k.rounds.toNat), (16, k.mismatch.toNat)]
  | 0x18 => word [(0, k.timeout.toNat)]
  | 0x20 => word [(0, vc), (3, k.cselWest.toNat)]
  | 0x24 => word [(0, vcBuffer vc - v.occupied), (8, v.held), (16, vcBuffer vc)]
  | 0x28 => v.sent
  | 0x2C => v.freed
  | _ => 0

/-- The response of a source in the configuration record (R322). -/
def State.responseOf (s : State) (n : Nat) : Nat := bitsAt s.tmp.cfg.toNat (2 * n) 2

/-- An active source has a response of HOLD or stronger (R327, R328). -/
def State.holdSource (s : State) : Bool :=
  (List.range 25).any fun n => s.tmp.active.getLsbD n && decide (1 ≤ s.responseOf n)

/-- The tamper status mirror. -/
def State.readTamper (s : State) (off : Nat) : BitVec 32 :=
  let t := s.tmp
  match off with
  | 0x00 => word [(0, t.level.toNat), (3, t.latched.toNat), (4, (!s.holdSource).toNat), (8, t.testing.toNat),
      (9, (!t.store.isEmpty).toNat)]
  | 0x04 => word [(0, t.active.toNat)]
  | 0x08 => word [(0, t.fired.toNat)]
  | 0x0C => word [(0, bitsAt t.cfg.toNat 0 32)]
  | 0x10 => word [(0, bitsAt t.cfg.toNat 32 18)]
  | 0x14 => word [(0, t.lastSource.toNat), (8, t.lastDetail.toNat), (16, t.lastResp.toNat)]
  | 0x18 => t.count
  | 0x1C => word [(0, t.lastTest.toNat), (16, t.testFails.toNat)]
  | 0x20 => word [(0, t.store.length), (8, t.overflow.toNat)]
  | _ => 0

/-- The power and clocks block. -/
def State.readPower (s : State) (off : Nat) : BitVec 32 :=
  let p := s.pwr
  match off with
  | 0x00 => word [(0, p.dozePend.toNat), (1, p.dpReset.toNat), (2, p.bad.toNat), (8, p.wakeSrc.toNat)]
  | 0x04 => word [(0, p.doze.toNat)]
  | 0x0C => word [(0, p.rstCause.toNat)]
  | 0x10 => word [(0, p.spread.toNat), (4, p.sscEn.toNat)]
  | 0x14 => word [(0, p.slewMisc.toNat), (2, p.slewTloop.toNat), (4, p.slewSvc.toNat), (6, p.slewCard.toNat)]
  | 0x18 => word [(0, p.filtPerst.toNat), (8, p.filtSys.toNat)]
  | 0x1C => p.dozeCnt
  | _ => 0

/-- Kind 2 records in DOUBT (R387). -/
def State.cardDoubts (s : State) : Nat := (s.skn.transfers.filter fun t => t.2.kind == 2 && t.2.st == 2).length

/-- The card slot block. -/
def State.readCard (s : State) (off : Nat) : BitVec 32 :=
  let k := s.card
  match off with
  | 0x00 => word [(0, k.en.toNat), (1, k.auto.toNat), (3, k.wide.toNat), (4, k.maxClk.toNat), (8, k.detFilter.toNat),
      (16, k.busyMs.toNat)]
  | 0x04 => word [(0, k.present.toNat), (1, k.ready.toNat), (2, k.hs.toNat), (3, k.wp.toNat), (4, k.busy.toNat), (5, k.err.toNat),
      (6, k.v18.toNat), (8, min 255 s.cardDoubts)]
  | 0x10 | 0x14 | 0x18 | 0x1C => BitVec.ofNat 32 (bitsAt k.shownCid.toNat (8 * (off - 0x10)) 32)
  | 0x20 => word [(0, k.freeSlots), (16, k.usedSlots.length)]
  | 0x24 => word [(0, k.failures.toNat), (16, k.removals.toNat)]
  | _ => 0

/-! ## Reads -/

/-- A double word of the MSI-X table, and of the pending bit array (R28). -/
def State.readMsix (s : State) (off : Nat) : BitVec 32 :=
  if off < 0x8000 then ((s.msixEntry (BitVec.ofNat 11 (off / 16))).toNat / 2 ^ (8 * (off % 16)) |> BitVec.ofNat 32)
  else BitVec.ofNat 32 (flagWord ((List.range 32).map fun k => s.gctl.pba.get (8 * (off - 0x8000) + k) false))

/-- What a read of a BAR0 offset returns (R28); reserved offsets read 0 (R27). -/
def State.regRead (s : State) (addr : Nat) : BitVec 32 :=
  let off := addr % 0x1000
  if 0x10000 ≤ addr then
    if addr < 0x40000 then s.readWindow (addr - 0x10000)
    else if addr < 0x48100 then s.readMsix (addr - 0x40000)
    else 0
  else match addr / 0x1000 with
  | 0x0 => s.readGctl off
  | 0x1 => s.readEvents off
  | 0x2 => s.readQueues off
  | 0x3 => s.readQueues (0x1000 + off)
  | 0x4 => s.readLedger off
  | 0x5 => s.readRegister off
  | 0x6 => s.readSeal off
  | 0x7 => s.readSpindles off
  | 0x8 => s.readDigest off
  | 0x9 => s.readKeys off
  | 0xA => s.readArb off
  | 0xB => s.readMem off
  | 0xC => s.readSkein off
  | 0xD => s.readTamper off
  | 0xE => s.readPower off
  | _ => s.readCard off

/-- What a read changes: RC fields are cleared (R8), a _LO half latches its _HI half. -/
def State.readEffect (addr : Nat) (s : State) : State :=
  match addr with
  | 0x0048 => { s with gctl := { s.gctl with cycleHi := hiHalf s.gctl.cycle.toNat } }
  | 0x100C => { s with gctl := { s.gctl with dbCount := 0 } }
  | 0x4008 => { s with led := { s.led with nextHi := hiHalf (s.ledgerWide .next) } }
  | 0x4010 => { s with led := { s.led with cseqHi := hiHalf (s.ledgerWide .cseq) } }
  | 0x4018 => { s with led := { s.led with jseqHi := hiHalf (s.ledgerWide .jseq) } }
  | 0x4024 => { s with led := { s.led with totHi := hiHalf (s.ledgerWide .tot) } }
  | 0x4030 => { s with led := { s.led with refused := 0 } }
  | 0x4034 => { s with led := { s.led with fseqHi := hiHalf (s.ledgerWide .fseq) } }
  | 0x500C => { s with ru := { s.ru with reg := { s.ru.reg with stashHigh := 0 } } }
  | 0x5010 => { s with ru := { s.ru with reg := { s.ru.reg with ops := 0 } } }
  | 0x5030 => { s with ru := { s.ru with jrn := { s.ru.jrn with seqHi := hiHalf (s.regWide .seq) } } }
  | 0x5038 => { s with ru := { s.ru with jrn := { s.ru.jrn with ackHi := hiHalf (s.regWide .ack) } } }
  | 0x5048 => { s with ru := { s.ru with jrn := { s.ru.jrn with ckptHi := hiHalf (s.regWide .ckptId) } } }
  | 0x5058 => { s with ru := { s.ru with jrn := { s.ru.jrn with rbldHi := hiHalf (s.regWide .rbldSeq) } } }
  | 0x6008 => { s with sl := { s.sl with miss := 0 } }
  | 0x600C => { s with sl := { s.sl with broken := 0, exhausted := 0, tagFails := 0 } }
  | 0x6010 => { s with sl := { s.sl with blocksHi := hiHalf (s.sealWide .blk) } }
  | 0x601C => { s with sl := { s.sl with floorHi := hiHalf (s.sealWide .floor) } }
  | 0x7024 => s.setSpindle s.spn.sel.toNat { s.spindle s.spn.sel.toNat with jobs := 0 }
  | 0x7028 =>
    s.setSpindle s.spn.sel.toNat { s.spindle s.spn.sel.toNat with yields := 0, aborts := 0, katFails := 0, vasFails := 0 }
  | 0x8004 => { s with dig := { s.dig with restarts := 0, mismatch := 0 } }
  | 0x8008 => { s with dig := { s.dig with blocksHi := hiHalf s.dig.blocks.toNat } }
  | 0x8010 => { s with dig := { s.dig with util := 0 } }
  | 0x900C => { s with ks := { s.ks with orphaned := 0, corrupted := 0, kcvFails := 0, entFailCount := 0 } }
  | 0xA020 => s.setArbiter s.arb.selArb.toNat { s.arbiter s.arb.selArb.toNat with wdog := 0 }
  | 0xB00C => { s with mem := { s.mem with ecc := 0 } }
  | 0xC014 => { s with skn := { s.skn with mismatch := 0, rounds := 0 } }
  | 0xD018 => { s with tmp := { s.tmp with count := 0 } }
  | 0xD01C => { s with tmp := { s.tmp with testFails := 0 } }
  | 0xE01C => { s with pwr := { s.pwr with dozeCnt := 0 } }
  | 0xF024 => { s with card := { s.card with removals := 0, failures := 0 } }
  | _ => s

/-- A wake source ends DOZE (R394). -/
def State.wake (src : Byte) (s : State) : State :=
  if s.pwr.st = .doze then { s with pwr := { s.pwr with st := .waking, wakeSrc := src } } else s

/-- BAR accesses are held until a wake ends (R394). -/
def State.asleep (s : State) : Bool := s.pwr.st == .doze || s.pwr.st == .waking

/-- An access held through the wake. -/
def State.holdAccess (w : HeldWrite) (src : Byte) (s : State) : State :=
  let s := s.wake src
  { s with pwr := { s.pwr with heldWrites := s.pwr.heldWrites ++ [w] } }

/-- The planes are held in reset and answer nothing (R396). -/
def State.planesHeld (s : State) : Bool := s.pwr.st == .inReset || s.pwr.st == .backup

/-- A read that is carried out: its completion, with the value before what the read changes. -/
def State.readNow (addr : Nat) (s : State) : State := (s.readEffect addr).emit (.barRead (s.regRead addr))

/-- A 32-bit read of a BAR0 register by the host. -/
def State.hostRead (addr : BitVec 20) (s : State) : State :=
  if s.planesHeld then s
  else if s.asleep then s.holdAccess (.read0 addr) 2
  else s.readNow addr.toNat

end Sys2Proof.Machine
end

