-- ==== Sys2Proof/Machine/RegWrites.lean ====
section
/-! DEFINITION. What a write of a BAR0 register does, doorbells (R33, R34), and the rows of host accesses. -/

namespace Sys2Proof.Machine

/-- A field of a written word. -/
def fieldOf (v : BitVec 32) (lo w : Nat) : Nat := bitsAt v.toNat lo w

/-! ## Fields with an effect of their own -/

/-- Queue 0 takes its configuration from the GCTL registers (R29, R32). -/
def State.adminSync (s : State) : State :=
  let g := s.gctl
  s.setQueue 0 { s.queue 0 with
    sqSize := g.aqSqM1.toNat + 1, cqSize := g.aqCqM1.toNat + 1, sqBase := g.aqSqBase, cqBase := g.aqCqBase
    irqMode := g.aqIrqMode, vector := g.aqVector, coalCount := g.aqCoalCount, coalTime := g.aqCoalTime }

/-- A change of queue 0's configuration, ignored while EN = 1 (R29). -/
def State.setAdmin (f : Gctl → Gctl) (s : State) : State :=
  if s.gctl.en then s else ({ s with gctl := f s.gctl }).adminSync

/-- EN of `GCTL_CTL`. Queue 0, which power-on reset leaves absent as the Reset column of `QINFO` has it, exists from the first
time EN is set on (R9, R29, R37; DESIGN CHOICE, notes/assumptions/51.md). -/
def State.writeEn (en : Bool) (s : State) : State :=
  let s := { s with gctl := { s.gctl with en } }
  let s := if en && (s.queue 0).st == .absent then s.setQueue 0 { s.queue 0 with st := .active } else s
  s.sync 0

/-- AQ_RESET (R29, R62): queue 0 is reset where it is not being reset already. -/
def State.startAqReset (s : State) : State :=
  if s.gctl.aqReset || (s.queue 0).st != .active then s
  else ({ s with gctl := { s.gctl with aqReset := true } }).beginEnding 0 false none

/-- EVT_TEST (R29). -/
def State.testEvent (s : State) : State := s.sendMsix s.gctl.evtVec

/-- EN of `JRNL_CFG` (R130). -/
def State.writeJournalEn (en : Bool) (s : State) : State :=
  let s := { s with ru := { s.ru with jrn := { s.ru.jrn with en } } }
  if en then s.flushJournal else s

/-- CLEAR of `ARB_CTL` (R246). -/
def State.clearCounters (s : State) : State :=
  let n := s.arb.selArb.toNat
  let a := s.arbiter n
  s.setArbiter n { a with
    reqs := a.reqs.mapVals fun _ r => { r with grants := 0, waits := 0, longest := 0 }, clearedAt := some (s.stamp n) }

/-- STARVE of `ARB_REQSTAT` (R247). -/
def State.clearStarve (s : State) : State :=
  let n := s.arb.selArb.toNat
  let r := s.arb.selReq.toNat
  if (((s.arbiter n).reqs.find r).any (·.starve)) then s.setReq n r { (s.arbiter n).req r with starve := false } else s

/-- SWAP of `MS_CTL`, SWAP_E and SWAP_W of `SKN_CTL` (R252, R275). -/
def State.askMemSwap (s : State) : State :=
  if s.mem.swap then s else { s with mem := { s.mem with swap := true, swapAt := (s.now / 1024 + 1) * 1024 } }
def State.askBwSwap (w : Port) (s : State) : State := s.setPort w { s.port w with swap := true }

/-- A port starts to train, unless it is held down (R265 to R268). -/
def SkPort.train (p : SkPort) : SkPort := if p.heldDown ∨ p.st ≠ .down then p else { p with st := .training }

/-- EN of `SKN_CTL` (R267): the ports train; without it they are down and the device is alone. -/
def State.writeSkeinEn (en : Bool) (s : State) : State :=
  if en = s.skn.en then s
  else if en then { s with skn := { s.skn with en := true, east := s.skn.east.train, west := s.skn.west.train } }
  else
    let down (p : SkPort) : SkPort :=
      { resetPort with live := p.live, shadow := p.shadow, bad := p.bad, heldDown := p.heldDown, egress := p.egress }
    { s with skn := { s.skn with
        en := false, east := down s.skn.east, west := down s.skn.west, ring := false, reach := 1, nodes := 1 } }

/-- DOZE of `PWR_CTL` (R393, R394): a request, or its end. -/
def State.writeDoze (doze : Bool) (s : State) : State :=
  { s with pwr := { s.pwr with doze, dozePend := doze && s.pwr.st == .active } }

/-- The key that lets a write of `PWR_CMD` act (R404). -/
def pwrKey : BitVec 16 := 0x5A17

/-- A data-plane reset cannot start (R398). -/
def State.dpBlocked (s : State) : Bool :=
  s.ru.rb.needed || s.ru.ckpt.isSome || s.mss.ho.isSome || s.holding || s.pwr.dozePend || s.pwr.dpReset

/-- `PWR_CMD` op 1 (R398): DP_RESET is set, or BAD. -/
def State.askDpReset (key : BitVec 16) (s : State) : State :=
  if key ≠ pwrKey then s
  else if s.dpBlocked then { s with pwr := { s.pwr with bad := true } }
  else { s with pwr := { s.pwr with bad := false, dpReset := true } }

/-- `PWR_CMD` op 2 (R369, R396). -/
def State.askMssReset (key : BitVec 16) (s : State) : State :=
  if key ≠ pwrKey then s else ({ s with pwr := { s.pwr with bad := false } }).resetMss rkMss

/-! ## Register blocks -/

/-- A base address with its low or its high half written. -/
def setLo (v : BitVec 32) (b : BitVec 64) : BitVec 64 := BitVec.ofNat 64 (b.toNat / 2 ^ 32 * 2 ^ 32 + v.toNat / 4096 * 4096)
def setHi (v : BitVec 32) (b : BitVec 64) : BitVec 64 := BitVec.ofNat 64 (v.toNat * 2 ^ 32 + b.toNat % 2 ^ 32)

/-- A field that a write of 0 leaves unchanged. -/
def orKeep {w : Nat} (n : Nat) (old : BitVec w) : BitVec w := if n = 0 then old else BitVec.ofNat w n

/-- GCTL (R29). -/
def State.writeGctl (off : Nat) (v : BitVec 32) (s : State) : State :=
  let f := fieldOf v
  match off with
  | 0x20 =>
    let s := if v.getLsbD 2 then s.testEvent else s
    let s := s.writeEn (v.getLsbD 0)
    if v.getLsbD 1 then s.startAqReset else s
  | 0x28 => s.setAdmin fun g => { g with aqSqM1 := orKeep (f 0 12) g.aqSqM1, aqCqM1 := orKeep (f 16 12) g.aqCqM1 }
  | 0x30 => s.setAdmin fun g => { g with aqSqBase := setLo v g.aqSqBase }
  | 0x34 => s.setAdmin fun g => { g with aqSqBase := setHi v g.aqSqBase }
  | 0x38 => s.setAdmin fun g => { g with aqCqBase := setLo v g.aqCqBase }
  | 0x3C => s.setAdmin fun g => { g with aqCqBase := setHi v g.aqCqBase }
  | 0x40 => s.setAdmin fun g =>
    { g with aqVector := BitVec.ofNat 11 (f 0 11), aqIrqMode := if f 16 2 = 3 then g.aqIrqMode else BitVec.ofNat 2 (f 16 2) }
  | 0x44 => s.setAdmin fun g =>
    { g with aqCoalCount := orKeep (f 0 8) g.aqCoalCount, aqCoalTime := BitVec.ofNat 16 (f 16 16) }
  | _ => s

/-- Event interrupts (R30). -/
def State.writeEvents (off : Nat) (v : BitVec 32) (s : State) : State :=
  let low : BitVec 11 := BitVec.ofNat 11 v.toNat
  match off with
  | 0x00 => { s with gctl := { s.gctl with evtStat := s.gctl.evtStat &&& ~~~low } }
  | 0x04 => { s with gctl := { s.gctl with evtMask := low } }
  | 0x08 => { s with gctl := { s.gctl with evtVec := low } }
  | _ => s

/-- The ledger block (R92, R103). -/
def State.writeLedger (off : Nat) (v : BitVec 32) (s : State) : State :=
  match off with
  | 0x00 => if 4 < fieldOf v 0 3 then s else { s with led := { s.led with periodCfg := BitVec.ofNat 3 (fieldOf v 0 3) } }
  | 0x20 => { s with led := { s.led with totQty := BitVec.ofNat 4 (fieldOf v 0 4), totLive := v.getLsbD 8 } }
  | _ => s

/-- The register block (R142). -/
def State.writeRegister (off : Nat) (v : BitVec 32) (s : State) : State :=
  let j := s.ru.jrn
  match off with
  | 0x00 => { s with ru := { s.ru with reg := { s.ru.reg with
      stashWarn := BitVec.ofNat 13 (fieldOf v 16 13)
      fpkSlot := if s.ru.reg.liveCount = 0 then BitVec.ofNat 12 (fieldOf v 0 12) else s.ru.reg.fpkSlot } } }
  | 0x20 => if j.en then s else { s with ru := { s.ru with jrn := { j with base := setLo v j.base } } }
  | 0x24 => if j.en then s else { s with ru := { s.ru with jrn := { j with base := setHi v j.base } } }
  | 0x28 =>
    let d := fieldOf v 0 5
    let depth := if !j.en && decide (16 ≤ d ∧ d ≤ 22) then BitVec.ofNat 5 d else j.depth
    ({ s with ru := { s.ru with jrn := { j with depth, ackGate := v.getLsbD 9 } } }).writeJournalEn (v.getLsbD 8)
  | _ => s

/-- The arbiter index block (R245, R247, R263). -/
def State.writeArb (off : Nat) (v : BitVec 32) (s : State) : State :=
  let n := s.arb.selArb.toNat
  let r := s.arb.selReq.toNat
  let known := decide (r < arbRequesters n)
  let k := (s.arbiter n).req r
  match off with
  | 0x00 => { s with arb := { s.arb with
      selReq := BitVec.ofNat 14 (fieldOf v 16 14), selArb := if fieldOf v 0 6 < 34 then BitVec.ofNat 6 (fieldOf v 0 6) else s.arb.selArb } }
  | 0x08 => if n = 0 ∨ n = 21 ∨ fieldOf v 0 8 = 0 ∨ !known then s else s.setReq n r { k with weight := BitVec.ofNat 8 (fieldOf v 0 8) }
  | 0x0C => if n = 0 ∨ !known then s else s.setReq n r { k with thresh := v }
  | 0x10 => if v.getLsbD 0 then s.clearStarve else s
  | 0x18 =>
    let s := s.setArbiter n { s.arbiter n with frozen := v.getLsbD 1 }
    if v.getLsbD 0 then s.clearCounters else s
  | _ => s

/-- A word of the memory schedule's shadow: a code other than 15 for a refresh slot, and 15 for any other, is ignored (R253). -/
def shadowWrite (i : Nat) (v : BitVec 32) (t : Vector (BitVec 4) 64) : Vector (BitVec 4) 64 :=
  (List.range 8).foldl
    (fun t k =>
      let j := 8 * i + k
      let code := BitVec.ofNat 4 (fieldOf v (4 * k) 4)
      if (code == 15) == (j % 16 == 15) then t.setIfInBounds j code else t) t

/-- The memory schedule block (R252, R264). -/
def State.writeMem (off : Nat) (v : BitVec 32) (s : State) : State :=
  if 0x80 ≤ off ∧ off < 0xA0 then { s with mem := { s.mem with shadow := shadowWrite ((off - 0x80) / 4) v s.mem.shadow } }
  else if off = 0x04 ∧ v.getLsbD 0 then s.askMemSwap
  else s

/-- A word of a port's shadow table (R275). -/
def SkPort.writeShadow (i : Nat) (v : BitVec 32) (p : SkPort) : SkPort :=
  let set (t : Vector (BitVec 4) 64) (k : Nat) := t.setIfInBounds (8 * i + k) (BitVec.ofNat 4 (fieldOf v (4 * k) 4))
  { p with shadow := (List.range 8).foldl set p.shadow }

/-- The Skein block (R292). -/
def State.writeSkein (off : Nat) (v : BitVec 32) (s : State) : State :=
  let k := s.skn
  if 0x60 ≤ off ∧ off < 0x80 then s.setPort .east (k.east.writeShadow ((off - 0x60) / 4) v)
  else if 0xA0 ≤ off ∧ off < 0xC0 then s.setPort .west (k.west.writeShadow ((off - 0xA0) / 4) v)
  else match off with
  | 0x00 =>
    let s := { s with skn := { k with autoReturn := v.getLsbD 3 } }
    let s := if v.getLsbD 1 then s.askBwSwap .east else s
    let s := if v.getLsbD 2 then s.askBwSwap .west else s
    s.writeSkeinEn (v.getLsbD 0)
  | 0x04 => if k.en then s else { s with skn := { k with keySlot := BitVec.ofNat 12 (fieldOf v 0 12) } }
  | 0x18 => { s with skn := { k with timeout := orKeep (fieldOf v 0 16) k.timeout } }
  | 0x20 => { s with skn := { k with
      cselWest := v.getLsbD 3, cselVc := if fieldOf v 0 3 ≤ 4 then BitVec.ofNat 3 (fieldOf v 0 3) else k.cselVc } }
  | _ => s

/-- The power and clocks block (R404). -/
def State.writePower (off : Nat) (v : BitVec 32) (s : State) : State :=
  let p := s.pwr
  let f := fieldOf v
  match off with
  | 0x04 => s.writeDoze (v.getLsbD 0)
  | 0x08 =>
    let key := BitVec.ofNat 16 (f 16 16)
    if f 0 2 = 1 then s.askDpReset key else if f 0 2 = 2 then s.askMssReset key else s
  | 0x0C => { s with pwr := { p with rstCause := p.rstCause &&& ~~~(BitVec.ofNat 7 (f 0 7)) } }
  | 0x10 => { s with pwr := { p with sscEn := v.getLsbD 4, spread := if f 0 4 ≤ 10 then BitVec.ofNat 4 (f 0 4) else p.spread } }
  | 0x14 => { s with pwr := { p with
      slewMisc := BitVec.ofNat 2 (f 0 2), slewTloop := BitVec.ofNat 2 (f 2 2), slewSvc := BitVec.ofNat 2 (f 4 2)
      slewCard := BitVec.ofNat 2 (f 6 2) } }
  | 0x18 => { s with pwr := { p with filtPerst := BitVec.ofNat 8 (f 0 8), filtSys := BitVec.ofNat 8 (f 8 8) } }
  | _ => s

/-- The card slot block (R387). A slot switched off while its card is powered loses it as on a removal (R373,
notes/assumptions/38.md). -/
def State.writeCard (off : Nat) (v : BitVec 32) (s : State) : State :=
  let k := s.card
  let f := fieldOf v
  match off with
  | 0x00 =>
    let s := s.setCard { k with
      en := v.getLsbD 0, auto := v.getLsbD 1, wide := v.getLsbD 3, detFilter := BitVec.ofNat 8 (f 8 8)
      maxClk := if f 4 2 = 3 then k.maxClk else BitVec.ofNat 2 (f 4 2), busyMs := orKeep (f 16 8) k.busyMs }
    if k.en && !v.getLsbD 0 && k.power then s.cardRemoval false else s
  | _ => s

/-- A double word of the MSI-X table; an unmasked vector sends what was pending (notes/assumptions/10.md). -/
def State.writeMsix (off : Nat) (v : BitVec 32) (s : State) : State :=
  let n : BitVec 11 := BitVec.ofNat 11 (off / 16)
  let sh := 8 * (off % 16)
  let e := (s.msixEntry n &&& ~~~(0xFFFFFFFF#128 <<< sh)) ||| (v.setWidth 128 <<< sh)
  let s := { s with gctl := { s.gctl with msix := s.gctl.msix.put n.toNat e } }
  if s.gctl.pba.get n.toNat false && !e.getLsbD 96 then
    ({ s with gctl := { s.gctl with pba := s.gctl.pba.del n.toNat } }).sendMsix n
  else s

/-- What a 32-bit write of a BAR0 offset does; writes of read-only and reserved offsets do nothing (R8, R27). -/
def State.regWrite (addr : Nat) (v : BitVec 32) (s : State) : State :=
  let off := addr % 0x1000
  if 0x10000 ≤ addr then if 0x40000 ≤ addr ∧ addr < 0x48000 then s.writeMsix (addr - 0x40000) v else s
  else match addr / 0x1000 with
  | 0x0 => s.writeGctl off v
  | 0x1 => s.writeEvents off v
  | 0x2 => if off = 0 then { s with gctl := { s.gctl with qsel := BitVec.ofNat 14 (fieldOf v 0 14) } } else s
  | 0x4 => s.writeLedger off v
  | 0x5 => s.writeRegister off v
  | 0x6 => if off = 0x18 then { s with sl := { s.sl with dsel := BitVec.ofNat 8 (fieldOf v 0 8) } } else s
  | 0x7 =>
    if off = 0x20 ∧ fieldOf v 0 6 < 40 then { s with spn := { s.spn with sel := BitVec.ofNat 6 (fieldOf v 0 6) } } else s
  | 0x9 => if off = 0x10 then { s with ks := { s.ks with dsel := BitVec.ofNat 12 (fieldOf v 0 12) } } else s
  | 0xA => s.writeArb off v
  | 0xB => s.writeMem off v
  | 0xC => s.writeSkein off v
  | 0xE => s.writePower off v
  | 0xF => s.writeCard off v
  | _ => s

/-! ## Doorbells (R33, R276) -/

/-- An ignored doorbell write is recorded (R30, R33). -/
def State.doorbellError (q : QId) (cause : BitVec 2) (epoch : Bool) (s : State) : State :=
  ({ s with gctl := { s.gctl with
      dbCount := satAdd s.gctl.dbCount 1, dbCause := cause, dbEpoch := epoch, dbQueue := q } }).raise evDbErr

/-- What an ignored doorbell write records: the cause, and whether its epoch is stale; none for one that is accepted (R33). The
manual ranks no cause above another: of several, an absent queue is recorded first, then a stale epoch, then the index (DESIGN
CHOICE, notes/assumptions/68.md). -/
def doorbellFault (x : Queue) (tail : Bool) (v : BitVec 32) : Option (BitVec 2 × Bool) :=
  let i : BitVec 12 := BitVec.ofNat 12 v.toNat
  let n := if tail then x.sqSize else x.cqSize
  if x.st = .absent then some (0, false)
  else if BitVec.ofNat 16 (fieldOf v 16 16) ≠ x.epoch then some (0, true)
  else if n ≤ i.toNat then some (0, false)
  else if tail then if ringSpan n x.sqHead i < ringSpan n x.sqHead x.sqTail then some (1, false) else none
  else if ringSpan n x.cqHead x.cqTail < ringSpan n x.cqHead i then some (2, false) else none

/-- A doorbell write that the function accepts: the submission tail, or the completion head (R33). -/
def State.doorbell (q : QId) (tail : Bool) (v : BitVec 32) (s : State) : State :=
  let x := s.queue q
  let i : BitVec 12 := BitVec.ofNat 12 v.toNat
  match doorbellFault x tail v with
  | some (cause, epoch) => s.doorbellError q cause epoch
  | none => (s.setQueue q (if tail then { x with sqTail := i } else { x with cqHead := i })).sync 0

/-- A host write of BAR2: none is accepted in D3hot (R25). -/
def State.bar2 (off : BitVec 18) (v : BitVec 32) (s : State) : State :=
  let q : QId := off.extractLsb' 4 14
  if s.planesHeld || s.gctl.d3hot then s
  else if s.asleep then s.holdAccess (.bar2 off v) 1
  else match off.toNat % 16 with
  | 0 => s.doorbell q true v
  | 4 => s.doorbell q false v
  | _ => s

/-- The BAR2 offset of a doorbell (R33). -/
def doorbellOffset (q : QId) (tail : Bool) : BitVec 18 := q.setWidth 18 <<< 4 ||| (if tail then 0 else 4)

/-- A write of BAR4 that is carried out: the head's own slice, or forwarded on VC 0, or discarded (R26, R276). -/
def State.bar4Now (addr : BitVec 24) (v : BitVec 32) (s : State) : State :=
  let n : BitVec 6 := addr.extractLsb' 18 6
  if !s.skn.head then s
  else if n = s.skn.nodeId then s.bar2 (addr.setWidth 18) v
  else if s.reaches n then s.sendTo .doorbell n 0 (leBytes 4 (addr.toNat % 2 ^ 18) ++ leBytes 4 v.toNat)
  else s.doorbellError (addr.extractLsb' 4 14) 0 false

/-- A host write of BAR4. -/
def State.bar4 (addr : BitVec 24) (v : BitVec 32) (s : State) : State :=
  if s.planesHeld || s.gctl.d3hot then s
  else if s.asleep then s.holdAccess (.bar4 addr v) 1
  else s.bar4Now addr v

/-! ## Writes by the host -/

/-- A 32-bit write of a BAR0 register by the host; in DOZE it is held and wakes the device (R394). -/
def State.hostWrite (addr : BitVec 20) (v : BitVec 32) (s : State) : State :=
  if s.planesHeld then s
  else if s.asleep then s.holdAccess (.bar0 addr v) (if addr = 0xE004 ∧ v.getLsbD 0 = false then 7 else 1)
  else s.regWrite addr.toNat v

/-- A write of one field through its own row: `f` is what it does, `addr` and `v` the access that DOZE holds. -/
def State.fieldWrite (addr : BitVec 20) (v : BitVec 32) (f : State → State) (s : State) : State :=
  if s.planesHeld then s
  else if s.asleep then s.holdAccess (.bar0 addr v) (if addr = 0xE004 ∧ v.getLsbD 0 = false then 7 else 1)
  else f s

/-- A write of a BAR0 register of any size: one that is not a naturally aligned 32-bit access is Unsupported Request (R27). -/
def State.anyWrite (addr : BitVec 20) (nbytes : Nat) (v : BitVec 32) (s : State) : State :=
  if nbytes ≠ 4 ∨ addr.toNat % 4 ≠ 0 then s.emit .unsupported else s.hostWrite addr v

/-- A read of a BAR0 register of any size: one that is not a 32-bit access is Unsupported Request and has no effect (R27). -/
def State.anyRead (addr : BitVec 20) (nbytes : Nat) (s : State) : State :=
  if nbytes ≠ 4 then s.emit .unsupported else s.hostRead addr

/-- The word a write of one bit of a register holds through DOZE: the register as it reads, with the bit changed. -/
def State.withBit (s : State) (addr : BitVec 20) (i : Nat) (b : Bool) : BitVec 32 := setBit (s.regRead addr.toNat) i b

/-! ## The rows -/

/-- A doorbell write of a submission tail; a 64-bit write goes on to the completion head (R34). -/
def execDoorbellSqTail (q : QId) (v : BitVec 32) (s : State) (upper : Option (BitVec 32) := none) :
    Host.Outcome State Fault Refusal :=
  let s := s.bar2 (doorbellOffset q true) v
  .next (match upper with | some w => s.bar2 (doorbellOffset q false) w | none => s)

/-- A doorbell write of a completion head. -/
def execDoorbellCqHead (q : QId) (v : BitVec 32) (s : State) : Host.Outcome State Fault Refusal :=
  .next (s.bar2 (doorbellOffset q false) v)

/-- A write of BAR4. -/
def execBar4DoorbellWrite (addr : BitVec 24) (v : BitVec 32) (s : State) : Host.Outcome State Fault Refusal :=
  .next (s.bar4 addr v)

/-- EN of `GCTL_CTL`. -/
def execGctlEnWrite (en : Bool) (s : State) : Host.Outcome State Fault Refusal :=
  .next (s.fieldWrite 0x0020 (s.withBit 0x0020 0 en) (State.writeEn en))

/-- AQ_RESET. -/
def execAqReset (s : State) : Host.Outcome State Fault Refusal :=
  .next (s.fieldWrite 0x0020 (s.withBit 0x0020 1 true) State.startAqReset)

/-- EVT_TEST. -/
def execEvtTest (s : State) : Host.Outcome State Fault Refusal :=
  .next (s.fieldWrite 0x0020 (s.withBit 0x0020 2 true) State.testEvent)

/-- EN of `JRNL_CFG`. -/
def execJrnlEnWrite (en : Bool) (s : State) : Host.Outcome State Fault Refusal :=
  .next (s.fieldWrite 0x5028 (s.withBit 0x5028 8 en) (State.writeJournalEn en))

/-- CLEAR of `ARB_CTL`. -/
def execArbCounterClear (s : State) : Host.Outcome State Fault Refusal :=
  .next (s.fieldWrite 0xA018 (s.withBit 0xA018 0 true) State.clearCounters)

/-- STARVE of `ARB_REQSTAT`. -/
def execStarveClear (s : State) : Host.Outcome State Fault Refusal := .next (s.fieldWrite 0xA010 1 State.clearStarve)

/-- SWAP of `MS_CTL`. -/
def execMsSwapRequest (s : State) : Host.Outcome State Fault Refusal := .next (s.fieldWrite 0xB004 1 State.askMemSwap)

/-- SWAP_E of `SKN_CTL`. -/
def execSwapE (s : State) : Host.Outcome State Fault Refusal :=
  .next (s.fieldWrite 0xC000 (s.withBit 0xC000 1 true) (State.askBwSwap .east))

/-- SWAP_W of `SKN_CTL`. -/
def execSwapW (s : State) : Host.Outcome State Fault Refusal :=
  .next (s.fieldWrite 0xC000 (s.withBit 0xC000 2 true) (State.askBwSwap .west))

/-- EN of `SKN_CTL`. -/
def execSknEnWrite (en : Bool) (s : State) : Host.Outcome State Fault Refusal :=
  .next (s.fieldWrite 0xC000 (s.withBit 0xC000 0 en) (State.writeSkeinEn en))

/-- DOZE of `PWR_CTL`. -/
def execDozeRequest (doze : Bool) (s : State) : Host.Outcome State Fault Refusal :=
  .next (s.fieldWrite 0xE004 (BitVec.ofNat 32 doze.toNat) (State.writeDoze doze))

/-- `PWR_CMD` op 1. -/
def execDataPlaneReset (key : BitVec 16) (s : State) : Host.Outcome State Fault Refusal :=
  .next (s.fieldWrite 0xE008 (word [(0, 1), (16, key.toNat)]) (State.askDpReset key))

/-- `PWR_CMD` op 2. -/
def execMssReset (key : BitVec 16) (s : State) : Host.Outcome State Fault Refusal :=
  .next (s.fieldWrite 0xE008 (word [(0, 2), (16, key.toNat)]) (State.askMssReset key))

/-- A write of a register field that has no row of its own. -/
def execRegisterWrite (addr : BitVec 20) (nbytes : Nat) (v : BitVec 32) (s : State) : Host.Outcome State Fault Refusal :=
  .next (s.anyWrite addr nbytes v)

/-- A read of `DB_ERR_Q`. -/
def execDbErrQRead (s : State) (nbytes : Nat := 4) : Host.Outcome State Fault Refusal := .next (s.anyRead 0x100C nbytes)

/-- A read of `LEDGER_REFUSED`. -/
def execLedgerRefusedRead (s : State) (nbytes : Nat := 4) : Host.Outcome State Fault Refusal := .next (s.anyRead 0x4030 nbytes)

/-- A read of `REG_STASH`. -/
def execRegStashRead (s : State) (nbytes : Nat := 4) : Host.Outcome State Fault Refusal := .next (s.anyRead 0x500C nbytes)

/-- A read of `REG_OPS`. -/
def execRegOpsRead (s : State) (nbytes : Nat := 4) : Host.Outcome State Fault Refusal := .next (s.anyRead 0x5010 nbytes)

/-- A read of `SPN_JOBS`. -/
def execSpnJobsRead (s : State) (nbytes : Nat := 4) : Host.Outcome State Fault Refusal := .next (s.anyRead 0x7024 nbytes)

/-- A read of `SPN_EVENTS`. -/
def execSpnEventsRead (s : State) (nbytes : Nat := 4) : Host.Outcome State Fault Refusal := .next (s.anyRead 0x7028 nbytes)

/-- A read of `SEAL_MISS`. -/
def execSealMissRead (s : State) (nbytes : Nat := 4) : Host.Outcome State Fault Refusal := .next (s.anyRead 0x6008 nbytes)

/-- A read of `SEAL_EVT`. -/
def execSealEvtRead (s : State) (nbytes : Nat := 4) : Host.Outcome State Fault Refusal := .next (s.anyRead 0x600C nbytes)

/-- A read of `DIG_EVT`. -/
def execDigEvtRead (s : State) (nbytes : Nat := 4) : Host.Outcome State Fault Refusal := .next (s.anyRead 0x8004 nbytes)

/-- A read of `DIG_UTIL`. -/
def execDigUtilRead (s : State) (nbytes : Nat := 4) : Host.Outcome State Fault Refusal := .next (s.anyRead 0x8010 nbytes)

/-- A read of `KS_EVT`. -/
def execKsEvtRead (s : State) (nbytes : Nat := 4) : Host.Outcome State Fault Refusal := .next (s.anyRead 0x900C nbytes)

/-- A read of `ARB_WDOG_CNT`. -/
def execArbWdogCntRead (s : State) (nbytes : Nat := 4) : Host.Outcome State Fault Refusal := .next (s.anyRead 0xA020 nbytes)

/-- A read of `MS_ECC`. -/
def execMsEccRead (s : State) (nbytes : Nat := 4) : Host.Outcome State Fault Refusal := .next (s.anyRead 0xB00C nbytes)

/-- A read of `SKN_CENSUS`. -/
def execSknCensusRead (s : State) (nbytes : Nat := 4) : Host.Outcome State Fault Refusal := .next (s.anyRead 0xC014 nbytes)

/-- A read of `TMP_COUNT`. -/
def execTmpCountRead (s : State) (nbytes : Nat := 4) : Host.Outcome State Fault Refusal := .next (s.anyRead 0xD018 nbytes)

/-- A read of `TMP_TEST`. -/
def execTmpTestRead (s : State) (nbytes : Nat := 4) : Host.Outcome State Fault Refusal := .next (s.anyRead 0xD01C nbytes)

/-- A read of `CARD_ERRS`. -/
def execCardErrsRead (s : State) (nbytes : Nat := 4) : Host.Outcome State Fault Refusal := .next (s.anyRead 0xF024 nbytes)

/-- A read of `PWR_DOZE_CNT`. -/
def execPwrDozeCntRead (s : State) (nbytes : Nat := 4) : Host.Outcome State Fault Refusal := .next (s.anyRead 0xE01C nbytes)

/-- A read of `GCTL_CYCLE_LO`. -/
def execGctlCycleLoRead (s : State) (nbytes : Nat := 4) : Host.Outcome State Fault Refusal := .next (s.anyRead 0x0048 nbytes)

/-- A read of `DIG_BLK_LO`. -/
def execDigLoRead (s : State) (nbytes : Nat := 4) : Host.Outcome State Fault Refusal := .next (s.anyRead 0x8008 nbytes)

/-- The offsets of the ledger's, the register block's and the seal block's _LO registers (R103, R142, R199). -/
def ledgerLoAddr : LedgerLo → BitVec 20
  | .next => 0x4008 | .cseq => 0x4010 | .jseq => 0x4018 | .tot => 0x4024 | .fseq => 0x4034
def regLoAddr : RegLo → BitVec 20
  | .seq => 0x5030 | .ack => 0x5038 | .ckptId => 0x5048 | .rbldSeq => 0x5058
def sealLoAddr : SealLo → BitVec 20
  | .blk => 0x6010 | .floor => 0x601C

/-- A read of a ledger _LO register. -/
def execLedgerLoRead (which : LedgerLo) (s : State) (nbytes : Nat := 4) : Host.Outcome State Fault Refusal :=
  .next (s.anyRead (ledgerLoAddr which) nbytes)

/-- A read of a register-block _LO register. -/
def execRegLoRead (which : RegLo) (s : State) (nbytes : Nat := 4) : Host.Outcome State Fault Refusal :=
  .next (s.anyRead (regLoAddr which) nbytes)

/-- A read of a seal _LO register. -/
def execSealLoRead (which : SealLo) (s : State) (nbytes : Nat := 4) : Host.Outcome State Fault Refusal :=
  .next (s.anyRead (sealLoAddr which) nbytes)

end Sys2Proof.Machine
end

