-- ==== Sys2Proof/Machine/Cluster.lean ====
section
/-! DEFINITION. The cluster opcodes, class 0x08 (R282, R291), and what happens on the Skein ports: training, reconciliation,
groups, failures, packets, the census, enumeration, members that join, leave and return (R265 to R275, R288 to R290). -/

namespace Sys2Proof.Machine

/-! ## Broadcasts -/

/-- The ports that are up, East first. -/
def State.upPorts (s : State) : List Port := ([.east, .west] : List Port).filter fun w => (s.port w).isUp

/-- A packet to every node leaves by some ports under one sequence (R271). -/
def State.cast (ws : List Port) (kind : SkKind) (payload : Bytes) (s : State) : State := s.sendBy ws kind 0xFF 0 payload

/-- A packet to every node: East round a ring, both ways along a chain. -/
def State.broadcast (kind : SkKind) (payload : Bytes) (s : State) : State :=
  s.cast (if s.skn.ring then s.upPorts.take 1 else s.upPorts) kind payload

/-! ## Stored cluster records (R266, R279, R296) -/

/-- The keys of the configuration records. -/
def keyMap : Nat := 0x00020000
def keyMembers : Nat := 0x00030000
def keyRetired : Nat := 0x00040000

/-- The partition map and version as 4,104 bytes, zeros while none is stored (R279, R291). -/
def mapBytes (m : Tab (BitVec 6)) (version : BitVec 64) : Bytes :=
  ((List.range 4096).map fun k => ((m.get k 0).setWidth 8 : Byte)) ++ leBytes 8 version.toNat

/-- A map and version read. -/
def mapOf (bs : Bytes) : Tab (BitVec 6) × BitVec 64 :=
  ((slice bs 0 4096).zipIdx.map fun p => (p.2, (p.1.setWidth 6 : BitVec 6)), BitVec.ofNat 64 (leAt bs 4096 8))

/-- The member table: number, serial and KCV of each member. -/
def memberBytes (t : Tab Member) : Bytes := t.flatMap fun p => [BitVec.ofNat 8 p.1] ++ leBytes 8 p.2.serial.toNat ++ leBytes 4 p.2.kcv.toNat
def membersOf (bs : Bytes) : Tab Member :=
  (List.range (bs.length / 13)).foldl
    (fun t k => t.put (leAt bs (13 * k) 1)
      { serial := BitVec.ofNat 64 (leAt bs (13 * k + 1) 8), kcv := BitVec.ofNat 32 (leAt bs (13 * k + 9) 4) }) []

/-- The retired list. -/
def retiredBytes (l : List (BitVec 64)) : Bytes := l.flatMap fun v => leBytes 8 v.toNat
def retiredOf (bs : Bytes) : List (BitVec 64) := (List.range (bs.length / 8)).map fun k => BitVec.ofNat 64 (leAt bs (8 * k) 8)

/-- The identity block of a member (R296). -/
def identityBlock (n : BitVec 6) : Bytes := wordBlock ([1, n.setWidth 8, 1] ++ zeros 57)

/-- What start-up reads of the cluster: the map, the member table, the retired list, and a member's own number (R266, R279). -/
def State.loadCluster (s : State) : State :=
  let map := (s.kp.records.find keyMap).map mapOf
  let id := s.kp.block identityOff (zeros 60)
  { s with skn := { s.skn with
      map := (map.map Prod.fst).getD [], version := (map.map Prod.snd).getD 0, newMap := none
      members := ((s.kp.records.find keyMembers).map membersOf).getD []
      retired := ((s.kp.records.find keyRetired).map retiredOf).getD []
      nodeId := if s.skn.head then 0 else BitVec.ofNat 6 (leAt id 1 1) } }

/-! ## NODE_REG -/

/-- A command waits for another node's answer under a tag (R280). -/
def State.awaitNode (kind : SkKind) (n : BitVec 6) (h : Held) (payload : Bytes) (s : State) : State :=
  let tag := s.skn.nextTag
  let s := { s with skn := { s.skn with nextTag := tag + 1, routed := s.skn.routed.put tag.toNat { h, owner := n } } }
  s.sendTo kind n tag payload

/-- `NODE_REG` (R278, R291). -/
def nodeRegBody (x : Ctx) (s : State) : Out :=
  let p := x.c.pkt
  let n : BitVec 6 := (p.byteAt 32).setWidth 6
  let off := p.field 36 4
  if n = s.skn.nodeId then
    if p.byteAt 33 = 0 then { s := s.readEffect off, cyc := 96, inl := inlAt 0 (s.regRead off).toNat }
    else { s := s.regWrite off (BitVec.ofNat 32 (p.field 40 4)), cyc := 96 }
  else if !s.reaches n then x.refused s stNodeUnreachable
  else { s := s.awaitNode .register n (x.held 0 96 0 []) ([p.byteAt 33] ++ leBytes 4 off ++ leBytes 4 (p.field 40 4)), cyc := 96
         when_ := .later }

/-- Another node's `NODE_REG` is carried out and answered. -/
def State.nodeRegHere (src : BitVec 6) (tag : BitVec 32) (write : Bool) (off : Nat) (v : BitVec 32) (s : State) : State :=
  let inl : BitVec 64 := if write then 0 else inlAt 0 (s.regRead off).toNat
  let s := if write then s.regWrite off v else s.readEffect off
  s.sendTo .routedReply src tag (leBytes 2 0 ++ leBytes 8 inl.toNat ++ leBytes 4 0)

/-! ## MAP_SET (R282) -/

/-- The lowest range that this node would give up and in which its register holds a live external entry. -/
def State.mapConflict (s : State) (m : Tab (BitVec 6)) : Option Nat :=
  let all := (s.ru.reg.allBuckets.flatMap Prod.snd) ++ s.ru.reg.stash.map Prod.snd
  let bad := (all.filter fun e => e.state == stExternal && s.rangeOwner e.fp == s.skn.nodeId &&
    m.get (rangeIndex e.fp) 0 != s.skn.nodeId).map fun e => rangeIndex e.fp
  bad.min?

/-- A map stored on this node (R279). -/
def State.storeMap (m : Tab (BitVec 6)) (version : BitVec 64) (s : State) : State :=
  s.flashNow (configReq keyMap (mapBytes m version))

/-- The numbers of the other members. -/
def State.others (s : State) : List (BitVec 6) := s.skn.members.map fun p => BitVec.ofNat 6 p.1

/-- The phases of map control: a part of a map, a member's answer, the order to store, the order to forget. -/
def mapPart (k : Nat) (bs : Bytes) : Bytes := [0, BitVec.ofNat 8 k] ++ slice bs (1026 * k) 1026
def mapAnswer (conflict : Option Nat) : Bytes := [1, if conflict.isSome then 1 else 0] ++ leBytes 2 (conflict.getD 0)
def mapStore : Bytes := [2]
def mapForget : Bytes := [3]

/-- A map control packet to each of some members. -/
def State.toEach (ns : List (BitVec 6)) (payload : Bytes) (s : State) : State := ns.foldl (fun s n => s.sendTo .map n 0 payload) s

/-- A command that cannot begin yet is given back to its core: its row runs it later. -/
def State.postpone (x : Ctx) (s : State) : State :=
  match (s.queue x.c.q).inflight.find? (·.id == x.id) with
  | some f => s.setFetched x.c.q { f with running := false }
  | none => s

/-- `MAP_SET`: the checks, then the first phase; a device alone switches at once. -/
def mapSetBody (x : Ctx) (s : State) : Out :=
  withData x s fun bs =>
    let (m, version) := mapOf bs
    let known (b : Byte) : Bool := b == s.node || (decide (b < 64) && (s.skn.members.find b.toNat).isSome)
    if s.skn.mapAsk.isSome then { s := s.postpone x, cyc := 0, when_ := .later }
    else if version ≤ s.skn.version ∨ !(slice bs 0 4096).all known then x.refused s stBadParameter
    else if !s.others.all s.reaches then x.refused s stNodeUnreachable
    else match s.nvmStatus with
      | some st => x.refused s st
      | none =>
        match s.mapConflict m with
        | some r => { x.refused s stStateConflict with inl := inlAt 0 r }
        | none =>
          if s.others.isEmpty then
            let s := s.storeMap m version
            { s := { s with skn := { s.skn with map := m, version } }, cyc := 1480 }
          else
            let s := ([0, 1, 2, 3] : List Nat).foldl (fun s k => s.toEach s.others (mapPart k bs)) s
            { s := { s with skn := { s.skn with mapAsk := some { h := x.held 0 1480 0 [], map := m, version, waiting := s.others } } }
              cyc := 1480, when_ := .later }

/-- A `MAP_SET` that waits fails with a status; every member forgets the map. -/
def State.failMap (st : BitVec 16) (inl : BitVec 64) (s : State) : State :=
  match s.skn.mapAsk with
  | none => s
  | some k =>
    let s := ({ s with skn := { s.skn with mapAsk := none } }).toEach (s.others.filter s.reaches) mapForget
    s.postReply { k.h.fail st k.h.cycles.toNat with inl }

/-- A member's answer: the last one that agrees begins the second phase. -/
def State.mapAnswered (src : BitVec 6) (conflict : Option Nat) (s : State) : State :=
  match s.skn.mapAsk with
  | none => s
  | some k =>
    if !k.waiting.contains src then s
    else match conflict with
      | some r => s.failMap stStateConflict (inlAt 0 r)
      | none =>
        let left := k.waiting.erase src
        if !left.isEmpty then { s with skn := { s.skn with mapAsk := some { k with waiting := left } } }
        else match s.nvmStatus with
          | some st => s.failMap st 0
          | none =>
            let s := (s.storeMap k.map k.version).toEach s.others mapStore
            ({ s with skn := { s.skn with mapAsk := none, newMap := some (k.map, k.version) } }).postReply k.h

/-- Map control that arrives on a node. -/
def State.mapControl (src : BitVec 6) (bs : Bytes) (s : State) : State :=
  match (slice bs 0 1).headD 0 with
  | 0 =>
    let s := { s with skn := { s.skn with mapIn := (if leAt bs 1 1 = 0 then [] else s.skn.mapIn) ++ bs.drop 2 } }
    if s.skn.mapIn.length < 4104 then s
    else
      let (m, version) := mapOf s.skn.mapIn
      let conflict := s.mapConflict m
      let s := { s with skn := { s.skn with mapIn := [], agreed := if conflict.isSome then none else some (m, version) } }
      s.sendTo .map src 0 (mapAnswer conflict)
  | 1 => s.mapAnswered src (if leAt bs 1 1 = 0 then none else some (leAt bs 2 2))
  | 2 => match s.skn.agreed with
    | some (m, version) =>
      let s := s.storeMap m version
      { s with skn := { s.skn with newMap := some (m, version), agreed := none } }
    | none => s
  | _ => { s with skn := { s.skn with agreed := none } }

/-- The switch to a stored map at a census marker. -/
def mapSwitchEvent (s : State) : State :=
  match s.skn.newMap with
  | some (m, version) => { s with skn := { s.skn with map := m, version, newMap := none } }
  | none => s

/-- `MAP_GET` (R291). -/
def mapGetBody (_ : Ctx) (s : State) : Out := { s, cyc := 612, result := mapBytes s.skn.map s.skn.version }

/-! ## NODE_MEMBER (R266, R291) -/

/-- A SKEIN record (R359): 0 failed, 1 returned, 2 second head, 3 candidate, 4 refused serial. -/
def State.logSkein (w : Port) (event : Nat) (serial : BitVec 64) (s : State) : State :=
  s.log 0x0050 1 (if event = 1 ∨ event = 3 then 1 else 2)
    ([if w = .west then 1 else 0, BitVec.ofNat 8 event] ++ leBytes 8 serial.toNat)

/-- Member control: what changed, and the table as the head has it, itself included. -/
def State.memberPacket (s : State) (op : Byte) (n : BitVec 6) (serial : BitVec 64) : Bytes :=
  [op, n.setWidth 8] ++ leBytes 8 serial.toNat ++
  memberBytes (s.skn.members.put s.skn.nodeId.toNat { serial := s.life.serial, kcv := 0 })

/-- The member table and the retired list stored on the head. -/
def State.storeMembers (s : State) : State := s.flashNow (configReq keyMembers (memberBytes s.skn.members))
def State.storeRetired (s : State) : State := s.flashNow (configReq keyRetired (retiredBytes s.skn.retired))

/-- The KCV of this device's register fingerprint key (R108). -/
def State.fpkKcv (s : State) : BitVec 32 := ((s.validSlot s.ru.reg.fpkSlot.toNat).map (·.attr.kcv)).getD 0

/-- The members of the cluster, the head counted. -/
def State.memberCount (s : State) : Nat := s.skn.members.length + 1

/-- `NODE_MEMBER` op 0. -/
def admitMember (x : Ctx) (n : BitVec 6) (serial : BitVec 64) (s : State) : Out :=
  match s.skn.candidates.find? (·.1 == serial) with
  | none => x.refused s stBadParameter
  | some (_, kcv) =>
    if n = s.skn.nodeId ∨ (s.skn.members.find n.toNat).isSome ∨ 64 ≤ s.memberCount then x.refused s stBadParameter
    else if kcv ≠ s.fpkKcv then x.refused s stKcvMismatch
    else match s.nvmStatus with
      | some st => x.refused s st
      | none =>
        let s := { s with skn := { s.skn with
            members := s.skn.members.put n.toNat { serial, kcv }, candidates := s.skn.candidates.filter (·.1 != serial) } }
        let s := s.storeMembers.broadcast .member (s.memberPacket 0 n serial)
        { s := s.raise evNode, cyc := 1216, inl := inlAt 0 s.memberCount }

/-- `NODE_MEMBER` op 1. -/
def retireMember (x : Ctx) (n : BitVec 6) (serial : BitVec 64) (s : State) : Out :=
  match s.skn.members.find n.toNat with
  | none => x.refused s stBadParameter
  | some m =>
    if m.serial ≠ serial ∨ 256 ≤ s.skn.retired.length then x.refused s stBadParameter
    else if s.reaches n then x.refused s stStateConflict
    else match s.nvmStatus with
      | some st => x.refused s st
      | none =>
        let s := { s with skn := { s.skn with
            members := s.skn.members.del n.toNat, lost := s.skn.lost.erase n, retired := s.skn.retired ++ [serial] } }
        let s := s.storeMembers.storeRetired.broadcast .member (s.memberPacket 1 n serial)
        { s, cyc := 1216, inl := inlAt 0 s.memberCount }

/-- `NODE_MEMBER`. -/
def nodeMemberBody (x : Ctx) (s : State) : Out :=
  let n : BitVec 6 := (x.c.pkt.byteAt 33).setWidth 6
  let serial : BitVec 64 := BitVec.ofNat 64 (x.c.pkt.field 40 8)
  if x.c.pkt.byteAt 32 = 0 then admitMember x n serial s else retireMember x n serial s

/-- A port is held down, and the fault is logged (R265, R266). -/
def State.holdDown (w : Port) (event : Nat) (serial : BitVec 64) (s : State) : State :=
  let s := s.portOut w .down
  (s.setPort w { s.port w with heldDown := true }).logSkein w event serial

/-- What becomes of a device that has presented itself: admitted or joined, refused as retired, or held as a candidate
(R266). -/
def State.presented (op : Nat) (s : State) : State :=
  if op = 3 then (s.holdDown .east 4 s.life.serial).holdDown .west 4 s.life.serial
  else if op = 0 ∨ op = 2 ∨ op = 4 then { s with skn := { s.skn with candidate := op == 4 } }
  else s

/-- Member control that arrives: the table, and its own number on the device admitted; a retired serial joins the list. -/
def State.memberControl (bs : Bytes) (s : State) : State :=
  let n : BitVec 6 := BitVec.ofNat 6 (leAt bs 1 1)
  let serial : BitVec 64 := BitVec.ofNat 64 (leAt bs 2 8)
  let op := leAt bs 0 1
  let mine := serial == s.life.serial
  let s := if op = 0 ∧ mine then
      ({ s with skn := { s.skn with nodeId := n } }).mssWrite identityOff (identityBlock n) []
    else s
  let s := if mine then s.presented op else s
  let s := { s with skn := { s.skn with members := (membersOf (bs.drop 10)).del s.skn.nodeId.toNat } }
  if op = 1 ∧ !s.skn.retired.contains serial ∧ s.skn.retired.length < 256 then
    ({ s with skn := { s.skn with retired := s.skn.retired ++ [serial] } }).storeRetired
  else s

/-! ## Training, reconciliation, failure (R268, R269, R274) -/

/-- The link key (R269). -/
def linkKey (kc : BitVec 256) (eastSerial westSerial : BitVec 64) (eastNonce westNonce : BitVec 128) : BitVec 128 :=
  blockOf (sm3First 16 (digestBytes kc ++ [0x4C] ++ leBytes 8 eastSerial.toNat ++ leBytes 8 westSerial.toNat ++
    leBytes 16 eastNonce.toNat ++ leBytes 16 westNonce.toNat))

/-- Block lock on a port that trains: the nonces are exchanged and the link key is formed. -/
def trainingEvent (w : Port) (serial : BitVec 64) (nonce : BitVec 128) (s : State) : State :=
  if (s.port w).st ≠ .training ∨ !s.entropyOk then s
  else match s.readSlot s.skn.keySlot.toNat with
    | (s, .error _) => s
    | (s, .ok k) =>
      if k.attr.typ ≠ 3 then s
      else
        let mine : BitVec 128 := s.draw.setWidth 128
        let s := s.drawn 1
        let key := match w with
          | .east => linkKey k.key256 s.life.serial serial mine nonce
          | .west => linkKey k.key256 serial s.life.serial nonce mine
        s.setPort w { s.port w with st := .reconciling, lanes := 2, key := some key, myNonce := mine, peerSerial := serial
                                    txGroup := 0, rxGroup := 0, tagFails := 0, txFlits := [], rxFlits := [] }

/-- A VC after the exchange of counters: S is the peer's A, Rt its F (R274). -/
def Vc.reconciled (b : Nat) (c : PeerCount) (v : Vc) : Vc :=
  { v with sent := c.accepted, returned := c.freed, held := b - (c.accepted - c.freed).toNat }

/-- A port's five VCs changed by number. -/
def SkPort.eachVc (f : Nat → Vc → Vc) (p : SkPort) : SkPort := { p with vcs := Vector.ofFn fun i => f i.val p.vcs[i] }

/-- The peer's counters of a VC. -/
def peerAt (peer : List PeerCount) (vc : Nat) : PeerCount := peer.getD vc { accepted := 0, freed := 0, occupied := 0 }

/-- A packet kept for replay lies after what the peer has accepted. -/
def notAccepted (peer : List PeerCount) (p : BitVec 32 × SkPacket) : Bool :=
  0 < (p.1 - (peerAt peer p.2.vc.toNat).accepted).toInt

/-- A port enters service (R259, R274). -/
def State.portIn (w : Port) (s : State) : State :=
  let k := s.port w
  if k.inService then s.setPort w { k with st := .up }
  else
    let cause := if (s.arb.returning.find (portCode w)).isSome then causeCommand else causeLink
    let s := (s.setPort w { k with st := .up, inService := true }).serviceChange (portCode w) cause true
    (s.logSkein w 1 k.peerSerial).returned (portCode w) true

/-- The exchange of counters after a training: credits, replay, then new traffic (R274). -/
def reconcileEvent (w : Port) (peer : List PeerCount) (s : State) : State :=
  let k := s.port w
  if k.st ≠ .reconciling then s
  else
    let again := k.replay.filter (notAccepted peer)
    let k := (k.eachVc fun i v => v.reconciled (vcBuffer i) (peerAt peer i))
    let k := { k with replay := [], egress := (again.map fun p => ((none : Option Port), p.2)) ++ k.egress }
    ((s.setPort w k).portIn w).drainEgress w

/-- A link failure (R269, R288). -/
def linkFailureEvent (w : Port) (s : State) : State :=
  let k := s.port w
  if k.st = .down then s
  else
    let s := s.setPort w { k with lanes := 0, key := none }
    let s := (s.portOut w (if s.skn.autoReturn then .training else .down))
    let s := if k.inService then s.serviceChange (portCode w) causeLink false else s
    (s.logSkein w 0 k.peerSerial).returned (portCode w) false

/-! ## Packets that arrive (R270 to R272) -/

/-- Every kind. -/
def skKinds : List SkKind :=
  [.doorbell, .routed, .routedReply, .hostBound, .hostRead, .readDone, .journal, .transfer, .accept, .refuse, .done, .query
   , .imported, .noRecord, .census, .enumerate, .heartbeat, .member, .map, .register]

/-- The kind of a packet, by its VC and type byte. -/
def packetKind (p : SkPacket) : Option SkKind :=
  skKinds.find? fun k => k.vc == p.vc.toNat && Config.skeinType k.num == p.kind

/-- A command packet read from its 64 bytes (R41). -/
def packetOf (bs : Bytes) : Packet :=
  { opcode := BitVec.ofNat 16 (leAt bs 0 2), flags := BitVec.ofNat 16 (leAt bs 2 2), tag := BitVec.ofNat 32 (leAt bs 4 4)
    handleA := BitVec.ofNat 32 (leAt bs 8 4), handleB := BitVec.ofNat 32 (leAt bs 12 4)
    dataPtr := BitVec.ofNat 64 (leAt bs 16 8), dataLen := BitVec.ofNat 32 (leAt bs 24 4)
    outLen := BitVec.ofNat 32 (leAt bs 28 4), inl := BitVec.ofNat 256 (leAt bs 32 32) }

/-- A routed command read from its packet. -/
def routedCmd (bs : Bytes) : Cmd := { pkt := packetOf (slice bs 0 64), dom := (slice bs 64 1).headD 0, data := bs.drop 65 }

/-- What the head carries to the host for another node (R277): a write, a message, or a journal record; a read's completion goes
back to the node. -/
def remoteAccess (node : BitVec 6) (a : HostAccess) (s : State) : State :=
  if !s.skn.head then s
  else match a with
    | .read _ _ data => s.sendTo .readDone node 0 data
    | .write addr data => s.post (.hostWrite addr data)
    | .msix v => s.sendMsix v
    | .journal addr r => s.post (.hostWrite addr r)

/-- The effect of a packet on the node it is for. The completion of a host read, the census marker, an enumeration packet and a
heartbeat have theirs in rows of their own. -/
def State.deliver (p : SkPacket) (s : State) : State :=
  let src : BitVec 6 := p.src.setWidth 6
  let bs := p.payload
  let id : BitVec 64 := BitVec.ofNat 64 (leAt bs 0 8)
  match packetKind p with
  | none => s
  | some k => match k with
    | .doorbell => s.bar2 (BitVec.ofNat 18 (leAt bs 0 4)) (BitVec.ofNat 32 (leAt bs 4 4))
    | .routed => routedCommandEvent src p.tag (routedCmd bs) s
    | .routedReply =>
      routedReplyEvent p.tag { status := BitVec.ofNat 16 (leAt bs 0 2), inl := BitVec.ofNat 64 (leAt bs 2 8)
                               arbWaits := leAt bs 10 4, result := bs.drop 14 } s
    | .hostBound =>
      if leAt bs 0 1 = 0 then remoteAccess src (.write (BitVec.ofNat 64 (leAt bs 1 8)) (bs.drop 9)) s
      else remoteAccess src (.msix (BitVec.ofNat 11 (leAt bs 1 2))) s
    | .journal => remoteAccess src (.journal (BitVec.ofNat 64 (leAt bs 0 8)) (bs.drop 8)) s
    | .transfer => transferReceiveEvent src id ((slice bs 8 1).headD 0) (BitVec.ofNat 16 (leAt bs 9 2)) (BitVec.ofNat 32 (leAt bs 11 4)) s
    | .accept => transferAnswerEvent id none s
    | .refuse => transferAnswerEvent id (some (BitVec.ofNat 16 (leAt bs 8 2))) s
    | .done => transferDoneEvent id s
    | .query => transferQueryEvent src id s
    | .imported => reconcileAnswerEvent id true s
    | .noRecord => reconcileAnswerEvent id false s
    | .member => s.memberControl bs
    | .map => s.mapControl src bs
    | .register => s.nodeRegHere src p.tag (leAt bs 0 1 = 1) (leAt bs 1 4) (BitVec.ofNat 32 (leAt bs 5 4))
    | .hostRead | .readDone | .census | .enumerate | .heartbeat => s

/-- The key of the next expected sequence of a (src, vc) pair; packets to every node have a key of their own. -/
def rxKey (p : SkPacket) : Nat := seqKey (p.src.toNat + if p.dest = 0xFF then 256 else 0) p.vc.toNat

/-- A payload that came in several packets is delivered with its last one (notes/assumptions/29.md). -/
def State.gather (p : SkPacket) (s : State) : State :=
  let id := (rxKey p, p.tag)
  let before := ((s.skn.parts.find? (·.1 == id)).map Prod.snd).getD []
  let rest := s.skn.parts.filter (·.1 != id)
  if p.payload.length = skPayload then { s with skn := { s.skn with parts := rest ++ [(id, before ++ p.payload)] } }
  else ({ s with skn := { s.skn with parts := rest } }).deliver { p with payload := before ++ p.payload }

/-- A packet in transit waits at the port it leaves by: the other one, or the one it came in on where that is not up (R271,
R288). -/
def State.transit (w : Port) (from_ : Option Port) (p : SkPacket) (s : State) : State :=
  let o := if (s.port (otherPort w)).isUp then otherPort w else w
  let p := if o = w then { p with flags := skFlags w true } else p
  s.setPort o { s.port o with egress := (s.port o).egress ++ [(from_, p)] }

/-- A packet in its turn at its destination; a broadcast goes on as well. -/
def State.acceptPacket (w : Port) (p : SkPacket) (s : State) : State :=
  let s := { s with skn := { s.skn with
    rxSeq := s.skn.rxSeq.put (rxKey p) (p.seq + 1)
    arrived := if packetKind p = some SkKind.enumerate then some w else s.skn.arrived } }
  let s := (s.freeFlits (some w) p).gather p
  if p.dest = 0xFF ∧ (s.port (otherPort w)).isUp then s.transit w none p else s

/-- Packets that waited for a gap, taken in order once it is filled (R272). -/
def State.acceptWaiting : Nat → State → State
  | 0, s => s
  | n + 1, s =>
    match s.skn.rxBuf.find? fun q => s.skn.rxSeq.get (rxKey q.2) 1 == q.2.seq with
    | none => s
    | some q =>
      let s := { s with skn := { s.skn with rxBuf := s.skn.rxBuf.erase q } }
      State.acceptWaiting n (s.acceptPacket q.1 q.2)

/-- A candidate carries no traffic: only packets that form the ring and control its members reach it or come from it (R266). -/
def State.carries (s : State) (p : SkPacket) : Bool :=
  match packetKind p with
  | some .census | some .enumerate | some .heartbeat | some .member => true
  | _ => !s.skn.candidate && (p.src == 0 || p.src == s.node || (s.skn.members.find p.src.toNat).isSome)

/-- The packet carries the next expected sequence of its source and VC to its destination. -/
def State.inTurn (s : State) (p : SkPacket) : Bool := p.seq == s.skn.rxSeq.get (rxKey p) 1

/-- The receive buffer takes a packet: one that is to wait for others leaves 17 flits for the one that is awaited (R270,
R272). -/
def State.hasRoom (w : Port) (p : SkPacket) (s : State) : Bool :=
  let waits := (p.dest == s.node || p.dest == 0xFF) && decide (s.skn.rxSeq.get (rxKey p) 1 < p.seq)
  decide (((s.port w).vcAt p.vc.toNat).occupied + skFlits p + (if waits then 17 else 0) ≤ vcBuffer p.vc.toNat)

/-- A packet arrives on a link (R271 to R273): its flits are counted; it is accepted in turn, waits, is discarded, or goes on. One
for which the buffer has no room is not taken in (notes/assumptions/86.md). -/
def packetEvent (w : Port) (p : SkPacket) (s : State) : State :=
  let k := s.port w
  if !k.isUp ∨ 5 ≤ p.vc.toNat ∨ skPayload < p.payload.length ∨ !s.hasRoom w p then s
  else
    let n := skFlits p
    let v := k.vcAt p.vc.toNat
    let s := s.setPort w (k.setVc p.vc.toNat { v with accepted := v.accepted + BitVec.ofNat 32 n, occupied := v.occupied + n })
    if !s.carries p then s.freeFlits (some w) p
    else if p.dest ≠ s.node ∧ p.dest ≠ 0xFF then s.transit w (some w) p
    else
      let next := s.skn.rxSeq.get (rxKey p) 1
      if p.seq < next ∨ p.src = s.node then s.freeFlits (some w) p
      else if s.inTurn p then State.acceptWaiting 256 (s.acceptPacket w p)
      else { s with skn := { s.skn with rxBuf := s.skn.rxBuf ++ [(w, p)] } }

/-! ## Groups that arrive (R268, R269) -/

/-- The packet at the front of the flits that have arrived, once it is whole, and what follows it; a flit of no virtual channel
carries nothing. -/
def skTake (bs : Bytes) : Option (Option SkPacket × Bytes) :=
  if bs.length < 64 then none
  else if 5 ≤ leAt bs 2 1 then some (none, bs.drop 64)
  else
    let n := leAt bs 4 2
    let p : SkPacket :=
      { dest := BitVec.ofNat 8 (leAt bs 0 1), src := BitVec.ofNat 8 (leAt bs 1 1), vc := BitVec.ofNat 8 (leAt bs 2 1)
        kind := BitVec.ofNat 8 (leAt bs 3 1), flags := BitVec.ofNat 16 (leAt bs 6 2), seq := BitVec.ofNat 32 (leAt bs 8 4)
        tag := BitVec.ofNat 32 (leAt bs 12 4), payload := slice bs 16 n }
    if bs.length < 64 * skFlits p then none else some (some p, bs.drop (64 * skFlits p))

/-- The whole packets among the flits that have arrived at a port. -/
def State.takeFlits (w : Port) : Nat → State → State
  | 0, s => s
  | n + 1, s =>
    match skTake (s.port w).rxFlits with
    | none => s
    | some (p, rest) =>
      let s := s.setPort w { s.port w with rxFlits := rest }
      State.takeFlits w n (match p with | some p => packetEvent w p s | none => s)

/-- A group arrives: its tag is checked under the link key and the IV of its direction. A good one that is awaited is decrypted
and its packets arrive; one that fails is discarded, and a replay from it is asked for; the eighth failure of one group in
succession ends the link (R269). -/
def groupEvent (w : Port) (gseq : BitVec 32) (cipher tag : Bytes) (s : State) : State :=
  let k := s.port w
  match k.key with
  | none => s
  | some key =>
    let iv := groupIv (w == .east) gseq
    if (gcmTag key iv [] cipher).take 12 = tag then
      if gseq ≠ k.rxGroup then s.setPort w { k with tagFails := 0 }
      else State.takeFlits w 24
        (s.setPort w { k with tagFails := 0, rxGroup := gseq + 1, rxFlits := k.rxFlits ++ gcmStream key iv cipher })
    else
      let fails := if k.failGroup = gseq then k.tagFails + 1 else 1
      if 8 ≤ fails then linkFailureEvent w (s.setPort w { k with tagFails := 0 })
      else (s.setPort w { k with tagFails := fails, failGroup := gseq }).emit (.replay w gseq)

/-! ## Census, enumeration, members (R265 to R267, R274, R288, R289) -/

/-- The census equations of a link hold: A = S, and O = A − F (R274). -/
def censusOk (k : SkPort) (peer : List PeerCount) : Bool :=
  (List.range 5).all fun i =>
    let c := peerAt peer i
    c.accepted == (k.vcAt i).sent && decide (c.occupied.toNat = (c.accepted - c.freed).toNat)

/-- The port that counts a census round: the first that is up. -/
def State.firstUp (s : State) : Port := if s.skn.east.isUp then .east else .west

/-- A census marker passes a link: the head sends it, the equations are checked, and the credits returned are known (R273,
R274). -/
def censusEvent (w : Port) (peer : List PeerCount) (s : State) : State :=
  let k := s.port w
  if k.st ≠ .up ∨ !k.inService then s
  else if censusOk k peer then
    let rounds := if s.firstUp = w then satAdd s.skn.rounds 1 else s.skn.rounds
    let k := { k.eachVc (fun i v => v.reconciled (vcBuffer i) (peerAt peer i)) with mismatched := false }
    let s := ({ s with skn := { s.skn with rounds } }).setPort w k
    let s := s.drainEgress w
    if s.skn.head && s.firstUp == w then s.broadcast .census [] else s
  else
    let s := { s with skn := { s.skn with mismatch := satAdd s.skn.mismatch 1 } }
    if k.mismatched then linkFailureEvent w s else s.setPort w { k with st := .training, mismatched := true }

/-- Enumeration: ring or chain, members reachable, and a second head (R265, R267). -/
def enumerationEvent (returned : Bool) (reach : BitVec 7) (secondHead : Option Port) (s : State) : State :=
  if !s.skn.en then s
  else
    let s := if s.skn.head then s.cast s.upPorts .enumerate [] else s
    let s := { s with skn := { s.skn with ring := returned, reach, nodes := reach } }
    match secondHead with
    | none => s
    | some w => if s.skn.head then s.holdDown w 2 (s.port w).peerSerial else s

/-- A device presents its serial and number to the head, which tells it what it is (R266). -/
def joinEvent (serial : BitVec 64) (n : BitVec 6) (kcv : BitVec 32) (s : State) : State :=
  let w := s.wayTo n
  if !s.skn.head then s
  else if s.skn.retired.contains serial then
    (s.broadcast .member (s.memberPacket 3 n serial)).logSkein w 4 serial
  else if (s.skn.members.find n.toNat).any (·.serial == serial) then
    let s := { s with skn := { s.skn with lost := s.skn.lost.erase n } }
    (s.broadcast .member (s.memberPacket 2 n serial)).raise evNode
  else if s.skn.candidates.any (·.1 == serial) then s
  else
    let s := { s with skn := { s.skn with candidates := s.skn.candidates ++ [(serial, kcv)] } }
    (s.broadcast .member (s.memberPacket 4 n serial)).logSkein w 3 serial

/-- A heartbeat of a port at low rate crosses its one link and bears no end-to-end sequence (R290,
notes/assumptions/29.md). -/
def heartbeatEvent (w : Port) (s : State) : State :=
  let k := s.port w
  if k.st ≠ .lowRate ∨ (k.vcAt 4).held < 1 then s
  else
    let p : SkPacket := { dest := 0xFF, src := s.node, vc := 4, kind := Config.skeinType SkKind.heartbeat.num
                          flags := skFlags w false, seq := 0, tag := 0, payload := [] }
    (s.transmit w p).fillGroup w

/-- A port returns to full rate: both lanes, then the reconciliation (R290). -/
def fullRateEvent (w : Port) (s : State) : State :=
  let k := s.port w
  if k.st = .lowRate then s.setPort w { k with st := .reconciling, lanes := 2 } else s

/-- A bandwidth table names only VCs 0 to 4, and gives each a slot (R275). -/
def bwOk (t : Vector (BitVec 4) 64) : Bool :=
  t.toList.all (fun v => decide (v.toNat < 5)) && (List.range 5).all fun n => t.toList.any fun v => v.toNat == n

/-- A revolution boundary of a port whose swap was asked for (R252, R275). -/
def bwSwapEvent (w : Port) (s : State) : State :=
  let k := s.port w
  if !k.swap then s
  else if bwOk k.shadow then s.setPort w { k with live := k.shadow, swap := false, bad := false }
  else s.setPort w { k with swap := false, bad := true }

/-- A member becomes unreachable from the head; on the member itself the row names the head (R288). -/
def unreachableEvent (n : BitVec 6) (s : State) : State :=
  if n = s.skn.nodeId then s
  else
    let known := s.reaches n
    let s := if s.skn.lost.contains n then s else { s with skn := { s.skn with
      lost := s.skn.lost ++ [n], reach := if known then s.skn.reach - 1 else s.skn.reach
      nodes := if known then s.skn.nodes - 1 else s.skn.nodes } }
    let s := match s.skn.mapAsk with
      | some k => if k.waiting.contains n then s.failMap stNodeUnreachable 0 else s
      | none => s
    if s.skn.head then s.raise evNode
    else if n = 0 then
      let en := s.ru.jrn.en
      let s := s.endAllQueues
      { s with ru := { s.ru with jrn := { s.ru.jrn with en } }, skn := { s.skn with cutOff := true } }
    else s

/-- A member becomes reachable again (R289). -/
def rejoinEvent (n : BitVec 6) (s : State) : State :=
  if !s.skn.lost.contains n then s
  else
    let s := { s with skn := { s.skn with lost := s.skn.lost.erase n, reach := s.skn.reach + 1, nodes := s.skn.nodes + 1 } }
    if s.skn.head then (s.broadcast .member (s.memberPacket 2 n 0)).raise evNode
    else if n = 0 then
      let s := { s with skn := { s.skn with cutOff := false } }
      if s.ru.jrn.en then s.flushJournal else s
    else s

/-! ## The rows -/

/-- `NODE_REG` op 0. -/
def execNodeRegRead (c : Cmd) (s : State) : Host.Outcome State Fault Refusal :=
  .next (runOp 0x0801 none nodeRegBody { c with pkt := c.pkt.setByte 33 0 } s)

/-- `NODE_REG` op 1. -/
def execNodeRegWrite (c : Cmd) (s : State) : Host.Outcome State Fault Refusal :=
  .next (runOp 0x0801 none nodeRegBody { c with pkt := c.pkt.setByte 33 1 } s)

/-- `MAP_SET`. -/
def execMapSet (c : Cmd) (s : State) : Host.Outcome State Fault Refusal := .next (runOp 0x0802 none mapSetBody c s)

/-- `MAP_GET`. -/
def execMapGet (c : Cmd) (s : State) : Host.Outcome State Fault Refusal := .next (runOp 0x0803 none mapGetBody c s)

/-- `NODE_MEMBER` op 0. -/
def execNodeMemberAdmit (c : Cmd) (s : State) : Host.Outcome State Fault Refusal :=
  .next (runOp 0x0804 (some 0) nodeMemberBody c s)

/-- `NODE_MEMBER` op 1. -/
def execNodeMemberRetire (c : Cmd) (s : State) : Host.Outcome State Fault Refusal :=
  .next (runOp 0x0804 (some 1) nodeMemberBody c s)

/-- A port reaches block lock. -/
def execSkeinTrainingDone (port : Port) (peerSerial : BitVec 64) (peerNonce : BitVec 128) (s : State) :
    Host.Outcome State Fault Refusal := .next (trainingEvent port peerSerial peerNonce s)

/-- A group arrives. -/
def execSkeinGroupReceive (port : Port) (gseq : BitVec 32) (cipher : Bytes) (tag : Bytes) (s : State) :
    Host.Outcome State Fault Refusal := .next (groupEvent port gseq cipher tag s)

/-- A packet arrives. -/
def execSkeinPacketReceive (port : Port) (p : SkPacket) (s : State) : Host.Outcome State Fault Refusal :=
  .next (packetEvent port p s)

/-- Packets that wait at a port are sent on. -/
def execSkeinForward (port : Port) (s : State) : Host.Outcome State Fault Refusal := .next (s.drainEgress port)

/-- A census marker passes a link. -/
def execCensusMarker (port : Port) (peer : List PeerCount) (s : State) : Host.Outcome State Fault Refusal :=
  .next (censusEvent port peer s)

/-- The ring or chain is formed. -/
def execRingEnumeration (returned : Bool) (reach : BitVec 7) (secondHead : Option Port) (s : State) :
    Host.Outcome State Fault Refusal := .next (enumerationEvent returned reach secondHead s)

/-- A device presents itself. -/
def execMemberJoin (serial : BitVec 64) (number : BitVec 6) (kcv : BitVec 32) (s : State) :
    Host.Outcome State Fault Refusal := .next (joinEvent serial number kcv s)

/-- A heartbeat. -/
def execHeartbeat (port : Port) (s : State) : Host.Outcome State Fault Refusal := .next (heartbeatEvent port s)

/-- A port returns to full rate. -/
def execLowRateReturn (port : Port) (s : State) : Host.Outcome State Fault Refusal := .next (fullRateEvent port s)

/-- A bandwidth table is swapped or refused. -/
def execBwTableSwap (port : Port) (s : State) : Host.Outcome State Fault Refusal := .next (bwSwapEvent port s)

/-- The head carries a member's host access. -/
def execSkeinRemoteHostAccess (node : BitVec 6) (a : HostAccess) (s : State) : Host.Outcome State Fault Refusal :=
  .next (remoteAccess node a s)

/-- Each member switches to the stored map. -/
def execMapSwitch (s : State) : Host.Outcome State Fault Refusal := .next (mapSwitchEvent s)

/-- A member becomes unreachable. -/
def execMemberUnreachable (node : BitVec 6) (s : State) : Host.Outcome State Fault Refusal :=
  .next (unreachableEvent node s)

/-- A member becomes reachable again. -/
def execMemberRejoin (node : BitVec 6) (s : State) : Host.Outcome State Fault Refusal := .next (rejoinEvent node s)

/-- A link fails, for whichever cause. -/
def execSkeinLinkFailure (port : Port) (_cause : LinkFault) (s : State) : Host.Outcome State Fault Refusal :=
  .next (linkFailureEvent port s).resumeService

/-- The two sides of a link exchange their counters. -/
def execSkeinReconciliation (port : Port) (peer : List PeerCount) (s : State) : Host.Outcome State Fault Refusal :=
  .next (reconcileEvent port peer s).resumeService

end Sys2Proof.Machine
end

