-- ==== Sys2Proof/Machine/Tampering.lean ====
section
/-! DEFINITION. Tamper alarms, responses, release and built-in tests (R320 to R337), with the roots and memory keys that a release
and a start-up derive (R214, R217). -/

namespace Sys2Proof.Machine

/-- What the DRAM held is gone (R326, R397): pool records, register, transfer records, seal contexts. -/
def State.loseDram (s : State) : State :=
  { s with
    led := { s.led with pools := [], dram := [], pendingWt := [], live := zeroTotals, locks := [], drains := [] }
    ru := { s.ru with
      reg := { s.ru.reg with buckets := [], stash := [], wbuf := [], accepted := [], changed := [] }
      ckpt := none, ckptWait := [], rb := { s.ru.rb with needed := false, begun := false } }
    skn := { s.skn with transfers := [] }
    sl := { s.sl with ctxs := [], cache := [], evicted := [], fills := [] } }

/-! ## Aborts (R164, R198, R211, R325, R326) -/

/-- A spindle's jobs are aborted, where it holds any. -/
def State.abortJobsOf (s : State) (n : Nat) : State :=
  if (s.spindle n).jobsHeld.isEmpty then s else s.abortSpindle stTamperAbort n

/-- A generation write belongs to a class 0x07 command. -/
def GenWrite.keyed (g : GenWrite) : Bool := match g.what with | .restore _ => false | _ => true

/-- Generation writes that a test names and that are not taken are dropped with their commands (R198, R240). -/
def State.dropWrites (t : GenWrite → Bool) (s : State) : State :=
  let mine (r : CuReq) : Option GenWrite := match r with | .gen g => if t g then some g else none | _ => none
  let gs := s.kp.queue.filterMap mine
  let s := { s with kp := { s.kp with queue := s.kp.queue.filter fun r => (mine r).isNone } }
  gs.foldl (fun s g => s.dropGen stTamperAbort g) s

/-- The reply of a command whose write was taken before the response: inline byte 24 of a key replacement tells that it stands (R240). -/
def abortedReply (inl : BitVec 64) (a : After) : After :=
  match a with
  | .reply h => .reply { h with status := stTamperAbort, truncated := false, resultLen := 0, inl, write := none }
  | a => a

/-- A generation write that a test names and that is already taken finishes; its command answers the abort (R198, R240). -/
def State.abortTaken (t : GenWrite → Bool) (s : State) : State :=
  match s.kp.cu with
  | some (.gen g, b) =>
    if t g then { s with kp := { s.kp with cu := some (.gen { g with after := g.after.map (abortedReply (if g.keyed then inlAt 0 1 else 0)) }, b) } } else s
  | _ => s

/-- Dispatched packets of some classes whose effect has not begun are answered. -/
def State.abortPackets (classes : List Nat) (s : State) : State :=
  s.queues.foldl
    (fun s p =>
      let q : QId := BitVec.ofNat 14 p.1
      (p.2.inflight.filter fun f => match f.stage with
        | .dispatched _ => !f.running && classes.contains (f.pkt.opcode.toNat / 256) | _ => false).foldl
        (fun s f => s.postReply { f.refusal q stTamperAbort with
          cycles := if (opInfo f.pkt.opcode).any (·.fast) then 22 else 24, unit := match f.stage with | .dispatched u => u | _ => 0xFF }) s) s

/-- Every key operation is aborted (R325). -/
def State.abortKeyOps (s : State) : State :=
  let s := ((List.range 8).foldl State.abortJobsOf s).dropParked stTamperAbort (fun _ => true) true
  ((s.dropWrites GenWrite.keyed).abortTaken GenWrite.keyed).abortPackets [7]

/-- Under SCOUR the MSS is held in reset until the response completes (R326). -/
def rkMssTamper : Nat := 10
def State.holdMss (s : State) : State :=
  let s := s.resetMss rkMssTamper
  { s with mss := { s.mss with st := .down } }

/-- Under STRIP the other units stop: verify jobs, the seal pipeline, the digest unit, the card slot (R326). -/
def State.stopUnits (s : State) : State :=
  let s := ((List.range 32).foldl (fun s n => s.abortJobsOf (8 + n)) s).dropParked stTamperAbort (fun _ => true) false
  let runs := s.sl.runs
  let digs := s.dig.runs
  let s := { s with sl := { s.sl with runs := [], pipe := [], fills := [] }, dig := { s.dig with runs := [] } }
  let s := runs.foldl (fun s r => s.failRun r stTamperAbort) s
  let s := digs.foldl (fun s r => s.postReply (r.h.fail stTamperAbort r.h.cycles.toNat)) s
  let restores (g : GenWrite) : Bool := !g.keyed
  let s := ((s.dropWrites restores).abortTaken restores).abortPackets [4, 6]
  ((s.sync 14).sync 17).writeDue.endCardOp stTamperAbort

/-! ## Erasures (R326, R327, R336, R337) -/

/-- A Skein port's link key is erased and it goes down as in a link failure. -/
def State.dropLink (s : State) (w : Port) : State := if (s.port w).st = .down then s else linkFailureEvent w s

/-- A spindle with its operand memory and entropy buffer erased. -/
def Spindle.erased (p : Spindle) : Spindle :=
  { p with lane := clearLane, out := Vector.replicate 4 0, keyOp := 0, ent := [] }

/-- The working secrets are erased; slot 1 goes last. -/
def State.eraseSecrets (s : State) : State :=
  let s := { s with
    ks := { s.ks with
      slots := s.ks.slots.keep (fun n _ => n == 1), dmks := [], root := 0, seeded := false, outputs := 0, archiveLoaded := false }
    spn := { s.spn with sp := s.spn.sp.map Spindle.erased }
    sl := { s.sl with ctxs := [], cache := [], evicted := [], fills := [], runs := [], pipe := [], holdBusy := 0, key := 0, restoring := [] }
    dig := { s.dig with runs := [], ctxs := Vector.replicate 64 closedDig } }
  (s.dropLink .east).dropLink .west

/-- SCOUR erases the BBRAM root shares and the mnonce and rewrites the canary. -/
def State.eraseShares (s : State) : State :=
  { s with ks := { s.ks with shares := [], mnonce := none }, tmp := { s.tmp with canary := .scoured } }

/-- The event store keeps 8 records; later events only raise the count (R336). -/
def State.storeEvent (src : BitVec 5) (resp : Nat) (detail : Byte) (backup : Bool) (s : State) : State :=
  let flags := backup.toNat + 2 * (!backup && !s.gctl.ready).toNat + 4 * s.asleep.toNat
  let r : Bytes := [src.setWidth 8, BitVec.ofNat 8 resp, detail, BitVec.ofNat 8 flags] ++ leBytes 4 s.tmp.aotCount.toNat ++
    leBytes 4 s.gctl.time.toNat ++ zeros 4
  if s.tmp.store.length < 8 then { s with tmp := { s.tmp with store := s.tmp.store ++ [BitVec.ofNat 128 (leNat r)] } }
  else { s with tmp := { s.tmp with overflow := satAdd s.tmp.overflow 1 } }

/-! ## A response (R323 to R327, R334) -/

/-- The tamper record: the device-wide flags, and the open group closed as at a boundary (R327). -/
def State.tamperRecord (s : State) : State :=
  let scour := decide (s.tmp.level.toNat = 3)
  let s := if scour && !s.led.scour then s.groupMark else s
  let s := { s with led := { s.led with
    strip := true, scour := s.led.scour || scour, applied := s.led.applied && !(scour && !s.led.scour), group := { s.led.group with force := true } } }
  let s := s.closeGroup
  if s.led.pools.isEmpty then s else s.raise evFrozen

/-- A handover pauses at its next step, or goes on (R345). -/
def State.pauseHandover (on : Bool) (s : State) : State :=
  match s.mss.ho with
  | some k => { s with mss := { s.mss with ho := some { k with paused := on } } }
  | none => s

/-- A response stronger than the level begins. -/
def State.respond (r : Nat) (s : State) : State :=
  let old := s.tmp.level.toNat
  let deep := s.asleep
  let s := ({ s with tmp := { s.tmp with level := BitVec.ofNat 2 r, latched := s.tmp.latched || decide (2 ≤ r) } }).raise evTamper
  let s := (if 2 ≤ r then s.cutHandover else s.pauseHandover true).wake 5
  let s := if old = 0 then s.abortKeyOps else s
  let s := if 2 ≤ r ∧ old < 2 then s.stopUnits else s
  let s := if r = 3 then s.holdMss else s
  let s := if deep && decide (2 ≤ r) then (if r = 3 then s.eraseSecrets.eraseShares else s.eraseSecrets) else s
  if old < 2 then { s with tmp := { s.tmp with stage := .clearing } }
  else if s.tmp.stage = .clearing then s
  else { s.tamperRecord with tmp := { s.tamperRecord.tmp with stage := if s.tmp.stage = .idle then .shares else s.tmp.stage } }

/-- The latch bit of a source (R322). -/
def State.latchOf (s : State) (n : Nat) : Bool := s.tmp.cfg.toNat.testBit (64 + n)

/-- An alarm reaches the controller (R324): it is recorded and logged, and starts a response or escalates one. -/
def State.alarm (src : BitVec 5) (detail : Byte) (s : State) : State :=
  let n := src.toNat
  let r := s.responseOf n
  let s := { s with tmp := { s.tmp with
    fired := setBit s.tmp.fired n true, count := satAdd s.tmp.count 1, lastSource := src, lastDetail := detail
    lastResp := BitVec.ofNat 2 r, dwell := s.tmp.dwell && decide (r = 0) } }
  let s := s.log 0x0010 3 3 [src.setWidth 8, BitVec.ofNat 8 r, detail]
  let s := if 2 ≤ r then s.storeEvent src r detail false else s
  if r ≤ s.tmp.level.toNat then s
  else
    let s := if r = 1 && s.latchOf n then { s with tmp := { s.tmp with latched := true } } else s
    s.respond r

/-- Sources that are not evaluated while the plane supply reset holds the planes (R389). -/
def planeSources : List Nat := [0, 1, 2, 3, 4, 5, 8, 10, 12]

/-- Sources that are not watched in DOZE (R320). -/
def wakeSources : List Nat := [8, 10, 12, 23]

/-- A source is not evaluated: on backup alone, where the backup domain watches for itself (R335), under the plane supply reset, in
DOZE where R320 says so, and the Skein PLL while EN of `SKN_CTL` is 0. -/
def State.unwatched (s : State) (n : Nat) : Bool :=
  s.pwr.st == .backup || (s.pwr.planeLow && planeSources.contains n) || (s.asleep && wakeSources.contains n) || (n == 12 && !s.skn.en)

/-- A monitor alarm (R324): one under test is evaluated at the end of its suppression, one whose condition goes on is one alarm. -/
def alarmEvent (src : BitVec 5) (detail : Byte) (s : State) : State :=
  let n := src.toNat
  if s.tmp.active.getLsbD n || s.unwatched n then s
  else
    let s := { s with tmp := { s.tmp with active := setBit s.tmp.active n true } }
    if s.tmp.testing && s.tmp.tests.head? == some src then { s with tmp := { s.tmp with suppressed := some detail } }
    else s.alarm src detail

/-- The dwell of a HOLD that releases itself begins once no source at HOLD or stronger is active (R329). -/
def State.startDwell (s : State) : State :=
  if s.tmp.level = 1 ∧ !s.tmp.latched ∧ !s.holdSource ∧ !s.tmp.releasing then { s with tmp := { s.tmp with dwell := true } } else s

/-- A source's trip condition stops holding (R328). -/
def inactiveEvent (src : BitVec 5) (s : State) : State :=
  ({ s with tmp := { s.tmp with active := setBit s.tmp.active src.toNat false } }).startDwell

/-- A response has run to its end; the MSS restarts after SCOUR (R326, R327). -/
def State.responseDone (s : State) : State :=
  let s := { s with tmp := { s.tmp with stage := .idle } }
  let s := if s.tmp.level = 3 ∧ s.mss.st = .down then { s with mss := { s.mss with st := .booting } } else s
  s.startDwell

/-- The clears end: HOLD is complete; under STRIP the pools freeze and the tamper record is made (R327). -/
def clearsEndEvent (s : State) : State :=
  if s.tmp.stage ≠ .clearing ∨ !s.coreRuns then s
  else if s.tmp.level.toNat < 2 then s.responseDone
  else { s.tamperRecord with tmp := { s.tamperRecord.tmp with stage := .erasing } }

/-- The secrets are erased. -/
def eraseEvent (s : State) : State :=
  if s.tmp.stage = .erasing then { s.eraseSecrets with tmp := { s.eraseSecrets.tmp with stage := .wipeDue } } else s

/-- The clear pulse of SCOUR ends. -/
def pulseEndEvent (s : State) : State :=
  if s.tmp.level ≠ 3 then s
  else match s.tmp.stage with
    | .wipeDue | .wiping => s.eraseShares
    | .shares => s.eraseShares.responseDone
    | _ => s

/-- The wipe of the context store begins at a frame boundary. -/
def wipeBeginEvent (s : State) : State :=
  if s.tmp.stage = .wipeDue then { s with tmp := { s.tmp with stage := .wiping }, sl := { s.sl with wiping := true } } else s

/-- The wipe ends: slot 1 is erased, the DRAM refreshes itself, and the response is complete, once a SCOUR's pulse has ended. -/
def wipeEndEvent (s : State) : State :=
  if s.tmp.stage ≠ .wiping then s
  else
    let s := { s with sl := { s.sl with wiping := false }, mem := { s.mem with selfRefresh := true } }
    let s := s.emptySlot 1
    if s.tmp.level = 3 ∧ s.tmp.canary ≠ .scoured then { s with tmp := { s.tmp with stage := .shares } } else s.responseDone

/-! ## Release and tests (R328 to R333) -/

/-- Every source. -/
def allSources : List (BitVec 5) := (List.range 25).map (BitVec.ofNat 5)

/-- The tests of a release begin, with the command that asked for it. -/
def State.startRelease (h : Option Held) (s : State) : State :=
  { s with tmp := { s.tmp with
    releasing := true, release := h, dwell := false, tests := allSources, testing := true, testFailed := false } }

/-- The monitor tests of start-up have passed (R400 stage 6). -/
def State.tested (s : State) : Bool := s.pwr.stages.contains 6

/-- Leaving STRIP: the root and the memory keys again, self-refresh ended, the reserved slots reloaded; leaving SCOUR: as a start
that does not retain the DRAM (R330, R331). -/
def State.leaveLevel (before : Nat) (s : State) : State :=
  if before < 2 ∨ !s.gctl.ready then s
  else
    let s := if before = 3 then s.loseDram.seatSaves else s
    let s := s.deriveRoot.deriveMemoryKeys.loadArchive
    { s with mem := { s.mem with selfRefresh := false }, ks := { s.ks with seeded := s.ks.entIn } }

/-- A start-up that a level stopped goes on from the arming step (R333): the tests run again, and what a STRIP erased is made again.
The recovery group carries the flags of that STRIP or SCOUR. -/
def State.restartTests (before : Nat) (s : State) : State :=
  let again : List Nat := if 2 ≤ before then [6, 7, 8, 10, 11] else if s.pwr.stages.contains 7 then [] else [6]
  let s := { s with
    pwr := { s.pwr with stages := s.pwr.stages.filter fun n => !again.contains n }
    led := { s.led with strip := s.led.strip || decide (2 ≤ before), scour := s.led.scour || decide (before = 3) } }
  if s.tested then s else { s with tmp := { s.tmp with tests := allSources, testFailed := false } }

/-- The level is cleared (R329 to R331). A start-up that it stopped takes up its tests again (R333). -/
def State.clearLevel (s : State) : State :=
  let before := s.tmp.level.toNat
  let s := s.leaveLevel before
  let s := { s with
    tmp := { s.tmp with level := 0, latched := false, fired := 0, dwell := false, releasing := false, release := none } }
  let s := s.pauseHandover false
  let s := s.log 0x0012 3 3 [BitVec.ofNat 8 before, 0]
  (if s.gctl.ready then s else s.restartTests before).resumeService

/-- The tests of a release have ended: the level is cleared, or stays in force (R329). -/
def State.endRelease (s : State) : State :=
  let h := s.tmp.release
  if !s.tmp.testFailed && !s.holdSource && s.tmp.stage == .idle then
    let s := s.clearLevel
    match h with | some h => s.postReply { h with inl := 0 } | none => s
  else
    let s := ({ s with tmp := { s.tmp with releasing := false, release := none } }).startDwell
    match h with | some h => s.postReply { h with status := stHoldActive, inl := 0 } | none => s

/-- A release command that waited for the response to end goes on (R329). -/
def State.resumeRelease (s : State) : State :=
  if s.tmp.stage = .idle ∧ s.tmp.release.isSome ∧ !s.tmp.releasing then
    if s.holdSource then s.endRelease else s.startRelease s.tmp.release
  else s

/-- Tests end without a source left: those of a release, or of start-up. -/
def State.testsDone (s : State) : State :=
  if s.tmp.releasing then s.endRelease
  else if !s.gctl.ready && s.pwr.stages.contains 5 && !s.tested && !s.tmp.testFailed && s.tmp.level == 0 then
    { s with pwr := { s.pwr with stages := s.pwr.stages ++ [6] } }
  else s

/-- A source's test begins: the next one due, or, when the period expires, the source after the last one tested (R332). -/
def testStartEvent (s : State) : State :=
  if s.tmp.testing || s.mss.st != .running then s
  else if s.tmp.tests.isEmpty then
    { s with tmp := { s.tmp with testing := true, tests := [BitVec.ofNat 5 ((s.tmp.lastTest.toNat + 1) % 25)] } }
  else { s with tmp := { s.tmp with testing := true } }

/-- A test ends (R332): it is logged; a source whose condition held alarms now; a failure fires source 24; the next test of a
release or of start-up follows. -/
def testEndEvent (pass : Bool) (s : State) : State :=
  match s.tmp.testing, s.tmp.tests with
  | true, src :: rest =>
    let held := s.tmp.suppressed
    let s := { s with tmp := { s.tmp with
      tests := rest, testing := !rest.isEmpty, suppressed := none, lastTest := src
      testFails := if pass then s.tmp.testFails else satAdd s.tmp.testFails 1, testFailed := s.tmp.testFailed || !pass } }
    let s := s.log 0x0011 2 (if pass then 0 else 2) [src.setWidth 8, if pass then 1 else 0]
    let s := match held with
      | some d => if s.tmp.active.getLsbD src.toNat then s.alarm src d else s
      | none => s
    let s := if pass then s else s.alarm 24 (src.setWidth 8)
    if rest.isEmpty then s.testsDone else s
  | _, _ => s

/-- The hold_dwell time passes (R329). -/
def dwellEndEvent (s : State) : State :=
  if s.tmp.dwell && s.tmp.level == 1 && !s.tmp.latched && !s.holdSource && s.tmp.stage == .idle && s.mss.st == .running then
    s.startRelease none
  else s

/-! ## On backup alone (R335 to R337) -/

/-- The sources watched on backup alone (R320). -/
def backupSources : List Nat := [6, 7, 16, 18, 19, 20, 21, 22]

/-- A watched source trips on backup alone: its event is stored; SCOUR erases the shares and is in force at the next start. -/
def backupEvent (src : BitVec 5) (detail : Byte) (s : State) : State :=
  if s.pwr.st ≠ .backup ∨ !backupSources.contains src.toNat then s
  else
    let r := s.responseOf src.toNat
    let s := s.storeEvent src r detail true
    if r = 3 then { s.eraseShares with tmp := { s.eraseShares.tmp with level := 3, latched := true } } else s

/-! ## The rows -/

/-- A monitor alarms. -/
def execTamperAlarm (src : BitVec 5) (detail : Byte) (s : State) : Host.Outcome State Fault Refusal :=
  if src.toNat < 25 then .next (alarmEvent src detail s) else .fault .noSuchUnit

/-- The clears of aborted key operations end. -/
def execTamperClearsEnd (s : State) : Host.Outcome State Fault Refusal := .next (clearsEndEvent s).resumeRelease

/-- The secrets are erased. -/
def execSecretsErase (s : State) : Host.Outcome State Fault Refusal := .next (eraseEvent s)

/-- The clear pulse ends. -/
def execBbramClearPulseEnd (s : State) : Host.Outcome State Fault Refusal := .next (pulseEndEvent s).resumeRelease

/-- The wipe begins. -/
def execContextStoreWipeBegin (s : State) : Host.Outcome State Fault Refusal := .next (wipeBeginEvent s)

/-- The wipe ends. -/
def execContextStoreWipeEnd (s : State) : Host.Outcome State Fault Refusal := .next (wipeEndEvent s).resumeRelease

/-- The dwell of a HOLD passes. -/
def execHoldSelfRelease (s : State) : Host.Outcome State Fault Refusal := .next (dwellEndEvent s)

/-- A built-in test begins. -/
def execBuiltInTestStart (s : State) : Host.Outcome State Fault Refusal := .next (testStartEvent s)

/-- A built-in test ends. -/
def execBuiltInTestEnd (pass : Bool) (s : State) : Host.Outcome State Fault Refusal := .next (testEndEvent pass s)

/-- A watched source trips on backup alone. -/
def execBackupAlarm (src : BitVec 5) (detail : Byte) (s : State) : Host.Outcome State Fault Refusal :=
  if src.toNat < 25 then .next (backupEvent src detail s) else .fault .noSuchUnit

/-- A source's condition ends. -/
def execSourceInactive (src : BitVec 5) (s : State) : Host.Outcome State Fault Refusal :=
  if src.toNat < 25 then .next (inactiveEvent src s) else .fault .noSuchUnit

end Sys2Proof.Machine
end

