-- ==== Sys2Proof/Machine/Managing.lean ====
section
/-! DEFINITION. The management subsystem's shared operations: packets read from frames (R41, R351), the keeper regions of raw
access (R295, R301, R316, R317), image banks and the checks of an image (R361, R362), the boot record (R364), settings (R370),
the shares and fuses of the life cycle (R213, R339). -/

namespace Sys2Proof.Machine

/-! ## Packets and transports -/

/-- `n` bytes of a packet from byte `k`. -/
def packetSlice (p : Packet) (k n : Nat) : Bytes := (List.range n).map fun i => p.byteAt (k + i)

/-- A refusal by the MSS: its part of the cycles is the environment's (R355). -/
def Ctx.denied (x : Ctx) (s : State) (st : BitVec 16) : Out := .stop s st (x.cyc 64)

/-- The most data and result bytes of a transport's raw commands (R357). -/
def rawLimit : Transport → Nat
  | .spi => 4096
  | _ => 1024

/-- Why the keeper die cannot be read now (R312). -/
def State.readStatus (s : State) : Option (BitVec 16) :=
  if s.gctl.recalling || !s.kp.powered then some stRecallBusy else none

/-! ## Regions (R295, R301, R316) -/

/-- A FeRAM region: its offset in a bank and its size. -/
def feRegion (r : Nat) : Option (Nat × Nat) :=
  ([(0, 0x8000), (0x8000, 0x10000), (0x18000, 0x100), (0x18100, 0x1300)] : List (Nat × Nat))[r]?

/-- A flash region: its first sector and its sectors. -/
def flRegion (r : Nat) : Option (Nat × Nat) :=
  if r < 4 then none
  else ([(0, 256), (256, 32), (288, 99), (387, 16), (403, 8), (411, 32)] : List (Nat × Nat))[r - 4]?

/-- The size of a region; none for 10 and 11 and beyond. -/
def regionSize (r : Nat) : Option Nat :=
  match feRegion r, flRegion r with
  | some p, _ => some p.2
  | none, some p => some (65536 * p.2)
  | none, none => none

/-- `n` bytes of a run of sectors. -/
def Keeper.sectorsRead (k : Keeper) (first off n : Nat) : Bytes :=
  (List.range n).map fun i => readByte flBlank k.flash (k.addr (first + (off + i) / 65536) ((off + i) % 65536))

/-- Bytes programmed into a run of sectors (R293, R363). -/
def Keeper.sectorsProgram (k : Keeper) (first off : Nat) (bs : Bytes) : Keeper :=
  let at_ (i : Nat) : Nat := k.addr (first + (off + i) / 65536) ((off + i) % 65536)
  { k with flash := bs.zipIdx.foldl (fun m p => programBytes m (at_ p.2) [p.1]) k.flash }

/-- A region's failures have locked it (R317). -/
def Keeper.lockedRegion (k : Keeper) (r : Nat) : Bool := decide (8 ≤ k.regionFails.get r 0)

/-- The password of a raw command (R357): bytes 46 to 61; for a region 7 write bytes 46–55, 60–63 and the first two data bytes. -/
def rawPassword (p : Packet) (write7 : Bool) (bs : Bytes) : Bytes :=
  if write7 then packetSlice p 46 10 ++ packetSlice p 60 4 ++ slice bs 0 2 else packetSlice p 46 16

/-- The password check (R317): a mismatch counts toward the lock, a match resets the count. -/
def State.passwordOk (r : Nat) (pw : Bytes) (s : State) : State × Bool :=
  if s.kp.lockedRegion r then (s, false)
  else if regionVerifier pw r = s.kp.verifier r then
    ({ s with kp := { s.kp with regionFails := s.kp.regionFails.del r } }, true)
  else ({ s with kp := { s.kp with regionFails := s.kp.regionFails.put r (s.kp.regionFails.get r 0 + 1) } }, false)

/-- A configuration word block as the last write requested for it leaves it (R298). -/
def State.blockNow (s : State) (off : Nat) (dflt : Bytes) : Bytes :=
  let of (r : CuReq) : Option Bytes := match r with | .mss o b _ => if o = off then some b else none | _ => none
  match s.kp.queue.findSome? of with
  | some b => b
  | none => ((s.kp.cu.map Prod.fst).bind of).getD (s.kp.block off dflt)

/-! ## Images (R301, R361, R362) -/

/-- The number of a bank: kind 1 control plane, 2 MSS; bank A, B. -/
def bankNo (kind : Nat) (b : Bool) : Nat := 2 * (kind - 1) + b.toNat

/-- The first sector and the sectors of a bank. -/
def bankSectors (n : Nat) : Nat × Nat := ([(0, 128), (128, 128), (256, 16), (272, 16)] : List (Nat × Nat)).getD n (0, 0)

/-- Bytes of a bank. -/
def Keeper.bankRead (k : Keeper) (n off len : Nat) : Bytes := k.sectorsRead (bankSectors n).1 off len

/-- The fused security version count of a kind. -/
def Life.sv (l : Life) (kind : Nat) : Nat := if kind = 1 then l.cpSv else l.mssSv

/-- The device is one an image's header names (R361). -/
def unitListed (serial : BitVec 64) (h : Bytes) : Bool :=
  let n := ((slice h 17 1).headD 0).toNat
  decide (n = 0) || (List.range (min n 32)).any fun i => leAt h (64 + 8 * i) 8 == serial.toNat

/-- The number of the first check of R362 that an image fails. -/
def State.imageCheck (s : State) (kind : Nat) (b : Bool) : Option Nat :=
  let n := bankNo kind b
  let h := s.kp.bankRead n 0 512
  let u (k : Nat) : Nat := ((slice h k 1).headD 0).toNat
  let len := leAt h 20 4
  if leAt h 0 4 ≠ 0x77401A6E ∨ u 4 ≠ 1 ∨ u 5 ≠ kind ∨ leAt h 6 2 ≠ 512 ∨ 65536 * (bankSectors n).2 < 512 + len then some 1
  else if leAt h 8 4 ≠ 0x774000B1 then some 2
  else if !unitListed s.life.serial h then some 3
  else if u 16 < s.life.sv kind then some 4
  else if digestBytes (sm3 (s.kp.bankRead n 512 len)) ≠ slice h 24 32 then some 5
  else
    let xy := pointAt 256 (beBytes 64 Config.imageKey.toNat)
    if sm2Verify curve0 (sm2E Config.imageKeyZ (slice h 0 448)) (beNat (slice h 448 32)) (beNat (slice h 480 32)) xy.1 xy.2 then none
    else some 6

/-- The release an image carries. -/
def State.imageRelease (s : State) (kind : Nat) (b : Bool) : Running :=
  let h := s.kp.bankRead (bankNo kind b) 0 512
  let u (k : Nat) : Byte := (slice h k 1).headD 0
  { major := u 12, minor := u 13, sv := u 16, schema := BitVec.ofNat 16 (leAt h 18 2), bankB := b }

/-! ## The boot record (R364) -/

def bootKey : Nat := 0x01000000

/-- The payload of the boot record: format, active banks, bank states (notes/assumptions/41.md). -/
def BootRec.bytes (r : BootRec) : Bytes :=
  [1, BitVec.ofNat 8 r.cpB.toNat, BitVec.ofNat 8 r.mssB.toNat] ++ r.states.toList

/-- A boot record read back; as shipped where none is stored. -/
def bootOf (bs : Option Bytes) : BootRec :=
  match bs with
  | some b =>
    let u (k : Nat) : Byte := (slice b k 1).headD 0
    { cpB := u 1 == 1, mssB := u 2 == 1, states := #v[u 3, u 4, u 5, u 6] }
  | none => shippedBoot

/-- A bank's state set. -/
def BootRec.mark (n : Nat) (v : Byte) (r : BootRec) : BootRec := { r with states := r.states.setIfInBounds n v }

/-- The state of a bank. -/
def BootRec.state (r : BootRec) (n : Nat) : Byte := r.states.toList.getD n 0

/-- The bank that is not active for a kind. -/
def BootRec.spare (r : BootRec) (kind : Nat) : Bool := if kind = 1 then !r.cpB else !r.mssB

/-- The other bank of a kind becomes ACTIVE and the one it replaces STAGED (R366 step 9, R368). -/
def BootRec.swap (kind : Nat) (r : BootRec) : BootRec :=
  let b := r.spare kind
  let r := (r.mark (bankNo kind b) 2).mark (bankNo kind !b) 1
  if kind = 1 then { r with cpB := b } else { r with mssB := b }

/-- The boot record written; where the keeper die takes no record now, only its working copy changes (notes/assumptions/41.md). -/
def State.writeBoot (r : BootRec) (s : State) : State :=
  let s := { s with mss := { s.mss with boot := r } }
  if s.nvmStatus.isNone then s.flashNow (configReq bootKey r.bytes) else s

/-! ## Settings (R370) -/

def keySubsystem : Nat := 0x00050000
def keySmbus : Nat := 0x01010000
def keyLimits : Nat := 0x01020000
def keySeverity : Nat := 0x01030000

/-- Default warning limits (R420), low then high for each sensor, in the units of R356. -/
def defaultLimits : List (Int × Int) :=
  let t : Int × Int := if Config.isAF then (-640, 1600) else (0, 1440)
  List.replicate 9 t ++ [(760, 840), (808, 893), (1710, 1890), (760, 840), (2500, 3600), (1140, 1260), (0, 1700)]

/-- A 16-bit number as two bytes, in two's complement. -/
def le16 (v : Int) : Bytes := leBytes 2 (BitVec.ofInt 16 v).toNat

/-- The default value of a setting; none for a key that is no setting. -/
def settingDefault (key : Nat) : Option Bytes :=
  if key = keySubsystem then some [0, 0]
  else if key = keySmbus then some [0x62, 2]
  else if key = keyLimits then some (defaultLimits.flatMap fun p => le16 p.1 ++ le16 p.2)
  else if key = keySeverity then some [2]
  else none

/-- A value lies in its setting's range: a 7-bit address and one of three speeds; a severity of R358. -/
def settingOk (key : Nat) (v : Bytes) : Bool :=
  if key = keySmbus then decide (((slice v 0 1).headD 0).toNat < 128) && decide (((slice v 1 1).headD 0).toNat ≤ 2)
  else if key = keySeverity then decide (((slice v 0 1).headD 0).toNat ≤ 3)
  else true

/-- The SMBus address is that of its setting. -/
def State.applySettings (s : State) : State :=
  let a : Byte := (s.settingBytes keySmbus [0x62, 2]).headD 0
  { s with mss := { s.mss with smbAddr := a.setWidth 7 } }

/-- A sensor's value: temperatures are signed (R356). -/
def sensorValue (i : Nat) (v : BitVec 16) : Int := if i < 9 then v.toInt else v.toNat

/-- The warning limits in force. -/
def State.limits (s : State) : List (Int × Int) :=
  let b := s.settingBytes keyLimits (defaultLimits.flatMap fun p => le16 p.1 ++ le16 p.2)
  let v (i k : Nat) : Int := sensorValue i (BitVec.ofNat 16 (leAt b (4 * i + 2 * k) 2))
  (List.range 16).map fun i => (v i 0, v i 1)

/-! ## Life cycle (R213, R339, R341) -/

/-- The first and the last state in which a root is active. -/
def rootFirst (label : Nat) : Nat := ([0, 0, 1, 2, 4] : List Nat).getD label 0
def rootLast (label : Nat) : Nat := ([0, 0, 1, 3, 4] : List Nat).getD label 0

/-- The shares of roots whose states all lie below the new one are erased (R341 step 4). -/
def State.eraseBelow (n : Nat) (s : State) : State :=
  { s with ks := { s.ks with shares := s.ks.shares.keep fun l _ => decide (n ≤ rootLast l) } }

/-- At a start-up the share of a root whose first state lies above the fused state goes as well (R341). -/
def State.pruneShares (s : State) : State :=
  let n := s.life.count.toNat
  let s := s.eraseBelow n
  { s with ks := { s.ks with shares := s.ks.shares.keep fun l _ => decide (rootFirst l ≤ n) } }

/-- A share is created from the entropy source (R213). -/
def State.makeShare (label : Nat) (s : State) : State :=
  { s with ks := { s.ks with shares := s.ks.shares.put label s.draw } }.drawn 1

/-- The responses of a configuration, with those below their floors raised to them (R320, R339). -/
def raisedResponses (cfg : Nat) : List Nat := (List.range 25).map fun n => max (bitsAt cfg (2 * n) 2) (responseFloors.getD n 0)

/-- A tamper configuration with other responses, and its check again (R322). -/
def withResponses (cfg : BitVec 512) (rs : List Nat) : BitVec 512 :=
  let b := leBytes 8 (pack2 rs) ++ slice (leBytes 64 cfg.toNat) 8 52
  BitVec.ofNat 512 (leNat (b ++ leBytes 4 (crc32 b).toNat))

/-- The fuses are blown to a new count: shares of ended roots go, IN_SERVICE raises the responses (R339, R341). -/
def State.blow (n : Nat) (s : State) : State :=
  let s := ({ s with life := { s.life with count := BitVec.ofNat 3 n } }).eraseBelow n
  if n = 3 then { s with tmp := { s.tmp with cfg := withResponses s.tmp.cfg (raisedResponses s.tmp.cfg.toNat) } } else s

/-- The planes are to be reset as `SYS_RST#` does (R341 step 5), 100,000 mcyc from now (R355). -/
def State.planReset (s : State) : State := { s with life := { s.life with resetDue := true } }

end Sys2Proof.Machine
end

