-- ==== Sys2Proof/Machine/Management.lean ====
section
/-! DEFINITION. The management opcodes, class 0x0A but for `UNIT_SERVICE` and the firmware ones (R316, R317, R319, R322, R329,
R339 to R344, R355 to R358, R370). -/

namespace Sys2Proof.Machine

/-! ## Sensors, log, challenge -/

/-- `SENSOR_READ`. -/
def sensorReadBody (x : Ctx) (s : State) : Out :=
  { s, cyc := x.cyc 64, result := s.mss.sensors.toList.flatMap fun v => leBytes 2 v.toNat }

/-- The event log records held, oldest first (R358). -/
def Keeper.logRecords (k : Keeper) : List Bytes := (k.log.used.flatMap k.frames').map (·.payload)

/-- `LOG_READ`: at most `count` records from the first sequence given, or from the oldest held. -/
def logReadBody (x : Ctx) (s : State) : Out :=
  let p := x.c.pkt
  match s.readStatus with
  | some st => x.denied s st
  | none =>
    let rs := (s.kp.logRecords.filter fun r => decide (p.field 32 8 ≤ leAt r 0 8)).take (p.byteAt 40).toNat
    { s, cyc := x.cyc 64, result := rs.flatten, inl := BitVec.ofNat 64 ((rs.head?.map fun r => leAt r 0 8).getD 0) }

/-- `CHALLENGE` (R340). -/
def challengeBody (x : Ctx) (s : State) : Out :=
  let v : BitVec 128 := s.draw.setWidth 128
  { s := ({ s with life := { s.life with challenge := some v } }).drawn 1, cyc := x.cyc 64, result := leBytes 16 v.toNat }

/-! ## Life cycle (R339 to R341) -/

/-- Who authorises a transition: some true the owner, some false the vendor. -/
def transitionBy (from_ dst : Nat) : Option Bool :=
  if (from_ = 2 ∧ (dst = 3 ∨ dst = 5)) ∨ (from_ = 3 ∧ (dst = 4 ∨ dst = 5)) then some true
  else if (from_ = 1 ∨ from_ = 4) ∧ dst = 5 then some false
  else none

/-- The public key and Z that an authorisation is verified with: that of slot 2, or the vendor service key. -/
def State.authority (s : State) (owner : Bool) : State × Option ((Nat × Nat) × Digest) :=
  if owner then
    match s.readSlot 2 with
    | (s, .ok k) => (s, some (k.point 256, k.z))
    | (s, .error _) => (s, none)
  else (s, some (pointAt 256 (beBytes 64 Config.vendorKey.toNat), Config.vendorKeyZ))

/-- What an authorisation signs after Z (R340). -/
def authMessage (s : State) (dst : Byte) (challenge : BitVec 128) : Bytes :=
  [0x4C] ++ leBytes 8 s.life.serial.toNat ++ [dst] ++ leBytes 16 challenge.toNat

/-- Steps 2 to 4 of a transition, its log record, and step 5 planned. -/
def State.transition (dst : Nat) (s : State) : State :=
  let from_ := s.life.count
  let s := if dst = 4 then s.makeShare 4 else s
  ((s.blow dst).log 0x0017 2 3 [from_.setWidth 8, BitVec.ofNat 8 dst]).planReset

/-- `LIFECYCLE`. -/
def lifecycleBody (x : Ctx) (s : State) : Out :=
  let dst := x.c.pkt.byteAt 32
  withData x s fun bs =>
    match transitionBy s.life.count.toNat dst.toNat, s.life.challenge with
    | some owner, some ch =>
      let s := { s with life := { s.life with challenge := none } }
      match s.authority owner with
      | (s, none) => x.denied s stLifecycleDenied
      | (s, some (q, z)) =>
        let e := sm2E z (authMessage s dst ch)
        if !sm2Verify curve0 e (beNat (slice bs 0 32)) (beNat (slice bs 32 32)) q.1 q.2 then x.denied s stLifecycleDenied
        else if s.holding then x.denied s stTamperAbort
        else { s := s.transition dst.toNat, cyc := x.cyc 64, inl := inlAt 0 dst.toNat }
    | _, _ => x.denied s stLifecycleDenied

/-! ## Enrolment (R342 to R344) -/

/-- Step 1 of R343: what the package must be. -/
def packageOk (s : State) (bs : Bytes) : Bool :=
  let u (k : Nat) : Nat := ((slice bs k 1).headD 0).toNat
  let q := pointAt 256 (slice bs 28 64)
  let z := sm2Z curve0 (slice bs 108 (u 1)) q.1 q.2
  decide (u 0 = 1) && decide (u 1 ≤ 32) && decide (leAt bs 2 2 = 224) && decide (leAt bs 4 8 = s.life.serial.toNat) &&
  (s.life.challenge.any fun c => leBytes 16 c.toNat == slice bs 12 16) && onCurve curve0 q.1 q.2 &&
  sm2Verify curve0 (sm2E z (slice bs 0 160)) (beNat (slice bs 160 32)) (beNat (slice bs 192 32)) q.1 q.2 &&
  s.life.ownerHash.all fun h => h == sm3 (slice bs 28 64)

/-- The blob of a reserved key is archived and its slot filled from it (R219, R225). -/
def State.archiveKey (root : BitVec 256) (n : Nat) (typ : Byte) (q : Parent) (lin : BitVec 16 × BitVec 32) (material id : Bytes)
    (s : State) : State :=
  let h := blobFor typ (reservedUsage n) (if typ = 6 then 0 else 0xFF) id.length q lin.1 lin.2 (s.draw.setWidth 96)
  let b := wrapBlob q.wk h id material ++ id
  ((s.drawn 1).flashNow (archiveReq (archiveSlot n) b)).loadReserved root n b

/-- A secret of 32 bytes is drawn and archived under DMK_0. -/
def State.archiveSecret (root : BitVec 256) (n : Nat) (lin : BitVec 16 × BitVec 32) (s : State) : State :=
  match s.dmkParent 0 with
  | some q => ((s.drawn 1).archiveKey root n 3 q lin (digestBytes s.draw) [])
  | none => s

/-- FPK under a lineage of its own, the lowest free entry, so that `KEY_REPLACE` of slot 5 can be asked for (R108, R219; the manual does
not say which lineage it has: DESIGN CHOICE, notes/assumptions/83.md). -/
def State.archiveFpk (root : BitVec 256) (s : State) : State :=
  match s.freeEntry with
  | none => s.archiveSecret root 5 (0, 0)
  | some e =>
    let g := s.gen e
    let s := s.archiveSecret root 5 (BitVec.ofNat 16 e, g.gen)
    s.genWrite { entry := e, val := { g with kind := 3, dom := 0, kcv := ((s.slot 5).map (·.attr.kcv)).getD 0 }, check := none
                 what := .nothing, after := [] }

/-- The root level as parent (R218, R225). -/
def rootParent (root : BitVec 256) : Parent := { num := 0xFFFF, gen := 0, wk := wrapKey (digestBytes root) 0xFFFF 0 }

/-- The owner root goes into slot 0, whatever the fuses still say. -/
def State.deriveOwner (s : State) : State :=
  match s.ks.shares.find 3 with
  | some b =>
    let s := s.putSlot 0 (s.newSlot .valid (wide (rootFrom s.ks.fuse b 3)) 0 0 rootAttr)
    { s with ks := { s.ks with root := 3 } }
  | none => s

/-- Step 3 of R343: the owner root, slots 2 and 4, DMK_0, JK and FPK, and their archive. -/
def State.installOwner (bs : Bytes) (s : State) : State :=
  let s := s.deriveOwner
  match s.rootKey with
  | none => s
  | some root =>
    let id := slice bs 108 ((slice bs 1 1).headD 0).toNat
    let s := s.archiveKey root 2 6 (rootParent root) (0, 0) (slice bs 28 64) id
    let s := s.archiveKey root 4 1 (rootParent root) (0, 0) (slice bs 92 16) []
    let s := ((s.drawn 1).installDmk 0 s.draw root).1
    let s := (s.archiveSecret root 3 (0, 0)).archiveFpk root
    { s with ks := { s.ks with archiveLoaded := true }, ru := { s.ru with reg := { s.ru.reg with fpkSlot := 5 } } }
/-- The journal starts at sequence 1 under the new JK: its start is committed at once, so that the reset of step 5 finds it
(notes/assumptions/42.md). -/
def State.startJournal (s : State) : State :=
  let s := { s with ru := { s.ru with jrn := { s.ru.jrn with
    seq := 0, head := s.chainStart, ack := 0, unwritten := [], written := 0 }, reg := { s.ru.reg with changed := [] } } }
  ({ s with led := { s.led with group := { s.led.group with force := true } } }).closeGroup

/-- `ENROL`. -/
def enrolBody (x : Ctx) (s : State) : Out :=
  let n := s.life.count.toNat
  let again := (n = 2 ∨ n = 3) ∧ s.ks.shares.find 3 = none
  withData x s fun bs =>
    match s.nvmStatus with
    | some st => x.denied s st
    | none =>
      if !(decide (n = 1) || decide again) || (decide again && s.life.ownerHash.isNone) then x.denied s stLifecycleDenied
      else
        let ok := packageOk s bs
        let s := { s with life := { s.life with challenge := none } }
        if !ok then x.denied s stLifecycleDenied
        else if s.holding then x.denied s stTamperAbort
        else
          let s := s.makeShare 3
          let s := { s with life := { s.life with ownerHash := some (sm3 (slice bs 28 64)) } }
          let s := s.installOwner bs
          let s := if n = 1 then ((s.blow 2).log 0x0017 2 3 [1, 2]).planReset else s
          let s := ({ s with tmp := { s.tmp with canary := .valid } }).startJournal
          let kcv := ((s.slot 3).map fun k => k.attr.kcv.toNat).getD 0
          { s, cyc := x.cyc 64, inl := inlAt 0 kcv }

/-! ## Tamper configuration and release (R322, R329) -/

/-- `TAMPER_CONFIG` op 0. -/
def tamperReadBody (x : Ctx) (s : State) : Out := { s, cyc := x.cyc 64, result := leBytes 64 s.tmp.cfg.toNat }

/-- The checks of a configuration that come before the life-cycle checks (R322). -/
def tamperRecordOk (bs : Bytes) : Bool :=
  let t (k : Nat) : Int := ((slice bs k 1).headD 0).toInt
  decide (leAt bs 60 4 = (crc32 (slice bs 0 60)).toNat) && decide (defaultTemps.1.toInt ≤ t 17) &&
  decide (t 18 ≤ defaultTemps.2.toInt) && decide (t 17 < t 18) && (slice bs 19 1).headD 0 != 0

/-- A configuration lowers a response, clears a latch bit, loosens a limit or shortens a filter of another. -/
def weakens (old new : Bytes) : Bool :=
  let t (bs : Bytes) (k : Nat) : Int := ((slice bs k 1).headD 0).toInt
  ((List.range 25).any fun n => decide (bitsAt (leAt new 0 8) (2 * n) 2 < bitsAt (leAt old 0 8) (2 * n) 2)) ||
  ((List.range 25).any fun n => (leAt old 8 4).testBit n && !(leAt new 8 4).testBit n) ||
  decide (t new 17 < t old 17) || decide (t old 18 < t new 18) ||
  (([13, 14, 15, 16] : List Nat).any fun k => decide (leAt new k 1 < leAt old k 1))

/-- A configuration has a response below its floor. -/
def belowFloor (bs : Bytes) : Bool :=
  (List.range 25).any fun n => decide (bitsAt (leAt bs 0 8) (2 * n) 2 < responseFloors.getD n 0)

/-- The record as it is stored: its reserved fields read 0 (R10), under a check of their own. -/
def tamperStored (bs : Bytes) : Bytes :=
  let b := leBytes 8 (leAt bs 0 8 % 2 ^ 50) ++ leBytes 4 (leAt bs 8 4 % 2 ^ 25) ++ leBytes 1 (leAt bs 12 1 % 16) ++ slice bs 13 9 ++ zeros 38
  b ++ leBytes 4 (crc32 b).toNat

/-- `TAMPER_CONFIG` op 1. IN_SERVICE and SPENT take no weaker configuration (R322, R338), IN_SERVICE none below a floor. -/
def tamperWriteBody (x : Ctx) (s : State) : Out :=
  withData x s fun bs =>
    if !tamperRecordOk bs then x.denied s stBadParameter
    else if (s.life.count = 3 || s.life.count = 5) && weakens (leBytes 64 s.tmp.cfg.toNat) bs ||
        s.life.count = 3 && belowFloor bs then x.denied s stLifecycleDenied
    else { s := { s with tmp := { s.tmp with cfg := BitVec.ofNat 512 (leNat (tamperStored bs)) } }, cyc := x.cyc 64 }

/-- `TAMPER_RELEASE`: at level 0 nothing; while a source is active, `STATUS_HOLD_ACTIVE`; else the tests, once a response that
runs has ended. -/
def tamperReleaseBody (x : Ctx) (s : State) : Out :=
  let h := x.held 0 (x.cyc 64) 0 []
  if s.tmp.level = 0 then { s, cyc := x.cyc 64 }
  else if s.holdSource then x.denied s stHoldActive
  else if s.tmp.stage ≠ .idle then { s := { s with tmp := { s.tmp with release := some h } }, cyc := 64, when_ := .later }
  else if s.tmp.releasing then { s := { s with tmp := { s.tmp with release := some h } }, cyc := 64, when_ := .later }
  else { s := s.startRelease (some h), cyc := 64, when_ := .later }

/-! ## Raw access (R316, R317, R357) -/

/-- What refuses a raw command before its password is looked at: the region, a write outside its states, recall. -/
def rawRefusal (s : State) (r : Nat) (write : Bool) : Option (BitVec 16) :=
  let writable := (r = 3 ∨ r = 7) ∧ (s.life.count = 0 ∨ s.life.count = 4)
  firstFail
    [((regionSize r).isSome, stBadParameter), (!write || decide writable, stLifecycleDenied),
     (s.readStatus.isNone, stRecallBusy)]

/-- The bank, offset and length of a raw command are in range. -/
def rawRangeOk (x : Ctx) (r : Nat) : Bool :=
  let p := x.c.pkt
  let n := p.field 44 2
  decide (1 ≤ n) && decide (n ≤ rawLimit x.c.via) && decide ((p.byteAt 33).toNat ≤ 2 ∨ 4 ≤ r) &&
  (regionSize r).any fun size => decide (p.field 36 4 + n ≤ size)

/-- What a raw read answers: bank 0's bytes for both, unless the banks differ. -/
def State.rawBytes (s : State) (r bank off n : Nat) : Except (BitVec 16) Bytes :=
  match feRegion r, flRegion r with
  | some (base, _), _ =>
    let a := s.kp.feRead false (base + off) n
    let b := s.kp.feRead true (base + off) n
    if bank = 1 then .ok b else if bank = 2 ∧ a ≠ b then .error stMirrorConflict else .ok a
  | none, some (first, _) => .ok (s.kp.sectorsRead first off n)
  | none, none => .error stBadParameter

/-- `NVM_RAW_READ`. -/
def rawReadBody (x : Ctx) (s : State) : Out :=
  let p := x.c.pkt
  let r := (p.byteAt 32).toNat
  match rawRefusal s r false with
  | some st => x.denied s st
  | none =>
    match s.passwordOk r (rawPassword p false []) with
    | (s, false) => x.denied s stPassword
    | (s, true) =>
      if !rawRangeOk x r then x.denied s stBadParameter
      else match s.rawBytes r (p.byteAt 33).toNat (p.field 36 4) (p.field 44 2) with
        | .error st => x.denied s st
        | .ok bs => { s, cyc := x.cyc 64, result := bs }

/-- A raw write of region 3 is one record of R298: 8 to 128 bytes, aligned to 8, in two consecutive pages. -/
def mssRecordOk (off n : Nat) : Bool :=
  decide (8 ≤ n ∧ n ≤ 128 ∧ n % 8 = 0 ∧ off % 8 = 0 ∧ (off + n - 1) / 64 ≤ off / 64 + 1)

/-- `NVM_RAW_WRITE`: region 3 as an MSS record, region 7 as a frame. -/
def rawWriteBody (x : Ctx) (s : State) : Out :=
  let p := x.c.pkt
  let r := (p.byteAt 32).toNat
  withData x s fun bs =>
    match rawRefusal s r true with
    | some st => x.denied s st
    | none =>
      match s.passwordOk r (rawPassword p (r == 7) bs) with
      | (s, false) => x.denied s stPassword
      | (s, true) =>
        if r = 7 then
          match s.nvmStatus with
          | some st => x.denied s st
          | none =>
            if bs.length < 2 ∨ rawLimit x.c.via < bs.length then x.denied s stBadParameter
            else { s := s.flashNow (configReq (p.field 56 4) (bs.drop 2)), cyc := x.cyc 64 }
        else
          let off := 0x18100 + p.field 36 4
          if !rawRangeOk x r || !mssRecordOk off bs.length then x.denied s stBadParameter
          else { s := s.mssWrite off bs [.reply (x.held 0 (x.cyc 64) 0 [])], cyc := 64, when_ := .later }

/-- `NVM_PASSWORD_SET`: the new verifier goes into its block (R296). -/
def passwordSetBody (x : Ctx) (s : State) : Out :=
  let p := x.c.pkt
  let r := (p.byteAt 32).toNat
  withData x s fun bs =>
    match rawRefusal s r false with
    | some st => x.denied s st
    | none =>
      match s.passwordOk r (rawPassword p false []) with
      | (s, false) => x.denied s stPassword
      | (s, true) =>
        let q := r / 3
        let old := s.blockNow (verifierOff q) (defaultVerifiers q)
        let new := wordBlock (writeAt old (16 * (r % 3)) (regionVerifier (slice bs 0 16) r))
        { s := s.mssWrite (verifierOff q) new [.reply (x.held 0 (x.cyc 64) 0 [])], cyc := 64, when_ := .later }

/-! ## Keeper status (R319) -/

/-- The bits of a list of flags, first at bit 0. -/
def bitsOf : List Bool → Nat
  | [] => 0
  | b :: rest => b.toNat + 2 * bitsOf rest

/-- The keeper status record. -/
def State.keeperRecord (s : State) : Bytes :=
  let k := s.kp
  let ring (i n : Nat) : Bytes := leBytes n (k.ringValue i)
  let locked := bitsOf ((List.range 12).map k.lockedRegion)
  [BitVec.ofNat 8 (bitsOf [s.gctl.recalling, k.tripped, s.led.waiting.isSome, k.erase.any (·.2)]), BitVec.ofNat 8 locked,
   BitVec.ofNat 8 (locked / 256), BitVec.ofNat 8 (32 - k.replaced.length)] ++
  ring 0 4 ++ ring 1 4 ++ ring 2 4 ++ ring 3 4 ++
  leBytes 4 k.feCorrected ++ leBytes 4 k.feRepaired ++ leBytes 4 k.flRelocated ++
  leBytes 2 k.log.blank.length ++ leBytes 2 k.config.blank.length ++ leBytes 2 k.archive.blank.length ++ zeros 2 ++
  leBytes 8 k.log.frameSeq ++ leBytes 8 k.config.frameSeq ++ leBytes 8 ((k.erases.map Prod.snd).foldl max 0)

/-- `KEEPER_STATUS`. -/
def keeperStatusBody (x : Ctx) (s : State) : Out := { s, cyc := x.cyc 64, result := s.keeperRecord }

/-! ## Settings (R370) -/

/-- The schema under which the running MSS image writes records. -/
def State.schema (s : State) : Nat := match s.mss.mss with | some r => r.schema.toNat | none => 0

/-- `SETTING` op 0. -/
def settingGetBody (x : Ctx) (s : State) : Out :=
  let key := x.c.pkt.field 36 4
  match s.readStatus, settingDefault key with
  | some st, _ => x.denied s st
  | none, none => x.denied s stBadParameter
  | none, some d => { s, cyc := x.cyc 64, result := s.settingBytes key d }

/-- `SETTING` op 1. -/
def settingSetBody (x : Ctx) (s : State) : Out :=
  let key := x.c.pkt.field 36 4
  withData x s fun bs =>
    match s.nvmStatus, settingDefault key with
    | some st, _ => x.denied s st
    | none, none => x.denied s stBadParameter
    | none, some d =>
      if bs.length ≠ d.length then x.denied s stBadLength
      else if !settingOk key bs then x.denied s stBadParameter
      else { s := (s.flashNow (configReq key (leBytes 2 s.schema ++ bs))).applySettings, cyc := x.cyc 64 }

/-- `SETTING` op 2: the record is deleted. -/
def settingDefaultBody (x : Ctx) (s : State) : Out :=
  let key := x.c.pkt.field 36 4
  match s.nvmStatus, settingDefault key with
  | some st, _ => x.denied s st
  | none, none => x.denied s stBadParameter
  | none, some _ =>
    { s := (if (s.kp.records.find key).isSome then s.flashNow (configReq key []) else s).applySettings, cyc := x.cyc 64 }

/-! ## The rows -/

/-- `SENSOR_READ`. -/
def execSensorRead (c : Cmd) (s : State) : Host.Outcome State Fault Refusal := .next (runOp 0x0A01 none sensorReadBody c s)

/-- `LOG_READ`. -/
def execLogRead (c : Cmd) (s : State) : Host.Outcome State Fault Refusal := .next (runOp 0x0A02 none logReadBody c s)

/-- `CHALLENGE`. -/
def execChallenge (c : Cmd) (s : State) : Host.Outcome State Fault Refusal := .next (runOp 0x0A03 none challengeBody c s)

/-- `LIFECYCLE`. -/
def execLifecycle (c : Cmd) (s : State) : Host.Outcome State Fault Refusal := .next (runOp 0x0A04 none lifecycleBody c s)

/-- `ENROL`. -/
def execEnrol (c : Cmd) (s : State) : Host.Outcome State Fault Refusal := .next (runOp 0x0A06 none enrolBody c s)

/-- `TAMPER_CONFIG` op 0. -/
def execTamperConfigRead (c : Cmd) (s : State) : Host.Outcome State Fault Refusal :=
  .next (runOp 0x0A07 (some 0) tamperReadBody c s)

/-- `TAMPER_CONFIG` op 1. IN_SERVICE and SPENT take no weaker configuration (R322, R338), IN_SERVICE none below a floor. -/
def execTamperConfigWrite (c : Cmd) (s : State) : Host.Outcome State Fault Refusal :=
  .next (runOp 0x0A07 (some 1) tamperWriteBody c s)

/-- `TAMPER_RELEASE`. -/
def execTamperRelease (c : Cmd) (s : State) : Host.Outcome State Fault Refusal :=
  .next (runOp 0x0A08 none tamperReleaseBody c s)

/-- `NVM_RAW_READ`. -/
def execNvmRawRead (c : Cmd) (s : State) : Host.Outcome State Fault Refusal := .next (runOp 0x0A09 none rawReadBody c s)

/-- `NVM_RAW_WRITE`. -/
def execNvmRawWrite (c : Cmd) (s : State) : Host.Outcome State Fault Refusal := .next (runOp 0x0A0A none rawWriteBody c s)

/-- `NVM_PASSWORD_SET`. -/
def execNvmPasswordSet (c : Cmd) (s : State) : Host.Outcome State Fault Refusal :=
  .next (runOp 0x0A0B none passwordSetBody c s)

/-- `KEEPER_STATUS`. -/
def execKeeperStatus (c : Cmd) (s : State) : Host.Outcome State Fault Refusal :=
  .next (runOp 0x0A0C none keeperStatusBody c s)

/-- `SETTING` op 0. -/
def execSettingGet (c : Cmd) (s : State) : Host.Outcome State Fault Refusal :=
  .next (runOp 0x0A10 (some 0) settingGetBody c s)

/-- `SETTING` op 1. -/
def execSettingSet (c : Cmd) (s : State) : Host.Outcome State Fault Refusal :=
  .next (runOp 0x0A10 (some 1) settingSetBody c s)

/-- `SETTING` op 2. -/
def execSettingDefault (c : Cmd) (s : State) : Host.Outcome State Fault Refusal :=
  .next (runOp 0x0A10 (some 2) settingDefaultBody c s)

end Sys2Proof.Machine
end

