-- ==== Sys2Proof/Machine/Firmware.lean ====
section
/-! DEFINITION. Firmware staging, activation and status (R361 to R365), the hitless handover (R366, R367), the boot and the
self-update of the MSS (R348, R368), its watchdog (R396). -/

namespace Sys2Proof.Machine

/-! ## Staging (R363) -/

/-- The bytes a bank holds. -/
def bankSize (n : Nat) : Nat := 65536 * (bankSectors n).2

/-- A sector of the bank could be neither erased nor replaced (R307). -/
def Keeper.bankBad (k : Keeper) (n : Nat) : Bool :=
  k.failedSectors.any fun v => decide ((bankSectors n).1 ≤ v) && decide (v < (bankSectors n).1 + (bankSectors n).2)

/-- The sectors of a bank are erased. -/
def Keeper.eraseBank (k : Keeper) (n : Nat) : Keeper :=
  (List.range (bankSectors n).2).foldl (fun k i => k.eraseSector ((bankSectors n).1 + i)) k

/-- The kinds of image: 1 control plane, 2 MSS (R361). -/
def kindOk (kind : Nat) : Bool := kind == 1 || kind == 2

/-- Begin. -/
def stageBeginBody (x : Ctx) (s : State) : Out :=
  let kind := (x.c.pkt.byteAt 33).toNat
  let b := s.mss.boot.spare kind
  let n := bankNo kind b
  match s.nvmStatus with
  | some st => x.denied s st
  | none =>
    if !kindOk kind || s.mss.staging.isSome || (kind == 1 && s.mss.ho.isSome) || s.kp.bankBad n then x.denied s stBadParameter
    else
      let before := s.kp.eraseCount
      let s := ({ s with kp := s.kp.eraseBank n }).noteErases before
      let s := s.writeBoot (s.mss.boot.mark n 0)
      let t : Staging := { kind := BitVec.ofNat 8 kind, bankB := b, next := 0, via := x.c.via }
      { s := { s with mss := { s.mss with staging := some t } }, cyc := x.cyc 64 }

/-- The staging session that a packet belongs to: its kind and its transport. -/
def State.session (s : State) (x : Ctx) : Option Staging :=
  s.mss.staging.filter fun t => t.kind == x.c.pkt.byteAt 33 && t.via == x.c.via

/-- Chunk: in order, and a length that is no multiple of 256 is the last. -/
def stageChunkBody (x : Ctx) (s : State) : Out :=
  withData x s fun bs =>
    match s.nvmStatus, s.session x with
    | some st, _ => x.denied s st
    | none, none => x.denied s stBadParameter
    | none, some t =>
      let n := bankNo t.kind.toNat t.bankB
      if x.c.pkt.field 36 4 ≠ t.next ∨ t.next % 256 ≠ 0 ∨ bankSize n < t.next + bs.length then x.denied s stBadParameter
      else
        let k := s.kp.sectorsProgram (bankSectors n).1 t.next bs
        { s := { s with kp := k, mss := { s.mss with staging := some { t with next := t.next + bs.length } } }, cyc := x.cyc 64 }

/-- End. -/
def stageEndBody (x : Ctx) (s : State) : Out :=
  match s.nvmStatus, s.session x with
  | some st, _ => x.denied s st
  | none, none => x.denied s stBadParameter
  | none, some t =>
    let n := bankNo t.kind.toNat t.bankB
    if x.c.pkt.field 36 4 ≠ t.next then x.denied s stBadParameter
    else
      let s := { s with mss := { s.mss with staging := none } }
      let s := s.writeBoot (s.mss.boot.mark n 1)
      { s := s.log 0x0040 2 0 ([t.kind, BitVec.ofNat 8 t.bankB.toNat] ++ leBytes 4 t.next), cyc := x.cyc 64 }

/-- Abandon: the bank stays EMPTY. -/
def stageAbandonBody (x : Ctx) (s : State) : Out :=
  match s.session x with
  | none => x.denied s stBadParameter
  | some _ => { s := { s with mss := { s.mss with staging := none } }, cyc := x.cyc 64 }

/-! ## Status (R364) -/

/-- The entry of a bank, from its unchecked header. -/
def Keeper.bankEntry (k : Keeper) (n : Nat) : Bytes :=
  let h := k.bankRead n 0 32
  slice h 12 2 ++ slice h 16 1 ++ slice h 14 2

/-- `FW_STATUS`. -/
def fwStatusBody (x : Ctx) (s : State) : Out :=
  match s.readStatus with
  | some st => x.denied s st
  | none =>
    let r := s.mss.boot
    let step : Byte := (s.mss.ho.map fun h => BitVec.ofNat 8 h.step).getD s.mss.hoStep
    let outcome : Byte := if s.mss.ho.isSome then 0 else s.mss.hoOutcome
    let bs := [BitVec.ofNat 8 r.cpB.toNat, BitVec.ofNat 8 r.mssB.toNat] ++ r.states.toList ++
      (List.range 4).flatMap s.kp.bankEntry ++ [BitVec.ofNat 8 s.life.cpSv, BitVec.ofNat 8 s.life.mssSv, step, outcome] ++
      zeros 32 ++ leBytes 2 s.mss.discarded.toNat
    { s, cyc := x.cyc 64, result := bs }

/-! ## Handover (R366, R367) -/

/-- Every core of a set is idle. -/
def State.setIdle (s : State) (b : Bool) : Bool :=
  (List.range 8).all fun i => s.queues.all fun p => p.2.inflight.all fun f => !f.holds (8 * b.toNat + i)

/-- The handover that runs, at another step. -/
def State.toStep (k : Handover) (n : Nat) (s : State) : State := { s with mss := { s.mss with ho := some { k with step := n } } }

/-- All slices on one set. -/
def allSlices (b : Bool) : BitVec 256 := if b then BitVec.allOnes 256 else 0

/-- `FW_ACTIVATE` op 0: steps 1 and 2. -/
def handoverBody (x : Ctx) (s : State) : Out :=
  let r := s.mss.boot
  if r.state (bankNo 1 (r.spare 1)) ≠ 1 ∨ s.mss.ho.isSome then x.denied s stBadParameter
  else
    let k : Handover :=
      { step := 3, plan := s.gctl.sliceOwner, failing := 0, back := false, paused := s.holding, h := x.held 0 (x.cyc 64) 0 [] }
    let s := (s.log 0x0042 2 0 [1, 0]).raise evHandover
    { s := ({ s with mss := { s.mss with ho := some k } }).assign 0, cyc := 64, when_ := .later }

/-- A set that drained is checked and loaded: the new bank on the way, the old bank on the way back. A new bank that fails at set
B is REJECTED and set B takes the old bank; one that fails at set A sends both sets back (R367). -/
def setIdleEvent (s : State) : State :=
  match s.mss.ho with
  | none => s
  | some k =>
    let b := k.step == 3
    let waits := k.step == 3 || k.step == 6
    let drained := if k.back then true else b
    if k.paused || !waits || !s.setIdle drained then s
    else if k.back then s.toStep k 4
    else
      let s := s.countIdle false
      match s.imageCheck 1 (s.mss.boot.spare 1) with
      | none => s.toStep k (k.step + 1)
      | some f =>
        let st := if b then stImageRejected else stHandoverAborted
        let k' : Handover := { k with failing := f, back := true, h := { k.h with status := st } }
        let s := if b then s.writeBoot (s.mss.boot.mark (bankNo 1 (s.mss.boot.spare 1)) 3) else s
        s.toStep k' (k.step + 1)

/-- The release that a set loads from a bank; none where the bank fails its checks. -/
def State.loaded (s : State) (b : Bool) : Option Running :=
  match s.imageCheck 1 b with
  | none => some (s.imageRelease 1 b)
  | some _ => none

/-- A set has loaded its image (R366 steps 4, 5, 7 to 10; R367). -/
def setLoadedEvent (s : State) : State :=
  match s.mss.ho with
  | none => s
  | some k =>
    let old := s.mss.boot.cpB
    if k.paused || !(k.step == 4 || k.step == 7) then s
    else if k.back then
      if k.step = 7 then ((s.setImage false (s.loaded old)).assign (allSlices false)).toStep k 6
      else
        let s := (s.setImage true (s.loaded old)).assign k.plan
        s.endHandover (if k.h.status = stImageRejected then 2 else 3) k.h.status
    else if k.step = 4 then ((s.setImage true (s.loaded !old)).assign (allSlices true)).toStep k 6
    else
      let s := (s.setImage false (s.loaded !old)).assign k.plan
      ((s.writeBoot (s.mss.boot.swap 1)).toStep k 10).endHandover 1 0

/-! ## MSS boot and self-update (R348, R368) -/

/-- An MSS image boots: it is logged, and records of settings whose schema differs are deleted (R370). -/
def State.startMss (b : Bool) (s : State) : State :=
  let r := s.imageRelease 2 b
  let s := { s with mss := { s.mss with st := .running, mss := some r } }
  let old := s.kp.records.filter fun p =>
    decide (0x01010000 ≤ p.1) && decide (p.1 < 0x02000000) && leAt p.2 0 2 != r.schema.toNat
  let s := old.foldl
    (fun s p => (if s.nvmStatus.isNone then s.flashNow (configReq p.1 []) else s).log 0x0043 2 1
      (leBytes 4 p.1 ++ slice p.2 0 2)) s
  s.applySettings

/-- The record of a boot (R359). -/
def State.logBoot (kind set : Byte) (b : Bool) (failing : Option Nat) (s : State) : State :=
  let r := s.imageRelease kind.toNat b
  s.log 0x0041 2 (if failing.isSome then 2 else 0)
    [kind, set, BitVec.ofNat 8 b.toNat, BitVec.ofNat 8 (failing.getD 0), r.major, r.minor]

/-- Posts that found the buffer full are reported once posts are written again (R312, R360). -/
def State.reportLost (s : State) : State :=
  if s.kp.postsLost = 0 || s.gctl.recalling || s.mss.st != .running then s
  else
    let n := s.kp.postsLost
    ({ s with kp := { s.kp with postsLost := 0 } }).log 0x0033 2 1 (leBytes 4 n)

/-- The monitor tests of a start-up are due once the MSS runs (R333, R400). -/
def State.startTests (s : State) : State :=
  if s.gctl.ready || s.tested then s
  else { s with tmp := { s.tmp with tests := allSources, testing := false, testFailed := false } }

/-- Stage 5 of start-up has ended (R400). -/
def State.stage (n : Nat) (s : State) : State :=
  if s.pwr.stages.contains n then s else { s with pwr := { s.pwr with stages := s.pwr.stages ++ [n] } }

/-- The MSS ROM boots the bank that the boot record names, or the other, or stays in ROM-only mode (R348). After a self-update
a bank that fails is REJECTED and the old one active again (R368). -/
def mssBootEvent (s : State) : State :=
  if s.mss.st ≠ .booting ∨ (s.gctl.recalling ∧ s.kp.stage < 5) ∨ !s.kp.powered then s
  else
    let r := bootOf (s.kp.records.find bootKey)
    let s := { s with mss := { s.mss with boot := r } }
    let first := s.imageCheck 2 r.mssB
    let s := (s.logBoot 2 2 r.mssB first)
    match first with
    | none => (((s.startMss r.mssB).stage 5).startTests).reportLost.resumeService
    | some f =>
      let s := { s with mss := { s.mss with rebootCheck := f } }
      let s := if s.mss.update then
          let back := (r.mark (bankNo 2 r.mssB) 3).mark (bankNo 2 !r.mssB) 2
          s.writeBoot { back with mssB := !r.mssB }
        else s
      let second := s.imageCheck 2 (!r.mssB)
      let s := s.logBoot 2 2 (!r.mssB) second
      match second with
      | none => (((s.startMss !r.mssB).stage 5).startTests).reportLost.resumeService
      | some _ => { s with mss := { s.mss with st := .romOnly } }

/-- `FW_ACTIVATE` op 1: the boot record names the STAGED bank and the MSS is reset; on a host queue the reply waits for the bank
it comes up on. -/
def mssRebootBody (x : Ctx) (s : State) : Out :=
  let r := s.mss.boot
  match s.nvmStatus with
  | some st => x.denied s st
  | none =>
    if r.state (bankNo 2 (r.spare 2)) ≠ 1 then x.denied s stBadParameter
    else
      let h := x.held 0 (x.cyc 64) 0 []
      let s := (s.writeBoot (r.swap 2)).resetMss rkMssUpdate
      let reply : Option Held := match x.c.via with | .host => some h | _ => none
      { s := { s with mss := { s.mss with reboot := reply, update := true, rebootCheck := 0 } }, cyc := 64, when_ := .later }

/-- The MSS reports its bank (R368). -/
def rebootDoneEvent (s : State) : State :=
  if !s.mss.update || !(s.mss.st == .running || s.mss.st == .romOnly) then s
  else
    let f := s.mss.rebootCheck
    let h := s.mss.reboot
    let s := { s with mss := { s.mss with update := false, reboot := none } }
    match h with
    | some h => s.postReply { h with status := if f = 0 then 0 else stImageRejected, inl := inlAt 0 f }
    | none => s

/-! ## Security versions (R365) -/

/-- The security version a kind runs: for the control plane that of both sets. -/
def State.runningSv (s : State) (kind : Nat) : Option Nat :=
  if kind = 1 then
    match s.mss.setA, s.mss.setB with
    | some a, some b => if a.sv = b.sv then some a.sv.toNat else none
    | _, _ => none
  else s.mss.mss.map fun r => r.sv.toNat

/-- `FW_ACTIVATE` op 2. -/
def commitSvBody (x : Ctx) (s : State) : Out :=
  let kind := (x.c.pkt.byteAt 33).toNat
  match if kindOk kind then s.runningSv kind else none with
  | none => x.denied s stBadParameter
  | some v =>
    let n := max v (s.life.sv kind)
    let l : Life := if kind = 1 then { s.life with cpSv := n } else { s.life with mssSv := n }
    { s := ({ s with life := l }).log 0x0044 2 1 [BitVec.ofNat 8 kind, BitVec.ofNat 8 n], cyc := x.cyc 64 }

/-! ## The MSS watchdog (R396) -/

/-- The MSS's own watchdog resets it. -/
def mssWatchdogEvent (s : State) : State :=
  if s.mss.st == .running || s.mss.st == .romOnly || s.mss.st == .booting then s.resetMss rkMssWatchdog else s

/-! ## The rows -/

/-- `FW_STAGE` op 0. -/
def execFwStageBegin (c : Cmd) (s : State) : Host.Outcome State Fault Refusal := .next (runOp 0x0A0D (some 0) stageBeginBody c s)

/-- `FW_STAGE` op 1. -/
def execFwStageChunk (c : Cmd) (s : State) : Host.Outcome State Fault Refusal := .next (runOp 0x0A0D (some 1) stageChunkBody c s)

/-- `FW_STAGE` op 2. -/
def execFwStageEnd (c : Cmd) (s : State) : Host.Outcome State Fault Refusal := .next (runOp 0x0A0D (some 2) stageEndBody c s)

/-- `FW_STAGE` op 3. -/
def execFwStageAbandon (c : Cmd) (s : State) : Host.Outcome State Fault Refusal :=
  .next (runOp 0x0A0D (some 3) stageAbandonBody c s)

/-- `FW_ACTIVATE` op 0. -/
def execFwActivateHandover (c : Cmd) (s : State) : Host.Outcome State Fault Refusal :=
  .next (runOp 0x0A0E (some 0) handoverBody c s)

/-- `FW_ACTIVATE` op 1. -/
def execFwActivateMssReboot (c : Cmd) (s : State) : Host.Outcome State Fault Refusal :=
  .next (runOp 0x0A0E (some 1) mssRebootBody c s)

/-- `FW_ACTIVATE` op 2. -/
def execFwActivateCommitSv (c : Cmd) (s : State) : Host.Outcome State Fault Refusal :=
  .next (runOp 0x0A0E (some 2) commitSvBody c s)

/-- `FW_STATUS`. -/
def execFwStatus (c : Cmd) (s : State) : Host.Outcome State Fault Refusal := .next (runOp 0x0A0F none fwStatusBody c s)

/-- The draining set is idle. -/
def execHandoverSetIdle (s : State) : Host.Outcome State Fault Refusal := .next (setIdleEvent s)

/-- A set is loaded. -/
def execHandoverSetLoaded (s : State) : Host.Outcome State Fault Refusal := .next (setLoadedEvent s).resumeService

/-- The MSS boots. -/
def execMssBoot (s : State) : Host.Outcome State Fault Refusal := .next (mssBootEvent s)

/-- The rebooted MSS reports. -/
def execMssRebootDone (s : State) : Host.Outcome State Fault Refusal := .next (rebootDoneEvent s)

/-- The MSS watchdog fires. -/
def execMssWatchdog (s : State) : Host.Outcome State Fault Refusal := .next (mssWatchdogEvent s)

end Sys2Proof.Machine
end

