-- ==== Sys2Proof/Machine/Arbitration.lean ====
section
/-! DEFINITION. The arbiters at work (R17, R36, R243 to R247): requests park, one is granted by weighted round robin, waits are
counted, starvation is flagged; and the port watchdogs (R248, R249). -/

namespace Sys2Proof.Machine

/-! ## A cycle of an arbiter -/

/-- A grant of an arbiter whose requests the units themselves have: the packet, the job or the record that it chooses goes to its unit; a fetch comes
with its own row, which brings the packets. -/
def State.grantReal (n : Nat) (s : State) : State :=
  match n with
  | 1 | 2 | 3 => s.dispatchAt n
  | 12 => s.grantParked true
  | 13 => s.grantParked false
  | 14 => s.admitNext
  | 17 => s.absorbNext
  | 21 => takeEvent s
  | _ => s

/-- The Skein port an egress or delivery arbiter belongs to. -/
def arbPort (n : Nat) : Port := if n % 2 = 0 then .east else .west

/-- An arbiter takes part: those of a Skein port do once the port has come back through its reconciliation (R274). -/
def State.arbRuns (s : State) (n : Nat) : Bool :=
  !(decide (30 ≤ n)) || (s.port (arbPort n)).st == .up || (s.port (arbPort n)).st == .lowRate

/-- Requests arrive, and one is granted where the resource accepts a transfer (R243). -/
def grantEvent (n : Nat) (arrivals : List Nat) (accept : Bool) (s : State) : State :=
  if (s.asks n).isSome then
    let s := s.sync n
    if accept then s.grantReal n else s
  else
    let s := s.park n arrivals
    if accept && s.arbRuns n then s.grant n else s

/-! ## Starvation (R247) -/

/-- The threshold of a requester. -/
def State.starveThreshold (s : State) (n i : Nat) : Nat :=
  if n = 0 then ((s.queuePolicy i).map fun p => p.starve.toNat).getD 0 else ((s.arbiter n).req i).thresh.toNat

/-- Time goes on until a request that parked at a stamp has waited `w` counts of its arbiter's clock: of CLK_CORE or, eight nominal core
cycles each, of the MSS clock (R18, R242). -/
def State.waited (n since w : Nat) (s : State) : State :=
  if farClock n then s
  else if 22 ≤ n ∧ n ≤ 28 then
    if s.mss.mcyc.toNat < since + w then s.advanceTo (s.now + 8 * (since + w - s.mss.mcyc.toNat) - s.mss.mdiv.toNat) else s
  else s.advanceTo (since + w)

/-- A parked request's wait reaches its threshold plus 1: the oldest that has not set the flag yet sets it. -/
def starveEvent (n i : Nat) (s : State) : State :=
  let s := s.sync n
  let t := s.starveThreshold n i
  match ((s.arbiter n).req i).parked.find? fun p => !p.starved with
  | none => s
  | some p =>
    let s' := s.waited n p.since (t + 1)
    if t = 0 ∨ s'.waitOf n p.since < t + 1 then s
    else
      let r := (s'.arbiter n).req i
      let parked := r.parked.map fun k => if k = p then { k with starved := true } else k
      (s'.setReq n i { r with starve := true, parked }).raise evStarve

/-! ## Port watchdogs (R248) -/

/-- The ports that have one (R242). -/
def watched (n : Nat) : Bool := decide (9 ≤ n ∧ n ≤ 19 ∧ n ≠ 16)

/-- The stuck command ends: a dispatched packet whose effect has not begun, without one; one whose job a spindle has or is to have, as
a failed job, which gives back what an `ISSUE` reserved (R80, R87). -/
def State.endStuck (w : Stuck) (s : State) : State :=
  match s.jobOf w.q w.tag with
  | some j => s.cutJob j stWatchdog
  | none =>
  match (s.queue w.q).inflight.find? fun f => !f.running && f.pkt.tag == w.tag with
  | some f =>
    match f.stage with
    | .dispatched u =>
      let cyc : BitVec 32 := if (opInfo f.pkt.opcode).any (·.fast) then 22 else 24
      s.postReply { f.refusal w.q stWatchdog with cycles := cyc, unit := u }
    | _ => s
  | none => s

/-- The stuck command is a dispatched packet of a class on the context the row names. -/
def State.stuckOn (cls : Nat) (w : Stuck) (s : State) : Bool :=
  (s.queue w.q).inflight.any fun f =>
    !f.running && f.pkt.tag == w.tag && f.pkt.opcode.toNat / 256 == cls && hIndex f.pkt.handleA == w.ctx &&
    (match f.stage with | .dispatched _ => true | _ => false)

/-- A seal port's stuck command: a SEAL context becomes BROKEN (R198). -/
def State.endStuckSeal (w : Stuck) (s : State) : State :=
  match s.runOf w.ctx with
  | some r => s.cutRun r stWatchdog true
  | none =>
    let s := match s.stuckOn 4 w, s.sealCtx w.ctx with
      | true, some k => if k.usage = usSeal then s.breakCtx w.ctx k else s
      | _, _ => s
    s.endStuck w

/-- A digest port's stuck command: the context becomes IDLE (R211). -/
def State.endStuckDigest (w : Stuck) (s : State) : State :=
  let k := s.dig' w.ctx
  match s.digRun w.ctx with
  | some r => s.cutDig r stWatchdog true
  | none => (if s.stuckOn 6 w && k.st != 0 then s.setDig w.ctx (idleDig k.dom k.finished) else s).endStuck w

/-- The spindle of a port's engine. -/
def portSpindle (w : Stuck) : Nat := if w.arb = 12 then w.inst % 8 else 8 + w.inst % 32

/-- A spindle's stuck job: the spindle leaves service for its test (R165). -/
def State.endStuckJob (w : Stuck) (s : State) : State :=
  let n := portSpindle w
  if (s.spindle n).jobsHeld.isEmpty then s.endStuck w
  else ((s.abortSpindle stWatchdog n).toTest n causeWatchdog).leaveDone n

/-- A transfer of the command is held at the port: its packet is in flight and dispatched, its run is in the seal or the digest engine,
or its job is on the spindle. -/
def State.heldAt (w : Stuck) (s : State) : Bool :=
  let n := w.arb.toNat
  ((s.queue w.q).inflight.any fun f => f.pkt.tag == w.tag && (match f.stage with | .dispatched _ => true | _ => false)) ||
  ((n == 14 || n == 15) && (s.runOf w.ctx).isSome) || (n == 17 && (s.digRun w.ctx).isSome) ||
  ((n == 12 || n == 13) && !(s.spindle (portSpindle w)).jobsHeld.isEmpty)

/-- The firing: the stuck command ends, the event and the record follow. Where its transfer has ended in the same cycle there is no
firing, but where a tamper response has just aborted the command the port is still reset and the firing counted (R249). -/
def watchdogEvent (w : Stuck) (s : State) : State :=
  let n := w.arb.toNat
  if !watched n || !(s.heldAt w || s.tmp.stage == .clearing) then s
  else
    let s := if n = 12 ∨ n = 13 then s.endStuckJob w
      else if n = 14 ∨ n = 15 then s.endStuckSeal w
      else if n = 17 then s.endStuckDigest w
      else s.endStuck w
    let a := s.arbiter n
    let s := s.setArbiter n { a with wdog := satAdd a.wdog 1 }
    (s.raise evWatchdog).log 0x0021 1 2 ([BitVec.ofNat 8 n, BitVec.ofNat 8 w.inst] ++ leBytes 2 w.req)

/-! ## The rows -/

/-- An arbiter's cycle. -/
def execArbiterGrant (arb : BitVec 6) (arrivals : List Nat) (accept : Bool) (s : State) : Host.Outcome State Fault Refusal :=
  if arb.toNat < 34 then .next (grantEvent arb.toNat arrivals accept s) else .fault .noSuchUnit

/-- A request starves. -/
def execStarvationFlag (arb : BitVec 6) (req : Nat) (s : State) : Host.Outcome State Fault Refusal :=
  if arb.toNat < 34 then .next (starveEvent arb.toNat req s) else .fault .noSuchUnit

/-- A port's watchdog fires. -/
def execWatchdogFire (w : Stuck) (s : State) : Host.Outcome State Fault Refusal :=
  if w.arb.toNat < 34 then .next (watchdogEvent w s) else .fault .noSuchUnit

end Sys2Proof.Machine
end

