-- ==== Sys2Proof/Machine/Sideband.lean ====
section
/-! DEFINITION. The side-band and service ports and the MSS's own work (R336, R349 to R353, R356, R360, R415, R416, R420). -/

namespace Sys2Proof.Machine

/-- The MSS answers its ports. -/
def State.mssUp (s : State) : Bool := s.mss.st == .running || s.mss.st == .romOnly

/-! ## SMBus (R349 to R351, R415) -/

/-- A management message is a command (R351). -/
def messageOk (m : Bytes) : Bool := slice m 0 4 == [0x7E, 0x1F, 0x3C, 0x01] && decide (68 ≤ m.length)

/-- A management message arrives: one may wait in four places; others are discarded and counted. -/
def smbusEvent (m : Bytes) (s : State) : State :=
  if !s.mssUp || s.mss.eid == 0 || !messageOk m then s
  else if s.mss.smbus.length < 4 then ({ s with mss := { s.mss with smbus := s.mss.smbus ++ [m] } }).park 26 [0]
  else { s with mss := { s.mss with discarded := satAdd s.mss.discarded 1 } }

/-- The reply to an MCTP control request, and the endpoint ID it leaves (PRESUMED from DSP0236, notes/assumptions/40.md). -/
def controlReply (m : Bytes) (eid : Byte) : Bytes × Byte :=
  let u (k : Nat) : Byte := (slice m k 1).headD 0
  let head : Bytes := [0x00, u 1 &&& 0x1F, u 2]
  match (u 2).toNat with
  | 0x01 =>
    if 1 < (u 3 &&& 3).toNat then (head ++ [0x02], eid)
    else if u 4 = 0 ∨ u 4 = 0xFF then (head ++ [0x02], eid)
    else (head ++ [0x00, 0x00, u 4, 0x00], u 4)
  | 0x02 => (head ++ [0x00, eid, 0x00, 0x00], eid)
  | 0x04 =>
    if u 3 = 0xFF ∨ u 3 = 0x00 then (head ++ [0x00, 0x01] ++ leBytes 4 Config.mctpVersion.toNat, eid) else (head ++ [0x80], eid)
  | 0x05 => (head ++ [0x00, 0x01, 0x7E], eid)
  | 0x06 =>
    if u 3 = 0 then (head ++ [0x00, 0xFF, 0x00, 0x1F, 0x3C] ++ leBytes 2 Config.vendorVersion.toNat, eid) else (head ++ [0x02], eid)
  | _ => (head ++ [0x05], eid)

/-- An MCTP control request is answered, whether an endpoint ID is assigned or not (R350). -/
def controlEvent (m : Bytes) (s : State) : State :=
  let u (k : Nat) : Byte := (slice m k 1).headD 0
  if !s.mssUp || m.length < 3 || u 0 != 0 || !(u 1).getLsbD 7 then s
  else
    let (r, eid) := controlReply m s.mss.eid
    ({ s with mss := { s.mss with eid } }).emit (.smbus r)

/-- The part of a message that has arrived is discarded (R350, R415). -/
def dropPartial (s : State) : State := { s with mss := { s.mss with partialMsg := [] } }

/-! ## Service SPI (R352, R353, R416) -/

/-- A frame from the controller is a sound command frame. -/
def spiFrameOk (f : Bytes) : Bool :=
  let n := f.length
  decide (72 ≤ n) && slice f 0 2 == [0xA5, 0x01] && decide (leAt f 2 2 + 8 = n) &&
  decide (leAt f (n - 4) 4 = (crc32 (f.take (n - 4))).toNat)

/-- A service port command runs or waits. -/
def State.spiBusy (s : State) : Bool :=
  s.mss.spiWaiting.isSome || s.mss.running.any fun p => p.1 == .spi

/-- A command frame: with SVC_EN low it is ignored; a bad one, or one while a command runs, is discarded and the next poll says
so. -/
def spiFrameEvent (f : Bytes) (s : State) : State :=
  if !s.mss.svcEn || !s.mssUp then s
  else if !spiFrameOk f || s.spiBusy then { s with mss := { s.mss with spiErr := true } }
  else ({ s with mss := { s.mss with spiWaiting := some (slice f 4 (leAt f 2 2)), spiOut := none, spiErr := false } }).park 26 [1]

/-- A poll frame: nothing but zeros while no reply is ready. -/
def spiPollEvent (s : State) : State :=
  if !s.mss.svcEn then s
  else if !s.mssUp then s.emit (.spi (spiFrame 0x82 []))
  else if s.mss.spiErr then ({ s with mss := { s.mss with spiErr := false } }).emit (.spi (spiFrame 0x82 []))
  else match s.mss.spiOut with
    | some f => s.emit (.spi f)
    | none => s

/-- SVC_EN changes; a frame that is open ends and is discarded. -/
def svcEnEvent (level frameOpen : Bool) (s : State) : State :=
  let cut := frameOpen && s.mss.svcEn != level
  { s with mss := { s.mss with svcEn := level, spiErr := s.mss.spiErr || cut } }

/-! ## Taking a command (R349) -/

/-- The command of a message, and of a service port payload. -/
def messageCmd (m : Bytes) : Cmd := { via := .smbus, pkt := packetOf (slice m 4 64), data := m.drop 68 }
def payloadCmd (b : Bytes) : Cmd := { via := .spi, pkt := packetOf (slice b 0 64), data := b.drop 64 }

/-- Arbiter 26 chooses between the ports. -/
def State.portChoice (s : State) : Option Nat :=
  match (s.pick 26).map Prod.fst with
  | some i => some i
  | none => if !s.mss.smbus.isEmpty then some 0 else if s.mss.spiWaiting.isSome then some 1 else none

/-- The MSS takes a command of a port; one outside the subset, or that a check refuses, is answered at once. -/
def State.takeSide (c : Cmd) (s : State) : State :=
  let k := sideCtx c c.pkt
  let s := { s with mss := { s.mss with running := some (c.via, k.c), begun := false } }
  match s.judgeSide c.pkt c.via with
  | some st => s.postReply (k.held st 0 0 [])
  | none => s

/-- The idle MSS takes the next management command. -/
def commandTake (s : State) : State :=
  if !s.mssUp || s.mss.running.isSome then s
  else match s.portChoice with
    | some 0 =>
      match s.mss.smbus with
      | m :: rest => (({ s with mss := { s.mss with smbus := rest } }).grant 26).takeSide (messageCmd m)
      | [] => s
    | some _ =>
      match s.mss.spiWaiting with
      | some b => (({ s with mss := { s.mss with spiWaiting := none } }).grant 26).takeSide (payloadCmd b)
      | none => s
    | none =>
      match s.mss.forwarded with
      | c :: rest =>
        if s.mss.st == .running then
          { s with mss := { s.mss with forwarded := rest, running := some (.host, c), begun := false } }
        else s
      | [] => s

/-! ## Sensors (R356, R370, R420) -/

/-- A reading lies outside its limits, below or above. -/
def outside (l : Int × Int) (v : Int) : Option Bool := if v < l.1 then some false else if l.2 < v then some true else none

/-- A sample: each reading that crosses a limit outward is logged. -/
def sampleEvent (rs : List (BitVec 16)) (s : State) : State :=
  if s.mss.st != .running then s
  else
    let old := s.mss.sensors.toList
    let new : Vector (BitVec 16) 16 := Vector.ofFn fun i => rs.getD i.val (old.getD i.val 0)
    let ls := s.limits
    let s := { s with mss := { s.mss with sensors := new } }
    (List.range 16).foldl
      (fun s i =>
        let v := new.toList.getD i 0
        let l := ls.getD i (0, 0)
        match outside l (sensorValue i v) with
        | none => s
        | some high =>
          if outside l (sensorValue i (old.getD i 0)) = some high then s
          else s.log Config.sensorCode 2 1 (leBytes 32 (Config.sensorDetail i high v).toNat)) s

/-! ## Event log (R336, R358, R360) -/

/-- The oldest post is written as a frame of the event log; its sequence is the frame's. -/
def logWriteEvent (s : State) : State :=
  if s.nvmStatus.isSome || s.mss.st != .running then s
  else match s.kp.posts with
    | [] => s
    | e :: rest =>
      let s := { s with kp := { s.kp.flush with posts := rest } }
      s.flashNow { area := .log, kind := 0x01, key := 0, payload := e.bytes (s.kp.log.frameSeq + 1) }

/-- The records of the backup domain's store are posted in order, then its overflow count, and the store is emptied. -/
def storePostEvent (s : State) : State :=
  if s.mss.st != .running then s
  else
    let n := s.tmp.overflow
    let s := s.tmp.store.foldl (fun s r => s.log 0x0013 3 3 (leBytes 16 r.toNat)) s
    let s := if n = 0 then s else s.log 0x0014 3 3 [n]
    { s with tmp := { s.tmp with store := [], overflow := 0 } }

/-! ## The rows -/

/-- A management message. -/
def execSmbusMessage (msg : Bytes) (s : State) : Host.Outcome State Fault Refusal := .next (smbusEvent msg s)

/-- An MCTP control message. -/
def execMctpControlMessage (msg : Bytes) (s : State) : Host.Outcome State Fault Refusal := .next (controlEvent msg s)

/-- A message is not complete within 100 ms. -/
def execMctpReassemblyTimeout (s : State) : Host.Outcome State Fault Refusal := .next (dropPartial s)

/-- SMB_SCL is held low too long: the port is reset. -/
def execSmbusTimeout (s : State) : Host.Outcome State Fault Refusal := .next (dropPartial s)

/-- A command frame. -/
def execSpiCommandFrame (frame : Bytes) (s : State) : Host.Outcome State Fault Refusal := .next (spiFrameEvent frame s)

/-- A poll frame. -/
def execSpiPollFrame (s : State) : Host.Outcome State Fault Refusal := .next (spiPollEvent s)

/-- SVC_EN changes. -/
def execSvcEnChange (level frameOpen : Bool) (s : State) : Host.Outcome State Fault Refusal :=
  .next (svcEnEvent level frameOpen s)

/-- The MSS takes a command. -/
def execManagementCommandTake (s : State) : Host.Outcome State Fault Refusal := .next (commandTake s)

/-- The MSS samples its sensors. -/
def execSensorSample (readings : List (BitVec 16)) (s : State) : Host.Outcome State Fault Refusal :=
  .next (sampleEvent readings s)

/-- A post is written. -/
def execEventLogWrite (s : State) : Host.Outcome State Fault Refusal := .next (logWriteEvent s)

/-- The event store is posted. -/
def execBackupStorePost (s : State) : Host.Outcome State Fault Refusal := .next (storePostEvent s)

end Sys2Proof.Machine
end

