-- ==== Sys2Proof/Machine/Pipeline.lean ====
section
/-! DEFINITION. What moves packets and DRAM without a command of its own: fetch, decode, dispatch, host reads (R25, R36, R44, R50,
R57), coalescing (R59), the end of a queue's drain (R62), the slewed time (R61), bucket reads, context fills, the memory table and
the scrub (R113, R179, R252, R253, R255). -/

namespace Sys2Proof.Machine

/-! ## Packets -/

/-- A grant of the host fetch arbiter, where its choice among the ready queues falls on this one, reads up to 8 packets, as many as the
queue has and completion slots it can reserve (R36, R243). -/
def fetchEvent (q : QId) (ring : List Packet) (s : State) : State :=
  let x := s.queue q
  if !s.queueReady q then s
  else match (s.sync 0).grantFor 0 q.toNat with
    | some t => ((ring.take (min 8 (min x.unfetched x.freeSlots))).foldl (fun s p => s.grantFetch q p) t).sync 0
    | none => s

/-- A held reply is that of a packet of a host queue. -/
def Held.isOf (q : QId) (tag : BitVec 32) (h : Held) : Bool := h.via == .host && h.q == q && h.tag == tag

/-- A read of a command that has begun fails: an `ISSUE`'s reservation goes back (R50, R80), a run of the seal pipeline or of the digest
unit is cut (R198, R211). -/
def State.failBegun (q : QId) (tag : BitVec 32) (s : State) : State :=
  match s.jobOf q tag with
  | some j => if j.issues then s.cutJob j stHostMemory else s
  | none =>
    match s.sl.runs.find? fun r => r.h.isOf q tag, s.dig.runs.find? fun r => r.h.isOf q tag with
    | some r, _ => s.cutRun r stHostMemory r.entered
    | none, some r => s.cutDig r stHostMemory r.began
    | none, none => s

/-- Data of a host read arrive, or the read fails: then a dispatched command whose effect has not begun has none, and a reservation
goes back (R50). -/
def readCompletion (q : QId) (tag : BitVec 32) (r : ReadResult) (s : State) : State :=
  match r with
  | .data _ => s
  | .failed _ =>
    match (s.queue q).inflight.find? fun f => !f.running && f.pkt.tag == tag && f.pkt.dataLen != 0 with
    | some f =>
      match f.stage with
      | .dispatched u =>
        let cyc : BitVec 32 := if (opInfo f.pkt.opcode).any (·.fast) then 22 else 24
        s.postReply { f.refusal q stHostMemory with cycles := cyc, unit := u }
      | _ => s
    | none => s.failBegun q tag

/-- The coalescing time of the first waiting reply passes (R59). -/
def coalesceEvent (q : QId) (s : State) : State :=
  let x := s.queue q
  if x.irqMode = 2 ∧ 0 < x.owed ∧ x.coalTime ≠ 0 ∧ x.st ≠ .absent then
    let s := s.advanceTo (x.owedSince + 1024 * x.coalTime.toNat)
    (s.setQueue q x.signalled).sendMsix x.vector
  else s

/-- The last dispatched packet of a queue that resets has replied (R62). -/
def drainEnd (q : QId) (s : State) : State :=
  match (s.queue q).ending with
  | some e => if (s.queue q).inflight.isEmpty then s.endQueue q e else s
  | none => s

/-- The function enters D3hot. -/
def d3Entry (s : State) : State := { s with gctl := { s.gctl with d3hot := true } }

/-- The function returns to D0: the journal records chained meanwhile are written, then what was held is posted in order. -/
def d3Exit (s : State) : State :=
  if !s.gctl.d3hot then s
  else
    let s' := ({ s with gctl := { s.gctl with d3hot := false, d3held := [] } }).flushJournal
    { s' with posted := s'.posted ++ s.gctl.d3held }

/-- Real time catches up with the device time that held still: the seconds in between pass. -/
def slewEnd (s : State) : State :=
  s.advanceTo (s.now + 800000000 * s.gctl.slew.toNat)

/-! ## Memory -/

/-- A DRAM read fails its integrity check (R12): the record of the address, and the alarm of source 23. -/
def State.memAuth (addr : BitVec 64) (s : State) : State :=
  inactiveEvent 23 (alarmEvent 23 0 (s.log 0x0025 1 3 (leBytes 8 addr.toNat)))

/-- The fingerprint an operation looks for. -/
def opFp : RegOp → BitVec 128
  | .lookup fp | .free fp => fp
  | .insert e | .update e => e.fp

/-- A transfer of a row is read: a single-bit error is corrected and counted, a multi-bit error fails the integrity check (R12, R255). The
first component tells whether its data are delivered. -/
def State.transferred (row : BitVec 20) (addr : BitVec 64) (r : EccResult) (s : State) : Bool × State :=
  match r with
  | .clean => (true, s)
  | .corrected =>
    let n := s.mem.corrections.get row.toNat 0 + 1
    (true, { s with mem := { s.mem with ecc := satAdd s.mem.ecc 1, corrections := s.mem.corrections.put row.toNat n } })
  | .multiBit => (false, s.memAuth addr)

/-- The bucket whose pair is read next: that of the oldest accepted operation, else that of the oldest sweep (R112, R121). -/
def Register.nextBucket (g : Register) : Option Nat :=
  match g.accepted, g.sweeps with
  | op :: _, _ => some (bucketsOf (opFp op)).1
  | [], w :: _ => some w.next
  | [], [] => none

/-- The read pair of the oldest accepted operation, in a register slot: it compares and changes; a pair that fails its check reaches
nobody. With none accepted, the oldest sweep goes on (R121, R250). -/
def readPair (r : EccResult) (s : State) : State :=
  match if s.slotIs s.now 0 then s.ru.reg.nextBucket else none with
  | none => s
  | some b =>
    let (intact, s) := s.transferred (Config.dramRow 0 b) (Config.dramAddress 0 b) r
    match s.ru.reg.accepted with
    | [] => if intact then s.sweepNext else s
    | op :: rest =>
      let s := { s with ru := { s.ru with reg := { s.ru.reg with accepted := rest } } }
      if intact then { s with ru := { s.ru with reg := (s.ru.reg.count op).1 } } else s

/-- A context record's fill ends, 14 cycles after its first transfer in a seal slot (R179, R250); one that fails its check is not
delivered. -/
def fillEvent (n : Nat) (r : EccResult) (s : State) : State :=
  if !s.sl.fills.contains n || !s.slotIs (s.now - 14) 1 then s
  else
    let (intact, s) := s.transferred (Config.dramRow 1 n) (Config.dramAddress 1 n) r
    if intact then s.fillDone n else { s with sl := { s.sl with fills := s.sl.fills.filter (· != n) } }

/-- The next frame boundary, where a swap was asked for. -/
def tableSwap (s : State) : State :=
  if !s.mem.swap then s
  else
    let s := s.advanceTo s.mem.swapAt
    if s.mem.swap then { s with mem := s.mem.swapped } else s

/-- The scrub reads a unit of a row, in a slot of its own (R250, R255). -/
def scrubEvent (row : BitVec 20) (r : EccResult) (s : State) : State :=
  if s.slotIs s.now 4 then (s.transferred row (Config.dramAddress 2 row.toNat) r).2 else s

/-! ## The rows -/

/-- A fetch. -/
def execPacketFetch (q : QId) (ring : List Packet) (s : State) : Host.Outcome State Fault Refusal := .next (fetchEvent q ring s)

/-- A decode. -/
def execPacketDecode (q : QId) (s : State) : Host.Outcome State Fault Refusal := .next (s.decodeNext q)

/-- A dispatch. -/
def execDispatch (q : QId) (s : State) : Host.Outcome State Fault Refusal := .next (s.dispatchNext q)

/-- A host read completes. -/
def execHostReadCompletion (q : QId) (tag : BitVec 32) (r : ReadResult) (s : State) : Host.Outcome State Fault Refusal :=
  .next (readCompletion q tag r s)

/-- A coalescing time passes. -/
def execCoalescingTimeout (q : QId) (s : State) : Host.Outcome State Fault Refusal := .next (coalesceEvent q s)

/-- A queue has drained. -/
def execQueueDrainEnd (q : QId) (s : State) : Host.Outcome State Fault Refusal := .next (drainEnd q s)

/-- D3hot begins. -/
def execD3hotEntry (s : State) : Host.Outcome State Fault Refusal := .next (d3Entry s)

/-- D3hot ends. -/
def execD3hotExit (s : State) : Host.Outcome State Fault Refusal := .next (d3Exit s)

/-- A slew ends. -/
def execTimeSlewEnd (s : State) : Host.Outcome State Fault Refusal := .next (slewEnd s)

/-- A read pair. -/
def execRegisterReadPair (r : EccResult) (s : State) : Host.Outcome State Fault Refusal := .next (readPair r s)

/-- A fill. -/
def execContextCacheFill (ctx : Nat) (r : EccResult) (s : State) : Host.Outcome State Fault Refusal :=
  if ctx < 40960 then .next (fillEvent ctx r s) else .fault .noSuchUnit

/-- A frame boundary with a swap. -/
def execMemoryTableSwap (s : State) : Host.Outcome State Fault Refusal := .next (tableSwap s)

/-- A scrub read. -/
def execScrubRead (row : BitVec 20) (r : EccResult) (s : State) : Host.Outcome State Fault Refusal := .next (scrubEvent row r s)

end Sys2Proof.Machine
end

