-- ==== Sys2Proof/Machine/KeeperEvents.lean ====
section
/-! DEFINITION. What happens in the keeper die without a command: frames page by page, reclaims and erases (R302 to R307), the
comparator of VHOLD (R308), recall (R306, R311 to R313), wear rings by time (R299) and refresh (R314, R315). -/

namespace Sys2Proof.Machine

/-- The keeper die takes requests: powered, recall ended (R312). -/
def State.keeperUp (s : State) : Bool := s.kp.powered && !s.gctl.recalling

/-! ## Sector replacement (R307, R315) -/

/-- The lowest replacement sector not in use. -/
def Keeper.spareSector (k : Keeper) : Option Nat := lowestFrom (fun n => (k.replaced.find n).isNone) 32 0

/-- The replacement map requests the commit unit. -/
def State.writeMap (s : State) : State :=
  (replacementBlocks s.kp.replaced).foldl (fun s p => s.mssWrite p.1 p.2 []) s

/-- The record of a sector (R359): its replacement, or 0xFFFF. -/
def State.logSector (sector : Nat) (repl : Option Nat) (severity : Byte) (s : State) : State :=
  s.log 0x0032 2 severity (leBytes 2 sector ++ leBytes 2 ((repl.map (411 + ·)).getD 0xFFFF))

/-- The bytes of a sector moved to replacement sector `n`, which stands for it from then on. A replacement that stood for it
before is free again where it is sound, and else keeps an entry that names itself (notes/assumptions/47.md). -/
def Keeper.moveSector (k : Keeper) (sector n : Nat) (sound : Bool) : Keeper :=
  let old := k.physical sector
  let bytes := readBytes flBlank k.flash (65536 * old) 65536
  let map := k.replaced.filterMap fun p =>
    if p.2 = sector then (if sound then none else some (p.1, 411 + p.1)) else some p
  let fl := programBytes (eraseRange k.flash (65536 * (411 + n)) 65536) (65536 * (411 + n)) bytes
  { k with replaced := Tab.put map n sector, flash := if sound then eraseRange fl (65536 * old) 65536 else fl }

/-- A sector that failed is replaced, or, with no replacement left, given up (R307). -/
def State.replaceSector (sector : Nat) (s : State) : State :=
  match s.kp.spareSector with
  | some n => ({ s with kp := s.kp.moveSector sector n false }.writeMap).logSector sector (some n) 1
  | none =>
    let k := s.kp
    let k := match sectorArea sector with
      | some a =>
        let x := k.area a
        k.setArea a { x with used := x.used.filter (· != sector), blank := x.blank.filter (· != sector) }
      | none => k
    { s with kp := { k with failedSectors := k.failedSectors ++ [sector] } }.logSector sector none 2

/-! ## Frames (R304, R308) -/

/-- An erase in progress is suspended, or goes on. -/
def Keeper.suspend (on : Bool) (k : Keeper) : Keeper :=
  { k with erase := match k.erase with | some p => some (p.1, on) | none => none }

/-- The next queued frame starts; with none, a suspended erase goes on. -/
def State.nextFrame (s : State) : State :=
  match s.kp.frames with
  | req :: rest =>
    if s.kp.tripped then s
    else
      let before := s.kp.eraseCount
      ({ s with kp := ({ s.kp with frames := rest }.prepare req).startFrame req }).noteErases before
  | [] => { s with kp := s.kp.suspend false }

/-- FLASH_FRAME_WRITE: the frame starts, with any erase suspended, or waits behind the one being written. A request under a
tripped comparator or during recall has no effect (R308, R312). -/
def frameEvent (req : FlashReq) (s : State) : State :=
  if s.nvmStatus.isSome then s
  else if s.kp.frame.isSome then { s with kp := { s.kp with frames := s.kp.frames ++ [req] } }
  else
    { s with kp := { s.kp.suspend true with frames := [req] } }.nextFrame

/-- A frame whose next program cannot start is abandoned; its sector takes no more (R306, R308). -/
def State.abandonFrame (w : FlashWrite) (s : State) : State :=
  { s with kp := { s.kp.shut w.req.area with frame := none } }.nextFrame

/-- FLASH_PAGE_PROGRAM_DONE. While a replacement map is not written yet no page is programmed (R307). A page that fails its verify is programmed again in the sector's replacement; with none left the
frame is written in another sector (R307). -/
def pageEvent (verified : Bool) (s : State) : State :=
  match s.kp.frame with
  | none => s
  | some w =>
    if w.marker ∨ s.kp.mapDue then s
    else
      let sector := (s.kp.area w.req.area).sector
      let page := w.page
      if verified then
        let fl := programBytes s.kp.flash (w.addr + w.done) page
        let w := { w with done := w.done + page.length }
        let s := { s with kp := { s.kp with flash := fl, frame := some w } }
        if s.kp.tripped then s.abandonFrame w
        else { s with kp := { s.kp with frame := some { w with marker := decide (w.bytes.length ≤ w.done) } } }
      else
        let off := w.addr - s.kp.addr sector 0
        let s := s.replaceSector sector
        if s.kp.failedSectors.contains sector then
          let k := s.kp.setArea w.req.area { s.kp.area w.req.area with off := 65536 }
          { s with kp := ({ k with frame := none }.prepare w.req).startFrame w.req }
        else { s with kp := { s.kp with frame := some { w with addr := s.kp.addr sector off } } }

/-- FLASH_MARKER_DONE: the frame is valid (R303, R306). -/
def markerEvent (s : State) : State :=
  match s.kp.frame with
  | none => s
  | some w =>
    if w.marker then
      let fl := programBytes s.kp.flash (w.addr + w.bytes.length) [0x00]
      { s with kp := { s.kp with flash := fl, frame := none }.noted w.req }.nextFrame
    else s

/-! ## Reclaims and erases (R302, R305) -/

/-- FLASH_SECTOR_RECLAIM: an area that its next sector would leave short gives up its oldest, unless an erase is due already. -/
def reclaimEvent (a : FlashArea) (s : State) : State :=
  if s.nvmStatus.isSome then s
  else if decide (areaSpare a < (s.kp.area a).blank.length) || !(s.kp.due a).isEmpty then { s with kp := s.kp.startErase }
  else { s with kp := (s.kp.reclaim a).startErase }

/-- FLASH_ERASE_DONE: a sector that reads blank gets its header; one that does not is replaced, or left out. -/
def eraseEnd (blank : Bool) (s : State) : State :=
  match s.kp.erase with
  | some (sec, false) =>
    let before := s.kp.eraseCount
    let s := { s with kp := { s.kp with erase := none } }
    let s := if blank then { s with kp := s.kp.erased sec }
      else
        let s := ({ s with kp := s.kp.eraseSector sec }).replaceSector sec
        if s.kp.failedSectors.contains sec then s else { s with kp := { s.kp with eraseQueue := sec :: s.kp.eraseQueue } }
    let s := s.noteErases before
    { s with kp := s.kp.startErase }
  | _ => s

/-! ## VHOLD (R308) -/

/-- The comparator trips. -/
def tripEvent (s : State) : State := { s with kp := { s.kp with tripped := true } }

/-- The comparator releases; what waited may start. -/
def releaseEvent (s : State) : State :=
  let s := { s with kp := { s.kp with tripped := false } }
  let s := if s.kp.frame.isNone && !s.gctl.recalling then s.nextFrame else s
  { s with kp := s.kp.startErase }

/-! ## The end of an operation under power failure or reset (R308, R310) -/

/-- A sector whose erase was cut short: its bytes are FREE VALUES, but its header does not pass (R306, R310). -/
def tornSector (n sector : Nat) : Bytes :=
  let bs := (List.range 65536).map fun i => Config.tornByte n (65536 * sector + i)
  if slice bs 60 4 = checkOf 4 (slice bs 0 5 ++ slice bs 6 54) then (slice bs 0 1).map (fun b => ~~~b) ++ bs.drop 1 else bs

/-- The sector being erased is left undefined. -/
def State.tearErase (s : State) : State :=
  match s.kp.erase with
  | none => s
  | some (sec, _) =>
    let p := s.kp.physical sec
    { s with kp := { s.kp with
        flash := writeBytes flBlank s.kp.flash (65536 * p) (tornSector s.ks.draws p), erase := none } }.drawn 1

/-- The frame being written ends: the program that runs completes; below its specification VHOLD leaves the page, or the marker,
undefined (R310). -/
def State.tearFrame (whole : Bool) (s : State) : State :=
  match s.kp.frame with
  | none => s
  | some w =>
    let n := s.ks.draws
    let at_ := w.addr + w.done
    let bs := if w.marker then [0x00] else w.page
    let torn := (List.range bs.length).map fun i => Config.tornByte n (at_ + i)
    let fl := programBytes s.kp.flash at_ (if whole then bs else torn)
    { s with kp := { s.kp with flash := fl, frame := none } }.drawn (if whole then 0 else 1)

/-- The groups of 8 bytes of a record written to a bank. -/
def Keeper.feGroups (k : Keeper) (bank : Bool) (off groups : Nat) (bs : Bytes) : Keeper := k.feWrite bank off (bs.take (8 * groups))

/-- The FeRAM record taken by the commit unit: complete in both banks, or, below its specification, VHOLD leaves the first part of its
groups new, a FREE VALUE (R297, R310). A generation's new value is then in the table. -/
def State.tearRecord (whole : Bool) (s : State) : State :=
  match s.kp.cu with
  | none => s
  | some (r, second) =>
    if whole then
      let s := ((s.cuWrite false r).cuWrite true r)
      let s := match r with | .gen g => { s with ks := { s.ks with gens := s.ks.gens.put g.entry g.val } } | _ => s
      { s with kp := { s.kp with cu := none } }
    else
      let (off, bs) := r.place s.kp
      let groups := bs.length / 8
      let k := Config.tornGroups s.ks.draws % ((if second then groups else 2 * groups) + 1)
      let kp := if second then s.kp.feGroups true off k bs
        else (s.kp.feGroups false off (min k groups) bs).feGroups true off (k - groups) bs
      { s with kp := { kp with cu := none } }.drawn 1

/-- The commit unit and the record controller are reset; what had started ends as R310 sets out, the rest is gone. -/
def State.stopKeeper (whole : Bool) (s : State) : State :=
  let s := ((s.tearRecord whole).tearFrame whole).tearErase
  { s with kp := { s.kp with queue := [], frames := [], eraseQueue := [] } }

/-! ## Recall (R306, R311 to R313) -/

/-- Recall begins. -/
def State.beginRecall (s : State) : State :=
  { s with
    gctl := { s.gctl with recalling := true }
    kp := { s.kp with
      powered := true, stage := 1, records := [], blobs := [], feCorrected := 0, feRepaired := 0, flRelocated := 0 } }

/-- A resolution in which the banks differed is logged with its offset (R313, R359). -/
def State.logConflict (off : Nat) (s : State) : State := s.log 0x0030 2 1 (leBytes 4 off)

/-- A mirror repair: the record goes to both banks. -/
def State.repair (off : Nat) (bs : Bytes) (s : State) : State :=
  let s := s.logConflict off
  if s.kp.tripped then s.mssWrite off bs [] else { s with kp := (s.kp.feWrite false off bs).feWrite true off bs }

/-- A record with a check is resolved: bank 0 where its check passes, else bank 1 (R313). -/
def State.resolve (ok : Bytes → Bool) (off n : Nat) (s : State) : State :=
  let a := s.kp.feRead false off n
  let b := s.kp.feRead true off n
  if a = b then s else if ok a then s.repair off a else if ok b then s.repair off b else s.logConflict off

/-- The two banks of a wear ring: the higher sequence wins (R313). -/
def State.resolveRing (s : State) (ring : Nat) : State :=
  let a := s.kp.ringTop false ring
  let b := s.kp.ringTop true ring
  if a = b then s
  else
    let w := if a.2.1 < b.2.1 then b else a
    let off := ringOff ring w.2.2
    s.repair off (s.kp.feRead (decide (a.2.1 < b.2.1)) off 16)

/-- The offsets of the configuration word blocks (R296). -/
def blockOffs : List Nat := [identityOff, replaceOff, replaceOff + 64] ++ (List.range 4).map fun q => verifierOff q

/-- Stage 2: the mirrors are resolved and the generation table is read (R228, R313). -/
def State.readFeram (s : State) : State :=
  let s := (List.range 4096).foldl (fun s e => s.resolve (fun _ => true) (genOff e) 16) s
  let s := ([0, 1] : List Nat).foldl (fun s j => s.resolve (fun b => (rootOf b).isSome) (rootOff j) 96) s
  let s := blockOffs.foldl (fun s off => s.resolve wordBlockOk off 64) s
  let s := (List.range 4).foldl State.resolveRing s
  let gens : Tab GenEntry := (List.range 4096).filterMap fun e =>
    let g := genOf e (s.kp.feRead false (genOff e) 16)
    if g = zeroGen then none else some (e, g)
  { s with ks := { s.ks with gens } }

/-- Stage 1: the replacement map is read (R296). -/
def Keeper.readMap (k : Keeper) : Keeper :=
  let blank := List.replicate 60 0xFF
  let bs := slice (k.block replaceOff blank) 0 60 ++ slice (k.block (replaceOff + 64) blank) 0 4
  { k with replaced := (List.range 32).filterMap fun n =>
      let v := leAt bs (2 * n) 2
      if v = 0xFFFF then none else some (n, v) }

/-- The sector_seq of a usable sector of an area (R302, R306). -/
def Keeper.usable (k : Keeper) (a : FlashArea) (sec : Nat) : Option Nat :=
  let h := k.flRead sec 0 64
  if leAt h 0 4 = 0x5EC77740 ∧ slice h 4 1 = [areaCode a] ∧ slice h 5 1 ≠ [0x3F] ∧
      slice h 60 4 = checkOf 4 (slice h 0 5 ++ slice h 6 54) then some (leAt h 8 8) else none

/-- A sector in its place by sector_seq. -/
def bySeq (p : Nat × Nat) : List (Nat × Nat) → List (Nat × Nat)
  | [] => [p]
  | q :: rest => if p.1 < q.1 then p :: q :: rest else q :: bySeq p rest

/-- The usable sectors of an area in order, with their sector_seq. -/
def Keeper.sectors (k : Keeper) (a : FlashArea) : List (Nat × Nat) :=
  ((List.range (areaCount a)).filterMap fun i =>
    (k.usable a (areaFirst a + i)).map fun q => (q, areaFirst a + i)).foldl (fun l p => bySeq p l) []

/-- Stage 3: the headers of an area's sectors; an unusable one is erased before it is used again (R306). -/
def Keeper.scanHeaders (k : Keeper) (a : FlashArea) : Keeper :=
  let good := k.sectors a
  let bad := ((List.range (areaCount a)).map (areaFirst a + ·)).filter fun n =>
    (k.usable a n).isNone && !k.failedSectors.contains n
  let top := (good.map Prod.fst).foldl max 0
  { k.setArea a { (k.area a) with used := good.map Prod.snd, blank := [], sectorSeq := top, frameSeq := 0, off := 0 } with
    eraseQueue := k.eraseQueue ++ bad }

/-- The frames of an area's used sectors, in order. -/
def Keeper.areaFrames (k : Keeper) (a : FlashArea) : List FrameAt := (k.area a).used.flatMap k.frames'

/-- The valid frame of a key with the highest frame_seq (R306). -/
def newest (fs : List FrameAt) : Tab (Nat × Bytes) :=
  fs.foldl
    (fun t f =>
      let old := (t.find f.key.toNat).map Prod.fst
      if old.all fun q => decide (q < f.seq) then t.put f.key.toNat (f.seq, f.payload) else t) []

/-- The records an area's frames leave: a payload of length 0 is no record. -/
def recordsIn (fs : List FrameAt) : Tab Bytes :=
  (newest fs).filterMap fun p => if p.2.2.isEmpty then none else some (p.1, p.2.2)

/-- A sector holds no frame: it is blank after its header. -/
def Keeper.unwritten (k : Keeper) (sec : Nat) : Bool := (k.walk sec 1 64).2 == 64 && k.flRead sec 64 1 == [0xFF]

/-- Where a used sector takes its next frame; one with a torn frame, or FULL, takes none (R306). -/
def Keeper.appendAt (k : Keeper) (sec : Nat) : Nat :=
  let e := (k.walk sec 2047 64).2
  if k.flRead sec 5 1 ≠ [0xFF] ∨ 65536 ≤ e then 65536 else if k.flRead sec e 1 = [0xFF] then e else 65535

/-- Stages 4 and 5: the frames of an area are walked and its append point is set. -/
def Keeper.walkArea (k : Keeper) (a : FlashArea) : Keeper :=
  let x := k.area a
  let used := x.used.filter fun n => !k.unwritten n
  let top := ((k.areaFrames a).map (·.seq)).foldl max 0
  let sector := used.getLast?.getD (areaFirst a)
  k.setArea a { x with
    used, blank := x.used.filter k.unwritten, frameSeq := top, sector, off := if used.isEmpty then 0 else k.appendAt sector }

/-- Stage 4: the configuration and archive areas and their working copies. -/
def Keeper.walkRecords (k : Keeper) : Keeper :=
  let k := (k.walkArea .config).walkArea .archive
  { k with records := recordsIn (k.areaFrames .config), blobs := recordsIn (k.areaFrames .archive) }

/-- What a recall stage has done by its end. -/
def State.recallStage (n : Nat) (s : State) : State :=
  match n with
  | 1 => { s with kp := s.kp.readMap }
  | 2 => s.readFeram
  | 3 => { s with kp := ((s.kp.scanHeaders .log).scanHeaders .config).scanHeaders .archive }
  | 4 => ({ s with kp := s.kp.walkRecords }).stage 4
  | _ => s

/-- RECALL_STAGE_END: stages 1 to 4. -/
def recallStageEvent (s : State) : State :=
  let n := s.kp.stage
  if n = 0 ∨ 5 ≤ n then s
  else { (s.recallStage n) with kp := { (s.recallStage n).kp with stage := n + 1 } }

/-- RECALL_END: the log's append point, RECALL cleared, the power-on count, the time floor, the count of posts lost (R299, R300,
R311, R312). -/
def recallEndEvent (s : State) : State :=
  if s.kp.stage ≠ 5 then s
  else
    let s := { s with kp := { s.kp.walkArea .log with stage := 0 }, gctl := { s.gctl with recalling := false } }
    let floor := s.kp.ringValue 2
    let s := if s.gctl.time.toNat < floor then { s with gctl := { s.gctl with time := BitVec.ofNat 32 floor } } else s
    let s := (s.wearWrite 0 (s.kp.ringValue 0 + 1)).reportLost
    { s with kp := s.kp.startErase }

/-! ## Time and refresh (R299, R314, R315) -/

/-- Every 60 s. -/
def minuteEvent (s : State) : State := if s.keeperUp then s.wearWrite 1 (s.ringNow 1 + 1) else s

/-- Every 64 s. -/
def floorEvent (s : State) : State := if s.keeperUp then s.wearWrite 2 s.gctl.time.toNat else s

/-- The commit unit writes in a page of a bank. -/
def State.writing (s : State) (page : Nat) : Bool :=
  match s.kp.cu with
  | some (r, _) =>
    let (off, bs) := r.place s.kp
    decide (off / 64 ≤ page) && decide (page ≤ (off + max bs.length 1 - 1) / 64)
  | none => false

/-- A group's repair is logged (R359). -/
def State.logRepair (off : Nat) (done : Bool) (s : State) : State :=
  s.log 0x0031 2 (if done then 1 else 2) (leBytes 4 off ++ [if done then 1 else 0])

/-- An entry of the generation table that neither bank can give: gen 0xFFFF_FFFF, and spent (R314). -/
def State.spendEntry (e : Nat) (s : State) : State :=
  let g := s.gen e
  let g := { g with gen := 0xFFFFFFFF, kind := if e < 256 then g.kind else 4 }
  ({ s with ks := { s.ks with gens := s.ks.gens.put e g } }).mssWrite (genOff e) (g.bytes e) []

/-- The scrub has read a page in each bank at margin (R314). -/
def State.scrubPage (page : Nat) (r : FeScrub) (s : State) : State :=
  match r with
  | .clean => s
  | .corrected _ => ({ s with kp := { s.kp with feCorrected := s.kp.feCorrected + 1 } }).refreshPage page none
  | .oneBank bank g =>
    let off := 64 * page + 8 * g.toNat
    let s := s.refreshPage page (some (bank, g.toNat))
    ({ s with kp := { s.kp with feRepaired := s.kp.feRepaired + 1 } }).logRepair off true
  | .bothBanks g =>
    let off := 64 * page + 8 * g.toNat
    let s := s.logRepair off false
    if genOff 0 ≤ off ∧ off < genOff 4096 then s.spendEntry ((off - genOff 0) / 16) else s

/-- FERAM_SCRUB: the next page, skipped while the commit unit writes it. -/
def feramScrubEvent (r : FeScrub) (s : State) : State :=
  if !s.keeperUp then s
  else
    let page := s.kp.fePage % 8192
    let s := if s.writing page then s else s.scrubPage page r
    { s with kp := { s.kp with fePage := (page + 1) % 8192 } }

/-- A weak sector is relocated (R315): a record area's by its live frames and a reclaim, another to a replacement sector. -/
def State.relocate (sector : Nat) (s : State) : State :=
  match sectorArea sector with
  | some a =>
    if (s.kp.area a).used.contains sector then
      let s := { s with kp := (s.kp.retire a sector).startErase }
      ({ s with kp := { s.kp with flRelocated := s.kp.flRelocated + 1 } }).logSector sector none 1
    else s
  | none =>
    let orig := if sector < 411 then sector else s.kp.replaced.get (sector - 411) 0xFFFF
    if 411 ≤ orig then s
    else match s.kp.spareSector with
      | some n =>
        let s := ({ s with kp := { s.kp.moveSector orig n true with flRelocated := s.kp.flRelocated + 1 } }).writeMap
        s.logSector orig (some n) 1
      | none => s.logSector orig none 2

/-- FLASH_SCRUB: the next sector. -/
def flashScrubEvent (weak : Bool) (s : State) : State :=
  if s.nvmStatus.isSome then s
  else
    let sector := s.kp.flSector % 443
    let s := if weak then s.relocate sector else s
    { s with kp := { s.kp with flSector := (sector + 1) % 443 } }

/-! ## The rows -/

/-- A frame write begins. -/
def execFlashFrameWrite (f : FlashReq) (s : State) : Host.Outcome State Fault Refusal := .next (frameEvent f s)

/-- A page program ends. -/
def execFlashPageProgramDone (verified : Bool) (s : State) : Host.Outcome State Fault Refusal := .next (pageEvent verified s)

/-- A marker program ends. -/
def execFlashMarkerDone (s : State) : Host.Outcome State Fault Refusal := .next (markerEvent s)

/-- An area is short of blank sectors. -/
def execFlashSectorReclaim (area : FlashArea) (s : State) : Host.Outcome State Fault Refusal := .next (reclaimEvent area s)

/-- A sector erase ends. -/
def execFlashEraseDone (blank : Bool) (s : State) : Host.Outcome State Fault Refusal := .next (eraseEnd blank s)

/-- The comparator trips. -/
def execVholdTrip (s : State) : Host.Outcome State Fault Refusal := .next (tripEvent s)

/-- The comparator releases. -/
def execVholdRelease (s : State) : Host.Outcome State Fault Refusal := .next (releaseEvent s)

/-- VHOLD reaches 5.0 V: the keeper die is held in reset; no operation is in progress by then (R308, R310). -/
def execCommitDomainStop (s : State) : Host.Outcome State Fault Refusal :=
  .next { (s.stopKeeper true) with kp := { (s.stopKeeper true).kp with powered := false, tripped := true, stage := 0 } }

/-- The commit domain powers up, and recall runs. -/
def execCommitDomainPowerUp (s : State) : Host.Outcome State Fault Refusal :=
  .next (if s.kp.powered then s else s.beginRecall)

/-- A recall stage ends. -/
def execRecallStageEnd (s : State) : Host.Outcome State Fault Refusal := .next (recallStageEvent s)

/-- Recall ends. -/
def execRecallEnd (s : State) : Host.Outcome State Fault Refusal := .next (recallEndEvent s)

/-- A minute of operating time passes. -/
def execOperatingTimeTick (s : State) : Host.Outcome State Fault Refusal := .next (minuteEvent s)

/-- The time floor is written. -/
def execTimeFloorTick (s : State) : Host.Outcome State Fault Refusal := .next (floorEvent s)

/-- The FeRAM scrub reads a page. -/
def execFeramScrub (r : FeScrub) (s : State) : Host.Outcome State Fault Refusal := .next (feramScrubEvent r s)

/-- The flash scrub reads a sector. -/
def execFlashScrub (weak : Bool) (s : State) : Host.Outcome State Fault Refusal := .next (flashScrubEvent weak s)

end Sys2Proof.Machine
end

