-- ==== Sys2Proof/Machine/Resets.lean ====
section
/-! DEFINITION. The reset classes and the loss of main power (R63, R98, R310, R337, R341, R389, R396, R397, R399, R402). -/

namespace Sys2Proof.Machine

/-! ## What every reset of the planes leaves (R397) -/

/-- The GCTL block: device time is the backup domain's, recall the keeper die's, `PERST#` a ball's. -/
def Gctl.planeReset (g : Gctl) : Gctl :=
  { Gctl.reset with time := g.time, slew := g.slew, recalling := g.recalling, perstLow := g.perstLow, nextId := g.nextId }

/-- The key store: fuses, BBRAM and the generation table stay. -/
def KeyUnit.planeReset (k : KeyUnit) : KeyUnit :=
  { KeyUnit.reset with fuse := k.fuse, shares := k.shares, gens := k.gens, draws := k.draws }

/-- Weights, thresholds, counters and flags of every arbiter are at their defaults, and nothing is out of service (R397); what waits at
the arbiters of the MSS goes on waiting, since the MSS is not reset. -/
def ArbUnit.planeReset (a : ArbUnit) : ArbUnit :=
  { ArbUnit.reset with
    arbs := (a.arbs.keep fun n _ => decide (22 ≤ n) && decide (n ≤ 28)).mapVals fun _ k =>
      { resetArbiter with reqs := k.reqs.mapVals fun _ r => { resetRequester with parked := r.parked } }
    waiting := a.waiting.filter fun c => c.via != .host }

/-- The power and clocks block; the planes are held. Recall and the MSS go on: a `SYS_RST#` start-up skips stages 4 and 5 (R400). -/
def PowerUnit.planeReset (p : PowerUnit) : PowerUnit :=
  { PowerUnit.reset with
    st := .inReset, rstCause := p.rstCause, porLow := p.porLow, sysLow := p.sysLow, planeLow := p.planeLow
    stages := p.stages.filter fun n => n == 4 || n == 5 }

/-- Replies to the side-band and service ports for units that the reset took: what was asked for did not come about
(notes/assumptions/48.md). -/
def State.endSideReplies (hs : List Held) (s : State) : State :=
  (hs.filter fun h => h.via != .host).foldl (fun s h => s.postReply { h with status := stOutOfService }) s

/-- A ledger, generation-table or checkpoint record that was taken completes; the record of an MSS request runs on. -/
def State.finishTaken (s : State) : State :=
  match s.kp.cu with
  | some (.mss .., _) | some (.refresh .., _) | none => s
  | some _ => s.tearRecord true

/-- A response under way has nothing left to clear; a SCOUR's shares go in any case, and the MSS is let go (R327, R345). -/
def State.cutResponse (s : State) : State :=
  let s := if s.tmp.level = 3 ∧ s.tmp.canary ≠ .scoured then s.eraseShares else s
  let s := { s with tmp := { s.tmp with stage := .idle } }
  if s.mss.st = .down then { s with mss := { s.mss with st := .booting } } else s

/-- The MSS loses what it held for the planes: host commands, both core sets (R402). -/
def MssUnit.planeReset (m : MssUnit) : MssUnit :=
  { m with setA := none, setB := none, forwarded := [], reboot := none
           running := match m.running with | some (.host, _) => none | r => r }

/-- The control and data planes, the Skein ports and the card slot are reset (R397). -/
def State.resetPlanes (s : State) : State :=
  let side := s.arb.leaving.map Prod.snd ++ s.arb.returning.map Prod.snd
  let s := s.finishTaken
  let s := { s with
    gctl := s.gctl.planeReset, queues := [], epochBase := 0, domains := [], led := .reset, ru := .reset, spn := .reset
    sl := .reset, dig := .reset, ks := s.ks.planeReset, arb := s.arb.planeReset, mem := .reset, skn := .reset
    card := { CardUnit.reset with v18 := s.card.v18 }, pwr := s.pwr.planeReset
    kp := { s.kp with queue := s.kp.queue.filter fun r => match r with | .mss .. | .refresh .. => true | _ => false } }
  let s := ((s.cutResponse).endHandover 3 stHandoverAborted).endSideReplies side
  { s with mss := s.mss.planeReset, gctl := { s.gctl with evtStat := 0 } }

/-! ## Start (R396, R400) -/

/-- The planes start: monitors armed, PLLs started, SKN_HEAD sampled (R265, R400 stage 1). -/
def State.startPlanes (sknHead : Bool) (s : State) : State :=
  let s := { s with pwr := { s.pwr with st := .active, stages := 1 :: s.pwr.stages }, skn := { s.skn with head := sknHead } }
  s.pruneShares.startDwell

/-- No reset holds the planes any more. -/
def State.released (s : State) : Bool := s.pwr.st == .inReset && !s.pwr.porLow && !s.pwr.sysLow && !s.pwr.planeLow

/-- A reset that acts as `SYS_RST#` does: noted and logged. -/
def State.sysReset (bit kind : Nat) (s : State) : State := (s.resetPlanes.causeBit bit).logReset kind

/-- Main power and the planes are there to be reset. -/
def State.mainPower (s : State) : Bool := s.pwr.st != .backup && !s.pwr.porLow

/-- SYS_RST. -/
def sysRstEvent (s : State) : State :=
  if !s.mainPower || s.pwr.sysLow then s else ({ s with pwr := { s.pwr with sysLow := true } }).sysReset rcSys rkSys

/-- SYS_RST_RELEASE. -/
def sysReleaseEvent (sknHead : Bool) (s : State) : State :=
  if !s.pwr.sysLow then s
  else
    let s := { s with pwr := { s.pwr with sysLow := false } }
    if s.released then s.startPlanes sknHead else s

/-- PLANE_SUPPLY_RESET. -/
def supplyResetEvent (s : State) : State :=
  if !s.mainPower || s.pwr.planeLow then s else ({ s with pwr := { s.pwr with planeLow := true } }).sysReset rcSys rkSupply

/-- PLANE_SUPPLY_RESET_RELEASE. -/
def supplyReleaseEvent (sknHead : Bool) (s : State) : State :=
  if !s.pwr.planeLow then s
  else
    let s := { s with pwr := { s.pwr with planeLow := false } }
    if s.released then s.startPlanes sknHead else s

/-- LIFECYCLE_PLANE_RESET: step 5 of R341. -/
def lifeResetEvent (s : State) : State :=
  if !s.life.resetDue || !s.mainPower then s
  else
    let head := s.skn.head
    let s := ({ s with life := { s.life with resetDue := false } }).sysReset rcLc rkLife
    if s.released then s.startPlanes head else s

/-! ## Power-on reset and power failure (R98, R310, R337, R389, R397) -/

/-- The MSS at a power-on reset: everything but the level of SVC_EN. `TMP_COUNT` and `TMP_TEST` take the 0 of their Reset column, where
R346's prose keeps every value of its block (DESIGN CHOICE, notes/assumptions/61.md). -/
def State.resetMssFully (s : State) : State :=
  { s with
    mss := { MssUnit.reset with svcEn := s.mss.svcEn }
    life := { s.life with challenge := none, resetDue := false }
    tmp := { s.tmp with
      release := none, releasing := false, tests := [], testing := false, suppressed := none, testFailed := false, dwell := false
      count := 0, testFails := 0, lastTest := 0 }
    kp := { s.kp with posts := [], postsLost := 0, regionFails := [] }
    arb := { s.arb with arbs := [], waiting := [] } }

/-- Everything but the backup domain, the FeRAM and the flash is reset. -/
def State.resetAll (whole : Bool) (s : State) : State :=
  let s := { s with mss := { s.mss with running := none } }
  let s := ((s.stopKeeper whole).resetPlanes).resetMssFully
  { s with pwr := { s.pwr with rstCause := 1, porLow := true, stages := [] }
           gctl := { s.gctl with recalling := true }, kp := { s.kp with stage := 0 } }

/-- POR: VDD_MSS falls. -/
def porEvent (s : State) : State := if s.mainPower then s.resetAll true else s

/-- BBRAM loses its contents: shares, configuration, event store, device time and the level (R300, R337,
notes/assumptions/49.md). -/
def State.loseBackup (s : State) : State :=
  { s with
    gctl := { s.gctl with time := 0, slew := 0 }
    ks := { s.ks with shares := [] }
    tmp := { Tamper.reset with canary := .lost } }

/-- POWER_FAILURE: what started in the keeper die ends on VHOLD, the planes and the MSS are off, the backup domain alone runs. -/
def powerFailEvent (vholdInSpec cellPresent : Bool) (s : State) : State :=
  if s.pwr.st = .backup then s
  else
    let s := s.resetAll vholdInSpec
    let s := { s with pwr := { s.pwr with st := .backup, sysLow := false, planeLow := false }, mss := { s.mss with st := .off }
                      kp := { s.kp with powered := false, tripped := true } }
    if cellPresent then s else s.loseBackup

/-- The tamper configuration is checked at a start (R322, R337). -/
def State.checkBackup (s : State) : State :=
  let dflt (s : State) : State := { s with tmp := { s.tmp with cfg := defaultTamper } }
  let b := leBytes 64 s.tmp.cfg.toNat
  if s.tmp.canary = .lost then dflt (s.log 0x0015 3 3 [])
  else if leAt b 60 4 = (crc32 (slice b 0 60)).toNat then s
  else dflt (s.log 0x0016 3 2 [])

/-- POR_RELEASE: recall begins, the MSS ROM waits for it, the planes start unless another reset holds them. Where main power was
gone, VHOLD came up before it (R388). -/
def porReleaseEvent (sknHead v18 : Bool) (s : State) : State :=
  if !s.pwr.porLow then s
  else
    let off := s.pwr.st == .backup
    let s := s.beginRecall
    let s := { s with
      pwr := { s.pwr with porLow := false, st := .inReset }, card := { s.card with v18 }
      mss := { s.mss with st := .booting }, kp := { s.kp with tripped := s.kp.tripped && !off } }
    let s := (s.checkBackup).logReset rkPor
    if s.released then s.startPlanes sknHead else s

/-! ## Link resets (R63, R396, R399) -/

/-- `PERST#` and Function Level Reset act on the queues and the link. -/
def State.linkReset (bit kind : Nat) (s : State) : State := ((s.endAllQueues.resetLink).causeBit bit).logReset kind

/-- PERST. -/
def perstEvent (s : State) : State :=
  if s.gctl.perstLow then s
  else
    let s := { s with gctl := { s.gctl with perstLow := true, linkWidth := 0, linkRate := 0 } }
    if s.planesHeld then s else s.linkReset rcPerst rkPerst

/-- The link trains once the PLLs run and `PERST#` is high (R399, R400 stage 2). -/
def State.trainLink (s : State) : State :=
  if !s.gctl.perstLow && s.pwr.stages.contains 2 then
    { s with gctl := { s.gctl with linkWidth := Config.linkWidth, linkRate := Config.linkRate } }
  else s

/-- PERST_RELEASE: a rise is ignored until POR has released, and then link training begins (R399). -/
def perstReleaseEvent (s : State) : State := ({ s with gctl := { s.gctl with perstLow := false } }).trainLink

/-- FUNCTION_LEVEL_RESET. -/
def flrEvent (s : State) : State := if s.planesHeld || s.gctl.perstLow then s else s.linkReset rcFlr rkFlr

/-! ## The rows -/

/-- Step 5 of a life-cycle transition. -/
def execLifecyclePlaneReset (s : State) : Host.Outcome State Fault Refusal := .next (lifeResetEvent s)

/-- POR is asserted. -/
def execPor (s : State) : Host.Outcome State Fault Refusal := .next (porEvent s)

/-- POR is released. -/
def execPorRelease (sknHead v18 : Bool) (s : State) : Host.Outcome State Fault Refusal := .next (porReleaseEvent sknHead v18 s)

/-- The plane supply reset is asserted. -/
def execPlaneSupplyReset (s : State) : Host.Outcome State Fault Refusal := .next (supplyResetEvent s)

/-- The plane supply reset is released. -/
def execPlaneSupplyResetRelease (sknHead : Bool) (s : State) : Host.Outcome State Fault Refusal :=
  .next (supplyReleaseEvent sknHead s)

/-- `SYS_RST#` falls. -/
def execSysRst (s : State) : Host.Outcome State Fault Refusal := .next (sysRstEvent s)

/-- `SYS_RST#` rises. -/
def execSysRstRelease (sknHead : Bool) (s : State) : Host.Outcome State Fault Refusal := .next (sysReleaseEvent sknHead s)

/-- `PERST#` falls. -/
def execPerst (s : State) : Host.Outcome State Fault Refusal := .next (perstEvent s)

/-- `PERST#` rises. -/
def execPerstRelease (s : State) : Host.Outcome State Fault Refusal := .next (perstReleaseEvent s)

/-- Function Level Reset. -/
def execFunctionLevelReset (s : State) : Host.Outcome State Fault Refusal := .next (flrEvent s)

/-- Main power fails. -/
def execPowerFailure (vholdInSpec cellPresent : Bool) (s : State) : Host.Outcome State Fault Refusal :=
  .next (powerFailEvent vholdInSpec cellPresent s)

end Sys2Proof.Machine
end

