-- ==== Sys2Proof/Machine/StartUp.lean ====
section
/-! DEFINITION. Start-up (R400, R401): PLLs, the entropy and spindle tests, the root and the memory keys, the DRAM, the control plane,
the archive, the recovery of the ledger (R99, R137) and READY. -/

namespace Sys2Proof.Machine

/-- A stage of start-up has ended. -/
def State.done (s : State) (n : Nat) : Bool := s.pwr.stages.contains n

/-- A stage may end now: the planes run, no level is in force (R333, R401), its predecessors have ended and it has not. -/
def State.due (s : State) (n : Nat) (after : List Nat) : Bool :=
  s.pwr.st == .active && s.tmp.level == 0 && after.all s.done && !s.done n

/-! ## PLLs (R391) -/

/-- The monitor source of a PLL (R320). -/
def pllSource : Pll → BitVec 5
  | .core => 8 | .memory => 10 | .skein => 12

/-- A PLL's output is used. -/
def PowerUnit.usePll (p : PowerUnit) : Pll → PowerUnit
  | .core => { p with corePll := true }
  | .memory => { p with memPll := true }
  | .skein => { p with sknPll := true }

/-- Stage 2 ends with the core and the memory PLL in use; the link trains, the spindles run their known-answer tests (the last started is
SP39: DESIGN CHOICE, notes/assumptions/79.md), and a start-up of `SYS_RST#`, whose MSS runs, begins the
monitor tests (R400). -/
def State.pllsUp (s : State) : State :=
  if s.pwr.st == .active && s.pwr.corePll && s.pwr.memPll && !s.done 2 then
    let s := (s.stage 2).trainLink
    let s := { s with spn := { s.spn with katRunning := true, katSpindle := 39 } }
    if s.done 5 then s.startTests else s
  else s

/-- PLL_START_CHECK. -/
def pllCheck (pll : Pll) (locked : Bool) (s : State) : State :=
  if s.planesHeld then s
  else if locked then ({ s with pwr := s.pwr.usePll pll }).pllsUp
  else alarmEvent (pllSource pll) 0 s

/-! ## Stage 3 (R157, R233, R235) -/

/-- A spindle's start-up test ends. -/
def State.katAtStart (pass : Nat → Bool) (s : State) (n : Nat) : State :=
  let p := s.spindle n
  if pass n then s.setSpindle n { p with svc := .inService }
  else (s.setSpindle n { p with svc := .out, why := BitVec.ofNat 3 causeTest, katFails := satAdd p.katFails 1 }).serviceChange
    (spindleCode n) causeTest false

/-- ENTROPY_STARTUP_TESTS_END. -/
def testsAtStart (entropyOk : Bool) (kats : BitVec 40) (s : State) : State :=
  if s.pwr.st != .active || !s.done 2 || s.done 3 then s
  else
    let s := { s with ks := { s.ks with entIn := entropyOk, seeded := entropyOk, outputs := 0 } }
    let s := if entropyOk then s else s.serviceChange 0x52 causeEntropy false
    let s := (List.range 40).foldl (State.katAtStart fun n => kats.getLsbD n) s
    ({ s with spn := { s.spn with katPass := kats == BitVec.allOnes 40, katRunning := false } }).stage 3

/-! ## Stages 7 and 8 (R213, R214, R217) -/

/-- The test root's share is made at the first power-up in FAB (R213). -/
def State.firstShare (s : State) : State :=
  if s.life.count = 0 ∧ s.share.isNone ∧ s.tmp.canary = .blank then s.makeShare 1 else s

/-- ROOT_DERIVE: root, mnonce and memory keys, with a working entropy source (R401). -/
def rootEvent (s : State) : State :=
  if s.due 7 [3, 6] && s.entropyOk then (s.firstShare.deriveRoot.deriveMemoryKeys).stage 7 else s

/-- DRAM_TRAINING_END: a failure is logged, and the start-up stops before stage 10 (R401). -/
def trainingEnd (trained : Bool) (s : State) : State :=
  if !s.due 8 [7] then s
  else if trained then { s with mem := { s.mem with trained := true } }
  else
    let r := Config.trainingRecord
    s.log r.1 r.2.1 r.2.2.1 (leBytes 32 r.2.2.2.toNat)

/-- DRAM_INIT_END. -/
def initEnd (s : State) : State :=
  if s.due 8 [7] && s.mem.trained then ({ s with mem := { s.mem with inited := true, selfRefresh := false } }).stage 8 else s

/-! ## Stage 9 (R362, R401) -/

/-- A bank of the control plane is loaded into both sets. -/
def State.loadSets (b : Bool) (s : State) : State :=
  let r := s.loaded b
  (((s.setImage false r).setImage true r).logBoot 1 0 b none).logBoot 1 1 b none

/-- CONTROL_PLANE_BOOT: the active bank, or the other where that is STAGED or ACTIVE. -/
def bootEvent (s : State) : State :=
  if !s.due 9 [6] || s.mss.st != .running then s
  else
    let r := s.mss.boot
    match s.imageCheck 1 r.cpB with
    | none => (s.loadSets r.cpB).stage 9
    | some f =>
      let s := s.logBoot 1 0 r.cpB (some f)
      let other := r.state (bankNo 1 !r.cpB)
      if other ≠ 1 ∧ other ≠ 2 then s
      else match s.imageCheck 1 (!r.cpB) with
        | none =>
          let r' := (r.mark (bankNo 1 r.cpB) 3).mark (bankNo 1 !r.cpB) 2
          ((s.writeBoot { r' with cpB := !r.cpB }).loadSets (!r.cpB)).stage 9
        | some g => s.logBoot 1 0 (!r.cpB) (some g)

/-! ## Stage 10 -/

/-- ARCHIVE_LOAD. -/
def archiveEvent (s : State) : State := if s.due 10 [8] && s.keeperUp then (s.loadArchive.seatSaves).stage 10 else s

/-! ## Stage 11: the recovery of the ledger (R99, R137) -/

/-- The record of a slot of the commit ring in a bank. -/
def Keeper.ringRecord (k : Keeper) (bank : Bool) (slot : Nat) : Option CommitRec := commitOf (k.feRead bank (128 * slot) 128)

/-- The highest commit_seq of any record in either bank; 0 for none. -/
def Keeper.topSeq (k : Keeper) : Nat :=
  ((List.range 256).flatMap fun i => ([false, true] : List Bool).filterMap fun b => (k.ringRecord b i).map (·.seq)).foldl max 0

/-- The candidates: bank 0's record of the highest sequence, then bank 1's. -/
def Keeper.candidates (k : Keeper) : List CommitRec :=
  ([false, true] : List Bool).filterMap fun b => (k.ringRecord b (k.topSeq % 256)).filter fun r => r.seq == k.topSeq

/-- Two candidates that differ are logged (R99, R313). -/
def State.logCandidates (cs : List CommitRec) (s : State) : State :=
  match cs with
  | [a, b] => if a = b then s else s.logConflict (commitOff a.seq)
  | _ => s

/-- The durable record that the ledger goes on from: its chain position, its checkpoint and its flags (R97, R99). -/
def State.adopt (r : CommitRec) (s : State) : State :=
  { s with
    led := { s.led with
      durable := r, lastRec := r, haveDurable := true, strip := s.led.strip || r.strip, scour := s.led.scour || r.scour
      totals := s.led.totals || r.totals }
    ru := { s.ru with
      jrn := { s.ru.jrn with seq := r.jseq, head := r.head, written := r.jseq, ack := 0 }, ckptDone := r.ckpt, ckptNext := r.ckpt + 1 } }

/-- The roots are gone with their shares (R137, R331, R337): no rebuild is possible and SCOUR is in force. -/
def State.rootsLost (s : State) : Bool := (s.tmp.canary == .scoured || s.tmp.canary == .lost) && s.share.isNone

/-- The recovery group with the flags in force, and the marks it sets anew (R93, R99, R101). -/
def State.recoveryGroup (tot : Totals) (s : State) : State :=
  let marks := s.led.totals || s.led.scour
  { s with led := { s.led with group := { s.led.group with
      recovery := true, mark := s.led.group.mark || marks, setTotals := if s.deviceFrozen then some tot else none } } }

/-- recover_ledger of R99, up to the rebuild that the host drives. -/
def State.recoverLedger (s : State) : State :=
  let cs := s.kp.candidates
  let s := s.logCandidates cs
  match cs with
  | [] => if s.rootsLost then { s with led := { s.led with scour := true } }.recoveryGroup zeroTotals
    else if s.deviceFrozen then s.recoveryGroup zeroTotals else s
  | first :: _ =>
    match cs.find? (·.tot.sound) with
    | none => ({ (s.adopt first) with led := { (s.adopt first).led with totals := true } }).recoveryGroup first.tot
    | some r =>
      let s := s.adopt r
      if s.rootsLost then ({ s with led := { s.led with scour := true } }).recoveryGroup r.tot
      else if s.journalKey.isSome then { s with ru := { s.ru with rb := { s.ru.rb with needed := true } } }
      else s.finishRecovery

/-- A stored curve record is loaded again and checked; one that fails is marked invalid (R169). -/
def State.reloadCurve (s : State) (slot : Nat) : State :=
  match s.kp.records.find (curveKey slot) with
  | none => s
  | some bs =>
    let ok := curveCheck s.ks.draws (BitVec.ofNat 8 slot) bs == 0
    let s := (s.drawn 128).countIdle false
    let s := { s with spn := { s.spn with curves := s.spn.curves.put slot { cv := curveOf bs, valid := ok } } }
    if ok then s else s.log 0x0034 1 2 [BitVec.ofNat 8 slot]

/-- Curve checks run in every state but SPENT. -/
def State.reloadCurves (s : State) : State := if s.life.count = 5 then s else ([1, 2, 3, 4] : List Nat).foldl State.reloadCurve s

/-- LEDGER_RECOVERY. The recovery is complete with it unless a rebuild is needed, which `REBUILD_END` completes (R99, R103). -/
def recoveryEvent (s : State) : State :=
  if s.due 11 [9, 10] && s.keeperUp then
    let s := s.recoverLedger.reloadCurves.loadCluster
    ({ s with led := { s.led with recovered := !s.ru.rb.needed } }).stage 11
  else s

/-! ## Stage 12 -/

/-- STARTUP_READY. -/
def readyEvent (s : State) : State :=
  if s.due 12 [11] && !s.gctl.ready then
    let s := ({ s with gctl := { s.gctl with ready := true } }).stage 12
    s.log 0x0002 0 0 ([BitVec.ofNat 8 s.life.count.toNat] ++ releaseBytes s.mss.setA ++ releaseBytes s.mss.setB)
  else s

/-! ## The rows -/

/-- A PLL is checked. -/
def execPllStartCheck (pll : Pll) (locked : Bool) (s : State) : Host.Outcome State Fault Refusal := .next (pllCheck pll locked s)

/-- The start-up tests of entropy source and spindles end. -/
def execEntropyStartupTestsEnd (entropyOk : Bool) (kats : BitVec 40) (s : State) : Host.Outcome State Fault Refusal :=
  .next (testsAtStart entropyOk kats s)

/-- The root is derived. -/
def execRootDerive (s : State) : Host.Outcome State Fault Refusal := .next (rootEvent s)

/-- DRAM training ends. -/
def execDramTrainingEnd (trained : Bool) (s : State) : Host.Outcome State Fault Refusal := .next (trainingEnd trained s)

/-- DRAM initialisation ends. -/
def execDramInitEnd (s : State) : Host.Outcome State Fault Refusal := .next (initEnd s)

/-- The control plane boots. -/
def execControlPlaneBoot (s : State) : Host.Outcome State Fault Refusal := .next (bootEvent s)

/-- The archive is loaded. -/
def execArchiveLoad (s : State) : Host.Outcome State Fault Refusal := .next (archiveEvent s)

/-- The ledger recovers. -/
def execLedgerRecovery (s : State) : Host.Outcome State Fault Refusal := .next (recoveryEvent s)

/-- READY is set. -/
def execStartupReady (s : State) : Host.Outcome State Fault Refusal := .next (readyEvent s)

end Sys2Proof.Machine
end

