-- ==== Sys2Proof/Machine/Power.lean ====
section
/-! DEFINITION. IDLE and DOZE (R392 to R395) and the data-plane reset (R398). -/

namespace Sys2Proof.Machine

/-! ## IDLE (R391, R392) -/

/-- A unit has a request: a packet holds it, or a job runs on it. -/
def State.busy (s : State) (u : Nat) : Bool :=
  (s.queues.any fun p => p.2.inflight.any fun f => f.holds u) ||
  (decide (0x20 ≤ u) && decide (u < 0x48) && !(s.spindle (u - 0x20)).jobsHeld.isEmpty) ||
  (u == 0x50 && !s.sl.runs.isEmpty) || (u == 0x51 && !s.dig.runs.isEmpty)

/-- IDLE_ENTRY: the clock of a unit without a request is gated; it is started again ahead of the unit's next use, at no cost. -/
def idleEvent (u : Byte) (s : State) : State :=
  let idle := s.pwr.idle.filter fun v => !s.busy v.toNat
  { s with pwr := { s.pwr with idle := if s.busy u.toNat || idle.contains u then idle else idle ++ [u] } }

/-! ## DOZE (R393, R394) -/

/-- No queue has an unfetched packet or a packet in flight. -/
def State.queuesQuiet (s : State) : Bool :=
  s.queues.all fun p => p.2.st == .absent || (p.2.unfetched == 0 && p.2.inflight.isEmpty)

/-- No lock exists, no commit group holds a change, no FeRAM record runs. -/
def State.ledgerQuiet (s : State) : Bool :=
  s.led.locks.isEmpty && !s.led.group.change && !s.led.group.force && s.led.waiting.isNone && s.kp.cu.isNone

/-- No checkpoint, rebuild, handover, data-plane reset or card command runs, and no spindle holds a job. -/
def State.workQuiet (s : State) : Bool :=
  s.ru.ckpt.isNone && !s.ru.rb.begun && s.mss.ho.isNone && !s.pwr.dpReset && s.card.op.isNone &&
  s.spn.sp.toList.all fun p => p.jobsHeld.isEmpty

/-- The level is 0 and no unit is under test. -/
def State.testsQuiet (s : State) : Bool :=
  s.tmp.level == 0 && !s.ks.entTesting && s.gctl.ready && s.spn.sp.toList.all fun p => p.svc != .testing

/-- The device may enter DOZE. -/
def State.mayDoze (s : State) : Bool :=
  s.pwr.dozePend && s.pwr.st == .active && s.queuesQuiet && s.ledgerQuiet && s.workQuiet && s.testsQuiet

/-- The first frame boundary at or after a cycle. -/
def frameFrom (t : Nat) : Nat := (t + 1023) / 1024 * 1024

/-- A port at its low rate. -/
def SkPort.slow (p : SkPort) : SkPort := if p.st = .up then { p with st := .lowRate } else p

/-- DOZE_ENTRY. -/
def dozeEvent (s : State) : State :=
  if !s.mayDoze then s
  else
    let s := s.advanceTo (frameFrom (s.now + 256))
    { s with
      pwr := { s.pwr with
        st := .doze, dozePend := false, dozeCnt := satAdd s.pwr.dozeCnt 1, corePll := false, memPll := false, sknPll := false }
      mem := { s.mem with selfRefresh := true }
      gctl := { s.gctl with linkWidth := min s.gctl.linkWidth 1, linkRate := min s.gctl.linkRate 1 }
      skn := { s.skn with east := s.skn.east.slow, west := s.skn.west.slow } }

/-- DOZE_WAKE: a wake source starts the PLLs; BAR writes are held (R394). -/
def wakeEvent (src : WakeSrc) (s : State) : State :=
  if !s.asleep then s
  else match src with
    | .bar0Write addr v => s.holdAccess (.bar0 addr v) (if addr = 0xE004 ∧ v.getLsbD 0 = false then 7 else 1)
    | .bar2Write addr v => s.holdAccess (.bar2 addr v) 1
    | .bar4Write addr v => s.holdAccess (.bar4 addr v) 1
    | .bar0Read => s.wake 2
    | .skein => s.wake 3
    | .card => s.wake 4
    | .tamper => s.wake 5
    | .mss => s.wake 6
    | .dozeCleared => s.holdAccess (.bar0 0xE004 0) 7

/-- A held access is carried out. -/
def State.applyHeld (s : State) (w : HeldWrite) : State :=
  match w with
  | .read0 addr => s.readNow addr.toNat
  | .bar0 addr v => s.regWrite addr.toNat v
  | .bar2 off v => s.bar2 off v
  | .bar4 addr v => s.bar4 addr v

/-- DOZE_WAKE_END: 2,048 cycles after the PLLs are in use (R391, R394). -/
def wakeEnd (s : State) : State :=
  if s.pwr.st != .waking || !s.pwr.corePll || !s.pwr.memPll then s
  else
    let held := s.pwr.heldWrites
    let s := s.advanceTo (s.now + 2048)
    let s := { s with
      pwr := { s.pwr with st := .active, doze := false, dozePend := false, heldWrites := [] }
      mem := { s.mem with selfRefresh := false } }
    held.foldl State.applyHeld s.trainLink

/-! ## The data-plane reset (R398) -/

/-- No packet has been dispatched without its reply. -/
def State.answeredAll (s : State) : Bool :=
  s.queues.all fun p => p.2.inflight.all fun f => match f.stage with | .dispatched _ => false | _ => true

/-- Step 3: write-back buffer and pending write-through go to DRAM; the seal cache's lines are written back. -/
def State.flushPlanes (s : State) : State :=
  { s with
    ru := { s.ru with reg := { s.ru.reg.settled with buckets := s.ru.reg.settled.allBuckets, wbuf := [], ops := 0 } }
    led := { s.led with dram := s.led.pools, pendingWt := [], refused := 0 } }

/-- A spindle is reset: cleared, its program and entropy gone, and under test (R157). -/
def Spindle.dataReset (p : Spindle) : Spindle :=
  { resetSpindle with
    svc := if p.svc = .out then .out else .testing, why := if p.svc = .out then p.why else BitVec.ofNat 3 causeTest }

/-- Step 4: the units are reset; seal contexts stay, digest contexts close (R397). What was kept in the units' counters starts again
(notes/assumptions/50.md). -/
def State.resetUnits (s : State) : State :=
  { s with
    sl := { SealUnit.reset with ctxs := s.sl.ctxs, sd := s.sl.sd, dsel := s.sl.dsel }
    dig := .reset
    spn := { s.spn with
      sp := s.spn.sp.map Spindle.dataReset, signParked := [], verifyParked := [], ran := [], katRunning := true, katSpindle := 39 } }

/-- The record of a pool is not delivered to the ledger: its read from the pool table fails the integrity check (R12). The manual does
not say what the ledger holds then: no record of the pool (DESIGN CHOICE, notes/assumptions/50.md). -/
def State.losePool (n : PoolId) (s : State) : State :=
  ({ s with led := { s.led with pools := s.led.pools.del n.toNat } }).memAuth (Config.dramAddress 3 n.toNat)

/-- DATA_PLANE_DRAIN_END: steps 3 to 6, 69,760 cycles. -/
def dataResetEvent (bad : Option PoolId) (s : State) : State :=
  if !s.pwr.dpReset || !s.answeredAll then s
  else
    let s := (s.flushPlanes.resetUnits.clearArbiters 9 17).advanceTo (s.now + 69760)
    let s := ({ s with pwr := { s.pwr with dpReset := false } }).causeBit rcDp
    let s := match bad with | some n => s.losePool n | none => s
    s.log 0x0003 0 1 [0, 0]

/-! ## The rows -/

/-- A unit becomes idle. -/
def execIdleEntry (unit : Byte) (s : State) : Host.Outcome State Fault Refusal := .next (idleEvent unit s)

/-- DOZE is entered. -/
def execDozeEntry (s : State) : Host.Outcome State Fault Refusal := .next (dozeEvent s)

/-- A wake source. -/
def execDozeWake (src : WakeSrc) (s : State) : Host.Outcome State Fault Refusal := .next (wakeEvent src s)

/-- The wake ends. -/
def execDozeWakeEnd (s : State) : Host.Outcome State Fault Refusal := .next (wakeEnd s)

/-- The data-plane reset runs on from its drain. -/
def execDataPlaneDrainEnd (s : State) (bad : Option PoolId := none) : Host.Outcome State Fault Refusal := .next (dataResetEvent bad s)

end Sys2Proof.Machine
end

