-- ==== Sys2Proof/Machine/Resuming.lean ====
section
/-! DEFINITION. The end of a spindle job (R150), and the firmware commands that go on when one of their programs has ended (R143, R155,
R168, R230). -/

namespace Sys2Proof.Machine

/-- The body of a firmware command that has programs run on spindles. -/
def partBody (p : Packet) : Option (Ctx → State → Out) :=
  match p.opcode.toNat with
  | 0x0201 => some poolCreateRecoverBody
  | 0x0202 => some poolLoadBody
  | 0x0209 => some poolFreezeRecoveryBody
  | 0x020F => some ledgerAuditTotalsBody
  | 0x0210 => some writeOffBody
  | 0x0301 => some (admitBody false)
  | 0x0503 => some pubkeyLoadBody
  | 0x0506 => some curveLoadLoadBody
  | 0x0701 => some keyLoadBody
  | 0x0702 => some keyGenerateBody
  | 0x0704 => some keyReplaceBody
  | _ => none

/-- A firmware command goes on after a program of its: the next one is requested, or what is left of the command is carried out, on the
state of that moment. -/
def State.partDone (c : Cmd) (rest : List Part) (cyc : Nat) (s : State) : State :=
  match s.resumed c, partBody c.pkt with
  | some x, some body =>
    match rest with
    | p :: more => s.requestPart x (cyc + p.len) p more
    | [] =>
      let o := body x s
      { o with s := { o.s with spn := { o.s.spn with ran := [] } } }.finish x
  | _, _ => s

/-- A spindle job's occupancy ends (R150), unless a save or restore is in progress. -/
def spindleJobEndEvent (n : Nat) (glitch : BitVec 512) (s : State) : State :=
  let p := s.spindle n
  if p.taking.isSome || p.restoring then s
  else match p.job with
    | some j => match j.what with
      | .part c rest => ((s.countJob n).freeSpindle n).partDone c rest j.cyc
      | _ => s.jobEnd n glitch false
    | none => s

/-- A spindle job's end. -/
def execSpindleJobEnd (sp : BitVec 6) (glitch : BitVec 512) (s : State) : Host.Outcome State Fault Refusal :=
  onSpindle sp (spindleJobEndEvent sp.toNat glitch) s

end Sys2Proof.Machine
end

