-- ==== Sys2Proof/Machine/Dispatch.lean ====
section
/-! DEFINITION. Which meaning each command runs: one arm for each constructor of `Instr`. -/

namespace Sys2Proof.Machine

def exec (i : Instr) (s : State) : Host.Outcome State Fault Refusal :=
  match i with
  | .nop c => Sys2Proof.Machine.execNop c s
  | .queueCreate c => Sys2Proof.Machine.execQueueCreate c s
  | .queueDelete c => Sys2Proof.Machine.execQueueDelete c s
  | .queueReset c => Sys2Proof.Machine.execQueueReset c s
  | .domainConfig c => Sys2Proof.Machine.execDomainConfig c s
  | .getInfo c => Sys2Proof.Machine.execGetInfo c s
  | .timeSet c => Sys2Proof.Machine.execTimeSet c s
  | .lockAcquire c => Sys2Proof.Machine.execLockAcquire c s
  | .lockRelease c => Sys2Proof.Machine.execLockRelease c s
  | .poolCreateNew c => Sys2Proof.Machine.execPoolCreateNew c s
  | .poolCreateRecover c => Sys2Proof.Machine.execPoolCreateRecover c s
  | .poolLoad c => Sys2Proof.Machine.execPoolLoad c s
  | .issue c => Sys2Proof.Machine.execIssue c s
  | .spoil c => Sys2Proof.Machine.execSpoil c s
  | .void c => Sys2Proof.Machine.execVoid c s
  | .reclaim c => Sys2Proof.Machine.execReclaim c s
  | .poolQuery c => Sys2Proof.Machine.execPoolQuery c s
  | .poolFreezeSet c => Sys2Proof.Machine.execPoolFreezeSet c s
  | .poolFreezeClear c => Sys2Proof.Machine.execPoolFreezeClear c s
  | .poolFreezeRecovery c => Sys2Proof.Machine.execPoolFreezeRecovery c s
  | .poolRetire c => Sys2Proof.Machine.execPoolRetire c s
  | .exportCard c => Sys2Proof.Machine.execExportCard c s
  | .importCard c => Sys2Proof.Machine.execImportCard c s
  | .transferOut c => Sys2Proof.Machine.execTransferOut c s
  | .reconcileTransfer c => Sys2Proof.Machine.execReconcileTransfer c s
  | .reconcileSlip c => Sys2Proof.Machine.execReconcileSlip c s
  | .ledgerAuditSum c => Sys2Proof.Machine.execLedgerAuditSum c s
  | .ledgerAuditClearStrip c => Sys2Proof.Machine.execLedgerAuditClearStrip c s
  | .ledgerAuditTotals c => Sys2Proof.Machine.execLedgerAuditTotals c s
  | .writeOff c => Sys2Proof.Machine.execWriteOff c s
  | .admitSerial c => Sys2Proof.Machine.execAdmitSerial c s
  | .lookup c => Sys2Proof.Machine.execLookup c s
  | .enrolExternal c => Sys2Proof.Machine.execEnrolExternal c s
  | .checkpoint c => Sys2Proof.Machine.execCheckpoint c s
  | .rebuildBegin c => Sys2Proof.Machine.execRebuildBegin c s
  | .rebuildFeed c => Sys2Proof.Machine.execRebuildFeed c s
  | .rebuildEnd c => Sys2Proof.Machine.execRebuildEnd c s
  | .journalAck c => Sys2Proof.Machine.execJournalAck c s
  | .purgeEntry c => Sys2Proof.Machine.execPurgeEntry c s
  | .purgePool c => Sys2Proof.Machine.execPurgePool c s
  | .ctxOpen c => Sys2Proof.Machine.execCtxOpen c s
  | .sealData c => Sys2Proof.Machine.execSealData c s
  | .sealFinal c => Sys2Proof.Machine.execSealFinal c s
  | .openVerify c => Sys2Proof.Machine.execOpenVerify c s
  | .ctxSave c => Sys2Proof.Machine.execCtxSave c s
  | .ctxRestore c => Sys2Proof.Machine.execCtxRestore c s
  | .ctxClose c => Sys2Proof.Machine.execCtxClose c s
  | .sign c => Sys2Proof.Machine.execSign c s
  | .verify c => Sys2Proof.Machine.execVerify c s
  | .pubkeyLoad c => Sys2Proof.Machine.execPubkeyLoad c s
  | .bnJob c => Sys2Proof.Machine.execBnJob c s
  | .bnAbort c => Sys2Proof.Machine.execBnAbort c s
  | .curveLoadLoad c => Sys2Proof.Machine.execCurveLoadLoad c s
  | .curveLoadClear c => Sys2Proof.Machine.execCurveLoadClear c s
  | .hashInit c => Sys2Proof.Machine.execHashInit c s
  | .hashData c => Sys2Proof.Machine.execHashData c s
  | .hashFinal c => Sys2Proof.Machine.execHashFinal c s
  | .hashCompare c => Sys2Proof.Machine.execHashCompare c s
  | .hashToKey c => Sys2Proof.Machine.execHashToKey c s
  | .hashClose c => Sys2Proof.Machine.execHashClose c s
  | .keyLoadBlob c => Sys2Proof.Machine.execKeyLoadBlob c s
  | .keyGenerate c => Sys2Proof.Machine.execKeyGenerate c s
  | .keyWrapRewrap c => Sys2Proof.Machine.execKeyWrapRewrap c s
  | .keyWrapClear c => Sys2Proof.Machine.execKeyWrapClear c s
  | .keyWrapDmk c => Sys2Proof.Machine.execKeyWrapDmk c s
  | .keyReplace c => Sys2Proof.Machine.execKeyReplace c s
  | .keyInvalidateDmk c => Sys2Proof.Machine.execKeyInvalidateDmk c s
  | .keyInvalidateEntry c => Sys2Proof.Machine.execKeyInvalidateEntry c s
  | .keyInvalidateFree c => Sys2Proof.Machine.execKeyInvalidateFree c s
  | .keyEvict c => Sys2Proof.Machine.execKeyEvict c s
  | .keyQuerySlot c => Sys2Proof.Machine.execKeyQuerySlot c s
  | .keyQueryEntry c => Sys2Proof.Machine.execKeyQueryEntry c s
  | .keyQuerySummary c => Sys2Proof.Machine.execKeyQuerySummary c s
  | .nodeRegRead c => Sys2Proof.Machine.execNodeRegRead c s
  | .nodeRegWrite c => Sys2Proof.Machine.execNodeRegWrite c s
  | .mapSet c => Sys2Proof.Machine.execMapSet c s
  | .mapGet c => Sys2Proof.Machine.execMapGet c s
  | .nodeMemberAdmit c => Sys2Proof.Machine.execNodeMemberAdmit c s
  | .nodeMemberRetire c => Sys2Proof.Machine.execNodeMemberRetire c s
  | .cardInfoReport c => Sys2Proof.Machine.execCardInfoReport c s
  | .cardInfoIdentify c => Sys2Proof.Machine.execCardInfoIdentify c s
  | .cardFormat c => Sys2Proof.Machine.execCardFormat c s
  | .cardRead c => Sys2Proof.Machine.execCardRead c s
  | .cardClear c => Sys2Proof.Machine.execCardClear c s
  | .cardAudit c => Sys2Proof.Machine.execCardAudit c s
  | .sensorRead c => Sys2Proof.Machine.execSensorRead c s
  | .logRead c => Sys2Proof.Machine.execLogRead c s
  | .challenge c => Sys2Proof.Machine.execChallenge c s
  | .lifecycle c => Sys2Proof.Machine.execLifecycle c s
  | .unitServiceRemove c => Sys2Proof.Machine.execUnitServiceRemove c s
  | .unitServiceReturn c => Sys2Proof.Machine.execUnitServiceReturn c s
  | .unitServiceSpareRow c => Sys2Proof.Machine.execUnitServiceSpareRow c s
  | .enrol c => Sys2Proof.Machine.execEnrol c s
  | .tamperConfigRead c => Sys2Proof.Machine.execTamperConfigRead c s
  | .tamperConfigWrite c => Sys2Proof.Machine.execTamperConfigWrite c s
  | .tamperRelease c => Sys2Proof.Machine.execTamperRelease c s
  | .nvmRawRead c => Sys2Proof.Machine.execNvmRawRead c s
  | .nvmRawWrite c => Sys2Proof.Machine.execNvmRawWrite c s
  | .nvmPasswordSet c => Sys2Proof.Machine.execNvmPasswordSet c s
  | .keeperStatus c => Sys2Proof.Machine.execKeeperStatus c s
  | .fwStageBegin c => Sys2Proof.Machine.execFwStageBegin c s
  | .fwStageChunk c => Sys2Proof.Machine.execFwStageChunk c s
  | .fwStageEnd c => Sys2Proof.Machine.execFwStageEnd c s
  | .fwStageAbandon c => Sys2Proof.Machine.execFwStageAbandon c s
  | .fwActivateHandover c => Sys2Proof.Machine.execFwActivateHandover c s
  | .fwActivateMssReboot c => Sys2Proof.Machine.execFwActivateMssReboot c s
  | .fwActivateCommitSv c => Sys2Proof.Machine.execFwActivateCommitSv c s
  | .fwStatus c => Sys2Proof.Machine.execFwStatus c s
  | .settingGet c => Sys2Proof.Machine.execSettingGet c s
  | .settingSet c => Sys2Proof.Machine.execSettingSet c s
  | .settingDefault c => Sys2Proof.Machine.execSettingDefault c s
  | .spindleNop sp d a b m => Sys2Proof.Machine.execSpindleNop sp d a b m s
  | .add sp d a b m => Sys2Proof.Machine.execAdd sp d a b m s
  | .addc sp d a b m => Sys2Proof.Machine.execAddc sp d a b m s
  | .sub sp d a b m => Sys2Proof.Machine.execSub sp d a b m s
  | .subc sp d a b m => Sys2Proof.Machine.execSubc sp d a b m s
  | .cmp sp d a b m => Sys2Proof.Machine.execCmp sp d a b m s
  | .sel sp d a b m => Sys2Proof.Machine.execSel sp d a b m s
  | .and sp d a b m => Sys2Proof.Machine.execAnd sp d a b m s
  | .or sp d a b m => Sys2Proof.Machine.execOr sp d a b m s
  | .xor sp d a b m => Sys2Proof.Machine.execXor sp d a b m s
  | .fsr sp d a b m => Sys2Proof.Machine.execFsr sp d a b m s
  | .bit sp d a b m => Sys2Proof.Machine.execBit sp d a b m s
  | .mov sp d a b m => Sys2Proof.Machine.execMov sp d a b m s
  | .clr sp d a b m => Sys2Proof.Machine.execClr sp d a b m s
  | .ldi sp d imm => Sys2Proof.Machine.execLdi sp d imm s
  | .outw sp d a b m => Sys2Proof.Machine.execOutw sp d a b m s
  | .mul sp d a b m => Sys2Proof.Machine.execMul sp d a b m s
  | .mac sp d a b m => Sys2Proof.Machine.execMac sp d a b m s
  | .mull sp d a b m => Sys2Proof.Machine.execMull sp d a b m s
  | .macl sp d a b m => Sys2Proof.Machine.execMacl sp d a b m s
  | .accld sp d a b m => Sys2Proof.Machine.execAccld sp d a b m s
  | .accadd sp d a b m => Sys2Proof.Machine.execAccadd sp d a b m s
  | .accsh sp d a b m => Sys2Proof.Machine.execAccsh sp d a b m s
  | .acclo sp d a b m => Sys2Proof.Machine.execAcclo sp d a b m s
  | .acchi sp d a b m => Sys2Proof.Machine.execAcchi sp d a b m s
  | .accx sp d a b m => Sys2Proof.Machine.execAccx sp d a b m s
  | .setlc sp n imm => Sys2Proof.Machine.execSetlc sp n imm s
  | .loop sp n imm => Sys2Proof.Machine.execLoop sp n imm s
  | .setix sp n imm => Sys2Proof.Machine.execSetix sp n imm s
  | .addix sp n imm => Sys2Proof.Machine.execAddix sp n imm s
  | .jmp sp n imm => Sys2Proof.Machine.execJmp sp n imm s
  | .call sp n imm => Sys2Proof.Machine.execCall sp n imm s
  | .ret sp n imm => Sys2Proof.Machine.execRet sp n imm s
  | .halt sp n imm => Sys2Proof.Machine.execHalt sp n imm s
  | .rnd sp d a b m => Sys2Proof.Machine.execRnd sp d a b m s
  | .key sp d a b m => Sys2Proof.Machine.execKey sp d a b m s
  | .spindleUndefinedCode sp word => Sys2Proof.Machine.execSpindleUndefinedCode sp word s
  | .doorbellSqTail q v upper => Sys2Proof.Machine.execDoorbellSqTail q v s upper
  | .doorbellCqHead q v => Sys2Proof.Machine.execDoorbellCqHead q v s
  | .bar4DoorbellWrite addr v => Sys2Proof.Machine.execBar4DoorbellWrite addr v s
  | .gctlEnWrite en => Sys2Proof.Machine.execGctlEnWrite en s
  | .aqReset => Sys2Proof.Machine.execAqReset s
  | .evtTest => Sys2Proof.Machine.execEvtTest s
  | .jrnlEnWrite en => Sys2Proof.Machine.execJrnlEnWrite en s
  | .arbCounterClear => Sys2Proof.Machine.execArbCounterClear s
  | .starveClear => Sys2Proof.Machine.execStarveClear s
  | .msSwapRequest => Sys2Proof.Machine.execMsSwapRequest s
  | .swapE => Sys2Proof.Machine.execSwapE s
  | .swapW => Sys2Proof.Machine.execSwapW s
  | .sknEnWrite en => Sys2Proof.Machine.execSknEnWrite en s
  | .dozeRequest doze => Sys2Proof.Machine.execDozeRequest doze s
  | .dataPlaneReset key => Sys2Proof.Machine.execDataPlaneReset key s
  | .mssReset key => Sys2Proof.Machine.execMssReset key s
  | .registerWrite addr nbytes v => Sys2Proof.Machine.execRegisterWrite addr nbytes v s
  | .dbErrQRead nbytes => Sys2Proof.Machine.execDbErrQRead s nbytes
  | .ledgerRefusedRead nbytes => Sys2Proof.Machine.execLedgerRefusedRead s nbytes
  | .regStashRead nbytes => Sys2Proof.Machine.execRegStashRead s nbytes
  | .regOpsRead nbytes => Sys2Proof.Machine.execRegOpsRead s nbytes
  | .spnJobsRead nbytes => Sys2Proof.Machine.execSpnJobsRead s nbytes
  | .spnEventsRead nbytes => Sys2Proof.Machine.execSpnEventsRead s nbytes
  | .sealMissRead nbytes => Sys2Proof.Machine.execSealMissRead s nbytes
  | .sealEvtRead nbytes => Sys2Proof.Machine.execSealEvtRead s nbytes
  | .digEvtRead nbytes => Sys2Proof.Machine.execDigEvtRead s nbytes
  | .digUtilRead nbytes => Sys2Proof.Machine.execDigUtilRead s nbytes
  | .ksEvtRead nbytes => Sys2Proof.Machine.execKsEvtRead s nbytes
  | .arbWdogCntRead nbytes => Sys2Proof.Machine.execArbWdogCntRead s nbytes
  | .msEccRead nbytes => Sys2Proof.Machine.execMsEccRead s nbytes
  | .sknCensusRead nbytes => Sys2Proof.Machine.execSknCensusRead s nbytes
  | .tmpCountRead nbytes => Sys2Proof.Machine.execTmpCountRead s nbytes
  | .tmpTestRead nbytes => Sys2Proof.Machine.execTmpTestRead s nbytes
  | .cardErrsRead nbytes => Sys2Proof.Machine.execCardErrsRead s nbytes
  | .pwrDozeCntRead nbytes => Sys2Proof.Machine.execPwrDozeCntRead s nbytes
  | .gctlCycleLoRead nbytes => Sys2Proof.Machine.execGctlCycleLoRead s nbytes
  | .ledgerLoRead which nbytes => Sys2Proof.Machine.execLedgerLoRead which s nbytes
  | .regLoRead which nbytes => Sys2Proof.Machine.execRegLoRead which s nbytes
  | .sealLoRead which nbytes => Sys2Proof.Machine.execSealLoRead which s nbytes
  | .digLoRead nbytes => Sys2Proof.Machine.execDigLoRead s nbytes
  | .packetFetch q ring => Sys2Proof.Machine.execPacketFetch q ring s
  | .packetDecode q => Sys2Proof.Machine.execPacketDecode q s
  | .dispatch q => Sys2Proof.Machine.execDispatch q s
  | .hostReadCompletion q tag r => Sys2Proof.Machine.execHostReadCompletion q tag r s
  | .coalescingTimeout q => Sys2Proof.Machine.execCoalescingTimeout q s
  | .queueDrainEnd q => Sys2Proof.Machine.execQueueDrainEnd q s
  | .d3hotEntry => Sys2Proof.Machine.execD3hotEntry s
  | .d3hotExit => Sys2Proof.Machine.execD3hotExit s
  | .timeSlewEnd => Sys2Proof.Machine.execTimeSlewEnd s
  | .arbiterGrant arb arrivals accept => Sys2Proof.Machine.execArbiterGrant arb arrivals accept s
  | .starvationFlag arb req => Sys2Proof.Machine.execStarvationFlag arb req s
  | .watchdogFire w => Sys2Proof.Machine.execWatchdogFire w s
  | .commitBoundary => Sys2Proof.Machine.execCommitBoundary s
  | .commitUnitTake => Sys2Proof.Machine.execCommitUnitTake s
  | .commitBank0Written => Sys2Proof.Machine.execCommitBank0Written s
  | .commitDurable => Sys2Proof.Machine.execCommitDurable s
  | .genTableWriteDurable => Sys2Proof.Machine.execGenTableWriteDurable s
  | .checkpointRootDurable => Sys2Proof.Machine.execCheckpointRootDurable s
  | .forcedRecordRoom => Sys2Proof.Machine.execForcedRecordRoom s
  | .lockLapse pool => Sys2Proof.Machine.execLockLapse pool s
  | .registerOperation op => Sys2Proof.Machine.execRegisterOperation op s
  | .registerReadPair r => Sys2Proof.Machine.execRegisterReadPair r s
  | .registerWriteBack => Sys2Proof.Machine.execRegisterWriteBack s
  | .checkpointStagingCopy unit => Sys2Proof.Machine.execCheckpointStagingCopy unit s
  | .checkpointRootFormed => Sys2Proof.Machine.execCheckpointRootFormed s
  | .spindleJobEnd sp glitch => Sys2Proof.Machine.execSpindleJobEnd sp glitch s
  | .yieldPoint sp => Sys2Proof.Machine.execYieldPoint sp s
  | .shadowSaveEnd sp => Sys2Proof.Machine.execShadowSaveEnd sp s
  | .shadowRestoreEnd sp => Sys2Proof.Machine.execShadowRestoreEnd sp s
  | .knownAnswerTestEnd sp pass => Sys2Proof.Machine.execKnownAnswerTestEnd sp pass s
  | .entropyBufferRefill sp => Sys2Proof.Machine.execEntropyBufferRefill sp s
  | .sealBlockAdmit ctx => Sys2Proof.Machine.execSealBlockAdmit ctx s
  | .sealBlockOut => Sys2Proof.Machine.execSealBlockOut s
  | .sealTagFormed ctx => Sys2Proof.Machine.execSealTagFormed ctx s
  | .contextCacheFill ctx r => Sys2Proof.Machine.execContextCacheFill ctx r s
  | .digestBlockDone ctx => Sys2Proof.Machine.execDigestBlockDone ctx s
  | .sweepVisit => Sys2Proof.Machine.execSweepVisit s
  | .entropyHealthFail source test => Sys2Proof.Machine.execEntropyHealthFail source test s
  | .entropyReseed => Sys2Proof.Machine.execEntropyReseed s
  | .memoryTableSwap => Sys2Proof.Machine.execMemoryTableSwap s
  | .scrubRead row r => Sys2Proof.Machine.execScrubRead row r s
  | .rowSpare row => Sys2Proof.Machine.execRowSpare row s
  | .rowSpareDone row => Sys2Proof.Machine.execRowSpareDone row s
  | .skeinTrainingDone port peerSerial peerNonce => Sys2Proof.Machine.execSkeinTrainingDone port peerSerial peerNonce s
  | .skeinReconciliation port peer => Sys2Proof.Machine.execSkeinReconciliation port peer s
  | .skeinGroupReceive port gseq cipher tag => Sys2Proof.Machine.execSkeinGroupReceive port gseq cipher tag s
  | .skeinLinkFailure port cause => Sys2Proof.Machine.execSkeinLinkFailure port cause s
  | .skeinPacketReceive port p => Sys2Proof.Machine.execSkeinPacketReceive port p s
  | .skeinForward port => Sys2Proof.Machine.execSkeinForward port s
  | .censusMarker port peer => Sys2Proof.Machine.execCensusMarker port peer s
  | .ringEnumeration returned reach secondHead => Sys2Proof.Machine.execRingEnumeration returned reach secondHead s
  | .memberJoin serial number kcv => Sys2Proof.Machine.execMemberJoin serial number kcv s
  | .heartbeat port => Sys2Proof.Machine.execHeartbeat port s
  | .lowRateReturn port => Sys2Proof.Machine.execLowRateReturn port s
  | .bwTableSwap port => Sys2Proof.Machine.execBwTableSwap port s
  | .skeinRemoteHostAccess node a => Sys2Proof.Machine.execSkeinRemoteHostAccess node a s
  | .routedCommand src tag c => Sys2Proof.Machine.execRoutedCommand src tag c s
  | .routedReply tag r => Sys2Proof.Machine.execRoutedReply tag r s
  | .routedTimeout tag => Sys2Proof.Machine.execRoutedTimeout tag s
  | .transferReceive src id dom pool n => Sys2Proof.Machine.execTransferReceive src id dom pool n s
  | .transferAnswer id refused => Sys2Proof.Machine.execTransferAnswer id refused s
  | .transferTimeout id => Sys2Proof.Machine.execTransferTimeout id s
  | .transferDoneReceive id => Sys2Proof.Machine.execTransferDoneReceive id s
  | .transferQueryReceive src id => Sys2Proof.Machine.execTransferQueryReceive src id s
  | .reconcileAnswer id imported => Sys2Proof.Machine.execReconcileAnswer id imported s
  | .mapSwitch => Sys2Proof.Machine.execMapSwitch s
  | .memberUnreachable node => Sys2Proof.Machine.execMemberUnreachable node s
  | .memberRejoin node => Sys2Proof.Machine.execMemberRejoin node s
  | .cardDetectChange media => Sys2Proof.Machine.execCardDetectChange media s
  | .cardCmd1Retry ready => Sys2Proof.Machine.execCardCmd1Retry ready s
  | .cardBusyEnd status => Sys2Proof.Machine.execCardBusyEnd status s
  | .cardBusyTimeout => Sys2Proof.Machine.execCardBusyTimeout s
  | .cardReadTimeout => Sys2Proof.Machine.execCardReadTimeout s
  | .tamperAlarm src detail => Sys2Proof.Machine.execTamperAlarm src detail s
  | .tamperClearsEnd => Sys2Proof.Machine.execTamperClearsEnd s
  | .secretsErase => Sys2Proof.Machine.execSecretsErase s
  | .bbramClearPulseEnd => Sys2Proof.Machine.execBbramClearPulseEnd s
  | .contextStoreWipeBegin => Sys2Proof.Machine.execContextStoreWipeBegin s
  | .contextStoreWipeEnd => Sys2Proof.Machine.execContextStoreWipeEnd s
  | .holdSelfRelease => Sys2Proof.Machine.execHoldSelfRelease s
  | .builtInTestStart => Sys2Proof.Machine.execBuiltInTestStart s
  | .builtInTestEnd pass => Sys2Proof.Machine.execBuiltInTestEnd pass s
  | .backupAlarm src detail => Sys2Proof.Machine.execBackupAlarm src detail s
  | .lifecyclePlaneReset => Sys2Proof.Machine.execLifecyclePlaneReset s
  | .por => Sys2Proof.Machine.execPor s
  | .porRelease sknHead v18 => Sys2Proof.Machine.execPorRelease sknHead v18 s
  | .planeSupplyReset => Sys2Proof.Machine.execPlaneSupplyReset s
  | .sysRst => Sys2Proof.Machine.execSysRst s
  | .perst => Sys2Proof.Machine.execPerst s
  | .perstRelease => Sys2Proof.Machine.execPerstRelease s
  | .functionLevelReset => Sys2Proof.Machine.execFunctionLevelReset s
  | .powerFailure vholdInSpec cellPresent => Sys2Proof.Machine.execPowerFailure vholdInSpec cellPresent s
  | .vholdTrip => Sys2Proof.Machine.execVholdTrip s
  | .vholdRelease => Sys2Proof.Machine.execVholdRelease s
  | .commitDomainStop => Sys2Proof.Machine.execCommitDomainStop s
  | .commitDomainPowerUp => Sys2Proof.Machine.execCommitDomainPowerUp s
  | .mssWatchdog => Sys2Proof.Machine.execMssWatchdog s
  | .pllStartCheck pll locked => Sys2Proof.Machine.execPllStartCheck pll locked s
  | .entropyStartupTestsEnd entropyOk kats => Sys2Proof.Machine.execEntropyStartupTestsEnd entropyOk kats s
  | .recallStageEnd => Sys2Proof.Machine.execRecallStageEnd s
  | .recallEnd => Sys2Proof.Machine.execRecallEnd s
  | .mssBoot => Sys2Proof.Machine.execMssBoot s
  | .rootDerive => Sys2Proof.Machine.execRootDerive s
  | .dramTrainingEnd trained => Sys2Proof.Machine.execDramTrainingEnd trained s
  | .dramInitEnd => Sys2Proof.Machine.execDramInitEnd s
  | .controlPlaneBoot => Sys2Proof.Machine.execControlPlaneBoot s
  | .archiveLoad => Sys2Proof.Machine.execArchiveLoad s
  | .ledgerRecovery => Sys2Proof.Machine.execLedgerRecovery s
  | .startupReady => Sys2Proof.Machine.execStartupReady s
  | .dozeEntry => Sys2Proof.Machine.execDozeEntry s
  | .dozeWake src => Sys2Proof.Machine.execDozeWake src s
  | .dozeWakeEnd => Sys2Proof.Machine.execDozeWakeEnd s
  | .dataPlaneDrainEnd bad => Sys2Proof.Machine.execDataPlaneDrainEnd s bad
  | .handoverSetIdle => Sys2Proof.Machine.execHandoverSetIdle s
  | .handoverSetLoaded => Sys2Proof.Machine.execHandoverSetLoaded s
  | .mssRebootDone => Sys2Proof.Machine.execMssRebootDone s
  | .smbusMessage msg => Sys2Proof.Machine.execSmbusMessage msg s
  | .mctpControlMessage msg => Sys2Proof.Machine.execMctpControlMessage msg s
  | .mctpReassemblyTimeout => Sys2Proof.Machine.execMctpReassemblyTimeout s
  | .smbusTimeout => Sys2Proof.Machine.execSmbusTimeout s
  | .spiCommandFrame frame => Sys2Proof.Machine.execSpiCommandFrame frame s
  | .spiPollFrame => Sys2Proof.Machine.execSpiPollFrame s
  | .svcEnChange level frameOpen => Sys2Proof.Machine.execSvcEnChange level frameOpen s
  | .managementCommandTake => Sys2Proof.Machine.execManagementCommandTake s
  | .sensorSample readings => Sys2Proof.Machine.execSensorSample readings s
  | .eventLogWrite => Sys2Proof.Machine.execEventLogWrite s
  | .backupStorePost => Sys2Proof.Machine.execBackupStorePost s
  | .flashFrameWrite f => Sys2Proof.Machine.execFlashFrameWrite f s
  | .flashPageProgramDone verified => Sys2Proof.Machine.execFlashPageProgramDone verified s
  | .flashMarkerDone => Sys2Proof.Machine.execFlashMarkerDone s
  | .flashSectorReclaim area => Sys2Proof.Machine.execFlashSectorReclaim area s
  | .flashEraseDone blank => Sys2Proof.Machine.execFlashEraseDone blank s
  | .mssFeramRecord off bytes => Sys2Proof.Machine.execMssFeramRecord off bytes s
  | .operatingTimeTick => Sys2Proof.Machine.execOperatingTimeTick s
  | .timeFloorTick => Sys2Proof.Machine.execTimeFloorTick s
  | .feramScrub r => Sys2Proof.Machine.execFeramScrub r s
  | .flashScrub weak => Sys2Proof.Machine.execFlashScrub weak s
  | .sysRstRelease sknHead => Sys2Proof.Machine.execSysRstRelease sknHead s
  | .planeSupplyResetRelease sknHead => Sys2Proof.Machine.execPlaneSupplyResetRelease sknHead s
  | .sourceInactive src => Sys2Proof.Machine.execSourceInactive src s
  | .idleEntry unit => Sys2Proof.Machine.execIdleEntry unit s
  | .cardReadData crcOk => Sys2Proof.Machine.execCardReadData crcOk s
  | .sealContextWriteBack => Sys2Proof.Machine.execSealContextWriteBack s
  | .poolTableWriteThrough pool => Sys2Proof.Machine.execPoolTableWriteThrough pool s
  | .entropyRestartTestsEnd pass => Sys2Proof.Machine.execEntropyRestartTestsEnd pass s

end Sys2Proof.Machine
end

