-- ==== Sys2Proof/WellFormed.lean ====
section
/-! DEFINITION. Which commands name things the RZ7740 has: the operands of an event's row that number a unit must lie in the
unit's range (R15, R242). A packet's own fields are checked by decode (R47), never here. -/

namespace Sys2Proof

/-- The spindle a row of the spindle instruction set runs on. -/
def Instr.spindle : Instr → Option (BitVec 6)
  | .spindleNop sp _ _ _ _ | .add sp _ _ _ _ | .addc sp _ _ _ _ | .sub sp _ _ _ _ | .subc sp _ _ _ _ | .cmp sp _ _ _ _
  | .sel sp _ _ _ _ | .and sp _ _ _ _ | .or sp _ _ _ _ | .xor sp _ _ _ _ | .fsr sp _ _ _ _ | .bit sp _ _ _ _
  | .mov sp _ _ _ _ | .clr sp _ _ _ _ | .ldi sp _ _ | .outw sp _ _ _ _ | .mul sp _ _ _ _ | .mac sp _ _ _ _
  | .mull sp _ _ _ _ | .macl sp _ _ _ _ | .accld sp _ _ _ _ | .accadd sp _ _ _ _ | .accsh sp _ _ _ _
  | .acclo sp _ _ _ _ | .acchi sp _ _ _ _ | .accx sp _ _ _ _ | .setlc sp _ _ | .loop sp _ _ | .setix sp _ _
  | .addix sp _ _ | .jmp sp _ _ | .call sp _ _ | .ret sp _ _ | .halt sp _ _ | .rnd sp _ _ _ _ | .key sp _ _ _ _
  | .spindleUndefinedCode sp _ | .spindleJobEnd sp _ | .yieldPoint sp | .shadowSaveEnd sp | .shadowRestoreEnd sp
  | .knownAnswerTestEnd sp _ | .entropyBufferRefill sp => some sp
  | _ => none

/-- The arbiter a row names. -/
def Instr.arbiter : Instr → Option (BitVec 6)
  | .arbiterGrant a _ _ | .starvationFlag a _ => some a
  | .watchdogFire w => some w.arb
  | _ => none

/-- The monitor source a row names. -/
def Instr.source : Instr → Option (BitVec 5)
  | .tamperAlarm n _ | .backupAlarm n _ | .sourceInactive n => some n
  | _ => none

/-- The seal context a row names. -/
def Instr.sealCtx : Instr → Option Nat
  | .sealBlockAdmit c | .sealTagFormed c | .contextCacheFill c _ => some c
  | _ => none

/-- Every unit that the row's operands number exists. -/
def Instr.wf (i : Instr) : Bool :=
  (i.spindle.all fun n => decide (n.toNat < 40)) && (i.arbiter.all fun n => decide (n.toNat < 34)) &&
  (i.source.all fun n => decide (n.toNat < 25)) && (i.sealCtx.all fun n => decide (n < 40960))

end Sys2Proof
end

