-- ==== Sys2Proof/Safety.lean ====
section
/-! DEFINITION. The terms the claims use: a command that completes, a packet that runs on its host queue, what has been sent and
how a packet was answered, and the invariants every step keeps. -/

namespace Sys2Proof

open Sys2Proof.Machine

/-- The data a command reads: exactly `data_len` bytes (R49). -/
def Cmd.bytes (c : Cmd) : Bytes := slice c.data 0 c.pkt.dataLen.toNat

/-- The pool that handle_a names. -/
def Cmd.poolA (c : Cmd) : PoolId := BitVec.ofNat 16 (hIndex c.pkt.handleA)

/-- The spindle on which a row of the spindle's instruction set runs; none for every other command. -/
def Instr.program : Instr → Option (BitVec 6)
  | .spindleNop sp _ _ _ _ | .add sp _ _ _ _ | .addc sp _ _ _ _ | .sub sp _ _ _ _ | .subc sp _ _ _ _ | .cmp sp _ _ _ _
  | .sel sp _ _ _ _ | .and sp _ _ _ _ | .or sp _ _ _ _ | .xor sp _ _ _ _ | .fsr sp _ _ _ _ | .bit sp _ _ _ _
  | .mov sp _ _ _ _ | .clr sp _ _ _ _ | .ldi sp _ _ | .outw sp _ _ _ _ | .mul sp _ _ _ _ | .mac sp _ _ _ _
  | .mull sp _ _ _ _ | .macl sp _ _ _ _ | .accld sp _ _ _ _ | .accadd sp _ _ _ _ | .accsh sp _ _ _ _
  | .acclo sp _ _ _ _ | .acchi sp _ _ _ _ | .accx sp _ _ _ _ | .setlc sp _ _ | .loop sp _ _ | .setix sp _ _
  | .addix sp _ _ | .jmp sp _ _ | .call sp _ _ | .ret sp _ _ | .halt sp _ _ | .rnd sp _ _ _ _ | .key sp _ _ _ _
  | .spindleUndefinedCode sp _ => some sp
  | _ => none

end Sys2Proof

namespace Sys2Proof.Machine

/-- The command answers a next state, of which `P` holds. -/
def Completes (i : Instr) (s : State) (P : State → Prop) : Prop := ∃ t, exec i s = .next t ∧ P t

/-- Everything sent out since reset, with what D3hot still holds back (R25). -/
def State.sent (s : State) : List Posted := s.posted ++ s.gctl.d3held

/-- The packet of a row runs: `f` is in flight on the command's queue and dispatched, its turn has come (R45, R57), its
unit can take it (R132, R179), and for a packet that the MSS carries out the MSS is free (R349). Every check of R46 and R47 lies behind it. -/
structure Runs (op : BitVec 16) (sub : Option Byte) (c : Cmd) (s : State) (f : Fetched) : Prop where
  host : c.via = .host
  live : (s.queue c.q).st ≠ .absent
  ready : (s.queue c.q).ready (rowPacket op sub c.pkt) = some f
  turn : (s.queue c.q).ringTurn f = true
  taken : s.holdsBack (rowPacket op sub c.pkt) = false
  fresh : s.taken c.q (rowPacket op sub c.pkt) = none
  mss : forMss op = true → s.mss.st = .running ∧ s.mss.running = none

/-- The context in which the packet of a row runs. -/
def State.ctxRun (op : BitVec 16) (sub : Option Byte) (c : Cmd) (f : Fetched) (s : State) : Ctx :=
  s.ctxOf c (rowPacket op sub c.pkt) f

/-- The state in which its effect begins: the packet runs, a lock of its queue that it touches has its lease restarted (R86), and the
MSS has taken it where the MSS carries it out. -/
def State.begun (op : BitVec 16) (sub : Option Byte) (c : Cmd) (f : Fetched) (s : State) : State :=
  let s' := (s.setFetched c.q { f with running := true }).touchLock c.q (rowPacket op sub c.pkt)
  if forMss op then { s' with mss := { s'.mss with running := some (.host, (s.ctxRun op sub c f).c), begun := true } } else s'

/-- The packet's reply was posted to the completion slot reserved for it, with its tag, a status and an inline_result (R35,
R51). -/
def State.answers (t : State) (q : QId) (f : Fetched) (st : BitVec 16) (inl : BitVec 64) : Prop :=
  ∃ r : Reply, Posted.reply q f.slot r ∈ t.sent ∧ r.tag = f.pkt.tag ∧ r.status = st ∧ r.inl = inl ∧ r.phase = f.phase

/-- The packet's reply with `STATUS_OK` waits for the durability of the open commit group (R21, R94). -/
def State.answersDurable (t : State) (q : QId) (f : Fetched) (inl : BitVec 64) : Prop :=
  ∃ h : Held, After.reply h ∈ t.led.group.after ∧ h.q = q ∧ h.id = f.id ∧ h.tag = f.pkt.tag ∧ h.status = 0 ∧ h.inl = inl

/-- From `s` to `t`, the write of a generation-table entry joins the requests for the commit unit, and the packet's reply with
`STATUS_OK`, an inline_result and a result cut to `out_len` waits for its durability (R228). -/
def State.writesEntry (s t : State) (c : Cmd) (f : Fetched) (e : Nat) (val : GenEntry) (check : Option (BitVec 32)) (what : GenThen)
    (inl : BitVec 64) (out : Bytes) : Prop :=
  ∃ h : Held,
    t.kp.queue = s.kp.queue ++ [.gen { entry := e, val, check, what, after := [.reply h] }] ∧ h.q = c.q ∧ h.id = f.id ∧
    h.tag = f.pkt.tag ∧ h.status = 0 ∧ h.inl = inl ∧
    h.write = (if out = [] then none else some (c.pkt.outPtr, out.take c.pkt.outLen.toNat))

/-- The packet of a row runs on the side-band or the service port: the MSS is up and free, and the checks of the port and of R47 pass
(R348, R349, R354). -/
structure RunsSide (op : BitVec 16) (sub : Option Byte) (c : Cmd) (s : State) : Prop where
  side : c.via ≠ .host
  up : s.mss.st = .running ∨ s.mss.st = .romOnly
  free : s.mss.running = none
  judged : s.judgeSide (rowPacket op sub c.pkt) c.via = none

/-- A command of the side-band or the service port was answered there with its tag, a status, an inline_result and a result cut to
`out_len` (R351, R352). -/
def State.sideAnswers (t : State) (c : Cmd) (st : BitVec 16) (inl : BitVec 64) (out : Bytes) : Prop :=
  ∃ h : Held, h.tag = c.pkt.tag ∧ h.status = st ∧ h.inl = inl ∧ (h.write.map Prod.snd).getD [] = out.take c.pkt.outLen.toNat ∧
    match c.via with
    | .host => False
    | .smbus => Posted.smbus (smbusReply h) ∈ t.posted
    | .spi =>
      t.mss.spiOut = some (spiFrame 0x81 ((h.reply Config.sidePhase).bytes ++ (h.write.map Prod.snd).getD []))

/-- A flash record of `n` payload bytes is appended to an area at once: no frame is being written or waits, and the append sector has
room (R304). -/
def State.flashTakes (s : State) (a : FlashArea) (n : Nat) : Prop :=
  s.kp.frame = none ∧ s.kp.frames = [] ∧ (s.kp.area a).fits (frameLen n) = true

/-- Ten counters moved by a vector of deltas (R68). -/
def Totals.movedBy (d : Delta) (t t' : Totals) : Prop :=
  (t'.l : Int) = t.l + d.l ∧ (t'.m : Int) = t.m + d.m ∧ (t'.a : Int) = t.a + d.a ∧ (t'.r : Int) = t.r + d.r ∧
  (t'.i : Int) = t.i + d.i ∧ (t'.s : Int) = t.s + d.s ∧ (t'.v : Int) = t.v + d.v ∧ (t'.t : Int) = t.t + d.t ∧
  (t'.x : Int) = t.x + d.x ∧ (t'.w : Int) = t.w + d.w

/-- From `s` to `t`, a pool's counters and the live totals moved by the same deltas, the rest of the pool's record changed by `f`
only, and no other pool changed (R68). -/
def State.poolMoved (s t : State) (n : PoolId) (d : Delta) (f : Pool → Pool) : Prop :=
  ∃ p tot, s.pool n = some p ∧ t.pool n = some (f (p.withTotals tot)) ∧ p.totals.movedBy d tot ∧ tot.sound = true ∧
    s.led.live.movedBy d t.led.live ∧ ∀ m, m ≠ n → t.pool m = s.pool m

/-- The checker lets a change of a pool through: it holds before and after, and no counter leaves its range (R68). -/
def State.checkerPasses (s : State) (n : PoolId) (d : Delta) : Prop :=
  ∃ p, s.pool n = some p ∧ (checked d p.totals s.led.live).isSome = true

/-- A key slot serves a use: it passes every check of a read of it and its usage mask permits the use (R221, R224). -/
def State.slotServes (s : State) (n bit : Nat) (k : Slot) : Prop := (s.useSlot n bit).2 = .ok k

/-- The fingerprint of a ticket of this device, under the key that `REG_CFG` names (R106). -/
def State.ticketFp (s : State) (n : PoolId) (serial : Serial) (fp : BitVec 128) : Prop :=
  ∃ k, s.slotServes s.ru.reg.fpkSlot.toNat useFingerprint k ∧ fp = fingerprint k.key256 (ticketIdentity s.node n serial)

/-- The entry at a place of the register. -/
def Register.entryAt (r : Register) : Place → Option Entry
  | .bucket b k => (r.bucket b)[k]?
  | .stash k => r.stash.find k

/-- A change of a pool that any journal record follows may be admitted: the journal has room and the supply holds (R79, R128). -/
def State.admits (s : State) : Prop := s.room 1 = true ∧ s.supplyLow = false

/-- A forced record is chained at once (R128). -/
def State.forcesNow (s : State) : Prop := s.forcedRoom = true ∧ s.ru.jrn.forced = []

/-- The certificate that a packet carries passes the checks of R72. -/
def certPasses (op : BitVec 16) (sub : Option Byte) (c : Cmd) (s : State) (f : Fetched) (kind pool slot : Nat) (prior : Bool)
    (bs : Bytes) : Prop :=
  ((s.begun op sub c f).certCheck (s.ctxRun op sub c f) kind pool slot prior bs).2 = none

/-- A program of a kind that a firmware command has run runs within the command's own step: the command does not wait for job ends of their
own, a spindle of the kind is idle, no response stops the kind, and no program is left from an earlier command (R143, R145, R164). -/
def State.programsRun (s : State) (c : Cmd) (signing : Bool) : Prop :=
  c.async = false ∧ (s.idleSpindle signing).isSome = true ∧ s.jobsStopped signing = false ∧ s.spn.ran = []

/-- The seal admission arbiter would grant the next block of this run now (R192, R243). -/
def State.sealTurn (s : State) (r : SealRun) : Prop :=
  (((s.sync 14).choose 14).bind fun o => (s.sync 14).nextRun o.1) = some r

/-- The digest arbiter would grant the next block of this run now (R203, R243). -/
def State.digTurn (s : State) (r : DigRun) : Prop :=
  (((s.sync 17).choose 17).bind fun o => (s.sync 17).nextDig o.1) = some r

/-- A command's blocks pass a unit within the command's own step: the command asks for no steps of their own, and nothing else asks at the
unit's arbiter (R192, R203, R244). -/
def State.blocksPass (s : State) (c : Cmd) (n : Nat) : Prop := c.async = false ∧ s.quiet n = true

/-- The result of a packet was written to its place, cut to what `out_len` takes (R31, R48). -/
def State.wrote (t : State) (c : Cmd) (bs : Bytes) : Prop :=
  Posted.hostWrite c.pkt.outPtr (bs.take c.pkt.outLen.toNat) ∈ t.sent

/-- The SM2 signature that a signing spindle with the entropy words `ent` makes of a digest (R153). -/
def signatureOf (k : SignKey) (e : Nat) (ent : List (BitVec 256)) : SignOut :=
  sm2Sign k.cv e k.d ((ent.getD 0 0).toNat * 2 ^ 256 + (ent.getD 1 0).toNat)

/-- The planes run and DOZE does not hold BAR accesses back (R394, R396). -/
def State.awake (s : State) : Prop := s.planesHeld = false ∧ s.asleep = false

/-- A spindle that the device has runs its program and may fetch from its PC (R146, R151). -/
def State.spindleFetches (s : State) (sp : BitVec 6) (p : Spindle) : Prop :=
  sp.toNat < 40 ∧ s.spindle sp.toNat = p ∧ p.halted = none ∧ fetchOk sp.toNat p.lane = true

/-- The state with another lane on one spindle, and nothing else changed. -/
def State.withLane (s : State) (sp : BitVec 6) (l : Lane) : State :=
  s.setSpindle sp.toNat { s.spindle sp.toNat with lane := l }

/-- A lane goes on to the next address after some cycles. -/
def Lane.onward (cyc : Nat) (l : Lane) : Lane := { l with pc := l.pc + 1, elapsed := l.elapsed + cyc }

/-- A lane goes on after an instruction of the multiply-accumulate unit: it waited until the unit was idle, and it keeps the unit
busy for `busy` cycles (R148). -/
def Lane.macOnward (busy : Nat) (l : Lane) : Lane :=
  { l with
    pc := l.pc + 1, elapsed := max l.elapsed l.macFree + 1
    macFree := if busy = 0 then l.macFree else max l.elapsed l.macFree + busy }

/-- The job of a spindle faulted: the spindle is cleared and tests itself out of service, and the command of a job that no
`ISSUE` waits for was answered with `STATUS_JOB_ABORTED` (R151, R157). -/
def State.jobFaulted (s t : State) (n : Nat) : Prop :=
  (t.spindle n).svc = .testing ∧ (t.spindle n).job = none ∧ (t.spindle n).lane = clearLane ∧ t.isOut (spindleCode n) = true ∧
  ∀ (j : Job) (f : Fetched), (s.spindle n).job = some j → (∀ r, j.what ≠ .issue r) → j.h.via = .host →
    (s.queue j.h.q).inflight.find? (·.id == j.h.id) = some f → j.h.tag = f.pkt.tag → t.answers j.h.q f stJobAborted 0

/-- From `s` to `t`, nothing changed but what answering a packet of a queue touches: that queue, what was sent or is held back,
messages pending under their mask, and what the MSS runs. -/
def State.answersOnly (s t : State) (q : QId) : Prop :=
  (∀ r, r ≠ q → t.queue r = s.queue r) ∧ t.gctl = { s.gctl with d3held := t.gctl.d3held, pba := t.gctl.pba } ∧
  t.epochBase = s.epochBase ∧ t.domains = s.domains ∧ t.led = s.led ∧ t.ru = s.ru ∧ t.spn = s.spn ∧ t.sl = s.sl ∧
  t.dig = s.dig ∧ t.ks = s.ks ∧ t.arb = s.arb ∧ t.mem = s.mem ∧ t.skn = s.skn ∧ t.kp = s.kp ∧ t.tmp = s.tmp ∧
  t.life = s.life ∧ t.card = s.card ∧ t.pwr = s.pwr ∧ t.pending = s.pending

/-- A spindle without what its program computes on: operand words, accumulator and flags, output latch, `HALT` status, and the
secret words that `KEY` and `RND` deliver (R144, R149). -/
def Spindle.blinded (p : Spindle) : Spindle :=
  { p with
    lane := { p.lane with w := Vector.replicate 128 0, acc := 0, c := false, e := false }
    out := Vector.replicate 4 0, keyOp := 0, halted := p.halted.map fun _ => 0, ent := p.ent.map fun _ => 0 }

/-- The state without what one spindle computes on. -/
def State.blinded (n : Nat) (s : State) : State := s.setSpindle n (s.spindle n).blinded

/-- From `s` to `t`, the MSS was reset and no other plane changed: the challenge, the staging session and the running command are
gone, the region counts and the record that the commit unit has taken stay (R369). -/
def State.mssReset (s t : State) : Prop :=
  t.queues = s.queues ∧ t.epochBase = s.epochBase ∧ t.domains = s.domains ∧ t.led = s.led ∧ t.ru = s.ru ∧ t.spn = s.spn ∧
  t.sl = s.sl ∧ t.dig = s.dig ∧ t.ks = s.ks ∧ t.mem = s.mem ∧ t.skn = s.skn ∧ t.card = s.card ∧ t.gctl = s.gctl ∧
  t.life.challenge = none ∧ t.mss.staging = none ∧ t.mss.running = none ∧ t.mss.st = .booting ∧
  t.kp.regionFails = s.kp.regionFails ∧ t.kp.cu = s.kp.cu

/-- The memories of the keeper die are in canonical form. -/
def State.memoryInv (s : State) : Prop :=
  Memory.wf feBlank s.kp.fe0 = true ∧ Memory.wf feBlank s.kp.fe1 = true ∧ Memory.wf flBlank s.kp.flash = true

/-- The fuses hold the device's serial, and their count is that of one of the six life-cycle states (R29, R338). -/
def State.lifeInv (s : State) : Prop := s.life.serial = Config.serial ∧ s.life.count.toNat ≤ 5

/-- The always-on clock is within its period (R4, R18), and no program of a firmware command is left over from its step (R143). -/
def State.workInv (s : State) : Prop := s.tmp.aotAcc < 390625 ∧ s.spn.ran = []

/-- The components of the state. -/
inductive Component
  | gctl | queues | epochBase | domains | led | ru | spn | sl | dig | ks | arb | mem | skn | kp | tmp | life | mss | card | pwr
  | posted | pending
  deriving DecidableEq, Repr

/-- Two states agree on a component. -/
def State.sameAt (s t : State) : Component → Prop
  | .gctl => t.gctl = s.gctl
  | .queues => t.queues = s.queues
  | .epochBase => t.epochBase = s.epochBase
  | .domains => t.domains = s.domains
  | .led => t.led = s.led
  | .ru => t.ru = s.ru
  | .spn => t.spn = s.spn
  | .sl => t.sl = s.sl
  | .dig => t.dig = s.dig
  | .ks => t.ks = s.ks
  | .arb => t.arb = s.arb
  | .mem => t.mem = s.mem
  | .skn => t.skn = s.skn
  | .kp => t.kp = s.kp
  | .tmp => t.tmp = s.tmp
  | .life => t.life = s.life
  | .mss => t.mss = s.mss
  | .card => t.card = s.card
  | .pwr => t.pwr = s.pwr
  | .posted => t.posted = s.posted
  | .pending => t.pending = s.pending

/-- What answering a packet may change: its queue and the block that numbers packets, the refusals counted and replies held in the
ledger, what the MSS runs, and what is posted. -/
def answering : List Component := [.gctl, .queues, .led, .mss, .posted]

/-- Every component but the commands that wait. -/
def allParts : List Component :=
  [.gctl, .queues, .epochBase, .domains, .led, .ru, .spn, .sl, .dig, .ks, .arb, .mem, .skn, .kp, .tmp, .life, .mss, .card, .pwr,
   .posted]

/-- The components that a command may change. -/
def mayChange : Instr → List Component
  | .nop .. | .queueCreate .. | .getInfo .. | .timeSet .. | .poolQuery .. | .ledgerAuditSum .. | .keyQueryEntry ..
    | .keyQuerySummary .. | .mapGet .. | .cardInfoReport .. | .sensorRead .. | .logRead .. | .tamperConfigRead ..
    | .keeperStatus .. | .fwStageAbandon .. | .fwStatus .. | .settingGet .. => answering ++ [.arb]
  | .queueDelete .. | .queueReset .. | .poolFreezeSet .. | .poolFreezeClear .. | .transferOut ..
    | .ledgerAuditClearStrip .. | .rebuildFeed .. | .rebuildEnd .. => answering ++ [.ru, .arb, .skn]
  | .domainConfig .. => answering ++ [.domains, .arb]
  | .lockAcquire .. | .lockRelease .. | .reclaim .. | .poolRetire .. | .journalAck .. | .purgePool .. =>
    answering ++ [.ru, .arb]
  | .poolCreateNew .. | .spoil .. | .void .. | .checkpoint .. => answering ++ [.ru, .ks, .arb, .kp]
  | .poolCreateRecover .. | .poolFreezeRecovery .. | .writeOff .. => answering ++ [.ru, .spn, .dig, .ks, .arb, .skn, .kp]
  | .poolLoad .. | .sign .. | .verify .. => answering ++ [.ru, .spn, .dig, .ks, .arb, .kp]
  | .issue .. | .watchdogFire .. => answering ++ [.ru, .spn, .sl, .dig, .ks, .arb, .kp]
  | .exportCard .. => answering ++ [.ru, .ks, .arb, .skn, .kp, .card]
  | .importCard .. => answering ++ [.ru, .sl, .arb, .skn]
  | .reconcileTransfer .. | .reconcileSlip .. => answering ++ [.ru, .arb, .skn, .card]
  | .ledgerAuditTotals .. | .keyGenerate .. => answering ++ [.spn, .dig, .ks, .arb, .kp]
  | .admitSerial .. | .spindleJobEnd .. | .routedCommand .. => answering ++ [.ru, .spn, .sl, .dig, .ks, .arb, .skn, .kp]
  | .lookup .. | .enrolExternal .. | .purgeEntry .. => answering ++ [.ru, .ks, .arb, .skn, .kp]
  | .rebuildBegin .. => answering ++ [.ru, .sl, .dig, .ks, .arb, .skn, .kp]
  | .ctxOpen .. | .commitUnitTake => answering ++ [.sl, .ks, .arb, .kp]
  | .sealData .. | .sealFinal .. | .openVerify .. | .ctxSave .. | .ctxRestore .. | .ctxClose .. =>
    answering ++ [.ru, .sl, .ks, .arb, .kp]
  | .pubkeyLoad .. => answering ++ [.spn, .dig, .ks, .arb]
  | .bnJob .. | .spindleNop .. | .add .. | .addc .. | .sub .. | .subc .. | .cmp .. | .sel .. | .and .. | .or ..
    | .xor .. | .fsr .. | .bit .. | .mov .. | .clr .. | .ldi .. | .outw .. | .mul .. | .mac .. | .mull .. | .macl ..
    | .accld .. | .accadd .. | .accsh .. | .acclo .. | .acchi .. | .accx .. | .setlc .. | .loop .. | .setix ..
    | .addix .. | .jmp .. | .call .. | .ret .. | .halt .. | .rnd .. | .key .. | .spindleUndefinedCode ..
    | .entropyHealthFail .. => answering ++ [.ru, .spn, .ks, .arb, .kp]
  | .bnAbort .. => answering ++ [.spn, .ks, .arb]
  | .curveLoadLoad .. => answering ++ [.spn, .ks, .arb, .kp]
  | .curveLoadClear .. => answering ++ [.spn, .arb, .kp]
  | .hashInit .. => answering ++ [.dig, .ks, .arb, .kp]
  | .hashData .. | .hashFinal .. | .hashCompare .. | .hashToKey .. | .hashClose .. => answering ++ [.dig, .ks, .arb]
  | .keyLoadBlob .. | .keyReplace .. | .arbiterGrant .. => answering ++ [.spn, .sl, .dig, .ks, .arb, .kp]
  | .keyWrapRewrap .. | .keyWrapClear .. | .keyWrapDmk .. | .keyQuerySlot .. => answering ++ [.ks, .arb, .kp]
  | .keyInvalidateDmk .. | .keyInvalidateEntry .. | .keyInvalidateFree .. | .nvmRawRead .. | .nvmRawWrite ..
    | .nvmPasswordSet .. | .fwStageBegin .. | .fwStageChunk .. | .fwStageEnd .. | .fwActivateHandover ..
    | .settingSet .. | .settingDefault .. => answering ++ [.arb, .kp]
  | .keyEvict .. => answering ++ [.ks, .arb]
  | .nodeRegRead .. | .nodeRegWrite .. | .registerReadPair .. | .contextCacheFill .. | .scrubRead ..
    | .skeinGroupReceive .. | .skeinPacketReceive .. | .builtInTestEnd .. | .dozeWakeEnd | .dataPlaneDrainEnd .. =>
    answering ++ [.ru, .spn, .sl, .dig, .ks, .arb, .mem, .skn, .kp, .tmp, .life, .card, .pwr]
  | .mapSet .. | .nodeMemberAdmit .. | .nodeMemberRetire .. => answering ++ [.arb, .skn, .kp]
  | .cardInfoIdentify .. | .cardFormat .. | .cardRead .. | .cardClear .. => answering ++ [.arb, .card]
  | .cardAudit .. => answering ++ [.sl, .ks, .arb, .card]
  | .challenge .. => answering ++ [.ks, .arb, .life]
  | .lifecycle .. => answering ++ [.ks, .arb, .kp, .tmp, .life]
  | .unitServiceRemove .. | .unitServiceReturn .. | .unitServiceSpareRow .. | .knownAnswerTestEnd ..
    | .skeinReconciliation .. | .skeinLinkFailure .. | .handoverSetLoaded | .entropyRestartTestsEnd .. =>
    answering ++ [.spn, .ks, .arb, .mem, .skn, .kp]
  | .enrol .. => answering ++ [.ru, .ks, .arb, .kp, .tmp, .life]
  | .tamperConfigWrite .. | .tamperRelease .. => answering ++ [.arb, .tmp]
  | .fwActivateMssReboot .. => answering ++ [.arb, .kp, .tmp, .life, .pwr]
  | .fwActivateCommitSv .. => answering ++ [.arb, .kp, .life]
  | .doorbellSqTail .. | .doorbellCqHead .. => [.gctl, .queues, .arb, .pwr, .posted]
  | .bar4DoorbellWrite .. => [.gctl, .queues, .arb, .skn, .pwr, .posted]
  | .gctlEnWrite .. => [.gctl, .queues, .arb, .pwr]
  | .aqReset => answering ++ [.ru, .skn, .pwr]
  | .evtTest => [.gctl, .pwr, .posted]
  | .jrnlEnWrite .. => [.gctl, .ru, .pwr, .posted]
  | .arbCounterClear | .starveClear => [.arb, .pwr]
  | .msSwapRequest | .dramInitEnd => [.mem, .pwr]
  | .swapE | .swapW | .sknEnWrite .. => [.skn, .pwr]
  | .dozeRequest .. | .dataPlaneReset .. | .dozeWake .. | .idleEntry .. => [.pwr]
  | .mssReset .. | .mssWatchdog => [.gctl, .queues, .arb, .kp, .tmp, .life, .mss, .pwr, .posted]
  | .registerWrite .. => answering ++ [.ru, .spn, .sl, .ks, .arb, .mem, .skn, .kp, .tmp, .life, .card, .pwr]
  | .dbErrQRead .. | .ledgerRefusedRead .. | .regStashRead .. | .regOpsRead .. | .spnJobsRead .. | .spnEventsRead ..
    | .sealMissRead .. | .sealEvtRead .. | .digEvtRead .. | .digUtilRead .. | .ksEvtRead .. | .arbWdogCntRead ..
    | .msEccRead .. | .sknCensusRead .. | .tmpCountRead .. | .tmpTestRead .. | .cardErrsRead .. | .pwrDozeCntRead ..
    | .gctlCycleLoRead .. | .ledgerLoRead .. | .regLoRead .. | .sealLoRead .. | .digLoRead .. =>
    [.gctl, .led, .ru, .spn, .sl, .dig, .ks, .arb, .mem, .skn, .tmp, .card, .pwr, .posted]
  | .packetFetch .. => [.gctl, .queues, .arb]
  | .packetDecode .. | .managementCommandTake => [.gctl, .queues, .arb, .mss, .posted]
  | .dispatch .. => [.queues, .arb]
  | .hostReadCompletion .. => answering ++ [.ru, .spn, .sl, .dig, .ks, .arb]
  | .coalescingTimeout .. => [.gctl, .queues, .mem, .tmp, .mss, .posted]
  | .queueDrainEnd .. | .forcedRecordRoom | .transferAnswer .. | .transferDoneReceive .. | .transferQueryReceive ..
    | .reconcileAnswer .. => answering ++ [.ru, .skn]
  | .d3hotEntry | .perstRelease => [.gctl]
  | .d3hotExit => [.gctl, .ru, .posted]
  | .timeSlewEnd | .memoryTableSwap => [.gctl, .mem, .tmp, .mss]
  | .starvationFlag .. => [.gctl, .arb, .mem, .tmp, .mss, .posted]
  | .commitBoundary => [.gctl, .led, .arb, .mem, .tmp, .mss]
  | .commitBank0Written | .vholdTrip | .flashSectorReclaim .. => [.kp]
  | .commitDurable => answering ++ [.ru, .sl, .ks, .skn, .kp, .card]
  | .genTableWriteDurable => answering ++ [.ru, .sl, .ks, .arb, .skn, .kp, .card]
  | .checkpointRootDurable => [.ru, .kp]
  | .lockLapse .. => answering ++ [.ru, .mem, .skn, .tmp]
  | .registerOperation .. | .registerWriteBack | .checkpointStagingCopy .. => [.ru]
  | .checkpointRootFormed => [.gctl, .ru, .sl, .dig, .arb, .kp, .posted]
  | .yieldPoint .. => [.spn, .arb]
  | .shadowRestoreEnd .. => [.spn]
  | .shadowSaveEnd .. | .entropyBufferRefill .. => [.spn, .ks]
  | .sealBlockAdmit .. => [.sl, .arb]
  | .sealBlockOut | .sealTagFormed .. => answering ++ [.ru, .sl, .ks, .kp]
  | .digestBlockDone .. => [.gctl, .queues, .dig, .ks, .arb, .mss, .posted]
  | .sweepVisit | .commitDomainStop => [.ks, .kp]
  | .entropyReseed => [.ks]
  | .rowSpare .. | .dramTrainingEnd .. => [.mem, .kp]
  | .rowSpareDone .. => [.gctl, .queues, .arb, .mem, .kp, .mss, .posted]
  | .skeinTrainingDone .. => [.ks, .skn, .kp]
  | .skeinForward .. | .heartbeat .. => [.skn, .posted]
  | .censusMarker .. => [.gctl, .queues, .arb, .skn, .kp, .mss, .posted]
  | .ringEnumeration .. => [.skn, .kp, .posted]
  | .memberJoin .. => [.gctl, .skn, .kp, .posted]
  | .lowRateReturn .. | .bwTableSwap .. | .mapSwitch => [.skn]
  | .skeinRemoteHostAccess .. => [.gctl, .skn, .posted]
  | .routedReply .. | .routedTimeout .. => [.gctl, .queues, .skn, .mss, .posted]
  | .transferReceive .. => [.gctl, .led, .ru, .skn, .posted]
  | .transferTimeout .. => [.gctl, .queues, .ru, .skn, .mss, .posted]
  | .memberUnreachable .. => answering ++ [.epochBase, .ru, .spn, .sl, .dig, .ks, .arb, .skn, .kp]
  | .memberRejoin .. => [.gctl, .ru, .skn, .posted]
  | .cardDetectChange .. | .cardCmd1Retry .. | .cardBusyEnd .. | .cardBusyTimeout | .cardReadTimeout
    | .cardReadData .. => answering ++ [.ru, .skn, .card]
  | .tamperAlarm .. | .pllStartCheck .. => answering ++ [.ru, .spn, .sl, .dig, .ks, .arb, .skn, .kp, .tmp, .life, .card, .pwr]
  | .tamperClearsEnd | .bbramClearPulseEnd | .contextStoreWipeEnd =>
    answering ++ [.ru, .spn, .sl, .ks, .arb, .mem, .skn, .kp, .tmp, .pwr]
  | .secretsErase => [.gctl, .queues, .spn, .sl, .dig, .ks, .arb, .skn, .kp, .tmp, .mss, .posted]
  | .contextStoreWipeBegin => [.sl, .tmp]
  | .holdSelfRelease | .builtInTestStart | .sourceInactive .. => [.tmp]
  | .backupAlarm .. => [.ks, .tmp]
  | .lifecyclePlaneReset | .por | .powerFailure .. => allParts
  | .porRelease .. => [.gctl, .ks, .skn, .kp, .tmp, .mss, .card, .pwr]
  | .planeSupplyReset | .sysRst =>
    answering ++ [.epochBase, .domains, .ru, .spn, .sl, .dig, .ks, .arb, .mem, .skn, .kp, .tmp, .card, .pwr]
  | .perst | .functionLevelReset => answering ++ [.epochBase, .ru, .spn, .sl, .dig, .ks, .arb, .skn, .kp, .pwr]
  | .vholdRelease | .eventLogWrite | .flashFrameWrite .. | .flashPageProgramDone .. | .flashMarkerDone
    | .flashEraseDone .. | .mssFeramRecord .. | .operatingTimeTick | .timeFloorTick | .flashScrub .. => [.arb, .kp]
  | .commitDomainPowerUp => [.gctl, .kp]
  | .entropyStartupTestsEnd .. => [.gctl, .spn, .ks, .arb, .kp, .pwr, .posted]
  | .recallStageEnd => [.ks, .arb, .kp, .pwr]
  | .recallEnd => [.gctl, .arb, .kp]
  | .mssBoot => answering ++ [.spn, .ks, .arb, .mem, .skn, .kp, .tmp, .pwr]
  | .rootDerive => [.ks, .pwr]
  | .controlPlaneBoot => [.arb, .kp, .mss, .pwr]
  | .archiveLoad => [.ru, .sl, .ks, .pwr]
  | .ledgerRecovery => answering ++ [.ru, .spn, .ks, .skn, .kp, .pwr]
  | .startupReady => [.gctl, .kp, .pwr]
  | .dozeEntry => [.gctl, .mem, .skn, .tmp, .mss, .pwr]
  | .handoverSetIdle => [.spn, .arb, .kp, .mss]
  | .mssRebootDone => [.gctl, .queues, .mss, .posted]
  | .smbusMessage .. | .spiCommandFrame .. => [.arb, .mss]
  | .mctpControlMessage .. | .spiPollFrame => [.mss, .posted]
  | .mctpReassemblyTimeout | .smbusTimeout | .svcEnChange .. => [.mss]
  | .sensorSample .. => [.kp, .mss]
  | .backupStorePost => [.kp, .tmp]
  | .feramScrub .. => [.ks, .arb, .kp]
  | .sysRstRelease .. | .planeSupplyResetRelease .. => [.ks, .skn, .tmp, .pwr]
  | .sealContextWriteBack => [.sl]
  | .poolTableWriteThrough .. => [.led]

end Sys2Proof.Machine
end

