-- ==== Sys2Proof/Certificates/Slice0/Obligations.lean ====
section
/-! DEFINITION. The statements for the provers, each a claim about the model named in OBLIGATIONS.json. -/

open Sys2Proof Sys2Proof.Machine

/-- R58, R60. `NOP` answers with the low 64 bits of the cycle counter, `GET_INFO` writes the page it was asked for before its
reply; neither changes anything but what answering a packet touches. -/
def Obligations.AdminQueriesComplete : Prop :=
  ∀ (c : Cmd) (s : State) (f : Fetched),
    (Runs 0x0100 none c s f →
      Completes (.nop c) s fun t => t.answers c.q f 0 s.gctl.cycle ∧ s.answersOnly t c.q) ∧
    (Runs 0x0105 none c s f → 0 < c.pkt.outLen.toNat →
      Completes (.getInfo c) s fun t =>
        t.answers c.q f 0 0 ∧ s.answersOnly t c.q ∧
        Posted.hostWrite c.pkt.outPtr ((s.infoPage (c.pkt.byteAt 32).toNat).take c.pkt.outLen.toNat) ∈ t.sent)

/-- R34, R38, R59. `QUEUE_CREATE` makes an absent queue active under its next epoch with the parameters of its packet;
`DOMAIN_CONFIG` puts the policy it carries in force. R62. A reset or deletion of another queue that has nothing in flight and
owns no lock ends at once: a reset leaves the queue active and empty under its next epoch, a deletion leaves it absent. -/
def Obligations.QueuesAndDomainsAreSetUp : Prop :=
  (∀ (c : Cmd) (s : State) (f : Fetched),
     (∀ q : QId, q = BitVec.ofNat 14 (hIndex c.pkt.handleA) → Runs 0x0101 none c s f → q ≠ 0 →
       (s.queue q).st = .absent → queueParamsOk s c.pkt = true →
       Completes (.queueCreate c) s fun t =>
         t.queue q = newQueue c.pkt ((s.queue q).epoch + 1) ∧ (t.queue q).st = .active ∧
         t.answers c.q f 0 (inlAt 0 ((s.queue q).epoch + 1).toNat)) ∧
     (Runs 0x0104 none c s f → c.memErr = none →
       policyOk s (c.pkt.byteAt 32) (policyOf (slice c.data 0 c.pkt.dataLen.toNat)) = true →
       Completes (.domainConfig c) s fun t =>
         t.policy (c.pkt.byteAt 32) = policyOf (slice c.data 0 c.pkt.dataLen.toNat) ∧
         (∀ d, d ≠ c.pkt.byteAt 32 → t.policy d = s.policy d) ∧ t.answers c.q f 0 0)) ∧
  (∀ (c : Cmd) (s : State) (f : Fetched) (q : QId), q = BitVec.ofNat 14 (hIndex c.pkt.handleA) → q ≠ c.q →
     (s.queue q).st = .active → (s.queue q).inflight = [] → s.locksOf q (s.queue q).epoch = [] → s.ru.jrn.forced = [] →
     (Runs 0x0103 none c s f →
       Completes (.queueReset c) s fun t =>
         (t.queue q).st = .active ∧ (t.queue q).epoch = (s.queue q).epoch + 1 ∧ (t.queue q).sqHead = 0 ∧ (t.queue q).sqTail = 0 ∧
         (t.queue q).cqHead = 0 ∧ (t.queue q).cqTail = 0 ∧ (t.queue q).inflight = [] ∧ (t.queue q).dom = (s.queue q).dom ∧
         t.answers c.q f 0 (inlAt 4 ((s.queue q).epoch + 1).toNat)) ∧
     (Runs 0x0102 none c s f → q ≠ 0 →
       Completes (.queueDelete c) s fun t =>
         (t.queue q).st = .absent ∧ (t.queue q).epoch = (s.queue q).epoch ∧ t.answers c.q f 0 0))

/-- R83, R84. `LOCK_ACQUIRE` moves its units from A to R, takes their serials, and records the lock under its next generation;
`LOCK_RELEASE` of its owner moves the units still locked back to A where the pool is not frozen. Both answer once the change is
durable. -/
def Obligations.LocksTakeAndReturnUnits : Prop :=
  ∀ (c : Cmd) (s : State) (f : Fetched) (p : Pool),
    (∀ (n : PoolId) (u : Nat), n = BitVec.ofNat 16 (hIndex c.pkt.handleA) → u = c.pkt.field 32 4 → Runs 0x0107 none c s f →
      s.pool n = some p → s.isOpen p = true → s.lock n = none → (s.locksOf c.q (s.queue c.q).epoch).length < 255 →
      s.room 1 = true → s.supplyLow = false → u ≤ p.a → p.next + u ≤ p.limit + 1 →
      s.checkerPasses n { a := -(u : Int), r := u } →
      Completes (.lockAcquire c) s fun t =>
        s.poolMoved t n { a := -(u : Int), r := u } (fun p => { p with next := p.next + u }) ∧
        (∃ k, t.lock n = some k ∧ k.q = c.q ∧ k.epoch = (s.queue c.q).epoch ∧ k.first = p.next ∧ k.next = p.next ∧
          k.last = p.next + u - 1 ∧ k.units = u ∧ k.gen = s.led.lockGen.get n.toNat 0 + 1 ∧
          t.answersDurable c.q f (inlAt 0 (lockHandle n k).toNat ||| inlAt 4 (p.next % 2 ^ 32))) ∧
        (∀ m, m ≠ n → t.lock m = s.lock m) ∧ t.ru.jrn.seq = s.ru.jrn.seq + 1) ∧
    (∀ (n : PoolId) (k : Lock), n = BitVec.ofNat 16 (hIndex c.pkt.handleA % 65536) → Runs 0x0108 none c s f →
      s.lock n = some k → k.gen.toNat = hIndex c.pkt.handleA / 65536 → k.first % 2 ^ 32 = c.pkt.field 32 4 →
      k.q = c.q → k.epoch = (s.queue c.q).epoch → s.room 1 = true → s.pool n = some p → s.isFrozen p = false →
      Tab.sorted s.led.locks = true → s.checkerPasses n { a := k.units, r := -(k.units : Int) } →
      Completes (.lockRelease c) s fun t =>
        s.poolMoved t n { a := k.units, r := -(k.units : Int) } id ∧ t.lock n = none ∧
        (∀ m, m ≠ n → t.lock m = s.lock m) ∧ t.answersDurable c.q f (inlAt 0 k.units) ∧ t.ru.jrn.seq = s.ru.jrn.seq + 1)

/-- R81, R101. `POOL_CREATE` makes a pool: empty with the serials and the policy of its packet, or, from a RECOVERY certificate,
with the certificate's counters. -/
def Obligations.PoolsAreCreated : Prop :=
  ∀ (c : Cmd) (s : State) (f : Fetched) (n : PoolId) (k : Slot), n = c.poolA → s.pool n = none → s.admits →
    (∀ p, p = rowPacket 0x0201 (some 0) c.pkt → Runs 0x0201 (some 0) c s f → s.led.scour = false →
      s.slotServes (hIndex p.handleB) useCert k →
      Completes (.poolCreateNew c) s fun t =>
        t.pool n = some (newPool (s.queue c.q).dom (p.field 36 5) (p.field 41 5)
          (hIndex p.handleB % 4096 + (p.field 34 2 / 4096 % 4) * 4096)) ∧ (∀ m, m ≠ n → t.pool m = s.pool m) ∧
        t.ru.jrn.seq = s.ru.jrn.seq + 1 ∧ t.answersDurable c.q f 0) ∧
    (Runs 0x0201 (some 1) c s f → c.memErr = none →
      certPasses 0x0201 (some 1) c s f 3 n.toNat 2 (leAt c.bytes 20 8 == s.led.fseq) c.bytes →
      s.slotServes (certPool c.bytes).slot.toNat useCert k →
      (s.replacePool n (certPool c.bytes)).2 = true → s.programsRun c false →
      (s.replacePool n (certPool c.bytes)).1.led.live.agrees s.led.durable.tot = false →
      Completes (.poolCreateRecover c) s fun t =>
        t.pool n = some (certPool c.bytes) ∧ (∀ m, m ≠ n → t.pool m = s.pool m) ∧ t.gctl.evtStat.getLsbD evFrozen = true ∧
        t.ru.jrn.seq = s.ru.jrn.seq + 1 ∧ t.answersDurable c.q f 0)

/-- R76, R82. `POOL_LOAD`, `RECLAIM` and `WRITE_OFF` each move their units between a pool's counters in one change that the
checker lets through, chain one record, and answer once it is durable. -/
def Obligations.PoolsLoadReclaimAndWriteOff : Prop :=
  ∀ (c : Cmd) (s : State) (f : Fetched) (n : PoolId) (p : Pool) (u : Nat), n = c.poolA → s.pool n = some p → s.admits →
    (Runs 0x0202 none c s f → s.isOpen p = true → c.memErr = none → u = leAt c.bytes 28 4 →
      certPasses 0x0202 none c s f 1 n.toNat p.slot.toNat (leAt c.bytes 32 5 == p.l) c.bytes →
      s.checkerPasses n { l := u, a := u } → s.programsRun c false →
      Completes (.poolLoad c) s fun t =>
        s.poolMoved t n { l := u, a := u } id ∧ t.ru.jrn.seq = s.ru.jrn.seq + 1 ∧ t.answersDurable c.q f (inlAt 0 (p.l + u))) ∧
    (Runs 0x0207 none c s f → s.isOpen p = true → p.reissue = true → u = c.pkt.field 32 4 → u ≤ p.v →
      s.checkerPasses n { a := u, v := -(u : Int) } →
      Completes (.reclaim c) s fun t =>
        s.poolMoved t n { a := u, v := -(u : Int) } id ∧ t.ru.jrn.seq = s.ru.jrn.seq + 1 ∧
        t.answersDurable c.q f (inlAt 0 (p.a + u))) ∧
    (Runs 0x0210 none c s f → s.isFrozen p = false → c.memErr = none → u = leAt c.bytes 28 4 → leAt c.bytes 14 1 ≠ 5 →
      certPasses 0x0210 none c s f 2 n.toNat p.slot.toNat (leAt c.bytes 32 5 == p.w) c.bytes →
      s.checkerPasses n { a := -(u : Int), w := u } → s.programsRun c false →
      Completes (.writeOff c) s fun t =>
        s.poolMoved t n { a := -(u : Int), w := u } id ∧ t.skn.transfers = s.skn.transfers ∧
        t.ru.jrn.seq = s.ru.jrn.seq + 1 ∧ t.answersDurable c.q f (inlAt 0 u)) ∧
    (∀ row, Runs 0x0210 none c s f → s.isFrozen p = false → c.memErr = none → u = leAt c.bytes 28 4 → leAt c.bytes 14 1 = 5 →
      s.writeOffRow n (BitVec.ofNat 64 (leAt c.bytes 20 8)) = some row → Tab.sorted s.skn.transfers = true →
      certPasses 0x0210 none c s f 2 n.toNat p.slot.toNat (leAt c.bytes 32 5 == p.w) c.bytes →
      s.checkerPasses n { t := -(u : Int), w := u } → s.programsRun c false →
      Completes (.writeOff c) s fun t =>
        s.poolMoved t n { t := -(u : Int), w := u } id ∧ t.skn.transfers.find row = none ∧
        t.ru.jrn.seq = s.ru.jrn.seq + 1 ∧ t.answersDurable c.q f (inlAt 0 u))

/-- R82. `SPOIL` and `VOID` of a ticket of this device that is issued and was never let in mark its register entry and move its
unit from I to S or V in the same command. -/
def Obligations.TicketsAreSpoiledAndVoided : Prop :=
  ∀ (c : Cmd) (s : State) (f : Fetched) (n : PoolId) (p : Pool) (fp : BitVec 128) (e : Entry) (place : Place), n = c.poolA →
    s.pool n = some p → s.admits → s.isFrozen p = false → s.ticketFp n (BitVec.ofNat 40 (c.pkt.field 32 5)) fp →
    (s.regFind fp).2 = some (e, place) → e.state = stIssued → e.admits = 0 →
    (Runs 0x0205 none c s f → s.checkerPasses n { i := -1, s := 1 } →
      Completes (.spoil c) s fun t =>
        t.ru.reg.entryAt place = some { e with state := stSpoiled, time := s.gctl.time } ∧
        s.poolMoved t n { i := -1, s := 1 } id ∧ t.ru.jrn.seq = s.ru.jrn.seq + 1 ∧ t.answersDurable c.q f 0) ∧
    (Runs 0x0206 none c s f → s.checkerPasses n { i := -1, v := 1 } →
      Completes (.void c) s fun t =>
        t.ru.reg.entryAt place = some { e with state := stVoided, time := s.gctl.time } ∧
        s.poolMoved t n { i := -1, v := 1 } id ∧ t.ru.jrn.seq = s.ru.jrn.seq + 1 ∧ t.answersDurable c.q f 0)

/-- R90, R91, R101. `POOL_FREEZE` sets and clears the host cause of a pool's freeze, or replaces its record from a RECOVERY
certificate and leaves it with its host cause and RECOVERING; `POOL_RETIRE` moves all of A to W and leaves the pool RETIRED. -/
def Obligations.PoolsFreezeThawAndRetire : Prop :=
  ∀ (c : Cmd) (s : State) (f : Fetched) (n : PoolId) (p : Pool), n = c.poolA → s.pool n = some p →
    (Runs 0x0209 (some 0) c s f → p.host = false → s.poolBusy n = false → s.forcesNow →
      Completes (.poolFreezeSet c) s fun t =>
        t.pool n = some (p.withCauses (p.status ||| 4)) ∧ (∀ m, m ≠ n → t.pool m = s.pool m) ∧
        t.gctl.evtStat.getLsbD evFrozen = true ∧
        t.ru.jrn.seq = s.ru.jrn.seq + 1 ∧ t.answersDurable c.q f (inlAt 0 (p.status ||| 4).toNat)) ∧
    (Runs 0x0209 (some 1) c s f → p.host = true → s.stranded n = 0 → s.forcesNow →
      Completes (.poolFreezeClear c) s fun t =>
        t.pool n = some (p.withCauses (p.status &&& ~~~4#8)) ∧ (∀ m, m ≠ n → t.pool m = s.pool m) ∧ t.ru.jrn.seq = s.ru.jrn.seq + 1 ∧
        t.answersDurable c.q f (inlAt 0 (p.status &&& ~~~4#8).toNat)) ∧
    (∀ new : Pool, new = { (certPool c.bytes).withCauses ((p.status &&& 4) ||| 0x20) with st := p.st } → s.programsRun c false →
      Runs 0x0209 (some 2) c s f → (p.rebuild || p.checker || p.recovering || s.led.totals) = true → c.memErr = none →
      certPasses 0x0209 (some 2) c s f 3 n.toNat 2 (leAt c.bytes 20 8 == s.led.fseq) c.bytes → s.forcesNow →
      (s.replacePool n new).2 = true → (s.replacePool n new).1.led.live.agrees s.led.durable.tot = false →
      Completes (.poolFreezeRecovery c) s fun t =>
        t.pool n = some new ∧ (∀ m, m ≠ n → t.pool m = s.pool m) ∧ t.gctl.evtStat.getLsbD evFrozen = true ∧ t.ru.jrn.seq = s.ru.jrn.seq + 1 ∧
        t.answersDurable c.q f (inlAt 0 new.status.toNat)) ∧
    (Runs 0x020A none c s f → p.st ≠ 2 → p.st ≠ 3 → s.lock n = none → p.t = 0 → s.isFrozen p = false → s.poolBusy n = false →
      s.admits → s.checkerPasses n { a := -(p.a : Int), w := p.a } →
      Completes (.poolRetire c) s fun t =>
        s.poolMoved t n { a := -(p.a : Int), w := p.a } (fun p => { p with st := 3 }) ∧ t.ru.jrn.seq = s.ru.jrn.seq + 1 ∧
        t.answersDurable c.q f (inlAt 0 p.a))

/-- R101, R102. `POOL_QUERY` and `LEDGER_AUDIT` op 0 report and change nothing; op 1 ends the STRIP freeze where the sums agree
with the durable totals; op 2 gives the open group the totals of a TOTALS certificate. -/
def Obligations.LedgerQueriesAndAudits : Prop :=
  ∀ (c : Cmd) (s : State) (f : Fetched),
    (∀ p, Runs 0x0208 none c s f → s.pool c.poolA = some p → 0 < c.pkt.outLen.toNat →
      Completes (.poolQuery c) s fun t =>
        t.answers c.q f 0 0 ∧ s.answersOnly t c.q ∧ t.wrote c (p.bytes ++ lockSummary s c.poolA)) ∧
    (Runs 0x020F (some 0) c s f → 0 < c.pkt.outLen.toNat →
      Completes (.ledgerAuditSum c) s fun t =>
        t.answers c.q f 0 (inlAt 0 ((sumPools s.led.pools).agrees s.led.durable.tot).toNat) ∧ s.answersOnly t c.q ∧
        Posted.hostWrite (rowPacket 0x020F (some 0) c.pkt).outPtr (s.auditBytes.take c.pkt.outLen.toNat) ∈ t.sent) ∧
    (Runs 0x020F (some 1) c s f → s.led.strip = true → (sumPools s.led.pools).agrees s.led.durable.tot = true →
      s.led.scour = false → s.led.totals = false → (∀ x ∈ s.led.pools, s.stranded (BitVec.ofNat 16 x.1) = 0) →
      Completes (.ledgerAuditClearStrip c) s fun t =>
        t.led.strip = false ∧ t.led.pools = s.led.pools ∧ t.answersDurable c.q f (inlAt 0 1)) ∧
    (∀ tot, Runs 0x020F (some 2) c s f → s.led.totals = true → c.memErr = none →
      certPasses 0x020F (some 2) c s f 4 0 2 (leAt c.bytes 20 8 == s.led.fseq) c.bytes →
      tot = (totalsOf fun k => leAt c.bytes (28 + 6 * k) 6) → tot.sound = true → s.programsRun c false →
      Completes (.ledgerAuditTotals c) s fun t =>
        t.led.group.setTotals = some tot ∧ t.led.group.change = true ∧
        t.answersDurable c.q f (inlAt 0 ((sumPools s.led.pools).agrees s.led.durable.tot).toNat))

/-- R284, R379. The first phase of `EXPORT_CARD` and of `TRANSFER_OUT` moves the units from A to T, chains one record, pledges a
second, and writes a transfer record; what follows waits for the group's durability. `IMPORT_CARD` of a slip that passes every
check moves its units into M and A. -/
def Obligations.ExportsTransfersAndImports : Prop :=
  ∀ (c : Cmd) (s : State) (f : Fetched) (n : PoolId) (p : Pool), n = c.poolA → s.pool n = some p → s.isOpen p = true →
    (∀ (u slot row : Nat) (k : BitVec 256 × BitVec 32), u = c.pkt.field 32 4 → Runs 0x020B none c s f → s.card.op = none →
      (p.exclusive = false ∨ s.lock n = none) → s.room 2 = true → s.supplyLow = false → u ≤ p.a →
      c.pkt.field 40 8 ≠ s.life.serial.toNat → s.card.ready = true → s.card.wp = false → s.card.formatted = true →
      lowestFrom (fun k => !s.card.used k) 256 0 = some slot → s.freeRow = some row → (s.exportKeys p.dom).2 = .ok k →
      s.checkerPasses n { a := -(u : Int), t := u } →
      Completes (.exportCard c) s fun t =>
        s.poolMoved t n { a := -(u : Int), t := u } id ∧ t.ru.jrn.seq = s.ru.jrn.seq + 1 ∧
        t.ru.jrn.pledged = s.ru.jrn.pledged + 1 ∧
        (∃ x, t.skn.transfers.find row = some x ∧ x.kind = 2 ∧ x.st = 1 ∧ x.pool = n ∧ x.units = BitVec.ofNat 32 u ∧
          x.id = s.nextXferId) ∧
        ∃ h, After.exportCard h row (BitVec.ofNat 64 (c.pkt.field 40 8)) ∈ t.led.group.after ∧ h.q = c.q ∧ h.id = f.id) ∧
    (∀ (u row : Nat) (dest : BitVec 6), u = c.pkt.field 36 4 → Runs 0x020D none c s f → nodeOf (c.pkt.byteAt 32) = some dest →
      s.reaches dest = true → (p.exclusive = false ∨ s.lock n = none) → s.room 2 = true → s.supplyLow = false → u ≤ p.a →
      s.freeRow = some row → s.checkerPasses n { a := -(u : Int), t := u } →
      Completes (.transferOut c) s fun t =>
        s.poolMoved t n { a := -(u : Int), t := u } id ∧ t.ru.jrn.seq = s.ru.jrn.seq + 1 ∧
        t.ru.jrn.pledged = s.ru.jrn.pledged + 1 ∧
        (∃ x, t.skn.transfers.find row = some x ∧ x.kind = 1 ∧ x.st = 1 ∧ x.pool = n ∧ x.units = BitVec.ofNat 32 u ∧
          x.peer = dest.setWidth 8 ∧ x.id = s.nextXferId) ∧
        ∃ h, After.transferSend h row ∈ t.led.group.after ∧ h.q = c.q ∧ h.id = f.id) ∧
    (∀ v : Slip, Runs 0x020C none c s f → s.card.op = none → s.room 1 = true → s.card.ready = true → c.pkt.field 32 4 < 256 →
      s.card.formatted = true → slipOf (s.card.block (slipBlock (c.pkt.field 32 4))) = some v →
      slipRefusal s n p (c.pkt.field 32 4) v = none → s.sequenceOk v = true →
      ((s.markRow v.serial v.kcv).isSome = true ∨ s.freeRow.isSome = true) →
      s.checkerPasses n { m := v.units.toNat, a := v.units.toNat } →
      Completes (.importCard c) s fun t =>
        s.poolMoved t n { m := v.units.toNat, a := v.units.toNat } id ∧ t.ru.jrn.seq = s.ru.jrn.seq + 1 ∧
        t.answersDurable c.q f (inlAt 0 v.units.toNat))

/-- R285, R381. `RECONCILE` of a Skein transfer in DOUBT pledges a record and waits for the peer's answer; of a slip in DOUBT
whose slot on the card holds its CONFIRM marker, it settles the transfer: T to X, and the record freed. R284, R285. On the
receiving node a TRANSFER packet moves its units into M and A and leaves a record; DONE frees it; QUERY of an unknown transfer
leaves a tombstone. On the sending node an answer settles the transfer and no answer leaves it in DOUBT. -/
def Obligations.TransfersSettle : Prop :=
  (∀ (c : Cmd) (s : State) (f : Fetched) (row : Nat) (x : Transfer) (p : Pool),
     s.transferRow (BitVec.ofNat 64 (c.pkt.field 32 8)) = some (row, x) → x.st = 2 → s.pool x.pool = some p →
     s.isFrozen p = false → s.admits →
     (Runs 0x020E none c s f → x.kind = 1 → s.reaches (x.peer.setWidth 6) = true →
       Completes (.reconcileTransfer c) s fun t =>
         t.ru.jrn.pledged = s.ru.jrn.pledged + 1 ∧
         ∃ w, (x.id, w) ∈ t.skn.xwait ∧ w.row = row ∧ w.query = true ∧ w.h.q = c.q ∧ w.h.id = f.id) ∧
     (∀ (v : Slip) (k : BitVec 128), Runs 0x020E none c s f → s.card.op = none → x.kind = 2 →
       s.skn.transfers.find row = some x → Tab.sorted s.skn.transfers = true →
       s.card.ready = true → cidHash s.card.cid = xferHash x → s.slipFor x = some (v, k) →
       validMarker k v (s.card.block (markerBlock (xferSlot x).toNat)) = some 2 →
       s.checkerPasses x.pool { t := -(x.units.toNat : Int), x := x.units.toNat } →
       Completes (.reconcileSlip c) s fun t =>
         s.poolMoved t x.pool { t := -(x.units.toNat : Int), x := x.units.toNat } id ∧ t.skn.transfers.find row = none ∧
         t.ru.jrn.seq = s.ru.jrn.seq + 1 ∧ t.answersDurable c.q f (inlAt 0 1))) ∧
  (∀ (s : State) (id : BitVec 64),
     (∀ (src : BitVec 6) (dom : Dom) (n : PoolId) (u : BitVec 32) (row : Nat), s.xferOf id 3 = false → s.xferOf id 4 = false →
       importRefusal s dom n = none → s.freeRow = some row → s.checkerPasses n { m := u.toNat, a := u.toNat } →
       Completes (.transferReceive src id dom n u) s fun t =>
         s.poolMoved t n { m := u.toNat, a := u.toNat } (fun p => p) ∧ t.ru.jrn.seq = s.ru.jrn.seq + 1 ∧
         (∃ x, t.skn.transfers.find row = some x ∧ x.id = id ∧ x.kind = 3 ∧ x.pool = n ∧ x.units = u) ∧
         After.accept src id ∈ t.led.group.after) ∧
     (∀ (w : XferWait) (x : Transfer), s.xferWait id false = some w → s.skn.transfers.find w.row = some x →
       Tab.sorted s.skn.transfers = true → s.checkerPasses x.pool { t := -(x.units.toNat : Int), x := x.units.toNat } →
       Completes (.transferAnswer id none) s fun t =>
         s.poolMoved t x.pool { t := -(x.units.toNat : Int), x := x.units.toNat } (fun p => p) ∧ t.skn.transfers.find w.row = none ∧
         t.ru.jrn.seq = s.ru.jrn.seq + 1 ∧ After.transferDone w.h x.peer x.id ∈ t.led.group.after) ∧
     (∀ (w : XferWait) (x : Transfer) (st : BitVec 16), s.xferWait id false = some w → s.skn.transfers.find w.row = some x →
       Tab.sorted s.skn.transfers = true → s.checkerPasses x.pool { t := -(x.units.toNat : Int), a := x.units.toNat } →
       Completes (.transferAnswer id (some st)) s fun t =>
         s.poolMoved t x.pool { t := -(x.units.toNat : Int), a := x.units.toNat } (fun p => p) ∧ t.skn.transfers.find w.row = none ∧
         t.ru.jrn.seq = s.ru.jrn.seq + 1) ∧
     (∀ (w : XferWait) (x : Transfer), s.xferWait id true = some w → s.skn.transfers.find w.row = some x →
       Tab.sorted s.skn.transfers = true → s.checkerPasses x.pool { t := -(x.units.toNat : Int), x := x.units.toNat } →
       Completes (.reconcileAnswer id true) s fun t =>
         s.poolMoved t x.pool { t := -(x.units.toNat : Int), x := x.units.toNat } (fun p => p) ∧ t.skn.transfers.find w.row = none ∧
         t.ru.jrn.seq = s.ru.jrn.seq + 1) ∧
     (∀ (w : XferWait) (x : Transfer), s.skn.xwait.find? (·.1 == id) = some (id, w) → w.query = false →
       s.skn.transfers.find w.row = some x →
       Completes (.transferTimeout id) s fun t =>
         t.skn.transfers.find w.row = some { x with st := 2 } ∧ t.ru.jrn.pledged = s.ru.jrn.pledged - 1 ∧
         (∀ v, (id, v) ∉ t.skn.xwait) ∧ t.led = s.led) ∧
     (∀ (row : Nat) (x : Transfer), s.xferOf id 3 = true → s.forcesNow → Tab.sorted s.skn.transfers = true →
       (s.skn.transfers.find? fun p => p.2.id == id && (p.2.kind == 3 || p.2.kind == 4)) = some (row, x) →
       Completes (.transferDoneReceive id) s fun t =>
         t.skn.transfers.find row = none ∧ t.ru.jrn.seq = s.ru.jrn.seq + 1) ∧
     (∀ (src : BitVec 6) (row : Nat), s.xferOf id 3 = false → s.xferOf id 4 = false → s.forcesNow → s.freeRow = some row →
       Completes (.transferQueryReceive src id) s fun t =>
         (∃ x, t.skn.transfers.find row = some x ∧ x.id = id ∧ x.kind = 4) ∧ t.ru.jrn.seq = s.ru.jrn.seq + 1 ∧
         After.tombstone src id ∈ t.led.group.after))

/-- R280, R281. A command that another node routed here runs its body here and its reply goes back to that node; a reply that
comes back, or none in time, answers the packet that waits for it. -/
def Obligations.RoutedCommandsAreAnswered : Prop :=
  ∀ (s : State) (tag : BitVec 32),
    (∀ (src : BitVec 6) (c : Cmd) (body : Ctx → State → Out) (i : OpInfo) (x : Ctx),
      x = { c, epoch := 0, dom := c.dom, id := 0, unit := 0xFF, sqHead := 0, chainEnd := false, keys := (s.policy c.dom).keys } →
      routedBody c.pkt = some body → opInfo c.pkt.opcode = some i → decodeRest s c.q c.dom c.pkt i .host = none →
      (body x s).when_ = .now →
      Completes (.routedCommand src tag c) s fun t =>
        t = (body x s).s.ended.routedSend src tag (x.held (body x s).status (body x s).cyc (body x s).inl (body x s).result)) ∧
    (∀ (k : Routed) (r : RouteReply) (f : Fetched), s.skn.routed.find tag.toNat = some k → k.h.via = .host →
      (s.queue k.h.q).inflight.find? (·.id == k.h.id) = some f → k.h.tag = f.pkt.tag → Tab.sorted s.skn.routed = true →
      Completes (.routedReply tag r) s fun t =>
        t.answers k.h.q f r.status r.inl ∧ t.skn.routed.find tag.toNat = none) ∧
    (∀ (k : Routed) (f : Fetched), s.skn.routed.find tag.toNat = some k → k.h.via = .host →
      (s.queue k.h.q).inflight.find? (·.id == k.h.id) = some f → k.h.tag = f.pkt.tag → Tab.sorted s.skn.routed = true →
      Completes (.routedTimeout tag) s fun t =>
        t.answers k.h.q f stNodeUnreachable 0 ∧ t.skn.routed.find tag.toNat = none)

/-- R372, R383 to R385. `CARD_INFO` reports or identifies; `CARD_FORMAT`, `CARD_READ`, `CARD_CLEAR` and `CARD_AUDIT` each start
the card transaction that R383 to R385 give them, and an audit takes the next audit block. R372 to R374. A card that comes is
identified, one that leaves is no longer READY; CMD1 answered ready ends the identification; a block whose busy ends is on the
card and the command is answered; a failed or late transaction counts as a removal and a failure. -/
def Obligations.CardCommandsAndEvents : Prop :=
  (∀ (c : Cmd) (s : State) (f : Fetched),
     (Runs 0x0901 (some 0) c s f → 0 < c.pkt.outLen.toNat →
       Completes (.cardInfoReport c) s fun t =>
         t.answers c.q f 0 0 ∧ s.answersOnly t c.q ∧
         Posted.hostWrite (rowPacket 0x0901 (some 0) c.pkt).outPtr (s.card.info.take c.pkt.outLen.toNat) ∈ t.sent) ∧
     (∀ m : Media, Runs 0x0901 (some 1) c s f → s.card.op = none → s.card.present = true → s.card.en = true →
       s.card.media = some m → m.readyAtOnce = true →
       Completes (.cardInfoIdentify c) s fun t =>
         t.card.ready = true ∧ t.card.cid = m.cid ∧ t.card.op = none ∧ t.answers c.q f 0 0) ∧
     (Runs 0x0902 none c s f → s.card.op = none → s.card.ready = true → s.card.wp = false →
       (∀ k, k < 256 → s.slotHeld k = false) →
       Completes (.cardFormat c) s fun t =>
         t.card.busy = true ∧ t.card.auditNext = 0 ∧
         ∃ h, t.card.op = some (.write ((0, volumeHeader) :: (List.range 1599).map fun k => (k + 1, zeros 512)) h) ∧
           h.q = c.q ∧ h.id = f.id) ∧
     (Runs 0x0903 none c s f → s.card.op = none → s.card.ready = true →
       Completes (.cardRead c) s fun t =>
         ∃ h, t.card.op = some (.read (c.pkt.field 32 4) h c.pkt.outPtr c.pkt.outLen.toNat) ∧ h.q = c.q ∧ h.id = f.id) ∧
     (Runs 0x0904 none c s f → s.card.op = none → s.card.ready = true → s.card.wp = false →
       s.slotHeld (c.pkt.field 32 2) = false →
       Completes (.cardClear c) s fun t =>
         t.card.busy = true ∧
         ∃ h, t.card.op = some (.write [(slipBlock (c.pkt.field 32 2), zeros 512), (markerBlock (c.pkt.field 32 2), zeros 512)] h) ∧
           h.q = c.q ∧ h.id = f.id) ∧
     (∀ m, Runs 0x0905 none c s f → s.card.op = none → s.card.ready = true → s.card.wp = false → s.card.formatted = true →
       s.dmk 0 = some m →
       Completes (.cardAudit c) s fun t =>
         t.card.busy = true ∧ t.card.auditNext = (s.card.auditNext + 1) % 65536 ∧ t.ks.draws = s.ks.draws + 1 ∧
         ∃ h bs, t.card.op = some (.write [(576 + s.card.auditNext % 1024, bs)] h) ∧ h.q = c.q ∧ h.id = f.id ∧
           bs = s.auditBlock m (s.draw.setWidth 128))) ∧
  (∀ s : State,
     (∀ m : Media, s.card.en = true → s.card.auto = true → m.readyAtOnce = true →
       Completes (.cardDetectChange (some m)) s fun t =>
         t.card.present = true ∧ t.card.ready = true ∧ t.card.media = some m ∧ t.card.cid = m.cid ∧
         t.gctl.evtStat.getLsbD evCard = true) ∧
     Completes (.cardDetectChange none) s (fun t =>
       t.card.present = false ∧ t.card.ready = false ∧ t.card.media = none ∧ t.card.op = none ∧
       t.card.removals = satAdd s.card.removals 1 ∧ t.card.failures = s.card.failures ∧
       t.gctl.evtStat.getLsbD evCard = true) ∧
     (∀ (tries : Nat) (m : Media), s.card.op = some (.ident tries none) → s.card.media = some m →
       Completes (.cardCmd1Retry true) s fun t => t.card.ready = true ∧ t.card.op = none ∧ t.card.cid = m.cid) ∧
     (∀ (status : BitVec 32) (n : Nat) (bs : Bytes) (h : Held) (f : Fetched), s.card.busy = true →
       status &&& cmd13Errors = 0 → s.card.op = some (.write [(n, bs)] h) → h.via = .host →
       (s.queue h.q).inflight.find? (·.id == h.id) = some f → h.tag = f.pkt.tag →
       Completes (.cardBusyEnd status) s fun t =>
         t.card.media = (s.card.write n bs).media ∧ t.card.op = none ∧ t.card.busy = false ∧ t.answers h.q f h.status h.inl) ∧
     (∀ (n : Nat) (h : Held) (a : BitVec 64) (len : Nat) (f : Fetched), s.card.op = some (.read n h a len) → h.via = .host →
       (s.queue h.q).inflight.find? (·.id == h.id) = some f → h.tag = f.pkt.tag →
       Completes (.cardReadData true) s fun t => t.card.op = none ∧ t.answers h.q f h.status h.inl) ∧
     (s.card.busy = true →
       Completes .cardBusyTimeout s fun t =>
         t.card.ready = false ∧ t.card.err = true ∧ t.card.op = none ∧ t.card.removals = satAdd s.card.removals 1 ∧
         t.card.failures = satAdd s.card.failures 1) ∧
     (s.card.op.isSome = true → s.card.busy = false →
       Completes .cardReadTimeout s fun t =>
         t.card.ready = false ∧ t.card.err = true ∧ t.card.op = none ∧ t.card.removals = satAdd s.card.removals 1 ∧
         t.card.failures = satAdd s.card.failures 1))

/-- R117 to R120. `ADMIT` of a credential or of a ticket whose entry is live and has admissions left counts one more; `LOOKUP`
reports an entry; `ENROL_EXTERNAL` inserts one. Each runs on the node that owns the entry. -/
def Obligations.RegisterAdmitsLooksUpAndEnrols : Prop :=
  ∀ (c : Cmd) (s : State) (f : Fetched) (fp : BitVec 128) (e : Entry) (place : Place) (n : PoolId) (p : Pool) (k : Slot),
    n = c.poolA → s.slotServes s.ru.reg.fpkSlot.toNat useFingerprint k →
    (Runs 0x0301 none c s f → c.memErr = none → c.pkt.byteAt 32 = 1 →
      fp = fingerprint k.key256 (credentialIdentity c.bytes) → s.rangeOwner fp = s.skn.nodeId →
      (s.begun 0x0301 none c f).lateChecks (s.ctxRun 0x0301 none c f) = none → s.ru.rb.needed = false → s.pool n = some p →
      p.rebuild = false → s.room 1 = true → (s.regFind fp).2 = some (e, place) → e.state = stExternal → e.pool = n →
      e.flags &&& 3 = 0 → e.admits < e.limit → s.spn.ran = [] →
      Completes (.admitSerial c) s fun t =>
        t.ru.reg.entryAt place = some { e with admits := e.admits + 1, time := s.gctl.time } ∧ t.ru.jrn.seq = s.ru.jrn.seq + 1 ∧
        t.answersDurable c.q f (s.settledInline { e with admits := e.admits + 1, time := s.gctl.time } place)) ∧
    (∀ (mode : Byte) (tl : Nat), mode = c.pkt.byteAt 33 → tl = (if mode = 1 then 64 else if mode = 2 then 16 else 8) →
      Runs 0x0301 none c s f → c.memErr = none → c.pkt.byteAt 32 = 0 → 1 ≤ mode → mode ≤ 3 →
      slice c.bytes 0 2 = [1, mode] → leAt c.bytes 10 2 = n.toNat →
      nodeOf ((slice c.bytes 23 1).headD 0) = some s.skn.nodeId →
      (s.begun 0x0301 none c f).lateChecks (s.ctxRun 0x0301 none c f) = none → s.ru.rb.needed = false → s.pool n = some p →
      p.rebuild = false → s.room 1 = true →
      (s.ticketAuth (rowPacket 0x0301 none c.pkt) mode (c.bytes.take (c.bytes.length - tl))
        (c.bytes.drop (c.bytes.length - tl))).2 = .ok true →
      fp = fingerprint k.key256 (ticketIdentity ((slice (c.bytes.take (c.bytes.length - tl)) 23 1).headD 0) n
        (BitVec.ofNat 40 (leAt (c.bytes.take (c.bytes.length - tl)) 12 5))) →
      (s.regFind fp).2 = some (e, place) → e.state = stIssued → e.pool = n → e.flags &&& 3 = mode → e.admits < e.limit →
      s.spn.ran = [] → (mode = 1 → s.programsRun c false) →
      Completes (.admitSerial c) s fun t =>
        t.ru.reg.entryAt place = some { e with admits := e.admits + 1, time := s.gctl.time } ∧ t.ru.jrn.seq = s.ru.jrn.seq + 1 ∧
        t.answersDurable c.q f (s.settledInline { e with admits := e.admits + 1, time := s.gctl.time } place)) ∧
    (Runs 0x0302 none c s f → c.pkt.byteAt 32 = 0 → nodeOf (namedTicket c.pkt).1 = some s.skn.nodeId →
      fp = fingerprint k.key256 (namedTicket c.pkt).2 →
      (s.begun 0x0302 none c f).lateChecks (s.ctxRun 0x0302 none c f) = none → (s.regFind fp).2 = some (e, place) →
      s.pool e.pool = some p → p.rebuild = false → 0 < c.pkt.outLen.toNat →
      Completes (.lookup c) s fun t =>
        t.wrote c (entryBytes e) ∧ t.led.pools = s.led.pools ∧ t.ru.jrn = s.ru.jrn ∧ t.answers c.q f 0 (s.entryInline e place)) ∧
    (∀ (new : Entry) (at_ : Place),
      new = { fp, pool := n, serial := 0, state := stExternal, admits := 0, limit := c.pkt.byteAt 33
              node := s.node, flags := 0, time := s.gctl.time } →
      Runs 0x0303 none c s f → c.memErr = none → fp = fingerprint k.key256 (credentialIdentity c.bytes) →
      s.rangeOwner fp = s.skn.nodeId → (s.begun 0x0303 none c f).lateChecks (s.ctxRun 0x0303 none c f) = none →
      s.pool n = some p → s.isOpen p = true → s.room 1 = true → (s.ru.reg.operate (.insert new)).2 = .ok →
      (s.ru.reg.operate (.insert new)).1.find fp = some (new, at_) →
      Completes (.enrolExternal c) s fun t =>
        t.ru.reg = { (s.ru.reg.operate (.insert new)).1 with changed := t.ru.reg.changed } ∧
        t.ru.jrn.seq = s.ru.jrn.seq + 1 ∧ t.led.pools = s.led.pools ∧ t.answersDurable c.q f (s.settledInline new at_))

/-- R121, R130, R131. `PURGE` frees the entry it names or every entry of a retired pool; `CHECKPOINT` cuts a snapshot at the
sequence of its own record. R137 to R140. `REBUILD_BEGIN` without an image starts from the first record, `REBUILD_FEED` applies
the records of its batch, and `REBUILD_END` ends the rebuild with a recovery group. -/
def Obligations.PurgeCheckpointAndRebuild : Prop :=
  (∀ (c : Cmd) (s : State) (f : Fetched) (n : PoolId) (p : Pool), n = c.poolA →
     (∀ (fp : BitVec 128) (e : Entry) (place : Place) (k : Slot) (pk : Packet), pk = rowPacket 0x0309 (some 0) c.pkt →
       s.slotServes s.ru.reg.fpkSlot.toNat useFingerprint k →
       Runs 0x0309 (some 0) c s f → c.pkt.dataLen = 0 → nodeOf (namedTicket pk).1 = some s.skn.nodeId →
       fp = fingerprint k.key256 (namedTicket pk).2 →
       (s.begun 0x0309 (some 0) c f).lateChecks (s.ctxRun 0x0309 (some 0) c f) = none → s.pool n = some p → p.rebuild = false →
       s.room 1 = true → (s.regFind fp).2 = some (e, place) → purgeable e = true → e.pool = n →
       Completes (.purgeEntry c) s fun t =>
         t.ru.reg = (s.regFind fp).1.ru.reg.freeAt place ∧ t.ru.jrn.seq = s.ru.jrn.seq + 1 ∧
         t.answersDurable c.q f (inlAt 0 1)) ∧
     (Runs 0x0309 (some 1) c s f → c.async = false → s.pool n = some p → p.rebuild = false → p.st = 3 → s.room 1 = true →
       Completes (.purgePool c) s fun t =>
         t.ru.reg = (s.ru.reg.purge n).1 ∧ t.ru.jrn.seq = s.ru.jrn.seq + 1 ∧
         t.answersDurable c.q f (inlAt 0 (s.ru.reg.purge n).2)) ∧
     (∀ k : Slot, Runs 0x0304 none c s f → s.ru.ckpt = none → s.slotServes 3 useJournal k → s.room 1 = true →
       Completes (.checkpoint c) s fun t =>
         t.ru.jrn.seq = s.ru.jrn.seq + 1 ∧ t.ru.ckptNext = s.ru.ckptNext + 1 ∧
         ∃ x, t.ru.ckpt = some x ∧ x.id = s.ru.ckptNext ∧ x.jseq = s.ru.jrn.seq + 1 ∧ x.stash = s.ru.reg.stash ∧
           x.transfers = s.skn.transfers ∧ x.rooted = false ∧ x.held.q = c.q ∧ x.held.id = f.id)) ∧
  (∀ (c : Cmd) (s : State) (f : Fetched), s.ru.rb.needed = true →
     (Runs 0x0305 none c s f → s.ru.jrn.en = true → c.pkt.dataLen = 0 →
       Completes (.rebuildBegin c) s fun t =>
         t.ru.rb.begun = true ∧ t.ru.rb.expect = 1 ∧ t.ru.rb.head = s.chainStart ∧ t.ru.rb.broken = false ∧ t.ru.rb.leaves = 0 ∧
         t.answers c.q f 0 0) ∧
     (∀ (s' : State) (done left : Nat), Runs 0x0306 none c s f → s.ru.rb.begun = true → c.memErr = none →
       batchOk s.ru.rb.expect (recordsOf c.bytes) = true →
       State.feed (recordsOf c.bytes) (s.begun 0x0306 none c f) 0 0 = (s', done, left) →
       Completes (.rebuildFeed c) s fun t =>
         t.ru = s'.ru ∧ t.led = s'.led ∧ t.skn = s'.skn ∧ t.answers c.q f 0 (inlAt 0 done ||| inlAt 4 left)) ∧
     (Runs 0x0307 none c s f → s.ru.rb.begun = true →
       Completes (.rebuildEnd c) s fun t =>
         t.ru.rb.needed = false ∧ t.ru.rb.begun = false ∧ t.led.group.recovery = true ∧
         t.answersDurable c.q f (inlAt 0 s.consistent.toNat)))

/-- R92 to R95, R97. At a boundary the open group closes into a record that waits; the record takes the commit unit, is written
to one bank and then the other, and once durable it is the durable record and its replies are posted. R86, R90, R128. When room
comes for a forced record, its change is made; when a lease runs out, the lock ends, its units return to A, and LOCK_LAPSED is
set. -/
def Obligations.CommitGroupsAndForcedRecords : Prop :=
  (∀ s : State,
     (s.led.group.change = true →
       Completes .commitBoundary s fun t =>
         t.led.group = emptyGroup ∧ t.led.period = s.led.periodCfg ∧
         t.led.nextBoundary = max s.now s.led.nextBoundary + periodCyc s.led.periodCfg ∧
         ∃ r after, t.led.waiting = some (r, after) ∧ t.led.lastRec = r ∧ r.tot = s.recordTotals ∧ r.jseq = s.ru.jrn.seq ∧
           r.head = s.ru.jrn.head ∧ after = ((s.led.waiting.map Prod.snd).getD []) ++ s.led.group.after) ∧
     (∀ (r : CommitRec) (after : List After), s.cuReady = true → s.ledgerAsks = some (r, after) →
       Completes .commitUnitTake s fun t => t.led.waiting = none ∧ t.kp.cu = some (.ledger r after, false)) ∧
     (∀ r : CuReq, s.kp.cu = some (r, false) →
       Completes .commitBank0Written s fun t => t.kp.cu = some (r, true) ∧ t.kp.fe1 = s.kp.fe1 ∧ t.led = s.led) ∧
     (∀ (r : CommitRec) (h : Held) (f : Fetched), s.kp.cu = some (.ledger r [.reply h], true) → s.ru.ckpt = none →
       s.recovering = false → h.via = .host → (s.queue h.q).inflight.find? (·.id == h.id) = some f → h.tag = f.pkt.tag →
       Completes .commitDurable s fun t =>
         t.kp.cu = none ∧ t.led.durable = r ∧ t.led.haveDurable = true ∧ t.led.fseq = (if r.mark then r.seq else s.led.fseq) ∧
         t.answers h.q f h.status h.inl) ∧
     (∀ g : GenWrite, s.kp.cu = some (.gen g, true) → g.what = .nothing → g.after = [] →
       Completes .genTableWriteDurable s fun t => t.gen g.entry = g.val ∧ t.kp.cu = none) ∧
     (∀ (k : Ckpt) (bs : Bytes), s.kp.cu = some (.root k.id bs, true) → s.ru.ckpt = some k →
       Completes .checkpointRootDurable s fun t => t.ru.ckpt = some { k with rooted := true } ∧ t.kp.cu = none)) ∧
  (∀ s : State,
     (∀ (n : PoolId) (causes : Byte) (rest : List Forced) (p : Pool), s.ru.jrn.forced = .freeze n causes [] :: rest →
       s.forcedRoom = true → s.pool n = some p → rest.takeWhile Forced.follows = [] → s.led.applied = false →
       Completes .forcedRecordRoom s fun t =>
         t.pool n = some (p.withCauses (p.status ||| causes)) ∧ t.ru.jrn.forced = rest ∧ t.ru.jrn.seq = s.ru.jrn.seq + 1 ∧
         t.gctl.evtStat.getLsbD evFrozen = true) ∧
     (∀ (n : PoolId) (k : Lock) (p : Pool), s.lock n = some k → s.pool n = some p → s.isFrozen p = false → s.forcesNow →
       Tab.sorted s.led.locks = true → s.checkerPasses n { a := k.units, r := -(k.units : Int) } →
       Completes (.lockLapse n) s fun t =>
         t.lock n = none ∧ s.poolMoved t n { a := k.units, r := -(k.units : Int) } id ∧
         t.ru.jrn.seq = s.ru.jrn.seq + 1 ∧ t.gctl.evtStat.getLsbD evLockLapsed = true))

/-- R65, R113, R114, R132, R133. Register operations are accepted in order and their read pairs run them; buffered buckets and
pool records reach DRAM, each in a slot of its owner's of the memory schedule; a checkpoint's pre-images are staged while their chunk is
not sealed, and its root is formed with the image written to the host. -/
def Obligations.RegisterAndCheckpointEvents : Prop :=
  ∀ s : State,
    (∀ op : RegOp, Completes (.registerOperation op) s fun t => t.ru.reg.accepted = s.ru.reg.accepted ++ [op]) ∧
    (∀ (op : RegOp) (rest : List RegOp) (row : BitVec 20) (g : Register), s.slotIs s.now 0 = true → s.ru.reg.accepted = op :: rest →
      row = Config.dramRow 0 (bucketsOf (opFp op)).1 → g = ({ s.ru.reg with accepted := rest, ops := satAdd s.ru.reg.ops 1 } : Register) →
      (Completes (.registerReadPair .clean) s fun t => t.ru.reg = (g.run op).1 ∧ t.mem = s.mem) ∧
      (Completes (.registerReadPair .corrected) s fun t =>
        t.ru.reg = (g.run op).1 ∧ t.mem.ecc = satAdd s.mem.ecc 1 ∧
        t.mem.corrections.get row.toNat 0 = s.mem.corrections.get row.toNat 0 + 1)) ∧
    (s.slotIs s.now 0 = false → ∀ r, Completes (.registerReadPair r) s fun t => t = s) ∧
    (∀ (b : Nat) (es : List Entry) (rest : List (Nat × List Entry)), s.slotIs s.now 0 = true → s.ru.reg.wbuf = (b, es) :: rest →
      Completes .registerWriteBack s fun t =>
        t.ru.reg = { s.ru.reg with wbuf := rest, buckets := t.ru.reg.buckets } ∧ t.ru.reg.buckets.find b = some es) ∧
    (∀ (n : PoolId) (p : Pool), s.led.pendingWt.contains n.toNat = true → s.slotIs s.now 2 = true → s.pool n = some p →
      Completes (.poolTableWriteThrough n) s fun t =>
        t.led.dram.find n.toNat = some p ∧ t.led.pendingWt.contains n.toNat = false ∧ t.led.pools = s.led.pools) ∧
    (∀ (k : Ckpt) (u : Nat), s.ru.ckpt = some k → s.slotIs s.now 3 = true → k.leavesAt s.now ≤ unitChunk u → unitChunk u ≤ 1030 →
      unitChunk u ≠ 6 → k.staged.contains u = false → s.stagingFull = false →
      Completes (.checkpointStagingCopy u) s fun t => t.ru.ckpt = some { k with staged := k.staged ++ [u] }) ∧
    (∀ (k x : Ckpt) (chunks : List (Bytes × Bytes)), s.ru.ckpt = some k → k.root = none →
      chunks = k.chunks (ckptKey (s.journalKey.getD 0) k.id) s.node →
      x = { k with root := some (imageRoot (k.header s.node) chunks), staged := [] } →
      Completes .checkpointRootFormed s fun t =>
        t.ru.ckpt = some x ∧ t.kp.queue = s.kp.queue ++ [.root k.id x.record.bytes] ∧
        Posted.hostWrite k.outPtr (imageBytes (k.header s.node) chunks) ∈ t.sent)

/-- R20, R77 to R80, R85, R183. `ISSUE` with a GMAC seal takes a unit and a serial, of the pool or of the queue's lock, inserts
the entry of the new ticket, counts the unit as issued, chains one record, and answers with header and tag once that is durable, or
reserves the unit and starts a run of the seal pipeline; with an SM2 seal it reserves the unit and starts a job on a signing spindle. -/
def Obligations.IssueMakesATicket : Prop :=
  ∀ (c : Cmd) (s : State) (f : Fetched) (n : PoolId) (p : Pool) (serial : Serial) (run : IssueRun), n = c.poolA →
    run = { pool := n, serial, locked := c.pkt.locked, header := ticketHeader s (c.pkt.byteAt 32) n serial (c.pkt.field 34 2)
            admitLimit := c.pkt.byteAt 33, mode := c.pkt.byteAt 32, time := s.gctl.time } →
    Runs 0x0203 none c s f → c.memErr = none → s.pool n = some p → s.isOpen p = true → s.admits →
    (∀ (k : SealCtx) (fp : BitVec 128) (bs : Bytes) (len : Nat), c.pkt.byteAt 32 ≠ 1 → s.blocksPass c 14 →
      s.runOf (hIndex c.pkt.handleB) = none → s.sealCtx (hIndex c.pkt.handleB) = some k → k.st ≠ ctBroken → k.permits (c.pkt.byteAt 32).toNat = true → s.ticketFp n serial fp →
      (s.ru.reg.operate (.insert (issueEntry s run fp))).2 = .ok → s.led.drains = [] →
      len = 24 + (if c.pkt.byteAt 32 = 2 then 16 else 8) → bs = run.header ++ k.gmac (c.pkt.byteAt 32).toNat run.header c.bytes →
      (c.pkt.locked = false → (p.exclusive = false ∨ s.lock n = none) → serial = BitVec.ofNat 40 p.next → 1 ≤ p.a →
        p.next ≤ p.limit → s.checkerPasses n { a := -1, r := 1 } → s.checkerPasses n { a := -1, i := 1 } →
        Completes (.issue c) s fun t =>
          s.poolMoved t n { a := -1, i := 1 } (fun p => { p with next := p.next + 1 }) ∧
          t.ru.reg = { (s.ru.reg.operate (.insert (issueEntry s run fp))).1 with changed := t.ru.reg.changed } ∧
          t.ru.jrn.seq = s.ru.jrn.seq + 1 ∧
          ∃ h, After.reply h ∈ t.led.group.after ∧ h.q = c.q ∧ h.id = f.id ∧ h.status = 0 ∧ h.inl = inlAt 0 serial.toNat ∧
            h.write = some (c.pkt.outPtr, bs.take (min c.pkt.outLen.toNat len))) ∧
      (∀ l : Lock, c.pkt.locked = true → s.lock n = some l → l.q = c.q → l.epoch = (s.queue c.q).epoch → 1 ≤ l.units →
        serial = BitVec.ofNat 40 l.next → s.checkerPasses n { i := 1, r := -1 } →
        Completes (.issue c) s fun t =>
          s.poolMoved t n { i := 1, r := -1 } (fun p => p) ∧
          t.lock n = some { l with units := l.units - 1, next := l.next + 1, deadline := s.now + l.lease * 800000 } ∧
          t.ru.reg = { (s.ru.reg.operate (.insert (issueEntry s run fp))).1 with changed := t.ru.reg.changed } ∧
          t.ru.jrn.seq = s.ru.jrn.seq + 1 ∧ t.answersDurable c.q f (inlAt 0 serial.toNat))) ∧
    (∀ (k : SealCtx), c.pkt.byteAt 32 ≠ 1 → c.async = true → s.runOf (hIndex c.pkt.handleB) = none →
      s.sealCtx (hIndex c.pkt.handleB) = some k → k.st ≠ ctBroken → k.permits (c.pkt.byteAt 32).toNat = true →
      c.pkt.locked = false → (p.exclusive = false ∨ s.lock n = none) → serial = BitVec.ofNat 40 p.next → 1 ≤ p.a →
      p.next ≤ p.limit → s.checkerPasses n { a := -1, r := 1 } →
      Completes (.issue c) s fun t =>
        s.poolMoved t n { a := -1, r := 1 } (fun p => { p with next := p.next + 1 }) ∧
        t.ru.jrn.pledged = s.ru.jrn.pledged + 1 ∧ t.ru.reg = s.ru.reg ∧
        ∃ r cyc, t.runOf (hIndex c.pkt.handleB) = some r ∧ r.kind = .ticket run cyc ∧ r.aad = run.header ++ c.bytes ∧ r.data = [] ∧
          r.j0 = true ∧ r.h.q = c.q ∧ r.h.id = f.id) ∧
    (∀ (slot : Slot) (k : SignKey) (m : Nat), c.pkt.byteAt 32 = 1 → c.async = true → s.slotServes (hIndex c.pkt.handleB) useSign slot →
      signKey s slot = some k → s.idleSpindle true = some m → s.holding = false → c.pkt.locked = false →
      (p.exclusive = false ∨ s.lock n = none) → serial = BitVec.ofNat 40 p.next → 1 ≤ p.a → p.next ≤ p.limit →
      s.checkerPasses n { a := -1, r := 1 } →
      Completes (.issue c) s fun t =>
        s.poolMoved t n { a := -1, r := 1 } (fun p => { p with next := p.next + 1 }) ∧
        t.ru.jrn.pledged = s.ru.jrn.pledged + 1 ∧
        ∃ j, (t.spindle m).job = some j ∧ j.what = .issue run ∧ j.len = lenSign k.num k.cv.w)

/-- R180, R184, R189, R198. `CTX_OPEN` opens a closed context with the key, salt, invocation and nonce its parameters, this
device or the sender's record give, and answers with the session record; `CTX_CLOSE` closes an open one. R196, R197. `CTX_SAVE`
answers with a save record, in its clear form with the context as it stands, in its wrapped form leaving a SEAL context closed
under the next restore number; `CTX_RESTORE` of a clear record takes its invocation, of a wrapped OPEN or TICKET record its
whole context, of a wrapped SEAL record asks for the restore floor first. -/
def Obligations.SealContextsOpenCloseAndMove : Prop :=
  (∀ (c : Cmd) (s : State) (f : Fetched) (n : Nat) (x : Ctx), n = hIndex c.pkt.handleA → x = s.ctxRun 0x0401 none c f →
     (∀ (u : Byte) (bs : Bytes) (bit : Nat) (k : Slot), u = c.pkt.byteAt 32 → Runs 0x0401 none c s f → s.sealCtx n = none →
       s.sl.restoring.find n = none → 0 < c.pkt.outLen.toNat →
       (u = 1 ∧ bit = useSeal ∧ bs = [] ∨
         u = 2 ∧ bit = useOpen ∧ bs = c.bytes ∧ c.memErr = none ∧ (c.pkt.byteAt 33 = 0 → leAt bs 2 2 ≤ 16383) ∨
         u = 3 ∧ bit = useTicket ∧ bs = [] ∧ s.pinned < 256) →
       s.slotServes (hIndex c.pkt.handleB) bit k →
       Completes (.ctxOpen c) s fun t =>
         t.sealCtx n = some (openedCtx s x k.key128 (hIndex c.pkt.handleB) bs).1 ∧ t.answers c.q f 0 0 ∧
         t.wrote c (openedCtx s x k.key128 (hIndex c.pkt.handleB) bs).2 ∧
         t.ks.draws = s.ks.draws + (if u = 1 then 1 else 0) ∧ (∀ m, m ≠ n → t.sealCtx m = s.sealCtx m)) ∧
     (∀ k, Runs 0x0407 none c s f → s.sealCtx n = some k → s.runOf n = none → Tab.sorted s.sl.ctxs = true →
       Completes (.ctxClose c) s fun t =>
         t.sealCtx n = none ∧ t.answers c.q f 0 0 ∧ (∀ m, m ≠ n → t.sealCtx m = s.sealCtx m))) ∧
  (∀ (c : Cmd) (s : State) (f : Fetched) (n : Nat), n = hIndex c.pkt.handleA → s.runOf n = none →
     (∀ k, Runs 0x0405 none c s f → s.sealCtx n = some k → c.pkt.byteAt 32 = 1 → k.usage ≠ usTicket → 0 < c.pkt.outLen.toNat →
       Completes (.ctxSave c) s fun t =>
         t.sl.ctxs = s.sl.ctxs ∧ t.sl.sd = s.sl.sd ∧ t.ks = s.ks ∧ t.answers c.q f 0 0 ∧
         t.wrote c (saveHead s 1 96 n k 0 ++ saveClear k)) ∧
     (∀ (k : SealCtx) (wk : BitVec 128) (no : BitVec 64) (iv : BitVec 96) (head ct : Bytes), Runs 0x0405 none c s f → s.sealCtx n = some k → c.pkt.byteAt 32 ≠ 1 →
       k.st ≠ ctBroken → s.saveKey k.dom = some wk → 0 < c.pkt.outLen.toNat → Tab.sorted s.sl.ctxs = true →
       no = (if k.usage = usSeal then s.saves k.dom + 1 else 0) → iv = s.draw.setWidth 96 →
       head = saveHead s 2 208 n k no ++ beBytes 12 iv.toNat ++ zeros 4 → ct = gcmStream wk iv (blockBytes k.key ++ k.tailBytes) →
       Completes (.ctxSave c) s fun t =>
         t.sealCtx n = (if k.usage = usSeal then none else some k) ∧ t.answers c.q f 0 0 ∧ t.ks.draws = s.ks.draws + 1 ∧
         (k.usage = usSeal → t.saves k.dom = no) ∧ (∀ d, k.usage ≠ usSeal ∨ d ≠ k.dom → t.saves d = s.saves d) ∧
         (∀ m, m ≠ n → t.sealCtx m = s.sealCtx m) ∧ t.ks.slots = s.ks.slots ∧ t.ks.gens = s.ks.gens ∧
         t.wrote c (head ++ ct ++ gcmTag wk iv head ct)) ∧
     (∀ (k : SealCtx) (inv : BitVec 64), Runs 0x0406 none c s f → c.memErr = none → leAt c.bytes 0 1 = 1 → s.sealCtx n = some k →
       c.bytes.length = 96 → leAt c.bytes 1 1 = 1 → leAt c.bytes 2 2 = 96 → leAt c.bytes 4 8 = s.life.serial.toNat → leAt c.bytes 12 4 = n →
       leAt c.bytes 17 1 = k.usage.toNat → k.usage ≠ usTicket → k.st = ctIdle → leAt c.bytes 74 1 = 1 →
       inv = BitVec.ofNat 64 (leAt c.bytes 36 8) → k.inv.toNat ≤ inv.toNat →
       Completes (.ctxRestore c) s fun t =>
         t.sealCtx n = some (if k.usage = usSeal ∨ k.ordered then { k with inv } else k) ∧ t.answers c.q f 0 0 ∧
         (∀ m, m ≠ n → t.sealCtx m = s.sealCtx m) ∧ t.kp.queue = s.kp.queue) ∧
     (∀ (wk : BitVec 128) (iv : BitVec 96) (k : SealCtx) (dom : Dom), Runs 0x0406 none c s f → c.memErr = none →
       leAt c.bytes 0 1 = 2 → s.sealCtx n = none → s.sl.restoring.find n = none → leAt c.bytes 1 1 = 1 → leAt c.bytes 2 2 = 208 →
       c.bytes.length = 208 → dom = (slice c.bytes 16 1).headD 0 → dom = (s.queue c.q).dom → s.saveKey dom = some wk →
       iv = BitVec.ofNat 96 (beNat (slice c.bytes 32 12)) →
       gcmTag wk iv (slice c.bytes 0 48) (slice c.bytes 48 144) = slice c.bytes 192 16 →
       k = ctxOf (blockOf (slice (gcmStream wk iv (slice c.bytes 48 144)) 0 16))
         (slice (gcmStream wk iv (slice c.bytes 48 144)) 16 128) →
       k.usage = (slice c.bytes 17 1).headD 0 →
       (k.usage ≠ usSeal → (k.usage = usTicket → s.pinned < 256) →
         Completes (.ctxRestore c) s fun t =>
           t.sealCtx n = some k ∧ t.answers c.q f 0 0 ∧ (∀ m, m ≠ n → t.sealCtx m = s.sealCtx m) ∧ t.kp.queue = s.kp.queue) ∧
       (k.usage = usSeal → leAt c.bytes 4 8 = s.life.serial.toNat →
         max (s.gen dom.toNat).floor.toNat (s.genLast dom.toNat).floor.toNat < (BitVec.ofNat 64 (leAt c.bytes 20 8)).toNat →
         Completes (.ctxRestore c) s fun t =>
           t.sl.restoring.find n = some k ∧ t.sl.ctxs = s.sl.ctxs ∧
           ∃ g h, t.kp.queue = s.kp.queue ++ [.gen g] ∧ g.entry = dom.toNat ∧ g.what = .restore n ∧ g.after = [.reply h] ∧
             h.q = c.q ∧ h.id = f.id ∧ h.status = 0 ∧ g.val = { s.genLast dom.toNat with floor := BitVec.ofNat 64 (leAt c.bytes 20 8) })))

/-- R185 to R187, R190, R193 to R195. `SEAL_DATA` and `SEAL_FINAL` that pass the checks of R187 seal their data under the
context, `SEAL_FINAL` adds the tag; a command with steps of its own starts a run of the pipeline; `OPEN_VERIFY` releases the plaintext where the tag agrees and nothing where it does not. -/
def Obligations.SealedMessages : Prop :=
  ∀ (c : Cmd) (s : State) (f : Fetched) (n : Nat) (k : SealCtx) (p : Packet), n = hIndex c.pkt.handleA → s.sealCtx n = some k →
    s.runOf n = none → c.memErr = none →
    (∀ (final : Bool) (op : BitVec 16) (i : Instr) (k' : SealCtx) (aad lead data out : Bytes),
      (final = false ∧ op = 0x0402 ∧ i = .sealData c ∨ final = true ∧ op = 0x0403 ∧ i = .sealFinal c) →
      p = rowPacket op none c.pkt → Runs op none c s f → sealRefusal k p final = none → sealStart s k p c.bytes = (k', aad, lead) →
      data = c.bytes.drop (sealArgs k p).aad →
      (s.blocksPass c 14 →
        out = lead ++ ((k'.absorb aad).seals data).2 ++ (if final then ((k'.absorb aad).seals data).1.tag else []) →
        Completes i s fun t =>
          t.sealCtx n = some (sealEnd final ((k'.absorb aad).seals data).1) ∧ t.answers c.q f 0 k'.invCur ∧
          (out ≠ [] → 0 < c.pkt.outLen.toNat → t.wrote c out) ∧ (∀ m, m ≠ n → t.sealCtx m = s.sealCtx m)) ∧
      (c.async = true → (final = true ∨ (sealArgs k p).start = true ∨ data ≠ []) →
        Completes i s fun t =>
          t.sealCtx n = some { k' with inflight := true } ∧ (∀ m, m ≠ n → t.sealCtx m = s.sealCtx m) ∧
          (lead ≠ [] → Posted.hostWrite c.pkt.outPtr lead ∈ t.sent) ∧
          ∃ r, t.runOf n = some r ∧ r.kind = (if final then .final else .data) ∧ r.j0 = (sealArgs k p).start ∧ r.was = k ∧
            r.aad = aad ∧ r.data = data ∧ r.outPtr = c.pkt.outPtr + BitVec.ofNat 64 lead.length ∧ r.h.q = c.q ∧ r.h.id = f.id ∧
            r.h.inl = k'.invCur)) ∧
    (∀ o : OpenArgs, p = rowPacket 0x0404 none c.pkt → Runs 0x0404 none c s f → openRefusal k p c.bytes = none →
      o = openArgs k p c.bytes →
      (∀ b, c.async = true → s.freeHold = some b →
        Completes (.openVerify c) s fun t =>
          t.sl.holdBusy = setBit s.sl.holdBusy b true ∧
          ∃ r, t.runOf n = some r ∧ r.kind = .opens o.inv o.tag b [] ∧ r.j0 = true ∧ r.was = k ∧ r.aad = o.aad ∧ r.data = o.ct ∧
            r.outPtr = c.pkt.outPtr ∧ r.h.q = c.q ∧ r.h.id = f.id) ∧
      (s.blocksPass c 14 → s.freeHold.isSome = true → gcmTag k.key (k.iv o.inv) o.aad o.ct = o.tag →
        Completes (.openVerify c) s fun t =>
          t.sealCtx n = some (if k.ordered then { k with inv := o.inv } else k) ∧ t.answers c.q f 0 0 ∧
          (gcmStream k.key (k.iv o.inv) o.ct ≠ [] → 0 < c.pkt.outLen.toNat →
            t.wrote c (gcmStream k.key (k.iv o.inv) o.ct))) ∧
      (s.blocksPass c 14 → s.freeHold.isSome = true → gcmTag k.key (k.iv o.inv) o.aad o.ct ≠ o.tag →
        Completes (.openVerify c) s fun t =>
          t.sealCtx n = some k ∧ t.answers c.q f stTagMismatch 0 ∧ t.sl.tagFails = satAdd s.sl.tagFails 1))

/-- R179, R192, R193. The next block of the run whose turn it is enters the pipeline, authenticated data first; the oldest block leaves it, absorbed or
sealed; when a run is drained its tag is formed and its command answered; a fill puts a context's record into the cache, and an
evicted record goes back to the context store. -/
def Obligations.SealPipelineEvents : Prop :=
  ∀ (s : State) (n : Nat), n < 40960 →
    (∀ (r r' : SealRun) (aad : Bool) (bs : Bytes), s.sealTurn r → r.ctx = n → r.nextBlock = some (r', aad, bs) →
      Completes (.sealBlockAdmit n) s fun t =>
        t.sl.pipe = s.sl.pipe ++ [(n, aad, bs)] ∧ t.runOf n = some r' ∧ t.sl.blocks = s.sl.blocks + 1 ∧ t.sl.ctxs = s.sl.ctxs) ∧
    (∀ (r : SealRun) (k : SealCtx) (bs : Bytes) (rest : List (Nat × Bool × Bytes)), s.runOf n = some r → s.sealCtx n = some k →
      r.kind = .final →
      (s.sl.pipe = (n, true, bs) :: rest →
        Completes .sealBlockOut s fun t => t.sl.pipe = rest ∧ t.sealCtx n = some (k.absorb bs) ∧ t.sl.runs = s.sl.runs) ∧
      (s.sl.pipe = (n, false, bs) :: rest →
        Completes .sealBlockOut s fun t =>
          t.sl.pipe = rest ∧ t.sealCtx n = some (k.seals bs).1 ∧ Posted.hostWrite r.outPtr (k.seals bs).2 ∈ t.sent ∧
          t.runOf n = some { r with outPtr := r.outPtr + BitVec.ofNat 64 (k.seals bs).2.length })) ∧
    (∀ (r : SealRun) (k : SealCtx) (bs : Bytes) (f : Fetched), s.runOf n = some r → s.sealCtx n = some k → r.kind = .data →
      s.sl.pipe = [(n, false, bs)] → r.j0 = false → r.aad = [] → r.data = [] → r.h.via = .host →
      (s.queue r.h.q).inflight.find? (·.id == r.h.id) = some f → r.h.tag = f.pkt.tag →
      Completes .sealBlockOut s fun t =>
        t.sl.pipe = [] ∧ t.runOf n = none ∧ t.sealCtx n = some (sealEnd false (k.seals bs).1) ∧
        Posted.hostWrite r.outPtr (k.seals bs).2 ∈ t.sent ∧ t.answers r.h.q f r.h.status r.h.inl) ∧
    (∀ (r : SealRun) (k : SealCtx) (f : Fetched), s.runOf n = some r → s.sealCtx n = some k → s.drained r = true →
      r.kind = .final → r.h.via = .host → (s.queue r.h.q).inflight.find? (·.id == r.h.id) = some f → r.h.tag = f.pkt.tag →
      Completes (.sealTagFormed n) s fun t =>
        t.sealCtx n = some (sealEnd true k) ∧ Posted.hostWrite r.outPtr k.tag ∈ t.sent ∧ t.runOf n = none ∧
        t.answers r.h.q f r.h.status r.h.inl) ∧
    (s.sl.fills.contains n = true → s.slotIs (s.now - 14) 1 = true →
      (s.sl.cache.length < 4096 →
        Completes (.contextCacheFill n .clean) s fun t =>
          t.sl.fills.contains n = false ∧ t.sl.cache = n :: s.sl.cache ∧ t.sl.evicted = s.sl.evicted ∧ t.sl.ctxs = s.sl.ctxs) ∧
      (∀ v, 4096 ≤ s.sl.cache.length → s.victim = some v →
        Completes (.contextCacheFill n .clean) s fun t =>
          t.sl.fills.contains n = false ∧ t.sl.cache = n :: s.sl.cache.filter (· != v) ∧ t.sl.evicted = s.sl.evicted ++ [v] ∧
          t.sl.ctxs = s.sl.ctxs)) ∧
    (Completes .sealContextWriteBack s fun t =>
      t = (if s.slotIs s.now 1 then { s with sl := { s.sl with evicted := s.sl.evicted.drop 1 } } else s))

/-- R202 to R210. `HASH_INIT` makes a context IDLE, or absorbs the leading block of a key; `HASH_DATA` absorbs its blocks;
`HASH_FINAL`, `HASH_COMPARE` and `HASH_TO_KEY` answer from the value and leave the context IDLE; `HASH_CLOSE` closes it; one
block absorbed moves a running `HASH_DATA` on. R200, R203. Each block that the unit finishes is absorbed into its context; with
the last one `HASH_DATA` is answered with the count of blocks. -/
def Obligations.DigestsAreComputed : Prop :=
  (∀ (c : Cmd) (s : State) (f : Fetched) (n : Nat), n = hIndex c.pkt.handleA → n < 64 → s.digRun n = none →
     (Runs 0x0601 none c s f → c.pkt.handleB = 0 →
       Completes (.hashInit c) s fun t => t.dig' n = idleDig (s.queue c.q).dom false ∧ t.answers c.q f 0 0 ∧ ∀ m, m ≠ n → t.dig' m = s.dig' m) ∧
     (∀ k, Runs 0x0601 none c s f → c.pkt.handleB ≠ 0 → s.blocksPass c 17 → s.slotServes (hIndex c.pkt.handleB) usePrefix k →
       Completes (.hashInit c) s fun t =>
         t.dig' n = { (idleDig (s.queue c.q).dom false).absorb (k.bytes.map (· ^^^ c.pkt.byteAt 32)) with keyed := true } ∧
         t.answers c.q f 0 1 ∧ ∀ m, m ≠ n → t.dig' m = s.dig' m) ∧
     (Runs 0x0606 none c s f → (s.dig' n).st ≠ 0 →
       Completes (.hashClose c) s fun t => t.dig' n = closedDig ∧ t.answers c.q f 0 0 ∧ ∀ m, m ≠ n → t.dig' m = s.dig' m) ∧
     (c.memErr = none → (s.dig' n).st ≠ 0 →
       (∀ k, Runs 0x0602 none c s f → s.blocksPass c 17 → k = DigCtx.absorb c.bytes { s.dig' n with finished := false } →
         Completes (.hashData c) s fun t =>
           t.dig' n = k ∧ t.answers c.q f 0 k.blocks ∧ t.dig.blocks = s.dig.blocks + BitVec.ofNat 64 (c.bytes.length / 64) ∧
           ∀ m, m ≠ n → t.dig' m = s.dig' m) ∧
       (Runs 0x0602 none c s f → c.async = true → 64 ≤ c.bytes.length →
         Completes (.hashData c) s fun t =>
           t.dig' n = { s.dig' n with finished := false } ∧
           ∃ r, t.digRun n = some r ∧ r.kind = .data ∧ r.began = false ∧ r.data = c.bytes ∧ r.h.q = c.q ∧ r.h.id = f.id) ∧
       (s.blocksPass c 17 →
       (∀ k, Runs 0x0603 none c s f → (s.dig' n).keyed = false → k = (s.dig' n).absorb c.bytes → 0 < c.pkt.outLen.toNat →
         Completes (.hashFinal c) s fun t =>
           t.dig' n = idleDig k.dom true ∧ t.answers c.q f 0 k.blocks ∧ t.wrote c (digestBytes k.v) ∧
           ∀ m, m ≠ n → t.dig' m = s.dig' m) ∧
       (∀ (k : DigCtx) (m : Nat), Runs 0x0604 none c s f → m = (c.pkt.byteAt 32).toNat →
         k = (s.dig' n).absorb (c.bytes.take (c.bytes.length - m)) →
         Completes (.hashCompare c) s fun t =>
           t.dig' n = idleDig k.dom true ∧
           t.answers c.q f 0 (if (digestBytes k.v).take m == slice c.bytes (c.bytes.length - m) m then 1 else 0)) ∧
       (∀ (k : DigCtx) (slot : Nat) (usage : BitVec 16), Runs 0x0605 none c s f → k = (s.dig' n).absorb c.bytes →
         ((s.dig' n).st ≠ 1 ∨ c.pkt.dataLen ≠ 0) → s.freeSlot f.keys = some slot →
         usage = BitVec.ofNat 16 (c.pkt.field 34 2) →
         Completes (.hashToKey c) s fun t =>
           t.dig' n = idleDig k.dom true ∧ t.answers c.q f 0 (inlAt 0 (0x02000000 + slot)) ∧
           ∃ v, t.slot slot = some v ∧ v.st = .valid ∧ v.attr.usage = usage ∧ v.attr.origin = 3 ∧ v.attr.dom = (s.queue c.q).dom ∧
             v.attr.typ = (hashKeyType usage (c.pkt.byteAt 32).toNat).1 ∧
             v.value = valueOf ((digestBytes k.v).take (hashKeyType usage (c.pkt.byteAt 32).toNat).2))))) ∧
  (∀ (s : State) (n : BitVec 6) (r : DigRun), s.digTurn r → r.ctx = n.toNat → s.digRun n.toNat = some r →
     (64 < r.data.length →
       Completes (.digestBlockDone n) s fun t =>
         t.dig' n.toNat = (s.dig' n.toNat).absorb (r.data.take 64) ∧ t.dig.blocks = s.dig.blocks + 1 ∧
         t.digRun n.toNat = some { r with data := r.data.drop 64, began := true }) ∧
     (∀ f : Fetched, r.kind = .data → r.data.length ≤ 64 → r.h.via = .host → (s.queue r.h.q).inflight.find? (·.id == r.h.id) = some f →
       r.h.tag = f.pkt.tag →
       Completes (.digestBlockDone n) s fun t =>
         t.dig' n.toNat = (s.dig' n.toNat).absorb (r.data.take 64) ∧ t.digRun n.toNat = none ∧
         t.answers r.h.q f r.h.status ((s.dig' n.toNat).absorb (r.data.take 64)).blocks))

/-- R145, R153 to R156, R170. `SIGN` and `VERIFY` start a job on the lowest idle spindle of their kind; where the job ends in
the same step, `SIGN` answers with r and s once verify-after-sign accepts them, and `VERIFY` with the verdict. R160 to R163,
R172. `BN_JOB` runs its primitive on the lowest idle verify spindle and answers with its words and flags; `BN_ABORT` removes a
job that waits and stops one that runs. -/
def Obligations.SignaturesAndBigNumbers : Prop :=
  (∀ (c : Cmd) (s : State) (f : Fetched) (slot : Slot) (k : SignKey) (mode : Byte) (n : Nat), mode = c.pkt.byteAt 32 →
     c.memErr = none → signKey s slot = some k →
     (∀ e, e = digestOf mode k.z c.bytes → Runs 0x0501 none c s f →
       s.slotServes (hIndex c.pkt.handleA) (if mode = 0 then useSign else useSignDigest) slot → s.holding = false →
       s.idleSpindle true = some n →
       (c.async = true →
         Completes (.sign c) s fun t =>
           ∃ j, (t.spindle n).job = some j ∧ j.what = .sign ∧ j.len = lenSign k.num k.cv.w ∧ j.h.q = c.q ∧ j.h.id = f.id) ∧
       (∀ (vp : Nat) (o : SignOut) (r v : Nat), c.async = false → s.idleSpindle false = some vp → s.spn.signParked = [] →
         s.spn.verifyParked = [] → s.arb.leaving = [] →
         o = signatureOf k e ((s.fillEntropy n).spindle n).ent → o.regen = false →
         r = (o.r ^^^ (c.glitch.toNat / 2 ^ 256)) % 2 ^ k.cv.w → v = (o.s ^^^ (c.glitch.toNat % 2 ^ 256)) % 2 ^ k.cv.w →
         (sm2Verify k.cv e r v k.qx k.qy = true → 0 < c.pkt.outLen.toNat → 0 < k.cv.bytes →
           Completes (.sign c) s fun t =>
             t.answers c.q f 0 0 ∧
             Posted.hostWrite c.pkt.outPtr ((beBytes k.cv.bytes r ++ beBytes k.cv.bytes v).take
               (min c.pkt.outLen.toNat (2 * k.cv.bytes))) ∈ t.sent ∧
             (t.spindle n).jobs = satAdd (s.spindle n).jobs 1 ∧ (t.spindle n).job = none) ∧
         (sm2Verify k.cv e r v k.qx k.qy = false →
           Completes (.sign c) s fun t =>
             t.answers c.q f stSelfCheck 0 ∧ (t.spindle n).svc = .testing))) ∧
     (∀ (e : Nat) (rs : Nat × Nat), rs = pointAt k.cv.w c.bytes → e = digestOf mode k.z (c.bytes.drop (2 * k.cv.bytes)) →
       Runs 0x0502 none c s f →
       s.slotServes (hIndex c.pkt.handleA) (if mode = 0 then useVerify else useVerifyDigest) slot →
       s.idleSpindle false = some n → s.jobsStopped false = false →
       (c.async = true →
         Completes (.verify c) s fun t =>
           ∃ j, (t.spindle n).job = some j ∧ j.prog = .verify k.cv e rs.1 rs.2 k.qx k.qy none ∧ j.h.q = c.q ∧ j.h.id = f.id) ∧
       (c.async = false → s.spn.signParked = [] → s.spn.verifyParked = [] → s.arb.leaving = [] →
         Completes (.verify c) s fun t =>
           t.answers c.q f (if sm2Verify k.cv e rs.1 rs.2 k.qx k.qy then 0 else stSignatureReject) 0 ∧
           (t.spindle n).jobs = satAdd (s.spindle n).jobs 1 ∧ (t.spindle n).job = none))) ∧
  (∀ (c : Cmd) (s : State) (f : Fetched),
     (∀ (code w num n : Nat) (cv : Curve) (o : BnOut), code = (c.pkt.byteAt 32).toNat → w = bnWidth c.pkt →
       num = (if code < 0x10 then 0 else (c.pkt.byteAt 34).toNat) → Runs 0x0504 none c s f → c.memErr = none →
       (if code < 0x10 then some curve0 else (s.curve num).filter (·.w == w)) = some cv → s.idleSpindle false = some n →
       s.jobsStopped false = false →
       (c.async = true →
         Completes (.bnJob c) s fun t =>
           ∃ j, (t.spindle n).job = some j ∧ j.prog = .bn (c.pkt.byteAt 32) w cv (bnOps w (bnOperands code) c.bytes) ∧
             j.len = lenBn code w num ∧ j.what = .bn (BitVec.ofNat 12 (hIndex c.pkt.handleA))) ∧
       (c.async = false → s.spn.signParked = [] → s.spn.verifyParked = [] → s.arb.leaving = [] →
         o = bnRun code w cv (bnOps w (bnOperands code) c.bytes) →
         Completes (.bnJob c) s fun t =>
           t.answers c.q f 0 (inlAt 0 o.flags ||| inlAt 1 n) ∧ (t.spindle n).jobs = satAdd (s.spindle n).jobs 1 ∧
           (t.spindle n).job = none ∧
           (code ≠ 0x14 → o.words ≠ [] → 0 < c.pkt.outLen.toNat →
             Posted.hostWrite c.pkt.outPtr ((o.words.flatMap (beBytes (w / 8))).take
               (min c.pkt.outLen.toNat (if code < 0x10 then w / 8 else 2 * (w / 8)))) ∈ t.sent))) ∧
     (∀ (num : BitVec 12) (j : Job), num = BitVec.ofNat 12 (hIndex c.pkt.handleA) → Runs 0x0505 none c s f →
       (j.h.q ≠ c.q ∨ j.h.id ≠ f.id) → j.h.via = .host →
       (s.spn.verifyParked.find? (Job.isBn num) = some j →
         Completes (.bnAbort c) s fun t =>
           t.spn.verifyParked = s.spn.verifyParked.filter (!Job.isBn num ·) ∧ t.answers c.q f 0 (inlAt 0 1)) ∧
       (∀ n, s.spn.verifyParked = [] → s.spn.signParked = [] → s.arb.leaving = [] →
         lowestFrom (fun n => (s.spindle n).job.any (Job.isBn num)) 32 8 = some n →
         (s.spindle n).job = some j → (s.spindle n).halted = none →
         Completes (.bnAbort c) s fun t =>
           (t.spindle n).job = none ∧ (t.spindle n).aborts = satAdd (s.spindle n).aborts 1 ∧ t.answers c.q f 0 (inlAt 0 1))))

/-- R166 to R169. `PUBKEY_LOAD` of a point on its curve fills the lowest free slot with the key, its Z and its attributes;
`CURVE_LOAD` makes a curve that passes its checks valid, or clears one. -/
def Obligations.PublicKeysAndCurvesLoad : Prop :=
  ∀ (c : Cmd) (s : State) (f : Fetched),
    (∀ (cv : Curve) (n : Nat) (pt : Nat × Nat) (usage : BitVec 16), Runs 0x0503 none c s f → c.memErr = none →
      s.curve (c.pkt.byteAt 32).toNat = some cv → pt = pointAt cv.w c.bytes → onCurve cv pt.1 pt.2 = true →
      s.freeSlot f.keys = some n → usage = BitVec.ofNat 16 (c.pkt.field 34 2) → s.programsRun c false →
      Completes (.pubkeyLoad c) s fun t =>
        (∃ k, t.slot n = some k ∧ k.st = .valid ∧ k.value = 0 ∧ k.q = pointOf cv.w pt.1 pt.2 ∧
          k.z = sm2Z cv (c.bytes.drop (2 * cv.bytes)) pt.1 pt.2 ∧
          k.attr = pubAttr usage (c.pkt.byteAt 32) (s.queue c.q).dom cv.w pt.1 pt.2) ∧ (∀ m, m ≠ n → t.slot m = s.slot m) ∧
        t.answers c.q f 0 (inlAt 0 (0x02000000 + n) |||
          inlAt 4 (leNat ((digestBytes (sm2Z cv (c.bytes.drop (2 * cv.bytes)) pt.1 pt.2)).take 4)))) ∧
    (∀ (cv : Curve) (n : Nat), Runs 0x0503 none c s f → c.memErr = none → s.curve (c.pkt.byteAt 32).toNat = some cv →
      c.async = true → s.jobsStopped false = false → s.idleSpindle false = some n → s.spn.ran = [] →
      Completes (.pubkeyLoad c) s fun t =>
        t.ks = s.ks ∧ t.spn.ran = [] ∧
        ∃ j, (t.spindle n).job = some j ∧ j.prog = .part false 0 ∧ j.len = lenOnCurve (c.pkt.byteAt 32).toNat cv.w ∧
          j.h.q = c.q ∧ j.h.id = f.id) ∧
    (∀ (slot : Byte) (p : Packet), p = rowPacket 0x0506 (some 0) c.pkt → Runs 0x0506 (some 0) c s f → slot = p.byteAt 33 → slot ≠ 0 →
      (s.spn.curves.get slot.toNat { cv := curve0, valid := false }).valid = false → c.memErr = none →
      s.nvmStatus = none → s.programsRun c false →
      (curveCheck s.ks.draws slot c.bytes = 0 →
        Completes (.curveLoadLoad c) s fun t =>
          t.curve slot.toNat = some (curveOf c.bytes) ∧ t.ks.draws = s.ks.draws + 128 ∧
          (∀ m, m ≠ slot.toNat → t.curve m = s.curve m) ∧ t.answers c.q f 0 0) ∧
      (∀ n, n ≠ 0 → curveCheck s.ks.draws slot c.bytes = n →
        Completes (.curveLoadLoad c) s fun t =>
          t.spn.curves = s.spn.curves ∧ t.kp = s.kp ∧ t.answers c.q f stBadParameter (inlAt 0 n))) ∧
    (∀ (slot : Nat) (p : Packet), p = rowPacket 0x0506 (some 1) c.pkt → Runs 0x0506 (some 1) c s f → slot = (p.byteAt 33).toNat →
      slot ≠ 0 → Tab.sorted s.spn.curves = true → s.nvmStatus = none →
      Completes (.curveLoadClear c) s fun t =>
        t.curve slot = none ∧ (∀ m, m ≠ slot → t.curve m = s.curve m) ∧ t.answers c.q f 0 0)

/-- R226, R232. `KEY_LOAD_BLOB` of a blob that passes its checks writes the key into its slot with its attributes; with a
lineage to adopt the slot is reserved and the entry's write requested; a transport blob's DMK enters the domain key table. -/
def Obligations.KeyBlobsLoad : Prop :=
  ∀ (c : Cmd) (s : State) (f : Fetched) (dom : Dom) (h : BlobHead) (wk : BitVec 128) (m : Bytes), dom = (s.queue c.q).dom →
    Runs 0x0701 none c s f → c.memErr = none → blobRefusal s dom c.bytes = none → h = blobHead c.bytes →
    (s.blobParent (rowPacket 0x0701 none c.pkt) h dom).2 = .ok wk →
    unwrapBlob wk (slice c.bytes 0 128) (c.bytes.drop 128) = some m →
    (∀ (n : Nat) (k : NewKey) (extra : Nat), h.typ ≠ 8 → s.target f.keys true (c.pkt.field 36 2) = .ok n → s.spn.ran = [] →
      (h.typ = 5 → s.programsRun c true ∧ s.spindlesIn 0 8 = true ∧ s.isOut 0x51 = false) →
      (s.finishKey (keyOfBlob h dom 2 m (c.bytes.drop 128))).2 = some (k, extra) →
      (s.lineageOf h dom ((c.pkt.byteAt 38).getLsbD 0) = some none →
        (h.typ = 7 ∨ h.lineage = 0 ∨ (s.gen h.lineage.toNat).kcv = kcvOf h.typ m) →
        Completes (.keyLoadBlob c) s fun t =>
          t.answers c.q f 0 (keyInline (some n) k.attr.kcv) ∧ (∀ m, m ≠ n → t.slot m = s.slot m) ∧
          ∃ v, t.slot n = some v ∧ v.st = .valid ∧ v.value = valueOf m ∧ v.attr = k.attr ∧ v.q = k.q ∧ v.z = k.z) ∧
      (∀ g, s.lineageOf h dom ((c.pkt.byteAt 38).getLsbD 0) = some (some g) →
        Completes (.keyLoadBlob c) s fun t =>
          (∃ v, t.slot n = some v ∧ v.st = .reserved ∧ v.value = valueOf m ∧ v.attr = k.attr) ∧
          s.writesEntry t c f h.lineage.toNat { g with kcv := k.attr.kcv } none (.fill n) (keyInline (some n) k.attr.kcv) [])) ∧
    (∀ (root : BitVec 256) (d : Dom) (adopt : Option GenEntry), h.typ = 8 →
      s.lineageOf h dom ((c.pkt.byteAt 38).getLsbD 0) = some adopt → d = h.lineage.setWidth 8 →
      s.dmk d = none → s.rootKey = some root → s.nvmStatus = none → s.spn.ran = [] →
      Completes (.keyLoadBlob c) s fun t =>
        t.dmk d = some (BitVec.ofNat 256 (beNat (slice m 0 32))) ∧ (∀ e, e ≠ d → t.dmk e = s.dmk e) ∧ t.ks.slots = s.ks.slots ∧
        t.kp.queue = s.kp.queue ++ [.gen
          { entry := d.toNat, val := { s.genLast d.toNat with present := true }, check := none, what := .nothing, after := [] }] ∧
        t.answers c.q f 0 (keyInline none (kcvOf 8 m)))

/-- R234, R237. `KEY_GENERATE` draws a key from the source and answers with its blob, whose slot, where one is asked for, it
fills; an SM2 key also passes its test signature; a KEK or a lineage takes a generation-table entry; a domain master key enters
the domain key table. R238. `KEY_WRAP` answers with a blob: of a slot's key under the parent named, of key material in the clear
under a KEK that permits it, of a domain master key under the transport key. -/
def Obligations.KeysAreGeneratedAndWrapped : Prop :=
  (∀ (c : Cmd) (s : State) (f : Fetched) (dom : Dom) (typ : Byte) (p : Packet), p = rowPacket 0x0702 none c.pkt →
     dom = (s.queue c.q).dom → typ = p.byteAt 32 → Runs 0x0702 none c s f → c.memErr = none → 0 < c.pkt.outLen.toNat →
     s.spn.ran = [] →
     (∀ (cv : Curve) (q : Parent) (alloc : Option (Nat × GenEntry)) (lin : BitVec 16 × BitVec 32) (s' : State) (m blob : Bytes)
         (k : NewKey) (extra : Nat) (pt : Nat × Nat), typ ≠ 8 → (typ = 7 → p.handleB = 0) →
       (typ = 5 → s.programsRun c true ∧ s.programsRun c false) →
       (if typ = 5 then s.curve (p.byteAt 33).toNat else some curve0) = some cv → (s.parentOf p useWrap dom).2 = .ok q →
       s.allocated typ ((p.byteAt 38).getLsbD 1) 0 dom = .ok alloc →
       s.generateLineage (s.ctxRun 0x0702 none c f) alloc = .ok lin → s.drawKey typ cv = (s', m) →
       blob = wrapBlob q.wk (blobFor typ (BitVec.ofNat 16 (p.field 34 2)) (p.byteAt 33) c.bytes.length q lin.1 lin.2
         (s'.draw.setWidth 96)) c.bytes m →
       (((s'.drawn 1).finishKey (keyOfBlob (blobFor typ (BitVec.ofNat 16 (p.field 34 2)) (p.byteAt 33) c.bytes.length q lin.1 lin.2
         (s'.draw.setWidth 96)) dom 1 m c.bytes)).2 = some (k, extra)) →
       pt = pointAt cv.w (beBytes (2 * cv.bytes) k.q.toNat) →
       (typ = 5 → (((s'.drawn 1).finishKey (keyOfBlob (blobFor typ (BitVec.ofNat 16 (p.field 34 2)) (p.byteAt 33) c.bytes.length q
         lin.1 lin.2 (s'.draw.setWidth 96)) dom 1 m c.bytes)).1.testSign (p.byteAt 33).toNat cv m pt.1 pt.2 c.glitch).2 = true) →
       (∀ n, alloc = none → (p.byteAt 38).getLsbD 0 = true → s.target f.keys false (p.field 36 2) = .ok n →
         Completes (.keyGenerate c) s fun t =>
           t.answers c.q f 0 (keyInline (some n) k.attr.kcv) ∧ (∀ m, m ≠ n → t.slot m = s.slot m) ∧
           t.wrote c (blob ++ if typ = 5 then pointBytes cv.w pt.1 pt.2 else []) ∧
           ∃ v, t.slot n = some v ∧ v.st = .valid ∧ v.value = valueOf m ∧ v.attr = k.attr ∧ v.q = k.q ∧ v.z = k.z) ∧
       (alloc = none → (p.byteAt 38).getLsbD 0 = false →
         Completes (.keyGenerate c) s fun t =>
           t.answers c.q f 0 (keyInline none k.attr.kcv) ∧ t.ks.slots = s.ks.slots ∧
           t.wrote c (blob ++ if typ = 5 then pointBytes cv.w pt.1 pt.2 else [])) ∧
       (∀ e g, alloc = some (e, g) → (p.byteAt 38).getLsbD 0 = false →
         Completes (.keyGenerate c) s fun t =>
           t.ks.slots = s.ks.slots ∧
           s.writesEntry t c f e (if typ = 7 then g else { g with kcv := k.attr.kcv }) none .nothing (keyInline none k.attr.kcv)
             (blob ++ if typ = 5 then pointBytes cv.w pt.1 pt.2 else [])) ∧
       (∀ e g n, alloc = some (e, g) → (p.byteAt 38).getLsbD 0 = true → s.target f.keys false (p.field 36 2) = .ok n →
         Completes (.keyGenerate c) s fun t =>
           (∃ v, t.slot n = some v ∧ v.st = .reserved ∧ v.value = valueOf m ∧ v.attr = k.attr) ∧ (∀ m, m ≠ n → t.slot m = s.slot m) ∧
           s.writesEntry t c f e (if typ = 7 then g else { g with kcv := k.attr.kcv }) none (.fill n) (keyInline (some n) k.attr.kcv)
             (blob ++ if typ = 5 then pointBytes cv.w pt.1 pt.2 else []))) ∧
     (∀ (root : BitVec 256) (d : Dom) (m : Bytes), typ = 8 → d = p.byteAt 42 → s.rootKey = some root → s.nvmStatus = none →
       (s.gen d.toNat).present = false → s.dmk d = none → m = (s.drawKey 8 curve0).2 →
       Completes (.keyGenerate c) s fun t =>
         t.dmk d = some (BitVec.ofNat 256 (beNat (slice m 0 32))) ∧ (∀ e, e ≠ d → t.dmk e = s.dmk e) ∧ t.ks.slots = s.ks.slots ∧
         t.wrote c ((s.drawKey 8 curve0).1.installDmk d (BitVec.ofNat 256 (beNat (slice m 0 32))) root).2 ∧
         t.answers c.q f 0 (keyInline none (kcvOf 8 m)))) ∧
  (∀ (c : Cmd) (s : State) (f : Fetched) (dom : Dom) (iv : BitVec 96), dom = (s.queue c.q).dom → iv = s.draw.setWidth 96 →
     0 < c.pkt.outLen.toNat →
     (∀ (p : Packet) (k : Slot) (q : Parent), p = rowPacket 0x0703 (some 0) c.pkt → Runs 0x0703 (some 0) c s f →
       (s.readSlot (hIndex p.handleA)).2 = .ok k → unwrappable (hIndex p.handleA) k = false → (k.attr.typ = 7 → p.handleB = 0) →
       (s.parentOf p useWrap k.attr.dom).2 = .ok q →
       Completes (.keyWrapRewrap c) s fun t =>
         t.answers c.q f 0 0 ∧ t.ks.draws = s.ks.draws + 1 ∧ t.ks.slots = s.ks.slots ∧
         t.wrote c (wrapBlob q.wk (blobFor k.attr.typ k.attr.usage k.attr.curve k.id.length q k.attr.lineage k.attr.lineageGen iv)
           k.id k.bytes)) ∧
     (∀ (p : Packet) (typ : Byte) (usage : BitVec 16) (q : Parent) (e len : Nat), p = rowPacket 0x0703 (some 1) c.pkt →
       typ = p.byteAt 32 → usage = BitVec.ofNat 16 (p.field 34 2) → e = p.field 40 2 → len = valueLen s typ (p.byteAt 33).toNat →
       Runs 0x0703 (some 1) c s f → c.memErr = none → 1 ≤ typ.toNat → typ.toNat ≤ 5 → usageOk typ usage dom = true →
       (typ ≠ 5 → p.byteAt 39 = 0) → (typ = 5 → (s.curve (p.byteAt 33).toNat).isSome = true) → p.handleB ≠ 0 →
       (s.kekParent (hIndex p.handleB) useClearImport dom).2 = .ok q →
       (e ≠ 0 → 256 ≤ e ∧ e < 4096 ∧ (s.gen e).kind = 3 ∧ (s.gen e).dom = dom ∧ genFull (s.gen e) = false) →
       Completes (.keyWrapClear c) s fun t =>
         t.answers c.q f 0 0 ∧ t.ks.draws = s.ks.draws + 1 ∧ t.ks.slots = s.ks.slots ∧
         t.wrote c (wrapBlob q.wk (blobFor typ usage (p.byteAt 33) (c.bytes.drop len).length q (BitVec.ofNat 16 e)
           (if e = 0 then 0 else (s.gen e).gen + 1) iv) (c.bytes.drop len) (slice (c.bytes.take len) 0 64))) ∧
     (∀ (p : Packet) (tk : Slot) (v : BitVec 256), p = rowPacket 0x0703 (some 2) c.pkt → Runs 0x0703 (some 2) c s f → dom = 0 →
       (s.readSlot 4).2 = .ok tk → s.dmk (p.byteAt 42) = some v →
       Completes (.keyWrapDmk c) s fun t =>
         t.answers c.q f 0 0 ∧ t.ks.draws = s.ks.draws + 1 ∧
         t.wrote c (dmkBlob (wrapKey (blockBytes tk.key128) 0xFFFE 0) 0xFFFE (p.byteAt 42) v iv)))

/-- R227 to R230, R240. `KEY_REPLACE` puts the new key into a shadow slot and requests the advance of its lineage, at whose
durability it takes the old slot's place; `KEY_INVALIDATE` requests the advance of a generation, and frees an entry; `KEY_EVICT`
empties a slot. -/
def Obligations.KeysAreReplacedAndRetired : Prop :=
  ∀ (c : Cmd) (s : State) (f : Fetched) (dom : Dom), dom = (s.queue c.q).dom →
    (∀ (n sh e extra : Nat) (k : Slot) (h : BlobHead) (wk : BitVec 128) (m : Bytes) (new : NewKey) (pt : Nat × Nat) (cv : Curve),
      n = hIndex c.pkt.handleA → Runs 0x0704 none c s f → c.memErr = none →
      (n ≠ s.ru.reg.fpkSlot.toNat ∨ s.ru.reg.liveCount = 0) → (s.readSlot n).2 = .ok k → blobRefusal s dom c.bytes = none →
      h = blobHead c.bytes → replaceRefusal s dom k h = none → (s.blobParent (rowPacket 0x0704 none c.pkt) h dom).2 = .ok wk →
      s.freeSlot f.keys = some sh → s.spn.ran = [] → (h.typ = 5 → s.programsRun c true ∧ s.programsRun c false) → unwrapBlob wk (slice c.bytes 0 128) (c.bytes.drop 128) = some m →
      kcvOf h.typ m = BitVec.ofNat 32 (c.pkt.field 32 4) →
      (s.finishKey (keyOfBlob h dom 2 m (c.bytes.drop 128))).2 = some (new, extra) → e = k.attr.lineage.toNat →
      cv = (s.curve new.attr.curve.toNat).getD curve0 → pt = pointAt cv.w (beBytes (2 * cv.bytes) new.q.toNat) →
      (h.typ = 5 → ((s.finishKey (keyOfBlob h dom 2 m (c.bytes.drop 128))).1.testSign new.attr.curve.toNat cv m pt.1 pt.2 c.glitch).2 = true) →
      Completes (.keyReplace c) s fun t =>
        (∃ v, t.slot sh = some v ∧ v.st = .shadow ∧ v.value = valueOf m ∧ v.attr = new.attr) ∧ (∀ m, m ≠ sh → t.slot m = s.slot m) ∧
        s.writesEntry t c f e { s.gen e with gen := (s.gen e).gen + 1, kcv := new.attr.kcv } (some (s.gen e).gen) (.switch n sh)
          (inlAt 0 ((s.gen e).gen + 1).toNat) []) ∧
    (∀ (p : Packet) (d : Nat), p = rowPacket 0x0705 (some 0) c.pkt → d = p.field 34 2 → Runs 0x0705 (some 0) c s f → d ≠ 0 →
      d < 256 → (s.gen d).present = true → genFull (s.genLast d) = false →
      Completes (.keyInvalidateDmk c) s fun t =>
        t.ks = s.ks ∧
        s.writesEntry t c f d { s.genLast d with gen := (s.genLast d).gen + 1 } none .nothing
          (inlAt 0 ((s.genLast d).gen + 1).toNat) []) ∧
    (∀ (p : Packet) (e : Nat) (g : GenEntry), g = s.genLast e → 256 ≤ e → e < 4096 → ((s.gen e).kind = 2 ∨ (s.gen e).kind = 3) →
      (s.gen e).dom = dom → genFull g = false →
      (p = rowPacket 0x0705 (some 1) c.pkt → e = p.field 34 2 → Runs 0x0705 (some 1) c s f →
        Completes (.keyInvalidateEntry c) s fun t =>
          t.ks = s.ks ∧ s.writesEntry t c f e { g with gen := g.gen + 1 } none .nothing (inlAt 0 (g.gen + 1).toNat) []) ∧
      (p = rowPacket 0x0705 (some 2) c.pkt → e = p.field 34 2 → Runs 0x0705 (some 2) c s f →
        Completes (.keyInvalidateFree c) s fun t =>
          t.ks = s.ks ∧
          s.writesEntry t c f e { g with gen := g.gen + 1, kind := if g.gen + 1 = 0xFFFFFFFF then 4 else 0 } none .nothing
            (inlAt 0 (g.gen + 1).toNat) [])) ∧
    (∀ (n : Nat) (k : Slot), n = hIndex c.pkt.handleA → Runs 0x0706 none c s f → s.slot n = some k → (k.st = .valid ∨ k.st = .corrupt) →
      Tab.sorted s.ks.slots = true →
      Completes (.keyEvict c) s fun t =>
        t.slot n = none ∧ t.answers c.q f 0 0 ∧ (∀ m, m ≠ n → t.slot m = s.slot m))

/-- R239. `KEY_QUERY` reports a slot's attributes, a generation-table entry or the summary, and changes nothing. -/
def Obligations.KeyQueriesReport : Prop :=
  ∀ (c : Cmd) (s : State) (f : Fetched), 0 < c.pkt.outLen.toNat →
    (∀ (p : Packet) (k : Slot), p = rowPacket 0x0707 (some 0) c.pkt → Runs 0x0707 (some 0) c s f →
      (s.readSlot (hIndex p.handleA)).2 = .ok k →
      Completes (.keyQuerySlot c) s fun t =>
        t.answers c.q f 0 0 ∧ s.answersOnly t c.q ∧
        Posted.hostWrite p.outPtr ((slotRecord (hIndex p.handleA) k).take p.outLen.toNat) ∈ t.sent) ∧
    (∀ (p : Packet) (e : Nat), p = rowPacket 0x0707 (some 1) c.pkt → e = p.field 34 2 → Runs 0x0707 (some 1) c s f →
      Completes (.keyQueryEntry c) s fun t =>
        t.answers c.q f 0 0 ∧ s.answersOnly t c.q ∧
        Posted.hostWrite p.outPtr (((s.gen e).bytes e).take p.outLen.toNat) ∈ t.sent) ∧
    (Runs 0x0707 (some 2) c s f →
      Completes (.keyQuerySummary c) s fun t =>
        t.answers c.q f 0 0 ∧ s.answersOnly t c.q ∧
        Posted.hostWrite (rowPacket 0x0707 (some 2) c.pkt).outPtr
          ((leBytes 2 (s.slotCount .valid) ++ leBytes 2 (s.slotCount .corrupt) ++ leBytes 2 s.entriesUsed ++
            leBytes 2 s.ks.dmks.length ++ leBytes 8 s.ks.revs.toNat).take c.pkt.outLen.toNat) ∈ t.sent)

/-- R278, R282, R291. `NODE_REG` on this node reads or writes a register; on another it waits for that node's answer; `MAP_SET`
on a device alone switches at once, else it asks every member; `MAP_GET` reports the map. R266, R288, R289, R291. `NODE_MEMBER`
admits a candidate or retires a member that is not reachable; a device that presents itself becomes a candidate; a member lost
and one that returns are marked, and the map stored is switched to. -/
def Obligations.NodesMapAndMembers : Prop :=
  (∀ (c : Cmd) (s : State) (f : Fetched),
     (∀ (c' : Cmd) (off : Nat) (n : BitVec 6), c' = { c with pkt := c.pkt.setByte 33 0 } → off = c'.pkt.field 36 4 →
       n = (c'.pkt.byteAt 32).setWidth 6 → Runs 0x0801 none c' s f →
       (n = s.skn.nodeId →
         Completes (.nodeRegRead c) s fun t =>
           t.answers c.q f 0 (inlAt 0 ((s.begun 0x0801 none c' f).regRead off).toNat) ∧
           ((s.begun 0x0801 none c' f).readEffect off).answersOnly t c.q) ∧
       (n ≠ s.skn.nodeId → s.reaches n = true →
         Completes (.nodeRegRead c) s fun t =>
           t.skn.nextTag = s.skn.nextTag + 1 ∧
           ∃ h, t.skn.routed.find s.skn.nextTag.toNat = some { h, owner := n } ∧ h.q = c.q ∧ h.id = f.id ∧ h.status = 0)) ∧
     (∀ (c' : Cmd) (u : State) (n : BitVec 6), c' = { c with pkt := c.pkt.setByte 33 1 } →
       n = (c'.pkt.byteAt 32).setWidth 6 → Runs 0x0801 none c' s f →
       (n = s.skn.nodeId → u = (s.begun 0x0801 none c' f).regWrite (c'.pkt.field 36 4) (BitVec.ofNat 32 (c'.pkt.field 40 4)) →
         u.queues = (s.begun 0x0801 none c' f).queues →
         Completes (.nodeRegWrite c) s fun t => t.answers c.q f 0 0 ∧ u.answersOnly t c.q) ∧
       (n ≠ s.skn.nodeId → s.reaches n = true →
         Completes (.nodeRegWrite c) s fun t =>
           t.skn.nextTag = s.skn.nextTag + 1 ∧
           ∃ h, t.skn.routed.find s.skn.nextTag.toNat = some { h, owner := n } ∧ h.q = c.q ∧ h.id = f.id ∧ h.status = 0)) ∧
     (∀ (bs : Bytes) (m : Tab (BitVec 6)) (version : BitVec 64), bs = c.bytes → (m, version) = mapOf bs → Runs 0x0802 none c s f →
       c.memErr = none → s.skn.mapAsk = none → s.skn.version.toNat < version.toNat → s.nvmStatus = none → s.mapConflict m = none →
       (s.skn.members = [] → (∀ b ∈ slice bs 0 4096, b = s.node) →
         Completes (.mapSet c) s fun t => t.skn.map = m ∧ t.skn.version = version ∧ t.answers c.q f 0 0) ∧
       (s.skn.members ≠ [] → s.others.all s.reaches = true →
         (∀ b ∈ slice bs 0 4096, b = s.node ∨ b < 64 ∧ (s.skn.members.find b.toNat).isSome = true) →
         Completes (.mapSet c) s fun t =>
           t.skn.map = s.skn.map ∧ t.skn.version = s.skn.version ∧
           ∃ k, t.skn.mapAsk = some k ∧ k.map = m ∧ k.version = version ∧ k.waiting = s.others ∧ k.h.q = c.q ∧ k.h.id = f.id)) ∧
     (Runs 0x0803 none c s f → 0 < c.pkt.outLen.toNat →
       Completes (.mapGet c) s fun t =>
         t.answers c.q f 0 0 ∧ s.answersOnly t c.q ∧ t.wrote c (mapBytes s.skn.map s.skn.version))) ∧
  (∀ s : State,
     (∀ (c : Cmd) (f : Fetched) (p : Packet) (n : BitVec 6) (serial : BitVec 64) (kcv : BitVec 32),
       p = rowPacket 0x0804 (some 0) c.pkt → n = (p.byteAt 33).setWidth 6 → serial = BitVec.ofNat 64 (p.field 40 8) →
       p.byteAt 32 = 0 → Runs 0x0804 (some 0) c s f → s.skn.candidates.find? (·.1 == serial) = some (serial, kcv) →
       n ≠ s.skn.nodeId → s.skn.members.find n.toNat = none → s.memberCount < 64 → kcv = s.fpkKcv → s.nvmStatus = none →
       Completes (.nodeMemberAdmit c) s fun t =>
         t.skn.members.find n.toNat = some { serial, kcv } ∧ t.skn.candidates.any (·.1 == serial) = false ∧
         t.gctl.evtStat.getLsbD evNode = true ∧ t.answers c.q f 0 (inlAt 0 t.memberCount)) ∧
     (∀ (c : Cmd) (f : Fetched) (p : Packet) (n : BitVec 6) (m : Member), p = rowPacket 0x0804 (some 1) c.pkt →
       n = (p.byteAt 33).setWidth 6 → m.serial = BitVec.ofNat 64 (p.field 40 8) → p.byteAt 32 = 1 → Runs 0x0804 (some 1) c s f →
       s.skn.members.find n.toNat = some m → s.skn.retired.length < 256 → s.reaches n = false → s.nvmStatus = none →
       Tab.sorted s.skn.members = true →
       Completes (.nodeMemberRetire c) s fun t =>
         t.skn.members.find n.toNat = none ∧ t.skn.retired = s.skn.retired ++ [m.serial] ∧
         t.answers c.q f 0 (inlAt 0 t.memberCount)) ∧
     (∀ (serial : BitVec 64) (n : BitVec 6) (kcv : BitVec 32), s.skn.head = true → s.skn.retired.contains serial = false →
       (s.skn.members.find n.toNat).any (·.serial == serial) = false → s.skn.candidates.any (·.1 == serial) = false →
       Completes (.memberJoin serial n kcv) s fun t =>
         t.skn.candidates = s.skn.candidates ++ [(serial, kcv)] ∧ t.skn.members = s.skn.members) ∧
     (∀ (serial : BitVec 64) (n : BitVec 6) (kcv : BitVec 32), s.skn.head = true →
       (s.skn.retired.contains serial = true →
         Completes (.memberJoin serial n kcv) s fun t =>
           t.skn.candidates = s.skn.candidates ∧ t.skn.members = s.skn.members ∧ t.skn.lost = s.skn.lost) ∧
       (s.skn.retired.contains serial = false → (s.skn.members.find n.toNat).any (·.serial == serial) = true →
         Completes (.memberJoin serial n kcv) s fun t =>
           t.skn.lost = s.skn.lost.erase n ∧ t.skn.members = s.skn.members ∧ t.gctl.evtStat.getLsbD evNode = true)) ∧
     (∀ n : BitVec 6, n ≠ s.skn.nodeId → s.skn.head = true → s.skn.lost.contains n = false → s.skn.mapAsk = none →
       Completes (.memberUnreachable n) s fun t =>
         t.skn.lost = s.skn.lost ++ [n] ∧ t.skn.reach = (if s.reaches n then s.skn.reach - 1 else s.skn.reach) ∧
         t.gctl.evtStat.getLsbD evNode = true ∧ t.skn.cutOff = s.skn.cutOff) ∧
     (s.skn.nodeId ≠ 0 → s.skn.head = false → s.skn.mapAsk = none →
       Completes (.memberUnreachable 0) s fun t =>
         t.skn.cutOff = true ∧ t.ru.jrn.en = s.ru.jrn.en ∧ (∀ q, q ≠ 0 → (t.queue q).st = .absent) ∧
         (∀ q, (t.queue q).inflight = []) ∧ (∀ n, t.lock n = none)) ∧
     (∀ n : BitVec 6, s.skn.head = true → s.skn.lost.contains n = true →
       Completes (.memberRejoin n) s fun t =>
         t.skn.lost = s.skn.lost.erase n ∧ t.skn.reach = s.skn.reach + 1 ∧ t.gctl.evtStat.getLsbD evNode = true) ∧
     (s.skn.head = false → s.skn.lost.contains 0 = true →
       Completes (.memberRejoin 0) s fun t =>
         t.skn.lost = s.skn.lost.erase 0 ∧ t.skn.cutOff = false ∧ t.skn.reach = s.skn.reach + 1 ∧
         (s.ru.jrn.en = true → t.ru.jrn.unwritten = [])) ∧
     (∀ (m : Tab (BitVec 6)) (version : BitVec 64), s.skn.newMap = some (m, version) →
       Completes .mapSwitch s fun t => t.skn.map = m ∧ t.skn.version = version ∧ t.skn.newMap = none))

/-- R265 to R269, R274, R275, R290. A port trains, exchanges counters and comes up; a link that fails leaves service without its
key; enumeration and the census set what the head learns; a port at low rate sends heartbeats and returns to full rate. R268 to
R273, R277. A group's tag is checked; a packet for this node is delivered in turn or waits, one for another goes on; packets
that wait leave as credits allow; the head carries a member's host accesses. -/
def Obligations.SkeinLinksAndTraffic : Prop :=
  (∀ (s : State) (w : Port),
     (∀ (serial : BitVec 64) (nonce : BitVec 128) (k : Slot), (s.port w).st = .training → s.entropyOk = true →
       (s.readSlot s.skn.keySlot.toNat).2 = .ok k → k.attr.typ = 3 →
       Completes (.skeinTrainingDone w serial nonce) s fun t =>
         (t.port w).st = .reconciling ∧ (t.port w).peerSerial = serial ∧ (t.port w).myNonce = s.draw.setWidth 128 ∧
         t.ks.draws = s.ks.draws + 1 ∧
         (t.port w).key = some (match w with
           | .east => linkKey k.key256 s.life.serial serial (s.draw.setWidth 128) nonce
           | .west => linkKey k.key256 serial s.life.serial nonce (s.draw.setWidth 128))) ∧
     (∀ peer : List PeerCount, (s.port w).st = .reconciling → (s.port w).replay = [] → (s.port w).egress = [] →
       s.arb.waiting = [] →
       Completes (.skeinReconciliation w peer) s fun t =>
         (t.port w).st = .up ∧ (t.port w).inService = true ∧
         ∀ i, i < 5 → (t.port w).vcAt i = ((s.port w).vcAt i).reconciled (vcBuffer i) (peerAt peer i)) ∧
     (∀ cause : LinkFault, (s.port w).st ≠ .down → s.arb.waiting = [] →
       Completes (.skeinLinkFailure w cause) s fun t =>
         (t.port w).key = none ∧ (t.port w).inService = false ∧ t.skn.ring = false ∧
         (t.port w).st = (if s.skn.autoReturn then .training else .down)) ∧
     (∀ (returned : Bool) (reach : BitVec 7), s.skn.en = true →
       Completes (.ringEnumeration returned reach none) s fun t =>
         t.skn.ring = returned ∧ t.skn.reach = reach ∧ t.skn.nodes = reach) ∧
     (∀ (returned : Bool) (reach : BitVec 7), s.skn.en = true → s.skn.head = true →
       Completes (.ringEnumeration returned reach (some w)) s fun t =>
         t.skn.reach = reach ∧ (t.port w).heldDown = true ∧ (t.port w).st = .down ∧ (t.port w).inService = false ∧
         t.skn.ring = false) ∧
     (∀ peer : List PeerCount, (s.port w).st = .up → (s.port w).inService = true →
       (censusOk (s.port w) peer = true →
         Completes (.censusMarker w peer) s fun t =>
           t.skn.rounds = (if s.firstUp = w then satAdd s.skn.rounds 1 else s.skn.rounds) ∧ t.skn.mismatch = s.skn.mismatch ∧
           (t.port w).mismatched = false ∧
           (s.skn.head = false → (s.port w).egress = [] →
             ∀ i, i < 5 → (t.port w).vcAt i = ((s.port w).vcAt i).reconciled (vcBuffer i) (peerAt peer i))) ∧
       (censusOk (s.port w) peer = false → (s.port w).mismatched = false →
         Completes (.censusMarker w peer) s fun t =>
           t.skn.mismatch = satAdd s.skn.mismatch 1 ∧ (t.port w).st = .training ∧ (t.port w).mismatched = true)) ∧
     ((s.port w).st = .lowRate →
       (1 ≤ ((s.port w).vcAt 4).held →
         Completes (.heartbeat w) s fun t =>
           ((t.port w).vcAt 4).held = ((s.port w).vcAt 4).held - 1 ∧ ((t.port w).vcAt 4).sent = ((s.port w).vcAt 4).sent + 1 ∧
           ∃ p, Posted.skein w p ∈ t.posted ∧ p.src = s.node ∧ p.vc = 4 ∧ p.payload = []) ∧
       (((s.port w).vcAt 4).held = 0 → Completes (.heartbeat w) s fun t => t = s)) ∧
     ((s.port w).st = .lowRate →
       Completes (.lowRateReturn w) s fun t => t.port w = { s.port w with st := .reconciling, lanes := 2 }) ∧
     ((s.port w).swap = true →
       Completes (.bwTableSwap w) s fun t =>
         t.port w = (if bwOk (s.port w).shadow then { s.port w with live := (s.port w).shadow, swap := false, bad := false }
           else { s.port w with swap := false, bad := true }))) ∧
  (∀ (s : State) (w : Port),
     (∀ (gseq : BitVec 32) (cipher tag : Bytes) (key : BitVec 128) (dir : BitVec 32), (s.port w).key = some key →
       dir = (match w with | .east => 0x57 | .west => 0x45) →
       ((gcmTag key (dir ++ gseq.setWidth 64) [] cipher).take 12 = tag →
         Completes (.skeinGroupReceive w gseq cipher tag) s fun t =>
           t = (if gseq = (s.port w).rxGroup then
               State.takeFlits w 24 (s.setPort w { s.port w with
                 tagFails := 0, rxGroup := gseq + 1
                 rxFlits := (s.port w).rxFlits ++ gcmStream key (dir ++ gseq.setWidth 64) cipher })
             else s.setPort w { s.port w with tagFails := 0 })) ∧
       (∀ n : Nat, (gcmTag key (dir ++ gseq.setWidth 64) [] cipher).take 12 ≠ tag →
         n = (if (s.port w).failGroup = gseq then (s.port w).tagFails + 1 else 1) →
         (n < 8 →
           Completes (.skeinGroupReceive w gseq cipher tag) s fun t =>
             t = (s.setPort w { s.port w with tagFails := n, failGroup := gseq }).emit (.replay w gseq)) ∧
         (8 ≤ n → (s.port w).st ≠ .down →
           Completes (.skeinGroupReceive w gseq cipher tag) s fun t =>
             (t.port w).key = none ∧ (t.port w).inService = false ∧ t.skn.ring = false))) ∧
     (∀ (gseq : BitVec 32) (cipher tag : Bytes), (s.port w).key = none →
       Completes (.skeinGroupReceive w gseq cipher tag) s fun t => t = s) ∧
     (∀ (p : SkPacket) (next : BitVec 32), (s.port w).isUp = true → p.vc.toNat < 5 → p.payload.length ≤ 1072 →
       s.hasRoom w p = true → s.carries p = true → next = s.skn.rxSeq.get (rxKey p) 1 →
       (p.dest ≠ s.node → p.dest ≠ 0xFF → (s.port (otherPort w)).isUp = true →
         Completes (.skeinPacketReceive w p) s fun t =>
           (t.port (otherPort w)).egress = (s.port (otherPort w)).egress ++ [(some w, p)] ∧
           ((t.port w).vcAt p.vc.toNat).accepted = ((s.port w).vcAt p.vc.toNat).accepted + BitVec.ofNat 32 (skFlits p)) ∧
       (p.dest = s.node → p.src ≠ s.node → next.toNat < p.seq.toNat →
         Completes (.skeinPacketReceive w p) s fun t => t.skn.rxBuf = s.skn.rxBuf ++ [(w, p)] ∧ t.skn.rxSeq = s.skn.rxSeq) ∧
       (p.dest = s.node → p.src ≠ s.node → p.seq.toNat < next.toNat →
         Completes (.skeinPacketReceive w p) s fun t =>
           t.skn.rxBuf = s.skn.rxBuf ∧ t.skn.rxSeq = s.skn.rxSeq ∧ t.queues = s.queues ∧ t.led = s.led ∧
           ((t.port w).vcAt p.vc.toNat).freed = ((s.port w).vcAt p.vc.toNat).freed + BitVec.ofNat 32 (skFlits p) ∧
           Posted.credit w p.vc (skFlits p) ∈ t.posted) ∧
       (p.dest = s.node → p.src ≠ s.node → p.seq = next → s.skn.rxBuf = [] → s.skn.parts = [] →
         p.payload.length < 1072 → packetKind p = some .doorbell →
         Completes (.skeinPacketReceive w p) s fun t =>
           t.queues = (s.bar2 (BitVec.ofNat 18 (leAt p.payload 0 4)) (BitVec.ofNat 32 (leAt p.payload 4 4))).queues ∧
           t.skn.rxSeq.get (rxKey p) 1 = next + 1 ∧ Posted.credit w p.vc (skFlits p) ∈ t.posted ∧
           ((t.port w).vcAt p.vc.toNat).freed = ((s.port w).vcAt p.vc.toNat).freed + BitVec.ofNat 32 (skFlits p))) ∧
     (∀ p : SkPacket, (s.port w).isUp = true → (s.port w).inService = true →
       (s.hasRoom w p = false →
         Completes (.skeinPacketReceive w p) s fun t => t = s)) ∧
     (∀ (from_ : Option Port) (p : SkPacket), (s.port w).egress = [(from_, p)] → (s.port w).st = .up → (s.port w).inService = true →
       p.vc.toNat < 5 → from_ ≠ some w →
       (skFlits p ≤ ((s.port w).vcAt p.vc.toNat).held →
         Completes (.skeinForward w) s fun t =>
           Posted.skein w p ∈ t.posted ∧ (t.port w).egress = [] ∧
           ((t.port w).vcAt p.vc.toNat).sent = ((s.port w).vcAt p.vc.toNat).sent + BitVec.ofNat 32 (skFlits p) ∧
           ((t.port w).vcAt p.vc.toNat).held = ((s.port w).vcAt p.vc.toNat).held - skFlits p) ∧
       (((s.port w).vcAt p.vc.toNat).held < skFlits p → (s.port w).txFlits = [] →
         Completes (.skeinForward w) s fun t => t = s)) ∧
     (s.skn.head = true →
       (∀ (node : BitVec 6) (addr : BitVec 64) (bs : Bytes),
         Completes (.skeinRemoteHostAccess node (.write addr bs)) s fun t => Posted.hostWrite addr bs ∈ t.sent) ∧
       (∀ (node : BitVec 6) (addr : BitVec 64) (r : Bytes),
         Completes (.skeinRemoteHostAccess node (.journal addr r)) s fun t => Posted.hostWrite addr r ∈ t.sent) ∧
       (∀ (node : BitVec 6) (v : BitVec 11), (s.msixEntry v).getLsbD 96 = false →
         Completes (.skeinRemoteHostAccess node (.msix v)) s fun t => Posted.msix v ∈ t.sent) ∧
       (∀ (node : BitVec 6) (addr : BitVec 64) (len : Nat) (bs : Bytes), (s.port (s.wayTo node)).st = .up →
         (s.port (s.wayTo node)).inService = true → (s.port (s.wayTo node)).egress = [] → bs.length < 1072 →
         1 + ceilDiv (bs.length - 48) 64 ≤ ((s.port (s.wayTo node)).vcAt 2).held →
         Completes (.skeinRemoteHostAccess node (.read addr len bs)) s fun t =>
           ∃ p, Posted.skein (s.wayTo node) p ∈ t.posted ∧ p.dest = node.setWidth 8 ∧ p.payload = bs)))

/-- R319, R340, R356, R358, R364, R370. `SENSOR_READ`, `LOG_READ`, `KEEPER_STATUS`, `FW_STATUS` and `SETTING` op 0 report and
change nothing; `CHALLENGE` makes the nonce that one authorisation may answer. R320, R322, R329. `TAMPER_CONFIG` reads the
tamper configuration and replaces it by a record that is in order and, in service or spent, no weaker; `TAMPER_RELEASE` at level 0 ends
at once, and above it starts the tests that decide. -/
def Obligations.ManagementReportsAndTamperCommands : Prop :=
  (∀ (c : Cmd) (s : State) (f : Fetched), 0 < c.pkt.outLen.toNat →
     (Runs 0x0A01 none c s f →
       Completes (.sensorRead c) s fun t =>
         t.answers c.q f 0 0 ∧ s.answersOnly t c.q ∧ t.wrote c (s.mss.sensors.toList.flatMap fun v => leBytes 2 v.toNat)) ∧
     (∀ rs : List Bytes, Runs 0x0A02 none c s f → s.readStatus = none →
       rs = (s.kp.logRecords.filter fun r => decide (c.pkt.field 32 8 ≤ leAt r 0 8)).take (c.pkt.byteAt 40).toNat →
       Completes (.logRead c) s fun t =>
         t.answers c.q f 0 (BitVec.ofNat 64 ((rs.head?.map fun r => leAt r 0 8).getD 0)) ∧ s.answersOnly t c.q ∧
         (rs.flatten ≠ [] → t.wrote c rs.flatten)) ∧
     (Runs 0x0A0C none c s f →
       Completes (.keeperStatus c) s fun t => t.answers c.q f 0 0 ∧ s.answersOnly t c.q ∧ t.wrote c s.keeperRecord) ∧
     (∀ step outcome : Byte, Runs 0x0A0F none c s f → s.readStatus = none →
       (step, outcome) = (match s.mss.ho with
         | some h => (BitVec.ofNat 8 h.step, 0)
         | none => (s.mss.hoStep, s.mss.hoOutcome)) →
       Completes (.fwStatus c) s fun t =>
         t.answers c.q f 0 0 ∧ s.answersOnly t c.q ∧
         t.wrote c ([BitVec.ofNat 8 s.mss.boot.cpB.toNat, BitVec.ofNat 8 s.mss.boot.mssB.toNat] ++
           s.mss.boot.states.toList ++ (List.range 4).flatMap s.kp.bankEntry ++
           [BitVec.ofNat 8 s.life.cpSv, BitVec.ofNat 8 s.life.mssSv, step, outcome] ++ zeros 32 ++
           leBytes 2 s.mss.discarded.toNat)) ∧
     (∀ (p : Packet) (d : Bytes), p = rowPacket 0x0A10 (some 0) c.pkt → Runs 0x0A10 (some 0) c s f → s.readStatus = none →
       settingDefault (p.field 36 4) = some d → s.settingBytes (p.field 36 4) d ≠ [] →
       Completes (.settingGet c) s fun t =>
         t.answers c.q f 0 0 ∧ s.answersOnly t c.q ∧ t.wrote c (s.settingBytes (p.field 36 4) d)) ∧
     (∀ v : BitVec 128, v = s.draw.setWidth 128 → Runs 0x0A03 none c s f →
       Completes (.challenge c) s fun t =>
         t.life = { s.life with challenge := some v } ∧ t.ks.draws = s.ks.draws + 1 ∧ t.answers c.q f 0 0 ∧
         t.wrote c (leBytes 16 v.toNat))) ∧
  (∀ (c : Cmd) (s : State),
     (RunsSide 0x0A07 (some 0) c s →
       Completes (.tamperConfigRead c) s fun t =>
         t.sideAnswers c 0 0 (leBytes 64 s.tmp.cfg.toNat) ∧ t.tmp = s.tmp) ∧
     (RunsSide 0x0A07 (some 1) c s → c.memErr = none → tamperRecordOk c.bytes = true →
       (s.life.count = 3 ∨ s.life.count = 5 → weakens (leBytes 64 s.tmp.cfg.toNat) c.bytes = false) →
       (s.life.count = 3 → belowFloor c.bytes = false) →
       Completes (.tamperConfigWrite c) s fun t =>
         t.tmp = { s.tmp with cfg := BitVec.ofNat 512 (leNat (tamperStored c.bytes)) } ∧ t.sideAnswers c 0 0 []) ∧
     (RunsSide 0x0A08 none c s →
       (s.tmp.level = 0 →
         Completes (.tamperRelease c) s fun t => t.tmp = s.tmp ∧ t.sideAnswers c 0 0 []) ∧
       (s.tmp.level ≠ 0 → s.holdSource = false → s.tmp.stage = .idle → s.tmp.releasing = false →
         Completes (.tamperRelease c) s fun t =>
           t.tmp.releasing = true ∧ t.tmp.release.isSome = true ∧ t.tmp.tests = allSources ∧ t.tmp.testing = true ∧
           t.tmp.level = s.tmp.level)))

/-- R339 to R344. `LIFECYCLE` under an authorisation over the current challenge, which it consumes, blows the fuses to the new
state and plans the reset of the planes; `ENROL` of a package that is in order makes the owner root and the owner's hash and,
the first time, blows the fuses to ENROLLED. -/
def Obligations.LifeCycleAdvances : Prop :=
  ∀ (c : Cmd) (s : State),
    (∀ (f : Fetched) (dst : Byte) (owner : Bool) (ch : BitVec 128) (q : Nat × Nat) (z : Digest), dst = c.pkt.byteAt 32 →
      Runs 0x0A04 none c s f → c.memErr = none → transitionBy s.life.count.toNat dst.toNat = some owner →
      s.life.challenge = some ch → (s.authority owner).2 = some (q, z) →
      sm2Verify curve0 (sm2E z (authMessage s dst ch)) (beNat (slice c.bytes 0 32)) (beNat (slice c.bytes 32 32)) q.1 q.2 = true →
      s.holding = false →
      Completes (.lifecycle c) s fun t =>
        t.life.count = BitVec.ofNat 3 dst.toNat ∧ t.life.challenge = none ∧ t.life.resetDue = true ∧
        t.answers c.q f 0 (inlAt 0 dst.toNat)) ∧
    (RunsSide 0x0A06 none c s → c.memErr = none → s.nvmStatus = none → packageOk s c.bytes = true → s.holding = false →
      (s.life.count.toNat = 1 →
        Completes (.enrol c) s fun t =>
          t.life.count = 2 ∧ t.life.resetDue = true ∧ t.life.challenge = none ∧
          t.life.ownerHash = some (sm3 (slice c.bytes 28 64)) ∧ t.tmp.canary = .valid ∧ t.ks.root = 3 ∧
          t.ru.jrn.seq = 0 ∧ t.sideAnswers c 0 (inlAt 0 (((t.slot 3).map fun k => k.attr.kcv.toNat).getD 0)) []) ∧
      (s.life.count.toNat = 2 ∨ s.life.count.toNat = 3 → s.ks.shares.find 3 = none → s.life.ownerHash.isSome = true →
        Completes (.enrol c) s fun t =>
          t.life.count = s.life.count ∧ t.life.challenge = none ∧ t.life.ownerHash = some (sm3 (slice c.bytes 28 64)) ∧
          t.tmp.canary = .valid ∧ t.ks.root = 3 ∧
          t.sideAnswers c 0 (inlAt 0 (((t.slot 3).map fun k => k.attr.kcv.toNat).getD 0)) []))

/-- R316, R317, R357. `NVM_RAW_READ` answers with the bytes of its region; `NVM_RAW_WRITE` asks the commit unit to write an MSS
record, or writes a configuration record; `NVM_PASSWORD_SET` asks for the block with the new verifier. Each under the region's
password. -/
def Obligations.RawKeeperAccess : Prop :=
  ∀ (c : Cmd) (s : State) (p : Packet) (r : Nat), r = (p.byteAt 32).toNat →
    (∀ bs : Bytes, p = rowPacket 0x0A09 none c.pkt → RunsSide 0x0A09 none c s → rawRefusal s r false = none →
      Tab.sorted s.kp.regionFails = true → (s.passwordOk r (rawPassword p false [])).2 = true → rawRangeOk (sideCtx c p) r = true →
      s.rawBytes r (p.byteAt 33).toNat (p.field 36 4) (p.field 44 2) = .ok bs →
      Completes (.nvmRawRead c) s fun t =>
        t.sideAnswers c 0 0 bs ∧ t.kp = { s.kp with regionFails := t.kp.regionFails } ∧ t.kp.regionFails.get r 0 = 0) ∧
    (p = rowPacket 0x0A0A none c.pkt → RunsSide 0x0A0A none c s → c.memErr = none → rawRefusal s r true = none →
      (s.passwordOk r (rawPassword p (r == 7) c.bytes)).2 = true →
      (r = 7 → s.nvmStatus = none → 2 < c.bytes.length → c.bytes.length ≤ rawLimit c.via →
        s.flashTakes .config (c.bytes.length - 2) →
        Completes (.nvmRawWrite c) s fun t =>
          t.kp.records.find (p.field 56 4) = some (c.bytes.drop 2) ∧ t.sideAnswers c 0 0 []) ∧
      (r ≠ 7 → rawRangeOk (sideCtx c p) r = true → mssRecordOk (0x18100 + p.field 36 4) c.bytes.length = true →
        s.kp.queue = [] →
        Completes (.nvmRawWrite c) s fun t =>
          ∃ h, t.kp.queue = [.mss (0x18100 + p.field 36 4) c.bytes [.reply h]] ∧ h.via = c.via ∧ h.tag = c.pkt.tag ∧ h.status = 0)) ∧
    (p = rowPacket 0x0A0B none c.pkt → RunsSide 0x0A0B none c s → c.memErr = none → rawRefusal s r false = none →
      (s.passwordOk r (rawPassword p false [])).2 = true → s.kp.queue = [] →
      Completes (.nvmPasswordSet c) s fun t =>
        ∃ h, t.kp.queue = [.mss (verifierOff (r / 3)) (wordBlock (writeAt (s.blockNow (verifierOff (r / 3)) (defaultVerifiers (r / 3)))
          (16 * (r % 3)) (regionVerifier (slice c.bytes 0 16) r))) [.reply h]] ∧ h.via = c.via ∧ h.tag = c.pkt.tag ∧ h.status = 0)

/-- R361 to R370. `FW_STAGE` opens a session on the spare bank, programs its chunks in order, marks the bank STAGED and closes;
`FW_ACTIVATE` begins a handover, reboots the MSS into the other bank, or commits the running security version; `SETTING` stores
a value or deletes its record. -/
def Obligations.FirmwareAndSettings : Prop :=
  ∀ (c : Cmd) (s : State) (f : Fetched) (p : Packet),
    (∀ (kind n : Nat) (b : Bool), p = rowPacket 0x0A0D (some 0) c.pkt → kind = (p.byteAt 33).toNat → b = s.mss.boot.spare kind →
      n = bankNo kind b → (kind = 1 ∨ kind = 2) → Runs 0x0A0D (some 0) c s f → s.nvmStatus = none → s.mss.staging = none → (kind = 1 → s.mss.ho = none) →
      s.kp.bankBad n = false →
      Completes (.fwStageBegin c) s fun t =>
        t.mss.staging = some { kind := BitVec.ofNat 8 kind, bankB := b, next := 0, via := .host } ∧
        t.mss.boot = s.mss.boot.mark n 0 ∧ t.answers c.q f 0 0) ∧
    (∀ (g : Staging) (n : Nat), s.mss.staging = some g → g.kind = p.byteAt 33 → g.via = .host → n = bankNo g.kind.toNat g.bankB →
      (p = rowPacket 0x0A0D (some 1) c.pkt → Runs 0x0A0D (some 1) c s f → c.memErr = none → s.nvmStatus = none →
        p.field 36 4 = g.next → g.next % 256 = 0 → g.next + c.bytes.length ≤ bankSize n →
        Completes (.fwStageChunk c) s fun t =>
          t.kp = s.kp.sectorsProgram (bankSectors n).1 g.next c.bytes ∧
          t.mss.staging = some { g with next := g.next + c.bytes.length } ∧ t.answers c.q f 0 0) ∧
      (p = rowPacket 0x0A0D (some 2) c.pkt → Runs 0x0A0D (some 2) c s f → s.nvmStatus = none → p.field 36 4 = g.next →
        Completes (.fwStageEnd c) s fun t =>
          t.mss.staging = none ∧ t.mss.boot = s.mss.boot.mark n 1 ∧ t.answers c.q f 0 0) ∧
      (p = rowPacket 0x0A0D (some 3) c.pkt → Runs 0x0A0D (some 3) c s f →
        Completes (.fwStageAbandon c) s fun t => t.mss.staging = none ∧ t.mss.boot = s.mss.boot ∧ t.answers c.q f 0 0)) ∧
    (Runs 0x0A0E (some 0) c s f → s.mss.boot.state (bankNo 1 (s.mss.boot.spare 1)) = 1 → s.mss.ho = none →
      Completes (.fwActivateHandover c) s fun t =>
        t.gctl.sliceOwner = 0 ∧ t.gctl.evtStat.getLsbD evHandover = true ∧
        ∃ k, t.mss.ho = some k ∧ k.step = 3 ∧ k.plan = s.gctl.sliceOwner ∧ k.back = false ∧ k.paused = s.holding ∧ k.h.q = c.q ∧ k.h.id = f.id) ∧
    (Runs 0x0A0E (some 1) c s f → s.nvmStatus = none → s.mss.boot.state (bankNo 2 (s.mss.boot.spare 2)) = 1 →
      Completes (.fwActivateMssReboot c) s fun t =>
        t.mss.boot = s.mss.boot.swap 2 ∧ t.mss.st = .booting ∧ t.mss.update = true ∧ t.mss.running = none ∧
        t.mss.staging = none ∧ ∃ h, t.mss.reboot = some h ∧ h.q = c.q ∧ h.id = f.id) ∧
    (∀ (kind v : Nat), p = rowPacket 0x0A0E (some 2) c.pkt → kind = (p.byteAt 33).toNat → (kind = 1 ∨ kind = 2) → Runs 0x0A0E (some 2) c s f →
      s.runningSv kind = some v →
      Completes (.fwActivateCommitSv c) s fun t =>
        t.life = (if kind = 1 then { s.life with cpSv := max v s.life.cpSv } else { s.life with mssSv := max v s.life.mssSv }) ∧
        t.answers c.q f 0 0) ∧
    (∀ (key : Nat) (d : Bytes), key = p.field 36 4 → s.nvmStatus = none → settingDefault key = some d →
      (p = rowPacket 0x0A10 (some 1) c.pkt → Runs 0x0A10 (some 1) c s f → c.memErr = none → c.bytes.length = d.length →
        settingOk key c.bytes = true → s.flashTakes .config (d.length + 2) →
        Completes (.settingSet c) s fun t =>
          t.kp.records.find key = some (leBytes 2 s.schema ++ c.bytes) ∧ t.answers c.q f 0 0) ∧
      (p = rowPacket 0x0A10 (some 2) c.pkt → Runs 0x0A10 (some 2) c s f → s.flashTakes .config 0 →
        Tab.sorted s.kp.records = true →
        Completes (.settingDefault c) s fun t => t.kp.records.find key = none ∧ t.answers c.q f 0 0))

/-- R255 to R260, R263. `UNIT_SERVICE` takes a unit out of service or puts it back, a spindle and the entropy source after their
test, and starts the copy of a row into a spare one; the copy that ends leaves the row spared. -/
def Obligations.UnitsEnterAndLeaveService : Prop :=
  ∀ (c : Cmd) (s : State) (f : Fetched) (p : Packet) (code n spare : Nat), code = (p.byteAt 33).toNat →
    spare = s.sparesLeft (rowChannel (BitVec.ofNat 20 (p.field 36 4))) → s.arb.returning.find code = none →
    (p = rowPacket 0x0A05 (some 0) c.pkt → Runs 0x0A05 (some 0) c s f → s.mss.st = .running → (code < 16 → s.mss.ho = none) →
      (s.unitOut code = true →
        Completes (.unitServiceRemove c) s fun t =>
          t.arb = s.arb ∧ t.spn = s.spn ∧ t.answers c.q f 0 (serviceInline 0 (s.unitsIn code) spare)) ∧
      (s.unitOut code = false → s.lastCore code = false →
        (code < 128 → code < 0x20 ∨ 0x48 ≤ code → code ≠ 0x52 → code ≠ 0x60 → code ≠ 0x61 →
          Completes (.unitServiceRemove c) s fun t =>
            t.isOut code = true ∧ t.gctl.evtStat.getLsbD evUnitSvc = true ∧ t.arb.lastUnit = p.byteAt 33 ∧ t.arb.lastIn = false ∧
            t.answers c.q f 0 (serviceInline 0 (t.unitsIn code) spare)) ∧
        (code = 0x52 →
          Completes (.unitServiceRemove c) s fun t =>
            t.ks = { s.ks with entIn := false } ∧ t.isOut code = true ∧ t.answers c.q f 0 (serviceInline 0 0 spare)) ∧
        (code = 0x60 ∨ code = 0x61 →
          Completes (.unitServiceRemove c) s fun t =>
            (t.port (portOf code)).inService = false ∧ t.skn.ring = false ∧ t.isOut code = true ∧
            t.answers c.q f 0 (serviceInline 0 (t.unitsIn code) spare)) ∧
        (code = spindleCode n → n < 40 →
          ((s.spindle n).jobsHeld = [] →
            Completes (.unitServiceRemove c) s fun t =>
              (t.spindle n).svc = .out ∧ t.isOut code = true ∧ t.answers c.q f 0 (serviceInline 0 (t.unitsIn code) spare)) ∧
          ((s.spindle n).jobsHeld ≠ [] →
            Completes (.unitServiceRemove c) s fun t =>
              (t.spindle n).svc = .out ∧ (t.spindle n).job = (s.spindle n).job ∧ t.isOut code = true ∧
              ∃ h, t.arb.leaving.find code = some h ∧ h.q = c.q ∧ h.id = f.id ∧ h.status = 0 ∧
                h.inl = serviceInline 0 (t.unitsIn code) spare)))) ∧
    (p = rowPacket 0x0A05 (some 1) c.pkt → Runs 0x0A05 (some 1) c s f → s.mss.st = .running → s.holding = false →
      (s.unitOut code = false →
        Completes (.unitServiceReturn c) s fun t =>
          t.arb = s.arb ∧ t.spn = s.spn ∧ t.answers c.q f 0 (serviceInline 1 (s.unitsIn code) spare)) ∧
      (s.unitOut code = true →
        (code < 128 → code < 0x20 ∨ 0x48 ≤ code → code ≠ 0x52 → code ≠ 0x60 → code ≠ 0x61 →
          Completes (.unitServiceReturn c) s fun t =>
            t.isOut code = false ∧ t.gctl.evtStat.getLsbD evUnitSvc = true ∧ t.arb.lastIn = true ∧
            t.answers c.q f 0 (serviceInline 1 (t.unitsIn code) spare)) ∧
        (code = 0x52 →
          Completes (.unitServiceReturn c) s fun t =>
            t.ks = { s.ks with entTesting := true } ∧ ∃ h, t.arb.returning.find code = some h ∧ h.q = c.q ∧ h.id = f.id) ∧
        (∀ w, code = 0x60 ∨ code = 0x61 → w = portOf code → (s.port w).heldDown = false → (s.port w).st = .down →
          Completes (.unitServiceReturn c) s fun t =>
            (t.port w).st = .training ∧ (t.port w).inService = false ∧
            ∃ h, t.arb.returning.find code = some h ∧ h.q = c.q ∧ h.id = f.id) ∧
        (code = spindleCode n → n < 40 →
          Completes (.unitServiceReturn c) s fun t =>
            (t.spindle n).svc = .testing ∧ t.spn.katRunning = true ∧ t.spn.katSpindle = BitVec.ofNat 6 n ∧
            ∃ h, t.arb.returning.find code = some h ∧ h.q = c.q ∧ h.id = f.id))) ∧
    (∀ row : BitVec 20, s.mem.copying.contains row = false → s.mem.spared.contains row = false → s.sparesLeft (rowChannel row) ≠ 0 →
      (p = rowPacket 0x0A05 (some 2) c.pkt → row = BitVec.ofNat 20 (p.field 36 4) → Runs 0x0A05 (some 2) c s f → s.mss.st = .running →
        Completes (.unitServiceSpareRow c) s fun t =>
          t.mem.copying = s.mem.copying ++ [row] ∧ t.sparesLeft (rowChannel row) = s.sparesLeft (rowChannel row) - 1 ∧
          ∃ h, t.arb.leaving.find (rowKey row) = some h ∧ h.q = c.q ∧ h.id = f.id) ∧
      (3 ≤ s.mem.corrections.get row.toNat 0 →
        Completes (.rowSpare row) s fun t =>
          t.mem.copying = s.mem.copying ++ [row] ∧ t.sparesLeft (rowChannel row) = s.sparesLeft (rowChannel row) - 1) ∧
      (s.mem.corrections.get row.toNat 0 < 3 → Completes (.rowSpare row) s fun t => t = s)) ∧
    (∀ row : BitVec 20, s.mem.copying.contains row = true →
      (s.slotIs (s.now - 4) 4 = true →
        Completes (.rowSpareDone row) s fun t =>
          t.mem.spared = s.mem.spared ++ [row] ∧ t.mem.copying = s.mem.copying.erase row ∧
          t.gctl.evtStat.getLsbD evUnitSvc = true ∧
          ∀ h g, s.arb.leaving.find (rowKey row) = some h → h.via = .host →
            (s.queue h.q).inflight.find? (·.id == h.id) = some g → h.tag = g.pkt.tag → t.answers h.q g h.status h.inl) ∧
      (s.slotIs (s.now - 4) 4 = false → Completes (.rowSpareDone row) s fun t => t = s))

/-- R147, R148. The word instructions: each writes its result to word D, or its flags to C and E, and the spindle goes on to the
next address one cycle later. Nothing else of the machine changes. -/
def Obligations.SpindleWordInstructions : Prop :=
  ∀ (s : State) (sp : BitVec 6) (p : Spindle) (l : Lane) (d a b : BitVec 7) (m : BitVec 5) (x y : BitVec 256),
    s.spindleFetches sp p → p.lane = l → l.pc ≠ 0xFFF → x = l.srcA a m → y = l.word b →
    (∀ imm : BitVec 12,
      Completes (.spindleNop sp d a b m) s (fun t => t = s.withLane sp (l.onward 1)) ∧
      Completes (.and sp d a b m) s (fun t => t = s.withLane sp ((l.put d (x &&& y)).onward 1)) ∧
      Completes (.or sp d a b m) s (fun t => t = s.withLane sp ((l.put d (x ||| y)).onward 1)) ∧
      Completes (.xor sp d a b m) s (fun t => t = s.withLane sp ((l.put d (x ^^^ y)).onward 1)) ∧
      Completes (.mov sp d a b m) s (fun t => t = s.withLane sp ((l.put d x).onward 1)) ∧
      Completes (.clr sp d a b m) s (fun t => t = s.withLane sp ((l.put d 0).onward 1)) ∧
      Completes (.ldi sp d imm) s (fun t => t = s.withLane sp ((l.put d (imm.setWidth 256)).onward 1)) ∧
      Completes (.fsr sp d a b m) s (fun t =>
        t = s.withLane sp ((l.put d (((y ++ l.word a) >>> (32 * (m.toNat % 8))).setWidth 256)).onward 1)) ∧
      Completes (.sel sp d a b m) s (fun t =>
        t = s.withLane sp ((l.put d (if (if m.toNat % 2 = 1 then l.e else l.c) != decide (2 ≤ m.toNat % 4) then x else y)).onward 1))) ∧
    (∀ n, n = x.toNat + y.toNat →
      Completes (.add sp d a b m) s (fun t =>
        t = s.withLane sp (({ l.put d (BitVec.ofNat 256 n) with c := decide (2 ^ 256 ≤ n) } : Lane).onward 1)) ∧
      Completes (.addc sp d a b m) s (fun t =>
        t = s.withLane sp (({ l.put d (BitVec.ofNat 256 (n + l.c.toNat)) with
          c := decide (2 ^ 256 ≤ n + l.c.toNat) } : Lane).onward 1))) ∧
    (∀ n : Int, n = x.toNat - y.toNat →
      Completes (.sub sp d a b m) s (fun t =>
        t = s.withLane sp (({ l.put d (BitVec.ofInt 256 n) with c := decide (n < 0) } : Lane).onward 1)) ∧
      Completes (.subc sp d a b m) s (fun t =>
        t = s.withLane sp (({ l.put d (BitVec.ofInt 256 (n - l.c.toNat)) with
          c := decide (n - l.c.toNat < 0) } : Lane).onward 1))) ∧
    Completes (.cmp sp d a b m) s (fun t =>
      t = s.withLane sp (({ l with c := decide (x.toNat < y.toNat), e := decide (x = y) } : Lane).onward 1)) ∧
    Completes (.bit sp d a b m) s (fun t =>
      t = s.withLane sp (({ l with
        e := x.getLsbD ((l.lcAt (BitVec.ofNat 2 (m.toNat % 4))).toNat % 256) } : Lane).onward 1))

/-- R148. The instructions of the multiply-accumulate unit: each issues when the unit is idle, and loads, adds to, shifts or
reads the 576-bit accumulator. Nothing else of the machine changes. -/
def Obligations.SpindleAccumulatorInstructions : Prop :=
  ∀ (s : State) (sp : BitVec 6) (p : Spindle) (l : Lane) (d a b : BitVec 7) (m : BitVec 5) (x y : BitVec 256) (z : Nat),
    s.spindleFetches sp p → p.lane = l → l.pc ≠ 0xFFF → x = l.srcA a m → y = l.word b →
    z = y.toNat / 2 ^ (64 * (m.toNat % 4)) % 2 ^ 64 →
    Completes (.mul sp d a b m) s (fun t =>
      t = s.withLane sp (({ l with acc := BitVec.ofNat 576 (x.toNat * y.toNat) } : Lane).macOnward 4)) ∧
    Completes (.mac sp d a b m) s (fun t =>
      t = s.withLane sp (({ l with acc := BitVec.ofNat 576 (l.acc.toNat + x.toNat * y.toNat) } : Lane).macOnward 4)) ∧
    Completes (.mull sp d a b m) s (fun t =>
      t = s.withLane sp (({ l with acc := BitVec.ofNat 576 (x.toNat * z) } : Lane).macOnward 1)) ∧
    Completes (.macl sp d a b m) s (fun t =>
      t = s.withLane sp (({ l with acc := BitVec.ofNat 576 (l.acc.toNat + x.toNat * z) } : Lane).macOnward 1)) ∧
    Completes (.accld sp d a b m) s (fun t =>
      t = s.withLane sp (({ l with acc := BitVec.ofNat 576 x.toNat } : Lane).macOnward 1)) ∧
    Completes (.accadd sp d a b m) s (fun t =>
      t = s.withLane sp (({ l with acc := BitVec.ofNat 576 (l.acc.toNat + x.toNat) } : Lane).macOnward 1)) ∧
    Completes (.accsh sp d a b m) s (fun t =>
      t = s.withLane sp (({ l with
        acc := BitVec.ofNat 576 (l.acc.toNat / 2 ^ (64 * (m.toNat % 4 + 1))) } : Lane).macOnward 1)) ∧
    Completes (.acclo sp d a b m) s (fun t =>
      t = s.withLane sp ((l.put d (BitVec.ofNat 256 l.acc.toNat)).macOnward 0)) ∧
    Completes (.acchi sp d a b m) s (fun t =>
      t = s.withLane sp ((l.put d (BitVec.ofNat 256 (l.acc.toNat / 2 ^ 256))).macOnward 0)) ∧
    Completes (.accx sp d a b m) s (fun t =>
      t = s.withLane sp ((l.put d (BitVec.ofNat 256 (l.acc.toNat / 2 ^ 512))).macOnward 0))

/-- R148, R151. Loop counters, index registers, jumps, calls and `HALT`; the words that leave a spindle and the entropy and key
words that enter it; and the faults: an undefined code, a fetch that is not allowed, a fifth nested call, a return from an empty
stack, and an address past the last. -/
def Obligations.SpindleSequencerInstructions : Prop :=
  ∀ (s : State) (sp : BitVec 6) (p : Spindle) (l : Lane) (d a b : BitVec 7) (m : BitVec 5) (n : BitVec 2) (imm : BitVec 16),
    sp.toNat < 40 → s.spindle sp.toNat = p → p.halted = none → p.lane = l →
    (fetchOk sp.toNat l = true → l.pc ≠ 0xFFF →
      Completes (.setlc sp n imm) s (fun t => t = s.withLane sp ((l.setLc n imm).onward 1)) ∧
      Completes (.setix sp n imm) s (fun t => t = s.withLane sp ((l.setIx n (imm.setWidth 7)).onward 1)) ∧
      Completes (.addix sp n imm) s (fun t =>
        t = s.withLane sp ((l.setIx n (BitVec.ofNat 7 ((l.ixAt n).toNat + imm.toNat))).onward 1)) ∧
      (l.lcAt n = 0 → Completes (.loop sp n imm) s (fun t => t = s.withLane sp (l.onward 1))) ∧
      Completes (.outw sp d a b m) s (fun t =>
        t = s.setSpindle sp.toNat { p with
          lane := l.onward 1, out := p.out.setIfInBounds (m.toNat % 4) (l.srcA a m) }) ∧
      (∀ v, (sp.toNat < 8 → p.ent ≠ []) → v = (if sp.toNat < 8 then p.ent.headD 0 else 0) →
        Completes (.rnd sp d a b m) s (fun t =>
          t = s.setSpindle sp.toNat { p with
            lane := (l.put d v).onward 8, ent := if sp.toNat < 8 then p.ent.drop 1 else p.ent })) ∧
      (sp.toNat < 8 → p.ent = [] →
        Completes (.rnd sp d a b m) s (fun t =>
          (t.spindle sp.toNat).lane = (l.put d (Config.entropy s.ks.draws)).onward 8)) ∧
      (∀ v, v = (if sp.toNat < 8 then BitVec.ofNat 256 (p.keyOp.toNat / 2 ^ (256 * (m.toNat % 2))) else 0) →
        Completes (.key sp d a b m) s (fun t => t = s.withLane sp ((l.put d v).onward 4)))) ∧
    (fetchOk sp.toNat l = true →
      (l.lcAt n ≠ 0 → Completes (.loop sp n imm) s (fun t =>
        t = s.withLane sp { l.setLc n (l.lcAt n - 1) with pc := imm.setWidth 12, elapsed := l.elapsed + 2 })) ∧
      Completes (.jmp sp n imm) s (fun t =>
        t = s.withLane sp { l with pc := imm.setWidth 12, elapsed := l.elapsed + 2 }) ∧
      (l.stack.length < 4 → Completes (.call sp n imm) s (fun t =>
        t = s.withLane sp { l with
          pc := imm.setWidth 12, elapsed := l.elapsed + 2, stack := (l.pc + 1) :: l.stack })) ∧
      (∀ r rest, l.stack = r :: rest → Completes (.ret sp n imm) s (fun t =>
        t = s.withLane sp { l with pc := r, elapsed := l.elapsed + 2, stack := rest })) ∧
      Completes (.halt sp n imm) s (fun t =>
        t = s.setSpindle sp.toNat { p with
          lane := { l with elapsed := l.elapsed + 1 }
          halted := some (BitVec.ofNat 2 (if l.e then imm.toNat % 4 else imm.toNat / 4 % 4)) })) ∧
    (∀ w : BitVec 32, spindleDefined w = false → Completes (.spindleUndefinedCode sp w) s (s.jobFaulted · sp.toNat)) ∧
    (∀ w : BitVec 32, spindleDefined w = true → fetchOk sp.toNat l = true →
      Completes (.spindleUndefinedCode sp w) s fun t => t = s) ∧
    (∀ (i : Instr) (w : BitVec 32), i.program = some sp → spindleWord i = some w → spindleInstr sp w = i) ∧
    (fetchOk sp.toNat l = false → Completes (.jmp sp n imm) s (s.jobFaulted · sp.toNat)) ∧
    (4 ≤ l.stack.length → Completes (.call sp n imm) s (s.jobFaulted · sp.toNat)) ∧
    (l.stack = [] → Completes (.ret sp n imm) s (s.jobFaulted · sp.toNat)) ∧
    (l.pc = 0xFFF → Completes (.mov sp d a b m) s (s.jobFaulted · sp.toNat))

/-- R33. A doorbell write with the queue's epoch that moves the submission tail forward, or the completion head over written
slots, is accepted; any other changes no queue and is counted. R26, R276: a write of BAR4 to the head's own slice is the same
write of BAR2. -/
def Obligations.DoorbellsAdvanceOrAreRefused : Prop :=
  ∀ (s : State) (q : QId) (v : BitVec 32) (x : Queue) (i : BitVec 12), s.awake → s.gctl.d3hot = false → x = s.queue q →
    i = BitVec.ofNat 12 v.toNat →
    (x.st ≠ .absent → v.toNat / 65536 = x.epoch.toNat →
      (i.toNat < x.sqSize → ringSpan x.sqSize x.sqHead x.sqTail ≤ ringSpan x.sqSize x.sqHead i →
        Completes (.doorbellSqTail q v none) s (fun t => t = (s.setQueue q { x with sqTail := i }).sync 0)) ∧
      (i.toNat < x.cqSize → ringSpan x.cqSize x.cqHead i ≤ ringSpan x.cqSize x.cqHead x.cqTail →
        Completes (.doorbellCqHead q v) s (fun t => t = (s.setQueue q { x with cqHead := i }).sync 0)) ∧
      (∀ (w : BitVec 32) (j : BitVec 12), j = BitVec.ofNat 12 w.toNat → w.toNat / 65536 = x.epoch.toNat → i.toNat < x.sqSize →
        ringSpan x.sqSize x.sqHead x.sqTail ≤ ringSpan x.sqSize x.sqHead i → j.toNat < x.cqSize →
        ringSpan x.cqSize x.cqHead j ≤ ringSpan x.cqSize x.cqHead x.cqTail →
        Completes (.doorbellSqTail q v (some w)) s (fun t => t.queue q = { x with sqTail := i, cqHead := j } ∧
          (∀ r, r ≠ q → t.queue r = s.queue r) ∧ t.gctl = s.gctl)) ∧
      (∀ k ∈ ([(0, .doorbellSqTail q v none), (1, .doorbellCqHead q v)] : List (Nat × Instr)),
        (if k.1 = 0 then x.sqSize else x.cqSize) ≤ i.toNat →
        Completes k.2 s fun t =>
          t.queues = s.queues ∧ t.gctl.dbCount = satAdd s.gctl.dbCount 1 ∧ t.gctl.dbQueue = q ∧ t.gctl.dbEpoch = false ∧
          t.gctl.dbCause = 0 ∧ t.gctl.evtStat.getLsbD evDbErr = true) ∧
      (i.toNat < x.sqSize → ringSpan x.sqSize x.sqHead i < ringSpan x.sqSize x.sqHead x.sqTail →
        Completes (.doorbellSqTail q v none) s fun t =>
          t.queues = s.queues ∧ t.gctl.dbCount = satAdd s.gctl.dbCount 1 ∧ t.gctl.dbEpoch = false ∧ t.gctl.dbCause = 1) ∧
      (i.toNat < x.cqSize → ringSpan x.cqSize x.cqHead x.cqTail < ringSpan x.cqSize x.cqHead i →
        Completes (.doorbellCqHead q v) s fun t =>
          t.queues = s.queues ∧ t.gctl.dbCount = satAdd s.gctl.dbCount 1 ∧ t.gctl.dbEpoch = false ∧ t.gctl.dbCause = 2)) ∧
    (∀ i ∈ ([.doorbellSqTail q v none, .doorbellCqHead q v] : List Instr),
      x.st ≠ .absent → v.toNat / 65536 ≠ x.epoch.toNat →
        Completes i s fun t =>
          t.queues = s.queues ∧ t.gctl.dbCount = satAdd s.gctl.dbCount 1 ∧ t.gctl.dbQueue = q ∧ t.gctl.dbEpoch = true ∧
          t.gctl.evtStat.getLsbD evDbErr = true) ∧
    (∀ i ∈ ([.doorbellSqTail q v none, .doorbellCqHead q v] : List Instr),
      x.st = .absent →
        Completes i s fun t =>
          t.queues = s.queues ∧ t.gctl.dbCount = satAdd s.gctl.dbCount 1 ∧ t.gctl.dbQueue = q ∧ t.gctl.dbEpoch = false ∧
          t.gctl.dbCause = 0 ∧ t.gctl.evtStat.getLsbD evDbErr = true) ∧
    (s.skn.head = true → x.st ≠ .absent → v.toNat / 65536 = x.epoch.toNat → i.toNat < x.sqSize →
      ringSpan x.sqSize x.sqHead x.sqTail ≤ ringSpan x.sqSize x.sqHead i →
      Completes (.bar4DoorbellWrite (s.skn.nodeId ++ q ++ 0#4) v) s (fun t => t = (s.setQueue q { x with sqTail := i }).sync 0)) ∧
    (∀ n : BitVec 6, s.skn.head = true → n ≠ s.skn.nodeId →
      (s.reaches n = true →
        Completes (.bar4DoorbellWrite (n ++ q ++ 0#4) v) s fun t =>
          t.queues = s.queues ∧ t.gctl.dbCount = s.gctl.dbCount ∧
          t = s.sendTo .doorbell n 0 (leBytes 4 (16 * q.toNat) ++ leBytes 4 v.toNat)) ∧
      (s.reaches n = false →
        Completes (.bar4DoorbellWrite (n ++ q ++ 0#4) v) s fun t =>
          t.queues = s.queues ∧ t.gctl.dbCount = satAdd s.gctl.dbCount 1 ∧ t.gctl.evtStat.getLsbD evDbErr = true)) ∧
    (∀ a : BitVec 24, s.skn.head = false → Completes (.bar4DoorbellWrite a v) s fun t => t = s)

/-- R29, R30, R130, R246, R247, R252, R267, R275, R369, R393, R398, R404. Register fields whose writing acts: each write has its
effect and leaves every other field as it was. A write of a field without a row of its own sets it. -/
def Obligations.RegisterWritesTakeEffect : Prop :=
  ∀ (s : State), s.awake →
    (∀ en, Completes (.gctlEnWrite en) s fun t =>
      t.gctl = { s.gctl with en } ∧ (∀ q, q ≠ 0 → t.queue q = s.queue q) ∧
      t.queue 0 = { s.queue 0 with st := if en && (s.queue 0).st == .absent then .active else (s.queue 0).st }) ∧
    (s.gctl.aqReset = false → (s.queue 0).st = .active → (s.queue 0).inflight = [] → s.locksOf 0 (s.queue 0).epoch = [] →
      s.ru.jrn.forced = [] →
      Completes .aqReset s fun t =>
        (t.queue 0).st = .active ∧ (t.queue 0).epoch = (s.queue 0).epoch + 1 ∧ (t.queue 0).sqHead = 0 ∧
        (t.queue 0).sqTail = 0 ∧ (t.queue 0).cqHead = 0 ∧ (t.queue 0).cqTail = 0 ∧ t.gctl.aqReset = false ∧ t.led = s.led) ∧
    ((s.msixEntry s.gctl.evtVec).getLsbD 96 = false →
      Completes .evtTest s fun t => t.sent = s.sent ++ [.msix s.gctl.evtVec] ∧ t.gctl.evtStat = s.gctl.evtStat) ∧
    (Completes (.jrnlEnWrite false) s fun t => t = { s with ru := { s.ru with jrn := { s.ru.jrn with en := false } } }) ∧
    (Completes (.jrnlEnWrite true) s fun t => t.ru.jrn.en = true ∧ t.ru.jrn.unwritten = [] ∧ t.ru.jrn.seq = s.ru.jrn.seq) ∧
    (∀ (n r : Nat), n = s.arb.selArb.toNat →
      (Completes .arbCounterClear s fun t =>
        ((t.arbiter n).req r).grants = 0 ∧ ((t.arbiter n).req r).waits = 0 ∧ ((t.arbiter n).req r).longest = 0 ∧
        ((t.arbiter n).req r).weight = ((s.arbiter n).req r).weight ∧
        ((t.arbiter n).req r).starve = ((s.arbiter n).req r).starve ∧ ∀ m, m ≠ n → t.arbiter m = s.arbiter m) ∧
      (Completes .starveClear s fun t =>
        ((t.arbiter n).req s.arb.selReq.toNat).starve = false ∧
        (r ≠ s.arb.selReq.toNat → (t.arbiter n).req r = (s.arbiter n).req r) ∧ ∀ m, m ≠ n → t.arbiter m = s.arbiter m)) ∧
    (s.mem.swap = false →
      Completes .msSwapRequest s fun t =>
        t = { s with mem := { s.mem with swap := true, swapAt := (s.now / 1024 + 1) * 1024 } }) ∧
    (s.mem.swap = true → Completes .msSwapRequest s fun t => t = s) ∧
    (Completes .swapE s fun t => t = { s with skn := { s.skn with east := { s.skn.east with swap := true } } }) ∧
    (Completes .swapW s fun t => t = { s with skn := { s.skn with west := { s.skn.west with swap := true } } }) ∧
    (s.skn.en = false → s.skn.east.st = .down → s.skn.east.heldDown = false →
      Completes (.sknEnWrite true) s fun t => t.skn.en = true ∧ t.skn.east.st = .training ∧ t.skn.nodeId = s.skn.nodeId) ∧
    (s.skn.en = true →
      Completes (.sknEnWrite false) s fun t =>
        t.skn.en = false ∧ t.skn.east.st = .down ∧ t.skn.west.st = .down ∧ t.skn.reach = 1 ∧ t.skn.ring = false) ∧
    (∀ d, Completes (.dozeRequest d) s fun t =>
      t = { s with pwr := { s.pwr with doze := d, dozePend := d && s.pwr.st == .active } }) ∧
    (s.ru.rb.needed = false → s.ru.ckpt = none → s.mss.ho = none → s.tmp.level = 0 → s.pwr.dozePend = false →
      s.pwr.dpReset = false →
      Completes (.dataPlaneReset 0x5A17) s fun t => t = { s with pwr := { s.pwr with bad := false, dpReset := true } }) ∧
    (∀ key, key ≠ 0x5A17 →
      Completes (.dataPlaneReset key) s (fun t => t = s) ∧ Completes (.mssReset key) s (fun t => t = s)) ∧
    (s.mss.ho = none →
      Completes (.mssReset 0x5A17) s fun t =>
        t.mss.st = .booting ∧ t.mss.staging = none ∧ t.mss.running = none ∧ t.mss.smbus = [] ∧ t.life.challenge = none ∧
        t.life.count = s.life.count ∧ t.pwr.rstCause.getLsbD rcMss = true ∧ t.queues = s.queues ∧ t.led = s.led) ∧
    (∀ v : BitVec 32,
      Completes (.registerWrite 0x1004 4 v) s (fun t =>
        t = { s with gctl := { s.gctl with evtMask := BitVec.ofNat 11 v.toNat } }) ∧
      Completes (.registerWrite 0x1000 4 v) s (fun t =>
        t = { s with gctl := { s.gctl with evtStat := s.gctl.evtStat &&& ~~~(BitVec.ofNat 11 v.toNat) } }) ∧
      Completes (.registerWrite 0x2000 4 v) s (fun t =>
        t = { s with gctl := { s.gctl with qsel := BitVec.ofNat 14 v.toNat } }) ∧
      Completes (.registerWrite 0x100C 4 v) s (fun t => t = s)) ∧
    (∀ (addr : BitVec 20) (n : Nat) (v : BitVec 32), n ≠ 4 ∨ addr.toNat % 4 ≠ 0 →
      Completes (.registerWrite addr n v) s fun t => t = { s with posted := s.posted ++ [.unsupported] })

/-- R8, R27, R103, R142, R199, R212. Registers that a read changes: it answers the value before, then clears the counts that
reading clears, or copies the upper half into the register that holds it for the read that follows. Nothing else changes. -/
def Obligations.RegisterReadsAnswerAndClear : Prop :=
  ∀ (s : State) (j : Nat) (p : Spindle) (a : Arbiter), s.awake → j = s.spn.sel.toNat → p = s.spindle j →
    a = s.arbiter s.arb.selArb.toNat →
    (Completes (.dbErrQRead 4) s fun t =>
      t = ({ s with gctl := { s.gctl with dbCount := 0 } }).emit (.barRead (word [(0, s.gctl.dbQueue.toNat),
        (16, s.gctl.dbEpoch.toNat), (17, s.gctl.dbCause.toNat), (24, s.gctl.dbCount.toNat)]))) ∧
    (Completes (.ledgerRefusedRead 4) s fun t =>
      t = ({ s with led := { s.led with refused := 0 } }).emit (.barRead s.led.refused)) ∧
    (Completes (.regStashRead 4) s fun t =>
      t = ({ s with ru := { s.ru with reg := { s.ru.reg with stashHigh := 0 } } }).emit
        (.barRead (word [(0, s.ru.reg.stashUsed), (16, s.ru.reg.stashHigh.toNat)]))) ∧
    (Completes (.regOpsRead 4) s fun t =>
      t = ({ s with ru := { s.ru with reg := { s.ru.reg with ops := 0 } } }).emit (.barRead s.ru.reg.ops)) ∧
    (Completes (.spnJobsRead 4) s fun t => t = (s.setSpindle j { p with jobs := 0 }).emit (.barRead p.jobs)) ∧
    (Completes (.spnEventsRead 4) s fun t =>
      t = (s.setSpindle j { p with yields := 0, aborts := 0, katFails := 0, vasFails := 0 }).emit
        (.barRead (p.yields ++ p.aborts ++ p.katFails ++ p.vasFails))) ∧
    (Completes (.sealMissRead 4) s fun t => t = ({ s with sl := { s.sl with miss := 0 } }).emit (.barRead s.sl.miss)) ∧
    (Completes (.sealEvtRead 4) s fun t =>
      t = ({ s with sl := { s.sl with broken := 0, exhausted := 0, tagFails := 0 } }).emit
        (.barRead (word [(0, s.sl.tagFails.toNat), (16, s.sl.exhausted.toNat), (24, s.sl.broken.toNat)]))) ∧
    (Completes (.digEvtRead 4) s fun t =>
      t = ({ s with dig := { s.dig with restarts := 0, mismatch := 0 } }).emit
        (.barRead (word [(0, s.dig.mismatch.toNat), (16, s.dig.restarts.toNat)]))) ∧
    (Completes (.digUtilRead 4) s fun t => t = ({ s with dig := { s.dig with util := 0 } }).emit (.barRead s.dig.util)) ∧
    (Completes (.ksEvtRead 4) s fun t =>
      t = ({ s with ks := { s.ks with orphaned := 0, corrupted := 0, kcvFails := 0, entFailCount := 0 } }).emit
        (.barRead (word [(0, s.ks.entFailCount.toNat), (8, s.ks.kcvFails.toNat), (16, s.ks.corrupted.toNat),
          (24, s.ks.orphaned.toNat)]))) ∧
    (Completes (.arbWdogCntRead 4) s fun t =>
      t = (s.setArbiter s.arb.selArb.toNat { a with wdog := 0 }).emit (.barRead (word [(0, a.wdog.toNat)]))) ∧
    (Completes (.msEccRead 4) s fun t => t = ({ s with mem := { s.mem with ecc := 0 } }).emit (.barRead s.mem.ecc)) ∧
    (Completes (.sknCensusRead 4) s fun t =>
      t = ({ s with skn := { s.skn with mismatch := 0, rounds := 0 } }).emit
        (.barRead (word [(0, s.skn.rounds.toNat), (16, s.skn.mismatch.toNat)]))) ∧
    (Completes (.tmpCountRead 4) s fun t => t = ({ s with tmp := { s.tmp with count := 0 } }).emit (.barRead s.tmp.count)) ∧
    (Completes (.tmpTestRead 4) s fun t =>
      t = ({ s with tmp := { s.tmp with testFails := 0 } }).emit
        (.barRead (word [(0, s.tmp.lastTest.toNat), (16, s.tmp.testFails.toNat)]))) ∧
    (Completes (.cardErrsRead 4) s fun t =>
      t = ({ s with card := { s.card with removals := 0, failures := 0 } }).emit
        (.barRead (word [(0, s.card.failures.toNat), (16, s.card.removals.toNat)]))) ∧
    (Completes (.pwrDozeCntRead 4) s fun t =>
      t = ({ s with pwr := { s.pwr with dozeCnt := 0 } }).emit (.barRead s.pwr.dozeCnt)) ∧
    (Completes (.gctlCycleLoRead 4) s fun t =>
      t = ({ s with gctl := { s.gctl with cycleHi := s.gctl.cycle.extractLsb' 32 32 } }).emit
        (.barRead (s.gctl.cycle.extractLsb' 0 32))) ∧
    (Completes (.digLoRead 4) s fun t =>
      t = ({ s with dig := { s.dig with blocksHi := s.dig.blocks.extractLsb' 32 32 } }).emit
        (.barRead (s.dig.blocks.extractLsb' 0 32))) ∧
    (∀ w v, v = s.ledgerWide w →
      Completes (.ledgerLoRead w 4) s fun t =>
        t = ({ s with led := match w with
          | .next => { s.led with nextHi := hiHalf v }
          | .cseq => { s.led with cseqHi := hiHalf v }
          | .jseq => { s.led with jseqHi := hiHalf v }
          | .tot => { s.led with totHi := hiHalf v }
          | .fseq => { s.led with fseqHi := hiHalf v } }).emit (.barRead (loHalf v))) ∧
    (∀ w v, v = s.regWide w →
      Completes (.regLoRead w 4) s fun t =>
        t = ({ s with ru := { s.ru with jrn := match w with
          | .seq => { s.ru.jrn with seqHi := hiHalf v }
          | .ack => { s.ru.jrn with ackHi := hiHalf v }
          | .ckptId => { s.ru.jrn with ckptHi := hiHalf v }
          | .rbldSeq => { s.ru.jrn with rbldHi := hiHalf v } } }).emit (.barRead (loHalf v))) ∧
    (∀ w v, v = s.sealWide w →
      Completes (.sealLoRead w 4) s fun t =>
        t = ({ s with sl := match w with
          | .blk => { s.sl with blocksHi := hiHalf v }
          | .floor => { s.sl with floorHi := hiHalf v } }).emit (.barRead (loHalf v))) ∧
    (∀ (n : Nat) (w : LedgerLo) (x : RegLo) (y : SealLo), n ≠ 4 →
      ∀ i ∈ ([.dbErrQRead n, .ledgerRefusedRead n, .regStashRead n, .regOpsRead n, .spnJobsRead n, .spnEventsRead n, .sealMissRead n,
          .sealEvtRead n, .digEvtRead n, .digUtilRead n, .ksEvtRead n, .arbWdogCntRead n, .msEccRead n, .sknCensusRead n,
          .tmpCountRead n, .tmpTestRead n, .cardErrsRead n, .pwrDozeCntRead n, .gctlCycleLoRead n, .digLoRead n, .ledgerLoRead w n,
          .regLoRead x n, .sealLoRead y n] : List Instr),
        Completes i s fun t => t = s.emit .unsupported)

/-- R25, R32, R35, R36, R44, R46, R50, R57, R59, R61, R62. A ready queue that the fetch arbiter chooses has up to 8 packets fetched,
their completion slots reserved; a packet lands, is decoded, or answered with what refuses it, and dispatched to the unit granted. A
failed host read ends a packet whose effect has not begun. A coalescing time sends the message due, a drained queue comes back
empty, D3hot holds what is sent, and the end of a slew ends it. -/
def Obligations.PacketsMoveThroughTheirStages : Prop :=
  ∀ (s : State) (q : QId) (x : Queue), x = s.queue q →
    (∀ t', s.queueReady q = true → (s.sync 0).grantFor 0 q.toNat = some t' →
      (∀ p, Completes (.packetFetch q [p]) s fun t =>
        (∃ f, (t.queue q).inflight = x.inflight ++ [f] ∧ f.pkt = p ∧ f.stage = .granted ∧ f.slot = x.cqRes ∧ f.id = s.gctl.nextId) ∧
        (t.queue q).sqHead = ringNext x.sqSize x.sqHead ∧ (t.queue q).cqRes = ringNext x.cqSize x.cqRes ∧
        ∀ r, r ≠ q → t.queue r = s.queue r) ∧
      (∀ ps : List Packet, Completes (.packetFetch q ps) s fun t =>
        (t.queue q).inflight.length = x.inflight.length + min ps.length (min 8 (min x.unfetched x.freeSlots)))) ∧
    (∀ ps, s.queueReady q = false ∨ (s.sync 0).grantFor 0 q.toNat = none → Completes (.packetFetch q ps) s fun t => t = s) ∧
    (∀ f, x.inflight.find? (·.stage == .granted) = some f →
      (x.ending = none → (∀ g ∈ x.inflight, g.stage = .granted → g.id = f.id) →
        Completes (.packetDecode q) s fun t =>
          exec (.packetDecode q) (s.setFetched q { f with stage := .landed, onHold := s.holding && !holdExempt q f.pkt }) = .next t) ∧
      (x.ending.isSome = true → x.inflight.find? (·.id == f.id) = some f →
        Completes (.packetDecode q) s fun t => t.answers q f stQueueResetAbort 0)) ∧
    (∀ (f : Fetched) (before : List Fetched), x.inflight.find? (·.stage == .granted) = none →
      x.nextLanded = some (before, f) → f.waits before = false → x.inflight.find? (·.id == f.id) = some f →
      (f.onHold = true → Completes (.packetDecode q) s fun t => t.answers q f stHoldActive 0) ∧
      (∀ st, s.judge q f = some st → Completes (.packetDecode q) s fun t => t.answers q f st 0) ∧
      (s.judge q f = none → Completes (.packetDecode q) s fun t =>
        (t.queue q).inflight = x.inflight.map (fun g => if g.id = f.id then
          { f with stage := .decoded, keys := (s.policy x.dom).keys, since := s.now } else g) ∧
        t.posted = s.posted)) ∧
    (∀ f, x.inflight.find? (fun f => f.stage == .decoded && (s.unitFor q f.pkt).isSome) = some f →
      (∀ u d a, s.nextDispatch (s.dispatchArb q f.pkt) = some ((q, f), u, d, a) →
        Completes (.dispatch q) s fun t =>
          (t.queue q).inflight =
            x.inflight.map (fun g => if g.id = f.id then { f with stage := .dispatched (BitVec.ofNat 8 u) } else g) ∧
          ∀ r, r ≠ q → t.queue r = s.queue r) ∧
      (s.nextDispatch (s.dispatchArb q f.pkt) = none → Completes (.dispatch q) s fun t => t = s)) ∧
    (∀ tag, (∀ bs, Completes (.hostReadCompletion q tag (.data bs)) s fun t => t = s) ∧
      (∀ f u e, x.inflight.find? (fun f => !f.running && f.pkt.tag == tag && f.pkt.dataLen != 0) = some f →
        f.stage = .dispatched u → x.inflight.find? (·.id == f.id) = some f →
        Completes (.hostReadCompletion q tag (.failed e)) s fun t => t.answers q f stHostMemory 0 ∧ t.led = s.led)) ∧
    (x.irqMode = 2 → 0 < x.owed → x.coalTime ≠ 0 → x.st ≠ .absent → (s.msixEntry x.vector).getLsbD 96 = false →
      Completes (.coalescingTimeout q) s fun t =>
        (t.queue q).owed = 0 ∧ Posted.msix x.vector ∈ t.sent ∧ (t.queue q).inflight = x.inflight) ∧
    (∀ e, x.ending = some e → x.inflight = [] → s.locksOf q x.epoch = [] → s.ru.jrn.forced = [] → e.delete = false →
      Completes (.queueDrainEnd q) s fun t =>
        (t.queue q).st = .active ∧ (t.queue q).epoch = x.epoch + 1 ∧ (t.queue q).ending = none ∧
        (e.h = none → t.gctl.aqReset = false) ∧
        ∀ h f, e.h = some h → h.via = .host → h.q ≠ q → (s.queue h.q).inflight.find? (·.id == h.id) = some f →
          h.tag = f.pkt.tag → t.answers h.q f h.status (inlAt 0 e.aborted ||| inlAt 4 (x.epoch + 1).toNat)) ∧
    Completes .d3hotEntry s (fun t => t = { s with gctl := { s.gctl with d3hot := true } }) ∧
    (s.gctl.d3hot = true → Completes .d3hotExit s fun t =>
      t.posted = s.posted ++ (if s.ru.jrn.en && !s.skn.cutOff then
        s.ru.jrn.unwritten.map fun p => Posted.hostWrite (s.ringAddr p.1) p.2 else []) ++ s.gctl.d3held ∧
      t.gctl.d3held = [] ∧ t.gctl.d3hot = false ∧ t.queues = s.queues ∧ t.led = s.led) ∧
    (s.tmp.aotAcc < 390625 → Completes .timeSlewEnd s fun t =>
      t.gctl.slew = 0 ∧ t.gctl.time = s.gctl.time ∧ t.queues = s.queues)

/-- R243, R244, R246 to R250, R255, R274. A request parks and is granted, with its wait counted, a packet that a dispatch arbiter
grants goes to its unit; a request that waits past its threshold sets STARVE; a port watchdog that fires ends the stuck command,
or takes its spindle to its test; a corrected scrub in a scrub slot is counted. -/
def Obligations.ArbitersGrantFlagAndWatch : Prop :=
  ∀ (s : State),
    (∀ (n : BitVec 6) (i : Nat) (a : Arbiter), s.asks n.toNat = none → n.toNat < 34 → a = s.arbiter n.toNat → a.asking = [] →
      (Completes (.arbiterGrant n [i] false) s fun t =>
        ((t.arbiter n.toNat).req i).parked = [{ since := s.stamp n.toNat, starved := false }] ∧
        ((t.arbiter n.toNat).req i).grants = (a.req i).grants ∧ ∀ m, m ≠ n.toNat → t.arbiter m = s.arbiter m) ∧
      ((a.req i).weight ≠ 0 → s.uncounted n.toNat = false → s.arbRuns n.toNat = true →
        Completes (.arbiterGrant n [i] true) s fun t =>
          ((t.arbiter n.toNat).req i).parked = [] ∧ ((t.arbiter n.toNat).req i).grants = satAdd (a.req i).grants 1 ∧
          ((t.arbiter n.toNat).req i).waits = (a.req i).waits ∧ ((t.arbiter n.toNat).req i).weight = (a.req i).weight ∧
          ∀ m, m ≠ n.toNat → t.arbiter m = s.arbiter m)) ∧
    (∀ (n : BitVec 6) (l : List Nat), (s.asks n.toNat).isSome = true → n.toNat < 34 →
      (Completes (.arbiterGrant n l false) s fun t => t = s.sync n.toNat) ∧
      (∀ q f u d a, n.toNat ∈ ([1, 2, 3] : List Nat) → (s.sync n.toNat).nextDispatch n.toNat = some ((q, f), u, d, a) →
        Completes (.arbiterGrant n l true) s fun t =>
          (t.queue q).inflight = (s.queue q).inflight.map
            (fun g => if g.id = f.id then { f with stage := .dispatched (BitVec.ofNat 8 u) } else g))) ∧
    (∀ (n : BitVec 6) (i t : Nat) (p : Parked) (r : State), n.toNat < 34 → r = s.sync n.toNat → t = r.starveThreshold n.toNat i →
      (((r.arbiter n.toNat).req i).parked.find? fun p => !p.starved) = some p →
      (t ≠ 0 → t < (r.waited n.toNat p.since (t + 1)).waitOf n.toNat p.since →
        Completes (.starvationFlag n i) s fun t =>
          ((t.arbiter n.toNat).req i).starve = true ∧ t.gctl.evtStat.getLsbD evStarve = true ∧
          ((t.arbiter n.toNat).req i).weight = ((r.arbiter n.toNat).req i).weight) ∧
      (t = 0 ∨ (r.waited n.toNat p.since (t + 1)).waitOf n.toNat p.since ≤ t →
        Completes (.starvationFlag n i) s fun t => t = r)) ∧
    (∀ (w : Stuck), watched w.arb.toNat = true →
      ((s.heldAt w = true ∨ s.tmp.stage = .clearing) →
        Completes (.watchdogFire w) s fun t =>
          t.gctl.evtStat.getLsbD evWatchdog = true ∧
          (t.arbiter w.arb.toNat).wdog = satAdd (s.arbiter w.arb.toNat).wdog 1 ∧
          (∀ f u, w.arb.toNat ∈ ([9, 10, 11, 18, 19] : List Nat) → s.jobOf w.q w.tag = none →
            ((s.queue w.q).inflight.find? fun f => !f.running && f.pkt.tag == w.tag) = some f → f.stage = .dispatched u →
            (s.queue w.q).inflight.find? (·.id == f.id) = some f → t.answers w.q f stWatchdog 0) ∧
          (w.arb.toNat ∈ ([12, 13] : List Nat) → (s.spindle (portSpindle w)).jobsHeld ≠ [] →
            (t.spindle (portSpindle w)).svc = .testing ∧ (t.spindle (portSpindle w)).job = none ∧
            t.isOut (spindleCode (portSpindle w)) = true)) ∧
      (s.heldAt w = false → s.tmp.stage ≠ .clearing → Completes (.watchdogFire w) s fun t => t = s)) ∧
    (∀ row, Completes (.scrubRead row .clean) s (fun t => t = s) ∧
      (s.slotIs s.now 4 = false → Completes (.scrubRead row .corrected) s fun t => t = s) ∧
      (s.slotIs s.now 4 = true →
        Completes (.scrubRead row .corrected) s fun t =>
          t.mem.ecc = satAdd s.mem.ecc 1 ∧ t.mem.corrections.get row.toNat 0 = s.mem.corrections.get row.toNat 0 + 1))

/-- R143, R150, R156 to R158, R234, R257, R258. The occupancy of a job ends with its reply, with the request for its verification,
or with the firmware command that goes on; a job yields to a shorter one and resumes; a known-answer test decides whether a spindle
returns; an entropy buffer is refilled. -/
def Obligations.SpindlesYieldTestAndRefill : Prop :=
  ∀ (s : State) (sp : BitVec 6) (p : Spindle) (n : Nat), n = sp.toNat → n < 40 → p = s.spindle n →
    (∀ (j : Job) (f : Fetched) (g : BitVec 512), p.job = some j → p.shadow = none → p.taking = none → p.restoring = false →
      s.spn.signParked = [] → s.spn.verifyParked = [] → s.arb.leaving = [] →
      (∀ r x, r = s.setSpindle n { p with lane := clearLane, out := Vector.replicate 4 0, keyOp := 0, job := none
                                          restoring := false, jobs := satAdd p.jobs 1 } →
        (∀ c a more m, j.what = .part c (a :: more) → r.resumed c = some x → (partBody c.pkt).isSome = true →
          r.jobsStopped a.signing = false → r.idleSpindle a.signing = some m →
          Completes (.spindleJobEnd sp g) s fun t =>
            ∃ k, (t.spindle m).job = some k ∧ k.what = .part x.c more ∧ k.len = a.len ∧ k.cyc = j.cyc + a.len) ∧
        (∀ c body, j.what = .part c [] → r.resumed c = some x → partBody c.pkt = some body →
          Completes (.spindleJobEnd sp g) s fun t =>
            t = ({ body x r with
                   s := { (body x r).s with spn := { (body x r).s.spn with ran := [] } } } : Out).finish x) ∧
        (∀ c more, j.what = .part c more → r.resumed c = none → Completes (.spindleJobEnd sp g) s fun t => t = r)) ∧
      (∀ code w cv ops, j.prog = .bn code w cv ops → (∀ c a, j.what ≠ .part c a) → j.h.via = .host →
        (s.queue j.h.q).inflight.find? (·.id == j.h.id) = some f → j.h.tag = f.pkt.tag →
        Completes (.spindleJobEnd sp g) s fun t =>
          (t.spindle n).job = none ∧ (t.spindle n).lane = clearLane ∧ (t.spindle n).jobs = satAdd p.jobs 1 ∧
          t.answers j.h.q f j.h.status (inlAt 0 (bnRun code.toNat w cv ops).flags ||| inlAt 1 n)) ∧
      (∀ cv e r v qx qy, (∀ c a, j.what ≠ .part c a) → j.prog = .verify cv e r v qx qy none → j.h.via = .host →
        (s.queue j.h.q).inflight.find? (·.id == j.h.id) = some f → j.h.tag = f.pkt.tag →
        Completes (.spindleJobEnd sp g) s fun t =>
          (t.spindle n).job = none ∧ (t.spindle n).lane = clearLane ∧ (t.spindle n).jobs = satAdd p.jobs 1 ∧
          t.answers j.h.q f (if sm2Verify cv e r v qx qy then 0 else stSignatureReject) j.h.inl) ∧
      (∀ cv e d u qx qy lv vp, j.prog = .sign cv e d u qx qy lv → (∀ c a, j.what ≠ .part c a) → n < 8 →
        s.idleSpindle false = some vp → (sm2Sign cv e d u).regen = false →
        Completes (.spindleJobEnd sp g) s fun t =>
          (t.spindle n).job = none ∧ (t.spindle n).jobs = satAdd p.jobs 1 ∧
          (t.spindle vp).job = some
            { vasJob j n cv e qx qy lv (sm2Sign cv e d u).r (sm2Sign cv e d u).s (j.glitch ^^^ g) with began := some s.now } ∧
          t.posted = s.posted)) ∧
    (p.taking.isSome = true ∨ p.restoring = true → ∀ g, Completes (.spindleJobEnd sp g) s fun t => t = s) ∧
    (∀ (j k : Job) (rest : List Job), n < 8 → p.job = some j → j.yielded = false → p.shadow = none → p.taking = none →
      p.restoring = false → s.signersBusy = true → s.holding = false → shorter j.len s.spn.signParked = some (k, rest) →
      Completes (.yieldPoint sp) s fun t =>
        (t.spindle n).taking = some k ∧ (t.spindle n).job = none ∧ (t.spindle n).yields = satAdd p.yields 1 ∧
        t.spn.signParked = rest ∧
        ∃ j', (t.spindle n).shadow = some (p.lane, j') ∧ j'.yielded = true ∧ j'.prog = j.prog ∧ j'.h = j.h ∧
          j'.cyc = j.cyc + 32 + k.len) ∧
    (∀ k, p.taking = some k →
      Completes (.shadowSaveEnd sp) s fun t =>
        (t.spindle n).taking = none ∧ (t.spindle n).lane = clearLane ∧ (t.spindle n).shadow = p.shadow ∧
        ∃ j, (t.spindle n).job = some j ∧ j.h = k.h ∧ j.what = k.what ∧ j.len = k.len) ∧
    (∀ l j, p.restoring = true → p.shadow = some (l, j) →
      Completes (.shadowRestoreEnd sp) s fun t =>
        (t.spindle n).lane = l ∧ (t.spindle n).job = some j ∧ (t.spindle n).shadow = none ∧ (t.spindle n).restoring = false) ∧
    (p.svc = .testing → s.arb.waiting = [] →
      (Completes (.knownAnswerTestEnd sp true) s fun t =>
        (t.spindle n).svc = .inService ∧ t.isOut (spindleCode n) = false ∧ t.gctl.evtStat.getLsbD evUnitSvc = true) ∧
      (Completes (.knownAnswerTestEnd sp false) s fun t =>
        (t.spindle n).svc = .out ∧ (t.spindle n).katFails = satAdd p.katFails 1 ∧ t.isOut (spindleCode n) = true ∧
        t.gctl.evtStat.getLsbD evUnitSvc = true)) ∧
    (n < 8 → p.job = none → s.entropyOk = true → p.ent.length ≤ 4 →
      Completes (.entropyBufferRefill sp) s fun t =>
        (t.spindle n).ent.length = 4 ∧ (t.spindle n).ent.take p.ent.length = p.ent ∧
        t.ks.draws = s.ks.draws + (4 - p.ent.length))

/-- R322, R324, R326 to R337. An alarm is recorded, and raises the level to its response; a response runs through its stages and
erases what its level erases; HOLD may release itself through the tests; a watched source on backup alone is stored. -/
def Obligations.TamperResponsesRun : Prop :=
  ∀ (s : State),
    (∀ (src : BitVec 5) (d : Byte) (r : Nat), src.toNat < 25 → r = s.responseOf src.toNat → s.tmp.active.getLsbD src.toNat = false →
      s.unwatched src.toNat = false → s.tmp.testing = false →
      (r ≤ s.tmp.level.toNat →
        Completes (.tamperAlarm src d) s fun t =>
          t.tmp.active.getLsbD src.toNat = true ∧ t.tmp.fired.getLsbD src.toNat = true ∧ t.tmp.count = satAdd s.tmp.count 1 ∧
          t.tmp.lastSource = src ∧ t.tmp.lastDetail = d ∧ t.tmp.level = s.tmp.level ∧ t.tmp.stage = s.tmp.stage ∧
          t.ks = s.ks ∧ t.led = s.led) ∧
      (s.tmp.level.toNat < r →
        Completes (.tamperAlarm src d) s fun t =>
          t.tmp.active.getLsbD src.toNat = true ∧ t.tmp.fired.getLsbD src.toNat = true ∧ t.tmp.level.toNat = r ∧
          (2 ≤ r → t.tmp.latched = true) ∧ (s.tmp.level.toNat < 2 → t.tmp.stage = .clearing))) ∧
    (∀ (src : BitVec 5), src.toNat < 25 →
      Completes (.sourceInactive src) s fun t =>
        t.tmp.active.getLsbD src.toNat = false ∧ t.tmp.level = s.tmp.level ∧ t.tmp.fired = s.tmp.fired ∧ t.led = s.led ∧ t.ks = s.ks) ∧
    (s.tmp.stage = .clearing → s.coreRuns = true →
      (s.tmp.level = 1 → s.tmp.release = none →
        Completes .tamperClearsEnd s fun t => t.tmp.stage = .idle ∧ t.tmp.level = 1 ∧ t.led = s.led ∧ t.ks = s.ks) ∧
      (2 ≤ s.tmp.level.toNat →
        Completes .tamperClearsEnd s fun t =>
          t.tmp.stage = .erasing ∧ t.led.strip = true ∧ (s.tmp.level = 3 → t.led.scour = true))) ∧
    (s.tmp.stage = .erasing →
      Completes .secretsErase s fun t =>
        t.tmp.stage = .wipeDue ∧ (∀ n, n ≠ 1 → t.slot n = none) ∧ t.ks.dmks = [] ∧ t.ks.root = 0 ∧ t.sl.ctxs = [] ∧
        (∀ n, t.dig' n = closedDig)) ∧
    (s.tmp.level = 3 → s.tmp.release = none →
      (s.tmp.stage = .wiping →
        Completes .bbramClearPulseEnd s fun t =>
          t.ks.shares = [] ∧ t.ks.mnonce = none ∧ t.tmp.canary = .scoured ∧ t.tmp.stage = .wiping) ∧
      (s.tmp.stage = .shares →
        Completes .bbramClearPulseEnd s fun t =>
          t.ks.shares = [] ∧ t.ks.mnonce = none ∧ t.tmp.canary = .scoured ∧ t.tmp.stage = .idle)) ∧
    (s.tmp.stage = .wipeDue →
      Completes .contextStoreWipeBegin s fun t => t.tmp.stage = .wiping ∧ t.sl.wiping = true ∧ t.ks = s.ks) ∧
    (s.tmp.stage = .wiping → s.tmp.level = 2 → s.tmp.release = none → Tab.sorted s.ks.slots = true →
      Completes .contextStoreWipeEnd s fun t =>
        t.tmp.stage = .idle ∧ t.sl.wiping = false ∧ t.slot 1 = none ∧ t.mem.selfRefresh = true ∧ t.tmp.level = 2) ∧
    (s.tmp.dwell = true → s.tmp.level = 1 → s.tmp.latched = false → s.holdSource = false → s.tmp.stage = .idle →
      s.mss.st = .running →
      Completes .holdSelfRelease s fun t =>
        t.tmp.releasing = true ∧ t.tmp.testing = true ∧ t.tmp.tests = allSources ∧ t.tmp.level = 1) ∧
    (s.tmp.testing = false → s.mss.st = .running →
      Completes .builtInTestStart s fun t =>
        t.tmp.testing = true ∧
        t.tmp.tests = if s.tmp.tests = [] then [BitVec.ofNat 5 ((s.tmp.lastTest.toNat + 1) % 25)] else s.tmp.tests) ∧
    (∀ (src : BitVec 5) (rest : List (BitVec 5)), s.tmp.testing = true → s.tmp.tests = src :: rest → s.tmp.suppressed = none →
      (rest ≠ [] →
        Completes (.builtInTestEnd true) s fun t =>
          t.tmp.lastTest = src ∧ t.tmp.tests = rest ∧ t.tmp.testing = true ∧ t.tmp.testFails = s.tmp.testFails ∧
          t.tmp.level = s.tmp.level) ∧
      (rest ≠ [] →
        Completes (.builtInTestEnd false) s fun t =>
          t.tmp.lastTest = src ∧ t.tmp.testFails = satAdd s.tmp.testFails 1 ∧ t.tmp.fired.getLsbD 24 = true ∧
          t.tmp.lastSource = 24) ∧
      (rest = [] → s.tmp.releasing = true → s.tmp.testFailed = false → s.holdSource = false → s.tmp.stage = .idle →
        s.tmp.level = 1 → s.gctl.ready = true → s.tmp.release = none → s.arb.waiting = [] →
        Completes (.builtInTestEnd true) s fun t =>
          t.tmp.level = 0 ∧ t.tmp.fired = 0 ∧ t.tmp.latched = false ∧ t.tmp.releasing = false)) ∧
    (∀ (src : BitVec 5) (d : Byte), src.toNat ∈ backupSources → s.pwr.st = .backup → s.tmp.store.length < 8 →
      Completes (.backupAlarm src d) s fun t =>
        t.tmp.store.length = s.tmp.store.length + 1 ∧
        (s.responseOf src.toNat = 3 → t.ks.shares = [] ∧ t.ks.mnonce = none ∧ t.tmp.level = 3) ∧
        (s.responseOf src.toNat ≠ 3 → t.ks = s.ks ∧ t.tmp.level = s.tmp.level))

/-- R221, R222, R233, R235. A visit of the sweep gives a sound slot, or a sound entry of the domain key table, new shares of the same
value, marks a slot whose check fails, and moves on; a failed health test stops the source, a third in succession takes it out of service, and its start-up
tests bring it back. -/
def Obligations.KeySweepAndEntropyEvents : Prop :=
  ∀ (s : State),
    (∀ (n : Nat), n = s.ks.sweep.toNat →
      (Completes .sweepVisit s fun t =>
        t.ks.sweep = s.ks.sweep + 1 ∧ t.ks.revs = (if n = 4095 then s.ks.revs + 1 else s.ks.revs) ∧ t.led = s.led) ∧
      (∀ k : Slot, s.slot n = some k → k.st = .valid → k.check = k.icv → s.gensOk k = true →
        Completes .sweepVisit s fun t =>
          ∃ k', t.slot n = some k' ∧ k'.value = k.value ∧ k'.attr = k.attr ∧ k'.st = .valid ∧ ∀ m, m ≠ n → t.slot m = s.slot m) ∧
      (∀ p : DmkKey, s.slot n = none → n % 16 = 0 → s.ks.dmks.find (n / 16) = some p → dmkCheck p.s0 p.s1 = p.icv →
        Completes .sweepVisit s fun t =>
          ∃ p', t.ks.dmks.find (n / 16) = some p' ∧ p'.s0 ^^^ p'.s1 = p.s0 ^^^ p.s1 ∧ p'.icv = p.icv) ∧
      (∀ k : Slot, 16 ≤ n → s.slot n = some k → k.st = .valid → k.check ≠ k.icv →
        (∀ p, n % 16 = 0 → s.ks.dmks.find (n / 16) = some p → dmkCheck p.s0 p.s1 = p.icv) →
        Completes .sweepVisit s fun t =>
          (∃ k', t.slot n = some k' ∧ k'.st = .corrupt) ∧ t.ks.corrupted = satAdd s.ks.corrupted 1 ∧
          ∀ m, m ≠ n → t.slot m = s.slot m)) ∧
    (∀ (src : BitVec 1) (test : Byte),
      Completes (.entropyHealthFail src test) s fun t =>
        t.ks.seeded = false ∧ t.ks.entFails = s.ks.entFails + 1 ∧ t.ks.entTesting = true ∧
        t.ks.entFailCount = satAdd s.ks.entFailCount 1 ∧
        (s.ks.entFails + 1 < 3 → t.ks.entIn = s.ks.entIn) ∧
        (3 ≤ s.ks.entFails + 1 → s.ks.entIn = true →
          t.ks.entIn = false ∧ t.isOut 0x52 = true ∧ t.gctl.evtStat.getLsbD evUnitSvc = true)) ∧
    Completes .entropyReseed s (fun t => t = { s with ks := { s.ks with outputs := 0 } }) ∧
    (∀ pass, s.ks.entTesting = true → s.arb.waiting = [] →
      (s.arb.returning.find 0x52 = none →
        Completes (.entropyRestartTestsEnd pass) s fun t =>
          t = { s with ks := { s.ks with
            entTesting := false, seeded := pass, entFails := if pass then 0 else s.ks.entFails } }) ∧
      (∀ h, s.arb.returning.find 0x52 = some h →
        Completes (.entropyRestartTestsEnd pass) s fun t =>
          t.ks.entIn = pass ∧ t.ks.seeded = pass ∧ t.isOut 0x52 = !pass ∧ t.gctl.evtStat.getLsbD evUnitSvc = true))

/-- R63, R337, R389, R396, R397. The reset classes: a reset of the planes puts queues, ledger and keys back and keeps fuses,
backup domain and flash; a link reset ends every queue under its next epoch; loss of main power leaves the backup domain alone,
and loss of its cell its contents too. A reset of a plane holds until every input that asserts it is released. -/
def Obligations.ResetsPutBackWhatTheyReset : Prop :=
  ∀ (s : State),
    (∀ i c, (i, c) ∈ ([(.sysRst, rcSys), (.planeSupplyReset, rcSys)] : List (Instr × Nat)) → s.mainPower = true →
      s.pwr.sysLow = false → s.pwr.planeLow = false →
      Completes i s fun t =>
        (∀ q, (t.queue q).st = .absent) ∧ t.led.pools = [] ∧ t.ks.slots = [] ∧ t.gctl.ready = false ∧ t.gctl.time = s.gctl.time ∧
        t.pwr.st = .inReset ∧ t.pwr.rstCause.getLsbD c = true ∧ t.life.count = s.life.count ∧ t.kp.flash = s.kp.flash ∧
        t.tmp.level = s.tmp.level ∧ t.tmp.store = s.tmp.store ∧ t.ks.fuse = s.ks.fuse) ∧
    (s.life.resetDue = true → s.mainPower = true →
      Completes .lifecyclePlaneReset s fun t =>
        t.life.resetDue = false ∧ (∀ q, (t.queue q).st = .absent) ∧ t.led.pools = [] ∧ t.gctl.ready = false ∧
        t.pwr.rstCause.getLsbD rcLc = true ∧ t.life.count = s.life.count ∧ t.kp.flash = s.kp.flash) ∧
    (∀ head, s.pwr.st = .inReset → s.pwr.porLow = false →
      (s.pwr.sysLow = true → s.pwr.planeLow = false →
        Completes (.sysRstRelease head) s fun t =>
          t.pwr.sysLow = false ∧ t.pwr.st = .active ∧ t.skn.head = head ∧ 1 ∈ t.pwr.stages ∧ t.queues = s.queues) ∧
      (s.pwr.sysLow = false → s.pwr.planeLow = true →
        Completes (.planeSupplyResetRelease head) s fun t =>
          t.pwr.planeLow = false ∧ t.pwr.st = .active ∧ t.skn.head = head ∧ 1 ∈ t.pwr.stages ∧ t.queues = s.queues) ∧
      (s.pwr.sysLow = true → s.pwr.planeLow = true →
        Completes (.sysRstRelease head) s fun t => t.pwr.sysLow = false ∧ t.pwr.st = .inReset)) ∧
    (s.mainPower = true →
      Completes .por s fun t =>
        t.pwr.rstCause = 1 ∧ t.pwr.porLow = true ∧ t.pwr.st = .inReset ∧ (∀ q, (t.queue q).st = .absent) ∧ t.led.pools = [] ∧
        t.kp.cu = none ∧ t.kp.queue = [] ∧ t.kp.frame = none ∧ t.tmp.level = s.tmp.level ∧ t.tmp.cfg = s.tmp.cfg ∧
        t.gctl.time = s.gctl.time ∧ t.life.count = s.life.count ∧ t.mss.running = none) ∧
    (∀ head v18, s.pwr.porLow = true → s.pwr.sysLow = false → s.pwr.planeLow = false →
      Completes (.porRelease head v18) s fun t =>
        t.pwr.porLow = false ∧ t.pwr.st = .active ∧ t.mss.st = .booting ∧ t.gctl.recalling = true ∧ t.kp.powered = true ∧
        t.kp.stage = 1 ∧ t.skn.head = head ∧ t.card.v18 = v18 ∧ t.life.count = s.life.count) ∧
    (∀ whole cell, s.pwr.st ≠ .backup →
      Completes (.powerFailure whole cell) s fun t =>
        t.pwr.st = .backup ∧ t.mss.st = .off ∧ t.kp.powered = false ∧ t.kp.cu = none ∧ t.life.count = s.life.count ∧
        (cell = true → t.tmp.level = s.tmp.level ∧ t.tmp.cfg = s.tmp.cfg ∧ t.gctl.time = s.gctl.time) ∧
        (cell = false → t.ks.shares = [] ∧ t.gctl.time = 0 ∧ t.tmp.canary = .lost)) ∧
    (∀ i c, (i, c) ∈ ([(.perst, rcPerst), (.functionLevelReset, rcFlr)] : List (Instr × Nat)) → s.gctl.perstLow = false →
      s.planesHeld = false → (s.queue 0).st = .active →
      Completes i s fun t =>
        (t.queue 0).st = .active ∧ (t.queue 0).epoch = (s.queue 0).epoch + 1 ∧ (t.queue 0).inflight = [] ∧
        (∀ q, q ≠ 0 → (t.queue q).st = .absent) ∧ t.gctl.en = false ∧ t.ru.jrn.en = false ∧ t.pwr.rstCause.getLsbD c = true ∧
        t.ks.dmks = s.ks.dmks ∧ t.life = s.life) ∧
    Completes .perstRelease s (fun t =>
      t.gctl.perstLow = false ∧ t.queues = s.queues ∧ t.led = s.led ∧
      (2 ∈ s.pwr.stages → t.gctl.linkWidth = Config.linkWidth ∧ t.gctl.linkRate = Config.linkRate)) ∧
    (s.mss.ho = none → s.mss.st = .running →
      Completes .mssWatchdog s fun t =>
        t.mss.st = .booting ∧ t.mss.staging = none ∧ t.mss.running = none ∧ t.life.challenge = none ∧ t.queues = s.queues ∧
        t.led = s.led ∧ t.ks = s.ks ∧ t.pwr.rstCause.getLsbD rcMss = true)

/-- R391 to R394, R398. IDLE gates a clock; DOZE is entered at a frame boundary when all its conditions hold, a wake source ends
it with the writes it held carried out afterwards; a data-plane reset that has drained resets the units and keeps the ledger. -/
def Obligations.PowerStatesChange : Prop :=
  ∀ (s : State),
    (∀ u : Byte,
      (s.busy u.toNat = false → Completes (.idleEntry u) s fun t => u ∈ t.pwr.idle ∧ t.queues = s.queues ∧ t.gctl = s.gctl) ∧
      (s.busy u.toNat = true → Completes (.idleEntry u) s fun t => u ∉ t.pwr.idle ∧ t.queues = s.queues ∧ t.gctl = s.gctl)) ∧
    (s.mayDoze = true → s.now + 1280 < 2 ^ 64 →
      Completes .dozeEntry s fun t =>
        t.pwr.st = .doze ∧ t.pwr.dozePend = false ∧ t.pwr.dozeCnt = satAdd s.pwr.dozeCnt 1 ∧ t.now % 1024 = 0 ∧
        s.now + 256 ≤ t.now ∧ t.now < s.now + 1280 ∧ t.mem.selfRefresh = true ∧ t.queues = s.queues ∧ t.led = s.led) ∧
    (s.pwr.st = .doze →
      (Completes (.dozeWake .bar0Read) s fun t => t.pwr.st = .waking ∧ t.pwr.wakeSrc = 2 ∧ t.pwr.heldWrites = s.pwr.heldWrites) ∧
      (∀ addr v, addr ≠ 0xE004 →
        Completes (.dozeWake (.bar0Write addr v)) s fun t =>
          t.pwr.st = .waking ∧ t.pwr.wakeSrc = 1 ∧ t.pwr.heldWrites = s.pwr.heldWrites ++ [.bar0 addr v]) ∧
      (Completes (.dozeWake .tamper) s fun t => t.pwr.st = .waking ∧ t.pwr.wakeSrc = 5)) ∧
    (s.pwr.st = .waking → s.pwr.corePll = true → s.pwr.memPll = true → s.pwr.heldWrites = [] →
      Completes .dozeWakeEnd s fun t =>
        t.pwr.st = .active ∧ t.pwr.doze = false ∧ t.gctl.cycle = s.gctl.cycle + 2048 ∧ t.mem.selfRefresh = false ∧
        t.queues = s.queues ∧ t.led = s.led) ∧
    (s.pwr.dpReset = true → s.answeredAll = true → s.now + 69760 < 2 ^ 64 →
      (∀ n, Completes (.dataPlaneDrainEnd (some n)) s fun t =>
        t.pwr.dpReset = false ∧ t.pwr.rstCause.getLsbD rcDp = true ∧ t.led.pools.find n.toNat = none) ∧
      Completes (.dataPlaneDrainEnd none) s fun t =>
        t.pwr.dpReset = false ∧ t.pwr.rstCause.getLsbD rcDp = true ∧ t.now = s.now + 69760 ∧ t.led.pools = s.led.pools ∧
        t.led.locks = s.led.locks ∧ t.sl.ctxs = s.sl.ctxs ∧ (∀ n, n < 64 → t.dig' n = closedDig) ∧ t.ks = s.ks ∧
        t.queues = s.queues)

/-- R99, R137, R213 to R219, R306, R311 to R313, R348, R368, R391, R400, R401. Each stage of start-up ends once those before it
have, and does its part; a part that fails stops the start-up there. -/
def Obligations.StartUpRunsStageByStage : Prop :=
  ∀ (s : State),
    (∀ n, 1 ≤ n → n ≤ 4 → s.kp.stage = n → Completes .recallStageEnd s fun t => t.kp.stage = n + 1 ∧ t.queues = s.queues) ∧
    (s.kp.stage = 5 → s.kp.ringValue 2 < 2 ^ 32 → Completes .recallEnd s fun t =>
      t.kp.stage = 0 ∧ t.gctl.recalling = false ∧ t.gctl.time.toNat = max s.gctl.time.toNat (s.kp.ringValue 2)) ∧
    (∀ r, s.mss.st = .booting → s.gctl.recalling = false → s.kp.powered = true → r = bootOf (s.kp.records.find bootKey) →
      (s.imageCheck 2 r.mssB = none → s.arb.waiting = [] →
        Completes .mssBoot s fun t =>
          t.mss.st = .running ∧ t.mss.mss = some (s.imageRelease 2 r.mssB) ∧ t.mss.boot = r ∧ 5 ∈ t.pwr.stages) ∧
      ((s.imageCheck 2 r.mssB).isSome = true → (s.imageCheck 2 (!r.mssB)).isSome = true → s.mss.update = false →
        Completes .mssBoot s fun t => t.mss.st = .romOnly ∧ t.pwr.stages = s.pwr.stages)) ∧
    (s.planesHeld = false → s.pwr.st = .active → s.pwr.memPll = true → s.done 2 = false →
      Completes (.pllStartCheck .core true) s fun t => t.pwr.corePll = true ∧ t.done 2 = true ∧ t.tmp.fired = s.tmp.fired) ∧
    (s.planesHeld = false → s.tmp.active.getLsbD 8 = false → s.unwatched 8 = false → s.tmp.testing = false →
      s.responseOf 8 ≤ s.tmp.level.toNat →
      Completes (.pllStartCheck .core false) s fun t => t.pwr = s.pwr ∧ t.tmp.fired.getLsbD 8 = true) ∧
    (s.pwr.st = .active → s.done 2 = true → s.done 3 = false →
      Completes (.entropyStartupTestsEnd true (BitVec.allOnes 40)) s fun t =>
        t.done 3 = true ∧ t.ks.entIn = true ∧ t.ks.seeded = true ∧ t.spn.katPass = true ∧ ∀ n, n < 40 → (t.spindle n).svc = .inService) ∧
    (s.pwr.st = .active → s.done 2 = true → s.done 3 = false →
      Completes (.entropyStartupTestsEnd false 0) s fun t =>
        t.done 3 = true ∧ t.ks.entIn = false ∧ t.isOut 0x52 = true ∧ ∀ n, n < 40 → (t.spindle n).svc = .out) ∧
    (∀ b, s.due 7 [3, 6] = true → s.entropyOk = true → s.share = some b → s.life.count.toNat < 5 →
      Completes .rootDerive s fun t =>
        t.done 7 = true ∧ t.ks.root.toNat = rootOfLife s.life.count.toNat % 8 ∧ t.ks.mnonce.isSome = true ∧
        (∃ k, t.slot 0 = some k ∧ k.st = .valid ∧
          k.value = wide (rootFrom s.ks.fuse b (BitVec.ofNat 8 (rootOfLife s.life.count.toNat)))) ∧
        ∃ k, t.slot 1 = some k ∧ k.st = .valid) ∧
    (s.due 8 [7] = true →
      (Completes (.dramTrainingEnd true) s fun t => t = { s with mem := { s.mem with trained := true } }) ∧
      (Completes (.dramTrainingEnd false) s fun t => t.mem = s.mem ∧ t.pwr = s.pwr) ∧
      (s.mem.trained = true → Completes .dramInitEnd s fun t =>
        t.done 8 = true ∧ t.mem.inited = true ∧ t.mem.selfRefresh = false)) ∧
    (s.due 9 [6] = true → s.mss.st = .running → s.imageCheck 1 s.mss.boot.cpB = none →
      Completes .controlPlaneBoot s fun t =>
        t.done 9 = true ∧ t.mss.setA = some (s.imageRelease 1 s.mss.boot.cpB) ∧
        t.mss.setB = some (s.imageRelease 1 s.mss.boot.cpB) ∧ t.mss.boot = s.mss.boot) ∧
    (∀ root, s.due 10 [8] = true → s.keeperUp = true → s.rootKey = some root →
      Completes .archiveLoad s fun t => t.done 10 = true ∧ t.ks.archiveLoaded = true ∧ t.ru.reg.fpkSlot = 5) ∧
    (s.due 11 [9, 10] = true → s.keeperUp = true →
      (s.kp.candidates = [] → s.rootsLost = false → s.deviceFrozen = false →
        Completes .ledgerRecovery s fun t =>
          t.done 11 = true ∧ t.led.recovered = !s.ru.rb.needed ∧ t.ru.rb.needed = s.ru.rb.needed) ∧
      (∀ r, s.kp.candidates.find? (·.tot.sound) = some r → s.rootsLost = false → s.journalKey.isSome = true →
        Completes .ledgerRecovery s fun t =>
          t.done 11 = true ∧ t.led.recovered = false ∧ t.ru.rb.needed = true ∧ t.led.durable = r ∧ t.ru.jrn.seq = r.jseq)) ∧
    (s.due 12 [11] = true → s.gctl.ready = false →
      Completes .startupReady s fun t => t.gctl.ready = true ∧ t.done 12 = true ∧ t.queues = s.queues ∧ t.led = s.led) ∧
    (s.mss.update = true → s.mss.st = .running →
      Completes .mssRebootDone s fun t =>
        t.mss.update = false ∧ t.mss.reboot = none ∧
        ∀ h f, s.mss.reboot = some h → h.via = .host → (s.queue h.q).inflight.find? (·.id == h.id) = some f → h.tag = f.pkt.tag →
          t.answers h.q f (if s.mss.rebootCheck = 0 then 0 else stImageRejected) (inlAt 0 s.mss.rebootCheck)) ∧
    (∀ k, s.mss.ho = some k → k.back = false → k.paused = false →
      (k.step = 3 → s.setIdle true = true → s.imageCheck 1 (s.mss.boot.spare 1) = none →
        Completes .handoverSetIdle s fun t => t.mss.ho = some { k with step := 4 } ∧ t.gctl.sliceOwner = s.gctl.sliceOwner) ∧
      (k.step = 4 → s.arb.waiting = [] →
        Completes .handoverSetLoaded s fun t =>
          t.mss.ho = some { k with step := 6 } ∧ t.gctl.sliceOwner = BitVec.allOnes 256 ∧ t.queues = s.queues))

/-- R336, R349 to R353, R356, R360. The side-band and service ports take messages and frames, the idle MSS takes the next
command, samples its sensors and writes what was posted to the event log. -/
def Obligations.PortsAndTheEventLog : Prop :=
  ∀ (s : State),
    (∀ m, s.mssUp = true → s.mss.eid ≠ 0 → messageOk m = true →
      (s.mss.smbus.length < 4 → Completes (.smbusMessage m) s fun t =>
        t.mss.smbus = s.mss.smbus ++ [m] ∧ t.mss.discarded = s.mss.discarded ∧ t.queues = s.queues) ∧
      (4 ≤ s.mss.smbus.length → Completes (.smbusMessage m) s fun t =>
        t = { s with mss := { s.mss with discarded := satAdd s.mss.discarded 1 } })) ∧
    (∀ (flags op eid : Byte) (rest : Bytes), s.mssUp = true → flags.getLsbD 7 = true → (op &&& 3).toNat ≤ 1 → eid ≠ 0 → eid ≠ 0xFF →
      Completes (.mctpControlMessage ([0x00, flags, 0x01, op, eid] ++ rest)) s fun t =>
        t.mss.eid = eid ∧ t.posted = s.posted ++ [.smbus [0x00, flags &&& 0x1F, 0x01, 0x00, 0x00, eid, 0x00]]) ∧
    Completes .mctpReassemblyTimeout s (fun t => t = { s with mss := { s.mss with partialMsg := [] } }) ∧
    Completes .smbusTimeout s (fun t => t = { s with mss := { s.mss with partialMsg := [] } }) ∧
    (∀ f : Bytes,
      (s.mss.svcEn = false → Completes (.spiCommandFrame f) s fun t => t = s) ∧
      (s.mss.svcEn = true → s.mssUp = true →
        (spiFrameOk f = true → s.spiBusy = false → Completes (.spiCommandFrame f) s fun t =>
          t.mss.spiWaiting = some (slice f 4 (leAt f 2 2)) ∧ t.mss.spiOut = none ∧ t.mss.spiErr = false ∧ t.queues = s.queues) ∧
        (spiFrameOk f = false → Completes (.spiCommandFrame f) s fun t =>
          t = { s with mss := { s.mss with spiErr := true } }))) ∧
    (s.mss.svcEn = true → s.mssUp = true →
      (s.mss.spiErr = true → Completes .spiPollFrame s fun t =>
        t.mss.spiErr = false ∧ t.posted = s.posted ++ [.spi (spiFrame 0x82 [])]) ∧
      (∀ f, s.mss.spiErr = false → s.mss.spiOut = some f →
        Completes .spiPollFrame s fun t => t = { s with posted := s.posted ++ [.spi f] })) ∧
    (∀ level open_, Completes (.svcEnChange level open_) s fun t =>
      t.mss.svcEn = level ∧ t.mss.spiErr = (s.mss.spiErr || (open_ && s.mss.svcEn != level)) ∧ t.queues = s.queues) ∧
    (s.mssUp = true → s.mss.running = none →
      (∀ m rest, s.portChoice = some 0 → s.mss.smbus = m :: rest → s.judgeSide (messageCmd m).pkt .smbus = none →
        Completes .managementCommandTake s fun t =>
          t.mss.smbus = rest ∧ ∃ c, t.mss.running = some (.smbus, c) ∧ c.pkt = (messageCmd m).pkt ∧ c.data = m.drop 68) ∧
      (∀ c rest, s.portChoice = none → s.mss.forwarded = c :: rest → s.mss.st = .running →
        Completes .managementCommandTake s fun t => t.mss.forwarded = rest ∧ t.mss.running = some (.host, c))) ∧
    (∀ rs : List (BitVec 16), s.mss.st = .running → rs.length = 16 →
      Completes (.sensorSample rs) s fun t => t.mss.sensors.toList = rs ∧ t.queues = s.queues) ∧
    (∀ e rest, s.nvmStatus = none → s.mss.st = .running → s.kp.posts = e :: rest →
      s.flashTakes .log (e.bytes (s.kp.log.frameSeq + 1)).length →
      Completes .eventLogWrite s fun t =>
        t.kp.posts = rest ∧ t.kp.log.frameSeq = s.kp.log.frameSeq + 1 ∧
        t.kp.log.off = s.kp.log.off + frameLen (e.bytes (s.kp.log.frameSeq + 1)).length ∧ t.kp.fe0 = s.kp.fe0 ∧ t.kp.fe1 = s.kp.fe1) ∧
    (s.mss.st = .running → s.gctl.recalling = false →
      Completes .backupStorePost s fun t =>
        t.tmp.store = [] ∧ t.tmp.overflow = 0 ∧ t.tmp.level = s.tmp.level ∧
        t.kp.posts.length = s.kp.posts.length + s.tmp.store.length + (if s.tmp.overflow = 0 then 0 else 1))

/-- R293, R298 to R308, R310, R311, R314, R315. The record controller starts a frame, programs it page by page (a bit only goes
from 1 to 0, and no byte outside the page changes) and sets its marker; a sector that is short is reclaimed, erased and gets its
header; below the comparator's threshold nothing starts; FeRAM records, wear rings and refresh request the commit unit. -/
def Obligations.KeeperDieStoresRecords : Prop :=
  ∀ (s : State),
    (∀ req : FlashReq,
      (∀ st, s.nvmStatus = some st → Completes (.flashFrameWrite req) s fun t => t = s) ∧
      (s.nvmStatus = none → s.kp.frame.isSome = true → Completes (.flashFrameWrite req) s fun t =>
        t = { s with kp := { s.kp with frames := s.kp.frames ++ [req] } }) ∧
      (∀ x, x = s.kp.area req.area → s.nvmStatus = none → s.kp.frame = none → x.fits (frameLen req.payload.length) = true →
        Completes (.flashFrameWrite req) s fun t =>
          (∃ w, t.kp.frame = some w ∧ w.req = req ∧ w.addr = s.kp.addr x.sector x.off ∧ w.done = 0 ∧ w.seq = x.frameSeq + 1 ∧
            w.bytes = frameBytes req.kind (x.frameSeq + 1) req.key req.payload) ∧
          (t.kp.area req.area).off = x.off + frameLen req.payload.length ∧ t.kp.flash = s.kp.flash)) ∧
    (∀ w page a, Memory.wf flBlank s.kp.flash = true → s.kp.frame = some w → w.marker = false → s.kp.tripped = false → s.kp.mapDue = false →
      page = w.page → a = w.addr + w.done →
      Completes (.flashPageProgramDone true) s fun t =>
        (∃ w', t.kp.frame = some w' ∧ w'.done = w.done + page.length ∧ w'.marker = decide (w.bytes.length ≤ w.done + page.length)) ∧
        (∀ i, i < page.length →
          readByte flBlank t.kp.flash (a + i) = readByte flBlank s.kp.flash (a + i) &&& page.getD i 0) ∧
        (∀ b, b < a ∨ a + page.length ≤ b → readByte flBlank t.kp.flash b = readByte flBlank s.kp.flash b) ∧
        t.kp.fe0 = s.kp.fe0 ∧ t.kp.fe1 = s.kp.fe1) ∧
    (∀ w, Memory.wf flBlank s.kp.flash = true → s.kp.frame = some w → w.marker = true → s.kp.frames = [] →
      Completes .flashMarkerDone s fun t =>
        t.kp.frame = none ∧ readByte flBlank t.kp.flash (w.addr + w.bytes.length) = 0 ∧
        ∀ b, b ≠ w.addr + w.bytes.length → readByte flBlank t.kp.flash b = readByte flBlank s.kp.flash b) ∧
    (∀ sec sec' rest, s.nvmStatus = none → s.kp.log.used = sec :: sec' :: rest → s.kp.log.blank.length ≤ areaSpare .log →
      s.kp.log.sector ≠ sec → s.kp.erase = none → s.kp.eraseQueue = [] → s.kp.failedSectors = [] →
      Completes (.flashSectorReclaim .log) s fun t =>
        t.kp.erase = some (sec, s.kp.frame.isSome) ∧ sec ∉ t.kp.log.used ∧ t.kp.flash = s.kp.flash) ∧
    (∀ sec ar p, s.kp.erase = some (sec, false) → s.kp.eraseQueue = [] → sectorArea sec = some ar → p = s.kp.physical sec →
      Memory.wf flBlank s.kp.flash = true →
      Completes (.flashEraseDone true) s fun t =>
        t.kp.erase = none ∧ (t.kp.area ar).blank = (s.kp.area ar).blank ++ [sec] ∧
        (t.kp.area ar).sectorSeq = (s.kp.area ar).sectorSeq + 1 ∧
        (∀ i, 64 ≤ i → i < 65536 → readByte flBlank t.kp.flash (65536 * p + i) = 0xFF) ∧
        (∀ b, b < 65536 * p ∨ 65536 * p + 65536 ≤ b → readByte flBlank t.kp.flash b = readByte flBlank s.kp.flash b)) ∧
    Completes .vholdTrip s (fun t => t = { s with kp := { s.kp with tripped := true } }) ∧
    Completes .vholdRelease s (fun t => t.kp.tripped = false ∧ t.queues = s.queues ∧ t.led = s.led) ∧
    Completes .commitDomainStop s (fun t =>
      t.kp.powered = false ∧ t.kp.tripped = true ∧ t.kp.cu = none ∧ t.kp.frame = none ∧ t.kp.erase = none ∧ t.kp.queue = [] ∧
      t.kp.frames = []) ∧
    (s.kp.powered = false → Completes .commitDomainPowerUp s fun t =>
      t.kp.powered = true ∧ t.kp.stage = 1 ∧ t.gctl.recalling = true ∧ t.kp.flash = s.kp.flash ∧ t.kp.fe0 = s.kp.fe0 ∧
      t.kp.fe1 = s.kp.fe1) ∧
    (∀ (off : BitVec 19) (bs : Bytes), off.toNat % 8 = 0 → bs.length % 8 = 0 → 8 ≤ bs.length → bs.length ≤ 128 →
      (off.toNat + bs.length - 1) / 64 ≤ off.toNat / 64 + 1 → s.kp.queue = [] →
      Completes (.mssFeramRecord off bs) s fun t =>
        t = State.sync 21 { s with kp := { s.kp with queue := [.mss off.toNat bs []] } }) ∧
    (∀ v1 q1 i1 v2 q2 i2, s.keeperUp = true → s.kp.queue = [] → s.kp.cu = none → s.kp.ringTop false 1 = (v1, q1, i1) →
      s.kp.ringTop false 2 = (v2, q2, i2) →
      (Completes .operatingTimeTick s fun t =>
        t.kp = { s.kp with queue := [.mss (ringOff 1 ((i1 + 1) % 16)) (wearSlot (s.ringNow 1 + 1) (q1 + 1)) []] }) ∧
      (Completes .timeFloorTick s fun t =>
        t.kp = { s.kp with queue := [.mss (ringOff 2 ((i2 + 1) % 16)) (wearSlot s.gctl.time.toNat (q2 + 1)) []] })) ∧
    (s.keeperUp = false →
      (Completes .operatingTimeTick s fun t => t = s) ∧ (Completes .timeFloorTick s fun t => t = s) ∧
      ∀ r, Completes (.feramScrub r) s fun t => t = s) ∧
    (∀ r page, s.keeperUp = true → page = s.kp.fePage % 8192 → s.writing page = true → Completes (.feramScrub r) s fun t =>
      t = { s with kp := { s.kp with fePage := (page + 1) % 8192 } }) ∧
    (∀ page, s.keeperUp = true → page = s.kp.fePage % 8192 → s.writing page = false →
      (Completes (.feramScrub .clean) s fun t => t = { s with kp := { s.kp with fePage := (page + 1) % 8192 } }) ∧
      (∀ b, Completes (.feramScrub (.corrected b)) s fun t =>
        t.kp.feCorrected = s.kp.feCorrected + 1 ∧ t.kp.queue = s.kp.queue ++ [.refresh (64 * page) none] ∧
        t.kp.fe0 = s.kp.fe0 ∧ t.kp.fe1 = s.kp.fe1) ∧
      (∀ b g, Completes (.feramScrub (.oneBank b g)) s fun t =>
        t.kp.feRepaired = s.kp.feRepaired + 1 ∧ t.kp.queue = s.kp.queue ++ [.refresh (64 * page) (some (b, g.toNat))])) ∧
    (s.nvmStatus = none → Completes (.flashScrub false) s fun t =>
      t = { s with kp := { s.kp with flSector := (s.kp.flSector % 443 + 1) % 443 } })

/-- Taking commands: with a command at the front of the queue a step is that command on the state with the queue's rest, and on
an empty queue a cycle of the clock passes (the latter is the model's choice, notes/assumptions/2.md): the cycle counter
advances while the core clock runs, a memory table swap asked for takes place at its boundary, and nothing but the clocks changes
else. A command that numbers a unit the device does not have
stops. -/
def Obligations.StepRunsTheFrontCommand : Prop :=
  ∀ (s : State),
    (∀ (c : Instr) (rest : List Instr), s.pending = c :: rest → step s = exec c { s with pending := rest }) ∧
    (s.pending = [] → ∃ t, step s = .next t ∧
      t.gctl.cycle = (if s.coreRuns then s.gctl.cycle + 1 else s.gctl.cycle) ∧
      t = { s with
        gctl := { s.gctl with cycle := t.gctl.cycle, time := t.gctl.time, slew := t.gctl.slew }
        mem := if s.coreRuns then s.mem.settled (s.now + 1) else s.mem
        mss := { s.mss with mcyc := t.mss.mcyc, mdiv := t.mss.mdiv }
        tmp := { s.tmp with aotAcc := t.tmp.aotAcc, aotCount := t.tmp.aotCount } }) ∧
    (∀ c : Instr, c.wf = false → exec c s = .fault .noSuchUnit)

/-- Every command that numbers only units the device has answers a next state, and leaves the commands that wait as they are. -/
def Obligations.EveryCommandAnswers : Prop :=
  ∀ (c : Instr) (s : State), c.wf = true → Completes c s fun t => t.pending = s.pending

/-- R149. No spindle instruction lets what a program computes on reach its sequencer or its cycle count: two states that differ
only in the operand words, the accumulator, the flags, the output latch, the `HALT` status and the secret words of the spindle
differ only in those afterwards, or the job faults in both, in states that differ only so. -/
def Obligations.SpindleScheduleIgnoresData : Prop :=
  ∀ (c : Instr) (sp : BitVec 6) (s s' t t' : State), c.program = some sp → sp.toNat < 40 →
    s.blinded sp.toNat = s'.blinded sp.toNat → exec c s = .next t → exec c s' = .next t' →
    t.blinded sp.toNat = t'.blinded sp.toNat ∨
      ∃ u u' : State, u.blinded sp.toNat = u'.blinded sp.toNat ∧ t = u.faultJob sp.toNat ∧ t' = u'.faultJob sp.toNat

/-- R61. `TIME_SET` with a value at or after the device time sets it; with one earlier by at most 86,400 s the time holds still
for the difference, which the reply reports; with one earlier than that it is refused. The device time never decreases. -/
def Obligations.TimeSetNeverGoesBack : Prop :=
  (∀ (c : Cmd) (s : State) (f : Fetched) (v : Nat), Runs 0x0106 none c s f → v = c.pkt.field 32 4 →
    (s.gctl.time.toNat ≤ v →
      Completes (.timeSet c) s fun t => t.gctl.time.toNat = v ∧ t.gctl.slew = 0 ∧ t.answers c.q f 0 0) ∧
    (v < s.gctl.time.toNat → s.gctl.time.toNat ≤ v + 86400 →
      Completes (.timeSet c) s fun t =>
        t.gctl.time = s.gctl.time ∧ t.gctl.slew.toNat = s.gctl.time.toNat - v ∧
        t.answers c.q f 0 (inlAt 0 (s.gctl.time.toNat - v))) ∧
    (v + 86400 < s.gctl.time.toNat →
      Completes (.timeSet c) s fun t =>
        t.gctl.time = s.gctl.time ∧ t.gctl.slew = s.gctl.slew ∧ t.answers c.q f stBadParameter 0)) ∧
  (∀ s : State, s.pending = [] → s.tmp.aotAcc < 390625 → 390625 ≤ s.tmp.aotAcc + 16 → (s.tmp.aotCount + 1).toNat % 32768 = 0 →
    (s.gctl.slew ≠ 0 → ∃ t, step s = .next t ∧ t.gctl.time = s.gctl.time ∧ t.gctl.slew = s.gctl.slew - 1) ∧
    (s.gctl.slew = 0 → ∃ t, step s = .next t ∧ t.gctl.time = s.gctl.time + 1 ∧ t.gctl.slew = 0))

/-- R130. `JOURNAL_ACK` raises *ack* to its sequence, makes no change for a lower value, and is refused above the highest
sequence written; while EN = 1 writes leave `JRNL_BASE` and DEPTH_LOG2 as they are. -/
def Obligations.JournalAckOnlyRises : Prop :=
  (∀ (c : Cmd) (s : State) (f : Fetched) (v : Nat), Runs 0x0308 none c s f → v = c.pkt.field 32 8 →
    (v ≤ s.ru.jrn.written → s.ru.jrn.ack < v →
      Completes (.journalAck c) s fun t => t.ru = { s.ru with jrn := { s.ru.jrn with ack := v } } ∧ t.answers c.q f 0 0) ∧
    (v ≤ s.ru.jrn.written → v ≤ s.ru.jrn.ack →
      Completes (.journalAck c) s fun t => t.ru = s.ru ∧ t.answers c.q f 0 0) ∧
    (s.ru.jrn.written < v →
      Completes (.journalAck c) s fun t => t.ru = s.ru ∧ t.answers c.q f stBadParameter 0)) ∧
  (∀ (s : State) (v : BitVec 32), s.awake → s.ru.jrn.en = true →
    Completes (.registerWrite 0x5020 4 v) s (fun t => t = s) ∧
    Completes (.registerWrite 0x5024 4 v) s (fun t => t = s) ∧
    Completes (.registerWrite 0x5028 4 v) s (fun t => t.ru.jrn.base = s.ru.jrn.base ∧ t.ru.jrn.depth = s.ru.jrn.depth))

/-- R369. A reset of the MSS, from `PWR_CMD`, from a fault or from `FW_ACTIVATE` op 1, changes nothing in the other planes. It
discards a held challenge, a staging session and the running command; the region counts and the records already taken stay. -/
def Obligations.MssResetStaysInItsPlane : Prop :=
  ∀ (s : State), s.mss.ho = none →
    (s.awake → Completes (.mssReset 0x5A17) s fun t => s.mssReset t ∧ t.kp.frame = s.kp.frame ∧ t.kp.flash = s.kp.flash) ∧
    (s.mss.st = .running →
      Completes .mssWatchdog s fun t => s.mssReset t ∧ t.kp.frame = s.kp.frame ∧ t.kp.flash = s.kp.flash) ∧
    (∀ (c : Cmd) (f : Fetched) (s' : State), Runs 0x0A0E (some 1) c s f → s.nvmStatus = none →
      s.mss.boot.state (bankNo 2 (s.mss.boot.spare 2)) = 1 → s' = s.begun 0x0A0E (some 1) c f →
      Completes (.fwActivateMssReboot c) s fun t => s'.mssReset t ∧ t.mss.update = true)

/-- R253. At the boundary the memory schedule takes the shadow table, unless it gives a slot a code from 5 to 14, gives one of
the owners 1 to 4 no slot, or gives the register engine fewer than 8: then the live table is kept and BAD set. A write of a code
other than 15 for a refresh slot, or of 15 for any other, is ignored. -/
def Obligations.MemoryTableSwapIsChecked : Prop :=
  (∀ (s : State) (bad : Prop), s.mem.swap = true →
    (bad ↔ (∃ j : Fin 64, 5 ≤ s.mem.shadow[j].toNat ∧ s.mem.shadow[j].toNat ≤ 14) ∨
      (∃ o : Nat, 1 ≤ o ∧ o ≤ 4 ∧ ∀ j : Fin 64, s.mem.shadow[j].toNat ≠ o) ∨
      ((List.finRange 64).filter fun j => s.mem.shadow[j].toNat = 0).length < 8) →
    (bad → Completes .memoryTableSwap s fun t => t.mem = { s.mem with swap := false, bad := true }) ∧
    (¬ bad → Completes .memoryTableSwap s fun t =>
      t.mem = { s.mem with live := s.mem.shadow, swap := false, bad := false })) ∧
  (∀ (s : State) (i : Fin 8) (v : BitVec 32), s.awake →
    Completes (.registerWrite (BitVec.ofNat 20 (0xB080 + 4 * i.val)) 4 v) s fun t =>
      t.mem.live = s.mem.live ∧
      ∀ j : Fin 64, t.mem.shadow[j] =
        if j.val / 8 = i.val ∧ (v.extractLsb' (4 * (j.val % 8)) 4 = 15 ↔ j.val % 16 = 15)
        then v.extractLsb' (4 * (j.val % 8)) 4 else s.mem.shadow[j])

/-- R8, R9 and the Reset columns of the register tables: what the registers read at reset, with the memories in canonical form,
the fuses sound and no command waiting. -/
def Obligations.ResetRegistersReadAsStated : Prop :=
  State.reset.memoryInv ∧ State.reset.lifeInv ∧ State.reset.workInv ∧ State.reset.pending = [] ∧ State.reset.posted = [] ∧
  (∀ k, k < 4 → State.reset.regRead (0xB040 + 8 * k) = 0x00200100 ∧ State.reset.regRead (0xB044 + 8 * k) = 0xF4003001 ∧
    State.reset.regRead (0xC040 + 8 * k) = 0x12021202 ∧ State.reset.regRead (0xC044 + 8 * k) = 0x02421232) ∧
  (∀ p ∈ ([(0x0000, 0x77401F3C), (0x0004, 0x000000B1), (0x0014, 0x00000140), (0x0020, 0), (0x0024, 2), (0x0028, 0x00010001),
      (0x0040, 0), (0x0044, 1), (0x1000, 0), (0x1004, 0x7FF), (0x1008, 0), (0x100C, 0), (0x2000, 0), (0x4000, 2), (0x4004, 0),
      (0x4020, 0), (0x5000, 0x0E000000), (0x5004, 0), (0x5028, 0x10)] : List (Nat × BitVec 32)), State.reset.regRead p.1 = p.2) ∧
  (∀ p ∈ ([(0x6000, 0), (0x6004, 0), (0x6008, 0), (0x600C, 0), (0x7000, 0), (0x7004, 0), (0x7008, 0), (0x7010, 0xFF), (0x7024, 0),
      (0x7030, 0), (0x8000, 0), (0x8004, 0), (0x9004, 0), (0x9008, 0), (0x900C, 0)] : List (Nat × BitVec 32)),
    State.reset.regRead p.1 = p.2) ∧
  (∀ p ∈ ([(0xA000, 0), (0xA008, 1), (0xA00C, 0x00100000), (0xA014, 0x80000000), (0xA110, 0), (0xB004, 0), (0xB008, 0x20202020),
      (0xB00C, 0), (0xC000, 8), (0xC010, 1), (0xC018, 100), (0xE000, 0), (0xE00C, 1), (0xE014, 0x95), (0xE018, 0x1818),
      (0xF000, 0x00FAFF2A), (0xF020, 0), (0xF024, 0)] : List (Nat × BitVec 32)), State.reset.regRead p.1 = p.2)

/-- R29, R293, R296, R338. Every step keeps the invariant: the two FeRAM banks and the flash in canonical form (addresses
rising, no cell at the blank value), the fused serial, a count of blown life-cycle fuses that never falls and never passes 5, an
always-on clock within its period, and no spindle program left to run from a command that has ended. -/
def Obligations.EveryStepKeepsTheInvariant : Prop :=
  ∀ (s t : State), s.memoryInv → s.lifeInv → s.workInv → step s = .next t →
    t.memoryInv ∧ t.lifeInv ∧ t.workInv ∧ s.life.count.toNat ≤ t.life.count.toNat

/-- The frame of every command: a command that answers a next state leaves every component of the state that its row does not
change, whatever the state and the operands. A query changes nothing but the reply path, a command of one unit leaves the other
units, and none changes the commands that wait. -/
def Obligations.EveryCommandHasItsFrame : Prop :=
  ∀ (c : Instr) (s t : State), exec c s = .next t → ∀ p : Component, p ∉ mayChange c → s.sameAt t p
end

