-- ==== Sys2Proof/Laws/State.lean ====
section
/-! SUPPORT. What each named update of one component leaves: one lemma for each field it does not touch, each true by
unfolding the update once. -/

namespace Sys2Proof.Machine

@[simp] theorem State.emit_gctl (o : Posted) (s : State) :
    (s.emit o).gctl = s.gctl := rfl
@[simp] theorem State.emit_queues (o : Posted) (s : State) :
    (s.emit o).queues = s.queues := rfl
@[simp] theorem State.emit_epochBase (o : Posted) (s : State) :
    (s.emit o).epochBase = s.epochBase := rfl
@[simp] theorem State.emit_domains (o : Posted) (s : State) :
    (s.emit o).domains = s.domains := rfl
@[simp] theorem State.emit_led (o : Posted) (s : State) :
    (s.emit o).led = s.led := rfl
@[simp] theorem State.emit_ru (o : Posted) (s : State) :
    (s.emit o).ru = s.ru := rfl
@[simp] theorem State.emit_spn (o : Posted) (s : State) :
    (s.emit o).spn = s.spn := rfl
@[simp] theorem State.emit_sl (o : Posted) (s : State) :
    (s.emit o).sl = s.sl := rfl
@[simp] theorem State.emit_dig (o : Posted) (s : State) :
    (s.emit o).dig = s.dig := rfl
@[simp] theorem State.emit_ks (o : Posted) (s : State) :
    (s.emit o).ks = s.ks := rfl
@[simp] theorem State.emit_arb (o : Posted) (s : State) :
    (s.emit o).arb = s.arb := rfl
@[simp] theorem State.emit_mem (o : Posted) (s : State) :
    (s.emit o).mem = s.mem := rfl
@[simp] theorem State.emit_skn (o : Posted) (s : State) :
    (s.emit o).skn = s.skn := rfl
@[simp] theorem State.emit_kp (o : Posted) (s : State) :
    (s.emit o).kp = s.kp := rfl
@[simp] theorem State.emit_tmp (o : Posted) (s : State) :
    (s.emit o).tmp = s.tmp := rfl
@[simp] theorem State.emit_life (o : Posted) (s : State) :
    (s.emit o).life = s.life := rfl
@[simp] theorem State.emit_mss (o : Posted) (s : State) :
    (s.emit o).mss = s.mss := rfl
@[simp] theorem State.emit_card (o : Posted) (s : State) :
    (s.emit o).card = s.card := rfl
@[simp] theorem State.emit_pwr (o : Posted) (s : State) :
    (s.emit o).pwr = s.pwr := rfl
@[simp] theorem State.emit_pending (o : Posted) (s : State) :
    (s.emit o).pending = s.pending := rfl
@[simp] theorem State.drawn_gctl (n : Nat) (s : State) :
    (s.drawn n).gctl = s.gctl := rfl
@[simp] theorem State.drawn_queues (n : Nat) (s : State) :
    (s.drawn n).queues = s.queues := rfl
@[simp] theorem State.drawn_epochBase (n : Nat) (s : State) :
    (s.drawn n).epochBase = s.epochBase := rfl
@[simp] theorem State.drawn_domains (n : Nat) (s : State) :
    (s.drawn n).domains = s.domains := rfl
@[simp] theorem State.drawn_led (n : Nat) (s : State) :
    (s.drawn n).led = s.led := rfl
@[simp] theorem State.drawn_ru (n : Nat) (s : State) :
    (s.drawn n).ru = s.ru := rfl
@[simp] theorem State.drawn_spn (n : Nat) (s : State) :
    (s.drawn n).spn = s.spn := rfl
@[simp] theorem State.drawn_sl (n : Nat) (s : State) :
    (s.drawn n).sl = s.sl := rfl
@[simp] theorem State.drawn_dig (n : Nat) (s : State) :
    (s.drawn n).dig = s.dig := rfl
@[simp] theorem State.drawn_arb (n : Nat) (s : State) :
    (s.drawn n).arb = s.arb := rfl
@[simp] theorem State.drawn_mem (n : Nat) (s : State) :
    (s.drawn n).mem = s.mem := rfl
@[simp] theorem State.drawn_skn (n : Nat) (s : State) :
    (s.drawn n).skn = s.skn := rfl
@[simp] theorem State.drawn_kp (n : Nat) (s : State) :
    (s.drawn n).kp = s.kp := rfl
@[simp] theorem State.drawn_tmp (n : Nat) (s : State) :
    (s.drawn n).tmp = s.tmp := rfl
@[simp] theorem State.drawn_life (n : Nat) (s : State) :
    (s.drawn n).life = s.life := rfl
@[simp] theorem State.drawn_mss (n : Nat) (s : State) :
    (s.drawn n).mss = s.mss := rfl
@[simp] theorem State.drawn_card (n : Nat) (s : State) :
    (s.drawn n).card = s.card := rfl
@[simp] theorem State.drawn_pwr (n : Nat) (s : State) :
    (s.drawn n).pwr = s.pwr := rfl
@[simp] theorem State.drawn_posted (n : Nat) (s : State) :
    (s.drawn n).posted = s.posted := rfl
@[simp] theorem State.drawn_pending (n : Nat) (s : State) :
    (s.drawn n).pending = s.pending := rfl
@[simp] theorem State.hashed_gctl (n : Nat) (s : State) :
    (s.hashed n).gctl = s.gctl := rfl
@[simp] theorem State.hashed_queues (n : Nat) (s : State) :
    (s.hashed n).queues = s.queues := rfl
@[simp] theorem State.hashed_epochBase (n : Nat) (s : State) :
    (s.hashed n).epochBase = s.epochBase := rfl
@[simp] theorem State.hashed_domains (n : Nat) (s : State) :
    (s.hashed n).domains = s.domains := rfl
@[simp] theorem State.hashed_led (n : Nat) (s : State) :
    (s.hashed n).led = s.led := rfl
@[simp] theorem State.hashed_ru (n : Nat) (s : State) :
    (s.hashed n).ru = s.ru := rfl
@[simp] theorem State.hashed_spn (n : Nat) (s : State) :
    (s.hashed n).spn = s.spn := rfl
@[simp] theorem State.hashed_sl (n : Nat) (s : State) :
    (s.hashed n).sl = s.sl := rfl
@[simp] theorem State.hashed_ks (n : Nat) (s : State) :
    (s.hashed n).ks = s.ks := rfl
@[simp] theorem State.hashed_arb (n : Nat) (s : State) :
    (s.hashed n).arb = s.arb := rfl
@[simp] theorem State.hashed_mem (n : Nat) (s : State) :
    (s.hashed n).mem = s.mem := rfl
@[simp] theorem State.hashed_skn (n : Nat) (s : State) :
    (s.hashed n).skn = s.skn := rfl
@[simp] theorem State.hashed_kp (n : Nat) (s : State) :
    (s.hashed n).kp = s.kp := rfl
@[simp] theorem State.hashed_tmp (n : Nat) (s : State) :
    (s.hashed n).tmp = s.tmp := rfl
@[simp] theorem State.hashed_life (n : Nat) (s : State) :
    (s.hashed n).life = s.life := rfl
@[simp] theorem State.hashed_mss (n : Nat) (s : State) :
    (s.hashed n).mss = s.mss := rfl
@[simp] theorem State.hashed_card (n : Nat) (s : State) :
    (s.hashed n).card = s.card := rfl
@[simp] theorem State.hashed_pwr (n : Nat) (s : State) :
    (s.hashed n).pwr = s.pwr := rfl
@[simp] theorem State.hashed_posted (n : Nat) (s : State) :
    (s.hashed n).posted = s.posted := rfl
@[simp] theorem State.hashed_pending (n : Nat) (s : State) :
    (s.hashed n).pending = s.pending := rfl
@[simp] theorem State.setQueue_gctl (q : QId) (x : Queue) (s : State) :
    (s.setQueue q x).gctl = s.gctl := rfl
@[simp] theorem State.setQueue_epochBase (q : QId) (x : Queue) (s : State) :
    (s.setQueue q x).epochBase = s.epochBase := rfl
@[simp] theorem State.setQueue_domains (q : QId) (x : Queue) (s : State) :
    (s.setQueue q x).domains = s.domains := rfl
@[simp] theorem State.setQueue_led (q : QId) (x : Queue) (s : State) :
    (s.setQueue q x).led = s.led := rfl
@[simp] theorem State.setQueue_ru (q : QId) (x : Queue) (s : State) :
    (s.setQueue q x).ru = s.ru := rfl
@[simp] theorem State.setQueue_spn (q : QId) (x : Queue) (s : State) :
    (s.setQueue q x).spn = s.spn := rfl
@[simp] theorem State.setQueue_sl (q : QId) (x : Queue) (s : State) :
    (s.setQueue q x).sl = s.sl := rfl
@[simp] theorem State.setQueue_dig (q : QId) (x : Queue) (s : State) :
    (s.setQueue q x).dig = s.dig := rfl
@[simp] theorem State.setQueue_ks (q : QId) (x : Queue) (s : State) :
    (s.setQueue q x).ks = s.ks := rfl
@[simp] theorem State.setQueue_arb (q : QId) (x : Queue) (s : State) :
    (s.setQueue q x).arb = s.arb := rfl
@[simp] theorem State.setQueue_mem (q : QId) (x : Queue) (s : State) :
    (s.setQueue q x).mem = s.mem := rfl
@[simp] theorem State.setQueue_skn (q : QId) (x : Queue) (s : State) :
    (s.setQueue q x).skn = s.skn := rfl
@[simp] theorem State.setQueue_kp (q : QId) (x : Queue) (s : State) :
    (s.setQueue q x).kp = s.kp := rfl
@[simp] theorem State.setQueue_tmp (q : QId) (x : Queue) (s : State) :
    (s.setQueue q x).tmp = s.tmp := rfl
@[simp] theorem State.setQueue_life (q : QId) (x : Queue) (s : State) :
    (s.setQueue q x).life = s.life := rfl
@[simp] theorem State.setQueue_mss (q : QId) (x : Queue) (s : State) :
    (s.setQueue q x).mss = s.mss := rfl
@[simp] theorem State.setQueue_card (q : QId) (x : Queue) (s : State) :
    (s.setQueue q x).card = s.card := rfl
@[simp] theorem State.setQueue_pwr (q : QId) (x : Queue) (s : State) :
    (s.setQueue q x).pwr = s.pwr := rfl
@[simp] theorem State.setQueue_posted (q : QId) (x : Queue) (s : State) :
    (s.setQueue q x).posted = s.posted := rfl
@[simp] theorem State.setQueue_pending (q : QId) (x : Queue) (s : State) :
    (s.setQueue q x).pending = s.pending := rfl
@[simp] theorem State.setSpindle_gctl (n : Nat) (p : Spindle) (s : State) :
    (s.setSpindle n p).gctl = s.gctl := rfl
@[simp] theorem State.setSpindle_queues (n : Nat) (p : Spindle) (s : State) :
    (s.setSpindle n p).queues = s.queues := rfl
@[simp] theorem State.setSpindle_epochBase (n : Nat) (p : Spindle) (s : State) :
    (s.setSpindle n p).epochBase = s.epochBase := rfl
@[simp] theorem State.setSpindle_domains (n : Nat) (p : Spindle) (s : State) :
    (s.setSpindle n p).domains = s.domains := rfl
@[simp] theorem State.setSpindle_led (n : Nat) (p : Spindle) (s : State) :
    (s.setSpindle n p).led = s.led := rfl
@[simp] theorem State.setSpindle_ru (n : Nat) (p : Spindle) (s : State) :
    (s.setSpindle n p).ru = s.ru := rfl
@[simp] theorem State.setSpindle_sl (n : Nat) (p : Spindle) (s : State) :
    (s.setSpindle n p).sl = s.sl := rfl
@[simp] theorem State.setSpindle_dig (n : Nat) (p : Spindle) (s : State) :
    (s.setSpindle n p).dig = s.dig := rfl
@[simp] theorem State.setSpindle_ks (n : Nat) (p : Spindle) (s : State) :
    (s.setSpindle n p).ks = s.ks := rfl
@[simp] theorem State.setSpindle_arb (n : Nat) (p : Spindle) (s : State) :
    (s.setSpindle n p).arb = s.arb := rfl
@[simp] theorem State.setSpindle_mem (n : Nat) (p : Spindle) (s : State) :
    (s.setSpindle n p).mem = s.mem := rfl
@[simp] theorem State.setSpindle_skn (n : Nat) (p : Spindle) (s : State) :
    (s.setSpindle n p).skn = s.skn := rfl
@[simp] theorem State.setSpindle_kp (n : Nat) (p : Spindle) (s : State) :
    (s.setSpindle n p).kp = s.kp := rfl
@[simp] theorem State.setSpindle_tmp (n : Nat) (p : Spindle) (s : State) :
    (s.setSpindle n p).tmp = s.tmp := rfl
@[simp] theorem State.setSpindle_life (n : Nat) (p : Spindle) (s : State) :
    (s.setSpindle n p).life = s.life := rfl
@[simp] theorem State.setSpindle_mss (n : Nat) (p : Spindle) (s : State) :
    (s.setSpindle n p).mss = s.mss := rfl
@[simp] theorem State.setSpindle_card (n : Nat) (p : Spindle) (s : State) :
    (s.setSpindle n p).card = s.card := rfl
@[simp] theorem State.setSpindle_pwr (n : Nat) (p : Spindle) (s : State) :
    (s.setSpindle n p).pwr = s.pwr := rfl
@[simp] theorem State.setSpindle_posted (n : Nat) (p : Spindle) (s : State) :
    (s.setSpindle n p).posted = s.posted := rfl
@[simp] theorem State.setSpindle_pending (n : Nat) (p : Spindle) (s : State) :
    (s.setSpindle n p).pending = s.pending := rfl
@[simp] theorem State.pledge_gctl (n : Nat) (s : State) :
    (s.pledge n).gctl = s.gctl := rfl
@[simp] theorem State.pledge_queues (n : Nat) (s : State) :
    (s.pledge n).queues = s.queues := rfl
@[simp] theorem State.pledge_epochBase (n : Nat) (s : State) :
    (s.pledge n).epochBase = s.epochBase := rfl
@[simp] theorem State.pledge_domains (n : Nat) (s : State) :
    (s.pledge n).domains = s.domains := rfl
@[simp] theorem State.pledge_led (n : Nat) (s : State) :
    (s.pledge n).led = s.led := rfl
@[simp] theorem State.pledge_spn (n : Nat) (s : State) :
    (s.pledge n).spn = s.spn := rfl
@[simp] theorem State.pledge_sl (n : Nat) (s : State) :
    (s.pledge n).sl = s.sl := rfl
@[simp] theorem State.pledge_dig (n : Nat) (s : State) :
    (s.pledge n).dig = s.dig := rfl
@[simp] theorem State.pledge_ks (n : Nat) (s : State) :
    (s.pledge n).ks = s.ks := rfl
@[simp] theorem State.pledge_arb (n : Nat) (s : State) :
    (s.pledge n).arb = s.arb := rfl
@[simp] theorem State.pledge_mem (n : Nat) (s : State) :
    (s.pledge n).mem = s.mem := rfl
@[simp] theorem State.pledge_skn (n : Nat) (s : State) :
    (s.pledge n).skn = s.skn := rfl
@[simp] theorem State.pledge_kp (n : Nat) (s : State) :
    (s.pledge n).kp = s.kp := rfl
@[simp] theorem State.pledge_tmp (n : Nat) (s : State) :
    (s.pledge n).tmp = s.tmp := rfl
@[simp] theorem State.pledge_life (n : Nat) (s : State) :
    (s.pledge n).life = s.life := rfl
@[simp] theorem State.pledge_mss (n : Nat) (s : State) :
    (s.pledge n).mss = s.mss := rfl
@[simp] theorem State.pledge_card (n : Nat) (s : State) :
    (s.pledge n).card = s.card := rfl
@[simp] theorem State.pledge_pwr (n : Nat) (s : State) :
    (s.pledge n).pwr = s.pwr := rfl
@[simp] theorem State.pledge_posted (n : Nat) (s : State) :
    (s.pledge n).posted = s.posted := rfl
@[simp] theorem State.pledge_pending (n : Nat) (s : State) :
    (s.pledge n).pending = s.pending := rfl
@[simp] theorem State.unpledge_gctl (n : Nat) (s : State) :
    (s.unpledge n).gctl = s.gctl := rfl
@[simp] theorem State.unpledge_queues (n : Nat) (s : State) :
    (s.unpledge n).queues = s.queues := rfl
@[simp] theorem State.unpledge_epochBase (n : Nat) (s : State) :
    (s.unpledge n).epochBase = s.epochBase := rfl
@[simp] theorem State.unpledge_domains (n : Nat) (s : State) :
    (s.unpledge n).domains = s.domains := rfl
@[simp] theorem State.unpledge_led (n : Nat) (s : State) :
    (s.unpledge n).led = s.led := rfl
@[simp] theorem State.unpledge_spn (n : Nat) (s : State) :
    (s.unpledge n).spn = s.spn := rfl
@[simp] theorem State.unpledge_sl (n : Nat) (s : State) :
    (s.unpledge n).sl = s.sl := rfl
@[simp] theorem State.unpledge_dig (n : Nat) (s : State) :
    (s.unpledge n).dig = s.dig := rfl
@[simp] theorem State.unpledge_ks (n : Nat) (s : State) :
    (s.unpledge n).ks = s.ks := rfl
@[simp] theorem State.unpledge_arb (n : Nat) (s : State) :
    (s.unpledge n).arb = s.arb := rfl
@[simp] theorem State.unpledge_mem (n : Nat) (s : State) :
    (s.unpledge n).mem = s.mem := rfl
@[simp] theorem State.unpledge_skn (n : Nat) (s : State) :
    (s.unpledge n).skn = s.skn := rfl
@[simp] theorem State.unpledge_kp (n : Nat) (s : State) :
    (s.unpledge n).kp = s.kp := rfl
@[simp] theorem State.unpledge_tmp (n : Nat) (s : State) :
    (s.unpledge n).tmp = s.tmp := rfl
@[simp] theorem State.unpledge_life (n : Nat) (s : State) :
    (s.unpledge n).life = s.life := rfl
@[simp] theorem State.unpledge_mss (n : Nat) (s : State) :
    (s.unpledge n).mss = s.mss := rfl
@[simp] theorem State.unpledge_card (n : Nat) (s : State) :
    (s.unpledge n).card = s.card := rfl
@[simp] theorem State.unpledge_pwr (n : Nat) (s : State) :
    (s.unpledge n).pwr = s.pwr := rfl
@[simp] theorem State.unpledge_posted (n : Nat) (s : State) :
    (s.unpledge n).posted = s.posted := rfl
@[simp] theorem State.unpledge_pending (n : Nat) (s : State) :
    (s.unpledge n).pending = s.pending := rfl
@[simp] theorem State.groupChange_gctl (s : State) :
    s.groupChange.gctl = s.gctl := rfl
@[simp] theorem State.groupChange_queues (s : State) :
    s.groupChange.queues = s.queues := rfl
@[simp] theorem State.groupChange_epochBase (s : State) :
    s.groupChange.epochBase = s.epochBase := rfl
@[simp] theorem State.groupChange_domains (s : State) :
    s.groupChange.domains = s.domains := rfl
@[simp] theorem State.groupChange_ru (s : State) :
    s.groupChange.ru = s.ru := rfl
@[simp] theorem State.groupChange_spn (s : State) :
    s.groupChange.spn = s.spn := rfl
@[simp] theorem State.groupChange_sl (s : State) :
    s.groupChange.sl = s.sl := rfl
@[simp] theorem State.groupChange_dig (s : State) :
    s.groupChange.dig = s.dig := rfl
@[simp] theorem State.groupChange_ks (s : State) :
    s.groupChange.ks = s.ks := rfl
@[simp] theorem State.groupChange_arb (s : State) :
    s.groupChange.arb = s.arb := rfl
@[simp] theorem State.groupChange_mem (s : State) :
    s.groupChange.mem = s.mem := rfl
@[simp] theorem State.groupChange_skn (s : State) :
    s.groupChange.skn = s.skn := rfl
@[simp] theorem State.groupChange_kp (s : State) :
    s.groupChange.kp = s.kp := rfl
@[simp] theorem State.groupChange_tmp (s : State) :
    s.groupChange.tmp = s.tmp := rfl
@[simp] theorem State.groupChange_life (s : State) :
    s.groupChange.life = s.life := rfl
@[simp] theorem State.groupChange_mss (s : State) :
    s.groupChange.mss = s.mss := rfl
@[simp] theorem State.groupChange_card (s : State) :
    s.groupChange.card = s.card := rfl
@[simp] theorem State.groupChange_pwr (s : State) :
    s.groupChange.pwr = s.pwr := rfl
@[simp] theorem State.groupChange_posted (s : State) :
    s.groupChange.posted = s.posted := rfl
@[simp] theorem State.groupChange_pending (s : State) :
    s.groupChange.pending = s.pending := rfl
@[simp] theorem State.groupMark_gctl (s : State) :
    s.groupMark.gctl = s.gctl := rfl
@[simp] theorem State.groupMark_queues (s : State) :
    s.groupMark.queues = s.queues := rfl
@[simp] theorem State.groupMark_epochBase (s : State) :
    s.groupMark.epochBase = s.epochBase := rfl
@[simp] theorem State.groupMark_domains (s : State) :
    s.groupMark.domains = s.domains := rfl
@[simp] theorem State.groupMark_ru (s : State) :
    s.groupMark.ru = s.ru := rfl
@[simp] theorem State.groupMark_spn (s : State) :
    s.groupMark.spn = s.spn := rfl
@[simp] theorem State.groupMark_sl (s : State) :
    s.groupMark.sl = s.sl := rfl
@[simp] theorem State.groupMark_dig (s : State) :
    s.groupMark.dig = s.dig := rfl
@[simp] theorem State.groupMark_ks (s : State) :
    s.groupMark.ks = s.ks := rfl
@[simp] theorem State.groupMark_arb (s : State) :
    s.groupMark.arb = s.arb := rfl
@[simp] theorem State.groupMark_mem (s : State) :
    s.groupMark.mem = s.mem := rfl
@[simp] theorem State.groupMark_skn (s : State) :
    s.groupMark.skn = s.skn := rfl
@[simp] theorem State.groupMark_kp (s : State) :
    s.groupMark.kp = s.kp := rfl
@[simp] theorem State.groupMark_tmp (s : State) :
    s.groupMark.tmp = s.tmp := rfl
@[simp] theorem State.groupMark_life (s : State) :
    s.groupMark.life = s.life := rfl
@[simp] theorem State.groupMark_mss (s : State) :
    s.groupMark.mss = s.mss := rfl
@[simp] theorem State.groupMark_card (s : State) :
    s.groupMark.card = s.card := rfl
@[simp] theorem State.groupMark_pwr (s : State) :
    s.groupMark.pwr = s.pwr := rfl
@[simp] theorem State.groupMark_posted (s : State) :
    s.groupMark.posted = s.posted := rfl
@[simp] theorem State.groupMark_pending (s : State) :
    s.groupMark.pending = s.pending := rfl
@[simp] theorem State.afterGroup_gctl (a : List After) (s : State) :
    (s.afterGroup a).gctl = s.gctl := rfl
@[simp] theorem State.afterGroup_queues (a : List After) (s : State) :
    (s.afterGroup a).queues = s.queues := rfl
@[simp] theorem State.afterGroup_epochBase (a : List After) (s : State) :
    (s.afterGroup a).epochBase = s.epochBase := rfl
@[simp] theorem State.afterGroup_domains (a : List After) (s : State) :
    (s.afterGroup a).domains = s.domains := rfl
@[simp] theorem State.afterGroup_ru (a : List After) (s : State) :
    (s.afterGroup a).ru = s.ru := rfl
@[simp] theorem State.afterGroup_spn (a : List After) (s : State) :
    (s.afterGroup a).spn = s.spn := rfl
@[simp] theorem State.afterGroup_sl (a : List After) (s : State) :
    (s.afterGroup a).sl = s.sl := rfl
@[simp] theorem State.afterGroup_dig (a : List After) (s : State) :
    (s.afterGroup a).dig = s.dig := rfl
@[simp] theorem State.afterGroup_ks (a : List After) (s : State) :
    (s.afterGroup a).ks = s.ks := rfl
@[simp] theorem State.afterGroup_arb (a : List After) (s : State) :
    (s.afterGroup a).arb = s.arb := rfl
@[simp] theorem State.afterGroup_mem (a : List After) (s : State) :
    (s.afterGroup a).mem = s.mem := rfl
@[simp] theorem State.afterGroup_skn (a : List After) (s : State) :
    (s.afterGroup a).skn = s.skn := rfl
@[simp] theorem State.afterGroup_kp (a : List After) (s : State) :
    (s.afterGroup a).kp = s.kp := rfl
@[simp] theorem State.afterGroup_tmp (a : List After) (s : State) :
    (s.afterGroup a).tmp = s.tmp := rfl
@[simp] theorem State.afterGroup_life (a : List After) (s : State) :
    (s.afterGroup a).life = s.life := rfl
@[simp] theorem State.afterGroup_mss (a : List After) (s : State) :
    (s.afterGroup a).mss = s.mss := rfl
@[simp] theorem State.afterGroup_card (a : List After) (s : State) :
    (s.afterGroup a).card = s.card := rfl
@[simp] theorem State.afterGroup_pwr (a : List After) (s : State) :
    (s.afterGroup a).pwr = s.pwr := rfl
@[simp] theorem State.afterGroup_posted (a : List After) (s : State) :
    (s.afterGroup a).posted = s.posted := rfl
@[simp] theorem State.afterGroup_pending (a : List After) (s : State) :
    (s.afterGroup a).pending = s.pending := rfl
@[simp] theorem State.countRefused_gctl (s : State) :
    s.countRefused.gctl = s.gctl := rfl
@[simp] theorem State.countRefused_queues (s : State) :
    s.countRefused.queues = s.queues := rfl
@[simp] theorem State.countRefused_epochBase (s : State) :
    s.countRefused.epochBase = s.epochBase := rfl
@[simp] theorem State.countRefused_domains (s : State) :
    s.countRefused.domains = s.domains := rfl
@[simp] theorem State.countRefused_ru (s : State) :
    s.countRefused.ru = s.ru := rfl
@[simp] theorem State.countRefused_spn (s : State) :
    s.countRefused.spn = s.spn := rfl
@[simp] theorem State.countRefused_sl (s : State) :
    s.countRefused.sl = s.sl := rfl
@[simp] theorem State.countRefused_dig (s : State) :
    s.countRefused.dig = s.dig := rfl
@[simp] theorem State.countRefused_ks (s : State) :
    s.countRefused.ks = s.ks := rfl
@[simp] theorem State.countRefused_arb (s : State) :
    s.countRefused.arb = s.arb := rfl
@[simp] theorem State.countRefused_mem (s : State) :
    s.countRefused.mem = s.mem := rfl
@[simp] theorem State.countRefused_skn (s : State) :
    s.countRefused.skn = s.skn := rfl
@[simp] theorem State.countRefused_kp (s : State) :
    s.countRefused.kp = s.kp := rfl
@[simp] theorem State.countRefused_tmp (s : State) :
    s.countRefused.tmp = s.tmp := rfl
@[simp] theorem State.countRefused_life (s : State) :
    s.countRefused.life = s.life := rfl
@[simp] theorem State.countRefused_mss (s : State) :
    s.countRefused.mss = s.mss := rfl
@[simp] theorem State.countRefused_card (s : State) :
    s.countRefused.card = s.card := rfl
@[simp] theorem State.countRefused_pwr (s : State) :
    s.countRefused.pwr = s.pwr := rfl
@[simp] theorem State.countRefused_posted (s : State) :
    s.countRefused.posted = s.posted := rfl
@[simp] theorem State.countRefused_pending (s : State) :
    s.countRefused.pending = s.pending := rfl
@[simp] theorem State.putPool_gctl (n : PoolId) (p : Pool) (s : State) :
    (s.putPool n p).gctl = s.gctl := rfl
@[simp] theorem State.putPool_queues (n : PoolId) (p : Pool) (s : State) :
    (s.putPool n p).queues = s.queues := rfl
@[simp] theorem State.putPool_epochBase (n : PoolId) (p : Pool) (s : State) :
    (s.putPool n p).epochBase = s.epochBase := rfl
@[simp] theorem State.putPool_domains (n : PoolId) (p : Pool) (s : State) :
    (s.putPool n p).domains = s.domains := rfl
@[simp] theorem State.putPool_ru (n : PoolId) (p : Pool) (s : State) :
    (s.putPool n p).ru = s.ru := rfl
@[simp] theorem State.putPool_spn (n : PoolId) (p : Pool) (s : State) :
    (s.putPool n p).spn = s.spn := rfl
@[simp] theorem State.putPool_sl (n : PoolId) (p : Pool) (s : State) :
    (s.putPool n p).sl = s.sl := rfl
@[simp] theorem State.putPool_dig (n : PoolId) (p : Pool) (s : State) :
    (s.putPool n p).dig = s.dig := rfl
@[simp] theorem State.putPool_ks (n : PoolId) (p : Pool) (s : State) :
    (s.putPool n p).ks = s.ks := rfl
@[simp] theorem State.putPool_arb (n : PoolId) (p : Pool) (s : State) :
    (s.putPool n p).arb = s.arb := rfl
@[simp] theorem State.putPool_mem (n : PoolId) (p : Pool) (s : State) :
    (s.putPool n p).mem = s.mem := rfl
@[simp] theorem State.putPool_skn (n : PoolId) (p : Pool) (s : State) :
    (s.putPool n p).skn = s.skn := rfl
@[simp] theorem State.putPool_kp (n : PoolId) (p : Pool) (s : State) :
    (s.putPool n p).kp = s.kp := rfl
@[simp] theorem State.putPool_tmp (n : PoolId) (p : Pool) (s : State) :
    (s.putPool n p).tmp = s.tmp := rfl
@[simp] theorem State.putPool_life (n : PoolId) (p : Pool) (s : State) :
    (s.putPool n p).life = s.life := rfl
@[simp] theorem State.putPool_mss (n : PoolId) (p : Pool) (s : State) :
    (s.putPool n p).mss = s.mss := rfl
@[simp] theorem State.putPool_card (n : PoolId) (p : Pool) (s : State) :
    (s.putPool n p).card = s.card := rfl
@[simp] theorem State.putPool_pwr (n : PoolId) (p : Pool) (s : State) :
    (s.putPool n p).pwr = s.pwr := rfl
@[simp] theorem State.putPool_posted (n : PoolId) (p : Pool) (s : State) :
    (s.putPool n p).posted = s.posted := rfl
@[simp] theorem State.putPool_pending (n : PoolId) (p : Pool) (s : State) :
    (s.putPool n p).pending = s.pending := rfl
@[simp] theorem State.setTransfer_gctl (row : Nat) (t : Transfer) (s : State) :
    (s.setTransfer row t).gctl = s.gctl := rfl
@[simp] theorem State.setTransfer_queues (row : Nat) (t : Transfer) (s : State) :
    (s.setTransfer row t).queues = s.queues := rfl
@[simp] theorem State.setTransfer_epochBase (row : Nat) (t : Transfer) (s : State) :
    (s.setTransfer row t).epochBase = s.epochBase := rfl
@[simp] theorem State.setTransfer_domains (row : Nat) (t : Transfer) (s : State) :
    (s.setTransfer row t).domains = s.domains := rfl
@[simp] theorem State.setTransfer_led (row : Nat) (t : Transfer) (s : State) :
    (s.setTransfer row t).led = s.led := rfl
@[simp] theorem State.setTransfer_ru (row : Nat) (t : Transfer) (s : State) :
    (s.setTransfer row t).ru = s.ru := rfl
@[simp] theorem State.setTransfer_spn (row : Nat) (t : Transfer) (s : State) :
    (s.setTransfer row t).spn = s.spn := rfl
@[simp] theorem State.setTransfer_sl (row : Nat) (t : Transfer) (s : State) :
    (s.setTransfer row t).sl = s.sl := rfl
@[simp] theorem State.setTransfer_dig (row : Nat) (t : Transfer) (s : State) :
    (s.setTransfer row t).dig = s.dig := rfl
@[simp] theorem State.setTransfer_ks (row : Nat) (t : Transfer) (s : State) :
    (s.setTransfer row t).ks = s.ks := rfl
@[simp] theorem State.setTransfer_arb (row : Nat) (t : Transfer) (s : State) :
    (s.setTransfer row t).arb = s.arb := rfl
@[simp] theorem State.setTransfer_mem (row : Nat) (t : Transfer) (s : State) :
    (s.setTransfer row t).mem = s.mem := rfl
@[simp] theorem State.setTransfer_kp (row : Nat) (t : Transfer) (s : State) :
    (s.setTransfer row t).kp = s.kp := rfl
@[simp] theorem State.setTransfer_tmp (row : Nat) (t : Transfer) (s : State) :
    (s.setTransfer row t).tmp = s.tmp := rfl
@[simp] theorem State.setTransfer_life (row : Nat) (t : Transfer) (s : State) :
    (s.setTransfer row t).life = s.life := rfl
@[simp] theorem State.setTransfer_mss (row : Nat) (t : Transfer) (s : State) :
    (s.setTransfer row t).mss = s.mss := rfl
@[simp] theorem State.setTransfer_card (row : Nat) (t : Transfer) (s : State) :
    (s.setTransfer row t).card = s.card := rfl
@[simp] theorem State.setTransfer_pwr (row : Nat) (t : Transfer) (s : State) :
    (s.setTransfer row t).pwr = s.pwr := rfl
@[simp] theorem State.setTransfer_posted (row : Nat) (t : Transfer) (s : State) :
    (s.setTransfer row t).posted = s.posted := rfl
@[simp] theorem State.setTransfer_pending (row : Nat) (t : Transfer) (s : State) :
    (s.setTransfer row t).pending = s.pending := rfl
@[simp] theorem State.freeTransfer_gctl (row : Nat) (s : State) :
    (s.freeTransfer row).gctl = s.gctl := rfl
@[simp] theorem State.freeTransfer_queues (row : Nat) (s : State) :
    (s.freeTransfer row).queues = s.queues := rfl
@[simp] theorem State.freeTransfer_epochBase (row : Nat) (s : State) :
    (s.freeTransfer row).epochBase = s.epochBase := rfl
@[simp] theorem State.freeTransfer_domains (row : Nat) (s : State) :
    (s.freeTransfer row).domains = s.domains := rfl
@[simp] theorem State.freeTransfer_led (row : Nat) (s : State) :
    (s.freeTransfer row).led = s.led := rfl
@[simp] theorem State.freeTransfer_ru (row : Nat) (s : State) :
    (s.freeTransfer row).ru = s.ru := rfl
@[simp] theorem State.freeTransfer_spn (row : Nat) (s : State) :
    (s.freeTransfer row).spn = s.spn := rfl
@[simp] theorem State.freeTransfer_sl (row : Nat) (s : State) :
    (s.freeTransfer row).sl = s.sl := rfl
@[simp] theorem State.freeTransfer_dig (row : Nat) (s : State) :
    (s.freeTransfer row).dig = s.dig := rfl
@[simp] theorem State.freeTransfer_ks (row : Nat) (s : State) :
    (s.freeTransfer row).ks = s.ks := rfl
@[simp] theorem State.freeTransfer_arb (row : Nat) (s : State) :
    (s.freeTransfer row).arb = s.arb := rfl
@[simp] theorem State.freeTransfer_mem (row : Nat) (s : State) :
    (s.freeTransfer row).mem = s.mem := rfl
@[simp] theorem State.freeTransfer_kp (row : Nat) (s : State) :
    (s.freeTransfer row).kp = s.kp := rfl
@[simp] theorem State.freeTransfer_tmp (row : Nat) (s : State) :
    (s.freeTransfer row).tmp = s.tmp := rfl
@[simp] theorem State.freeTransfer_life (row : Nat) (s : State) :
    (s.freeTransfer row).life = s.life := rfl
@[simp] theorem State.freeTransfer_mss (row : Nat) (s : State) :
    (s.freeTransfer row).mss = s.mss := rfl
@[simp] theorem State.freeTransfer_card (row : Nat) (s : State) :
    (s.freeTransfer row).card = s.card := rfl
@[simp] theorem State.freeTransfer_pwr (row : Nat) (s : State) :
    (s.freeTransfer row).pwr = s.pwr := rfl
@[simp] theorem State.freeTransfer_posted (row : Nat) (s : State) :
    (s.freeTransfer row).posted = s.posted := rfl
@[simp] theorem State.freeTransfer_pending (row : Nat) (s : State) :
    (s.freeTransfer row).pending = s.pending := rfl
@[simp] theorem State.setFetched_gctl (q : QId) (f : Fetched) (s : State) :
    (s.setFetched q f).gctl = s.gctl := rfl
@[simp] theorem State.setFetched_epochBase (q : QId) (f : Fetched) (s : State) :
    (s.setFetched q f).epochBase = s.epochBase := rfl
@[simp] theorem State.setFetched_domains (q : QId) (f : Fetched) (s : State) :
    (s.setFetched q f).domains = s.domains := rfl
@[simp] theorem State.setFetched_led (q : QId) (f : Fetched) (s : State) :
    (s.setFetched q f).led = s.led := rfl
@[simp] theorem State.setFetched_ru (q : QId) (f : Fetched) (s : State) :
    (s.setFetched q f).ru = s.ru := rfl
@[simp] theorem State.setFetched_spn (q : QId) (f : Fetched) (s : State) :
    (s.setFetched q f).spn = s.spn := rfl
@[simp] theorem State.setFetched_sl (q : QId) (f : Fetched) (s : State) :
    (s.setFetched q f).sl = s.sl := rfl
@[simp] theorem State.setFetched_dig (q : QId) (f : Fetched) (s : State) :
    (s.setFetched q f).dig = s.dig := rfl
@[simp] theorem State.setFetched_ks (q : QId) (f : Fetched) (s : State) :
    (s.setFetched q f).ks = s.ks := rfl
@[simp] theorem State.setFetched_arb (q : QId) (f : Fetched) (s : State) :
    (s.setFetched q f).arb = s.arb := rfl
@[simp] theorem State.setFetched_mem (q : QId) (f : Fetched) (s : State) :
    (s.setFetched q f).mem = s.mem := rfl
@[simp] theorem State.setFetched_skn (q : QId) (f : Fetched) (s : State) :
    (s.setFetched q f).skn = s.skn := rfl
@[simp] theorem State.setFetched_kp (q : QId) (f : Fetched) (s : State) :
    (s.setFetched q f).kp = s.kp := rfl
@[simp] theorem State.setFetched_tmp (q : QId) (f : Fetched) (s : State) :
    (s.setFetched q f).tmp = s.tmp := rfl
@[simp] theorem State.setFetched_life (q : QId) (f : Fetched) (s : State) :
    (s.setFetched q f).life = s.life := rfl
@[simp] theorem State.setFetched_mss (q : QId) (f : Fetched) (s : State) :
    (s.setFetched q f).mss = s.mss := rfl
@[simp] theorem State.setFetched_card (q : QId) (f : Fetched) (s : State) :
    (s.setFetched q f).card = s.card := rfl
@[simp] theorem State.setFetched_pwr (q : QId) (f : Fetched) (s : State) :
    (s.setFetched q f).pwr = s.pwr := rfl
@[simp] theorem State.setFetched_posted (q : QId) (f : Fetched) (s : State) :
    (s.setFetched q f).posted = s.posted := rfl
@[simp] theorem State.setFetched_pending (q : QId) (f : Fetched) (s : State) :
    (s.setFetched q f).pending = s.pending := rfl
@[simp] theorem State.land_epochBase (q : QId) (p : Packet) (s : State) :
    (s.land q p).epochBase = s.epochBase := rfl
@[simp] theorem State.land_domains (q : QId) (p : Packet) (s : State) :
    (s.land q p).domains = s.domains := rfl
@[simp] theorem State.land_led (q : QId) (p : Packet) (s : State) :
    (s.land q p).led = s.led := rfl
@[simp] theorem State.land_ru (q : QId) (p : Packet) (s : State) :
    (s.land q p).ru = s.ru := rfl
@[simp] theorem State.land_spn (q : QId) (p : Packet) (s : State) :
    (s.land q p).spn = s.spn := rfl
@[simp] theorem State.land_sl (q : QId) (p : Packet) (s : State) :
    (s.land q p).sl = s.sl := rfl
@[simp] theorem State.land_dig (q : QId) (p : Packet) (s : State) :
    (s.land q p).dig = s.dig := rfl
@[simp] theorem State.land_ks (q : QId) (p : Packet) (s : State) :
    (s.land q p).ks = s.ks := rfl
@[simp] theorem State.land_arb (q : QId) (p : Packet) (s : State) :
    (s.land q p).arb = s.arb := rfl
@[simp] theorem State.land_mem (q : QId) (p : Packet) (s : State) :
    (s.land q p).mem = s.mem := rfl
@[simp] theorem State.land_skn (q : QId) (p : Packet) (s : State) :
    (s.land q p).skn = s.skn := rfl
@[simp] theorem State.land_kp (q : QId) (p : Packet) (s : State) :
    (s.land q p).kp = s.kp := rfl
@[simp] theorem State.land_tmp (q : QId) (p : Packet) (s : State) :
    (s.land q p).tmp = s.tmp := rfl
@[simp] theorem State.land_life (q : QId) (p : Packet) (s : State) :
    (s.land q p).life = s.life := rfl
@[simp] theorem State.land_mss (q : QId) (p : Packet) (s : State) :
    (s.land q p).mss = s.mss := rfl
@[simp] theorem State.land_card (q : QId) (p : Packet) (s : State) :
    (s.land q p).card = s.card := rfl
@[simp] theorem State.land_pwr (q : QId) (p : Packet) (s : State) :
    (s.land q p).pwr = s.pwr := rfl
@[simp] theorem State.land_posted (q : QId) (p : Packet) (s : State) :
    (s.land q p).posted = s.posted := rfl
@[simp] theorem State.land_pending (q : QId) (p : Packet) (s : State) :
    (s.land q p).pending = s.pending := rfl
@[simp] theorem State.setDig_gctl (n : Nat) (k : DigCtx) (s : State) :
    (s.setDig n k).gctl = s.gctl := rfl
@[simp] theorem State.setDig_queues (n : Nat) (k : DigCtx) (s : State) :
    (s.setDig n k).queues = s.queues := rfl
@[simp] theorem State.setDig_epochBase (n : Nat) (k : DigCtx) (s : State) :
    (s.setDig n k).epochBase = s.epochBase := rfl
@[simp] theorem State.setDig_domains (n : Nat) (k : DigCtx) (s : State) :
    (s.setDig n k).domains = s.domains := rfl
@[simp] theorem State.setDig_led (n : Nat) (k : DigCtx) (s : State) :
    (s.setDig n k).led = s.led := rfl
@[simp] theorem State.setDig_ru (n : Nat) (k : DigCtx) (s : State) :
    (s.setDig n k).ru = s.ru := rfl
@[simp] theorem State.setDig_spn (n : Nat) (k : DigCtx) (s : State) :
    (s.setDig n k).spn = s.spn := rfl
@[simp] theorem State.setDig_sl (n : Nat) (k : DigCtx) (s : State) :
    (s.setDig n k).sl = s.sl := rfl
@[simp] theorem State.setDig_ks (n : Nat) (k : DigCtx) (s : State) :
    (s.setDig n k).ks = s.ks := rfl
@[simp] theorem State.setDig_arb (n : Nat) (k : DigCtx) (s : State) :
    (s.setDig n k).arb = s.arb := rfl
@[simp] theorem State.setDig_mem (n : Nat) (k : DigCtx) (s : State) :
    (s.setDig n k).mem = s.mem := rfl
@[simp] theorem State.setDig_skn (n : Nat) (k : DigCtx) (s : State) :
    (s.setDig n k).skn = s.skn := rfl
@[simp] theorem State.setDig_kp (n : Nat) (k : DigCtx) (s : State) :
    (s.setDig n k).kp = s.kp := rfl
@[simp] theorem State.setDig_tmp (n : Nat) (k : DigCtx) (s : State) :
    (s.setDig n k).tmp = s.tmp := rfl
@[simp] theorem State.setDig_life (n : Nat) (k : DigCtx) (s : State) :
    (s.setDig n k).life = s.life := rfl
@[simp] theorem State.setDig_mss (n : Nat) (k : DigCtx) (s : State) :
    (s.setDig n k).mss = s.mss := rfl
@[simp] theorem State.setDig_card (n : Nat) (k : DigCtx) (s : State) :
    (s.setDig n k).card = s.card := rfl
@[simp] theorem State.setDig_pwr (n : Nat) (k : DigCtx) (s : State) :
    (s.setDig n k).pwr = s.pwr := rfl
@[simp] theorem State.setDig_posted (n : Nat) (k : DigCtx) (s : State) :
    (s.setDig n k).posted = s.posted := rfl
@[simp] theorem State.setDig_pending (n : Nat) (k : DigCtx) (s : State) :
    (s.setDig n k).pending = s.pending := rfl
@[simp] theorem State.setCard_gctl (k : CardUnit) (s : State) :
    (s.setCard k).gctl = s.gctl := rfl
@[simp] theorem State.setCard_queues (k : CardUnit) (s : State) :
    (s.setCard k).queues = s.queues := rfl
@[simp] theorem State.setCard_epochBase (k : CardUnit) (s : State) :
    (s.setCard k).epochBase = s.epochBase := rfl
@[simp] theorem State.setCard_domains (k : CardUnit) (s : State) :
    (s.setCard k).domains = s.domains := rfl
@[simp] theorem State.setCard_led (k : CardUnit) (s : State) :
    (s.setCard k).led = s.led := rfl
@[simp] theorem State.setCard_ru (k : CardUnit) (s : State) :
    (s.setCard k).ru = s.ru := rfl
@[simp] theorem State.setCard_spn (k : CardUnit) (s : State) :
    (s.setCard k).spn = s.spn := rfl
@[simp] theorem State.setCard_sl (k : CardUnit) (s : State) :
    (s.setCard k).sl = s.sl := rfl
@[simp] theorem State.setCard_dig (k : CardUnit) (s : State) :
    (s.setCard k).dig = s.dig := rfl
@[simp] theorem State.setCard_ks (k : CardUnit) (s : State) :
    (s.setCard k).ks = s.ks := rfl
@[simp] theorem State.setCard_arb (k : CardUnit) (s : State) :
    (s.setCard k).arb = s.arb := rfl
@[simp] theorem State.setCard_mem (k : CardUnit) (s : State) :
    (s.setCard k).mem = s.mem := rfl
@[simp] theorem State.setCard_skn (k : CardUnit) (s : State) :
    (s.setCard k).skn = s.skn := rfl
@[simp] theorem State.setCard_kp (k : CardUnit) (s : State) :
    (s.setCard k).kp = s.kp := rfl
@[simp] theorem State.setCard_tmp (k : CardUnit) (s : State) :
    (s.setCard k).tmp = s.tmp := rfl
@[simp] theorem State.setCard_life (k : CardUnit) (s : State) :
    (s.setCard k).life = s.life := rfl
@[simp] theorem State.setCard_mss (k : CardUnit) (s : State) :
    (s.setCard k).mss = s.mss := rfl
@[simp] theorem State.setCard_pwr (k : CardUnit) (s : State) :
    (s.setCard k).pwr = s.pwr := rfl
@[simp] theorem State.setCard_posted (k : CardUnit) (s : State) :
    (s.setCard k).posted = s.posted := rfl
@[simp] theorem State.setCard_pending (k : CardUnit) (s : State) :
    (s.setCard k).pending = s.pending := rfl
@[simp] theorem State.drain_gctl (d : Drain) (s : State) :
    (s.drain d).gctl = s.gctl := rfl
@[simp] theorem State.drain_queues (d : Drain) (s : State) :
    (s.drain d).queues = s.queues := rfl
@[simp] theorem State.drain_epochBase (d : Drain) (s : State) :
    (s.drain d).epochBase = s.epochBase := rfl
@[simp] theorem State.drain_domains (d : Drain) (s : State) :
    (s.drain d).domains = s.domains := rfl
@[simp] theorem State.drain_ru (d : Drain) (s : State) :
    (s.drain d).ru = s.ru := rfl
@[simp] theorem State.drain_spn (d : Drain) (s : State) :
    (s.drain d).spn = s.spn := rfl
@[simp] theorem State.drain_sl (d : Drain) (s : State) :
    (s.drain d).sl = s.sl := rfl
@[simp] theorem State.drain_dig (d : Drain) (s : State) :
    (s.drain d).dig = s.dig := rfl
@[simp] theorem State.drain_ks (d : Drain) (s : State) :
    (s.drain d).ks = s.ks := rfl
@[simp] theorem State.drain_arb (d : Drain) (s : State) :
    (s.drain d).arb = s.arb := rfl
@[simp] theorem State.drain_mem (d : Drain) (s : State) :
    (s.drain d).mem = s.mem := rfl
@[simp] theorem State.drain_skn (d : Drain) (s : State) :
    (s.drain d).skn = s.skn := rfl
@[simp] theorem State.drain_kp (d : Drain) (s : State) :
    (s.drain d).kp = s.kp := rfl
@[simp] theorem State.drain_tmp (d : Drain) (s : State) :
    (s.drain d).tmp = s.tmp := rfl
@[simp] theorem State.drain_life (d : Drain) (s : State) :
    (s.drain d).life = s.life := rfl
@[simp] theorem State.drain_mss (d : Drain) (s : State) :
    (s.drain d).mss = s.mss := rfl
@[simp] theorem State.drain_card (d : Drain) (s : State) :
    (s.drain d).card = s.card := rfl
@[simp] theorem State.drain_pwr (d : Drain) (s : State) :
    (s.drain d).pwr = s.pwr := rfl
@[simp] theorem State.drain_posted (d : Drain) (s : State) :
    (s.drain d).posted = s.posted := rfl
@[simp] theorem State.drain_pending (d : Drain) (s : State) :
    (s.drain d).pending = s.pending := rfl
@[simp] theorem State.noteChange_gctl (fp : BitVec 128) (s : State) :
    (s.noteChange fp).gctl = s.gctl := rfl
@[simp] theorem State.noteChange_queues (fp : BitVec 128) (s : State) :
    (s.noteChange fp).queues = s.queues := rfl
@[simp] theorem State.noteChange_epochBase (fp : BitVec 128) (s : State) :
    (s.noteChange fp).epochBase = s.epochBase := rfl
@[simp] theorem State.noteChange_domains (fp : BitVec 128) (s : State) :
    (s.noteChange fp).domains = s.domains := rfl
@[simp] theorem State.noteChange_led (fp : BitVec 128) (s : State) :
    (s.noteChange fp).led = s.led := rfl
@[simp] theorem State.noteChange_spn (fp : BitVec 128) (s : State) :
    (s.noteChange fp).spn = s.spn := rfl
@[simp] theorem State.noteChange_sl (fp : BitVec 128) (s : State) :
    (s.noteChange fp).sl = s.sl := rfl
@[simp] theorem State.noteChange_dig (fp : BitVec 128) (s : State) :
    (s.noteChange fp).dig = s.dig := rfl
@[simp] theorem State.noteChange_ks (fp : BitVec 128) (s : State) :
    (s.noteChange fp).ks = s.ks := rfl
@[simp] theorem State.noteChange_arb (fp : BitVec 128) (s : State) :
    (s.noteChange fp).arb = s.arb := rfl
@[simp] theorem State.noteChange_mem (fp : BitVec 128) (s : State) :
    (s.noteChange fp).mem = s.mem := rfl
@[simp] theorem State.noteChange_skn (fp : BitVec 128) (s : State) :
    (s.noteChange fp).skn = s.skn := rfl
@[simp] theorem State.noteChange_kp (fp : BitVec 128) (s : State) :
    (s.noteChange fp).kp = s.kp := rfl
@[simp] theorem State.noteChange_tmp (fp : BitVec 128) (s : State) :
    (s.noteChange fp).tmp = s.tmp := rfl
@[simp] theorem State.noteChange_life (fp : BitVec 128) (s : State) :
    (s.noteChange fp).life = s.life := rfl
@[simp] theorem State.noteChange_mss (fp : BitVec 128) (s : State) :
    (s.noteChange fp).mss = s.mss := rfl
@[simp] theorem State.noteChange_card (fp : BitVec 128) (s : State) :
    (s.noteChange fp).card = s.card := rfl
@[simp] theorem State.noteChange_pwr (fp : BitVec 128) (s : State) :
    (s.noteChange fp).pwr = s.pwr := rfl
@[simp] theorem State.noteChange_posted (fp : BitVec 128) (s : State) :
    (s.noteChange fp).posted = s.posted := rfl
@[simp] theorem State.noteChange_pending (fp : BitVec 128) (s : State) :
    (s.noteChange fp).pending = s.pending := rfl
@[simp] theorem State.setCtx_gctl (n : Nat) (k : SealCtx) (s : State) :
    (s.setCtx n k).gctl = s.gctl := rfl
@[simp] theorem State.setCtx_queues (n : Nat) (k : SealCtx) (s : State) :
    (s.setCtx n k).queues = s.queues := rfl
@[simp] theorem State.setCtx_epochBase (n : Nat) (k : SealCtx) (s : State) :
    (s.setCtx n k).epochBase = s.epochBase := rfl
@[simp] theorem State.setCtx_domains (n : Nat) (k : SealCtx) (s : State) :
    (s.setCtx n k).domains = s.domains := rfl
@[simp] theorem State.setCtx_led (n : Nat) (k : SealCtx) (s : State) :
    (s.setCtx n k).led = s.led := rfl
@[simp] theorem State.setCtx_ru (n : Nat) (k : SealCtx) (s : State) :
    (s.setCtx n k).ru = s.ru := rfl
@[simp] theorem State.setCtx_spn (n : Nat) (k : SealCtx) (s : State) :
    (s.setCtx n k).spn = s.spn := rfl
@[simp] theorem State.setCtx_dig (n : Nat) (k : SealCtx) (s : State) :
    (s.setCtx n k).dig = s.dig := rfl
@[simp] theorem State.setCtx_ks (n : Nat) (k : SealCtx) (s : State) :
    (s.setCtx n k).ks = s.ks := rfl
@[simp] theorem State.setCtx_arb (n : Nat) (k : SealCtx) (s : State) :
    (s.setCtx n k).arb = s.arb := rfl
@[simp] theorem State.setCtx_mem (n : Nat) (k : SealCtx) (s : State) :
    (s.setCtx n k).mem = s.mem := rfl
@[simp] theorem State.setCtx_skn (n : Nat) (k : SealCtx) (s : State) :
    (s.setCtx n k).skn = s.skn := rfl
@[simp] theorem State.setCtx_kp (n : Nat) (k : SealCtx) (s : State) :
    (s.setCtx n k).kp = s.kp := rfl
@[simp] theorem State.setCtx_tmp (n : Nat) (k : SealCtx) (s : State) :
    (s.setCtx n k).tmp = s.tmp := rfl
@[simp] theorem State.setCtx_life (n : Nat) (k : SealCtx) (s : State) :
    (s.setCtx n k).life = s.life := rfl
@[simp] theorem State.setCtx_mss (n : Nat) (k : SealCtx) (s : State) :
    (s.setCtx n k).mss = s.mss := rfl
@[simp] theorem State.setCtx_card (n : Nat) (k : SealCtx) (s : State) :
    (s.setCtx n k).card = s.card := rfl
@[simp] theorem State.setCtx_pwr (n : Nat) (k : SealCtx) (s : State) :
    (s.setCtx n k).pwr = s.pwr := rfl
@[simp] theorem State.setCtx_posted (n : Nat) (k : SealCtx) (s : State) :
    (s.setCtx n k).posted = s.posted := rfl
@[simp] theorem State.setCtx_pending (n : Nat) (k : SealCtx) (s : State) :
    (s.setCtx n k).pending = s.pending := rfl
@[simp] theorem State.putSlot_gctl (n : Nat) (k : Slot) (s : State) :
    (s.putSlot n k).gctl = s.gctl := rfl
@[simp] theorem State.putSlot_queues (n : Nat) (k : Slot) (s : State) :
    (s.putSlot n k).queues = s.queues := rfl
@[simp] theorem State.putSlot_epochBase (n : Nat) (k : Slot) (s : State) :
    (s.putSlot n k).epochBase = s.epochBase := rfl
@[simp] theorem State.putSlot_domains (n : Nat) (k : Slot) (s : State) :
    (s.putSlot n k).domains = s.domains := rfl
@[simp] theorem State.putSlot_led (n : Nat) (k : Slot) (s : State) :
    (s.putSlot n k).led = s.led := rfl
@[simp] theorem State.putSlot_ru (n : Nat) (k : Slot) (s : State) :
    (s.putSlot n k).ru = s.ru := rfl
@[simp] theorem State.putSlot_spn (n : Nat) (k : Slot) (s : State) :
    (s.putSlot n k).spn = s.spn := rfl
@[simp] theorem State.putSlot_sl (n : Nat) (k : Slot) (s : State) :
    (s.putSlot n k).sl = s.sl := rfl
@[simp] theorem State.putSlot_dig (n : Nat) (k : Slot) (s : State) :
    (s.putSlot n k).dig = s.dig := rfl
@[simp] theorem State.putSlot_arb (n : Nat) (k : Slot) (s : State) :
    (s.putSlot n k).arb = s.arb := rfl
@[simp] theorem State.putSlot_mem (n : Nat) (k : Slot) (s : State) :
    (s.putSlot n k).mem = s.mem := rfl
@[simp] theorem State.putSlot_skn (n : Nat) (k : Slot) (s : State) :
    (s.putSlot n k).skn = s.skn := rfl
@[simp] theorem State.putSlot_kp (n : Nat) (k : Slot) (s : State) :
    (s.putSlot n k).kp = s.kp := rfl
@[simp] theorem State.putSlot_tmp (n : Nat) (k : Slot) (s : State) :
    (s.putSlot n k).tmp = s.tmp := rfl
@[simp] theorem State.putSlot_life (n : Nat) (k : Slot) (s : State) :
    (s.putSlot n k).life = s.life := rfl
@[simp] theorem State.putSlot_mss (n : Nat) (k : Slot) (s : State) :
    (s.putSlot n k).mss = s.mss := rfl
@[simp] theorem State.putSlot_card (n : Nat) (k : Slot) (s : State) :
    (s.putSlot n k).card = s.card := rfl
@[simp] theorem State.putSlot_pwr (n : Nat) (k : Slot) (s : State) :
    (s.putSlot n k).pwr = s.pwr := rfl
@[simp] theorem State.putSlot_posted (n : Nat) (k : Slot) (s : State) :
    (s.putSlot n k).posted = s.posted := rfl
@[simp] theorem State.putSlot_pending (n : Nat) (k : Slot) (s : State) :
    (s.putSlot n k).pending = s.pending := rfl
@[simp] theorem State.emptySlot_gctl (n : Nat) (s : State) :
    (s.emptySlot n).gctl = s.gctl := rfl
@[simp] theorem State.emptySlot_queues (n : Nat) (s : State) :
    (s.emptySlot n).queues = s.queues := rfl
@[simp] theorem State.emptySlot_epochBase (n : Nat) (s : State) :
    (s.emptySlot n).epochBase = s.epochBase := rfl
@[simp] theorem State.emptySlot_domains (n : Nat) (s : State) :
    (s.emptySlot n).domains = s.domains := rfl
@[simp] theorem State.emptySlot_led (n : Nat) (s : State) :
    (s.emptySlot n).led = s.led := rfl
@[simp] theorem State.emptySlot_ru (n : Nat) (s : State) :
    (s.emptySlot n).ru = s.ru := rfl
@[simp] theorem State.emptySlot_spn (n : Nat) (s : State) :
    (s.emptySlot n).spn = s.spn := rfl
@[simp] theorem State.emptySlot_sl (n : Nat) (s : State) :
    (s.emptySlot n).sl = s.sl := rfl
@[simp] theorem State.emptySlot_dig (n : Nat) (s : State) :
    (s.emptySlot n).dig = s.dig := rfl
@[simp] theorem State.emptySlot_arb (n : Nat) (s : State) :
    (s.emptySlot n).arb = s.arb := rfl
@[simp] theorem State.emptySlot_mem (n : Nat) (s : State) :
    (s.emptySlot n).mem = s.mem := rfl
@[simp] theorem State.emptySlot_skn (n : Nat) (s : State) :
    (s.emptySlot n).skn = s.skn := rfl
@[simp] theorem State.emptySlot_kp (n : Nat) (s : State) :
    (s.emptySlot n).kp = s.kp := rfl
@[simp] theorem State.emptySlot_tmp (n : Nat) (s : State) :
    (s.emptySlot n).tmp = s.tmp := rfl
@[simp] theorem State.emptySlot_life (n : Nat) (s : State) :
    (s.emptySlot n).life = s.life := rfl
@[simp] theorem State.emptySlot_mss (n : Nat) (s : State) :
    (s.emptySlot n).mss = s.mss := rfl
@[simp] theorem State.emptySlot_card (n : Nat) (s : State) :
    (s.emptySlot n).card = s.card := rfl
@[simp] theorem State.emptySlot_pwr (n : Nat) (s : State) :
    (s.emptySlot n).pwr = s.pwr := rfl
@[simp] theorem State.emptySlot_posted (n : Nat) (s : State) :
    (s.emptySlot n).posted = s.posted := rfl
@[simp] theorem State.emptySlot_pending (n : Nat) (s : State) :
    (s.emptySlot n).pending = s.pending := rfl
@[simp] theorem State.setArbiter_gctl (n : Nat) (a : Arbiter) (s : State) :
    (s.setArbiter n a).gctl = s.gctl := rfl
@[simp] theorem State.setArbiter_queues (n : Nat) (a : Arbiter) (s : State) :
    (s.setArbiter n a).queues = s.queues := rfl
@[simp] theorem State.setArbiter_epochBase (n : Nat) (a : Arbiter) (s : State) :
    (s.setArbiter n a).epochBase = s.epochBase := rfl
@[simp] theorem State.setArbiter_domains (n : Nat) (a : Arbiter) (s : State) :
    (s.setArbiter n a).domains = s.domains := rfl
@[simp] theorem State.setArbiter_led (n : Nat) (a : Arbiter) (s : State) :
    (s.setArbiter n a).led = s.led := rfl
@[simp] theorem State.setArbiter_ru (n : Nat) (a : Arbiter) (s : State) :
    (s.setArbiter n a).ru = s.ru := rfl
@[simp] theorem State.setArbiter_spn (n : Nat) (a : Arbiter) (s : State) :
    (s.setArbiter n a).spn = s.spn := rfl
@[simp] theorem State.setArbiter_sl (n : Nat) (a : Arbiter) (s : State) :
    (s.setArbiter n a).sl = s.sl := rfl
@[simp] theorem State.setArbiter_dig (n : Nat) (a : Arbiter) (s : State) :
    (s.setArbiter n a).dig = s.dig := rfl
@[simp] theorem State.setArbiter_ks (n : Nat) (a : Arbiter) (s : State) :
    (s.setArbiter n a).ks = s.ks := rfl
@[simp] theorem State.setArbiter_mem (n : Nat) (a : Arbiter) (s : State) :
    (s.setArbiter n a).mem = s.mem := rfl
@[simp] theorem State.setArbiter_skn (n : Nat) (a : Arbiter) (s : State) :
    (s.setArbiter n a).skn = s.skn := rfl
@[simp] theorem State.setArbiter_kp (n : Nat) (a : Arbiter) (s : State) :
    (s.setArbiter n a).kp = s.kp := rfl
@[simp] theorem State.setArbiter_tmp (n : Nat) (a : Arbiter) (s : State) :
    (s.setArbiter n a).tmp = s.tmp := rfl
@[simp] theorem State.setArbiter_life (n : Nat) (a : Arbiter) (s : State) :
    (s.setArbiter n a).life = s.life := rfl
@[simp] theorem State.setArbiter_mss (n : Nat) (a : Arbiter) (s : State) :
    (s.setArbiter n a).mss = s.mss := rfl
@[simp] theorem State.setArbiter_card (n : Nat) (a : Arbiter) (s : State) :
    (s.setArbiter n a).card = s.card := rfl
@[simp] theorem State.setArbiter_pwr (n : Nat) (a : Arbiter) (s : State) :
    (s.setArbiter n a).pwr = s.pwr := rfl
@[simp] theorem State.setArbiter_posted (n : Nat) (a : Arbiter) (s : State) :
    (s.setArbiter n a).posted = s.posted := rfl
@[simp] theorem State.setArbiter_pending (n : Nat) (a : Arbiter) (s : State) :
    (s.setArbiter n a).pending = s.pending := rfl
@[simp] theorem State.countJob_gctl (n : Nat) (s : State) :
    (s.countJob n).gctl = s.gctl := rfl
@[simp] theorem State.countJob_queues (n : Nat) (s : State) :
    (s.countJob n).queues = s.queues := rfl
@[simp] theorem State.countJob_epochBase (n : Nat) (s : State) :
    (s.countJob n).epochBase = s.epochBase := rfl
@[simp] theorem State.countJob_domains (n : Nat) (s : State) :
    (s.countJob n).domains = s.domains := rfl
@[simp] theorem State.countJob_led (n : Nat) (s : State) :
    (s.countJob n).led = s.led := rfl
@[simp] theorem State.countJob_ru (n : Nat) (s : State) :
    (s.countJob n).ru = s.ru := rfl
@[simp] theorem State.countJob_sl (n : Nat) (s : State) :
    (s.countJob n).sl = s.sl := rfl
@[simp] theorem State.countJob_dig (n : Nat) (s : State) :
    (s.countJob n).dig = s.dig := rfl
@[simp] theorem State.countJob_ks (n : Nat) (s : State) :
    (s.countJob n).ks = s.ks := rfl
@[simp] theorem State.countJob_arb (n : Nat) (s : State) :
    (s.countJob n).arb = s.arb := rfl
@[simp] theorem State.countJob_mem (n : Nat) (s : State) :
    (s.countJob n).mem = s.mem := rfl
@[simp] theorem State.countJob_skn (n : Nat) (s : State) :
    (s.countJob n).skn = s.skn := rfl
@[simp] theorem State.countJob_kp (n : Nat) (s : State) :
    (s.countJob n).kp = s.kp := rfl
@[simp] theorem State.countJob_tmp (n : Nat) (s : State) :
    (s.countJob n).tmp = s.tmp := rfl
@[simp] theorem State.countJob_life (n : Nat) (s : State) :
    (s.countJob n).life = s.life := rfl
@[simp] theorem State.countJob_mss (n : Nat) (s : State) :
    (s.countJob n).mss = s.mss := rfl
@[simp] theorem State.countJob_card (n : Nat) (s : State) :
    (s.countJob n).card = s.card := rfl
@[simp] theorem State.countJob_pwr (n : Nat) (s : State) :
    (s.countJob n).pwr = s.pwr := rfl
@[simp] theorem State.countJob_posted (n : Nat) (s : State) :
    (s.countJob n).posted = s.posted := rfl
@[simp] theorem State.countJob_pending (n : Nat) (s : State) :
    (s.countJob n).pending = s.pending := rfl
@[simp] theorem State.setReq_gctl (n r : Nat) (k : Requester) (s : State) :
    (s.setReq n r k).gctl = s.gctl := rfl
@[simp] theorem State.setReq_queues (n r : Nat) (k : Requester) (s : State) :
    (s.setReq n r k).queues = s.queues := rfl
@[simp] theorem State.setReq_epochBase (n r : Nat) (k : Requester) (s : State) :
    (s.setReq n r k).epochBase = s.epochBase := rfl
@[simp] theorem State.setReq_domains (n r : Nat) (k : Requester) (s : State) :
    (s.setReq n r k).domains = s.domains := rfl
@[simp] theorem State.setReq_led (n r : Nat) (k : Requester) (s : State) :
    (s.setReq n r k).led = s.led := rfl
@[simp] theorem State.setReq_ru (n r : Nat) (k : Requester) (s : State) :
    (s.setReq n r k).ru = s.ru := rfl
@[simp] theorem State.setReq_spn (n r : Nat) (k : Requester) (s : State) :
    (s.setReq n r k).spn = s.spn := rfl
@[simp] theorem State.setReq_sl (n r : Nat) (k : Requester) (s : State) :
    (s.setReq n r k).sl = s.sl := rfl
@[simp] theorem State.setReq_dig (n r : Nat) (k : Requester) (s : State) :
    (s.setReq n r k).dig = s.dig := rfl
@[simp] theorem State.setReq_ks (n r : Nat) (k : Requester) (s : State) :
    (s.setReq n r k).ks = s.ks := rfl
@[simp] theorem State.setReq_mem (n r : Nat) (k : Requester) (s : State) :
    (s.setReq n r k).mem = s.mem := rfl
@[simp] theorem State.setReq_skn (n r : Nat) (k : Requester) (s : State) :
    (s.setReq n r k).skn = s.skn := rfl
@[simp] theorem State.setReq_kp (n r : Nat) (k : Requester) (s : State) :
    (s.setReq n r k).kp = s.kp := rfl
@[simp] theorem State.setReq_tmp (n r : Nat) (k : Requester) (s : State) :
    (s.setReq n r k).tmp = s.tmp := rfl
@[simp] theorem State.setReq_life (n r : Nat) (k : Requester) (s : State) :
    (s.setReq n r k).life = s.life := rfl
@[simp] theorem State.setReq_mss (n r : Nat) (k : Requester) (s : State) :
    (s.setReq n r k).mss = s.mss := rfl
@[simp] theorem State.setReq_card (n r : Nat) (k : Requester) (s : State) :
    (s.setReq n r k).card = s.card := rfl
@[simp] theorem State.setReq_pwr (n r : Nat) (k : Requester) (s : State) :
    (s.setReq n r k).pwr = s.pwr := rfl
@[simp] theorem State.setReq_posted (n r : Nat) (k : Requester) (s : State) :
    (s.setReq n r k).posted = s.posted := rfl
@[simp] theorem State.setReq_pending (n r : Nat) (k : Requester) (s : State) :
    (s.setReq n r k).pending = s.pending := rfl
@[simp] theorem State.noteApplied_gctl (s : State) :
    s.noteApplied.gctl = s.gctl := rfl
@[simp] theorem State.noteApplied_queues (s : State) :
    s.noteApplied.queues = s.queues := rfl
@[simp] theorem State.noteApplied_epochBase (s : State) :
    s.noteApplied.epochBase = s.epochBase := rfl
@[simp] theorem State.noteApplied_domains (s : State) :
    s.noteApplied.domains = s.domains := rfl
@[simp] theorem State.noteApplied_ru (s : State) :
    s.noteApplied.ru = s.ru := rfl
@[simp] theorem State.noteApplied_spn (s : State) :
    s.noteApplied.spn = s.spn := rfl
@[simp] theorem State.noteApplied_sl (s : State) :
    s.noteApplied.sl = s.sl := rfl
@[simp] theorem State.noteApplied_dig (s : State) :
    s.noteApplied.dig = s.dig := rfl
@[simp] theorem State.noteApplied_ks (s : State) :
    s.noteApplied.ks = s.ks := rfl
@[simp] theorem State.noteApplied_arb (s : State) :
    s.noteApplied.arb = s.arb := rfl
@[simp] theorem State.noteApplied_mem (s : State) :
    s.noteApplied.mem = s.mem := rfl
@[simp] theorem State.noteApplied_skn (s : State) :
    s.noteApplied.skn = s.skn := rfl
@[simp] theorem State.noteApplied_kp (s : State) :
    s.noteApplied.kp = s.kp := rfl
@[simp] theorem State.noteApplied_tmp (s : State) :
    s.noteApplied.tmp = s.tmp := rfl
@[simp] theorem State.noteApplied_life (s : State) :
    s.noteApplied.life = s.life := rfl
@[simp] theorem State.noteApplied_mss (s : State) :
    s.noteApplied.mss = s.mss := rfl
@[simp] theorem State.noteApplied_card (s : State) :
    s.noteApplied.card = s.card := rfl
@[simp] theorem State.noteApplied_pwr (s : State) :
    s.noteApplied.pwr = s.pwr := rfl
@[simp] theorem State.noteApplied_posted (s : State) :
    s.noteApplied.posted = s.posted := rfl
@[simp] theorem State.noteApplied_pending (s : State) :
    s.noteApplied.pending = s.pending := rfl

end Sys2Proof.Machine
end

