-- ==== Sys2Proof/Laws/Ops.lean ====
section
/-! SUPPORT. What each shared operation can touch: one lemma for each operation says every component of the state it leaves, and
a simp lemma for each component follows from it. -/

namespace Sys2Proof.Machine

/-- A grant to one requester is a grant of the arbiter's own choice. -/
theorem State.grantFor_eq {n i : Nat} {s t : State} (h : s.grantFor n i = some t) : ∃ a, t = s.grantTo n i a := by
  unfold State.grantFor at h
  split at h
  · split at h
    · exact ⟨_, (Option.some.inj h).symm⟩
    · cases h
  · cases h

/-- setPort touches `skn` at most. -/
theorem State.setPort_frame (w : Port) (p : SkPort) (s : State) :
    (s.setPort w p).gctl = s.gctl ∧ (s.setPort w p).queues = s.queues ∧ (s.setPort w p).epochBase = s.epochBase ∧
    (s.setPort w p).domains = s.domains ∧ (s.setPort w p).led = s.led ∧ (s.setPort w p).ru = s.ru ∧
    (s.setPort w p).spn = s.spn ∧ (s.setPort w p).sl = s.sl ∧ (s.setPort w p).dig = s.dig ∧ (s.setPort w p).ks = s.ks ∧
    (s.setPort w p).arb = s.arb ∧ (s.setPort w p).mem = s.mem ∧ (s.setPort w p).kp = s.kp ∧ (s.setPort w p).tmp = s.tmp ∧
    (s.setPort w p).life = s.life ∧ (s.setPort w p).mss = s.mss ∧ (s.setPort w p).card = s.card ∧ (s.setPort w p).pwr = s.pwr ∧
    (s.setPort w p).posted = s.posted ∧ (s.setPort w p).pending = s.pending := by
  unfold State.setPort
  (repeat' split) <;> simp
@[simp] theorem State.setPort_gctl (w : Port) (p : SkPort) (s : State) : (s.setPort w p).gctl = s.gctl :=
  (State.setPort_frame w p s).1
@[simp] theorem State.setPort_queues (w : Port) (p : SkPort) (s : State) : (s.setPort w p).queues = s.queues :=
  (State.setPort_frame w p s).2.1
@[simp] theorem State.setPort_epochBase (w : Port) (p : SkPort) (s : State) : (s.setPort w p).epochBase = s.epochBase :=
  (State.setPort_frame w p s).2.2.1
@[simp] theorem State.setPort_domains (w : Port) (p : SkPort) (s : State) : (s.setPort w p).domains = s.domains :=
  (State.setPort_frame w p s).2.2.2.1
@[simp] theorem State.setPort_led (w : Port) (p : SkPort) (s : State) : (s.setPort w p).led = s.led :=
  (State.setPort_frame w p s).2.2.2.2.1
@[simp] theorem State.setPort_ru (w : Port) (p : SkPort) (s : State) : (s.setPort w p).ru = s.ru :=
  (State.setPort_frame w p s).2.2.2.2.2.1
@[simp] theorem State.setPort_spn (w : Port) (p : SkPort) (s : State) : (s.setPort w p).spn = s.spn :=
  (State.setPort_frame w p s).2.2.2.2.2.2.1
@[simp] theorem State.setPort_sl (w : Port) (p : SkPort) (s : State) : (s.setPort w p).sl = s.sl :=
  (State.setPort_frame w p s).2.2.2.2.2.2.2.1
@[simp] theorem State.setPort_dig (w : Port) (p : SkPort) (s : State) : (s.setPort w p).dig = s.dig :=
  (State.setPort_frame w p s).2.2.2.2.2.2.2.2.1
@[simp] theorem State.setPort_ks (w : Port) (p : SkPort) (s : State) : (s.setPort w p).ks = s.ks :=
  (State.setPort_frame w p s).2.2.2.2.2.2.2.2.2.1
@[simp] theorem State.setPort_arb (w : Port) (p : SkPort) (s : State) : (s.setPort w p).arb = s.arb :=
  (State.setPort_frame w p s).2.2.2.2.2.2.2.2.2.2.1
@[simp] theorem State.setPort_mem (w : Port) (p : SkPort) (s : State) : (s.setPort w p).mem = s.mem :=
  (State.setPort_frame w p s).2.2.2.2.2.2.2.2.2.2.2.1
@[simp] theorem State.setPort_kp (w : Port) (p : SkPort) (s : State) : (s.setPort w p).kp = s.kp :=
  (State.setPort_frame w p s).2.2.2.2.2.2.2.2.2.2.2.2.1
@[simp] theorem State.setPort_tmp (w : Port) (p : SkPort) (s : State) : (s.setPort w p).tmp = s.tmp :=
  (State.setPort_frame w p s).2.2.2.2.2.2.2.2.2.2.2.2.2.1
@[simp] theorem State.setPort_life (w : Port) (p : SkPort) (s : State) : (s.setPort w p).life = s.life :=
  (State.setPort_frame w p s).2.2.2.2.2.2.2.2.2.2.2.2.2.2.1
@[simp] theorem State.setPort_mss (w : Port) (p : SkPort) (s : State) : (s.setPort w p).mss = s.mss :=
  (State.setPort_frame w p s).2.2.2.2.2.2.2.2.2.2.2.2.2.2.2.1
@[simp] theorem State.setPort_card (w : Port) (p : SkPort) (s : State) : (s.setPort w p).card = s.card :=
  (State.setPort_frame w p s).2.2.2.2.2.2.2.2.2.2.2.2.2.2.2.2.1
@[simp] theorem State.setPort_pwr (w : Port) (p : SkPort) (s : State) : (s.setPort w p).pwr = s.pwr :=
  (State.setPort_frame w p s).2.2.2.2.2.2.2.2.2.2.2.2.2.2.2.2.2.1
@[simp] theorem State.setPort_posted (w : Port) (p : SkPort) (s : State) : (s.setPort w p).posted = s.posted :=
  (State.setPort_frame w p s).2.2.2.2.2.2.2.2.2.2.2.2.2.2.2.2.2.2.1
@[simp] theorem State.setPort_pending (w : Port) (p : SkPort) (s : State) : (s.setPort w p).pending = s.pending :=
  (State.setPort_frame w p s).2.2.2.2.2.2.2.2.2.2.2.2.2.2.2.2.2.2.2

/-- post touches `gctl`, `posted` at most. -/
theorem State.post_frame (o : Posted) (s : State) :
    (s.post o).queues = s.queues ∧ (s.post o).epochBase = s.epochBase ∧ (s.post o).domains = s.domains ∧
    (s.post o).led = s.led ∧ (s.post o).ru = s.ru ∧ (s.post o).spn = s.spn ∧ (s.post o).sl = s.sl ∧ (s.post o).dig = s.dig ∧
    (s.post o).ks = s.ks ∧ (s.post o).arb = s.arb ∧ (s.post o).mem = s.mem ∧ (s.post o).skn = s.skn ∧ (s.post o).kp = s.kp ∧
    (s.post o).tmp = s.tmp ∧ (s.post o).life = s.life ∧ (s.post o).mss = s.mss ∧ (s.post o).card = s.card ∧
    (s.post o).pwr = s.pwr ∧ (s.post o).pending = s.pending := by
  unfold State.post
  (repeat' split) <;> simp
@[simp] theorem State.post_queues (o : Posted) (s : State) : (s.post o).queues = s.queues :=
  (State.post_frame o s).1
@[simp] theorem State.post_epochBase (o : Posted) (s : State) : (s.post o).epochBase = s.epochBase :=
  (State.post_frame o s).2.1
@[simp] theorem State.post_domains (o : Posted) (s : State) : (s.post o).domains = s.domains :=
  (State.post_frame o s).2.2.1
@[simp] theorem State.post_led (o : Posted) (s : State) : (s.post o).led = s.led :=
  (State.post_frame o s).2.2.2.1
@[simp] theorem State.post_ru (o : Posted) (s : State) : (s.post o).ru = s.ru :=
  (State.post_frame o s).2.2.2.2.1
@[simp] theorem State.post_spn (o : Posted) (s : State) : (s.post o).spn = s.spn :=
  (State.post_frame o s).2.2.2.2.2.1
@[simp] theorem State.post_sl (o : Posted) (s : State) : (s.post o).sl = s.sl :=
  (State.post_frame o s).2.2.2.2.2.2.1
@[simp] theorem State.post_dig (o : Posted) (s : State) : (s.post o).dig = s.dig :=
  (State.post_frame o s).2.2.2.2.2.2.2.1
@[simp] theorem State.post_ks (o : Posted) (s : State) : (s.post o).ks = s.ks :=
  (State.post_frame o s).2.2.2.2.2.2.2.2.1
@[simp] theorem State.post_arb (o : Posted) (s : State) : (s.post o).arb = s.arb :=
  (State.post_frame o s).2.2.2.2.2.2.2.2.2.1
@[simp] theorem State.post_mem (o : Posted) (s : State) : (s.post o).mem = s.mem :=
  (State.post_frame o s).2.2.2.2.2.2.2.2.2.2.1
@[simp] theorem State.post_skn (o : Posted) (s : State) : (s.post o).skn = s.skn :=
  (State.post_frame o s).2.2.2.2.2.2.2.2.2.2.2.1
@[simp] theorem State.post_kp (o : Posted) (s : State) : (s.post o).kp = s.kp :=
  (State.post_frame o s).2.2.2.2.2.2.2.2.2.2.2.2.1
@[simp] theorem State.post_tmp (o : Posted) (s : State) : (s.post o).tmp = s.tmp :=
  (State.post_frame o s).2.2.2.2.2.2.2.2.2.2.2.2.2.1
@[simp] theorem State.post_life (o : Posted) (s : State) : (s.post o).life = s.life :=
  (State.post_frame o s).2.2.2.2.2.2.2.2.2.2.2.2.2.2.1
@[simp] theorem State.post_mss (o : Posted) (s : State) : (s.post o).mss = s.mss :=
  (State.post_frame o s).2.2.2.2.2.2.2.2.2.2.2.2.2.2.2.1
@[simp] theorem State.post_card (o : Posted) (s : State) : (s.post o).card = s.card :=
  (State.post_frame o s).2.2.2.2.2.2.2.2.2.2.2.2.2.2.2.2.1
@[simp] theorem State.post_pwr (o : Posted) (s : State) : (s.post o).pwr = s.pwr :=
  (State.post_frame o s).2.2.2.2.2.2.2.2.2.2.2.2.2.2.2.2.2.1
@[simp] theorem State.post_pending (o : Posted) (s : State) : (s.post o).pending = s.pending :=
  (State.post_frame o s).2.2.2.2.2.2.2.2.2.2.2.2.2.2.2.2.2.2

/-- sendMsix touches `gctl`, `posted` at most. -/
theorem State.sendMsix_frame (v : BitVec 11) (s : State) :
    (s.sendMsix v).queues = s.queues ∧ (s.sendMsix v).epochBase = s.epochBase ∧ (s.sendMsix v).domains = s.domains ∧
    (s.sendMsix v).led = s.led ∧ (s.sendMsix v).ru = s.ru ∧ (s.sendMsix v).spn = s.spn ∧ (s.sendMsix v).sl = s.sl ∧
    (s.sendMsix v).dig = s.dig ∧ (s.sendMsix v).ks = s.ks ∧ (s.sendMsix v).arb = s.arb ∧ (s.sendMsix v).mem = s.mem ∧
    (s.sendMsix v).skn = s.skn ∧ (s.sendMsix v).kp = s.kp ∧ (s.sendMsix v).tmp = s.tmp ∧ (s.sendMsix v).life = s.life ∧
    (s.sendMsix v).mss = s.mss ∧ (s.sendMsix v).card = s.card ∧ (s.sendMsix v).pwr = s.pwr ∧
    (s.sendMsix v).pending = s.pending := by
  unfold State.sendMsix
  (repeat' split) <;> simp
@[simp] theorem State.sendMsix_queues (v : BitVec 11) (s : State) : (s.sendMsix v).queues = s.queues :=
  (State.sendMsix_frame v s).1
@[simp] theorem State.sendMsix_epochBase (v : BitVec 11) (s : State) : (s.sendMsix v).epochBase = s.epochBase :=
  (State.sendMsix_frame v s).2.1
@[simp] theorem State.sendMsix_domains (v : BitVec 11) (s : State) : (s.sendMsix v).domains = s.domains :=
  (State.sendMsix_frame v s).2.2.1
@[simp] theorem State.sendMsix_led (v : BitVec 11) (s : State) : (s.sendMsix v).led = s.led :=
  (State.sendMsix_frame v s).2.2.2.1
@[simp] theorem State.sendMsix_ru (v : BitVec 11) (s : State) : (s.sendMsix v).ru = s.ru :=
  (State.sendMsix_frame v s).2.2.2.2.1
@[simp] theorem State.sendMsix_spn (v : BitVec 11) (s : State) : (s.sendMsix v).spn = s.spn :=
  (State.sendMsix_frame v s).2.2.2.2.2.1
@[simp] theorem State.sendMsix_sl (v : BitVec 11) (s : State) : (s.sendMsix v).sl = s.sl :=
  (State.sendMsix_frame v s).2.2.2.2.2.2.1
@[simp] theorem State.sendMsix_dig (v : BitVec 11) (s : State) : (s.sendMsix v).dig = s.dig :=
  (State.sendMsix_frame v s).2.2.2.2.2.2.2.1
@[simp] theorem State.sendMsix_ks (v : BitVec 11) (s : State) : (s.sendMsix v).ks = s.ks :=
  (State.sendMsix_frame v s).2.2.2.2.2.2.2.2.1
@[simp] theorem State.sendMsix_arb (v : BitVec 11) (s : State) : (s.sendMsix v).arb = s.arb :=
  (State.sendMsix_frame v s).2.2.2.2.2.2.2.2.2.1
@[simp] theorem State.sendMsix_mem (v : BitVec 11) (s : State) : (s.sendMsix v).mem = s.mem :=
  (State.sendMsix_frame v s).2.2.2.2.2.2.2.2.2.2.1
@[simp] theorem State.sendMsix_skn (v : BitVec 11) (s : State) : (s.sendMsix v).skn = s.skn :=
  (State.sendMsix_frame v s).2.2.2.2.2.2.2.2.2.2.2.1
@[simp] theorem State.sendMsix_kp (v : BitVec 11) (s : State) : (s.sendMsix v).kp = s.kp :=
  (State.sendMsix_frame v s).2.2.2.2.2.2.2.2.2.2.2.2.1
@[simp] theorem State.sendMsix_tmp (v : BitVec 11) (s : State) : (s.sendMsix v).tmp = s.tmp :=
  (State.sendMsix_frame v s).2.2.2.2.2.2.2.2.2.2.2.2.2.1
@[simp] theorem State.sendMsix_life (v : BitVec 11) (s : State) : (s.sendMsix v).life = s.life :=
  (State.sendMsix_frame v s).2.2.2.2.2.2.2.2.2.2.2.2.2.2.1
@[simp] theorem State.sendMsix_mss (v : BitVec 11) (s : State) : (s.sendMsix v).mss = s.mss :=
  (State.sendMsix_frame v s).2.2.2.2.2.2.2.2.2.2.2.2.2.2.2.1
@[simp] theorem State.sendMsix_card (v : BitVec 11) (s : State) : (s.sendMsix v).card = s.card :=
  (State.sendMsix_frame v s).2.2.2.2.2.2.2.2.2.2.2.2.2.2.2.2.1
@[simp] theorem State.sendMsix_pwr (v : BitVec 11) (s : State) : (s.sendMsix v).pwr = s.pwr :=
  (State.sendMsix_frame v s).2.2.2.2.2.2.2.2.2.2.2.2.2.2.2.2.2.1
@[simp] theorem State.sendMsix_pending (v : BitVec 11) (s : State) : (s.sendMsix v).pending = s.pending :=
  (State.sendMsix_frame v s).2.2.2.2.2.2.2.2.2.2.2.2.2.2.2.2.2.2

/-- raise touches `gctl`, `posted` at most. -/
theorem State.raise_frame (bit : Nat) (s : State) :
    (s.raise bit).queues = s.queues ∧ (s.raise bit).epochBase = s.epochBase ∧ (s.raise bit).domains = s.domains ∧
    (s.raise bit).led = s.led ∧ (s.raise bit).ru = s.ru ∧ (s.raise bit).spn = s.spn ∧ (s.raise bit).sl = s.sl ∧
    (s.raise bit).dig = s.dig ∧ (s.raise bit).ks = s.ks ∧ (s.raise bit).arb = s.arb ∧ (s.raise bit).mem = s.mem ∧
    (s.raise bit).skn = s.skn ∧ (s.raise bit).kp = s.kp ∧ (s.raise bit).tmp = s.tmp ∧ (s.raise bit).life = s.life ∧
    (s.raise bit).mss = s.mss ∧ (s.raise bit).card = s.card ∧ (s.raise bit).pwr = s.pwr ∧ (s.raise bit).pending = s.pending := by
  unfold State.raise
  (repeat' split) <;> simp
@[simp] theorem State.raise_queues (bit : Nat) (s : State) : (s.raise bit).queues = s.queues :=
  (State.raise_frame bit s).1
@[simp] theorem State.raise_epochBase (bit : Nat) (s : State) : (s.raise bit).epochBase = s.epochBase :=
  (State.raise_frame bit s).2.1
@[simp] theorem State.raise_domains (bit : Nat) (s : State) : (s.raise bit).domains = s.domains :=
  (State.raise_frame bit s).2.2.1
@[simp] theorem State.raise_led (bit : Nat) (s : State) : (s.raise bit).led = s.led :=
  (State.raise_frame bit s).2.2.2.1
@[simp] theorem State.raise_ru (bit : Nat) (s : State) : (s.raise bit).ru = s.ru :=
  (State.raise_frame bit s).2.2.2.2.1
@[simp] theorem State.raise_spn (bit : Nat) (s : State) : (s.raise bit).spn = s.spn :=
  (State.raise_frame bit s).2.2.2.2.2.1
@[simp] theorem State.raise_sl (bit : Nat) (s : State) : (s.raise bit).sl = s.sl :=
  (State.raise_frame bit s).2.2.2.2.2.2.1
@[simp] theorem State.raise_dig (bit : Nat) (s : State) : (s.raise bit).dig = s.dig :=
  (State.raise_frame bit s).2.2.2.2.2.2.2.1
@[simp] theorem State.raise_ks (bit : Nat) (s : State) : (s.raise bit).ks = s.ks :=
  (State.raise_frame bit s).2.2.2.2.2.2.2.2.1
@[simp] theorem State.raise_arb (bit : Nat) (s : State) : (s.raise bit).arb = s.arb :=
  (State.raise_frame bit s).2.2.2.2.2.2.2.2.2.1
@[simp] theorem State.raise_mem (bit : Nat) (s : State) : (s.raise bit).mem = s.mem :=
  (State.raise_frame bit s).2.2.2.2.2.2.2.2.2.2.1
@[simp] theorem State.raise_skn (bit : Nat) (s : State) : (s.raise bit).skn = s.skn :=
  (State.raise_frame bit s).2.2.2.2.2.2.2.2.2.2.2.1
@[simp] theorem State.raise_kp (bit : Nat) (s : State) : (s.raise bit).kp = s.kp :=
  (State.raise_frame bit s).2.2.2.2.2.2.2.2.2.2.2.2.1
@[simp] theorem State.raise_tmp (bit : Nat) (s : State) : (s.raise bit).tmp = s.tmp :=
  (State.raise_frame bit s).2.2.2.2.2.2.2.2.2.2.2.2.2.1
@[simp] theorem State.raise_life (bit : Nat) (s : State) : (s.raise bit).life = s.life :=
  (State.raise_frame bit s).2.2.2.2.2.2.2.2.2.2.2.2.2.2.1
@[simp] theorem State.raise_mss (bit : Nat) (s : State) : (s.raise bit).mss = s.mss :=
  (State.raise_frame bit s).2.2.2.2.2.2.2.2.2.2.2.2.2.2.2.1
@[simp] theorem State.raise_card (bit : Nat) (s : State) : (s.raise bit).card = s.card :=
  (State.raise_frame bit s).2.2.2.2.2.2.2.2.2.2.2.2.2.2.2.2.1
@[simp] theorem State.raise_pwr (bit : Nat) (s : State) : (s.raise bit).pwr = s.pwr :=
  (State.raise_frame bit s).2.2.2.2.2.2.2.2.2.2.2.2.2.2.2.2.2.1
@[simp] theorem State.raise_pending (bit : Nat) (s : State) : (s.raise bit).pending = s.pending :=
  (State.raise_frame bit s).2.2.2.2.2.2.2.2.2.2.2.2.2.2.2.2.2.2

/-- log touches `kp` at most. -/
theorem State.log_frame (code : BitVec 16) (plane severity : Byte) (detail : Bytes) (s : State) :
    (s.log code plane severity detail).gctl = s.gctl ∧ (s.log code plane severity detail).queues = s.queues ∧
    (s.log code plane severity detail).epochBase = s.epochBase ∧ (s.log code plane severity detail).domains = s.domains ∧
    (s.log code plane severity detail).led = s.led ∧ (s.log code plane severity detail).ru = s.ru ∧
    (s.log code plane severity detail).spn = s.spn ∧ (s.log code plane severity detail).sl = s.sl ∧
    (s.log code plane severity detail).dig = s.dig ∧ (s.log code plane severity detail).ks = s.ks ∧
    (s.log code plane severity detail).arb = s.arb ∧ (s.log code plane severity detail).mem = s.mem ∧
    (s.log code plane severity detail).skn = s.skn ∧ (s.log code plane severity detail).tmp = s.tmp ∧
    (s.log code plane severity detail).life = s.life ∧ (s.log code plane severity detail).mss = s.mss ∧
    (s.log code plane severity detail).card = s.card ∧ (s.log code plane severity detail).pwr = s.pwr ∧
    (s.log code plane severity detail).posted = s.posted ∧ (s.log code plane severity detail).pending = s.pending := by
  unfold State.log
  dsimp only
  (repeat' split) <;> simp
@[simp] theorem State.log_gctl (code : BitVec 16) (plane severity : Byte) (detail : Bytes) (s : State) : (s.log code plane severity detail).gctl = s.gctl :=
  (State.log_frame code plane severity detail s).1
@[simp] theorem State.log_queues (code : BitVec 16) (plane severity : Byte) (detail : Bytes) (s : State) : (s.log code plane severity detail).queues = s.queues :=
  (State.log_frame code plane severity detail s).2.1
@[simp] theorem State.log_epochBase (code : BitVec 16) (plane severity : Byte) (detail : Bytes) (s : State) : (s.log code plane severity detail).epochBase = s.epochBase :=
  (State.log_frame code plane severity detail s).2.2.1
@[simp] theorem State.log_domains (code : BitVec 16) (plane severity : Byte) (detail : Bytes) (s : State) : (s.log code plane severity detail).domains = s.domains :=
  (State.log_frame code plane severity detail s).2.2.2.1
@[simp] theorem State.log_led (code : BitVec 16) (plane severity : Byte) (detail : Bytes) (s : State) : (s.log code plane severity detail).led = s.led :=
  (State.log_frame code plane severity detail s).2.2.2.2.1
@[simp] theorem State.log_ru (code : BitVec 16) (plane severity : Byte) (detail : Bytes) (s : State) : (s.log code plane severity detail).ru = s.ru :=
  (State.log_frame code plane severity detail s).2.2.2.2.2.1
@[simp] theorem State.log_spn (code : BitVec 16) (plane severity : Byte) (detail : Bytes) (s : State) : (s.log code plane severity detail).spn = s.spn :=
  (State.log_frame code plane severity detail s).2.2.2.2.2.2.1
@[simp] theorem State.log_sl (code : BitVec 16) (plane severity : Byte) (detail : Bytes) (s : State) : (s.log code plane severity detail).sl = s.sl :=
  (State.log_frame code plane severity detail s).2.2.2.2.2.2.2.1
@[simp] theorem State.log_dig (code : BitVec 16) (plane severity : Byte) (detail : Bytes) (s : State) : (s.log code plane severity detail).dig = s.dig :=
  (State.log_frame code plane severity detail s).2.2.2.2.2.2.2.2.1
@[simp] theorem State.log_ks (code : BitVec 16) (plane severity : Byte) (detail : Bytes) (s : State) : (s.log code plane severity detail).ks = s.ks :=
  (State.log_frame code plane severity detail s).2.2.2.2.2.2.2.2.2.1
@[simp] theorem State.log_arb (code : BitVec 16) (plane severity : Byte) (detail : Bytes) (s : State) : (s.log code plane severity detail).arb = s.arb :=
  (State.log_frame code plane severity detail s).2.2.2.2.2.2.2.2.2.2.1
@[simp] theorem State.log_mem (code : BitVec 16) (plane severity : Byte) (detail : Bytes) (s : State) : (s.log code plane severity detail).mem = s.mem :=
  (State.log_frame code plane severity detail s).2.2.2.2.2.2.2.2.2.2.2.1
@[simp] theorem State.log_skn (code : BitVec 16) (plane severity : Byte) (detail : Bytes) (s : State) : (s.log code plane severity detail).skn = s.skn :=
  (State.log_frame code plane severity detail s).2.2.2.2.2.2.2.2.2.2.2.2.1
@[simp] theorem State.log_tmp (code : BitVec 16) (plane severity : Byte) (detail : Bytes) (s : State) : (s.log code plane severity detail).tmp = s.tmp :=
  (State.log_frame code plane severity detail s).2.2.2.2.2.2.2.2.2.2.2.2.2.1
@[simp] theorem State.log_life (code : BitVec 16) (plane severity : Byte) (detail : Bytes) (s : State) : (s.log code plane severity detail).life = s.life :=
  (State.log_frame code plane severity detail s).2.2.2.2.2.2.2.2.2.2.2.2.2.2.1
@[simp] theorem State.log_mss (code : BitVec 16) (plane severity : Byte) (detail : Bytes) (s : State) : (s.log code plane severity detail).mss = s.mss :=
  (State.log_frame code plane severity detail s).2.2.2.2.2.2.2.2.2.2.2.2.2.2.2.1
@[simp] theorem State.log_card (code : BitVec 16) (plane severity : Byte) (detail : Bytes) (s : State) : (s.log code plane severity detail).card = s.card :=
  (State.log_frame code plane severity detail s).2.2.2.2.2.2.2.2.2.2.2.2.2.2.2.2.1
@[simp] theorem State.log_pwr (code : BitVec 16) (plane severity : Byte) (detail : Bytes) (s : State) : (s.log code plane severity detail).pwr = s.pwr :=
  (State.log_frame code plane severity detail s).2.2.2.2.2.2.2.2.2.2.2.2.2.2.2.2.2.1
@[simp] theorem State.log_posted (code : BitVec 16) (plane severity : Byte) (detail : Bytes) (s : State) : (s.log code plane severity detail).posted = s.posted :=
  (State.log_frame code plane severity detail s).2.2.2.2.2.2.2.2.2.2.2.2.2.2.2.2.2.2.1
@[simp] theorem State.log_pending (code : BitVec 16) (plane severity : Byte) (detail : Bytes) (s : State) : (s.log code plane severity detail).pending = s.pending :=
  (State.log_frame code plane severity detail s).2.2.2.2.2.2.2.2.2.2.2.2.2.2.2.2.2.2.2

/-- lapsed touches `gctl`, `tmp`, `mss`, `mem` at most. -/
theorem State.lapsed_frame (n : Nat) (s : State) :
    (s.lapsed n).queues = s.queues ∧ (s.lapsed n).epochBase = s.epochBase ∧ (s.lapsed n).domains = s.domains ∧
    (s.lapsed n).led = s.led ∧ (s.lapsed n).ru = s.ru ∧ (s.lapsed n).spn = s.spn ∧ (s.lapsed n).sl = s.sl ∧
    (s.lapsed n).dig = s.dig ∧ (s.lapsed n).ks = s.ks ∧ (s.lapsed n).arb = s.arb ∧ (s.lapsed n).skn = s.skn ∧
    (s.lapsed n).kp = s.kp ∧ (s.lapsed n).life = s.life ∧ (s.lapsed n).card = s.card ∧ (s.lapsed n).pwr = s.pwr ∧
    (s.lapsed n).posted = s.posted ∧ (s.lapsed n).pending = s.pending := by
  unfold State.lapsed
  (repeat' split) <;> simp
@[simp] theorem State.lapsed_queues (n : Nat) (s : State) : (s.lapsed n).queues = s.queues :=
  (State.lapsed_frame n s).1
@[simp] theorem State.lapsed_epochBase (n : Nat) (s : State) : (s.lapsed n).epochBase = s.epochBase :=
  (State.lapsed_frame n s).2.1
@[simp] theorem State.lapsed_domains (n : Nat) (s : State) : (s.lapsed n).domains = s.domains :=
  (State.lapsed_frame n s).2.2.1
@[simp] theorem State.lapsed_led (n : Nat) (s : State) : (s.lapsed n).led = s.led :=
  (State.lapsed_frame n s).2.2.2.1
@[simp] theorem State.lapsed_ru (n : Nat) (s : State) : (s.lapsed n).ru = s.ru :=
  (State.lapsed_frame n s).2.2.2.2.1
@[simp] theorem State.lapsed_spn (n : Nat) (s : State) : (s.lapsed n).spn = s.spn :=
  (State.lapsed_frame n s).2.2.2.2.2.1
@[simp] theorem State.lapsed_sl (n : Nat) (s : State) : (s.lapsed n).sl = s.sl :=
  (State.lapsed_frame n s).2.2.2.2.2.2.1
@[simp] theorem State.lapsed_dig (n : Nat) (s : State) : (s.lapsed n).dig = s.dig :=
  (State.lapsed_frame n s).2.2.2.2.2.2.2.1
@[simp] theorem State.lapsed_ks (n : Nat) (s : State) : (s.lapsed n).ks = s.ks :=
  (State.lapsed_frame n s).2.2.2.2.2.2.2.2.1
@[simp] theorem State.lapsed_arb (n : Nat) (s : State) : (s.lapsed n).arb = s.arb :=
  (State.lapsed_frame n s).2.2.2.2.2.2.2.2.2.1
@[simp] theorem State.lapsed_skn (n : Nat) (s : State) : (s.lapsed n).skn = s.skn :=
  (State.lapsed_frame n s).2.2.2.2.2.2.2.2.2.2.1
@[simp] theorem State.lapsed_kp (n : Nat) (s : State) : (s.lapsed n).kp = s.kp :=
  (State.lapsed_frame n s).2.2.2.2.2.2.2.2.2.2.2.1
@[simp] theorem State.lapsed_life (n : Nat) (s : State) : (s.lapsed n).life = s.life :=
  (State.lapsed_frame n s).2.2.2.2.2.2.2.2.2.2.2.2.1
@[simp] theorem State.lapsed_card (n : Nat) (s : State) : (s.lapsed n).card = s.card :=
  (State.lapsed_frame n s).2.2.2.2.2.2.2.2.2.2.2.2.2.1
@[simp] theorem State.lapsed_pwr (n : Nat) (s : State) : (s.lapsed n).pwr = s.pwr :=
  (State.lapsed_frame n s).2.2.2.2.2.2.2.2.2.2.2.2.2.2.1
@[simp] theorem State.lapsed_posted (n : Nat) (s : State) : (s.lapsed n).posted = s.posted :=
  (State.lapsed_frame n s).2.2.2.2.2.2.2.2.2.2.2.2.2.2.2.1
@[simp] theorem State.lapsed_pending (n : Nat) (s : State) : (s.lapsed n).pending = s.pending :=
  (State.lapsed_frame n s).2.2.2.2.2.2.2.2.2.2.2.2.2.2.2.2

/-- advanceTo touches `gctl`, `tmp`, `mss`, `mem` at most. -/
theorem State.advanceTo_frame (t : Nat) (s : State) :
    (s.advanceTo t).queues = s.queues ∧ (s.advanceTo t).epochBase = s.epochBase ∧ (s.advanceTo t).domains = s.domains ∧
    (s.advanceTo t).led = s.led ∧ (s.advanceTo t).ru = s.ru ∧ (s.advanceTo t).spn = s.spn ∧ (s.advanceTo t).sl = s.sl ∧
    (s.advanceTo t).dig = s.dig ∧ (s.advanceTo t).ks = s.ks ∧ (s.advanceTo t).arb = s.arb ∧ (s.advanceTo t).skn = s.skn ∧
    (s.advanceTo t).kp = s.kp ∧ (s.advanceTo t).life = s.life ∧ (s.advanceTo t).card = s.card ∧ (s.advanceTo t).pwr = s.pwr ∧
    (s.advanceTo t).posted = s.posted ∧ (s.advanceTo t).pending = s.pending := by
  unfold State.advanceTo
  (repeat' split) <;> simp
@[simp] theorem State.advanceTo_queues (t : Nat) (s : State) : (s.advanceTo t).queues = s.queues :=
  (State.advanceTo_frame t s).1
@[simp] theorem State.advanceTo_epochBase (t : Nat) (s : State) : (s.advanceTo t).epochBase = s.epochBase :=
  (State.advanceTo_frame t s).2.1
@[simp] theorem State.advanceTo_domains (t : Nat) (s : State) : (s.advanceTo t).domains = s.domains :=
  (State.advanceTo_frame t s).2.2.1
@[simp] theorem State.advanceTo_led (t : Nat) (s : State) : (s.advanceTo t).led = s.led :=
  (State.advanceTo_frame t s).2.2.2.1
@[simp] theorem State.advanceTo_ru (t : Nat) (s : State) : (s.advanceTo t).ru = s.ru :=
  (State.advanceTo_frame t s).2.2.2.2.1
@[simp] theorem State.advanceTo_spn (t : Nat) (s : State) : (s.advanceTo t).spn = s.spn :=
  (State.advanceTo_frame t s).2.2.2.2.2.1
@[simp] theorem State.advanceTo_sl (t : Nat) (s : State) : (s.advanceTo t).sl = s.sl :=
  (State.advanceTo_frame t s).2.2.2.2.2.2.1
@[simp] theorem State.advanceTo_dig (t : Nat) (s : State) : (s.advanceTo t).dig = s.dig :=
  (State.advanceTo_frame t s).2.2.2.2.2.2.2.1
@[simp] theorem State.advanceTo_ks (t : Nat) (s : State) : (s.advanceTo t).ks = s.ks :=
  (State.advanceTo_frame t s).2.2.2.2.2.2.2.2.1
@[simp] theorem State.advanceTo_arb (t : Nat) (s : State) : (s.advanceTo t).arb = s.arb :=
  (State.advanceTo_frame t s).2.2.2.2.2.2.2.2.2.1
@[simp] theorem State.advanceTo_skn (t : Nat) (s : State) : (s.advanceTo t).skn = s.skn :=
  (State.advanceTo_frame t s).2.2.2.2.2.2.2.2.2.2.1
@[simp] theorem State.advanceTo_kp (t : Nat) (s : State) : (s.advanceTo t).kp = s.kp :=
  (State.advanceTo_frame t s).2.2.2.2.2.2.2.2.2.2.2.1
@[simp] theorem State.advanceTo_life (t : Nat) (s : State) : (s.advanceTo t).life = s.life :=
  (State.advanceTo_frame t s).2.2.2.2.2.2.2.2.2.2.2.2.1
@[simp] theorem State.advanceTo_card (t : Nat) (s : State) : (s.advanceTo t).card = s.card :=
  (State.advanceTo_frame t s).2.2.2.2.2.2.2.2.2.2.2.2.2.1
@[simp] theorem State.advanceTo_pwr (t : Nat) (s : State) : (s.advanceTo t).pwr = s.pwr :=
  (State.advanceTo_frame t s).2.2.2.2.2.2.2.2.2.2.2.2.2.2.1
@[simp] theorem State.advanceTo_posted (t : Nat) (s : State) : (s.advanceTo t).posted = s.posted :=
  (State.advanceTo_frame t s).2.2.2.2.2.2.2.2.2.2.2.2.2.2.2.1
@[simp] theorem State.advanceTo_pending (t : Nat) (s : State) : (s.advanceTo t).pending = s.pending :=
  (State.advanceTo_frame t s).2.2.2.2.2.2.2.2.2.2.2.2.2.2.2.2

/-- signal touches `gctl`, `queues`, `posted` at most. -/
theorem State.signal_frame (q : QId) (notify : Bool) (s : State) :
    (s.signal q notify).epochBase = s.epochBase ∧ (s.signal q notify).domains = s.domains ∧ (s.signal q notify).led = s.led ∧
    (s.signal q notify).ru = s.ru ∧ (s.signal q notify).spn = s.spn ∧ (s.signal q notify).sl = s.sl ∧
    (s.signal q notify).dig = s.dig ∧ (s.signal q notify).ks = s.ks ∧ (s.signal q notify).arb = s.arb ∧
    (s.signal q notify).mem = s.mem ∧ (s.signal q notify).skn = s.skn ∧ (s.signal q notify).kp = s.kp ∧
    (s.signal q notify).tmp = s.tmp ∧ (s.signal q notify).life = s.life ∧ (s.signal q notify).mss = s.mss ∧
    (s.signal q notify).card = s.card ∧ (s.signal q notify).pwr = s.pwr ∧ (s.signal q notify).pending = s.pending := by
  unfold State.signal
  dsimp only
  (repeat' split) <;> simp
@[simp] theorem State.signal_epochBase (q : QId) (notify : Bool) (s : State) : (s.signal q notify).epochBase = s.epochBase :=
  (State.signal_frame q notify s).1
@[simp] theorem State.signal_domains (q : QId) (notify : Bool) (s : State) : (s.signal q notify).domains = s.domains :=
  (State.signal_frame q notify s).2.1
@[simp] theorem State.signal_led (q : QId) (notify : Bool) (s : State) : (s.signal q notify).led = s.led :=
  (State.signal_frame q notify s).2.2.1
@[simp] theorem State.signal_ru (q : QId) (notify : Bool) (s : State) : (s.signal q notify).ru = s.ru :=
  (State.signal_frame q notify s).2.2.2.1
@[simp] theorem State.signal_spn (q : QId) (notify : Bool) (s : State) : (s.signal q notify).spn = s.spn :=
  (State.signal_frame q notify s).2.2.2.2.1
@[simp] theorem State.signal_sl (q : QId) (notify : Bool) (s : State) : (s.signal q notify).sl = s.sl :=
  (State.signal_frame q notify s).2.2.2.2.2.1
@[simp] theorem State.signal_dig (q : QId) (notify : Bool) (s : State) : (s.signal q notify).dig = s.dig :=
  (State.signal_frame q notify s).2.2.2.2.2.2.1
@[simp] theorem State.signal_ks (q : QId) (notify : Bool) (s : State) : (s.signal q notify).ks = s.ks :=
  (State.signal_frame q notify s).2.2.2.2.2.2.2.1
@[simp] theorem State.signal_arb (q : QId) (notify : Bool) (s : State) : (s.signal q notify).arb = s.arb :=
  (State.signal_frame q notify s).2.2.2.2.2.2.2.2.1
@[simp] theorem State.signal_mem (q : QId) (notify : Bool) (s : State) : (s.signal q notify).mem = s.mem :=
  (State.signal_frame q notify s).2.2.2.2.2.2.2.2.2.1
@[simp] theorem State.signal_skn (q : QId) (notify : Bool) (s : State) : (s.signal q notify).skn = s.skn :=
  (State.signal_frame q notify s).2.2.2.2.2.2.2.2.2.2.1
@[simp] theorem State.signal_kp (q : QId) (notify : Bool) (s : State) : (s.signal q notify).kp = s.kp :=
  (State.signal_frame q notify s).2.2.2.2.2.2.2.2.2.2.2.1
@[simp] theorem State.signal_tmp (q : QId) (notify : Bool) (s : State) : (s.signal q notify).tmp = s.tmp :=
  (State.signal_frame q notify s).2.2.2.2.2.2.2.2.2.2.2.2.1
@[simp] theorem State.signal_life (q : QId) (notify : Bool) (s : State) : (s.signal q notify).life = s.life :=
  (State.signal_frame q notify s).2.2.2.2.2.2.2.2.2.2.2.2.2.1
@[simp] theorem State.signal_mss (q : QId) (notify : Bool) (s : State) : (s.signal q notify).mss = s.mss :=
  (State.signal_frame q notify s).2.2.2.2.2.2.2.2.2.2.2.2.2.2.1
@[simp] theorem State.signal_card (q : QId) (notify : Bool) (s : State) : (s.signal q notify).card = s.card :=
  (State.signal_frame q notify s).2.2.2.2.2.2.2.2.2.2.2.2.2.2.2.1
@[simp] theorem State.signal_pwr (q : QId) (notify : Bool) (s : State) : (s.signal q notify).pwr = s.pwr :=
  (State.signal_frame q notify s).2.2.2.2.2.2.2.2.2.2.2.2.2.2.2.2.1
@[simp] theorem State.signal_pending (q : QId) (notify : Bool) (s : State) : (s.signal q notify).pending = s.pending :=
  (State.signal_frame q notify s).2.2.2.2.2.2.2.2.2.2.2.2.2.2.2.2.2

/-- postHost touches `gctl`, `queues`, `posted` at most. -/
theorem State.postHost_frame (h : Held) (s : State) :
    (s.postHost h).epochBase = s.epochBase ∧ (s.postHost h).domains = s.domains ∧ (s.postHost h).led = s.led ∧
    (s.postHost h).ru = s.ru ∧ (s.postHost h).spn = s.spn ∧ (s.postHost h).sl = s.sl ∧ (s.postHost h).dig = s.dig ∧
    (s.postHost h).ks = s.ks ∧ (s.postHost h).arb = s.arb ∧ (s.postHost h).mem = s.mem ∧ (s.postHost h).skn = s.skn ∧
    (s.postHost h).kp = s.kp ∧ (s.postHost h).tmp = s.tmp ∧ (s.postHost h).life = s.life ∧ (s.postHost h).mss = s.mss ∧
    (s.postHost h).card = s.card ∧ (s.postHost h).pwr = s.pwr ∧ (s.postHost h).pending = s.pending := by
  unfold State.postHost
  dsimp only
  (repeat' split) <;> simp
@[simp] theorem State.postHost_epochBase (h : Held) (s : State) : (s.postHost h).epochBase = s.epochBase :=
  (State.postHost_frame h s).1
@[simp] theorem State.postHost_domains (h : Held) (s : State) : (s.postHost h).domains = s.domains :=
  (State.postHost_frame h s).2.1
@[simp] theorem State.postHost_led (h : Held) (s : State) : (s.postHost h).led = s.led :=
  (State.postHost_frame h s).2.2.1
@[simp] theorem State.postHost_ru (h : Held) (s : State) : (s.postHost h).ru = s.ru :=
  (State.postHost_frame h s).2.2.2.1
@[simp] theorem State.postHost_spn (h : Held) (s : State) : (s.postHost h).spn = s.spn :=
  (State.postHost_frame h s).2.2.2.2.1
@[simp] theorem State.postHost_sl (h : Held) (s : State) : (s.postHost h).sl = s.sl :=
  (State.postHost_frame h s).2.2.2.2.2.1
@[simp] theorem State.postHost_dig (h : Held) (s : State) : (s.postHost h).dig = s.dig :=
  (State.postHost_frame h s).2.2.2.2.2.2.1
@[simp] theorem State.postHost_ks (h : Held) (s : State) : (s.postHost h).ks = s.ks :=
  (State.postHost_frame h s).2.2.2.2.2.2.2.1
@[simp] theorem State.postHost_arb (h : Held) (s : State) : (s.postHost h).arb = s.arb :=
  (State.postHost_frame h s).2.2.2.2.2.2.2.2.1
@[simp] theorem State.postHost_mem (h : Held) (s : State) : (s.postHost h).mem = s.mem :=
  (State.postHost_frame h s).2.2.2.2.2.2.2.2.2.1
@[simp] theorem State.postHost_skn (h : Held) (s : State) : (s.postHost h).skn = s.skn :=
  (State.postHost_frame h s).2.2.2.2.2.2.2.2.2.2.1
@[simp] theorem State.postHost_kp (h : Held) (s : State) : (s.postHost h).kp = s.kp :=
  (State.postHost_frame h s).2.2.2.2.2.2.2.2.2.2.2.1
@[simp] theorem State.postHost_tmp (h : Held) (s : State) : (s.postHost h).tmp = s.tmp :=
  (State.postHost_frame h s).2.2.2.2.2.2.2.2.2.2.2.2.1
@[simp] theorem State.postHost_life (h : Held) (s : State) : (s.postHost h).life = s.life :=
  (State.postHost_frame h s).2.2.2.2.2.2.2.2.2.2.2.2.2.1
@[simp] theorem State.postHost_mss (h : Held) (s : State) : (s.postHost h).mss = s.mss :=
  (State.postHost_frame h s).2.2.2.2.2.2.2.2.2.2.2.2.2.2.1
@[simp] theorem State.postHost_card (h : Held) (s : State) : (s.postHost h).card = s.card :=
  (State.postHost_frame h s).2.2.2.2.2.2.2.2.2.2.2.2.2.2.2.1
@[simp] theorem State.postHost_pwr (h : Held) (s : State) : (s.postHost h).pwr = s.pwr :=
  (State.postHost_frame h s).2.2.2.2.2.2.2.2.2.2.2.2.2.2.2.2.1
@[simp] theorem State.postHost_pending (h : Held) (s : State) : (s.postHost h).pending = s.pending :=
  (State.postHost_frame h s).2.2.2.2.2.2.2.2.2.2.2.2.2.2.2.2.2

/-- mssDone touches `mss` at most. -/
theorem State.mssDone_frame (h : Held) (s : State) :
    (s.mssDone h).gctl = s.gctl ∧ (s.mssDone h).queues = s.queues ∧ (s.mssDone h).epochBase = s.epochBase ∧
    (s.mssDone h).domains = s.domains ∧ (s.mssDone h).led = s.led ∧ (s.mssDone h).ru = s.ru ∧ (s.mssDone h).spn = s.spn ∧
    (s.mssDone h).sl = s.sl ∧ (s.mssDone h).dig = s.dig ∧ (s.mssDone h).ks = s.ks ∧ (s.mssDone h).arb = s.arb ∧
    (s.mssDone h).mem = s.mem ∧ (s.mssDone h).skn = s.skn ∧ (s.mssDone h).kp = s.kp ∧ (s.mssDone h).tmp = s.tmp ∧
    (s.mssDone h).life = s.life ∧ (s.mssDone h).card = s.card ∧ (s.mssDone h).pwr = s.pwr ∧ (s.mssDone h).posted = s.posted ∧
    (s.mssDone h).pending = s.pending := by
  unfold State.mssDone
  (repeat' split) <;> simp
@[simp] theorem State.mssDone_gctl (h : Held) (s : State) : (s.mssDone h).gctl = s.gctl :=
  (State.mssDone_frame h s).1
@[simp] theorem State.mssDone_queues (h : Held) (s : State) : (s.mssDone h).queues = s.queues :=
  (State.mssDone_frame h s).2.1
@[simp] theorem State.mssDone_epochBase (h : Held) (s : State) : (s.mssDone h).epochBase = s.epochBase :=
  (State.mssDone_frame h s).2.2.1
@[simp] theorem State.mssDone_domains (h : Held) (s : State) : (s.mssDone h).domains = s.domains :=
  (State.mssDone_frame h s).2.2.2.1
@[simp] theorem State.mssDone_led (h : Held) (s : State) : (s.mssDone h).led = s.led :=
  (State.mssDone_frame h s).2.2.2.2.1
@[simp] theorem State.mssDone_ru (h : Held) (s : State) : (s.mssDone h).ru = s.ru :=
  (State.mssDone_frame h s).2.2.2.2.2.1
@[simp] theorem State.mssDone_spn (h : Held) (s : State) : (s.mssDone h).spn = s.spn :=
  (State.mssDone_frame h s).2.2.2.2.2.2.1
@[simp] theorem State.mssDone_sl (h : Held) (s : State) : (s.mssDone h).sl = s.sl :=
  (State.mssDone_frame h s).2.2.2.2.2.2.2.1
@[simp] theorem State.mssDone_dig (h : Held) (s : State) : (s.mssDone h).dig = s.dig :=
  (State.mssDone_frame h s).2.2.2.2.2.2.2.2.1
@[simp] theorem State.mssDone_ks (h : Held) (s : State) : (s.mssDone h).ks = s.ks :=
  (State.mssDone_frame h s).2.2.2.2.2.2.2.2.2.1
@[simp] theorem State.mssDone_arb (h : Held) (s : State) : (s.mssDone h).arb = s.arb :=
  (State.mssDone_frame h s).2.2.2.2.2.2.2.2.2.2.1
@[simp] theorem State.mssDone_mem (h : Held) (s : State) : (s.mssDone h).mem = s.mem :=
  (State.mssDone_frame h s).2.2.2.2.2.2.2.2.2.2.2.1
@[simp] theorem State.mssDone_skn (h : Held) (s : State) : (s.mssDone h).skn = s.skn :=
  (State.mssDone_frame h s).2.2.2.2.2.2.2.2.2.2.2.2.1
@[simp] theorem State.mssDone_kp (h : Held) (s : State) : (s.mssDone h).kp = s.kp :=
  (State.mssDone_frame h s).2.2.2.2.2.2.2.2.2.2.2.2.2.1
@[simp] theorem State.mssDone_tmp (h : Held) (s : State) : (s.mssDone h).tmp = s.tmp :=
  (State.mssDone_frame h s).2.2.2.2.2.2.2.2.2.2.2.2.2.2.1
@[simp] theorem State.mssDone_life (h : Held) (s : State) : (s.mssDone h).life = s.life :=
  (State.mssDone_frame h s).2.2.2.2.2.2.2.2.2.2.2.2.2.2.2.1
@[simp] theorem State.mssDone_card (h : Held) (s : State) : (s.mssDone h).card = s.card :=
  (State.mssDone_frame h s).2.2.2.2.2.2.2.2.2.2.2.2.2.2.2.2.1
@[simp] theorem State.mssDone_pwr (h : Held) (s : State) : (s.mssDone h).pwr = s.pwr :=
  (State.mssDone_frame h s).2.2.2.2.2.2.2.2.2.2.2.2.2.2.2.2.2.1
@[simp] theorem State.mssDone_posted (h : Held) (s : State) : (s.mssDone h).posted = s.posted :=
  (State.mssDone_frame h s).2.2.2.2.2.2.2.2.2.2.2.2.2.2.2.2.2.2.1
@[simp] theorem State.mssDone_pending (h : Held) (s : State) : (s.mssDone h).pending = s.pending :=
  (State.mssDone_frame h s).2.2.2.2.2.2.2.2.2.2.2.2.2.2.2.2.2.2.2

/-- postReply touches `gctl`, `queues`, `mss`, `posted` at most. -/
theorem State.postReply_frame (h : Held) (s : State) :
    (s.postReply h).epochBase = s.epochBase ∧ (s.postReply h).domains = s.domains ∧ (s.postReply h).led = s.led ∧
    (s.postReply h).ru = s.ru ∧ (s.postReply h).spn = s.spn ∧ (s.postReply h).sl = s.sl ∧ (s.postReply h).dig = s.dig ∧
    (s.postReply h).ks = s.ks ∧ (s.postReply h).arb = s.arb ∧ (s.postReply h).mem = s.mem ∧ (s.postReply h).skn = s.skn ∧
    (s.postReply h).kp = s.kp ∧ (s.postReply h).tmp = s.tmp ∧ (s.postReply h).life = s.life ∧ (s.postReply h).card = s.card ∧
    (s.postReply h).pwr = s.pwr ∧ (s.postReply h).pending = s.pending := by
  unfold State.postReply
  (repeat' split) <;> simp
@[simp] theorem State.postReply_epochBase (h : Held) (s : State) : (s.postReply h).epochBase = s.epochBase :=
  (State.postReply_frame h s).1
@[simp] theorem State.postReply_domains (h : Held) (s : State) : (s.postReply h).domains = s.domains :=
  (State.postReply_frame h s).2.1
@[simp] theorem State.postReply_led (h : Held) (s : State) : (s.postReply h).led = s.led :=
  (State.postReply_frame h s).2.2.1
@[simp] theorem State.postReply_ru (h : Held) (s : State) : (s.postReply h).ru = s.ru :=
  (State.postReply_frame h s).2.2.2.1
@[simp] theorem State.postReply_spn (h : Held) (s : State) : (s.postReply h).spn = s.spn :=
  (State.postReply_frame h s).2.2.2.2.1
@[simp] theorem State.postReply_sl (h : Held) (s : State) : (s.postReply h).sl = s.sl :=
  (State.postReply_frame h s).2.2.2.2.2.1
@[simp] theorem State.postReply_dig (h : Held) (s : State) : (s.postReply h).dig = s.dig :=
  (State.postReply_frame h s).2.2.2.2.2.2.1
@[simp] theorem State.postReply_ks (h : Held) (s : State) : (s.postReply h).ks = s.ks :=
  (State.postReply_frame h s).2.2.2.2.2.2.2.1
@[simp] theorem State.postReply_arb (h : Held) (s : State) : (s.postReply h).arb = s.arb :=
  (State.postReply_frame h s).2.2.2.2.2.2.2.2.1
@[simp] theorem State.postReply_mem (h : Held) (s : State) : (s.postReply h).mem = s.mem :=
  (State.postReply_frame h s).2.2.2.2.2.2.2.2.2.1
@[simp] theorem State.postReply_skn (h : Held) (s : State) : (s.postReply h).skn = s.skn :=
  (State.postReply_frame h s).2.2.2.2.2.2.2.2.2.2.1
@[simp] theorem State.postReply_kp (h : Held) (s : State) : (s.postReply h).kp = s.kp :=
  (State.postReply_frame h s).2.2.2.2.2.2.2.2.2.2.2.1
@[simp] theorem State.postReply_tmp (h : Held) (s : State) : (s.postReply h).tmp = s.tmp :=
  (State.postReply_frame h s).2.2.2.2.2.2.2.2.2.2.2.2.1
@[simp] theorem State.postReply_life (h : Held) (s : State) : (s.postReply h).life = s.life :=
  (State.postReply_frame h s).2.2.2.2.2.2.2.2.2.2.2.2.2.1
@[simp] theorem State.postReply_card (h : Held) (s : State) : (s.postReply h).card = s.card :=
  (State.postReply_frame h s).2.2.2.2.2.2.2.2.2.2.2.2.2.2.1
@[simp] theorem State.postReply_pwr (h : Held) (s : State) : (s.postReply h).pwr = s.pwr :=
  (State.postReply_frame h s).2.2.2.2.2.2.2.2.2.2.2.2.2.2.2.1
@[simp] theorem State.postReply_pending (h : Held) (s : State) : (s.postReply h).pending = s.pending :=
  (State.postReply_frame h s).2.2.2.2.2.2.2.2.2.2.2.2.2.2.2.2

/-- toRing touches `gctl`, `ru`, `posted` at most. -/
theorem State.toRing_frame (seq : Nat) (bytes : Bytes) (s : State) :
    (s.toRing seq bytes).queues = s.queues ∧ (s.toRing seq bytes).epochBase = s.epochBase ∧
    (s.toRing seq bytes).domains = s.domains ∧ (s.toRing seq bytes).led = s.led ∧ (s.toRing seq bytes).spn = s.spn ∧
    (s.toRing seq bytes).sl = s.sl ∧ (s.toRing seq bytes).dig = s.dig ∧ (s.toRing seq bytes).ks = s.ks ∧
    (s.toRing seq bytes).arb = s.arb ∧ (s.toRing seq bytes).mem = s.mem ∧ (s.toRing seq bytes).skn = s.skn ∧
    (s.toRing seq bytes).kp = s.kp ∧ (s.toRing seq bytes).tmp = s.tmp ∧ (s.toRing seq bytes).life = s.life ∧
    (s.toRing seq bytes).mss = s.mss ∧ (s.toRing seq bytes).card = s.card ∧ (s.toRing seq bytes).pwr = s.pwr ∧
    (s.toRing seq bytes).pending = s.pending := by
  unfold State.toRing
  (repeat' split) <;> simp
@[simp] theorem State.toRing_queues (seq : Nat) (bytes : Bytes) (s : State) : (s.toRing seq bytes).queues = s.queues :=
  (State.toRing_frame seq bytes s).1
@[simp] theorem State.toRing_epochBase (seq : Nat) (bytes : Bytes) (s : State) : (s.toRing seq bytes).epochBase = s.epochBase :=
  (State.toRing_frame seq bytes s).2.1
@[simp] theorem State.toRing_domains (seq : Nat) (bytes : Bytes) (s : State) : (s.toRing seq bytes).domains = s.domains :=
  (State.toRing_frame seq bytes s).2.2.1
@[simp] theorem State.toRing_led (seq : Nat) (bytes : Bytes) (s : State) : (s.toRing seq bytes).led = s.led :=
  (State.toRing_frame seq bytes s).2.2.2.1
@[simp] theorem State.toRing_spn (seq : Nat) (bytes : Bytes) (s : State) : (s.toRing seq bytes).spn = s.spn :=
  (State.toRing_frame seq bytes s).2.2.2.2.1
@[simp] theorem State.toRing_sl (seq : Nat) (bytes : Bytes) (s : State) : (s.toRing seq bytes).sl = s.sl :=
  (State.toRing_frame seq bytes s).2.2.2.2.2.1
@[simp] theorem State.toRing_dig (seq : Nat) (bytes : Bytes) (s : State) : (s.toRing seq bytes).dig = s.dig :=
  (State.toRing_frame seq bytes s).2.2.2.2.2.2.1
@[simp] theorem State.toRing_ks (seq : Nat) (bytes : Bytes) (s : State) : (s.toRing seq bytes).ks = s.ks :=
  (State.toRing_frame seq bytes s).2.2.2.2.2.2.2.1
@[simp] theorem State.toRing_arb (seq : Nat) (bytes : Bytes) (s : State) : (s.toRing seq bytes).arb = s.arb :=
  (State.toRing_frame seq bytes s).2.2.2.2.2.2.2.2.1
@[simp] theorem State.toRing_mem (seq : Nat) (bytes : Bytes) (s : State) : (s.toRing seq bytes).mem = s.mem :=
  (State.toRing_frame seq bytes s).2.2.2.2.2.2.2.2.2.1
@[simp] theorem State.toRing_skn (seq : Nat) (bytes : Bytes) (s : State) : (s.toRing seq bytes).skn = s.skn :=
  (State.toRing_frame seq bytes s).2.2.2.2.2.2.2.2.2.2.1
@[simp] theorem State.toRing_kp (seq : Nat) (bytes : Bytes) (s : State) : (s.toRing seq bytes).kp = s.kp :=
  (State.toRing_frame seq bytes s).2.2.2.2.2.2.2.2.2.2.2.1
@[simp] theorem State.toRing_tmp (seq : Nat) (bytes : Bytes) (s : State) : (s.toRing seq bytes).tmp = s.tmp :=
  (State.toRing_frame seq bytes s).2.2.2.2.2.2.2.2.2.2.2.2.1
@[simp] theorem State.toRing_life (seq : Nat) (bytes : Bytes) (s : State) : (s.toRing seq bytes).life = s.life :=
  (State.toRing_frame seq bytes s).2.2.2.2.2.2.2.2.2.2.2.2.2.1
@[simp] theorem State.toRing_mss (seq : Nat) (bytes : Bytes) (s : State) : (s.toRing seq bytes).mss = s.mss :=
  (State.toRing_frame seq bytes s).2.2.2.2.2.2.2.2.2.2.2.2.2.2.1
@[simp] theorem State.toRing_card (seq : Nat) (bytes : Bytes) (s : State) : (s.toRing seq bytes).card = s.card :=
  (State.toRing_frame seq bytes s).2.2.2.2.2.2.2.2.2.2.2.2.2.2.2.1
@[simp] theorem State.toRing_pwr (seq : Nat) (bytes : Bytes) (s : State) : (s.toRing seq bytes).pwr = s.pwr :=
  (State.toRing_frame seq bytes s).2.2.2.2.2.2.2.2.2.2.2.2.2.2.2.2.1
@[simp] theorem State.toRing_pending (seq : Nat) (bytes : Bytes) (s : State) : (s.toRing seq bytes).pending = s.pending :=
  (State.toRing_frame seq bytes s).2.2.2.2.2.2.2.2.2.2.2.2.2.2.2.2.2

/-- chain touches `gctl`, `led`, `ru`, `posted` at most. -/
theorem State.chain_frame (r : JRec) (s : State) :
    (s.chain r).queues = s.queues ∧ (s.chain r).epochBase = s.epochBase ∧ (s.chain r).domains = s.domains ∧
    (s.chain r).spn = s.spn ∧ (s.chain r).sl = s.sl ∧ (s.chain r).dig = s.dig ∧ (s.chain r).ks = s.ks ∧
    (s.chain r).arb = s.arb ∧ (s.chain r).mem = s.mem ∧ (s.chain r).skn = s.skn ∧ (s.chain r).kp = s.kp ∧
    (s.chain r).tmp = s.tmp ∧ (s.chain r).life = s.life ∧ (s.chain r).mss = s.mss ∧ (s.chain r).card = s.card ∧
    (s.chain r).pwr = s.pwr ∧ (s.chain r).pending = s.pending := by
  unfold State.chain
  (repeat' split) <;> simp
@[simp] theorem State.chain_queues (r : JRec) (s : State) : (s.chain r).queues = s.queues :=
  (State.chain_frame r s).1
@[simp] theorem State.chain_epochBase (r : JRec) (s : State) : (s.chain r).epochBase = s.epochBase :=
  (State.chain_frame r s).2.1
@[simp] theorem State.chain_domains (r : JRec) (s : State) : (s.chain r).domains = s.domains :=
  (State.chain_frame r s).2.2.1
@[simp] theorem State.chain_spn (r : JRec) (s : State) : (s.chain r).spn = s.spn :=
  (State.chain_frame r s).2.2.2.1
@[simp] theorem State.chain_sl (r : JRec) (s : State) : (s.chain r).sl = s.sl :=
  (State.chain_frame r s).2.2.2.2.1
@[simp] theorem State.chain_dig (r : JRec) (s : State) : (s.chain r).dig = s.dig :=
  (State.chain_frame r s).2.2.2.2.2.1
@[simp] theorem State.chain_ks (r : JRec) (s : State) : (s.chain r).ks = s.ks :=
  (State.chain_frame r s).2.2.2.2.2.2.1
@[simp] theorem State.chain_arb (r : JRec) (s : State) : (s.chain r).arb = s.arb :=
  (State.chain_frame r s).2.2.2.2.2.2.2.1
@[simp] theorem State.chain_mem (r : JRec) (s : State) : (s.chain r).mem = s.mem :=
  (State.chain_frame r s).2.2.2.2.2.2.2.2.1
@[simp] theorem State.chain_skn (r : JRec) (s : State) : (s.chain r).skn = s.skn :=
  (State.chain_frame r s).2.2.2.2.2.2.2.2.2.1
@[simp] theorem State.chain_kp (r : JRec) (s : State) : (s.chain r).kp = s.kp :=
  (State.chain_frame r s).2.2.2.2.2.2.2.2.2.2.1
@[simp] theorem State.chain_tmp (r : JRec) (s : State) : (s.chain r).tmp = s.tmp :=
  (State.chain_frame r s).2.2.2.2.2.2.2.2.2.2.2.1
@[simp] theorem State.chain_life (r : JRec) (s : State) : (s.chain r).life = s.life :=
  (State.chain_frame r s).2.2.2.2.2.2.2.2.2.2.2.2.1
@[simp] theorem State.chain_mss (r : JRec) (s : State) : (s.chain r).mss = s.mss :=
  (State.chain_frame r s).2.2.2.2.2.2.2.2.2.2.2.2.2.1
@[simp] theorem State.chain_card (r : JRec) (s : State) : (s.chain r).card = s.card :=
  (State.chain_frame r s).2.2.2.2.2.2.2.2.2.2.2.2.2.2.1
@[simp] theorem State.chain_pwr (r : JRec) (s : State) : (s.chain r).pwr = s.pwr :=
  (State.chain_frame r s).2.2.2.2.2.2.2.2.2.2.2.2.2.2.2.1
@[simp] theorem State.chain_pending (r : JRec) (s : State) : (s.chain r).pending = s.pending :=
  (State.chain_frame r s).2.2.2.2.2.2.2.2.2.2.2.2.2.2.2.2

/-- backpressure touches `gctl`, `posted` at most. -/
theorem State.backpressure_frame (s : State) :
    s.backpressure.queues = s.queues ∧ s.backpressure.epochBase = s.epochBase ∧ s.backpressure.domains = s.domains ∧
    s.backpressure.led = s.led ∧ s.backpressure.ru = s.ru ∧ s.backpressure.spn = s.spn ∧ s.backpressure.sl = s.sl ∧
    s.backpressure.dig = s.dig ∧ s.backpressure.ks = s.ks ∧ s.backpressure.arb = s.arb ∧ s.backpressure.mem = s.mem ∧
    s.backpressure.skn = s.skn ∧ s.backpressure.kp = s.kp ∧ s.backpressure.tmp = s.tmp ∧ s.backpressure.life = s.life ∧
    s.backpressure.mss = s.mss ∧ s.backpressure.card = s.card ∧ s.backpressure.pwr = s.pwr ∧
    s.backpressure.pending = s.pending := by
  unfold State.backpressure
  (repeat' split) <;> simp
@[simp] theorem State.backpressure_queues (s : State) : s.backpressure.queues = s.queues :=
  (State.backpressure_frame s).1
@[simp] theorem State.backpressure_epochBase (s : State) : s.backpressure.epochBase = s.epochBase :=
  (State.backpressure_frame s).2.1
@[simp] theorem State.backpressure_domains (s : State) : s.backpressure.domains = s.domains :=
  (State.backpressure_frame s).2.2.1
@[simp] theorem State.backpressure_led (s : State) : s.backpressure.led = s.led :=
  (State.backpressure_frame s).2.2.2.1
@[simp] theorem State.backpressure_ru (s : State) : s.backpressure.ru = s.ru :=
  (State.backpressure_frame s).2.2.2.2.1
@[simp] theorem State.backpressure_spn (s : State) : s.backpressure.spn = s.spn :=
  (State.backpressure_frame s).2.2.2.2.2.1
@[simp] theorem State.backpressure_sl (s : State) : s.backpressure.sl = s.sl :=
  (State.backpressure_frame s).2.2.2.2.2.2.1
@[simp] theorem State.backpressure_dig (s : State) : s.backpressure.dig = s.dig :=
  (State.backpressure_frame s).2.2.2.2.2.2.2.1
@[simp] theorem State.backpressure_ks (s : State) : s.backpressure.ks = s.ks :=
  (State.backpressure_frame s).2.2.2.2.2.2.2.2.1
@[simp] theorem State.backpressure_arb (s : State) : s.backpressure.arb = s.arb :=
  (State.backpressure_frame s).2.2.2.2.2.2.2.2.2.1
@[simp] theorem State.backpressure_mem (s : State) : s.backpressure.mem = s.mem :=
  (State.backpressure_frame s).2.2.2.2.2.2.2.2.2.2.1
@[simp] theorem State.backpressure_skn (s : State) : s.backpressure.skn = s.skn :=
  (State.backpressure_frame s).2.2.2.2.2.2.2.2.2.2.2.1
@[simp] theorem State.backpressure_kp (s : State) : s.backpressure.kp = s.kp :=
  (State.backpressure_frame s).2.2.2.2.2.2.2.2.2.2.2.2.1
@[simp] theorem State.backpressure_tmp (s : State) : s.backpressure.tmp = s.tmp :=
  (State.backpressure_frame s).2.2.2.2.2.2.2.2.2.2.2.2.2.1
@[simp] theorem State.backpressure_life (s : State) : s.backpressure.life = s.life :=
  (State.backpressure_frame s).2.2.2.2.2.2.2.2.2.2.2.2.2.2.1
@[simp] theorem State.backpressure_mss (s : State) : s.backpressure.mss = s.mss :=
  (State.backpressure_frame s).2.2.2.2.2.2.2.2.2.2.2.2.2.2.2.1
@[simp] theorem State.backpressure_card (s : State) : s.backpressure.card = s.card :=
  (State.backpressure_frame s).2.2.2.2.2.2.2.2.2.2.2.2.2.2.2.2.1
@[simp] theorem State.backpressure_pwr (s : State) : s.backpressure.pwr = s.pwr :=
  (State.backpressure_frame s).2.2.2.2.2.2.2.2.2.2.2.2.2.2.2.2.2.1
@[simp] theorem State.backpressure_pending (s : State) : s.backpressure.pending = s.pending :=
  (State.backpressure_frame s).2.2.2.2.2.2.2.2.2.2.2.2.2.2.2.2.2.2

/-- markChecker touches `gctl`, `led`, `posted` at most. -/
theorem State.markChecker_frame (n : PoolId) (p : Pool) (s : State) :
    (s.markChecker n p).queues = s.queues ∧ (s.markChecker n p).epochBase = s.epochBase ∧
    (s.markChecker n p).domains = s.domains ∧ (s.markChecker n p).ru = s.ru ∧ (s.markChecker n p).spn = s.spn ∧
    (s.markChecker n p).sl = s.sl ∧ (s.markChecker n p).dig = s.dig ∧ (s.markChecker n p).ks = s.ks ∧
    (s.markChecker n p).arb = s.arb ∧ (s.markChecker n p).mem = s.mem ∧ (s.markChecker n p).skn = s.skn ∧
    (s.markChecker n p).kp = s.kp ∧ (s.markChecker n p).tmp = s.tmp ∧ (s.markChecker n p).life = s.life ∧
    (s.markChecker n p).mss = s.mss ∧ (s.markChecker n p).card = s.card ∧ (s.markChecker n p).pwr = s.pwr ∧
    (s.markChecker n p).pending = s.pending := by
  unfold State.markChecker
  (repeat' split) <;> simp
@[simp] theorem State.markChecker_queues (n : PoolId) (p : Pool) (s : State) : (s.markChecker n p).queues = s.queues :=
  (State.markChecker_frame n p s).1
@[simp] theorem State.markChecker_epochBase (n : PoolId) (p : Pool) (s : State) : (s.markChecker n p).epochBase = s.epochBase :=
  (State.markChecker_frame n p s).2.1
@[simp] theorem State.markChecker_domains (n : PoolId) (p : Pool) (s : State) : (s.markChecker n p).domains = s.domains :=
  (State.markChecker_frame n p s).2.2.1
@[simp] theorem State.markChecker_ru (n : PoolId) (p : Pool) (s : State) : (s.markChecker n p).ru = s.ru :=
  (State.markChecker_frame n p s).2.2.2.1
@[simp] theorem State.markChecker_spn (n : PoolId) (p : Pool) (s : State) : (s.markChecker n p).spn = s.spn :=
  (State.markChecker_frame n p s).2.2.2.2.1
@[simp] theorem State.markChecker_sl (n : PoolId) (p : Pool) (s : State) : (s.markChecker n p).sl = s.sl :=
  (State.markChecker_frame n p s).2.2.2.2.2.1
@[simp] theorem State.markChecker_dig (n : PoolId) (p : Pool) (s : State) : (s.markChecker n p).dig = s.dig :=
  (State.markChecker_frame n p s).2.2.2.2.2.2.1
@[simp] theorem State.markChecker_ks (n : PoolId) (p : Pool) (s : State) : (s.markChecker n p).ks = s.ks :=
  (State.markChecker_frame n p s).2.2.2.2.2.2.2.1
@[simp] theorem State.markChecker_arb (n : PoolId) (p : Pool) (s : State) : (s.markChecker n p).arb = s.arb :=
  (State.markChecker_frame n p s).2.2.2.2.2.2.2.2.1
@[simp] theorem State.markChecker_mem (n : PoolId) (p : Pool) (s : State) : (s.markChecker n p).mem = s.mem :=
  (State.markChecker_frame n p s).2.2.2.2.2.2.2.2.2.1
@[simp] theorem State.markChecker_skn (n : PoolId) (p : Pool) (s : State) : (s.markChecker n p).skn = s.skn :=
  (State.markChecker_frame n p s).2.2.2.2.2.2.2.2.2.2.1
@[simp] theorem State.markChecker_kp (n : PoolId) (p : Pool) (s : State) : (s.markChecker n p).kp = s.kp :=
  (State.markChecker_frame n p s).2.2.2.2.2.2.2.2.2.2.2.1
@[simp] theorem State.markChecker_tmp (n : PoolId) (p : Pool) (s : State) : (s.markChecker n p).tmp = s.tmp :=
  (State.markChecker_frame n p s).2.2.2.2.2.2.2.2.2.2.2.2.1
@[simp] theorem State.markChecker_life (n : PoolId) (p : Pool) (s : State) : (s.markChecker n p).life = s.life :=
  (State.markChecker_frame n p s).2.2.2.2.2.2.2.2.2.2.2.2.2.1
@[simp] theorem State.markChecker_mss (n : PoolId) (p : Pool) (s : State) : (s.markChecker n p).mss = s.mss :=
  (State.markChecker_frame n p s).2.2.2.2.2.2.2.2.2.2.2.2.2.2.1
@[simp] theorem State.markChecker_card (n : PoolId) (p : Pool) (s : State) : (s.markChecker n p).card = s.card :=
  (State.markChecker_frame n p s).2.2.2.2.2.2.2.2.2.2.2.2.2.2.2.1
@[simp] theorem State.markChecker_pwr (n : PoolId) (p : Pool) (s : State) : (s.markChecker n p).pwr = s.pwr :=
  (State.markChecker_frame n p s).2.2.2.2.2.2.2.2.2.2.2.2.2.2.2.2.1
@[simp] theorem State.markChecker_pending (n : PoolId) (p : Pool) (s : State) : (s.markChecker n p).pending = s.pending :=
  (State.markChecker_frame n p s).2.2.2.2.2.2.2.2.2.2.2.2.2.2.2.2.2

/-- change touches `gctl`, `led`, `posted` at most. -/
theorem State.change_frame (n : PoolId) (d : Delta) (f : Pool → Pool) (s : State) :
    (s.change n d f).1.queues = s.queues ∧ (s.change n d f).1.epochBase = s.epochBase ∧ (s.change n d f).1.domains = s.domains ∧
    (s.change n d f).1.ru = s.ru ∧ (s.change n d f).1.spn = s.spn ∧ (s.change n d f).1.sl = s.sl ∧
    (s.change n d f).1.dig = s.dig ∧ (s.change n d f).1.ks = s.ks ∧ (s.change n d f).1.arb = s.arb ∧
    (s.change n d f).1.mem = s.mem ∧ (s.change n d f).1.skn = s.skn ∧ (s.change n d f).1.kp = s.kp ∧
    (s.change n d f).1.tmp = s.tmp ∧ (s.change n d f).1.life = s.life ∧ (s.change n d f).1.mss = s.mss ∧
    (s.change n d f).1.card = s.card ∧ (s.change n d f).1.pwr = s.pwr ∧ (s.change n d f).1.pending = s.pending := by
  unfold State.change
  (repeat' split) <;> simp
@[simp] theorem State.change_queues (n : PoolId) (d : Delta) (f : Pool → Pool) (s : State) : (s.change n d f).1.queues = s.queues :=
  (State.change_frame n d f s).1
@[simp] theorem State.change_epochBase (n : PoolId) (d : Delta) (f : Pool → Pool) (s : State) : (s.change n d f).1.epochBase = s.epochBase :=
  (State.change_frame n d f s).2.1
@[simp] theorem State.change_domains (n : PoolId) (d : Delta) (f : Pool → Pool) (s : State) : (s.change n d f).1.domains = s.domains :=
  (State.change_frame n d f s).2.2.1
@[simp] theorem State.change_ru (n : PoolId) (d : Delta) (f : Pool → Pool) (s : State) : (s.change n d f).1.ru = s.ru :=
  (State.change_frame n d f s).2.2.2.1
@[simp] theorem State.change_spn (n : PoolId) (d : Delta) (f : Pool → Pool) (s : State) : (s.change n d f).1.spn = s.spn :=
  (State.change_frame n d f s).2.2.2.2.1
@[simp] theorem State.change_sl (n : PoolId) (d : Delta) (f : Pool → Pool) (s : State) : (s.change n d f).1.sl = s.sl :=
  (State.change_frame n d f s).2.2.2.2.2.1
@[simp] theorem State.change_dig (n : PoolId) (d : Delta) (f : Pool → Pool) (s : State) : (s.change n d f).1.dig = s.dig :=
  (State.change_frame n d f s).2.2.2.2.2.2.1
@[simp] theorem State.change_ks (n : PoolId) (d : Delta) (f : Pool → Pool) (s : State) : (s.change n d f).1.ks = s.ks :=
  (State.change_frame n d f s).2.2.2.2.2.2.2.1
@[simp] theorem State.change_arb (n : PoolId) (d : Delta) (f : Pool → Pool) (s : State) : (s.change n d f).1.arb = s.arb :=
  (State.change_frame n d f s).2.2.2.2.2.2.2.2.1
@[simp] theorem State.change_mem (n : PoolId) (d : Delta) (f : Pool → Pool) (s : State) : (s.change n d f).1.mem = s.mem :=
  (State.change_frame n d f s).2.2.2.2.2.2.2.2.2.1
@[simp] theorem State.change_skn (n : PoolId) (d : Delta) (f : Pool → Pool) (s : State) : (s.change n d f).1.skn = s.skn :=
  (State.change_frame n d f s).2.2.2.2.2.2.2.2.2.2.1
@[simp] theorem State.change_kp (n : PoolId) (d : Delta) (f : Pool → Pool) (s : State) : (s.change n d f).1.kp = s.kp :=
  (State.change_frame n d f s).2.2.2.2.2.2.2.2.2.2.2.1
@[simp] theorem State.change_tmp (n : PoolId) (d : Delta) (f : Pool → Pool) (s : State) : (s.change n d f).1.tmp = s.tmp :=
  (State.change_frame n d f s).2.2.2.2.2.2.2.2.2.2.2.2.1
@[simp] theorem State.change_life (n : PoolId) (d : Delta) (f : Pool → Pool) (s : State) : (s.change n d f).1.life = s.life :=
  (State.change_frame n d f s).2.2.2.2.2.2.2.2.2.2.2.2.2.1
@[simp] theorem State.change_mss (n : PoolId) (d : Delta) (f : Pool → Pool) (s : State) : (s.change n d f).1.mss = s.mss :=
  (State.change_frame n d f s).2.2.2.2.2.2.2.2.2.2.2.2.2.2.1
@[simp] theorem State.change_card (n : PoolId) (d : Delta) (f : Pool → Pool) (s : State) : (s.change n d f).1.card = s.card :=
  (State.change_frame n d f s).2.2.2.2.2.2.2.2.2.2.2.2.2.2.2.1
@[simp] theorem State.change_pwr (n : PoolId) (d : Delta) (f : Pool → Pool) (s : State) : (s.change n d f).1.pwr = s.pwr :=
  (State.change_frame n d f s).2.2.2.2.2.2.2.2.2.2.2.2.2.2.2.2.1
@[simp] theorem State.change_pending (n : PoolId) (d : Delta) (f : Pool → Pool) (s : State) : (s.change n d f).1.pending = s.pending :=
  (State.change_frame n d f s).2.2.2.2.2.2.2.2.2.2.2.2.2.2.2.2.2

/-- endLock touches `gctl`, `led`, `ru`, `posted` at most. -/
theorem State.endLock_frame (n : PoolId) (flags : Byte) (after : List After) (s : State) :
    (s.endLock n flags after).queues = s.queues ∧ (s.endLock n flags after).epochBase = s.epochBase ∧
    (s.endLock n flags after).domains = s.domains ∧ (s.endLock n flags after).spn = s.spn ∧
    (s.endLock n flags after).sl = s.sl ∧ (s.endLock n flags after).dig = s.dig ∧ (s.endLock n flags after).ks = s.ks ∧
    (s.endLock n flags after).arb = s.arb ∧ (s.endLock n flags after).mem = s.mem ∧ (s.endLock n flags after).skn = s.skn ∧
    (s.endLock n flags after).kp = s.kp ∧ (s.endLock n flags after).tmp = s.tmp ∧ (s.endLock n flags after).life = s.life ∧
    (s.endLock n flags after).mss = s.mss ∧ (s.endLock n flags after).card = s.card ∧ (s.endLock n flags after).pwr = s.pwr ∧
    (s.endLock n flags after).pending = s.pending := by
  unfold State.endLock
  dsimp only
  (repeat' split) <;> simp
@[simp] theorem State.endLock_queues (n : PoolId) (flags : Byte) (after : List After) (s : State) : (s.endLock n flags after).queues = s.queues :=
  (State.endLock_frame n flags after s).1
@[simp] theorem State.endLock_epochBase (n : PoolId) (flags : Byte) (after : List After) (s : State) : (s.endLock n flags after).epochBase = s.epochBase :=
  (State.endLock_frame n flags after s).2.1
@[simp] theorem State.endLock_domains (n : PoolId) (flags : Byte) (after : List After) (s : State) : (s.endLock n flags after).domains = s.domains :=
  (State.endLock_frame n flags after s).2.2.1
@[simp] theorem State.endLock_spn (n : PoolId) (flags : Byte) (after : List After) (s : State) : (s.endLock n flags after).spn = s.spn :=
  (State.endLock_frame n flags after s).2.2.2.1
@[simp] theorem State.endLock_sl (n : PoolId) (flags : Byte) (after : List After) (s : State) : (s.endLock n flags after).sl = s.sl :=
  (State.endLock_frame n flags after s).2.2.2.2.1
@[simp] theorem State.endLock_dig (n : PoolId) (flags : Byte) (after : List After) (s : State) : (s.endLock n flags after).dig = s.dig :=
  (State.endLock_frame n flags after s).2.2.2.2.2.1
@[simp] theorem State.endLock_ks (n : PoolId) (flags : Byte) (after : List After) (s : State) : (s.endLock n flags after).ks = s.ks :=
  (State.endLock_frame n flags after s).2.2.2.2.2.2.1
@[simp] theorem State.endLock_arb (n : PoolId) (flags : Byte) (after : List After) (s : State) : (s.endLock n flags after).arb = s.arb :=
  (State.endLock_frame n flags after s).2.2.2.2.2.2.2.1
@[simp] theorem State.endLock_mem (n : PoolId) (flags : Byte) (after : List After) (s : State) : (s.endLock n flags after).mem = s.mem :=
  (State.endLock_frame n flags after s).2.2.2.2.2.2.2.2.1
@[simp] theorem State.endLock_skn (n : PoolId) (flags : Byte) (after : List After) (s : State) : (s.endLock n flags after).skn = s.skn :=
  (State.endLock_frame n flags after s).2.2.2.2.2.2.2.2.2.1
@[simp] theorem State.endLock_kp (n : PoolId) (flags : Byte) (after : List After) (s : State) : (s.endLock n flags after).kp = s.kp :=
  (State.endLock_frame n flags after s).2.2.2.2.2.2.2.2.2.2.1
@[simp] theorem State.endLock_tmp (n : PoolId) (flags : Byte) (after : List After) (s : State) : (s.endLock n flags after).tmp = s.tmp :=
  (State.endLock_frame n flags after s).2.2.2.2.2.2.2.2.2.2.2.1
@[simp] theorem State.endLock_life (n : PoolId) (flags : Byte) (after : List After) (s : State) : (s.endLock n flags after).life = s.life :=
  (State.endLock_frame n flags after s).2.2.2.2.2.2.2.2.2.2.2.2.1
@[simp] theorem State.endLock_mss (n : PoolId) (flags : Byte) (after : List After) (s : State) : (s.endLock n flags after).mss = s.mss :=
  (State.endLock_frame n flags after s).2.2.2.2.2.2.2.2.2.2.2.2.2.1
@[simp] theorem State.endLock_card (n : PoolId) (flags : Byte) (after : List After) (s : State) : (s.endLock n flags after).card = s.card :=
  (State.endLock_frame n flags after s).2.2.2.2.2.2.2.2.2.2.2.2.2.2.1
@[simp] theorem State.endLock_pwr (n : PoolId) (flags : Byte) (after : List After) (s : State) : (s.endLock n flags after).pwr = s.pwr :=
  (State.endLock_frame n flags after s).2.2.2.2.2.2.2.2.2.2.2.2.2.2.2.1
@[simp] theorem State.endLock_pending (n : PoolId) (flags : Byte) (after : List After) (s : State) : (s.endLock n flags after).pending = s.pending :=
  (State.endLock_frame n flags after s).2.2.2.2.2.2.2.2.2.2.2.2.2.2.2.2

/-- freezePool touches `gctl`, `led`, `ru`, `posted` at most. -/
theorem State.freezePool_frame (n : PoolId) (causes : Byte) (after : List After) (s : State) :
    (s.freezePool n causes after).queues = s.queues ∧ (s.freezePool n causes after).epochBase = s.epochBase ∧
    (s.freezePool n causes after).domains = s.domains ∧ (s.freezePool n causes after).spn = s.spn ∧
    (s.freezePool n causes after).sl = s.sl ∧ (s.freezePool n causes after).dig = s.dig ∧
    (s.freezePool n causes after).ks = s.ks ∧ (s.freezePool n causes after).arb = s.arb ∧
    (s.freezePool n causes after).mem = s.mem ∧ (s.freezePool n causes after).skn = s.skn ∧
    (s.freezePool n causes after).kp = s.kp ∧ (s.freezePool n causes after).tmp = s.tmp ∧
    (s.freezePool n causes after).life = s.life ∧ (s.freezePool n causes after).mss = s.mss ∧
    (s.freezePool n causes after).card = s.card ∧ (s.freezePool n causes after).pwr = s.pwr ∧
    (s.freezePool n causes after).pending = s.pending := by
  unfold State.freezePool
  (repeat' split) <;> simp
@[simp] theorem State.freezePool_queues (n : PoolId) (causes : Byte) (after : List After) (s : State) : (s.freezePool n causes after).queues = s.queues :=
  (State.freezePool_frame n causes after s).1
@[simp] theorem State.freezePool_epochBase (n : PoolId) (causes : Byte) (after : List After) (s : State) : (s.freezePool n causes after).epochBase = s.epochBase :=
  (State.freezePool_frame n causes after s).2.1
@[simp] theorem State.freezePool_domains (n : PoolId) (causes : Byte) (after : List After) (s : State) : (s.freezePool n causes after).domains = s.domains :=
  (State.freezePool_frame n causes after s).2.2.1
@[simp] theorem State.freezePool_spn (n : PoolId) (causes : Byte) (after : List After) (s : State) : (s.freezePool n causes after).spn = s.spn :=
  (State.freezePool_frame n causes after s).2.2.2.1
@[simp] theorem State.freezePool_sl (n : PoolId) (causes : Byte) (after : List After) (s : State) : (s.freezePool n causes after).sl = s.sl :=
  (State.freezePool_frame n causes after s).2.2.2.2.1
@[simp] theorem State.freezePool_dig (n : PoolId) (causes : Byte) (after : List After) (s : State) : (s.freezePool n causes after).dig = s.dig :=
  (State.freezePool_frame n causes after s).2.2.2.2.2.1
@[simp] theorem State.freezePool_ks (n : PoolId) (causes : Byte) (after : List After) (s : State) : (s.freezePool n causes after).ks = s.ks :=
  (State.freezePool_frame n causes after s).2.2.2.2.2.2.1
@[simp] theorem State.freezePool_arb (n : PoolId) (causes : Byte) (after : List After) (s : State) : (s.freezePool n causes after).arb = s.arb :=
  (State.freezePool_frame n causes after s).2.2.2.2.2.2.2.1
@[simp] theorem State.freezePool_mem (n : PoolId) (causes : Byte) (after : List After) (s : State) : (s.freezePool n causes after).mem = s.mem :=
  (State.freezePool_frame n causes after s).2.2.2.2.2.2.2.2.1
@[simp] theorem State.freezePool_skn (n : PoolId) (causes : Byte) (after : List After) (s : State) : (s.freezePool n causes after).skn = s.skn :=
  (State.freezePool_frame n causes after s).2.2.2.2.2.2.2.2.2.1
@[simp] theorem State.freezePool_kp (n : PoolId) (causes : Byte) (after : List After) (s : State) : (s.freezePool n causes after).kp = s.kp :=
  (State.freezePool_frame n causes after s).2.2.2.2.2.2.2.2.2.2.1
@[simp] theorem State.freezePool_tmp (n : PoolId) (causes : Byte) (after : List After) (s : State) : (s.freezePool n causes after).tmp = s.tmp :=
  (State.freezePool_frame n causes after s).2.2.2.2.2.2.2.2.2.2.2.1
@[simp] theorem State.freezePool_life (n : PoolId) (causes : Byte) (after : List After) (s : State) : (s.freezePool n causes after).life = s.life :=
  (State.freezePool_frame n causes after s).2.2.2.2.2.2.2.2.2.2.2.2.1
@[simp] theorem State.freezePool_mss (n : PoolId) (causes : Byte) (after : List After) (s : State) : (s.freezePool n causes after).mss = s.mss :=
  (State.freezePool_frame n causes after s).2.2.2.2.2.2.2.2.2.2.2.2.2.1
@[simp] theorem State.freezePool_card (n : PoolId) (causes : Byte) (after : List After) (s : State) : (s.freezePool n causes after).card = s.card :=
  (State.freezePool_frame n causes after s).2.2.2.2.2.2.2.2.2.2.2.2.2.2.1
@[simp] theorem State.freezePool_pwr (n : PoolId) (causes : Byte) (after : List After) (s : State) : (s.freezePool n causes after).pwr = s.pwr :=
  (State.freezePool_frame n causes after s).2.2.2.2.2.2.2.2.2.2.2.2.2.2.2.1
@[simp] theorem State.freezePool_pending (n : PoolId) (causes : Byte) (after : List After) (s : State) : (s.freezePool n causes after).pending = s.pending :=
  (State.freezePool_frame n causes after s).2.2.2.2.2.2.2.2.2.2.2.2.2.2.2.2

/-- thawPool touches `gctl`, `led`, `ru`, `posted` at most. -/
theorem State.thawPool_frame (n : PoolId) (causes : Byte) (after : List After) (s : State) :
    (s.thawPool n causes after).queues = s.queues ∧ (s.thawPool n causes after).epochBase = s.epochBase ∧
    (s.thawPool n causes after).domains = s.domains ∧ (s.thawPool n causes after).spn = s.spn ∧
    (s.thawPool n causes after).sl = s.sl ∧ (s.thawPool n causes after).dig = s.dig ∧ (s.thawPool n causes after).ks = s.ks ∧
    (s.thawPool n causes after).arb = s.arb ∧ (s.thawPool n causes after).mem = s.mem ∧
    (s.thawPool n causes after).skn = s.skn ∧ (s.thawPool n causes after).kp = s.kp ∧ (s.thawPool n causes after).tmp = s.tmp ∧
    (s.thawPool n causes after).life = s.life ∧ (s.thawPool n causes after).mss = s.mss ∧
    (s.thawPool n causes after).card = s.card ∧ (s.thawPool n causes after).pwr = s.pwr ∧
    (s.thawPool n causes after).pending = s.pending := by
  unfold State.thawPool
  dsimp only
  (repeat' split) <;> simp
@[simp] theorem State.thawPool_queues (n : PoolId) (causes : Byte) (after : List After) (s : State) : (s.thawPool n causes after).queues = s.queues :=
  (State.thawPool_frame n causes after s).1
@[simp] theorem State.thawPool_epochBase (n : PoolId) (causes : Byte) (after : List After) (s : State) : (s.thawPool n causes after).epochBase = s.epochBase :=
  (State.thawPool_frame n causes after s).2.1
@[simp] theorem State.thawPool_domains (n : PoolId) (causes : Byte) (after : List After) (s : State) : (s.thawPool n causes after).domains = s.domains :=
  (State.thawPool_frame n causes after s).2.2.1
@[simp] theorem State.thawPool_spn (n : PoolId) (causes : Byte) (after : List After) (s : State) : (s.thawPool n causes after).spn = s.spn :=
  (State.thawPool_frame n causes after s).2.2.2.1
@[simp] theorem State.thawPool_sl (n : PoolId) (causes : Byte) (after : List After) (s : State) : (s.thawPool n causes after).sl = s.sl :=
  (State.thawPool_frame n causes after s).2.2.2.2.1
@[simp] theorem State.thawPool_dig (n : PoolId) (causes : Byte) (after : List After) (s : State) : (s.thawPool n causes after).dig = s.dig :=
  (State.thawPool_frame n causes after s).2.2.2.2.2.1
@[simp] theorem State.thawPool_ks (n : PoolId) (causes : Byte) (after : List After) (s : State) : (s.thawPool n causes after).ks = s.ks :=
  (State.thawPool_frame n causes after s).2.2.2.2.2.2.1
@[simp] theorem State.thawPool_arb (n : PoolId) (causes : Byte) (after : List After) (s : State) : (s.thawPool n causes after).arb = s.arb :=
  (State.thawPool_frame n causes after s).2.2.2.2.2.2.2.1
@[simp] theorem State.thawPool_mem (n : PoolId) (causes : Byte) (after : List After) (s : State) : (s.thawPool n causes after).mem = s.mem :=
  (State.thawPool_frame n causes after s).2.2.2.2.2.2.2.2.1
@[simp] theorem State.thawPool_skn (n : PoolId) (causes : Byte) (after : List After) (s : State) : (s.thawPool n causes after).skn = s.skn :=
  (State.thawPool_frame n causes after s).2.2.2.2.2.2.2.2.2.1
@[simp] theorem State.thawPool_kp (n : PoolId) (causes : Byte) (after : List After) (s : State) : (s.thawPool n causes after).kp = s.kp :=
  (State.thawPool_frame n causes after s).2.2.2.2.2.2.2.2.2.2.1
@[simp] theorem State.thawPool_tmp (n : PoolId) (causes : Byte) (after : List After) (s : State) : (s.thawPool n causes after).tmp = s.tmp :=
  (State.thawPool_frame n causes after s).2.2.2.2.2.2.2.2.2.2.2.1
@[simp] theorem State.thawPool_life (n : PoolId) (causes : Byte) (after : List After) (s : State) : (s.thawPool n causes after).life = s.life :=
  (State.thawPool_frame n causes after s).2.2.2.2.2.2.2.2.2.2.2.2.1
@[simp] theorem State.thawPool_mss (n : PoolId) (causes : Byte) (after : List After) (s : State) : (s.thawPool n causes after).mss = s.mss :=
  (State.thawPool_frame n causes after s).2.2.2.2.2.2.2.2.2.2.2.2.2.1
@[simp] theorem State.thawPool_card (n : PoolId) (causes : Byte) (after : List After) (s : State) : (s.thawPool n causes after).card = s.card :=
  (State.thawPool_frame n causes after s).2.2.2.2.2.2.2.2.2.2.2.2.2.2.1
@[simp] theorem State.thawPool_pwr (n : PoolId) (causes : Byte) (after : List After) (s : State) : (s.thawPool n causes after).pwr = s.pwr :=
  (State.thawPool_frame n causes after s).2.2.2.2.2.2.2.2.2.2.2.2.2.2.2.1
@[simp] theorem State.thawPool_pending (n : PoolId) (causes : Byte) (after : List After) (s : State) : (s.thawPool n causes after).pending = s.pending :=
  (State.thawPool_frame n causes after s).2.2.2.2.2.2.2.2.2.2.2.2.2.2.2.2

/-- closeTransfer touches `gctl`, `led`, `ru`, `skn`, `posted` at most. -/
theorem State.closeTransfer_frame (id : BitVec 64) (s : State) :
    (s.closeTransfer id).queues = s.queues ∧ (s.closeTransfer id).epochBase = s.epochBase ∧
    (s.closeTransfer id).domains = s.domains ∧ (s.closeTransfer id).spn = s.spn ∧ (s.closeTransfer id).sl = s.sl ∧
    (s.closeTransfer id).dig = s.dig ∧ (s.closeTransfer id).ks = s.ks ∧ (s.closeTransfer id).arb = s.arb ∧
    (s.closeTransfer id).mem = s.mem ∧ (s.closeTransfer id).kp = s.kp ∧ (s.closeTransfer id).tmp = s.tmp ∧
    (s.closeTransfer id).life = s.life ∧ (s.closeTransfer id).mss = s.mss ∧ (s.closeTransfer id).card = s.card ∧
    (s.closeTransfer id).pwr = s.pwr ∧ (s.closeTransfer id).pending = s.pending := by
  unfold State.closeTransfer
  (repeat' split) <;> simp
@[simp] theorem State.closeTransfer_queues (id : BitVec 64) (s : State) : (s.closeTransfer id).queues = s.queues :=
  (State.closeTransfer_frame id s).1
@[simp] theorem State.closeTransfer_epochBase (id : BitVec 64) (s : State) : (s.closeTransfer id).epochBase = s.epochBase :=
  (State.closeTransfer_frame id s).2.1
@[simp] theorem State.closeTransfer_domains (id : BitVec 64) (s : State) : (s.closeTransfer id).domains = s.domains :=
  (State.closeTransfer_frame id s).2.2.1
@[simp] theorem State.closeTransfer_spn (id : BitVec 64) (s : State) : (s.closeTransfer id).spn = s.spn :=
  (State.closeTransfer_frame id s).2.2.2.1
@[simp] theorem State.closeTransfer_sl (id : BitVec 64) (s : State) : (s.closeTransfer id).sl = s.sl :=
  (State.closeTransfer_frame id s).2.2.2.2.1
@[simp] theorem State.closeTransfer_dig (id : BitVec 64) (s : State) : (s.closeTransfer id).dig = s.dig :=
  (State.closeTransfer_frame id s).2.2.2.2.2.1
@[simp] theorem State.closeTransfer_ks (id : BitVec 64) (s : State) : (s.closeTransfer id).ks = s.ks :=
  (State.closeTransfer_frame id s).2.2.2.2.2.2.1
@[simp] theorem State.closeTransfer_arb (id : BitVec 64) (s : State) : (s.closeTransfer id).arb = s.arb :=
  (State.closeTransfer_frame id s).2.2.2.2.2.2.2.1
@[simp] theorem State.closeTransfer_mem (id : BitVec 64) (s : State) : (s.closeTransfer id).mem = s.mem :=
  (State.closeTransfer_frame id s).2.2.2.2.2.2.2.2.1
@[simp] theorem State.closeTransfer_kp (id : BitVec 64) (s : State) : (s.closeTransfer id).kp = s.kp :=
  (State.closeTransfer_frame id s).2.2.2.2.2.2.2.2.2.1
@[simp] theorem State.closeTransfer_tmp (id : BitVec 64) (s : State) : (s.closeTransfer id).tmp = s.tmp :=
  (State.closeTransfer_frame id s).2.2.2.2.2.2.2.2.2.2.1
@[simp] theorem State.closeTransfer_life (id : BitVec 64) (s : State) : (s.closeTransfer id).life = s.life :=
  (State.closeTransfer_frame id s).2.2.2.2.2.2.2.2.2.2.2.1
@[simp] theorem State.closeTransfer_mss (id : BitVec 64) (s : State) : (s.closeTransfer id).mss = s.mss :=
  (State.closeTransfer_frame id s).2.2.2.2.2.2.2.2.2.2.2.2.1
@[simp] theorem State.closeTransfer_card (id : BitVec 64) (s : State) : (s.closeTransfer id).card = s.card :=
  (State.closeTransfer_frame id s).2.2.2.2.2.2.2.2.2.2.2.2.2.1
@[simp] theorem State.closeTransfer_pwr (id : BitVec 64) (s : State) : (s.closeTransfer id).pwr = s.pwr :=
  (State.closeTransfer_frame id s).2.2.2.2.2.2.2.2.2.2.2.2.2.2.1
@[simp] theorem State.closeTransfer_pending (id : BitVec 64) (s : State) : (s.closeTransfer id).pending = s.pending :=
  (State.closeTransfer_frame id s).2.2.2.2.2.2.2.2.2.2.2.2.2.2.2

/-- makeTombstone touches `gctl`, `led`, `ru`, `skn`, `posted` at most. -/
theorem State.makeTombstone_frame (src : BitVec 6) (id : BitVec 64) (s : State) :
    (s.makeTombstone src id).queues = s.queues ∧ (s.makeTombstone src id).epochBase = s.epochBase ∧
    (s.makeTombstone src id).domains = s.domains ∧ (s.makeTombstone src id).spn = s.spn ∧ (s.makeTombstone src id).sl = s.sl ∧
    (s.makeTombstone src id).dig = s.dig ∧ (s.makeTombstone src id).ks = s.ks ∧ (s.makeTombstone src id).arb = s.arb ∧
    (s.makeTombstone src id).mem = s.mem ∧ (s.makeTombstone src id).kp = s.kp ∧ (s.makeTombstone src id).tmp = s.tmp ∧
    (s.makeTombstone src id).life = s.life ∧ (s.makeTombstone src id).mss = s.mss ∧ (s.makeTombstone src id).card = s.card ∧
    (s.makeTombstone src id).pwr = s.pwr ∧ (s.makeTombstone src id).pending = s.pending := by
  unfold State.makeTombstone
  (repeat' split) <;> simp
@[simp] theorem State.makeTombstone_queues (src : BitVec 6) (id : BitVec 64) (s : State) : (s.makeTombstone src id).queues = s.queues :=
  (State.makeTombstone_frame src id s).1
@[simp] theorem State.makeTombstone_epochBase (src : BitVec 6) (id : BitVec 64) (s : State) : (s.makeTombstone src id).epochBase = s.epochBase :=
  (State.makeTombstone_frame src id s).2.1
@[simp] theorem State.makeTombstone_domains (src : BitVec 6) (id : BitVec 64) (s : State) : (s.makeTombstone src id).domains = s.domains :=
  (State.makeTombstone_frame src id s).2.2.1
@[simp] theorem State.makeTombstone_spn (src : BitVec 6) (id : BitVec 64) (s : State) : (s.makeTombstone src id).spn = s.spn :=
  (State.makeTombstone_frame src id s).2.2.2.1
@[simp] theorem State.makeTombstone_sl (src : BitVec 6) (id : BitVec 64) (s : State) : (s.makeTombstone src id).sl = s.sl :=
  (State.makeTombstone_frame src id s).2.2.2.2.1
@[simp] theorem State.makeTombstone_dig (src : BitVec 6) (id : BitVec 64) (s : State) : (s.makeTombstone src id).dig = s.dig :=
  (State.makeTombstone_frame src id s).2.2.2.2.2.1
@[simp] theorem State.makeTombstone_ks (src : BitVec 6) (id : BitVec 64) (s : State) : (s.makeTombstone src id).ks = s.ks :=
  (State.makeTombstone_frame src id s).2.2.2.2.2.2.1
@[simp] theorem State.makeTombstone_arb (src : BitVec 6) (id : BitVec 64) (s : State) : (s.makeTombstone src id).arb = s.arb :=
  (State.makeTombstone_frame src id s).2.2.2.2.2.2.2.1
@[simp] theorem State.makeTombstone_mem (src : BitVec 6) (id : BitVec 64) (s : State) : (s.makeTombstone src id).mem = s.mem :=
  (State.makeTombstone_frame src id s).2.2.2.2.2.2.2.2.1
@[simp] theorem State.makeTombstone_kp (src : BitVec 6) (id : BitVec 64) (s : State) : (s.makeTombstone src id).kp = s.kp :=
  (State.makeTombstone_frame src id s).2.2.2.2.2.2.2.2.2.1
@[simp] theorem State.makeTombstone_tmp (src : BitVec 6) (id : BitVec 64) (s : State) : (s.makeTombstone src id).tmp = s.tmp :=
  (State.makeTombstone_frame src id s).2.2.2.2.2.2.2.2.2.2.1
@[simp] theorem State.makeTombstone_life (src : BitVec 6) (id : BitVec 64) (s : State) : (s.makeTombstone src id).life = s.life :=
  (State.makeTombstone_frame src id s).2.2.2.2.2.2.2.2.2.2.2.1
@[simp] theorem State.makeTombstone_mss (src : BitVec 6) (id : BitVec 64) (s : State) : (s.makeTombstone src id).mss = s.mss :=
  (State.makeTombstone_frame src id s).2.2.2.2.2.2.2.2.2.2.2.2.1
@[simp] theorem State.makeTombstone_card (src : BitVec 6) (id : BitVec 64) (s : State) : (s.makeTombstone src id).card = s.card :=
  (State.makeTombstone_frame src id s).2.2.2.2.2.2.2.2.2.2.2.2.2.1
@[simp] theorem State.makeTombstone_pwr (src : BitVec 6) (id : BitVec 64) (s : State) : (s.makeTombstone src id).pwr = s.pwr :=
  (State.makeTombstone_frame src id s).2.2.2.2.2.2.2.2.2.2.2.2.2.2.1
@[simp] theorem State.makeTombstone_pending (src : BitVec 6) (id : BitVec 64) (s : State) : (s.makeTombstone src id).pending = s.pending :=
  (State.makeTombstone_frame src id s).2.2.2.2.2.2.2.2.2.2.2.2.2.2.2

/-- replacePool touches `led` at most. -/
theorem State.replacePool_frame (n : PoolId) (new : Pool) (s : State) :
    (s.replacePool n new).1.gctl = s.gctl ∧ (s.replacePool n new).1.queues = s.queues ∧
    (s.replacePool n new).1.epochBase = s.epochBase ∧ (s.replacePool n new).1.domains = s.domains ∧
    (s.replacePool n new).1.ru = s.ru ∧ (s.replacePool n new).1.spn = s.spn ∧ (s.replacePool n new).1.sl = s.sl ∧
    (s.replacePool n new).1.dig = s.dig ∧ (s.replacePool n new).1.ks = s.ks ∧ (s.replacePool n new).1.arb = s.arb ∧
    (s.replacePool n new).1.mem = s.mem ∧ (s.replacePool n new).1.skn = s.skn ∧ (s.replacePool n new).1.kp = s.kp ∧
    (s.replacePool n new).1.tmp = s.tmp ∧ (s.replacePool n new).1.life = s.life ∧ (s.replacePool n new).1.mss = s.mss ∧
    (s.replacePool n new).1.card = s.card ∧ (s.replacePool n new).1.pwr = s.pwr ∧ (s.replacePool n new).1.posted = s.posted ∧
    (s.replacePool n new).1.pending = s.pending := by
  unfold State.replacePool
  dsimp only
  (repeat' split) <;> simp
@[simp] theorem State.replacePool_gctl (n : PoolId) (new : Pool) (s : State) : (s.replacePool n new).1.gctl = s.gctl :=
  (State.replacePool_frame n new s).1
@[simp] theorem State.replacePool_queues (n : PoolId) (new : Pool) (s : State) : (s.replacePool n new).1.queues = s.queues :=
  (State.replacePool_frame n new s).2.1
@[simp] theorem State.replacePool_epochBase (n : PoolId) (new : Pool) (s : State) : (s.replacePool n new).1.epochBase = s.epochBase :=
  (State.replacePool_frame n new s).2.2.1
@[simp] theorem State.replacePool_domains (n : PoolId) (new : Pool) (s : State) : (s.replacePool n new).1.domains = s.domains :=
  (State.replacePool_frame n new s).2.2.2.1
@[simp] theorem State.replacePool_ru (n : PoolId) (new : Pool) (s : State) : (s.replacePool n new).1.ru = s.ru :=
  (State.replacePool_frame n new s).2.2.2.2.1
@[simp] theorem State.replacePool_spn (n : PoolId) (new : Pool) (s : State) : (s.replacePool n new).1.spn = s.spn :=
  (State.replacePool_frame n new s).2.2.2.2.2.1
@[simp] theorem State.replacePool_sl (n : PoolId) (new : Pool) (s : State) : (s.replacePool n new).1.sl = s.sl :=
  (State.replacePool_frame n new s).2.2.2.2.2.2.1
@[simp] theorem State.replacePool_dig (n : PoolId) (new : Pool) (s : State) : (s.replacePool n new).1.dig = s.dig :=
  (State.replacePool_frame n new s).2.2.2.2.2.2.2.1
@[simp] theorem State.replacePool_ks (n : PoolId) (new : Pool) (s : State) : (s.replacePool n new).1.ks = s.ks :=
  (State.replacePool_frame n new s).2.2.2.2.2.2.2.2.1
@[simp] theorem State.replacePool_arb (n : PoolId) (new : Pool) (s : State) : (s.replacePool n new).1.arb = s.arb :=
  (State.replacePool_frame n new s).2.2.2.2.2.2.2.2.2.1
@[simp] theorem State.replacePool_mem (n : PoolId) (new : Pool) (s : State) : (s.replacePool n new).1.mem = s.mem :=
  (State.replacePool_frame n new s).2.2.2.2.2.2.2.2.2.2.1
@[simp] theorem State.replacePool_skn (n : PoolId) (new : Pool) (s : State) : (s.replacePool n new).1.skn = s.skn :=
  (State.replacePool_frame n new s).2.2.2.2.2.2.2.2.2.2.2.1
@[simp] theorem State.replacePool_kp (n : PoolId) (new : Pool) (s : State) : (s.replacePool n new).1.kp = s.kp :=
  (State.replacePool_frame n new s).2.2.2.2.2.2.2.2.2.2.2.2.1
@[simp] theorem State.replacePool_tmp (n : PoolId) (new : Pool) (s : State) : (s.replacePool n new).1.tmp = s.tmp :=
  (State.replacePool_frame n new s).2.2.2.2.2.2.2.2.2.2.2.2.2.1
@[simp] theorem State.replacePool_life (n : PoolId) (new : Pool) (s : State) : (s.replacePool n new).1.life = s.life :=
  (State.replacePool_frame n new s).2.2.2.2.2.2.2.2.2.2.2.2.2.2.1
@[simp] theorem State.replacePool_mss (n : PoolId) (new : Pool) (s : State) : (s.replacePool n new).1.mss = s.mss :=
  (State.replacePool_frame n new s).2.2.2.2.2.2.2.2.2.2.2.2.2.2.2.1
@[simp] theorem State.replacePool_card (n : PoolId) (new : Pool) (s : State) : (s.replacePool n new).1.card = s.card :=
  (State.replacePool_frame n new s).2.2.2.2.2.2.2.2.2.2.2.2.2.2.2.2.1
@[simp] theorem State.replacePool_pwr (n : PoolId) (new : Pool) (s : State) : (s.replacePool n new).1.pwr = s.pwr :=
  (State.replacePool_frame n new s).2.2.2.2.2.2.2.2.2.2.2.2.2.2.2.2.2.1
@[simp] theorem State.replacePool_posted (n : PoolId) (new : Pool) (s : State) : (s.replacePool n new).1.posted = s.posted :=
  (State.replacePool_frame n new s).2.2.2.2.2.2.2.2.2.2.2.2.2.2.2.2.2.2.1
@[simp] theorem State.replacePool_pending (n : PoolId) (new : Pool) (s : State) : (s.replacePool n new).1.pending = s.pending :=
  (State.replacePool_frame n new s).2.2.2.2.2.2.2.2.2.2.2.2.2.2.2.2.2.2.2

/-- replaceForced touches `gctl`, `queues`, `led`, `ru`, `mss`, `posted` at most. -/
theorem State.replaceForced_frame (n : PoolId) (new : Pool) (ref : Nat) (h : Held) (s : State) :
    (s.replaceForced n new ref h).epochBase = s.epochBase ∧ (s.replaceForced n new ref h).domains = s.domains ∧
    (s.replaceForced n new ref h).spn = s.spn ∧ (s.replaceForced n new ref h).sl = s.sl ∧
    (s.replaceForced n new ref h).dig = s.dig ∧ (s.replaceForced n new ref h).ks = s.ks ∧
    (s.replaceForced n new ref h).arb = s.arb ∧ (s.replaceForced n new ref h).mem = s.mem ∧
    (s.replaceForced n new ref h).skn = s.skn ∧ (s.replaceForced n new ref h).kp = s.kp ∧
    (s.replaceForced n new ref h).tmp = s.tmp ∧ (s.replaceForced n new ref h).life = s.life ∧
    (s.replaceForced n new ref h).card = s.card ∧ (s.replaceForced n new ref h).pwr = s.pwr ∧
    (s.replaceForced n new ref h).pending = s.pending := by
  unfold State.replaceForced
  (repeat' split) <;> (try simp only [Prod.ext_iff] at *) <;> (try casesm* _ ∧ _) <;> (try subst_vars) <;> simp_all
@[simp] theorem State.replaceForced_epochBase (n : PoolId) (new : Pool) (ref : Nat) (h : Held) (s : State) : (s.replaceForced n new ref h).epochBase = s.epochBase :=
  (State.replaceForced_frame n new ref h s).1
@[simp] theorem State.replaceForced_domains (n : PoolId) (new : Pool) (ref : Nat) (h : Held) (s : State) : (s.replaceForced n new ref h).domains = s.domains :=
  (State.replaceForced_frame n new ref h s).2.1
@[simp] theorem State.replaceForced_spn (n : PoolId) (new : Pool) (ref : Nat) (h : Held) (s : State) : (s.replaceForced n new ref h).spn = s.spn :=
  (State.replaceForced_frame n new ref h s).2.2.1
@[simp] theorem State.replaceForced_sl (n : PoolId) (new : Pool) (ref : Nat) (h : Held) (s : State) : (s.replaceForced n new ref h).sl = s.sl :=
  (State.replaceForced_frame n new ref h s).2.2.2.1
@[simp] theorem State.replaceForced_dig (n : PoolId) (new : Pool) (ref : Nat) (h : Held) (s : State) : (s.replaceForced n new ref h).dig = s.dig :=
  (State.replaceForced_frame n new ref h s).2.2.2.2.1
@[simp] theorem State.replaceForced_ks (n : PoolId) (new : Pool) (ref : Nat) (h : Held) (s : State) : (s.replaceForced n new ref h).ks = s.ks :=
  (State.replaceForced_frame n new ref h s).2.2.2.2.2.1
@[simp] theorem State.replaceForced_arb (n : PoolId) (new : Pool) (ref : Nat) (h : Held) (s : State) : (s.replaceForced n new ref h).arb = s.arb :=
  (State.replaceForced_frame n new ref h s).2.2.2.2.2.2.1
@[simp] theorem State.replaceForced_mem (n : PoolId) (new : Pool) (ref : Nat) (h : Held) (s : State) : (s.replaceForced n new ref h).mem = s.mem :=
  (State.replaceForced_frame n new ref h s).2.2.2.2.2.2.2.1
@[simp] theorem State.replaceForced_skn (n : PoolId) (new : Pool) (ref : Nat) (h : Held) (s : State) : (s.replaceForced n new ref h).skn = s.skn :=
  (State.replaceForced_frame n new ref h s).2.2.2.2.2.2.2.2.1
@[simp] theorem State.replaceForced_kp (n : PoolId) (new : Pool) (ref : Nat) (h : Held) (s : State) : (s.replaceForced n new ref h).kp = s.kp :=
  (State.replaceForced_frame n new ref h s).2.2.2.2.2.2.2.2.2.1
@[simp] theorem State.replaceForced_tmp (n : PoolId) (new : Pool) (ref : Nat) (h : Held) (s : State) : (s.replaceForced n new ref h).tmp = s.tmp :=
  (State.replaceForced_frame n new ref h s).2.2.2.2.2.2.2.2.2.2.1
@[simp] theorem State.replaceForced_life (n : PoolId) (new : Pool) (ref : Nat) (h : Held) (s : State) : (s.replaceForced n new ref h).life = s.life :=
  (State.replaceForced_frame n new ref h s).2.2.2.2.2.2.2.2.2.2.2.1
@[simp] theorem State.replaceForced_card (n : PoolId) (new : Pool) (ref : Nat) (h : Held) (s : State) : (s.replaceForced n new ref h).card = s.card :=
  (State.replaceForced_frame n new ref h s).2.2.2.2.2.2.2.2.2.2.2.2.1
@[simp] theorem State.replaceForced_pwr (n : PoolId) (new : Pool) (ref : Nat) (h : Held) (s : State) : (s.replaceForced n new ref h).pwr = s.pwr :=
  (State.replaceForced_frame n new ref h s).2.2.2.2.2.2.2.2.2.2.2.2.2.1
@[simp] theorem State.replaceForced_pending (n : PoolId) (new : Pool) (ref : Nat) (h : Held) (s : State) : (s.replaceForced n new ref h).pending = s.pending :=
  (State.replaceForced_frame n new ref h s).2.2.2.2.2.2.2.2.2.2.2.2.2.2

/-- recoverPool touches `gctl`, `led`, `ru`, `posted` at most. -/
theorem State.recoverPool_frame (n : PoolId) (s : State) :
    (s.recoverPool n).queues = s.queues ∧ (s.recoverPool n).epochBase = s.epochBase ∧ (s.recoverPool n).domains = s.domains ∧
    (s.recoverPool n).spn = s.spn ∧ (s.recoverPool n).sl = s.sl ∧ (s.recoverPool n).dig = s.dig ∧ (s.recoverPool n).ks = s.ks ∧
    (s.recoverPool n).arb = s.arb ∧ (s.recoverPool n).mem = s.mem ∧ (s.recoverPool n).skn = s.skn ∧
    (s.recoverPool n).kp = s.kp ∧ (s.recoverPool n).tmp = s.tmp ∧ (s.recoverPool n).life = s.life ∧
    (s.recoverPool n).mss = s.mss ∧ (s.recoverPool n).card = s.card ∧ (s.recoverPool n).pwr = s.pwr ∧
    (s.recoverPool n).pending = s.pending := by
  unfold State.recoverPool
  dsimp only
  (repeat' split) <;> (try simp only [Prod.ext_iff] at *) <;> (try casesm* _ ∧ _) <;> (try subst_vars) <;> (try simp_all)
@[simp] theorem State.recoverPool_queues (n : PoolId) (s : State) : (s.recoverPool n).queues = s.queues :=
  (State.recoverPool_frame n s).1
@[simp] theorem State.recoverPool_epochBase (n : PoolId) (s : State) : (s.recoverPool n).epochBase = s.epochBase :=
  (State.recoverPool_frame n s).2.1
@[simp] theorem State.recoverPool_domains (n : PoolId) (s : State) : (s.recoverPool n).domains = s.domains :=
  (State.recoverPool_frame n s).2.2.1
@[simp] theorem State.recoverPool_spn (n : PoolId) (s : State) : (s.recoverPool n).spn = s.spn :=
  (State.recoverPool_frame n s).2.2.2.1
@[simp] theorem State.recoverPool_sl (n : PoolId) (s : State) : (s.recoverPool n).sl = s.sl :=
  (State.recoverPool_frame n s).2.2.2.2.1
@[simp] theorem State.recoverPool_dig (n : PoolId) (s : State) : (s.recoverPool n).dig = s.dig :=
  (State.recoverPool_frame n s).2.2.2.2.2.1
@[simp] theorem State.recoverPool_ks (n : PoolId) (s : State) : (s.recoverPool n).ks = s.ks :=
  (State.recoverPool_frame n s).2.2.2.2.2.2.1
@[simp] theorem State.recoverPool_arb (n : PoolId) (s : State) : (s.recoverPool n).arb = s.arb :=
  (State.recoverPool_frame n s).2.2.2.2.2.2.2.1
@[simp] theorem State.recoverPool_mem (n : PoolId) (s : State) : (s.recoverPool n).mem = s.mem :=
  (State.recoverPool_frame n s).2.2.2.2.2.2.2.2.1
@[simp] theorem State.recoverPool_skn (n : PoolId) (s : State) : (s.recoverPool n).skn = s.skn :=
  (State.recoverPool_frame n s).2.2.2.2.2.2.2.2.2.1
@[simp] theorem State.recoverPool_kp (n : PoolId) (s : State) : (s.recoverPool n).kp = s.kp :=
  (State.recoverPool_frame n s).2.2.2.2.2.2.2.2.2.2.1
@[simp] theorem State.recoverPool_tmp (n : PoolId) (s : State) : (s.recoverPool n).tmp = s.tmp :=
  (State.recoverPool_frame n s).2.2.2.2.2.2.2.2.2.2.2.1
@[simp] theorem State.recoverPool_life (n : PoolId) (s : State) : (s.recoverPool n).life = s.life :=
  (State.recoverPool_frame n s).2.2.2.2.2.2.2.2.2.2.2.2.1
@[simp] theorem State.recoverPool_mss (n : PoolId) (s : State) : (s.recoverPool n).mss = s.mss :=
  (State.recoverPool_frame n s).2.2.2.2.2.2.2.2.2.2.2.2.2.1
@[simp] theorem State.recoverPool_card (n : PoolId) (s : State) : (s.recoverPool n).card = s.card :=
  (State.recoverPool_frame n s).2.2.2.2.2.2.2.2.2.2.2.2.2.2.1
@[simp] theorem State.recoverPool_pwr (n : PoolId) (s : State) : (s.recoverPool n).pwr = s.pwr :=
  (State.recoverPool_frame n s).2.2.2.2.2.2.2.2.2.2.2.2.2.2.2.1
@[simp] theorem State.recoverPool_pending (n : PoolId) (s : State) : (s.recoverPool n).pending = s.pending :=
  (State.recoverPool_frame n s).2.2.2.2.2.2.2.2.2.2.2.2.2.2.2.2

/-- finishQueue touches `gctl`, `queues`, `led`, `ru`, `mss`, `posted` at most. -/
theorem State.finishQueue_frame (q : QId) (e : Ending) (locks : Nat) (s : State) :
    (s.finishQueue q e locks).epochBase = s.epochBase ∧ (s.finishQueue q e locks).domains = s.domains ∧
    (s.finishQueue q e locks).spn = s.spn ∧ (s.finishQueue q e locks).sl = s.sl ∧ (s.finishQueue q e locks).dig = s.dig ∧
    (s.finishQueue q e locks).ks = s.ks ∧ (s.finishQueue q e locks).arb = s.arb ∧ (s.finishQueue q e locks).mem = s.mem ∧
    (s.finishQueue q e locks).skn = s.skn ∧ (s.finishQueue q e locks).kp = s.kp ∧ (s.finishQueue q e locks).tmp = s.tmp ∧
    (s.finishQueue q e locks).life = s.life ∧ (s.finishQueue q e locks).card = s.card ∧ (s.finishQueue q e locks).pwr = s.pwr ∧
    (s.finishQueue q e locks).pending = s.pending := by
  unfold State.finishQueue
  dsimp only
  (repeat' split) <;> simp
@[simp] theorem State.finishQueue_epochBase (q : QId) (e : Ending) (locks : Nat) (s : State) : (s.finishQueue q e locks).epochBase = s.epochBase :=
  (State.finishQueue_frame q e locks s).1
@[simp] theorem State.finishQueue_domains (q : QId) (e : Ending) (locks : Nat) (s : State) : (s.finishQueue q e locks).domains = s.domains :=
  (State.finishQueue_frame q e locks s).2.1
@[simp] theorem State.finishQueue_spn (q : QId) (e : Ending) (locks : Nat) (s : State) : (s.finishQueue q e locks).spn = s.spn :=
  (State.finishQueue_frame q e locks s).2.2.1
@[simp] theorem State.finishQueue_sl (q : QId) (e : Ending) (locks : Nat) (s : State) : (s.finishQueue q e locks).sl = s.sl :=
  (State.finishQueue_frame q e locks s).2.2.2.1
@[simp] theorem State.finishQueue_dig (q : QId) (e : Ending) (locks : Nat) (s : State) : (s.finishQueue q e locks).dig = s.dig :=
  (State.finishQueue_frame q e locks s).2.2.2.2.1
@[simp] theorem State.finishQueue_ks (q : QId) (e : Ending) (locks : Nat) (s : State) : (s.finishQueue q e locks).ks = s.ks :=
  (State.finishQueue_frame q e locks s).2.2.2.2.2.1
@[simp] theorem State.finishQueue_arb (q : QId) (e : Ending) (locks : Nat) (s : State) : (s.finishQueue q e locks).arb = s.arb :=
  (State.finishQueue_frame q e locks s).2.2.2.2.2.2.1
@[simp] theorem State.finishQueue_mem (q : QId) (e : Ending) (locks : Nat) (s : State) : (s.finishQueue q e locks).mem = s.mem :=
  (State.finishQueue_frame q e locks s).2.2.2.2.2.2.2.1
@[simp] theorem State.finishQueue_skn (q : QId) (e : Ending) (locks : Nat) (s : State) : (s.finishQueue q e locks).skn = s.skn :=
  (State.finishQueue_frame q e locks s).2.2.2.2.2.2.2.2.1
@[simp] theorem State.finishQueue_kp (q : QId) (e : Ending) (locks : Nat) (s : State) : (s.finishQueue q e locks).kp = s.kp :=
  (State.finishQueue_frame q e locks s).2.2.2.2.2.2.2.2.2.1
@[simp] theorem State.finishQueue_tmp (q : QId) (e : Ending) (locks : Nat) (s : State) : (s.finishQueue q e locks).tmp = s.tmp :=
  (State.finishQueue_frame q e locks s).2.2.2.2.2.2.2.2.2.2.1
@[simp] theorem State.finishQueue_life (q : QId) (e : Ending) (locks : Nat) (s : State) : (s.finishQueue q e locks).life = s.life :=
  (State.finishQueue_frame q e locks s).2.2.2.2.2.2.2.2.2.2.2.1
@[simp] theorem State.finishQueue_card (q : QId) (e : Ending) (locks : Nat) (s : State) : (s.finishQueue q e locks).card = s.card :=
  (State.finishQueue_frame q e locks s).2.2.2.2.2.2.2.2.2.2.2.2.1
@[simp] theorem State.finishQueue_pwr (q : QId) (e : Ending) (locks : Nat) (s : State) : (s.finishQueue q e locks).pwr = s.pwr :=
  (State.finishQueue_frame q e locks s).2.2.2.2.2.2.2.2.2.2.2.2.2.1
@[simp] theorem State.finishQueue_pending (q : QId) (e : Ending) (locks : Nat) (s : State) : (s.finishQueue q e locks).pending = s.pending :=
  (State.finishQueue_frame q e locks s).2.2.2.2.2.2.2.2.2.2.2.2.2.2

/-- doForced touches `gctl`, `queues`, `led`, `ru`, `skn`, `mss`, `posted` at most. -/
theorem State.doForced_frame (f : Forced) (s : State) :
    (s.doForced f).epochBase = s.epochBase ∧ (s.doForced f).domains = s.domains ∧ (s.doForced f).spn = s.spn ∧
    (s.doForced f).sl = s.sl ∧ (s.doForced f).dig = s.dig ∧ (s.doForced f).ks = s.ks ∧ (s.doForced f).arb = s.arb ∧
    (s.doForced f).mem = s.mem ∧ (s.doForced f).kp = s.kp ∧ (s.doForced f).tmp = s.tmp ∧ (s.doForced f).life = s.life ∧
    (s.doForced f).card = s.card ∧ (s.doForced f).pwr = s.pwr ∧ (s.doForced f).pending = s.pending := by
  unfold State.doForced
  (repeat' split) <;> simp
@[simp] theorem State.doForced_epochBase (f : Forced) (s : State) : (s.doForced f).epochBase = s.epochBase :=
  (State.doForced_frame f s).1
@[simp] theorem State.doForced_domains (f : Forced) (s : State) : (s.doForced f).domains = s.domains :=
  (State.doForced_frame f s).2.1
@[simp] theorem State.doForced_spn (f : Forced) (s : State) : (s.doForced f).spn = s.spn :=
  (State.doForced_frame f s).2.2.1
@[simp] theorem State.doForced_sl (f : Forced) (s : State) : (s.doForced f).sl = s.sl :=
  (State.doForced_frame f s).2.2.2.1
@[simp] theorem State.doForced_dig (f : Forced) (s : State) : (s.doForced f).dig = s.dig :=
  (State.doForced_frame f s).2.2.2.2.1
@[simp] theorem State.doForced_ks (f : Forced) (s : State) : (s.doForced f).ks = s.ks :=
  (State.doForced_frame f s).2.2.2.2.2.1
@[simp] theorem State.doForced_arb (f : Forced) (s : State) : (s.doForced f).arb = s.arb :=
  (State.doForced_frame f s).2.2.2.2.2.2.1
@[simp] theorem State.doForced_mem (f : Forced) (s : State) : (s.doForced f).mem = s.mem :=
  (State.doForced_frame f s).2.2.2.2.2.2.2.1
@[simp] theorem State.doForced_kp (f : Forced) (s : State) : (s.doForced f).kp = s.kp :=
  (State.doForced_frame f s).2.2.2.2.2.2.2.2.1
@[simp] theorem State.doForced_tmp (f : Forced) (s : State) : (s.doForced f).tmp = s.tmp :=
  (State.doForced_frame f s).2.2.2.2.2.2.2.2.2.1
@[simp] theorem State.doForced_life (f : Forced) (s : State) : (s.doForced f).life = s.life :=
  (State.doForced_frame f s).2.2.2.2.2.2.2.2.2.2.1
@[simp] theorem State.doForced_card (f : Forced) (s : State) : (s.doForced f).card = s.card :=
  (State.doForced_frame f s).2.2.2.2.2.2.2.2.2.2.2.1
@[simp] theorem State.doForced_pwr (f : Forced) (s : State) : (s.doForced f).pwr = s.pwr :=
  (State.doForced_frame f s).2.2.2.2.2.2.2.2.2.2.2.2.1
@[simp] theorem State.doForced_pending (f : Forced) (s : State) : (s.doForced f).pending = s.pending :=
  (State.doForced_frame f s).2.2.2.2.2.2.2.2.2.2.2.2.2

/-- force touches `gctl`, `queues`, `led`, `ru`, `skn`, `mss`, `posted` at most. -/
theorem State.force_frame (f : Forced) (s : State) :
    (s.force f).epochBase = s.epochBase ∧ (s.force f).domains = s.domains ∧ (s.force f).spn = s.spn ∧ (s.force f).sl = s.sl ∧
    (s.force f).dig = s.dig ∧ (s.force f).ks = s.ks ∧ (s.force f).arb = s.arb ∧ (s.force f).mem = s.mem ∧
    (s.force f).kp = s.kp ∧ (s.force f).tmp = s.tmp ∧ (s.force f).life = s.life ∧ (s.force f).card = s.card ∧
    (s.force f).pwr = s.pwr ∧ (s.force f).pending = s.pending := by
  unfold State.force
  (repeat' split) <;> simp
@[simp] theorem State.force_epochBase (f : Forced) (s : State) : (s.force f).epochBase = s.epochBase :=
  (State.force_frame f s).1
@[simp] theorem State.force_domains (f : Forced) (s : State) : (s.force f).domains = s.domains :=
  (State.force_frame f s).2.1
@[simp] theorem State.force_spn (f : Forced) (s : State) : (s.force f).spn = s.spn :=
  (State.force_frame f s).2.2.1
@[simp] theorem State.force_sl (f : Forced) (s : State) : (s.force f).sl = s.sl :=
  (State.force_frame f s).2.2.2.1
@[simp] theorem State.force_dig (f : Forced) (s : State) : (s.force f).dig = s.dig :=
  (State.force_frame f s).2.2.2.2.1
@[simp] theorem State.force_ks (f : Forced) (s : State) : (s.force f).ks = s.ks :=
  (State.force_frame f s).2.2.2.2.2.1
@[simp] theorem State.force_arb (f : Forced) (s : State) : (s.force f).arb = s.arb :=
  (State.force_frame f s).2.2.2.2.2.2.1
@[simp] theorem State.force_mem (f : Forced) (s : State) : (s.force f).mem = s.mem :=
  (State.force_frame f s).2.2.2.2.2.2.2.1
@[simp] theorem State.force_kp (f : Forced) (s : State) : (s.force f).kp = s.kp :=
  (State.force_frame f s).2.2.2.2.2.2.2.2.1
@[simp] theorem State.force_tmp (f : Forced) (s : State) : (s.force f).tmp = s.tmp :=
  (State.force_frame f s).2.2.2.2.2.2.2.2.2.1
@[simp] theorem State.force_life (f : Forced) (s : State) : (s.force f).life = s.life :=
  (State.force_frame f s).2.2.2.2.2.2.2.2.2.2.1
@[simp] theorem State.force_card (f : Forced) (s : State) : (s.force f).card = s.card :=
  (State.force_frame f s).2.2.2.2.2.2.2.2.2.2.2.1
@[simp] theorem State.force_pwr (f : Forced) (s : State) : (s.force f).pwr = s.pwr :=
  (State.force_frame f s).2.2.2.2.2.2.2.2.2.2.2.2.1
@[simp] theorem State.force_pending (f : Forced) (s : State) : (s.force f).pending = s.pending :=
  (State.force_frame f s).2.2.2.2.2.2.2.2.2.2.2.2.2

/-- sync touches `arb` at most. -/
theorem State.sync_frame (n : Nat) (s : State) :
    (s.sync n).gctl = s.gctl ∧ (s.sync n).queues = s.queues ∧ (s.sync n).epochBase = s.epochBase ∧
    (s.sync n).domains = s.domains ∧ (s.sync n).led = s.led ∧ (s.sync n).ru = s.ru ∧ (s.sync n).spn = s.spn ∧
    (s.sync n).sl = s.sl ∧ (s.sync n).dig = s.dig ∧ (s.sync n).ks = s.ks ∧ (s.sync n).mem = s.mem ∧ (s.sync n).skn = s.skn ∧
    (s.sync n).kp = s.kp ∧ (s.sync n).tmp = s.tmp ∧ (s.sync n).life = s.life ∧ (s.sync n).mss = s.mss ∧
    (s.sync n).card = s.card ∧ (s.sync n).pwr = s.pwr ∧ (s.sync n).posted = s.posted ∧ (s.sync n).pending = s.pending := by
  unfold State.sync
  dsimp only
  (repeat' split) <;> simp
@[simp] theorem State.sync_gctl (n : Nat) (s : State) : (s.sync n).gctl = s.gctl :=
  (State.sync_frame n s).1
@[simp] theorem State.sync_queues (n : Nat) (s : State) : (s.sync n).queues = s.queues :=
  (State.sync_frame n s).2.1
@[simp] theorem State.sync_epochBase (n : Nat) (s : State) : (s.sync n).epochBase = s.epochBase :=
  (State.sync_frame n s).2.2.1
@[simp] theorem State.sync_domains (n : Nat) (s : State) : (s.sync n).domains = s.domains :=
  (State.sync_frame n s).2.2.2.1
@[simp] theorem State.sync_led (n : Nat) (s : State) : (s.sync n).led = s.led :=
  (State.sync_frame n s).2.2.2.2.1
@[simp] theorem State.sync_ru (n : Nat) (s : State) : (s.sync n).ru = s.ru :=
  (State.sync_frame n s).2.2.2.2.2.1
@[simp] theorem State.sync_spn (n : Nat) (s : State) : (s.sync n).spn = s.spn :=
  (State.sync_frame n s).2.2.2.2.2.2.1
@[simp] theorem State.sync_sl (n : Nat) (s : State) : (s.sync n).sl = s.sl :=
  (State.sync_frame n s).2.2.2.2.2.2.2.1
@[simp] theorem State.sync_dig (n : Nat) (s : State) : (s.sync n).dig = s.dig :=
  (State.sync_frame n s).2.2.2.2.2.2.2.2.1
@[simp] theorem State.sync_ks (n : Nat) (s : State) : (s.sync n).ks = s.ks :=
  (State.sync_frame n s).2.2.2.2.2.2.2.2.2.1
@[simp] theorem State.sync_mem (n : Nat) (s : State) : (s.sync n).mem = s.mem :=
  (State.sync_frame n s).2.2.2.2.2.2.2.2.2.2.1
@[simp] theorem State.sync_skn (n : Nat) (s : State) : (s.sync n).skn = s.skn :=
  (State.sync_frame n s).2.2.2.2.2.2.2.2.2.2.2.1
@[simp] theorem State.sync_kp (n : Nat) (s : State) : (s.sync n).kp = s.kp :=
  (State.sync_frame n s).2.2.2.2.2.2.2.2.2.2.2.2.1
@[simp] theorem State.sync_tmp (n : Nat) (s : State) : (s.sync n).tmp = s.tmp :=
  (State.sync_frame n s).2.2.2.2.2.2.2.2.2.2.2.2.2.1
@[simp] theorem State.sync_life (n : Nat) (s : State) : (s.sync n).life = s.life :=
  (State.sync_frame n s).2.2.2.2.2.2.2.2.2.2.2.2.2.2.1
@[simp] theorem State.sync_mss (n : Nat) (s : State) : (s.sync n).mss = s.mss :=
  (State.sync_frame n s).2.2.2.2.2.2.2.2.2.2.2.2.2.2.2.1
@[simp] theorem State.sync_card (n : Nat) (s : State) : (s.sync n).card = s.card :=
  (State.sync_frame n s).2.2.2.2.2.2.2.2.2.2.2.2.2.2.2.2.1
@[simp] theorem State.sync_pwr (n : Nat) (s : State) : (s.sync n).pwr = s.pwr :=
  (State.sync_frame n s).2.2.2.2.2.2.2.2.2.2.2.2.2.2.2.2.2.1
@[simp] theorem State.sync_posted (n : Nat) (s : State) : (s.sync n).posted = s.posted :=
  (State.sync_frame n s).2.2.2.2.2.2.2.2.2.2.2.2.2.2.2.2.2.2.1
@[simp] theorem State.sync_pending (n : Nat) (s : State) : (s.sync n).pending = s.pending :=
  (State.sync_frame n s).2.2.2.2.2.2.2.2.2.2.2.2.2.2.2.2.2.2.2

/-- park touches `arb` at most. -/
theorem State.park_frame (n : Nat) (arrivals : List Nat) (s : State) :
    (s.park n arrivals).gctl = s.gctl ∧ (s.park n arrivals).queues = s.queues ∧ (s.park n arrivals).epochBase = s.epochBase ∧
    (s.park n arrivals).domains = s.domains ∧ (s.park n arrivals).led = s.led ∧ (s.park n arrivals).ru = s.ru ∧
    (s.park n arrivals).spn = s.spn ∧ (s.park n arrivals).sl = s.sl ∧ (s.park n arrivals).dig = s.dig ∧
    (s.park n arrivals).ks = s.ks ∧ (s.park n arrivals).mem = s.mem ∧ (s.park n arrivals).skn = s.skn ∧
    (s.park n arrivals).kp = s.kp ∧ (s.park n arrivals).tmp = s.tmp ∧ (s.park n arrivals).life = s.life ∧
    (s.park n arrivals).mss = s.mss ∧ (s.park n arrivals).card = s.card ∧ (s.park n arrivals).pwr = s.pwr ∧
    (s.park n arrivals).posted = s.posted ∧ (s.park n arrivals).pending = s.pending := by
  unfold State.park
  induction arrivals generalizing s with
  | nil => simp
  | cons a l ih =>
    simp only [List.foldl_cons, ih, and_self,
      State.setReq_gctl, State.setReq_queues, State.setReq_epochBase, State.setReq_domains, State.setReq_led, State.setReq_ru,
      State.setReq_spn, State.setReq_sl, State.setReq_dig, State.setReq_ks, State.setReq_mem, State.setReq_skn,
      State.setReq_kp, State.setReq_tmp, State.setReq_life, State.setReq_mss, State.setReq_card, State.setReq_pwr,
      State.setReq_posted, State.setReq_pending]
@[simp] theorem State.park_gctl (n : Nat) (arrivals : List Nat) (s : State) : (s.park n arrivals).gctl = s.gctl :=
  (State.park_frame n arrivals s).1
@[simp] theorem State.park_queues (n : Nat) (arrivals : List Nat) (s : State) : (s.park n arrivals).queues = s.queues :=
  (State.park_frame n arrivals s).2.1
@[simp] theorem State.park_epochBase (n : Nat) (arrivals : List Nat) (s : State) : (s.park n arrivals).epochBase = s.epochBase :=
  (State.park_frame n arrivals s).2.2.1
@[simp] theorem State.park_domains (n : Nat) (arrivals : List Nat) (s : State) : (s.park n arrivals).domains = s.domains :=
  (State.park_frame n arrivals s).2.2.2.1
@[simp] theorem State.park_led (n : Nat) (arrivals : List Nat) (s : State) : (s.park n arrivals).led = s.led :=
  (State.park_frame n arrivals s).2.2.2.2.1
@[simp] theorem State.park_ru (n : Nat) (arrivals : List Nat) (s : State) : (s.park n arrivals).ru = s.ru :=
  (State.park_frame n arrivals s).2.2.2.2.2.1
@[simp] theorem State.park_spn (n : Nat) (arrivals : List Nat) (s : State) : (s.park n arrivals).spn = s.spn :=
  (State.park_frame n arrivals s).2.2.2.2.2.2.1
@[simp] theorem State.park_sl (n : Nat) (arrivals : List Nat) (s : State) : (s.park n arrivals).sl = s.sl :=
  (State.park_frame n arrivals s).2.2.2.2.2.2.2.1
@[simp] theorem State.park_dig (n : Nat) (arrivals : List Nat) (s : State) : (s.park n arrivals).dig = s.dig :=
  (State.park_frame n arrivals s).2.2.2.2.2.2.2.2.1
@[simp] theorem State.park_ks (n : Nat) (arrivals : List Nat) (s : State) : (s.park n arrivals).ks = s.ks :=
  (State.park_frame n arrivals s).2.2.2.2.2.2.2.2.2.1
@[simp] theorem State.park_mem (n : Nat) (arrivals : List Nat) (s : State) : (s.park n arrivals).mem = s.mem :=
  (State.park_frame n arrivals s).2.2.2.2.2.2.2.2.2.2.1
@[simp] theorem State.park_skn (n : Nat) (arrivals : List Nat) (s : State) : (s.park n arrivals).skn = s.skn :=
  (State.park_frame n arrivals s).2.2.2.2.2.2.2.2.2.2.2.1
@[simp] theorem State.park_kp (n : Nat) (arrivals : List Nat) (s : State) : (s.park n arrivals).kp = s.kp :=
  (State.park_frame n arrivals s).2.2.2.2.2.2.2.2.2.2.2.2.1
@[simp] theorem State.park_tmp (n : Nat) (arrivals : List Nat) (s : State) : (s.park n arrivals).tmp = s.tmp :=
  (State.park_frame n arrivals s).2.2.2.2.2.2.2.2.2.2.2.2.2.1
@[simp] theorem State.park_life (n : Nat) (arrivals : List Nat) (s : State) : (s.park n arrivals).life = s.life :=
  (State.park_frame n arrivals s).2.2.2.2.2.2.2.2.2.2.2.2.2.2.1
@[simp] theorem State.park_mss (n : Nat) (arrivals : List Nat) (s : State) : (s.park n arrivals).mss = s.mss :=
  (State.park_frame n arrivals s).2.2.2.2.2.2.2.2.2.2.2.2.2.2.2.1
@[simp] theorem State.park_card (n : Nat) (arrivals : List Nat) (s : State) : (s.park n arrivals).card = s.card :=
  (State.park_frame n arrivals s).2.2.2.2.2.2.2.2.2.2.2.2.2.2.2.2.1
@[simp] theorem State.park_pwr (n : Nat) (arrivals : List Nat) (s : State) : (s.park n arrivals).pwr = s.pwr :=
  (State.park_frame n arrivals s).2.2.2.2.2.2.2.2.2.2.2.2.2.2.2.2.2.1
@[simp] theorem State.park_posted (n : Nat) (arrivals : List Nat) (s : State) : (s.park n arrivals).posted = s.posted :=
  (State.park_frame n arrivals s).2.2.2.2.2.2.2.2.2.2.2.2.2.2.2.2.2.2.1
@[simp] theorem State.park_pending (n : Nat) (arrivals : List Nat) (s : State) : (s.park n arrivals).pending = s.pending :=
  (State.park_frame n arrivals s).2.2.2.2.2.2.2.2.2.2.2.2.2.2.2.2.2.2.2

/-- grantTo touches `arb` at most. -/
theorem State.grantTo_frame (n i : Nat) (a : Arbiter) (s : State) :
    (s.grantTo n i a).gctl = s.gctl ∧ (s.grantTo n i a).queues = s.queues ∧ (s.grantTo n i a).epochBase = s.epochBase ∧
    (s.grantTo n i a).domains = s.domains ∧ (s.grantTo n i a).led = s.led ∧ (s.grantTo n i a).ru = s.ru ∧
    (s.grantTo n i a).spn = s.spn ∧ (s.grantTo n i a).sl = s.sl ∧ (s.grantTo n i a).dig = s.dig ∧ (s.grantTo n i a).ks = s.ks ∧
    (s.grantTo n i a).mem = s.mem ∧ (s.grantTo n i a).skn = s.skn ∧ (s.grantTo n i a).kp = s.kp ∧
    (s.grantTo n i a).tmp = s.tmp ∧ (s.grantTo n i a).life = s.life ∧ (s.grantTo n i a).mss = s.mss ∧
    (s.grantTo n i a).card = s.card ∧ (s.grantTo n i a).pwr = s.pwr ∧ (s.grantTo n i a).posted = s.posted ∧
    (s.grantTo n i a).pending = s.pending := by
  unfold State.grantTo
  (repeat' split) <;> simp
@[simp] theorem State.grantTo_gctl (n i : Nat) (a : Arbiter) (s : State) : (s.grantTo n i a).gctl = s.gctl :=
  (State.grantTo_frame n i a s).1
@[simp] theorem State.grantTo_queues (n i : Nat) (a : Arbiter) (s : State) : (s.grantTo n i a).queues = s.queues :=
  (State.grantTo_frame n i a s).2.1
@[simp] theorem State.grantTo_epochBase (n i : Nat) (a : Arbiter) (s : State) : (s.grantTo n i a).epochBase = s.epochBase :=
  (State.grantTo_frame n i a s).2.2.1
@[simp] theorem State.grantTo_domains (n i : Nat) (a : Arbiter) (s : State) : (s.grantTo n i a).domains = s.domains :=
  (State.grantTo_frame n i a s).2.2.2.1
@[simp] theorem State.grantTo_led (n i : Nat) (a : Arbiter) (s : State) : (s.grantTo n i a).led = s.led :=
  (State.grantTo_frame n i a s).2.2.2.2.1
@[simp] theorem State.grantTo_ru (n i : Nat) (a : Arbiter) (s : State) : (s.grantTo n i a).ru = s.ru :=
  (State.grantTo_frame n i a s).2.2.2.2.2.1
@[simp] theorem State.grantTo_spn (n i : Nat) (a : Arbiter) (s : State) : (s.grantTo n i a).spn = s.spn :=
  (State.grantTo_frame n i a s).2.2.2.2.2.2.1
@[simp] theorem State.grantTo_sl (n i : Nat) (a : Arbiter) (s : State) : (s.grantTo n i a).sl = s.sl :=
  (State.grantTo_frame n i a s).2.2.2.2.2.2.2.1
@[simp] theorem State.grantTo_dig (n i : Nat) (a : Arbiter) (s : State) : (s.grantTo n i a).dig = s.dig :=
  (State.grantTo_frame n i a s).2.2.2.2.2.2.2.2.1
@[simp] theorem State.grantTo_ks (n i : Nat) (a : Arbiter) (s : State) : (s.grantTo n i a).ks = s.ks :=
  (State.grantTo_frame n i a s).2.2.2.2.2.2.2.2.2.1
@[simp] theorem State.grantTo_mem (n i : Nat) (a : Arbiter) (s : State) : (s.grantTo n i a).mem = s.mem :=
  (State.grantTo_frame n i a s).2.2.2.2.2.2.2.2.2.2.1
@[simp] theorem State.grantTo_skn (n i : Nat) (a : Arbiter) (s : State) : (s.grantTo n i a).skn = s.skn :=
  (State.grantTo_frame n i a s).2.2.2.2.2.2.2.2.2.2.2.1
@[simp] theorem State.grantTo_kp (n i : Nat) (a : Arbiter) (s : State) : (s.grantTo n i a).kp = s.kp :=
  (State.grantTo_frame n i a s).2.2.2.2.2.2.2.2.2.2.2.2.1
@[simp] theorem State.grantTo_tmp (n i : Nat) (a : Arbiter) (s : State) : (s.grantTo n i a).tmp = s.tmp :=
  (State.grantTo_frame n i a s).2.2.2.2.2.2.2.2.2.2.2.2.2.1
@[simp] theorem State.grantTo_life (n i : Nat) (a : Arbiter) (s : State) : (s.grantTo n i a).life = s.life :=
  (State.grantTo_frame n i a s).2.2.2.2.2.2.2.2.2.2.2.2.2.2.1
@[simp] theorem State.grantTo_mss (n i : Nat) (a : Arbiter) (s : State) : (s.grantTo n i a).mss = s.mss :=
  (State.grantTo_frame n i a s).2.2.2.2.2.2.2.2.2.2.2.2.2.2.2.1
@[simp] theorem State.grantTo_card (n i : Nat) (a : Arbiter) (s : State) : (s.grantTo n i a).card = s.card :=
  (State.grantTo_frame n i a s).2.2.2.2.2.2.2.2.2.2.2.2.2.2.2.2.1
@[simp] theorem State.grantTo_pwr (n i : Nat) (a : Arbiter) (s : State) : (s.grantTo n i a).pwr = s.pwr :=
  (State.grantTo_frame n i a s).2.2.2.2.2.2.2.2.2.2.2.2.2.2.2.2.2.1
@[simp] theorem State.grantTo_posted (n i : Nat) (a : Arbiter) (s : State) : (s.grantTo n i a).posted = s.posted :=
  (State.grantTo_frame n i a s).2.2.2.2.2.2.2.2.2.2.2.2.2.2.2.2.2.2.1
@[simp] theorem State.grantTo_pending (n i : Nat) (a : Arbiter) (s : State) : (s.grantTo n i a).pending = s.pending :=
  (State.grantTo_frame n i a s).2.2.2.2.2.2.2.2.2.2.2.2.2.2.2.2.2.2.2

/-- grant touches `arb` at most. -/
theorem State.grant_frame (n : Nat) (s : State) :
    (s.grant n).gctl = s.gctl ∧ (s.grant n).queues = s.queues ∧ (s.grant n).epochBase = s.epochBase ∧
    (s.grant n).domains = s.domains ∧ (s.grant n).led = s.led ∧ (s.grant n).ru = s.ru ∧ (s.grant n).spn = s.spn ∧
    (s.grant n).sl = s.sl ∧ (s.grant n).dig = s.dig ∧ (s.grant n).ks = s.ks ∧ (s.grant n).mem = s.mem ∧
    (s.grant n).skn = s.skn ∧ (s.grant n).kp = s.kp ∧ (s.grant n).tmp = s.tmp ∧ (s.grant n).life = s.life ∧
    (s.grant n).mss = s.mss ∧ (s.grant n).card = s.card ∧ (s.grant n).pwr = s.pwr ∧ (s.grant n).posted = s.posted ∧
    (s.grant n).pending = s.pending := by
  unfold State.grant
  (repeat' split) <;> simp
@[simp] theorem State.grant_gctl (n : Nat) (s : State) : (s.grant n).gctl = s.gctl :=
  (State.grant_frame n s).1
@[simp] theorem State.grant_queues (n : Nat) (s : State) : (s.grant n).queues = s.queues :=
  (State.grant_frame n s).2.1
@[simp] theorem State.grant_epochBase (n : Nat) (s : State) : (s.grant n).epochBase = s.epochBase :=
  (State.grant_frame n s).2.2.1
@[simp] theorem State.grant_domains (n : Nat) (s : State) : (s.grant n).domains = s.domains :=
  (State.grant_frame n s).2.2.2.1
@[simp] theorem State.grant_led (n : Nat) (s : State) : (s.grant n).led = s.led :=
  (State.grant_frame n s).2.2.2.2.1
@[simp] theorem State.grant_ru (n : Nat) (s : State) : (s.grant n).ru = s.ru :=
  (State.grant_frame n s).2.2.2.2.2.1
@[simp] theorem State.grant_spn (n : Nat) (s : State) : (s.grant n).spn = s.spn :=
  (State.grant_frame n s).2.2.2.2.2.2.1
@[simp] theorem State.grant_sl (n : Nat) (s : State) : (s.grant n).sl = s.sl :=
  (State.grant_frame n s).2.2.2.2.2.2.2.1
@[simp] theorem State.grant_dig (n : Nat) (s : State) : (s.grant n).dig = s.dig :=
  (State.grant_frame n s).2.2.2.2.2.2.2.2.1
@[simp] theorem State.grant_ks (n : Nat) (s : State) : (s.grant n).ks = s.ks :=
  (State.grant_frame n s).2.2.2.2.2.2.2.2.2.1
@[simp] theorem State.grant_mem (n : Nat) (s : State) : (s.grant n).mem = s.mem :=
  (State.grant_frame n s).2.2.2.2.2.2.2.2.2.2.1
@[simp] theorem State.grant_skn (n : Nat) (s : State) : (s.grant n).skn = s.skn :=
  (State.grant_frame n s).2.2.2.2.2.2.2.2.2.2.2.1
@[simp] theorem State.grant_kp (n : Nat) (s : State) : (s.grant n).kp = s.kp :=
  (State.grant_frame n s).2.2.2.2.2.2.2.2.2.2.2.2.1
@[simp] theorem State.grant_tmp (n : Nat) (s : State) : (s.grant n).tmp = s.tmp :=
  (State.grant_frame n s).2.2.2.2.2.2.2.2.2.2.2.2.2.1
@[simp] theorem State.grant_life (n : Nat) (s : State) : (s.grant n).life = s.life :=
  (State.grant_frame n s).2.2.2.2.2.2.2.2.2.2.2.2.2.2.1
@[simp] theorem State.grant_mss (n : Nat) (s : State) : (s.grant n).mss = s.mss :=
  (State.grant_frame n s).2.2.2.2.2.2.2.2.2.2.2.2.2.2.2.1
@[simp] theorem State.grant_card (n : Nat) (s : State) : (s.grant n).card = s.card :=
  (State.grant_frame n s).2.2.2.2.2.2.2.2.2.2.2.2.2.2.2.2.1
@[simp] theorem State.grant_pwr (n : Nat) (s : State) : (s.grant n).pwr = s.pwr :=
  (State.grant_frame n s).2.2.2.2.2.2.2.2.2.2.2.2.2.2.2.2.2.1
@[simp] theorem State.grant_posted (n : Nat) (s : State) : (s.grant n).posted = s.posted :=
  (State.grant_frame n s).2.2.2.2.2.2.2.2.2.2.2.2.2.2.2.2.2.2.1
@[simp] theorem State.grant_pending (n : Nat) (s : State) : (s.grant n).pending = s.pending :=
  (State.grant_frame n s).2.2.2.2.2.2.2.2.2.2.2.2.2.2.2.2.2.2.2

/-- grantAtOnce touches `arb` at most. -/
theorem State.grantAtOnce_frame (n i : Nat) (s : State) :
    (s.grantAtOnce n i).gctl = s.gctl ∧ (s.grantAtOnce n i).queues = s.queues ∧ (s.grantAtOnce n i).epochBase = s.epochBase ∧
    (s.grantAtOnce n i).domains = s.domains ∧ (s.grantAtOnce n i).led = s.led ∧ (s.grantAtOnce n i).ru = s.ru ∧
    (s.grantAtOnce n i).spn = s.spn ∧ (s.grantAtOnce n i).sl = s.sl ∧ (s.grantAtOnce n i).dig = s.dig ∧
    (s.grantAtOnce n i).ks = s.ks ∧ (s.grantAtOnce n i).mem = s.mem ∧ (s.grantAtOnce n i).skn = s.skn ∧
    (s.grantAtOnce n i).kp = s.kp ∧ (s.grantAtOnce n i).tmp = s.tmp ∧ (s.grantAtOnce n i).life = s.life ∧
    (s.grantAtOnce n i).mss = s.mss ∧ (s.grantAtOnce n i).card = s.card ∧ (s.grantAtOnce n i).pwr = s.pwr ∧
    (s.grantAtOnce n i).posted = s.posted ∧ (s.grantAtOnce n i).pending = s.pending := by
  unfold State.grantAtOnce
  (repeat' split) <;> simp
@[simp] theorem State.grantAtOnce_gctl (n i : Nat) (s : State) : (s.grantAtOnce n i).gctl = s.gctl :=
  (State.grantAtOnce_frame n i s).1
@[simp] theorem State.grantAtOnce_queues (n i : Nat) (s : State) : (s.grantAtOnce n i).queues = s.queues :=
  (State.grantAtOnce_frame n i s).2.1
@[simp] theorem State.grantAtOnce_epochBase (n i : Nat) (s : State) : (s.grantAtOnce n i).epochBase = s.epochBase :=
  (State.grantAtOnce_frame n i s).2.2.1
@[simp] theorem State.grantAtOnce_domains (n i : Nat) (s : State) : (s.grantAtOnce n i).domains = s.domains :=
  (State.grantAtOnce_frame n i s).2.2.2.1
@[simp] theorem State.grantAtOnce_led (n i : Nat) (s : State) : (s.grantAtOnce n i).led = s.led :=
  (State.grantAtOnce_frame n i s).2.2.2.2.1
@[simp] theorem State.grantAtOnce_ru (n i : Nat) (s : State) : (s.grantAtOnce n i).ru = s.ru :=
  (State.grantAtOnce_frame n i s).2.2.2.2.2.1
@[simp] theorem State.grantAtOnce_spn (n i : Nat) (s : State) : (s.grantAtOnce n i).spn = s.spn :=
  (State.grantAtOnce_frame n i s).2.2.2.2.2.2.1
@[simp] theorem State.grantAtOnce_sl (n i : Nat) (s : State) : (s.grantAtOnce n i).sl = s.sl :=
  (State.grantAtOnce_frame n i s).2.2.2.2.2.2.2.1
@[simp] theorem State.grantAtOnce_dig (n i : Nat) (s : State) : (s.grantAtOnce n i).dig = s.dig :=
  (State.grantAtOnce_frame n i s).2.2.2.2.2.2.2.2.1
@[simp] theorem State.grantAtOnce_ks (n i : Nat) (s : State) : (s.grantAtOnce n i).ks = s.ks :=
  (State.grantAtOnce_frame n i s).2.2.2.2.2.2.2.2.2.1
@[simp] theorem State.grantAtOnce_mem (n i : Nat) (s : State) : (s.grantAtOnce n i).mem = s.mem :=
  (State.grantAtOnce_frame n i s).2.2.2.2.2.2.2.2.2.2.1
@[simp] theorem State.grantAtOnce_skn (n i : Nat) (s : State) : (s.grantAtOnce n i).skn = s.skn :=
  (State.grantAtOnce_frame n i s).2.2.2.2.2.2.2.2.2.2.2.1
@[simp] theorem State.grantAtOnce_kp (n i : Nat) (s : State) : (s.grantAtOnce n i).kp = s.kp :=
  (State.grantAtOnce_frame n i s).2.2.2.2.2.2.2.2.2.2.2.2.1
@[simp] theorem State.grantAtOnce_tmp (n i : Nat) (s : State) : (s.grantAtOnce n i).tmp = s.tmp :=
  (State.grantAtOnce_frame n i s).2.2.2.2.2.2.2.2.2.2.2.2.2.1
@[simp] theorem State.grantAtOnce_life (n i : Nat) (s : State) : (s.grantAtOnce n i).life = s.life :=
  (State.grantAtOnce_frame n i s).2.2.2.2.2.2.2.2.2.2.2.2.2.2.1
@[simp] theorem State.grantAtOnce_mss (n i : Nat) (s : State) : (s.grantAtOnce n i).mss = s.mss :=
  (State.grantAtOnce_frame n i s).2.2.2.2.2.2.2.2.2.2.2.2.2.2.2.1
@[simp] theorem State.grantAtOnce_card (n i : Nat) (s : State) : (s.grantAtOnce n i).card = s.card :=
  (State.grantAtOnce_frame n i s).2.2.2.2.2.2.2.2.2.2.2.2.2.2.2.2.1
@[simp] theorem State.grantAtOnce_pwr (n i : Nat) (s : State) : (s.grantAtOnce n i).pwr = s.pwr :=
  (State.grantAtOnce_frame n i s).2.2.2.2.2.2.2.2.2.2.2.2.2.2.2.2.2.1
@[simp] theorem State.grantAtOnce_posted (n i : Nat) (s : State) : (s.grantAtOnce n i).posted = s.posted :=
  (State.grantAtOnce_frame n i s).2.2.2.2.2.2.2.2.2.2.2.2.2.2.2.2.2.2.1
@[simp] theorem State.grantAtOnce_pending (n i : Nat) (s : State) : (s.grantAtOnce n i).pending = s.pending :=
  (State.grantAtOnce_frame n i s).2.2.2.2.2.2.2.2.2.2.2.2.2.2.2.2.2.2.2

/-- fillEntropy touches `spn`, `ks` at most. -/
theorem State.fillEntropy_frame (n : Nat) (s : State) :
    (s.fillEntropy n).gctl = s.gctl ∧ (s.fillEntropy n).queues = s.queues ∧ (s.fillEntropy n).epochBase = s.epochBase ∧
    (s.fillEntropy n).domains = s.domains ∧ (s.fillEntropy n).led = s.led ∧ (s.fillEntropy n).ru = s.ru ∧
    (s.fillEntropy n).sl = s.sl ∧ (s.fillEntropy n).dig = s.dig ∧ (s.fillEntropy n).arb = s.arb ∧
    (s.fillEntropy n).mem = s.mem ∧ (s.fillEntropy n).skn = s.skn ∧ (s.fillEntropy n).kp = s.kp ∧
    (s.fillEntropy n).tmp = s.tmp ∧ (s.fillEntropy n).life = s.life ∧ (s.fillEntropy n).mss = s.mss ∧
    (s.fillEntropy n).card = s.card ∧ (s.fillEntropy n).pwr = s.pwr ∧ (s.fillEntropy n).posted = s.posted ∧
    (s.fillEntropy n).pending = s.pending := by
  unfold State.fillEntropy
  (repeat' split) <;> simp
@[simp] theorem State.fillEntropy_gctl (n : Nat) (s : State) : (s.fillEntropy n).gctl = s.gctl :=
  (State.fillEntropy_frame n s).1
@[simp] theorem State.fillEntropy_queues (n : Nat) (s : State) : (s.fillEntropy n).queues = s.queues :=
  (State.fillEntropy_frame n s).2.1
@[simp] theorem State.fillEntropy_epochBase (n : Nat) (s : State) : (s.fillEntropy n).epochBase = s.epochBase :=
  (State.fillEntropy_frame n s).2.2.1
@[simp] theorem State.fillEntropy_domains (n : Nat) (s : State) : (s.fillEntropy n).domains = s.domains :=
  (State.fillEntropy_frame n s).2.2.2.1
@[simp] theorem State.fillEntropy_led (n : Nat) (s : State) : (s.fillEntropy n).led = s.led :=
  (State.fillEntropy_frame n s).2.2.2.2.1
@[simp] theorem State.fillEntropy_ru (n : Nat) (s : State) : (s.fillEntropy n).ru = s.ru :=
  (State.fillEntropy_frame n s).2.2.2.2.2.1
@[simp] theorem State.fillEntropy_sl (n : Nat) (s : State) : (s.fillEntropy n).sl = s.sl :=
  (State.fillEntropy_frame n s).2.2.2.2.2.2.1
@[simp] theorem State.fillEntropy_dig (n : Nat) (s : State) : (s.fillEntropy n).dig = s.dig :=
  (State.fillEntropy_frame n s).2.2.2.2.2.2.2.1
@[simp] theorem State.fillEntropy_arb (n : Nat) (s : State) : (s.fillEntropy n).arb = s.arb :=
  (State.fillEntropy_frame n s).2.2.2.2.2.2.2.2.1
@[simp] theorem State.fillEntropy_mem (n : Nat) (s : State) : (s.fillEntropy n).mem = s.mem :=
  (State.fillEntropy_frame n s).2.2.2.2.2.2.2.2.2.1
@[simp] theorem State.fillEntropy_skn (n : Nat) (s : State) : (s.fillEntropy n).skn = s.skn :=
  (State.fillEntropy_frame n s).2.2.2.2.2.2.2.2.2.2.1
@[simp] theorem State.fillEntropy_kp (n : Nat) (s : State) : (s.fillEntropy n).kp = s.kp :=
  (State.fillEntropy_frame n s).2.2.2.2.2.2.2.2.2.2.2.1
@[simp] theorem State.fillEntropy_tmp (n : Nat) (s : State) : (s.fillEntropy n).tmp = s.tmp :=
  (State.fillEntropy_frame n s).2.2.2.2.2.2.2.2.2.2.2.2.1
@[simp] theorem State.fillEntropy_life (n : Nat) (s : State) : (s.fillEntropy n).life = s.life :=
  (State.fillEntropy_frame n s).2.2.2.2.2.2.2.2.2.2.2.2.2.1
@[simp] theorem State.fillEntropy_mss (n : Nat) (s : State) : (s.fillEntropy n).mss = s.mss :=
  (State.fillEntropy_frame n s).2.2.2.2.2.2.2.2.2.2.2.2.2.2.1
@[simp] theorem State.fillEntropy_card (n : Nat) (s : State) : (s.fillEntropy n).card = s.card :=
  (State.fillEntropy_frame n s).2.2.2.2.2.2.2.2.2.2.2.2.2.2.2.1
@[simp] theorem State.fillEntropy_pwr (n : Nat) (s : State) : (s.fillEntropy n).pwr = s.pwr :=
  (State.fillEntropy_frame n s).2.2.2.2.2.2.2.2.2.2.2.2.2.2.2.2.1
@[simp] theorem State.fillEntropy_posted (n : Nat) (s : State) : (s.fillEntropy n).posted = s.posted :=
  (State.fillEntropy_frame n s).2.2.2.2.2.2.2.2.2.2.2.2.2.2.2.2.2.1
@[simp] theorem State.fillEntropy_pending (n : Nat) (s : State) : (s.fillEntropy n).pending = s.pending :=
  (State.fillEntropy_frame n s).2.2.2.2.2.2.2.2.2.2.2.2.2.2.2.2.2.2

/-- setParked touches `spn` at most. -/
theorem State.setParked_frame (signing : Bool) (js : List Job) (s : State) :
    (s.setParked signing js).gctl = s.gctl ∧ (s.setParked signing js).queues = s.queues ∧
    (s.setParked signing js).epochBase = s.epochBase ∧ (s.setParked signing js).domains = s.domains ∧
    (s.setParked signing js).led = s.led ∧ (s.setParked signing js).ru = s.ru ∧ (s.setParked signing js).sl = s.sl ∧
    (s.setParked signing js).dig = s.dig ∧ (s.setParked signing js).ks = s.ks ∧ (s.setParked signing js).arb = s.arb ∧
    (s.setParked signing js).mem = s.mem ∧ (s.setParked signing js).skn = s.skn ∧ (s.setParked signing js).kp = s.kp ∧
    (s.setParked signing js).tmp = s.tmp ∧ (s.setParked signing js).life = s.life ∧ (s.setParked signing js).mss = s.mss ∧
    (s.setParked signing js).card = s.card ∧ (s.setParked signing js).pwr = s.pwr ∧ (s.setParked signing js).posted = s.posted ∧
    (s.setParked signing js).pending = s.pending := by
  unfold State.setParked
  (repeat' split) <;> simp
@[simp] theorem State.setParked_gctl (signing : Bool) (js : List Job) (s : State) : (s.setParked signing js).gctl = s.gctl :=
  (State.setParked_frame signing js s).1
@[simp] theorem State.setParked_queues (signing : Bool) (js : List Job) (s : State) : (s.setParked signing js).queues = s.queues :=
  (State.setParked_frame signing js s).2.1
@[simp] theorem State.setParked_epochBase (signing : Bool) (js : List Job) (s : State) : (s.setParked signing js).epochBase = s.epochBase :=
  (State.setParked_frame signing js s).2.2.1
@[simp] theorem State.setParked_domains (signing : Bool) (js : List Job) (s : State) : (s.setParked signing js).domains = s.domains :=
  (State.setParked_frame signing js s).2.2.2.1
@[simp] theorem State.setParked_led (signing : Bool) (js : List Job) (s : State) : (s.setParked signing js).led = s.led :=
  (State.setParked_frame signing js s).2.2.2.2.1
@[simp] theorem State.setParked_ru (signing : Bool) (js : List Job) (s : State) : (s.setParked signing js).ru = s.ru :=
  (State.setParked_frame signing js s).2.2.2.2.2.1
@[simp] theorem State.setParked_sl (signing : Bool) (js : List Job) (s : State) : (s.setParked signing js).sl = s.sl :=
  (State.setParked_frame signing js s).2.2.2.2.2.2.1
@[simp] theorem State.setParked_dig (signing : Bool) (js : List Job) (s : State) : (s.setParked signing js).dig = s.dig :=
  (State.setParked_frame signing js s).2.2.2.2.2.2.2.1
@[simp] theorem State.setParked_ks (signing : Bool) (js : List Job) (s : State) : (s.setParked signing js).ks = s.ks :=
  (State.setParked_frame signing js s).2.2.2.2.2.2.2.2.1
@[simp] theorem State.setParked_arb (signing : Bool) (js : List Job) (s : State) : (s.setParked signing js).arb = s.arb :=
  (State.setParked_frame signing js s).2.2.2.2.2.2.2.2.2.1
@[simp] theorem State.setParked_mem (signing : Bool) (js : List Job) (s : State) : (s.setParked signing js).mem = s.mem :=
  (State.setParked_frame signing js s).2.2.2.2.2.2.2.2.2.2.1
@[simp] theorem State.setParked_skn (signing : Bool) (js : List Job) (s : State) : (s.setParked signing js).skn = s.skn :=
  (State.setParked_frame signing js s).2.2.2.2.2.2.2.2.2.2.2.1
@[simp] theorem State.setParked_kp (signing : Bool) (js : List Job) (s : State) : (s.setParked signing js).kp = s.kp :=
  (State.setParked_frame signing js s).2.2.2.2.2.2.2.2.2.2.2.2.1
@[simp] theorem State.setParked_tmp (signing : Bool) (js : List Job) (s : State) : (s.setParked signing js).tmp = s.tmp :=
  (State.setParked_frame signing js s).2.2.2.2.2.2.2.2.2.2.2.2.2.1
@[simp] theorem State.setParked_life (signing : Bool) (js : List Job) (s : State) : (s.setParked signing js).life = s.life :=
  (State.setParked_frame signing js s).2.2.2.2.2.2.2.2.2.2.2.2.2.2.1
@[simp] theorem State.setParked_mss (signing : Bool) (js : List Job) (s : State) : (s.setParked signing js).mss = s.mss :=
  (State.setParked_frame signing js s).2.2.2.2.2.2.2.2.2.2.2.2.2.2.2.1
@[simp] theorem State.setParked_card (signing : Bool) (js : List Job) (s : State) : (s.setParked signing js).card = s.card :=
  (State.setParked_frame signing js s).2.2.2.2.2.2.2.2.2.2.2.2.2.2.2.2.1
@[simp] theorem State.setParked_pwr (signing : Bool) (js : List Job) (s : State) : (s.setParked signing js).pwr = s.pwr :=
  (State.setParked_frame signing js s).2.2.2.2.2.2.2.2.2.2.2.2.2.2.2.2.2.1
@[simp] theorem State.setParked_posted (signing : Bool) (js : List Job) (s : State) : (s.setParked signing js).posted = s.posted :=
  (State.setParked_frame signing js s).2.2.2.2.2.2.2.2.2.2.2.2.2.2.2.2.2.2.1
@[simp] theorem State.setParked_pending (signing : Bool) (js : List Job) (s : State) : (s.setParked signing js).pending = s.pending :=
  (State.setParked_frame signing js s).2.2.2.2.2.2.2.2.2.2.2.2.2.2.2.2.2.2.2

/-- closeGroup touches `led`, `arb` at most. -/
theorem State.closeGroup_frame (s : State) :
    s.closeGroup.gctl = s.gctl ∧ s.closeGroup.queues = s.queues ∧ s.closeGroup.epochBase = s.epochBase ∧
    s.closeGroup.domains = s.domains ∧ s.closeGroup.ru = s.ru ∧ s.closeGroup.spn = s.spn ∧ s.closeGroup.sl = s.sl ∧
    s.closeGroup.dig = s.dig ∧ s.closeGroup.ks = s.ks ∧ s.closeGroup.mem = s.mem ∧ s.closeGroup.skn = s.skn ∧
    s.closeGroup.kp = s.kp ∧ s.closeGroup.tmp = s.tmp ∧ s.closeGroup.life = s.life ∧ s.closeGroup.mss = s.mss ∧
    s.closeGroup.card = s.card ∧ s.closeGroup.pwr = s.pwr ∧ s.closeGroup.posted = s.posted ∧ s.closeGroup.pending = s.pending := by
  unfold State.closeGroup
  dsimp only
  (repeat' split) <;> simp
@[simp] theorem State.closeGroup_gctl (s : State) : s.closeGroup.gctl = s.gctl :=
  (State.closeGroup_frame s).1
@[simp] theorem State.closeGroup_queues (s : State) : s.closeGroup.queues = s.queues :=
  (State.closeGroup_frame s).2.1
@[simp] theorem State.closeGroup_epochBase (s : State) : s.closeGroup.epochBase = s.epochBase :=
  (State.closeGroup_frame s).2.2.1
@[simp] theorem State.closeGroup_domains (s : State) : s.closeGroup.domains = s.domains :=
  (State.closeGroup_frame s).2.2.2.1
@[simp] theorem State.closeGroup_ru (s : State) : s.closeGroup.ru = s.ru :=
  (State.closeGroup_frame s).2.2.2.2.1
@[simp] theorem State.closeGroup_spn (s : State) : s.closeGroup.spn = s.spn :=
  (State.closeGroup_frame s).2.2.2.2.2.1
@[simp] theorem State.closeGroup_sl (s : State) : s.closeGroup.sl = s.sl :=
  (State.closeGroup_frame s).2.2.2.2.2.2.1
@[simp] theorem State.closeGroup_dig (s : State) : s.closeGroup.dig = s.dig :=
  (State.closeGroup_frame s).2.2.2.2.2.2.2.1
@[simp] theorem State.closeGroup_ks (s : State) : s.closeGroup.ks = s.ks :=
  (State.closeGroup_frame s).2.2.2.2.2.2.2.2.1
@[simp] theorem State.closeGroup_mem (s : State) : s.closeGroup.mem = s.mem :=
  (State.closeGroup_frame s).2.2.2.2.2.2.2.2.2.1
@[simp] theorem State.closeGroup_skn (s : State) : s.closeGroup.skn = s.skn :=
  (State.closeGroup_frame s).2.2.2.2.2.2.2.2.2.2.1
@[simp] theorem State.closeGroup_kp (s : State) : s.closeGroup.kp = s.kp :=
  (State.closeGroup_frame s).2.2.2.2.2.2.2.2.2.2.2.1
@[simp] theorem State.closeGroup_tmp (s : State) : s.closeGroup.tmp = s.tmp :=
  (State.closeGroup_frame s).2.2.2.2.2.2.2.2.2.2.2.2.1
@[simp] theorem State.closeGroup_life (s : State) : s.closeGroup.life = s.life :=
  (State.closeGroup_frame s).2.2.2.2.2.2.2.2.2.2.2.2.2.1
@[simp] theorem State.closeGroup_mss (s : State) : s.closeGroup.mss = s.mss :=
  (State.closeGroup_frame s).2.2.2.2.2.2.2.2.2.2.2.2.2.2.1
@[simp] theorem State.closeGroup_card (s : State) : s.closeGroup.card = s.card :=
  (State.closeGroup_frame s).2.2.2.2.2.2.2.2.2.2.2.2.2.2.2.1
@[simp] theorem State.closeGroup_pwr (s : State) : s.closeGroup.pwr = s.pwr :=
  (State.closeGroup_frame s).2.2.2.2.2.2.2.2.2.2.2.2.2.2.2.2.1
@[simp] theorem State.closeGroup_posted (s : State) : s.closeGroup.posted = s.posted :=
  (State.closeGroup_frame s).2.2.2.2.2.2.2.2.2.2.2.2.2.2.2.2.2.1
@[simp] theorem State.closeGroup_pending (s : State) : s.closeGroup.pending = s.pending :=
  (State.closeGroup_frame s).2.2.2.2.2.2.2.2.2.2.2.2.2.2.2.2.2.2

/-- landAborted touches `gctl`, `queues`, `mss`, `posted` at most. -/
theorem State.landAborted_frame (q : QId) (f : Fetched) (s : State) :
    (s.landAborted q f).epochBase = s.epochBase ∧ (s.landAborted q f).domains = s.domains ∧ (s.landAborted q f).led = s.led ∧
    (s.landAborted q f).ru = s.ru ∧ (s.landAborted q f).spn = s.spn ∧ (s.landAborted q f).sl = s.sl ∧
    (s.landAborted q f).dig = s.dig ∧ (s.landAborted q f).ks = s.ks ∧ (s.landAborted q f).arb = s.arb ∧
    (s.landAborted q f).mem = s.mem ∧ (s.landAborted q f).skn = s.skn ∧ (s.landAborted q f).kp = s.kp ∧
    (s.landAborted q f).tmp = s.tmp ∧ (s.landAborted q f).life = s.life ∧ (s.landAborted q f).card = s.card ∧
    (s.landAborted q f).pwr = s.pwr ∧ (s.landAborted q f).pending = s.pending := by
  unfold State.landAborted
  (repeat' split) <;> simp
@[simp] theorem State.landAborted_epochBase (q : QId) (f : Fetched) (s : State) : (s.landAborted q f).epochBase = s.epochBase :=
  (State.landAborted_frame q f s).1
@[simp] theorem State.landAborted_domains (q : QId) (f : Fetched) (s : State) : (s.landAborted q f).domains = s.domains :=
  (State.landAborted_frame q f s).2.1
@[simp] theorem State.landAborted_led (q : QId) (f : Fetched) (s : State) : (s.landAborted q f).led = s.led :=
  (State.landAborted_frame q f s).2.2.1
@[simp] theorem State.landAborted_ru (q : QId) (f : Fetched) (s : State) : (s.landAborted q f).ru = s.ru :=
  (State.landAborted_frame q f s).2.2.2.1
@[simp] theorem State.landAborted_spn (q : QId) (f : Fetched) (s : State) : (s.landAborted q f).spn = s.spn :=
  (State.landAborted_frame q f s).2.2.2.2.1
@[simp] theorem State.landAborted_sl (q : QId) (f : Fetched) (s : State) : (s.landAborted q f).sl = s.sl :=
  (State.landAborted_frame q f s).2.2.2.2.2.1
@[simp] theorem State.landAborted_dig (q : QId) (f : Fetched) (s : State) : (s.landAborted q f).dig = s.dig :=
  (State.landAborted_frame q f s).2.2.2.2.2.2.1
@[simp] theorem State.landAborted_ks (q : QId) (f : Fetched) (s : State) : (s.landAborted q f).ks = s.ks :=
  (State.landAborted_frame q f s).2.2.2.2.2.2.2.1
@[simp] theorem State.landAborted_arb (q : QId) (f : Fetched) (s : State) : (s.landAborted q f).arb = s.arb :=
  (State.landAborted_frame q f s).2.2.2.2.2.2.2.2.1
@[simp] theorem State.landAborted_mem (q : QId) (f : Fetched) (s : State) : (s.landAborted q f).mem = s.mem :=
  (State.landAborted_frame q f s).2.2.2.2.2.2.2.2.2.1
@[simp] theorem State.landAborted_skn (q : QId) (f : Fetched) (s : State) : (s.landAborted q f).skn = s.skn :=
  (State.landAborted_frame q f s).2.2.2.2.2.2.2.2.2.2.1
@[simp] theorem State.landAborted_kp (q : QId) (f : Fetched) (s : State) : (s.landAborted q f).kp = s.kp :=
  (State.landAborted_frame q f s).2.2.2.2.2.2.2.2.2.2.2.1
@[simp] theorem State.landAborted_tmp (q : QId) (f : Fetched) (s : State) : (s.landAborted q f).tmp = s.tmp :=
  (State.landAborted_frame q f s).2.2.2.2.2.2.2.2.2.2.2.2.1
@[simp] theorem State.landAborted_life (q : QId) (f : Fetched) (s : State) : (s.landAborted q f).life = s.life :=
  (State.landAborted_frame q f s).2.2.2.2.2.2.2.2.2.2.2.2.2.1
@[simp] theorem State.landAborted_card (q : QId) (f : Fetched) (s : State) : (s.landAborted q f).card = s.card :=
  (State.landAborted_frame q f s).2.2.2.2.2.2.2.2.2.2.2.2.2.2.1
@[simp] theorem State.landAborted_pwr (q : QId) (f : Fetched) (s : State) : (s.landAborted q f).pwr = s.pwr :=
  (State.landAborted_frame q f s).2.2.2.2.2.2.2.2.2.2.2.2.2.2.2.1
@[simp] theorem State.landAborted_pending (q : QId) (f : Fetched) (s : State) : (s.landAborted q f).pending = s.pending :=
  (State.landAborted_frame q f s).2.2.2.2.2.2.2.2.2.2.2.2.2.2.2.2

/-- landNext touches `gctl`, `queues`, `mss`, `posted` at most. -/
theorem State.landNext_frame (q : QId) (s : State) :
    (s.landNext q).epochBase = s.epochBase ∧ (s.landNext q).domains = s.domains ∧ (s.landNext q).led = s.led ∧
    (s.landNext q).ru = s.ru ∧ (s.landNext q).spn = s.spn ∧ (s.landNext q).sl = s.sl ∧ (s.landNext q).dig = s.dig ∧
    (s.landNext q).ks = s.ks ∧ (s.landNext q).arb = s.arb ∧ (s.landNext q).mem = s.mem ∧ (s.landNext q).skn = s.skn ∧
    (s.landNext q).kp = s.kp ∧ (s.landNext q).tmp = s.tmp ∧ (s.landNext q).life = s.life ∧ (s.landNext q).card = s.card ∧
    (s.landNext q).pwr = s.pwr ∧ (s.landNext q).pending = s.pending := by
  unfold State.landNext
  (repeat' split) <;> simp
@[simp] theorem State.landNext_epochBase (q : QId) (s : State) : (s.landNext q).epochBase = s.epochBase :=
  (State.landNext_frame q s).1
@[simp] theorem State.landNext_domains (q : QId) (s : State) : (s.landNext q).domains = s.domains :=
  (State.landNext_frame q s).2.1
@[simp] theorem State.landNext_led (q : QId) (s : State) : (s.landNext q).led = s.led :=
  (State.landNext_frame q s).2.2.1
@[simp] theorem State.landNext_ru (q : QId) (s : State) : (s.landNext q).ru = s.ru :=
  (State.landNext_frame q s).2.2.2.1
@[simp] theorem State.landNext_spn (q : QId) (s : State) : (s.landNext q).spn = s.spn :=
  (State.landNext_frame q s).2.2.2.2.1
@[simp] theorem State.landNext_sl (q : QId) (s : State) : (s.landNext q).sl = s.sl :=
  (State.landNext_frame q s).2.2.2.2.2.1
@[simp] theorem State.landNext_dig (q : QId) (s : State) : (s.landNext q).dig = s.dig :=
  (State.landNext_frame q s).2.2.2.2.2.2.1
@[simp] theorem State.landNext_ks (q : QId) (s : State) : (s.landNext q).ks = s.ks :=
  (State.landNext_frame q s).2.2.2.2.2.2.2.1
@[simp] theorem State.landNext_arb (q : QId) (s : State) : (s.landNext q).arb = s.arb :=
  (State.landNext_frame q s).2.2.2.2.2.2.2.2.1
@[simp] theorem State.landNext_mem (q : QId) (s : State) : (s.landNext q).mem = s.mem :=
  (State.landNext_frame q s).2.2.2.2.2.2.2.2.2.1
@[simp] theorem State.landNext_skn (q : QId) (s : State) : (s.landNext q).skn = s.skn :=
  (State.landNext_frame q s).2.2.2.2.2.2.2.2.2.2.1
@[simp] theorem State.landNext_kp (q : QId) (s : State) : (s.landNext q).kp = s.kp :=
  (State.landNext_frame q s).2.2.2.2.2.2.2.2.2.2.2.1
@[simp] theorem State.landNext_tmp (q : QId) (s : State) : (s.landNext q).tmp = s.tmp :=
  (State.landNext_frame q s).2.2.2.2.2.2.2.2.2.2.2.2.1
@[simp] theorem State.landNext_life (q : QId) (s : State) : (s.landNext q).life = s.life :=
  (State.landNext_frame q s).2.2.2.2.2.2.2.2.2.2.2.2.2.1
@[simp] theorem State.landNext_card (q : QId) (s : State) : (s.landNext q).card = s.card :=
  (State.landNext_frame q s).2.2.2.2.2.2.2.2.2.2.2.2.2.2.1
@[simp] theorem State.landNext_pwr (q : QId) (s : State) : (s.landNext q).pwr = s.pwr :=
  (State.landNext_frame q s).2.2.2.2.2.2.2.2.2.2.2.2.2.2.2.1
@[simp] theorem State.landNext_pending (q : QId) (s : State) : (s.landNext q).pending = s.pending :=
  (State.landNext_frame q s).2.2.2.2.2.2.2.2.2.2.2.2.2.2.2.2

/-- judgeNext touches `gctl`, `queues`, `arb`, `mss`, `posted` at most. -/
theorem State.judgeNext_frame (q : QId) (s : State) :
    (s.judgeNext q).epochBase = s.epochBase ∧ (s.judgeNext q).domains = s.domains ∧ (s.judgeNext q).led = s.led ∧
    (s.judgeNext q).ru = s.ru ∧ (s.judgeNext q).spn = s.spn ∧ (s.judgeNext q).sl = s.sl ∧ (s.judgeNext q).dig = s.dig ∧
    (s.judgeNext q).ks = s.ks ∧ (s.judgeNext q).mem = s.mem ∧ (s.judgeNext q).skn = s.skn ∧ (s.judgeNext q).kp = s.kp ∧
    (s.judgeNext q).tmp = s.tmp ∧ (s.judgeNext q).life = s.life ∧ (s.judgeNext q).card = s.card ∧ (s.judgeNext q).pwr = s.pwr ∧
    (s.judgeNext q).pending = s.pending := by
  unfold State.judgeNext
  (repeat' split) <;> simp
@[simp] theorem State.judgeNext_epochBase (q : QId) (s : State) : (s.judgeNext q).epochBase = s.epochBase :=
  (State.judgeNext_frame q s).1
@[simp] theorem State.judgeNext_domains (q : QId) (s : State) : (s.judgeNext q).domains = s.domains :=
  (State.judgeNext_frame q s).2.1
@[simp] theorem State.judgeNext_led (q : QId) (s : State) : (s.judgeNext q).led = s.led :=
  (State.judgeNext_frame q s).2.2.1
@[simp] theorem State.judgeNext_ru (q : QId) (s : State) : (s.judgeNext q).ru = s.ru :=
  (State.judgeNext_frame q s).2.2.2.1
@[simp] theorem State.judgeNext_spn (q : QId) (s : State) : (s.judgeNext q).spn = s.spn :=
  (State.judgeNext_frame q s).2.2.2.2.1
@[simp] theorem State.judgeNext_sl (q : QId) (s : State) : (s.judgeNext q).sl = s.sl :=
  (State.judgeNext_frame q s).2.2.2.2.2.1
@[simp] theorem State.judgeNext_dig (q : QId) (s : State) : (s.judgeNext q).dig = s.dig :=
  (State.judgeNext_frame q s).2.2.2.2.2.2.1
@[simp] theorem State.judgeNext_ks (q : QId) (s : State) : (s.judgeNext q).ks = s.ks :=
  (State.judgeNext_frame q s).2.2.2.2.2.2.2.1
@[simp] theorem State.judgeNext_mem (q : QId) (s : State) : (s.judgeNext q).mem = s.mem :=
  (State.judgeNext_frame q s).2.2.2.2.2.2.2.2.1
@[simp] theorem State.judgeNext_skn (q : QId) (s : State) : (s.judgeNext q).skn = s.skn :=
  (State.judgeNext_frame q s).2.2.2.2.2.2.2.2.2.1
@[simp] theorem State.judgeNext_kp (q : QId) (s : State) : (s.judgeNext q).kp = s.kp :=
  (State.judgeNext_frame q s).2.2.2.2.2.2.2.2.2.2.1
@[simp] theorem State.judgeNext_tmp (q : QId) (s : State) : (s.judgeNext q).tmp = s.tmp :=
  (State.judgeNext_frame q s).2.2.2.2.2.2.2.2.2.2.2.1
@[simp] theorem State.judgeNext_life (q : QId) (s : State) : (s.judgeNext q).life = s.life :=
  (State.judgeNext_frame q s).2.2.2.2.2.2.2.2.2.2.2.2.1
@[simp] theorem State.judgeNext_card (q : QId) (s : State) : (s.judgeNext q).card = s.card :=
  (State.judgeNext_frame q s).2.2.2.2.2.2.2.2.2.2.2.2.2.1
@[simp] theorem State.judgeNext_pwr (q : QId) (s : State) : (s.judgeNext q).pwr = s.pwr :=
  (State.judgeNext_frame q s).2.2.2.2.2.2.2.2.2.2.2.2.2.2.1
@[simp] theorem State.judgeNext_pending (q : QId) (s : State) : (s.judgeNext q).pending = s.pending :=
  (State.judgeNext_frame q s).2.2.2.2.2.2.2.2.2.2.2.2.2.2.2

/-- decodeNext touches `gctl`, `queues`, `arb`, `mss`, `posted` at most. -/
theorem State.decodeNext_frame (q : QId) (s : State) :
    (s.decodeNext q).epochBase = s.epochBase ∧ (s.decodeNext q).domains = s.domains ∧ (s.decodeNext q).led = s.led ∧
    (s.decodeNext q).ru = s.ru ∧ (s.decodeNext q).spn = s.spn ∧ (s.decodeNext q).sl = s.sl ∧ (s.decodeNext q).dig = s.dig ∧
    (s.decodeNext q).ks = s.ks ∧ (s.decodeNext q).mem = s.mem ∧ (s.decodeNext q).skn = s.skn ∧ (s.decodeNext q).kp = s.kp ∧
    (s.decodeNext q).tmp = s.tmp ∧ (s.decodeNext q).life = s.life ∧ (s.decodeNext q).card = s.card ∧
    (s.decodeNext q).pwr = s.pwr ∧ (s.decodeNext q).pending = s.pending := by
  unfold State.decodeNext
  (repeat' split) <;> simp
@[simp] theorem State.decodeNext_epochBase (q : QId) (s : State) : (s.decodeNext q).epochBase = s.epochBase :=
  (State.decodeNext_frame q s).1
@[simp] theorem State.decodeNext_domains (q : QId) (s : State) : (s.decodeNext q).domains = s.domains :=
  (State.decodeNext_frame q s).2.1
@[simp] theorem State.decodeNext_led (q : QId) (s : State) : (s.decodeNext q).led = s.led :=
  (State.decodeNext_frame q s).2.2.1
@[simp] theorem State.decodeNext_ru (q : QId) (s : State) : (s.decodeNext q).ru = s.ru :=
  (State.decodeNext_frame q s).2.2.2.1
@[simp] theorem State.decodeNext_spn (q : QId) (s : State) : (s.decodeNext q).spn = s.spn :=
  (State.decodeNext_frame q s).2.2.2.2.1
@[simp] theorem State.decodeNext_sl (q : QId) (s : State) : (s.decodeNext q).sl = s.sl :=
  (State.decodeNext_frame q s).2.2.2.2.2.1
@[simp] theorem State.decodeNext_dig (q : QId) (s : State) : (s.decodeNext q).dig = s.dig :=
  (State.decodeNext_frame q s).2.2.2.2.2.2.1
@[simp] theorem State.decodeNext_ks (q : QId) (s : State) : (s.decodeNext q).ks = s.ks :=
  (State.decodeNext_frame q s).2.2.2.2.2.2.2.1
@[simp] theorem State.decodeNext_mem (q : QId) (s : State) : (s.decodeNext q).mem = s.mem :=
  (State.decodeNext_frame q s).2.2.2.2.2.2.2.2.1
@[simp] theorem State.decodeNext_skn (q : QId) (s : State) : (s.decodeNext q).skn = s.skn :=
  (State.decodeNext_frame q s).2.2.2.2.2.2.2.2.2.1
@[simp] theorem State.decodeNext_kp (q : QId) (s : State) : (s.decodeNext q).kp = s.kp :=
  (State.decodeNext_frame q s).2.2.2.2.2.2.2.2.2.2.1
@[simp] theorem State.decodeNext_tmp (q : QId) (s : State) : (s.decodeNext q).tmp = s.tmp :=
  (State.decodeNext_frame q s).2.2.2.2.2.2.2.2.2.2.2.1
@[simp] theorem State.decodeNext_life (q : QId) (s : State) : (s.decodeNext q).life = s.life :=
  (State.decodeNext_frame q s).2.2.2.2.2.2.2.2.2.2.2.2.1
@[simp] theorem State.decodeNext_card (q : QId) (s : State) : (s.decodeNext q).card = s.card :=
  (State.decodeNext_frame q s).2.2.2.2.2.2.2.2.2.2.2.2.2.1
@[simp] theorem State.decodeNext_pwr (q : QId) (s : State) : (s.decodeNext q).pwr = s.pwr :=
  (State.decodeNext_frame q s).2.2.2.2.2.2.2.2.2.2.2.2.2.2.1
@[simp] theorem State.decodeNext_pending (q : QId) (s : State) : (s.decodeNext q).pending = s.pending :=
  (State.decodeNext_frame q s).2.2.2.2.2.2.2.2.2.2.2.2.2.2.2

/-- dispatchAt touches `queues`, `arb` at most. -/
theorem State.dispatchAt_frame (n : Nat) (s : State) :
    (s.dispatchAt n).gctl = s.gctl ∧ (s.dispatchAt n).epochBase = s.epochBase ∧ (s.dispatchAt n).domains = s.domains ∧
    (s.dispatchAt n).led = s.led ∧ (s.dispatchAt n).ru = s.ru ∧ (s.dispatchAt n).spn = s.spn ∧ (s.dispatchAt n).sl = s.sl ∧
    (s.dispatchAt n).dig = s.dig ∧ (s.dispatchAt n).ks = s.ks ∧ (s.dispatchAt n).mem = s.mem ∧ (s.dispatchAt n).skn = s.skn ∧
    (s.dispatchAt n).kp = s.kp ∧ (s.dispatchAt n).tmp = s.tmp ∧ (s.dispatchAt n).life = s.life ∧ (s.dispatchAt n).mss = s.mss ∧
    (s.dispatchAt n).card = s.card ∧ (s.dispatchAt n).pwr = s.pwr ∧ (s.dispatchAt n).posted = s.posted ∧
    (s.dispatchAt n).pending = s.pending := by
  unfold State.dispatchAt
  (repeat' split) <;> simp
@[simp] theorem State.dispatchAt_gctl (n : Nat) (s : State) : (s.dispatchAt n).gctl = s.gctl :=
  (State.dispatchAt_frame n s).1
@[simp] theorem State.dispatchAt_epochBase (n : Nat) (s : State) : (s.dispatchAt n).epochBase = s.epochBase :=
  (State.dispatchAt_frame n s).2.1
@[simp] theorem State.dispatchAt_domains (n : Nat) (s : State) : (s.dispatchAt n).domains = s.domains :=
  (State.dispatchAt_frame n s).2.2.1
@[simp] theorem State.dispatchAt_led (n : Nat) (s : State) : (s.dispatchAt n).led = s.led :=
  (State.dispatchAt_frame n s).2.2.2.1
@[simp] theorem State.dispatchAt_ru (n : Nat) (s : State) : (s.dispatchAt n).ru = s.ru :=
  (State.dispatchAt_frame n s).2.2.2.2.1
@[simp] theorem State.dispatchAt_spn (n : Nat) (s : State) : (s.dispatchAt n).spn = s.spn :=
  (State.dispatchAt_frame n s).2.2.2.2.2.1
@[simp] theorem State.dispatchAt_sl (n : Nat) (s : State) : (s.dispatchAt n).sl = s.sl :=
  (State.dispatchAt_frame n s).2.2.2.2.2.2.1
@[simp] theorem State.dispatchAt_dig (n : Nat) (s : State) : (s.dispatchAt n).dig = s.dig :=
  (State.dispatchAt_frame n s).2.2.2.2.2.2.2.1
@[simp] theorem State.dispatchAt_ks (n : Nat) (s : State) : (s.dispatchAt n).ks = s.ks :=
  (State.dispatchAt_frame n s).2.2.2.2.2.2.2.2.1
@[simp] theorem State.dispatchAt_mem (n : Nat) (s : State) : (s.dispatchAt n).mem = s.mem :=
  (State.dispatchAt_frame n s).2.2.2.2.2.2.2.2.2.1
@[simp] theorem State.dispatchAt_skn (n : Nat) (s : State) : (s.dispatchAt n).skn = s.skn :=
  (State.dispatchAt_frame n s).2.2.2.2.2.2.2.2.2.2.1
@[simp] theorem State.dispatchAt_kp (n : Nat) (s : State) : (s.dispatchAt n).kp = s.kp :=
  (State.dispatchAt_frame n s).2.2.2.2.2.2.2.2.2.2.2.1
@[simp] theorem State.dispatchAt_tmp (n : Nat) (s : State) : (s.dispatchAt n).tmp = s.tmp :=
  (State.dispatchAt_frame n s).2.2.2.2.2.2.2.2.2.2.2.2.1
@[simp] theorem State.dispatchAt_life (n : Nat) (s : State) : (s.dispatchAt n).life = s.life :=
  (State.dispatchAt_frame n s).2.2.2.2.2.2.2.2.2.2.2.2.2.1
@[simp] theorem State.dispatchAt_mss (n : Nat) (s : State) : (s.dispatchAt n).mss = s.mss :=
  (State.dispatchAt_frame n s).2.2.2.2.2.2.2.2.2.2.2.2.2.2.1
@[simp] theorem State.dispatchAt_card (n : Nat) (s : State) : (s.dispatchAt n).card = s.card :=
  (State.dispatchAt_frame n s).2.2.2.2.2.2.2.2.2.2.2.2.2.2.2.1
@[simp] theorem State.dispatchAt_pwr (n : Nat) (s : State) : (s.dispatchAt n).pwr = s.pwr :=
  (State.dispatchAt_frame n s).2.2.2.2.2.2.2.2.2.2.2.2.2.2.2.2.1
@[simp] theorem State.dispatchAt_posted (n : Nat) (s : State) : (s.dispatchAt n).posted = s.posted :=
  (State.dispatchAt_frame n s).2.2.2.2.2.2.2.2.2.2.2.2.2.2.2.2.2.1
@[simp] theorem State.dispatchAt_pending (n : Nat) (s : State) : (s.dispatchAt n).pending = s.pending :=
  (State.dispatchAt_frame n s).2.2.2.2.2.2.2.2.2.2.2.2.2.2.2.2.2.2

/-- dispatchNext touches `queues`, `arb` at most. -/
theorem State.dispatchNext_frame (q : QId) (s : State) :
    (s.dispatchNext q).gctl = s.gctl ∧ (s.dispatchNext q).epochBase = s.epochBase ∧ (s.dispatchNext q).domains = s.domains ∧
    (s.dispatchNext q).led = s.led ∧ (s.dispatchNext q).ru = s.ru ∧ (s.dispatchNext q).spn = s.spn ∧
    (s.dispatchNext q).sl = s.sl ∧ (s.dispatchNext q).dig = s.dig ∧ (s.dispatchNext q).ks = s.ks ∧
    (s.dispatchNext q).mem = s.mem ∧ (s.dispatchNext q).skn = s.skn ∧ (s.dispatchNext q).kp = s.kp ∧
    (s.dispatchNext q).tmp = s.tmp ∧ (s.dispatchNext q).life = s.life ∧ (s.dispatchNext q).mss = s.mss ∧
    (s.dispatchNext q).card = s.card ∧ (s.dispatchNext q).pwr = s.pwr ∧ (s.dispatchNext q).posted = s.posted ∧
    (s.dispatchNext q).pending = s.pending := by
  unfold State.dispatchNext
  dsimp only
  (repeat' split) <;> simp
@[simp] theorem State.dispatchNext_gctl (q : QId) (s : State) : (s.dispatchNext q).gctl = s.gctl :=
  (State.dispatchNext_frame q s).1
@[simp] theorem State.dispatchNext_epochBase (q : QId) (s : State) : (s.dispatchNext q).epochBase = s.epochBase :=
  (State.dispatchNext_frame q s).2.1
@[simp] theorem State.dispatchNext_domains (q : QId) (s : State) : (s.dispatchNext q).domains = s.domains :=
  (State.dispatchNext_frame q s).2.2.1
@[simp] theorem State.dispatchNext_led (q : QId) (s : State) : (s.dispatchNext q).led = s.led :=
  (State.dispatchNext_frame q s).2.2.2.1
@[simp] theorem State.dispatchNext_ru (q : QId) (s : State) : (s.dispatchNext q).ru = s.ru :=
  (State.dispatchNext_frame q s).2.2.2.2.1
@[simp] theorem State.dispatchNext_spn (q : QId) (s : State) : (s.dispatchNext q).spn = s.spn :=
  (State.dispatchNext_frame q s).2.2.2.2.2.1
@[simp] theorem State.dispatchNext_sl (q : QId) (s : State) : (s.dispatchNext q).sl = s.sl :=
  (State.dispatchNext_frame q s).2.2.2.2.2.2.1
@[simp] theorem State.dispatchNext_dig (q : QId) (s : State) : (s.dispatchNext q).dig = s.dig :=
  (State.dispatchNext_frame q s).2.2.2.2.2.2.2.1
@[simp] theorem State.dispatchNext_ks (q : QId) (s : State) : (s.dispatchNext q).ks = s.ks :=
  (State.dispatchNext_frame q s).2.2.2.2.2.2.2.2.1
@[simp] theorem State.dispatchNext_mem (q : QId) (s : State) : (s.dispatchNext q).mem = s.mem :=
  (State.dispatchNext_frame q s).2.2.2.2.2.2.2.2.2.1
@[simp] theorem State.dispatchNext_skn (q : QId) (s : State) : (s.dispatchNext q).skn = s.skn :=
  (State.dispatchNext_frame q s).2.2.2.2.2.2.2.2.2.2.1
@[simp] theorem State.dispatchNext_kp (q : QId) (s : State) : (s.dispatchNext q).kp = s.kp :=
  (State.dispatchNext_frame q s).2.2.2.2.2.2.2.2.2.2.2.1
@[simp] theorem State.dispatchNext_tmp (q : QId) (s : State) : (s.dispatchNext q).tmp = s.tmp :=
  (State.dispatchNext_frame q s).2.2.2.2.2.2.2.2.2.2.2.2.1
@[simp] theorem State.dispatchNext_life (q : QId) (s : State) : (s.dispatchNext q).life = s.life :=
  (State.dispatchNext_frame q s).2.2.2.2.2.2.2.2.2.2.2.2.2.1
@[simp] theorem State.dispatchNext_mss (q : QId) (s : State) : (s.dispatchNext q).mss = s.mss :=
  (State.dispatchNext_frame q s).2.2.2.2.2.2.2.2.2.2.2.2.2.2.1
@[simp] theorem State.dispatchNext_card (q : QId) (s : State) : (s.dispatchNext q).card = s.card :=
  (State.dispatchNext_frame q s).2.2.2.2.2.2.2.2.2.2.2.2.2.2.2.1
@[simp] theorem State.dispatchNext_pwr (q : QId) (s : State) : (s.dispatchNext q).pwr = s.pwr :=
  (State.dispatchNext_frame q s).2.2.2.2.2.2.2.2.2.2.2.2.2.2.2.2.1
@[simp] theorem State.dispatchNext_posted (q : QId) (s : State) : (s.dispatchNext q).posted = s.posted :=
  (State.dispatchNext_frame q s).2.2.2.2.2.2.2.2.2.2.2.2.2.2.2.2.2.1
@[simp] theorem State.dispatchNext_pending (q : QId) (s : State) : (s.dispatchNext q).pending = s.pending :=
  (State.dispatchNext_frame q s).2.2.2.2.2.2.2.2.2.2.2.2.2.2.2.2.2.2

/-- touchLock touches `led` at most. -/
theorem State.touchLock_frame (q : QId) (p : Packet) (s : State) :
    (s.touchLock q p).gctl = s.gctl ∧ (s.touchLock q p).queues = s.queues ∧ (s.touchLock q p).epochBase = s.epochBase ∧
    (s.touchLock q p).domains = s.domains ∧ (s.touchLock q p).ru = s.ru ∧ (s.touchLock q p).spn = s.spn ∧
    (s.touchLock q p).sl = s.sl ∧ (s.touchLock q p).dig = s.dig ∧ (s.touchLock q p).ks = s.ks ∧ (s.touchLock q p).arb = s.arb ∧
    (s.touchLock q p).mem = s.mem ∧ (s.touchLock q p).skn = s.skn ∧ (s.touchLock q p).kp = s.kp ∧
    (s.touchLock q p).tmp = s.tmp ∧ (s.touchLock q p).life = s.life ∧ (s.touchLock q p).mss = s.mss ∧
    (s.touchLock q p).card = s.card ∧ (s.touchLock q p).pwr = s.pwr ∧ (s.touchLock q p).posted = s.posted ∧
    (s.touchLock q p).pending = s.pending := by
  unfold State.touchLock
  (repeat' split) <;> simp
@[simp] theorem State.touchLock_gctl (q : QId) (p : Packet) (s : State) : (s.touchLock q p).gctl = s.gctl :=
  (State.touchLock_frame q p s).1
@[simp] theorem State.touchLock_queues (q : QId) (p : Packet) (s : State) : (s.touchLock q p).queues = s.queues :=
  (State.touchLock_frame q p s).2.1
@[simp] theorem State.touchLock_epochBase (q : QId) (p : Packet) (s : State) : (s.touchLock q p).epochBase = s.epochBase :=
  (State.touchLock_frame q p s).2.2.1
@[simp] theorem State.touchLock_domains (q : QId) (p : Packet) (s : State) : (s.touchLock q p).domains = s.domains :=
  (State.touchLock_frame q p s).2.2.2.1
@[simp] theorem State.touchLock_ru (q : QId) (p : Packet) (s : State) : (s.touchLock q p).ru = s.ru :=
  (State.touchLock_frame q p s).2.2.2.2.1
@[simp] theorem State.touchLock_spn (q : QId) (p : Packet) (s : State) : (s.touchLock q p).spn = s.spn :=
  (State.touchLock_frame q p s).2.2.2.2.2.1
@[simp] theorem State.touchLock_sl (q : QId) (p : Packet) (s : State) : (s.touchLock q p).sl = s.sl :=
  (State.touchLock_frame q p s).2.2.2.2.2.2.1
@[simp] theorem State.touchLock_dig (q : QId) (p : Packet) (s : State) : (s.touchLock q p).dig = s.dig :=
  (State.touchLock_frame q p s).2.2.2.2.2.2.2.1
@[simp] theorem State.touchLock_ks (q : QId) (p : Packet) (s : State) : (s.touchLock q p).ks = s.ks :=
  (State.touchLock_frame q p s).2.2.2.2.2.2.2.2.1
@[simp] theorem State.touchLock_arb (q : QId) (p : Packet) (s : State) : (s.touchLock q p).arb = s.arb :=
  (State.touchLock_frame q p s).2.2.2.2.2.2.2.2.2.1
@[simp] theorem State.touchLock_mem (q : QId) (p : Packet) (s : State) : (s.touchLock q p).mem = s.mem :=
  (State.touchLock_frame q p s).2.2.2.2.2.2.2.2.2.2.1
@[simp] theorem State.touchLock_skn (q : QId) (p : Packet) (s : State) : (s.touchLock q p).skn = s.skn :=
  (State.touchLock_frame q p s).2.2.2.2.2.2.2.2.2.2.2.1
@[simp] theorem State.touchLock_kp (q : QId) (p : Packet) (s : State) : (s.touchLock q p).kp = s.kp :=
  (State.touchLock_frame q p s).2.2.2.2.2.2.2.2.2.2.2.2.1
@[simp] theorem State.touchLock_tmp (q : QId) (p : Packet) (s : State) : (s.touchLock q p).tmp = s.tmp :=
  (State.touchLock_frame q p s).2.2.2.2.2.2.2.2.2.2.2.2.2.1
@[simp] theorem State.touchLock_life (q : QId) (p : Packet) (s : State) : (s.touchLock q p).life = s.life :=
  (State.touchLock_frame q p s).2.2.2.2.2.2.2.2.2.2.2.2.2.2.1
@[simp] theorem State.touchLock_mss (q : QId) (p : Packet) (s : State) : (s.touchLock q p).mss = s.mss :=
  (State.touchLock_frame q p s).2.2.2.2.2.2.2.2.2.2.2.2.2.2.2.1
@[simp] theorem State.touchLock_card (q : QId) (p : Packet) (s : State) : (s.touchLock q p).card = s.card :=
  (State.touchLock_frame q p s).2.2.2.2.2.2.2.2.2.2.2.2.2.2.2.2.1
@[simp] theorem State.touchLock_pwr (q : QId) (p : Packet) (s : State) : (s.touchLock q p).pwr = s.pwr :=
  (State.touchLock_frame q p s).2.2.2.2.2.2.2.2.2.2.2.2.2.2.2.2.2.1
@[simp] theorem State.touchLock_posted (q : QId) (p : Packet) (s : State) : (s.touchLock q p).posted = s.posted :=
  (State.touchLock_frame q p s).2.2.2.2.2.2.2.2.2.2.2.2.2.2.2.2.2.2.1
@[simp] theorem State.touchLock_pending (q : QId) (p : Packet) (s : State) : (s.touchLock q p).pending = s.pending :=
  (State.touchLock_frame q p s).2.2.2.2.2.2.2.2.2.2.2.2.2.2.2.2.2.2.2

/-- startJob touches `spn`, `ks` at most. -/
theorem State.startJob_frame (n : Nat) (j : Job) (s : State) :
    (s.startJob n j).gctl = s.gctl ∧ (s.startJob n j).queues = s.queues ∧ (s.startJob n j).epochBase = s.epochBase ∧
    (s.startJob n j).domains = s.domains ∧ (s.startJob n j).led = s.led ∧ (s.startJob n j).ru = s.ru ∧
    (s.startJob n j).sl = s.sl ∧ (s.startJob n j).dig = s.dig ∧ (s.startJob n j).arb = s.arb ∧ (s.startJob n j).mem = s.mem ∧
    (s.startJob n j).skn = s.skn ∧ (s.startJob n j).kp = s.kp ∧ (s.startJob n j).tmp = s.tmp ∧ (s.startJob n j).life = s.life ∧
    (s.startJob n j).mss = s.mss ∧ (s.startJob n j).card = s.card ∧ (s.startJob n j).pwr = s.pwr ∧
    (s.startJob n j).posted = s.posted ∧ (s.startJob n j).pending = s.pending := by
  unfold State.startJob
  (repeat' split) <;> simp
@[simp] theorem State.startJob_gctl (n : Nat) (j : Job) (s : State) : (s.startJob n j).gctl = s.gctl :=
  (State.startJob_frame n j s).1
@[simp] theorem State.startJob_queues (n : Nat) (j : Job) (s : State) : (s.startJob n j).queues = s.queues :=
  (State.startJob_frame n j s).2.1
@[simp] theorem State.startJob_epochBase (n : Nat) (j : Job) (s : State) : (s.startJob n j).epochBase = s.epochBase :=
  (State.startJob_frame n j s).2.2.1
@[simp] theorem State.startJob_domains (n : Nat) (j : Job) (s : State) : (s.startJob n j).domains = s.domains :=
  (State.startJob_frame n j s).2.2.2.1
@[simp] theorem State.startJob_led (n : Nat) (j : Job) (s : State) : (s.startJob n j).led = s.led :=
  (State.startJob_frame n j s).2.2.2.2.1
@[simp] theorem State.startJob_ru (n : Nat) (j : Job) (s : State) : (s.startJob n j).ru = s.ru :=
  (State.startJob_frame n j s).2.2.2.2.2.1
@[simp] theorem State.startJob_sl (n : Nat) (j : Job) (s : State) : (s.startJob n j).sl = s.sl :=
  (State.startJob_frame n j s).2.2.2.2.2.2.1
@[simp] theorem State.startJob_dig (n : Nat) (j : Job) (s : State) : (s.startJob n j).dig = s.dig :=
  (State.startJob_frame n j s).2.2.2.2.2.2.2.1
@[simp] theorem State.startJob_arb (n : Nat) (j : Job) (s : State) : (s.startJob n j).arb = s.arb :=
  (State.startJob_frame n j s).2.2.2.2.2.2.2.2.1
@[simp] theorem State.startJob_mem (n : Nat) (j : Job) (s : State) : (s.startJob n j).mem = s.mem :=
  (State.startJob_frame n j s).2.2.2.2.2.2.2.2.2.1
@[simp] theorem State.startJob_skn (n : Nat) (j : Job) (s : State) : (s.startJob n j).skn = s.skn :=
  (State.startJob_frame n j s).2.2.2.2.2.2.2.2.2.2.1
@[simp] theorem State.startJob_kp (n : Nat) (j : Job) (s : State) : (s.startJob n j).kp = s.kp :=
  (State.startJob_frame n j s).2.2.2.2.2.2.2.2.2.2.2.1
@[simp] theorem State.startJob_tmp (n : Nat) (j : Job) (s : State) : (s.startJob n j).tmp = s.tmp :=
  (State.startJob_frame n j s).2.2.2.2.2.2.2.2.2.2.2.2.1
@[simp] theorem State.startJob_life (n : Nat) (j : Job) (s : State) : (s.startJob n j).life = s.life :=
  (State.startJob_frame n j s).2.2.2.2.2.2.2.2.2.2.2.2.2.1
@[simp] theorem State.startJob_mss (n : Nat) (j : Job) (s : State) : (s.startJob n j).mss = s.mss :=
  (State.startJob_frame n j s).2.2.2.2.2.2.2.2.2.2.2.2.2.2.1
@[simp] theorem State.startJob_card (n : Nat) (j : Job) (s : State) : (s.startJob n j).card = s.card :=
  (State.startJob_frame n j s).2.2.2.2.2.2.2.2.2.2.2.2.2.2.2.1
@[simp] theorem State.startJob_pwr (n : Nat) (j : Job) (s : State) : (s.startJob n j).pwr = s.pwr :=
  (State.startJob_frame n j s).2.2.2.2.2.2.2.2.2.2.2.2.2.2.2.2.1
@[simp] theorem State.startJob_posted (n : Nat) (j : Job) (s : State) : (s.startJob n j).posted = s.posted :=
  (State.startJob_frame n j s).2.2.2.2.2.2.2.2.2.2.2.2.2.2.2.2.2.1
@[simp] theorem State.startJob_pending (n : Nat) (j : Job) (s : State) : (s.startJob n j).pending = s.pending :=
  (State.startJob_frame n j s).2.2.2.2.2.2.2.2.2.2.2.2.2.2.2.2.2.2

/-- request touches `spn`, `ks`, `arb` at most. -/
theorem State.request_frame (j : Job) (s : State) :
    (s.request j).1.gctl = s.gctl ∧ (s.request j).1.queues = s.queues ∧ (s.request j).1.epochBase = s.epochBase ∧
    (s.request j).1.domains = s.domains ∧ (s.request j).1.led = s.led ∧ (s.request j).1.ru = s.ru ∧ (s.request j).1.sl = s.sl ∧
    (s.request j).1.dig = s.dig ∧ (s.request j).1.mem = s.mem ∧ (s.request j).1.skn = s.skn ∧ (s.request j).1.kp = s.kp ∧
    (s.request j).1.tmp = s.tmp ∧ (s.request j).1.life = s.life ∧ (s.request j).1.mss = s.mss ∧ (s.request j).1.card = s.card ∧
    (s.request j).1.pwr = s.pwr ∧ (s.request j).1.posted = s.posted ∧ (s.request j).1.pending = s.pending := by
  unfold State.request
  (repeat' split) <;> simp
@[simp] theorem State.request_gctl (j : Job) (s : State) : (s.request j).1.gctl = s.gctl :=
  (State.request_frame j s).1
@[simp] theorem State.request_queues (j : Job) (s : State) : (s.request j).1.queues = s.queues :=
  (State.request_frame j s).2.1
@[simp] theorem State.request_epochBase (j : Job) (s : State) : (s.request j).1.epochBase = s.epochBase :=
  (State.request_frame j s).2.2.1
@[simp] theorem State.request_domains (j : Job) (s : State) : (s.request j).1.domains = s.domains :=
  (State.request_frame j s).2.2.2.1
@[simp] theorem State.request_led (j : Job) (s : State) : (s.request j).1.led = s.led :=
  (State.request_frame j s).2.2.2.2.1
@[simp] theorem State.request_ru (j : Job) (s : State) : (s.request j).1.ru = s.ru :=
  (State.request_frame j s).2.2.2.2.2.1
@[simp] theorem State.request_sl (j : Job) (s : State) : (s.request j).1.sl = s.sl :=
  (State.request_frame j s).2.2.2.2.2.2.1
@[simp] theorem State.request_dig (j : Job) (s : State) : (s.request j).1.dig = s.dig :=
  (State.request_frame j s).2.2.2.2.2.2.2.1
@[simp] theorem State.request_mem (j : Job) (s : State) : (s.request j).1.mem = s.mem :=
  (State.request_frame j s).2.2.2.2.2.2.2.2.1
@[simp] theorem State.request_skn (j : Job) (s : State) : (s.request j).1.skn = s.skn :=
  (State.request_frame j s).2.2.2.2.2.2.2.2.2.1
@[simp] theorem State.request_kp (j : Job) (s : State) : (s.request j).1.kp = s.kp :=
  (State.request_frame j s).2.2.2.2.2.2.2.2.2.2.1
@[simp] theorem State.request_tmp (j : Job) (s : State) : (s.request j).1.tmp = s.tmp :=
  (State.request_frame j s).2.2.2.2.2.2.2.2.2.2.2.1
@[simp] theorem State.request_life (j : Job) (s : State) : (s.request j).1.life = s.life :=
  (State.request_frame j s).2.2.2.2.2.2.2.2.2.2.2.2.1
@[simp] theorem State.request_mss (j : Job) (s : State) : (s.request j).1.mss = s.mss :=
  (State.request_frame j s).2.2.2.2.2.2.2.2.2.2.2.2.2.1
@[simp] theorem State.request_card (j : Job) (s : State) : (s.request j).1.card = s.card :=
  (State.request_frame j s).2.2.2.2.2.2.2.2.2.2.2.2.2.2.1
@[simp] theorem State.request_pwr (j : Job) (s : State) : (s.request j).1.pwr = s.pwr :=
  (State.request_frame j s).2.2.2.2.2.2.2.2.2.2.2.2.2.2.2.1
@[simp] theorem State.request_posted (j : Job) (s : State) : (s.request j).1.posted = s.posted :=
  (State.request_frame j s).2.2.2.2.2.2.2.2.2.2.2.2.2.2.2.2.1
@[simp] theorem State.request_pending (j : Job) (s : State) : (s.request j).1.pending = s.pending :=
  (State.request_frame j s).2.2.2.2.2.2.2.2.2.2.2.2.2.2.2.2.2

/-- askFetch touches `arb` at most. -/
theorem State.askFetch_frame (q : QId) (s : State) :
    (s.askFetch q).gctl = s.gctl ∧ (s.askFetch q).queues = s.queues ∧ (s.askFetch q).epochBase = s.epochBase ∧
    (s.askFetch q).domains = s.domains ∧ (s.askFetch q).led = s.led ∧ (s.askFetch q).ru = s.ru ∧ (s.askFetch q).spn = s.spn ∧
    (s.askFetch q).sl = s.sl ∧ (s.askFetch q).dig = s.dig ∧ (s.askFetch q).ks = s.ks ∧ (s.askFetch q).mem = s.mem ∧
    (s.askFetch q).skn = s.skn ∧ (s.askFetch q).kp = s.kp ∧ (s.askFetch q).tmp = s.tmp ∧ (s.askFetch q).life = s.life ∧
    (s.askFetch q).mss = s.mss ∧ (s.askFetch q).card = s.card ∧ (s.askFetch q).pwr = s.pwr ∧ (s.askFetch q).posted = s.posted ∧
    (s.askFetch q).pending = s.pending := by
  unfold State.askFetch
  dsimp only
  (repeat' split) <;> simp
@[simp] theorem State.askFetch_gctl (q : QId) (s : State) : (s.askFetch q).gctl = s.gctl :=
  (State.askFetch_frame q s).1
@[simp] theorem State.askFetch_queues (q : QId) (s : State) : (s.askFetch q).queues = s.queues :=
  (State.askFetch_frame q s).2.1
@[simp] theorem State.askFetch_epochBase (q : QId) (s : State) : (s.askFetch q).epochBase = s.epochBase :=
  (State.askFetch_frame q s).2.2.1
@[simp] theorem State.askFetch_domains (q : QId) (s : State) : (s.askFetch q).domains = s.domains :=
  (State.askFetch_frame q s).2.2.2.1
@[simp] theorem State.askFetch_led (q : QId) (s : State) : (s.askFetch q).led = s.led :=
  (State.askFetch_frame q s).2.2.2.2.1
@[simp] theorem State.askFetch_ru (q : QId) (s : State) : (s.askFetch q).ru = s.ru :=
  (State.askFetch_frame q s).2.2.2.2.2.1
@[simp] theorem State.askFetch_spn (q : QId) (s : State) : (s.askFetch q).spn = s.spn :=
  (State.askFetch_frame q s).2.2.2.2.2.2.1
@[simp] theorem State.askFetch_sl (q : QId) (s : State) : (s.askFetch q).sl = s.sl :=
  (State.askFetch_frame q s).2.2.2.2.2.2.2.1
@[simp] theorem State.askFetch_dig (q : QId) (s : State) : (s.askFetch q).dig = s.dig :=
  (State.askFetch_frame q s).2.2.2.2.2.2.2.2.1
@[simp] theorem State.askFetch_ks (q : QId) (s : State) : (s.askFetch q).ks = s.ks :=
  (State.askFetch_frame q s).2.2.2.2.2.2.2.2.2.1
@[simp] theorem State.askFetch_mem (q : QId) (s : State) : (s.askFetch q).mem = s.mem :=
  (State.askFetch_frame q s).2.2.2.2.2.2.2.2.2.2.1
@[simp] theorem State.askFetch_skn (q : QId) (s : State) : (s.askFetch q).skn = s.skn :=
  (State.askFetch_frame q s).2.2.2.2.2.2.2.2.2.2.2.1
@[simp] theorem State.askFetch_kp (q : QId) (s : State) : (s.askFetch q).kp = s.kp :=
  (State.askFetch_frame q s).2.2.2.2.2.2.2.2.2.2.2.2.1
@[simp] theorem State.askFetch_tmp (q : QId) (s : State) : (s.askFetch q).tmp = s.tmp :=
  (State.askFetch_frame q s).2.2.2.2.2.2.2.2.2.2.2.2.2.1
@[simp] theorem State.askFetch_life (q : QId) (s : State) : (s.askFetch q).life = s.life :=
  (State.askFetch_frame q s).2.2.2.2.2.2.2.2.2.2.2.2.2.2.1
@[simp] theorem State.askFetch_mss (q : QId) (s : State) : (s.askFetch q).mss = s.mss :=
  (State.askFetch_frame q s).2.2.2.2.2.2.2.2.2.2.2.2.2.2.2.1
@[simp] theorem State.askFetch_card (q : QId) (s : State) : (s.askFetch q).card = s.card :=
  (State.askFetch_frame q s).2.2.2.2.2.2.2.2.2.2.2.2.2.2.2.2.1
@[simp] theorem State.askFetch_pwr (q : QId) (s : State) : (s.askFetch q).pwr = s.pwr :=
  (State.askFetch_frame q s).2.2.2.2.2.2.2.2.2.2.2.2.2.2.2.2.2.1
@[simp] theorem State.askFetch_posted (q : QId) (s : State) : (s.askFetch q).posted = s.posted :=
  (State.askFetch_frame q s).2.2.2.2.2.2.2.2.2.2.2.2.2.2.2.2.2.2.1
@[simp] theorem State.askFetch_pending (q : QId) (s : State) : (s.askFetch q).pending = s.pending :=
  (State.askFetch_frame q s).2.2.2.2.2.2.2.2.2.2.2.2.2.2.2.2.2.2.2

/-- bringIn touches `gctl`, `queues`, `arb`, `mss`, `posted` at most. -/
theorem State.bringIn_frame (q : QId) (p : Packet) (s : State) :
    (s.bringIn q p).epochBase = s.epochBase ∧ (s.bringIn q p).domains = s.domains ∧ (s.bringIn q p).led = s.led ∧
    (s.bringIn q p).ru = s.ru ∧ (s.bringIn q p).spn = s.spn ∧ (s.bringIn q p).sl = s.sl ∧ (s.bringIn q p).dig = s.dig ∧
    (s.bringIn q p).ks = s.ks ∧ (s.bringIn q p).mem = s.mem ∧ (s.bringIn q p).skn = s.skn ∧ (s.bringIn q p).kp = s.kp ∧
    (s.bringIn q p).tmp = s.tmp ∧ (s.bringIn q p).life = s.life ∧ (s.bringIn q p).card = s.card ∧ (s.bringIn q p).pwr = s.pwr ∧
    (s.bringIn q p).pending = s.pending := by
  unfold State.bringIn
  split
  · simp
  · split
    · split
      · rename_i h
        obtain ⟨a, rfl⟩ := State.grantFor_eq h
        simp
      · simp
    · simp
@[simp] theorem State.bringIn_epochBase (q : QId) (p : Packet) (s : State) : (s.bringIn q p).epochBase = s.epochBase :=
  (State.bringIn_frame q p s).1
@[simp] theorem State.bringIn_domains (q : QId) (p : Packet) (s : State) : (s.bringIn q p).domains = s.domains :=
  (State.bringIn_frame q p s).2.1
@[simp] theorem State.bringIn_led (q : QId) (p : Packet) (s : State) : (s.bringIn q p).led = s.led :=
  (State.bringIn_frame q p s).2.2.1
@[simp] theorem State.bringIn_ru (q : QId) (p : Packet) (s : State) : (s.bringIn q p).ru = s.ru :=
  (State.bringIn_frame q p s).2.2.2.1
@[simp] theorem State.bringIn_spn (q : QId) (p : Packet) (s : State) : (s.bringIn q p).spn = s.spn :=
  (State.bringIn_frame q p s).2.2.2.2.1
@[simp] theorem State.bringIn_sl (q : QId) (p : Packet) (s : State) : (s.bringIn q p).sl = s.sl :=
  (State.bringIn_frame q p s).2.2.2.2.2.1
@[simp] theorem State.bringIn_dig (q : QId) (p : Packet) (s : State) : (s.bringIn q p).dig = s.dig :=
  (State.bringIn_frame q p s).2.2.2.2.2.2.1
@[simp] theorem State.bringIn_ks (q : QId) (p : Packet) (s : State) : (s.bringIn q p).ks = s.ks :=
  (State.bringIn_frame q p s).2.2.2.2.2.2.2.1
@[simp] theorem State.bringIn_mem (q : QId) (p : Packet) (s : State) : (s.bringIn q p).mem = s.mem :=
  (State.bringIn_frame q p s).2.2.2.2.2.2.2.2.1
@[simp] theorem State.bringIn_skn (q : QId) (p : Packet) (s : State) : (s.bringIn q p).skn = s.skn :=
  (State.bringIn_frame q p s).2.2.2.2.2.2.2.2.2.1
@[simp] theorem State.bringIn_kp (q : QId) (p : Packet) (s : State) : (s.bringIn q p).kp = s.kp :=
  (State.bringIn_frame q p s).2.2.2.2.2.2.2.2.2.2.1
@[simp] theorem State.bringIn_tmp (q : QId) (p : Packet) (s : State) : (s.bringIn q p).tmp = s.tmp :=
  (State.bringIn_frame q p s).2.2.2.2.2.2.2.2.2.2.2.1
@[simp] theorem State.bringIn_life (q : QId) (p : Packet) (s : State) : (s.bringIn q p).life = s.life :=
  (State.bringIn_frame q p s).2.2.2.2.2.2.2.2.2.2.2.2.1
@[simp] theorem State.bringIn_card (q : QId) (p : Packet) (s : State) : (s.bringIn q p).card = s.card :=
  (State.bringIn_frame q p s).2.2.2.2.2.2.2.2.2.2.2.2.2.1
@[simp] theorem State.bringIn_pwr (q : QId) (p : Packet) (s : State) : (s.bringIn q p).pwr = s.pwr :=
  (State.bringIn_frame q p s).2.2.2.2.2.2.2.2.2.2.2.2.2.2.1
@[simp] theorem State.bringIn_pending (q : QId) (p : Packet) (s : State) : (s.bringIn q p).pending = s.pending :=
  (State.bringIn_frame q p s).2.2.2.2.2.2.2.2.2.2.2.2.2.2.2

end Sys2Proof.Machine
end

