-- ==== Sys2Proof/Laws/Tab.lean ====
section
/-! SUPPORT. Reading a sparse table after an entry is set or removed. -/

namespace Sys2Proof

@[simp] theorem Tab.find_put {α : Type} (t : Tab α) (k : Nat) (v : α) : (t.put k v).find k = some v := by
  induction t with
  | nil => simp [Tab.put, Tab.find]
  | cons c t ih =>
    obtain ⟨j, w⟩ := c
    simp only [Tab.put]
    split
    · simp [Tab.find]
    · split
      · simp [Tab.find]
      · simp [Tab.find, *]

theorem Tab.find_put_ne {α : Type} (t : Tab α) {k m : Nat} (v : α) (h : m ≠ k) : (t.put k v).find m = t.find m := by
  induction t with
  | nil => simp [Tab.put, Tab.find, Ne.symm h]
  | cons c t ih =>
    obtain ⟨j, w⟩ := c
    simp only [Tab.put]
    split
    · subst j; simp [Tab.find, Ne.symm h]
    · split
      · simp only [Tab.find]
        rw [if_neg (Ne.symm h)]
        split
        · rw [if_neg (by omega), if_pos (by omega)]
        · rfl
      · simp only [Tab.find, ih]

theorem Tab.find_put_cases {α : Type} (t : Tab α) (k m : Nat) (v : α) :
    (t.put k v).find m = if m = k then some v else t.find m := by
  split
  · subst m; exact find_put t k v
  · exact find_put_ne t v ‹_›

@[simp] theorem Tab.get_put {α : Type} (t : Tab α) (k : Nat) (v d : α) : (t.put k v).get k d = v := by simp [Tab.get]

theorem Tab.get_put_ne {α : Type} (t : Tab α) {k m : Nat} (v d : α) (h : m ≠ k) : (t.put k v).get m d = t.get m d := by
  simp [Tab.get, Tab.find_put_ne t v h]

@[simp] theorem Tab.find_nil {α : Type} (k : Nat) : Tab.find ([] : Tab α) k = none := rfl

/-- In a table whose keys rise, no key below the first is listed. -/
theorem Tab.find_low {α : Type} {t : Tab α} {j m : Nat} {w : α} (h : Tab.sorted ((j, w) :: t) = true) (hm : m ≤ j) :
    t.find m = none := by
  cases t with
  | nil => rfl
  | cons c t =>
    obtain ⟨k, u⟩ := c
    simp only [Tab.sorted, Bool.and_eq_true, decide_eq_true_eq] at h
    simp only [Tab.find]
    rw [if_neg (by omega), if_pos (by omega)]

theorem Tab.sorted_tail {α : Type} {t : Tab α} {c : Nat × α} (h : Tab.sorted (c :: t) = true) : Tab.sorted t = true := by
  cases t with
  | nil => rfl
  | cons d t => simp [Tab.sorted] at h; exact h.2

/-- In a table whose keys rise, a removed number reads as not listed. -/
theorem Tab.find_del {α : Type} {t : Tab α} (h : Tab.sorted t = true) (k : Nat) : (t.del k).find k = none := by
  induction t with
  | nil => rfl
  | cons c t ih =>
    obtain ⟨j, w⟩ := c
    simp only [Tab.del]
    split
    · exact Tab.find_low h (by omega)
    · split
      · simp [Tab.find, *]
      · simp [Tab.find, ih (Tab.sorted_tail h), *]

theorem Tab.find_del_ne {α : Type} {t : Tab α} (h : Tab.sorted t = true) {k m : Nat} (hm : m ≠ k) :
    (t.del k).find m = t.find m := by
  induction t with
  | nil => rfl
  | cons c t ih =>
    obtain ⟨j, w⟩ := c
    simp only [Tab.del]
    split
    · subst j
      simp only [Tab.find, if_neg (Ne.symm hm)]
      split
      · exact Tab.find_low h (by omega)
      · rfl
    · split
      · rfl
      · simp only [Tab.find, ih (Tab.sorted_tail h)]

end Sys2Proof
end

