-- ==== Sys2Proof/Laws/Reply.lean ====
section
/-! SUPPORT. What running a packet does around its body: a dispatched packet's row runs its body once, and the reply that
follows stands in the slot reserved for it. -/

namespace Sys2Proof.Machine

/-! ## Queues after an update -/

@[simp] theorem State.queue_setQueue (q : QId) (x : Queue) (s : State) : (s.setQueue q x).queue q = x := by
  simp [State.queue, State.setQueue]

theorem State.queue_setQueue_ne (q r : QId) (x : Queue) (s : State) (h : r ≠ q) : (s.setQueue q x).queue r = s.queue r := by
  have : r.toNat ≠ q.toNat := fun e => h (BitVec.eq_of_toNat_eq e)
  simp [State.queue, State.setQueue, Tab.get_put_ne _ _ _ this]

/-- What a state's queues are depends on the table of queues and the epoch base only. -/
theorem State.queue_congr {s t : State} (h : t.queues = s.queues) (e : t.epochBase = s.epochBase) (q : QId) :
    t.queue q = s.queue q := by simp [State.queue, h, e]

@[simp] theorem State.queue_post (o : Posted) (s : State) (q : QId) : (s.post o).queue q = s.queue q :=
  State.queue_congr (State.post_queues o s) (State.post_epochBase o s) q

@[simp] theorem State.queue_sendMsix (v : BitVec 11) (s : State) (q : QId) : (s.sendMsix v).queue q = s.queue q :=
  State.queue_congr (State.sendMsix_queues v s) (State.sendMsix_epochBase v s) q

@[simp] theorem State.queue_mssDone (h : Held) (s : State) (q : QId) : (s.mssDone h).queue q = s.queue q :=
  State.queue_congr (State.mssDone_queues h s) (State.mssDone_epochBase h s) q

/-! ## What has been sent -/

@[simp] theorem State.sent_post (o : Posted) (s : State) (x : Posted) : x ∈ (s.post o).sent ↔ x ∈ s.sent ∨ x = o := by
  unfold State.post State.sent
  split <;> simp <;> tauto

@[simp] theorem State.sent_setQueue (q : QId) (x : Queue) (s : State) : (s.setQueue q x).sent = s.sent := rfl

theorem State.sent_sendMsix (v : BitVec 11) (s : State) (x : Posted) (h : x ∈ s.sent) : x ∈ (s.sendMsix v).sent := by
  unfold State.sendMsix
  split
  · exact h
  · simp [h]

theorem State.sent_signal (q : QId) (n : Bool) (s : State) (x : Posted) (h : x ∈ s.sent) : x ∈ (s.signal q n).sent := by
  unfold State.signal
  dsimp only
  split
  · exact h
  · split
    · exact State.sent_sendMsix _ _ _ h
    · exact h

/-- What a state has sent depends on the posted writes only. -/
theorem State.sent_congr {s t : State} (h : t.posted = s.posted) (e : t.gctl = s.gctl) : t.sent = s.sent := by
  simp [State.sent, h, e]

/-- What was sent before a reply stays sent. -/
theorem State.sent_postHost (h : Held) (s : State) (x : Posted) (hx : x ∈ s.sent) : x ∈ (s.postHost h).sent := by
  unfold State.postHost
  dsimp only
  split
  · exact hx
  · apply State.sent_signal
    simp only [State.sent_setQueue, State.sent_post]
    left
    split
    · split <;> simp [hx]
    · exact hx

/-- The reply of a packet in flight is posted to the slot reserved for it, in the phase of that pass (R31, R35), with `CHAIN_END` only while
the packet is still linked to those before it (R44). -/
theorem State.postHost_reply (h : Held) (s : State) (f : Fetched)
    (hf : (s.queue h.q).inflight.find? (·.id == h.id) = some f) :
    Posted.reply h.q f.slot ({ h with chainEnd := h.chainEnd && f.linked }.reply f.phase) ∈ (s.postHost h).sent := by
  unfold State.postHost
  simp only [hf]
  apply State.sent_signal
  simp

/-- The result of a packet in flight is written before its reply (R31). -/
theorem State.postHost_result (h : Held) (s : State) (f : Fetched) (a : BitVec 64) (bs : Bytes)
    (hf : (s.queue h.q).inflight.find? (·.id == h.id) = some f) (hw : h.write = some (a, bs)) (hb : bs ≠ []) :
    Posted.hostWrite a bs ∈ (s.postHost h).sent := by
  unfold State.postHost
  simp only [hf, hw]
  apply State.sent_signal
  have : bs.isEmpty = false := by cases bs <;> simp_all
  simp [this]

/-- `postReply` of a host command posts through the queue engine. -/
theorem State.postReply_host (h : Held) (s : State) (hv : h.via = .host) : s.postReply h = (s.postHost h).mssDone h := by
  simp [State.postReply, hv]

theorem State.sent_mssDone (h : Held) (s : State) : (s.mssDone h).sent = s.sent :=
  State.sent_congr (State.mssDone_posted h s) (State.mssDone_gctl h s)

theorem State.postReply_answers (h : Held) (s : State) (f : Fetched) (hv : h.via = .host)
    (hf : (s.queue h.q).inflight.find? (·.id == h.id) = some f) (ht : h.tag = f.pkt.tag) :
    (s.postReply h).answers h.q f h.status h.inl := by
  rw [State.postReply_host h s hv]
  refine ⟨{ h with chainEnd := h.chainEnd && f.linked }.reply f.phase, ?_, ht, rfl, rfl, rfl⟩
  rw [State.sent_mssDone]
  exact State.postHost_reply h s f hf

/-! ## A packet that runs -/

variable {op : BitVec 16} {sub : Option Byte} {c : Cmd} {s : State} {f : Fetched}

/-- The packet found in flight is the row's. -/
theorem Runs.pkt (h : Runs op sub c s f) : f.pkt = rowPacket op sub c.pkt := by
  have := List.find?_some h.ready
  simp only [Bool.and_eq_true, beq_iff_eq] at this
  exact this.1.2

/-- The row of a packet that runs gives the packet to its body and finishes with what the body answers. -/
theorem runOp_runs (h : Runs op sub c s f) (body : Ctx → State → Out) :
    runOp op sub body c s = (body (s.ctxRun op sub c f) (s.begun op sub c f)).finish (s.ctxRun op sub c f) := by
  have hb : s.bringIn c.q (rowPacket op sub c.pkt) = s := by simp [State.bringIn, h.ready]
  simp only [runOp, h.host, h.fresh, hb, h.ready, h.turn, h.taken, State.ctxRun, State.begun]
  by_cases hm : forMss op = true
  · obtain ⟨h1, h2⟩ := h.mss hm
    simp [hm, h1, h2]
  · simp [hm]

/-- A lock that is touched keeps its owner and its serials; the pools and the rest of the ledger stay. -/
theorem State.touchLock_led (q : QId) (p : Packet) (s : State) :
    (s.touchLock q p).led = { s.led with locks := (s.touchLock q p).led.locks } := by
  unfold State.touchLock
  (repeat' split) <;> rfl

/-- A command that does not reach the ledger engine touches no lock. -/
theorem State.touchLock_none (q : QId) (p : Packet) (s : State) (h : reachesLedger p.opcode.toNat = false) :
    s.touchLock q p = s := by
  unfold State.touchLock
  (repeat' split) <;> simp_all

@[simp] theorem State.queue_touchLock (q r : QId) (p : Packet) (s : State) : (s.touchLock q p).queue r = s.queue r := by
  simp [State.queue]

/-- In the state in which a packet's effect begins, it is found in flight by its number, marked as running. -/
theorem Runs.inflight (h : Runs op sub c s f) :
    ((s.begun op sub c f).queue c.q).inflight.find? (·.id == f.id) = some { f with running := true } := by
  have hq : (s.begun op sub c f).queue c.q = (s.setFetched c.q { f with running := true }).queue c.q := by
    unfold State.begun
    dsimp only
    split
    · exact State.queue_touchLock _ _ _ _
    · exact State.queue_touchLock _ _ _ _
  have hm : f ∈ (s.queue c.q).inflight := List.mem_of_find?_eq_some h.ready
  rw [hq, State.setFetched, State.queue_setQueue]
  generalize (s.queue c.q).inflight = l at hm
  induction l with
  | nil => simp at hm
  | cons g l ih =>
    simp only [List.map_cons, List.find?_cons]
    by_cases hg : g.id = f.id
    · simp [hg]
    · have : (g.id == f.id) = false := by simpa using hg
      simp only [hg, if_false, this]
      rcases List.mem_cons.mp hm with e | e
      · exact absurd (e ▸ rfl) hg
      · exact ih e

/-- A body that answers at once and leaves the command's queue answers its packet. -/
theorem finish_answers (h : Runs op sub c s f) (o : Out) (hw : o.when_ = .now)
    (hq : o.s.queue c.q = (s.begun op sub c f).queue c.q) :
    (o.finish (s.ctxRun op sub c f)).answers c.q f o.status o.inl := by
  obtain ⟨r, h1, h2, h3, h4, h5⟩ := State.postReply_answers ((s.ctxRun op sub c f).held o.status o.cyc o.inl o.result) o.s
    { f with running := true } h.host (by simpa [Ctx.held, State.ctxRun, State.ctxOf, hq] using h.inflight)
    (by simp [Ctx.held, State.ctxRun, State.ctxOf, h.pkt])
  simp only [Out.finish, hw]
  exact ⟨r, h1, h2, h3, h4, h5⟩

/-- A body that answers with the open group leaves its reply there. -/
theorem finish_answersDurable (h : Runs op sub c s f) (o : Out) (hw : o.when_ = .group) (hs : o.status = 0) :
    (o.finish (s.ctxRun op sub c f)).answersDurable c.q f o.inl := by
  refine ⟨(s.ctxRun op sub c f).held o.status o.cyc o.inl o.result, ?_, rfl, rfl, ?_, hs, rfl⟩
  · simp [Out.finish, hw]
  · simp [Ctx.held, State.ctxRun, State.ctxOf, h.pkt]

/-- The state in which a packet's effect begins differs only in the packet's stage, in the lease of a lock that the packet touches, and in
what the MSS runs. -/
theorem State.begun_frame (op : BitVec 16) (sub : Option Byte) (c : Cmd) (f : Fetched) (s : State) :
    (s.begun op sub c f).gctl = s.gctl ∧ (s.begun op sub c f).epochBase = s.epochBase ∧
    (s.begun op sub c f).domains = s.domains ∧
    (s.begun op sub c f).led = { s.led with locks := (s.begun op sub c f).led.locks } ∧ (s.begun op sub c f).ru = s.ru ∧
    (s.begun op sub c f).spn = s.spn ∧ (s.begun op sub c f).sl = s.sl ∧ (s.begun op sub c f).dig = s.dig ∧
    (s.begun op sub c f).ks = s.ks ∧ (s.begun op sub c f).arb = s.arb ∧ (s.begun op sub c f).mem = s.mem ∧
    (s.begun op sub c f).skn = s.skn ∧ (s.begun op sub c f).kp = s.kp ∧ (s.begun op sub c f).tmp = s.tmp ∧
    (s.begun op sub c f).life = s.life ∧ (s.begun op sub c f).card = s.card ∧ (s.begun op sub c f).pwr = s.pwr ∧
    (s.begun op sub c f).posted = s.posted ∧ (s.begun op sub c f).pending = s.pending := by
  have hl := State.touchLock_led c.q (rowPacket op sub c.pkt) (s.setFetched c.q { f with running := true })
  rw [State.setFetched_led] at hl
  unfold State.begun
  dsimp only
  split <;> simp [← hl]

@[simp] theorem State.begun_gctl (op : BitVec 16) (sub : Option Byte) (c : Cmd) (f : Fetched) (s : State) :
    (s.begun op sub c f).gctl = s.gctl := (s.begun_frame op sub c f).1
@[simp] theorem State.begun_epochBase (op : BitVec 16) (sub : Option Byte) (c : Cmd) (f : Fetched) (s : State) :
    (s.begun op sub c f).epochBase = s.epochBase := (s.begun_frame op sub c f).2.1
@[simp] theorem State.begun_domains (op : BitVec 16) (sub : Option Byte) (c : Cmd) (f : Fetched) (s : State) :
    (s.begun op sub c f).domains = s.domains := (s.begun_frame op sub c f).2.2.1
theorem State.begun_led (op : BitVec 16) (sub : Option Byte) (c : Cmd) (f : Fetched) (s : State) :
    (s.begun op sub c f).led = { s.led with locks := (s.begun op sub c f).led.locks } := (s.begun_frame op sub c f).2.2.2.1
/-- A command that does not reach the ledger engine begins with the ledger as it is. -/
theorem State.begun_led_same (op : BitVec 16) (sub : Option Byte) (c : Cmd) (f : Fetched) (s : State)
    (h : reachesLedger op.toNat = false) : (s.begun op sub c f).led = s.led := by
  have hp : (rowPacket op sub c.pkt).opcode = op := by cases sub <;> rfl
  unfold State.begun
  rw [State.touchLock_none _ _ _ (by rw [hp]; exact h)]
  dsimp only
  split <;> simp
@[simp] theorem State.begun_pools (op : BitVec 16) (sub : Option Byte) (c : Cmd) (f : Fetched) (s : State) :
    (s.begun op sub c f).led.pools = s.led.pools := by rw [State.begun_led]
@[simp] theorem State.begun_live (op : BitVec 16) (sub : Option Byte) (c : Cmd) (f : Fetched) (s : State) :
    (s.begun op sub c f).led.live = s.led.live := by rw [State.begun_led]
@[simp] theorem State.begun_group (op : BitVec 16) (sub : Option Byte) (c : Cmd) (f : Fetched) (s : State) :
    (s.begun op sub c f).led.group = s.led.group := by rw [State.begun_led]
@[simp] theorem State.begun_ru (op : BitVec 16) (sub : Option Byte) (c : Cmd) (f : Fetched) (s : State) :
    (s.begun op sub c f).ru = s.ru := (s.begun_frame op sub c f).2.2.2.2.1
@[simp] theorem State.begun_spn (op : BitVec 16) (sub : Option Byte) (c : Cmd) (f : Fetched) (s : State) :
    (s.begun op sub c f).spn = s.spn := (s.begun_frame op sub c f).2.2.2.2.2.1
@[simp] theorem State.begun_sl (op : BitVec 16) (sub : Option Byte) (c : Cmd) (f : Fetched) (s : State) :
    (s.begun op sub c f).sl = s.sl := (s.begun_frame op sub c f).2.2.2.2.2.2.1
@[simp] theorem State.begun_dig (op : BitVec 16) (sub : Option Byte) (c : Cmd) (f : Fetched) (s : State) :
    (s.begun op sub c f).dig = s.dig := (s.begun_frame op sub c f).2.2.2.2.2.2.2.1
@[simp] theorem State.begun_ks (op : BitVec 16) (sub : Option Byte) (c : Cmd) (f : Fetched) (s : State) :
    (s.begun op sub c f).ks = s.ks := (s.begun_frame op sub c f).2.2.2.2.2.2.2.2.1
@[simp] theorem State.begun_arb (op : BitVec 16) (sub : Option Byte) (c : Cmd) (f : Fetched) (s : State) :
    (s.begun op sub c f).arb = s.arb := (s.begun_frame op sub c f).2.2.2.2.2.2.2.2.2.1
@[simp] theorem State.begun_mem (op : BitVec 16) (sub : Option Byte) (c : Cmd) (f : Fetched) (s : State) :
    (s.begun op sub c f).mem = s.mem := (s.begun_frame op sub c f).2.2.2.2.2.2.2.2.2.2.1
@[simp] theorem State.begun_skn (op : BitVec 16) (sub : Option Byte) (c : Cmd) (f : Fetched) (s : State) :
    (s.begun op sub c f).skn = s.skn := (s.begun_frame op sub c f).2.2.2.2.2.2.2.2.2.2.2.1
@[simp] theorem State.begun_kp (op : BitVec 16) (sub : Option Byte) (c : Cmd) (f : Fetched) (s : State) :
    (s.begun op sub c f).kp = s.kp := (s.begun_frame op sub c f).2.2.2.2.2.2.2.2.2.2.2.2.1
@[simp] theorem State.begun_tmp (op : BitVec 16) (sub : Option Byte) (c : Cmd) (f : Fetched) (s : State) :
    (s.begun op sub c f).tmp = s.tmp := (s.begun_frame op sub c f).2.2.2.2.2.2.2.2.2.2.2.2.2.1
@[simp] theorem State.begun_life (op : BitVec 16) (sub : Option Byte) (c : Cmd) (f : Fetched) (s : State) :
    (s.begun op sub c f).life = s.life := (s.begun_frame op sub c f).2.2.2.2.2.2.2.2.2.2.2.2.2.2.1
@[simp] theorem State.begun_card (op : BitVec 16) (sub : Option Byte) (c : Cmd) (f : Fetched) (s : State) :
    (s.begun op sub c f).card = s.card := (s.begun_frame op sub c f).2.2.2.2.2.2.2.2.2.2.2.2.2.2.2.1
@[simp] theorem State.begun_pwr (op : BitVec 16) (sub : Option Byte) (c : Cmd) (f : Fetched) (s : State) :
    (s.begun op sub c f).pwr = s.pwr := (s.begun_frame op sub c f).2.2.2.2.2.2.2.2.2.2.2.2.2.2.2.2.1
@[simp] theorem State.begun_posted (op : BitVec 16) (sub : Option Byte) (c : Cmd) (f : Fetched) (s : State) :
    (s.begun op sub c f).posted = s.posted := (s.begun_frame op sub c f).2.2.2.2.2.2.2.2.2.2.2.2.2.2.2.2.2.1
@[simp] theorem State.begun_pending (op : BitVec 16) (sub : Option Byte) (c : Cmd) (f : Fetched) (s : State) :
    (s.begun op sub c f).pending = s.pending := (s.begun_frame op sub c f).2.2.2.2.2.2.2.2.2.2.2.2.2.2.2.2.2.2

/-- What follows a body touches the reply path only: what was sent, the queues, what the MSS runs, and the open group. -/
theorem Out.finish_frame (x : Ctx) (o : Out) :
    (o.finish x).epochBase = o.s.epochBase ∧ (o.finish x).domains = o.s.domains ∧ (o.finish x).ru = o.s.ru ∧
    (o.finish x).spn = o.s.spn ∧ (o.finish x).sl = o.s.sl ∧ (o.finish x).dig = o.s.dig ∧ (o.finish x).ks = o.s.ks ∧
    (o.finish x).arb = o.s.arb ∧ (o.finish x).mem = o.s.mem ∧ (o.finish x).skn = o.s.skn ∧ (o.finish x).kp = o.s.kp ∧
    (o.finish x).tmp = o.s.tmp ∧ (o.finish x).life = o.s.life ∧ (o.finish x).card = o.s.card ∧ (o.finish x).pwr = o.s.pwr ∧
    (o.finish x).pending = o.s.pending := by
  unfold Out.finish
  split <;> simp

@[simp] theorem Out.finish_epochBase (x : Ctx) (o : Out) : (o.finish x).epochBase = o.s.epochBase := (o.finish_frame x).1
@[simp] theorem Out.finish_domains (x : Ctx) (o : Out) : (o.finish x).domains = o.s.domains := (o.finish_frame x).2.1
@[simp] theorem Out.finish_ru (x : Ctx) (o : Out) : (o.finish x).ru = o.s.ru := (o.finish_frame x).2.2.1
@[simp] theorem Out.finish_spn (x : Ctx) (o : Out) : (o.finish x).spn = o.s.spn := (o.finish_frame x).2.2.2.1
@[simp] theorem Out.finish_sl (x : Ctx) (o : Out) : (o.finish x).sl = o.s.sl := (o.finish_frame x).2.2.2.2.1
@[simp] theorem Out.finish_dig (x : Ctx) (o : Out) : (o.finish x).dig = o.s.dig := (o.finish_frame x).2.2.2.2.2.1
@[simp] theorem Out.finish_ks (x : Ctx) (o : Out) : (o.finish x).ks = o.s.ks := (o.finish_frame x).2.2.2.2.2.2.1
@[simp] theorem Out.finish_arb (x : Ctx) (o : Out) : (o.finish x).arb = o.s.arb := (o.finish_frame x).2.2.2.2.2.2.2.1
@[simp] theorem Out.finish_mem (x : Ctx) (o : Out) : (o.finish x).mem = o.s.mem := (o.finish_frame x).2.2.2.2.2.2.2.2.1
@[simp] theorem Out.finish_skn (x : Ctx) (o : Out) : (o.finish x).skn = o.s.skn := (o.finish_frame x).2.2.2.2.2.2.2.2.2.1
@[simp] theorem Out.finish_kp (x : Ctx) (o : Out) : (o.finish x).kp = o.s.kp := (o.finish_frame x).2.2.2.2.2.2.2.2.2.2.1
@[simp] theorem Out.finish_tmp (x : Ctx) (o : Out) : (o.finish x).tmp = o.s.tmp := (o.finish_frame x).2.2.2.2.2.2.2.2.2.2.2.1
@[simp] theorem Out.finish_life (x : Ctx) (o : Out) : (o.finish x).life = o.s.life := (o.finish_frame x).2.2.2.2.2.2.2.2.2.2.2.2.1
@[simp] theorem Out.finish_card (x : Ctx) (o : Out) : (o.finish x).card = o.s.card := (o.finish_frame x).2.2.2.2.2.2.2.2.2.2.2.2.2.1
@[simp] theorem Out.finish_pwr (x : Ctx) (o : Out) : (o.finish x).pwr = o.s.pwr := (o.finish_frame x).2.2.2.2.2.2.2.2.2.2.2.2.2.2.1
@[simp] theorem Out.finish_pending (x : Ctx) (o : Out) : (o.finish x).pending = o.s.pending := (o.finish_frame x).2.2.2.2.2.2.2.2.2.2.2.2.2.2.2

@[simp] theorem Out.finish_led (x : Ctx) (o : Out) (h : o.when_ ≠ .group) : (o.finish x).led = o.s.led := by
  unfold Out.finish
  split <;> simp_all

/-- A reply that waits for the group changes nothing of the ledger but the group. -/
theorem Out.finish_group (x : Ctx) (o : Out) (h : o.when_ = .group) :
    (o.finish x).led = { o.s.led with group := (o.finish x).led.group } ∧
    (o.finish x).led.group = { o.s.led.group with
      after := o.s.led.group.after ++ [.reply (x.held o.status o.cyc o.inl o.result)] } := by
  simp [Out.finish, h]

end Sys2Proof.Machine
end

