-- ==== Sys2Proof/Laws/Ledger.lean ====
section
/-! SUPPORT. What the checker, the chainer and the reply path make of the ledger and of the rest of the state. -/

namespace Sys2Proof.Machine

/-! ## The checker -/

theorem moved_some {w c : Nat} {d : Int} {n : Nat} (h : moved w c d = some n) : (n : Int) = c + d := by
  unfold moved at h
  split at h
  · simp at h; omega
  · simp at h

theorem Totals.shift_some {w : Nat} {d : Delta} {t t' : Totals} (h : t.shift w d = some t') : t.movedBy d t' := by
  unfold Totals.shift at h
  split at h
  · simp only [Option.some.injEq] at h
    subst h
    exact ⟨moved_some ‹_›, moved_some ‹_›, moved_some ‹_›, moved_some ‹_›, moved_some ‹_›, moved_some ‹_›, moved_some ‹_›,
      moved_some ‹_›, moved_some ‹_›, moved_some ‹_›⟩
  · simp at h

/-- What the checker lets through: both records moved by the deltas, and the conservation law before and after (R68). -/
theorem checked_some {d : Delta} {p live t live' : Totals} (h : checked d p live = some (t, live')) :
    p.movedBy d t ∧ live.movedBy d live' ∧ p.sound = true ∧ t.sound = true := by
  unfold checked at h
  split at h
  · simp at h
  · split at h
    · split at h
      · simp only [Option.some.injEq, Prod.mk.injEq] at h
        obtain ⟨rfl, rfl⟩ := h
        exact ⟨Totals.shift_some ‹_›, Totals.shift_some ‹_›, by simp_all, ‹_›⟩
      · simp at h
    · simp at h

@[simp] theorem State.pool_putPool (n : PoolId) (p : Pool) (s : State) : (s.putPool n p).pool n = some p := by
  simp [State.pool, State.putPool]

@[simp] theorem State.live_putPool (n : PoolId) (p : Pool) (s : State) : (s.putPool n p).led.live = s.led.live := rfl

/-- A pool's record depends on the ledger only. -/
theorem State.pool_congr {s t : State} (h : t.led.pools = s.led.pools) (n : PoolId) : t.pool n = s.pool n := by
  simp [State.pool, h]

/-- Where the checker passes, a change is made: the pool and the live totals move, and the rest of the record changes by `f`. -/
theorem State.change_passes {s : State} {n : PoolId} {d : Delta} (f : Pool → Pool) (h : s.checkerPasses n d) :
    ∃ p tot live, s.pool n = some p ∧ checked d p.totals s.led.live = some (tot, live) ∧
      s.change n d f = (({ s with led := { s.led with live } } : State).putPool n (f (p.withTotals tot)), true) := by
  obtain ⟨p, hp, hc⟩ := h
  obtain ⟨⟨tot, live⟩, he⟩ := Option.isSome_iff_exists.mp hc
  exact ⟨p, tot, live, hp, he, by simp [State.change, hp, he]⟩

/-! ## The chainer -/

@[simp] theorem State.toRing_jrn_seq (n : Nat) (b : Bytes) (s : State) : (s.toRing n b).ru.jrn.seq = s.ru.jrn.seq := by
  unfold State.toRing
  dsimp only
  split <;> simp

/-- A record chained marks the open group as changed and leaves the rest of the ledger. -/
@[simp] theorem State.chain_led (r : JRec) (s : State) :
    (s.chain r).led = { s.led with group := { s.led.group with change := true } } := by
  simp [State.chain, State.groupChange]

@[simp] theorem State.chain_seq (r : JRec) (s : State) : (s.chain r).ru.jrn.seq = s.ru.jrn.seq + 1 := by
  simp [State.chain]

/-! ## The reply path -/

theorem State.queue_signal_ne (q r : QId) (n : Bool) (s : State) (h : r ≠ q) : (s.signal q n).queue r = s.queue r := by
  unfold State.signal
  dsimp only
  split
  · rfl
  · split
    · rw [State.queue_sendMsix, State.queue_setQueue_ne _ _ _ _ h]
    · exact State.queue_setQueue_ne _ _ _ _ h

/-- A reply of one queue leaves every other queue. -/
theorem State.queue_postHost_ne (h : Held) (s : State) (r : QId) (hr : r ≠ h.q) : (s.postHost h).queue r = s.queue r := by
  unfold State.postHost
  dsimp only
  split
  · rfl
  · rw [State.queue_signal_ne _ _ _ _ hr, State.queue_setQueue_ne _ _ _ _ hr, State.queue_post]
    split
    · split <;> simp
    · rfl

theorem State.queue_postReply_ne (h : Held) (s : State) (r : QId) (hr : r ≠ h.q) : (s.postReply h).queue r = s.queue r := by
  unfold State.postReply
  split
  · rw [State.queue_mssDone, State.queue_postHost_ne _ _ _ hr]
  · split <;> rfl
  · dsimp only
    split <;> rfl

theorem State.queue_setFetched_ne (q r : QId) (f : Fetched) (s : State) (hr : r ≠ q) :
    (s.setFetched q f).queue r = s.queue r := State.queue_setQueue_ne _ _ _ _ hr

theorem State.queue_begun_ne (op : BitVec 16) (sub : Option Byte) (c : Cmd) (f : Fetched) (s : State) (r : QId) (hr : r ≠ c.q) :
    (s.begun op sub c f).queue r = s.queue r := by
  unfold State.begun
  dsimp only
  split
  · exact (State.queue_touchLock _ _ _ _).trans (State.queue_setFetched_ne _ _ _ _ hr)
  · exact (State.queue_touchLock _ _ _ _).trans (State.queue_setFetched_ne _ _ _ _ hr)

/-! ### The control block -/

/-- Sending touches only the messages pending and what D3hot holds back. -/
theorem State.post_gctl (o : Posted) (s : State) :
    (s.post o).gctl = { s.gctl with d3held := (s.post o).gctl.d3held, pba := (s.post o).gctl.pba } := by
  unfold State.post
  split <;> rfl

theorem State.sendMsix_gctl (v : BitVec 11) (s : State) :
    (s.sendMsix v).gctl = { s.gctl with d3held := (s.sendMsix v).gctl.d3held, pba := (s.sendMsix v).gctl.pba } := by
  unfold State.sendMsix
  split
  · rfl
  · exact State.post_gctl _ _

theorem State.signal_gctl (q : QId) (n : Bool) (s : State) :
    (s.signal q n).gctl = { s.gctl with d3held := (s.signal q n).gctl.d3held, pba := (s.signal q n).gctl.pba } := by
  unfold State.signal
  dsimp only
  split
  · rfl
  · split
    · exact State.sendMsix_gctl _ _
    · rfl

theorem State.postHost_gctl (h : Held) (s : State) :
    (s.postHost h).gctl = { s.gctl with d3held := (s.postHost h).gctl.d3held, pba := (s.postHost h).gctl.pba } := by
  unfold State.postHost
  dsimp only
  split
  · rfl
  · rw [State.signal_gctl]
    simp only [State.setQueue_gctl]
    rw [State.post_gctl]
    split
    · split
      · rfl
      · rw [State.post_gctl]
    · rfl

theorem State.postReply_gctl (h : Held) (s : State) :
    (s.postReply h).gctl = { s.gctl with d3held := (s.postReply h).gctl.d3held, pba := (s.postReply h).gctl.pba } := by
  unfold State.postReply
  split
  · simp only [State.mssDone_gctl]
    exact State.postHost_gctl h s
  · split <;> rfl
  · dsimp only
    split <;> rfl

/-- A body that changes nothing, of a command that does not reach the ledger engine, and that answers at once changes nothing but the reply
path. -/
theorem finish_answersOnly {op : BitVec 16} {sub : Option Byte} {c : Cmd} {s : State} {f : Fetched} (o : Out)
    (hw : o.when_ = .now) (hl : reachesLedger op.toNat = false) (hs : o.s = s.begun op sub c f) :
    s.answersOnly (o.finish (s.ctxRun op sub c f)) c.q := by
  have hq : ((s.ctxRun op sub c f).held o.status o.cyc o.inl o.result).q = c.q := rfl
  simp only [State.answersOnly, Out.finish, hw, hs]
  refine ⟨fun r hr => ?_, ?_, by simp [State.begun_led_same _ _ _ _ _ hl]⟩
  · rw [State.queue_postReply_ne _ _ _ (by rw [hq]; exact hr), State.queue_begun_ne _ _ _ _ _ _ hr]
  · rw [State.postReply_gctl, State.begun_gctl]

end Sys2Proof.Machine
end

