-- ==== Sys2Proof/Laws/Memory.lean ====
section
/-! SUPPORT. The laws of the keeper die's memories: a byte written reads back, every other byte stays, and every operation keeps
the canonical form. -/

namespace Sys2Proof.Machine

@[simp] theorem readByte_nil (d : Byte) (a : Nat) : readByte d [] a = d := rfl

theorem wfFrom_mono {d : Byte} {m : Memory} {lo hi : Nat} (hm : wfFrom d hi m = true) (h : lo ≤ hi) : wfFrom d lo m = true := by
  cases m with
  | nil => rfl
  | cons c m =>
    obtain ⟨j, b⟩ := c
    simp only [wfFrom, Bool.and_eq_true, decide_eq_true_eq] at hm ⊢
    exact ⟨⟨by omega, hm.1.2⟩, hm.2⟩

/-- No address below the first is listed. -/
theorem readByte_low {d : Byte} {m : Memory} {lo a : Nat} (hm : wfFrom d lo m = true) (h : a < lo) : readByte d m a = d := by
  cases m with
  | nil => rfl
  | cons c m =>
    obtain ⟨j, b⟩ := c
    simp only [wfFrom, Bool.and_eq_true, decide_eq_true_eq] at hm
    simp only [readByte]
    rw [if_neg (by omega), if_pos (by omega)]

theorem writeByte_wfFrom {d : Byte} {m : Memory} {lo a : Nat} (b : Byte) (hm : wfFrom d lo m = true) (h : lo ≤ a) :
    wfFrom d lo (writeByte d m a b) = true := by
  induction m generalizing lo with
  | nil =>
    simp only [writeByte]
    split
    · rfl
    · simp [wfFrom, *]
  | cons c m ih =>
    obtain ⟨j, e⟩ := c
    simp only [wfFrom, Bool.and_eq_true, decide_eq_true_eq] at hm
    simp only [writeByte]
    split
    · subst j
      split
      · exact wfFrom_mono hm.2 (by omega)
      · simp [wfFrom, hm.2, *]
    · split
      · split
        · simp [wfFrom, hm]
        · simp [wfFrom, *]
      · simp only [wfFrom, Bool.and_eq_true, decide_eq_true_eq]
        exact ⟨hm.1, ih hm.2 (by omega)⟩

/-- A byte written keeps the canonical form. -/
theorem writeByte_wf {d : Byte} {m : Memory} (a : Nat) (b : Byte) (hm : Memory.wf d m = true) :
    Memory.wf d (writeByte d m a b) = true := writeByte_wfFrom b hm (Nat.zero_le a)

/-- A byte written reads back, and every other byte stays. -/
theorem readByte_writeByte {d : Byte} {m : Memory} {lo : Nat} (hm : wfFrom d lo m = true) (a : Nat) (b : Byte) (c : Nat) :
    readByte d (writeByte d m a b) c = if c = a then b else readByte d m c := by
  induction m generalizing lo with
  | nil =>
    by_cases hc : c = a
    · subst c
      simp only [writeByte]
      split <;> simp_all [readByte]
    · simp only [writeByte, if_neg hc]
      split
      · rfl
      · simp only [readByte, if_neg (Ne.symm hc), ite_self]
  | cons x m ih =>
    obtain ⟨j, e⟩ := x
    simp only [wfFrom, Bool.and_eq_true, decide_eq_true_eq] at hm
    simp only [writeByte]
    split
    · subst j
      split
      · split
        · subst c
          rw [readByte_low hm.2 (by omega)]
          simp_all
        · simp only [readByte]
          rw [if_neg (by omega)]
          split
          · rw [readByte_low hm.2 (by omega)]
          · rfl
      · simp only [readByte]
        by_cases hc : c = a
        · simp [hc]
        · simp only [if_neg (Ne.symm hc), if_neg hc]
    · split
      · split
        · by_cases hc : c = a
          · subst c
            simp only [readByte]
            rw [if_neg (by omega), if_pos (by omega)]
            simp_all
          · simp [hc]
        · simp only [readByte]
          by_cases hc : c = a
          · simp [hc]
          · rw [if_neg (by omega)]
            by_cases hlt : c < a
            · rw [if_pos hlt, if_neg hc, if_neg (by omega), if_pos (by omega)]
            · rw [if_neg hlt, if_neg hc]
      · simp only [readByte, ih hm.2]
        by_cases hc : c = a
        · subst c
          simp [*]
        · simp only [if_neg hc]

/-- A byte string written keeps the canonical form. -/
theorem writeBytes_wf {d : Byte} (bs : Bytes) {m : Memory} (a : Nat) (hm : Memory.wf d m = true) :
    Memory.wf d (writeBytes d m a bs) = true := by
  induction bs generalizing m a with
  | nil => exact hm
  | cons b bs ih => exact ih _ (writeByte_wf a b hm)

/-- Every byte outside a byte string written stays. -/
theorem readByte_writeBytes {d : Byte} (bs : Bytes) {m : Memory} (a : Nat) (hm : Memory.wf d m = true) (c : Nat)
    (hc : c < a ∨ a + bs.length ≤ c) : readByte d (writeBytes d m a bs) c = readByte d m c := by
  induction bs generalizing m a with
  | nil => rfl
  | cons b bs ih =>
    simp only [List.length_cons] at hc
    rw [writeBytes, ih _ (writeByte_wf a b hm) (by omega), readByte_writeByte hm, if_neg (by omega)]

/-- Flash programming keeps the canonical form. -/
theorem programBytes_wf (bs : Bytes) {m : Memory} (a : Nat) (hm : Memory.wf flBlank m = true) :
    Memory.wf flBlank (programBytes m a bs) = true := by
  induction bs generalizing m a with
  | nil => exact hm
  | cons b bs ih => exact ih _ (writeByte_wf a _ hm)

/-- Every byte outside the bytes programmed stays. -/
theorem readByte_programBytes (bs : Bytes) {m : Memory} (a : Nat) (hm : Memory.wf flBlank m = true) (c : Nat)
    (hc : c < a ∨ a + bs.length ≤ c) : readByte flBlank (programBytes m a bs) c = readByte flBlank m c := by
  induction bs generalizing m a with
  | nil => rfl
  | cons b bs ih =>
    simp only [List.length_cons] at hc
    rw [programBytes, ih _ (writeByte_wf a _ hm) (by omega), readByte_writeByte hm, if_neg (by omega)]

theorem eraseRange_wfFrom {m : Memory} {lo : Nat} (a n : Nat) (hm : wfFrom flBlank lo m = true) :
    wfFrom flBlank lo (eraseRange m a n) = true := by
  induction m generalizing lo with
  | nil => rfl
  | cons c m ih =>
    obtain ⟨j, b⟩ := c
    simp only [wfFrom, Bool.and_eq_true, decide_eq_true_eq] at hm
    have h := ih hm.2
    simp only [eraseRange, List.filter_cons] at h ⊢
    split
    · simp only [wfFrom, Bool.and_eq_true, decide_eq_true_eq]
      exact ⟨hm.1, h⟩
    · exact wfFrom_mono h (by omega)

/-- An erase keeps the canonical form. -/
theorem eraseRange_wf {m : Memory} (a n : Nat) (hm : Memory.wf flBlank m = true) :
    Memory.wf flBlank (eraseRange m a n) = true := eraseRange_wfFrom a n hm

end Sys2Proof.Machine
end

