-- ==== Sys2Proof/Machine/Pins.lean ====
section
/-! DEFINITION. What the device drives on its signal balls outside the links, and whether it takes the test port's inputs (R326, R352, R373,
R403, R409 to R411). The levels follow from the state; nothing else holds them. -/

namespace Sys2Proof.Machine

/-- What an output ball shows: low, high, high impedance, or a signal that its unit drives (R410). -/
inductive Level where
  | low | high | z | driven
  deriving DecidableEq, Repr

/-- Main power is absent, and the device runs on backup alone (R410). -/
def State.onBackup (s : State) : Bool := s.pwr.st == .backup

/-- POR or a reset that acts as `SYS_RST#` holds the planes (R389, R410). -/
def State.heldInReset (s : State) : Bool := s.pwr.st == .inReset || s.pwr.porLow || s.pwr.sysLow || s.pwr.planeLow

/-- DEV_READY: high while READY in `GCTL_STAT` is 1 (R410, R411). -/
def State.devReady (s : State) : Level := if s.onBackup then .z else if s.gctl.ready && !s.heldInReset then .high else .low

/-- TAMPER_OUT#, an open-drain output: low while the tamper level is not 0, on backup alone too (R408, R410, R411). -/
def State.tamperOut (s : State) : Level := if s.tmp.level = 0 then .z else .low

/-- SVC_MISO: high impedance in reset, on backup alone and while SVC_EN is low (R352, R410). -/
def State.svcMiso (s : State) : Level := if s.onBackup || s.heldInReset || !s.mss.svcEn then .z else .driven

/-- CARD_PWR, which drives the enable of the card's power switch (R371, R373, R410). -/
def State.cardPwr (s : State) : Level :=
  if s.onBackup then .z else if s.card.power && s.card.en && !s.heldInReset then .high else .low

/-- CARD_CLK: low in reset and in DOZE (R410). -/
def State.cardClk (s : State) : Level :=
  if s.onBackup then .z else if s.heldInReset || s.asleep || !s.card.power then .low else .driven

/-- CARD_CMD and CARD_DAT0 to CARD_DAT3: high impedance in reset, in DOZE and on backup alone (R410). -/
def State.cardLines (s : State) : Level :=
  if s.onBackup || s.heldInReset || s.asleep || !s.card.power then .z else .driven

/-- TLOOP_O0 to TLOOP_O3 are driven in every state (R321, R410). -/
def State.loopOut (_ : State) : Level := .driven

/-- The test port takes its inputs only in FAB; outside it TEST_TDO stays at high impedance (R338, R411). -/
def State.testOpen (s : State) : Bool := s.life.count == 0 && !s.onBackup

/-- The lanes of a Skein port that carry a signal: both, lane 0 at the low rate, or none (R290, R410). -/
def State.skeinLanes (s : State) (w : Port) : Nat :=
  if s.onBackup || s.heldInReset then 0
  else match (s.port w).st with
    | .down => 0
    | .lowRate => 1
    | _ => 2

/-- The drive of a push-pull output in mA at a step of its group in `PAD_SLEW` (R403, R409). -/
def driveMa (step : BitVec 2) : Nat := ([2, 4, 8, 12] : List Nat).getD step.toNat 2

end Sys2Proof.Machine
end

