-- ==== Sys2Proof/Tests/Slice0.lean ====
section
/-! SUPPORT. Tests of the model: for each statement small states and commands that meet its hypotheses (`test_meets_…`),
the well-formedness checks, and functions whose results are published. -/

open Sys2Proof Sys2Proof.Machine
set_option Elab.async false
namespace Sys2Proof.Tests

/-! ## Small states -/

/-- A packet: its opcode, handles, inline parameters (byte 32 lowest), lengths. -/
def pk (op : BitVec 16) (a b : BitVec 32) (inl : BitVec 256) (dl ol : BitVec 32) : Packet :=
  { opcode := op, flags := 0, tag := 7, handleA := a, handleB := b, dataPtr := 0x1000, dataLen := dl, outLen := ol, inl }

/-- A command of queue 0 with that packet, and the data it reads. -/
def cm (p : Packet) (bs : Bytes) : Cmd := { pkt := p, data := bs }

/-- The packet in flight, dispatched to command core 0. -/
def fl (p : Packet) : Fetched :=
  { id := 5, pkt := p, sqHead := 1, stage := .dispatched 0, linked := false, prior := none, running := false, slot := 0, phase := true
    onHold := false, keys := (startPolicy 0).keys, since := 0 }

/-- A device that is up: start-up has ended, the MSS runs, and its serial is 7. -/
def up : State :=
  { State.reset with
    gctl := { Gctl.reset with en := true, ready := true, recalling := false, perstLow := false }
    life := { Life.reset with serial := 7 }
    mss := { MssUnit.reset with st := .running }
    kp := { Keeper.reset with stage := 0 } }

/-- A device with a packet in flight on queue 0. -/
def at0 (s : State) (p : Packet) : State := s.setQueue 0 { Queue.admin with inflight := [fl p] }

/-- A curve of 19 points, for signatures that are quick to check: y² = x³ + 2x + 2 over the field of 17, base point (5, 1). -/
def toy : Curve := { w := 8, p := 17, a := 2, b := 2, gx := 5, gy := 1, n := 19 }

/-- A key slot of domain 0 with a type, a usage, a curve, a value and a companion. -/
def key (typ : Byte) (usage : BitVec 16) (curve : Byte) (v : BitVec 512) (q : BitVec 1024) : Slot :=
  let k : Slot :=
    { s0 := v, s1 := 0, q, z := 0, st := .valid
      attr := { typ, usage, curve, dom := 0, parent := 0, parentGen := 0, lineage := 0, lineageGen := 0, origin := 1, kcv := 0 }
      icv := 0, loaded := 0, id := [], domGen := 0 }
  { k with icv := k.check }

/-- The owner's public key, 2 G of the small curve, for certificates. -/
def ownerKey : Slot := key 6 0x1C 1 0 (pointOf 8 6 3)

/-- A pool with 50 units available, 40 issued and 10 void. -/
def pool : Pool :=
  { l := 100, m := 0, a := 50, r := 0, i := 40, s := 0, v := 10, t := 0, x := 0, w := 0, next := 41, limit := 1000, dom := 0, st := 1
    host := false, rebuild := false, checker := false, recovering := false, slot := 16, reissue := true, exclusive := false }

/-- A device with that pool as pool 3, an open journal, and keys: 2 and 16 the owner's, 3 journal, 4 transport, 5 fingerprint. -/
def led : State :=
  { up with
    led := { Ledger.reset with pools := [(3, pool)], live := pool.totals }
    ru := { RegUnit.reset with
      jrn := { RegUnit.reset.jrn with en := true }
      reg := { RegUnit.reset.reg with fpkSlot := 5 } }
    ks := { KeyUnit.reset with
      slots := [(2, ownerKey), (3, key 3 0x1000 0 9 0), (4, key 1 0x2000 0 11 0), (5, key 3 0x0800 0 10 0), (16, ownerKey)]
      root := 1, entIn := true, seeded := true }
    spn := { SpindleUnit.reset with
      curves := [(1, { cv := toy, valid := true })], sp := Vector.replicate 40 { resetSpindle with svc := .inService } } }

/-- A certificate: 96 bytes and their signature under the owner's key. -/
def signed (u : Nat) (b : Bytes) : Bytes :=
  let o := sm2Sign toy (sm2E 0 b) 2 u
  b ++ beBytes 32 o.r ++ beBytes 32 o.s

/-- The first 96 bytes of a certificate for pool 3 of this device. -/
def certBody (kind source : Byte) (x : Nat) (units prior : Nat) (rest : Bytes) : Bytes :=
  let b := [kind, 1, 160, 0] ++ leBytes 8 7 ++ leBytes 2 (if kind = 4 then 0 else 3) ++ [source, 0] ++ leBytes 4 1000 ++ leBytes 8 x ++
    (if kind < 3 then leBytes 4 units ++ leBytes 5 prior else rest)
  b ++ zeros (96 - b.length)

/-! ## Queues and administration -/

def nopP : Packet := pk 0x0100 0 0 0 0 0
def infoP : Packet := pk 0x0105 0 0 0 0 64
/-- `QUEUE_CREATE` of queue 1 with rings of 2, the smallest. -/
def qcP : Packet := pk 0x0101 0x06000001 0 (BitVec.ofNat 256 ((2 + 2 * 2 ^ 16) * 2 ^ 128 + 1 * 2 ^ 192)) 0 0
def dcP : Packet := pk 0x0104 0 0 5 136 0
/-- A policy of domain 5. -/
def polBytes : Bytes := zeros 128 ++ [1, 1, 4, 0, 0, 0, 0, 0]
def tsP (v : Nat) : Packet := pk 0x0106 0 0 (BitVec.ofNat 256 v) 0 0
def qrP : Packet := pk 0x0103 0x06000001 0 0 0 0
def qdP : Packet := pk 0x0102 0x06000001 0 0 0 0
/-- Queue 1 active beside the packet's queue 0. -/
def two (p : Packet) : State := (at0 up p).setQueue 1 { Queue.admin with sqTail := 0 }

/-! ## Locks -/

def laP : Packet := pk 0x0107 0x01000003 0 50 0 0
def lrP : Packet := pk 0x0108 0x07010003 0 41 0 0
def lk : Lock := { gen := 1, q := 0, epoch := 0, first := 41, next := 41, last := 50, units := 10, lease := 1, deadline := 800000 }
def lkPool : Pool := { pool with a := 40, r := 10, next := 51 }
def locked : State := { led with led := { led.led with pools := [(3, lkPool)], live := lkPool.totals, locks := [(3, lk)] } }


/-! ## Pools -/

/-- Inline parameters: values at byte offsets of the packet. -/
def iv (xs : List (Nat × Nat)) : BitVec 256 := BitVec.ofNat 256 (xs.map fun x => x.2 * 256 ^ (x.1 - 32)).sum

/-- A command of queue 0 that reads what it carries. -/
def cmd (p : Packet) (bs : Bytes) : Cmd := cm { p with dataLen := BitVec.ofNat 32 bs.length } bs

def pcP : Packet := pk 0x0201 0x01000004 0x02000010 (iv [(36, 1), (41, 9)]) 0 0
/-- A device without a pool. -/
def bare : State := { led with led := Ledger.reset }
/-- A RECOVERY certificate with the counters of `pool`. -/
def recoveryCert : Bytes :=
  signed 5 (certBody 3 0 0 0 0
    (([100, 0, 50, 0, 40, 0, 10, 0, 0, 0, 41, 1000] : List Nat).flatMap (leBytes 5) ++ [0, 0, 16, 0]))
def prC : Cmd := cmd (pk 0x0201 0x01000003 0 (iv [(32, 1)]) 0 0) recoveryCert
def loadC : Cmd := cmd (pk 0x0202 0x01000003 0 0 0 0) (signed 5 (certBody 1 0 0 7 100 []))
def rcP : Packet := pk 0x0207 0x01000003 0 (iv [(32, 10)]) 0 0
def woC : Cmd := cmd (pk 0x0210 0x01000003 0 0 0 0) (signed 5 (certBody 2 0 0 50 0 []))
def wtC : Cmd := cmd (pk 0x0210 0x01000003 0 0 0 0) (signed 5 (certBody 2 5 77 6 0 []))
/-- A slip of 6 units in DOUBT, as transfer 77. -/
def slipX : Transfer :=
  { id := 77, kind := 2, st := 2, pool := 3, units := 6, peer := 0, dom := 0, peerPool := 0, time := 0, jseq := 1, card := 0 }
def tPool : Pool := { pool with a := 44, t := 6 }
def moving (x : Transfer) : State :=
  { led with
    led := { led.led with pools := [(3, tPool)], live := tPool.totals }
    skn := { SkeinUnit.reset with transfers := [(0, x)] } }

/-- The fingerprint of ticket 12 of pool 3 of this device, and its entry. -/
def fp12 : BitVec 128 := fingerprint (key 3 0x0800 0 10 0).key256 (ticketIdentity led.node 3 12)
def entry12 : Entry :=
  { fp := fp12, pool := 3, serial := 12, state := stIssued, admits := 0, limit := 1, node := led.node, flags := 2, time := 0 }
/-- The device with that ticket issued, its entry in the stash. -/
def issued : State := { led with ru := { led.ru with reg := { led.ru.reg with stash := [(0, entry12)] } } }
def spP (op : BitVec 16) : Packet := pk op 0x01000003 0 (iv [(32, 12)]) 0 0

def fzP (b : Nat) : Packet := pk 0x0209 0x01000003 0 (iv [(32, b)]) 0 0
def hostPool : State := { led with led := { led.led with pools := [(3, { pool with host := true })] } }
def fzC : Cmd := cmd (fzP 2) recoveryCert
def brokenPool : Pool := { pool with checker := true }
def broken : State := { led with led := { led.led with pools := [(3, brokenPool)] } }
def rtP : Packet := pk 0x020A 0x01000003 0 0 0 0
def pqP : Packet := pk 0x0208 0x01000003 0 0 0 64
def auP (b ol : Nat) : Packet := pk 0x020F 0 0 (iv [(32, b)]) 0 (BitVec.ofNat 32 ol)
/-- The STRIP freeze in force, the durable totals those of the pools. -/
def stripped : State :=
  { led with led := { led.led with strip := true, durable := { zeroRec with tot := pool.totals } } }
def totalsCert : Bytes :=
  signed 5 (certBody 4 0 0 0 0 (([100, 0, 50, 0, 40, 0, 10, 0, 0, 0] : List Nat).flatMap (leBytes 6)))
def auC : Cmd := cmd (auP 2 0) totalsCert
def noTotals : State := { led with led := { led.led with totals := true } }


/-! ## The card and transfers -/

/-- A card that carries the volume header and some blocks. -/
def media (bs : Tab Bytes) : Media :=
  { cid := 99, capacity := 4096, highSpeed := true, readyAtOnce := true, wp := false, blocks := (0, volumeHeader) :: bs }
/-- The slot with that card ready. -/
def slotWith (m : Media) : CardUnit := { CardUnit.reset with en := true, v18 := false, present := true, media := some m }.identified
/-- The DMK of domain 0: 5 ⊕ 6. -/
def dmk0 : DmkKey := { s0 := 5, s1 := 6, icv := dmkCheck 5 6 }
/-- A device with the DMK of domain 0 and a card. -/
def carded (bs : Tab Bytes) (s : State) : State :=
  { s with card := slotWith (media bs), ks := { s.ks with dmks := [(0, dmk0)] } }
def exP : Packet := pk 0x020B 0x01000003 0 (iv [(32, 50), (40, 8)]) 0 0
def toP : Packet := pk 0x020D 0x01000003 0 (iv [(32, 2), (36, 50)]) 0 0
/-- Node 0 of a cluster with node 2 reachable through East. -/
def meshed (s : State) : State :=
  { s with skn := { s.skn with
      en := true, members := [(2, { serial := 8, kcv := 1 })]
      east := { resetPort with st := .up, inService := true, vcs := Vector.replicate 5 { resetVc with held := 100 } } } }
def imP : Packet := pk 0x020C 0x01000003 0 (iv [(32, 0)]) 0 0
/-- A slip for this device, and the one of transfer 77. -/
def slip (id serial dest : BitVec 64) : Slip :=
  { id, serial, node := 0, dom := 0, pool := 3, units := 6, destSerial := dest, destPool := 3, kcv := 0, time := 0, cid := 99 }
def slipBlocks (v : Slip) : Tab Bytes :=
  let k := slipKey (5 ^^^ 6) v.serial v.kcv v.id
  [(64, tagged k 1 (slipBody v)), (65, markerBytes k 2 v.id v.serial 0)]
def rxP : Packet := pk 0x020E 0 0 (iv [(32, 77)]) 0 0
def peerX : Transfer := { slipX with kind := 1, peer := 2 }
def rowX : Transfer := { slipX with card := (cidHash 99).setWidth 256 }
def inX (kind : Byte) : Transfer := { slipX with kind, st := 1 }
/-- A reply that waits, of the packet `fl nopP`. -/
def hold : Held :=
  { q := 0, via := .host, id := 5, tag := 7, status := 0, unit := 0, chainEnd := false, truncated := false, notify := false
    sqHead := 1, resultLen := 0, cycles := 0, arbWait := 0, inl := 3, write := none }
/-- Transfer 77 waits for its answer. -/
def waiting (q : Bool) : State :=
  let s := moving (inX 1)
  { s with skn := { s.skn with xwait := [(77, { h := hold, row := 0, query := q })] }
           ru := { s.ru with jrn := { s.ru.jrn with pledged := 1 } } }
def routed : State := { at0 up nopP with skn := { SkeinUnit.reset with routed := [(9, { h := hold, owner := 2 })] } }
def luP : Packet := { spP 0x0302 with handleA := 0, outLen := 32, inl := iv [(34, 3), (36, 12)] }


def ciP (b ol : Nat) : Packet := pk 0x0901 0 0 (iv [(32, b)]) 0 (BitVec.ofNat 32 ol)
def cfP : Packet := pk 0x0902 0 0 0 0 0
def crP : Packet := pk 0x0903 0 0 (iv [(32, 1599)]) 0 512
def ccP : Packet := pk 0x0904 0 0 (iv [(32, 255)]) 0 0
def caP : Packet := pk 0x0905 0 0 0 0 0
/-- The card with a transaction running for the packet `fl nopP`. -/
def cardOp (busy : Bool) (op : CardOp) : State :=
  let s := carded [] (at0 up nopP)
  { s with card := { s.card with op := some op, busy } }
def auto : State := { up with card := { up.card with en := true } }

/-! ## Register and journal -/

/-- An external credential, its fingerprint, its entry, and the device with that entry in the stash. -/
def cred : Bytes := [1, 2, 3, 4]
def fpC : BitVec 128 := fingerprint (key 3 0x0800 0 10 0).key256 (credentialIdentity cred)
def entryC : Entry :=
  { fp := fpC, pool := 3, serial := 0, state := stExternal, admits := 0, limit := 2, node := led.node, flags := 0, time := 0 }
def enrolled : State := { led with ru := { led.ru with reg := { led.ru.reg with stash := [(0, entryC)] } } }
def adC : Cmd := cmd (pk 0x0301 0x01000003 0 (iv [(32, 1)]) 0 0) cred
def enC : Cmd := cmd (pk 0x0303 0x01000003 0 (iv [(33, 2)]) 0 0) cred
/-- An open TICKET context 1 under key 11. -/
def tk : SealCtx :=
  { key := 11, ekJ0 := 0, salt := 0, inv := 0, blk := 0, ghash := 0, aadLen := 0, dataLen := 0, declLen := 0, declAad := 0
    usage := usTicket, st := 1, dom := 0, format := 1, printer := 0, keySlot := 18, ordered := false, inflight := false
    nonce := 0, invCur := 0 }
def ticketed (s : State) : State := { s with sl := { s.sl with ctxs := [(1, tk)] } }
/-- The ticket of `entry12` with its 16-byte GMAC tag. -/
def ticketHead : Bytes := ticketHeader led 2 3 12 0
def ticket : Bytes := ticketHead ++ tk.gmac 2 ticketHead []
def atC : Cmd := cmd (pk 0x0301 0x01000003 0x03000001 (iv [(32, 0), (33, 2)]) 0 0) ticket
def lkP : Packet := pk 0x0302 0 0 (iv [(34, 3), (36, 12)]) 0 32
def puP : Packet := pk 0x0309 0x01000003 0 (iv [(34, 3), (36, 12)]) 0 0
def paP : Packet := pk 0x0309 0x01000003 0 (iv [(32, 1)]) 0 0
/-- The device with ticket 12 spoiled. -/
def spoiled : State :=
  { issued with ru := { issued.ru with reg := { issued.ru.reg with stash := [(0, { entry12 with state := stSpoiled })] } } }
def retiredPool : State := { spoiled with led := { led.led with pools := [(3, { pool with st := 3 })] } }
def ckP : Packet := pk 0x0304 0 0 0 0 4096
def rbP : Packet := pk 0x0305 0 0 0 0 0
def reP : Packet := pk 0x0307 0 0 0 0 0
def rebuilding (b : Bool) : State :=
  { led with ru := { led.ru with rb := { led.ru.rb with needed := true, begun := b, expect := 1 } } }
/-- A journal record with sequence 1 that a rebuild reads. -/
def feedRec : Bytes :=
  let b := JRec.bytes { typ := 0x03, pool := 3, serial := 12, node := 0, fp := fp12, delta := 1 } 1 0
  b ++ (digestBytes (chainNext 0 b)).take 16
def rfC : Cmd := cmd (pk 0x0306 0 0 0 0 0) feedRec
def feeding : State := { rebuilding true with led := { led.led with durable := { zeroRec with jseq := 1 } } }
def fed : State × Nat × Nat := State.feed (recordsOf rfC.bytes) ((at0 feeding rfC.pkt).begun 0x0306 none rfC (fl rfC.pkt)) 0 0
/-- The image of a checkpoint under way, and the device that makes it. -/
def ckpt : Ckpt :=
  { id := 1, jseq := 1, head := 0, time := 0, pools := [], transfers := [], stash := [], buckets := [], staged := [], leaves := 0
    root := none, rooted := false, held := hold, outPtr := 0x2000, began := 0 }
def imaging : State := { led with ru := { led.ru with ckpt := some ckpt } }

/-! ## Commit groups -/

def open1 : State := { at0 led nopP with led := { led.led with group := { emptyGroup with change := true, after := [.reply hold] } } }
def rec1 : CommitRec := { zeroRec with seq := 1 }
def waits : State := { at0 led nopP with led := { led.led with waiting := some (rec1, [.reply hold]) } }
def writing (r : CuReq) (b : Bool) (s : State) : State := { s with kp := { s.kp with cu := some (r, b) } }
def gw : GenWrite := { entry := 300, val := { zeroGen with gen := 2 }, check := none, what := .nothing, after := [] }
def forcedFreeze : State :=
  { led with ru := { led.ru with jrn := { led.ru.jrn with forced := [.freeze 3 8 []] } } }
def buffered : State :=
  { issued with ru := { issued.ru with reg := { issued.ru.reg with wbuf := [(4, [entry12])], accepted := [.lookup fp12] } } }


/-! ## Sealing -/

/-- `ISSUE` from pool 3 in a mode, under context 1 or key 20; with LOCKED. -/
def isP (mode b ol fl : Nat) : Packet :=
  { pk 0x0203 0x01000003 (BitVec.ofNat 32 b) (iv [(32, mode), (33, 1)]) 0 (BitVec.ofNat 32 ol) with flags := BitVec.ofNat 16 fl }
def run41 (mode : Byte) (locked : Bool) : IssueRun :=
  { pool := 3, serial := 41, locked, header := ticketHeader led mode 3 41 0, admitLimit := 1, mode, time := led.gctl.time }
def fp41 : BitVec 128 := fingerprint (key 3 0x0800 0 10 0).key256 (ticketIdentity led.node 3 41)
def ready : State := ticketed led
def readyLocked : State := ticketed locked
/-- A key that signs on the small curve: d = 2, Q = (6, 3). -/
def signer : Slot := key 5 3 1 (BitVec.ofNat 512 (2 * 2 ^ 504)) (pointOf 8 6 3)
/-- The device with a key of usage SEAL, OPEN and TICKET in slot 18, a prefix key in 19, a signing key in 20. -/
def keyed : State :=
  { led with
    ks := { led.ks with
      slots := [(2, ownerKey), (3, key 3 0x1000 0 9 0), (4, key 1 0x2000 0 11 0), (5, key 3 0x0800 0 10 0), (16, ownerKey),
        (18, key 1 0xE0 0 12 0), (19, key 2 0x100 0 13 0), (20, signer)]
      dmks := [(0, dmk0)] } }
def async (c : Cmd) : Cmd := { c with async := true }
def coP (u f : Nat) : Packet := pk 0x0401 0x03000002 0x02000012 (iv [(32, u), (33, f), (36, 77)]) 0 32
def coC : Cmd := cmd (coP 2 1) (sessionRecord 2 0 9 7 5)
def xP (op : BitVec 16) (par : List (Nat × Nat)) (ol : Nat) : Packet := pk op 0x03000001 0 (iv par) 0 (BitVec.ofNat 32 ol)
/-- The device with one context 1 open. -/
def ctxd (k : SealCtx) : State := { keyed with sl := { keyed.sl with ctxs := [(1, k)] } }
def sealK : SealCtx := { tk with usage := usSeal, format := 1 }
def openK : SealCtx := { tk with usage := usOpen, format := 1, ordered := true }
def csP (form : Nat) : Packet := xP 0x0405 [(32, form)] 208
def crC : Cmd := cmd (xP 0x0406 [] 0) (saveHead (ctxd openK) 1 96 1 openK 0 ++ saveClear openK)
/-- The wrapped record of a context that is closed now. -/
def wrapped (k : SealCtx) (no : BitVec 64) : Bytes :=
  let wk := wrapKey (digestBytes (5 ^^^ 6)) 0 0
  let head := saveHead keyed 2 208 1 k no ++ zeros 16
  let ct := gcmStream wk 0 (blockBytes k.key ++ k.tailBytes)
  head ++ ct ++ gcmTag wk 0 head ct
def cwC (k : SealCtx) : Cmd := cmd (xP 0x0406 [] 0) (wrapped k 1)
/-- `SEAL_DATA` and `SEAL_FINAL` of one message of 16 and of 5 bytes. -/
def sdC : Cmd := cmd (xP 0x0402 [(32, 1), (33, 0), (40, 32), (48, 0)] 64) (zeros 16)
def sfC : Cmd := cmd (xP 0x0403 [(32, 1), (33, 0), (40, 5), (48, 0)] 64) [1, 2, 3, 4, 5]
def ovC (good : Bool) : Cmd :=
  let ct := gcmStream openK.key (openK.iv 1) [1, 2, 3]
  let t := gcmTag openK.key (openK.iv 1) [] ct
  cmd (xP 0x0404 [(32, 0), (40, 1)] 64) (ct ++ if good then t else zeros 16)
def run1 (kind : SealKind) (aad data : Bytes) : SealRun :=
  { ctx := 1, kind, was := sealK, j0 := false, aad, data, outPtr := 0x3000, entered := true, h := hold }
def piped (kind : SealKind) (aad data : Bytes) (pipe : List (Nat × Bool × Bytes)) (fills : List Nat) : State :=
  let s := at0 (ctxd sealK) nopP
  { s with sl := { s.sl with runs := [run1 kind aad data], pipe, fills } }

/-! ## Digests -/

def dP (op : BitVec 16) (b : Nat) (par : List (Nat × Nat)) (ol : Nat) : Packet :=
  pk op 0x04000002 (BitVec.ofNat 32 b) (iv par) 0 (BitVec.ofNat 32 ol)
def idle2 : DigCtx := idleDig 0 false
def digged : State := { keyed with dig := { keyed.dig with ctxs := keyed.dig.ctxs.set 2 idle2 } }
def digging (bs : Bytes) : State :=
  let s := at0 digged nopP
  { s with dig := { s.dig with runs := [{ ctx := 2, kind := .data, began := false, data := bs, h := hold }] } }

/-! ## Signatures -/

def sgC (mode : Nat) (bs : Bytes) (g : BitVec 512) : Cmd :=
  { cmd (pk 0x0501 0x02000014 0 (iv [(32, mode)]) 0 2) bs with glitch := g }
/-- The device with entropy in its signing spindle 0. -/
def signing : State :=
  { keyed with spn := { keyed.spn with sp := keyed.spn.sp.set 0 { keyed.spindle 0 with ent := [1, 5, 7, 9] } } }
def sk : SignKey := { cv := toy, num := 1, d := 2, qx := 6, qy := 3, z := 0 }
def dig32 : Bytes := beBytes 32 6
def sig32 : SignOut := signatureOf sk (digestOf 1 0 dig32) [1, 5, 7, 9]
def vfC (bs : Bytes) : Cmd := cmd (pk 0x0502 0x02000010 0 (iv [(32, 1)]) 0 0) (bs ++ dig32)
def bnC (code width num : Nat) (bs : Bytes) : Cmd :=
  cmd (pk 0x0504 0x05000007 0 (iv [(32, code), (33, width), (34, num)]) 0 128) bs
def baP : Packet := pk 0x0505 0x05000007 0 0 0 0
def bnJob7 : Job :=
  { prog := .bn 5 256 curve0 [2, 3], len := 100, what := .bn 7, h := { hold with id := 9 }, cyc := 100, glitch := 0, yielded := false }

/-! ## Keys -/

def wk0 : BitVec 128 := wrapKey (digestBytes (5 ^^^ 6)) 0 0
/-- A blob of a working key under DMK 0, and one of a DMK under the transport key. -/
def head1 : BlobHead := blobFor 1 0xE0 0 0 { num := 0, gen := 0, wk := wk0 } 0 0 1
def blob1 : Bytes := wrapBlob wk0 head1 [] [1, 2, 3]
def mat1 : Bytes := [1, 2, 3] ++ zeros 61
def headL : BlobHead := blobFor 1 0xE0 0 0 { num := 0, gen := 0, wk := wk0 } 301 1 1
def blobL : Bytes := wrapBlob wk0 headL [] [1, 2, 3]
def wkT : BitVec 128 := wrapKey (blockBytes (key 1 0x2000 0 11 0).key128) 0xFFFE 0
def blobD : Bytes := dmkBlob wkT 0xFFFE 9 77 1
/-- The device with slot 0 its root, a KEK of entry 300 in slot 21, a key of lineage 301 in slot 22, and DMK 9's entry present. -/
def kekSlot : Slot :=
  let k := key 7 0x600 0xFF 15 0
  let k := { k with attr := { k.attr with lineage := 300 } }
  { k with icv := k.check }
def linSlot : Slot :=
  let k := key 1 0xE0 0xFF 16 0
  let k := { k with attr := { k.attr with lineage := 301 } }
  { k with icv := k.check }
def rooted : State :=
  { keyed with ks := { keyed.ks with
      slots := (0, key 3 0 0 44 0) :: keyed.ks.slots ++ [(21, kekSlot), (22, linSlot)]
      gens := [(8, { zeroGen with present := true }), (300, { zeroGen with kind := 2 }), (301, { zeroGen with kind := 3 })] } }
def klC (bs : Bytes) (par : List (Nat × Nat)) : Cmd := cmd (pk 0x0701 0 0 (iv par) 0 0) bs
def kgP (par : List (Nat × Nat)) : Packet := pk 0x0702 0 0 (iv par) 0 256
def kwP (a b : Nat) (par : List (Nat × Nat)) : Packet := pk 0x0703 (BitVec.ofNat 32 a) (BitVec.ofNat 32 b) (iv par) 0 128
def krC : Cmd := cmd (pk 0x0704 0x02000016 0 (iv [(32, (kcvOf 1 mat1).toNat)]) 0 0) blobL
def kiP (par : List (Nat × Nat)) : Packet := pk 0x0705 0 0 (iv par) 0 0
def keP : Packet := pk 0x0706 0x02000013 0 0 0 0
def kqP (a : Nat) (par : List (Nat × Nat)) : Packet := pk 0x0707 (BitVec.ofNat 32 a) 0 (iv par) 0 64
def plC : Cmd := cmd (pk 0x0503 0 0 (iv [(32, 1), (33, 0), (34, 4)]) 0 0) [6, 3]
/-- A prime of 256 bits. -/
def smooth : Nat := 2 * 3 ^ 102 * 5 ^ 40 + 1
/-- A record of the curve y² = x³ + x − 2 over the field of that prime, base point (1, 0) of order 2. -/
def tiny : Bytes :=
  [1, 2] ++ leBytes 2 256 ++ zeros 4 ++ beBytes 64 smooth ++ beBytes 64 1 ++ beBytes 64 (smooth - 2) ++ beBytes 64 1 ++
    beBytes 64 0 ++ beBytes 64 2 ++ zeros 8
def clP (op slot : Nat) : Packet := pk 0x0506 0 0 (iv [(32, op), (33, slot)]) 0 0

/-! ## The cluster -/

/-- `NODE_REG` of node 0, `MAP_SET` and the rest. -/
def nrP (b : Nat) : Packet := pk 0x0801 0 0 (iv [(33, b), (36, 0x4), (40, 1)]) 0 0
def msC : Cmd := cmd (pk 0x0802 0 0 0 0 0) (zeros 4096 ++ leBytes 8 9)
def mgP : Packet := pk 0x0803 0 0 0 0 4104
def nmP (b n serial : Nat) : Packet := pk 0x0804 0 0 (iv [(32, b), (33, n), (40, serial)]) 0 0
def withSkn (f : SkeinUnit → SkeinUnit) (s : State) : State := { s with skn := f s.skn }
def alone : State := withSkn (fun k => { k with candidates := [(8, (key 3 0x0800 0 10 0).attr.kcv)] }) led
def pair : State := withSkn (fun k => { k with members := [(2, { serial := 8, kcv := 1 })] }) led
def linked (st : PortSt) : State :=
  let p : SkPort := { led.skn.east with
    st, inService := true, key := some 3, vcs := Vector.replicate 5 { resetVc with held := 100 } }
  withSkn (fun k => { k with en := true, keySlot := 5, east := p }) led
def skp (dest src : Byte) (vc : Byte) (kind : Byte) (seq : BitVec 32) : SkPacket :=
  { dest, src, vc, kind, flags := 0, seq, tag := 0, payload := zeros 8 }

/-! ## Management -/

def mP (op : BitVec 16) (par : List (Nat × Nat)) (ol : Nat) : Packet := pk op 0 0 (iv par) 0 (BitVec.ofNat 32 ol)
/-- A command of the side-band port. -/
def side (op : BitVec 16) (par : List (Nat × Nat)) (bs : Bytes) (ol : Nat) : Cmd := { cmd (mP op par ol) bs with via := .smbus }
def tamperBytes : Bytes := defaultTamperBody ++ leBytes 4 (crc32 defaultTamperBody).toNat
def levelled : State := { up with tmp := { up.tmp with level := 1 } }
def image : Running := { major := 1, minor := 0, sv := 2, schema := 0, bankB := false }
def imaged : State :=
  let b : BootRec := { up.mss.boot with states := #v[2, 1, 2, 1] }
  { up with mss := { up.mss with mss := some image, setA := some image, setB := some image, boot := b } }
def staging : State := { up with mss := { up.mss with staging := some { kind := 2, bankB := true, next := 256, via := .host } } }
/-- The device in life-cycle state 2 or 1 with a challenge. -/
def lifed (n : BitVec 3) : State := { keyed with life := { keyed.life with count := n, challenge := some 9 } }

/-- `rooted` with a root in force, the value 44. -/
def rootedR : State :=
  { rooted with ks := { rooted.ks with
      root := 1, slots := (0, key 3 0 0 (44 * 2 ^ 256) 0) :: keyed.ks.slots } }
def xw (q : Bool) : XferWait := { h := hold, row := 0, query := q }
def rt2 : Routed := { h := hold, owner := 2 }
/-- A digest run with `n` zero bytes left. -/
def dr (n : Nat) : DigRun := { ctx := 2, kind := .data, began := false, data := zeros n, h := hold }
def mem8 : Member := { serial := 8, kcv := 1 }
/-- The device with its slots empty. -/
def slotless : State := { issued with ks := { issued.ks with slots := [] } }
def luX : Ctx := { c := cm luP [], epoch := 0, dom := 0, id := 0, unit := 255, sqHead := 0, chainEnd := false, keys := (startPolicy 0).keys }
def luInfo : OpInfo := { name := "LOOKUP", fast := true, trunc := true, rebuild := true }
/-- A session that stages MSS bank B, one page in. -/
def stg : Staging := { kind := 2, bankB := true, next := 256, via := .host }
/-- A device whose configuration area has room. -/
def roomy (s : State) : State := { s with kp := { s.kp with config := { s.kp.config with off := 256 } } }
def withRec (s : State) : State := { s with kp := { s.kp with records := [(keySeverity, [0, 0, 3])] } }
/-- The counters that a neighbour presents when nothing is under way. -/
def quiet : List PeerCount := List.replicate 5 { accepted := 0, freed := 0, occupied := 0 }

/-! ## Life cycle, raw access, unit service -/

/-- The owner authority key in slot 2: the base point of curve 0, the secret 1. -/
def ownerKey0 : Slot := key 6 0x1C 0 0 (pointOf 256 curve0.gx curve0.gy)
def lcS : State := { lifed 2 with ks := { led.ks with slots := [(2, ownerKey0)] } }
def signed0 (m : Bytes) : Bytes :=
  let o := sm2Sign curve0 (sm2E 0 m) 1 5
  beBytes 32 o.r ++ beBytes 32 o.s
def lcC : Cmd := cmd (mP 0x0A04 [(32, 3)] 0) (signed0 (authMessage lcS 3 9))
/-- An enrolment package for the owner key that is the base point, with no distinguishing ID. -/
def package : Bytes :=
  let b := [1, 0] ++ leBytes 2 224 ++ leBytes 8 7 ++ leBytes 16 9 ++ beBytes 32 curve0.gx ++ beBytes 32 curve0.gy ++ zeros 68
  let o := sm2Sign curve0 (sm2E (sm2Z curve0 [] curve0.gx curve0.gy) b) 1 5
  b ++ beBytes 32 o.r ++ beBytes 32 o.s
def enrolC : Cmd := { side 0x0A06 [] package 0 with via := .spi }
def again : State :=
  { lifed 2 with life := { (lifed 2).life with ownerHash := some (sm3 (slice package 28 64)) } }
def rrC : Cmd := side 0x0A09 [(32, 0), (36, 0), (44, 8)] [] 8
def rwC : Cmd := side 0x0A0A [(32, 3), (36, 0), (44, 8)] (zeros 8) 0
def rpC : Cmd := side 0x0A0B [(32, 3)] (zeros 16) 0
def usC (op code : Nat) (row : Nat) : Packet := mP 0x0A05 [(32, op), (33, code), (36, row)] 0
/-- Unit 0x50 and spindle 9 out of service. -/
def missing : State :=
  { up with arb := { up.arb with out := (1#128 <<< 0x50) ||| (1#128 <<< 0x29) } }
def copying5 : State := { up with mem := { up.mem with copying := [5] } }

/-! ## Spindles -/

def sp9 : Spindle := keyed.spindle 9
def laneOf (s : State) (n : Nat) (f : Lane → Lane) : State := s.setSpindle n { s.spindle n with lane := f (s.spindle n).lane }
/-- A signing spindle at a RAM address, one with four return addresses, and one at the last address. -/
def atRam : State := laneOf keyed 0 fun l => { l with pc := 0xC00 }
def nested : State := laneOf keyed 9 fun l => { l with stack := [1, 2, 3, 4] }
def atEnd : State := laneOf keyed 9 fun l => { l with pc := 0xFFF }
def toyVerify : Job :=
  { prog := .verify toy 6 (sm2Sign toy 6 2 5).r (sm2Sign toy 6 2 5).s 6 3 none, len := 100, what := .bn 7, h := hold, cyc := 100
    glitch := 0, yielded := false }
def jobOn (n : Nat) (j : Job) (s : State) : State := s.setSpindle n { s.spindle n with job := some j }
def verifying : State := jobOn 9 toyVerify (at0 keyed nopP)
def toySign : Job := { toyVerify with prog := .sign toy 6 2 9 6 3 100 }
def signs : State := jobOn 0 toySign (at0 keyed nopP)
def short : Job := { toySign with len := 10 }
/-- Every signing spindle at work and a shorter job waiting. -/
def crowded : State :=
  let s := { keyed with spn := { keyed.spn with
    sp := Vector.replicate 40 { sp9 with job := some toySign }, signParked := [short] } }
  at0 s nopP
def saving : State := keyed.setSpindle 0 { sp9 with taking := some short, shadow := some (sp9.lane, toySign) }
def restored : State := keyed.setSpindle 0 { sp9 with restoring := true, shadow := some (sp9.lane, toySign) }
def underTest : State := keyed.setSpindle 9 { sp9 with svc := .testing }

/-! ## Doorbells, registers, packets, arbiters -/

/-- A device whose planes run. -/
def awake0 : State := { up with
    gctl := { up.gctl with msix := [(0, 0)] }
    pwr := { up.pwr with st := .active, corePll := true, memPll := true }
    queues := [(0, Queue.admin)] }
def headed : State := { awake0 with skn := { awake0.skn with head := true } }
def skOn : State := { awake0 with skn := { awake0.skn with en := true } }
/-- A packet waits in the ring of queue 0. -/
def rung : State :=
  awake0.setQueue 0 { awake0.queue 0 with sqTail := 1 }
def landed (p : Packet) (h : Bool) : Fetched := { fl p with stage := .landed, onHold := h }
def landedOn (f : Fetched) : State := awake0.setQueue 0 { Queue.admin with inflight := [f] }
def decoded (p : Packet) : Fetched := { fl p with stage := .decoded }
def badP : Packet := pk 0x01FF 0 0 0 0 0
def readsP : Packet := pk 0x0107 0x01000003 0 50 16 0
def owing : State := awake0.setQueue 0 { Queue.admin with irqMode := 2, owed := 1, coalTime := 5 }
def ending0 : Ending := { h := none, delete := false, aborted := 0 }
def drained : State := awake0.setQueue 0 { Queue.admin with ending := some ending0 }
def asleep : State := { awake0 with gctl := { awake0.gctl with d3hot := true, d3held := [.msix 3] } }
def starving : State := awake0.park 9 [0]
def parked0 : Parked := { since := awake0.stamp 9, starved := false }
def stuck0 : Stuck := { arb := 9, inst := 0, req := 0, q := 0, tag := 7, ctx := 0 }

/-! ## Tamper responses, key sweep, resets, power, start-up -/

def tmpS (lvl : BitVec 2) (st : RespStage) : State := { awake0 with tmp := { awake0.tmp with level := lvl, stage := st } }
/-- Every source configured to answer with a hold. -/
def hot (s : State) : State := { s with tmp := { s.tmp with cfg := 0x5555555555555 } }
def dwelling : State := { tmpS 1 .idle with tmp := { (tmpS 1 .idle).tmp with dwell := true } }
def tested (ts : List (BitVec 5)) : State := { awake0 with tmp := { awake0.tmp with testing := true, tests := ts } }
def releasing : State :=
  { tested [24] with tmp := { (tested [24]).tmp with releasing := true, level := 1 } }
def onCell : State := { awake0 with pwr := { awake0.pwr with st := .backup } }
def swept : State := { keyed with ks := { keyed.ks with sweep := 18 } }
def tests52 : State := { keyed with ks := { keyed.ks with entTesting := true } }
def returning52 : State := { tests52 with arb := { tests52.arb with returning := [(0x52, hold)] } }
def held (sys plane : Bool) : State :=
  { awake0 with pwr := { awake0.pwr with st := .inReset, sysLow := sys, planeLow := plane } }
def lcDue : State := { awake0 with life := { awake0.life with resetDue := true } }
def porHeld : State := { awake0 with pwr := { awake0.pwr with st := .inReset, porLow := true } }
def dozing : State := { awake0 with pwr := { awake0.pwr with st := .doze } }
def waking : State := { awake0 with pwr := { awake0.pwr with st := .waking } }
def pendDoze : State := { awake0 with pwr := { awake0.pwr with doze := true, dozePend := true } }
def draining : State := { awake0 with pwr := { awake0.pwr with dpReset := true } }
def staged (st : List Nat) (s : State) : State := { s with pwr := { s.pwr with stages := st } }
def recallAt (n : Nat) : State := { State.reset with kp := { Keeper.reset with stage := n } }
def booting : State := { awake0 with mss := { awake0.mss with st := .booting } }
def updating : State := { awake0 with mss := { awake0.mss with update := true } }
def trained : State := { staged [1, 2, 3, 6, 7] awake0 with mem := { awake0.mem with trained := true } }

/-! ## Ports and the keeper die -/

def ported : State := { awake0 with mss := { awake0.mss with eid := 8, svcEn := true } }
def message : Bytes := [0x7E, 0x1F, 0x3C, 0x01] ++ packetBytes (mP 0x0A01 [] 32)
def frame : Bytes :=
  let b := [0xA5, 0x01] ++ leBytes 2 64 ++ packetBytes (mP 0x0A01 [] 32)
  b ++ leBytes 4 (crc32 b).toNat
def polled : State := { ported with mss := { ported.mss with spiOut := some [1, 2] } }
def polledErr : State := { ported with mss := { ported.mss with spiErr := true } }
def choosing : State := { ported with mss := { ported.mss with smbus := [message] } }
def forwards : State := { ported with mss := { ported.mss with forwarded := [cm (mP 0x0A01 [] 32) []] } }
def evt1 : Event := { code := 1, plane := 0, severity := 1, detail := zeros 32, time := 0, stamp := 0 }
def logging : State := { awake0 with kp := { awake0.kp with posts := [evt1], log := { awake0.kp.log with off := 256 } } }
def req1 : FlashReq := { area := .config, kind := 2, key := 5, payload := [1, 2, 3] }
def wr1 (done : Nat) (m : Bool) : FlashWrite :=
  { req := req1, addr := 65536 * 387 + 256, bytes := frameBytes 2 1 5 [1, 2, 3], done, marker := m, seq := 1 }
def framing (done : Nat) (m : Bool) : State := { awake0 with kp := { awake0.kp with frame := some (wr1 done m) } }
def shortLog : State := { awake0 with kp := { awake0.kp with log := { awake0.kp.log with used := [290, 291], sector := 291, blank := [] } } }
def swapAsked : State := { awake0 with mem := { awake0.mem with swap := true } }
def ledAwake : State := { led with pwr := awake0.pwr }
def unpowered : State := { awake0 with kp := { awake0.kp with powered := false } }
def unready : State := { awake0 with gctl := { awake0.gctl with ready := false } }
def erasing : State := { awake0 with kp := { awake0.kp with erase := some (290, false) } }

/-- The device at a cycle: bus owner 1 moves data at 32 to 47, owner 2 at 80 to 95, owner 3 at 176 to 191. -/
def atCyc (n : Nat) (s : State) : State := { s with gctl := { s.gctl with cycle := BitVec.ofNat 64 n } }
def bufReg : Register := { buffered.ru.reg with accepted := [], ops := satAdd buffered.ru.reg.ops 1 }
/-- The context store's cache full. -/
def cacheFull (s : State) : State := { s with sl := { s.sl with cache := List.replicate 4096 7 } }
/-- What `CTX_SAVE` writes of the open SEAL context 1. -/
def svS : State := at0 (ctxd sealK) (csP 2)
def svIv : BitVec 96 := svS.draw.setWidth 96
def svHead : Bytes := saveHead svS 2 208 1 sealK 1 ++ beBytes 12 svIv.toNat ++ zeros 4
def svCt : Bytes := gcmStream wk0 svIv (blockBytes sealK.key ++ sealK.tailBytes)
def plA : Cmd := async plC
def wcC : Cmd := cmd (kwP 0 0x02000015 [(32, 1), (34, 0xE0), (38, 1)]) (zeros 16)
def wdP : Packet := kwP 0 0 [(38, 2), (42, 0)]
def frozen : Pool := { (certPool recoveryCert).withCauses ((brokenPool.status &&& 4) ||| 0x20) with st := 1 }
def lookX : RegOp := .lookup fp12

/-! ## More of the cluster, units and spindles -/

/-- `NODE_REG` of node 2. -/
def nrQ (b : Nat) : Packet := pk 0x0801 0 0 (iv [(32, 2), (33, b), (36, 0x4), (40, 1)]) 0 0
/-- Node 5 of a cluster that node 0 heads. -/
def apart (s : State) : State := withSkn (fun k => { k with nodeId := 5, head := false }) s
def noted : State := withSkn (fun k => { k with lost := [2] }) pair
def barred : State := withSkn (fun k => { k with retired := [8] }) led
/-- East's counters with its receive buffer full. -/
def fullPort : State :=
  (linked .up).setPort .east { (linked .up).skn.east with vcs := Vector.replicate 5 { resetVc with occupied := 64 } }
def eastEgress (n : Nat) : State :=
  (linked .up).setPort .east { (linked .up).skn.east with
    egress := [(none, skp 5 0 0 0 1)], vcs := Vector.replicate 5 { resetVc with held := n } }
def failing : State := (linked .up).setPort .east { (linked .up).skn.east with tagFails := 7 }
def linkedM : State := withSkn (fun k => { k with members := [(2, mem8)] }) (linked .up)
def bothWays : State := withSkn (fun k => { k with west := k.east }) linkedM
def lowHeld (n : Nat) : State :=
  (linked .lowRate).setPort .east { (linked .lowRate).skn.east with vcs := Vector.replicate 5 { resetVc with held := n } }
def lacking (n : Nat) : State := { up with arb := { up.arb with out := 1#128 <<< n } }
def corrected5 : State := { up with mem := { up.mem with corrections := [(5, 3)] } }
def copied : State :=
  { at0 up nopP with mem := { up.mem with copying := [5] }, arb := { up.arb with leaving := [(rowKey 5, hold)] } }
def drawn9 (n : Nat) (es : List (BitVec 256)) : State := keyed.setSpindle n { sp9 with ent := es }
def looping : State := laneOf keyed 9 fun l => l.setLc 0 3
def called : State := laneOf keyed 9 fun l => { l with stack := [7] }
def swapping : State := { awake0 with mem := { awake0.mem with swap := true } }
def ahead : State := awake0.setQueue 0 { Queue.admin with sqSize := 8, sqTail := 2 }

/-! ## Packets, arbiters and jobs on their way -/

def granted : Fetched := { fl nopP with stage := .granted }
def aborting : State := awake0.setQueue 0 { Queue.admin with inflight := [granted], ending := some ending0 }
def dispS : State := landedOn (decoded nopP)
/-- The packet's requester has weight 0 at its arbiter. -/
def unasked : State :=
  dispS.setArbiter 2 { dispS.arbiter 2 with reqs := (dispS.arbiter 2).reqs.put 0 { (dispS.arbiter 2).req 0 with weight := 0, credit := 0 } }
def dispG : (QId × Fetched) × Nat × Nat × Arbiter := ((dispS.sync 2).nextDispatch 2).getD ((0, decoded nopP), 0, 0, awake0.arbiter 2)
def rungT : State := ((rung.sync 0).grantFor 0 0).getD rung
def patient : State :=
  starving.setArbiter 9 { starving.arbiter 9 with reqs := (starving.arbiter 9).reqs.put 0 { (starving.arbiter 9).req 0 with thresh := 0 } }
/-- A job of `PUBKEY_LOAD` on spindle 9, other programs to follow; its packet runs. -/
def jobP (more : List Part) : Job := { bnJob7 with prog := .part false 0, what := .part plA more, h := hold }
def partIn (more : List Part) : State :=
  jobOn 9 (jobP more) (keyed.setQueue 0 { Queue.admin with inflight := [{ fl plA.pkt with running := true }] })
def partEnds (s : State) : State :=
  s.setSpindle 9 { s.spindle 9 with
    lane := clearLane, out := Vector.replicate 4 0, keyOp := 0, job := none, restoring := false, jobs := satAdd (s.spindle 9).jobs 1 }
def next5 : Part := { signing := false, len := 5, key := 0 }
def partX (more : List Part) : Ctx := ((partEnds (partIn more)).resumed plA).getD luX
def bnRuns : State := jobOn 9 bnJob7 (keyed.setQueue 0 { Queue.admin with inflight := [{ fl nopP with id := 9 }] })
def bad18 : Slot := { key 1 0xE0 0 12 0 with icv := (key 1 0xE0 0 12 0).icv + 1 }
def spoiled18 : State := { keyed with ks := { keyed.ks with slots := [(18, bad18)], sweep := 18 } }
def busy0 : State := awake0.setQueue 0 { Queue.admin with inflight := [fl nopP] }
def rootable : State := { staged [1, 2, 3, 6] keyed with
    pwr := { (staged [1, 2, 3, 6] awake0).pwr with st := .active }
    ks := { keyed.ks with shares := [(rootOfLife keyed.life.count.toNat, 5)], root := 0 } }
def hand4 : Handover := { step := 4, plan := 0, failing := 0, back := false, paused := false, h := hold }
def handing : State := { awake0 with mss := { awake0.mss with ho := some hand4 } }
def filled : State := { ported with mss := { ported.mss with smbus := [message, message, message, message] } }
def writingRec : State := writing (.ledger rec1 []) false awake0
def pageOf (s : State) : Nat := ((s.kp.cu.map fun r => (r.1.place s.kp).1).getD 0) / 64
def scrubBusy : State := { writingRec with kp := { writingRec.kp with fePage := pageOf writingRec } }
/-- One cycle before the always-on clock counts a second. -/
def ticking (slew : BitVec 32) : State :=
  { State.reset with
    gctl := { Gctl.reset with slew := BitVec.ofNat _ slew.toNat }, tmp := { State.reset.tmp with aotAcc := 390624, aotCount := 0x7FFF } }
def ackP (v : Nat) : Packet := pk 0x0308 0 0 (iv [(32, v)]) 0 0
def acked : State := { led with ru := { led.ru with jrn := { led.ru.jrn with written := 5, ack := 2 } } }
def rebP : Packet := mP 0x0A0E [(32, 1), (33, 2)] 0
def timed : State := { up with gctl := { up.gctl with time := 100000 } }
def entropyCount : State := { keyed with ks := { keyed.ks with entFails := 2 } }

/-! ## Meeting the hypotheses of a statement -/

/-- `Runs` as a check. -/
def runsOk (op : BitVec 16) (sub : Option Byte) (c : Cmd) (s : State) (f : Fetched) : Bool :=
  decide (c.via = .host) && decide ((s.queue c.q).st ≠ .absent) &&
  decide ((s.queue c.q).ready (rowPacket op sub c.pkt) = some f) && (s.queue c.q).ringTurn f &&
  !s.holdsBack (rowPacket op sub c.pkt) && decide (s.taken c.q (rowPacket op sub c.pkt) = none) &&
  (!forMss op || (decide (s.mss.st = .running) && decide (s.mss.running = none)))

theorem runs_of {op : BitVec 16} {sub : Option Byte} {c : Cmd} {s : State} {f : Fetched}
    (h : runsOk op sub c s f = true) : Runs op sub c s f := by
  simp only [runsOk, Bool.and_eq_true, Bool.or_eq_true, decide_eq_true_eq, Bool.not_eq_true'] at h
  obtain ⟨⟨⟨⟨⟨⟨h1, h2⟩, h3⟩, h4⟩, h5⟩, h6⟩, h7⟩ := h
  exact ⟨h1, h2, h3, h4, h5, h6, fun h => h7.resolve_left (by simp [h])⟩

/-- `RunsSide` as a check. -/
def runsSideOk (op : BitVec 16) (sub : Option Byte) (c : Cmd) (s : State) : Bool :=
  decide (c.via ≠ .host) && decide (s.mss.st = .running ∨ s.mss.st = .romOnly) && decide (s.mss.running = none) &&
  decide (s.judgeSide (rowPacket op sub c.pkt) c.via = none)

theorem runsSide_of {op : BitVec 16} {sub : Option Byte} {c : Cmd} {s : State}
    (h : runsSideOk op sub c s = true) : RunsSide op sub c s := by
  simp only [runsSideOk, Bool.and_eq_true, decide_eq_true_eq] at h
  exact ⟨h.1.1.1, h.1.1.2, h.1.2, h.2⟩

theorem ok_of {ε α : Type} [DecidableEq α] {e : Except ε α} {a : α}
    (h : (match e with | .ok b => decide (b = a) | .error _ => false) = true) : e = .ok a := by
  cases e <;> simp_all

/-- A check that is one more than it should be fails. -/
theorem bumped (k : Slot) (h : k.check = k.icv) :
    Slot.check { k with icv := k.icv + 1 } ≠ ({ k with icv := k.icv + 1 } : Slot).icv := by
  intro c
  have e : Slot.check { k with icv := k.icv + 1 } = k.check := rfl
  rw [e, h] at c
  have d : k.icv = k.icv + 1 := c
  bv_omega

theorem some_getD {α : Type} {x : Option α} {d : α} (h : x.isSome = true) : x = some (x.getD d) := by
  cases x with
  | none => cases h
  | some _ => rfl

theorem serves_of {s : State} {n bit : Nat} {k : Slot} (h : s.slot n = some k) (c : k.check = k.icv)
    (v : k.st = .valid ∧ s.gensOk k = true ∧ k.attr.usage.getLsbD bit = true) : s.slotServes n bit k := by
  simp [State.slotServes, State.useSlot, State.readSlot, h, c, v.1, v.2.1, v.2.2]

theorem reads_of {s : State} {n : Nat} {k : Slot} (h : s.slot n = some k) (c : k.check = k.icv)
    (v : k.st = .valid ∧ s.gensOk k = true) : (s.readSlot n).2 = .ok k := by
  simp [State.readSlot, h, c, v.1, v.2]

theorem key_check (typ : Byte) (usage : BitVec 16) (curve : Byte) (v : BitVec 512) (q : BitVec 1024) :
    (key typ usage curve v q).check = (key typ usage curve v q).icv := by
  simp [key, Slot.check]

theorem cert_of {op : BitVec 16} {sub : Option Byte} {c : Cmd} {s : State} {f : Fetched} {kind pool slot : Nat} {prior : Bool}
    {bs : Bytes} {k : Slot} (r : certRefusal (s.begun op sub c f) (s.ctxRun op sub c f) kind pool prior bs = none)
    (h : (s.begun op sub c f).slot slot = some k) (e : k.check = k.icv)
    (v : k.st = .valid ∧ (s.begun op sub c f).gensOk k = true ∧ k.attr.usage.getLsbD useCert = true)
    (g : certSigned (s.begun op sub c f) k bs = true) : certPasses op sub c s f kind pool slot prior bs := by
  cases hc : (s.begun op sub c f).curve k.attr.curve.toNat with
  | none => simp [certSigned, hc] at g
  | some cv => simp [certPasses, State.certCheck, r, State.useSlot, State.readSlot, h, e, v.1, v.2.1, v.2.2, g, hc]

theorem passes_of {s : State} {n : PoolId} {d : Delta}
    (h : (match s.pool n with | some p => (checked d p.totals s.led.live).isSome | none => false) = true) :
    s.checkerPasses n d := by
  cases hp : s.pool n with
  | none => simp [hp] at h
  | some p => exact ⟨p, hp, by simpa [hp] using h⟩

theorem ticketFp_of {s : State} {n : PoolId} {serial : Serial} {fp : BitVec 128} {k : Slot}
    (h : s.slotServes s.ru.reg.fpkSlot.toNat useFingerprint k) (e : fp = fingerprint k.key256 (ticketIdentity s.node n serial)) :
    s.ticketFp n serial fp := ⟨k, h, e⟩

theorem rv_len (pw : Bytes) (r : Nat) : (regionVerifier pw r).length = 16 := by
  simp [regionVerifier, sm3First, digestBytes, beBytes, leBytes]

theorem slice_head (v t : Bytes) (h : v.length = 16) : slice (v ++ t) 0 16 = v := by
  have : (v ++ t).take 16 = v := by rw [← h]; simp
  simp [slice, this, h]

theorem slice_60 (v t : Bytes) (h : v.length = 16) :
    slice (v ++ t) 0 60 = v ++ (t.take 44 ++ List.replicate (60 - ((v ++ t).take 60).length) 0) := by
  have : (v ++ t).take 60 = v ++ t.take 44 := by
    rw [List.take_append, List.take_of_length_le (by omega), h]
  simp [slice, this]

theorem blank_verifier (s : State) (h : s.kp.fe0 = [] ∧ s.kp.fe1 = []) (r : Nat) (hr : r % 3 = 0) :
    s.kp.verifier r = regionVerifier (zeros 16) r := by
  have z : ∀ b off, s.kp.feRead b off 64 = zeros 64 := by
    intro b off
    cases b <;> simp [Keeper.feRead, Keeper.fe, h.1, h.2, readBytes, readByte, feBlank] <;> decide
  have w : wordBlockOk (zeros 64) = false := by decide +kernel
  have e : 3 * (r / 3) + 0 = r := by omega
  have hu := slice_60 (regionVerifier (zeros 16) (3 * (r / 3) + 0))
    (regionVerifier (zeros 16) (3 * (r / 3) + 1) ++ (regionVerifier (zeros 16) (3 * (r / 3) + 2) ++ [])) (rv_len _ _)
  simp only [Keeper.verifier, Keeper.block, z, w, hr, wordBlock, defaultVerifiers, List.flatMap_cons, List.flatMap_nil]
  simp only [hu, Nat.mul_zero, Bool.false_eq_true, if_false, List.append_assoc]
  rw [slice_head _ _ (rv_len _ _), e]

theorem password_of {s : State} {r : Nat} {pw : Bytes} (h : s.kp.fe0 = [] ∧ s.kp.fe1 = []) (hr : r % 3 = 0)
    (l : s.kp.lockedRegion r = false) (p : pw = zeros 16) : (s.passwordOk r pw).2 = true := by
  simp [State.passwordOk, blank_verifier s h r hr, l, p]

theorem authority_of {s : State} {k : Slot} {a : (Nat × Nat) × Digest} (h : s.slot 2 = some k) (c : k.check = k.icv)
    (v : k.st = .valid ∧ s.gensOk k = true) (p : (k.point 256, k.z) = a) : (s.authority true).2 = some a := by
  simp [State.authority, State.readSlot, h, c, v.1, v.2, p]


theorem with_icv (k : Slot) : Slot.check { k with icv := k.check } = ({ k with icv := k.check } : Slot).icv := by
  simp [Slot.check]

theorem kek_of {s : State} {n bit : Nat} {dom : Dom} {k : Slot} (h : s.slot n = some k) (c : k.check = k.icv)
    (v : k.st = .valid ∧ s.gensOk k = true ∧ k.attr.usage.getLsbD bit = true ∧ k.attr.typ = 7 ∧ k.attr.dom = dom) :
    (s.kekParent n bit dom).2 = .ok { num := k.attr.lineage, gen := (s.gen k.attr.lineage.toNat).gen,
                                      wk := wrapKey (blockBytes k.key128) k.attr.lineage (s.gen k.attr.lineage.toNat).gen } := by
  simp [State.kekParent, State.useSlot, State.readSlot, h, c, v.1, v.2.1, v.2.2.1, v.2.2.2.1, v.2.2.2.2]

theorem transport_of {s : State} {p : Packet} {b : BlobHead} {dom : Dom} {k : Slot} (hb : b.parent = 0xFFFE ∧ b.parentGen = 0)
    (h : s.slot 4 = some k) (c : k.check = k.icv) (v : k.st = .valid ∧ s.gensOk k = true) :
    (s.blobParent p b dom).2 = .ok (wrapKey (blockBytes k.key128) 0xFFFE 0) := by
  simp [State.blobParent, hb.1, hb.2, State.readSlot, h, c, v.1, v.2]

theorem le4 (v : BitVec 32) : leNat (leBytes 4 v.toNat) = v.toNat := by
  have := v.isLt
  simp only [leBytes, leNat, BitVec.toNat_ofNat]
  omega

/-- A body of 68 bytes with a sound head and its CRC behind it is a sound command frame. -/
theorem frame_of {b : Bytes} (n : b.length = 68)
    (h : ∀ t : Bytes, slice (b ++ t) 0 2 = [0xA5, 0x01] ∧ leAt (b ++ t) 2 2 = 64) :
    spiFrameOk (b ++ leBytes 4 (crc32 b).toNat) = true := by
  have l : (leBytes 4 (crc32 b).toNat).length = 4 := rfl
  have e : slice (b ++ leBytes 4 (crc32 b).toNat) 68 4 = leBytes 4 (crc32 b).toNat := by
    simp [slice, ← n, l]
  have t : List.take 68 (b ++ leBytes 4 (crc32 b).toNat) = b := by rw [← n]; simp
  have f : leAt (b ++ leBytes 4 (crc32 b).toNat) 68 4 = (crc32 b).toNat := by rw [leAt, e, le4]
  simp [spiFrameOk, n, l, (h _).1, (h _).2, f, t]

theorem tamper_of {b : Bytes} (n : b.length = 60)
    (h : ∀ x : Bytes,
      let f := b ++ x
      let t (k : Nat) : Int := ((slice f k 1).headD 0).toInt
      decide (defaultTemps.1.toInt ≤ t 17) && decide (t 18 ≤ defaultTemps.2.toInt) && decide (t 17 < t 18) &&
        (slice f 19 1).headD 0 != 0) :
    tamperRecordOk (b ++ leBytes 4 (crc32 b).toNat) = true := by
  have l : (leBytes 4 (crc32 b).toNat).length = 4 := rfl
  have e : slice (b ++ leBytes 4 (crc32 b).toNat) 60 4 = leBytes 4 (crc32 b).toNat := by
    simp [slice, ← n, l]
  have t : slice (b ++ leBytes 4 (crc32 b).toNat) 0 60 = b := by
    have : List.take 60 (b ++ leBytes 4 (crc32 b).toNat) = b := by rw [← n]; simp
    simp [slice, this, n]
  have f : leAt (b ++ leBytes 4 (crc32 b).toNat) 60 4 = (crc32 b).toNat := by rw [leAt, e, le4]
  have g := h (leBytes 4 (crc32 b).toNat)
  simp only [Bool.and_eq_true] at g
  simp only [tamperRecordOk, f, t, decide_true, Bool.and_eq_true, true_and]
  exact g

theorem finish_of {k : NewKey} {s : State} (h : k.attr.typ ≠ 5) : (s.finishKey k).2 = some (k, 0) := by
  simp only [State.finishKey]
  rw [if_pos h]

theorem exportKeys_of {s : State} {d : Dom} {m : BitVec 256} {k : Slot} (e : s.dmk d = some m) (h : s.slot 3 = some k)
    (c : k.check = k.icv) (v : k.st = .valid ∧ s.gensOk k = true ∧ k.attr.usage.getLsbD useJournal = true) :
    (s.exportKeys d).2 = .ok (m, k.attr.kcv) := by
  simp [State.exportKeys, e, State.useSlot, State.readSlot, h, c, v.1, v.2.1, v.2.2]

theorem gen_usage : BitVec.ofNat 16 (Packet.field (kgP [(32, 1), (34, 224), (38, 0)]) 34 2) = 224 := by decide +kernel
theorem gen_curve : Packet.byteAt (kgP [(32, 1), (34, 224), (38, 0)]) 33 = 0 := by decide +kernel
theorem fed_eq : fed = (fed.1, fed.2.1, fed.2.2) := by
  generalize fed = p
  rfl

theorem tamper_default : tamperRecordOk tamperBytes = true :=
  tamper_of (b := defaultTamperBody) (by decide +kernel) fun x => by
    have a : (slice (defaultTamperBody ++ x) 17 1).headD 0 = defaultTemps.1 := by rfl
    have b : (slice (defaultTamperBody ++ x) 18 1).headD 0 = defaultTemps.2 := by rfl
    have c : (slice (defaultTamperBody ++ x) 19 1).headD 0 = 10#8 := by rfl
    have t : (decide (defaultTemps.1.toInt ≤ defaultTemps.1.toInt) && decide (defaultTemps.2.toInt ≤ defaultTemps.2.toInt) &&
        decide (defaultTemps.1.toInt < defaultTemps.2.toInt) && (10#8 != 0)) = true := by
      unfold defaultTemps
      cases Config.isAF <;> decide +kernel
    simpa only [a, b, c] using t

theorem slice_pre (v t : Bytes) (n : Nat) (h : v.length = n) : slice (v ++ t) 0 n = v := by
  have : List.take n (v ++ t) = v := by rw [← h]; simp
  simp [slice, this, h]

theorem map_bytes : Cmd.bytes msC = List.replicate 4096 0 ++ leBytes 8 9 := by
  have n : (List.replicate 4096 (0 : Byte) ++ leBytes 8 9).length = 4104 := by
    rw [List.length_append, List.length_replicate]
    rfl
  have c : Cmd.bytes msC = slice ((List.replicate 4096 0 ++ leBytes 8 9) ++ []) 0
      (BitVec.ofNat 32 (List.replicate 4096 (0 : Byte) ++ leBytes 8 9).length).toNat := by
    rw [List.append_nil]
    simp only [Cmd.bytes, msC, cmd, cm, zeros]
  rw [c, n]
  exact slice_pre _ [] _ n

theorem map_zero {b : Byte} (h : b ∈ slice (Cmd.bytes msC) 0 4096) : b = 0 := by
  have e := map_bytes
  rw [e, slice_pre _ _ _ (List.length_replicate ..)] at h
  exact List.eq_of_mem_replicate h

theorem map_version : (mapOf (Cmd.bytes msC)).2 = 9 := by
  have e := map_bytes
  have d : List.drop 4096 (List.replicate 4096 (0 : Byte) ++ leBytes 8 9) = leBytes 8 9 :=
    List.drop_left' (List.length_replicate ..)
  rw [e]
  simp only [mapOf, leAt, slice, d]
  decide +kernel

/-- A packet of node 0, of this node or of a member is carried, whatever its type. -/
theorem carries_of {s : State} {p : SkPacket}
    (h : (!s.skn.candidate && (p.src == 0 || p.src == s.node || (s.skn.members.find p.src.toNat).isSome)) = true) :
    s.carries p = true := by
  unfold State.carries
  split <;> first | rfl | exact h

/-- A packet of the doorbell's type byte, whatever that byte is, is a doorbell. -/
theorem kind_zero : packetKind (skp 0 2 0 (Config.skeinType 0) 1) = some SkKind.doorbell := by
  simp only [packetKind, skKinds, skp, List.find?_cons]
  rw [show SkKind.doorbell.num = 0 from rfl, beq_self_eq_true]
  rfl

theorem powModSteps_cast (m : Nat) : ∀ (f b e acc : Nat), e < 2 ^ f →
    ((powModSteps f b e m acc : Nat) : ZMod m) = (acc : ZMod m) * (b : ZMod m) ^ e
  | 0, b, e, acc, h => by
    have : e = 0 := by simpa using h
    simp [powModSteps, this]
  | f + 1, b, e, acc, h => by
    have l : e / 2 < 2 ^ f := by
      rw [pow_succ] at h
      omega
    have e2 : (b : ZMod m) ^ e = ((b : ZMod m) * b) ^ (e / 2) * (b : ZMod m) ^ (e % 2) := by
      rw [← pow_two, ← pow_mul, ← pow_add, Nat.div_add_mod]
    rw [powModSteps, powModSteps_cast m f _ _ _ l, e2]
    rcases Nat.mod_two_eq_zero_or_one e with h | h
    · simp [h, ZMod.natCast_mod]
    · simp only [h, if_true, ZMod.natCast_mod, Nat.cast_mul, pow_one]
      ring

theorem powModSteps_lt (m : Nat) : ∀ (f b e acc : Nat), acc < m → powModSteps f b e m acc < m
  | 0, _, _, _, h => h
  | f + 1, b, e, acc, h => by
    rw [powModSteps]
    refine powModSteps_lt m f _ _ _ ?_
    split
    · exact Nat.mod_lt _ (by omega)
    · exact h

theorem powMod_cast {w b e m : Nat} (h : e < 2 ^ w) : ((powMod w b e m : Nat) : ZMod m) = (b : ZMod m) ^ e := by
  rw [powMod, powModSteps_cast m _ _ _ _ h, ZMod.natCast_mod, ZMod.natCast_mod, Nat.cast_one, one_mul]

theorem powMod_lt {w b e m : Nat} (h : 1 < m) : powMod w b e m < m :=
  powModSteps_lt m _ _ _ _ (Nat.mod_lt _ (by omega))

theorem smooth_power {e v : Nat} (h : e < 2 ^ 256) (v' : powMod 256 2 e smooth = v) : (2 : ZMod smooth) ^ e = (v : ZMod smooth) := by
  rw [← v', powMod_cast h, Nat.cast_ofNat]

theorem smooth_ne {e v : Nat} (h : e < 2 ^ 256) (v' : powMod 256 2 e smooth = v) (n : v ≠ 1) : (2 : ZMod smooth) ^ e ≠ 1 := by
  rw [smooth_power h v']
  intro c
  have l : v < smooth := v' ▸ powMod_lt (by decide +kernel)
  have t := (ZMod.natCast_eq_natCast_iff' v 1 smooth).mp (by simpa using c)
  rw [Nat.mod_eq_of_lt l, Nat.mod_eq_of_lt (by decide +kernel)] at t
  exact n t

theorem smooth_prime : smooth.Prime := by
  refine lucas_primality smooth 2 ?_ ?_
  · rw [smooth_power (v := 1) (by decide +kernel) (by decide +kernel), Nat.cast_one]
  · intro q hq hd
    have d : q ∣ 2 * 3 ^ 102 * 5 ^ 40 := by simpa only [smooth, Nat.add_sub_cancel] using hd
    have c : q = 2 ∨ q = 3 ∨ q = 5 := by
      rcases (Nat.Prime.dvd_mul hq).mp d with d | d
      · rcases (Nat.Prime.dvd_mul hq).mp d with d | d
        · exact .inl ((Nat.prime_dvd_prime_iff_eq hq Nat.prime_two).mp d)
        · exact .inr (.inl ((Nat.prime_dvd_prime_iff_eq hq Nat.prime_three).mp (hq.dvd_of_dvd_pow d)))
      · exact .inr (.inr ((Nat.prime_dvd_prime_iff_eq hq Nat.prime_five).mp (hq.dvd_of_dvd_pow d)))
    rcases c with rfl | rfl | rfl
    · exact smooth_ne (by decide +kernel) rfl (by decide +kernel)
    · exact smooth_ne (by decide +kernel) rfl (by decide +kernel)
    · exact smooth_ne (by decide +kernel) rfl (by decide +kernel)

/-- Every base passes a round on that prime. -/
theorem round_passes {b : Nat} (h : 0 < b ∧ b < smooth) : millerRabin 256 smooth b = true := by
  have : Fact smooth.Prime := ⟨smooth_prime⟩
  have s : twos 256 (smooth - 1) = 1 := by decide +kernel
  have e : (smooth - 1) / 2 ^ 1 = smooth / 2 := by decide +kernel
  have n : (b : ZMod smooth) ≠ 0 := by
    intro c
    have := (ZMod.natCast_eq_zero_iff b smooth).mp c
    exact absurd (Nat.le_of_dvd h.1 this) (by omega)
  have l : powMod 256 b (smooth / 2) smooth < smooth := powMod_lt (by decide +kernel)
  have x := powMod_cast (w := 256) (b := b) (e := smooth / 2) (m := smooth) (by decide +kernel)
  simp only [millerRabin, s, e]
  rcases ZMod.pow_div_two_eq_neg_one_or_one smooth n with c | c
  · have t := (ZMod.natCast_eq_natCast_iff' (powMod 256 b (smooth / 2) smooth) 1 smooth).mp (by rw [x, c, Nat.cast_one])
    rw [Nat.mod_eq_of_lt l, Nat.mod_eq_of_lt (by decide +kernel)] at t
    simp [t]
  · have m : ((smooth - 1 : Nat) : ZMod smooth) = -1 := by
      rw [Nat.cast_sub (by decide +kernel), ZMod.natCast_self, Nat.cast_one, zero_sub]
    have t := (ZMod.natCast_eq_natCast_iff' (powMod 256 b (smooth / 2) smooth) (smooth - 1) smooth).mp (by rw [x, c, m])
    rw [Nat.mod_eq_of_lt l, Nat.mod_eq_of_lt (by decide +kernel)] at t
    rw [t, millerRabinSquares, if_pos rfl, Bool.or_true]

theorem base_range (d k : Nat) : 0 < mrBase d k smooth ∧ mrBase d k smooth < smooth := by
  unfold mrBase
  have := Nat.mod_lt ((Config.entropy (d + 2 * k)).toNat * 2 ^ 256 + (Config.entropy (d + 2 * k + 1)).toNat)
    (by decide +kernel : 0 < smooth - 3)
  omega

theorem tiny_passes (d : Nat) : curveCheck d 2 (Cmd.bytes (cmd (clP 0 2) tiny)) = 0 := by
  have w : (curveOf (Cmd.bytes (cmd (clP 0 2) tiny))).w = 256 := by decide +kernel
  have p : (curveOf (Cmd.bytes (cmd (clP 0 2) tiny))).p = smooth := by decide +kernel
  have a : curveStructure 2 (Cmd.bytes (cmd (clP 0 2) tiny)) (curveOf (Cmd.bytes (cmd (clP 0 2) tiny))) = true := by
    decide +kernel
  have b : ¬ (4 * (curveOf (Cmd.bytes (cmd (clP 0 2) tiny))).a ^ 3 + 27 * (curveOf (Cmd.bytes (cmd (clP 0 2) tiny))).b ^ 2) % smooth
      = 0 := by decide +kernel
  have c : ((List.range 64).all fun k => millerRabin 256 smooth (mrBase d k smooth)) = true :=
    List.all_eq_true.mpr fun k _ => round_passes (base_range d k)
  have e : onCurve (curveOf (Cmd.bytes (cmd (clP 0 2) tiny))) (curveOf (Cmd.bytes (cmd (clP 0 2) tiny))).gx
      (curveOf (Cmd.bytes (cmd (clP 0 2) tiny))).gy = true := by decide +kernel
  have f : ¬ ecOut (curveOf (Cmd.bytes (cmd (clP 0 2) tiny))) (ecMul (curveOf (Cmd.bytes (cmd (clP 0 2) tiny)))
      (curveOf (Cmd.bytes (cmd (clP 0 2) tiny))).n (curveOf (Cmd.bytes (cmd (clP 0 2) tiny))).g) ≠ (0, 0) := by decide +kernel
  unfold curveCheck
  simp only [w, p, a, c, e, Bool.not_true, Bool.false_eq_true, if_false]
  rw [if_neg b, if_neg f]

theorem test_meets_nop :
    Runs 0x0100 none (cm nopP []) (at0 up nopP) (fl nopP) :=
  runs_of (by decide +kernel)

theorem test_meets_getInfo :
    Runs 0x0105 none (cm infoP []) (at0 up infoP) (fl infoP) ∧
    0 < BitVec.toNat (cm infoP []).pkt.outLen :=
  ⟨runs_of (by decide +kernel), (by decide +kernel)⟩

theorem test_meets_queueCreate :
    1 = BitVec.ofNat 14 (hIndex (cm qcP []).pkt.handleA) ∧
    Runs 0x0101 none (cm qcP []) (at0 up qcP) (fl qcP) ∧
    (State.queue (at0 up qcP) 1).st = QueueSt.absent ∧
    queueParamsOk (at0 up qcP) (cm qcP []).pkt = true :=
  ⟨(by decide +kernel), runs_of (by decide +kernel), (by decide +kernel)⟩

theorem test_meets_domainConfig :
    Runs 0x0104 none (cm dcP polBytes) (at0 up dcP) (fl dcP) ∧
    (cm dcP polBytes).memErr = none ∧
    policyOk (at0 up dcP) (Packet.byteAt (cm dcP polBytes).pkt 32) (policyOf (slice (cm dcP polBytes).data 0 (BitVec.toNat (cm
      dcP polBytes).pkt.dataLen))) = true :=
  ⟨runs_of (by decide +kernel), (by decide +kernel)⟩

theorem test_meets_queueDelete :
    1 = BitVec.ofNat 14 (hIndex (cm qdP []).pkt.handleA) ∧
    1 ≠ (cm qdP []).q ∧
    (State.queue (two qdP) 1).st = QueueSt.active ∧
    (State.queue (two qdP) 1).inflight = [] ∧
    State.locksOf (two qdP) 1 (State.queue (two qdP) 1).epoch = [] ∧
    (two qdP).ru.jrn.forced = [] ∧
    Runs 0x0102 none (cm qdP []) (two qdP) (fl qdP) :=
  ⟨(by decide +kernel), (by decide +kernel), (by decide +kernel), (by decide +kernel), (by decide +kernel),
    (by decide +kernel), runs_of (by decide +kernel)⟩

theorem test_meets_lockAcquire :
    3 = BitVec.ofNat 16 (hIndex (cm laP []).pkt.handleA) ∧
    50 = Packet.field (cm laP []).pkt 32 4 ∧
    Runs 0x0107 none (cm laP []) (at0 led laP) (fl laP) ∧
    State.pool (at0 led laP) 3 = some pool ∧
    State.isOpen (at0 led laP) pool = true ∧
    State.lock (at0 led laP) 3 = none ∧
    List.length (State.locksOf (at0 led laP) (cm laP []).q (State.queue (at0 led laP) (cm laP []).q).epoch) < 255 ∧
    State.room (at0 led laP) 1 = true ∧
    State.supplyLow (at0 led laP) = false ∧
    50 ≤ pool.a ∧
    pool.next + 50 ≤ pool.limit + 1 ∧
    State.checkerPasses (at0 led laP) 3 { a := -50, r := 50 } :=
  ⟨(by decide +kernel), (by decide +kernel), runs_of (by decide +kernel), (by decide +kernel), (by decide +kernel),
    (by decide +kernel), (by decide +kernel), (by decide +kernel), (by decide +kernel), (by decide +kernel),
    (by decide +kernel), passes_of (by decide +kernel)⟩

theorem test_meets_queueReset :
    1 = BitVec.ofNat 14 (hIndex (cm qrP []).pkt.handleA) ∧
    1 ≠ (cm qrP []).q ∧
    (State.queue (two qrP) 1).st = QueueSt.active ∧
    (State.queue (two qrP) 1).inflight = [] ∧
    State.locksOf (two qrP) 1 (State.queue (two qrP) 1).epoch = [] ∧
    (two qrP).ru.jrn.forced = [] ∧
    Runs 0x0103 none (cm qrP []) (two qrP) (fl qrP) :=
  ⟨(by decide +kernel), (by decide +kernel), (by decide +kernel), (by decide +kernel), (by decide +kernel),
    (by decide +kernel), runs_of (by decide +kernel)⟩

theorem test_meets_lockRelease :
    3 = BitVec.ofNat 16 (hIndex (cm lrP []).pkt.handleA % 65536) ∧
    Runs 0x0108 none (cm lrP []) (at0 locked lrP) (fl lrP) ∧
    State.lock (at0 locked lrP) 3 = some lk ∧
    BitVec.toNat lk.gen = hIndex (cm lrP []).pkt.handleA / 65536 ∧
    lk.first % 2 ^ 32 = Packet.field (cm lrP []).pkt 32 4 ∧
    lk.q = (cm lrP []).q ∧
    lk.epoch = (State.queue (at0 locked lrP) (cm lrP []).q).epoch ∧
    State.room (at0 locked lrP) 1 = true ∧
    State.pool (at0 locked lrP) 3 = some lkPool ∧
    State.isFrozen (at0 locked lrP) lkPool = false ∧
    Tab.sorted (at0 locked lrP).led.locks = true ∧
    State.checkerPasses (at0 locked lrP) 3 { a := ↑lk.units, r := -↑lk.units } :=
  ⟨(by decide +kernel), runs_of (by decide +kernel), (by decide +kernel), (by decide +kernel), (by decide +kernel),
    (by decide +kernel), (by decide +kernel), (by decide +kernel), (by decide +kernel), (by decide +kernel),
    (by decide +kernel), passes_of (by decide +kernel)⟩

theorem test_meets_poolLoad :
    3 = Cmd.poolA loadC ∧
    State.pool (at0 led loadC.pkt) 3 = some pool ∧
    State.admits (at0 led loadC.pkt) ∧
    Runs 0x0202 none loadC (at0 led loadC.pkt) (fl loadC.pkt) ∧
    State.isOpen (at0 led loadC.pkt) pool = true ∧
    loadC.memErr = none ∧
    7 = leAt (Cmd.bytes loadC) 28 4 ∧
    certPasses 514 none loadC (at0 led loadC.pkt) (fl loadC.pkt) 1 3 (BitVec.toNat pool.slot) (leAt (Cmd.bytes loadC) 32 5 ==
      pool.l) (Cmd.bytes loadC) ∧
    State.checkerPasses (at0 led loadC.pkt) 3 { l := 7, a := 7 } ∧
    State.programsRun (at0 led loadC.pkt) loadC false :=
  ⟨(by decide +kernel), (by decide +kernel), ⟨(by decide +kernel), (by decide +kernel)⟩, runs_of (by decide +kernel),
    (by decide +kernel), (by decide +kernel), (by decide +kernel),
    cert_of (by decide +kernel) (by rfl) (key_check _ _ _ _ _) (by decide +kernel) (by decide +kernel), passes_of
    (by decide +kernel), (by unfold State.programsRun; decide +kernel)⟩

theorem test_meets_poolCreateNew :
    4 = Cmd.poolA (cm pcP []) ∧
    State.pool (at0 led pcP) 4 = none ∧
    State.admits (at0 led pcP) ∧
    pcP = rowPacket 513 (some 0) (cm pcP []).pkt ∧
    Runs 0x0201 (some 0) (cm pcP []) (at0 led pcP) (fl pcP) ∧
    (at0 led pcP).led.scour = false ∧
    State.slotServes (at0 led pcP) (hIndex pcP.handleB) useCert ownerKey :=
  ⟨(by decide +kernel), (by decide +kernel), ⟨(by decide +kernel), (by decide +kernel)⟩, (by decide +kernel), runs_of
    (by decide +kernel), (by decide +kernel), serves_of (by rfl) (key_check _ _ _ _ _) (by decide +kernel)⟩

theorem test_meets_reclaim :
    3 = Cmd.poolA (cm rcP []) ∧
    State.pool (at0 led rcP) 3 = some pool ∧
    State.admits (at0 led rcP) ∧
    Runs 0x0207 none (cm rcP []) (at0 led rcP) (fl rcP) ∧
    State.isOpen (at0 led rcP) pool = true ∧
    pool.reissue = true ∧
    10 = Packet.field (cm rcP []).pkt 32 4 ∧
    10 ≤ pool.v ∧
    State.checkerPasses (at0 led rcP) 3 { a := 10, v := -10 } :=
  ⟨(by decide +kernel), (by decide +kernel), ⟨(by decide +kernel), (by decide +kernel)⟩, runs_of (by decide +kernel),
    (by decide +kernel), (by decide +kernel), (by decide +kernel), (by decide +kernel), passes_of (by decide +kernel)⟩

theorem test_meets_poolCreateRecover :
    3 = Cmd.poolA prC ∧
    State.pool (at0 bare prC.pkt) 3 = none ∧
    State.admits (at0 bare prC.pkt) ∧
    Runs 0x0201 (some 1) prC (at0 bare prC.pkt) (fl prC.pkt) ∧
    prC.memErr = none ∧
    certPasses 513 (some 1) prC (at0 bare prC.pkt) (fl prC.pkt) 3 3 2 (leAt (Cmd.bytes prC) 20 8 == (at0 bare
      prC.pkt).led.fseq) (Cmd.bytes prC) ∧
    State.slotServes (at0 bare prC.pkt) (BitVec.toNat (certPool (Cmd.bytes prC)).slot) useCert ownerKey ∧
    (State.replacePool 3 (certPool (Cmd.bytes prC)) (at0 bare prC.pkt)).2 = true ∧
    State.programsRun (at0 bare prC.pkt) prC false ∧
    Totals.agrees (State.replacePool 3 (certPool (Cmd.bytes prC)) (at0 bare prC.pkt)).1.led.live (at0 bare
      prC.pkt).led.durable.tot = false :=
  ⟨(by decide +kernel), (by decide +kernel), ⟨by decide +kernel, by decide +kernel⟩, runs_of (by decide +kernel), (by decide +kernel), cert_of (by decide +kernel) (by rfl) (key_check _ _ _ _ _) (by decide +kernel) (by decide +kernel), serves_of (k := ownerKey) (by
    rw [(by decide +kernel : BitVec.toNat (certPool (Cmd.bytes prC)).slot = 16)]
    rfl) (key_check _ _ _ _ _) (by decide +kernel), (by decide +kernel), (by unfold State.programsRun; decide +kernel), (by decide +kernel)⟩

theorem test_meets_writeOffA :
    3 = Cmd.poolA woC ∧
    State.pool (at0 led woC.pkt) 3 = some pool ∧
    State.admits (at0 led woC.pkt) ∧
    Runs 0x0210 none woC (at0 led woC.pkt) (fl woC.pkt) ∧
    State.isFrozen (at0 led woC.pkt) pool = false ∧
    woC.memErr = none ∧
    50 = leAt (Cmd.bytes woC) 28 4 ∧
    leAt (Cmd.bytes woC) 14 1 ≠ 5 ∧
    certPasses 528 none woC (at0 led woC.pkt) (fl woC.pkt) 2 3 (BitVec.toNat pool.slot) (leAt (Cmd.bytes woC) 32 5 == pool.w)
      (Cmd.bytes woC) ∧
    State.checkerPasses (at0 led woC.pkt) 3 { a := -50, w := 50 } ∧
    State.programsRun (at0 led woC.pkt) woC false :=
  ⟨(by decide +kernel), (by decide +kernel), ⟨(by decide +kernel), (by decide +kernel)⟩, runs_of (by decide +kernel),
    (by decide +kernel), (by decide +kernel), (by decide +kernel), (by decide +kernel),
    cert_of (by decide +kernel) (by rfl) (key_check _ _ _ _ _) (by decide +kernel) (by decide +kernel), passes_of
    (by decide +kernel), (by unfold State.programsRun; decide +kernel)⟩

theorem test_meets_writeOffT :
    3 = Cmd.poolA wtC ∧
    State.pool (at0 (moving slipX) wtC.pkt) 3 = some tPool ∧
    State.admits (at0 (moving slipX) wtC.pkt) ∧
    Runs 0x0210 none wtC (at0 (moving slipX) wtC.pkt) (fl wtC.pkt) ∧
    State.isFrozen (at0 (moving slipX) wtC.pkt) tPool = false ∧
    wtC.memErr = none ∧
    6 = leAt (Cmd.bytes wtC) 28 4 ∧
    leAt (Cmd.bytes wtC) 14 1 = 5 ∧
    State.writeOffRow (at0 (moving slipX) wtC.pkt) 3 (BitVec.ofNat 64 (leAt (Cmd.bytes wtC) 20 8)) = some 0 ∧
    Tab.sorted (at0 (moving slipX) wtC.pkt).skn.transfers = true ∧
    certPasses 528 none wtC (at0 (moving slipX) wtC.pkt) (fl wtC.pkt) 2 3 (BitVec.toNat tPool.slot) (leAt (Cmd.bytes wtC) 32 5
      == tPool.w) (Cmd.bytes wtC) ∧
    State.checkerPasses (at0 (moving slipX) wtC.pkt) 3 { t := -6, w := 6 } ∧
    State.programsRun (at0 (moving slipX) wtC.pkt) wtC false :=
  ⟨(by decide +kernel), (by decide +kernel), ⟨(by decide +kernel), (by decide +kernel)⟩, runs_of (by decide +kernel),
    (by decide +kernel), (by decide +kernel), (by decide +kernel), (by decide +kernel), (by decide +kernel),
    (by decide +kernel), cert_of (by decide +kernel) (by rfl) (key_check _ _ _ _ _) (by decide +kernel) (by decide +kernel),
    passes_of (by decide +kernel), (by unfold State.programsRun; decide +kernel)⟩

theorem test_meets_spoil :
    3 = Cmd.poolA (cm (spP 517) []) ∧
    State.pool (at0 issued (spP 517)) 3 = some pool ∧
    State.admits (at0 issued (spP 517)) ∧
    State.isFrozen (at0 issued (spP 517)) pool = false ∧
    State.ticketFp (at0 issued (spP 517)) 3 (BitVec.ofNat 40 (Packet.field (cm (spP 517) []).pkt 32 5)) fp12 ∧
    (State.regFind fp12 (at0 issued (spP 517))).2 = some (entry12, Place.stash 0) ∧
    entry12.state = stIssued ∧
    entry12.admits = 0 ∧
    Runs 0x0205 none (cm (spP 517) []) (at0 issued (spP 517)) (fl (spP 517)) ∧
    State.checkerPasses (at0 issued (spP 517)) 3 { i := -1, s := 1 } :=
  ⟨(by decide +kernel), (by decide +kernel), ⟨(by decide +kernel), (by decide +kernel)⟩, (by decide +kernel),
    ticketFp_of (serves_of (by rfl) (key_check _ _ _ _ _) (by decide +kernel)) (by rfl), (by decide +kernel),
    (by decide +kernel), (by decide +kernel), runs_of (by decide +kernel), passes_of (by decide +kernel)⟩

theorem test_meets_void :
    3 = Cmd.poolA (cm (spP 518) []) ∧
    State.pool (at0 issued (spP 518)) 3 = some pool ∧
    State.admits (at0 issued (spP 518)) ∧
    State.isFrozen (at0 issued (spP 518)) pool = false ∧
    State.ticketFp (at0 issued (spP 518)) 3 (BitVec.ofNat 40 (Packet.field (cm (spP 518) []).pkt 32 5)) fp12 ∧
    (State.regFind fp12 (at0 issued (spP 518))).2 = some (entry12, Place.stash 0) ∧
    entry12.state = stIssued ∧
    entry12.admits = 0 ∧
    Runs 0x0206 none (cm (spP 518) []) (at0 issued (spP 518)) (fl (spP 518)) ∧
    State.checkerPasses (at0 issued (spP 518)) 3 { i := -1, v := 1 } :=
  ⟨(by decide +kernel), (by decide +kernel), ⟨(by decide +kernel), (by decide +kernel)⟩, (by decide +kernel),
    ticketFp_of (serves_of (by rfl) (key_check _ _ _ _ _) (by decide +kernel)) (by rfl), (by decide +kernel),
    (by decide +kernel), (by decide +kernel), runs_of (by decide +kernel), passes_of (by decide +kernel)⟩

theorem test_meets_poolFreezeSet :
    3 = Cmd.poolA (cm (fzP 0) []) ∧
    State.pool (at0 led (fzP 0)) 3 = some pool ∧
    Runs 0x0209 (some 0) (cm (fzP 0) []) (at0 led (fzP 0)) (fl (fzP 0)) ∧
    pool.host = false ∧
    State.poolBusy (at0 led (fzP 0)) 3 = false ∧
    State.forcesNow (at0 led (fzP 0)) :=
  ⟨(by decide +kernel), (by decide +kernel), runs_of (by decide +kernel), (by decide +kernel), (by decide +kernel),
    ⟨(by decide +kernel), (by decide +kernel)⟩⟩

theorem test_meets_poolFreezeClear :
    3 = Cmd.poolA (cm (fzP 1) []) ∧
    State.pool (at0 hostPool (fzP 1)) 3 = some ({ pool with host := true }) ∧
    Runs 0x0209 (some 1) (cm (fzP 1) []) (at0 hostPool (fzP 1)) (fl (fzP 1)) ∧
    ({ pool with host := true }).host = true ∧
    State.stranded (at0 hostPool (fzP 1)) 3 = 0 ∧
    State.forcesNow (at0 hostPool (fzP 1)) :=
  ⟨(by decide +kernel), (by decide +kernel), runs_of (by decide +kernel), (by decide +kernel), (by decide +kernel),
    ⟨(by decide +kernel), (by decide +kernel)⟩⟩

theorem test_meets_poolRetire :
    3 = Cmd.poolA (cm rtP []) ∧
    State.pool (at0 led rtP) 3 = some pool ∧
    Runs 0x020A none (cm rtP []) (at0 led rtP) (fl rtP) ∧
    pool.st ≠ 2 ∧
    pool.st ≠ 3 ∧
    State.lock (at0 led rtP) 3 = none ∧
    pool.t = 0 ∧
    State.isFrozen (at0 led rtP) pool = false ∧
    State.poolBusy (at0 led rtP) 3 = false ∧
    State.admits (at0 led rtP) ∧
    State.checkerPasses (at0 led rtP) 3 { a := -↑pool.a, w := ↑pool.a } :=
  ⟨(by decide +kernel), (by decide +kernel), runs_of (by decide +kernel), (by decide +kernel), (by decide +kernel),
    (by decide +kernel), (by decide +kernel), (by decide +kernel), (by decide +kernel),
    ⟨(by decide +kernel), (by decide +kernel)⟩, passes_of (by decide +kernel)⟩

theorem test_meets_poolFreezeRecovery :
    3 = Cmd.poolA fzC ∧
    State.pool (at0 broken fzC.pkt) 3 = some brokenPool ∧
    frozen = { Pool.withCauses (Pool.status brokenPool &&& 4 ||| 32) (certPool (Cmd.bytes fzC)) with st := brokenPool.st } ∧
    State.programsRun (at0 broken fzC.pkt) fzC false ∧
    Runs 0x0209 (some 2) fzC (at0 broken fzC.pkt) (fl fzC.pkt) ∧
    (brokenPool.rebuild || brokenPool.checker || brokenPool.recovering || (at0 broken fzC.pkt).led.totals) = true ∧
    fzC.memErr = none ∧
    certPasses 521 (some 2) fzC (at0 broken fzC.pkt) (fl fzC.pkt) 3 3 2 (leAt (Cmd.bytes fzC) 20 8 == (at0 broken
      fzC.pkt).led.fseq) (Cmd.bytes fzC) ∧
    State.forcesNow (at0 broken fzC.pkt) ∧
    (State.replacePool 3 frozen (at0 broken fzC.pkt)).2 = true ∧
    Totals.agrees (State.replacePool 3 frozen (at0 broken fzC.pkt)).1.led.live (at0 broken fzC.pkt).led.durable.tot = false :=
  ⟨(by decide +kernel), (by decide +kernel), (by decide +kernel), (by unfold State.programsRun; decide +kernel), runs_of
    (by decide +kernel), (by decide +kernel), (by decide +kernel),
    cert_of (by decide +kernel) (by rfl) (key_check _ _ _ _ _) (by decide +kernel) (by decide +kernel),
    ⟨(by decide +kernel), (by decide +kernel)⟩, (by decide +kernel)⟩

theorem test_meets_poolQuery :
    Runs 0x0208 none (cm pqP []) (at0 led pqP) (fl pqP) ∧
    State.pool (at0 led pqP) (Cmd.poolA (cm pqP [])) = some pool ∧
    0 < BitVec.toNat (cm pqP []).pkt.outLen :=
  ⟨runs_of (by decide +kernel), (by decide +kernel)⟩

theorem test_meets_ledgerAuditSum :
    Runs 0x020F (some 0) (cm (auP 0 64) []) (at0 led (auP 0 64)) (fl (auP 0 64)) ∧
    0 < BitVec.toNat (cm (auP 0 64) []).pkt.outLen :=
  ⟨runs_of (by decide +kernel), (by decide +kernel)⟩

theorem test_meets_ledgerAuditClearStrip :
    Runs 0x020F (some 1) (cm (auP 1 0) []) (at0 stripped (auP 1 0)) (fl (auP 1 0)) ∧
    (at0 stripped (auP 1 0)).led.strip = true ∧
    Totals.agrees (sumPools (at0 stripped (auP 1 0)).led.pools) (at0 stripped (auP 1 0)).led.durable.tot = true ∧
    (at0 stripped (auP 1 0)).led.scour = false ∧
    (at0 stripped (auP 1 0)).led.totals = false ∧
    (∀ x ∈ (at0 stripped (auP 1 0)).led.pools, State.stranded (at0 stripped (auP 1 0)) (BitVec.ofNat 16 x.1) = 0) :=
  ⟨runs_of (by decide +kernel), (by decide +kernel)⟩

theorem test_meets_ledgerAuditTotals :
    Runs 0x020F (some 2) auC (at0 noTotals auC.pkt) (fl auC.pkt) ∧
    (at0 noTotals auC.pkt).led.totals = true ∧
    auC.memErr = none ∧
    certPasses 527 (some 2) auC (at0 noTotals auC.pkt) (fl auC.pkt) 4 0 2 (leAt (Cmd.bytes auC) 20 8 == (at0 noTotals
      auC.pkt).led.fseq) (Cmd.bytes auC) ∧
    (Pool.totals pool = totalsOf fun k => leAt (Cmd.bytes auC) (28 + 6 * k) 6) ∧
    Totals.sound (Pool.totals pool) = true ∧
    State.programsRun (at0 noTotals auC.pkt) auC false :=
  ⟨runs_of (by decide +kernel), (by decide +kernel), (by decide +kernel),
    cert_of (by decide +kernel) (by rfl) (key_check _ _ _ _ _) (by decide +kernel) (by decide +kernel), (by decide +kernel),
    (by decide +kernel), (by unfold State.programsRun; decide +kernel)⟩

theorem test_meets_exportCard :
    3 = Cmd.poolA (cm exP []) ∧
    State.pool (at0 (carded [] led) exP) 3 = some pool ∧
    State.isOpen (at0 (carded [] led) exP) pool = true ∧
    50 = Packet.field (cm exP []).pkt 32 4 ∧
    Runs 0x020B none (cm exP []) (at0 (carded [] led) exP) (fl exP) ∧
    (at0 (carded [] led) exP).card.op = none ∧
    (pool.exclusive = false ∨ State.lock (at0 (carded [] led) exP) 3 = none) ∧
    State.room (at0 (carded [] led) exP) 2 = true ∧
    State.supplyLow (at0 (carded [] led) exP) = false ∧
    50 ≤ pool.a ∧
    Packet.field (cm exP []).pkt 40 8 ≠ BitVec.toNat (at0 (carded [] led) exP).life.serial ∧
    (at0 (carded [] led) exP).card.ready = true ∧
    CardUnit.wp (at0 (carded [] led) exP).card = false ∧
    (at0 (carded [] led) exP).card.formatted = true ∧
    (lowestFrom (fun k => !CardUnit.used (at0 (carded [] led) exP).card k) 256 0 = some 0) ∧
    State.freeRow (at0 (carded [] led) exP) = some 0 ∧
    (State.exportKeys pool.dom (at0 (carded [] led) exP)).2 = Except.ok (5 ^^^ 6, 0) ∧
    State.checkerPasses (at0 (carded [] led) exP) 3 { a := -50, t := 50 } :=
  ⟨(by decide +kernel), (by decide +kernel), (by decide +kernel), (by decide +kernel), runs_of (by decide +kernel), (by decide +kernel), (by decide +kernel), (by decide +kernel), (by decide +kernel), (by decide +kernel), (by decide +kernel), (by decide +kernel), (by decide +kernel), (by decide +kernel), (by decide +kernel), (by decide +kernel), exportKeys_of (by decide +kernel) (by rfl) (key_check _ _ _ _ _) (by decide +kernel), passes_of (by decide +kernel)⟩

theorem test_meets_transferOut :
    3 = Cmd.poolA (cm toP []) ∧
    State.pool (at0 (meshed led) toP) 3 = some pool ∧
    State.isOpen (at0 (meshed led) toP) pool = true ∧
    50 = Packet.field (cm toP []).pkt 36 4 ∧
    Runs 0x020D none (cm toP []) (at0 (meshed led) toP) (fl toP) ∧
    nodeOf (Packet.byteAt (cm toP []).pkt 32) = some 2 ∧
    State.reaches (at0 (meshed led) toP) 2 = true ∧
    (pool.exclusive = false ∨ State.lock (at0 (meshed led) toP) 3 = none) ∧
    State.room (at0 (meshed led) toP) 2 = true ∧
    State.supplyLow (at0 (meshed led) toP) = false ∧
    50 ≤ pool.a ∧
    State.freeRow (at0 (meshed led) toP) = some 0 ∧
    State.checkerPasses (at0 (meshed led) toP) 3 { a := -50, t := 50 } :=
  ⟨(by decide +kernel), (by decide +kernel), (by decide +kernel), (by decide +kernel), runs_of (by decide +kernel),
    (by decide +kernel), (by decide +kernel), (by decide +kernel), (by decide +kernel), (by decide +kernel),
    (by decide +kernel), (by decide +kernel), passes_of (by decide +kernel)⟩

theorem test_meets_reconcileTransfer :
    State.transferRow (at0 (meshed (moving peerX)) rxP) (BitVec.ofNat 64 (Packet.field (cm rxP []).pkt 32 8)) = some (0,
      peerX) ∧
    peerX.st = 2 ∧
    State.pool (at0 (meshed (moving peerX)) rxP) peerX.pool = some tPool ∧
    State.isFrozen (at0 (meshed (moving peerX)) rxP) tPool = false ∧
    State.admits (at0 (meshed (moving peerX)) rxP) ∧
    Runs 0x020E none (cm rxP []) (at0 (meshed (moving peerX)) rxP) (fl rxP) ∧
    peerX.kind = 1 ∧
    State.reaches (at0 (meshed (moving peerX)) rxP) (BitVec.setWidth 6 peerX.peer) = true :=
  ⟨(by decide +kernel), (by decide +kernel), (by decide +kernel), (by decide +kernel),
    ⟨(by decide +kernel), (by decide +kernel)⟩, runs_of (by decide +kernel), (by decide +kernel)⟩

theorem test_meets_importCard :
    3 = Cmd.poolA (cm imP []) ∧
    State.pool (at0 (carded (slipBlocks (slip 5 8 7)) led) imP) 3 = some pool ∧
    State.isOpen (at0 (carded (slipBlocks (slip 5 8 7)) led) imP) pool = true ∧
    Runs 0x020C none (cm imP []) (at0 (carded (slipBlocks (slip 5 8 7)) led) imP) (fl imP) ∧
    (at0 (carded (slipBlocks (slip 5 8 7)) led) imP).card.op = none ∧
    State.room (at0 (carded (slipBlocks (slip 5 8 7)) led) imP) 1 = true ∧
    (at0 (carded (slipBlocks (slip 5 8 7)) led) imP).card.ready = true ∧
    Packet.field (cm imP []).pkt 32 4 < 256 ∧
    (at0 (carded (slipBlocks (slip 5 8 7)) led) imP).card.formatted = true ∧
    slipOf (CardUnit.block (at0 (carded (slipBlocks (slip 5 8 7)) led) imP).card (slipBlock (Packet.field (cm imP []).pkt 32
      4))) = some (slip 5 8 7) ∧
    slipRefusal (at0 (carded (slipBlocks (slip 5 8 7)) led) imP) 3 pool (Packet.field (cm imP []).pkt 32 4) (slip 5 8 7) =
      none ∧
    State.sequenceOk (at0 (carded (slipBlocks (slip 5 8 7)) led) imP) (slip 5 8 7) = true ∧
    (Option.isSome (State.markRow (at0 (carded (slipBlocks (slip 5 8 7)) led) imP) (slip 5 8 7).serial (slip 5 8 7).kcv) =
      true ∨ Option.isSome (State.freeRow (at0 (carded (slipBlocks (slip 5 8 7)) led) imP)) = true) ∧
    State.checkerPasses (at0 (carded (slipBlocks (slip 5 8 7)) led) imP) 3
      { m := ↑(BitVec.toNat (slip 5 8 7).units), a := ↑(BitVec.toNat (slip 5 8 7).units) } :=
  ⟨(by decide +kernel), (by decide +kernel), (by decide +kernel), runs_of (by decide +kernel), (by decide +kernel),
    (by decide +kernel), (by decide +kernel), (by decide +kernel), (by decide +kernel), (by decide +kernel),
    (by decide +kernel), (by decide +kernel), (by decide +kernel), passes_of (by decide +kernel)⟩

theorem test_meets_transferReceive :
    State.xferOf (meshed led) 77 3 = false ∧
    State.xferOf (meshed led) 77 4 = false ∧
    importRefusal (meshed led) 0 3 = none ∧
    State.freeRow (meshed led) = some 0 ∧
    State.checkerPasses (meshed led) 3 { m := ↑5, a := ↑5 } :=
  ⟨(by decide +kernel), (by decide +kernel), (by decide +kernel), (by decide +kernel), passes_of (by decide +kernel)⟩

theorem test_meets_reconcileSlip :
    State.transferRow (at0 (carded (slipBlocks (slip 77 7 8)) (moving rowX)) rxP) (BitVec.ofNat 64 (Packet.field (cm rxP
      []).pkt 32 8)) = some (0, rowX) ∧
    rowX.st = 2 ∧
    State.pool (at0 (carded (slipBlocks (slip 77 7 8)) (moving rowX)) rxP) rowX.pool = some tPool ∧
    State.isFrozen (at0 (carded (slipBlocks (slip 77 7 8)) (moving rowX)) rxP) tPool = false ∧
    State.admits (at0 (carded (slipBlocks (slip 77 7 8)) (moving rowX)) rxP) ∧
    Runs 0x020E none (cm rxP []) (at0 (carded (slipBlocks (slip 77 7 8)) (moving rowX)) rxP) (fl rxP) ∧
    (at0 (carded (slipBlocks (slip 77 7 8)) (moving rowX)) rxP).card.op = none ∧
    rowX.kind = 2 ∧
    Tab.find (at0 (carded (slipBlocks (slip 77 7 8)) (moving rowX)) rxP).skn.transfers 0 = some rowX ∧
    Tab.sorted (at0 (carded (slipBlocks (slip 77 7 8)) (moving rowX)) rxP).skn.transfers = true ∧
    (at0 (carded (slipBlocks (slip 77 7 8)) (moving rowX)) rxP).card.ready = true ∧
    cidHash (at0 (carded (slipBlocks (slip 77 7 8)) (moving rowX)) rxP).card.cid = xferHash rowX ∧
    State.slipFor (at0 (carded (slipBlocks (slip 77 7 8)) (moving rowX)) rxP) rowX = some (slip 77 7 8, slipKey (5 ^^^ 6) 7 0
      77) ∧
    validMarker (slipKey (5 ^^^ 6) 7 0 77) (slip 77 7 8) (CardUnit.block (at0 (carded (slipBlocks (slip 77 7 8)) (moving
      rowX)) rxP).card (markerBlock (BitVec.toNat (xferSlot rowX)))) = some 2 ∧
    State.checkerPasses (at0 (carded (slipBlocks (slip 77 7 8)) (moving rowX)) rxP) rowX.pool
      { t := -↑(BitVec.toNat rowX.units), x := ↑(BitVec.toNat rowX.units) } :=
  ⟨(by decide +kernel), (by decide +kernel), (by decide +kernel), (by decide +kernel),
    ⟨(by decide +kernel), (by decide +kernel)⟩, runs_of (by decide +kernel), (by decide +kernel), (by decide +kernel),
    (by decide +kernel), (by decide +kernel), (by decide +kernel), (by decide +kernel), (by decide +kernel),
    (by decide +kernel), passes_of (by decide +kernel)⟩

theorem test_meets_transferAnswerOk :
    State.xferWait (waiting false) 77 false = some (xw false) ∧
    Tab.find (waiting false).skn.transfers (xw false).row = some (inX 1) ∧
    Tab.sorted (waiting false).skn.transfers = true ∧
    State.checkerPasses (waiting false) (inX 1).pool
      { t := -↑(BitVec.toNat (inX 1).units), x := ↑(BitVec.toNat (inX 1).units) } :=
  ⟨(by decide +kernel), (by decide +kernel), (by decide +kernel), passes_of (by decide +kernel)⟩

theorem test_meets_transferAnswerBad :
    State.xferWait (waiting false) 77 false = some (xw false) ∧
    Tab.find (waiting false).skn.transfers (xw false).row = some (inX 1) ∧
    Tab.sorted (waiting false).skn.transfers = true ∧
    State.checkerPasses (waiting false) (inX 1).pool
      { a := ↑(BitVec.toNat (inX 1).units), t := -↑(BitVec.toNat (inX 1).units) } :=
  ⟨(by decide +kernel), (by decide +kernel), (by decide +kernel), passes_of (by decide +kernel)⟩

theorem test_meets_reconcileAnswer :
    State.xferWait (waiting true) 77 true = some (xw true) ∧
    Tab.find (waiting true).skn.transfers (xw true).row = some (inX 1) ∧
    Tab.sorted (waiting true).skn.transfers = true ∧
    State.checkerPasses (waiting true) (inX 1).pool
      { t := -↑(BitVec.toNat (inX 1).units), x := ↑(BitVec.toNat (inX 1).units) } :=
  ⟨(by decide +kernel), (by decide +kernel), (by decide +kernel), passes_of (by decide +kernel)⟩

theorem test_meets_transferTimeout :
    (List.find? (fun x => x.1 == 77) (waiting false).skn.xwait = some (77, (xw false))) ∧
    (xw false).query = false ∧
    Tab.find (waiting false).skn.transfers (xw false).row = some (inX 1) :=
  by decide +kernel

theorem test_meets_transferDoneReceive :
    State.xferOf (moving (inX 3)) 77 3 = true ∧
    State.forcesNow (moving (inX 3)) ∧
    Tab.sorted (moving (inX 3)).skn.transfers = true ∧
    (List.find? (fun p => p.2.id == 77 && (p.2.kind == 3 || p.2.kind == 4)) (moving (inX 3)).skn.transfers = some (0, inX 3)) :=
  ⟨(by decide +kernel), ⟨(by decide +kernel), (by decide +kernel)⟩, (by decide +kernel)⟩

theorem test_meets_transferQueryReceive :
    State.xferOf led 77 3 = false ∧
    State.xferOf led 77 4 = false ∧
    State.forcesNow led ∧
    State.freeRow led = some 0 :=
  ⟨(by decide +kernel), (by decide +kernel), ⟨(by decide +kernel), (by decide +kernel)⟩, (by decide +kernel)⟩

theorem test_meets_routedCommand :
    luX =
      { c := cm luP [], epoch := 0, dom := (cm luP []).dom, id := 0, unit := 255, sqHead := 0, chainEnd := false, keys := (State.policy slotless (cm luP []).dom).keys } ∧
    routedBody (cm luP []).pkt = some (lookupBody true) ∧
    opInfo (cm luP []).pkt.opcode = some luInfo ∧
    decodeRest slotless (cm luP []).q (cm luP []).dom (cm luP []).pkt luInfo Transport.host = none ∧
    (lookupBody true luX slotless).when_ = When.now :=
  ⟨(by rfl), rfl, (by decide +kernel), (by decide +kernel), (by decide +kernel)⟩

theorem test_meets_routedTimeout :
    Tab.find routed.skn.routed 9 = some rt2 ∧
    rt2.h.via = Transport.host ∧
    (List.find? (fun x => x.id == rt2.h.id) (State.queue routed rt2.h.q).inflight = some (fl nopP)) ∧
    rt2.h.tag = (fl nopP).pkt.tag ∧
    Tab.sorted routed.skn.routed = true :=
  by decide +kernel

theorem test_meets_routedReply :
    Tab.find routed.skn.routed 9 = some rt2 ∧
    rt2.h.via = Transport.host ∧
    (List.find? (fun x => x.id == rt2.h.id) (State.queue routed rt2.h.q).inflight = some (fl nopP)) ∧
    rt2.h.tag = (fl nopP).pkt.tag ∧
    Tab.sorted routed.skn.routed = true :=
  by decide +kernel

theorem test_meets_cardInfoReport :
    Runs 0x0901 (some 0) (cm (ciP 0 64) []) (at0 (carded [] led) (ciP 0 64)) (fl (ciP 0 64)) ∧
    0 < BitVec.toNat (cm (ciP 0 64) []).pkt.outLen :=
  ⟨runs_of (by decide +kernel), (by decide +kernel)⟩

theorem test_meets_cardFormat :
    Runs 0x0902 none (cm cfP []) (at0 (carded [] led) cfP) (fl cfP) ∧
    (at0 (carded [] led) cfP).card.op = none ∧
    (at0 (carded [] led) cfP).card.ready = true ∧
    CardUnit.wp (at0 (carded [] led) cfP).card = false ∧
    (∀ k < 256, State.slotHeld (at0 (carded [] led) cfP) k = false) :=
  ⟨runs_of (by decide +kernel), (by decide +kernel)⟩

theorem test_meets_cardRead :
    Runs 0x0903 none (cm crP []) (at0 (carded [] led) crP) (fl crP) ∧
    (at0 (carded [] led) crP).card.op = none ∧
    (at0 (carded [] led) crP).card.ready = true :=
  ⟨runs_of (by decide +kernel), (by decide +kernel)⟩

theorem test_meets_cardInfoIdentify :
    Runs 0x0901 (some 1) (cm (ciP 1 64) []) (at0 (carded [] led) (ciP 1 64)) (fl (ciP 1 64)) ∧
    (at0 (carded [] led) (ciP 1 64)).card.op = none ∧
    (at0 (carded [] led) (ciP 1 64)).card.present = true ∧
    (at0 (carded [] led) (ciP 1 64)).card.en = true ∧
    (at0 (carded [] led) (ciP 1 64)).card.media = some (media []) ∧
    (media []).readyAtOnce = true :=
  ⟨runs_of (by decide +kernel), (by decide +kernel)⟩

theorem test_meets_cardClear :
    Runs 0x0904 none (cm ccP []) (at0 (carded [] led) ccP) (fl ccP) ∧
    (at0 (carded [] led) ccP).card.op = none ∧
    (at0 (carded [] led) ccP).card.ready = true ∧
    CardUnit.wp (at0 (carded [] led) ccP).card = false ∧
    State.slotHeld (at0 (carded [] led) ccP) (Packet.field (cm ccP []).pkt 32 2) = false :=
  ⟨runs_of (by decide +kernel), (by decide +kernel)⟩

theorem test_meets_cardIn :
    auto.card.en = true ∧
    auto.card.auto = true ∧
    (media []).readyAtOnce = true :=
  by decide +kernel

theorem test_meets_cardAudit :
    Runs 0x0905 none (cm caP []) (at0 (carded [] led) caP) (fl caP) ∧
    (at0 (carded [] led) caP).card.op = none ∧
    (at0 (carded [] led) caP).card.ready = true ∧
    CardUnit.wp (at0 (carded [] led) caP).card = false ∧
    (at0 (carded [] led) caP).card.formatted = true ∧
    State.dmk (at0 (carded [] led) caP) 0 = some (5 ^^^ 6) :=
  ⟨runs_of (by decide +kernel), (by decide +kernel)⟩

theorem test_meets_cardCmd1 :
    (cardOp false (CardOp.ident 1 none)).card.op = some (CardOp.ident 1 none) ∧
    (cardOp false (CardOp.ident 1 none)).card.media = some (media []) :=
  by decide +kernel

theorem test_meets_cardBusyEnd :
    (cardOp true (CardOp.write [(64, [1])] hold)).card.busy = true ∧
    0 &&& cmd13Errors = 0 ∧
    (cardOp true (CardOp.write [(64, [1])] hold)).card.op = some (CardOp.write [(64, [1])] hold) ∧
    hold.via = Transport.host ∧
    (List.find? (fun x => x.id == hold.id) (State.queue (cardOp true (CardOp.write [(64, [1])] hold)) hold.q).inflight = some
      (fl nopP)) ∧
    hold.tag = (fl nopP).pkt.tag :=
  by decide +kernel

theorem test_meets_cardReadData :
    (cardOp false (CardOp.read 64 hold 4096 512)).card.op = some (CardOp.read 64 hold 4096 512) ∧
    hold.via = Transport.host ∧
    (List.find? (fun x => x.id == hold.id) (State.queue (cardOp false (CardOp.read 64 hold 4096 512)) hold.q).inflight = some
      (fl nopP)) ∧
    hold.tag = (fl nopP).pkt.tag :=
  by decide +kernel

theorem test_meets_cardBusyTimeout :
    (cardOp true (CardOp.write [(64, [1])] hold)).card.busy = true :=
  (by decide +kernel)

theorem test_meets_cardReadTimeout :
    Option.isSome (cardOp false (CardOp.read 64 hold 4096 512)).card.op = true ∧
    (cardOp false (CardOp.read 64 hold 4096 512)).card.busy = false :=
  by decide +kernel

theorem test_meets_admitCred :
    3 = Cmd.poolA adC ∧
    State.slotServes (at0 enrolled adC.pkt) (BitVec.toNat (at0 enrolled adC.pkt).ru.reg.fpkSlot) useFingerprint (key 3 2048 0
      10 0) ∧
    Runs 0x0301 none adC (at0 enrolled adC.pkt) (fl adC.pkt) ∧
    adC.memErr = none ∧
    Packet.byteAt adC.pkt 32 = 1 ∧
    fpC = fingerprint (Slot.key256 (key 3 2048 0 10 0)) (credentialIdentity (Cmd.bytes adC)) ∧
    State.rangeOwner (at0 enrolled adC.pkt) fpC = (at0 enrolled adC.pkt).skn.nodeId ∧
    State.lateChecks (State.ctxRun 769 none adC (fl adC.pkt) (at0 enrolled adC.pkt)) (State.begun 769 none adC (fl adC.pkt)
      (at0 enrolled adC.pkt)) = none ∧
    (at0 enrolled adC.pkt).ru.rb.needed = false ∧
    State.pool (at0 enrolled adC.pkt) 3 = some pool ∧
    pool.rebuild = false ∧
    State.room (at0 enrolled adC.pkt) 1 = true ∧
    (State.regFind fpC (at0 enrolled adC.pkt)).2 = some (entryC, Place.stash 0) ∧
    entryC.state = stExternal ∧
    entryC.pool = 3 ∧
    entryC.flags &&& 3 = 0 ∧
    entryC.admits < entryC.limit ∧
    (at0 enrolled adC.pkt).spn.ran = [] :=
  ⟨(by decide +kernel), serves_of (by rfl) (key_check _ _ _ _ _) (by decide +kernel), runs_of (by decide +kernel),
    (by decide +kernel)⟩

theorem test_meets_lookup :
    0 = Cmd.poolA (cm lkP []) ∧
    State.slotServes (at0 issued lkP) (BitVec.toNat (at0 issued lkP).ru.reg.fpkSlot) useFingerprint (key 3 2048 0 10 0) ∧
    Runs 0x0302 none (cm lkP []) (at0 issued lkP) (fl lkP) ∧
    Packet.byteAt (cm lkP []).pkt 32 = 0 ∧
    nodeOf (namedTicket (cm lkP []).pkt).1 = some (at0 issued lkP).skn.nodeId ∧
    fp12 = fingerprint (Slot.key256 (key 3 2048 0 10 0)) (namedTicket (cm lkP []).pkt).2 ∧
    State.lateChecks (State.ctxRun 770 none (cm lkP []) (fl lkP) (at0 issued lkP)) (State.begun 770 none (cm lkP []) (fl lkP)
      (at0 issued lkP)) = none ∧
    (State.regFind fp12 (at0 issued lkP)).2 = some (entry12, Place.stash 0) ∧
    State.pool (at0 issued lkP) entry12.pool = some pool ∧
    pool.rebuild = false ∧
    0 < BitVec.toNat (cm lkP []).pkt.outLen :=
  ⟨(by decide +kernel), serves_of (by rfl) (key_check _ _ _ _ _) (by decide +kernel), runs_of (by decide +kernel),
    (by decide +kernel)⟩

theorem test_meets_admitTicket :
    3 = Cmd.poolA atC ∧
    State.slotServes (at0 (ticketed issued) atC.pkt) (BitVec.toNat (at0 (ticketed issued) atC.pkt).ru.reg.fpkSlot)
      useFingerprint (key 3 2048 0 10 0) ∧
    2 = Packet.byteAt atC.pkt 33 ∧
    (16 = if 2 = 1 then 64 else if 2 = 2 then 16 else 8) ∧
    Runs 0x0301 none atC (at0 (ticketed issued) atC.pkt) (fl atC.pkt) ∧
    atC.memErr = none ∧
    Packet.byteAt atC.pkt 32 = 0 ∧
    slice (Cmd.bytes atC) 0 2 = [1, 2] ∧
    leAt (Cmd.bytes atC) 10 2 = 3 ∧
    nodeOf (List.headD (slice (Cmd.bytes atC) 23 1) 0) = some (at0 (ticketed issued) atC.pkt).skn.nodeId ∧
    State.lateChecks (State.ctxRun 769 none atC (fl atC.pkt) (at0 (ticketed issued) atC.pkt)) (State.begun 769 none atC (fl
      atC.pkt) (at0 (ticketed issued) atC.pkt)) = none ∧
    (at0 (ticketed issued) atC.pkt).ru.rb.needed = false ∧
    State.pool (at0 (ticketed issued) atC.pkt) 3 = some pool ∧
    pool.rebuild = false ∧
    State.room (at0 (ticketed issued) atC.pkt) 1 = true ∧
    (State.ticketAuth (rowPacket 769 none atC.pkt) 2 (List.take (List.length (Cmd.bytes atC) - 16) (Cmd.bytes atC)) (List.drop
      (List.length (Cmd.bytes atC) - 16) (Cmd.bytes atC)) (at0 (ticketed issued) atC.pkt)).2 = Except.ok true ∧
    fp12 = fingerprint (Slot.key256 (key 3 2048 0 10 0)) (ticketIdentity (List.headD (slice (List.take (List.length (Cmd.bytes
      atC) - 16) (Cmd.bytes atC)) 23 1) 0) 3 (BitVec.ofNat 40 (leAt (List.take (List.length (Cmd.bytes atC) - 16) (Cmd.bytes
      atC)) 12 5))) ∧
    (State.regFind fp12 (at0 (ticketed issued) atC.pkt)).2 = some (entry12, Place.stash 0) ∧
    entry12.state = stIssued ∧
    entry12.pool = 3 ∧
    entry12.flags &&& 3 = 2 ∧
    entry12.admits < entry12.limit ∧
    (at0 (ticketed issued) atC.pkt).spn.ran = [] ∧
    (2 = 1 → State.programsRun (at0 (ticketed issued) atC.pkt) atC false) :=
  ⟨(by decide +kernel), serves_of (by rfl) (key_check _ _ _ _ _) (by decide +kernel), (by decide +kernel),
    (by decide +kernel), runs_of (by decide +kernel), (by decide +kernel), (by decide +kernel), (by decide +kernel),
    (by decide +kernel), (by decide +kernel), (by decide +kernel), (by decide +kernel), (by decide +kernel),
    (by decide +kernel), (by decide +kernel), ok_of (by decide +kernel), (by decide +kernel), (by decide +kernel),
    (by decide +kernel), (by decide +kernel), (by decide +kernel), (by decide +kernel), (by decide +kernel),
    fun h => absurd h (by decide +kernel)⟩

theorem test_meets_enrolExternal :
    3 = Cmd.poolA enC ∧
    State.slotServes (at0 led enC.pkt) (BitVec.toNat (at0 led enC.pkt).ru.reg.fpkSlot) useFingerprint (key 3 2048 0 10 0) ∧
    entryC =
      { fp := fpC, pool := 3, serial := 0, state := stExternal, admits := 0, limit := Packet.byteAt enC.pkt 33, node := State.node (at0 led enC.pkt), flags := 0, time := (at0 led enC.pkt).gctl.time } ∧
    Runs 0x0303 none enC (at0 led enC.pkt) (fl enC.pkt) ∧
    enC.memErr = none ∧
    fpC = fingerprint (Slot.key256 (key 3 2048 0 10 0)) (credentialIdentity (Cmd.bytes enC)) ∧
    State.rangeOwner (at0 led enC.pkt) fpC = (at0 led enC.pkt).skn.nodeId ∧
    State.lateChecks (State.ctxRun 771 none enC (fl enC.pkt) (at0 led enC.pkt)) (State.begun 771 none enC (fl enC.pkt) (at0
      led enC.pkt)) = none ∧
    State.pool (at0 led enC.pkt) 3 = some pool ∧
    State.isOpen (at0 led enC.pkt) pool = true ∧
    State.room (at0 led enC.pkt) 1 = true ∧
    (Register.operate (RegOp.insert entryC) (at0 led enC.pkt).ru.reg).2 = RegDone.ok ∧
    Register.find (Register.operate (RegOp.insert entryC) (at0 led enC.pkt).ru.reg).1 fpC = some (entryC, Place.bucket 8135093
      0) :=
  ⟨(by decide +kernel), serves_of (by rfl) (key_check _ _ _ _ _) (by decide +kernel), (by decide +kernel), runs_of
    (by decide +kernel), (by decide +kernel)⟩

theorem test_meets_purgeEntry :
    3 = Cmd.poolA (cm puP []) ∧
    puP = rowPacket 777 (some 0) (cm puP []).pkt ∧
    State.slotServes (at0 spoiled puP) (BitVec.toNat (at0 spoiled puP).ru.reg.fpkSlot) useFingerprint (key 3 2048 0 10 0) ∧
    Runs 0x0309 (some 0) (cm puP []) (at0 spoiled puP) (fl puP) ∧
    (cm puP []).pkt.dataLen = 0 ∧
    nodeOf (namedTicket puP).1 = some (at0 spoiled puP).skn.nodeId ∧
    fp12 = fingerprint (Slot.key256 (key 3 2048 0 10 0)) (namedTicket puP).2 ∧
    State.lateChecks (State.ctxRun 777 (some 0) (cm puP []) (fl puP) (at0 spoiled puP)) (State.begun 777 (some 0) (cm puP [])
      (fl puP) (at0 spoiled puP)) = none ∧
    State.pool (at0 spoiled puP) 3 = some pool ∧
    pool.rebuild = false ∧
    State.room (at0 spoiled puP) 1 = true ∧
    (State.regFind fp12 (at0 spoiled puP)).2 = some ({ entry12 with state := stSpoiled }, Place.stash 0) ∧
    purgeable ({ entry12 with state := stSpoiled }) = true ∧
    ({ entry12 with state := stSpoiled }).pool = 3 :=
  ⟨(by decide +kernel), (by decide +kernel), serves_of (by rfl) (key_check _ _ _ _ _) (by decide +kernel), runs_of
    (by decide +kernel), (by decide +kernel)⟩

theorem test_meets_purgePool :
    3 = Cmd.poolA (cm paP []) ∧
    Runs 0x0309 (some 1) (cm paP []) (at0 retiredPool paP) (fl paP) ∧
    (cm paP []).async = false ∧
    State.pool (at0 retiredPool paP) 3 = some ({ pool with st := 3 }) ∧
    ({ pool with st := 3 }).rebuild = false ∧
    ({ pool with st := 3 }).st = 3 ∧
    State.room (at0 retiredPool paP) 1 = true :=
  ⟨(by decide +kernel), runs_of (by decide +kernel), (by decide +kernel)⟩

theorem test_meets_rebuildBegin :
    (at0 (rebuilding false) rbP).ru.rb.needed = true ∧
    Runs 0x0305 none (cm rbP []) (at0 (rebuilding false) rbP) (fl rbP) ∧
    (at0 (rebuilding false) rbP).ru.jrn.en = true ∧
    (cm rbP []).pkt.dataLen = 0 :=
  ⟨(by decide +kernel), runs_of (by decide +kernel), (by decide +kernel)⟩

theorem test_meets_checkpoint :
    0 = Cmd.poolA (cm ckP []) ∧
    Runs 0x0304 none (cm ckP []) (at0 led ckP) (fl ckP) ∧
    (at0 led ckP).ru.ckpt = none ∧
    State.slotServes (at0 led ckP) 3 useJournal (key 3 4096 0 9 0) ∧
    State.room (at0 led ckP) 1 = true :=
  ⟨(by decide +kernel), runs_of (by decide +kernel), (by decide +kernel),
    serves_of (by rfl) (key_check _ _ _ _ _) (by decide +kernel), (by decide +kernel)⟩

theorem test_meets_rebuildFeed :
    (at0 feeding rfC.pkt).ru.rb.needed = true ∧
    Runs 0x0306 none rfC (at0 feeding rfC.pkt) (fl rfC.pkt) ∧
    (at0 feeding rfC.pkt).ru.rb.begun = true ∧
    rfC.memErr = none ∧
    batchOk (at0 feeding rfC.pkt).ru.rb.expect (recordsOf (Cmd.bytes rfC)) = true ∧
    State.feed (recordsOf (Cmd.bytes rfC)) (State.begun 774 none rfC (fl rfC.pkt) (at0 feeding rfC.pkt)) 0 0 = (fed.1,
      fed.2.1, fed.2.2) :=
  ⟨(by decide +kernel), runs_of (by decide +kernel), (by decide +kernel), (by decide +kernel), (by decide +kernel), fed_eq⟩

theorem test_meets_rebuildEnd :
    (at0 (rebuilding true) reP).ru.rb.needed = true ∧
    Runs 0x0307 none (cm reP []) (at0 (rebuilding true) reP) (fl reP) ∧
    (at0 (rebuilding true) reP).ru.rb.begun = true :=
  ⟨(by decide +kernel), runs_of (by decide +kernel), (by decide +kernel)⟩

theorem test_meets_commitBoundary :
    open1.led.group.change = true :=
  (by decide +kernel)

theorem test_meets_commitUnitTake :
    State.cuReady waits = true ∧
    State.ledgerAsks waits = some (rec1, [After.reply hold]) :=
  by decide +kernel

theorem test_meets_commitBank0Written :
    (writing (CuReq.ledger rec1 [After.reply hold]) false led).kp.cu = some (CuReq.ledger rec1 [After.reply hold], false) :=
  (by decide +kernel)

theorem test_meets_checkpointRootDurable :
    (writing (CuReq.root 1 [1, 2]) true imaging).kp.cu = some (CuReq.root ckpt.id [1, 2], true) ∧
    (writing (CuReq.root 1 [1, 2]) true imaging).ru.ckpt = some ckpt :=
  by decide +kernel

theorem test_meets_genTableWriteDurable :
    (writing (CuReq.gen gw) true led).kp.cu = some (CuReq.gen gw, true) ∧
    gw.what = GenThen.nothing ∧
    gw.after = [] :=
  by decide +kernel

theorem test_meets_commitDurable :
    (writing (CuReq.ledger rec1 [After.reply hold]) true (at0 led nopP)).kp.cu = some (CuReq.ledger rec1 [After.reply hold],
      true) ∧
    (writing (CuReq.ledger rec1 [After.reply hold]) true (at0 led nopP)).ru.ckpt = none ∧
    State.recovering (writing (CuReq.ledger rec1 [After.reply hold]) true (at0 led nopP)) = false ∧
    hold.via = Transport.host ∧
    (List.find? (fun x => x.id == hold.id) (State.queue (writing (CuReq.ledger rec1 [After.reply hold]) true (at0 led nopP))
      hold.q).inflight = some (fl nopP)) ∧
    hold.tag = (fl nopP).pkt.tag :=
  by decide +kernel

theorem test_meets_forcedRecordRoom :
    forcedFreeze.ru.jrn.forced = [Forced.freeze 3 8 []] ∧
    State.forcedRoom forcedFreeze = true ∧
    State.pool forcedFreeze 3 = some pool ∧
    List.takeWhile Forced.follows [] = [] ∧
    forcedFreeze.led.applied = false :=
  by decide +kernel

theorem test_meets_registerReadPair :
    State.slotIs buffered (State.now buffered) 0 = true ∧
    buffered.ru.reg.accepted = [lookX] ∧
    bufReg = { buffered.ru.reg with accepted := [], ops := satAdd buffered.ru.reg.ops 1 } :=
  by decide +kernel

theorem test_meets_lockLapse :
    State.lock locked 3 = some lk ∧
    State.pool locked 3 = some lkPool ∧
    State.isFrozen locked lkPool = false ∧
    State.forcesNow locked ∧
    Tab.sorted locked.led.locks = true ∧
    State.checkerPasses locked 3 { a := ↑lk.units, r := -↑lk.units } :=
  ⟨(by decide +kernel), (by decide +kernel), (by decide +kernel), ⟨(by decide +kernel), (by decide +kernel)⟩,
    (by decide +kernel), passes_of (by decide +kernel)⟩

theorem test_meets_poolTableWriteThrough :
    List.contains (atCyc 80 ({ led with led := { led.led with pendingWt := [3] } })).led.pendingWt 3 = true ∧
    State.slotIs (atCyc 80 ({ led with led := { led.led with pendingWt := [3] } })) (State.now (atCyc 80
      ({ led with led := { led.led with pendingWt := [3] } }))) 2 = true ∧
    State.pool (atCyc 80 ({ led with led := { led.led with pendingWt := [3] } })) 3 = some pool :=
  by decide +kernel

theorem test_meets_registerWriteBack :
    State.slotIs buffered (State.now buffered) 0 = true ∧
    buffered.ru.reg.wbuf = [(4, [entry12])] :=
  by decide +kernel

theorem test_meets_checkpointStagingCopy :
    (atCyc 176 imaging).ru.ckpt = some ckpt ∧
    State.slotIs (atCyc 176 imaging) (State.now (atCyc 176 imaging)) 3 = true ∧
    Ckpt.leavesAt (State.now (atCyc 176 imaging)) ckpt ≤ unitChunk 7 ∧
    unitChunk 7 ≤ 1030 ∧
    unitChunk 7 ≠ 6 ∧
    List.contains ckpt.staged 7 = false ∧
    State.stagingFull (atCyc 176 imaging) = false :=
  by decide +kernel

theorem test_meets_registerReadPairLate :
    State.slotIs (atCyc 32 buffered) (State.now (atCyc 32 buffered)) 0 = false :=
  (by decide +kernel)

theorem test_meets_issueLocked :
    3 = Cmd.poolA (cm (isP 2 50331649 88 2) []) ∧
    run41 2 true =
      { pool := 3, serial := 41, locked := Packet.locked (cm (isP 2 50331649 88 2) []).pkt, header := ticketHeader (at0 readyLocked (isP 2 50331649 88 2)) (Packet.byteAt (cm (isP 2 50331649 88 2) []).pkt 32) 3 41 (Packet.field (cm (isP 2 50331649 88 2) []).pkt 34 2), admitLimit := Packet.byteAt (cm (isP 2 50331649 88 2) []).pkt 33, mode := Packet.byteAt (cm (isP 2 50331649 88 2) []).pkt 32, time := (at0 readyLocked (isP 2 50331649 88 2)).gctl.time } ∧
    Runs 0x0203 none (cm (isP 2 50331649 88 2) []) (at0 readyLocked (isP 2 50331649 88 2)) (fl (isP 2 50331649 88 2)) ∧
    (cm (isP 2 50331649 88 2) []).memErr = none ∧
    State.pool (at0 readyLocked (isP 2 50331649 88 2)) 3 = some lkPool ∧
    State.isOpen (at0 readyLocked (isP 2 50331649 88 2)) lkPool = true ∧
    State.admits (at0 readyLocked (isP 2 50331649 88 2)) ∧
    Packet.byteAt (cm (isP 2 50331649 88 2) []).pkt 32 ≠ 1 ∧
    State.blocksPass (at0 readyLocked (isP 2 50331649 88 2)) (cm (isP 2 50331649 88 2) []) 14 ∧
    State.runOf (at0 readyLocked (isP 2 50331649 88 2)) (hIndex (cm (isP 2 50331649 88 2) []).pkt.handleB) = none ∧
    State.sealCtx (at0 readyLocked (isP 2 50331649 88 2)) (hIndex (cm (isP 2 50331649 88 2) []).pkt.handleB) = some tk ∧
    tk.st ≠ ctBroken ∧
    SealCtx.permits tk (BitVec.toNat (Packet.byteAt (cm (isP 2 50331649 88 2) []).pkt 32)) = true ∧
    State.ticketFp (at0 readyLocked (isP 2 50331649 88 2)) 3 41 fp41 ∧
    (Register.operate (RegOp.insert (issueEntry (at0 readyLocked (isP 2 50331649 88 2)) (run41 2 true) fp41)) (at0 readyLocked
      (isP 2 50331649 88 2)).ru.reg).2 = RegDone.ok ∧
    (at0 readyLocked (isP 2 50331649 88 2)).led.drains = [] ∧
    (40 = 24 + if Packet.byteAt (cm (isP 2 50331649 88 2) []).pkt 32 = 2 then 16 else 8) ∧
    (run41 2 true).header ++ SealCtx.gmac tk 2 (run41 2 true).header [] = (run41 2 true).header ++ SealCtx.gmac tk
      (BitVec.toNat (Packet.byteAt (cm (isP 2 50331649 88 2) []).pkt 32)) (run41 2 true).header (Cmd.bytes (cm (isP 2 50331649
      88 2) [])) ∧
    Packet.locked (cm (isP 2 50331649 88 2) []).pkt = true ∧
    State.lock (at0 readyLocked (isP 2 50331649 88 2)) 3 = some lk ∧
    lk.q = (cm (isP 2 50331649 88 2) []).q ∧
    lk.epoch = (State.queue (at0 readyLocked (isP 2 50331649 88 2)) (cm (isP 2 50331649 88 2) []).q).epoch ∧
    1 ≤ lk.units ∧
    41 = BitVec.ofNat 40 lk.next ∧
    State.checkerPasses (at0 readyLocked (isP 2 50331649 88 2)) 3 { r := -1, i := 1 } :=
  ⟨(by decide +kernel), (by decide +kernel), runs_of (by decide +kernel), (by decide +kernel), (by decide +kernel),
    (by decide +kernel), ⟨(by decide +kernel), (by decide +kernel)⟩, (by decide +kernel),
    (by unfold State.blocksPass; decide +kernel), (by decide +kernel), (by decide +kernel), (by decide +kernel),
    (by decide +kernel), ticketFp_of (serves_of (by rfl) (key_check _ _ _ _ _) (by decide +kernel)) (by rfl),
    (by decide +kernel), (by decide +kernel), (by decide +kernel), (by decide +kernel), (by decide +kernel),
    (by decide +kernel), (by decide +kernel), (by decide +kernel), (by decide +kernel), (by decide +kernel), passes_of
    (by decide +kernel)⟩

theorem test_meets_issueGmac :
    3 = Cmd.poolA (cm (isP 2 50331649 88 0) []) ∧
    run41 2 false =
      { pool := 3, serial := 41, locked := Packet.locked (cm (isP 2 50331649 88 0) []).pkt, header := ticketHeader (at0 ready (isP 2 50331649 88 0)) (Packet.byteAt (cm (isP 2 50331649 88 0) []).pkt 32) 3 41 (Packet.field (cm (isP 2 50331649 88 0) []).pkt 34 2), admitLimit := Packet.byteAt (cm (isP 2 50331649 88 0) []).pkt 33, mode := Packet.byteAt (cm (isP 2 50331649 88 0) []).pkt 32, time := (at0 ready (isP 2 50331649 88 0)).gctl.time } ∧
    Runs 0x0203 none (cm (isP 2 50331649 88 0) []) (at0 ready (isP 2 50331649 88 0)) (fl (isP 2 50331649 88 0)) ∧
    (cm (isP 2 50331649 88 0) []).memErr = none ∧
    State.pool (at0 ready (isP 2 50331649 88 0)) 3 = some pool ∧
    State.isOpen (at0 ready (isP 2 50331649 88 0)) pool = true ∧
    State.admits (at0 ready (isP 2 50331649 88 0)) ∧
    Packet.byteAt (cm (isP 2 50331649 88 0) []).pkt 32 ≠ 1 ∧
    State.blocksPass (at0 ready (isP 2 50331649 88 0)) (cm (isP 2 50331649 88 0) []) 14 ∧
    State.runOf (at0 ready (isP 2 50331649 88 0)) (hIndex (cm (isP 2 50331649 88 0) []).pkt.handleB) = none ∧
    State.sealCtx (at0 ready (isP 2 50331649 88 0)) (hIndex (cm (isP 2 50331649 88 0) []).pkt.handleB) = some tk ∧
    tk.st ≠ ctBroken ∧
    SealCtx.permits tk (BitVec.toNat (Packet.byteAt (cm (isP 2 50331649 88 0) []).pkt 32)) = true ∧
    State.ticketFp (at0 ready (isP 2 50331649 88 0)) 3 41 fp41 ∧
    (Register.operate (RegOp.insert (issueEntry (at0 ready (isP 2 50331649 88 0)) (run41 2 false) fp41)) (at0 ready (isP 2
      50331649 88 0)).ru.reg).2 = RegDone.ok ∧
    (at0 ready (isP 2 50331649 88 0)).led.drains = [] ∧
    (40 = 24 + if Packet.byteAt (cm (isP 2 50331649 88 0) []).pkt 32 = 2 then 16 else 8) ∧
    (run41 2 false).header ++ SealCtx.gmac tk 2 (run41 2 false).header [] = (run41 2 false).header ++ SealCtx.gmac tk
      (BitVec.toNat (Packet.byteAt (cm (isP 2 50331649 88 0) []).pkt 32)) (run41 2 false).header (Cmd.bytes (cm (isP 2
      50331649 88 0) [])) ∧
    Packet.locked (cm (isP 2 50331649 88 0) []).pkt = false ∧
    (pool.exclusive = false ∨ State.lock (at0 ready (isP 2 50331649 88 0)) 3 = none) ∧
    41 = BitVec.ofNat 40 pool.next ∧
    1 ≤ pool.a ∧
    pool.next ≤ pool.limit ∧
    State.checkerPasses (at0 ready (isP 2 50331649 88 0)) 3 { a := -1, r := 1 } ∧
    State.checkerPasses (at0 ready (isP 2 50331649 88 0)) 3 { a := -1, i := 1 } :=
  ⟨(by decide +kernel), (by decide +kernel), runs_of (by decide +kernel), (by decide +kernel), (by decide +kernel),
    (by decide +kernel), ⟨(by decide +kernel), (by decide +kernel)⟩, (by decide +kernel),
    (by unfold State.blocksPass; decide +kernel), (by decide +kernel), (by decide +kernel), (by decide +kernel),
    (by decide +kernel), ticketFp_of (serves_of (by rfl) (key_check _ _ _ _ _) (by decide +kernel)) (by rfl),
    (by decide +kernel), (by decide +kernel), (by decide +kernel), (by decide +kernel), (by decide +kernel),
    (by decide +kernel), (by decide +kernel), (by decide +kernel), (by decide +kernel), passes_of (by decide +kernel),
    passes_of (by decide +kernel)⟩

theorem test_meets_issueSigned :
    3 = Cmd.poolA (async (cm (isP 1 33554452 88 0) [])) ∧
    run41 1 false =
      { pool := 3, serial := 41, locked := Packet.locked (async (cm (isP 1 33554452 88 0) [])).pkt, header := ticketHeader (at0 keyed (isP 1 33554452 88 0)) (Packet.byteAt (async (cm (isP 1 33554452 88 0) [])).pkt 32) 3 41 (Packet.field (async (cm (isP 1 33554452 88 0) [])).pkt 34 2), admitLimit := Packet.byteAt (async (cm (isP 1 33554452 88 0) [])).pkt 33, mode := Packet.byteAt (async (cm (isP 1 33554452 88 0) [])).pkt 32, time := (at0 keyed (isP 1 33554452 88 0)).gctl.time } ∧
    Runs 0x0203 none (async (cm (isP 1 33554452 88 0) [])) (at0 keyed (isP 1 33554452 88 0)) (fl (isP 1 33554452 88 0)) ∧
    (async (cm (isP 1 33554452 88 0) [])).memErr = none ∧
    State.pool (at0 keyed (isP 1 33554452 88 0)) 3 = some pool ∧
    State.isOpen (at0 keyed (isP 1 33554452 88 0)) pool = true ∧
    State.admits (at0 keyed (isP 1 33554452 88 0)) :=
  ⟨(by decide +kernel), (by decide +kernel), runs_of (by decide +kernel), (by decide +kernel), (by decide +kernel),
    (by decide +kernel), ⟨(by decide +kernel), (by decide +kernel)⟩⟩

theorem test_meets_ctxOpenOpen :
    2 = hIndex coC.pkt.handleA ∧
    2 = Packet.byteAt coC.pkt 32 ∧
    Runs 0x0401 none coC (at0 keyed coC.pkt) (fl coC.pkt) ∧
    State.sealCtx (at0 keyed coC.pkt) 2 = none ∧
    Tab.find (at0 keyed coC.pkt).sl.restoring 2 = none ∧
    0 < BitVec.toNat coC.pkt.outLen ∧
    (2 = 1 ∧ 6 = useSeal ∧ Cmd.bytes coC = [] ∨ 2 = 2 ∧ 6 = useOpen ∧ Cmd.bytes coC = Cmd.bytes coC ∧ coC.memErr = none ∧
      (Packet.byteAt coC.pkt 33 = 0 → leAt (Cmd.bytes coC) 2 2 ≤ 16383) ∨ 2 = 3 ∧ 6 = useTicket ∧ Cmd.bytes coC = [] ∧
      State.pinned (at0 keyed coC.pkt) < 256) ∧
    State.slotServes (at0 keyed coC.pkt) (hIndex coC.pkt.handleB) 6 (key 1 224 0 12 0) :=
  ⟨(by decide +kernel), (by decide +kernel), runs_of (by decide +kernel), (by decide +kernel), (by decide +kernel),
    (by decide +kernel), (by decide +kernel), serves_of (by rfl) (key_check _ _ _ _ _) (by decide +kernel)⟩

theorem test_meets_ctxOpenSeal :
    2 = hIndex (cm (coP 1 1) []).pkt.handleA ∧
    1 = Packet.byteAt (cm (coP 1 1) []).pkt 32 ∧
    Runs 0x0401 none (cm (coP 1 1) []) (at0 keyed (coP 1 1)) (fl (coP 1 1)) ∧
    State.sealCtx (at0 keyed (coP 1 1)) 2 = none ∧
    Tab.find (at0 keyed (coP 1 1)).sl.restoring 2 = none ∧
    0 < BitVec.toNat (cm (coP 1 1) []).pkt.outLen ∧
    (1 = 1 ∧ 5 = useSeal ∧ ([] : Bytes) = [] ∨ 1 = 2 ∧ 5 = useOpen ∧ [] = Cmd.bytes (cm (coP 1 1) []) ∧ (cm (coP 1 1)
      []).memErr = none ∧ (Packet.byteAt (cm (coP 1 1) []).pkt 33 = 0 → leAt [] 2 2 ≤ 16383) ∨ 1 = 3 ∧ 5 = useTicket ∧ ([] :
      Bytes) = [] ∧ State.pinned (at0 keyed (coP 1 1)) < 256) ∧
    State.slotServes (at0 keyed (coP 1 1)) (hIndex (cm (coP 1 1) []).pkt.handleB) 5 (key 1 224 0 12 0) :=
  ⟨(by decide +kernel), (by decide +kernel), runs_of (by decide +kernel), (by decide +kernel), (by decide +kernel),
    (by decide +kernel), (by decide +kernel), serves_of (by rfl) (key_check _ _ _ _ _) (by decide +kernel)⟩

theorem test_meets_ctxOpenTicket :
    2 = hIndex (cm (coP 3 3) []).pkt.handleA ∧
    3 = Packet.byteAt (cm (coP 3 3) []).pkt 32 ∧
    Runs 0x0401 none (cm (coP 3 3) []) (at0 keyed (coP 3 3)) (fl (coP 3 3)) ∧
    State.sealCtx (at0 keyed (coP 3 3)) 2 = none ∧
    Tab.find (at0 keyed (coP 3 3)).sl.restoring 2 = none ∧
    0 < BitVec.toNat (cm (coP 3 3) []).pkt.outLen ∧
    (3 = 1 ∧ 7 = useSeal ∧ ([] : Bytes) = [] ∨ 3 = 2 ∧ 7 = useOpen ∧ [] = Cmd.bytes (cm (coP 3 3) []) ∧ (cm (coP 3 3)
      []).memErr = none ∧ (Packet.byteAt (cm (coP 3 3) []).pkt 33 = 0 → leAt [] 2 2 ≤ 16383) ∨ 3 = 3 ∧ 7 = useTicket ∧ ([] :
      Bytes) = [] ∧ State.pinned (at0 keyed (coP 3 3)) < 256) ∧
    State.slotServes (at0 keyed (coP 3 3)) (hIndex (cm (coP 3 3) []).pkt.handleB) 7 (key 1 224 0 12 0) :=
  ⟨(by decide +kernel), (by decide +kernel), runs_of (by decide +kernel), (by decide +kernel), (by decide +kernel),
    (by decide +kernel), (by decide +kernel), serves_of (by rfl) (key_check _ _ _ _ _) (by decide +kernel)⟩

theorem test_meets_ctxSaveClear :
    1 = hIndex (cm (csP 1) []).pkt.handleA ∧
    State.runOf (at0 (ctxd openK) (csP 1)) 1 = none ∧
    Runs 0x0405 none (cm (csP 1) []) (at0 (ctxd openK) (csP 1)) (fl (csP 1)) ∧
    State.sealCtx (at0 (ctxd openK) (csP 1)) 1 = some openK ∧
    Packet.byteAt (cm (csP 1) []).pkt 32 = 1 ∧
    openK.usage ≠ usTicket ∧
    0 < BitVec.toNat (cm (csP 1) []).pkt.outLen :=
  ⟨(by decide +kernel), (by decide +kernel), runs_of (by decide +kernel), (by decide +kernel)⟩

theorem test_meets_ctxClose :
    1 = hIndex (cm (xP 1031 [] 0) []).pkt.handleA ∧
    Runs 0x0407 none (cm (xP 1031 [] 0) []) (at0 (ctxd sealK) (xP 1031 [] 0)) (fl (xP 1031 [] 0)) ∧
    State.sealCtx (at0 (ctxd sealK) (xP 1031 [] 0)) 1 = some sealK ∧
    State.runOf (at0 (ctxd sealK) (xP 1031 [] 0)) 1 = none ∧
    Tab.sorted (at0 (ctxd sealK) (xP 1031 [] 0)).sl.ctxs = true :=
  ⟨(by decide +kernel), runs_of (by decide +kernel), (by decide +kernel)⟩

theorem test_meets_ctxSaveWrapped :
    1 = hIndex (cm (csP 2) []).pkt.handleA ∧
    State.runOf svS 1 = none ∧
    Runs 0x0405 none (cm (csP 2) []) svS (fl (csP 2)) ∧
    State.sealCtx svS 1 = some sealK ∧
    Packet.byteAt (cm (csP 2) []).pkt 32 ≠ 1 ∧
    sealK.st ≠ ctBroken ∧
    State.saveKey svS sealK.dom = some wk0 ∧
    0 < BitVec.toNat (cm (csP 2) []).pkt.outLen ∧
    Tab.sorted svS.sl.ctxs = true ∧
    (1 = if sealK.usage = usSeal then State.saves svS sealK.dom + 1 else 0) ∧
    svIv = BitVec.setWidth 96 (State.draw svS) ∧
    svHead = saveHead svS 2 208 1 sealK 1 ++ beBytes 12 (BitVec.toNat svIv) ++ zeros 4 ∧
    svCt = gcmStream wk0 svIv (blockBytes sealK.key ++ SealCtx.tailBytes sealK) :=
  ⟨(by decide +kernel), (by decide +kernel), runs_of (by decide +kernel), (by decide +kernel), (by decide +kernel),
    (by decide +kernel), (by decide +kernel), (by decide +kernel), (by decide +kernel), (by decide +kernel), (by rfl),
    (by rfl), (by rfl)⟩

theorem test_meets_ctxRestoreClear :
    1 = hIndex crC.pkt.handleA ∧
    State.runOf (at0 (ctxd openK) crC.pkt) 1 = none ∧
    Runs 0x0406 none crC (at0 (ctxd openK) crC.pkt) (fl crC.pkt) ∧
    crC.memErr = none ∧
    leAt (Cmd.bytes crC) 0 1 = 1 ∧
    State.sealCtx (at0 (ctxd openK) crC.pkt) 1 = some openK ∧
    List.length (Cmd.bytes crC) = 96 ∧
    leAt (Cmd.bytes crC) 1 1 = 1 ∧
    leAt (Cmd.bytes crC) 2 2 = 96 ∧
    leAt (Cmd.bytes crC) 4 8 = BitVec.toNat (at0 (ctxd openK) crC.pkt).life.serial ∧
    leAt (Cmd.bytes crC) 12 4 = 1 ∧
    leAt (Cmd.bytes crC) 17 1 = BitVec.toNat openK.usage ∧
    openK.usage ≠ usTicket ∧
    openK.st = ctIdle ∧
    leAt (Cmd.bytes crC) 74 1 = 1 ∧
    0 = BitVec.ofNat 64 (leAt (Cmd.bytes crC) 36 8) ∧
    BitVec.toNat openK.inv ≤ 0 :=
  ⟨(by decide +kernel), (by decide +kernel), runs_of (by decide +kernel), (by decide +kernel)⟩

theorem test_meets_ctxRestoreOpen :
    1 = hIndex (cwC openK).pkt.handleA ∧
    State.runOf (at0 keyed (cwC openK).pkt) 1 = none ∧
    Runs 0x0406 none (cwC openK) (at0 keyed (cwC openK).pkt) (fl (cwC openK).pkt) ∧
    (cwC openK).memErr = none ∧
    leAt (Cmd.bytes (cwC openK)) 0 1 = 2 ∧
    State.sealCtx (at0 keyed (cwC openK).pkt) 1 = none ∧
    Tab.find (at0 keyed (cwC openK).pkt).sl.restoring 1 = none ∧
    leAt (Cmd.bytes (cwC openK)) 1 1 = 1 ∧
    leAt (Cmd.bytes (cwC openK)) 2 2 = 208 ∧
    List.length (Cmd.bytes (cwC openK)) = 208 ∧
    0 = List.headD (slice (Cmd.bytes (cwC openK)) 16 1) 0 ∧
    0 = (State.queue (at0 keyed (cwC openK).pkt) (cwC openK).q).dom ∧
    State.saveKey (at0 keyed (cwC openK).pkt) 0 = some (wrapKey (digestBytes (5 ^^^ 6)) 0 0) ∧
    0 = BitVec.ofNat 96 (beNat (slice (Cmd.bytes (cwC openK)) 32 12)) ∧
    gcmTag (wrapKey (digestBytes (5 ^^^ 6)) 0 0) 0 (slice (Cmd.bytes (cwC openK)) 0 48) (slice (Cmd.bytes (cwC openK)) 48 144)
      = slice (Cmd.bytes (cwC openK)) 192 16 ∧
    openK = ctxOf (blockOf (slice (gcmStream (wrapKey (digestBytes (5 ^^^ 6)) 0 0) 0 (slice (Cmd.bytes (cwC openK)) 48 144)) 0
      16)) (slice (gcmStream (wrapKey (digestBytes (5 ^^^ 6)) 0 0) 0 (slice (Cmd.bytes (cwC openK)) 48 144)) 16 128) ∧
    openK.usage = List.headD (slice (Cmd.bytes (cwC openK)) 17 1) 0 ∧
    openK.usage ≠ usSeal ∧
    (openK.usage = usTicket → State.pinned (at0 keyed (cwC openK).pkt) < 256) :=
  ⟨(by decide +kernel), (by decide +kernel), runs_of (by decide +kernel), (by decide +kernel)⟩

theorem test_meets_ctxRestoreSeal :
    1 = hIndex (cwC sealK).pkt.handleA ∧
    State.runOf (at0 keyed (cwC sealK).pkt) 1 = none ∧
    Runs 0x0406 none (cwC sealK) (at0 keyed (cwC sealK).pkt) (fl (cwC sealK).pkt) ∧
    (cwC sealK).memErr = none ∧
    leAt (Cmd.bytes (cwC sealK)) 0 1 = 2 ∧
    State.sealCtx (at0 keyed (cwC sealK).pkt) 1 = none ∧
    Tab.find (at0 keyed (cwC sealK).pkt).sl.restoring 1 = none ∧
    leAt (Cmd.bytes (cwC sealK)) 1 1 = 1 ∧
    leAt (Cmd.bytes (cwC sealK)) 2 2 = 208 ∧
    List.length (Cmd.bytes (cwC sealK)) = 208 ∧
    0 = List.headD (slice (Cmd.bytes (cwC sealK)) 16 1) 0 ∧
    0 = (State.queue (at0 keyed (cwC sealK).pkt) (cwC sealK).q).dom ∧
    State.saveKey (at0 keyed (cwC sealK).pkt) 0 = some (wrapKey (digestBytes (5 ^^^ 6)) 0 0) ∧
    0 = BitVec.ofNat 96 (beNat (slice (Cmd.bytes (cwC sealK)) 32 12)) ∧
    gcmTag (wrapKey (digestBytes (5 ^^^ 6)) 0 0) 0 (slice (Cmd.bytes (cwC sealK)) 0 48) (slice (Cmd.bytes (cwC sealK)) 48 144)
      = slice (Cmd.bytes (cwC sealK)) 192 16 ∧
    sealK = ctxOf (blockOf (slice (gcmStream (wrapKey (digestBytes (5 ^^^ 6)) 0 0) 0 (slice (Cmd.bytes (cwC sealK)) 48 144)) 0
      16)) (slice (gcmStream (wrapKey (digestBytes (5 ^^^ 6)) 0 0) 0 (slice (Cmd.bytes (cwC sealK)) 48 144)) 16 128) ∧
    sealK.usage = List.headD (slice (Cmd.bytes (cwC sealK)) 17 1) 0 ∧
    sealK.usage = usSeal ∧
    leAt (Cmd.bytes (cwC sealK)) 4 8 = BitVec.toNat (at0 keyed (cwC sealK).pkt).life.serial ∧
    max (BitVec.toNat (State.gen (at0 keyed (cwC sealK).pkt) 0).floor) (BitVec.toNat (State.genLast (at0 keyed (cwC
      sealK).pkt) 0).floor) < BitVec.toNat (BitVec.ofNat 64 (leAt (Cmd.bytes (cwC sealK)) 20 8)) :=
  ⟨(by decide +kernel), (by decide +kernel), runs_of (by decide +kernel), (by decide +kernel)⟩

theorem test_meets_sealFinal :
    1 = hIndex sfC.pkt.handleA ∧
    State.sealCtx (at0 (ctxd sealK) sfC.pkt) 1 = some sealK ∧
    State.runOf (at0 (ctxd sealK) sfC.pkt) 1 = none ∧
    sfC.memErr = none ∧
    (true = false ∧ 1027 = 1026 ∧ Instr.sealFinal sfC = Instr.sealData sfC ∨ true = true ∧ 1027 = 1027 ∧ Instr.sealFinal sfC =
      Instr.sealFinal sfC) ∧
    Runs 0x0403 none sfC (at0 (ctxd sealK) sfC.pkt) (fl sfC.pkt) ∧
    sealRefusal sealK (rowPacket 1027 none sfC.pkt) true = none ∧
    sealStart (at0 (ctxd sealK) sfC.pkt) sealK (rowPacket 1027 none sfC.pkt) (Cmd.bytes sfC) = ((sealStart (at0 (ctxd sealK)
      sfC.pkt) sealK sfC.pkt (Cmd.bytes sfC)).1, [], []) ∧
    [1, 2, 3, 4, 5] = List.drop (sealArgs sealK (rowPacket 1027 none sfC.pkt)).aad (Cmd.bytes sfC) ∧
    State.blocksPass (at0 (ctxd sealK) sfC.pkt) sfC 14 ∧
    ((SealCtx.seals [1, 2, 3, 4, 5] (SealCtx.absorb [] (sealStart (at0 (ctxd sealK) sfC.pkt) sealK sfC.pkt (Cmd.bytes
      sfC)).1)).2 ++ SealCtx.tag (SealCtx.seals [1, 2, 3, 4, 5] (SealCtx.absorb [] (sealStart (at0 (ctxd sealK) sfC.pkt) sealK
      sfC.pkt (Cmd.bytes sfC)).1)).1 = [] ++ (SealCtx.seals [1, 2, 3, 4, 5] (SealCtx.absorb [] (sealStart (at0 (ctxd sealK)
      sfC.pkt) sealK sfC.pkt (Cmd.bytes sfC)).1)).2 ++ if true = true then SealCtx.tag (SealCtx.seals [1, 2, 3, 4, 5]
      (SealCtx.absorb [] (sealStart (at0 (ctxd sealK) sfC.pkt) sealK sfC.pkt (Cmd.bytes sfC)).1)).1 else []) :=
  ⟨(by decide +kernel), (by decide +kernel), (by decide +kernel), (by decide +kernel), (by decide +kernel), runs_of
    (by decide +kernel), (by decide +kernel), (by decide +kernel), (by decide +kernel),
    (by unfold State.blocksPass; decide +kernel), (by decide +kernel)⟩

theorem test_meets_sealData :
    1 = hIndex sdC.pkt.handleA ∧
    State.sealCtx (at0 (ctxd sealK) sdC.pkt) 1 = some sealK ∧
    State.runOf (at0 (ctxd sealK) sdC.pkt) 1 = none ∧
    sdC.memErr = none ∧
    (false = false ∧ 1026 = 1026 ∧ Instr.sealData sdC = Instr.sealData sdC ∨ false = true ∧ 1026 = 1027 ∧ Instr.sealData sdC =
      Instr.sealFinal sdC) ∧
    Runs 0x0402 none sdC (at0 (ctxd sealK) sdC.pkt) (fl sdC.pkt) ∧
    sealRefusal sealK (rowPacket 1026 none sdC.pkt) false = none ∧
    sealStart (at0 (ctxd sealK) sdC.pkt) sealK (rowPacket 1026 none sdC.pkt) (Cmd.bytes sdC) = ((sealStart (at0 (ctxd sealK)
      sdC.pkt) sealK sdC.pkt (Cmd.bytes sdC)).1, [], []) ∧
    zeros 16 = List.drop (sealArgs sealK (rowPacket 1026 none sdC.pkt)).aad (Cmd.bytes sdC) ∧
    State.blocksPass (at0 (ctxd sealK) sdC.pkt) sdC 14 ∧
    ((SealCtx.seals (zeros 16) (SealCtx.absorb [] (sealStart (at0 (ctxd sealK) sdC.pkt) sealK sdC.pkt (Cmd.bytes sdC)).1)).2 =
      [] ++ (SealCtx.seals (zeros 16) (SealCtx.absorb [] (sealStart (at0 (ctxd sealK) sdC.pkt) sealK sdC.pkt (Cmd.bytes
      sdC)).1)).2 ++ if false = true then SealCtx.tag (SealCtx.seals (zeros 16) (SealCtx.absorb [] (sealStart (at0 (ctxd
      sealK) sdC.pkt) sealK sdC.pkt (Cmd.bytes sdC)).1)).1 else []) :=
  ⟨(by decide +kernel), (by decide +kernel), (by decide +kernel), (by decide +kernel), (by decide +kernel), runs_of
    (by decide +kernel), (by decide +kernel), (by decide +kernel), (by decide +kernel),
    (by unfold State.blocksPass; decide +kernel), (by decide +kernel)⟩

theorem test_meets_sealAsync :
    1 = hIndex (async sfC).pkt.handleA ∧
    State.sealCtx (at0 (ctxd sealK) sfC.pkt) 1 = some sealK ∧
    State.runOf (at0 (ctxd sealK) sfC.pkt) 1 = none ∧
    (async sfC).memErr = none ∧
    (true = false ∧ 1027 = 1026 ∧ Instr.sealFinal (async sfC) = Instr.sealData (async sfC) ∨ true = true ∧ 1027 = 1027 ∧
      Instr.sealFinal (async sfC) = Instr.sealFinal (async sfC)) ∧
    rowPacket 1027 none sfC.pkt = rowPacket 1027 none (async sfC).pkt ∧
    Runs 0x0403 none (async sfC) (at0 (ctxd sealK) sfC.pkt) (fl sfC.pkt) ∧
    sealRefusal sealK (rowPacket 1027 none sfC.pkt) true = none ∧
    sealStart (at0 (ctxd sealK) sfC.pkt) sealK (rowPacket 1027 none sfC.pkt) (Cmd.bytes (async sfC)) = ((sealStart (at0 (ctxd
      sealK) sfC.pkt) sealK sfC.pkt (Cmd.bytes sfC)).1, [], []) ∧
    [1, 2, 3, 4, 5] = List.drop (sealArgs sealK (rowPacket 1027 none sfC.pkt)).aad (Cmd.bytes (async sfC)) ∧
    (async sfC).async = true ∧
    (true = true ∨ (sealArgs sealK (rowPacket 1027 none sfC.pkt)).start = true ∨ [1, 2, 3, 4, 5] ≠ []) :=
  ⟨(by decide +kernel), (by decide +kernel), (by decide +kernel), (by decide +kernel), (by decide +kernel),
    (by decide +kernel), runs_of (by decide +kernel), (by decide +kernel)⟩

theorem test_meets_openGood :
    1 = hIndex (ovC true).pkt.handleA ∧
    State.sealCtx (at0 (ctxd openK) (ovC true).pkt) 1 = some openK ∧
    State.runOf (at0 (ctxd openK) (ovC true).pkt) 1 = none ∧
    (ovC true).memErr = none ∧
    Runs 0x0404 none (ovC true) (at0 (ctxd openK) (ovC true).pkt) (fl (ovC true).pkt) ∧
    openRefusal openK (rowPacket 1028 none (ovC true).pkt) (Cmd.bytes (ovC true)) = none ∧
    openArgs openK (ovC true).pkt (Cmd.bytes (ovC true)) = openArgs openK (rowPacket 1028 none (ovC true).pkt) (Cmd.bytes (ovC
      true)) ∧
    State.blocksPass (at0 (ctxd openK) (ovC true).pkt) (ovC true) 14 ∧
    Option.isSome (State.freeHold (at0 (ctxd openK) (ovC true).pkt)) = true ∧
    gcmTag openK.key (SealCtx.iv openK (openArgs openK (ovC true).pkt (Cmd.bytes (ovC true))).inv) (openArgs openK (ovC
      true).pkt (Cmd.bytes (ovC true))).aad (openArgs openK (ovC true).pkt (Cmd.bytes (ovC true))).ct = (openArgs openK (ovC
      true).pkt (Cmd.bytes (ovC true))).tag :=
  ⟨(by decide +kernel), (by decide +kernel), (by decide +kernel), (by decide +kernel), runs_of (by decide +kernel),
    (by decide +kernel), (by decide +kernel), (by unfold State.blocksPass; decide +kernel), (by decide +kernel)⟩

theorem test_meets_openBad :
    1 = hIndex (ovC false).pkt.handleA ∧
    State.sealCtx (at0 (ctxd openK) (ovC false).pkt) 1 = some openK ∧
    State.runOf (at0 (ctxd openK) (ovC false).pkt) 1 = none ∧
    (ovC false).memErr = none ∧
    Runs 0x0404 none (ovC false) (at0 (ctxd openK) (ovC false).pkt) (fl (ovC false).pkt) ∧
    openRefusal openK (rowPacket 1028 none (ovC false).pkt) (Cmd.bytes (ovC false)) = none ∧
    openArgs openK (ovC false).pkt (Cmd.bytes (ovC false)) = openArgs openK (rowPacket 1028 none (ovC false).pkt) (Cmd.bytes
      (ovC false)) ∧
    State.blocksPass (at0 (ctxd openK) (ovC false).pkt) (ovC false) 14 ∧
    Option.isSome (State.freeHold (at0 (ctxd openK) (ovC false).pkt)) = true ∧
    gcmTag openK.key (SealCtx.iv openK (openArgs openK (ovC false).pkt (Cmd.bytes (ovC false))).inv) (openArgs openK (ovC
      false).pkt (Cmd.bytes (ovC false))).aad (openArgs openK (ovC false).pkt (Cmd.bytes (ovC false))).ct ≠ (openArgs openK
      (ovC false).pkt (Cmd.bytes (ovC false))).tag :=
  ⟨(by decide +kernel), (by decide +kernel), (by decide +kernel), (by decide +kernel), runs_of (by decide +kernel),
    (by decide +kernel), (by decide +kernel), (by unfold State.blocksPass; decide +kernel), (by decide +kernel)⟩

theorem test_meets_openAsync :
    1 = hIndex (async (ovC true)).pkt.handleA ∧
    State.sealCtx (at0 (ctxd openK) (ovC true).pkt) 1 = some openK ∧
    State.runOf (at0 (ctxd openK) (ovC true).pkt) 1 = none ∧
    (async (ovC true)).memErr = none ∧
    rowPacket 1028 none (ovC true).pkt = rowPacket 1028 none (async (ovC true)).pkt ∧
    Runs 0x0404 none (async (ovC true)) (at0 (ctxd openK) (ovC true).pkt) (fl (ovC true).pkt) ∧
    openRefusal openK (rowPacket 1028 none (ovC true).pkt) (Cmd.bytes (async (ovC true))) = none ∧
    openArgs openK (ovC true).pkt (Cmd.bytes (ovC true)) = openArgs openK (rowPacket 1028 none (ovC true).pkt) (Cmd.bytes
      (async (ovC true))) ∧
    (async (ovC true)).async = true ∧
    State.freeHold (at0 (ctxd openK) (ovC true).pkt) = some 0 :=
  ⟨(by decide +kernel), (by decide +kernel), (by decide +kernel), (by decide +kernel), (by decide +kernel), runs_of
    (by decide +kernel), (by decide +kernel)⟩

theorem test_meets_sealBlockAdmit :
    State.sealTurn (piped SealKind.final [1] [2] [] []) (run1 SealKind.final [1] [2]) ∧
    (run1 SealKind.final [1] [2]).ctx = 1 ∧
    SealRun.nextBlock (run1 SealKind.final [1] [2]) = some (run1 SealKind.final [] [2], true, [1]) :=
  ⟨(by unfold State.sealTurn; decide +kernel), (by decide +kernel)⟩

theorem test_meets_sealBlockOutAad :
    State.runOf (piped SealKind.final [] [2] [(1, true, [1])] []) 1 = some (run1 SealKind.final [] [2]) ∧
    State.sealCtx (piped SealKind.final [] [2] [(1, true, [1])] []) 1 = some sealK ∧
    (run1 SealKind.final [] [2]).kind = SealKind.final ∧
    (piped SealKind.final [] [2] [(1, true, [1])] []).sl.pipe = [(1, true, [1])] :=
  by decide +kernel

theorem test_meets_sealBlockOutData :
    State.runOf (piped SealKind.final [] [] [(1, false, [2])] []) 1 = some (run1 SealKind.final [] []) ∧
    State.sealCtx (piped SealKind.final [] [] [(1, false, [2])] []) 1 = some sealK ∧
    (run1 SealKind.final [] []).kind = SealKind.final ∧
    (piped SealKind.final [] [] [(1, false, [2])] []).sl.pipe = [(1, false, [2])] :=
  by decide +kernel

theorem test_meets_sealTagFormed :
    State.runOf (piped SealKind.final [] [] [] []) 1 = some (run1 SealKind.final [] []) ∧
    State.sealCtx (piped SealKind.final [] [] [] []) 1 = some sealK ∧
    State.drained (piped SealKind.final [] [] [] []) (run1 SealKind.final [] []) = true ∧
    (run1 SealKind.final [] []).kind = SealKind.final ∧
    (run1 SealKind.final [] []).h.via = Transport.host ∧
    (List.find? (fun x => x.id == (run1 SealKind.final [] []).h.id) (State.queue (piped SealKind.final [] [] [] []) (run1
      SealKind.final [] []).h.q).inflight = some (fl nopP)) ∧
    (run1 SealKind.final [] []).h.tag = (fl nopP).pkt.tag :=
  by decide +kernel

theorem test_meets_contextCacheFill :
    List.contains (atCyc 46 (piped SealKind.final [1] [2] [] [1])).sl.fills 1 = true ∧
    State.slotIs (atCyc 46 (piped SealKind.final [1] [2] [] [1])) (State.now (atCyc 46 (piped SealKind.final [1] [2] [] [1]))
      - 14) 1 = true ∧
    List.length (atCyc 46 (piped SealKind.final [1] [2] [] [1])).sl.cache < 4096 :=
  by decide +kernel

theorem test_meets_sealBlockOutLast :
    State.runOf (piped SealKind.data [] [] [(1, false, [2])] []) 1 = some (run1 SealKind.data [] []) ∧
    State.sealCtx (piped SealKind.data [] [] [(1, false, [2])] []) 1 = some sealK ∧
    (run1 SealKind.data [] []).kind = SealKind.data ∧
    (piped SealKind.data [] [] [(1, false, [2])] []).sl.pipe = [(1, false, [2])] ∧
    (run1 SealKind.data [] []).j0 = false ∧
    (run1 SealKind.data [] []).aad = [] ∧
    (run1 SealKind.data [] []).data = [] ∧
    (run1 SealKind.data [] []).h.via = Transport.host ∧
    (List.find? (fun x => x.id == (run1 SealKind.data [] []).h.id) (State.queue (piped SealKind.data [] [] [(1, false, [2])]
      []) (run1 SealKind.data [] []).h.q).inflight = some (fl nopP)) ∧
    (run1 SealKind.data [] []).h.tag = (fl nopP).pkt.tag :=
  by decide +kernel

theorem test_meets_contextCacheEvict :
    List.contains (atCyc 46 (cacheFull (piped SealKind.final [1] [2] [] [1]))).sl.fills 1 = true ∧
    State.slotIs (atCyc 46 (cacheFull (piped SealKind.final [1] [2] [] [1]))) (State.now (atCyc 46 (cacheFull (piped
      SealKind.final [1] [2] [] [1]))) - 14) 1 = true ∧
    4096 ≤ List.length (atCyc 46 (cacheFull (piped SealKind.final [1] [2] [] [1]))).sl.cache ∧
    State.victim (atCyc 46 (cacheFull (piped SealKind.final [1] [2] [] [1]))) = some 7 :=
  by decide +kernel

theorem test_meets_hashInit :
    2 = hIndex (cm (dP 1537 0 [] 0) []).pkt.handleA ∧
    State.digRun (at0 keyed (dP 1537 0 [] 0)) 2 = none ∧
    Runs 0x0601 none (cm (dP 1537 0 [] 0) []) (at0 keyed (dP 1537 0 [] 0)) (fl (dP 1537 0 [] 0)) ∧
    (cm (dP 1537 0 [] 0) []).pkt.handleB = 0 :=
  ⟨(by decide +kernel), (by decide +kernel), runs_of (by decide +kernel), (by decide +kernel)⟩

theorem test_meets_hashInitKeyed :
    2 = hIndex (cm (dP 1537 33554451 [(32, 54)] 0) []).pkt.handleA ∧
    State.digRun (at0 keyed (dP 1537 33554451 [(32, 54)] 0)) 2 = none ∧
    Runs 0x0601 none (cm (dP 1537 33554451 [(32, 54)] 0) []) (at0 keyed (dP 1537 33554451 [(32, 54)] 0)) (fl (dP 1537 33554451
      [(32, 54)] 0)) ∧
    (cm (dP 1537 33554451 [(32, 54)] 0) []).pkt.handleB ≠ 0 ∧
    State.blocksPass (at0 keyed (dP 1537 33554451 [(32, 54)] 0)) (cm (dP 1537 33554451 [(32, 54)] 0) []) 17 ∧
    State.slotServes (at0 keyed (dP 1537 33554451 [(32, 54)] 0)) (hIndex (cm (dP 1537 33554451 [(32, 54)] 0) []).pkt.handleB)
      usePrefix (key 2 256 0 13 0) :=
  ⟨(by decide +kernel), (by decide +kernel), runs_of (by decide +kernel), (by decide +kernel),
    (by unfold State.blocksPass; decide +kernel), serves_of (by rfl) (key_check _ _ _ _ _) (by decide +kernel)⟩

theorem test_meets_hashClose :
    2 = hIndex (cm (dP 1542 0 [] 0) []).pkt.handleA ∧
    State.digRun (at0 digged (dP 1542 0 [] 0)) 2 = none ∧
    Runs 0x0606 none (cm (dP 1542 0 [] 0) []) (at0 digged (dP 1542 0 [] 0)) (fl (dP 1542 0 [] 0)) ∧
    (State.dig' (at0 digged (dP 1542 0 [] 0)) 2).st ≠ 0 :=
  ⟨(by decide +kernel), (by decide +kernel), runs_of (by decide +kernel), (by decide +kernel)⟩

theorem test_meets_hashData :
    2 = hIndex (cmd (dP 1538 0 [] 0) (zeros 64)).pkt.handleA ∧
    State.digRun (at0 digged (cmd (dP 1538 0 [] 0) (zeros 64)).pkt) 2 = none ∧
    (cmd (dP 1538 0 [] 0) (zeros 64)).memErr = none ∧
    (State.dig' (at0 digged (cmd (dP 1538 0 [] 0) (zeros 64)).pkt) 2).st ≠ 0 ∧
    Runs 0x0602 none (cmd (dP 1538 0 [] 0) (zeros 64)) (at0 digged (cmd (dP 1538 0 [] 0) (zeros 64)).pkt) (fl (cmd (dP 1538 0
      [] 0) (zeros 64)).pkt) ∧
    State.blocksPass (at0 digged (cmd (dP 1538 0 [] 0) (zeros 64)).pkt) (cmd (dP 1538 0 [] 0) (zeros 64)) 17 ∧
    DigCtx.absorb (zeros 64) idle2 = DigCtx.absorb (Cmd.bytes (cmd (dP 1538 0 [] 0) (zeros 64)))
      ({ State.dig' (at0 digged (cmd (dP 1538 0 [] 0) (zeros 64)).pkt) 2 with finished := false }) :=
  ⟨(by decide +kernel), (by decide +kernel), (by decide +kernel), (by decide +kernel), runs_of (by decide +kernel),
    (by unfold State.blocksPass; decide +kernel), (by decide +kernel)⟩

theorem test_meets_hashDataAsync :
    2 = hIndex (async (cmd (dP 1538 0 [] 0) (zeros 64))).pkt.handleA ∧
    State.digRun (at0 digged (cmd (dP 1538 0 [] 0) (zeros 64)).pkt) 2 = none ∧
    (async (cmd (dP 1538 0 [] 0) (zeros 64))).memErr = none ∧
    (State.dig' (at0 digged (cmd (dP 1538 0 [] 0) (zeros 64)).pkt) 2).st ≠ 0 ∧
    Runs 0x0602 none (async (cmd (dP 1538 0 [] 0) (zeros 64))) (at0 digged (cmd (dP 1538 0 [] 0) (zeros 64)).pkt) (fl (cmd (dP
      1538 0 [] 0) (zeros 64)).pkt) ∧
    (async (cmd (dP 1538 0 [] 0) (zeros 64))).async = true ∧
    64 ≤ List.length (Cmd.bytes (async (cmd (dP 1538 0 [] 0) (zeros 64)))) :=
  ⟨(by decide +kernel), (by decide +kernel), (by decide +kernel), (by decide +kernel), runs_of (by decide +kernel),
    (by decide +kernel)⟩

theorem test_meets_hashFinal :
    2 = hIndex (cm (dP 1539 0 [] 32) []).pkt.handleA ∧
    State.digRun (at0 digged (dP 1539 0 [] 32)) 2 = none ∧
    (cm (dP 1539 0 [] 32) []).memErr = none ∧
    (State.dig' (at0 digged (dP 1539 0 [] 32)) 2).st ≠ 0 ∧
    State.blocksPass (at0 digged (dP 1539 0 [] 32)) (cm (dP 1539 0 [] 32) []) 17 ∧
    Runs 0x0603 none (cm (dP 1539 0 [] 32) []) (at0 digged (dP 1539 0 [] 32)) (fl (dP 1539 0 [] 32)) ∧
    (State.dig' (at0 digged (dP 1539 0 [] 32)) 2).keyed = false ∧
    idle2 = DigCtx.absorb (Cmd.bytes (cm (dP 1539 0 [] 32) [])) (State.dig' (at0 digged (dP 1539 0 [] 32)) 2) ∧
    0 < BitVec.toNat (cm (dP 1539 0 [] 32) []).pkt.outLen :=
  ⟨(by decide +kernel), (by decide +kernel), (by decide +kernel), (by decide +kernel),
    (by unfold State.blocksPass; decide +kernel), runs_of (by decide +kernel), (by decide +kernel)⟩

theorem test_meets_hashCompare :
    2 = hIndex (cmd (dP 1540 0 [(32, 32)] 0) (zeros 32)).pkt.handleA ∧
    State.digRun (at0 digged (cmd (dP 1540 0 [(32, 32)] 0) (zeros 32)).pkt) 2 = none ∧
    (cmd (dP 1540 0 [(32, 32)] 0) (zeros 32)).memErr = none ∧
    (State.dig' (at0 digged (cmd (dP 1540 0 [(32, 32)] 0) (zeros 32)).pkt) 2).st ≠ 0 ∧
    State.blocksPass (at0 digged (cmd (dP 1540 0 [(32, 32)] 0) (zeros 32)).pkt) (cmd (dP 1540 0 [(32, 32)] 0) (zeros 32)) 17 ∧
    Runs 0x0604 none (cmd (dP 1540 0 [(32, 32)] 0) (zeros 32)) (at0 digged (cmd (dP 1540 0 [(32, 32)] 0) (zeros 32)).pkt) (fl
      (cmd (dP 1540 0 [(32, 32)] 0) (zeros 32)).pkt) ∧
    32 = BitVec.toNat (Packet.byteAt (cmd (dP 1540 0 [(32, 32)] 0) (zeros 32)).pkt 32) ∧
    idle2 = DigCtx.absorb (List.take (List.length (Cmd.bytes (cmd (dP 1540 0 [(32, 32)] 0) (zeros 32))) - 32) (Cmd.bytes (cmd
      (dP 1540 0 [(32, 32)] 0) (zeros 32)))) (State.dig' (at0 digged (cmd (dP 1540 0 [(32, 32)] 0) (zeros 32)).pkt) 2) :=
  ⟨(by decide +kernel), (by decide +kernel), (by decide +kernel), (by decide +kernel),
    (by unfold State.blocksPass; decide +kernel), runs_of (by decide +kernel), (by decide +kernel)⟩

theorem test_meets_digestBlockDone :
    State.digTurn (digging (zeros 128)) (dr 128) ∧
    (dr 128).ctx = 2 ∧
    State.digRun (digging (zeros 128)) 2 = some (dr 128) ∧
    64 < List.length (dr 128).data :=
  ⟨(by unfold State.digTurn; decide +kernel), (by decide +kernel)⟩

theorem test_meets_hashToKey :
    2 = hIndex (cmd (dP 1541 0 [(32, 16), (34, 224)] 0) (zeros 64)).pkt.handleA ∧
    State.digRun (at0 digged (cmd (dP 1541 0 [(32, 16), (34, 224)] 0) (zeros 64)).pkt) 2 = none ∧
    (cmd (dP 1541 0 [(32, 16), (34, 224)] 0) (zeros 64)).memErr = none ∧
    (State.dig' (at0 digged (cmd (dP 1541 0 [(32, 16), (34, 224)] 0) (zeros 64)).pkt) 2).st ≠ 0 ∧
    State.blocksPass (at0 digged (cmd (dP 1541 0 [(32, 16), (34, 224)] 0) (zeros 64)).pkt) (cmd (dP 1541 0 [(32, 16), (34,
      224)] 0) (zeros 64)) 17 ∧
    Runs 0x0605 none (cmd (dP 1541 0 [(32, 16), (34, 224)] 0) (zeros 64)) (at0 digged (cmd (dP 1541 0 [(32, 16), (34, 224)] 0)
      (zeros 64)).pkt) (fl (cmd (dP 1541 0 [(32, 16), (34, 224)] 0) (zeros 64)).pkt) ∧
    DigCtx.absorb (zeros 64) idle2 = DigCtx.absorb (Cmd.bytes (cmd (dP 1541 0 [(32, 16), (34, 224)] 0) (zeros 64)))
      (State.dig' (at0 digged (cmd (dP 1541 0 [(32, 16), (34, 224)] 0) (zeros 64)).pkt) 2) ∧
    ((State.dig' (at0 digged (cmd (dP 1541 0 [(32, 16), (34, 224)] 0) (zeros 64)).pkt) 2).st ≠ 1 ∨ (cmd (dP 1541 0 [(32, 16),
      (34, 224)] 0) (zeros 64)).pkt.dataLen ≠ 0) ∧
    State.freeSlot (at0 digged (cmd (dP 1541 0 [(32, 16), (34, 224)] 0) (zeros 64)).pkt) (fl (cmd (dP 1541 0 [(32, 16), (34,
      224)] 0) (zeros 64)).pkt).keys = some 17 ∧
    224 = BitVec.ofNat 16 (Packet.field (cmd (dP 1541 0 [(32, 16), (34, 224)] 0) (zeros 64)).pkt 34 2) :=
  ⟨(by decide +kernel), (by decide +kernel), (by decide +kernel), (by decide +kernel),
    (by unfold State.blocksPass; decide +kernel), runs_of (by decide +kernel), (by decide +kernel)⟩

theorem test_meets_digestLastBlock :
    State.digTurn (digging (zeros 64)) (dr 64) ∧
    (dr 64).ctx = 2 ∧
    State.digRun (digging (zeros 64)) 2 = some (dr 64) ∧
    (dr 64).kind = DigKind.data ∧
    List.length (dr 64).data ≤ 64 ∧
    (dr 64).h.via = Transport.host ∧
    (List.find? (fun x => x.id == (dr 64).h.id) (State.queue (digging (zeros 64)) (dr 64).h.q).inflight = some (fl nopP)) ∧
    (dr 64).h.tag = (fl nopP).pkt.tag :=
  ⟨(by unfold State.digTurn; decide +kernel), (by decide +kernel)⟩

theorem test_meets_signAsync :
    1 = Packet.byteAt (async (sgC 1 dig32 0)).pkt 32 ∧
    (async (sgC 1 dig32 0)).memErr = none ∧
    signKey (at0 signing (sgC 1 dig32 0).pkt) signer = some sk ∧
    digestOf 1 0 dig32 = digestOf 1 sk.z (Cmd.bytes (async (sgC 1 dig32 0))) ∧
    Runs 0x0501 none (async (sgC 1 dig32 0)) (at0 signing (sgC 1 dig32 0).pkt) (fl (sgC 1 dig32 0).pkt) ∧
    State.slotServes (at0 signing (sgC 1 dig32 0).pkt) (hIndex (async (sgC 1 dig32 0)).pkt.handleA) (if 1 = 0 then useSign
      else useSignDigest) signer ∧
    State.holding (at0 signing (sgC 1 dig32 0).pkt) = false ∧
    State.idleSpindle (at0 signing (sgC 1 dig32 0).pkt) true = some 0 ∧
    (async (sgC 1 dig32 0)).async = true :=
  ⟨(by decide +kernel), (by decide +kernel), (by decide +kernel), (by decide +kernel), runs_of (by decide +kernel),
    serves_of (by rfl) (key_check _ _ _ _ _) (by decide +kernel), (by decide +kernel)⟩

theorem test_meets_sign :
    1 = Packet.byteAt (sgC 1 dig32 0).pkt 32 ∧
    (sgC 1 dig32 0).memErr = none ∧
    signKey (at0 signing (sgC 1 dig32 0).pkt) signer = some sk ∧
    digestOf 1 0 dig32 = digestOf 1 sk.z (Cmd.bytes (sgC 1 dig32 0)) ∧
    Runs 0x0501 none (sgC 1 dig32 0) (at0 signing (sgC 1 dig32 0).pkt) (fl (sgC 1 dig32 0).pkt) ∧
    State.slotServes (at0 signing (sgC 1 dig32 0).pkt) (hIndex (sgC 1 dig32 0).pkt.handleA) (if 1 = 0 then useSign else
      useSignDigest) signer ∧
    State.holding (at0 signing (sgC 1 dig32 0).pkt) = false ∧
    State.idleSpindle (at0 signing (sgC 1 dig32 0).pkt) true = some 0 ∧
    (sgC 1 dig32 0).async = false ∧
    State.idleSpindle (at0 signing (sgC 1 dig32 0).pkt) false = some 8 ∧
    (at0 signing (sgC 1 dig32 0).pkt).spn.signParked = [] ∧
    (at0 signing (sgC 1 dig32 0).pkt).spn.verifyParked = [] ∧
    (at0 signing (sgC 1 dig32 0).pkt).arb.leaving = [] ∧
    sig32 = signatureOf sk (digestOf 1 0 dig32) (State.spindle (State.fillEntropy 0 (at0 signing (sgC 1 dig32 0).pkt)) 0).ent ∧
    sig32.regen = false ∧
    sig32.r = (sig32.r ^^^ BitVec.toNat (sgC 1 dig32 0).glitch / 2 ^ 256) % 2 ^ sk.cv.w ∧
    sig32.s = (sig32.s ^^^ BitVec.toNat (sgC 1 dig32 0).glitch % 2 ^ 256) % 2 ^ sk.cv.w ∧
    sm2Verify sk.cv (digestOf 1 0 dig32) sig32.r sig32.s sk.qx sk.qy = true ∧
    0 < BitVec.toNat (sgC 1 dig32 0).pkt.outLen ∧
    0 < Curve.bytes sk.cv :=
  ⟨(by decide +kernel), (by decide +kernel), (by decide +kernel), (by decide +kernel), runs_of (by decide +kernel),
    serves_of (by rfl) (key_check _ _ _ _ _) (by decide +kernel), (by decide +kernel)⟩

theorem test_meets_signGlitch :
    1 = Packet.byteAt (sgC 1 dig32 1).pkt 32 ∧
    (sgC 1 dig32 1).memErr = none ∧
    signKey (at0 signing (sgC 1 dig32 1).pkt) signer = some sk ∧
    digestOf 1 0 dig32 = digestOf 1 sk.z (Cmd.bytes (sgC 1 dig32 1)) ∧
    Runs 0x0501 none (sgC 1 dig32 1) (at0 signing (sgC 1 dig32 1).pkt) (fl (sgC 1 dig32 1).pkt) ∧
    State.slotServes (at0 signing (sgC 1 dig32 1).pkt) (hIndex (sgC 1 dig32 1).pkt.handleA) (if 1 = 0 then useSign else
      useSignDigest) signer ∧
    State.holding (at0 signing (sgC 1 dig32 1).pkt) = false ∧
    State.idleSpindle (at0 signing (sgC 1 dig32 1).pkt) true = some 0 ∧
    (sgC 1 dig32 1).async = false ∧
    State.idleSpindle (at0 signing (sgC 1 dig32 1).pkt) false = some 8 ∧
    (at0 signing (sgC 1 dig32 1).pkt).spn.signParked = [] ∧
    (at0 signing (sgC 1 dig32 1).pkt).spn.verifyParked = [] ∧
    (at0 signing (sgC 1 dig32 1).pkt).arb.leaving = [] ∧
    sig32 = signatureOf sk (digestOf 1 0 dig32) (State.spindle (State.fillEntropy 0 (at0 signing (sgC 1 dig32 1).pkt)) 0).ent ∧
    sig32.regen = false ∧
    sig32.r = (sig32.r ^^^ BitVec.toNat (sgC 1 dig32 1).glitch / 2 ^ 256) % 2 ^ sk.cv.w ∧
    sig32.s ^^^ 1 = (sig32.s ^^^ BitVec.toNat (sgC 1 dig32 1).glitch % 2 ^ 256) % 2 ^ sk.cv.w ∧
    sm2Verify sk.cv (digestOf 1 0 dig32) sig32.r (sig32.s ^^^ 1) sk.qx sk.qy = false :=
  ⟨(by decide +kernel), (by decide +kernel), (by decide +kernel), (by decide +kernel), runs_of (by decide +kernel),
    serves_of (by rfl) (key_check _ _ _ _ _) (by decide +kernel), (by decide +kernel)⟩

theorem test_meets_verifyAsync :
    1 = Packet.byteAt (async (vfC [5, 7])).pkt 32 ∧
    (async (vfC [5, 7])).memErr = none ∧
    signKey (at0 keyed (vfC [5, 7]).pkt) ownerKey = some ({ sk with d := 0 }) ∧
    (5, 7) = pointAt ({ sk with d := 0 }).cv.w (Cmd.bytes (async (vfC [5, 7]))) ∧
    digestOf 1 0 dig32 = digestOf 1 ({ sk with d := 0 }).z (List.drop (2 * Curve.bytes ({ sk with d := 0 }).cv) (Cmd.bytes
      (async (vfC [5, 7])))) ∧
    Runs 0x0502 none (async (vfC [5, 7])) (at0 keyed (vfC [5, 7]).pkt) (fl (vfC [5, 7]).pkt) ∧
    State.slotServes (at0 keyed (vfC [5, 7]).pkt) (hIndex (async (vfC [5, 7])).pkt.handleA) (if 1 = 0 then useVerify else
      useVerifyDigest) ownerKey ∧
    State.idleSpindle (at0 keyed (vfC [5, 7]).pkt) false = some 8 ∧
    State.jobsStopped (at0 keyed (vfC [5, 7]).pkt) false = false ∧
    (async (vfC [5, 7])).async = true :=
  ⟨(by decide +kernel), (by decide +kernel), (by decide +kernel), (by decide +kernel), (by decide +kernel), runs_of
    (by decide +kernel), serves_of (by rfl) (key_check _ _ _ _ _) (by decide +kernel), (by decide +kernel)⟩

theorem test_meets_verify :
    1 = Packet.byteAt (vfC [5, 7]).pkt 32 ∧
    (vfC [5, 7]).memErr = none ∧
    signKey (at0 keyed (vfC [5, 7]).pkt) ownerKey = some ({ sk with d := 0 }) ∧
    (5, 7) = pointAt ({ sk with d := 0 }).cv.w (Cmd.bytes (vfC [5, 7])) ∧
    digestOf 1 0 dig32 = digestOf 1 ({ sk with d := 0 }).z (List.drop (2 * Curve.bytes ({ sk with d := 0 }).cv) (Cmd.bytes
      (vfC [5, 7]))) ∧
    Runs 0x0502 none (vfC [5, 7]) (at0 keyed (vfC [5, 7]).pkt) (fl (vfC [5, 7]).pkt) ∧
    State.slotServes (at0 keyed (vfC [5, 7]).pkt) (hIndex (vfC [5, 7]).pkt.handleA) (if 1 = 0 then useVerify else
      useVerifyDigest) ownerKey ∧
    State.idleSpindle (at0 keyed (vfC [5, 7]).pkt) false = some 8 ∧
    State.jobsStopped (at0 keyed (vfC [5, 7]).pkt) false = false ∧
    (vfC [5, 7]).async = false ∧
    (at0 keyed (vfC [5, 7]).pkt).spn.signParked = [] ∧
    (at0 keyed (vfC [5, 7]).pkt).spn.verifyParked = [] ∧
    (at0 keyed (vfC [5, 7]).pkt).arb.leaving = [] :=
  ⟨(by decide +kernel), (by decide +kernel), (by decide +kernel), (by decide +kernel), (by decide +kernel), runs_of
    (by decide +kernel), serves_of (by rfl) (key_check _ _ _ _ _) (by decide +kernel), (by decide +kernel)⟩

theorem test_meets_bnJobAsync :
    5 = BitVec.toNat (Packet.byteAt (async (bnC 5 0 0 (zeros 64))).pkt 32) ∧
    256 = bnWidth (async (bnC 5 0 0 (zeros 64))).pkt ∧
    (0 = if 5 < 16 then 0 else BitVec.toNat (Packet.byteAt (async (bnC 5 0 0 (zeros 64))).pkt 34)) ∧
    Runs 0x0504 none (async (bnC 5 0 0 (zeros 64))) (at0 keyed (bnC 5 0 0 (zeros 64)).pkt) (fl (bnC 5 0 0 (zeros 64)).pkt) ∧
    (async (bnC 5 0 0 (zeros 64))).memErr = none ∧
    ((if 5 < 16 then some curve0 else Option.filter (fun x => x.w == 256) (State.curve (at0 keyed (bnC 5 0 0 (zeros 64)).pkt)
      0)) = some curve0) ∧
    State.idleSpindle (at0 keyed (bnC 5 0 0 (zeros 64)).pkt) false = some 8 ∧
    State.jobsStopped (at0 keyed (bnC 5 0 0 (zeros 64)).pkt) false = false ∧
    (async (bnC 5 0 0 (zeros 64))).async = true :=
  ⟨(by decide +kernel), (by decide +kernel), (by decide +kernel), runs_of (by decide +kernel), (by decide +kernel)⟩

theorem test_meets_bnJob :
    3 = BitVec.toNat (Packet.byteAt (bnC 3 0 0 (beBytes 32 7 ++ beBytes 32 8 ++ beBytes 32 5)).pkt 32) ∧
    256 = bnWidth (bnC 3 0 0 (beBytes 32 7 ++ beBytes 32 8 ++ beBytes 32 5)).pkt ∧
    (0 = if 3 < 16 then 0 else BitVec.toNat (Packet.byteAt (bnC 3 0 0 (beBytes 32 7 ++ beBytes 32 8 ++ beBytes 32 5)).pkt 34)) ∧
    Runs 0x0504 none (bnC 3 0 0 (beBytes 32 7 ++ beBytes 32 8 ++ beBytes 32 5)) (at0 keyed (bnC 3 0 0 (zeros 96)).pkt) (fl
      (bnC 3 0 0 (zeros 96)).pkt) ∧
    (bnC 3 0 0 (beBytes 32 7 ++ beBytes 32 8 ++ beBytes 32 5)).memErr = none ∧
    ((if 3 < 16 then some curve0 else Option.filter (fun x => x.w == 256) (State.curve (at0 keyed (bnC 3 0 0 (zeros 96)).pkt)
      0)) = some curve0) ∧
    State.idleSpindle (at0 keyed (bnC 3 0 0 (zeros 96)).pkt) false = some 8 ∧
    State.jobsStopped (at0 keyed (bnC 3 0 0 (zeros 96)).pkt) false = false ∧
    (bnC 3 0 0 (beBytes 32 7 ++ beBytes 32 8 ++ beBytes 32 5)).async = false ∧
    (at0 keyed (bnC 3 0 0 (zeros 96)).pkt).spn.signParked = [] ∧
    (at0 keyed (bnC 3 0 0 (zeros 96)).pkt).spn.verifyParked = [] ∧
    (at0 keyed (bnC 3 0 0 (zeros 96)).pkt).arb.leaving = [] ∧
    bnRun 3 256 curve0 [7, 8, 5] = bnRun 3 256 curve0 (bnOps 256 (bnOperands 3) (Cmd.bytes (bnC 3 0 0 (beBytes 32 7 ++ beBytes
      32 8 ++ beBytes 32 5)))) :=
  ⟨(by decide +kernel), (by decide +kernel), (by decide +kernel), runs_of (by decide +kernel), (by decide +kernel)⟩

theorem test_meets_bnAbortParked :
    7 = BitVec.ofNat 12 (hIndex (cm baP []).pkt.handleA) ∧
    Runs 0x0505 none (cm baP []) (at0 ({ keyed with spn := { keyed.spn with verifyParked := [bnJob7] } }) baP) (fl baP) ∧
    (bnJob7.h.q ≠ (cm baP []).q ∨ bnJob7.h.id ≠ (fl baP).id) ∧
    bnJob7.h.via = Transport.host ∧
    List.find? (Job.isBn 7) (at0 ({ keyed with spn := { keyed.spn with verifyParked := [bnJob7] } }) baP).spn.verifyParked =
      some bnJob7 :=
  ⟨(by decide +kernel), runs_of (by decide +kernel), (by decide +kernel)⟩

theorem test_meets_bnAbortRunning :
    7 = BitVec.ofNat 12 (hIndex (cm baP []).pkt.handleA) ∧
    Runs 0x0505 none (cm baP []) (at0 (State.setSpindle 9 ({ State.spindle keyed 9 with job := some bnJob7 }) keyed) baP) (fl
      baP) ∧
    (bnJob7.h.q ≠ (cm baP []).q ∨ bnJob7.h.id ≠ (fl baP).id) ∧
    bnJob7.h.via = Transport.host ∧
    (at0 (State.setSpindle 9 ({ State.spindle keyed 9 with job := some bnJob7 }) keyed) baP).spn.verifyParked = [] ∧
    (at0 (State.setSpindle 9 ({ State.spindle keyed 9 with job := some bnJob7 }) keyed) baP).spn.signParked = [] ∧
    (at0 (State.setSpindle 9 ({ State.spindle keyed 9 with job := some bnJob7 }) keyed) baP).arb.leaving = [] ∧
    (lowestFrom (fun n => Option.any (Job.isBn 7) (State.spindle (at0 (State.setSpindle 9
      ({ State.spindle keyed 9 with job := some bnJob7 }) keyed) baP) n).job) 32 8 = some 9) ∧
    (State.spindle (at0 (State.setSpindle 9 ({ State.spindle keyed 9 with job := some bnJob7 }) keyed) baP) 9).job = some
      bnJob7 ∧
    (State.spindle (at0 (State.setSpindle 9 ({ State.spindle keyed 9 with job := some bnJob7 }) keyed) baP) 9).halted = none :=
  ⟨(by decide +kernel), runs_of (by decide +kernel), (by decide +kernel)⟩

theorem test_meets_pubkeyLoad :
    Runs 0x0503 none plC (at0 keyed plC.pkt) (fl plC.pkt) ∧
    plC.memErr = none ∧
    State.curve (at0 keyed plC.pkt) (BitVec.toNat (Packet.byteAt plC.pkt 32)) = some toy ∧
    (6, 3) = pointAt toy.w (Cmd.bytes plC) ∧
    onCurve toy (6, 3).1 (6, 3).2 = true ∧
    State.freeSlot (at0 keyed plC.pkt) (fl plC.pkt).keys = some 17 ∧
    4 = BitVec.ofNat 16 (Packet.field plC.pkt 34 2) ∧
    State.programsRun (at0 keyed plC.pkt) plC false :=
  ⟨runs_of (by decide +kernel), (by decide +kernel), (by decide +kernel), (by decide +kernel), (by decide +kernel),
    (by decide +kernel), (by decide +kernel), (by unfold State.programsRun; decide +kernel)⟩

theorem test_meets_curveLoadClear :
    rowPacket 1286 (some 1) (clP 1 1) = rowPacket 1286 (some 1) (cm (clP 1 1) []).pkt ∧
    Runs 0x0506 (some 1) (cm (clP 1 1) []) (at0 keyed (clP 1 1)) (fl (clP 1 1)) ∧
    1 = BitVec.toNat (Packet.byteAt (rowPacket 1286 (some 1) (clP 1 1)) 33) ∧
    Tab.sorted (at0 keyed (clP 1 1)).spn.curves = true ∧
    State.nvmStatus (at0 keyed (clP 1 1)) = none :=
  ⟨(by decide +kernel), runs_of (by decide +kernel), (by decide +kernel)⟩

theorem test_meets_curveLoadLoad :
    Runs 0x0506 (some 0) (cmd (clP 0 2) tiny) (at0 keyed (cmd (clP 0 2) tiny).pkt) (fl (cmd (clP 0 2) tiny).pkt) ∧
    2 = Packet.byteAt (rowPacket 1286 (some 0) (cmd (clP 0 2) tiny).pkt) 33 ∧
    (Tab.get (at0 keyed (cmd (clP 0 2) tiny).pkt).spn.curves 2 { cv := curve0, valid := false }).valid = false ∧
    (cmd (clP 0 2) tiny).memErr = none ∧
    State.nvmStatus (at0 keyed (cmd (clP 0 2) tiny).pkt) = none ∧
    State.programsRun (at0 keyed (cmd (clP 0 2) tiny).pkt) (cmd (clP 0 2) tiny) false ∧
    curveCheck (at0 keyed (cmd (clP 0 2) tiny).pkt).ks.draws 2 (Cmd.bytes (cmd (clP 0 2) tiny)) = 0 :=
  ⟨runs_of (by decide +kernel), (by decide +kernel), (by decide +kernel), (by decide +kernel), (by decide +kernel), (by unfold State.programsRun; decide +kernel), tiny_passes _⟩

theorem test_meets_pubkeyLoadAsync :
    Runs 0x0503 none plA (at0 keyed plA.pkt) (fl plA.pkt) ∧
    plA.memErr = none ∧
    State.curve (at0 keyed plA.pkt) (BitVec.toNat (Packet.byteAt plA.pkt 32)) = some toy ∧
    plA.async = true ∧
    State.jobsStopped (at0 keyed plA.pkt) false = false ∧
    State.idleSpindle (at0 keyed plA.pkt) false = some 8 ∧
    (at0 keyed plA.pkt).spn.ran = [] :=
  ⟨runs_of (by decide +kernel), (by decide +kernel)⟩

theorem test_meets_keyLoad :
    0 = (State.queue (at0 rooted (klC blob1 []).pkt) (klC blob1 []).q).dom ∧
    Runs 0x0701 none (klC blob1 []) (at0 rooted (klC blob1 []).pkt) (fl (klC blob1 []).pkt) ∧
    (klC blob1 []).memErr = none ∧
    blobRefusal (at0 rooted (klC blob1 []).pkt) 0 (Cmd.bytes (klC blob1 [])) = none ∧
    head1 = blobHead (Cmd.bytes (klC blob1 [])) ∧
    (State.blobParent (rowPacket 1793 none (klC blob1 []).pkt) head1 0 (at0 rooted (klC blob1 []).pkt)).2 = Except.ok wk0 ∧
    unwrapBlob wk0 (slice (Cmd.bytes (klC blob1 [])) 0 128) (List.drop 128 (Cmd.bytes (klC blob1 []))) = some mat1 ∧
    head1.typ ≠ 8 ∧
    State.target (at0 rooted (klC blob1 []).pkt) (fl (klC blob1 []).pkt).keys true (Packet.field (klC blob1 []).pkt 36 2) =
      Except.ok 17 ∧
    (at0 rooted (klC blob1 []).pkt).spn.ran = [] ∧
    (head1.typ = 5 → State.programsRun (at0 rooted (klC blob1 []).pkt) (klC blob1 []) true ∧ State.spindlesIn (at0 rooted (klC
      blob1 []).pkt) 0 8 = true ∧ State.isOut (at0 rooted (klC blob1 []).pkt) 81 = false) ∧
    (State.finishKey (keyOfBlob head1 0 2 mat1 (List.drop 128 (Cmd.bytes (klC blob1 [])))) (at0 rooted (klC blob1 []).pkt)).2
      = some (keyOfBlob head1 0 2 mat1 [], 0) ∧
    State.lineageOf (at0 rooted (klC blob1 []).pkt) head1 0 (BitVec.getLsbD (Packet.byteAt (klC blob1 []).pkt 38) 0) = some
      none ∧
    (head1.typ = 7 ∨ head1.lineage = 0 ∨ (State.gen (at0 rooted (klC blob1 []).pkt) (BitVec.toNat head1.lineage)).kcv = kcvOf
      head1.typ mat1) :=
  ⟨(by decide +kernel), runs_of (by decide +kernel), (by decide +kernel), (by decide +kernel), (by decide +kernel), ok_of
    (by decide +kernel), (by decide +kernel), (by decide +kernel), ok_of (by decide +kernel), (by decide +kernel),
    fun h => absurd h (by decide +kernel), (by decide +kernel)⟩

theorem test_meets_curveLoadBad :
    Runs 0x0506 (some 0) (cmd (clP 0 3) tiny) (at0 keyed (cmd (clP 0 3) tiny).pkt) (fl (cmd (clP 0 3) tiny).pkt) ∧
    3 = Packet.byteAt (rowPacket 1286 (some 0) (cmd (clP 0 3) tiny).pkt) 33 ∧
    (Tab.get (at0 keyed (cmd (clP 0 3) tiny).pkt).spn.curves 3 { cv := curve0, valid := false }).valid = false ∧
    (cmd (clP 0 3) tiny).memErr = none ∧
    State.nvmStatus (at0 keyed (cmd (clP 0 3) tiny).pkt) = none ∧
    State.programsRun (at0 keyed (cmd (clP 0 3) tiny).pkt) (cmd (clP 0 3) tiny) false ∧
    curveCheck 0 3 tiny ≠ 0 ∧
    curveCheck (at0 keyed (cmd (clP 0 3) tiny).pkt).ks.draws 3 (Cmd.bytes (cmd (clP 0 3) tiny)) = curveCheck 0 3 tiny :=
  ⟨runs_of (by decide +kernel), (by decide +kernel), (by decide +kernel), (by decide +kernel), (by decide +kernel),
    (by unfold State.programsRun; decide +kernel), (by decide +kernel)⟩

theorem test_meets_keyLoadAdopt :
    0 = (State.queue (at0 rooted (klC blobL [(38, 1)]).pkt) (klC blobL [(38, 1)]).q).dom ∧
    Runs 0x0701 none (klC blobL [(38, 1)]) (at0 rooted (klC blobL [(38, 1)]).pkt) (fl (klC blobL [(38, 1)]).pkt) ∧
    (klC blobL [(38, 1)]).memErr = none ∧
    blobRefusal (at0 rooted (klC blobL [(38, 1)]).pkt) 0 (Cmd.bytes (klC blobL [(38, 1)])) = none ∧
    headL = blobHead (Cmd.bytes (klC blobL [(38, 1)])) ∧
    (State.blobParent (rowPacket 1793 none (klC blobL [(38, 1)]).pkt) headL 0 (at0 rooted (klC blobL [(38, 1)]).pkt)).2 =
      Except.ok wk0 ∧
    unwrapBlob wk0 (slice (Cmd.bytes (klC blobL [(38, 1)])) 0 128) (List.drop 128 (Cmd.bytes (klC blobL [(38, 1)]))) = some
      mat1 ∧
    headL.typ ≠ 8 ∧
    State.target (at0 rooted (klC blobL [(38, 1)]).pkt) (fl (klC blobL [(38, 1)]).pkt).keys true (Packet.field (klC blobL
      [(38, 1)]).pkt 36 2) = Except.ok 17 ∧
    (at0 rooted (klC blobL [(38, 1)]).pkt).spn.ran = [] ∧
    (headL.typ = 5 → State.programsRun (at0 rooted (klC blobL [(38, 1)]).pkt) (klC blobL [(38, 1)]) true ∧ State.spindlesIn
      (at0 rooted (klC blobL [(38, 1)]).pkt) 0 8 = true ∧ State.isOut (at0 rooted (klC blobL [(38, 1)]).pkt) 81 = false) ∧
    (State.finishKey (keyOfBlob headL 0 2 mat1 (List.drop 128 (Cmd.bytes (klC blobL [(38, 1)])))) (at0 rooted (klC blobL [(38,
      1)]).pkt)).2 = some (keyOfBlob headL 0 2 mat1 [], 0) ∧
    State.lineageOf (at0 rooted (klC blobL [(38, 1)]).pkt) headL 0 (BitVec.getLsbD (Packet.byteAt (klC blobL [(38, 1)]).pkt
      38) 0) = some (some ({ zeroGen with gen := 1, kind := 3 })) :=
  ⟨(by decide +kernel), runs_of (by decide +kernel), (by decide +kernel), (by decide +kernel), (by decide +kernel), ok_of
    (by decide +kernel), (by decide +kernel), (by decide +kernel), ok_of (by decide +kernel), (by decide +kernel),
    fun h => absurd h (by decide +kernel), (by decide +kernel)⟩

theorem test_meets_keyGenerate :
    kgP [(32, 1), (34, 224), (38, 0)] = rowPacket 1794 none (cm (kgP [(32, 1), (34, 224), (38, 0)]) []).pkt ∧
    0 = (State.queue (at0 rooted (kgP [(32, 1), (34, 224), (38, 0)])) (cm (kgP [(32, 1), (34, 224), (38, 0)]) []).q).dom ∧
    1 = Packet.byteAt (kgP [(32, 1), (34, 224), (38, 0)]) 32 ∧
    Runs 0x0702 none (cm (kgP [(32, 1), (34, 224), (38, 0)]) []) (at0 rooted (kgP [(32, 1), (34, 224), (38, 0)])) (fl (kgP
      [(32, 1), (34, 224), (38, 0)])) ∧
    (cm (kgP [(32, 1), (34, 224), (38, 0)]) []).memErr = none ∧
    0 < BitVec.toNat (cm (kgP [(32, 1), (34, 224), (38, 0)]) []).pkt.outLen ∧
    (at0 rooted (kgP [(32, 1), (34, 224), (38, 0)])).spn.ran = [] ∧
    (1 = 7 → (kgP [(32, 1), (34, 224), (38, 0)]).handleB = 0) ∧
    (1 = 5 → State.programsRun (at0 rooted (kgP [(32, 1), (34, 224), (38, 0)])) (cm (kgP [(32, 1), (34, 224), (38, 0)]) [])
      true ∧ State.programsRun (at0 rooted (kgP [(32, 1), (34, 224), (38, 0)])) (cm (kgP [(32, 1), (34, 224), (38, 0)]) [])
      false) ∧
    (if 1 = 5 then State.curve (at0 rooted (kgP [(32, 1), (34, 224), (38, 0)])) (BitVec.toNat (Packet.byteAt (kgP [(32, 1),
      (34, 224), (38, 0)]) 33)) else some curve0) = some curve0 ∧
    (State.parentOf (kgP [(32, 1), (34, 224), (38, 0)]) useWrap 0 (at0 rooted (kgP [(32, 1), (34, 224), (38, 0)]))).2 =
      Except.ok { num := 0, gen := 0, wk := wk0 } ∧
    State.allocated (at0 rooted (kgP [(32, 1), (34, 224), (38, 0)])) 1 (BitVec.getLsbD (Packet.byteAt (kgP [(32, 1), (34,
      224), (38, 0)]) 38) 1) 0 0 = Except.ok none ∧
    State.generateLineage (at0 rooted (kgP [(32, 1), (34, 224), (38, 0)])) (State.ctxRun 1794 none (cm (kgP [(32, 1), (34,
      224), (38, 0)]) []) (fl (kgP [(32, 1), (34, 224), (38, 0)])) (at0 rooted (kgP [(32, 1), (34, 224), (38, 0)]))) none =
      Except.ok (0, 0) ∧
    State.drawKey 1 curve0 (at0 rooted (kgP [(32, 1), (34, 224), (38, 0)])) = ((State.drawKey 1 curve0 (at0 rooted (kgP [(32,
      1), (34, 224), (38, 0)]))).1, (State.drawKey 1 curve0 (at0 rooted (kgP [(32, 1), (34, 224), (38, 0)]))).2) ∧
    wrapBlob wk0 (blobFor 1 224 0 0 { num := 0, gen := 0, wk := wk0 } 0 0 (BitVec.setWidth 96 (State.draw (State.drawKey 1
      curve0 (at0 rooted (kgP [(32, 1), (34, 224), (38, 0)]))).1))) [] (State.drawKey 1 curve0 (at0 rooted (kgP [(32, 1), (34,
      224), (38, 0)]))).2 = wrapBlob ({ num := 0, gen := 0, wk := wk0 } : Parent).wk (blobFor 1 (BitVec.ofNat 16 (Packet.field (kgP [(32,
      1), (34, 224), (38, 0)]) 34 2)) (Packet.byteAt (kgP [(32, 1), (34, 224), (38, 0)]) 33) (List.length (Cmd.bytes (cm (kgP
      [(32, 1), (34, 224), (38, 0)]) []))) { num := 0, gen := 0, wk := wk0 } (0, 0).1 (0, 0).2 (BitVec.setWidth 96 (State.draw
      (State.drawKey 1 curve0 (at0 rooted (kgP [(32, 1), (34, 224), (38, 0)]))).1))) (Cmd.bytes (cm (kgP [(32, 1), (34, 224),
      (38, 0)]) [])) (State.drawKey 1 curve0 (at0 rooted (kgP [(32, 1), (34, 224), (38, 0)]))).2 ∧
    (State.finishKey (keyOfBlob (blobFor 1 (BitVec.ofNat 16 (Packet.field (kgP [(32, 1), (34, 224), (38, 0)]) 34 2))
      (Packet.byteAt (kgP [(32, 1), (34, 224), (38, 0)]) 33) (List.length (Cmd.bytes (cm (kgP [(32, 1), (34, 224), (38, 0)])
      []))) { num := 0, gen := 0, wk := wk0 } (0, 0).1 (0, 0).2 (BitVec.setWidth 96 (State.draw (State.drawKey 1 curve0 (at0
      rooted (kgP [(32, 1), (34, 224), (38, 0)]))).1))) 0 1 (State.drawKey 1 curve0 (at0 rooted (kgP [(32, 1), (34, 224), (38,
      0)]))).2 (Cmd.bytes (cm (kgP [(32, 1), (34, 224), (38, 0)]) []))) (State.drawn 1 (State.drawKey 1 curve0 (at0 rooted
      (kgP [(32, 1), (34, 224), (38, 0)]))).1)).2 = some (keyOfBlob (blobFor 1 224 0 0 { num := 0, gen := 0, wk := wk0 } 0 0
      (BitVec.setWidth 96 (State.draw (State.drawKey 1 curve0 (at0 rooted (kgP [(32, 1), (34, 224), (38, 0)]))).1))) 0 1
      (State.drawKey 1 curve0 (at0 rooted (kgP [(32, 1), (34, 224), (38, 0)]))).2 [], 0) ∧
    (0, 0) = pointAt curve0.w (beBytes (2 * Curve.bytes curve0) (BitVec.toNat (keyOfBlob (blobFor 1 224 0 0
      { num := 0, gen := 0, wk := wk0 } 0 0 (BitVec.setWidth 96 (State.draw (State.drawKey 1 curve0 (at0 rooted (kgP [(32, 1),
      (34, 224), (38, 0)]))).1))) 0 1 (State.drawKey 1 curve0 (at0 rooted (kgP [(32, 1), (34, 224), (38, 0)]))).2 []).q)) ∧
    (1 = 5 → (State.testSign (BitVec.toNat (Packet.byteAt (kgP [(32, 1), (34, 224), (38, 0)]) 33)) curve0 (State.drawKey 1
      curve0 (at0 rooted (kgP [(32, 1), (34, 224), (38, 0)]))).2 (0, 0).1 (0, 0).2 (cm (kgP [(32, 1), (34, 224), (38, 0)])
      []).glitch (State.finishKey (keyOfBlob (blobFor 1 (BitVec.ofNat 16 (Packet.field (kgP [(32, 1), (34, 224), (38, 0)]) 34
      2)) (Packet.byteAt (kgP [(32, 1), (34, 224), (38, 0)]) 33) (List.length (Cmd.bytes (cm (kgP [(32, 1), (34, 224), (38,
      0)]) []))) { num := 0, gen := 0, wk := wk0 } (0, 0).1 (0, 0).2 (BitVec.setWidth 96 (State.draw (State.drawKey 1 curve0
      (at0 rooted (kgP [(32, 1), (34, 224), (38, 0)]))).1))) 0 1 (State.drawKey 1 curve0 (at0 rooted (kgP [(32, 1), (34, 224),
      (38, 0)]))).2 (Cmd.bytes (cm (kgP [(32, 1), (34, 224), (38, 0)]) []))) (State.drawn 1 (State.drawKey 1 curve0 (at0
      rooted (kgP [(32, 1), (34, 224), (38, 0)]))).1)).1).2 = true) ∧
    BitVec.getLsbD (Packet.byteAt (kgP [(32, 1), (34, 224), (38, 0)]) 38) 0 = false :=
  ⟨(by decide +kernel), (by decide +kernel), (by decide +kernel), runs_of (by decide +kernel), (by decide +kernel), (by decide +kernel), (by decide +kernel), (by decide +kernel), fun h => absurd h (by decide +kernel), (by decide +kernel), ok_of (by decide +kernel), ok_of (by decide +kernel), ok_of (by decide +kernel), (by rfl), by
    rw [gen_usage, gen_curve]
    rfl, by
    rw [finish_of (by decide +kernel), gen_usage, gen_curve]
    rfl, (by decide +kernel), fun h => absurd h (by decide +kernel), (by decide +kernel)⟩

theorem test_meets_keyLoadDmk :
    0 = (State.queue (at0 rootedR (klC blobD []).pkt) (klC blobD []).q).dom ∧
    Runs 0x0701 none (klC blobD []) (at0 rootedR (klC blobD []).pkt) (fl (klC blobD []).pkt) ∧
    (klC blobD []).memErr = none ∧
    blobRefusal (at0 rootedR (klC blobD []).pkt) 0 (Cmd.bytes (klC blobD [])) = none ∧
    blobHead blobD = blobHead (Cmd.bytes (klC blobD [])) ∧
    (State.blobParent (rowPacket 1793 none (klC blobD []).pkt) (blobHead blobD) 0 (at0 rootedR (klC blobD []).pkt)).2 =
      Except.ok wkT ∧
    unwrapBlob wkT (slice (Cmd.bytes (klC blobD [])) 0 128) (List.drop 128 (Cmd.bytes (klC blobD []))) = some (digestBytes 77
      ++ zeros 32) ∧
    (blobHead blobD).typ = 8 ∧
    State.lineageOf (at0 rootedR (klC blobD []).pkt) (blobHead blobD) 0 (BitVec.getLsbD (Packet.byteAt (klC blobD []).pkt 38)
      0) = some none ∧
    9 = BitVec.setWidth 8 (blobHead blobD).lineage ∧
    State.dmk (at0 rootedR (klC blobD []).pkt) 9 = none ∧
    State.rootKey (at0 rootedR (klC blobD []).pkt) = some 44 ∧
    State.nvmStatus (at0 rootedR (klC blobD []).pkt) = none ∧
    (at0 rootedR (klC blobD []).pkt).spn.ran = [] :=
  ⟨(by decide +kernel), runs_of (by decide +kernel), (by decide +kernel), (by decide +kernel), (by decide +kernel), transport_of (by decide +kernel) (by rfl) (key_check _ _ _ _ _) (by decide +kernel), (by decide +kernel)⟩

theorem test_meets_keyGenerateDmk :
    kgP [(32, 8), (42, 9)] = rowPacket 1794 none (cm (kgP [(32, 8), (42, 9)]) []).pkt ∧
    0 = (State.queue (at0 rootedR (kgP [(32, 8), (42, 9)])) (cm (kgP [(32, 8), (42, 9)]) []).q).dom ∧
    8 = Packet.byteAt (kgP [(32, 8), (42, 9)]) 32 ∧
    Runs 0x0702 none (cm (kgP [(32, 8), (42, 9)]) []) (at0 rootedR (kgP [(32, 8), (42, 9)])) (fl (kgP [(32, 8), (42, 9)])) ∧
    (cm (kgP [(32, 8), (42, 9)]) []).memErr = none ∧
    0 < BitVec.toNat (cm (kgP [(32, 8), (42, 9)]) []).pkt.outLen ∧
    (at0 rootedR (kgP [(32, 8), (42, 9)])).spn.ran = [] ∧
    9 = Packet.byteAt (kgP [(32, 8), (42, 9)]) 42 ∧
    State.rootKey (at0 rootedR (kgP [(32, 8), (42, 9)])) = some 44 ∧
    State.nvmStatus (at0 rootedR (kgP [(32, 8), (42, 9)])) = none ∧
    (State.gen (at0 rootedR (kgP [(32, 8), (42, 9)])) 9).present = false ∧
    State.dmk (at0 rootedR (kgP [(32, 8), (42, 9)])) 9 = none :=
  ⟨(by decide +kernel), (by decide +kernel), (by decide +kernel), runs_of (by decide +kernel), (by decide +kernel)⟩

theorem test_meets_keyWrapClear :
    0 = (State.queue (at0 rooted wcC.pkt) wcC.q).dom ∧
    BitVec.setWidth 96 (State.draw (at0 rooted (kwP 0 0 []))) = BitVec.setWidth 96 (State.draw (at0 rooted wcC.pkt)) ∧
    0 < BitVec.toNat wcC.pkt.outLen ∧
    wcC.pkt = rowPacket 1795 (some 1) wcC.pkt ∧
    1 = Packet.byteAt wcC.pkt 32 ∧
    224 = BitVec.ofNat 16 (Packet.field wcC.pkt 34 2) ∧
    0 = Packet.field wcC.pkt 40 2 ∧
    16 = valueLen (at0 rooted wcC.pkt) 1 (BitVec.toNat (Packet.byteAt wcC.pkt 33)) ∧
    Runs 0x0703 (some 1) wcC (at0 rooted wcC.pkt) (fl wcC.pkt) ∧
    wcC.memErr = none ∧
    usageOk 1 224 0 = true ∧
    (1 ≠ 5 → Packet.byteAt wcC.pkt 39 = 0) ∧
    (1 = 5 → Option.isSome (State.curve (at0 rooted wcC.pkt) (BitVec.toNat (Packet.byteAt wcC.pkt 33))) = true) ∧
    wcC.pkt.handleB ≠ 0 ∧
    (State.kekParent (hIndex wcC.pkt.handleB) useClearImport 0 (at0 rooted wcC.pkt)).2 = Except.ok
      { num := 300, gen := 0, wk := wrapKey (blockBytes (Slot.key128 kekSlot)) 300 0 } ∧
    (0 ≠ 0 → 256 ≤ 0 ∧ 0 < 4096 ∧ (State.gen (at0 rooted wcC.pkt) 0).kind = 3 ∧ (State.gen (at0 rooted wcC.pkt) 0).dom = 0 ∧
      genFull (State.gen (at0 rooted wcC.pkt) 0) = false) :=
  ⟨(by decide +kernel), (by rfl), (by decide +kernel), (by decide +kernel), (by decide +kernel), (by decide +kernel), (by decide +kernel), (by decide +kernel), runs_of (by decide +kernel), (by decide +kernel), (by decide +kernel), (by decide +kernel), (by decide +kernel), (by decide +kernel), kek_of (k := kekSlot) (by rfl) (with_icv _) (by decide +kernel), (by decide +kernel)⟩

theorem test_meets_keyWrapRewrap :
    0 = (State.queue (at0 rooted (kwP 33554450 0 [])) (cm (kwP 33554450 0 []) []).q).dom ∧
    0 < BitVec.toNat (cm (kwP 33554450 0 []) []).pkt.outLen ∧
    kwP 33554450 0 [] = rowPacket 1795 (some 0) (cm (kwP 33554450 0 []) []).pkt ∧
    Runs 0x0703 (some 0) (cm (kwP 33554450 0 []) []) (at0 rooted (kwP 33554450 0 [])) (fl (kwP 33554450 0 [])) ∧
    (State.readSlot (hIndex (kwP 33554450 0 []).handleA) (at0 rooted (kwP 33554450 0 []))).2 = Except.ok (key 1 224 0 12 0) ∧
    unwrappable (hIndex (kwP 33554450 0 []).handleA) (key 1 224 0 12 0) = false ∧
    ((key 1 224 0 12 0).attr.typ = 7 → (kwP 33554450 0 []).handleB = 0) ∧
    (State.parentOf (kwP 33554450 0 []) useWrap (key 1 224 0 12 0).attr.dom (at0 rooted (kwP 33554450 0 []))).2 = Except.ok
      { num := 0, gen := 0, wk := wk0 } :=
  ⟨(by decide +kernel), (by decide +kernel), (by decide +kernel), runs_of (by decide +kernel),
    reads_of (by rfl) (key_check _ _ _ _ _) (by decide +kernel), (by decide +kernel), (by decide +kernel), ok_of
    (by decide +kernel)⟩

theorem test_meets_keyWrapDmk :
    0 = (State.queue (at0 rooted wdP) (cm wdP []).q).dom ∧
    BitVec.setWidth 96 (State.draw (at0 rooted (kwP 0 0 []))) = BitVec.setWidth 96 (State.draw (at0 rooted wdP)) ∧
    0 < BitVec.toNat (cm wdP []).pkt.outLen ∧
    wdP = rowPacket 1795 (some 2) (cm wdP []).pkt ∧
    Runs 0x0703 (some 2) (cm wdP []) (at0 rooted wdP) (fl wdP) ∧
    (State.readSlot 4 (at0 rooted wdP)).2 = Except.ok (key 1 8192 0 11 0) ∧
    State.dmk (at0 rooted wdP) (Packet.byteAt wdP 42) = some (5 ^^^ 6) :=
  ⟨(by decide +kernel), (by rfl), (by decide +kernel), (by decide +kernel), runs_of (by decide +kernel),
    reads_of (by rfl) (key_check _ _ _ _ _) (by decide +kernel), (by decide +kernel)⟩

theorem test_meets_keyInvalidateDmk :
    0 = (State.queue (at0 rooted (kiP [(32, 0), (34, 8)])) (cm (kiP [(32, 0), (34, 8)]) []).q).dom ∧
    kiP [(32, 0), (34, 8)] = rowPacket 1797 (some 0) (cm (kiP [(32, 0), (34, 8)]) []).pkt ∧
    8 = Packet.field (kiP [(32, 0), (34, 8)]) 34 2 ∧
    Runs 0x0705 (some 0) (cm (kiP [(32, 0), (34, 8)]) []) (at0 rooted (kiP [(32, 0), (34, 8)])) (fl (kiP [(32, 0), (34, 8)])) ∧
    (State.gen (at0 rooted (kiP [(32, 0), (34, 8)])) 8).present = true ∧
    genFull (State.genLast (at0 rooted (kiP [(32, 0), (34, 8)])) 8) = false :=
  ⟨(by decide +kernel), (by decide +kernel), (by decide +kernel), runs_of (by decide +kernel), (by decide +kernel)⟩

theorem test_meets_keyReplace :
    0 = (State.queue (at0 rooted krC.pkt) krC.q).dom ∧
    22 = hIndex krC.pkt.handleA ∧
    Runs 0x0704 none krC (at0 rooted krC.pkt) (fl krC.pkt) ∧
    krC.memErr = none ∧
    (22 ≠ BitVec.toNat (at0 rooted krC.pkt).ru.reg.fpkSlot ∨ Register.liveCount (at0 rooted krC.pkt).ru.reg = 0) ∧
    (State.readSlot 22 (at0 rooted krC.pkt)).2 = Except.ok linSlot ∧
    blobRefusal (at0 rooted krC.pkt) 0 (Cmd.bytes krC) = none ∧
    headL = blobHead (Cmd.bytes krC) ∧
    replaceRefusal (at0 rooted krC.pkt) 0 linSlot headL = none ∧
    (State.blobParent (rowPacket 1796 none krC.pkt) headL 0 (at0 rooted krC.pkt)).2 = Except.ok wk0 ∧
    State.freeSlot (at0 rooted krC.pkt) (fl krC.pkt).keys = some 17 ∧
    (at0 rooted krC.pkt).spn.ran = [] ∧
    (headL.typ = 5 → State.programsRun (at0 rooted krC.pkt) krC true ∧ State.programsRun (at0 rooted krC.pkt) krC false) ∧
    unwrapBlob wk0 (slice (Cmd.bytes krC) 0 128) (List.drop 128 (Cmd.bytes krC)) = some mat1 ∧
    kcvOf headL.typ mat1 = BitVec.ofNat 32 (Packet.field krC.pkt 32 4) ∧
    (State.finishKey (keyOfBlob headL 0 2 mat1 (List.drop 128 (Cmd.bytes krC))) (at0 rooted krC.pkt)).2 = some (keyOfBlob
      headL 0 2 mat1 [], 0) ∧
    301 = BitVec.toNat linSlot.attr.lineage ∧
    Option.getD (State.curve (at0 rooted krC.pkt) 255) curve0 = Option.getD (State.curve (at0 rooted krC.pkt) (BitVec.toNat
      (keyOfBlob headL 0 2 mat1 []).attr.curve)) curve0 ∧
    (0, 0) = pointAt (Option.getD (State.curve (at0 rooted krC.pkt) 255) curve0).w (beBytes (2 * Curve.bytes (Option.getD
      (State.curve (at0 rooted krC.pkt) 255) curve0)) (BitVec.toNat (keyOfBlob headL 0 2 mat1 []).q)) ∧
    (headL.typ = 5 → (State.testSign (BitVec.toNat (keyOfBlob headL 0 2 mat1 []).attr.curve) (Option.getD (State.curve (at0
      rooted krC.pkt) 255) curve0) mat1 (0, 0).1 (0, 0).2 krC.glitch (State.finishKey (keyOfBlob headL 0 2 mat1 (List.drop 128
      (Cmd.bytes krC))) (at0 rooted krC.pkt)).1).2 = true) :=
  ⟨(by decide +kernel), (by decide +kernel), runs_of (by decide +kernel), (by decide +kernel), (by decide +kernel), reads_of (by rfl) (with_icv _) (by decide +kernel), (by decide +kernel), (by decide +kernel), (by decide +kernel), ok_of (by decide +kernel), (by decide +kernel), (by decide +kernel), fun h => absurd h (by decide +kernel), (by decide +kernel), (by decide +kernel), (by decide +kernel), (by decide +kernel), (by decide +kernel), (by decide +kernel), fun h => absurd h (by decide +kernel)⟩

theorem test_meets_keyInvalidateEntry :
    0 = (State.queue (at0 rooted (kiP [(32, 1), (34, 300)])) (cm (kiP [(32, 1), (34, 300)]) []).q).dom ∧
    ({ zeroGen with kind := 2 }) = State.genLast (at0 rooted (kiP [(32, 1), (34, 300)])) 300 ∧
    ((State.gen (at0 rooted (kiP [(32, 1), (34, 300)])) 300).kind = 2 ∨ (State.gen (at0 rooted (kiP [(32, 1), (34, 300)]))
      300).kind = 3) ∧
    (State.gen (at0 rooted (kiP [(32, 1), (34, 300)])) 300).dom = 0 ∧
    genFull ({ zeroGen with kind := 2 }) = false ∧
    kiP [(32, 1), (34, 300)] = rowPacket 1797 (some 1) (cm (kiP [(32, 1), (34, 300)]) []).pkt ∧
    300 = Packet.field (kiP [(32, 1), (34, 300)]) 34 2 ∧
    Runs 0x0705 (some 1) (cm (kiP [(32, 1), (34, 300)]) []) (at0 rooted (kiP [(32, 1), (34, 300)])) (fl (kiP [(32, 1), (34,
      300)])) :=
  ⟨(by decide +kernel), (by decide +kernel), (by decide +kernel), (by decide +kernel), (by decide +kernel),
    (by decide +kernel), (by decide +kernel), runs_of (by decide +kernel)⟩

theorem test_meets_keyEvict :
    0 = (State.queue (at0 keyed keP) (cm keP []).q).dom ∧
    19 = hIndex (cm keP []).pkt.handleA ∧
    Runs 0x0706 none (cm keP []) (at0 keyed keP) (fl keP) ∧
    State.slot (at0 keyed keP) 19 = some (key 2 256 0 13 0) ∧
    ((key 2 256 0 13 0).st = SlotSt.valid ∨ (key 2 256 0 13 0).st = SlotSt.corrupt) ∧
    Tab.sorted (at0 keyed keP).ks.slots = true :=
  ⟨(by decide +kernel), (by decide +kernel), runs_of (by decide +kernel), (by rfl), (by decide +kernel)⟩

theorem test_meets_keyInvalidateFree :
    0 = (State.queue (at0 rooted (kiP [(32, 2), (34, 300)])) (cm (kiP [(32, 2), (34, 300)]) []).q).dom ∧
    ({ zeroGen with kind := 2 }) = State.genLast (at0 rooted (kiP [(32, 2), (34, 300)])) 300 ∧
    ((State.gen (at0 rooted (kiP [(32, 2), (34, 300)])) 300).kind = 2 ∨ (State.gen (at0 rooted (kiP [(32, 2), (34, 300)]))
      300).kind = 3) ∧
    (State.gen (at0 rooted (kiP [(32, 2), (34, 300)])) 300).dom = 0 ∧
    genFull ({ zeroGen with kind := 2 }) = false ∧
    kiP [(32, 2), (34, 300)] = rowPacket 1797 (some 2) (cm (kiP [(32, 2), (34, 300)]) []).pkt ∧
    300 = Packet.field (kiP [(32, 2), (34, 300)]) 34 2 ∧
    Runs 0x0705 (some 2) (cm (kiP [(32, 2), (34, 300)]) []) (at0 rooted (kiP [(32, 2), (34, 300)])) (fl (kiP [(32, 2), (34,
      300)])) :=
  ⟨(by decide +kernel), (by decide +kernel), (by decide +kernel), (by decide +kernel), (by decide +kernel),
    (by decide +kernel), (by decide +kernel), runs_of (by decide +kernel)⟩

theorem test_meets_keyQuerySlot :
    0 < BitVec.toNat (cm (kqP 33554451 []) []).pkt.outLen ∧
    kqP 33554451 [] = rowPacket 1799 (some 0) (cm (kqP 33554451 []) []).pkt ∧
    Runs 0x0707 (some 0) (cm (kqP 33554451 []) []) (at0 keyed (kqP 33554451 [])) (fl (kqP 33554451 [])) ∧
    (State.readSlot (hIndex (kqP 33554451 []).handleA) (at0 keyed (kqP 33554451 []))).2 = Except.ok (key 2 256 0 13 0) :=
  ⟨(by decide +kernel), (by decide +kernel), runs_of (by decide +kernel),
    reads_of (by rfl) (key_check _ _ _ _ _) (by decide +kernel)⟩

theorem test_meets_nodeRegRead :
    cm (nrP 0) [] = { (cm (nrP 0) []) with pkt := Packet.setByte (cm (nrP 0) []).pkt 33 0 } ∧
    4 = Packet.field (cm (nrP 0) []).pkt 36 4 ∧
    0 = BitVec.setWidth 6 (Packet.byteAt (cm (nrP 0) []).pkt 32) ∧
    Runs 0x0801 none (cm (nrP 0) []) (at0 led (nrP 0)) (fl (nrP 0)) ∧
    0 = (at0 led (nrP 0)).skn.nodeId :=
  ⟨(by rfl), (by decide +kernel), (by decide +kernel), runs_of (by decide +kernel), (by decide +kernel)⟩

theorem test_meets_keyQueryEntry :
    0 < BitVec.toNat (cm (kqP 0 [(32, 1), (34, 300)]) []).pkt.outLen ∧
    kqP 0 [(32, 1), (34, 300)] = rowPacket 1799 (some 1) (cm (kqP 0 [(32, 1), (34, 300)]) []).pkt ∧
    300 = Packet.field (kqP 0 [(32, 1), (34, 300)]) 34 2 ∧
    Runs 0x0707 (some 1) (cm (kqP 0 [(32, 1), (34, 300)]) []) (at0 rooted (kqP 0 [(32, 1), (34, 300)])) (fl (kqP 0 [(32, 1),
      (34, 300)])) :=
  ⟨(by decide +kernel), (by decide +kernel), (by decide +kernel), runs_of (by decide +kernel)⟩

theorem test_meets_keyQuerySummary :
    0 < BitVec.toNat (cm (kqP 0 [(32, 2)]) []).pkt.outLen ∧
    Runs 0x0707 (some 2) (cm (kqP 0 [(32, 2)]) []) (at0 rooted (kqP 0 [(32, 2)])) (fl (kqP 0 [(32, 2)])) :=
  ⟨(by decide +kernel), runs_of (by decide +kernel)⟩

theorem test_meets_nodeRegWrite :
    cm (nrP 1) [] = { (cm (nrP 1) []) with pkt := Packet.setByte (cm (nrP 1) []).pkt 33 1 } ∧
    0 = BitVec.setWidth 6 (Packet.byteAt (cm (nrP 1) []).pkt 32) ∧
    Runs 0x0801 none (cm (nrP 1) []) (at0 led (nrP 1)) (fl (nrP 1)) ∧
    0 = (at0 led (nrP 1)).skn.nodeId ∧
    State.regWrite 4 1 (State.begun 2049 none (cm (nrP 1) []) (fl (nrP 1)) (at0 led (nrP 1))) = State.regWrite (Packet.field
      (cm (nrP 1) []).pkt 36 4) (BitVec.ofNat 32 (Packet.field (cm (nrP 1) []).pkt 40 4)) (State.begun 2049 none (cm (nrP 1)
      []) (fl (nrP 1)) (at0 led (nrP 1))) ∧
    (State.regWrite 4 1 (State.begun 2049 none (cm (nrP 1) []) (fl (nrP 1)) (at0 led (nrP 1)))).queues = (State.begun 2049
      none (cm (nrP 1) []) (fl (nrP 1)) (at0 led (nrP 1))).queues :=
  ⟨(by rfl), (by decide +kernel), runs_of (by decide +kernel), (by decide +kernel), (by rfl), (by rfl)⟩

theorem test_meets_mapSetAsks :
    ((mapOf (Cmd.bytes msC)).1, (mapOf (Cmd.bytes msC)).2) = mapOf (Cmd.bytes msC) ∧
    Runs 0x0802 none msC (at0 (meshed led) msC.pkt) (fl msC.pkt) ∧
    msC.memErr = none ∧
    (at0 (meshed led) msC.pkt).skn.mapAsk = none ∧
    BitVec.toNat (at0 (meshed led) msC.pkt).skn.version < BitVec.toNat (mapOf (Cmd.bytes msC)).2 ∧
    State.nvmStatus (at0 (meshed led) msC.pkt) = none ∧
    State.mapConflict (at0 (meshed led) msC.pkt) (mapOf (Cmd.bytes msC)).1 = none ∧
    (at0 (meshed led) msC.pkt).skn.members ≠ [] ∧
    List.all (State.others (at0 (meshed led) msC.pkt)) (State.reaches (at0 (meshed led) msC.pkt)) = true ∧
    (∀ b ∈ slice (Cmd.bytes msC) 0 4096, b = State.node (at0 (meshed led) msC.pkt) ∨ b < 64 ∧ Option.isSome (Tab.find (at0
      (meshed led) msC.pkt).skn.members (BitVec.toNat b)) = true) :=
  ⟨Prod.mk.eta, runs_of (by decide +kernel), (by decide +kernel), (by decide +kernel), (by
    rw [map_version]
    decide +kernel), (by decide +kernel), (by decide +kernel), (by decide +kernel), (by decide +kernel), fun b h => .inl ((map_zero h).trans (by decide +kernel))⟩

theorem test_meets_mapGet :
    Runs 0x0803 none (cm mgP []) (at0 led mgP) (fl mgP) ∧
    0 < BitVec.toNat (cm mgP []).pkt.outLen :=
  ⟨runs_of (by decide +kernel), (by decide +kernel)⟩

theorem test_meets_nodeMemberAdmit :
    nmP 0 3 8 = rowPacket 2052 (some 0) (cm (nmP 0 3 8) []).pkt ∧
    3 = BitVec.setWidth 6 (Packet.byteAt (nmP 0 3 8) 33) ∧
    8 = BitVec.ofNat 64 (Packet.field (nmP 0 3 8) 40 8) ∧
    Packet.byteAt (nmP 0 3 8) 32 = 0 ∧
    Runs 0x0804 (some 0) (cm (nmP 0 3 8) []) (at0 alone (nmP 0 3 8)) (fl (nmP 0 3 8)) ∧
    (List.find? (fun x => x.1 == 8) (at0 alone (nmP 0 3 8)).skn.candidates = some (8, (key 3 2048 0 10 0).attr.kcv)) ∧
    3 ≠ (at0 alone (nmP 0 3 8)).skn.nodeId ∧
    Tab.find (at0 alone (nmP 0 3 8)).skn.members 3 = none ∧
    State.memberCount (at0 alone (nmP 0 3 8)) < 64 ∧
    (key 3 2048 0 10 0).attr.kcv = State.fpkKcv (at0 alone (nmP 0 3 8)) ∧
    State.nvmStatus (at0 alone (nmP 0 3 8)) = none :=
  ⟨(by decide +kernel), (by decide +kernel), (by decide +kernel), (by decide +kernel), runs_of (by decide +kernel),
    (by decide +kernel)⟩

theorem test_meets_nodeMemberRetire :
    nmP 1 2 8 = rowPacket 2052 (some 1) (cm (nmP 1 2 8) []).pkt ∧
    2 = BitVec.setWidth 6 (Packet.byteAt (nmP 1 2 8) 33) ∧
    mem8.serial = BitVec.ofNat 64 (Packet.field (nmP 1 2 8) 40 8) ∧
    Packet.byteAt (nmP 1 2 8) 32 = 1 ∧
    Runs 0x0804 (some 1) (cm (nmP 1 2 8) []) (at0 pair (nmP 1 2 8)) (fl (nmP 1 2 8)) ∧
    Tab.find (at0 pair (nmP 1 2 8)).skn.members 2 = some mem8 ∧
    List.length (at0 pair (nmP 1 2 8)).skn.retired < 256 ∧
    State.reaches (at0 pair (nmP 1 2 8)) 2 = false ∧
    State.nvmStatus (at0 pair (nmP 1 2 8)) = none ∧
    Tab.sorted (at0 pair (nmP 1 2 8)).skn.members = true :=
  ⟨(by decide +kernel), (by decide +kernel), (by decide +kernel), (by decide +kernel), runs_of (by decide +kernel),
    (by decide +kernel)⟩

theorem test_meets_memberJoin :
    led.skn.head = true ∧
    List.contains led.skn.retired 8 = false ∧
    (Option.any (fun x => x.serial == 8) (Tab.find led.skn.members 3) = false) ∧
    ((List.any led.skn.candidates fun x => x.1 == 8) = false) :=
  by decide +kernel

theorem test_meets_memberUnreachable :
    2 ≠ pair.skn.nodeId ∧
    pair.skn.head = true ∧
    List.contains pair.skn.lost 2 = false ∧
    pair.skn.mapAsk = none :=
  by decide +kernel

theorem test_meets_memberRejoin :
    noted.skn.head = true ∧
    List.contains noted.skn.lost 2 = true :=
  by decide +kernel

theorem test_meets_mapSwitch :
    (withSkn (fun k => { k with newMap := some ([(1, 2)], 9) }) pair).skn.newMap = some ([(1, 2)], 9) :=
  (by decide +kernel)

theorem test_meets_nodeRegReadFar :
    cm (nrQ 0) [] = { (cm (nrQ 0) []) with pkt := Packet.setByte (cm (nrQ 0) []).pkt 33 0 } ∧
    4 = Packet.field (cm (nrQ 0) []).pkt 36 4 ∧
    2 = BitVec.setWidth 6 (Packet.byteAt (cm (nrQ 0) []).pkt 32) ∧
    Runs 0x0801 none (cm (nrQ 0) []) (at0 (meshed led) (nrQ 0)) (fl (nrQ 0)) ∧
    2 ≠ (at0 (meshed led) (nrQ 0)).skn.nodeId ∧
    State.reaches (at0 (meshed led) (nrQ 0)) 2 = true :=
  ⟨(by decide +kernel), (by decide +kernel), (by decide +kernel), runs_of (by decide +kernel), (by decide +kernel)⟩

theorem test_meets_memberJoinRetired :
    barred.skn.head = true ∧
    List.contains barred.skn.retired 8 = true :=
  by decide +kernel

theorem test_meets_nodeRegWriteFar :
    cm (nrQ 1) [] = { (cm (nrQ 1) []) with pkt := Packet.setByte (cm (nrQ 1) []).pkt 33 1 } ∧
    2 = BitVec.setWidth 6 (Packet.byteAt (cm (nrQ 1) []).pkt 32) ∧
    Runs 0x0801 none (cm (nrQ 1) []) (at0 (meshed led) (nrQ 1)) (fl (nrQ 1)) ∧
    2 ≠ (at0 (meshed led) (nrQ 1)).skn.nodeId ∧
    State.reaches (at0 (meshed led) (nrQ 1)) 2 = true :=
  ⟨(by decide +kernel), (by decide +kernel), runs_of (by decide +kernel), (by decide +kernel)⟩

theorem test_meets_memberJoinBack :
    noted.skn.head = true ∧
    List.contains noted.skn.retired 8 = false ∧
    (Option.any (fun x => x.serial == 8) (Tab.find noted.skn.members 2) = true) :=
  by decide +kernel

theorem test_meets_mapSet :
    ((mapOf (Cmd.bytes msC)).1, (mapOf (Cmd.bytes msC)).2) = mapOf (Cmd.bytes msC) ∧
    Runs 0x0802 none msC (at0 led msC.pkt) (fl msC.pkt) ∧
    msC.memErr = none ∧
    (at0 led msC.pkt).skn.mapAsk = none ∧
    BitVec.toNat (at0 led msC.pkt).skn.version < BitVec.toNat (mapOf (Cmd.bytes msC)).2 ∧
    State.nvmStatus (at0 led msC.pkt) = none ∧
    State.mapConflict (at0 led msC.pkt) (mapOf (Cmd.bytes msC)).1 = none ∧
    (at0 led msC.pkt).skn.members = [] ∧
    (∀ b ∈ slice (Cmd.bytes msC) 0 4096, b = State.node (at0 led msC.pkt)) :=
  ⟨Prod.mk.eta, runs_of (by decide +kernel), (by decide +kernel), (by decide +kernel), (by
    rw [map_version]
    decide +kernel), (by decide +kernel), (by decide +kernel), (by decide +kernel), fun b h => (map_zero h).trans (by decide +kernel)⟩

theorem test_meets_memberCutOff :
    (apart led).skn.nodeId ≠ 0 ∧
    (apart led).skn.head = false ∧
    (apart led).skn.mapAsk = none :=
  by decide +kernel

theorem test_meets_memberBack :
    ((withSkn (fun k => { k with lost := [0] }) (apart led)).skn.head = false) ∧
    (List.contains (withSkn (fun k => { k with lost := [0] }) (apart led)).skn.lost 0 = true) :=
  by decide +kernel

theorem test_meets_skeinTraining :
    (State.port (linked PortSt.training) Port.east).st = PortSt.training ∧
    State.entropyOk (linked PortSt.training) = true ∧
    (State.readSlot (BitVec.toNat (linked PortSt.training).skn.keySlot) (linked PortSt.training)).2 = Except.ok (key 3 2048 0
      10 0) ∧
    (key 3 2048 0 10 0).attr.typ = 3 :=
  ⟨(by decide +kernel), (by decide +kernel), reads_of (by rfl) (key_check _ _ _ _ _) (by decide +kernel), (by decide +kernel)⟩

theorem test_meets_skeinLinkFailure :
    (State.port (linked PortSt.up) Port.east).st ≠ PortSt.down ∧
    (linked PortSt.up).arb.waiting = [] :=
  by decide +kernel

theorem test_meets_skeinReconciliation :
    (State.port (linked PortSt.reconciling) Port.east).st = PortSt.reconciling ∧
    (State.port (linked PortSt.reconciling) Port.east).replay = [] ∧
    (State.port (linked PortSt.reconciling) Port.east).egress = [] ∧
    (linked PortSt.reconciling).arb.waiting = [] :=
  by decide +kernel

theorem test_meets_ringEnumeration :
    (linked PortSt.up).skn.en = true :=
  (by decide +kernel)

theorem test_meets_censusGood :
    (State.port (linked PortSt.up) Port.east).st = PortSt.up ∧
    (State.port (linked PortSt.up) Port.east).inService = true ∧
    censusOk (State.port (linked PortSt.up) Port.east) quiet = true :=
  by decide +kernel

theorem test_meets_bwTableSwap :
    (State.port (withSkn (fun k => { k with east := { k.east with swap := true } }) led) Port.east).swap = true :=
  (by decide +kernel)

theorem test_meets_censusBad :
    (State.port (linked PortSt.up) Port.east).st = PortSt.up ∧
    (State.port (linked PortSt.up) Port.east).inService = true ∧
    censusOk (State.port (linked PortSt.up) Port.east) [{ accepted := 3, freed := 0, occupied := 1 }] = false ∧
    (State.port (linked PortSt.up) Port.east).mismatched = false :=
  by decide +kernel

theorem test_meets_heartbeat :
    (State.port (lowHeld 1) Port.east).st = PortSt.lowRate ∧
    1 ≤ (SkPort.vcAt (State.port (lowHeld 1) Port.east) 4).held :=
  by decide +kernel

theorem test_meets_groupGood :
    (State.port (linked PortSt.up) Port.east).key = some 3 ∧
    (87 = match Port.east with | Port.east => 87 | Port.west => 69) ∧
    List.take 12 (gcmTag 3 ((87 : BitVec 32) ++ BitVec.setWidth 64 (0 : BitVec 64)) [] [1, 2]) = List.take 12 (gcmTag 3 ((87 :
      BitVec 32) ++ (0 : BitVec 64)) [] [1, 2]) :=
  by decide +kernel

theorem test_meets_groupBad :
    (State.port (linked PortSt.up) Port.east).key = some 3 ∧
    (87 = match Port.east with | Port.east => 87 | Port.west => 69) ∧
    List.take 12 (gcmTag 3 ((87 : BitVec 32) ++ BitVec.setWidth 64 (0 : BitVec 64)) [] [1, 2]) ≠ [] ∧
    (1 = if (State.port (linked PortSt.up) Port.east).failGroup = 0 then (State.port (linked PortSt.up) Port.east).tagFails +
      1 else 1) :=
  by decide +kernel

theorem test_meets_packetWaits :
    SkPort.isUp (State.port linkedM Port.east) = true ∧
    BitVec.toNat (skp 0 2 0 0 5).vc < 5 ∧
    List.length (skp 0 2 0 0 5).payload ≤ 1072 ∧
    State.hasRoom Port.east (skp 0 2 0 0 5) linkedM = true ∧
    State.carries linkedM (skp 0 2 0 0 5) = true ∧
    1 = Tab.get linkedM.skn.rxSeq (rxKey (skp 0 2 0 0 5)) 1 ∧
    (skp 0 2 0 0 5).dest = State.node linkedM ∧
    (skp 0 2 0 0 5).src ≠ State.node linkedM ∧
    1 < BitVec.toNat (skp 0 2 0 0 5).seq :=
  ⟨(by decide +kernel), (by decide +kernel), (by decide +kernel), (by decide +kernel), carries_of (by decide +kernel),
    (by decide +kernel)⟩

theorem test_meets_packetTransit :
    SkPort.isUp (State.port bothWays Port.east) = true ∧
    BitVec.toNat (skp 5 2 0 0 1).vc < 5 ∧
    List.length (skp 5 2 0 0 1).payload ≤ 1072 ∧
    State.hasRoom Port.east (skp 5 2 0 0 1) bothWays = true ∧
    State.carries bothWays (skp 5 2 0 0 1) = true ∧
    1 = Tab.get bothWays.skn.rxSeq (rxKey (skp 5 2 0 0 1)) 1 ∧
    (skp 5 2 0 0 1).dest ≠ State.node bothWays ∧
    (skp 5 2 0 0 1).dest ≠ 255 ∧
    SkPort.isUp (State.port bothWays (otherPort Port.east)) = true :=
  ⟨(by decide +kernel), (by decide +kernel), (by decide +kernel), (by decide +kernel), carries_of (by decide +kernel),
    (by decide +kernel)⟩

theorem test_meets_packetDoorbell :
    SkPort.isUp (State.port linkedM Port.east) = true ∧
    BitVec.toNat (skp 0 2 0 (Config.skeinType 0) 1).vc < 5 ∧
    List.length (skp 0 2 0 (Config.skeinType 0) 1).payload ≤ 1072 ∧
    State.hasRoom Port.east (skp 0 2 0 (Config.skeinType 0) 1) linkedM = true ∧
    State.carries linkedM (skp 0 2 0 (Config.skeinType 0) 1) = true ∧
    1 = Tab.get linkedM.skn.rxSeq (rxKey (skp 0 2 0 (Config.skeinType 0) 1)) 1 ∧
    (skp 0 2 0 (Config.skeinType 0) 1).dest = State.node linkedM ∧
    (skp 0 2 0 (Config.skeinType 0) 1).src ≠ State.node linkedM ∧
    (skp 0 2 0 (Config.skeinType 0) 1).seq = 1 ∧
    linkedM.skn.rxBuf = [] ∧
    linkedM.skn.parts = [] ∧
    List.length (skp 0 2 0 (Config.skeinType 0) 1).payload < 1072 ∧
    packetKind (skp 0 2 0 (Config.skeinType 0) 1) = some SkKind.doorbell :=
  ⟨(by decide +kernel), (by decide +kernel), (by decide +kernel), (by decide +kernel), carries_of (by decide +kernel), (by decide +kernel), (by decide +kernel), (by decide +kernel), (by decide +kernel), (by decide +kernel), (by decide +kernel), (by decide +kernel), kind_zero⟩

theorem test_meets_skeinForward :
    (State.port (eastEgress 100) Port.east).egress = [(none, skp 5 0 0 0 1)] ∧
    (State.port (eastEgress 100) Port.east).st = PortSt.up ∧
    (State.port (eastEgress 100) Port.east).inService = true ∧
    BitVec.toNat (skp 5 0 0 0 1).vc < 5 ∧
    none ≠ some Port.east ∧
    skFlits (skp 5 0 0 0 1) ≤ (SkPort.vcAt (State.port (eastEgress 100) Port.east) (BitVec.toNat (skp 5 0 0 0 1).vc)).held :=
  by decide +kernel

theorem test_meets_remoteWrite :
    (linked PortSt.up).skn.head = true :=
  (by decide +kernel)

theorem test_meets_remoteMsix :
    ({ linked PortSt.up with gctl := { up.gctl with msix := [(3, 1)] } }).skn.head = true ∧
    BitVec.getLsbD (State.msixEntry ({ linked PortSt.up with gctl := { up.gctl with msix := [(3, 1)] } }) 3) 96 = false :=
  by decide +kernel

theorem test_meets_remoteRead :
    (linked PortSt.up).skn.head = true ∧
    (State.port (linked PortSt.up) (State.wayTo (linked PortSt.up) 2)).st = PortSt.up ∧
    (State.port (linked PortSt.up) (State.wayTo (linked PortSt.up) 2)).inService = true ∧
    (State.port (linked PortSt.up) (State.wayTo (linked PortSt.up) 2)).egress = [] ∧
    List.length [1, 2] < 1072 ∧
    1 + ceilDiv (List.length [1, 2] - 48) 64 ≤ (SkPort.vcAt (State.port (linked PortSt.up) (State.wayTo (linked PortSt.up) 2))
      2).held :=
  by decide +kernel

theorem test_meets_heartbeatHeld :
    (State.port (lowHeld 0) Port.east).st = PortSt.lowRate ∧
    (SkPort.vcAt (State.port (lowHeld 0) Port.east) 4).held = 0 :=
  by decide +kernel

theorem test_meets_ringOpen :
    (linked PortSt.up).skn.en = true ∧
    (linked PortSt.up).skn.head = true :=
  by decide +kernel

theorem test_meets_lowRateReturn :
    (State.port (lowHeld 0) Port.east).st = PortSt.lowRate :=
  (by decide +kernel)

theorem test_meets_groupFails :
    (State.port failing Port.east).key = some 3 ∧
    (87 = match Port.east with | Port.east => 87 | Port.west => 69) ∧
    List.take 12 (gcmTag 3 ((87 : BitVec 32) ++ BitVec.setWidth 64 (0 : BitVec 64)) [] [1, 2]) ≠ [] ∧
    (8 = if (State.port failing Port.east).failGroup = 0 then (State.port failing Port.east).tagFails + 1 else 1) ∧
    (State.port failing Port.east).st ≠ PortSt.down :=
  by decide +kernel

theorem test_meets_packetBehind :
    SkPort.isUp (State.port linkedM Port.east) = true ∧
    BitVec.toNat (skp 0 2 0 0 0).vc < 5 ∧
    List.length (skp 0 2 0 0 0).payload ≤ 1072 ∧
    State.hasRoom Port.east (skp 0 2 0 0 0) linkedM = true ∧
    State.carries linkedM (skp 0 2 0 0 0) = true ∧
    1 = Tab.get linkedM.skn.rxSeq (rxKey (skp 0 2 0 0 0)) 1 ∧
    (skp 0 2 0 0 0).dest = State.node linkedM ∧
    (skp 0 2 0 0 0).src ≠ State.node linkedM ∧
    BitVec.toNat (skp 0 2 0 0 0).seq < 1 :=
  ⟨(by decide +kernel), (by decide +kernel), (by decide +kernel), (by decide +kernel), carries_of (by decide +kernel),
    (by decide +kernel)⟩

theorem test_meets_groupNoKey :
    (State.port led Port.east).key = none :=
  (by decide +kernel)

theorem test_meets_packetNoRoom :
    SkPort.isUp (State.port fullPort Port.east) = true ∧
    (State.port fullPort Port.east).inService = true ∧
    State.hasRoom Port.east (skp 5 2 0 0 1) fullPort = false :=
  by decide +kernel

theorem test_meets_skeinForwardHeld :
    (State.port (eastEgress 0) Port.east).egress = [(none, skp 5 0 0 0 1)] ∧
    (State.port (eastEgress 0) Port.east).st = PortSt.up ∧
    (State.port (eastEgress 0) Port.east).inService = true ∧
    BitVec.toNat (skp 5 0 0 0 1).vc < 5 ∧
    none ≠ some Port.east ∧
    (SkPort.vcAt (State.port (eastEgress 0) Port.east) (BitVec.toNat (skp 5 0 0 0 1).vc)).held < skFlits (skp 5 0 0 0 1) ∧
    (State.port (eastEgress 0) Port.east).txFlits = [] :=
  by decide +kernel

theorem test_meets_remoteJournal :
    (linked PortSt.up).skn.head = true :=
  (by decide +kernel)

theorem test_meets_sensorRead :
    0 < BitVec.toNat (cm (mP 2561 [] 64) []).pkt.outLen ∧
    Runs 0x0A01 none (cm (mP 2561 [] 64) []) (at0 up (mP 2561 [] 64)) (fl (mP 2561 [] 64)) :=
  ⟨(by decide +kernel), runs_of (by decide +kernel)⟩

theorem test_meets_logRead :
    0 < BitVec.toNat (cm (mP 2562 [(40, 1)] 64) []).pkt.outLen ∧
    Runs 0x0A02 none (cm (mP 2562 [(40, 1)] 64) []) (at0 up (mP 2562 [(40, 1)] 64)) (fl (mP 2562 [(40, 1)] 64)) ∧
    State.readStatus (at0 up (mP 2562 [(40, 1)] 64)) = none ∧
    ([] = List.take (BitVec.toNat (Packet.byteAt (cm (mP 2562 [(40, 1)] 64) []).pkt 40)) (List.filter (fun r => decide
      (Packet.field (cm (mP 2562 [(40, 1)] 64) []).pkt 32 8 ≤ leAt r 0 8)) (Keeper.logRecords (at0 up (mP 2562 [(40, 1)]
      64)).kp))) :=
  ⟨(by decide +kernel), runs_of (by decide +kernel), (by decide +kernel)⟩

theorem test_meets_keeperStatus :
    0 < BitVec.toNat (cm (mP 2572 [] 64) []).pkt.outLen ∧
    Runs 0x0A0C none (cm (mP 2572 [] 64) []) (at0 up (mP 2572 [] 64)) (fl (mP 2572 [] 64)) :=
  ⟨(by decide +kernel), runs_of (by decide +kernel)⟩

theorem test_meets_fwStatus :
    0 < BitVec.toNat (cm (mP 2575 [] 64) []).pkt.outLen ∧
    Runs 0x0A0F none (cm (mP 2575 [] 64) []) (at0 up (mP 2575 [] 64)) (fl (mP 2575 [] 64)) ∧
    State.readStatus (at0 up (mP 2575 [] 64)) = none ∧
    ((0, 0) = match (at0 up (mP 2575 [] 64)).mss.ho with | some h => (BitVec.ofNat 8 h.step, 0) | none => ((at0 up (mP 2575 []
      64)).mss.hoStep, (at0 up (mP 2575 [] 64)).mss.hoOutcome)) :=
  ⟨(by decide +kernel), runs_of (by decide +kernel), (by decide +kernel)⟩

theorem test_meets_settingGet :
    0 < BitVec.toNat (cm (mP 2576 [(36, keySmbus)] 64) []).pkt.outLen ∧
    mP 2576 [(36, keySmbus)] 64 = rowPacket 2576 (some 0) (cm (mP 2576 [(36, keySmbus)] 64) []).pkt ∧
    Runs 0x0A10 (some 0) (cm (mP 2576 [(36, keySmbus)] 64) []) (at0 up (mP 2576 [(36, keySmbus)] 64)) (fl (mP 2576 [(36,
      keySmbus)] 64)) ∧
    State.readStatus (at0 up (mP 2576 [(36, keySmbus)] 64)) = none ∧
    settingDefault (Packet.field (mP 2576 [(36, keySmbus)] 64) 36 4) = some [98, 2] ∧
    State.settingBytes (at0 up (mP 2576 [(36, keySmbus)] 64)) (Packet.field (mP 2576 [(36, keySmbus)] 64) 36 4) [98, 2] ≠ [] :=
  ⟨(by decide +kernel), (by decide +kernel), runs_of (by decide +kernel), (by decide +kernel)⟩

theorem test_meets_challenge :
    0 < BitVec.toNat (cm (mP 2563 [] 16) []).pkt.outLen ∧
    Runs 0x0A03 none (cm (mP 2563 [] 16) []) (at0 keyed (mP 2563 [] 16)) (fl (mP 2563 [] 16)) :=
  ⟨(by decide +kernel), runs_of (by decide +kernel)⟩

theorem test_meets_tamperConfigRead :
    RunsSide 0x0A07 (some 0) (side 2567 [] [] 64) up :=
  runsSide_of (by decide +kernel)

theorem test_meets_tamperConfigWrite :
    RunsSide 0x0A07 (some 1) (side 2567 [(32, 1)] tamperBytes 0) up ∧
    (side 2567 [(32, 1)] tamperBytes 0).memErr = none ∧
    tamperRecordOk (Cmd.bytes (side 2567 [(32, 1)] tamperBytes 0)) = true ∧
    (up.life.count = 3 ∨ up.life.count = 5 → weakens (leBytes 64 (BitVec.toNat up.tmp.cfg)) (Cmd.bytes (side 2567 [(32, 1)]
      tamperBytes 0)) = false) ∧
    (up.life.count = 3 → belowFloor (Cmd.bytes (side 2567 [(32, 1)] tamperBytes 0)) = false) :=
  ⟨runsSide_of (by decide +kernel), (by decide +kernel), tamper_default, (by decide +kernel), (by decide +kernel)⟩

theorem test_meets_tamperReleaseIdle :
    RunsSide 0x0A08 none (side 2568 [] [] 0) up ∧
    up.tmp.level = 0 :=
  ⟨runsSide_of (by decide +kernel), (by decide +kernel)⟩

theorem test_meets_tamperRelease :
    RunsSide 0x0A08 none (side 2568 [] [] 0) levelled ∧
    levelled.tmp.level ≠ 0 ∧
    State.holdSource levelled = false ∧
    levelled.tmp.stage = RespStage.idle ∧
    levelled.tmp.releasing = false :=
  ⟨runsSide_of (by decide +kernel), (by decide +kernel)⟩

theorem test_meets_lifecycle :
    3 = Packet.byteAt lcC.pkt 32 ∧
    Runs 0x0A04 none lcC (at0 lcS lcC.pkt) (fl lcC.pkt) ∧
    lcC.memErr = none ∧
    transitionBy (BitVec.toNat (at0 lcS lcC.pkt).life.count) 3 = some true ∧
    (at0 lcS lcC.pkt).life.challenge = some 9 ∧
    (State.authority (at0 lcS lcC.pkt) true).2 = some ((curve0.gx, curve0.gy), 0) ∧
    sm2Verify curve0 (sm2E 0 (authMessage (at0 lcS lcC.pkt) 3 9)) (beNat (slice (Cmd.bytes lcC) 0 32)) (beNat (slice
      (Cmd.bytes lcC) 32 32)) (curve0.gx, curve0.gy).1 (curve0.gx, curve0.gy).2 = true ∧
    State.holding (at0 lcS lcC.pkt) = false :=
  ⟨(by decide +kernel), runs_of (by decide +kernel), (by decide +kernel), (by decide +kernel), (by decide +kernel),
    authority_of (by rfl) (key_check _ _ _ _ _) (by decide +kernel) (by decide +kernel), (by decide +kernel)⟩

theorem test_meets_nvmRawRead :
    0 = BitVec.toNat (Packet.byteAt rrC.pkt 32) ∧
    rrC.pkt = rowPacket 2569 none rrC.pkt ∧
    RunsSide 0x0A09 none rrC up ∧
    rawRefusal up 0 false = none ∧
    Tab.sorted up.kp.regionFails = true ∧
    (State.passwordOk 0 (rawPassword rrC.pkt false []) up).2 = true ∧
    rawRangeOk (sideCtx rrC rrC.pkt) 0 = true ∧
    State.rawBytes up 0 (BitVec.toNat (Packet.byteAt rrC.pkt 33)) (Packet.field rrC.pkt 36 4) (Packet.field rrC.pkt 44 2) =
      Except.ok (zeros 8) :=
  ⟨(by decide +kernel), (by decide +kernel), runsSide_of (by decide +kernel), (by decide +kernel), (by decide +kernel),
    password_of ⟨rfl, rfl⟩ rfl (by decide +kernel) (by decide +kernel), (by decide +kernel), ok_of (by decide +kernel)⟩

theorem test_meets_enrolFirst :
    RunsSide 0x0A06 none enrolC (lifed 1) ∧
    enrolC.memErr = none ∧
    State.nvmStatus (lifed 1) = none ∧
    packageOk (lifed 1) (Cmd.bytes enrolC) = true ∧
    State.holding (lifed 1) = false ∧
    BitVec.toNat (lifed 1).life.count = 1 :=
  ⟨runsSide_of (by decide +kernel), (by decide +kernel)⟩

theorem test_meets_nvmRawWrite :
    3 = BitVec.toNat (Packet.byteAt rwC.pkt 32) ∧
    rwC.pkt = rowPacket 2570 none rwC.pkt ∧
    RunsSide 0x0A0A none rwC up ∧
    rwC.memErr = none ∧
    rawRefusal up 3 true = none ∧
    (State.passwordOk 3 (rawPassword rwC.pkt (3 == 7) (Cmd.bytes rwC)) up).2 = true ∧
    rawRangeOk (sideCtx rwC rwC.pkt) 3 = true ∧
    mssRecordOk (98560 + Packet.field rwC.pkt 36 4) (List.length (Cmd.bytes rwC)) = true ∧
    up.kp.queue = [] :=
  ⟨(by decide +kernel), (by decide +kernel), runsSide_of (by decide +kernel), (by decide +kernel), (by decide +kernel),
    password_of ⟨rfl, rfl⟩ rfl (by decide +kernel) (by decide +kernel), (by decide +kernel)⟩

theorem test_meets_enrolAgain :
    RunsSide 0x0A06 none enrolC again ∧
    enrolC.memErr = none ∧
    State.nvmStatus again = none ∧
    packageOk again (Cmd.bytes enrolC) = true ∧
    State.holding again = false ∧
    (BitVec.toNat again.life.count = 2 ∨ BitVec.toNat again.life.count = 3) ∧
    Tab.find again.ks.shares 3 = none ∧
    Option.isSome again.life.ownerHash = true :=
  ⟨runsSide_of (by decide +kernel), (by decide +kernel)⟩

theorem test_meets_nvmPasswordSet :
    3 = BitVec.toNat (Packet.byteAt rpC.pkt 32) ∧
    rpC.pkt = rowPacket 2571 none rpC.pkt ∧
    RunsSide 0x0A0B none rpC up ∧
    rpC.memErr = none ∧
    rawRefusal up 3 false = none ∧
    (State.passwordOk 3 (rawPassword rpC.pkt false []) up).2 = true ∧
    up.kp.queue = [] :=
  ⟨(by decide +kernel), (by decide +kernel), runsSide_of (by decide +kernel), (by decide +kernel), (by decide +kernel),
    password_of ⟨rfl, rfl⟩ rfl (by decide +kernel) (by decide +kernel), (by decide +kernel)⟩

theorem test_meets_fwStageBegin :
    mP 2573 [(32, 0), (33, 2)] 0 = rowPacket 2573 (some 0) (cm (mP 2573 [(32, 0), (33, 2)] 0) []).pkt ∧
    2 = BitVec.toNat (Packet.byteAt (mP 2573 [(32, 0), (33, 2)] 0) 33) ∧
    true = BootRec.spare (at0 up (mP 2573 [(32, 0), (33, 2)] 0)).mss.boot 2 ∧
    3 = bankNo 2 true ∧
    (2 = 1 ∨ 2 = 2) ∧
    Runs 0x0A0D (some 0) (cm (mP 2573 [(32, 0), (33, 2)] 0) []) (at0 up (mP 2573 [(32, 0), (33, 2)] 0)) (fl (mP 2573 [(32, 0),
      (33, 2)] 0)) ∧
    State.nvmStatus (at0 up (mP 2573 [(32, 0), (33, 2)] 0)) = none ∧
    (at0 up (mP 2573 [(32, 0), (33, 2)] 0)).mss.staging = none ∧
    (2 = 1 → (at0 up (mP 2573 [(32, 0), (33, 2)] 0)).mss.ho = none) ∧
    Keeper.bankBad (at0 up (mP 2573 [(32, 0), (33, 2)] 0)).kp 3 = false :=
  ⟨(by decide +kernel), (by decide +kernel), (by decide +kernel), (by decide +kernel), (by decide +kernel), runs_of
    (by decide +kernel), (by decide +kernel)⟩

theorem test_meets_fwStageEnd :
    (at0 staging (mP 2573 [(32, 2), (33, 2), (36, 256)] 0)).mss.staging = some stg ∧
    stg.kind = Packet.byteAt (mP 2573 [(32, 2), (33, 2), (36, 256)] 0) 33 ∧
    stg.via = Transport.host ∧
    3 = bankNo (BitVec.toNat stg.kind) stg.bankB ∧
    mP 2573 [(32, 2), (33, 2), (36, 256)] 0 = rowPacket 2573 (some 2) (cm (mP 2573 [(32, 2), (33, 2), (36, 256)] 0) []).pkt ∧
    Runs 0x0A0D (some 2) (cm (mP 2573 [(32, 2), (33, 2), (36, 256)] 0) []) (at0 staging (mP 2573 [(32, 2), (33, 2), (36, 256)]
      0)) (fl (mP 2573 [(32, 2), (33, 2), (36, 256)] 0)) ∧
    State.nvmStatus (at0 staging (mP 2573 [(32, 2), (33, 2), (36, 256)] 0)) = none ∧
    Packet.field (mP 2573 [(32, 2), (33, 2), (36, 256)] 0) 36 4 = stg.next :=
  ⟨(by decide +kernel), (by decide +kernel), (by decide +kernel), (by decide +kernel), (by decide +kernel), runs_of
    (by decide +kernel), (by decide +kernel)⟩

theorem test_meets_fwStageChunk :
    (at0 staging (cmd (mP 2573 [(32, 1), (33, 2), (36, 256)] 0) [1, 2]).pkt).mss.staging = some stg ∧
    stg.kind = Packet.byteAt (cmd (mP 2573 [(32, 1), (33, 2), (36, 256)] 0) [1, 2]).pkt 33 ∧
    stg.via = Transport.host ∧
    3 = bankNo (BitVec.toNat stg.kind) stg.bankB ∧
    (cmd (mP 2573 [(32, 1), (33, 2), (36, 256)] 0) [1, 2]).pkt = rowPacket 2573 (some 1) (cmd (mP 2573 [(32, 1), (33, 2), (36,
      256)] 0) [1, 2]).pkt ∧
    Runs 0x0A0D (some 1) (cmd (mP 2573 [(32, 1), (33, 2), (36, 256)] 0) [1, 2]) (at0 staging (cmd (mP 2573 [(32, 1), (33, 2),
      (36, 256)] 0) [1, 2]).pkt) (fl (cmd (mP 2573 [(32, 1), (33, 2), (36, 256)] 0) [1, 2]).pkt) ∧
    (cmd (mP 2573 [(32, 1), (33, 2), (36, 256)] 0) [1, 2]).memErr = none ∧
    State.nvmStatus (at0 staging (cmd (mP 2573 [(32, 1), (33, 2), (36, 256)] 0) [1, 2]).pkt) = none ∧
    Packet.field (cmd (mP 2573 [(32, 1), (33, 2), (36, 256)] 0) [1, 2]).pkt 36 4 = stg.next ∧
    stg.next % 256 = 0 ∧
    stg.next + List.length (Cmd.bytes (cmd (mP 2573 [(32, 1), (33, 2), (36, 256)] 0) [1, 2])) ≤ bankSize 3 :=
  ⟨(by decide +kernel), (by decide +kernel), (by decide +kernel), (by decide +kernel), (by decide +kernel), runs_of
    (by decide +kernel), (by decide +kernel)⟩

theorem test_meets_fwStageAbandon :
    (at0 staging (mP 2573 [(32, 3), (33, 2)] 0)).mss.staging = some stg ∧
    stg.kind = Packet.byteAt (mP 2573 [(32, 3), (33, 2)] 0) 33 ∧
    stg.via = Transport.host ∧
    3 = bankNo (BitVec.toNat stg.kind) stg.bankB ∧
    mP 2573 [(32, 3), (33, 2)] 0 = rowPacket 2573 (some 3) (cm (mP 2573 [(32, 3), (33, 2)] 0) []).pkt ∧
    Runs 0x0A0D (some 3) (cm (mP 2573 [(32, 3), (33, 2)] 0) []) (at0 staging (mP 2573 [(32, 3), (33, 2)] 0)) (fl (mP 2573
      [(32, 3), (33, 2)] 0)) :=
  ⟨(by decide +kernel), (by decide +kernel), (by decide +kernel), (by decide +kernel), (by decide +kernel), runs_of
    (by decide +kernel)⟩

theorem test_meets_fwHandover :
    Runs 0x0A0E (some 0) (cm (mP 2574 [(32, 0), (33, 1)] 0) []) (at0 imaged (mP 2574 [(32, 0), (33, 1)] 0)) (fl (mP 2574 [(32,
      0), (33, 1)] 0)) ∧
    BootRec.state (at0 imaged (mP 2574 [(32, 0), (33, 1)] 0)).mss.boot (bankNo 1 (BootRec.spare (at0 imaged (mP 2574 [(32, 0),
      (33, 1)] 0)).mss.boot 1)) = 1 ∧
    (at0 imaged (mP 2574 [(32, 0), (33, 1)] 0)).mss.ho = none :=
  ⟨runs_of (by decide +kernel), (by decide +kernel)⟩

theorem test_meets_fwCommitSv :
    mP 2574 [(32, 2), (33, 1)] 0 = rowPacket 2574 (some 2) (cm (mP 2574 [(32, 2), (33, 1)] 0) []).pkt ∧
    1 = BitVec.toNat (Packet.byteAt (mP 2574 [(32, 2), (33, 1)] 0) 33) ∧
    (1 = 1 ∨ 1 = 2) ∧
    Runs 0x0A0E (some 2) (cm (mP 2574 [(32, 2), (33, 1)] 0) []) (at0 imaged (mP 2574 [(32, 2), (33, 1)] 0)) (fl (mP 2574 [(32,
      2), (33, 1)] 0)) ∧
    State.runningSv (at0 imaged (mP 2574 [(32, 2), (33, 1)] 0)) 1 = some 2 :=
  ⟨(by decide +kernel), (by decide +kernel), (by decide +kernel), runs_of (by decide +kernel), (by decide +kernel)⟩

theorem test_meets_fwReboot :
    Runs 0x0A0E (some 1) (cm (mP 2574 [(32, 1), (33, 2)] 0) []) (at0 imaged (mP 2574 [(32, 1), (33, 2)] 0)) (fl (mP 2574 [(32,
      1), (33, 2)] 0)) ∧
    State.nvmStatus (at0 imaged (mP 2574 [(32, 1), (33, 2)] 0)) = none ∧
    BootRec.state (at0 imaged (mP 2574 [(32, 1), (33, 2)] 0)).mss.boot (bankNo 2 (BootRec.spare (at0 imaged (mP 2574 [(32, 1),
      (33, 2)] 0)).mss.boot 2)) = 1 :=
  ⟨runs_of (by decide +kernel), (by decide +kernel)⟩

theorem test_meets_settingDefault :
    keySeverity = Packet.field (mP 2576 [(32, 2), (36, keySeverity)] 0) 36 4 ∧
    State.nvmStatus (at0 (withRec (roomy up)) (mP 2576 [(32, 2), (36, keySeverity)] 0)) = none ∧
    settingDefault keySeverity = some [2] ∧
    mP 2576 [(32, 2), (36, keySeverity)] 0 = rowPacket 2576 (some 2) (cm (mP 2576 [(32, 2), (36, keySeverity)] 0) []).pkt ∧
    Runs 0x0A10 (some 2) (cm (mP 2576 [(32, 2), (36, keySeverity)] 0) []) (at0 (withRec (roomy up)) (mP 2576 [(32, 2), (36,
      keySeverity)] 0)) (fl (mP 2576 [(32, 2), (36, keySeverity)] 0)) ∧
    State.flashTakes (at0 (withRec (roomy up)) (mP 2576 [(32, 2), (36, keySeverity)] 0)) FlashArea.config 0 ∧
    Tab.sorted (at0 (withRec (roomy up)) (mP 2576 [(32, 2), (36, keySeverity)] 0)).kp.records = true :=
  ⟨(by decide +kernel), (by decide +kernel), (by decide +kernel), (by decide +kernel), runs_of (by decide +kernel),
    (by unfold State.flashTakes; decide +kernel), (by decide +kernel)⟩

theorem test_meets_settingSet :
    keySeverity = Packet.field (cmd (mP 2576 [(32, 1), (36, keySeverity)] 0) [3]).pkt 36 4 ∧
    State.nvmStatus (at0 (roomy up) (cmd (mP 2576 [(32, 1), (36, keySeverity)] 0) [3]).pkt) = none ∧
    settingDefault keySeverity = some [2] ∧
    (cmd (mP 2576 [(32, 1), (36, keySeverity)] 0) [3]).pkt = rowPacket 2576 (some 1) (cmd (mP 2576 [(32, 1), (36,
      keySeverity)] 0) [3]).pkt ∧
    Runs 0x0A10 (some 1) (cmd (mP 2576 [(32, 1), (36, keySeverity)] 0) [3]) (at0 (roomy up) (cmd (mP 2576 [(32, 1), (36,
      keySeverity)] 0) [3]).pkt) (fl (cmd (mP 2576 [(32, 1), (36, keySeverity)] 0) [3]).pkt) ∧
    (cmd (mP 2576 [(32, 1), (36, keySeverity)] 0) [3]).memErr = none ∧
    List.length (Cmd.bytes (cmd (mP 2576 [(32, 1), (36, keySeverity)] 0) [3])) = List.length [2] ∧
    settingOk keySeverity (Cmd.bytes (cmd (mP 2576 [(32, 1), (36, keySeverity)] 0) [3])) = true ∧
    State.flashTakes (at0 (roomy up) (cmd (mP 2576 [(32, 1), (36, keySeverity)] 0) [3]).pkt) FlashArea.config (List.length [2]
      + 2) :=
  ⟨(by decide +kernel), (by decide +kernel), (by decide +kernel), (by decide +kernel), runs_of (by decide +kernel),
    (by decide +kernel), (by decide +kernel), (by decide +kernel), (by unfold State.flashTakes; decide +kernel)⟩

theorem test_meets_unitRemove :
    80 = BitVec.toNat (Packet.byteAt (usC 0 80 0) 33) ∧
    32 = State.sparesLeft (at0 up (usC 0 80 0)) (rowChannel (BitVec.ofNat 20 (Packet.field (usC 0 80 0) 36 4))) ∧
    Tab.find (at0 up (usC 0 80 0)).arb.returning 80 = none ∧
    usC 0 80 0 = rowPacket 2565 (some 0) (cm (usC 0 80 0) []).pkt ∧
    Runs 0x0A05 (some 0) (cm (usC 0 80 0) []) (at0 up (usC 0 80 0)) (fl (usC 0 80 0)) ∧
    (at0 up (usC 0 80 0)).mss.st = MssSt.running ∧
    (80 < 16 → (at0 up (usC 0 80 0)).mss.ho = none) ∧
    State.unitOut (at0 up (usC 0 80 0)) 80 = false ∧
    State.lastCore (at0 up (usC 0 80 0)) 80 = false ∧
    (80 < 32 ∨ 72 ≤ 80) :=
  ⟨(by decide +kernel), (by decide +kernel), (by decide +kernel), (by decide +kernel), runs_of (by decide +kernel),
    (by decide +kernel)⟩

theorem test_meets_spindleRemove :
    41 = BitVec.toNat (Packet.byteAt (usC 0 41 0) 33) ∧
    32 = State.sparesLeft (at0 keyed (usC 0 41 0)) (rowChannel (BitVec.ofNat 20 (Packet.field (usC 0 41 0) 36 4))) ∧
    Tab.find (at0 keyed (usC 0 41 0)).arb.returning 41 = none ∧
    usC 0 41 0 = rowPacket 2565 (some 0) (cm (usC 0 41 0) []).pkt ∧
    Runs 0x0A05 (some 0) (cm (usC 0 41 0) []) (at0 keyed (usC 0 41 0)) (fl (usC 0 41 0)) ∧
    (at0 keyed (usC 0 41 0)).mss.st = MssSt.running ∧
    (41 < 16 → (at0 keyed (usC 0 41 0)).mss.ho = none) ∧
    State.unitOut (at0 keyed (usC 0 41 0)) 41 = false ∧
    State.lastCore (at0 keyed (usC 0 41 0)) 41 = false ∧
    41 = spindleCode 9 ∧
    Spindle.jobsHeld (State.spindle (at0 keyed (usC 0 41 0)) 9) = [] :=
  ⟨(by decide +kernel), (by decide +kernel), (by decide +kernel), (by decide +kernel), runs_of (by decide +kernel),
    (by decide +kernel)⟩

theorem test_meets_spindleReturn :
    41 = BitVec.toNat (Packet.byteAt (usC 1 41 0) 33) ∧
    32 = State.sparesLeft (at0 missing (usC 1 41 0)) (rowChannel (BitVec.ofNat 20 (Packet.field (usC 1 41 0) 36 4))) ∧
    Tab.find (at0 missing (usC 1 41 0)).arb.returning 41 = none ∧
    usC 1 41 0 = rowPacket 2565 (some 1) (cm (usC 1 41 0) []).pkt ∧
    Runs 0x0A05 (some 1) (cm (usC 1 41 0) []) (at0 missing (usC 1 41 0)) (fl (usC 1 41 0)) ∧
    (at0 missing (usC 1 41 0)).mss.st = MssSt.running ∧
    State.holding (at0 missing (usC 1 41 0)) = false ∧
    State.unitOut (at0 missing (usC 1 41 0)) 41 = true ∧
    41 = spindleCode 9 :=
  ⟨(by decide +kernel), (by decide +kernel), (by decide +kernel), (by decide +kernel), runs_of (by decide +kernel),
    (by decide +kernel)⟩

theorem test_meets_unitReturn :
    80 = BitVec.toNat (Packet.byteAt (usC 1 80 0) 33) ∧
    32 = State.sparesLeft (at0 missing (usC 1 80 0)) (rowChannel (BitVec.ofNat 20 (Packet.field (usC 1 80 0) 36 4))) ∧
    Tab.find (at0 missing (usC 1 80 0)).arb.returning 80 = none ∧
    usC 1 80 0 = rowPacket 2565 (some 1) (cm (usC 1 80 0) []).pkt ∧
    Runs 0x0A05 (some 1) (cm (usC 1 80 0) []) (at0 missing (usC 1 80 0)) (fl (usC 1 80 0)) ∧
    (at0 missing (usC 1 80 0)).mss.st = MssSt.running ∧
    State.holding (at0 missing (usC 1 80 0)) = false ∧
    State.unitOut (at0 missing (usC 1 80 0)) 80 = true ∧
    (80 < 32 ∨ 72 ≤ 80) :=
  ⟨(by decide +kernel), (by decide +kernel), (by decide +kernel), (by decide +kernel), runs_of (by decide +kernel),
    (by decide +kernel)⟩

theorem test_meets_rowSpareAsked :
    0 = BitVec.toNat (Packet.byteAt (usC 2 0 5) 33) ∧
    32 = State.sparesLeft (at0 up (usC 2 0 5)) (rowChannel (BitVec.ofNat 20 (Packet.field (usC 2 0 5) 36 4))) ∧
    Tab.find (at0 up (usC 2 0 5)).arb.returning 0 = none ∧
    List.contains (at0 up (usC 2 0 5)).mem.copying 5 = false ∧
    List.contains (at0 up (usC 2 0 5)).mem.spared 5 = false ∧
    State.sparesLeft (at0 up (usC 2 0 5)) (rowChannel 5) ≠ 0 ∧
    usC 2 0 5 = rowPacket 2565 (some 2) (cm (usC 2 0 5) []).pkt ∧
    5 = BitVec.ofNat 20 (Packet.field (usC 2 0 5) 36 4) ∧
    Runs 0x0A05 (some 2) (cm (usC 2 0 5) []) (at0 up (usC 2 0 5)) (fl (usC 2 0 5)) ∧
    (at0 up (usC 2 0 5)).mss.st = MssSt.running :=
  ⟨(by decide +kernel), (by decide +kernel), (by decide +kernel), (by decide +kernel), (by decide +kernel),
    (by decide +kernel), (by decide +kernel), (by decide +kernel), runs_of (by decide +kernel), (by decide +kernel)⟩

theorem test_meets_rowSpare :
    0 = BitVec.toNat (Packet.byteAt (usC 2 0 5) 33) ∧
    32 = State.sparesLeft corrected5 (rowChannel (BitVec.ofNat 20 (Packet.field (usC 2 0 5) 36 4))) ∧
    Tab.find corrected5.arb.returning 0 = none ∧
    List.contains corrected5.mem.copying 5 = false ∧
    List.contains corrected5.mem.spared 5 = false ∧
    State.sparesLeft corrected5 (rowChannel 5) ≠ 0 ∧
    3 ≤ Tab.get corrected5.mem.corrections 5 0 :=
  by decide +kernel

theorem test_meets_rowSpareDone :
    0 = BitVec.toNat (Packet.byteAt (usC 2 0 5) 33) ∧
    32 = State.sparesLeft (atCyc 230 copied) (rowChannel (BitVec.ofNat 20 (Packet.field (usC 2 0 5) 36 4))) ∧
    Tab.find (atCyc 230 copied).arb.returning 0 = none ∧
    List.contains (atCyc 230 copied).mem.copying 5 = true ∧
    State.slotIs (atCyc 230 copied) (State.now (atCyc 230 copied) - 4) 4 = true :=
  by decide +kernel

theorem test_meets_unitRemoveAgain :
    80 = BitVec.toNat (Packet.byteAt (usC 0 80 0) 33) ∧
    32 = State.sparesLeft (at0 missing (usC 0 80 0)) (rowChannel (BitVec.ofNat 20 (Packet.field (usC 0 80 0) 36 4))) ∧
    Tab.find (at0 missing (usC 0 80 0)).arb.returning 80 = none ∧
    usC 0 80 0 = rowPacket 2565 (some 0) (cm (usC 0 80 0) []).pkt ∧
    Runs 0x0A05 (some 0) (cm (usC 0 80 0) []) (at0 missing (usC 0 80 0)) (fl (usC 0 80 0)) ∧
    (at0 missing (usC 0 80 0)).mss.st = MssSt.running ∧
    (80 < 16 → (at0 missing (usC 0 80 0)).mss.ho = none) ∧
    State.unitOut (at0 missing (usC 0 80 0)) 80 = true :=
  ⟨(by decide +kernel), (by decide +kernel), (by decide +kernel), (by decide +kernel), runs_of (by decide +kernel),
    (by decide +kernel)⟩

theorem test_meets_entropyRemove :
    82 = BitVec.toNat (Packet.byteAt (usC 0 82 0) 33) ∧
    32 = State.sparesLeft (at0 keyed (usC 0 82 0)) (rowChannel (BitVec.ofNat 20 (Packet.field (usC 0 82 0) 36 4))) ∧
    Tab.find (at0 keyed (usC 0 82 0)).arb.returning 82 = none ∧
    usC 0 82 0 = rowPacket 2565 (some 0) (cm (usC 0 82 0) []).pkt ∧
    Runs 0x0A05 (some 0) (cm (usC 0 82 0) []) (at0 keyed (usC 0 82 0)) (fl (usC 0 82 0)) ∧
    (at0 keyed (usC 0 82 0)).mss.st = MssSt.running ∧
    (82 < 16 → (at0 keyed (usC 0 82 0)).mss.ho = none) ∧
    State.unitOut (at0 keyed (usC 0 82 0)) 82 = false ∧
    State.lastCore (at0 keyed (usC 0 82 0)) 82 = false :=
  ⟨(by decide +kernel), (by decide +kernel), (by decide +kernel), (by decide +kernel), runs_of (by decide +kernel),
    (by decide +kernel)⟩

theorem test_meets_portRemove :
    96 = BitVec.toNat (Packet.byteAt (usC 0 96 0) 33) ∧
    32 = State.sparesLeft (at0 (linked PortSt.up) (usC 0 96 0)) (rowChannel (BitVec.ofNat 20 (Packet.field (usC 0 96 0) 36
      4))) ∧
    Tab.find (at0 (linked PortSt.up) (usC 0 96 0)).arb.returning 96 = none ∧
    usC 0 96 0 = rowPacket 2565 (some 0) (cm (usC 0 96 0) []).pkt ∧
    Runs 0x0A05 (some 0) (cm (usC 0 96 0) []) (at0 (linked PortSt.up) (usC 0 96 0)) (fl (usC 0 96 0)) ∧
    (at0 (linked PortSt.up) (usC 0 96 0)).mss.st = MssSt.running ∧
    (96 < 16 → (at0 (linked PortSt.up) (usC 0 96 0)).mss.ho = none) ∧
    State.unitOut (at0 (linked PortSt.up) (usC 0 96 0)) 96 = false ∧
    State.lastCore (at0 (linked PortSt.up) (usC 0 96 0)) 96 = false ∧
    (96 = 96 ∨ 96 = 97) :=
  ⟨(by decide +kernel), (by decide +kernel), (by decide +kernel), (by decide +kernel), runs_of (by decide +kernel),
    (by decide +kernel)⟩

theorem test_meets_unitReturnAgain :
    80 = BitVec.toNat (Packet.byteAt (usC 1 80 0) 33) ∧
    32 = State.sparesLeft (at0 up (usC 1 80 0)) (rowChannel (BitVec.ofNat 20 (Packet.field (usC 1 80 0) 36 4))) ∧
    Tab.find (at0 up (usC 1 80 0)).arb.returning 80 = none ∧
    usC 1 80 0 = rowPacket 2565 (some 1) (cm (usC 1 80 0) []).pkt ∧
    Runs 0x0A05 (some 1) (cm (usC 1 80 0) []) (at0 up (usC 1 80 0)) (fl (usC 1 80 0)) ∧
    (at0 up (usC 1 80 0)).mss.st = MssSt.running ∧
    State.holding (at0 up (usC 1 80 0)) = false ∧
    State.unitOut (at0 up (usC 1 80 0)) 80 = false :=
  ⟨(by decide +kernel), (by decide +kernel), (by decide +kernel), (by decide +kernel), runs_of (by decide +kernel),
    (by decide +kernel)⟩

theorem test_meets_spindleRemoveBusy :
    41 = BitVec.toNat (Packet.byteAt (usC 0 41 0) 33) ∧
    32 = State.sparesLeft (jobOn 9 toyVerify (at0 keyed (usC 0 41 0))) (rowChannel (BitVec.ofNat 20 (Packet.field (usC 0 41 0)
      36 4))) ∧
    Tab.find (jobOn 9 toyVerify (at0 keyed (usC 0 41 0))).arb.returning 41 = none ∧
    usC 0 41 0 = rowPacket 2565 (some 0) (cm (usC 0 41 0) []).pkt ∧
    Runs 0x0A05 (some 0) (cm (usC 0 41 0) []) (jobOn 9 toyVerify (at0 keyed (usC 0 41 0))) (fl (usC 0 41 0)) ∧
    (jobOn 9 toyVerify (at0 keyed (usC 0 41 0))).mss.st = MssSt.running ∧
    (41 < 16 → (jobOn 9 toyVerify (at0 keyed (usC 0 41 0))).mss.ho = none) ∧
    State.unitOut (jobOn 9 toyVerify (at0 keyed (usC 0 41 0))) 41 = false ∧
    State.lastCore (jobOn 9 toyVerify (at0 keyed (usC 0 41 0))) 41 = false ∧
    41 = spindleCode 9 ∧
    Spindle.jobsHeld (State.spindle (jobOn 9 toyVerify (at0 keyed (usC 0 41 0))) 9) ≠ [] :=
  ⟨(by decide +kernel), (by decide +kernel), (by decide +kernel), (by decide +kernel), runs_of (by decide +kernel),
    (by decide +kernel)⟩

theorem test_meets_entropyReturnAsked :
    82 = BitVec.toNat (Packet.byteAt (usC 1 82 0) 33) ∧
    32 = State.sparesLeft (at0 (lacking 82) (usC 1 82 0)) (rowChannel (BitVec.ofNat 20 (Packet.field (usC 1 82 0) 36 4))) ∧
    Tab.find (at0 (lacking 82) (usC 1 82 0)).arb.returning 82 = none ∧
    usC 1 82 0 = rowPacket 2565 (some 1) (cm (usC 1 82 0) []).pkt ∧
    Runs 0x0A05 (some 1) (cm (usC 1 82 0) []) (at0 (lacking 82) (usC 1 82 0)) (fl (usC 1 82 0)) ∧
    (at0 (lacking 82) (usC 1 82 0)).mss.st = MssSt.running ∧
    State.holding (at0 (lacking 82) (usC 1 82 0)) = false ∧
    State.unitOut (at0 (lacking 82) (usC 1 82 0)) 82 = true :=
  ⟨(by decide +kernel), (by decide +kernel), (by decide +kernel), (by decide +kernel), runs_of (by decide +kernel),
    (by decide +kernel)⟩

theorem test_meets_portReturnAsked :
    96 = BitVec.toNat (Packet.byteAt (usC 1 96 0) 33) ∧
    32 = State.sparesLeft (at0 (lacking 96) (usC 1 96 0)) (rowChannel (BitVec.ofNat 20 (Packet.field (usC 1 96 0) 36 4))) ∧
    Tab.find (at0 (lacking 96) (usC 1 96 0)).arb.returning 96 = none ∧
    usC 1 96 0 = rowPacket 2565 (some 1) (cm (usC 1 96 0) []).pkt ∧
    Runs 0x0A05 (some 1) (cm (usC 1 96 0) []) (at0 (lacking 96) (usC 1 96 0)) (fl (usC 1 96 0)) ∧
    (at0 (lacking 96) (usC 1 96 0)).mss.st = MssSt.running ∧
    State.holding (at0 (lacking 96) (usC 1 96 0)) = false ∧
    State.unitOut (at0 (lacking 96) (usC 1 96 0)) 96 = true ∧
    (96 = 96 ∨ 96 = 97) ∧
    Port.east = portOf 96 ∧
    (State.port (at0 (lacking 96) (usC 1 96 0)) Port.east).heldDown = false ∧
    (State.port (at0 (lacking 96) (usC 1 96 0)) Port.east).st = PortSt.down :=
  ⟨(by decide +kernel), (by decide +kernel), (by decide +kernel), (by decide +kernel), runs_of (by decide +kernel),
    (by decide +kernel)⟩

theorem test_meets_rowSpareEarly :
    0 = BitVec.toNat (Packet.byteAt (usC 2 0 5) 33) ∧
    32 = State.sparesLeft up (rowChannel (BitVec.ofNat 20 (Packet.field (usC 2 0 5) 36 4))) ∧
    Tab.find up.arb.returning 0 = none ∧
    List.contains up.mem.copying 5 = false ∧
    List.contains up.mem.spared 5 = false ∧
    State.sparesLeft up (rowChannel 5) ≠ 0 ∧
    Tab.get up.mem.corrections 5 0 < 3 :=
  by decide +kernel

theorem test_meets_rowSpareWaits :
    0 = BitVec.toNat (Packet.byteAt (usC 2 0 5) 33) ∧
    32 = State.sparesLeft (atCyc 4 copied) (rowChannel (BitVec.ofNat 20 (Packet.field (usC 2 0 5) 36 4))) ∧
    Tab.find (atCyc 4 copied).arb.returning 0 = none ∧
    List.contains (atCyc 4 copied).mem.copying 5 = true ∧
    State.slotIs (atCyc 4 copied) (State.now (atCyc 4 copied) - 4) 4 = false :=
  by decide +kernel

theorem test_meets_spindleLast :
    State.spindleFetches keyed 39 sp9 ∧
    sp9.lane.pc ≠ 4095 ∧
    0 = Lane.srcA sp9.lane 2 0 ∧
    0 = Lane.word sp9.lane 3 :=
  ⟨(by unfold State.spindleFetches; decide +kernel), (by decide +kernel)⟩

theorem test_meets_spindleWords :
    State.spindleFetches keyed 9 sp9 ∧
    sp9.lane.pc ≠ 4095 ∧
    0 = Lane.srcA sp9.lane 2 0 ∧
    0 = Lane.word sp9.lane 3 :=
  ⟨(by unfold State.spindleFetches; decide +kernel), (by decide +kernel)⟩

theorem test_meets_spindleAccumulator :
    State.spindleFetches keyed 9 sp9 ∧
    sp9.lane.pc ≠ 4095 ∧
    0 = Lane.srcA sp9.lane 2 0 ∧
    0 = Lane.word sp9.lane 3 ∧
    0 = 0 / 2 ^ (64 * (0 % 4)) % 2 ^ 64 :=
  ⟨(by unfold State.spindleFetches; decide +kernel), (by decide +kernel)⟩

theorem test_meets_spindleSequence :
    State.spindle keyed 9 = sp9 ∧
    sp9.halted = none ∧
    fetchOk 9 sp9.lane = true ∧
    sp9.lane.pc ≠ 4095 ∧
    Lane.lcAt sp9.lane 0 = 0 :=
  by decide +kernel

theorem test_meets_spindleJumps :
    State.spindle keyed 9 = sp9 ∧
    sp9.halted = none ∧
    fetchOk 9 sp9.lane = true :=
  by decide +kernel

theorem test_meets_spindleBadFetch :
    (State.spindle atRam 0).halted = none ∧
    fetchOk 0 (State.spindle atRam 0).lane = false :=
  by decide +kernel

theorem test_meets_spindleFifthCall :
    (State.spindle nested 9).halted = none ∧
    4 ≤ List.length (State.spindle nested 9).lane.stack :=
  by decide +kernel

theorem test_meets_spindleEmptyStack :
    State.spindle keyed 9 = sp9 ∧
    sp9.halted = none ∧
    sp9.lane.stack = [] :=
  by decide +kernel

theorem test_meets_spindleLastAddress :
    (State.spindle atEnd 9).halted = none ∧
    (State.spindle atEnd 9).lane.pc = 4095 :=
  by decide +kernel

theorem test_meets_spindleNoEntropy :
    (State.spindle (drawn9 0 []) 0).halted = none ∧
    (State.spindle (drawn9 0 []) 0).lane = sp9.lane ∧
    fetchOk 0 sp9.lane = true ∧
    sp9.lane.pc ≠ 4095 ∧
    (State.spindle (drawn9 0 []) 0).ent = [] :=
  by decide +kernel

theorem test_meets_spindleWordOfRandom :
    (State.spindle (drawn9 0 [4]) 0).halted = none ∧
    (State.spindle (drawn9 0 [4]) 0).lane = sp9.lane ∧
    fetchOk 0 sp9.lane = true ∧
    sp9.lane.pc ≠ 4095 ∧
    (0 < 8 → (State.spindle (drawn9 0 [4]) 0).ent ≠ []) ∧
    (4 = if 0 < 8 then List.headD (State.spindle (drawn9 0 [4]) 0).ent 0 else 0) :=
  by decide +kernel

theorem test_meets_spindleVerifyRandom :
    State.spindle keyed 9 = sp9 ∧
    sp9.halted = none ∧
    fetchOk 9 sp9.lane = true ∧
    sp9.lane.pc ≠ 4095 ∧
    (9 < 8 → sp9.ent ≠ []) ∧
    (0 = if 9 < 8 then List.headD sp9.ent 0 else 0) :=
  by decide +kernel

theorem test_meets_spindleKeyWord :
    State.spindle keyed 9 = sp9 ∧
    sp9.halted = none ∧
    fetchOk 9 sp9.lane = true ∧
    sp9.lane.pc ≠ 4095 ∧
    (0 = if 9 < 8 then BitVec.ofNat 256 (BitVec.toNat sp9.keyOp / 2 ^ (256 * (0 % 2))) else 0) :=
  by decide +kernel

theorem test_meets_spindleLoops :
    (State.spindle looping 9).halted = none ∧
    fetchOk 9 (State.spindle looping 9).lane = true ∧
    Lane.lcAt (State.spindle looping 9).lane 0 ≠ 0 :=
  by decide +kernel

theorem test_meets_spindleCalls :
    State.spindle keyed 9 = sp9 ∧
    sp9.halted = none ∧
    fetchOk 9 sp9.lane = true ∧
    List.length sp9.lane.stack < 4 :=
  by decide +kernel

theorem test_meets_spindleReturns :
    (State.spindle called 9).halted = none ∧
    fetchOk 9 (State.spindle called 9).lane = true ∧
    (State.spindle called 9).lane.stack = [7] :=
  by decide +kernel

theorem test_meets_spindleUndefined :
    State.spindle keyed 9 = sp9 ∧
    sp9.halted = none ∧
    spindleDefined 4294967295 = false :=
  by decide +kernel

theorem test_meets_spindleWordIs :
    State.spindle keyed 9 = sp9 ∧
    sp9.halted = none ∧
    Instr.program (Instr.add 9 1 2 3 0) = some 9 ∧
    spindleWord (Instr.add 9 1 2 3 0) = some (Option.getD (spindleWord (Instr.add 9 1 2 3 0)) 0) :=
  by decide +kernel

theorem test_meets_spindleDefinedWord :
    State.spindle keyed 9 = sp9 ∧
    sp9.halted = none ∧
    spindleDefined 0 = true ∧
    fetchOk 9 sp9.lane = true :=
  by decide +kernel

theorem test_meets_doorbellTail :
    State.awake awake0 ∧
    awake0.gctl.d3hot = false ∧
    1 = BitVec.ofNat 12 1 ∧
    (State.queue awake0 0).st ≠ QueueSt.absent ∧
    1 / 65536 = BitVec.toNat (State.queue awake0 0).epoch ∧
    1 < (State.queue awake0 0).sqSize ∧
    ringSpan (State.queue awake0 0).sqSize (State.queue awake0 0).sqHead (State.queue awake0 0).sqTail ≤ ringSpan (State.queue
      awake0 0).sqSize (State.queue awake0 0).sqHead 1 :=
  ⟨⟨(by decide +kernel), (by decide +kernel)⟩, (by decide +kernel)⟩

theorem test_meets_doorbellHead :
    State.awake awake0 ∧
    awake0.gctl.d3hot = false ∧
    0 = BitVec.ofNat 12 0 ∧
    (State.queue awake0 0).st ≠ QueueSt.absent ∧
    0 / 65536 = BitVec.toNat (State.queue awake0 0).epoch ∧
    0 < (State.queue awake0 0).cqSize ∧
    ringSpan (State.queue awake0 0).cqSize (State.queue awake0 0).cqHead 0 ≤ ringSpan (State.queue awake0 0).cqSize
      (State.queue awake0 0).cqHead (State.queue awake0 0).cqTail :=
  ⟨⟨(by decide +kernel), (by decide +kernel)⟩, (by decide +kernel)⟩

theorem test_meets_doorbellBar4 :
    State.awake headed ∧
    headed.gctl.d3hot = false ∧
    1 = BitVec.ofNat 12 1 ∧
    headed.skn.head = true ∧
    (State.queue headed 0).st ≠ QueueSt.absent ∧
    1 / 65536 = BitVec.toNat (State.queue headed 0).epoch ∧
    1 < (State.queue headed 0).sqSize ∧
    ringSpan (State.queue headed 0).sqSize (State.queue headed 0).sqHead (State.queue headed 0).sqTail ≤ ringSpan (State.queue
      headed 0).sqSize (State.queue headed 0).sqHead 1 :=
  ⟨⟨(by decide +kernel), (by decide +kernel)⟩, (by decide +kernel)⟩

theorem test_meets_doorbellBoth :
    State.awake awake0 ∧
    awake0.gctl.d3hot = false ∧
    1 = BitVec.ofNat 12 1 ∧
    (State.queue awake0 0).st ≠ QueueSt.absent ∧
    1 / 65536 = BitVec.toNat (State.queue awake0 0).epoch ∧
    0 = BitVec.ofNat 12 0 ∧
    0 / 65536 = BitVec.toNat (State.queue awake0 0).epoch ∧
    1 < (State.queue awake0 0).sqSize ∧
    ringSpan (State.queue awake0 0).sqSize (State.queue awake0 0).sqHead (State.queue awake0 0).sqTail ≤ ringSpan (State.queue
      awake0 0).sqSize (State.queue awake0 0).sqHead 1 ∧
    0 < (State.queue awake0 0).cqSize ∧
    ringSpan (State.queue awake0 0).cqSize (State.queue awake0 0).cqHead 0 ≤ ringSpan (State.queue awake0 0).cqSize
      (State.queue awake0 0).cqHead (State.queue awake0 0).cqTail :=
  ⟨⟨(by decide +kernel), (by decide +kernel)⟩, (by decide +kernel)⟩

theorem test_meets_doorbellPast :
    State.awake awake0 ∧
    awake0.gctl.d3hot = false ∧
    64 = BitVec.ofNat 12 64 ∧
    (State.queue awake0 0).st ≠ QueueSt.absent ∧
    64 / 65536 = BitVec.toNat (State.queue awake0 0).epoch ∧
    (0, Instr.doorbellSqTail 0 64 none) ∈ [(0, Instr.doorbellSqTail 0 64 none), (1, Instr.doorbellCqHead 0 64)] ∧
    (if (0, Instr.doorbellSqTail 0 64 none).1 = 0 then (State.queue awake0 0).sqSize else (State.queue awake0 0).cqSize) ≤ 64 :=
  ⟨⟨(by decide +kernel), (by decide +kernel)⟩, (by decide +kernel)⟩

theorem test_meets_doorbellBehind :
    State.awake ahead ∧
    ahead.gctl.d3hot = false ∧
    1 = BitVec.ofNat 12 1 ∧
    (State.queue ahead 0).st ≠ QueueSt.absent ∧
    1 / 65536 = BitVec.toNat (State.queue ahead 0).epoch ∧
    1 < (State.queue ahead 0).sqSize ∧
    ringSpan (State.queue ahead 0).sqSize (State.queue ahead 0).sqHead 1 < ringSpan (State.queue ahead 0).sqSize (State.queue
      ahead 0).sqHead (State.queue ahead 0).sqTail :=
  ⟨⟨(by decide +kernel), (by decide +kernel)⟩, (by decide +kernel)⟩

theorem test_meets_doorbellUnwritten :
    State.awake awake0 ∧
    awake0.gctl.d3hot = false ∧
    1 = BitVec.ofNat 12 1 ∧
    (State.queue awake0 0).st ≠ QueueSt.absent ∧
    1 / 65536 = BitVec.toNat (State.queue awake0 0).epoch ∧
    1 < (State.queue awake0 0).cqSize ∧
    ringSpan (State.queue awake0 0).cqSize (State.queue awake0 0).cqHead (State.queue awake0 0).cqTail < ringSpan (State.queue
      awake0 0).cqSize (State.queue awake0 0).cqHead 1 :=
  ⟨⟨(by decide +kernel), (by decide +kernel)⟩, (by decide +kernel)⟩

theorem test_meets_doorbellEpoch :
    State.awake awake0 ∧
    awake0.gctl.d3hot = false ∧
    1 = BitVec.ofNat 12 65537 ∧
    Instr.doorbellSqTail 0 65537 none ∈ [Instr.doorbellSqTail 0 65537 none, Instr.doorbellCqHead 0 65537] ∧
    (State.queue awake0 0).st ≠ QueueSt.absent ∧
    65537 / 65536 ≠ BitVec.toNat (State.queue awake0 0).epoch :=
  ⟨⟨(by decide +kernel), (by decide +kernel)⟩, (by decide +kernel)⟩

theorem test_meets_doorbellAbsent :
    State.awake awake0 ∧
    awake0.gctl.d3hot = false ∧
    1 = BitVec.ofNat 12 1 ∧
    Instr.doorbellSqTail 1 1 none ∈ [Instr.doorbellSqTail 1 1 none, Instr.doorbellCqHead 1 1] ∧
    (State.queue awake0 1).st = QueueSt.absent :=
  ⟨⟨(by decide +kernel), (by decide +kernel)⟩, (by decide +kernel)⟩

theorem test_meets_doorbellMember :
    State.awake (meshed awake0) ∧
    (meshed awake0).gctl.d3hot = false ∧
    State.queue awake0 0 = State.queue (meshed awake0) 0 ∧
    1 = BitVec.ofNat 12 1 ∧
    (meshed awake0).skn.head = true ∧
    2 ≠ (meshed awake0).skn.nodeId ∧
    State.reaches (meshed awake0) 2 = true :=
  ⟨⟨(by decide +kernel), (by decide +kernel)⟩, (by decide +kernel)⟩

theorem test_meets_doorbellNoMember :
    State.awake (meshed awake0) ∧
    (meshed awake0).gctl.d3hot = false ∧
    State.queue awake0 0 = State.queue (meshed awake0) 0 ∧
    1 = BitVec.ofNat 12 1 ∧
    (meshed awake0).skn.head = true ∧
    3 ≠ (meshed awake0).skn.nodeId ∧
    State.reaches (meshed awake0) 3 = false :=
  ⟨⟨(by decide +kernel), (by decide +kernel)⟩, (by decide +kernel)⟩

theorem test_meets_doorbellNoHead :
    State.awake (apart awake0) ∧
    (apart awake0).gctl.d3hot = false ∧
    State.queue awake0 0 = State.queue (apart awake0) 0 ∧
    1 = BitVec.ofNat 12 1 ∧
    (apart awake0).skn.head = false :=
  ⟨⟨(by decide +kernel), (by decide +kernel)⟩, (by decide +kernel)⟩

theorem test_meets_aqReset :
    State.awake awake0 ∧
    awake0.gctl.aqReset = false ∧
    (State.queue awake0 0).st = QueueSt.active ∧
    (State.queue awake0 0).inflight = [] ∧
    State.locksOf awake0 0 (State.queue awake0 0).epoch = [] ∧
    awake0.ru.jrn.forced = [] :=
  ⟨⟨(by decide +kernel), (by decide +kernel)⟩, (by decide +kernel)⟩

theorem test_meets_evtTest :
    State.awake awake0 ∧
    BitVec.getLsbD (State.msixEntry awake0 awake0.gctl.evtVec) 96 = false :=
  ⟨⟨(by decide +kernel), (by decide +kernel)⟩, (by decide +kernel)⟩

theorem test_meets_sknOn :
    State.awake awake0 ∧
    awake0.skn.en = false ∧
    awake0.skn.east.st = PortSt.down ∧
    awake0.skn.east.heldDown = false :=
  ⟨⟨(by decide +kernel), (by decide +kernel)⟩, (by decide +kernel)⟩

theorem test_meets_sknOff :
    State.awake skOn ∧
    skOn.skn.en = true :=
  ⟨⟨(by decide +kernel), (by decide +kernel)⟩, (by decide +kernel)⟩

theorem test_meets_dataPlaneReset :
    State.awake awake0 ∧
    awake0.ru.rb.needed = false ∧
    awake0.ru.ckpt = none ∧
    awake0.mss.ho = none ∧
    awake0.tmp.level = 0 ∧
    awake0.pwr.dozePend = false ∧
    awake0.pwr.dpReset = false :=
  ⟨⟨(by decide +kernel), (by decide +kernel)⟩, (by decide +kernel)⟩

theorem test_meets_mssReset :
    State.awake awake0 ∧
    awake0.mss.ho = none :=
  ⟨⟨(by decide +kernel), (by decide +kernel)⟩, (by decide +kernel)⟩

theorem test_meets_msSwap :
    State.awake awake0 ∧
    awake0.mem.swap = false :=
  ⟨⟨(by decide +kernel), (by decide +kernel)⟩, (by decide +kernel)⟩

theorem test_meets_wrongKey :
    State.awake awake0 :=
  ⟨(by decide +kernel), (by decide +kernel)⟩

theorem test_meets_msSwapAgain :
    State.awake swapping ∧
    swapping.mem.swap = true :=
  ⟨⟨(by decide +kernel), (by decide +kernel)⟩, (by decide +kernel)⟩

theorem test_meets_unsupportedWrite :
    State.awake awake0 ∧
    (4 ≠ 4 ∨ 4098 % 4 ≠ 0) :=
  ⟨⟨(by decide +kernel), (by decide +kernel)⟩, (by decide +kernel)⟩

theorem test_meets_registerReads :
    State.awake awake0 ∧
    0 = BitVec.toNat awake0.spn.sel ∧
    State.arbiter awake0 0 = State.arbiter awake0 (BitVec.toNat awake0.arb.selArb) :=
  ⟨⟨(by decide +kernel), (by decide +kernel)⟩, (by decide +kernel)⟩

theorem test_meets_packetNoFetch :
    State.queueReady State.reset 0 = false ∨ State.grantFor 0 0 (State.sync 0 State.reset) = none :=
  (by decide +kernel)

theorem test_meets_packetFetch :
    State.queueReady rung 0 = true ∧
    State.grantFor 0 0 (State.sync 0 rung) = some rungT :=
  ⟨(by decide +kernel), some_getD (by decide +kernel)⟩

theorem test_meets_packetHeldBack :
    (List.find? (fun x => x.stage == Stage.granted) (State.queue (landedOn (landed nopP true)) 0).inflight = none) ∧
    Queue.nextLanded (State.queue (landedOn (landed nopP true)) 0) = some ([], landed nopP true) ∧
    Fetched.waits (landed nopP true) [] = false ∧
    (List.find? (fun x => x.id == (landed nopP true).id) (State.queue (landedOn (landed nopP true)) 0).inflight = some (landed
      nopP true)) ∧
    (landed nopP true).onHold = true :=
  by decide +kernel

theorem test_meets_packetRefused :
    (List.find? (fun x => x.stage == Stage.granted) (State.queue (landedOn (landed badP false)) 0).inflight = none) ∧
    Queue.nextLanded (State.queue (landedOn (landed badP false)) 0) = some ([], landed badP false) ∧
    Fetched.waits (landed badP false) [] = false ∧
    (List.find? (fun x => x.id == (landed badP false).id) (State.queue (landedOn (landed badP false)) 0).inflight = some
      (landed badP false)) ∧
    State.judge (landedOn (landed badP false)) 0 (landed badP false) = some stBadOpcode :=
  by decide +kernel

theorem test_meets_packetDecode :
    (List.find? (fun x => x.stage == Stage.granted) (State.queue (landedOn (landed nopP false)) 0).inflight = none) ∧
    Queue.nextLanded (State.queue (landedOn (landed nopP false)) 0) = some ([], landed nopP false) ∧
    Fetched.waits (landed nopP false) [] = false ∧
    (List.find? (fun x => x.id == (landed nopP false).id) (State.queue (landedOn (landed nopP false)) 0).inflight = some
      (landed nopP false)) ∧
    State.judge (landedOn (landed nopP false)) 0 (landed nopP false) = none :=
  by decide +kernel

theorem test_meets_packetDispatch :
    (List.find? (fun f => f.stage == Stage.decoded && Option.isSome (State.unitFor dispS 0 f.pkt)) (State.queue dispS
      0).inflight = some (decoded nopP)) ∧
    State.nextDispatch (State.dispatchArb dispS 0 (decoded nopP).pkt) dispS = some ((0, decoded nopP), dispG.2.1, dispG.2.2.1,
      dispG.2.2.2) :=
  by decide +kernel

theorem test_meets_hostReadFailed :
    (List.find? (fun f => !f.running && f.pkt.tag == 7 && f.pkt.dataLen != 0) (State.queue (landedOn (fl readsP)) 0).inflight
      = some (fl readsP)) ∧
    (fl readsP).stage = Stage.dispatched 0 ∧
    (List.find? (fun x => x.id == (fl readsP).id) (State.queue (landedOn (fl readsP)) 0).inflight = some (fl readsP)) :=
  by decide +kernel

theorem test_meets_coalescing :
    (State.queue owing 0).irqMode = 2 ∧
    0 < (State.queue owing 0).owed ∧
    (State.queue owing 0).coalTime ≠ 0 ∧
    (State.queue owing 0).st ≠ QueueSt.absent ∧
    BitVec.getLsbD (State.msixEntry owing (State.queue owing 0).vector) 96 = false :=
  by decide +kernel

theorem test_meets_drainEnd :
    (State.queue drained 0).ending = some ending0 ∧
    (State.queue drained 0).inflight = [] ∧
    State.locksOf drained 0 (State.queue drained 0).epoch = [] ∧
    drained.ru.jrn.forced = [] ∧
    ending0.delete = false :=
  by decide +kernel

theorem test_meets_packetLands :
    (List.find? (fun x => x.stage == Stage.granted) (State.queue (landedOn granted) 0).inflight = some granted) ∧
    (State.queue (landedOn granted) 0).ending = none ∧
    (∀ g ∈ (State.queue (landedOn granted) 0).inflight, g.stage = Stage.granted → g.id = granted.id) :=
  by decide +kernel

theorem test_meets_d3hotExit :
    asleep.gctl.d3hot = true :=
  (by decide +kernel)

theorem test_meets_packetLandsLate :
    (List.find? (fun x => x.stage == Stage.granted) (State.queue aborting 0).inflight = some granted) ∧
    Option.isSome (State.queue aborting 0).ending = true ∧
    (List.find? (fun x => x.id == granted.id) (State.queue aborting 0).inflight = some granted) :=
  by decide +kernel

theorem test_meets_packetNoDispatch :
    (List.find? (fun f => f.stage == Stage.decoded && Option.isSome (State.unitFor unasked 0 f.pkt)) (State.queue unasked
      0).inflight = some (decoded nopP)) ∧
    State.nextDispatch (State.dispatchArb unasked 0 (decoded nopP).pkt) unasked = none :=
  by decide +kernel

theorem test_meets_slewEnd :
    awake0.tmp.aotAcc < 390625 :=
  (by decide +kernel)

theorem test_meets_arbiterPark :
    State.asks awake0 9 = none ∧
    Arbiter.asking (State.arbiter awake0 9) = [] :=
  by decide +kernel

theorem test_meets_arbiterGrant :
    State.asks bothWays 33 = none ∧
    Arbiter.asking (State.arbiter bothWays 33) = [] ∧
    (Arbiter.req (State.arbiter bothWays 33) 0).weight ≠ 0 ∧
    State.uncounted bothWays 33 = false ∧
    State.arbRuns bothWays 33 = true :=
  by decide +kernel

theorem test_meets_scrubCorrected :
    State.slotIs (atCyc 230 awake0) (State.now (atCyc 230 awake0)) 4 = true :=
  (by decide +kernel)

theorem test_meets_watchdog :
    watched (BitVec.toNat stuck0.arb) = true ∧
    (State.heldAt stuck0 busy0 = true ∨ busy0.tmp.stage = RespStage.clearing) :=
  by decide +kernel

theorem test_meets_starvation :
    1048576 = State.starveThreshold (State.sync 9 starving) 9 0 ∧
    (List.find? (fun p => !p.starved) (Arbiter.req (State.arbiter (State.sync 9 starving) 9) 0).parked = some parked0) ∧
    1048576 < State.waitOf (State.waited 9 parked0.since (1048576 + 1) (State.sync 9 starving)) 9 parked0.since :=
  by decide +kernel

theorem test_meets_arbiterAsked :
    Option.isSome (State.asks awake0 0) = true :=
  (by decide +kernel)

theorem test_meets_starvationOff :
    0 = State.starveThreshold (State.sync 9 patient) 9 0 ∧
    (List.find? (fun p => !p.starved) (Arbiter.req (State.arbiter (State.sync 9 patient) 9) 0).parked = some parked0) ∧
    (0 = 0 ∨ State.waitOf (State.waited 9 parked0.since (0 + 1) (State.sync 9 patient)) 9 parked0.since ≤ 0) :=
  by decide +kernel

theorem test_meets_arbiterDispatch :
    Option.isSome (State.asks dispS 2) = true ∧
    2 ∈ [1, 2, 3] ∧
    State.nextDispatch 2 (State.sync 2 dispS) = some ((0, decoded nopP), dispG.2.1, dispG.2.2.1, dispG.2.2.2) :=
  by decide +kernel

theorem test_meets_watchdogFree :
    watched (BitVec.toNat stuck0.arb) = true ∧
    State.heldAt stuck0 awake0 = false ∧
    awake0.tmp.stage ≠ RespStage.clearing :=
  by decide +kernel

theorem test_meets_scrubElsewhere :
    State.slotIs awake0 (State.now awake0) 4 = false :=
  (by decide +kernel)

theorem test_meets_signEnd :
    (State.spindle signs 0).job = some toySign ∧
    (State.spindle signs 0).shadow = none ∧
    (State.spindle signs 0).taking = none ∧
    (State.spindle signs 0).restoring = false ∧
    signs.spn.signParked = [] ∧
    signs.spn.verifyParked = [] ∧
    signs.arb.leaving = [] ∧
    toySign.prog = Prog.sign toy 6 2 9 6 3 100 ∧
    (∀ (c : Cmd) (a : List Machine.Part), toySign.what ≠ JobFor.part c a) ∧
    State.idleSpindle signs false = some 8 ∧
    (sm2Sign toy 6 2 9).regen = false :=
  ⟨(by decide +kernel), (by decide +kernel), (by decide +kernel), (by decide +kernel), (by decide +kernel),
    (by decide +kernel), (by decide +kernel), (by decide +kernel), fun _ _ h => (by cases h), (by decide +kernel)⟩

theorem test_meets_verifyEnd :
    (State.spindle verifying 9).job = some toyVerify ∧
    (State.spindle verifying 9).shadow = none ∧
    (State.spindle verifying 9).taking = none ∧
    (State.spindle verifying 9).restoring = false ∧
    verifying.spn.signParked = [] ∧
    verifying.spn.verifyParked = [] ∧
    verifying.arb.leaving = [] ∧
    (∀ (c : Cmd) (a : List Machine.Part), toyVerify.what ≠ JobFor.part c a) ∧
    toyVerify.prog = Prog.verify toy 6 (sm2Sign toy 6 2 5).r (sm2Sign toy 6 2 5).s 6 3 none ∧
    toyVerify.h.via = Transport.host ∧
    (List.find? (fun x => x.id == toyVerify.h.id) (State.queue verifying toyVerify.h.q).inflight = some (fl nopP)) ∧
    toyVerify.h.tag = (fl nopP).pkt.tag :=
  ⟨(by decide +kernel), (by decide +kernel), (by decide +kernel), (by decide +kernel), (by decide +kernel),
    (by decide +kernel), (by decide +kernel), fun _ _ h => (by cases h), (by decide +kernel)⟩

theorem test_meets_yieldPoint :
    (State.spindle crowded 7).job = some toySign ∧
    toySign.yielded = false ∧
    (State.spindle crowded 7).shadow = none ∧
    (State.spindle crowded 7).taking = none ∧
    (State.spindle crowded 7).restoring = false ∧
    State.signersBusy crowded = true ∧
    State.holding crowded = false ∧
    shorter toySign.len crowded.spn.signParked = some (short, []) :=
  by decide +kernel

theorem test_meets_shadowSave :
    (State.spindle saving 0).taking = some short :=
  (by decide +kernel)

theorem test_meets_shadowRestore :
    (State.spindle restored 0).restoring = true ∧
    (State.spindle restored 0).shadow = some (sp9.lane, toySign) :=
  by decide +kernel

theorem test_meets_katPass :
    (State.spindle underTest 9).svc = SpSvc.testing ∧
    underTest.arb.waiting = [] :=
  by decide +kernel

theorem test_meets_refill :
    (State.spindle keyed 0).job = none ∧
    State.entropyOk keyed = true ∧
    List.length (State.spindle keyed 0).ent ≤ 4 :=
  by decide +kernel

theorem test_meets_partNext :
    (State.spindle (partIn [next5]) 9).job = some (jobP [next5]) ∧
    (State.spindle (partIn [next5]) 9).shadow = none ∧
    (State.spindle (partIn [next5]) 9).taking = none ∧
    (State.spindle (partIn [next5]) 9).restoring = false ∧
    (partIn [next5]).spn.signParked = [] ∧
    (partIn [next5]).spn.verifyParked = [] ∧
    (partIn [next5]).arb.leaving = [] ∧
    partEnds (partIn [next5]) = State.setSpindle 9
      { lane := clearLane, out := Vector.replicate 4 0, job := none, shadow := (State.spindle (partIn [next5]) 9).shadow, taking := (State.spindle (partIn [next5]) 9).taking, restoring := false, keyOp := 0, halted := (State.spindle (partIn [next5]) 9).halted, ent := (State.spindle (partIn [next5]) 9).ent, ram := (State.spindle (partIn [next5]) 9).ram, svc := (State.spindle (partIn [next5]) 9).svc, why := (State.spindle (partIn [next5]) 9).why, jobs := satAdd (State.spindle (partIn [next5]) 9).jobs 1, yields := (State.spindle (partIn [next5]) 9).yields, aborts := (State.spindle (partIn [next5]) 9).aborts, katFails := (State.spindle (partIn [next5]) 9).katFails, vasFails := (State.spindle (partIn [next5]) 9).vasFails }
      (partIn [next5]) ∧
    (jobP [next5]).what = JobFor.part plA [next5] ∧
    State.resumed (partEnds (partIn [next5])) plA = some (partX [next5]) ∧
    Option.isSome (partBody plA.pkt) = true ∧
    State.jobsStopped (partEnds (partIn [next5])) next5.signing = false ∧
    State.idleSpindle (partEnds (partIn [next5])) next5.signing = some 8 :=
  ⟨(by decide +kernel), (by decide +kernel), (by decide +kernel), (by decide +kernel), (by decide +kernel),
    (by decide +kernel), (by decide +kernel), (by rfl), (by decide +kernel)⟩

theorem test_meets_partLast :
    (State.spindle (partIn []) 9).job = some (jobP []) ∧
    (State.spindle (partIn []) 9).shadow = none ∧
    (State.spindle (partIn []) 9).taking = none ∧
    (State.spindle (partIn []) 9).restoring = false ∧
    (partIn []).spn.signParked = [] ∧
    (partIn []).spn.verifyParked = [] ∧
    (partIn []).arb.leaving = [] ∧
    partEnds (partIn []) = State.setSpindle 9
      { lane := clearLane, out := Vector.replicate 4 0, job := none, shadow := (State.spindle (partIn []) 9).shadow, taking := (State.spindle (partIn []) 9).taking, restoring := false, keyOp := 0, halted := (State.spindle (partIn []) 9).halted, ent := (State.spindle (partIn []) 9).ent, ram := (State.spindle (partIn []) 9).ram, svc := (State.spindle (partIn []) 9).svc, why := (State.spindle (partIn []) 9).why, jobs := satAdd (State.spindle (partIn []) 9).jobs 1, yields := (State.spindle (partIn []) 9).yields, aborts := (State.spindle (partIn []) 9).aborts, katFails := (State.spindle (partIn []) 9).katFails, vasFails := (State.spindle (partIn []) 9).vasFails }
      (partIn []) ∧
    (jobP []).what = JobFor.part plA [] ∧
    State.resumed (partEnds (partIn [])) plA = some (partX []) ∧
    partBody plA.pkt = some pubkeyLoadBody :=
  ⟨(by decide +kernel), (by decide +kernel), (by decide +kernel), (by decide +kernel), (by decide +kernel),
    (by decide +kernel), (by decide +kernel), (by rfl), (by decide +kernel), (by decide +kernel), (by rfl)⟩

theorem test_meets_partGone :
    (State.spindle (jobOn 9 (jobP []) keyed) 9).job = some (jobP []) ∧
    (State.spindle (jobOn 9 (jobP []) keyed) 9).shadow = none ∧
    (State.spindle (jobOn 9 (jobP []) keyed) 9).taking = none ∧
    (State.spindle (jobOn 9 (jobP []) keyed) 9).restoring = false ∧
    (jobOn 9 (jobP []) keyed).spn.signParked = [] ∧
    (jobOn 9 (jobP []) keyed).spn.verifyParked = [] ∧
    (jobOn 9 (jobP []) keyed).arb.leaving = [] ∧
    partEnds (jobOn 9 (jobP []) keyed) = State.setSpindle 9
      { lane := clearLane, out := Vector.replicate 4 0, job := none, shadow := (State.spindle (jobOn 9 (jobP []) keyed) 9).shadow, taking := (State.spindle (jobOn 9 (jobP []) keyed) 9).taking, restoring := false, keyOp := 0, halted := (State.spindle (jobOn 9 (jobP []) keyed) 9).halted, ent := (State.spindle (jobOn 9 (jobP []) keyed) 9).ent, ram := (State.spindle (jobOn 9 (jobP []) keyed) 9).ram, svc := (State.spindle (jobOn 9 (jobP []) keyed) 9).svc, why := (State.spindle (jobOn 9 (jobP []) keyed) 9).why, jobs := satAdd (State.spindle (jobOn 9 (jobP []) keyed) 9).jobs 1, yields := (State.spindle (jobOn 9 (jobP []) keyed) 9).yields, aborts := (State.spindle (jobOn 9 (jobP []) keyed) 9).aborts, katFails := (State.spindle (jobOn 9 (jobP []) keyed) 9).katFails, vasFails := (State.spindle (jobOn 9 (jobP []) keyed) 9).vasFails }
      (jobOn 9 (jobP []) keyed) ∧
    (jobP []).what = JobFor.part plA [] ∧
    State.resumed (partEnds (jobOn 9 (jobP []) keyed)) plA = none :=
  ⟨(by decide +kernel), (by decide +kernel), (by decide +kernel), (by decide +kernel), (by decide +kernel),
    (by decide +kernel), (by decide +kernel), (by rfl), (by decide +kernel)⟩

theorem test_meets_bnEnd :
    (State.spindle bnRuns 9).job = some bnJob7 ∧
    (State.spindle bnRuns 9).shadow = none ∧
    (State.spindle bnRuns 9).taking = none ∧
    (State.spindle bnRuns 9).restoring = false ∧
    bnRuns.spn.signParked = [] ∧
    bnRuns.spn.verifyParked = [] ∧
    bnRuns.arb.leaving = [] ∧
    bnJob7.prog = Prog.bn 5 256 curve0 [2, 3] ∧
    (∀ (c : Cmd) (a : List Machine.Part), bnJob7.what ≠ JobFor.part c a) ∧
    bnJob7.h.via = Transport.host ∧
    (List.find? (fun x => x.id == bnJob7.h.id) (State.queue bnRuns bnJob7.h.q).inflight = some ({ fl nopP with id := 9 })) ∧
    bnJob7.h.tag = ({ fl nopP with id := 9 }).pkt.tag :=
  ⟨(by decide +kernel), (by decide +kernel), (by decide +kernel), (by decide +kernel), (by decide +kernel),
    (by decide +kernel), (by decide +kernel), (by decide +kernel), fun _ _ h => (by cases h), (by decide +kernel)⟩

theorem test_meets_alarmNote :
    BitVec.getLsbD (hot (tmpS 3 RespStage.idle)).tmp.active 2 = false ∧
    State.unwatched (hot (tmpS 3 RespStage.idle)) 2 = false ∧
    (hot (tmpS 3 RespStage.idle)).tmp.testing = false ∧
    State.responseOf (hot (tmpS 3 RespStage.idle)) 2 ≤ BitVec.toNat (hot (tmpS 3 RespStage.idle)).tmp.level :=
  by decide +kernel

theorem test_meets_jobEndEarly :
    Option.isSome (State.spindle saving 0).taking = true ∨ (State.spindle saving 0).restoring = true :=
  (by decide +kernel)

theorem test_meets_alarmRaises :
    BitVec.getLsbD (hot awake0).tmp.active 24 = false ∧
    State.unwatched (hot awake0) 24 = false ∧
    (hot awake0).tmp.testing = false ∧
    BitVec.toNat (hot awake0).tmp.level < State.responseOf (hot awake0) 24 :=
  by decide +kernel

theorem test_meets_clearsStrip :
    (tmpS 3 RespStage.clearing).tmp.stage = RespStage.clearing ∧
    State.coreRuns (tmpS 3 RespStage.clearing) = true ∧
    2 ≤ BitVec.toNat (tmpS 3 RespStage.clearing).tmp.level :=
  by decide +kernel

theorem test_meets_clearsHold :
    (tmpS 1 RespStage.clearing).tmp.stage = RespStage.clearing ∧
    State.coreRuns (tmpS 1 RespStage.clearing) = true ∧
    (tmpS 1 RespStage.clearing).tmp.level = 1 ∧
    (tmpS 1 RespStage.clearing).tmp.release = none :=
  by decide +kernel

theorem test_meets_secretsErase :
    (tmpS 2 RespStage.erasing).tmp.stage = RespStage.erasing :=
  (by decide +kernel)

theorem test_meets_clearPulse :
    (tmpS 3 RespStage.wiping).tmp.level = 3 ∧
    (tmpS 3 RespStage.wiping).tmp.release = none ∧
    (tmpS 3 RespStage.wiping).tmp.stage = RespStage.wiping :=
  by decide +kernel

theorem test_meets_wipeBegin :
    (tmpS 2 RespStage.wipeDue).tmp.stage = RespStage.wipeDue :=
  (by decide +kernel)

theorem test_meets_clearPulseLast :
    (tmpS 3 RespStage.shares).tmp.level = 3 ∧
    (tmpS 3 RespStage.shares).tmp.release = none ∧
    (tmpS 3 RespStage.shares).tmp.stage = RespStage.shares :=
  by decide +kernel

theorem test_meets_wipeEnd :
    (tmpS 2 RespStage.wiping).tmp.stage = RespStage.wiping ∧
    (tmpS 2 RespStage.wiping).tmp.level = 2 ∧
    (tmpS 2 RespStage.wiping).tmp.release = none ∧
    Tab.sorted (tmpS 2 RespStage.wiping).ks.slots = true :=
  by decide +kernel

theorem test_meets_selfRelease :
    dwelling.tmp.dwell = true ∧
    dwelling.tmp.level = 1 ∧
    dwelling.tmp.latched = false ∧
    State.holdSource dwelling = false ∧
    dwelling.tmp.stage = RespStage.idle ∧
    dwelling.mss.st = MssSt.running :=
  by decide +kernel

theorem test_meets_builtInStart :
    awake0.tmp.testing = false ∧
    awake0.mss.st = MssSt.running :=
  by decide +kernel

theorem test_meets_builtInEnd :
    (tested [0, 1]).tmp.testing = true ∧
    (tested [0, 1]).tmp.tests = [0, 1] ∧
    (tested [0, 1]).tmp.suppressed = none ∧
    [1] ≠ [] :=
  by decide +kernel

theorem test_meets_builtInFail :
    (tested [0, 1]).tmp.testing = true ∧
    (tested [0, 1]).tmp.tests = [0, 1] ∧
    (tested [0, 1]).tmp.suppressed = none ∧
    [1] ≠ [] :=
  by decide +kernel

theorem test_meets_released :
    releasing.tmp.testing = true ∧
    releasing.tmp.tests = [24] ∧
    releasing.tmp.suppressed = none ∧
    releasing.tmp.releasing = true ∧
    releasing.tmp.testFailed = false ∧
    State.holdSource releasing = false ∧
    releasing.tmp.stage = RespStage.idle ∧
    releasing.tmp.level = 1 ∧
    releasing.gctl.ready = true ∧
    releasing.tmp.release = none ∧
    releasing.arb.waiting = [] :=
  by decide +kernel

theorem test_meets_backupAlarm :
    6 ∈ backupSources ∧
    onCell.pwr.st = PowerSt.backup ∧
    List.length onCell.tmp.store < 8 :=
  by decide +kernel

theorem test_meets_entropyTests :
    tests52.ks.entTesting = true ∧
    tests52.arb.waiting = [] ∧
    Tab.find tests52.arb.returning 82 = none :=
  by decide +kernel

theorem test_meets_sweepSound :
    18 = BitVec.toNat swept.ks.sweep ∧
    State.slot swept 18 = some (key 1 224 0 12 0) ∧
    (key 1 224 0 12 0).st = SlotSt.valid ∧
    Slot.check (key 1 224 0 12 0) = (key 1 224 0 12 0).icv ∧
    State.gensOk swept (key 1 224 0 12 0) = true :=
  ⟨(by decide +kernel), (by rfl), (by decide +kernel), (key_check _ _ _ _ _), (by decide +kernel)⟩

theorem test_meets_entropyReturns :
    returning52.ks.entTesting = true ∧
    returning52.arb.waiting = [] ∧
    Tab.find returning52.arb.returning 82 = some hold :=
  by decide +kernel

theorem test_meets_sweepCorrupt :
    18 = BitVec.toNat spoiled18.ks.sweep ∧
    State.slot spoiled18 18 = some bad18 ∧
    bad18.st = SlotSt.valid ∧
    Slot.check bad18 ≠ bad18.icv ∧
    (∀ (p : DmkKey), 18 % 16 = 0 → Tab.find spoiled18.ks.dmks (18 / 16) = some p → dmkCheck p.s0 p.s1 = p.icv) :=
  ⟨(by decide +kernel), (by rfl), (by decide +kernel), bumped _ (key_check _ _ _ _ _), fun _ h => absurd h (by decide)⟩

theorem test_meets_sweepDmk :
    0 = BitVec.toNat keyed.ks.sweep ∧
    State.slot keyed 0 = none ∧
    0 % 16 = 0 ∧
    Tab.find keyed.ks.dmks (0 / 16) = some dmk0 ∧
    dmkCheck dmk0.s0 dmk0.s1 = dmk0.icv :=
  ⟨(by decide +kernel), (by rfl), (by decide +kernel)⟩

theorem test_meets_lifecycleReset :
    lcDue.life.resetDue = true ∧
    State.mainPower lcDue = true :=
  by decide +kernel

theorem test_meets_sysRelease :
    (held true false).pwr.st = PowerSt.inReset ∧
    (held true false).pwr.porLow = false ∧
    (held true false).pwr.sysLow = true ∧
    (held true false).pwr.planeLow = false :=
  by decide +kernel

theorem test_meets_sysReleaseHeld :
    (held true true).pwr.st = PowerSt.inReset ∧
    (held true true).pwr.porLow = false ∧
    (held true true).pwr.sysLow = true ∧
    (held true true).pwr.planeLow = true :=
  by decide +kernel

theorem test_meets_planeRelease :
    (held false true).pwr.st = PowerSt.inReset ∧
    (held false true).pwr.porLow = false ∧
    (held false true).pwr.sysLow = false ∧
    (held false true).pwr.planeLow = true :=
  by decide +kernel

theorem test_meets_porRelease :
    porHeld.pwr.porLow = true ∧
    porHeld.pwr.sysLow = false ∧
    porHeld.pwr.planeLow = false :=
  by decide +kernel

theorem test_meets_por :
    State.mainPower awake0 = true :=
  (by decide +kernel)

theorem test_meets_powerFailure :
    awake0.pwr.st ≠ PowerSt.backup :=
  (by decide +kernel)

theorem test_meets_mssWatchdog :
    awake0.mss.ho = none ∧
    awake0.mss.st = MssSt.running :=
  by decide +kernel

theorem test_meets_linkReset :
    (Instr.perst, rcPerst) ∈ [(Instr.perst, rcPerst), (Instr.functionLevelReset, rcFlr)] ∧
    awake0.gctl.perstLow = false ∧
    State.planesHeld awake0 = false ∧
    (State.queue awake0 0).st = QueueSt.active :=
  by decide +kernel

theorem test_meets_sysReset :
    (Instr.sysRst, rcSys) ∈ [(Instr.sysRst, rcSys), (Instr.planeSupplyReset, rcSys)] ∧
    State.mainPower awake0 = true ∧
    awake0.pwr.sysLow = false ∧
    awake0.pwr.planeLow = false :=
  by decide +kernel

theorem test_meets_dozeEntry :
    State.mayDoze pendDoze = true ∧
    State.now pendDoze + 1280 < 2 ^ 64 :=
  by decide +kernel

theorem test_meets_dozeRead :
    dozing.pwr.st = PowerSt.doze :=
  (by decide +kernel)

theorem test_meets_wakeEnd :
    waking.pwr.st = PowerSt.waking ∧
    waking.pwr.corePll = true ∧
    waking.pwr.memPll = true ∧
    waking.pwr.heldWrites = [] :=
  by decide +kernel

theorem test_meets_dpDrained :
    draining.pwr.dpReset = true ∧
    State.answeredAll draining = true ∧
    State.now draining + 69760 < 2 ^ 64 :=
  by decide +kernel

theorem test_meets_idleUnit :
    State.busy awake0 3 = false :=
  (by decide +kernel)

theorem test_meets_recallFourth :
    (recallAt 4).kp.stage = 4 :=
  (by decide +kernel)

theorem test_meets_idleBusy :
    State.busy busy0 0 = true :=
  (by decide +kernel)

theorem test_meets_recallFirst :
    (recallAt 1).kp.stage = 1 :=
  (by decide +kernel)

theorem test_meets_recallEnds :
    (recallAt 5).kp.stage = 5 ∧
    Keeper.ringValue (recallAt 5).kp 2 < 2 ^ 32 :=
  by decide +kernel

theorem test_meets_pllGood :
    State.planesHeld awake0 = false ∧
    awake0.pwr.st = PowerSt.active ∧
    awake0.pwr.memPll = true ∧
    State.done awake0 2 = false :=
  by decide +kernel

theorem test_meets_mssBlank :
    booting.mss.st = MssSt.booting ∧
    booting.gctl.recalling = false ∧
    booting.kp.powered = true ∧
    bootOf none = bootOf (Tab.find booting.kp.records bootKey) ∧
    Option.isSome (State.imageCheck booting 2 (bootOf none).mssB) = true ∧
    Option.isSome (State.imageCheck booting 2 !(bootOf none).mssB) = true ∧
    booting.mss.update = false :=
  by decide +kernel

theorem test_meets_pllBad :
    State.planesHeld (hot (tmpS 3 RespStage.idle)) = false ∧
    BitVec.getLsbD (hot (tmpS 3 RespStage.idle)).tmp.active 8 = false ∧
    State.unwatched (hot (tmpS 3 RespStage.idle)) 8 = false ∧
    (hot (tmpS 3 RespStage.idle)).tmp.testing = false ∧
    State.responseOf (hot (tmpS 3 RespStage.idle)) 8 ≤ BitVec.toNat (hot (tmpS 3 RespStage.idle)).tmp.level :=
  by decide +kernel

theorem test_meets_startTests :
    (staged [2] awake0).pwr.st = PowerSt.active ∧
    State.done (staged [2] awake0) 2 = true ∧
    State.done (staged [2] awake0) 3 = false :=
  by decide +kernel

theorem test_meets_startTestsFail :
    (staged [2] awake0).pwr.st = PowerSt.active ∧
    State.done (staged [2] awake0) 2 = true ∧
    State.done (staged [2] awake0) 3 = false :=
  by decide +kernel

theorem test_meets_archive :
    State.due (staged [8] rootedR) 10 [8] = true ∧
    State.keeperUp (staged [8] rootedR) = true ∧
    State.rootKey (staged [8] rootedR) = some 44 :=
  by decide +kernel

theorem test_meets_dramInit :
    State.due trained 8 [7] = true ∧
    trained.mem.trained = true :=
  by decide +kernel

theorem test_meets_rebootDone :
    updating.mss.update = true ∧
    updating.mss.st = MssSt.running :=
  by decide +kernel

theorem test_meets_readyAtLast :
    State.due (staged [11] unready) 12 [11] = true ∧
    (staged [11] unready).gctl.ready = false :=
  by decide +kernel

theorem test_meets_rootDerive :
    State.due rootable 7 [3, 6] = true ∧
    State.entropyOk rootable = true ∧
    State.share rootable = some 5 ∧
    BitVec.toNat rootable.life.count < 5 :=
  by decide +kernel

theorem test_meets_smbusWaits :
    State.mssUp ported = true ∧
    ported.mss.eid ≠ 0 ∧
    messageOk message = true ∧
    List.length ported.mss.smbus < 4 :=
  by decide +kernel

theorem test_meets_handoverLoaded :
    handing.mss.ho = some hand4 ∧
    hand4.back = false ∧
    hand4.paused = false ∧
    hand4.step = 4 ∧
    handing.arb.waiting = [] :=
  by decide +kernel

theorem test_meets_mctpEid :
    State.mssUp ported = true ∧
    BitVec.getLsbD (128 : Byte) 7 = true ∧
    BitVec.toNat ((1 : Byte) &&& 3) ≤ 1 :=
  by decide +kernel

theorem test_meets_recoverBlank :
    State.due (staged [9, 10] awake0) 11 [9, 10] = true ∧
    State.keeperUp (staged [9, 10] awake0) = true ∧
    Keeper.candidates (staged [9, 10] awake0).kp = [] ∧
    State.rootsLost (staged [9, 10] awake0) = false ∧
    State.deviceFrozen (staged [9, 10] awake0) = false :=
  by decide +kernel

theorem test_meets_spiFrame :
    ported.mss.svcEn = true ∧
    State.mssUp ported = true ∧
    spiFrameOk frame = true ∧
    State.spiBusy ported = false :=
  ⟨(by decide +kernel), (by decide +kernel), frame_of (by decide +kernel) fun t => ⟨by rfl, by rfl⟩, (by decide +kernel)⟩

theorem test_meets_spiFrameBad :
    ported.mss.svcEn = true ∧
    State.mssUp ported = true ∧
    spiFrameOk [] = false :=
  by decide +kernel

theorem test_meets_pollError :
    polledErr.mss.svcEn = true ∧
    State.mssUp polledErr = true ∧
    polledErr.mss.spiErr = true :=
  by decide +kernel

theorem test_meets_pollReply :
    polled.mss.svcEn = true ∧
    State.mssUp polled = true ∧
    polled.mss.spiErr = false ∧
    polled.mss.spiOut = some [1, 2] :=
  by decide +kernel

theorem test_meets_takesMessage :
    State.mssUp choosing = true ∧
    choosing.mss.running = none ∧
    State.portChoice choosing = some 0 ∧
    choosing.mss.smbus = [message] ∧
    State.judgeSide choosing (messageCmd message).pkt Transport.smbus = none :=
  by decide +kernel

theorem test_meets_takesForwarded :
    State.mssUp forwards = true ∧
    forwards.mss.running = none ∧
    State.portChoice forwards = none ∧
    forwards.mss.forwarded = [cm (mP 2561 [] 32) []] ∧
    forwards.mss.st = MssSt.running :=
  by decide +kernel

theorem test_meets_sensors :
    awake0.mss.st = MssSt.running ∧
    List.length (List.replicate 16 3) = 16 :=
  by decide +kernel

theorem test_meets_eventLogged :
    State.nvmStatus logging = none ∧
    logging.mss.st = MssSt.running ∧
    logging.kp.posts = [evt1] ∧
    State.flashTakes logging FlashArea.log (List.length (Event.bytes evt1 (logging.kp.log.frameSeq + 1))) :=
  ⟨(by decide +kernel), (by decide +kernel), (by decide +kernel), (by unfold State.flashTakes; decide +kernel)⟩

theorem test_meets_storePosted :
    awake0.mss.st = MssSt.running ∧
    awake0.gctl.recalling = false :=
  by decide +kernel

theorem test_meets_smbusFull :
    State.mssUp filled = true ∧
    filled.mss.eid ≠ 0 ∧
    messageOk message = true ∧
    4 ≤ List.length filled.mss.smbus :=
  by decide +kernel

theorem test_meets_frameStarts :
    (roomy awake0).kp.config = Keeper.area (roomy awake0).kp req1.area ∧
    State.nvmStatus (roomy awake0) = none ∧
    (roomy awake0).kp.frame = none ∧
    Append.fits (roomy awake0).kp.config (frameLen (List.length req1.payload)) = true :=
  by decide +kernel

theorem test_meets_frameWaits :
    State.nvmStatus (framing 0 false) = none ∧
    Option.isSome (framing 0 false).kp.frame = true :=
  by decide +kernel

theorem test_meets_pageProgram :
    Memory.wf flBlank (framing 0 false).kp.flash = true ∧
    (framing 0 false).kp.frame = some (wr1 0 false) ∧
    (wr1 0 false).marker = false ∧
    (framing 0 false).kp.tripped = false ∧
    Keeper.mapDue (framing 0 false).kp = false ∧
    (wr1 0 false).addr = (wr1 0 false).addr + (wr1 0 false).done :=
  by decide +kernel

theorem test_meets_markerDone :
    Memory.wf flBlank (framing 256 true).kp.flash = true ∧
    (framing 256 true).kp.frame = some (wr1 256 true) ∧
    (wr1 256 true).marker = true ∧
    (framing 256 true).kp.frames = [] :=
  by decide +kernel

theorem test_meets_reclaim1 :
    State.nvmStatus shortLog = none ∧
    shortLog.kp.log.used = [290, 291] ∧
    List.length shortLog.kp.log.blank ≤ areaSpare FlashArea.log ∧
    shortLog.kp.log.sector ≠ 290 ∧
    shortLog.kp.erase = none ∧
    shortLog.kp.eraseQueue = [] ∧
    shortLog.kp.failedSectors = [] :=
  by decide +kernel

theorem test_meets_eraseDone :
    erasing.kp.erase = some (290, false) ∧
    erasing.kp.eraseQueue = [] ∧
    sectorArea 290 = some FlashArea.log ∧
    290 = Keeper.physical erasing.kp 290 ∧
    Memory.wf flBlank erasing.kp.flash = true :=
  by decide +kernel

theorem test_meets_powerUp :
    unpowered.kp.powered = false :=
  (by decide +kernel)

theorem test_meets_feramRecord :
    524280 % 8 = 0 ∧
    List.length (zeros 8) % 8 = 0 ∧
    8 ≤ List.length (zeros 8) ∧
    List.length (zeros 8) ≤ 128 ∧
    (524280 + List.length (zeros 8) - 1) / 64 ≤ 524280 / 64 + 1 ∧
    awake0.kp.queue = [] :=
  by decide +kernel

theorem test_meets_operatingTime :
    State.keeperUp awake0 = true ∧
    awake0.kp.queue = [] ∧
    awake0.kp.cu = none ∧
    Keeper.ringTop awake0.kp false 1 = (0, 0, 15) ∧
    Keeper.ringTop awake0.kp false 2 = (0, 0, 15) :=
  by decide +kernel

theorem test_meets_feramScrub :
    State.keeperUp awake0 = true ∧
    0 = awake0.kp.fePage % 8192 ∧
    State.writing awake0 0 = false :=
  by decide +kernel

theorem test_meets_flashScrub :
    State.nvmStatus awake0 = none :=
  (by decide +kernel)

theorem test_meets_keeperDown :
    State.keeperUp unpowered = false :=
  (by decide +kernel)

theorem test_meets_feramScrubBusy :
    State.keeperUp scrubBusy = true ∧
    2 = scrubBusy.kp.fePage % 8192 ∧
    State.writing scrubBusy 2 = true :=
  by decide +kernel

theorem test_meets_noSuchUnit :
    Instr.wf (Instr.yieldPoint 40) = false :=
  (by decide +kernel)

theorem test_meets_idleStep :
    awake0.pending = [] :=
  (by decide +kernel)

theorem test_meets_timeSets :
    Runs 0x0106 none (cm (tsP 5) []) (at0 up (tsP 5)) (fl (tsP 5)) ∧
    5 = Packet.field (cm (tsP 5) []).pkt 32 4 ∧
    BitVec.toNat (at0 up (tsP 5)).gctl.time ≤ 5 :=
  ⟨runs_of (by decide +kernel), (by decide +kernel)⟩

theorem test_meets_timeHolds :
    Runs 0x0106 none (cm (tsP 99999) []) (at0 timed (tsP 99999)) (fl (tsP 99999)) ∧
    99999 = Packet.field (cm (tsP 99999) []).pkt 32 4 ∧
    99999 < BitVec.toNat (at0 timed (tsP 99999)).gctl.time ∧
    BitVec.toNat (at0 timed (tsP 99999)).gctl.time ≤ 99999 + 86400 :=
  ⟨runs_of (by decide +kernel), (by decide +kernel)⟩

theorem test_meets_timeTooEarly :
    Runs 0x0106 none (cm (tsP 13599) []) (at0 timed (tsP 13599)) (fl (tsP 13599)) ∧
    13599 = Packet.field (cm (tsP 13599) []).pkt 32 4 ∧
    13599 + 86400 < BitVec.toNat (at0 timed (tsP 13599)).gctl.time :=
  ⟨runs_of (by decide +kernel), (by decide +kernel)⟩

theorem test_meets_slews :
    (ticking 1).pending = [] ∧
    (ticking 1).tmp.aotAcc < 390625 ∧
    390625 ≤ (ticking 1).tmp.aotAcc + 16 ∧
    BitVec.toNat ((ticking 1).tmp.aotCount + 1) % 32768 = 0 ∧
    (ticking 1).gctl.slew ≠ 0 :=
  by decide +kernel

theorem test_meets_ticks :
    (ticking 0).pending = [] ∧
    (ticking 0).tmp.aotAcc < 390625 ∧
    390625 ≤ (ticking 0).tmp.aotAcc + 16 ∧
    BitVec.toNat ((ticking 0).tmp.aotCount + 1) % 32768 = 0 ∧
    (ticking 0).gctl.slew = 0 :=
  by decide +kernel

theorem test_meets_journalAck :
    State.awake ledAwake ∧
    ledAwake.ru.jrn.en = true :=
  ⟨⟨(by decide +kernel), (by decide +kernel)⟩, (by decide +kernel)⟩

theorem test_meets_ackStays :
    Runs 0x0308 none (cm (ackP 2) []) (at0 acked (ackP 2)) (fl (ackP 2)) ∧
    2 = Packet.field (cm (ackP 2) []).pkt 32 8 ∧
    2 ≤ (at0 acked (ackP 2)).ru.jrn.written ∧
    2 ≤ (at0 acked (ackP 2)).ru.jrn.ack :=
  ⟨runs_of (by decide +kernel), (by decide +kernel)⟩

theorem test_meets_ackRises :
    Runs 0x0308 none (cm (ackP 5) []) (at0 acked (ackP 5)) (fl (ackP 5)) ∧
    5 = Packet.field (cm (ackP 5) []).pkt 32 8 ∧
    5 ≤ (at0 acked (ackP 5)).ru.jrn.written ∧
    (at0 acked (ackP 5)).ru.jrn.ack < 5 :=
  ⟨runs_of (by decide +kernel), (by decide +kernel)⟩

theorem test_meets_mssStays :
    awake0.mss.ho = none ∧
    State.awake awake0 :=
  ⟨(by decide +kernel), ⟨(by decide +kernel), (by decide +kernel)⟩⟩

theorem test_meets_ackRefused :
    Runs 0x0308 none (cm (ackP 6) []) (at0 acked (ackP 6)) (fl (ackP 6)) ∧
    6 = Packet.field (cm (ackP 6) []).pkt 32 8 ∧
    (at0 acked (ackP 6)).ru.jrn.written < 6 :=
  ⟨runs_of (by decide +kernel), (by decide +kernel)⟩

theorem test_meets_mssStaysWatchdog :
    awake0.mss.ho = none ∧
    awake0.mss.st = MssSt.running :=
  by decide +kernel

theorem test_meets_mssStaysReboot :
    (at0 imaged rebP).mss.ho = none ∧
    Runs 0x0A0E (some 1) (cm rebP []) (at0 imaged rebP) (fl rebP) ∧
    State.nvmStatus (at0 imaged rebP) = none ∧
    BootRec.state (at0 imaged rebP).mss.boot (bankNo 2 (BootRec.spare (at0 imaged rebP).mss.boot 2)) = 1 :=
  ⟨(by decide +kernel), runs_of (by decide +kernel), (by decide +kernel)⟩

theorem test_meets_everyCommand :
    Instr.wf (Instr.yieldPoint 39) = true :=
  (by decide +kernel)

theorem test_meets_tableSwap :
    swapAsked.mem.swap = true ∧
    (False ↔ (∃ j : Fin 64, 5 ≤ BitVec.toNat swapAsked.mem.shadow[j] ∧ BitVec.toNat swapAsked.mem.shadow[j] ≤ 14) ∨ (∃ o, 1 ≤ o ∧ o ≤ 4
      ∧ ∀ (j : Fin 64), BitVec.toNat swapAsked.mem.shadow[j] ≠ o) ∨ List.length (List.filter (fun j => decide (BitVec.toNat
      swapAsked.mem.shadow[j] = 0)) (List.finRange 64)) < 8) :=
  by
    have a : ¬ ∃ j : Fin 64, 5 ≤ BitVec.toNat swapAsked.mem.shadow[j] ∧ BitVec.toNat swapAsked.mem.shadow[j] ≤ 14 := by
      decide +kernel
    have b : ∀ o : Fin 5, 1 ≤ o.1 → ¬ ∀ j : Fin 64, BitVec.toNat swapAsked.mem.shadow[j] ≠ o.1 := by decide +kernel
    have c : ¬ List.length (List.filter (fun j => decide (BitVec.toNat swapAsked.mem.shadow[j] = 0)) (List.finRange 64)) < 8 := by
      decide +kernel
    refine ⟨by decide +kernel, False.elim, ?_⟩
    rintro (h | ⟨o, h1, h2, h⟩ | h)
    · exact a h
    · exact b ⟨o, by omega⟩ h1 h
    · exact c h

theorem test_meets_stepInvariant :
    State.memoryInv State.reset ∧
    State.lifeInv State.reset ∧
    State.workInv State.reset ∧
    step State.reset = Host.Outcome.next (State.tick State.reset) :=
  ⟨⟨by decide +kernel, by decide +kernel, by decide +kernel⟩, ⟨rfl, by decide +kernel⟩, ⟨by decide +kernel, by decide +kernel⟩, rfl⟩

theorem test_meets_checkpointRootFormed :
    imaging.ru.ckpt = some ckpt ∧
    ckpt.root = none :=
  by decide +kernel

/-! ## Well-formedness: each check refuses a number past its last unit and takes the last one -/

theorem test_wf_spindle : (Instr.yieldPoint 40).wf = false ∧ (Instr.yieldPoint 39).wf = true ∧
    (Instr.spindleNop 63 0 0 0 0).wf = false := by decide +kernel

theorem test_wf_arbiter : (Instr.starvationFlag 34 0).wf = false ∧ (Instr.starvationFlag 33 0).wf = true ∧
    (Instr.arbiterGrant 63 [] true).wf = false := by decide +kernel

theorem test_wf_source : (Instr.sourceInactive 25).wf = false ∧ (Instr.sourceInactive 24).wf = true ∧
    (Instr.tamperAlarm 31 0).wf = false := by decide +kernel

theorem test_wf_sealCtx : (Instr.sealTagFormed 40960).wf = false ∧ (Instr.sealTagFormed 40959).wf = true := by decide +kernel

/-! ## Functions with published results -/

/-- SM3 of "abc", the first example of GB/T 32905-2016. -/
theorem test_sm3_abc :
    sm3 [0x61, 0x62, 0x63] = 0x66c7f0f462eeedd9d1f2d46bdc10e4e24167c4875cf2f7a2297da02b8f4ba8e0 := by decide +kernel

/-- CRC-32 of one bit set in the last place is the polynomial (R221). -/
theorem test_crc_one : crc32 [1] = 0x04C11DB7 := by decide +kernel

/-- CRC-32 over the nine ASCII bytes of R221. -/
theorem test_crc_digits : crc32 [0x31, 0x32, 0x33, 0x34, 0x35, 0x36, 0x37, 0x38, 0x39] = 0x89A1897F := by decide +kernel

/-! ## Words of the spindle instruction formats (R147, R148) -/

/-- Format A: code 000001, D 0000001, A 0000010, B 0000011, M 00000. -/
theorem test_spindle_word_a : spindleInstr 9 0b00000100000010000010000001100000#32 = .add 9 1 2 3 0 := by decide +kernel

/-- Format I: code 001110, D 0000101, IMM12 100000000001, seven reserved bits; and format C: code 100101, N 10, eight reserved bits,
IMM 0000000000010000. -/
theorem test_spindle_words_i_c :
    spindleInstr 9 0b00111000001011000000000010000000#32 = .ldi 9 5 0x801 ∧
    spindleInstr 9 0b10010110000000000000000000010000#32 = .call 9 2 16 := by decide +kernel

end Sys2Proof.Tests
end

section
/-! PROOFS. The device time (R5, R61): what `TIME_SET` makes of it, and what a cycle of the clock with an empty queue makes of it. -/

namespace Sys2Proof.Machine

/-! ## What follows a body leaves the device time -/

/-- No reply touches the device time or the seconds it is held still, whenever it is posted. -/
theorem Out.finish_time_slew (x : Ctx) (o : Out) :
    (o.finish x).gctl.time = o.s.gctl.time ∧ (o.finish x).gctl.slew = o.s.gctl.slew := by
  unfold Out.finish
  split
  · rw [State.postReply_gctl]
    exact ⟨rfl, rfl⟩
  · exact ⟨rfl, rfl⟩
  · exact ⟨rfl, rfl⟩

@[simp] theorem Out.finish_time (x : Ctx) (o : Out) : (o.finish x).gctl.time = o.s.gctl.time := (o.finish_time_slew x).1
@[simp] theorem Out.finish_slew (x : Ctx) (o : Out) : (o.finish x).gctl.slew = o.s.gctl.slew := (o.finish_time_slew x).2

/-! ## `TIME_SET` -/

theorem exec_timeSet (c : Cmd) (s : State) : exec (.timeSet c) s = .next (runOp 0x0106 none timeSetBody c s) := rfl

section
variable {x : Ctx} {s : State}

theorem timeSetBody_of_le (h : s.gctl.time.toNat ≤ x.c.pkt.field 32 4) :
    timeSetBody x s =
      { s := { s with gctl := { s.gctl with time := BitVec.ofNat 32 (x.c.pkt.field 32 4), slew := 0 } }, cyc := 70 } :=
  if_pos h

theorem timeSetBody_of_lt (h : x.c.pkt.field 32 4 < s.gctl.time.toNat)
    (hd : s.gctl.time.toNat ≤ x.c.pkt.field 32 4 + 86400) :
    timeSetBody x s =
      { s := { s with gctl := { s.gctl with slew := BitVec.ofNat 32 (s.gctl.time.toNat - x.c.pkt.field 32 4) } }, cyc := 70
        inl := inlAt 0 (s.gctl.time.toNat - x.c.pkt.field 32 4) } :=
  (if_neg (by omega)).trans (if_pos (by omega))

theorem timeSetBody_of_early (h : x.c.pkt.field 32 4 + 86400 < s.gctl.time.toNat) :
    timeSetBody x s = x.refused s stBadParameter :=
  (if_neg (by omega)).trans (if_neg (by omega))

end

/-- The body answers at once and leaves the queues. -/
theorem timeSetBody_frame (x : Ctx) (s : State) :
    (timeSetBody x s).when_ = .now ∧ ∀ q, (timeSetBody x s).s.queue q = s.queue q := by
  unfold timeSetBody
  dsimp only
  split
  · exact ⟨rfl, fun _ => rfl⟩
  · split <;> exact ⟨rfl, fun _ => rfl⟩

section
variable {c : Cmd} {s : State} {f : Fetched}

/-- What a `TIME_SET` that runs completes with: its body's device time, seconds of standing still and answer. -/
theorem completes_timeSet (h : Runs 0x0106 none c s f) {o : Out}
    (ho : timeSetBody (s.ctxRun 0x0106 none c f) (s.begun 0x0106 none c f) = o) :
    Completes (.timeSet c) s fun t =>
      t.gctl.time = o.s.gctl.time ∧ t.gctl.slew = o.s.gctl.slew ∧ t.answers c.q f o.status o.inl := by
  subst ho
  obtain ⟨hnow, hqueue⟩ := timeSetBody_frame (s.ctxRun 0x0106 none c f) (s.begun 0x0106 none c f)
  exact ⟨_, by rw [exec_timeSet, runOp_runs h], Out.finish_time _ _, Out.finish_slew _ _, finish_answers h _ hnow (hqueue c.q)⟩

/-- The value that the packet of the row carries is the command's own. -/
theorem State.ctxRun_field (op : BitVec 16) (c : Cmd) (f : Fetched) (s : State) (k n : Nat) :
    (s.ctxRun op none c f).c.pkt.field k n = c.pkt.field k n := rfl

/-- A field of four bytes fits a word of 32 bits. -/
theorem field_four_lt (p : Packet) (k : Nat) : p.field k 4 < 2 ^ 32 := Nat.mod_lt _ (by decide)

/-- R61: a value at or after the device time sets it. -/
theorem timeSet_sets (h : Runs 0x0106 none c s f) (hv : s.gctl.time.toNat ≤ c.pkt.field 32 4) :
    Completes (.timeSet c) s fun t =>
      t.gctl.time.toNat = c.pkt.field 32 4 ∧ t.gctl.slew = 0 ∧ t.answers c.q f 0 0 := by
  obtain ⟨t, he, htime, hslew, hans⟩ := completes_timeSet h (timeSetBody_of_le (by rwa [State.begun_gctl]))
  have hfit : (BitVec.ofNat 32 (c.pkt.field 32 4)).toNat = c.pkt.field 32 4 :=
    Nat.mod_eq_of_lt (field_four_lt c.pkt 32)
  exact ⟨t, he, (congrArg BitVec.toNat htime).trans hfit, hslew, hans⟩

/-- R61: a value earlier by at most a day holds the device time still for the difference. -/
theorem timeSet_holds (h : Runs 0x0106 none c s f) (hv : c.pkt.field 32 4 < s.gctl.time.toNat)
    (hd : s.gctl.time.toNat ≤ c.pkt.field 32 4 + 86400) :
    Completes (.timeSet c) s fun t =>
      t.gctl.time = s.gctl.time ∧ t.gctl.slew.toNat = s.gctl.time.toNat - c.pkt.field 32 4 ∧
      t.answers c.q f 0 (inlAt 0 (s.gctl.time.toNat - c.pkt.field 32 4)) := by
  obtain ⟨t, he, htime, hslew, hans⟩ :=
    completes_timeSet h (timeSetBody_of_lt (by rwa [State.begun_gctl]) (by rwa [State.begun_gctl]))
  simp only [State.begun_gctl, State.ctxRun_field] at htime hslew hans
  have hfit : (BitVec.ofNat 32 (s.gctl.time.toNat - c.pkt.field 32 4)).toNat = s.gctl.time.toNat - c.pkt.field 32 4 :=
    Nat.mod_eq_of_lt (by omega)
  exact ⟨t, he, htime, (congrArg BitVec.toNat hslew).trans hfit, hans⟩

/-- R61: a value earlier than that is refused, and the device time goes on as it did. -/
theorem timeSet_refuses (h : Runs 0x0106 none c s f) (hv : c.pkt.field 32 4 + 86400 < s.gctl.time.toNat) :
    Completes (.timeSet c) s fun t =>
      t.gctl.time = s.gctl.time ∧ t.gctl.slew = s.gctl.slew ∧ t.answers c.q f stBadParameter 0 := by
  obtain ⟨t, he, htime, hslew, hans⟩ := completes_timeSet h (timeSetBody_of_early (by rwa [State.begun_gctl]))
  simp only [Ctx.refused, Out.stop, State.begun_gctl] at htime hslew hans
  exact ⟨t, he, htime, hslew, hans⟩

end

/-! ## The clock -/

/-- A second of real time that the device time is held still for. -/
theorem Gctl.seconds_one_held {g : Gctl} (h : g.slew ≠ 0) : g.seconds 1 = { g with slew := g.slew - 1 } := by
  have hpos : 1 ≤ g.slew.toNat := Nat.one_le_iff_ne_zero.mpr fun h0 => h (BitVec.eq_of_toNat_eq h0)
  simp [Gctl.seconds, Nat.min_eq_left hpos]

/-- A second of real time that the device time follows. -/
theorem Gctl.seconds_one_free {g : Gctl} (h : g.slew = 0) : g.seconds 1 = { g with time := g.time + 1 } := by
  simp [Gctl.seconds, h]

/-- A second ends with this nominal core cycle: a period of the always-on clock ends, the last of the 32,768 of a second (R5, R18). -/
structure State.secondEnds (s : State) : Prop where
  before : s.tmp.aotAcc < 390625
  period : 390625 ≤ s.tmp.aotAcc + 16
  second : (s.tmp.aotCount + 1).toNat % 32768 = 0

/-- The cycle that ends a second passes one second. -/
theorem State.lapsed_one_gctl {s : State} (h : s.secondEnds) : (s.lapsed 1).gctl = s.gctl.seconds 1 := by
  obtain ⟨hbefore, hperiod, hsecond⟩ := h
  have hone : (s.tmp.aotAcc + 16 * 1) / 390625 = 1 := by omega
  have hlast : (s.tmp.aotCount.toNat % 32768 + 1) / 32768 = 1 := by bv_omega
  simp only [State.lapsed, hone, hlast]

/-- A cycle of the clock moves the device time as the lapse of one nominal core cycle does, whether CLK_CORE runs or not (R18). -/
theorem State.tick_time_slew (s : State) :
    s.tick.gctl.time = (s.lapsed 1).gctl.time ∧ s.tick.gctl.slew = (s.lapsed 1).gctl.slew := by
  unfold State.tick
  dsimp only
  split <;> exact ⟨rfl, rfl⟩

theorem step_idle {s : State} (h : s.pending = []) : step s = .next s.tick := by
  simp [step, h]

/-- R61: with the device time held still, a second of real time uses up one of the seconds that remain. -/
theorem State.tick_held {s : State} (h : s.secondEnds) (hs : s.gctl.slew ≠ 0) :
    s.tick.gctl.time = s.gctl.time ∧ s.tick.gctl.slew = s.gctl.slew - 1 := by
  obtain ⟨htime, hslew⟩ := s.tick_time_slew
  rw [htime, hslew, State.lapsed_one_gctl h, Gctl.seconds_one_held hs]
  exact ⟨rfl, rfl⟩

/-- R5: otherwise the device time advances by the second. -/
theorem State.tick_free {s : State} (h : s.secondEnds) (hs : s.gctl.slew = 0) :
    s.tick.gctl.time = s.gctl.time + 1 ∧ s.tick.gctl.slew = 0 := by
  obtain ⟨htime, hslew⟩ := s.tick_time_slew
  rw [htime, hslew, State.lapsed_one_gctl h, Gctl.seconds_one_free hs]
  exact ⟨rfl, hs⟩

/-- Settles O54: `TIME_SET` by the three cases of its body, the clock by whether the device time is held still. -/
theorem timeSetNeverGoesBack : Obligations.TimeSetNeverGoesBack := by
  unfold Obligations.TimeSetNeverGoesBack
  refine ⟨fun c s f v h hv => ?_, fun s hidle hbefore hperiod hsecond => ?_⟩
  · subst hv
    exact ⟨timeSet_sets h, timeSet_holds h, timeSet_refuses h⟩
  · have hend : s.secondEnds := ⟨hbefore, hperiod, hsecond⟩
    exact ⟨fun hs => ⟨s.tick, step_idle hidle, State.tick_held hend hs⟩,
      fun hs => ⟨s.tick, step_idle hidle, State.tick_free hend hs⟩⟩

end Sys2Proof.Machine
end

section
/-! PROOFS. The schedule of a spindle (R149): no instruction's way through the sequencer, and no cycle of it, depends on the words,
flags and secrets that its program computes on. -/

namespace Sys2Proof.Machine

/-! ## One spindle of the state, read and set -/

section
variable {n : Nat} (p q : Spindle) (s : State)

theorem State.spindle_setSpindle (hn : n < 40) : (s.setSpindle n p).spindle n = p := by
  simp [State.spindle, State.setSpindle, hn]

@[simp] theorem State.setSpindle_setSpindle : (s.setSpindle n p).setSpindle n q = s.setSpindle n q := by
  simp [State.setSpindle]

theorem State.setSpindle_spindle (hn : n < 40) : s.setSpindle n (s.spindle n) = s := by
  have hsp : s.spn.sp.setIfInBounds n (s.spindle n) = s.spn.sp := by
    ext i hi
    simp only [State.spindle]
    grind
  rw [State.setSpindle, hsp]

end

/-! ## What blinding shows of a lane and a spindle -/

/-- A lane without what its program computes on. -/
def Lane.blinded (l : Lane) : Lane := { l with w := Vector.replicate 128 0, acc := 0, c := false, e := false }

@[simp] theorem Lane.blinded_blinded (l : Lane) : l.blinded.blinded = l.blinded := rfl

@[simp] theorem Lane.blinded_put (d : BitVec 7) (v : BitVec 256) (l : Lane) : (l.put d v).blinded = l.blinded := rfl

theorem Lane.next_blinded (l : Lane) : l.blinded.next = l.next.map Lane.blinded := by
  have hpc : l.blinded.pc = l.pc := rfl
  unfold Lane.next
  rw [hpc]
  split <;> rfl

/-- The sequencer goes on, or past the last address, from all lanes that look the same. -/
theorem Lane.next_congr {l l' : Lane} (h : l.blinded = l'.blinded) : l.next.map Lane.blinded = l'.next.map Lane.blinded := by
  rw [← Lane.next_blinded, h, Lane.next_blinded]

/-- A word from outside the lane enters operand memory in a fixed number of cycles. -/
theorem Lane.put_next_congr (cyc : Nat) (d : BitVec 7) (v v' : BitVec 256) (p : Spindle) :
    ((p.lane.timed false cyc 0).put d v).next.map Lane.blinded =
      ((p.blinded.lane.timed false cyc 0).put d v').next.map Lane.blinded :=
  Lane.next_congr (by rw [Lane.blinded_put, Lane.blinded_put]; rfl)

section
variable (p : Spindle)

@[simp] theorem Spindle.blinded_blinded : p.blinded.blinded = p.blinded := by
  simp [Spindle.blinded, Function.comp_def]

@[simp] theorem Spindle.blinded_halted_isSome : p.blinded.halted.isSome = p.halted.isSome := Option.isSome_map

@[simp] theorem Spindle.blinded_halted_isNone : p.blinded.halted.isNone = p.halted.isNone := Option.isNone_map

@[simp] theorem Spindle.blinded_ent_length : p.blinded.ent.length = p.ent.length := List.length_map _

@[simp] theorem Spindle.blinded_ent_isEmpty : p.blinded.ent.isEmpty = p.ent.isEmpty := List.isEmpty_map

@[simp] theorem Spindle.blinded_fetchOk (n : Nat) : fetchOk n p.blinded.lane = fetchOk n p.lane := rfl

end

/-! ## What blinding shows of the state -/

section
variable (n : Nat) (s : State)

@[simp] theorem State.blinded_ks : (s.blinded n).ks = s.ks := rfl

@[simp] theorem State.blinded_entropyOk : (s.blinded n).entropyOk = s.entropyOk := rfl

@[simp] theorem State.blinded_drawn (k : Nat) : (s.drawn k).blinded n = (s.blinded n).drawn k := rfl

@[simp] theorem State.setSpindle_blinded (p : Spindle) : (s.blinded n).setSpindle n p = s.setSpindle n p :=
  State.setSpindle_setSpindle _ _ _

end

section
variable {n : Nat} (hn : n < 40)
include hn

theorem State.spindle_blinded (s : State) : (s.blinded n).spindle n = (s.spindle n).blinded :=
  State.spindle_setSpindle _ _ hn

theorem State.blinded_setSpindle (p : Spindle) (s : State) : (s.setSpindle n p).blinded n = s.setSpindle n p.blinded := by
  rw [State.blinded, State.spindle_setSpindle _ _ hn, State.setSpindle_setSpindle]

theorem State.blinded_blinded (s : State) : (s.blinded n).blinded n = s.blinded n := by
  rw [State.blinded, State.spindle_blinded hn, Spindle.blinded_blinded, State.setSpindle_blinded, ← State.blinded]

/-- Two states that look the same have the spindle that looks the same. -/
theorem State.blinded_spindle_congr {s s' : State} (h : s.blinded n = s'.blinded n) :
    (s.spindle n).blinded = (s'.spindle n).blinded := by
  rw [← State.spindle_blinded hn, h, State.spindle_blinded hn]

end

/-- Two states that look the same are the same around the spindle. -/
theorem State.setSpindle_congr {n : Nat} {s s' : State} (h : s.blinded n = s'.blinded n) (p : Spindle) :
    s.setSpindle n p = s'.setSpindle n p := by
  rw [← State.setSpindle_blinded, h, State.setSpindle_blinded]

/-! ## Oblivious effects -/

/-- An effect on a spindle goes the same way, whether it faults or not, and does the same to all that blinding shows, whatever
blinding hides (R149). -/
def Oblivious (f : Spindle → Option Spindle) : Prop := ∀ p, (f p).map Spindle.blinded = (f p.blinded).map Spindle.blinded

theorem Oblivious.congr {f : Spindle → Option Spindle} (hf : Oblivious f) {p p' : Spindle} (h : p.blinded = p'.blinded) :
    (f p).map Spindle.blinded = (f p').map Spindle.blinded := by
  rw [hf p, h, ← hf p']

theorem oblivious_none : Oblivious fun _ => none := fun _ => rfl

theorem oblivious_some : Oblivious some := fun p => congrArg some p.blinded_blinded.symm

/-- A choice by what blinding shows. -/
theorem Oblivious.ite {c : Spindle → Prop} [DecidablePred c] {f g : Spindle → Option Spindle} (hc : ∀ p, c p.blinded ↔ c p)
    (hf : Oblivious f) (hg : Oblivious g) : Oblivious fun p => if c p then f p else g p := by
  intro p
  simp only [hc]
  split
  · exact hf p
  · exact hg p

/-- An effect after a write of what blinding hides. -/
theorem Oblivious.after_hidden {f : Spindle → Option Spindle} {u : Spindle → Spindle} (hu : ∀ p, (u p).blinded = p.blinded)
    (hf : Oblivious f) : Oblivious fun p => f (u p) :=
  fun p => hf.congr (by rw [hu, hu, Spindle.blinded_blinded])

/-- A move of the lane, which may fault, with a change besides. -/
theorem Oblivious.onLane {g : Spindle → Option Lane} {u : Spindle → Spindle}
    (hg : ∀ p, (g p).map Lane.blinded = (g p.blinded).map Lane.blinded) (hu : ∀ p, (u p).blinded = (u p.blinded).blinded) :
    Oblivious fun p => (g p).map fun l => { u p with lane := l } := by
  intro p
  have hset (o : Option Lane) (q : Spindle) : (o.map fun l => { q with lane := l }).map Spindle.blinded =
      (o.map Lane.blinded).map fun l => { q.blinded with lane := l } := by
    cases o <;> rfl
  rw [hset, hset, hg, hu]

/-- A move of the lane, which may fault, and nothing else. -/
theorem Oblivious.lane {g : Spindle → Option Lane} (hg : ∀ p, (g p).map Lane.blinded = (g p.blinded).map Lane.blinded) :
    Oblivious fun p => (g p).map fun l => { p with lane := l } :=
  .onLane (u := id) hg fun p => p.blinded_blinded.symm

/-! ## Instructions that go on to the next address -/

theorem laneOp_oblivious {usesMac : Bool} {busy : Nat} {g : Lane → Lane} (hg : ∀ l, (g l).blinded = (g l.blinded).blinded) :
    Oblivious (laneOp usesMac busy g) :=
  .lane fun p => Lane.next_congr (hg (p.lane.timed usesMac 1 busy))

/-- An instruction that writes operand words, accumulator and flags alone. -/
theorem laneOp_oblivious_of_data {usesMac : Bool} {busy : Nat} {g : Lane → Lane} (hg : ∀ l, (g l).blinded = l.blinded) :
    Oblivious (laneOp usesMac busy g) :=
  laneOp_oblivious fun l => by rw [hg, hg, Lane.blinded_blinded]

/-- An instruction that reads and writes loop counters and index registers alone. -/
theorem laneOp_oblivious_of_control {usesMac : Bool} {busy : Nat} {g : Lane → Lane} (hg : ∀ l, (g l).blinded = g l.blinded) :
    Oblivious (laneOp usesMac busy g) :=
  laneOp_oblivious fun l => by rw [hg, ← hg, Lane.blinded_blinded]

theorem carryOp_oblivious (d a b : BitVec 7) (m : BitVec 5) (g : BitVec 256 → BitVec 256 → Bool → BitVec 256 × Bool) :
    Oblivious (carryOp d a b m g) :=
  laneOp_oblivious_of_data fun _ => rfl

theorem wordOp_oblivious (d a b : BitVec 7) (m : BitVec 5) (g : BitVec 256 → BitVec 256 → BitVec 256) :
    Oblivious (wordOp d a b m g) :=
  laneOp_oblivious_of_data fun _ => rfl

/-! ## Instructions that set the program counter, and `HALT` -/

/-- A transfer of control whose target and time the program and the sequencer fix. -/
theorem oblivious_transfer {g : Lane → Lane} (hg : ∀ l, (g l).blinded = g l.blinded) :
    Oblivious fun p => some { p with lane := g p.lane } :=
  .lane (g := fun p => some (g p.lane)) fun p => congrArg some ((hg p.lane).trans (hg p.blinded.lane).symm)

/-- A return goes to the address on top of the stack, and faults on an empty one. -/
theorem ret_oblivious : Oblivious fun p =>
    match p.lane.stack with
    | [] => none
    | a :: rest => some { p with lane := { p.lane.timed false 2 0 with pc := a, stack := rest } } := by
  intro p
  have hstack : p.blinded.lane.stack = p.lane.stack := rfl
  simp only [hstack]
  cases p.lane.stack with
  | nil => rfl
  | cons a rest =>
    exact oblivious_transfer (g := fun l => { l.timed false 2 0 with pc := a, stack := rest }) (fun _ => rfl) p

/-- The program ends in the same cycle; its status alone may differ. -/
theorem halt_oblivious (status : Bool → BitVec 2) :
    Oblivious fun p => some { p with lane := p.lane.timed false 1 0, halted := some (status p.lane.e) } :=
  fun p => congrArg some (by simp [Spindle.blinded, Lane.timed])

/-! ## `KEY` and `RND` -/

/-- `KEY` on a spindle. -/
def takeKey (n : Nat) (d : BitVec 7) (m : BitVec 5) (p : Spindle) : Option Spindle :=
  ((p.lane.timed false 4 0).put d (if n < 8 then p.keyOp.extractLsb' (256 * (m.extractLsb' 0 1).toNat) 256 else 0)).next.map
    fun l => { p with lane := l }

theorem exec_key (sp : BitVec 6) (d a b : BitVec 7) (m : BitVec 5) (s : State) :
    exec (.key sp d a b m) s = runIsa sp (takeKey sp.toNat d m) s := rfl

theorem takeKey_oblivious (n : Nat) (d : BitVec 7) (m : BitVec 5) : Oblivious (takeKey n d m) :=
  .lane fun p => Lane.put_next_congr 4 d _ _ p

/-- A signing spindle's entropy buffer gives up its next word. -/
def Spindle.popEntropy (n : Nat) (p : Spindle) : Spindle := { p with ent := if n < 8 then p.ent.drop 1 else p.ent }

/-- `RND` on a spindle whose entropy is ready. -/
def takeEntropy (n : Nat) (d : BitVec 7) (p : Spindle) : Option Spindle :=
  ((p.lane.timed false 8 0).put d (if n < 8 then p.ent.headD 0 else 0)).next.map fun l => { p.popEntropy n with lane := l }

/-- The state in which `RND` runs: a signing spindle's empty buffer is filled. -/
def State.entropyReady (n : Nat) (s : State) : State :=
  if n < 8 ∧ (s.spindle n).ent.isEmpty ∧ (s.spindle n).halted.isNone ∧ fetchOk n (s.spindle n).lane then s.entropyFor n else s

theorem exec_rnd (sp : BitVec 6) (d a b : BitVec 7) (m : BitVec 5) (s : State) :
    exec (.rnd sp d a b m) s = runIsa sp (takeEntropy sp.toNat d) (s.entropyReady sp.toNat) := rfl

theorem Spindle.popEntropy_blinded (n : Nat) (p : Spindle) : (p.popEntropy n).blinded = (p.blinded.popEntropy n).blinded := by
  unfold Spindle.popEntropy
  split <;> simp [Spindle.blinded, Function.comp_def]

theorem takeEntropy_oblivious (n : Nat) (d : BitVec 7) : Oblivious (takeEntropy n d) :=
  .onLane (fun p => Lane.put_next_congr 8 d _ _ p) (Spindle.popEntropy_blinded n)

section
variable {n : Nat} (hn : n < 40)
include hn

/-- How many words a buffer takes depends on how many it holds. -/
theorem State.fillEntropy_blinded (s : State) : (s.fillEntropy n).blinded n = ((s.blinded n).fillEntropy n).blinded n := by
  unfold State.fillEntropy
  simp only [State.blinded_entropyOk, State.blinded_ks, State.spindle_blinded hn, Spindle.blinded_ent_length]
  split
  · simp only [State.blinded_drawn, State.blinded_setSpindle hn, State.setSpindle_blinded]
    simp [Spindle.blinded, Function.comp_def]
  · rw [State.blinded_blinded hn]

theorem State.entropyFor_blinded (s : State) : (s.entropyFor n).blinded n = ((s.blinded n).entropyFor n).blinded n := by
  unfold State.entropyFor
  simp only [State.blinded_entropyOk, State.blinded_ks, State.spindle_blinded hn]
  split
  · exact State.fillEntropy_blinded hn s
  · simp only [State.blinded_drawn, State.blinded_setSpindle hn, State.setSpindle_blinded]
    simp [Spindle.blinded, Function.comp_def]

theorem State.entropyReady_blinded (s : State) : (s.entropyReady n).blinded n = ((s.blinded n).entropyReady n).blinded n := by
  unfold State.entropyReady
  simp only [State.spindle_blinded hn, Spindle.blinded_ent_isEmpty, Spindle.blinded_halted_isNone, Spindle.blinded_fetchOk]
  split
  · exact State.entropyFor_blinded hn s
  · rw [State.blinded_blinded hn]

theorem State.entropyReady_congr {s s' : State} (h : s.blinded n = s'.blinded n) :
    (s.entropyReady n).blinded n = (s'.entropyReady n).blinded n := by
  rw [State.entropyReady_blinded hn, h, ← State.entropyReady_blinded hn]

end

/-! ## The rows -/

/-- Every row of the instruction set but `RND`, which may fill the entropy buffer first, is an oblivious effect on its spindle. -/
theorem exec_program {c : Instr} {sp : BitVec 6} (h : c.program = some sp) :
    (∃ d a b m, c = .rnd sp d a b m) ∨ ∃ f, Oblivious f ∧ ∀ s, exec c s = runIsa sp f s := by
  cases c with
  | rnd _ d a b m =>
    cases h
    exact .inl ⟨d, a, b, m, rfl⟩
  | add | addc | sub | subc =>
    cases h
    exact .inr ⟨_, carryOp_oblivious _ _ _ _ _, fun _ => rfl⟩
  | and | or | xor | mov =>
    cases h
    exact .inr ⟨_, wordOp_oblivious _ _ _ _ _, fun _ => rfl⟩
  | cmp | sel | fsr | bit | clr | ldi | mul | mac | mull | macl | accld | accadd | accsh | acclo | acchi | accx =>
    cases h
    refine .inr ⟨_, ?_, fun _ => rfl⟩
    exact laneOp_oblivious_of_data fun _ => rfl
  | spindleNop | setlc | setix | addix =>
    cases h
    refine .inr ⟨_, ?_, fun _ => rfl⟩
    exact laneOp_oblivious_of_control fun _ => rfl
  | outw _ d a b m =>
    cases h
    refine .inr ⟨_, ?_, fun s => (rfl : execOutw sp d a b m s = _)⟩
    exact .after_hidden (fun _ => rfl) (laneOp_oblivious_of_control fun _ => rfl)
  | loop _ n imm =>
    cases h
    refine .inr ⟨_, ?_, fun s => (rfl : execLoop sp n imm s = _)⟩
    exact .ite (fun _ => .rfl) (laneOp_oblivious_of_control fun _ => rfl)
      (oblivious_transfer (g := fun l => jumpTo imm (l.setLc n (l.lcAt n - 1))) fun _ => rfl)
  | jmp _ n imm =>
    cases h
    refine .inr ⟨_, ?_, fun s => (rfl : execJmp sp n imm s = _)⟩
    exact oblivious_transfer fun _ => rfl
  | call _ n imm =>
    cases h
    refine .inr ⟨_, ?_, fun s => (rfl : execCall sp n imm s = _)⟩
    exact .ite (fun _ => .rfl) oblivious_none
      (oblivious_transfer (g := fun l => jumpTo imm { l with stack := (l.pc + 1) :: l.stack }) fun _ => rfl)
  | ret =>
    cases h
    exact .inr ⟨_, ret_oblivious, fun _ => rfl⟩
  | halt _ _ imm =>
    cases h
    exact .inr ⟨_, halt_oblivious (haltStatus imm), fun _ => rfl⟩
  | key _ d a b m =>
    cases h
    exact .inr ⟨_, takeKey_oblivious sp.toNat d m, exec_key sp d a b m⟩
  | spindleUndefinedCode _ word =>
    cases h
    refine .inr ⟨_, ?_, fun s => (rfl : execSpindleUndefinedCode sp word s = _)⟩
    exact .ite (fun _ => .rfl) oblivious_some oblivious_none
  | _ => cases h

/-! ## One instruction on two states -/

/-- What a row makes of its spindle: nothing new where the program has halted, none where the job faults. -/
def isaStep (n : Nat) (f : Spindle → Option Spindle) (p : Spindle) : Option Spindle :=
  if p.halted.isSome then some p else if fetchOk n p.lane then f p else none

theorem isaStep_oblivious (n : Nat) {f : Spindle → Option Spindle} (hf : Oblivious f) : Oblivious (isaStep n f) :=
  .ite (fun p => by rw [Spindle.blinded_halted_isSome]) oblivious_some (.ite (fun _ => .rfl) hf oblivious_none)

theorem runIsa_eq {sp : BitVec 6} (hn : sp.toNat < 40) (f : Spindle → Option Spindle) (s : State) :
    runIsa sp f s =
      .next ((isaStep sp.toNat f (s.spindle sp.toNat)).elim (s.faultJob sp.toNat) fun p => s.setSpindle sp.toNat p) := by
  unfold runIsa isaStep
  simp only [Nat.not_le.mpr hn, if_false]
  by_cases hhalt : (s.spindle sp.toNat).halted.isSome
  · simp [hhalt, State.setSpindle_spindle s hn]
  by_cases hfetch : fetchOk sp.toNat (s.spindle sp.toNat).lane
  · cases f (s.spindle sp.toNat) <;> simp [hhalt, hfetch]
  · simp [hhalt, hfetch]

/-- Two states differ in what a spindle computes on alone, or its job faulted in both, in states that differ so. -/
def SameSchedule (n : Nat) (t t' : State) : Prop :=
  t.blinded n = t'.blinded n ∨ ∃ u u' : State, u.blinded n = u'.blinded n ∧ t = u.faultJob n ∧ t' = u'.faultJob n

theorem runIsa_sameSchedule {sp : BitVec 6} (hn : sp.toNat < 40) {f : Spindle → Option Spindle} (hf : Oblivious f)
    {s s' t t' : State} (h : s.blinded sp.toNat = s'.blinded sp.toNat) (ht : runIsa sp f s = .next t)
    (ht' : runIsa sp f s' = .next t') : SameSchedule sp.toNat t t' := by
  have hstep := (isaStep_oblivious sp.toNat hf).congr (State.blinded_spindle_congr hn h)
  rw [runIsa_eq hn] at ht ht'
  obtain rfl := Host.Outcome.next.inj ht
  obtain rfl := Host.Outcome.next.inj ht'
  generalize isaStep sp.toNat f (s.spindle sp.toNat) = o at hstep ⊢
  generalize isaStep sp.toNat f (s'.spindle sp.toNat) = o' at hstep ⊢
  cases o with
  | none =>
    rw [Option.map_eq_none_iff.mp hstep.symm]
    exact .inr ⟨s, s', h, Option.elim_none .., Option.elim_none ..⟩
  | some p =>
    obtain ⟨p', rfl, hp⟩ := Option.map_eq_some_iff.mp hstep.symm
    refine .inl ?_
    simp only [Option.elim_some, State.blinded_setSpindle hn]
    rw [← hp, State.setSpindle_congr h]

/-- Settles O53: every row is an oblivious effect on its spindle, in a state that looks the same. -/
theorem spindleScheduleIgnoresData : Obligations.SpindleScheduleIgnoresData := by
  unfold Obligations.SpindleScheduleIgnoresData
  intro c sp s s' t t' hc hn h ht ht'
  obtain ⟨d, a, b, m, rfl⟩ | ⟨f, hf, hexec⟩ := exec_program hc
  · rw [exec_rnd] at ht ht'
    exact runIsa_sameSchedule hn (takeEntropy_oblivious sp.toNat d) (State.entropyReady_congr hn h) ht ht'
  · rw [hexec] at ht ht'
    exact runIsa_sameSchedule hn hf h ht ht'

end Sys2Proof.Machine
end

section
/-! PROOFS. The memory schedule's tables (R252, R253): which shadow the boundary takes, and what a write of the shadow sets. -/

namespace Sys2Proof.Machine

/-! ## The check at the boundary -/

theorem slotsOf_eq (t : Vector (BitVec 4) 64) (o : Nat) :
    slotsOf t o = ((List.finRange 64).filter fun j => t[j].toNat = o).length := by
  have hlist : t.toList = (List.finRange 64).map fun j => t[j] := List.ext_getElem (by simp) (by simp)
  simp [slotsOf, hlist, List.filter_map, Function.comp_def, beq_eq_decide]

/-- An owner has a slot. -/
theorem one_le_slotsOf (t : Vector (BitVec 4) 64) (o : Nat) : 1 ≤ slotsOf t o ↔ ∃ j : Fin 64, t[j].toNat = o := by
  rw [slotsOf_eq, Nat.one_le_iff_ne_zero, Ne, List.length_eq_zero_iff, List.filter_eq_nil_iff]
  simp

/-- A table breaks R253: it gives a slot a code from 5 to 14, one of the owners 1 to 4 no slot, or the register engine too few. -/
def TableBad (t : Vector (BitVec 4) 64) : Prop :=
  (∃ j : Fin 64, 5 ≤ t[j].toNat ∧ t[j].toNat ≤ 14) ∨ (∃ o : Nat, 1 ≤ o ∧ o ≤ 4 ∧ ∀ j : Fin 64, t[j].toNat ≠ o) ∨
    ((List.finRange 64).filter fun j => t[j].toNat = 0).length < 8

theorem tableOk_iff (t : Vector (BitVec 4) 64) : tableOk t = true ↔ ¬ TableBad t := by
  have hcodes : (t.toList.all fun v => !(decide (5 ≤ v.toNat ∧ v.toNat ≤ 14))) = true ↔
      ¬ ∃ j : Fin 64, 5 ≤ t[j].toNat ∧ t[j].toNat ≤ 14 := by
    simp [Fin.forall_iff, imp_iff_not_or]
  have howners : (([1, 2, 3, 4] : List Nat).all fun o => decide (1 ≤ slotsOf t o)) = true ↔
      ¬ ∃ o : Nat, 1 ≤ o ∧ o ≤ 4 ∧ ∀ j : Fin 64, t[j].toNat ≠ o := by
    simp only [List.all_eq_true, decide_eq_true_eq, one_le_slotsOf]
    push Not
    exact forall_congr' fun o => by rw [← and_imp]; exact imp_congr_left (by simp; omega)
  rw [tableOk, Bool.and_eq_true, Bool.and_eq_true, hcodes, howners, decide_eq_true_eq, slotsOf_eq, TableBad, not_or, not_or,
    Nat.not_lt, and_assoc, and_comm (a := 8 ≤ _)]

theorem MemUnit.swapped_of_bad {m : MemUnit} (h : TableBad m.shadow) : m.swapped = { m with swap := false, bad := true } :=
  if_neg fun hok => (tableOk_iff _).mp hok h

theorem MemUnit.swapped_of_not_bad {m : MemUnit} (h : ¬ TableBad m.shadow) :
    m.swapped = { m with live := m.shadow, swap := false, bad := false } :=
  if_pos ((tableOk_iff _).mpr h)

/-- Either way the swap that was asked for is done with. -/
theorem MemUnit.swapped_swap (m : MemUnit) : m.swapped.swap = false := by
  unfold MemUnit.swapped
  split <;> rfl

theorem State.advanceTo_mem (t : Nat) (s : State) : (s.advanceTo t).mem = if s.now ≤ t then s.mem.settled t else s.mem := by
  unfold State.advanceTo
  split <;> rfl

/-- The boundary makes the swap that was asked for once, on the way to its cycle or, where that has passed, at once. -/
theorem tableSwap_mem {s : State} (h : s.mem.swap = true) : (tableSwap s).mem = s.mem.swapped := by
  have hadvance : (s.advanceTo s.mem.swapAt).mem = s.mem.swapped ∨ (s.advanceTo s.mem.swapAt).mem = s.mem := by
    rw [State.advanceTo_mem]
    split
    · exact .inl (if_pos (by simp [h]))
    · exact .inr rfl
  obtain hmade | hwaits := hadvance
  · simp [tableSwap, h, hmade, MemUnit.swapped_swap]
  · simp [tableSwap, h, hwaits]

theorem completes_memoryTableSwap {s : State} (h : s.mem.swap = true) :
    Completes .memoryTableSwap s fun t => t.mem = s.mem.swapped :=
  ⟨tableSwap s, rfl, tableSwap_mem h⟩

/-! ## A write of the shadow -/

/-- A run of elements set one by one, those that a test lets through. -/
theorem getElem_foldl_setIfInBounds {α : Type} {m : Nat} (p : Nat → Prop) [DecidablePred p] (c : Nat → α) (b n : Nat)
    (t : Vector α m) {j : Nat} (hj : j < m) :
    ((List.range n).foldl (fun t k => if p k then t.setIfInBounds (b + k) (c k) else t) t)[j] =
      if b ≤ j ∧ j < b + n ∧ p (j - b) then c (j - b) else t[j] := by
  induction n with
  | zero => simp; omega
  | succ n ih =>
    rw [List.range_succ, List.foldl_append, List.foldl_cons, List.foldl_nil]
    by_cases hjn : b + n = j
    · subst hjn
      by_cases hp : p n <;> simp [hp, ih]
    · have hrange : j < b + (n + 1) ↔ j < b + n := by omega
      simp only [hrange]
      rw [← ih]
      split
      · exact Vector.getElem_setIfInBounds_ne hj hjn
      · rfl

theorem ofNat_fieldOf (v : BitVec 32) (lo w : Nat) : BitVec.ofNat w (fieldOf v lo w) = v.extractLsb' lo w := by
  apply BitVec.eq_of_toNat_eq
  simp [fieldOf, bitsAt, Nat.shiftRight_eq_div_pow]

/-- R253: word `i` of the shadow sets the fields of its eight slots, but for a code other than 15 of a refresh slot and 15 of
any other. -/
theorem getElem_shadowWrite (i : Nat) (v : BitVec 32) (t : Vector (BitVec 4) 64) (j : Fin 64) :
    (shadowWrite i v t)[j] =
      if j.val / 8 = i ∧ (v.extractLsb' (4 * (j.val % 8)) 4 = 15 ↔ j.val % 16 = 15)
      then v.extractLsb' (4 * (j.val % 8)) 4 else t[j] := by
  have hfold := getElem_foldl_setIfInBounds
    (fun k => ((BitVec.ofNat 4 (fieldOf v (4 * k) 4) == 15) == ((8 * i + k) % 16 == 15)) = true)
    (fun k => BitVec.ofNat 4 (fieldOf v (4 * k) 4)) (8 * i) 8 t j.isLt
  refine Eq.trans hfold ?_
  by_cases hword : j.val / 8 = i
  · have hfield : j.val - 8 * i = j.val % 8 := by omega
    have hslot : 8 * i + j.val % 8 = j.val := by omega
    have hlow : 8 * i ≤ j.val ∧ j.val < 8 * i + 8 := by omega
    simp [hfield, hslot, hlow, hword, ofNat_fieldOf, beq_eq_beq]
  · rw [if_neg (by omega), if_neg (by tauto)]
    rfl

/-- A 32-bit write while the host's accesses are taken is carried out at once (R27, R394). -/
theorem State.anyWrite_of_awake {s : State} (h : s.awake) {addr : BitVec 20} (ha : addr.toNat % 4 = 0) (v : BitVec 32) :
    s.anyWrite addr 4 v = s.regWrite addr.toNat v := by
  obtain ⟨hplanes, hasleep⟩ := h
  simp [State.anyWrite, State.hostWrite, ha, hplanes, hasleep]

/-- `MS_SHADOW0` to `MS_SHADOW7` (R264). -/
theorem State.regWrite_shadow {i : Nat} (hi : i < 8) (v : BitVec 32) (s : State) :
    s.regWrite (0xB080 + 4 * i) v = { s with mem := { s.mem with shadow := shadowWrite i v s.mem.shadow } } := by
  have hblock : (0xB080 + 4 * i) / 0x1000 = 0xB := by omega
  have hoff : (0xB080 + 4 * i) % 0x1000 = 0x80 + 4 * i := by omega
  have hshadow : 0x80 ≤ 0x80 + 4 * i ∧ 0x80 + 4 * i < 0xA0 := by omega
  have hword : (0x80 + 4 * i - 0x80) / 4 = i := by omega
  rw [State.regWrite, if_neg (by omega), hblock, hoff]
  exact (if_pos hshadow).trans (by rw [hword])

theorem completes_shadowWrite {s : State} (h : s.awake) (i : Fin 8) (v : BitVec 32) :
    Completes (.registerWrite (BitVec.ofNat 20 (0xB080 + 4 * i.val)) 4 v) s fun t =>
      t.mem = { s.mem with shadow := shadowWrite i v s.mem.shadow } := by
  have haddr : (BitVec.ofNat 20 (0xB080 + 4 * i.val)).toNat = 0xB080 + 4 * i.val :=
    (BitVec.toNat_ofNat ..).trans (Nat.mod_eq_of_lt (by omega))
  refine ⟨_, rfl, ?_⟩
  rw [State.anyWrite_of_awake h (by omega), haddr, State.regWrite_shadow i.isLt]

/-- Settles O57: the swap by the check of R253, the write slot by slot. -/
theorem memoryTableSwapIsChecked : Obligations.MemoryTableSwapIsChecked := by
  unfold Obligations.MemoryTableSwapIsChecked
  refine ⟨fun s bad hswap hbad => ?_, fun s i v hawake => ?_⟩
  · change bad ↔ TableBad s.mem.shadow at hbad
    rw [hbad]
    exact ⟨fun h => MemUnit.swapped_of_bad h ▸ completes_memoryTableSwap hswap,
      fun h => MemUnit.swapped_of_not_bad h ▸ completes_memoryTableSwap hswap⟩
  · obtain ⟨t, hexec, hmem⟩ := completes_shadowWrite hawake i v
    exact ⟨t, hexec, by rw [hmem], fun j => by rw [hmem, getElem_shadowWrite]⟩

end Sys2Proof.Machine
end

section
/-! PROOFS. The reset of the MSS (R368, R369): a flash record leaves the commit unit and the region counts, the reset itself leaves
every other plane. -/

namespace Sys2Proof.Machine

/-! ## What a flash record leaves of the keeper die -/

/-- The record that the commit unit has taken, and the failure counts of the regions. -/
def Keeper.taken (k : Keeper) : Option (CuReq × Bool) × Tab Nat := (k.cu, k.regionFails)

@[simp] theorem Keeper.program_taken (sector off : Nat) (bs : Bytes) (k : Keeper) : (k.program sector off bs).taken = k.taken := rfl

@[simp] theorem Keeper.eraseSector_taken (sector : Nat) (k : Keeper) : (k.eraseSector sector).taken = k.taken := rfl

@[simp] theorem Keeper.setArea_taken (a : FlashArea) (x : Append) (k : Keeper) : (k.setArea a x).taken = k.taken := by
  cases a <;> rfl

@[simp] theorem Keeper.openSector_taken (a : FlashArea) (k : Keeper) : (k.openSector a).taken = k.taken := by
  unfold Keeper.openSector
  dsimp only
  split
  · rfl
  · exact Keeper.setArea_taken ..

@[simp] theorem Keeper.closeSector_taken (a : FlashArea) (k : Keeper) : (k.closeSector a).taken = k.taken :=
  Keeper.setArea_taken ..

@[simp] theorem Keeper.makeRoom_taken (a : FlashArea) (n : Nat) (k : Keeper) : (k.makeRoom a n).taken = k.taken := by
  unfold Keeper.makeRoom
  dsimp only
  split
  · rfl
  · split <;> simp

@[simp] theorem Keeper.shut_taken (a : FlashArea) (k : Keeper) : (k.shut a).taken = k.taken := by
  unfold Keeper.shut
  dsimp only
  split
  · exact Keeper.setArea_taken ..
  · rfl

@[simp] theorem Keeper.noted_taken (req : FlashReq) (k : Keeper) : (k.noted req).taken = k.taken := by
  unfold Keeper.noted
  dsimp only
  split <;> rfl

@[simp] theorem Keeper.startFrame_taken (req : FlashReq) (k : Keeper) : (k.startFrame req).taken = k.taken := by
  unfold Keeper.startFrame
  dsimp only
  split
  · exact Keeper.makeRoom_taken ..
  · exact (Keeper.setArea_taken ..).trans (Keeper.makeRoom_taken ..)

@[simp] theorem Keeper.finishFrame_taken (k : Keeper) : k.finishFrame.taken = k.taken := by
  unfold Keeper.finishFrame
  split
  · rfl
  · exact Keeper.noted_taken ..

/-- What each step of a fold leaves, the fold leaves. -/
theorem Keeper.foldl_taken {β : Type} {f : Keeper → β → Keeper} (hf : ∀ k b, (f k b).taken = k.taken) (l : List β) (k : Keeper) :
    (l.foldl f k).taken = k.taken :=
  (List.foldl_hom Keeper.taken fun k b => (hf k b).symm).symm.trans (List.foldl_fixed l)

@[simp] theorem Keeper.copyFrame_taken (a : FlashArea) (f : FrameAt) (k : Keeper) : (k.copyFrame a f).taken = k.taken := by
  unfold Keeper.copyFrame
  dsimp only
  split <;> simp

@[simp] theorem Keeper.retire_taken (a : FlashArea) (sector : Nat) (k : Keeper) : (k.retire a sector).taken = k.taken := by
  have hcopied (l : List FrameAt) (k : Keeper) : (l.foldl (Keeper.copyFrame a) k).taken = k.taken :=
    Keeper.foldl_taken (fun k f => k.copyFrame_taken a f) l k
  have hqueued (l : List Nat) (k : Keeper) : ({ k with eraseQueue := l } : Keeper).taken = k.taken := rfl
  unfold Keeper.retire
  dsimp only
  rw [hqueued]
  (repeat' split) <;> simp [hcopied]

@[simp] theorem Keeper.reclaim_taken (a : FlashArea) (k : Keeper) : (k.reclaim a).taken = k.taken := by
  unfold Keeper.reclaim
  split
  · exact Keeper.retire_taken ..
  · rfl

@[simp] theorem Keeper.erased_taken (sector : Nat) (k : Keeper) : (k.erased sector).taken = k.taken := by
  unfold Keeper.erased
  dsimp only
  split
  · simp
  · rfl

@[simp] theorem Keeper.eraseNow_taken (sector : Nat) (k : Keeper) : (k.eraseNow sector).taken = k.taken :=
  Keeper.erased_taken ..

@[simp] theorem Keeper.refill_taken (a : FlashArea) (n : Nat) (k : Keeper) : (k.refill a n).taken = k.taken := by
  unfold Keeper.refill
  dsimp only
  (repeat' split) <;> simp

@[simp] theorem Keeper.writeFrame_taken (req : FlashReq) (k : Keeper) : (k.writeFrame req).taken = k.taken := by
  simp [Keeper.writeFrame, Keeper.prepare]

@[simp] theorem Keeper.flush_taken (k : Keeper) : k.flush.taken = k.taken :=
  (Keeper.foldl_taken (fun k req => k.writeFrame_taken req) ..).trans k.finishFrame_taken

/-! ## What a record leaves of the state -/

/-- From `s` to `t` records of the keeper die were written or asked for: nothing else changed but the arbiters' requests, and the
commit unit went on with what it had taken. -/
def State.recorded (s t : State) : Prop := ∃ k a, t = { s with kp := k, arb := a } ∧ k.taken = s.kp.taken

theorem State.sync_eq (n : Nat) (s : State) : s.sync n = { s with arb := (s.sync n).arb } := by
  unfold State.sync
  dsimp only
  (repeat' split) <;> rfl

theorem State.recorded_mssWrite (off : Nat) (bs : Bytes) (after : List After) (s : State) : s.recorded (s.mssWrite off bs after) := by
  unfold State.mssWrite
  dsimp only
  split
  · exact ⟨_, s.arb, rfl, rfl⟩
  · exact ⟨_, _, State.sync_eq .., rfl⟩

theorem State.recorded_wearWrite (ring v : Nat) (s : State) : s.recorded (s.wearWrite ring v) := by
  unfold State.wearWrite
  dsimp only
  generalize Keeper.ringTop _ false ring = top
  exact State.recorded_mssWrite ..

theorem State.recorded_noteErases (n : Nat) (s : State) : s.recorded (s.noteErases n) := by
  unfold State.noteErases
  split
  · exact ⟨s.kp, s.arb, rfl, rfl⟩
  · exact State.recorded_wearWrite ..

theorem State.recorded_flashNow (req : FlashReq) (s : State) : s.recorded (s.flashNow req) := by
  obtain ⟨k, a, h, hk⟩ := State.recorded_noteErases s.kp.eraseCount { s with kp := s.kp.flush.writeFrame req }
  exact ⟨k, a, h, hk.trans (by simp)⟩

/-- R308: the boot record goes to the flash where the keeper die takes it; its working copy changes in any case. -/
theorem State.recorded_writeBoot (r : BootRec) (s : State) :
    State.recorded { s with mss := { s.mss with boot := r } } (s.writeBoot r) := by
  unfold State.writeBoot
  dsimp only
  split
  · exact State.recorded_flashNow ..
  · exact ⟨s.kp, s.arb, rfl, rfl⟩

/-! ## The reset -/

/-- An event record joins the posts, or is counted among the lost; it reaches no bank of the keeper die yet (R360). -/
theorem State.log_kp (code : BitVec 16) (plane severity : Byte) (detail : Bytes) (s : State) :
    (s.log code plane severity detail).kp.taken = s.kp.taken ∧ (s.log code plane severity detail).kp.frame = s.kp.frame ∧
    (s.log code plane severity detail).kp.flash = s.kp.flash := by
  unfold State.log
  dsimp only
  split <;> exact ⟨rfl, rfl, rfl⟩

/-- With no handover to end, the reset of the MSS does no more to the keeper die than post its record (R359). -/
theorem State.resetMss_kp {s : State} (h : s.mss.ho = none) (kind : Nat) :
    (s.resetMss kind).kp.taken = s.kp.taken ∧ (s.resetMss kind).kp.frame = s.kp.frame ∧ (s.resetMss kind).kp.flash = s.kp.flash := by
  have hkp : (s.resetMss kind).kp = (s.logReset kind).kp := by
    simp [State.resetMss, State.cutHandover, h, State.clearArbiters, State.causeBit]
  rw [hkp]
  exact State.log_kp ..

/-- R369: the reset stays in its plane. -/
theorem State.mssReset_resetMss {s : State} (h : s.mss.ho = none) (kind : Nat) : s.mssReset (s.resetMss kind) := by
  obtain ⟨htaken, -, -⟩ := State.resetMss_kp h kind
  obtain ⟨hcu, hfails⟩ := Prod.mk.inj htaken
  rw [State.mssReset, hcu, hfails]
  simp [State.resetMss, State.cutHandover, h, State.clearArbiters, State.causeBit, State.logReset]

/-- Records written before the reset, and what the MSS held then, make no difference to what the reset leaves. -/
theorem State.mssReset_of_recorded {s u t : State} {m : MssUnit} (hu : State.recorded { s with mss := m } u) (h : u.mssReset t) :
    s.mssReset t := by
  obtain ⟨k, a, rfl, hk⟩ := hu
  obtain ⟨hcu, hfails⟩ := Prod.mk.inj hk
  simpa [State.mssReset, hcu, hfails] using h

/-! ## The three ways in -/

/-- R396: `PWR_CMD` op 2 under its key notes that the command was good, then resets the MSS. -/
theorem completes_mssReset {s : State} (hawake : s.awake) :
    Completes (.mssReset 0x5A17) s fun t => ∃ p, t = State.resetMss rkMss { s with pwr := p } := by
  obtain ⟨hplanes, hasleep⟩ := hawake
  exact ⟨_, rfl, { s.pwr with bad := false }, by simp [State.fieldWrite, hplanes, hasleep, State.askMssReset, pwrKey]⟩

/-- R396: the watchdog of a running MSS. -/
theorem completes_mssWatchdog {s : State} (hrun : s.mss.st = .running) : Completes .mssWatchdog s (· = s.resetMss rkMssWatchdog) :=
  ⟨_, rfl, by simp [mssWatchdogEvent, hrun]⟩

/-- What the MSS does and the record of its banks, in the state in which a packet for it begins. -/
theorem State.begun_mss {op : BitVec 16} (hop : forMss op = true) (sub : Option Byte) (c : Cmd) (f : Fetched) (s : State) :
    (s.begun op sub c f).mss = { s.mss with running := some (.host, (s.ctxRun op sub c f).c), begun := true } := by
  simp [State.begun, hop]

theorem State.begun_nvmStatus (op : BitVec 16) (sub : Option Byte) (c : Cmd) (f : Fetched) (s : State) :
    (s.begun op sub c f).nvmStatus = s.nvmStatus := by
  simp [State.nvmStatus]

/-- The state that a self-update leaves: the boot record written, the MSS reset, and the reply held until the MSS reports. -/
def State.updatedMss (h : Held) (s : State) : State :=
  let t := (s.writeBoot (s.mss.boot.swap 2)).resetMss rkMssUpdate
  { t with mss := { t.mss with reboot := some h, update := true, rebootCheck := 0 } }

/-- A host queue's self-update, once nothing refuses it. -/
theorem mssRebootBody_of_staged {x : Ctx} {s : State} (hhost : x.c.via = .host) (hnvm : s.nvmStatus = none)
    (hbank : s.mss.boot.state (bankNo 2 (s.mss.boot.spare 2)) = 1) :
    mssRebootBody x s = { s := s.updatedMss (x.held 0 (x.cyc 64) 0 []), cyc := 64, when_ := .later } := by
  simp [mssRebootBody, hnvm, hbank, hhost, State.updatedMss]

/-- R368: `FW_ACTIVATE` op 1 with a bank in STAGED, while the keeper die takes records. -/
theorem completes_fwActivateMssReboot {c : Cmd} {s : State} {f : Fetched} (h : Runs 0x0A0E (some 1) c s f)
    (hnvm : s.nvmStatus = none) (hbank : s.mss.boot.state (bankNo 2 (s.mss.boot.spare 2)) = 1) :
    Completes (.fwActivateMssReboot c) s fun t => ∃ r, t = (s.begun 0x0A0E (some 1) c f).updatedMss r := by
  have hbody := mssRebootBody_of_staged (x := s.ctxRun 0x0A0E (some 1) c f) (s := s.begun 0x0A0E (some 1) c f) h.host
    ((State.begun_nvmStatus ..).trans hnvm) (by rwa [State.begun_mss (by decide)])
  exact ⟨_, rfl, _, by rw [runOp_runs h, hbody]; rfl⟩

/-- R368, R369: the self-update's reset stays in the MSS's plane as well. -/
theorem State.mssReset_updatedMss {s : State} (hho : s.mss.ho = none) (h : Held) : s.mssReset (s.updatedMss h) := by
  have hboot := s.recorded_writeBoot (s.mss.boot.swap 2)
  have hho' : (s.writeBoot (s.mss.boot.swap 2)).mss.ho = none := by
    obtain ⟨k, a, hw, -⟩ := hboot
    rw [hw]
    exact hho
  exact State.mssReset_of_recorded hboot (State.mssReset_resetMss hho' rkMssUpdate)

/-- Settles O56: the reset itself, and before it the boot record where a self-update asks for it, way in by way in. -/
theorem mssResetStaysInItsPlane : Obligations.MssResetStaysInItsPlane := by
  unfold Obligations.MssResetStaysInItsPlane
  refine fun s hho => ⟨fun hawake => ?_, fun hrun => ?_, fun c f s' h hnvm hbank hs' => ?_⟩
  · obtain ⟨t, hexec, p, rfl⟩ := completes_mssReset hawake
    exact ⟨_, hexec, State.mssReset_resetMss (s := { s with pwr := p }) hho rkMss,
      (State.resetMss_kp (s := { s with pwr := p }) hho rkMss).2⟩
  · obtain ⟨t, hexec, rfl⟩ := completes_mssWatchdog hrun
    exact ⟨_, hexec, State.mssReset_resetMss hho rkMssWatchdog, (State.resetMss_kp hho rkMssWatchdog).2⟩
  · obtain ⟨t, hexec, r, rfl⟩ := completes_fwActivateMssReboot h hnvm hbank
    have hho' : s'.mss.ho = none := by rwa [hs', State.begun_mss (by decide)]
    exact ⟨_, hexec, hs' ▸ State.mssReset_updatedMss hho' r, rfl⟩

end Sys2Proof.Machine
end

section
/-! PROOFS. One step: a command that numbers a unit the device does not have stops, and what a cycle of the clock leaves. -/

namespace Sys2Proof.Machine

set_option Elab.async false

/-! ## Commands that number a unit the device does not have -/

section
variable {c : Instr} (s : State)

theorem exec_spindle_out_of_range {n : BitVec 6} (h : c.spindle = some n) (hn : 40 ≤ n.toNat) :
    exec c s = .fault .noSuchUnit := by
  cases c
  all_goals cases h
  all_goals exact if_pos hn

theorem exec_arbiter_out_of_range {n : BitVec 6} (h : c.arbiter = some n) (hn : ¬ n.toNat < 34) :
    exec c s = .fault .noSuchUnit := by
  cases c
  all_goals cases h
  all_goals exact if_neg hn

theorem exec_source_out_of_range {n : BitVec 5} (h : c.source = some n) (hn : ¬ n.toNat < 25) :
    exec c s = .fault .noSuchUnit := by
  cases c
  all_goals cases h
  all_goals exact if_neg hn

theorem exec_sealCtx_out_of_range {n : Nat} (h : c.sealCtx = some n) (hn : 40960 ≤ n) :
    exec c s = .fault .noSuchUnit := by
  cases c with
  | contextCacheFill _ r =>
    cases h
    exact if_neg (Nat.not_lt.mpr hn)
  | sealBlockAdmit | sealTagFormed =>
    cases h
    exact if_pos hn
  | _ => cases h

/-- A row is ill-formed by a number of one of the four kinds. -/
theorem Instr.wf_false_cases (h : c.wf = false) :
    (∃ n, c.spindle = some n ∧ 40 ≤ n.toNat) ∨ (∃ n, c.arbiter = some n ∧ ¬ n.toNat < 34) ∨
    (∃ n, c.source = some n ∧ ¬ n.toNat < 25) ∨ ∃ n, c.sealCtx = some n ∧ 40960 ≤ n := by
  simpa only [Instr.wf, Bool.and_eq_false_iff, Option.all_eq_false, decide_eq_false_iff_not, Nat.not_lt, or_assoc] using h

theorem exec_ill_formed (h : c.wf = false) : exec c s = .fault .noSuchUnit := by
  obtain ⟨n, hc, hn⟩ | ⟨n, hc, hn⟩ | ⟨n, hc, hn⟩ | ⟨n, hc, hn⟩ := Instr.wf_false_cases h
  · exact exec_spindle_out_of_range s hc hn
  · exact exec_arbiter_out_of_range s hc hn
  · exact exec_source_out_of_range s hc hn
  · exact exec_sealCtx_out_of_range s hc hn

end

/-! ## A cycle of the clock -/

/-- A stretch of time moves the clocks beside CLK_CORE and the device time, and nothing else (R18). -/
theorem State.lapsed_eq (n : Nat) (s : State) :
    s.lapsed n = { s with
      gctl := { s.gctl with time := (s.lapsed n).gctl.time, slew := (s.lapsed n).gctl.slew }
      mss := { s.mss with mcyc := (s.lapsed n).mss.mcyc, mdiv := (s.lapsed n).mss.mdiv }
      tmp := { s.tmp with aotAcc := (s.lapsed n).tmp.aotAcc, aotCount := (s.lapsed n).tmp.aotCount } } := by
  unfold State.lapsed
  dsimp only
  split <;> rfl

/-- A cycle moves the core counter and the memory schedule where CLK_CORE runs, and the other clocks in any case. -/
theorem State.tick_eq (s : State) :
    s.tick.gctl.cycle = (if s.coreRuns then s.gctl.cycle + 1 else s.gctl.cycle) ∧
    s.tick = { s with
      gctl := { s.gctl with cycle := s.tick.gctl.cycle, time := s.tick.gctl.time, slew := s.tick.gctl.slew }
      mem := if s.coreRuns then s.mem.settled (s.now + 1) else s.mem
      mss := { s.mss with mcyc := s.tick.mss.mcyc, mdiv := s.tick.mss.mdiv }
      tmp := { s.tmp with aotAcc := s.tick.tmp.aotAcc, aotCount := s.tick.tmp.aotCount } } := by
  unfold State.tick
  dsimp only
  split <;> exact ⟨rfl, State.lapsed_eq ..⟩

/-- Settles O51: the queue's front by the definition of a step, the clock by what a cycle leaves, the stop by the kind of unit numbered. -/
theorem stepRunsTheFrontCommand : Obligations.StepRunsTheFrontCommand := by
  unfold Obligations.StepRunsTheFrontCommand
  refine fun s => ⟨fun c rest h => ?_, fun h => ?_, fun c h => exec_ill_formed s h⟩
  · simp [step, h]
  · exact ⟨s.tick, step_idle h, s.tick_eq⟩

end Sys2Proof.Machine
end

section
/-! PROOFS. The spindle's instructions: each moves the lane on, and nothing else of the machine changes (R147, R148). -/

namespace Sys2Proof.Machine

/-! ## An instruction that runs -/

section
variable {s : State} {sp : BitVec 6} {p : Spindle}

/-- A row whose effect does not fault sets its spindle. -/
theorem runIsa_some (h : s.spindleFetches sp p) {f : Spindle → Option Spindle} {p' : Spindle} (hf : f p = some p') :
    runIsa sp f s = .next (s.setSpindle sp.toNat p') := by
  obtain ⟨hn, hp, hhalt, hfetch⟩ := h
  simp [runIsa_eq hn, isaStep, hp, hhalt, hfetch, hf]

theorem Lane.next_of_ne {l : Lane} (h : l.pc ≠ 0xFFF) : l.next = some { l with pc := l.pc + 1 } := if_neg h

/-- A change of the lane that goes on to the next address. -/
theorem runIsa_laneOp (h : s.spindleFetches sp p) (hpc : p.lane.pc ≠ 0xFFF) {usesMac : Bool} {busy : Nat} {g : Lane → Lane}
    (hg : ∀ l, (g l).pc = l.pc) :
    runIsa sp (laneOp usesMac busy g) s =
      .next (s.withLane sp { g (p.lane.timed usesMac 1 busy) with pc := p.lane.pc + 1 }) := by
  have hpc' : (g (p.lane.timed usesMac 1 busy)).pc = p.lane.pc := hg _
  have hf : laneOp usesMac busy g p = some { p with lane := { g (p.lane.timed usesMac 1 busy) with pc := p.lane.pc + 1 } } := by
    rw [laneOp, Lane.next_of_ne (by rwa [hpc']), hpc']
    rfl
  rw [runIsa_some h hf, State.withLane, h.2.1]

/-- An instruction of one cycle that waits for no unit. -/
theorem completes_laneOp (h : s.spindleFetches sp p) (hpc : p.lane.pc ≠ 0xFFF) {i : Instr} {g : Lane → Lane} {l : Lane}
    (hi : exec i s = runIsa sp (laneOp false 0 g) s) (hg : ∀ l, (g l).pc = l.pc)
    (hl : ({ g (p.lane.timed false 1 0) with pc := p.lane.pc + 1 } : Lane) = l.onward 1) :
    Completes i s (· = s.withLane sp (l.onward 1)) :=
  ⟨_, hi.trans (runIsa_laneOp h hpc hg), by rw [hl]⟩

/-- An instruction of the multiply-accumulate unit. -/
theorem completes_macOp (h : s.spindleFetches sp p) (hpc : p.lane.pc ≠ 0xFFF) {i : Instr} {busy : Nat} {g : Lane → Lane} {l : Lane}
    (hi : exec i s = runIsa sp (laneOp true busy g) s) (hg : ∀ l, (g l).pc = l.pc)
    (hl : ({ g (p.lane.timed true 1 busy) with pc := p.lane.pc + 1 } : Lane) = l.macOnward busy) :
    Completes i s (· = s.withLane sp (l.macOnward busy)) :=
  ⟨_, hi.trans (runIsa_laneOp h hpc hg), by rw [hl]⟩

end

/-! ## What the fields of an instruction select -/

theorem toNat_selector (m : BitVec 5) (k n : Nat) : (m.extractLsb' k n).toNat = m.toNat / 2 ^ k % 2 ^ n := by
  simp [Nat.shiftRight_eq_div_pow]

theorem low_selector (m : BitVec 5) : m.extractLsb' 0 2 = BitVec.ofNat 2 (m.toNat % 4) := by
  revert m
  decide

theorem funnel_eq (x : BitVec 512) (m : BitVec 5) :
    x.extractLsb' (32 * (m.extractLsb' 0 3).toNat) 256 = (x >>> (32 * (m.toNat % 8))).setWidth 256 := by
  rw [toNat_selector]
  apply BitVec.eq_of_toNat_eq
  simp [Nat.shiftRight_eq_div_pow]

theorem selFlag_eq (m : BitVec 5) (c e : Bool) :
    selFlag m c e = ((if m.toNat % 2 = 1 then e else c) != decide (2 ≤ m.toNat % 4)) := by
  revert m c e
  decide

theorem addFlags_eq (x y : BitVec 256) (c : Bool) :
    addFlags x y c = (BitVec.ofNat 256 (x.toNat + y.toNat + c.toNat), decide (2 ^ 256 ≤ x.toNat + y.toNat + c.toNat)) := rfl

theorem subFlags_eq (x y : BitVec 256) (c : Bool) :
    subFlags x y c =
      (BitVec.ofInt 256 ((x.toNat : Int) - y.toNat - c.toNat), decide ((x.toNat : Int) - y.toNat - c.toNat < 0)) := by
  have hval : BitVec.ofInt 256 ((x.toNat : Int) - y.toNat - c.toNat) = x - y - BitVec.ofNat 256 c.toNat := by
    simp only [sub_eq_add_neg, BitVec.ofInt_add, BitVec.ofInt_neg, BitVec.ofInt_natCast, BitVec.ofNat_toNat, BitVec.setWidth_eq]
  rw [hval, subFlags, Prod.mk.injEq]
  exact ⟨rfl, decide_eq_decide.mpr (by omega)⟩

theorem limb_toNat (y : BitVec 256) (m : BitVec 5) :
    (limb y m).toNat = y.toNat / 2 ^ (64 * (m.toNat % 4)) % 2 ^ 64 := by
  simp [limb, Nat.shiftRight_eq_div_pow]

/-- Settles O35: each row goes through the sequencer's rule; the flags of the arithmetic by its exact value. -/
theorem spindleWordInstructions : Obligations.SpindleWordInstructions := by
  unfold Obligations.SpindleWordInstructions
  rintro s sp p l d a b m x y h rfl hpc rfl rfl
  refine ⟨fun imm => ⟨?_, ?_, ?_, ?_, ?_, ?_, ?_, ?_, ?_⟩, ?_, ?_, ?_, ?_⟩
  iterate 7 exact completes_laneOp h hpc rfl (fun _ => rfl) rfl
  · refine completes_laneOp h hpc rfl (fun _ => rfl) ?_
    rw [← funnel_eq]
    rfl
  · refine completes_laneOp h hpc rfl (fun _ => rfl) ?_
    rw [← selFlag_eq]
    rfl
  · rintro n rfl
    exact ⟨completes_laneOp h hpc rfl (fun _ => rfl) rfl, completes_laneOp h hpc rfl (fun _ => rfl) rfl⟩
  · rintro n rfl
    refine ⟨completes_laneOp h hpc rfl (fun _ => rfl) ?_, completes_laneOp h hpc rfl (fun _ => rfl) ?_⟩
    · simp only [subFlags_eq, Bool.toNat_false, Nat.cast_zero, sub_zero]
      rfl
    · simp only [subFlags_eq]
      rfl
  · exact completes_laneOp h hpc rfl (fun _ => rfl) rfl
  · refine completes_laneOp h hpc rfl (fun _ => rfl) ?_
    rw [← low_selector]
    rfl

/-! ## The multiply-accumulate unit -/

theorem accumulator_add (acc : BitVec 576) (n : Nat) : acc + BitVec.ofNat 576 n = BitVec.ofNat 576 (acc.toNat + n) := by
  simp [BitVec.ofNat_add]

theorem accumulator_word (acc : BitVec 576) (k : Nat) :
    acc.extractLsb' k 256 = BitVec.ofNat 256 (acc.toNat / 2 ^ k) := by
  apply BitVec.eq_of_toNat_eq
  simp [Nat.shiftRight_eq_div_pow]

theorem accumulator_top (acc : BitVec 576) :
    (acc.extractLsb' 512 64).setWidth 256 = BitVec.ofNat 256 (acc.toNat / 2 ^ 512) := by
  have hlt : acc.toNat / 2 ^ 512 < 2 ^ 64 := Nat.div_lt_of_lt_mul (by rw [← pow_add]; exact acc.isLt)
  apply BitVec.eq_of_toNat_eq
  rw [BitVec.toNat_setWidth, BitVec.extractLsb'_toNat, Nat.shiftRight_eq_div_pow, BitVec.toNat_ofNat, Nat.mod_eq_of_lt hlt]

theorem accumulator_shift (acc : BitVec 576) (k : Nat) : acc >>> k = BitVec.ofNat 576 (acc.toNat / 2 ^ k) := by
  apply BitVec.eq_of_toNat_eq
  rw [BitVec.toNat_ushiftRight, Nat.shiftRight_eq_div_pow, BitVec.toNat_ofNat,
    Nat.mod_eq_of_lt (lt_of_le_of_lt (Nat.div_le_self ..) acc.isLt)]

/-- Settles O36: each row goes through the sequencer's rule, the accumulator's words by their values. -/
theorem spindleAccumulatorInstructions : Obligations.SpindleAccumulatorInstructions := by
  unfold Obligations.SpindleAccumulatorInstructions
  rintro s sp p l d a b m x y z h rfl hpc rfl rfl rfl
  have hsel : (m.extractLsb' 0 2).toNat = m.toNat % 4 := by rw [toNat_selector]; simp
  refine ⟨?_, ?_, ?_, ?_, ?_, ?_, ?_, ?_, ?_, ?_⟩
  all_goals refine completes_macOp h hpc rfl (fun _ => rfl) ?_
  · rfl
  · rw [← accumulator_add]
    rfl
  · rw [← limb_toNat]
    rfl
  · rw [← limb_toNat, ← accumulator_add]
    rfl
  · rw [BitVec.ofNat_toNat]
    rfl
  · rw [← accumulator_add, BitVec.ofNat_toNat]
    rfl
  · rw [← hsel, ← accumulator_shift]
    rfl
  · have hlo := accumulator_word p.lane.acc 0
    rw [pow_zero, Nat.div_one] at hlo
    rw [← hlo]
    rfl
  · rw [← accumulator_word]
    rfl
  · rw [← accumulator_top]
    rfl

end Sys2Proof.Machine
end

section
/-! PROOFS. The state right after power-on reset (R8, R9, R263): its memories and fuses are sound, but not every register reads its Reset
column. -/

namespace Sys2Proof.Machine

set_option Elab.async false

theorem State.reset_memoryInv : State.reset.memoryInv := ⟨rfl, rfl, rfl⟩

theorem State.reset_lifeInv : State.reset.lifeInv := ⟨rfl, Nat.zero_le 5⟩

theorem State.reset_workInv : State.reset.workInv := ⟨by decide, rfl⟩

/-- No queue exists at reset, and the requesters of arbiter 0 are queues: the one selected has no weight to read (R243, R263). -/
theorem State.reset_regRead_arbWeight : State.reset.regRead 0xA008 = 0 := by decide +kernel

/-- Refutes O58: `ARB_WEIGHT` is stated to read 1, and reads 0 at reset, where the selected requester is a queue that is absent. -/
theorem not_resetRegistersReadAsStated : ¬ Obligations.ResetRegistersReadAsStated := by
  unfold Obligations.ResetRegistersReadAsStated
  rintro ⟨-, -, -, -, -, -, -, -, hregs⟩
  have hone : State.reset.regRead 0xA008 = 1 := hregs (0xA008, 1) (by simp)
  rw [State.reset_regRead_arbWeight] at hone
  exact absurd hone (by decide)

end Sys2Proof.Machine
end

section
/-! PROOFS. What a state function leaves as it is. `s.touches L t` says that from `s` to `t` only listed parts changed; `simp` reads a
composite state from outside in, by one lemma for each state function. -/

namespace Sys2Proof.Machine

set_option Elab.async false

/-- The parts of the state that the frames tell apart: its components, with the two memories of the keeper die, the life-cycle fuses, the
always-on clock's remainder and the programs of a running command as parts of their own. -/
inductive Aspect
  | gctl | queues | epochBase | domains | led | ru | spn | sl | dig | ks | arb | mem | skn | kp | tmp | life | mss | card | pwr
  | posted | pending | memories | fuses | aot | ran
  deriving DecidableEq

def Keeper.others (k : Keeper) : Keeper := { k with fe0 := [], fe1 := [], flash := [] }
def Life.others (l : Life) : Life := { l with serial := 0, count := 0 }
def Tamper.others (t : Tamper) : Tamper := { t with aotAcc := 0 }
def SpindleUnit.others (u : SpindleUnit) : SpindleUnit := { u with ran := [] }

/-- Two states agree on a part. -/
def State.agree (s t : State) : Aspect → Prop
  | .gctl => t.gctl = s.gctl
  | .queues => t.queues = s.queues
  | .epochBase => t.epochBase = s.epochBase
  | .domains => t.domains = s.domains
  | .led => t.led = s.led
  | .ru => t.ru = s.ru
  | .spn => t.spn.others = s.spn.others
  | .sl => t.sl = s.sl
  | .dig => t.dig = s.dig
  | .ks => t.ks = s.ks
  | .arb => t.arb = s.arb
  | .mem => t.mem = s.mem
  | .skn => t.skn = s.skn
  | .kp => t.kp.others = s.kp.others
  | .tmp => t.tmp.others = s.tmp.others
  | .life => t.life.others = s.life.others
  | .mss => t.mss = s.mss
  | .card => t.card = s.card
  | .pwr => t.pwr = s.pwr
  | .posted => t.posted = s.posted
  | .pending => t.pending = s.pending
  | .memories => (t.kp.fe0, t.kp.fe1, t.kp.flash) = (s.kp.fe0, s.kp.fe1, s.kp.flash)
  | .fuses => (t.life.serial, t.life.count) = (s.life.serial, s.life.count)
  | .aot => t.tmp.aotAcc = s.tmp.aotAcc
  | .ran => t.spn.ran = s.spn.ran

/-- From `s` to `t`, no part changed but those listed. -/
def State.touches (L : List Aspect) (s t : State) : Prop := ∀ p, p ∉ L → s.agree t p

section
variable {L K : List Aspect} {s t u : State}

@[simp] theorem State.touches_self (L : List Aspect) (s : State) : s.touches L s := by
  intro p _
  cases p <;> rfl

/-- A state that differs from the one before only in listed parts is reached with the same list. -/
theorem State.touches.iff (h : t.touches K u) (hK : K ⊆ L) : s.touches L u ↔ s.touches L t := by
  refine forall₂_congr fun p hp => ?_
  have hp' : t.agree u p := h p fun hk => hp (hK hk)
  cases p <;> exact iff_of_eq (congrArg (· = _) hp')

@[simp] theorem State.touches_ite (c : Prop) [Decidable c] :
    s.touches L (if c then t else u) ↔ if c then s.touches L t else s.touches L u := by
  split <;> rfl

@[simp] theorem State.touches_foldl {α : Type} {f : State → α → State} (l : List α) (hf : ∀ s a, t.touches L
    (f s a) ↔ t.touches L s) :
    t.touches L (l.foldl f s) ↔ t.touches L s := by
  induction l generalizing s with
  | nil => rfl
  | cons a l ih => rw [List.foldl_cons, ih, hf]

@[simp] theorem State.ran_setSpindle (n : Nat) (p : Spindle) (s : State) : (s.setSpindle n p).spn.ran = s.spn.ran := rfl

/-- A log message that is posted leaves the memories. -/
theorem State.log_memories (code : BitVec 16) (plane sev : Byte) (detail : Bytes) (s : State) :
    (s.log code plane sev detail).kp.fe0 = s.kp.fe0 ∧ (s.log code plane sev detail).kp.fe1 = s.kp.fe1 ∧
      (s.log code plane sev detail).kp.flash = s.kp.flash := by
  unfold State.log
  dsimp only
  split <;> exact ⟨rfl, rfl, rfl⟩

@[simp] theorem State.log_fe0 (code : BitVec 16) (plane sev : Byte) (detail : Bytes) (s : State) :
    (s.log code plane sev detail).kp.fe0 = s.kp.fe0 := (State.log_memories code plane sev detail s).1

@[simp] theorem State.log_fe1 (code : BitVec 16) (plane sev : Byte) (detail : Bytes) (s : State) :
    (s.log code plane sev detail).kp.fe1 = s.kp.fe1 := (State.log_memories code plane sev detail s).2.1

@[simp] theorem State.log_flash (code : BitVec 16) (plane sev : Byte) (detail : Bytes) (s : State) :
    (s.log code plane sev detail).kp.flash = s.kp.flash := (State.log_memories code plane sev detail s).2.2

/-- A pair that a match takes apart, with its state as a projection: the form in which `simp` finds the rules below. -/
theorem State.pair_eq_iff {α : Type} {p : State × α} {a : α} : p = (s, a) ↔ s = p.1 ∧ p.2 = a := by
  rw [Prod.ext_iff, eq_comm (a := p.1)]

/-- Any update of a state leaves what its fields leave. -/
@[simp] theorem State.touches_mk {a b c d e f g h i j k l m n o p q r v w} (x : State)
    (ha : .gctl ∈ L ∨ a = x.gctl) (hb : .queues ∈ L ∨ b = x.queues) (hc : .epochBase ∈ L ∨ c = x.epochBase)
    (hd : .domains ∈ L ∨ d = x.domains) (he : .led ∈ L ∨ e = x.led) (hf : .ru ∈ L ∨ f = x.ru)
    (hg : .spn ∈ L ∨ g.others = x.spn.others) (hg' : .ran ∈ L ∨ g.ran = x.spn.ran) (hh : .sl ∈ L ∨ h = x.sl)
    (hi : .dig ∈ L ∨ i = x.dig) (hj : .ks ∈ L ∨ j = x.ks) (hk : .arb ∈ L ∨ k = x.arb) (hl : .mem ∈ L ∨ l = x.mem)
    (hm : .skn ∈ L ∨ m = x.skn) (hn : .kp ∈ L ∨ n.others = x.kp.others)
    (hn' : .memories ∈ L ∨ n.fe0 = x.kp.fe0 ∧ n.fe1 = x.kp.fe1 ∧ n.flash = x.kp.flash)
    (ho : .tmp ∈ L ∨ o.others = x.tmp.others) (ho' : .aot ∈ L ∨ o.aotAcc = x.tmp.aotAcc)
    (hp : .life ∈ L ∨ p.others = x.life.others) (hp' : .fuses ∈ L ∨ p.serial = x.life.serial ∧ p.count = x.life.count)
    (hq : .mss ∈ L ∨ q = x.mss) (hr : .card ∈ L ∨ r = x.card) (hv : .pwr ∈ L ∨ v = x.pwr)
    (hw : .posted ∈ L ∨ w = x.posted) :
    s.touches L ⟨a, b, c, d, e, f, g, h, i, j, k, l, m, n, o, p, q, r, v, w, x.pending⟩ ↔ s.touches L x := by
  refine State.touches.iff (K := L) (fun y hy => ?_) (List.Subset.refl L)
  cases y
  case pending => rfl
  all_goals simp_all [State.agree]
end

end Sys2Proof.Machine
end

section
/-! PROOFS. What the functions of queues, admin, ledger, spindles, seal and digest leave as it is. -/

namespace Sys2Proof.Machine

set_option Elab.async false

section
variable {L : List Aspect} {t : State}
@[simp] theorem State.touches_post (o : Posted) (s : State) (h : [.gctl, .posted] ⊆ L) :
    t.touches L (State.post o s) ↔ t.touches L s := by
  simp only [List.cons_subset, List.nil_subset, and_true] at h
  simp [State.post, h]

@[simp] theorem State.touches_emit (o : Posted) (s : State) (h : [.posted] ⊆ L) :
    t.touches L (State.emit o s) ↔ t.touches L s := by
  simp only [List.cons_subset, List.nil_subset, and_true] at h
  simp [State.emit, h]

@[simp] theorem State.touches_sendMsix (v : BitVec 11) (s : State) (h : [.gctl, .posted] ⊆ L) :
    t.touches L (State.sendMsix v s) ↔ t.touches L s := by
  simp only [List.cons_subset, List.nil_subset, and_true] at h
  simp [State.sendMsix, h]

@[simp] theorem State.touches_raise (bit : Nat) (s : State) (h : [.gctl, .posted] ⊆ L) :
    t.touches L (State.raise bit s) ↔ t.touches L s := by
  simp only [List.cons_subset, List.nil_subset, and_true] at h
  simp [State.raise, h]

@[simp] theorem State.touches_log (code : BitVec 16) (plane : Byte) (severity : Byte) (detail : Bytes) (s : State)
    (h : [.kp] ⊆ L) :
    t.touches L (State.log code plane severity detail s) ↔ t.touches L s := by
  simp only [List.cons_subset, List.nil_subset, and_true] at h
  simp [State.log, h]

@[simp] theorem State.touches_drawn (n : Nat) (s : State) (h : [.ks] ⊆ L) :
    t.touches L (State.drawn n s) ↔ t.touches L s := by
  simp only [List.cons_subset, List.nil_subset, and_true] at h
  simp [State.drawn, h]

@[simp] theorem State.touches_hashed (n : Nat) (s : State) (h : [.dig] ⊆ L) :
    t.touches L (State.hashed n s) ↔ t.touches L s := by
  simp only [List.cons_subset, List.nil_subset, and_true] at h
  simp [State.hashed, h]

@[simp] theorem State.touches_lapsed (n : Nat) (s : State) (h : [.gctl, .tmp, .mss, .aot] ⊆ L) :
    t.touches L (State.lapsed n s) ↔ t.touches L s := by
  simp only [List.cons_subset, List.nil_subset, and_true] at h
  simp [State.lapsed, h]

@[simp] theorem State.touches_advanceTo (t' : Nat) (s : State) (h : [.gctl, .mem, .tmp, .mss, .aot] ⊆ L) :
    t.touches L (State.advanceTo t' s) ↔ t.touches L s := by
  simp only [List.cons_subset, List.nil_subset, and_true] at h
  simp [State.advanceTo, h]

@[simp] theorem State.touches_setQueue (q : QId) (x : Queue) (s : State) (h : [.queues] ⊆ L) :
    t.touches L (State.setQueue q x s) ↔ t.touches L s := by
  simp only [List.cons_subset, List.nil_subset, and_true] at h
  simp [State.setQueue, h]

@[simp] theorem State.touches_signal (q : QId) (notify : Bool) (s : State) (h : [.gctl, .queues, .posted] ⊆ L) :
    t.touches L (State.signal q notify s) ↔ t.touches L s := by
  simp only [List.cons_subset, List.nil_subset, and_true] at h
  simp [State.signal, h]

@[simp] theorem State.touches_postHost (h' : Held) (s : State) (h : [.gctl, .queues, .posted] ⊆ L) :
    t.touches L (State.postHost h' s) ↔ t.touches L s := by
  simp only [List.cons_subset, List.nil_subset, and_true] at h
  unfold State.postHost
  dsimp only
  (repeat' split) <;> simp [h]

@[simp] theorem State.touches_mssDone (h' : Held) (s : State) (h : [.mss] ⊆ L) :
    t.touches L (State.mssDone h' s) ↔ t.touches L s := by
  simp only [List.cons_subset, List.nil_subset, and_true] at h
  unfold State.mssDone
  (repeat' split) <;> simp [h]

@[simp] theorem State.touches_postReply (h' : Held) (s : State) (h : [.gctl, .queues, .mss, .posted] ⊆ L) :
    t.touches L (State.postReply h' s) ↔ t.touches L s := by
  simp only [List.cons_subset, List.nil_subset, and_true] at h
  unfold State.postReply
  (repeat' split) <;> simp [h]

@[simp] theorem State.touches_Out_stop (s : State) (status : BitVec 16) (cyc : Nat) :
    t.touches L (Out.stop s status cyc).s ↔ t.touches L s := by
  simp [Out.stop]

@[simp] theorem State.touches_tick (s : State) (h : [.gctl, .mem, .tmp, .mss, .aot] ⊆ L) :
    t.touches L (State.tick s) ↔ t.touches L s := by
  simp only [List.cons_subset, List.nil_subset, and_true] at h
  simp [State.tick, h]

@[simp] theorem State.touches_setSpindle (n : Nat) (p : Spindle) (s : State) (h : [.spn] ⊆ L) :
    t.touches L (State.setSpindle n p s) ↔ t.touches L s := by
  simp only [List.cons_subset, List.nil_subset, and_true] at h
  simp [State.setSpindle, h]

@[simp] theorem State.touches_countJob (n : Nat) (s : State) (h : [.spn] ⊆ L) :
    t.touches L (State.countJob n s) ↔ t.touches L s := by
  simp only [List.cons_subset, List.nil_subset, and_true] at h
  simp [State.countJob, h]

@[simp] theorem State.touches_countIdle (signing : Bool) (s : State) (h : [.spn] ⊆ L) :
    t.touches L (State.countIdle signing s) ↔ t.touches L s := by
  simp only [List.cons_subset, List.nil_subset, and_true] at h
  unfold State.countIdle
  (repeat' split) <;> simp [h]

@[simp] theorem State.touches_usedSpindle (p : Part) (s : State) (h : [.spn, .ran] ⊆ L) :
    t.touches L (State.usedSpindle p s) ↔ t.touches L s := by
  simp only [List.cons_subset, List.nil_subset, and_true] at h
  simp [State.usedSpindle, h]

@[simp] theorem State.touches_setPort (w : Port) (p : SkPort) (s : State) (h : [.skn] ⊆ L) :
    t.touches L (State.setPort w p s) ↔ t.touches L s := by
  simp only [List.cons_subset, List.nil_subset, and_true] at h
  unfold State.setPort
  (repeat' split) <;> simp [h]

@[simp] theorem State.touches_setArbiter (n : Nat) (a : Arbiter) (s : State) (h : [.arb] ⊆ L) :
    t.touches L (State.setArbiter n a s) ↔ t.touches L s := by
  simp only [List.cons_subset, List.nil_subset, and_true] at h
  simp [State.setArbiter, h]

@[simp] theorem State.touches_setReq (n : Nat) (r : Nat) (k : Requester) (s : State) (h : [.arb] ⊆ L) :
    t.touches L (State.setReq n r k s) ↔ t.touches L s := by
  simp only [List.cons_subset, List.nil_subset, and_true] at h
  simp [State.setReq, h]

@[simp] theorem State.touches_sync (n : Nat) (s : State) (h : [.arb] ⊆ L) :
    t.touches L (State.sync n s) ↔ t.touches L s := by
  simp only [List.cons_subset, List.nil_subset, and_true] at h
  unfold State.sync
  (repeat' split) <;> simp [h]

@[simp] theorem State.touches_park (n : Nat) (arrivals : List Nat) (s : State) (h : [.arb] ⊆ L) :
    t.touches L (State.park n arrivals s) ↔ t.touches L s := by
  simp only [List.cons_subset, List.nil_subset, and_true] at h
  simp [State.park, h]

@[simp] theorem State.touches_grantTo (n : Nat) (i : Nat) (a : Arbiter) (s : State) (h : [.arb] ⊆ L) :
    t.touches L (State.grantTo n i a s) ↔ t.touches L s := by
  simp only [List.cons_subset, List.nil_subset, and_true] at h
  simp [State.grantTo, h]

@[simp] theorem State.touches_grant (n : Nat) (s : State) (h : [.arb] ⊆ L) :
    t.touches L (State.grant n s) ↔ t.touches L s := by
  simp only [List.cons_subset, List.nil_subset, and_true] at h
  unfold State.grant
  (repeat' split) <;> simp [h]

theorem State.touches_grantFor {n i : Nat} {s u : State} (e : s.grantFor n i = some u) (h : [.arb] ⊆ L) :
    t.touches L u ↔ t.touches L s := by
  unfold State.grantFor at e
  split at e
  · split_ifs at e
    cases e
    exact State.touches_grantTo _ _ _ _ h
  · cases e

@[simp] theorem State.touches_grantAtOnce (n : Nat) (i : Nat) (s : State) (h : [.arb] ⊆ L) :
    t.touches L (State.grantAtOnce n i s) ↔ t.touches L s := by
  simp only [List.cons_subset, List.nil_subset, and_true] at h
  simp [State.grantAtOnce, h]

@[simp] theorem State.touches_grantsAtOnce (n : Nat) (i : Nat) (k : Nat) (s : State) (h : [.arb] ⊆ L) :
    t.touches L (State.grantsAtOnce n i k s) ↔ t.touches L s := by
  simp only [List.cons_subset, List.nil_subset, and_true] at h
  simp [State.grantsAtOnce, h]

@[simp] theorem State.touches_grantOwn (n : Nat) (i : Nat) (s : State) (h : [.arb] ⊆ L) :
    t.touches L (State.grantOwn n i s) ↔ t.touches L s := by
  simp only [List.cons_subset, List.nil_subset, and_true] at h
  simp [State.grantOwn, h]

@[simp] theorem State.touches_land (q : QId) (p : Packet) (s : State) (h : [.gctl, .queues] ⊆ L) :
    t.touches L (State.land q p s) ↔ t.touches L s := by
  simp only [List.cons_subset, List.nil_subset, and_true] at h
  simp [State.land, h]

@[simp] theorem State.touches_grantFetch (q : QId) (p : Packet) (s : State) (h : [.gctl, .queues] ⊆ L) :
    t.touches L (State.grantFetch q p s) ↔ t.touches L s := by
  simp only [List.cons_subset, List.nil_subset, and_true] at h
  simp [State.grantFetch, h]

@[simp] theorem State.touches_setFetched (q : QId) (f : Fetched) (s : State) (h : [.queues] ⊆ L) :
    t.touches L (State.setFetched q f s) ↔ t.touches L s := by
  simp only [List.cons_subset, List.nil_subset, and_true] at h
  simp [State.setFetched, h]

@[simp] theorem State.touches_landAborted (q : QId) (f : Fetched) (s : State) (h : [.gctl, .queues, .mss, .posted] ⊆ L) :
    t.touches L (State.landAborted q f s) ↔ t.touches L s := by
  simp only [List.cons_subset, List.nil_subset, and_true] at h
  simp [State.landAborted, h]

@[simp] theorem State.touches_landNext (q : QId) (s : State) (h : [.gctl, .queues, .mss, .posted] ⊆ L) :
    t.touches L (State.landNext q s) ↔ t.touches L s := by
  simp only [List.cons_subset, List.nil_subset, and_true] at h
  unfold State.landNext
  (repeat' split) <;> simp [h]

@[simp] theorem State.touches_judgeNext (q : QId) (s : State) (h : [.gctl, .queues, .arb, .mss, .posted] ⊆ L) :
    t.touches L (State.judgeNext q s) ↔ t.touches L s := by
  simp only [List.cons_subset, List.nil_subset, and_true] at h
  unfold State.judgeNext
  (repeat' split) <;> simp [h]

@[simp] theorem State.touches_decodeNext (q : QId) (s : State) (h : [.gctl, .queues, .arb, .mss, .posted] ⊆ L) :
    t.touches L (State.decodeNext q s) ↔ t.touches L s := by
  simp only [List.cons_subset, List.nil_subset, and_true] at h
  simp [State.decodeNext, h]

@[simp] theorem State.touches_dispatchAt (n : Nat) (s : State) (h : [.queues, .arb] ⊆ L) :
    t.touches L (State.dispatchAt n s) ↔ t.touches L s := by
  simp only [List.cons_subset, List.nil_subset, and_true] at h
  unfold State.dispatchAt
  (repeat' split) <;> simp [h]

@[simp] theorem State.touches_dispatchNext (q : QId) (s : State) (h : [.queues, .arb] ⊆ L) :
    t.touches L (State.dispatchNext q s) ↔ t.touches L s := by
  simp only [List.cons_subset, List.nil_subset, and_true] at h
  unfold State.dispatchNext
  (repeat' split) <;> simp [h]

@[simp] theorem State.touches_touchLock (q : QId) (p : Packet) (s : State) (h : [.led] ⊆ L) :
    t.touches L (State.touchLock q p s) ↔ t.touches L s := by
  simp only [List.cons_subset, List.nil_subset, and_true] at h
  unfold State.touchLock
  (repeat' split) <;> simp [h]

@[simp] theorem State.touches_askFetch (q : QId) (s : State) (h : [.arb] ⊆ L) :
    t.touches L (State.askFetch q s) ↔ t.touches L s := by
  simp only [List.cons_subset, List.nil_subset, and_true] at h
  simp [State.askFetch, h]

@[simp] theorem State.touches_bringIn (q : QId) (p : Packet) (s : State) (h : [.gctl, .queues, .arb, .mss, .posted] ⊆ L) :
    t.touches L (s.bringIn q p) ↔ t.touches L s := by
  simp only [List.cons_subset, List.nil_subset, and_true] at h
  unfold State.bringIn
  split_ifs
  · rfl
  · split
    next e => simp [State.touches_grantFor e, h]
    next => rfl
  · rfl

@[simp] theorem State.touches_finish (x : Ctx) (o : Out) (h : [.gctl, .queues, .led, .mss, .posted] ⊆ L) :
    t.touches L (o.finish x) ↔ t.touches L o.s := by
  simp only [List.cons_subset, List.nil_subset, and_true] at h
  unfold Out.finish
  split <;> simp [h]

@[simp] theorem State.touches_runOp (op : BitVec 16) (sub : Option Byte) (body : Ctx → State → Out) (c : Cmd) (s : State)
    (hb : ∀ x s, t.touches L (body x s).s ↔ t.touches L s) (h : [.gctl, .queues, .led, .arb, .mss, .posted] ⊆ L) :
    t.touches L (runOp op sub body c s) ↔ t.touches L s := by
  simp only [List.cons_subset, List.nil_subset, and_true] at h
  unfold runOp
  dsimp only
  (repeat' split) <;> simp [h, hb]

@[simp] theorem State.touches_Ctx_refused (x : Ctx) (s : State) (st : BitVec 16) :
    t.touches L (Ctx.refused x s st).s ↔ t.touches L s := by
  simp [Ctx.refused]

@[simp] theorem State.touches_putPool (n : PoolId) (p : Pool) (s : State) (h : [.led] ⊆ L) :
    t.touches L (State.putPool n p s) ↔ t.touches L s := by
  simp only [List.cons_subset, List.nil_subset, and_true] at h
  simp [State.putPool, h]

@[simp] theorem State.touches_countRefused (s : State) (h : [.led] ⊆ L) :
    t.touches L (State.countRefused s) ↔ t.touches L s := by
  simp only [List.cons_subset, List.nil_subset, and_true] at h
  simp [State.countRefused, h]

@[simp] theorem State.touches_markChecker (n : PoolId) (p : Pool) (s : State) (h : [.gctl, .led, .posted] ⊆ L) :
    t.touches L (State.markChecker n p s) ↔ t.touches L s := by
  simp only [List.cons_subset, List.nil_subset, and_true] at h
  simp [State.markChecker, h]

@[simp] theorem State.touches_change (n : PoolId) (d : Delta) (f : Pool → Pool) (s : State) (h : [.gctl, .led, .posted] ⊆ L) :
    t.touches L (State.change n d f s).1 ↔ t.touches L s := by
  simp only [List.cons_subset, List.nil_subset, and_true] at h
  unfold State.change
  (repeat' split) <;> simp [h]

@[simp] theorem State.touches_pledge (n : Nat) (s : State) (h : [.ru] ⊆ L) :
    t.touches L (State.pledge n s) ↔ t.touches L s := by
  simp only [List.cons_subset, List.nil_subset, and_true] at h
  simp [State.pledge, h]

@[simp] theorem State.touches_unpledge (n : Nat) (s : State) (h : [.ru] ⊆ L) :
    t.touches L (State.unpledge n s) ↔ t.touches L s := by
  simp only [List.cons_subset, List.nil_subset, and_true] at h
  simp [State.unpledge, h]

@[simp] theorem State.touches_backpressure (s : State) (h : [.gctl, .posted] ⊆ L) :
    t.touches L (State.backpressure s) ↔ t.touches L s := by
  simp only [List.cons_subset, List.nil_subset, and_true] at h
  simp [State.backpressure, h]

@[simp] theorem State.touches_groupChange (s : State) (h : [.led] ⊆ L) :
    t.touches L (State.groupChange s) ↔ t.touches L s := by
  simp only [List.cons_subset, List.nil_subset, and_true] at h
  simp [State.groupChange, h]

@[simp] theorem State.touches_groupMark (s : State) (h : [.led] ⊆ L) :
    t.touches L (State.groupMark s) ↔ t.touches L s := by
  simp only [List.cons_subset, List.nil_subset, and_true] at h
  simp [State.groupMark, h]

@[simp] theorem State.touches_afterGroup (a : List After) (s : State) (h : [.led] ⊆ L) :
    t.touches L (State.afterGroup a s) ↔ t.touches L s := by
  simp only [List.cons_subset, List.nil_subset, and_true] at h
  simp [State.afterGroup, h]

@[simp] theorem State.touches_toRing (seq : Nat) (bytes : Bytes) (s : State) (h : [.gctl, .ru, .posted] ⊆ L) :
    t.touches L (State.toRing seq bytes s) ↔ t.touches L s := by
  simp only [List.cons_subset, List.nil_subset, and_true] at h
  simp [State.toRing, h]

@[simp] theorem State.touches_flushJournal (s : State) (h : [.gctl, .ru, .posted] ⊆ L) :
    t.touches L (State.flushJournal s) ↔ t.touches L s := by
  simp only [List.cons_subset, List.nil_subset, and_true] at h
  simp [State.flushJournal, h]

@[simp] theorem State.touches_chain (r : JRec) (s : State) (h : [.gctl, .led, .ru, .posted] ⊆ L) :
    t.touches L (State.chain r s) ↔ t.touches L s := by
  simp only [List.cons_subset, List.nil_subset, and_true] at h
  simp [State.chain, h]

@[simp] theorem State.touches_endLock (n : PoolId) (flags : Byte) (after : List After) (s : State)
    (h : [.gctl, .led, .ru, .posted] ⊆ L) :
    t.touches L (State.endLock n flags after s) ↔ t.touches L s := by
  simp only [List.cons_subset, List.nil_subset, and_true] at h
  unfold State.endLock
  dsimp only
  (repeat' split) <;> simp [h]

@[simp] theorem State.touches_freezePool (n : PoolId) (causes : Byte) (after : List After) (s : State)
    (h : [.gctl, .led, .ru, .posted] ⊆ L) :
    t.touches L (State.freezePool n causes after s) ↔ t.touches L s := by
  simp only [List.cons_subset, List.nil_subset, and_true] at h
  unfold State.freezePool
  (repeat' split) <;> simp [h]

@[simp] theorem State.touches_thawPool (n : PoolId) (causes : Byte) (after : List After) (s : State)
    (h : [.gctl, .led, .ru, .posted] ⊆ L) :
    t.touches L (State.thawPool n causes after s) ↔ t.touches L s := by
  simp only [List.cons_subset, List.nil_subset, and_true] at h
  unfold State.thawPool
  dsimp only
  (repeat' split) <;> simp [h]

@[simp] theorem State.touches_setTransfer (row : Nat) (t' : Transfer) (s : State) (h : [.skn] ⊆ L) :
    t.touches L (State.setTransfer row t' s) ↔ t.touches L s := by
  simp only [List.cons_subset, List.nil_subset, and_true] at h
  simp [State.setTransfer, h]

@[simp] theorem State.touches_freeTransfer (row : Nat) (s : State) (h : [.skn] ⊆ L) :
    t.touches L (State.freeTransfer row s) ↔ t.touches L s := by
  simp only [List.cons_subset, List.nil_subset, and_true] at h
  simp [State.freeTransfer, h]

@[simp] theorem State.touches_closeTransfer (id : BitVec 64) (s : State) (h : [.gctl, .led, .ru, .skn, .posted] ⊆ L) :
    t.touches L (State.closeTransfer id s) ↔ t.touches L s := by
  simp only [List.cons_subset, List.nil_subset, and_true] at h
  unfold State.closeTransfer
  (repeat' split) <;> simp [h]

@[simp] theorem State.touches_makeTombstone (src : BitVec 6) (id : BitVec 64) (s : State)
    (h : [.gctl, .led, .ru, .skn, .posted] ⊆ L) :
    t.touches L (State.makeTombstone src id s) ↔ t.touches L s := by
  simp only [List.cons_subset, List.nil_subset, and_true] at h
  unfold State.makeTombstone
  (repeat' split) <;> simp [h]

@[simp] theorem State.touches_replacePool (n : PoolId) (new : Pool) (s : State) (h : [.led] ⊆ L) :
    t.touches L (State.replacePool n new s).1 ↔ t.touches L s := by
  simp only [List.cons_subset, List.nil_subset, and_true] at h
  unfold State.replacePool
  dsimp only
  (repeat' split) <;> simp [h]

@[simp] theorem State.touches_noteApplied (s : State) (h : [.led] ⊆ L) :
    t.touches L (State.noteApplied s) ↔ t.touches L s := by
  simp only [List.cons_subset, List.nil_subset, and_true] at h
  simp [State.noteApplied, h]

@[simp] theorem State.touches_replaceForced (n : PoolId) (new : Pool) (ref : Nat) (h' : Held) (s : State)
    (h : [.gctl, .queues, .led, .ru, .mss, .posted] ⊆ L) :
    t.touches L (State.replaceForced n new ref h' s) ↔ t.touches L s := by
  unfold State.replaceForced
  (repeat' split) <;> simp_all [State.pair_eq_iff]

@[simp] theorem State.touches_recoverPool (n : PoolId) (s : State) (h : [.gctl, .led, .ru, .posted] ⊆ L) :
    t.touches L (State.recoverPool n s) ↔ t.touches L s := by
  unfold State.recoverPool
  dsimp only
  (repeat' split) <;> simp_all [State.pair_eq_iff]

@[simp] theorem State.touches_finishQueue (q : QId) (e : Ending) (locks : Nat) (s : State)
    (h : [.gctl, .queues, .led, .mss, .posted] ⊆ L) :
    t.touches L (State.finishQueue q e locks s) ↔ t.touches L s := by
  simp only [List.cons_subset, List.nil_subset, and_true] at h
  unfold State.finishQueue
  (repeat' split) <;> simp [h]

@[simp] theorem State.touches_doForced (f : Forced) (s : State) (h : [.gctl, .queues, .led, .ru, .skn, .mss, .posted] ⊆ L) :
    t.touches L (State.doForced f s) ↔ t.touches L s := by
  simp only [List.cons_subset, List.nil_subset, and_true] at h
  unfold State.doForced
  (repeat' split) <;> simp [h]

@[simp] theorem State.touches_force (f : Forced) (s : State) (h : [.gctl, .queues, .led, .ru, .skn, .mss, .posted] ⊆ L) :
    t.touches L (State.force f s) ↔ t.touches L s := by
  simp only [List.cons_subset, List.nil_subset, and_true] at h
  simp [State.force, h]

@[simp] theorem State.touches_forceLast (f : Forced) (s : State) (h : [.gctl, .queues, .led, .ru, .skn, .mss, .posted] ⊆ L) :
    t.touches L (State.forceLast f s) ↔ t.touches L s := by
  simp only [List.cons_subset, List.nil_subset, and_true] at h
  simp [State.forceLast, h]

@[simp] theorem State.touches_endLocks (flags : Byte) (ns : List PoolId) (s : State)
    (h : [.gctl, .queues, .led, .ru, .skn, .mss, .posted] ⊆ L) :
    t.touches L (State.endLocks flags ns s) ↔ t.touches L s := by
  simp only [List.cons_subset, List.nil_subset, and_true] at h
  simp [State.endLocks, h]

@[simp] theorem State.touches_settleTotals (s : State) (h : [.gctl, .queues, .led, .ru, .skn, .mss, .posted] ⊆ L) :
    t.touches L (State.settleTotals s) ↔ t.touches L s := by
  simp only [List.cons_subset, List.nil_subset, and_true] at h
  simp [State.settleTotals, h]

@[simp] theorem State.touches_clearStrip (s : State) (h : [.gctl, .queues, .led, .ru, .skn, .mss, .posted] ⊆ L) :
    t.touches L (State.clearStrip s) ↔ t.touches L s := by
  simp only [List.cons_subset, List.nil_subset, and_true] at h
  simp [State.clearStrip, h]

@[simp] theorem State.touches_closeGroup (s : State) (h : [.led, .arb] ⊆ L) :
    t.touches L (State.closeGroup s) ↔ t.touches L s := by
  simp only [List.cons_subset, List.nil_subset, and_true] at h
  simp [State.closeGroup, h]

@[simp] theorem State.touches_putSlot (n : Nat) (k : Slot) (s : State) (h : [.ks] ⊆ L) :
    t.touches L (State.putSlot n k s) ↔ t.touches L s := by
  simp only [List.cons_subset, List.nil_subset, and_true] at h
  simp [State.putSlot, h]

@[simp] theorem State.touches_emptySlot (n : Nat) (s : State) (h : [.ks] ⊆ L) :
    t.touches L (State.emptySlot n s) ↔ t.touches L s := by
  simp only [List.cons_subset, List.nil_subset, and_true] at h
  simp [State.emptySlot, h]

@[simp] theorem State.touches_putDmk (d : Dom) (v : BitVec 256) (s : State) (h : [.ks] ⊆ L) :
    t.touches L (State.putDmk d v s) ↔ t.touches L s := by
  simp only [List.cons_subset, List.nil_subset, and_true] at h
  simp [State.putDmk, h]

@[simp] theorem State.touches_loadDmk (root : BitVec 256) (d : Dom) (bs : Bytes) (s : State) (h : [.ks] ⊆ L) :
    t.touches L (State.loadDmk root d bs s) ↔ t.touches L s := by
  simp only [List.cons_subset, List.nil_subset, and_true] at h
  unfold State.loadDmk
  dsimp only
  (repeat' split) <;> simp [h]

@[simp] theorem State.touches_loadReserved (root : BitVec 256) (n : Nat) (bs : Bytes) (s : State) (h : [.ks] ⊆ L) :
    t.touches L (State.loadReserved root n bs s) ↔ t.touches L s := by
  simp only [List.cons_subset, List.nil_subset, and_true] at h
  unfold State.loadReserved
  dsimp only
  (repeat' split) <;> simp [h]

@[simp] theorem State.touches_loadImageKey (s : State) (h : [.ks] ⊆ L) :
    t.touches L (State.loadImageKey s) ↔ t.touches L s := by
  simp only [List.cons_subset, List.nil_subset, and_true] at h
  simp [State.loadImageKey, h]

@[simp] theorem State.touches_loadArchive (s : State) (h : [.ru, .ks] ⊆ L) : t.touches L s.loadArchive ↔ t.touches L s := by
  simp only [List.cons_subset, List.nil_subset, and_true] at h
  have hmk : ∀ (u : State) k r, t.touches L { u with ks := k, ru := r } ↔ t.touches L u := by simp [h]
  unfold State.loadArchive
  split
  · simp [h]
  · refine (hmk _ _ _).trans ?_
    rw [State.touches_loadImageKey _ (by simp [h]), State.touches_foldl, State.touches_foldl]
    · intro s p
      split <;> simp [h]
    · intro s n
      split <;> simp [h]

@[simp] theorem State.touches_deriveRoot (s : State) (h : [.ks] ⊆ L) :
    t.touches L (State.deriveRoot s) ↔ t.touches L s := by
  simp only [List.cons_subset, List.nil_subset, and_true] at h
  unfold State.deriveRoot
  dsimp only
  (repeat' split) <;> simp [h]

@[simp] theorem State.touches_deriveMemoryKeys (s : State) (h : [.ks] ⊆ L) :
    t.touches L (State.deriveMemoryKeys s) ↔ t.touches L s := by
  simp only [List.cons_subset, List.nil_subset, and_true] at h
  simp [State.deriveMemoryKeys, h]

@[simp] theorem State.touches_refill (n : Nat) (s : State) (h : [.ks] ⊆ L) :
    t.touches L (State.refill n s) ↔ t.touches L s := by
  simp only [List.cons_subset, List.nil_subset, and_true] at h
  unfold State.refill
  (repeat' split) <;> simp [h]

@[simp] theorem State.touches_corruptSlot (n : Nat) (k : Slot) (s : State) (h : [.ks, .kp] ⊆ L) :
    t.touches L (State.corruptSlot n k s) ↔ t.touches L s := by
  simp only [List.cons_subset, List.nil_subset, and_true] at h
  simp [State.corruptSlot, h]

@[simp] theorem State.touches_orphanSlot (n : Nat) (s : State) (h : [.ks] ⊆ L) :
    t.touches L (State.orphanSlot n s) ↔ t.touches L s := by
  simp only [List.cons_subset, List.nil_subset, and_true] at h
  simp [State.orphanSlot, h]

@[simp] theorem State.touches_readSlot (n : Nat) (s : State) (h : [.ks, .kp] ⊆ L) :
    t.touches L (State.readSlot n s).1 ↔ t.touches L s := by
  simp only [List.cons_subset, List.nil_subset, and_true] at h
  unfold State.readSlot
  (repeat' split) <;> simp [h]

@[simp] theorem State.touches_useSlot (n : Nat) (bit : Nat) (s : State) (h : [.ks, .kp] ⊆ L) :
    t.touches L (State.useSlot n bit s).1 ↔ t.touches L s := by
  unfold State.useSlot
  (repeat' split) <;> simp_all [State.pair_eq_iff]

@[simp] theorem State.touches_genWrite (g : GenWrite) (s : State) (h : [.arb, .kp] ⊆ L) :
    t.touches L (State.genWrite g s) ↔ t.touches L s := by
  simp only [List.cons_subset, List.nil_subset, and_true] at h
  simp [State.genWrite, h]

@[simp] theorem State.touches_fpk (s : State) (h : [.ks, .kp] ⊆ L) :
    t.touches L (State.fpk s).1 ↔ t.touches L s := by
  unfold State.fpk
  (repeat' split) <;> simp_all [State.pair_eq_iff]

@[simp] theorem State.touches_regRun (op : RegOp) (s : State) (h : [.ru] ⊆ L) :
    t.touches L (State.regRun op s).1 ↔ t.touches L s := by
  simp only [List.cons_subset, List.nil_subset, and_true] at h
  simp [State.regRun, h]

@[simp] theorem State.touches_regFind (fp : BitVec 128) (s : State) (h : [.ru] ⊆ L) :
    t.touches L (State.regFind fp s).1 ↔ t.touches L s := by
  simp only [List.cons_subset, List.nil_subset, and_true] at h
  simp [State.regFind, h]

@[simp] theorem State.touches_noteChange (fp : BitVec 128) (s : State) (h : [.ru] ⊆ L) :
    t.touches L (State.noteChange fp s) ↔ t.touches L s := by
  simp only [List.cons_subset, List.nil_subset, and_true] at h
  simp [State.noteChange, h]

@[simp] theorem State.touches_cuWrite (s : State) (bank : Bool) (r : CuReq) (h : [.kp, .memories] ⊆ L) :
    t.touches L (State.cuWrite s bank r) ↔ t.touches L s := by
  simp only [List.cons_subset, List.nil_subset, and_true] at h
  simp [State.cuWrite, h]

@[simp] theorem State.touches_refreshPage (page : Nat) (fix : Option (Bool × Nat)) (s : State) (h : [.arb, .kp] ⊆ L) :
    t.touches L (State.refreshPage page fix s) ↔ t.touches L s := by
  simp only [List.cons_subset, List.nil_subset, and_true] at h
  simp [State.refreshPage, h]

@[simp] theorem State.touches_mssWrite (off : Nat) (bs : Bytes) (after : List After) (s : State) (h : [.arb, .kp] ⊆ L) :
    t.touches L (State.mssWrite off bs after s) ↔ t.touches L s := by
  simp only [List.cons_subset, List.nil_subset, and_true] at h
  simp [State.mssWrite, h]

@[simp] theorem State.touches_wearWrite (ring : Nat) (v : Nat) (s : State) (h : [.arb, .kp] ⊆ L) :
    t.touches L (State.wearWrite ring v s) ↔ t.touches L s := by
  simp only [List.cons_subset, List.nil_subset, and_true] at h
  simp [State.wearWrite, h]

@[simp] theorem State.touches_noteErases (before : Nat) (s : State) (h : [.arb, .kp] ⊆ L) :
    t.touches L (State.noteErases before s) ↔ t.touches L s := by
  simp only [List.cons_subset, List.nil_subset, and_true] at h
  simp [State.noteErases, h]

@[simp] theorem State.touches_flashNow (req : FlashReq) (s : State) (h : [.arb, .kp, .memories] ⊆ L) :
    t.touches L (State.flashNow req s) ↔ t.touches L s := by
  simp only [List.cons_subset, List.nil_subset, and_true] at h
  simp [State.flashNow, h]

@[simp] theorem State.touches_abortQueued (q : QId) (st : QueueSt) (s : State) (h : [.gctl, .queues, .mss, .posted] ⊆ L) :
    t.touches L (State.abortQueued q st s).1 ↔ t.touches L s := by
  simp only [List.cons_subset, List.nil_subset, and_true] at h
  simp [State.abortQueued, h]

@[simp] theorem State.touches_endQueue (q : QId) (e : Ending) (s : State)
    (h : [.gctl, .queues, .led, .ru, .skn, .mss, .posted] ⊆ L) :
    t.touches L (State.endQueue q e s) ↔ t.touches L s := by
  simp only [List.cons_subset, List.nil_subset, and_true] at h
  simp [State.endQueue, h]

@[simp] theorem State.touches_beginEnding (q : QId) (delete : Bool) (h' : Option Held) (s : State)
    (h : [.gctl, .queues, .led, .ru, .skn, .mss, .posted] ⊆ L) :
    t.touches L (State.beginEnding q delete h' s) ↔ t.touches L s := by
  simp only [List.cons_subset, List.nil_subset, and_true] at h
  simp [State.beginEnding, h]

@[simp] theorem State.touches_queueEndBody (delete : Bool) (cyc : Nat) (x : Ctx) (s : State)
    (h : [.gctl, .queues, .led, .ru, .skn, .mss, .posted] ⊆ L) :
    t.touches L (queueEndBody delete cyc x s).s ↔ t.touches L s := by
  simp only [List.cons_subset, List.nil_subset, and_true] at h
  unfold queueEndBody
  dsimp only
  (repeat' split) <;> simp [h]

@[simp] theorem State.touches_nopBody (x : Ctx) (s : State) :
    t.touches L (nopBody x s).s ↔ t.touches L s := by
  simp [nopBody]

@[simp] theorem State.touches_queueCreateBody (x : Ctx) (s : State) (h : [.queues] ⊆ L) :
    t.touches L (queueCreateBody x s).s ↔ t.touches L s := by
  simp only [List.cons_subset, List.nil_subset, and_true] at h
  unfold queueCreateBody
  dsimp only
  (repeat' split) <;> simp [h]

@[simp] theorem State.touches_domainConfigBody (x : Ctx) (s : State) (h : [.domains, .arb] ⊆ L) :
    t.touches L (domainConfigBody x s).s ↔ t.touches L s := by
  simp only [List.cons_subset, List.nil_subset, and_true] at h
  unfold domainConfigBody withData
  dsimp only
  (repeat' split) <;> simp [h]

@[simp] theorem State.touches_getInfoBody (x : Ctx) (s : State) :
    t.touches L (getInfoBody x s).s ↔ t.touches L s := by
  simp [getInfoBody]

@[simp] theorem State.touches_timeSetBody (x : Ctx) (s : State) (h : [.gctl] ⊆ L) :
    t.touches L (timeSetBody x s).s ↔ t.touches L s := by
  simp only [List.cons_subset, List.nil_subset, and_true] at h
  unfold timeSetBody
  dsimp only
  (repeat' split) <;> simp [h]

@[simp] theorem State.touches_Ctx_refusedRoom (x : Ctx) (s : State) (st : BitVec 16) (h : [.gctl, .posted] ⊆ L) :
    t.touches L (Ctx.refusedRoom x s st).s ↔ t.touches L s := by
  simp only [List.cons_subset, List.nil_subset, and_true] at h
  simp [Ctx.refusedRoom, h]

@[simp] theorem State.touches_lockAcquireBody (x : Ctx) (s : State) (h : [.gctl, .led, .ru, .posted] ⊆ L) :
    t.touches L (lockAcquireBody x s).s ↔ t.touches L s := by
  unfold lockAcquireBody
  dsimp only
  (repeat' split) <;> simp_all [State.pair_eq_iff]

@[simp] theorem State.touches_lockReleaseBody (x : Ctx) (s : State) (h : [.gctl, .led, .ru, .posted] ⊆ L) :
    t.touches L (lockReleaseBody x s).s ↔ t.touches L s := by
  simp only [List.cons_subset, List.nil_subset, and_true] at h
  unfold lockReleaseBody
  dsimp only
  (repeat' split) <;> simp [h]

@[simp] theorem State.touches_fillEntropy (n : Nat) (s : State) (h : [.spn, .ks] ⊆ L) :
    t.touches L (State.fillEntropy n s) ↔ t.touches L s := by
  simp only [List.cons_subset, List.nil_subset, and_true] at h
  simp [State.fillEntropy, h]

@[simp] theorem State.touches_startJob (n : Nat) (j : Job) (s : State) (h : [.spn, .ks] ⊆ L) :
    t.touches L (State.startJob n j s) ↔ t.touches L s := by
  simp only [List.cons_subset, List.nil_subset, and_true] at h
  simp [State.startJob, h]

@[simp] theorem State.touches_setParked (signing : Bool) (js : List Job) (s : State) (h : [.spn] ⊆ L) :
    t.touches L (State.setParked signing js s) ↔ t.touches L s := by
  simp only [List.cons_subset, List.nil_subset, and_true] at h
  simp [State.setParked, h]

@[simp] theorem State.touches_request (j : Job) (s : State) (h : [.spn, .ks, .arb] ⊆ L) :
    t.touches L (State.request j s).1 ↔ t.touches L s := by
  simp only [List.cons_subset, List.nil_subset, and_true] at h
  unfold State.request
  (repeat' split) <;> simp [h]

@[simp] theorem State.touches_requestPart (x : Ctx) (cyc : Nat) (p : Part) (rest : List Part) (s : State)
    (h : [.gctl, .queues, .spn, .ks, .arb, .mss, .posted] ⊆ L) :
    t.touches L (State.requestPart x cyc p rest s) ↔ t.touches L s := by
  simp only [List.cons_subset, List.nil_subset, and_true] at h
  simp [State.requestPart, h]

@[simp] theorem State.touches_ended (s : State) (h : [.spn, .ran] ⊆ L) :
    t.touches L (State.ended s) ↔ t.touches L s := by
  simp only [List.cons_subset, List.nil_subset, and_true] at h
  simp [State.ended, h]

@[simp] theorem State.touches_spindled (body : Ctx → State → Out) (x : Ctx) (s : State)
    (hb : t.touches L (body x s).s ↔ t.touches L s) (h : [.gctl, .queues, .spn, .ks, .arb, .mss, .posted, .ran] ⊆ L) :
    t.touches L (spindled body x s).s ↔ t.touches L s := by
  simp only [List.cons_subset, List.nil_subset, and_true] at h
  unfold spindled
  dsimp only
  (repeat' split) <;> simp [h, hb]

@[simp] theorem State.touches_runOp_spindled (op : BitVec 16) (sub : Option Byte) (body : Ctx → State → Out) (c : Cmd)
    (s : State)
    (hb : ∀ x s, t.touches L (body x s).s ↔ t.touches L s)
    (h : [.gctl, .queues, .led, .spn, .ks, .arb, .mss, .posted, .ran] ⊆ L) :
    t.touches L (runOp op sub (spindled body) c s) ↔ t.touches L s := by
  simp only [List.cons_subset, List.nil_subset, and_true] at h
  exact State.touches_runOp _ _ _ _ _ (fun x s => State.touches_spindled _ _ _ (hb x s) (by simp [h])) (by simp [h])

@[simp] theorem State.touches_certCheck (x : Ctx) (kind : Nat) (pool : Nat) (slot : Nat) (prior : Bool) (bs : Bytes) (s : State)
    (h : [.spn, .dig, .ks, .kp, .ran] ⊆ L) :
    t.touches L (State.certCheck x kind pool slot prior bs s).1 ↔ t.touches L s := by
  unfold State.certCheck
  (repeat' split) <;> simp_all [State.pair_eq_iff]

@[simp] theorem State.touches_createPool (n : PoolId) (p : Pool) (recover : Bool) (s : State)
    (h : [.gctl, .led, .ru, .posted] ⊆ L) :
    t.touches L (State.createPool n p recover s) ↔ t.touches L s := by
  simp only [List.cons_subset, List.nil_subset, and_true] at h
  simp [State.createPool, h]

@[simp] theorem State.touches_poolCreateNewBody (x : Ctx) (s : State) (h : [.gctl, .led, .ru, .ks, .kp, .posted] ⊆ L) :
    t.touches L (poolCreateNewBody x s).s ↔ t.touches L s := by
  unfold poolCreateNewBody
  dsimp only
  (repeat' split) <;> simp_all [State.pair_eq_iff]

@[simp] theorem State.touches_poolCreateRecoverBody (x : Ctx) (s : State)
    (h : [.gctl, .queues, .led, .ru, .spn, .dig, .ks, .skn, .kp, .mss, .posted, .ran] ⊆ L) :
    t.touches L (poolCreateRecoverBody x s).s ↔ t.touches L s := by
  unfold poolCreateRecoverBody withData
  dsimp only
  (repeat' split) <;> simp_all [State.pair_eq_iff]

@[simp] theorem State.touches_poolLoadBody (x : Ctx) (s : State)
    (h : [.gctl, .led, .ru, .spn, .dig, .ks, .kp, .posted, .ran] ⊆ L) :
    t.touches L (poolLoadBody x s).s ↔ t.touches L s := by
  unfold poolLoadBody withData
  dsimp only
  (repeat' split) <;> simp_all [State.pair_eq_iff]

@[simp] theorem State.touches_spoilBody (void : Bool) (x : Ctx) (s : State) (h : [.gctl, .led, .ru, .ks, .kp, .posted] ⊆ L) :
    t.touches L (spoilBody void x s).s ↔ t.touches L s := by
  unfold spoilBody
  dsimp only
  (repeat' split) <;> simp_all [State.pair_eq_iff]

@[simp] theorem State.touches_reclaimBody (x : Ctx) (s : State) (h : [.gctl, .led, .ru, .posted] ⊆ L) :
    t.touches L (reclaimBody x s).s ↔ t.touches L s := by
  unfold reclaimBody
  dsimp only
  (repeat' split) <;> simp_all [State.pair_eq_iff]

@[simp] theorem State.touches_poolQueryBody (x : Ctx) (s : State) :
    t.touches L (poolQueryBody x s).s ↔ t.touches L s := by
  unfold poolQueryBody
  (repeat' split) <;> simp

@[simp] theorem State.touches_afterFreeze (n : PoolId) (h' : Held) (s : State) (h : [.led, .ru] ⊆ L) :
    t.touches L (State.afterFreeze n h' s) ↔ t.touches L s := by
  simp only [List.cons_subset, List.nil_subset, and_true] at h
  simp [State.afterFreeze, h]

@[simp] theorem State.touches_retirePool (n : PoolId) (h' : Held) (s : State)
    (h : [.gctl, .queues, .led, .ru, .mss, .posted] ⊆ L) :
    t.touches L (State.retirePool n h' s) ↔ t.touches L s := by
  unfold State.retirePool
  dsimp only
  (repeat' split) <;> simp_all [State.pair_eq_iff]

@[simp] theorem State.touches_releaseDrains (n : PoolId) (s : State) (h : [.gctl, .queues, .led, .ru, .mss, .posted] ⊆ L) :
    t.touches L (s.releaseDrains n) ↔ t.touches L s := by
  simp only [List.cons_subset, List.nil_subset, and_true] at h
  unfold State.releaseDrains
  split
  · rfl
  · dsimp only
    rw [State.touches_foldl]
    · simp [h]
    · intro s d
      split <;> simp [h]

@[simp] theorem State.touches_releaseAll (s : State) (h : [.gctl, .queues, .led, .ru, .mss, .posted] ⊆ L) :
    t.touches L (State.releaseAll s) ↔ t.touches L s := by
  simp only [List.cons_subset, List.nil_subset, and_true] at h
  simp [State.releaseAll, h]

@[simp] theorem State.touches_drain (d : Drain) (s : State) (h : [.led] ⊆ L) :
    t.touches L (State.drain d s) ↔ t.touches L s := by
  simp only [List.cons_subset, List.nil_subset, and_true] at h
  simp [State.drain, h]

@[simp] theorem State.touches_poolFreezeSetBody (x : Ctx) (s : State)
    (h : [.gctl, .queues, .led, .ru, .skn, .mss, .posted] ⊆ L) :
    t.touches L (poolFreezeSetBody x s).s ↔ t.touches L s := by
  simp only [List.cons_subset, List.nil_subset, and_true] at h
  unfold poolFreezeSetBody
  dsimp only
  (repeat' split) <;> simp [h]

@[simp] theorem State.touches_poolFreezeClearBody (x : Ctx) (s : State)
    (h : [.gctl, .queues, .led, .ru, .skn, .mss, .posted] ⊆ L) :
    t.touches L (poolFreezeClearBody x s).s ↔ t.touches L s := by
  simp only [List.cons_subset, List.nil_subset, and_true] at h
  unfold poolFreezeClearBody
  dsimp only
  (repeat' split) <;> simp [h]

@[simp] theorem State.touches_poolFreezeRecoveryBody (x : Ctx) (s : State)
    (h : [.gctl, .queues, .led, .ru, .spn, .dig, .ks, .skn, .kp, .mss, .posted, .ran] ⊆ L) :
    t.touches L (poolFreezeRecoveryBody x s).s ↔ t.touches L s := by
  unfold poolFreezeRecoveryBody withData
  dsimp only
  (repeat' split) <;> simp_all [State.pair_eq_iff]

@[simp] theorem State.touches_poolRetireBody (x : Ctx) (s : State) (h : [.gctl, .queues, .led, .ru, .mss, .posted] ⊆ L) :
    t.touches L (poolRetireBody x s).s ↔ t.touches L s := by
  simp only [List.cons_subset, List.nil_subset, and_true] at h
  unfold poolRetireBody
  dsimp only
  (repeat' split) <;> simp [h]

@[simp] theorem State.touches_ledgerAuditSumBody (a0 : Ctx) (s : State) :
    t.touches L (ledgerAuditSumBody a0 s).s ↔ t.touches L s := by
  simp [ledgerAuditSumBody]

@[simp] theorem State.touches_ledgerAuditClearStripBody (a0 : Ctx) (s : State)
    (h : [.gctl, .queues, .led, .ru, .skn, .mss, .posted] ⊆ L) :
    t.touches L (ledgerAuditClearStripBody a0 s).s ↔ t.touches L s := by
  simp only [List.cons_subset, List.nil_subset, and_true] at h
  unfold ledgerAuditClearStripBody
  (repeat' split) <;> simp [h]

@[simp] theorem State.touches_ledgerAuditTotalsBody (x : Ctx) (s : State) (h : [.led, .spn, .dig, .ks, .kp, .ran] ⊆ L) :
    t.touches L (ledgerAuditTotalsBody x s).s ↔ t.touches L s := by
  unfold ledgerAuditTotalsBody withData
  dsimp only
  (repeat' split) <;> simp_all [State.pair_eq_iff]

@[simp] theorem State.touches_writeOffBody (x : Ctx) (s : State)
    (h : [.gctl, .led, .ru, .spn, .dig, .ks, .skn, .kp, .posted, .ran] ⊆ L) :
    t.touches L (writeOffBody x s).s ↔ t.touches L s := by
  unfold writeOffBody withData
  dsimp only
  (repeat' split) <;> simp_all [State.pair_eq_iff]

@[simp] theorem State.touches_serviceChange (code : Nat) (cause : Nat) (in_ : Bool) (s : State)
    (h : [.gctl, .arb, .kp, .posted] ⊆ L) :
    t.touches L (State.serviceChange code cause in_ s) ↔ t.touches L s := by
  simp only [List.cons_subset, List.nil_subset, and_true] at h
  simp [State.serviceChange, h]

@[simp] theorem State.touches_returned (code : Nat) (pass : Bool) (s : State) (h : [.gctl, .queues, .arb, .mss, .posted] ⊆ L) :
    t.touches L (State.returned code pass s) ↔ t.touches L s := by
  simp only [List.cons_subset, List.nil_subset, and_true] at h
  unfold State.returned
  (repeat' split) <;> simp [h]

@[simp] theorem State.touches_abandon (r : IssueRun) (flags : Byte) (s : State) (h : [.gctl, .led, .ru, .posted] ⊆ L) :
    t.touches L (State.abandon r flags s) ↔ t.touches L s := by
  simp only [List.cons_subset, List.nil_subset, and_true] at h
  unfold State.abandon
  dsimp only
  (repeat' split) <;> simp [h]

@[simp] theorem State.touches_failIssue (r : IssueRun) (st : BitVec 16) (cyc : Nat) (h' : Held) (s : State)
    (h : [.gctl, .led, .ru, .posted] ⊆ L) :
    t.touches L (State.failIssue r st cyc h' s) ↔ t.touches L s := by
  simp only [List.cons_subset, List.nil_subset, and_true] at h
  simp [State.failIssue, h]

@[simp] theorem State.touches_completeIssue (r : IssueRun) (tail : Bytes) (cyc : Nat) (h' : Held) (s : State)
    (h : [.gctl, .led, .ru, .ks, .kp, .posted] ⊆ L) :
    t.touches L (State.completeIssue r tail cyc h' s) ↔ t.touches L s := by
  unfold State.completeIssue
  dsimp only
  (repeat' split) <;> simp_all [State.pair_eq_iff]

@[simp] theorem State.touches_grantParked (k : Bool) (s : State) (h : [.spn, .ks, .arb] ⊆ L) :
    t.touches L (State.grantParked k s) ↔ t.touches L s := by
  simp only [List.cons_subset, List.nil_subset, and_true] at h
  unfold State.grantParked
  dsimp only
  (repeat' split) <;> simp [h]

@[simp] theorem State.touches_failJob (j : Job) (st : BitVec 16) (cyc : Nat) (s : State)
    (h : [.gctl, .queues, .led, .ru, .mss, .posted] ⊆ L) :
    t.touches L (State.failJob j st cyc s) ↔ t.touches L s := by
  simp only [List.cons_subset, List.nil_subset, and_true] at h
  unfold State.failJob
  (repeat' split) <;> simp [h]

@[simp] theorem State.touches_leaveDone (n : Nat) (s : State) (h : [.gctl, .queues, .arb, .mss, .posted] ⊆ L) :
    t.touches L (State.leaveDone n s) ↔ t.touches L s := by
  simp only [List.cons_subset, List.nil_subset, and_true] at h
  unfold State.leaveDone
  (repeat' split) <;> simp [h]

@[simp] theorem State.touches_toTest (n : Nat) (cause : Nat) (s : State)
    (h : [.gctl, .queues, .spn, .arb, .kp, .mss, .posted] ⊆ L) :
    t.touches L (State.toTest n cause s) ↔ t.touches L s := by
  simp only [List.cons_subset, List.nil_subset, and_true] at h
  simp [State.toTest, h]

@[simp] theorem State.touches_freeSpindle (n : Nat) (s : State) (h : [.gctl, .queues, .spn, .ks, .arb, .mss, .posted] ⊆ L) :
    t.touches L (State.freeSpindle n s) ↔ t.touches L s := by
  simp only [List.cons_subset, List.nil_subset, and_true] at h
  simp [State.freeSpindle, h]

@[simp] theorem State.touches_vasMark (n : Nat) (vp : Nat) (s : State)
    (h : [.gctl, .queues, .spn, .arb, .kp, .mss, .posted] ⊆ L) :
    t.touches L (State.vasMark n vp s) ↔ t.touches L s := by
  simp only [List.cons_subset, List.nil_subset, and_true] at h
  simp [State.vasMark, h]

@[simp] theorem State.touches_vasFail (n : Nat) (vp : Nat) (j : Job) (s : State)
    (h : [.gctl, .queues, .led, .ru, .spn, .arb, .kp, .mss, .posted] ⊆ L) :
    t.touches L (State.vasFail n vp j s) ↔ t.touches L s := by
  simp only [List.cons_subset, List.nil_subset, and_true] at h
  simp [State.vasFail, h]

@[simp] theorem State.touches_release (j : Job) (bs : Bytes) (s : State)
    (h : [.gctl, .queues, .led, .ru, .ks, .kp, .mss, .posted] ⊆ L) :
    t.touches L (State.release j bs s) ↔ t.touches L s := by
  simp only [List.cons_subset, List.nil_subset, and_true] at h
  unfold State.release
  (repeat' split) <;> simp [h]

@[simp] theorem State.touches_verifyEnd (vp : Nat) (j : Job) (s : State)
    (h : [.gctl, .queues, .led, .ru, .spn, .ks, .arb, .kp, .mss, .posted] ⊆ L) :
    t.touches L (State.verifyEnd vp j s) ↔ t.touches L s := by
  simp only [List.cons_subset, List.nil_subset, and_true] at h
  unfold State.verifyEnd
  (repeat' split) <;> simp [h]

@[simp] theorem State.touches_verifyJobEnd (vp : Nat) (j : Job) (s : State)
    (h : [.gctl, .queues, .led, .ru, .spn, .ks, .arb, .kp, .mss, .posted] ⊆ L) :
    t.touches L (State.verifyJobEnd vp j s) ↔ t.touches L s := by
  simp only [List.cons_subset, List.nil_subset, and_true] at h
  simp [State.verifyJobEnd, h]

@[simp] theorem State.touches_signJobEnd (n : Nat) (j : Job) (glitch : BitVec 512) (now : Bool) (s : State)
    (h : [.gctl, .queues, .led, .ru, .spn, .ks, .arb, .kp, .mss, .posted] ⊆ L) :
    t.touches L (State.signJobEnd n j glitch now s) ↔ t.touches L s := by
  simp only [List.cons_subset, List.nil_subset, and_true] at h
  unfold State.signJobEnd
  dsimp only
  (repeat' split) <;> simp [h]

@[simp] theorem State.touches_jobEnd (n : Nat) (glitch : BitVec 512) (now : Bool) (s : State)
    (h : [.gctl, .queues, .led, .ru, .spn, .ks, .arb, .kp, .mss, .posted] ⊆ L) :
    t.touches L (State.jobEnd n glitch now s) ↔ t.touches L s := by
  simp only [List.cons_subset, List.nil_subset, and_true] at h
  unfold State.jobEnd
  (repeat' split) <;> simp [h]

@[simp] theorem State.touches_runJob (j : Job) (async : Bool) (s : State)
    (h : [.gctl, .queues, .led, .ru, .spn, .ks, .arb, .kp, .mss, .posted] ⊆ L) :
    t.touches L (State.runJob j async s) ↔ t.touches L s := by
  simp only [List.cons_subset, List.nil_subset, and_true] at h
  unfold State.runJob
  dsimp only
  (repeat' split) <;> simp [h]

@[simp] theorem State.touches_clearSpindle (n : Nat) (s : State) (h : [.spn] ⊆ L) :
    t.touches L (State.clearSpindle n s) ↔ t.touches L s := by
  simp only [List.cons_subset, List.nil_subset, and_true] at h
  simp [State.clearSpindle, h]

@[simp] theorem State.touches_abortSpindle (st : BitVec 16) (n : Nat) (s : State)
    (h : [.gctl, .queues, .led, .ru, .spn, .mss, .posted] ⊆ L) :
    t.touches L (State.abortSpindle st n s) ↔ t.touches L s := by
  simp only [List.cons_subset, List.nil_subset, and_true] at h
  simp [State.abortSpindle, h]

@[simp] theorem State.touches_dropFrom (j : Job) (s : State) (n : Nat)
    (h : [.gctl, .queues, .spn, .ks, .arb, .mss, .posted] ⊆ L) :
    t.touches L (State.dropFrom j s n) ↔ t.touches L s := by
  simp only [List.cons_subset, List.nil_subset, and_true] at h
  simp [State.dropFrom, h]

@[simp] theorem State.touches_cutJob (j : Job) (st : BitVec 16) (s : State)
    (h : [.gctl, .queues, .led, .ru, .spn, .ks, .arb, .mss, .posted] ⊆ L) :
    t.touches L (State.cutJob j st s) ↔ t.touches L s := by
  simp only [List.cons_subset, List.nil_subset, and_true] at h
  simp [State.cutJob, h]

@[simp] theorem State.touches_dropParked (st : BitVec 16) (t' : Prog → Bool) (signing : Bool) (s : State)
    (h : [.gctl, .queues, .led, .ru, .spn, .mss, .posted] ⊆ L) :
    t.touches L (State.dropParked st t' signing s) ↔ t.touches L s := by
  simp only [List.cons_subset, List.nil_subset, and_true] at h
  simp [State.dropParked, h]

@[simp] theorem State.touches_setCtx (n : Nat) (k : SealCtx) (s : State) (h : [.sl] ⊆ L) :
    t.touches L (State.setCtx n k s) ↔ t.touches L s := by
  simp only [List.cons_subset, List.nil_subset, and_true] at h
  simp [State.setCtx, h]

@[simp] theorem State.touches_closeCtx (n : Nat) (s : State) (h : [.sl] ⊆ L) :
    t.touches L (State.closeCtx n s) ↔ t.touches L s := by
  simp only [List.cons_subset, List.nil_subset, and_true] at h
  simp [State.closeCtx, h]

@[simp] theorem State.touches_cacheLine (n : Nat) (s : State) (h : [.sl] ⊆ L) :
    t.touches L (State.cacheLine n s) ↔ t.touches L s := by
  simp only [List.cons_subset, List.nil_subset, and_true] at h
  unfold State.cacheLine
  (repeat' split) <;> simp [h]

@[simp] theorem State.touches_fillDone (n : Nat) (s : State) (h : [.sl] ⊆ L) :
    t.touches L (State.fillDone n s) ↔ t.touches L s := by
  simp only [List.cons_subset, List.nil_subset, and_true] at h
  simp [State.fillDone, h]

@[simp] theorem State.touches_cacheUse (n : Nat) (s : State) (h : [.sl] ⊆ L) :
    t.touches L (State.cacheUse n s) ↔ t.touches L s := by
  simp only [List.cons_subset, List.nil_subset, and_true] at h
  simp [State.cacheUse, h]

@[simp] theorem State.touches_admitted (n : Nat) (s : State) (h : [.sl] ⊆ L) :
    t.touches L (State.admitted n s) ↔ t.touches L s := by
  simp only [List.cons_subset, List.nil_subset, and_true] at h
  simp [State.admitted, h]

@[simp] theorem State.touches_passed (u : Byte) (n : Nat) (s : State) (h : [.sl, .arb] ⊆ L) :
    t.touches L (State.passed u n s) ↔ t.touches L s := by
  simp only [List.cons_subset, List.nil_subset, and_true] at h
  simp [State.passed, h]

@[simp] theorem State.touches_breakCtx (n : Nat) (k : SealCtx) (s : State) (h : [.sl] ⊆ L) :
    t.touches L (State.breakCtx n k s) ↔ t.touches L s := by
  simp only [List.cons_subset, List.nil_subset, and_true] at h
  simp [State.breakCtx, h]

@[simp] theorem State.touches_tagFailed (s : State) (h : [.sl] ⊆ L) :
    t.touches L (State.tagFailed s) ↔ t.touches L s := by
  simp only [List.cons_subset, List.nil_subset, and_true] at h
  simp [State.tagFailed, h]

@[simp] theorem State.touches_askFill (n : Nat) (s : State) (h : [.sl] ⊆ L) :
    t.touches L (State.askFill n s) ↔ t.touches L s := by
  simp only [List.cons_subset, List.nil_subset, and_true] at h
  simp [State.askFill, h]

@[simp] theorem State.touches_startRun (r : SealRun) (k : SealCtx) (s : State) (h : [.sl, .arb] ⊆ L) :
    t.touches L (State.startRun r k s) ↔ t.touches L s := by
  simp only [List.cons_subset, List.nil_subset, and_true] at h
  simp [State.startRun, h]

@[simp] theorem State.touches_setRun (r : SealRun) (s : State) (h : [.sl] ⊆ L) :
    t.touches L (State.setRun r s) ↔ t.touches L s := by
  simp only [List.cons_subset, List.nil_subset, and_true] at h
  simp [State.setRun, h]

@[simp] theorem State.touches_dropRun (ctx : Nat) (s : State) (h : [.sl] ⊆ L) :
    t.touches L (State.dropRun ctx s) ↔ t.touches L s := by
  simp only [List.cons_subset, List.nil_subset, and_true] at h
  simp [State.dropRun, h]

@[simp] theorem State.touches_setHold (k : Nat) (b : Bool) (s : State) (h : [.sl] ⊆ L) :
    t.touches L (State.setHold k b s) ↔ t.touches L s := by
  simp only [List.cons_subset, List.nil_subset, and_true] at h
  simp [State.setHold, h]

@[simp] theorem State.touches_formTag (r : SealRun) (k : SealCtx) (s : State)
    (h : [.gctl, .queues, .led, .ru, .sl, .ks, .kp, .mss, .posted] ⊆ L) :
    t.touches L (State.formTag r k s) ↔ t.touches L s := by
  simp only [List.cons_subset, List.nil_subset, and_true] at h
  unfold State.formTag
  (repeat' split) <;> simp [h]

@[simp] theorem State.touches_blockOut (s : State) (h : [.gctl, .sl, .posted] ⊆ L) :
    t.touches L (State.blockOut s) ↔ t.touches L s := by
  simp only [List.cons_subset, List.nil_subset, and_true] at h
  unfold State.blockOut
  dsimp only
  (repeat' split) <;> simp [h]

@[simp] theorem State.touches_dataDone (n : Nat) (s : State)
    (h : [.gctl, .queues, .led, .ru, .sl, .ks, .kp, .mss, .posted] ⊆ L) :
    t.touches L (State.dataDone n s) ↔ t.touches L s := by
  simp only [List.cons_subset, List.nil_subset, and_true] at h
  unfold State.dataDone
  (repeat' split) <;> simp [h]

@[simp] theorem State.touches_admitBlock (r : SealRun) (s : State) (h : [.sl, .arb] ⊆ L) :
    t.touches L (State.admitBlock r s) ↔ t.touches L s := by
  simp only [List.cons_subset, List.nil_subset, and_true] at h
  unfold State.admitBlock
  (repeat' split) <;> simp [h]

@[simp] theorem State.touches_drainRun (fuel n : Nat) (s : State)
    (h : [.gctl, .queues, .led, .ru, .sl, .ks, .arb, .kp, .mss, .posted] ⊆ L) :
    t.touches L (State.drainRun fuel n s) ↔ t.touches L s := by
  simp only [List.cons_subset, List.nil_subset, and_true] at h
  induction fuel generalizing s with
  | zero => simp [State.drainRun]
  | succ fuel ih =>
    unfold State.drainRun
    (repeat' split) <;> simp [h, ih]

@[simp] theorem State.touches_settleCtx (n : Nat) (s : State)
    (h : [.gctl, .queues, .led, .ru, .sl, .ks, .arb, .kp, .mss, .posted] ⊆ L) :
    t.touches L (State.settleCtx n s) ↔ t.touches L s := by
  simp only [List.cons_subset, List.nil_subset, and_true] at h
  simp [State.settleCtx, h]

@[simp] theorem State.touches_failRun (r : SealRun) (st : BitVec 16) (s : State)
    (h : [.gctl, .queues, .led, .ru, .mss, .posted] ⊆ L) :
    t.touches L (State.failRun r st s) ↔ t.touches L s := by
  simp only [List.cons_subset, List.nil_subset, and_true] at h
  unfold State.failRun
  (repeat' split) <;> simp [h]

@[simp] theorem State.touches_cutRun (r : SealRun) (st : BitVec 16) (breaks : Bool) (s : State)
    (h : [.gctl, .queues, .led, .ru, .sl, .arb, .mss, .posted] ⊆ L) :
    t.touches L (State.cutRun r st breaks s) ↔ t.touches L s := by
  simp only [List.cons_subset, List.nil_subset, and_true] at h
  unfold State.cutRun
  dsimp only
  (repeat' split) <;> simp [h]

@[simp] theorem State.touches_seatSaves (s : State) (h : [.sl] ⊆ L) :
    t.touches L (State.seatSaves s) ↔ t.touches L s := by
  simp only [List.cons_subset, List.nil_subset, and_true] at h
  simp [State.seatSaves, h]

@[simp] theorem State.touches_ticketSeal (p : Packet) (s : State)
    (h : [.gctl, .queues, .led, .ru, .sl, .ks, .arb, .kp, .mss, .posted] ⊆ L) :
    t.touches L (State.ticketSeal p s).1 ↔ t.touches L s := by
  unfold State.ticketSeal
  dsimp only
  (repeat' split) <;> simp_all [State.pair_eq_iff]

@[simp] theorem State.touches_reserve (x : Ctx) (p : Pool) (s : State) (h : [.gctl, .led, .posted] ⊆ L) :
    t.touches L (State.reserve x p s).1 ↔ t.touches L s := by
  unfold State.reserve
  (repeat' split) <;> simp_all [State.pair_eq_iff]

@[simp] theorem State.touches_issueSeal (x : Ctx) (t' : TicketSeal) (r : IssueRun) (body : Bytes) (s : State)
    (h : [.gctl, .queues, .led, .ru, .spn, .sl, .dig, .ks, .arb, .kp, .mss, .posted] ⊆ L) :
    t.touches L (State.issueSeal x t' r body s) ↔ t.touches L s := by
  simp only [List.cons_subset, List.nil_subset, and_true] at h
  unfold State.issueSeal
  (repeat' split) <;> simp [h]

@[simp] theorem State.touches_issueWith (x : Ctx) (s : State) (body : Bytes)
    (h : [.gctl, .queues, .led, .ru, .spn, .sl, .dig, .ks, .arb, .kp, .mss, .posted] ⊆ L) :
    t.touches L (issueWith x s body).s ↔ t.touches L s := by
  unfold issueWith
  dsimp only
  (repeat' split) <;> simp_all [State.pair_eq_iff]

@[simp] theorem State.touches_issueBody (x : Ctx) (s : State)
    (h : [.gctl, .queues, .led, .ru, .spn, .sl, .dig, .ks, .arb, .kp, .mss, .posted] ⊆ L) :
    t.touches L (issueBody x s).s ↔ t.touches L s := by
  simp only [List.cons_subset, List.nil_subset, and_true] at h
  unfold issueBody withData
  (repeat' split) <;> simp [h]

@[simp] theorem State.touches_signBody (x : Ctx) (s : State)
    (h : [.gctl, .queues, .led, .ru, .spn, .dig, .ks, .arb, .kp, .mss, .posted] ⊆ L) :
    t.touches L (signBody x s).s ↔ t.touches L s := by
  unfold signBody withData
  dsimp only
  (repeat' split) <;> simp_all [State.pair_eq_iff]

@[simp] theorem State.touches_verifyBody (x : Ctx) (s : State)
    (h : [.gctl, .queues, .led, .ru, .spn, .dig, .ks, .arb, .kp, .mss, .posted] ⊆ L) :
    t.touches L (verifyBody x s).s ↔ t.touches L s := by
  unfold verifyBody withData
  dsimp only
  (repeat' split) <;> simp_all [State.pair_eq_iff]

@[simp] theorem State.touches_pubkeyLoadBody (x : Ctx) (s : State) (h : [.spn, .dig, .ks, .ran] ⊆ L) :
    t.touches L (pubkeyLoadBody x s).s ↔ t.touches L s := by
  simp only [List.cons_subset, List.nil_subset, and_true] at h
  unfold pubkeyLoadBody withData
  dsimp only
  (repeat' split) <;> simp [h]

@[simp] theorem State.touches_bnJobBody (x : Ctx) (s : State)
    (h : [.gctl, .queues, .led, .ru, .spn, .ks, .arb, .kp, .mss, .posted] ⊆ L) :
    t.touches L (bnJobBody x s).s ↔ t.touches L s := by
  simp only [List.cons_subset, List.nil_subset, and_true] at h
  unfold bnJobBody withData
  dsimp only
  (repeat' split) <;> simp [h]

end

end Sys2Proof.Machine
end

section
/-! PROOFS. What the functions of the key store, the Skein, the register, the journal, the card and the commit unit leave as it is. -/

namespace Sys2Proof.Machine

set_option Elab.async false

section
variable {L : List Aspect} {t : State}
@[simp] theorem State.touches_abortBn (n : Nat) (j : Job) (s : State)
    (h : [.gctl, .queues, .spn, .ks, .arb, .mss, .posted] ⊆ L) :
    t.touches L (State.abortBn n j s) ↔ t.touches L s := by
  simp only [List.cons_subset, List.nil_subset, and_true] at h
  simp [State.abortBn, h]

@[simp] theorem State.touches_bnAbortBody (x : Ctx) (s : State) (h : [.gctl, .queues, .spn, .ks, .arb, .mss, .posted] ⊆ L) :
    t.touches L (bnAbortBody x s).s ↔ t.touches L s := by
  simp only [List.cons_subset, List.nil_subset, and_true] at h
  unfold bnAbortBody
  dsimp only
  (repeat' split) <;> simp [h]

@[simp] theorem State.touches_curveLoadLoadBody (x : Ctx) (s : State) (h : [.spn, .ks, .arb, .kp, .memories, .ran] ⊆ L) :
    t.touches L (curveLoadLoadBody x s).s ↔ t.touches L s := by
  simp only [List.cons_subset, List.nil_subset, and_true] at h
  unfold curveLoadLoadBody withData
  dsimp only
  (repeat' split) <;> simp [h]

@[simp] theorem State.touches_curveLoadClearBody (x : Ctx) (s : State) (h : [.spn, .arb, .kp, .memories] ⊆ L) :
    t.touches L (curveLoadClearBody x s).s ↔ t.touches L s := by
  simp only [List.cons_subset, List.nil_subset, and_true] at h
  unfold curveLoadClearBody
  (repeat' split) <;> simp [h]

@[simp] theorem State.touches_faultJob (n : Nat) (s : State)
    (h : [.gctl, .queues, .led, .ru, .spn, .ks, .arb, .kp, .mss, .posted] ⊆ L) :
    t.touches L (State.faultJob n s) ↔ t.touches L s := by
  simp only [List.cons_subset, List.nil_subset, and_true] at h
  unfold State.faultJob
  dsimp only
  (repeat' split) <;> simp [h]

@[simp] theorem State.touches_entropyFor (n : Nat) (s : State) (h : [.spn, .ks] ⊆ L) :
    t.touches L (State.entropyFor n s) ↔ t.touches L s := by
  simp only [List.cons_subset, List.nil_subset, and_true] at h
  simp [State.entropyFor, h]

@[simp] theorem State.touches_yieldAt (n : Nat) (s : State) (h : [.spn, .arb] ⊆ L) :
    t.touches L (yieldAt n s) ↔ t.touches L s := by
  simp only [List.cons_subset, List.nil_subset, and_true] at h
  unfold yieldAt
  dsimp only
  (repeat' split) <;> simp [h]

@[simp] theorem State.touches_saveEnd (n : Nat) (s : State) (h : [.spn, .ks] ⊆ L) :
    t.touches L (saveEnd n s) ↔ t.touches L s := by
  simp only [List.cons_subset, List.nil_subset, and_true] at h
  unfold saveEnd
  dsimp only
  (repeat' split) <;> simp [h]

@[simp] theorem State.touches_restoreEnd (n : Nat) (s : State) (h : [.spn] ⊆ L) :
    t.touches L (restoreEnd n s) ↔ t.touches L s := by
  simp only [List.cons_subset, List.nil_subset, and_true] at h
  unfold restoreEnd
  dsimp only
  (repeat' split) <;> simp [h]

@[simp] theorem State.touches_katEnd (n : Nat) (pass : Bool) (s : State)
    (h : [.gctl, .queues, .spn, .ks, .arb, .kp, .mss, .posted] ⊆ L) :
    t.touches L (katEnd n pass s) ↔ t.touches L s := by
  unfold katEnd
  dsimp only
  (repeat' split) <;> simp_all [State.pair_eq_iff]

@[simp] theorem State.touches_refillEvent (n : Nat) (s : State) (h : [.spn, .ks] ⊆ L) :
    t.touches L (refillEvent n s) ↔ t.touches L s := by
  simp only [List.cons_subset, List.nil_subset, and_true] at h
  simp [refillEvent, h]

@[simp] theorem State.touches_ctxOpenBody (x : Ctx) (s : State) (h : [.sl, .ks, .kp] ⊆ L) :
    t.touches L (ctxOpenBody x s).s ↔ t.touches L s := by
  unfold ctxOpenBody withData
  dsimp only
  (repeat' split) <;> simp_all [State.pair_eq_iff]

@[simp] theorem State.touches_sealBody (final : Bool) (x : Ctx) (s : State)
    (h : [.gctl, .queues, .led, .ru, .sl, .ks, .arb, .kp, .mss, .posted] ⊆ L) :
    t.touches L (sealBody final x s).s ↔ t.touches L s := by
  simp only [List.cons_subset, List.nil_subset, and_true] at h
  unfold sealBody
  dsimp only
  (repeat' split) <;> simp [h]

@[simp] theorem State.touches_awaitHold (s : State) (h : [.gctl, .queues, .led, .ru, .sl, .ks, .arb, .kp, .mss, .posted] ⊆ L) :
    t.touches L (State.awaitHold s) ↔ t.touches L s := by
  simp only [List.cons_subset, List.nil_subset, and_true] at h
  unfold State.awaitHold
  (repeat' split) <;> simp [h]

@[simp] theorem State.touches_openVerifyBody (x : Ctx) (s : State)
    (h : [.gctl, .queues, .led, .ru, .sl, .ks, .arb, .kp, .mss, .posted] ⊆ L) :
    t.touches L (openVerifyBody x s).s ↔ t.touches L s := by
  simp only [List.cons_subset, List.nil_subset, and_true] at h
  unfold openVerifyBody withData
  dsimp only
  (repeat' split) <;> simp [h]

@[simp] theorem State.touches_ctxSaveClear (x : Ctx) (n : Nat) (k : SealCtx) (s : State) (h : [.sl] ⊆ L) :
    t.touches L (ctxSaveClear x n k s).s ↔ t.touches L s := by
  simp only [List.cons_subset, List.nil_subset, and_true] at h
  unfold ctxSaveClear
  (repeat' split) <;> simp [h]

@[simp] theorem State.touches_ctxSaveWrapped (x : Ctx) (n : Nat) (k : SealCtx) (s : State) (h : [.sl, .ks] ⊆ L) :
    t.touches L (ctxSaveWrapped x n k s).s ↔ t.touches L s := by
  simp only [List.cons_subset, List.nil_subset, and_true] at h
  unfold ctxSaveWrapped
  (repeat' split) <;> simp [h]

@[simp] theorem State.touches_ctxSaveBody (x : Ctx) (s : State)
    (h : [.gctl, .queues, .led, .ru, .sl, .ks, .arb, .kp, .mss, .posted] ⊆ L) :
    t.touches L (ctxSaveBody x s).s ↔ t.touches L s := by
  simp only [List.cons_subset, List.nil_subset, and_true] at h
  unfold ctxSaveBody
  dsimp only
  (repeat' split) <;> simp [h]

@[simp] theorem State.touches_ctxRestoreClear (x : Ctx) (n : Nat) (bs : Bytes) (s : State) (h : [.sl] ⊆ L) :
    t.touches L (ctxRestoreClear x n bs s).s ↔ t.touches L s := by
  simp only [List.cons_subset, List.nil_subset, and_true] at h
  unfold ctxRestoreClear
  dsimp only
  (repeat' split) <;> simp [h]

@[simp] theorem State.touches_ctxRestoreWrapped (x : Ctx) (n : Nat) (bs : Bytes) (s : State) (h : [.sl, .arb, .kp] ⊆ L) :
    t.touches L (ctxRestoreWrapped x n bs s).s ↔ t.touches L s := by
  simp only [List.cons_subset, List.nil_subset, and_true] at h
  unfold ctxRestoreWrapped
  dsimp only
  (repeat' split) <;> simp [h]

@[simp] theorem State.touches_ctxRestoreBody (x : Ctx) (s : State)
    (h : [.gctl, .queues, .led, .ru, .sl, .ks, .arb, .kp, .mss, .posted] ⊆ L) :
    t.touches L (ctxRestoreBody x s).s ↔ t.touches L s := by
  simp only [List.cons_subset, List.nil_subset, and_true] at h
  unfold ctxRestoreBody withData
  dsimp only
  (repeat' split) <;> simp [h]

@[simp] theorem State.touches_ctxCloseBody (x : Ctx) (s : State)
    (h : [.gctl, .queues, .led, .ru, .sl, .ks, .arb, .kp, .mss, .posted] ⊆ L) :
    t.touches L (ctxCloseBody x s).s ↔ t.touches L s := by
  simp only [List.cons_subset, List.nil_subset, and_true] at h
  unfold ctxCloseBody
  dsimp only
  (repeat' split) <;> simp [h]

@[simp] theorem State.touches_admitNext (s : State) (h : [.sl, .arb] ⊆ L) :
    t.touches L (State.admitNext s) ↔ t.touches L s := by
  simp only [List.cons_subset, List.nil_subset, and_true] at h
  unfold State.admitNext
  dsimp only
  (repeat' split) <;> simp [h]

@[simp] theorem State.touches_blockAdmitEvent (n : Nat) (s : State) (h : [.sl, .arb] ⊆ L) :
    t.touches L (blockAdmitEvent n s) ↔ t.touches L s := by
  simp only [List.cons_subset, List.nil_subset, and_true] at h
  unfold blockAdmitEvent
  dsimp only
  (repeat' split) <;> simp [h]

@[simp] theorem State.touches_blockOutEvent (s : State) (h : [.gctl, .queues, .led, .ru, .sl, .ks, .kp, .mss, .posted] ⊆ L) :
    t.touches L (blockOutEvent s) ↔ t.touches L s := by
  simp only [List.cons_subset, List.nil_subset, and_true] at h
  unfold blockOutEvent
  (repeat' split) <;> simp [h]

@[simp] theorem State.touches_tagFormedEvent (n : Nat) (s : State)
    (h : [.gctl, .queues, .led, .ru, .sl, .ks, .kp, .mss, .posted] ⊆ L) :
    t.touches L (tagFormedEvent n s) ↔ t.touches L s := by
  simp only [List.cons_subset, List.nil_subset, and_true] at h
  unfold tagFormedEvent
  (repeat' split) <;> simp [h]

@[simp] theorem State.touches_writeBackEvent (s : State) (h : [.sl] ⊆ L) :
    t.touches L (writeBackEvent s) ↔ t.touches L s := by
  simp only [List.cons_subset, List.nil_subset, and_true] at h
  simp [writeBackEvent, h]

@[simp] theorem State.touches_setDig (n : Nat) (k : DigCtx) (s : State) (h : [.dig] ⊆ L) :
    t.touches L (State.setDig n k s) ↔ t.touches L s := by
  simp only [List.cons_subset, List.nil_subset, and_true] at h
  simp [State.setDig, h]

@[simp] theorem State.touches_dropDig (n : Nat) (s : State) (h : [.dig, .arb] ⊆ L) :
    t.touches L (State.dropDig n s) ↔ t.touches L s := by
  simp only [List.cons_subset, List.nil_subset, and_true] at h
  simp [State.dropDig, h]

@[simp] theorem State.touches_digEnd (r : DigRun) (s : State) (h : [.gctl, .queues, .dig, .ks, .mss, .posted] ⊆ L) :
    t.touches L (State.digEnd r s) ↔ t.touches L s := by
  simp only [List.cons_subset, List.nil_subset, and_true] at h
  unfold State.digEnd
  (repeat' split) <;> simp [h]

@[simp] theorem State.touches_digTake (r : DigRun) (bs : Bytes) (s : State) (h : [.dig] ⊆ L) :
    t.touches L (State.digTake r bs s) ↔ t.touches L s := by
  simp only [List.cons_subset, List.nil_subset, and_true] at h
  simp [State.digTake, h]

@[simp] theorem State.touches_settleDig (n : Nat) (s : State) (h : [.gctl, .queues, .dig, .ks, .arb, .mss, .posted] ⊆ L) :
    t.touches L (State.settleDig n s) ↔ t.touches L s := by
  simp only [List.cons_subset, List.nil_subset, and_true] at h
  unfold State.settleDig
  (repeat' split) <;> simp [h]

@[simp] theorem State.touches_digStart (x : Ctx) (r : DigRun) (cyc : Nat) (s : State)
    (h : [.gctl, .queues, .dig, .ks, .arb, .mss, .posted] ⊆ L) :
    t.touches L (State.digStart x r cyc s).s ↔ t.touches L s := by
  simp only [List.cons_subset, List.nil_subset, and_true] at h
  unfold State.digStart
  dsimp only
  (repeat' split) <;> simp [h]

@[simp] theorem State.touches_cutDig (r : DigRun) (st : BitVec 16) (always : Bool) (s : State)
    (h : [.gctl, .queues, .dig, .arb, .mss, .posted] ⊆ L) :
    t.touches L (State.cutDig r st always s) ↔ t.touches L s := by
  simp only [List.cons_subset, List.nil_subset, and_true] at h
  simp [State.cutDig, h]

@[simp] theorem State.touches_digReadFailed (x : Ctx) (n : Nat) (s : State) (h : [.dig] ⊆ L) :
    t.touches L (digReadFailed x n s).s ↔ t.touches L s := by
  simp only [List.cons_subset, List.nil_subset, and_true] at h
  simp [digReadFailed, h]

@[simp] theorem State.touches_hashInitBody (x : Ctx) (s : State)
    (h : [.gctl, .queues, .dig, .ks, .arb, .kp, .mss, .posted] ⊆ L) :
    t.touches L (hashInitBody x s).s ↔ t.touches L s := by
  unfold hashInitBody
  dsimp only
  (repeat' split) <;> simp_all [State.pair_eq_iff]

@[simp] theorem State.touches_digLand (n : Nat) (s : State) (h : [.dig] ⊆ L) :
    t.touches L (State.digLand n s) ↔ t.touches L s := by
  simp only [List.cons_subset, List.nil_subset, and_true] at h
  simp [State.digLand, h]

@[simp] theorem State.touches_hashDataBody (x : Ctx) (s : State) (h : [.gctl, .queues, .dig, .ks, .arb, .mss, .posted] ⊆ L) :
    t.touches L (hashDataBody x s).s ↔ t.touches L s := by
  simp only [List.cons_subset, List.nil_subset, and_true] at h
  unfold hashDataBody
  dsimp only
  (repeat' split) <;> simp [h]

@[simp] theorem State.touches_digFinishing (n : Nat) (s : State) (h : [.dig] ⊆ L) :
    t.touches L (State.digFinishing n s) ↔ t.touches L s := by
  simp only [List.cons_subset, List.nil_subset, and_true] at h
  simp [State.digFinishing, h]

@[simp] theorem State.touches_hashFinalBody (x : Ctx) (s : State) (h : [.gctl, .queues, .dig, .ks, .arb, .mss, .posted] ⊆ L) :
    t.touches L (hashFinalBody x s).s ↔ t.touches L s := by
  simp only [List.cons_subset, List.nil_subset, and_true] at h
  unfold hashFinalBody
  dsimp only
  (repeat' split) <;> simp [h]

@[simp] theorem State.touches_hashCompareBody (x : Ctx) (s : State) (h : [.gctl, .queues, .dig, .ks, .arb, .mss, .posted] ⊆ L) :
    t.touches L (hashCompareBody x s).s ↔ t.touches L s := by
  simp only [List.cons_subset, List.nil_subset, and_true] at h
  unfold hashCompareBody
  dsimp only
  (repeat' split) <;> simp [h]

@[simp] theorem State.touches_hashToKeyBody (x : Ctx) (s : State) (h : [.gctl, .queues, .dig, .ks, .arb, .mss, .posted] ⊆ L) :
    t.touches L (hashToKeyBody x s).s ↔ t.touches L s := by
  simp only [List.cons_subset, List.nil_subset, and_true] at h
  unfold hashToKeyBody
  dsimp only
  (repeat' split) <;> simp [h]

@[simp] theorem State.touches_hashCloseBody (x : Ctx) (s : State) (h : [.gctl, .queues, .dig, .ks, .arb, .mss, .posted] ⊆ L) :
    t.touches L (hashCloseBody x s).s ↔ t.touches L s := by
  simp only [List.cons_subset, List.nil_subset, and_true] at h
  unfold hashCloseBody
  dsimp only
  (repeat' split) <;> simp [h]

@[simp] theorem State.touches_absorbBlock (r : DigRun) (s : State) (h : [.gctl, .queues, .dig, .ks, .arb, .mss, .posted] ⊆ L) :
    t.touches L (State.absorbBlock r s) ↔ t.touches L s := by
  simp only [List.cons_subset, List.nil_subset, and_true] at h
  simp [State.absorbBlock, h]

@[simp] theorem State.touches_absorbNext (s : State) (h : [.gctl, .queues, .dig, .ks, .arb, .mss, .posted] ⊆ L) :
    t.touches L (State.absorbNext s) ↔ t.touches L s := by
  simp only [List.cons_subset, List.nil_subset, and_true] at h
  unfold State.absorbNext
  dsimp only
  (repeat' split) <;> simp [h]

@[simp] theorem State.touches_digestBlockEvent (n : Nat) (s : State)
    (h : [.gctl, .queues, .dig, .ks, .arb, .mss, .posted] ⊆ L) :
    t.touches L (digestBlockEvent n s) ↔ t.touches L s := by
  simp only [List.cons_subset, List.nil_subset, and_true] at h
  unfold digestBlockEvent
  dsimp only
  (repeat' split) <;> simp [h]

@[simp] theorem State.touches_kekParent (n : Nat) (bit : Nat) (dom : Dom) (s : State) (h : [.ks, .kp] ⊆ L) :
    t.touches L (State.kekParent n bit dom s).1 ↔ t.touches L s := by
  unfold State.kekParent
  (repeat' split) <;> simp_all [State.pair_eq_iff]

@[simp] theorem State.touches_parentOf (p : Packet) (bit : Nat) (dom : Dom) (s : State) (h : [.ks, .kp] ⊆ L) :
    t.touches L (State.parentOf p bit dom s).1 ↔ t.touches L s := by
  simp only [List.cons_subset, List.nil_subset, and_true] at h
  unfold State.parentOf
  (repeat' split) <;> simp [h]

@[simp] theorem State.touches_installDmk (d : Dom) (v : BitVec 256) (root : BitVec 256) (s : State)
    (h : [.ks, .arb, .kp, .memories] ⊆ L) :
    t.touches L (State.installDmk d v root s).1 ↔ t.touches L s := by
  simp only [List.cons_subset, List.nil_subset, and_true] at h
  simp [State.installDmk, h]

@[simp] theorem State.touches_installKey (n : Nat) (st : SlotSt) (k : NewKey) (s : State) (h : [.ks] ⊆ L) :
    t.touches L (State.installKey n st k s) ↔ t.touches L s := by
  simp only [List.cons_subset, List.nil_subset, and_true] at h
  simp [State.installKey, h]

@[simp] theorem State.touches_derived (num : Nat) (cv : Curve) (material : Bytes) (id : Bytes) (s : State)
    (h : [.spn, .dig, .ran] ⊆ L) :
    t.touches L (State.derived num cv material id s).1 ↔ t.touches L s := by
  simp only [List.cons_subset, List.nil_subset, and_true] at h
  unfold State.derived
  dsimp only
  (repeat' split) <;> simp [h]

@[simp] theorem State.touches_testSign (num : Nat) (cv : Curve) (material : Bytes) (x : Nat) (y : Nat) (glitch : BitVec 512)
    (s : State)
    (h : [.gctl, .queues, .spn, .ks, .arb, .kp, .mss, .posted, .ran] ⊆ L) :
    t.touches L (State.testSign num cv material x y glitch s).1 ↔ t.touches L s := by
  simp only [List.cons_subset, List.nil_subset, and_true] at h
  unfold State.testSign
  dsimp only
  (repeat' split) <;> simp [h]

@[simp] theorem State.touches_kcvFailed (s : State) (h : [.ks] ⊆ L) :
    t.touches L (State.kcvFailed s) ↔ t.touches L s := by
  simp only [List.cons_subset, List.nil_subset, and_true] at h
  simp [State.kcvFailed, h]

@[simp] theorem State.touches_blobParent (p : Packet) (h' : BlobHead) (dom : Dom) (s : State) (h : [.ks, .kp] ⊆ L) :
    t.touches L (State.blobParent p h' dom s).1 ↔ t.touches L s := by
  unfold State.blobParent
  (repeat' split) <;> simp_all [State.pair_eq_iff]

@[simp] theorem State.touches_finishKey (k : NewKey) (s : State) (h : [.spn, .dig, .ran] ⊆ L) :
    t.touches L (State.finishKey k s).1 ↔ t.touches L s := by
  unfold State.finishKey
  (repeat' split) <;> simp_all [State.pair_eq_iff]

@[simp] theorem State.touches_loadDmkBlob (x : Ctx) (h' : BlobHead) (wk : BitVec 128) (bs : Bytes) (s : State)
    (h : [.sl, .ks, .arb, .kp, .memories] ⊆ L) :
    t.touches L (loadDmkBlob x h' wk bs s).s ↔ t.touches L s := by
  simp only [List.cons_subset, List.nil_subset, and_true] at h
  unfold loadDmkBlob
  dsimp only
  (repeat' split) <;> simp [h]

@[simp] theorem State.touches_keyLoadBody (x : Ctx) (s : State) (h : [.spn, .sl, .dig, .ks, .arb, .kp, .memories, .ran] ⊆ L) :
    t.touches L (keyLoadBody x s).s ↔ t.touches L s := by
  unfold keyLoadBody withData
  dsimp only
  (repeat' split) <;> simp_all [State.pair_eq_iff]

@[simp] theorem State.touches_drawKey (typ : Byte) (cv : Curve) (s : State) (h : [.ks] ⊆ L) :
    t.touches L (State.drawKey typ cv s).1 ↔ t.touches L s := by
  simp only [List.cons_subset, List.nil_subset, and_true] at h
  unfold State.drawKey
  (repeat' split) <;> simp [h]

@[simp] theorem State.touches_generateDmk (x : Ctx) (s : State) (h : [.ks, .arb, .kp, .memories] ⊆ L) :
    t.touches L (generateDmk x s).s ↔ t.touches L s := by
  simp only [List.cons_subset, List.nil_subset, and_true] at h
  unfold generateDmk
  dsimp only
  (repeat' split) <;> simp [h]

@[simp] theorem State.touches_generateWith (x : Ctx) (id : Bytes) (q : Parent) (cv : Curve) (slot : Option Nat)
    (alloc : Option (Nat × GenEntry)) (lin : BitVec 16 × BitVec 32) (m : Bytes) (s : State)
    (h : [.gctl, .queues, .spn, .dig, .ks, .arb, .kp, .mss, .posted, .ran] ⊆ L) :
    t.touches L (generateWith x id q cv slot alloc lin m s).s ↔ t.touches L s := by
  unfold generateWith
  dsimp only
  (repeat' split) <;> simp_all [State.pair_eq_iff]

@[simp] theorem State.touches_keyGenerateBody (x : Ctx) (s : State)
    (h : [.gctl, .queues, .spn, .dig, .ks, .arb, .kp, .mss, .posted, .memories, .ran] ⊆ L) :
    t.touches L (keyGenerateBody x s).s ↔ t.touches L s := by
  unfold keyGenerateBody withData
  dsimp only
  (repeat' split) <;> simp_all [State.pair_eq_iff]

@[simp] theorem State.touches_keyWrapRewrapBody (x : Ctx) (s : State) (h : [.ks, .kp] ⊆ L) :
    t.touches L (keyWrapRewrapBody x s).s ↔ t.touches L s := by
  unfold keyWrapRewrapBody
  dsimp only
  (repeat' split) <;> simp_all [State.pair_eq_iff]

@[simp] theorem State.touches_keyWrapClearBody (x : Ctx) (s : State) (h : [.ks, .kp] ⊆ L) :
    t.touches L (keyWrapClearBody x s).s ↔ t.touches L s := by
  unfold keyWrapClearBody withData
  dsimp only
  (repeat' split) <;> simp_all [State.pair_eq_iff]

@[simp] theorem State.touches_keyWrapDmkBody (x : Ctx) (s : State) (h : [.ks, .kp] ⊆ L) :
    t.touches L (keyWrapDmkBody x s).s ↔ t.touches L s := by
  unfold keyWrapDmkBody
  dsimp only
  (repeat' split) <;> simp_all [State.pair_eq_iff]

@[simp] theorem State.touches_replaceWith (x : Ctx) (old : Nat) (shadow : Nat) (k : NewKey) (e : Nat) (s : State)
    (h : [.gctl, .queues, .spn, .dig, .ks, .arb, .kp, .mss, .posted, .ran] ⊆ L) :
    t.touches L (replaceWith x old shadow k e s).s ↔ t.touches L s := by
  unfold replaceWith
  dsimp only
  (repeat' split) <;> simp_all [State.pair_eq_iff]

@[simp] theorem State.touches_keyReplaceBody (x : Ctx) (s : State)
    (h : [.gctl, .queues, .spn, .sl, .dig, .ks, .arb, .kp, .mss, .posted, .ran] ⊆ L) :
    t.touches L (keyReplaceBody x s).s ↔ t.touches L s := by
  unfold keyReplaceBody withData
  dsimp only
  (repeat' split) <;> simp_all [State.pair_eq_iff]

@[simp] theorem State.touches_advanceGen (x : Ctx) (e : Nat) (g : GenEntry) (s : State) (h : [.arb, .kp] ⊆ L) :
    t.touches L (advanceGen x e g s).s ↔ t.touches L s := by
  simp only [List.cons_subset, List.nil_subset, and_true] at h
  simp [advanceGen, h]

@[simp] theorem State.touches_keyInvalidateDmkBody (x : Ctx) (s : State) (h : [.arb, .kp] ⊆ L) :
    t.touches L (keyInvalidateDmkBody x s).s ↔ t.touches L s := by
  simp only [List.cons_subset, List.nil_subset, and_true] at h
  unfold keyInvalidateDmkBody
  dsimp only
  (repeat' split) <;> simp [h]

@[simp] theorem State.touches_keyInvalidateEntryBody (x : Ctx) (s : State) (h : [.arb, .kp] ⊆ L) :
    t.touches L (keyInvalidateEntryBody x s).s ↔ t.touches L s := by
  simp only [List.cons_subset, List.nil_subset, and_true] at h
  unfold keyInvalidateEntryBody
  (repeat' split) <;> simp [h]

@[simp] theorem State.touches_keyInvalidateFreeBody (x : Ctx) (s : State) (h : [.arb, .kp] ⊆ L) :
    t.touches L (keyInvalidateFreeBody x s).s ↔ t.touches L s := by
  simp only [List.cons_subset, List.nil_subset, and_true] at h
  unfold keyInvalidateFreeBody
  (repeat' split) <;> simp [h]

@[simp] theorem State.touches_keyEvictBody (x : Ctx) (s : State) (h : [.ks] ⊆ L) :
    t.touches L (keyEvictBody x s).s ↔ t.touches L s := by
  simp only [List.cons_subset, List.nil_subset, and_true] at h
  unfold keyEvictBody
  dsimp only
  (repeat' split) <;> simp [h]

@[simp] theorem State.touches_keyQuerySlotBody (x : Ctx) (s : State) (h : [.ks, .kp] ⊆ L) :
    t.touches L (keyQuerySlotBody x s).s ↔ t.touches L s := by
  unfold keyQuerySlotBody
  dsimp only
  (repeat' split) <;> simp_all [State.pair_eq_iff]

@[simp] theorem State.touches_keyQueryEntryBody (x : Ctx) (s : State) :
    t.touches L (keyQueryEntryBody x s).s ↔ t.touches L s := by
  simp [keyQueryEntryBody]

@[simp] theorem State.touches_keyQuerySummaryBody (a0 : Ctx) (s : State) :
    t.touches L (keyQuerySummaryBody a0 s).s ↔ t.touches L s := by
  simp [keyQuerySummaryBody]

@[simp] theorem State.touches_sweepSlot (n : Nat) (s : State) (h : [.ks, .kp] ⊆ L) :
    t.touches L (State.sweepSlot n s) ↔ t.touches L s := by
  simp only [List.cons_subset, List.nil_subset, and_true] at h
  unfold State.sweepSlot
  (repeat' split) <;> simp [h]

@[simp] theorem State.touches_reloadDmk (d : Nat) (s : State) (h : [.ks, .kp] ⊆ L) :
    t.touches L (State.reloadDmk d s) ↔ t.touches L s := by
  simp only [List.cons_subset, List.nil_subset, and_true] at h
  unfold State.reloadDmk
  dsimp only
  (repeat' split) <;> simp [h]

@[simp] theorem State.touches_sweepDmk (n : Nat) (s : State) (h : [.ks, .kp] ⊆ L) :
    t.touches L (State.sweepDmk n s) ↔ t.touches L s := by
  simp only [List.cons_subset, List.nil_subset, and_true] at h
  unfold State.sweepDmk
  (repeat' split) <;> simp [h]

@[simp] theorem State.touches_sweepEvent (s : State) (h : [.ks, .kp] ⊆ L) :
    t.touches L (sweepEvent s) ↔ t.touches L s := by
  simp only [List.cons_subset, List.nil_subset, and_true] at h
  simp [sweepEvent, h]

@[simp] theorem State.touches_endEntropyPackets (s : State) (h : [.gctl, .queues, .mss, .posted] ⊆ L) :
    t.touches L s.endEntropyPackets ↔ t.touches L s := by
  simp only [List.cons_subset, List.nil_subset, and_true] at h
  unfold State.endEntropyPackets
  rw [State.touches_foldl]
  intro s p
  simp [h]

@[simp] theorem State.touches_entropyOut (s : State)
    (h : [.gctl, .queues, .led, .ru, .spn, .ks, .arb, .kp, .mss, .posted] ⊆ L) :
    t.touches L (State.entropyOut s) ↔ t.touches L s := by
  simp only [List.cons_subset, List.nil_subset, and_true] at h
  simp [State.entropyOut, h]

@[simp] theorem State.touches_healthFailEvent (source : BitVec 1) (test : Byte) (s : State)
    (h : [.gctl, .queues, .led, .ru, .spn, .ks, .arb, .kp, .mss, .posted] ⊆ L) :
    t.touches L (healthFailEvent source test s) ↔ t.touches L s := by
  simp only [List.cons_subset, List.nil_subset, and_true] at h
  simp [healthFailEvent, h]

@[simp] theorem State.touches_reseedEvent (s : State) (h : [.ks] ⊆ L) :
    t.touches L (reseedEvent s) ↔ t.touches L s := by
  simp only [List.cons_subset, List.nil_subset, and_true] at h
  simp [reseedEvent, h]

@[simp] theorem State.touches_restartTestsEvent (pass : Bool) (s : State)
    (h : [.gctl, .queues, .ks, .arb, .kp, .mss, .posted] ⊆ L) :
    t.touches L (restartTestsEvent pass s) ↔ t.touches L s := by
  simp only [List.cons_subset, List.nil_subset, and_true] at h
  simp [restartTestsEvent, h]

@[simp] theorem State.touches_sendGroup (w : Port) (flits : Bytes) (s : State) (h : [.skn, .posted] ⊆ L) :
    t.touches L (State.sendGroup w flits s) ↔ t.touches L s := by
  simp only [List.cons_subset, List.nil_subset, and_true] at h
  unfold State.sendGroup
  dsimp only
  (repeat' split) <;> simp [h]

@[simp] theorem State.touches_formGroups (w : Port) (n : Nat) (bs : Bytes) (s : State) (h : [.skn, .posted] ⊆ L) :
    t.touches L (State.formGroups w n bs s) ↔ t.touches L s := by
  simp only [List.cons_subset, List.nil_subset, and_true] at h
  induction n generalizing bs s with
  | zero => simp [State.formGroups, h]
  | succ n ih =>
    unfold State.formGroups
    split <;> simp [h, ih]

@[simp] theorem State.touches_fillGroup (w : Port) (s : State) (h : [.skn, .posted] ⊆ L) :
    t.touches L (State.fillGroup w s) ↔ t.touches L s := by
  simp only [List.cons_subset, List.nil_subset, and_true] at h
  simp [State.fillGroup, h]

@[simp] theorem State.touches_transmit (w : Port) (p : SkPacket) (s : State) (h : [.skn, .posted] ⊆ L) :
    t.touches L (State.transmit w p s) ↔ t.touches L s := by
  simp only [List.cons_subset, List.nil_subset, and_true] at h
  simp [State.transmit, h]

@[simp] theorem State.touches_freeFlits (from_ : Option Port) (p : SkPacket) (s : State) (h : [.skn, .posted] ⊆ L) :
    t.touches L (State.freeFlits from_ p s) ↔ t.touches L s := by
  simp only [List.cons_subset, List.nil_subset, and_true] at h
  unfold State.freeFlits
  (repeat' split) <;> simp [h]

@[simp] theorem State.touches_drainTurns (w : Port) (n : Nat) (s : State) (h : [.skn, .posted] ⊆ L) :
    t.touches L (State.drainTurns w n s) ↔ t.touches L s := by
  simp only [List.cons_subset, List.nil_subset, and_true] at h
  induction n generalizing s with
  | zero => simp [State.drainTurns]
  | succ n ih =>
    unfold State.drainTurns
    dsimp only
    split <;> simp [h, ih]

@[simp] theorem State.touches_drainEgress (w : Port) (s : State) (h : [.skn, .posted] ⊆ L) :
    t.touches L (State.drainEgress w s) ↔ t.touches L s := by
  simp only [List.cons_subset, List.nil_subset, and_true] at h
  simp [State.drainEgress, h]

@[simp] theorem State.touches_sendOn (w : Port) (p : SkPacket) (s : State) (h : [.skn, .posted] ⊆ L) :
    t.touches L (State.sendOn w p s) ↔ t.touches L s := by
  simp only [List.cons_subset, List.nil_subset, and_true] at h
  simp [State.sendOn, h]

@[simp] theorem State.touches_reroute (w : Port) (s : State) (h : [.skn, .posted] ⊆ L) :
    t.touches L (State.reroute w s) ↔ t.touches L s := by
  simp only [List.cons_subset, List.nil_subset, and_true] at h
  simp [State.reroute, h]

@[simp] theorem State.touches_portOut (w : Port) (st : PortSt) (s : State) (h : [.skn, .posted] ⊆ L) :
    t.touches L (State.portOut w st s) ↔ t.touches L s := by
  simp only [List.cons_subset, List.nil_subset, and_true] at h
  simp [State.portOut, h]

@[simp] theorem State.touches_sendBy (ws : List Port) (kind : SkKind) (dest : Nat) (tag : BitVec 32) (payload : Bytes)
    (s : State)
    (h : [.skn, .posted] ⊆ L) :
    t.touches L (State.sendBy ws kind dest tag payload s) ↔ t.touches L s := by
  simp only [List.cons_subset, List.nil_subset, and_true] at h
  simp [State.sendBy, h]

@[simp] theorem State.touches_sendTo (kind : SkKind) (dest : BitVec 6) (tag : BitVec 32) (payload : Bytes) (s : State)
    (h : [.skn, .posted] ⊆ L) :
    t.touches L (State.sendTo kind dest tag payload s) ↔ t.touches L s := by
  simp only [List.cons_subset, List.nil_subset, and_true] at h
  simp [State.sendTo, h]

@[simp] theorem State.touches_route (x : Ctx) (owner : BitVec 6) (data : Bytes) (cyc : Nat) (s : State)
    (h : [.skn, .posted] ⊆ L) :
    t.touches L (State.route x owner data cyc s).s ↔ t.touches L s := by
  simp only [List.cons_subset, List.nil_subset, and_true] at h
  unfold State.route
  (repeat' split) <;> simp [h]

@[simp] theorem State.touches_loadImage (ck : BitVec 128) (bs : Bytes) (s : State) (h : [.led, .ru, .skn] ⊆ L) :
    t.touches L (State.loadImage ck bs s) ↔ t.touches L s := by
  simp only [List.cons_subset, List.nil_subset, and_true] at h
  simp [State.loadImage, h]

@[simp] theorem State.touches_emptyRegister (s : State) (h : [.led, .ru, .skn] ⊆ L) :
    t.touches L (State.emptyRegister s) ↔ t.touches L s := by
  simp only [List.cons_subset, List.nil_subset, and_true] at h
  simp [State.emptyRegister, h]

@[simp] theorem State.touches_markRebuild (n : PoolId) (s : State) (h : [.gctl, .led, .posted] ⊆ L) :
    t.touches L (State.markRebuild n s) ↔ t.touches L s := by
  simp only [List.cons_subset, List.nil_subset, and_true] at h
  unfold State.markRebuild
  (repeat' split) <;> simp [h]

@[simp] theorem State.touches_noteImport (serial : BitVec 64) (kcv : BitVec 32) (time : BitVec 32) (jseq : Nat)
    (id : BitVec 64) (s : State)
    (h : [.skn] ⊆ L) :
    t.touches L (State.noteImport serial kcv time jseq id s) ↔ t.touches L s := by
  simp only [List.cons_subset, List.nil_subset, and_true] at h
  unfold State.noteImport
  (repeat' split) <;> simp [h]

@[simp] theorem State.touches_recordTransfer (r : JRec) (seq : Nat) (time : BitVec 32) (s : State) (h : [.skn] ⊆ L) :
    t.touches L (State.recordTransfer r seq time s) ↔ t.touches L s := by
  simp only [List.cons_subset, List.nil_subset, and_true] at h
  unfold State.recordTransfer
  dsimp only
  (repeat' split) <;> simp [h]

@[simp] theorem State.touches_applyRecord (r : JRec) (seq : Nat) (time : BitVec 32) (s : State)
    (h : [.gctl, .led, .ru, .skn, .posted] ⊆ L) :
    t.touches L (State.applyRecord r seq time s).1 ↔ t.touches L s := by
  unfold State.applyRecord
  (repeat' split) <;> simp_all [State.pair_eq_iff]

@[simp] theorem State.touches_feedRecord (bs : Bytes) (s : State) (done : Nat) (left : Nat)
    (h : [.gctl, .led, .ru, .skn, .posted] ⊆ L) :
    t.touches L (State.feedRecord bs s done left).1 ↔ t.touches L s := by
  unfold State.feedRecord
  dsimp only
  (repeat' split) <;> simp_all [State.pair_eq_iff]

@[simp] theorem State.touches_feed (l : List Bytes) (s : State) (a b : Nat)
    (h : [.gctl, .led, .ru, .skn, .posted] ⊆ L) : t.touches L (State.feed l s a b).1 ↔ t.touches L s := by
  simp only [List.cons_subset, List.nil_subset, and_true] at h
  induction l generalizing s a b with
  | nil => simp [State.feed]
  | cons bs l ih =>
    unfold State.feed
    simp [h, ih]

@[simp] theorem State.touches_doubtTransfers (s : State) (h : [.skn] ⊆ L) :
    t.touches L (State.doubtTransfers s) ↔ t.touches L s := by
  simp only [List.cons_subset, List.nil_subset, and_true] at h
  simp [State.doubtTransfers, h]

@[simp] theorem State.touches_finishRecovery (s : State) (h : [.gctl, .queues, .led, .ru, .skn, .mss, .posted] ⊆ L) :
    t.touches L (State.finishRecovery s) ↔ t.touches L s := by
  simp only [List.cons_subset, List.nil_subset, and_true] at h
  simp [State.finishRecovery, h]

@[simp] theorem State.touches_markAll (s : State) (h : [.gctl, .led, .posted] ⊆ L) :
    t.touches L (State.markAll s) ↔ t.touches L s := by
  simp only [List.cons_subset, List.nil_subset, and_true] at h
  simp [State.markAll, h]

@[simp] theorem State.touches_refusedWith (s : State) (st : BitVec 16) (cyc : Nat) (inl : BitVec 64) :
    t.touches L (refusedWith s st cyc inl).s ↔ t.touches L s := by
  simp [refusedWith]

@[simp] theorem State.touches_admitEntry (mode : Byte) (path : AdmitPath) (fp : BitVec 128) (x : Ctx) (s : State)
    (h : [.gctl, .led, .ru, .posted] ⊆ L) :
    t.touches L (admitEntry mode path fp x s).s ↔ t.touches L s := by
  unfold admitEntry
  dsimp only
  (repeat' split) <;> simp_all [State.pair_eq_iff]

@[simp] theorem State.touches_ticketAuth (p : Packet) (mode : Byte) (signed : Bytes) (tail : Bytes) (s : State)
    (h : [.gctl, .queues, .led, .ru, .spn, .sl, .dig, .ks, .arb, .kp, .mss, .posted, .ran] ⊆ L) :
    t.touches L (State.ticketAuth p mode signed tail s).1 ↔ t.touches L s := by
  unfold State.ticketAuth
  dsimp only
  (repeat' split) <;> simp_all [State.pair_eq_iff]

@[simp] theorem State.touches_Ctx_admitLateRefused (x : Ctx) (s : State) (st : BitVec 16) :
    t.touches L (Ctx.admitLateRefused x s st).s ↔ t.touches L s := by
  unfold Ctx.admitLateRefused
  (repeat' split) <;> simp

@[simp] theorem State.touches_admitTicketHere (bs : Bytes) (x : Ctx) (s : State)
    (h : [.gctl, .queues, .led, .ru, .spn, .sl, .dig, .ks, .arb, .kp, .mss, .posted, .ran] ⊆ L) :
    t.touches L (admitTicketHere bs x s).s ↔ t.touches L s := by
  unfold admitTicketHere
  dsimp only
  (repeat' split) <;> simp_all [State.pair_eq_iff]

@[simp] theorem State.touches_admitExternalHere (bs : Bytes) (fp : BitVec 128) (x : Ctx) (s : State)
    (h : [.gctl, .led, .ru, .posted] ⊆ L) :
    t.touches L (admitExternalHere bs fp x s).s ↔ t.touches L s := by
  simp only [List.cons_subset, List.nil_subset, and_true] at h
  unfold admitExternalHere
  (repeat' split) <;> simp [h]

@[simp] theorem State.touches_admitBody (here : Bool) (x : Ctx) (s : State)
    (h : [.gctl, .queues, .led, .ru, .spn, .sl, .dig, .ks, .arb, .skn, .kp, .mss, .posted, .ran] ⊆ L) :
    t.touches L (admitBody here x s).s ↔ t.touches L s := by
  unfold admitBody withData State.onOwner withCredential
  dsimp only
  (repeat' split) <;> simp_all [State.pair_eq_iff]

@[simp] theorem State.touches_lookupHere (fp : BitVec 128) (k : Nat) (x : Ctx) (s : State) (h : [.ru] ⊆ L) :
    t.touches L (lookupHere fp k x s).s ↔ t.touches L s := by
  unfold lookupHere
  (repeat' split) <;> simp_all [State.pair_eq_iff]

@[simp] theorem State.touches_lookupBody (here : Bool) (x : Ctx) (s : State) (h : [.ru, .ks, .skn, .kp, .posted] ⊆ L) :
    t.touches L (lookupBody here x s).s ↔ t.touches L s := by
  unfold lookupBody withData State.onOwner withCredential
  dsimp only
  (repeat' split) <;> simp_all [State.pair_eq_iff]

@[simp] theorem State.touches_enrolHere (fp : BitVec 128) (k : Nat) (x : Ctx) (s : State)
    (h : [.gctl, .led, .ru, .posted] ⊆ L) :
    t.touches L (enrolHere fp k x s).s ↔ t.touches L s := by
  unfold enrolHere
  dsimp only
  (repeat' split) <;> simp_all [State.pair_eq_iff]

@[simp] theorem State.touches_enrolExternalBody (here : Bool) (x : Ctx) (s : State)
    (h : [.gctl, .led, .ru, .ks, .skn, .kp, .posted] ⊆ L) :
    t.touches L (enrolExternalBody here x s).s ↔ t.touches L s := by
  unfold enrolExternalBody withData State.onOwner withCredential
  dsimp only
  (repeat' split) <;> simp_all [State.pair_eq_iff]

@[simp] theorem State.touches_purgeHere (fp : BitVec 128) (k : Nat) (x : Ctx) (s : State)
    (h : [.gctl, .led, .ru, .posted] ⊆ L) :
    t.touches L (purgeHere fp k x s).s ↔ t.touches L s := by
  unfold purgeHere
  dsimp only
  (repeat' split) <;> simp_all [State.pair_eq_iff]

@[simp] theorem State.touches_purgeEntryBody (here : Bool) (x : Ctx) (s : State)
    (h : [.gctl, .led, .ru, .ks, .skn, .kp, .posted] ⊆ L) :
    t.touches L (purgeEntryBody here x s).s ↔ t.touches L s := by
  unfold purgeEntryBody withData State.onOwner withCredential
  dsimp only
  (repeat' split) <;> simp_all [State.pair_eq_iff]

@[simp] theorem State.touches_sweepNext (s : State) (h : [.gctl, .led, .ru, .posted] ⊆ L) :
    t.touches L (State.sweepNext s) ↔ t.touches L s := by
  simp only [List.cons_subset, List.nil_subset, and_true] at h
  unfold State.sweepNext
  dsimp only
  (repeat' split) <;> simp [h]

@[simp] theorem State.touches_purgePoolBody (x : Ctx) (s : State) (h : [.gctl, .led, .ru, .posted] ⊆ L) :
    t.touches L (purgePoolBody x s).s ↔ t.touches L s := by
  simp only [List.cons_subset, List.nil_subset, and_true] at h
  unfold purgePoolBody
  dsimp only
  (repeat' split) <;> simp [h]

@[simp] theorem State.touches_journalAckBody (x : Ctx) (s : State) (h : [.ru] ⊆ L) :
    t.touches L (journalAckBody x s).s ↔ t.touches L s := by
  simp only [List.cons_subset, List.nil_subset, and_true] at h
  unfold journalAckBody
  dsimp only
  (repeat' split) <;> simp [h]

@[simp] theorem State.touches_cut (x : Ctx) (s : State) (h : [.gctl, .led, .ru, .posted] ⊆ L) :
    t.touches L (State.cut x s) ↔ t.touches L s := by
  simp only [List.cons_subset, List.nil_subset, and_true] at h
  simp [State.cut, h]

@[simp] theorem State.touches_checkpointBody (x : Ctx) (s : State) (h : [.gctl, .led, .ru, .ks, .kp, .posted] ⊆ L) :
    t.touches L (checkpointBody x s).s ↔ t.touches L s := by
  unfold checkpointBody
  (repeat' split) <;> simp_all [State.pair_eq_iff]

@[simp] theorem State.touches_beginRebuild (expect : Nat) (head : Digest) (leaves : Nat) (s : State) (h : [.ru] ⊆ L) :
    t.touches L (State.beginRebuild expect head leaves s) ↔ t.touches L s := by
  simp only [List.cons_subset, List.nil_subset, and_true] at h
  simp [State.beginRebuild, h]

@[simp] theorem State.touches_beginImage (x : Ctx) (bs : Bytes) (s : State)
    (h : [.led, .ru, .sl, .dig, .ks, .skn, .kp] ⊆ L) : t.touches L (beginImage x bs s).s ↔ t.touches L s := by
  simp only [List.cons_subset, List.nil_subset, and_true] at h
  have hfail : ∀ (u : State) rb st n,
      t.touches L (Out.stop { u.emptyRegister with ru := { u.emptyRegister.ru with rb } } st n).s ↔
        t.touches L u := by
    simp [h]
  unfold beginImage
  split
  · simp_all [State.pair_eq_iff]
  next u jk e =>
    have hu : t.touches L u ↔ t.touches L s := by simp_all [State.pair_eq_iff]
    split
    · exact (hfail _ _ _ _).trans hu
    · dsimp only
      split
      · exact (hfail _ _ _ _).trans (by simp [h, hu])
      · simp [h, hu]

@[simp] theorem State.touches_rebuildBeginBody (x : Ctx) (s : State)
    (h : [.gctl, .led, .ru, .sl, .dig, .ks, .skn, .kp, .posted] ⊆ L) :
    t.touches L (rebuildBeginBody x s).s ↔ t.touches L s := by
  simp only [List.cons_subset, List.nil_subset, and_true] at h
  unfold rebuildBeginBody withData
  (repeat' split) <;> simp [h]

@[simp] theorem State.touches_rebuildFeedBody (x : Ctx) (s : State) (h : [.gctl, .led, .ru, .skn, .posted] ⊆ L) :
    t.touches L (rebuildFeedBody x s).s ↔ t.touches L s := by
  simp only [List.cons_subset, List.nil_subset, and_true] at h
  unfold rebuildFeedBody withData
  dsimp only
  (repeat' split) <;> simp [h]

@[simp] theorem State.touches_rebuildEndBody (x : Ctx) (s : State) (h : [.gctl, .queues, .led, .ru, .skn, .mss, .posted] ⊆ L) :
    t.touches L (rebuildEndBody x s).s ↔ t.touches L s := by
  simp only [List.cons_subset, List.nil_subset, and_true] at h
  unfold rebuildEndBody
  (repeat' split) <;> simp [h]

@[simp] theorem State.touches_phaseOne (n : PoolId) (u : Nat) (serial : Serial) (hash : BitVec 64) (row : Nat)
    (t' : Transfer) (s : State)
    (h : [.gctl, .led, .ru, .skn, .posted] ⊆ L) :
    t.touches L (State.phaseOne n u serial hash row t' s).1 ↔ t.touches L s := by
  unfold State.phaseOne
  (repeat' split) <;> simp_all [State.pair_eq_iff]

@[simp] theorem State.touches_phaseTwo (confirm : Bool) (pledged : Bool) (row : Nat) (t' : Transfer) (serial : Serial)
    (hash : BitVec 64) (after : List After) (s : State)
    (h : [.gctl, .led, .ru, .skn, .posted] ⊆ L) :
    t.touches L (State.phaseTwo confirm pledged row t' serial hash after s).1 ↔ t.touches L s := by
  simp only [List.cons_subset, List.nil_subset, and_true] at h
  unfold State.phaseTwo
  dsimp only
  (repeat' split) <;> simp [h]

@[simp] theorem State.touches_transferOutBody (x : Ctx) (s : State) (h : [.gctl, .led, .ru, .skn, .posted] ⊆ L) :
    t.touches L (transferOutBody x s).s ↔ t.touches L s := by
  unfold transferOutBody
  dsimp only
  (repeat' split) <;> simp_all [State.pair_eq_iff]

@[simp] theorem State.touches_transferSend (h' : Held) (row : Nat) (s : State) (h : [.skn, .posted] ⊆ L) :
    t.touches L (State.transferSend h' row s) ↔ t.touches L s := by
  simp only [List.cons_subset, List.nil_subset, and_true] at h
  unfold State.transferSend
  (repeat' split) <;> simp [h]

@[simp] theorem State.touches_dropWait (id : BitVec 64) (s : State) (h : [.skn] ⊆ L) :
    t.touches L (State.dropWait id s) ↔ t.touches L s := by
  simp only [List.cons_subset, List.nil_subset, and_true] at h
  simp [State.dropWait, h]

@[simp] theorem State.touches_settleTransfer (w : XferWait) (confirm : Bool) (h' : Held) (s : State)
    (h : [.gctl, .queues, .led, .ru, .skn, .mss, .posted] ⊆ L) :
    t.touches L (State.settleTransfer w confirm h' s) ↔ t.touches L s := by
  unfold State.settleTransfer
  (repeat' split) <;> simp_all [State.pair_eq_iff]

@[simp] theorem State.touches_transferAnswerEvent (id : BitVec 64) (refused : Option (BitVec 16)) (s : State)
    (h : [.gctl, .queues, .led, .ru, .skn, .mss, .posted] ⊆ L) :
    t.touches L (transferAnswerEvent id refused s) ↔ t.touches L s := by
  simp only [List.cons_subset, List.nil_subset, and_true] at h
  unfold transferAnswerEvent
  (repeat' split) <;> simp [h]

@[simp] theorem State.touches_transferTimeoutEvent (id : BitVec 64) (s : State)
    (h : [.gctl, .queues, .ru, .skn, .mss, .posted] ⊆ L) :
    t.touches L (transferTimeoutEvent id s) ↔ t.touches L s := by
  simp only [List.cons_subset, List.nil_subset, and_true] at h
  unfold transferTimeoutEvent
  dsimp only
  (repeat' split) <;> simp [h]

@[simp] theorem State.touches_reconcileSkein (x : Ctx) (row : Nat) (t' : Transfer) (s : State)
    (h : [.gctl, .ru, .skn, .posted] ⊆ L) :
    t.touches L (reconcileSkein x row t' s).s ↔ t.touches L s := by
  simp only [List.cons_subset, List.nil_subset, and_true] at h
  unfold reconcileSkein
  (repeat' split) <;> simp [h]

@[simp] theorem State.touches_reconcileAnswerEvent (id : BitVec 64) (imported : Bool) (s : State)
    (h : [.gctl, .queues, .led, .ru, .skn, .mss, .posted] ⊆ L) :
    t.touches L (reconcileAnswerEvent id imported s) ↔ t.touches L s := by
  simp only [List.cons_subset, List.nil_subset, and_true] at h
  unfold reconcileAnswerEvent
  (repeat' split) <;> simp [h]

@[simp] theorem State.touches_transferReceiveEvent (src : BitVec 6) (id : BitVec 64) (dom : Dom) (n : PoolId)
    (u : BitVec 32) (s : State)
    (h : [.gctl, .led, .ru, .skn, .posted] ⊆ L) :
    t.touches L (transferReceiveEvent src id dom n u s) ↔ t.touches L s := by
  unfold transferReceiveEvent
  (repeat' split) <;> simp_all [State.pair_eq_iff]

@[simp] theorem State.touches_transferDoneEvent (id : BitVec 64) (s : State)
    (h : [.gctl, .queues, .led, .ru, .skn, .mss, .posted] ⊆ L) :
    t.touches L (transferDoneEvent id s) ↔ t.touches L s := by
  simp only [List.cons_subset, List.nil_subset, and_true] at h
  simp [transferDoneEvent, h]

@[simp] theorem State.touches_transferQueryEvent (src : BitVec 6) (id : BitVec 64) (s : State)
    (h : [.gctl, .queues, .led, .ru, .skn, .mss, .posted] ⊆ L) :
    t.touches L (transferQueryEvent src id s) ↔ t.touches L s := by
  simp only [List.cons_subset, List.nil_subset, and_true] at h
  simp [transferQueryEvent, h]

@[simp] theorem State.touches_routedSend (src : BitVec 6) (tag : BitVec 32) (h' : Held) (s : State) (h : [.skn, .posted] ⊆ L) :
    t.touches L (State.routedSend src tag h' s) ↔ t.touches L s := by
  simp only [List.cons_subset, List.nil_subset, and_true] at h
  simp [State.routedSend, h]

theorem State.touches_routedBody {p : Packet} {body : Ctx → State → Out} (e : routedBody p = some body) (x : Ctx) (s : State)
    (h : [.gctl, .queues, .led, .ru, .spn, .sl, .dig, .ks, .arb, .skn, .kp, .mss, .posted, .ran] ⊆ L) :
    t.touches L (body x s).s ↔ t.touches L s := by
  simp only [List.cons_subset, List.nil_subset, and_true] at h
  unfold routedBody at e
  split at e <;> cases e <;> simp [h]

@[simp] theorem State.touches_routedCommandEvent (src : BitVec 6) (tag : BitVec 32) (c : Cmd) (s : State)
    (h : [.gctl, .queues, .led, .ru, .spn, .sl, .dig, .ks, .arb, .skn, .kp, .mss, .posted, .ran] ⊆ L) :
    t.touches L (routedCommandEvent src tag c s) ↔ t.touches L s := by
  simp only [List.cons_subset, List.nil_subset, and_true] at h
  unfold routedCommandEvent
  dsimp only
  split
  next body i e hi =>
    have hb := fun x s => State.touches_routedBody (L := L) (t := t) e x s (by simp [h])
    (repeat' split) <;> simp [h, hb]
  next => rfl

@[simp] theorem State.touches_routedReplyEvent (tag : BitVec 32) (r : RouteReply) (s : State)
    (h : [.gctl, .queues, .skn, .mss, .posted] ⊆ L) :
    t.touches L (routedReplyEvent tag r s) ↔ t.touches L s := by
  simp only [List.cons_subset, List.nil_subset, and_true] at h
  unfold routedReplyEvent
  (repeat' split) <;> simp [h]

@[simp] theorem State.touches_routedTimeoutEvent (tag : BitVec 32) (s : State) (h : [.gctl, .queues, .skn, .mss, .posted] ⊆ L) :
    t.touches L (routedTimeoutEvent tag s) ↔ t.touches L s := by
  simp only [List.cons_subset, List.nil_subset, and_true] at h
  unfold routedTimeoutEvent
  (repeat' split) <;> simp [h]

@[simp] theorem State.touches_setCard (k : CardUnit) (s : State) (h : [.card] ⊆ L) :
    t.touches L (State.setCard k s) ↔ t.touches L s := by
  simp only [List.cons_subset, List.nil_subset, and_true] at h
  simp [State.setCard, h]

@[simp] theorem State.touches_infoReply (h' : Option Held) (s : State) (h : [.gctl, .queues, .mss, .posted] ⊆ L) :
    t.touches L (State.infoReply h' s) ↔ t.touches L s := by
  simp only [List.cons_subset, List.nil_subset, and_true] at h
  unfold State.infoReply
  (repeat' split) <;> simp [h]

@[simp] theorem State.touches_cmd1 (tries : Nat) (h' : Option Held) (ok : Bool) (s : State)
    (h : [.gctl, .queues, .mss, .card, .posted] ⊆ L) :
    t.touches L (State.cmd1 tries h' ok s).1 ↔ t.touches L s := by
  simp only [List.cons_subset, List.nil_subset, and_true] at h
  unfold State.cmd1
  (repeat' split) <;> simp [h]

@[simp] theorem State.touches_exportDoubt (row : Nat) (h' : Held) (s : State)
    (h : [.gctl, .queues, .ru, .skn, .mss, .posted] ⊆ L) :
    t.touches L (State.exportDoubt row h' s) ↔ t.touches L s := by
  simp only [List.cons_subset, List.nil_subset, and_true] at h
  unfold State.exportDoubt
  (repeat' split) <;> simp [h]

@[simp] theorem State.touches_cardPhaseTwo (confirm : Bool) (row : Nat) (h' : Held) (s : State)
    (h : [.gctl, .queues, .led, .ru, .skn, .mss, .posted] ⊆ L) :
    t.touches L (State.cardPhaseTwo confirm row h' s) ↔ t.touches L s := by
  unfold State.cardPhaseTwo
  (repeat' split) <;> simp_all [State.pair_eq_iff]

@[simp] theorem State.touches_endCardOp (st : BitVec 16) (s : State)
    (h : [.gctl, .queues, .led, .ru, .skn, .mss, .card, .posted] ⊆ L) :
    t.touches L (State.endCardOp st s) ↔ t.touches L s := by
  simp only [List.cons_subset, List.nil_subset, and_true] at h
  unfold State.endCardOp
  dsimp only
  (repeat' split) <;> simp [h]

@[simp] theorem State.touches_writeDue (s : State) (h : [.card] ⊆ L) :
    t.touches L (State.writeDue s) ↔ t.touches L s := by
  simp only [List.cons_subset, List.nil_subset, and_true] at h
  unfold State.writeDue
  (repeat' split) <;> simp [h]

@[simp] theorem State.touches_cardRemoval (fail : Bool) (s : State)
    (h : [.gctl, .queues, .led, .ru, .skn, .mss, .card, .posted] ⊆ L) :
    t.touches L (State.cardRemoval fail s) ↔ t.touches L s := by
  simp only [List.cons_subset, List.nil_subset, and_true] at h
  simp [State.cardRemoval, h]

@[simp] theorem State.touches_identify (h' : Option Held) (s : State) (h : [.gctl, .queues, .mss, .card, .posted] ⊆ L) :
    t.touches L (State.identify h' s) ↔ t.touches L s := by
  simp only [List.cons_subset, List.nil_subset, and_true] at h
  simp [State.identify, h]

@[simp] theorem State.touches_exportKeys (d : Dom) (s : State) (h : [.ks, .kp] ⊆ L) :
    t.touches L (State.exportKeys d s).1 ↔ t.touches L s := by
  unfold State.exportKeys
  (repeat' split) <;> simp_all [State.pair_eq_iff]

@[simp] theorem State.touches_exportCardBody (x : Ctx) (s : State)
    (h : [.gctl, .led, .ru, .ks, .skn, .kp, .card, .posted] ⊆ L) :
    t.touches L (exportCardBody x s).s ↔ t.touches L s := by
  unfold exportCardBody
  dsimp only
  (repeat' split) <;> simp_all [State.pair_eq_iff]

@[simp] theorem State.touches_exportBegun (s : State) (row : Nat) (h : [.card] ⊆ L) :
    t.touches L (State.exportBegun s row) ↔ t.touches L s := by
  simp only [List.cons_subset, List.nil_subset, and_true] at h
  unfold State.exportBegun
  (repeat' split) <;> simp [h]

@[simp] theorem State.touches_exportWrite (h' : Held) (row : Nat) (dest : BitVec 64) (s : State)
    (h : [.gctl, .queues, .led, .ru, .sl, .ks, .skn, .kp, .mss, .card, .posted] ⊆ L) :
    t.touches L (State.exportWrite h' row dest s) ↔ t.touches L s := by
  unfold State.exportWrite
  dsimp only
  (repeat' split) <;> simp_all [State.pair_eq_iff]

@[simp] theorem State.touches_importCardBody (x : Ctx) (s : State) (h : [.gctl, .led, .ru, .sl, .skn, .posted] ⊆ L) :
    t.touches L (importCardBody x s).s ↔ t.touches L s := by
  unfold importCardBody
  dsimp only
  (repeat' split) <;> simp_all [State.pair_eq_iff]

@[simp] theorem State.touches_reconcileSlip (x : Ctx) (row : Nat) (t' : Transfer) (s : State)
    (h : [.gctl, .queues, .led, .ru, .skn, .mss, .card, .posted] ⊆ L) :
    t.touches L (reconcileSlip x row t' s).s ↔ t.touches L s := by
  simp only [List.cons_subset, List.nil_subset, and_true] at h
  unfold reconcileSlip
  (repeat' split) <;> simp [h]

@[simp] theorem State.touches_reconcileBody (x : Ctx) (s : State)
    (h : [.gctl, .queues, .led, .ru, .skn, .mss, .card, .posted] ⊆ L) :
    t.touches L (reconcileBody x s).s ↔ t.touches L s := by
  simp only [List.cons_subset, List.nil_subset, and_true] at h
  unfold reconcileBody
  (repeat' split) <;> simp [h]

@[simp] theorem State.touches_cardReportBody (a0 : Ctx) (s : State) :
    t.touches L (cardReportBody a0 s).s ↔ t.touches L s := by
  simp [cardReportBody]

@[simp] theorem State.touches_cardIdentifyBody (x : Ctx) (s : State) (h : [.gctl, .queues, .mss, .card, .posted] ⊆ L) :
    t.touches L (cardIdentifyBody x s).s ↔ t.touches L s := by
  simp only [List.cons_subset, List.nil_subset, and_true] at h
  unfold cardIdentifyBody
  (repeat' split) <;> simp [h]

@[simp] theorem State.touches_cardWrites (blocks : List (Nat × Bytes)) (h' : Held) (s : State) (h : [.card] ⊆ L) :
    t.touches L (State.cardWrites blocks h' s) ↔ t.touches L s := by
  simp only [List.cons_subset, List.nil_subset, and_true] at h
  simp [State.cardWrites, h]

@[simp] theorem State.touches_cardFormatBody (x : Ctx) (s : State) (h : [.card] ⊆ L) :
    t.touches L (cardFormatBody x s).s ↔ t.touches L s := by
  simp only [List.cons_subset, List.nil_subset, and_true] at h
  unfold cardFormatBody
  (repeat' split) <;> simp [h]

@[simp] theorem State.touches_cardReadBody (x : Ctx) (s : State) (h : [.card] ⊆ L) :
    t.touches L (cardReadBody x s).s ↔ t.touches L s := by
  simp only [List.cons_subset, List.nil_subset, and_true] at h
  unfold cardReadBody
  (repeat' split) <;> simp [h]

@[simp] theorem State.touches_cardClearBody (x : Ctx) (s : State) (h : [.card] ⊆ L) :
    t.touches L (cardClearBody x s).s ↔ t.touches L s := by
  simp only [List.cons_subset, List.nil_subset, and_true] at h
  unfold cardClearBody
  dsimp only
  (repeat' split) <;> simp [h]

@[simp] theorem State.touches_cardAuditBody (x : Ctx) (s : State) (h : [.sl, .ks, .card] ⊆ L) :
    t.touches L (cardAuditBody x s).s ↔ t.touches L s := by
  simp only [List.cons_subset, List.nil_subset, and_true] at h
  unfold cardAuditBody
  (repeat' split) <;> simp [h]

@[simp] theorem State.touches_cardDetectEvent (media : Option Media) (s : State)
    (h : [.gctl, .queues, .led, .ru, .skn, .mss, .card, .posted] ⊆ L) :
    t.touches L (cardDetectEvent media s) ↔ t.touches L s := by
  simp only [List.cons_subset, List.nil_subset, and_true] at h
  unfold cardDetectEvent
  (repeat' split) <;> simp [h]

@[simp] theorem State.touches_cmd1Event (ready : Bool) (s : State)
    (h : [.gctl, .queues, .led, .ru, .skn, .mss, .card, .posted] ⊆ L) :
    t.touches L (cmd1Event ready s) ↔ t.touches L s := by
  unfold cmd1Event
  (repeat' split) <;> simp_all [State.pair_eq_iff]

@[simp] theorem State.touches_busyEndEvent (status : BitVec 32) (s : State)
    (h : [.gctl, .queues, .led, .ru, .skn, .mss, .card, .posted] ⊆ L) :
    t.touches L (busyEndEvent status s) ↔ t.touches L s := by
  simp only [List.cons_subset, List.nil_subset, and_true] at h
  unfold busyEndEvent
  dsimp only
  (repeat' split) <;> simp [h]

@[simp] theorem State.touches_cardDataEvent (crcOk : Bool) (s : State)
    (h : [.gctl, .queues, .led, .ru, .skn, .mss, .card, .posted] ⊆ L) :
    t.touches L (cardDataEvent crcOk s) ↔ t.touches L s := by
  simp only [List.cons_subset, List.nil_subset, and_true] at h
  unfold cardDataEvent
  dsimp only
  (repeat' split) <;> simp [h]

@[simp] theorem State.touches_busyTimeoutEvent (s : State) (h : [.gctl, .queues, .led, .ru, .skn, .mss, .card, .posted] ⊆ L) :
    t.touches L (busyTimeoutEvent s) ↔ t.touches L s := by
  simp only [List.cons_subset, List.nil_subset, and_true] at h
  simp [busyTimeoutEvent, h]

@[simp] theorem State.touches_readTimeoutEvent (s : State) (h : [.gctl, .queues, .led, .ru, .skn, .mss, .card, .posted] ⊆ L) :
    t.touches L (readTimeoutEvent s) ↔ t.touches L s := by
  simp only [List.cons_subset, List.nil_subset, and_true] at h
  simp [readTimeoutEvent, h]

@[simp] theorem State.touches_onCard (op : BitVec 16) (sub : Option Byte) (body : Ctx → State → Out) (c : Cmd) (s : State)
    (hb : ∀ x s, t.touches L (body x s).s ↔ t.touches L s) (h : [.gctl, .queues, .led, .arb, .mss, .posted] ⊆ L) :
    t.touches L (onCard op sub body c s) ↔ t.touches L s := by
  simp only [List.cons_subset, List.nil_subset, and_true] at h
  unfold onCard
  split <;> simp [h, hb]

@[simp] theorem State.touches_doAfter (s : State) (a : After)
    (h : [.gctl, .queues, .led, .ru, .sl, .ks, .skn, .kp, .mss, .card, .posted] ⊆ L) :
    t.touches L (State.doAfter s a) ↔ t.touches L s := by
  simp only [List.cons_subset, List.nil_subset, and_true] at h
  unfold State.doAfter
  (repeat' split) <;> simp [h]

@[simp] theorem State.touches_doAll (after : List After) (s : State)
    (h : [.gctl, .queues, .led, .ru, .sl, .ks, .skn, .kp, .mss, .card, .posted] ⊆ L) :
    t.touches L (State.doAll after s) ↔ t.touches L s := by
  simp only [List.cons_subset, List.nil_subset, and_true] at h
  simp [State.doAll, h]

@[simp] theorem State.touches_failAfter (st : BitVec 16) (after : List After) (s : State)
    (h : [.gctl, .queues, .mss, .posted] ⊆ L) : t.touches L (s.failAfter st after) ↔ t.touches L s := by
  simp only [List.cons_subset, List.nil_subset, and_true] at h
  unfold State.failAfter
  rw [State.touches_foldl]
  intro s a
  split <;> simp [h]

@[simp] theorem State.touches_dropGen (st : BitVec 16) (g : GenWrite) (s : State)
    (h : [.gctl, .queues, .sl, .ks, .mss, .posted] ⊆ L) :
    t.touches L (State.dropGen st g s) ↔ t.touches L s := by
  simp only [List.cons_subset, List.nil_subset, and_true] at h
  unfold State.dropGen
  (repeat' split) <;> simp [h]

@[simp] theorem State.touches_takeEvent (s : State) (h : [.gctl, .queues, .led, .sl, .ks, .arb, .kp, .mss, .posted] ⊆ L) :
    t.touches L (takeEvent s) ↔ t.touches L s := by
  simp only [List.cons_subset, List.nil_subset, and_true] at h
  unfold takeEvent
  (repeat' split) <;> simp [h]

@[simp] theorem State.touches_bank0Event (s : State) (h : [.kp, .memories] ⊆ L) :
    t.touches L (bank0Event s) ↔ t.touches L s := by
  simp only [List.cons_subset, List.nil_subset, and_true] at h
  unfold bank0Event
  (repeat' split) <;> simp [h]

@[simp] theorem State.touches_bank1 (r : CuReq) (s : State) (h : [.kp, .memories] ⊆ L) :
    t.touches L (State.bank1 r s) ↔ t.touches L s := by
  simp only [List.cons_subset, List.nil_subset, and_true] at h
  simp [State.bank1, h]

@[simp] theorem State.touches_resumeCheckpoint (s : State) (c : Cmd)
    (h : [.gctl, .queues, .led, .ru, .ks, .kp, .mss, .posted] ⊆ L) :
    t.touches L (State.resumeCheckpoint s c) ↔ t.touches L s := by
  simp only [List.cons_subset, List.nil_subset, and_true] at h
  unfold State.resumeCheckpoint
  (repeat' split) <;> simp [h]

@[simp] theorem State.touches_nextCheckpoint (s : State) (h : [.gctl, .queues, .led, .ru, .ks, .kp, .mss, .posted] ⊆ L) :
    t.touches L (State.nextCheckpoint s) ↔ t.touches L s := by
  simp only [List.cons_subset, List.nil_subset, and_true] at h
  simp [State.nextCheckpoint, h]

@[simp] theorem State.touches_completeCheckpoint (r : CommitRec) (s : State)
    (h : [.gctl, .queues, .led, .ru, .ks, .kp, .mss, .posted] ⊆ L) :
    t.touches L (State.completeCheckpoint r s) ↔ t.touches L s := by
  simp only [List.cons_subset, List.nil_subset, and_true] at h
  unfold State.completeCheckpoint
  (repeat' split) <;> simp [h]

@[simp] theorem State.touches_ledgerDurable (r : CommitRec) (after : List After) (s : State)
    (h : [.gctl, .queues, .led, .ru, .sl, .ks, .skn, .kp, .mss, .card, .posted] ⊆ L) :
    t.touches L (State.ledgerDurable r after s) ↔ t.touches L s := by
  simp only [List.cons_subset, List.nil_subset, and_true] at h
  simp [State.ledgerDurable, h]

@[simp] theorem State.touches_durableEvent (s : State)
    (h : [.gctl, .queues, .led, .ru, .sl, .ks, .skn, .kp, .mss, .card, .posted, .memories] ⊆ L) :
    t.touches L (durableEvent s) ↔ t.touches L s := by
  simp only [List.cons_subset, List.nil_subset, and_true] at h
  unfold durableEvent
  (repeat' split) <;> simp [h]

@[simp] theorem State.touches_switchSlots (old : Nat) (shadow : Nat) (s : State) (h : [.ks] ⊆ L) :
    t.touches L (State.switchSlots old shadow s) ↔ t.touches L s := by
  simp only [List.cons_subset, List.nil_subset, and_true] at h
  unfold State.switchSlots
  (repeat' split) <;> simp [h]

@[simp] theorem State.touches_rearchive (n : Nat) (s : State) (h : [.ks, .arb, .kp, .memories] ⊆ L) :
    t.touches L (State.rearchive n s) ↔ t.touches L s := by
  simp only [List.cons_subset, List.nil_subset, and_true] at h
  unfold State.rearchive
  (repeat' split) <;> simp [h]

@[simp] theorem State.touches_genEffect (w : GenThen) (s : State) (h : [.sl, .ks, .arb, .kp, .memories] ⊆ L) :
    t.touches L (State.genEffect w s) ↔ t.touches L s := by
  simp only [List.cons_subset, List.nil_subset, and_true] at h
  unfold State.genEffect
  (repeat' split) <;> simp [h]

@[simp] theorem State.touches_genDurableEvent (s : State)
    (h : [.gctl, .queues, .led, .ru, .sl, .ks, .arb, .skn, .kp, .mss, .card, .posted, .memories] ⊆ L) :
    t.touches L (genDurableEvent s) ↔ t.touches L s := by
  simp only [List.cons_subset, List.nil_subset, and_true] at h
  unfold genDurableEvent
  (repeat' split) <;> simp [h]

@[simp] theorem State.touches_stagingEvent (unit : Nat) (s : State) (h : [.ru] ⊆ L) :
    t.touches L (stagingEvent unit s) ↔ t.touches L s := by
  simp only [List.cons_subset, List.nil_subset, and_true] at h
  unfold stagingEvent
  (repeat' split) <;> simp [h]

@[simp] theorem State.touches_rootFormedEvent (s : State) (h : [.gctl, .ru, .sl, .dig, .arb, .kp, .posted] ⊆ L) :
    t.touches L (rootFormedEvent s) ↔ t.touches L s := by
  simp only [List.cons_subset, List.nil_subset, and_true] at h
  unfold rootFormedEvent
  (repeat' split) <;> simp [h]

@[simp] theorem State.touches_rootDurableEvent (s : State) (h : [.ru, .kp, .memories] ⊆ L) :
    t.touches L (rootDurableEvent s) ↔ t.touches L s := by
  simp only [List.cons_subset, List.nil_subset, and_true] at h
  unfold rootDurableEvent
  dsimp only
  (repeat' split) <;> simp [h]

@[simp] theorem State.touches_boundaryEvent (s : State) (h : [.gctl, .led, .arb, .mem, .tmp, .mss, .aot] ⊆ L) :
    t.touches L (boundaryEvent s) ↔ t.touches L s := by
  simp only [List.cons_subset, List.nil_subset, and_true] at h
  simp [boundaryEvent, h]

@[simp] theorem State.touches_forcedRoomEvent (s : State) (h : [.gctl, .queues, .led, .ru, .skn, .mss, .posted] ⊆ L) :
    t.touches L (forcedRoomEvent s) ↔ t.touches L s := by
  simp only [List.cons_subset, List.nil_subset, and_true] at h
  unfold forcedRoomEvent
  (repeat' split) <;> simp [h]

end

end Sys2Proof.Machine
end

section
/-! PROOFS. What the functions of resets, registers, members, tamper and life cycle leave as it is. -/

namespace Sys2Proof.Machine

set_option Elab.async false

section
variable {L : List Aspect} {t : State}
@[simp] theorem State.touches_lapseEvent (n : PoolId) (s : State)
    (h : [.gctl, .queues, .led, .ru, .mem, .skn, .tmp, .mss, .posted, .aot] ⊆ L) :
    t.touches L (lapseEvent n s) ↔ t.touches L s := by
  simp only [List.cons_subset, List.nil_subset, and_true] at h
  unfold lapseEvent
  (repeat' split) <;> simp [h]

@[simp] theorem State.touches_regAcceptEvent (op : RegOp) (s : State) (h : [.ru] ⊆ L) :
    t.touches L (regAcceptEvent op s) ↔ t.touches L s := by
  simp only [List.cons_subset, List.nil_subset, and_true] at h
  simp [regAcceptEvent, h]

@[simp] theorem State.touches_writeBackBucketEvent (s : State) (h : [.ru] ⊆ L) :
    t.touches L (writeBackBucketEvent s) ↔ t.touches L s := by
  simp only [List.cons_subset, List.nil_subset, and_true] at h
  unfold writeBackBucketEvent
  (repeat' split) <;> simp [h]

@[simp] theorem State.touches_writeThroughEvent (n : PoolId) (s : State) (h : [.led] ⊆ L) :
    t.touches L (writeThroughEvent n s) ↔ t.touches L s := by
  simp only [List.cons_subset, List.nil_subset, and_true] at h
  simp [writeThroughEvent, h]

@[simp] theorem State.touches_mssRecordEvent (off : Nat) (bs : Bytes) (s : State) (h : [.arb, .kp] ⊆ L) :
    t.touches L (mssRecordEvent off bs s) ↔ t.touches L s := by
  simp only [List.cons_subset, List.nil_subset, and_true] at h
  simp [mssRecordEvent, h]

@[simp] theorem State.touches_Out_service (x : Ctx) (s : State) (code : Nat) (state : Nat) :
    t.touches L (Out.service x s code state).s ↔ t.touches L s := by
  simp [Out.service]

@[simp] theorem State.touches_removeSpindle (x : Ctx) (n : Nat) (s : State) (h : [.gctl, .spn, .arb, .kp, .posted] ⊆ L) :
    t.touches L (removeSpindle x n s).s ↔ t.touches L s := by
  simp only [List.cons_subset, List.nil_subset, and_true] at h
  unfold removeSpindle
  dsimp only
  (repeat' split) <;> simp [h]

@[simp] theorem State.touches_removeUnit (x : Ctx) (code : Nat) (s : State)
    (h : [.gctl, .spn, .ks, .arb, .skn, .kp, .posted] ⊆ L) :
    t.touches L (removeUnit x code s).s ↔ t.touches L s := by
  simp only [List.cons_subset, List.nil_subset, and_true] at h
  unfold removeUnit
  (repeat' split) <;> simp [h]

@[simp] theorem State.touches_waitReturn (x : Ctx) (code : Nat) (s : State) (h : [.arb] ⊆ L) :
    t.touches L (waitReturn x code s).s ↔ t.touches L s := by
  simp only [List.cons_subset, List.nil_subset, and_true] at h
  simp [waitReturn, h]

@[simp] theorem State.touches_returnUnit (x : Ctx) (code : Nat) (s : State)
    (h : [.gctl, .spn, .ks, .arb, .skn, .kp, .posted] ⊆ L) :
    t.touches L (returnUnit x code s).s ↔ t.touches L s := by
  simp only [List.cons_subset, List.nil_subset, and_true] at h
  unfold returnUnit
  dsimp only
  (repeat' split) <;> simp [h]

@[simp] theorem State.touches_spareRow (row : BitVec 20) (s : State) (h : [.mem, .kp] ⊆ L) :
    t.touches L (State.spareRow row s) ↔ t.touches L s := by
  simp only [List.cons_subset, List.nil_subset, and_true] at h
  simp [State.spareRow, h]

@[simp] theorem State.touches_spareBody (x : Ctx) (row : BitVec 20) (s : State) (h : [.arb, .mem, .kp] ⊆ L) :
    t.touches L (spareBody x row s).s ↔ t.touches L s := by
  simp only [List.cons_subset, List.nil_subset, and_true] at h
  unfold spareBody
  dsimp only
  (repeat' split) <;> simp [h]

@[simp] theorem State.touches_rowSpared (row : BitVec 20) (s : State)
    (h : [.gctl, .queues, .arb, .mem, .kp, .mss, .posted] ⊆ L) :
    t.touches L (State.rowSpared row s) ↔ t.touches L s := by
  simp only [List.cons_subset, List.nil_subset, and_true] at h
  unfold State.rowSpared
  dsimp only
  (repeat' split) <;> simp [h]

@[simp] theorem State.touches_holdService (x : Ctx) (s : State) (h : [.arb] ⊆ L) :
    t.touches L (holdService x s).s ↔ t.touches L s := by
  simp only [List.cons_subset, List.nil_subset, and_true] at h
  simp [holdService, h]

@[simp] theorem State.touches_unitServiceBody (x : Ctx) (s : State)
    (h : [.gctl, .spn, .ks, .arb, .mem, .skn, .kp, .posted] ⊆ L) :
    t.touches L (unitServiceBody x s).s ↔ t.touches L s := by
  simp only [List.cons_subset, List.nil_subset, and_true] at h
  unfold unitServiceBody
  dsimp only
  (repeat' split) <;> simp [h]

@[simp] theorem State.touches_resumeOne (s : State) (c : Cmd)
    (h : [.gctl, .queues, .led, .spn, .ks, .arb, .mem, .skn, .kp, .mss, .posted] ⊆ L) :
    t.touches L (State.resumeOne s c) ↔ t.touches L s := by
  simp only [List.cons_subset, List.nil_subset, and_true] at h
  unfold State.resumeOne
  (repeat' split) <;> simp [h]

@[simp] theorem State.touches_resumeService (s : State)
    (h : [.gctl, .queues, .led, .spn, .ks, .arb, .mem, .skn, .kp, .mss, .posted] ⊆ L) :
    t.touches L (State.resumeService s) ↔ t.touches L s := by
  simp only [List.cons_subset, List.nil_subset, and_true] at h
  simp [State.resumeService, h]

@[simp] theorem State.touches_causeBit (bit : Nat) (s : State) (h : [.pwr] ⊆ L) :
    t.touches L (State.causeBit bit s) ↔ t.touches L s := by
  simp only [List.cons_subset, List.nil_subset, and_true] at h
  simp [State.causeBit, h]

@[simp] theorem State.touches_logReset (kind : Nat) (s : State) (h : [.kp] ⊆ L) :
    t.touches L (State.logReset kind s) ↔ t.touches L s := by
  simp only [List.cons_subset, List.nil_subset, and_true] at h
  simp [State.logReset, h]

@[simp] theorem State.touches_clearArbiters (lo : Nat) (hi : Nat) (s : State) (h : [.arb] ⊆ L) :
    t.touches L (State.clearArbiters lo hi s) ↔ t.touches L s := by
  simp only [List.cons_subset, List.nil_subset, and_true] at h
  simp [State.clearArbiters, h]

@[simp] theorem State.touches_abandonJob (s : State) (j : Job) (h : [.gctl, .led, .ru, .posted] ⊆ L) :
    t.touches L (State.abandonJob s j) ↔ t.touches L s := by
  simp only [List.cons_subset, List.nil_subset, and_true] at h
  unfold State.abandonJob
  (repeat' split) <;> simp [h]

@[simp] theorem State.touches_abandonJobs (s : State) (h : [.gctl, .led, .ru, .spn, .posted] ⊆ L) :
    t.touches L (State.abandonJobs s) ↔ t.touches L s := by
  simp only [List.cons_subset, List.nil_subset, and_true] at h
  simp [State.abandonJobs, h]

@[simp] theorem State.touches_abandonRun (s : State) (r : SealRun) (h : [.gctl, .led, .ru, .sl, .posted] ⊆ L) :
    t.touches L (State.abandonRun s r) ↔ t.touches L s := by
  simp only [List.cons_subset, List.nil_subset, and_true] at h
  unfold State.abandonRun
  (repeat' split) <;> simp [h]

@[simp] theorem State.touches_endSealRuns (s : State) (h : [.gctl, .led, .ru, .sl, .arb, .posted] ⊆ L) :
    t.touches L (State.endSealRuns s) ↔ t.touches L s := by
  simp only [List.cons_subset, List.nil_subset, and_true] at h
  simp [State.endSealRuns, h]

@[simp] theorem State.touches_closeDigests (s : State) (h : [.dig, .arb] ⊆ L) :
    t.touches L (State.closeDigests s) ↔ t.touches L s := by
  simp only [List.cons_subset, List.nil_subset, and_true] at h
  simp [State.closeDigests, h]

@[simp] theorem State.touches_dropQueues (s : State) (h : [.gctl, .queues, .epochBase, .ru] ⊆ L) :
    t.touches L (State.dropQueues s) ↔ t.touches L s := by
  simp only [List.cons_subset, List.nil_subset, and_true] at h
  simp [State.dropQueues, h]

@[simp] theorem State.touches_dropGens (st : BitVec 16) (s : State) (h : [.gctl, .queues, .sl, .ks, .kp, .mss, .posted] ⊆ L) :
    t.touches L (State.dropGens st s) ↔ t.touches L s := by
  simp only [List.cons_subset, List.nil_subset, and_true] at h
  simp [State.dropGens, h]

@[simp] theorem State.touches_abandonCheckpoint (s : State) (h : [.ru, .kp] ⊆ L) :
    t.touches L (State.abandonCheckpoint s) ↔ t.touches L s := by
  simp only [List.cons_subset, List.nil_subset, and_true] at h
  simp [State.abandonCheckpoint, h]

@[simp] theorem State.touches_dropForwarded (s : State) (h : [.arb, .mss] ⊆ L) :
    t.touches L (State.dropForwarded s) ↔ t.touches L s := by
  simp only [List.cons_subset, List.nil_subset, and_true] at h
  simp [State.dropForwarded, h]

@[simp] theorem State.touches_endAllQueues (s : State)
    (h : [.gctl, .queues, .epochBase, .led, .ru, .spn, .sl, .dig, .ks, .arb, .skn, .kp, .mss, .posted] ⊆ L) :
    t.touches L (State.endAllQueues s) ↔ t.touches L s := by
  simp only [List.cons_subset, List.nil_subset, and_true] at h
  simp [State.endAllQueues, h]

@[simp] theorem State.touches_resetLink (s : State) (h : [.gctl, .arb] ⊆ L) :
    t.touches L (State.resetLink s) ↔ t.touches L s := by
  simp only [List.cons_subset, List.nil_subset, and_true] at h
  simp [State.resetLink, h]

@[simp] theorem State.touches_assign (v : BitVec 256) (s : State) (h : [.gctl] ⊆ L) :
    t.touches L (State.assign v s) ↔ t.touches L s := by
  simp only [List.cons_subset, List.nil_subset, and_true] at h
  simp [State.assign, h]

@[simp] theorem State.touches_endHandover (outcome : Byte) (status : BitVec 16) (s : State)
    (h : [.gctl, .queues, .kp, .mss, .posted] ⊆ L) :
    t.touches L (State.endHandover outcome status s) ↔ t.touches L s := by
  simp only [List.cons_subset, List.nil_subset, and_true] at h
  unfold State.endHandover
  (repeat' split) <;> simp [h]

@[simp] theorem State.touches_setImage (b : Bool) (r : Option Running) (s : State) (h : [.mss] ⊆ L) :
    t.touches L (State.setImage b r s) ↔ t.touches L s := by
  simp only [List.cons_subset, List.nil_subset, and_true] at h
  simp [State.setImage, h]

@[simp] theorem State.touches_cutHandover (s : State) (h : [.gctl, .queues, .kp, .mss, .posted] ⊆ L) :
    t.touches L (State.cutHandover s) ↔ t.touches L s := by
  simp only [List.cons_subset, List.nil_subset, and_true] at h
  unfold State.cutHandover
  (repeat' split) <;> simp [h]

@[simp] theorem State.touches_resetMss (kind : Nat) (s : State)
    (h : [.gctl, .queues, .arb, .kp, .tmp, .life, .mss, .pwr, .posted] ⊆ L) :
    t.touches L (State.resetMss kind s) ↔ t.touches L s := by
  simp only [List.cons_subset, List.nil_subset, and_true] at h
  simp [State.resetMss, h]

@[simp] theorem State.touches_readEffect (addr : Nat) (s : State)
    (h : [.gctl, .led, .ru, .spn, .sl, .dig, .ks, .arb, .mem, .skn, .tmp, .card, .pwr] ⊆ L) :
    t.touches L (State.readEffect addr s) ↔ t.touches L s := by
  simp only [List.cons_subset, List.nil_subset, and_true] at h
  unfold State.readEffect
  (repeat' split) <;> simp [h]

@[simp] theorem State.touches_wake (src : Byte) (s : State) (h : [.pwr] ⊆ L) :
    t.touches L (State.wake src s) ↔ t.touches L s := by
  simp only [List.cons_subset, List.nil_subset, and_true] at h
  simp [State.wake, h]

@[simp] theorem State.touches_holdAccess (w : HeldWrite) (src : Byte) (s : State) (h : [.pwr] ⊆ L) :
    t.touches L (State.holdAccess w src s) ↔ t.touches L s := by
  simp only [List.cons_subset, List.nil_subset, and_true] at h
  simp [State.holdAccess, h]

@[simp] theorem State.touches_readNow (addr : Nat) (s : State)
    (h : [.gctl, .led, .ru, .spn, .sl, .dig, .ks, .arb, .mem, .skn, .tmp, .card, .pwr, .posted] ⊆ L) :
    t.touches L (State.readNow addr s) ↔ t.touches L s := by
  simp only [List.cons_subset, List.nil_subset, and_true] at h
  simp [State.readNow, h]

@[simp] theorem State.touches_hostRead (addr : BitVec 20) (s : State)
    (h : [.gctl, .led, .ru, .spn, .sl, .dig, .ks, .arb, .mem, .skn, .tmp, .card, .pwr, .posted] ⊆ L) :
    t.touches L (State.hostRead addr s) ↔ t.touches L s := by
  simp only [List.cons_subset, List.nil_subset, and_true] at h
  simp [State.hostRead, h]

@[simp] theorem State.touches_adminSync (s : State) (h : [.queues] ⊆ L) :
    t.touches L (State.adminSync s) ↔ t.touches L s := by
  simp only [List.cons_subset, List.nil_subset, and_true] at h
  simp [State.adminSync, h]

@[simp] theorem State.touches_setAdmin (f : Gctl → Gctl) (s : State) (h : [.gctl, .queues] ⊆ L) :
    t.touches L (State.setAdmin f s) ↔ t.touches L s := by
  simp only [List.cons_subset, List.nil_subset, and_true] at h
  simp [State.setAdmin, h]

@[simp] theorem State.touches_writeEn (en : Bool) (s : State) (h : [.gctl, .queues, .arb] ⊆ L) :
    t.touches L (State.writeEn en s) ↔ t.touches L s := by
  simp only [List.cons_subset, List.nil_subset, and_true] at h
  simp [State.writeEn, h]

@[simp] theorem State.touches_startAqReset (s : State) (h : [.gctl, .queues, .led, .ru, .skn, .mss, .posted] ⊆ L) :
    t.touches L (State.startAqReset s) ↔ t.touches L s := by
  simp only [List.cons_subset, List.nil_subset, and_true] at h
  simp [State.startAqReset, h]

@[simp] theorem State.touches_testEvent (s : State) (h : [.gctl, .posted] ⊆ L) :
    t.touches L (State.testEvent s) ↔ t.touches L s := by
  simp only [List.cons_subset, List.nil_subset, and_true] at h
  simp [State.testEvent, h]

@[simp] theorem State.touches_writeJournalEn (en : Bool) (s : State) (h : [.gctl, .ru, .posted] ⊆ L) :
    t.touches L (State.writeJournalEn en s) ↔ t.touches L s := by
  simp only [List.cons_subset, List.nil_subset, and_true] at h
  simp [State.writeJournalEn, h]

@[simp] theorem State.touches_clearCounters (s : State) (h : [.arb] ⊆ L) :
    t.touches L (State.clearCounters s) ↔ t.touches L s := by
  simp only [List.cons_subset, List.nil_subset, and_true] at h
  simp [State.clearCounters, h]

@[simp] theorem State.touches_clearStarve (s : State) (h : [.arb] ⊆ L) :
    t.touches L (State.clearStarve s) ↔ t.touches L s := by
  simp only [List.cons_subset, List.nil_subset, and_true] at h
  simp [State.clearStarve, h]

@[simp] theorem State.touches_askMemSwap (s : State) (h : [.mem] ⊆ L) :
    t.touches L (State.askMemSwap s) ↔ t.touches L s := by
  simp only [List.cons_subset, List.nil_subset, and_true] at h
  simp [State.askMemSwap, h]

@[simp] theorem State.touches_askBwSwap (w : Port) (s : State) (h : [.skn] ⊆ L) :
    t.touches L (State.askBwSwap w s) ↔ t.touches L s := by
  simp only [List.cons_subset, List.nil_subset, and_true] at h
  simp [State.askBwSwap, h]

@[simp] theorem State.touches_writeSkeinEn (en : Bool) (s : State) (h : [.skn] ⊆ L) :
    t.touches L (State.writeSkeinEn en s) ↔ t.touches L s := by
  simp only [List.cons_subset, List.nil_subset, and_true] at h
  simp [State.writeSkeinEn, h]

@[simp] theorem State.touches_writeDoze (doze : Bool) (s : State) (h : [.pwr] ⊆ L) :
    t.touches L (State.writeDoze doze s) ↔ t.touches L s := by
  simp only [List.cons_subset, List.nil_subset, and_true] at h
  simp [State.writeDoze, h]

@[simp] theorem State.touches_askDpReset (key : BitVec 16) (s : State) (h : [.pwr] ⊆ L) :
    t.touches L (State.askDpReset key s) ↔ t.touches L s := by
  simp only [List.cons_subset, List.nil_subset, and_true] at h
  simp [State.askDpReset, h]

@[simp] theorem State.touches_askMssReset (key : BitVec 16) (s : State)
    (h : [.gctl, .queues, .arb, .kp, .tmp, .life, .mss, .pwr, .posted] ⊆ L) :
    t.touches L (State.askMssReset key s) ↔ t.touches L s := by
  simp only [List.cons_subset, List.nil_subset, and_true] at h
  simp [State.askMssReset, h]

@[simp] theorem State.touches_writeGctl (off : Nat) (v : BitVec 32) (s : State)
    (h : [.gctl, .queues, .led, .ru, .arb, .skn, .mss, .posted] ⊆ L) :
    t.touches L (State.writeGctl off v s) ↔ t.touches L s := by
  simp only [List.cons_subset, List.nil_subset, and_true] at h
  unfold State.writeGctl
  (repeat' split) <;> simp [h]

@[simp] theorem State.touches_writeEvents (off : Nat) (v : BitVec 32) (s : State) (h : [.gctl] ⊆ L) :
    t.touches L (State.writeEvents off v s) ↔ t.touches L s := by
  simp only [List.cons_subset, List.nil_subset, and_true] at h
  unfold State.writeEvents
  (repeat' split) <;> simp [h]

@[simp] theorem State.touches_writeLedger (off : Nat) (v : BitVec 32) (s : State) (h : [.led] ⊆ L) :
    t.touches L (State.writeLedger off v s) ↔ t.touches L s := by
  simp only [List.cons_subset, List.nil_subset, and_true] at h
  unfold State.writeLedger
  (repeat' split) <;> simp [h]

@[simp] theorem State.touches_writeRegister (off : Nat) (v : BitVec 32) (s : State) (h : [.gctl, .ru, .posted] ⊆ L) :
    t.touches L (State.writeRegister off v s) ↔ t.touches L s := by
  simp only [List.cons_subset, List.nil_subset, and_true] at h
  unfold State.writeRegister
  (repeat' split) <;> simp [h]

@[simp] theorem State.touches_writeArb (off : Nat) (v : BitVec 32) (s : State) (h : [.arb] ⊆ L) :
    t.touches L (State.writeArb off v s) ↔ t.touches L s := by
  simp only [List.cons_subset, List.nil_subset, and_true] at h
  unfold State.writeArb
  (repeat' split) <;> simp [h]

@[simp] theorem State.touches_writeMem (off : Nat) (v : BitVec 32) (s : State) (h : [.mem] ⊆ L) :
    t.touches L (State.writeMem off v s) ↔ t.touches L s := by
  simp only [List.cons_subset, List.nil_subset, and_true] at h
  simp [State.writeMem, h]

@[simp] theorem State.touches_writeSkein (off : Nat) (v : BitVec 32) (s : State) (h : [.skn] ⊆ L) :
    t.touches L (State.writeSkein off v s) ↔ t.touches L s := by
  simp only [List.cons_subset, List.nil_subset, and_true] at h
  unfold State.writeSkein
  (repeat' split) <;> simp [h]

@[simp] theorem State.touches_writePower (off : Nat) (v : BitVec 32) (s : State)
    (h : [.gctl, .queues, .arb, .kp, .tmp, .life, .mss, .pwr, .posted] ⊆ L) :
    t.touches L (State.writePower off v s) ↔ t.touches L s := by
  simp only [List.cons_subset, List.nil_subset, and_true] at h
  unfold State.writePower
  (repeat' split) <;> simp [h]

@[simp] theorem State.touches_writeCard (off : Nat) (v : BitVec 32) (s : State)
    (h : [.gctl, .queues, .led, .ru, .skn, .mss, .card, .posted] ⊆ L) :
    t.touches L (State.writeCard off v s) ↔ t.touches L s := by
  simp only [List.cons_subset, List.nil_subset, and_true] at h
  unfold State.writeCard
  (repeat' split) <;> simp [h]

@[simp] theorem State.touches_writeMsix (off : Nat) (v : BitVec 32) (s : State) (h : [.gctl, .posted] ⊆ L) :
    t.touches L (State.writeMsix off v s) ↔ t.touches L s := by
  simp only [List.cons_subset, List.nil_subset, and_true] at h
  simp [State.writeMsix, h]

@[simp] theorem State.touches_regWrite (addr : Nat) (v : BitVec 32) (s : State)
    (h : [.gctl, .queues, .led, .ru, .spn, .sl, .ks, .arb, .mem, .skn, .kp, .tmp, .life, .mss, .card, .pwr, .posted] ⊆ L) :
    t.touches L (State.regWrite addr v s) ↔ t.touches L s := by
  simp only [List.cons_subset, List.nil_subset, and_true] at h
  unfold State.regWrite
  (repeat' split) <;> simp [h]

@[simp] theorem State.touches_doorbellError (q : QId) (cause : BitVec 2) (epoch : Bool) (s : State) (h : [.gctl, .posted] ⊆ L) :
    t.touches L (State.doorbellError q cause epoch s) ↔ t.touches L s := by
  simp only [List.cons_subset, List.nil_subset, and_true] at h
  simp [State.doorbellError, h]

@[simp] theorem State.touches_doorbell (q : QId) (tail : Bool) (v : BitVec 32) (s : State)
    (h : [.gctl, .queues, .arb, .posted] ⊆ L) :
    t.touches L (State.doorbell q tail v s) ↔ t.touches L s := by
  simp only [List.cons_subset, List.nil_subset, and_true] at h
  unfold State.doorbell
  dsimp only
  (repeat' split) <;> simp [h]

@[simp] theorem State.touches_bar2 (off : BitVec 18) (v : BitVec 32) (s : State)
    (h : [.gctl, .queues, .arb, .pwr, .posted] ⊆ L) :
    t.touches L (State.bar2 off v s) ↔ t.touches L s := by
  simp only [List.cons_subset, List.nil_subset, and_true] at h
  unfold State.bar2
  (repeat' split) <;> simp [h]

@[simp] theorem State.touches_bar4Now (addr : BitVec 24) (v : BitVec 32) (s : State)
    (h : [.gctl, .queues, .arb, .skn, .pwr, .posted] ⊆ L) :
    t.touches L (State.bar4Now addr v s) ↔ t.touches L s := by
  simp only [List.cons_subset, List.nil_subset, and_true] at h
  simp [State.bar4Now, h]

@[simp] theorem State.touches_bar4 (addr : BitVec 24) (v : BitVec 32) (s : State)
    (h : [.gctl, .queues, .arb, .skn, .pwr, .posted] ⊆ L) :
    t.touches L (State.bar4 addr v s) ↔ t.touches L s := by
  simp only [List.cons_subset, List.nil_subset, and_true] at h
  simp [State.bar4, h]

@[simp] theorem State.touches_hostWrite (addr : BitVec 20) (v : BitVec 32) (s : State)
    (h : [.gctl, .queues, .led, .ru, .spn, .sl, .ks, .arb, .mem, .skn, .kp, .tmp, .life, .mss, .card, .pwr, .posted] ⊆ L) :
    t.touches L (State.hostWrite addr v s) ↔ t.touches L s := by
  simp only [List.cons_subset, List.nil_subset, and_true] at h
  simp [State.hostWrite, h]

@[simp] theorem State.touches_fieldWrite (addr : BitVec 20) (v : BitVec 32) (f : State → State) (s : State)
    (hf : t.touches L (f s) ↔ t.touches L s) (h : [.pwr] ⊆ L) : t.touches L (s.fieldWrite addr v f) ↔ t.touches L s := by
  simp only [List.cons_subset, List.nil_subset, and_true] at h
  unfold State.fieldWrite
  (repeat' split) <;> simp [h, hf]

@[simp] theorem State.touches_anyWrite (addr : BitVec 20) (nbytes : Nat) (v : BitVec 32) (s : State)
    (h : [.gctl, .queues, .led, .ru, .spn, .sl, .ks, .arb, .mem, .skn, .kp, .tmp, .life, .mss, .card, .pwr, .posted] ⊆ L) :
    t.touches L (State.anyWrite addr nbytes v s) ↔ t.touches L s := by
  simp only [List.cons_subset, List.nil_subset, and_true] at h
  simp [State.anyWrite, h]

@[simp] theorem State.touches_anyRead (addr : BitVec 20) (nbytes : Nat) (s : State)
    (h : [.gctl, .led, .ru, .spn, .sl, .dig, .ks, .arb, .mem, .skn, .tmp, .card, .pwr, .posted] ⊆ L) :
    t.touches L (State.anyRead addr nbytes s) ↔ t.touches L s := by
  simp only [List.cons_subset, List.nil_subset, and_true] at h
  simp [State.anyRead, h]

@[simp] theorem State.touches_cast (ws : List Port) (kind : SkKind) (payload : Bytes) (s : State) (h : [.skn, .posted] ⊆ L) :
    t.touches L (State.cast ws kind payload s) ↔ t.touches L s := by
  simp only [List.cons_subset, List.nil_subset, and_true] at h
  simp [State.cast, h]

@[simp] theorem State.touches_broadcast (kind : SkKind) (payload : Bytes) (s : State) (h : [.skn, .posted] ⊆ L) :
    t.touches L (State.broadcast kind payload s) ↔ t.touches L s := by
  simp only [List.cons_subset, List.nil_subset, and_true] at h
  simp [State.broadcast, h]

@[simp] theorem State.touches_loadCluster (s : State) (h : [.skn] ⊆ L) :
    t.touches L (State.loadCluster s) ↔ t.touches L s := by
  simp only [List.cons_subset, List.nil_subset, and_true] at h
  simp [State.loadCluster, h]

@[simp] theorem State.touches_awaitNode (kind : SkKind) (n : BitVec 6) (h' : Held) (payload : Bytes) (s : State)
    (h : [.skn, .posted] ⊆ L) :
    t.touches L (State.awaitNode kind n h' payload s) ↔ t.touches L s := by
  simp only [List.cons_subset, List.nil_subset, and_true] at h
  simp [State.awaitNode, h]

@[simp] theorem State.touches_nodeRegBody (x : Ctx) (s : State)
    (h : [.gctl, .queues, .led, .ru, .spn, .sl, .dig, .ks, .arb, .mem, .skn, .kp, .tmp, .life, .mss, .card, .pwr,
      .posted] ⊆ L) :
    t.touches L (nodeRegBody x s).s ↔ t.touches L s := by
  simp only [List.cons_subset, List.nil_subset, and_true] at h
  unfold nodeRegBody
  dsimp only
  (repeat' split) <;> simp [h]

@[simp] theorem State.touches_nodeRegHere (src : BitVec 6) (tag : BitVec 32) (write : Bool) (off : Nat) (v : BitVec 32)
    (s : State)
    (h : [.gctl, .queues, .led, .ru, .spn, .sl, .dig, .ks, .arb, .mem, .skn, .kp, .tmp, .life, .mss, .card, .pwr,
      .posted] ⊆ L) :
    t.touches L (State.nodeRegHere src tag write off v s) ↔ t.touches L s := by
  simp only [List.cons_subset, List.nil_subset, and_true] at h
  simp [State.nodeRegHere, h]

@[simp] theorem State.touches_storeMap (m : Tab (BitVec 6)) (version : BitVec 64) (s : State) (h : [.arb, .kp, .memories] ⊆ L) :
    t.touches L (State.storeMap m version s) ↔ t.touches L s := by
  simp only [List.cons_subset, List.nil_subset, and_true] at h
  simp [State.storeMap, h]

@[simp] theorem State.touches_toEach (ns : List (BitVec 6)) (payload : Bytes) (s : State) (h : [.skn, .posted] ⊆ L) :
    t.touches L (State.toEach ns payload s) ↔ t.touches L s := by
  simp only [List.cons_subset, List.nil_subset, and_true] at h
  simp [State.toEach, h]

@[simp] theorem State.touches_postpone (x : Ctx) (s : State) (h : [.queues] ⊆ L) :
    t.touches L (State.postpone x s) ↔ t.touches L s := by
  simp only [List.cons_subset, List.nil_subset, and_true] at h
  unfold State.postpone
  (repeat' split) <;> simp [h]

@[simp] theorem State.touches_mapSetBody (x : Ctx) (s : State) (h : [.queues, .arb, .skn, .kp, .posted, .memories] ⊆ L) :
    t.touches L (mapSetBody x s).s ↔ t.touches L s := by
  simp only [List.cons_subset, List.nil_subset, and_true] at h
  unfold mapSetBody withData
  dsimp only
  (repeat' split) <;> simp [h]

@[simp] theorem State.touches_failMap (st : BitVec 16) (inl : BitVec 64) (s : State)
    (h : [.gctl, .queues, .skn, .mss, .posted] ⊆ L) :
    t.touches L (State.failMap st inl s) ↔ t.touches L s := by
  simp only [List.cons_subset, List.nil_subset, and_true] at h
  unfold State.failMap
  (repeat' split) <;> simp [h]

@[simp] theorem State.touches_mapAnswered (src : BitVec 6) (conflict : Option Nat) (s : State)
    (h : [.gctl, .queues, .arb, .skn, .kp, .mss, .posted, .memories] ⊆ L) :
    t.touches L (State.mapAnswered src conflict s) ↔ t.touches L s := by
  simp only [List.cons_subset, List.nil_subset, and_true] at h
  unfold State.mapAnswered
  (repeat' split) <;> simp [h]

@[simp] theorem State.touches_mapControl (src : BitVec 6) (bs : Bytes) (s : State)
    (h : [.gctl, .queues, .arb, .skn, .kp, .mss, .posted, .memories] ⊆ L) :
    t.touches L (State.mapControl src bs s) ↔ t.touches L s := by
  simp only [List.cons_subset, List.nil_subset, and_true] at h
  unfold State.mapControl
  (repeat' split) <;> simp [h]

@[simp] theorem State.touches_mapSwitchEvent (s : State) (h : [.skn] ⊆ L) :
    t.touches L (mapSwitchEvent s) ↔ t.touches L s := by
  simp only [List.cons_subset, List.nil_subset, and_true] at h
  unfold mapSwitchEvent
  (repeat' split) <;> simp [h]

@[simp] theorem State.touches_mapGetBody (a0 : Ctx) (s : State) :
    t.touches L (mapGetBody a0 s).s ↔ t.touches L s := by
  simp [mapGetBody]

@[simp] theorem State.touches_logSkein (w : Port) (event : Nat) (serial : BitVec 64) (s : State) (h : [.kp] ⊆ L) :
    t.touches L (State.logSkein w event serial s) ↔ t.touches L s := by
  simp only [List.cons_subset, List.nil_subset, and_true] at h
  simp [State.logSkein, h]

@[simp] theorem State.touches_storeMembers (s : State) (h : [.arb, .kp, .memories] ⊆ L) :
    t.touches L (State.storeMembers s) ↔ t.touches L s := by
  simp only [List.cons_subset, List.nil_subset, and_true] at h
  simp [State.storeMembers, h]

@[simp] theorem State.touches_storeRetired (s : State) (h : [.arb, .kp, .memories] ⊆ L) :
    t.touches L (State.storeRetired s) ↔ t.touches L s := by
  simp only [List.cons_subset, List.nil_subset, and_true] at h
  simp [State.storeRetired, h]

@[simp] theorem State.touches_admitMember (x : Ctx) (n : BitVec 6) (serial : BitVec 64) (s : State)
    (h : [.gctl, .arb, .skn, .kp, .posted, .memories] ⊆ L) :
    t.touches L (admitMember x n serial s).s ↔ t.touches L s := by
  simp only [List.cons_subset, List.nil_subset, and_true] at h
  unfold admitMember
  (repeat' split) <;> simp [h]

@[simp] theorem State.touches_retireMember (x : Ctx) (n : BitVec 6) (serial : BitVec 64) (s : State)
    (h : [.arb, .skn, .kp, .posted, .memories] ⊆ L) :
    t.touches L (retireMember x n serial s).s ↔ t.touches L s := by
  simp only [List.cons_subset, List.nil_subset, and_true] at h
  unfold retireMember
  (repeat' split) <;> simp [h]

@[simp] theorem State.touches_nodeMemberBody (x : Ctx) (s : State) (h : [.gctl, .arb, .skn, .kp, .posted, .memories] ⊆ L) :
    t.touches L (nodeMemberBody x s).s ↔ t.touches L s := by
  simp only [List.cons_subset, List.nil_subset, and_true] at h
  unfold nodeMemberBody
  (repeat' split) <;> simp [h]

@[simp] theorem State.touches_holdDown (w : Port) (event : Nat) (serial : BitVec 64) (s : State)
    (h : [.skn, .kp, .posted] ⊆ L) :
    t.touches L (State.holdDown w event serial s) ↔ t.touches L s := by
  simp only [List.cons_subset, List.nil_subset, and_true] at h
  simp [State.holdDown, h]

@[simp] theorem State.touches_presented (op : Nat) (s : State) (h : [.skn, .kp, .posted] ⊆ L) :
    t.touches L (State.presented op s) ↔ t.touches L s := by
  simp only [List.cons_subset, List.nil_subset, and_true] at h
  simp [State.presented, h]

@[simp] theorem State.touches_memberControl (bs : Bytes) (s : State) (h : [.arb, .skn, .kp, .posted, .memories] ⊆ L) :
    t.touches L (State.memberControl bs s) ↔ t.touches L s := by
  simp only [List.cons_subset, List.nil_subset, and_true] at h
  simp [State.memberControl, h]

@[simp] theorem State.touches_trainingEvent (w : Port) (serial : BitVec 64) (nonce : BitVec 128) (s : State)
    (h : [.ks, .skn, .kp] ⊆ L) :
    t.touches L (trainingEvent w serial nonce s) ↔ t.touches L s := by
  unfold trainingEvent
  (repeat' split) <;> simp_all [State.pair_eq_iff]

@[simp] theorem State.touches_portIn (w : Port) (s : State) (h : [.gctl, .queues, .arb, .skn, .kp, .mss, .posted] ⊆ L) :
    t.touches L (State.portIn w s) ↔ t.touches L s := by
  simp only [List.cons_subset, List.nil_subset, and_true] at h
  simp [State.portIn, h]

@[simp] theorem State.touches_reconcileEvent (w : Port) (peer : List PeerCount) (s : State)
    (h : [.gctl, .queues, .arb, .skn, .kp, .mss, .posted] ⊆ L) :
    t.touches L (reconcileEvent w peer s) ↔ t.touches L s := by
  simp only [List.cons_subset, List.nil_subset, and_true] at h
  simp [reconcileEvent, h]

@[simp] theorem State.touches_linkFailureEvent (w : Port) (s : State)
    (h : [.gctl, .queues, .arb, .skn, .kp, .mss, .posted] ⊆ L) :
    t.touches L (linkFailureEvent w s) ↔ t.touches L s := by
  simp only [List.cons_subset, List.nil_subset, and_true] at h
  simp [linkFailureEvent, h]

@[simp] theorem State.touches_remoteAccess (node : BitVec 6) (a : HostAccess) (s : State) (h : [.gctl, .skn, .posted] ⊆ L) :
    t.touches L (remoteAccess node a s) ↔ t.touches L s := by
  simp only [List.cons_subset, List.nil_subset, and_true] at h
  unfold remoteAccess
  (repeat' split) <;> simp [h]

@[simp] theorem State.touches_deliver (p : SkPacket) (s : State)
    (h : [.gctl, .queues, .led, .ru, .spn, .sl, .dig, .ks, .arb, .mem, .skn, .kp, .tmp, .life, .mss, .card, .pwr, .posted,
      .memories, .ran] ⊆ L) :
    t.touches L (State.deliver p s) ↔ t.touches L s := by
  simp only [List.cons_subset, List.nil_subset, and_true] at h
  unfold State.deliver
  (repeat' split) <;> simp [h]

@[simp] theorem State.touches_gather (p : SkPacket) (s : State)
    (h : [.gctl, .queues, .led, .ru, .spn, .sl, .dig, .ks, .arb, .mem, .skn, .kp, .tmp, .life, .mss, .card, .pwr, .posted,
      .memories, .ran] ⊆ L) :
    t.touches L (State.gather p s) ↔ t.touches L s := by
  simp only [List.cons_subset, List.nil_subset, and_true] at h
  simp [State.gather, h]

@[simp] theorem State.touches_transit (w : Port) (from_ : Option Port) (p : SkPacket) (s : State) (h : [.skn] ⊆ L) :
    t.touches L (State.transit w from_ p s) ↔ t.touches L s := by
  simp only [List.cons_subset, List.nil_subset, and_true] at h
  simp [State.transit, h]

@[simp] theorem State.touches_acceptPacket (w : Port) (p : SkPacket) (s : State)
    (h : [.gctl, .queues, .led, .ru, .spn, .sl, .dig, .ks, .arb, .mem, .skn, .kp, .tmp, .life, .mss, .card, .pwr, .posted,
      .memories, .ran] ⊆ L) :
    t.touches L (State.acceptPacket w p s) ↔ t.touches L s := by
  simp only [List.cons_subset, List.nil_subset, and_true] at h
  simp [State.acceptPacket, h]

@[simp] theorem State.touches_acceptWaiting (n : Nat) (s : State)
    (h : [.gctl, .queues, .led, .ru, .spn, .sl, .dig, .ks, .arb, .mem, .skn, .kp, .tmp, .life, .mss, .card, .pwr, .posted,
      .memories, .ran] ⊆ L) :
    t.touches L (State.acceptWaiting n s) ↔ t.touches L s := by
  simp only [List.cons_subset, List.nil_subset, and_true] at h
  induction n generalizing s with
  | zero => simp [State.acceptWaiting]
  | succ n ih =>
    unfold State.acceptWaiting
    split <;> simp [h, ih]

@[simp] theorem State.touches_packetEvent (w : Port) (p : SkPacket) (s : State)
    (h : [.gctl, .queues, .led, .ru, .spn, .sl, .dig, .ks, .arb, .mem, .skn, .kp, .tmp, .life, .mss, .card, .pwr, .posted,
      .memories, .ran] ⊆ L) :
    t.touches L (packetEvent w p s) ↔ t.touches L s := by
  simp only [List.cons_subset, List.nil_subset, and_true] at h
  simp [packetEvent, h]

@[simp] theorem State.touches_takeFlits (w : Port) (n : Nat) (s : State)
    (h : [.gctl, .queues, .led, .ru, .spn, .sl, .dig, .ks, .arb, .mem, .skn, .kp, .tmp, .life, .mss, .card, .pwr, .posted,
      .memories, .ran] ⊆ L) :
    t.touches L (State.takeFlits w n s) ↔ t.touches L s := by
  simp only [List.cons_subset, List.nil_subset, and_true] at h
  induction n generalizing s with
  | zero => simp [State.takeFlits]
  | succ n ih =>
    unfold State.takeFlits
    dsimp only
    (repeat' split) <;> simp [h, ih]

@[simp] theorem State.touches_groupEvent (w : Port) (gseq : BitVec 32) (cipher : Bytes) (tag : Bytes) (s : State)
    (h : [.gctl, .queues, .led, .ru, .spn, .sl, .dig, .ks, .arb, .mem, .skn, .kp, .tmp, .life, .mss, .card, .pwr, .posted,
      .memories, .ran] ⊆ L) :
    t.touches L (groupEvent w gseq cipher tag s) ↔ t.touches L s := by
  simp only [List.cons_subset, List.nil_subset, and_true] at h
  unfold groupEvent
  dsimp only
  (repeat' split) <;> simp [h]

@[simp] theorem State.touches_censusEvent (w : Port) (peer : List PeerCount) (s : State)
    (h : [.gctl, .queues, .arb, .skn, .kp, .mss, .posted] ⊆ L) :
    t.touches L (censusEvent w peer s) ↔ t.touches L s := by
  simp only [List.cons_subset, List.nil_subset, and_true] at h
  simp [censusEvent, h]

@[simp] theorem State.touches_enumerationEvent (returned : Bool) (reach : BitVec 7) (secondHead : Option Port) (s : State)
    (h : [.skn, .kp, .posted] ⊆ L) :
    t.touches L (enumerationEvent returned reach secondHead s) ↔ t.touches L s := by
  simp only [List.cons_subset, List.nil_subset, and_true] at h
  unfold enumerationEvent
  (repeat' split) <;> simp [h]

@[simp] theorem State.touches_joinEvent (serial : BitVec 64) (n : BitVec 6) (kcv : BitVec 32) (s : State)
    (h : [.gctl, .skn, .kp, .posted] ⊆ L) :
    t.touches L (joinEvent serial n kcv s) ↔ t.touches L s := by
  simp only [List.cons_subset, List.nil_subset, and_true] at h
  simp [joinEvent, h]

@[simp] theorem State.touches_heartbeatEvent (w : Port) (s : State) (h : [.skn, .posted] ⊆ L) :
    t.touches L (heartbeatEvent w s) ↔ t.touches L s := by
  simp only [List.cons_subset, List.nil_subset, and_true] at h
  simp [heartbeatEvent, h]

@[simp] theorem State.touches_fullRateEvent (w : Port) (s : State) (h : [.skn] ⊆ L) :
    t.touches L (fullRateEvent w s) ↔ t.touches L s := by
  simp only [List.cons_subset, List.nil_subset, and_true] at h
  simp [fullRateEvent, h]

@[simp] theorem State.touches_bwSwapEvent (w : Port) (s : State) (h : [.skn] ⊆ L) :
    t.touches L (bwSwapEvent w s) ↔ t.touches L s := by
  simp only [List.cons_subset, List.nil_subset, and_true] at h
  simp [bwSwapEvent, h]

@[simp] theorem State.touches_unreachableEvent (n : BitVec 6) (s : State)
    (h : [.gctl, .queues, .epochBase, .led, .ru, .spn, .sl, .dig, .ks, .arb, .skn, .kp, .mss, .posted] ⊆ L) :
    t.touches L (unreachableEvent n s) ↔ t.touches L s := by
  simp only [List.cons_subset, List.nil_subset, and_true] at h
  unfold unreachableEvent
  dsimp only
  (repeat' split) <;> simp [h]

@[simp] theorem State.touches_rejoinEvent (n : BitVec 6) (s : State) (h : [.gctl, .ru, .skn, .posted] ⊆ L) :
    t.touches L (rejoinEvent n s) ↔ t.touches L s := by
  simp only [List.cons_subset, List.nil_subset, and_true] at h
  simp [rejoinEvent, h]

@[simp] theorem State.touches_loseDram (s : State) (h : [.led, .ru, .sl, .skn] ⊆ L) :
    t.touches L (State.loseDram s) ↔ t.touches L s := by
  simp only [List.cons_subset, List.nil_subset, and_true] at h
  simp [State.loseDram, h]

@[simp] theorem State.touches_abortJobsOf (s : State) (n : Nat) (h : [.gctl, .queues, .led, .ru, .spn, .mss, .posted] ⊆ L) :
    t.touches L (State.abortJobsOf s n) ↔ t.touches L s := by
  simp only [List.cons_subset, List.nil_subset, and_true] at h
  simp [State.abortJobsOf, h]

@[simp] theorem State.touches_dropWrites (t' : GenWrite → Bool) (s : State)
    (h : [.gctl, .queues, .sl, .ks, .kp, .mss, .posted] ⊆ L) :
    t.touches L (State.dropWrites t' s) ↔ t.touches L s := by
  simp only [List.cons_subset, List.nil_subset, and_true] at h
  simp [State.dropWrites, h]

@[simp] theorem State.touches_abortTaken (t' : GenWrite → Bool) (s : State) (h : [.kp] ⊆ L) :
    t.touches L (State.abortTaken t' s) ↔ t.touches L s := by
  simp only [List.cons_subset, List.nil_subset, and_true] at h
  unfold State.abortTaken
  (repeat' split) <;> simp [h]

@[simp] theorem State.touches_abortPackets (classes : List Nat) (s : State) (h : [.gctl, .queues, .mss, .posted] ⊆ L) :
    t.touches L (s.abortPackets classes) ↔ t.touches L s := by
  simp only [List.cons_subset, List.nil_subset, and_true] at h
  unfold State.abortPackets
  rw [State.touches_foldl]
  intro s p
  simp [h]

@[simp] theorem State.touches_abortKeyOps (s : State)
    (h : [.gctl, .queues, .led, .ru, .spn, .sl, .ks, .kp, .mss, .posted] ⊆ L) :
    t.touches L (State.abortKeyOps s) ↔ t.touches L s := by
  simp only [List.cons_subset, List.nil_subset, and_true] at h
  simp [State.abortKeyOps, h]

@[simp] theorem State.touches_holdMss (s : State) (h : [.gctl, .queues, .arb, .kp, .tmp, .life, .mss, .pwr, .posted] ⊆ L) :
    t.touches L (State.holdMss s) ↔ t.touches L s := by
  simp only [List.cons_subset, List.nil_subset, and_true] at h
  simp [State.holdMss, h]

@[simp] theorem State.touches_stopUnits (s : State)
    (h : [.gctl, .queues, .led, .ru, .spn, .sl, .dig, .ks, .arb, .skn, .kp, .mss, .card, .posted] ⊆ L) :
    t.touches L (State.stopUnits s) ↔ t.touches L s := by
  simp only [List.cons_subset, List.nil_subset, and_true] at h
  simp [State.stopUnits, h]

@[simp] theorem State.touches_dropLink (s : State) (w : Port) (h : [.gctl, .queues, .arb, .skn, .kp, .mss, .posted] ⊆ L) :
    t.touches L (State.dropLink s w) ↔ t.touches L s := by
  simp only [List.cons_subset, List.nil_subset, and_true] at h
  simp [State.dropLink, h]

@[simp] theorem State.touches_eraseSecrets (s : State)
    (h : [.gctl, .queues, .spn, .sl, .dig, .ks, .arb, .skn, .kp, .mss, .posted] ⊆ L) :
    t.touches L (State.eraseSecrets s) ↔ t.touches L s := by
  simp only [List.cons_subset, List.nil_subset, and_true] at h
  simp [State.eraseSecrets, h]

@[simp] theorem State.touches_eraseShares (s : State) (h : [.ks, .tmp] ⊆ L) :
    t.touches L (State.eraseShares s) ↔ t.touches L s := by
  simp only [List.cons_subset, List.nil_subset, and_true] at h
  simp [State.eraseShares, h]

@[simp] theorem State.touches_storeEvent (src : BitVec 5) (resp : Nat) (detail : Byte) (backup : Bool) (s : State)
    (h : [.tmp] ⊆ L) :
    t.touches L (State.storeEvent src resp detail backup s) ↔ t.touches L s := by
  simp only [List.cons_subset, List.nil_subset, and_true] at h
  simp [State.storeEvent, h]

@[simp] theorem State.touches_tamperRecord (s : State) (h : [.gctl, .led, .arb, .posted] ⊆ L) :
    t.touches L (State.tamperRecord s) ↔ t.touches L s := by
  simp only [List.cons_subset, List.nil_subset, and_true] at h
  simp [State.tamperRecord, h]

@[simp] theorem State.touches_pauseHandover (on : Bool) (s : State) (h : [.mss] ⊆ L) :
    t.touches L (State.pauseHandover on s) ↔ t.touches L s := by
  simp only [List.cons_subset, List.nil_subset, and_true] at h
  unfold State.pauseHandover
  (repeat' split) <;> simp [h]

@[simp] theorem State.touches_respond (r : Nat) (s : State)
    (h : [.gctl, .queues, .led, .ru, .spn, .sl, .dig, .ks, .arb, .skn, .kp, .tmp, .life, .mss, .card, .pwr, .posted] ⊆ L) :
    t.touches L (State.respond r s) ↔ t.touches L s := by
  simp only [List.cons_subset, List.nil_subset, and_true] at h
  simp [State.respond, h]

@[simp] theorem State.touches_alarm (src : BitVec 5) (detail : Byte) (s : State)
    (h : [.gctl, .queues, .led, .ru, .spn, .sl, .dig, .ks, .arb, .skn, .kp, .tmp, .life, .mss, .card, .pwr, .posted] ⊆ L) :
    t.touches L (State.alarm src detail s) ↔ t.touches L s := by
  simp only [List.cons_subset, List.nil_subset, and_true] at h
  simp [State.alarm, h]

@[simp] theorem State.touches_alarmEvent (src : BitVec 5) (detail : Byte) (s : State)
    (h : [.gctl, .queues, .led, .ru, .spn, .sl, .dig, .ks, .arb, .skn, .kp, .tmp, .life, .mss, .card, .pwr, .posted] ⊆ L) :
    t.touches L (alarmEvent src detail s) ↔ t.touches L s := by
  simp only [List.cons_subset, List.nil_subset, and_true] at h
  simp [alarmEvent, h]

@[simp] theorem State.touches_startDwell (s : State) (h : [.tmp] ⊆ L) :
    t.touches L (State.startDwell s) ↔ t.touches L s := by
  simp only [List.cons_subset, List.nil_subset, and_true] at h
  simp [State.startDwell, h]

@[simp] theorem State.touches_inactiveEvent (src : BitVec 5) (s : State) (h : [.tmp] ⊆ L) :
    t.touches L (inactiveEvent src s) ↔ t.touches L s := by
  simp only [List.cons_subset, List.nil_subset, and_true] at h
  simp [inactiveEvent, h]

@[simp] theorem State.touches_responseDone (s : State) (h : [.tmp, .mss] ⊆ L) :
    t.touches L (State.responseDone s) ↔ t.touches L s := by
  simp only [List.cons_subset, List.nil_subset, and_true] at h
  simp [State.responseDone, h]

@[simp] theorem State.touches_clearsEndEvent (s : State) (h : [.gctl, .led, .arb, .tmp, .mss, .posted] ⊆ L) :
    t.touches L (clearsEndEvent s) ↔ t.touches L s := by
  simp only [List.cons_subset, List.nil_subset, and_true] at h
  simp [clearsEndEvent, h]

@[simp] theorem State.touches_eraseEvent (s : State)
    (h : [.gctl, .queues, .spn, .sl, .dig, .ks, .arb, .skn, .kp, .tmp, .mss, .posted] ⊆ L) :
    t.touches L (eraseEvent s) ↔ t.touches L s := by
  simp only [List.cons_subset, List.nil_subset, and_true] at h
  simp [eraseEvent, h]

@[simp] theorem State.touches_pulseEndEvent (s : State) (h : [.ks, .tmp, .mss] ⊆ L) :
    t.touches L (pulseEndEvent s) ↔ t.touches L s := by
  simp only [List.cons_subset, List.nil_subset, and_true] at h
  unfold pulseEndEvent
  (repeat' split) <;> simp [h]

@[simp] theorem State.touches_wipeBeginEvent (s : State) (h : [.sl, .tmp] ⊆ L) :
    t.touches L (wipeBeginEvent s) ↔ t.touches L s := by
  simp only [List.cons_subset, List.nil_subset, and_true] at h
  simp [wipeBeginEvent, h]

@[simp] theorem State.touches_wipeEndEvent (s : State) (h : [.sl, .ks, .mem, .tmp, .mss] ⊆ L) :
    t.touches L (wipeEndEvent s) ↔ t.touches L s := by
  simp only [List.cons_subset, List.nil_subset, and_true] at h
  unfold wipeEndEvent
  dsimp only
  (repeat' split) <;> simp [h]

@[simp] theorem State.touches_startRelease (h' : Option Held) (s : State) (h : [.tmp] ⊆ L) :
    t.touches L (State.startRelease h' s) ↔ t.touches L s := by
  simp only [List.cons_subset, List.nil_subset, and_true] at h
  simp [State.startRelease, h]

@[simp] theorem State.touches_leaveLevel (before : Nat) (s : State) (h : [.led, .ru, .sl, .ks, .mem, .skn] ⊆ L) :
    t.touches L (State.leaveLevel before s) ↔ t.touches L s := by
  simp only [List.cons_subset, List.nil_subset, and_true] at h
  simp [State.leaveLevel, h]

@[simp] theorem State.touches_restartTests (before : Nat) (s : State) (h : [.led, .tmp, .pwr] ⊆ L) :
    t.touches L (State.restartTests before s) ↔ t.touches L s := by
  simp only [List.cons_subset, List.nil_subset, and_true] at h
  simp [State.restartTests, h]

@[simp] theorem State.touches_clearLevel (s : State)
    (h : [.gctl, .queues, .led, .ru, .spn, .sl, .ks, .arb, .mem, .skn, .kp, .tmp, .mss, .pwr, .posted] ⊆ L) :
    t.touches L (State.clearLevel s) ↔ t.touches L s := by
  simp only [List.cons_subset, List.nil_subset, and_true] at h
  simp [State.clearLevel, h]

@[simp] theorem State.touches_endRelease (s : State)
    (h : [.gctl, .queues, .led, .ru, .spn, .sl, .ks, .arb, .mem, .skn, .kp, .tmp, .mss, .pwr, .posted] ⊆ L) :
    t.touches L (State.endRelease s) ↔ t.touches L s := by
  simp only [List.cons_subset, List.nil_subset, and_true] at h
  unfold State.endRelease
  dsimp only
  (repeat' split) <;> simp [h]

@[simp] theorem State.touches_resumeRelease (s : State)
    (h : [.gctl, .queues, .led, .ru, .spn, .sl, .ks, .arb, .mem, .skn, .kp, .tmp, .mss, .pwr, .posted] ⊆ L) :
    t.touches L (State.resumeRelease s) ↔ t.touches L s := by
  simp only [List.cons_subset, List.nil_subset, and_true] at h
  simp [State.resumeRelease, h]

@[simp] theorem State.touches_testsDone (s : State)
    (h : [.gctl, .queues, .led, .ru, .spn, .sl, .ks, .arb, .mem, .skn, .kp, .tmp, .mss, .pwr, .posted] ⊆ L) :
    t.touches L (State.testsDone s) ↔ t.touches L s := by
  simp only [List.cons_subset, List.nil_subset, and_true] at h
  simp [State.testsDone, h]

@[simp] theorem State.touches_testStartEvent (s : State) (h : [.tmp] ⊆ L) :
    t.touches L (testStartEvent s) ↔ t.touches L s := by
  simp only [List.cons_subset, List.nil_subset, and_true] at h
  simp [testStartEvent, h]

@[simp] theorem State.touches_testEndEvent (pass : Bool) (s : State)
    (h : [.gctl, .queues, .led, .ru, .spn, .sl, .dig, .ks, .arb, .mem, .skn, .kp, .tmp, .life, .mss, .card, .pwr,
      .posted] ⊆ L) :
    t.touches L (testEndEvent pass s) ↔ t.touches L s := by
  simp only [List.cons_subset, List.nil_subset, and_true] at h
  unfold testEndEvent
  dsimp only
  (repeat' split) <;> simp [h]

@[simp] theorem State.touches_dwellEndEvent (s : State) (h : [.tmp] ⊆ L) :
    t.touches L (dwellEndEvent s) ↔ t.touches L s := by
  simp only [List.cons_subset, List.nil_subset, and_true] at h
  simp [dwellEndEvent, h]

@[simp] theorem State.touches_backupEvent (src : BitVec 5) (detail : Byte) (s : State) (h : [.ks, .tmp] ⊆ L) :
    t.touches L (backupEvent src detail s) ↔ t.touches L s := by
  simp only [List.cons_subset, List.nil_subset, and_true] at h
  simp [backupEvent, h]

@[simp] theorem State.touches_Ctx_denied (x : Ctx) (s : State) (st : BitVec 16) :
    t.touches L (Ctx.denied x s st).s ↔ t.touches L s := by
  simp [Ctx.denied]

@[simp] theorem State.touches_passwordOk (r : Nat) (pw : Bytes) (s : State) (h : [.kp] ⊆ L) :
    t.touches L (State.passwordOk r pw s).1 ↔ t.touches L s := by
  simp only [List.cons_subset, List.nil_subset, and_true] at h
  unfold State.passwordOk
  (repeat' split) <;> simp [h]

@[simp] theorem State.touches_writeBoot (r : BootRec) (s : State) (h : [.arb, .kp, .mss, .memories] ⊆ L) :
    t.touches L (State.writeBoot r s) ↔ t.touches L s := by
  simp only [List.cons_subset, List.nil_subset, and_true] at h
  simp [State.writeBoot, h]

@[simp] theorem State.touches_applySettings (s : State) (h : [.mss] ⊆ L) :
    t.touches L (State.applySettings s) ↔ t.touches L s := by
  simp only [List.cons_subset, List.nil_subset, and_true] at h
  simp [State.applySettings, h]

end

end Sys2Proof.Machine
end

section
/-! PROOFS. What the functions of management, the keeper die, power and start-up leave as it is. -/

namespace Sys2Proof.Machine

set_option Elab.async false

section
variable {L : List Aspect} {t : State}
@[simp] theorem State.touches_eraseBelow (n : Nat) (s : State) (h : [.ks] ⊆ L) :
    t.touches L (State.eraseBelow n s) ↔ t.touches L s := by
  simp only [List.cons_subset, List.nil_subset, and_true] at h
  simp [State.eraseBelow, h]

@[simp] theorem State.touches_pruneShares (s : State) (h : [.ks] ⊆ L) :
    t.touches L (State.pruneShares s) ↔ t.touches L s := by
  simp only [List.cons_subset, List.nil_subset, and_true] at h
  simp [State.pruneShares, h]

@[simp] theorem State.touches_makeShare (label : Nat) (s : State) (h : [.ks] ⊆ L) :
    t.touches L (State.makeShare label s) ↔ t.touches L s := by
  simp only [List.cons_subset, List.nil_subset, and_true] at h
  simp [State.makeShare, h]

@[simp] theorem State.touches_blow (n : Nat) (s : State) (h : [.ks, .tmp, .life, .fuses] ⊆ L) :
    t.touches L (State.blow n s) ↔ t.touches L s := by
  simp only [List.cons_subset, List.nil_subset, and_true] at h
  simp [State.blow, h]

@[simp] theorem State.touches_planReset (s : State) (h : [.life] ⊆ L) :
    t.touches L (State.planReset s) ↔ t.touches L s := by
  simp only [List.cons_subset, List.nil_subset, and_true] at h
  simp [State.planReset, h]

@[simp] theorem State.touches_sensorReadBody (x : Ctx) (s : State) :
    t.touches L (sensorReadBody x s).s ↔ t.touches L s := by
  simp [sensorReadBody]

@[simp] theorem State.touches_logReadBody (x : Ctx) (s : State) :
    t.touches L (logReadBody x s).s ↔ t.touches L s := by
  unfold logReadBody
  (repeat' split) <;> simp

@[simp] theorem State.touches_challengeBody (x : Ctx) (s : State) (h : [.ks, .life] ⊆ L) :
    t.touches L (challengeBody x s).s ↔ t.touches L s := by
  simp only [List.cons_subset, List.nil_subset, and_true] at h
  simp [challengeBody, h]

@[simp] theorem State.touches_authority (s : State) (owner : Bool) (h : [.ks, .kp] ⊆ L) :
    t.touches L (State.authority s owner).1 ↔ t.touches L s := by
  unfold State.authority
  (repeat' split) <;> simp_all [State.pair_eq_iff]

@[simp] theorem State.touches_transition (dst : Nat) (s : State) (h : [.ks, .kp, .tmp, .life, .fuses] ⊆ L) :
    t.touches L (State.transition dst s) ↔ t.touches L s := by
  simp only [List.cons_subset, List.nil_subset, and_true] at h
  simp [State.transition, h]

@[simp] theorem State.touches_lifecycleBody (x : Ctx) (s : State) (h : [.ks, .kp, .tmp, .life, .fuses] ⊆ L) :
    t.touches L (lifecycleBody x s).s ↔ t.touches L s := by
  unfold lifecycleBody withData
  dsimp only
  (repeat' split) <;> simp_all [State.pair_eq_iff]

@[simp] theorem State.touches_archiveKey (root : BitVec 256) (n : Nat) (typ : Byte) (q : Parent)
    (lin : BitVec 16 × BitVec 32) (material : Bytes) (id : Bytes) (s : State)
    (h : [.ks, .arb, .kp, .memories] ⊆ L) :
    t.touches L (State.archiveKey root n typ q lin material id s) ↔ t.touches L s := by
  simp only [List.cons_subset, List.nil_subset, and_true] at h
  simp [State.archiveKey, h]

@[simp] theorem State.touches_archiveSecret (root : BitVec 256) (n : Nat) (lin : BitVec 16 × BitVec 32) (s : State)
    (h : [.ks, .arb, .kp, .memories] ⊆ L) :
    t.touches L (State.archiveSecret root n lin s) ↔ t.touches L s := by
  simp only [List.cons_subset, List.nil_subset, and_true] at h
  unfold State.archiveSecret
  (repeat' split) <;> simp [h]

@[simp] theorem State.touches_archiveFpk (root : BitVec 256) (s : State) (h : [.ks, .arb, .kp, .memories] ⊆ L) :
    t.touches L (State.archiveFpk root s) ↔ t.touches L s := by
  simp only [List.cons_subset, List.nil_subset, and_true] at h
  unfold State.archiveFpk
  (repeat' split) <;> simp [h]

@[simp] theorem State.touches_deriveOwner (s : State) (h : [.ks] ⊆ L) :
    t.touches L (State.deriveOwner s) ↔ t.touches L s := by
  simp only [List.cons_subset, List.nil_subset, and_true] at h
  unfold State.deriveOwner
  (repeat' split) <;> simp [h]

@[simp] theorem State.touches_installOwner (bs : Bytes) (s : State) (h : [.ru, .ks, .arb, .kp, .memories] ⊆ L) :
    t.touches L (State.installOwner bs s) ↔ t.touches L s := by
  simp only [List.cons_subset, List.nil_subset, and_true] at h
  unfold State.installOwner
  dsimp only
  (repeat' split) <;> simp [h]

@[simp] theorem State.touches_startJournal (s : State) (h : [.led, .ru, .arb] ⊆ L) :
    t.touches L (State.startJournal s) ↔ t.touches L s := by
  simp only [List.cons_subset, List.nil_subset, and_true] at h
  simp [State.startJournal, h]

@[simp] theorem State.touches_enrolBody (x : Ctx) (s : State)
    (h : [.led, .ru, .ks, .arb, .kp, .tmp, .life, .memories, .fuses] ⊆ L) :
    t.touches L (enrolBody x s).s ↔ t.touches L s := by
  simp only [List.cons_subset, List.nil_subset, and_true] at h
  unfold enrolBody withData
  dsimp only
  (repeat' split) <;> simp [h]

@[simp] theorem State.touches_tamperReadBody (x : Ctx) (s : State) :
    t.touches L (tamperReadBody x s).s ↔ t.touches L s := by
  simp [tamperReadBody]

@[simp] theorem State.touches_tamperWriteBody (x : Ctx) (s : State) (h : [.tmp] ⊆ L) :
    t.touches L (tamperWriteBody x s).s ↔ t.touches L s := by
  simp only [List.cons_subset, List.nil_subset, and_true] at h
  unfold tamperWriteBody withData
  dsimp only
  (repeat' split) <;> simp [h]

@[simp] theorem State.touches_tamperReleaseBody (x : Ctx) (s : State) (h : [.tmp] ⊆ L) :
    t.touches L (tamperReleaseBody x s).s ↔ t.touches L s := by
  simp only [List.cons_subset, List.nil_subset, and_true] at h
  unfold tamperReleaseBody
  (repeat' split) <;> simp [h]

@[simp] theorem State.touches_rawReadBody (x : Ctx) (s : State) (h : [.kp] ⊆ L) :
    t.touches L (rawReadBody x s).s ↔ t.touches L s := by
  unfold rawReadBody
  dsimp only
  (repeat' split) <;> simp_all [State.pair_eq_iff]

@[simp] theorem State.touches_rawWriteBody (x : Ctx) (s : State) (h : [.arb, .kp, .memories] ⊆ L) :
    t.touches L (rawWriteBody x s).s ↔ t.touches L s := by
  unfold rawWriteBody withData
  dsimp only
  (repeat' split) <;> simp_all [State.pair_eq_iff]

@[simp] theorem State.touches_passwordSetBody (x : Ctx) (s : State) (h : [.arb, .kp] ⊆ L) :
    t.touches L (passwordSetBody x s).s ↔ t.touches L s := by
  unfold passwordSetBody withData
  dsimp only
  (repeat' split) <;> simp_all [State.pair_eq_iff]

@[simp] theorem State.touches_keeperStatusBody (x : Ctx) (s : State) :
    t.touches L (keeperStatusBody x s).s ↔ t.touches L s := by
  simp [keeperStatusBody]

@[simp] theorem State.touches_settingGetBody (x : Ctx) (s : State) :
    t.touches L (settingGetBody x s).s ↔ t.touches L s := by
  unfold settingGetBody
  dsimp only
  (repeat' split) <;> simp

@[simp] theorem State.touches_settingSetBody (x : Ctx) (s : State) (h : [.arb, .kp, .mss, .memories] ⊆ L) :
    t.touches L (settingSetBody x s).s ↔ t.touches L s := by
  simp only [List.cons_subset, List.nil_subset, and_true] at h
  unfold settingSetBody withData
  dsimp only
  (repeat' split) <;> simp [h]

@[simp] theorem State.touches_settingDefaultBody (x : Ctx) (s : State) (h : [.arb, .kp, .mss, .memories] ⊆ L) :
    t.touches L (settingDefaultBody x s).s ↔ t.touches L s := by
  simp only [List.cons_subset, List.nil_subset, and_true] at h
  unfold settingDefaultBody
  dsimp only
  (repeat' split) <;> simp [h]

@[simp] theorem State.touches_stageBeginBody (x : Ctx) (s : State) (h : [.arb, .kp, .mss, .memories] ⊆ L) :
    t.touches L (stageBeginBody x s).s ↔ t.touches L s := by
  simp only [List.cons_subset, List.nil_subset, and_true] at h
  unfold stageBeginBody
  dsimp only
  (repeat' split) <;> simp [h]

@[simp] theorem State.touches_stageChunkBody (x : Ctx) (s : State) (h : [.kp, .mss, .memories] ⊆ L) :
    t.touches L (stageChunkBody x s).s ↔ t.touches L s := by
  simp only [List.cons_subset, List.nil_subset, and_true] at h
  unfold stageChunkBody withData
  dsimp only
  (repeat' split) <;> simp [h]

@[simp] theorem State.touches_stageEndBody (x : Ctx) (s : State) (h : [.arb, .kp, .mss, .memories] ⊆ L) :
    t.touches L (stageEndBody x s).s ↔ t.touches L s := by
  simp only [List.cons_subset, List.nil_subset, and_true] at h
  unfold stageEndBody
  (repeat' split) <;> simp [h]

@[simp] theorem State.touches_stageAbandonBody (x : Ctx) (s : State) (h : [.mss] ⊆ L) :
    t.touches L (stageAbandonBody x s).s ↔ t.touches L s := by
  simp only [List.cons_subset, List.nil_subset, and_true] at h
  unfold stageAbandonBody
  (repeat' split) <;> simp [h]

@[simp] theorem State.touches_fwStatusBody (x : Ctx) (s : State) :
    t.touches L (fwStatusBody x s).s ↔ t.touches L s := by
  unfold fwStatusBody
  (repeat' split) <;> simp

@[simp] theorem State.touches_toStep (k : Handover) (n : Nat) (s : State) (h : [.mss] ⊆ L) :
    t.touches L (State.toStep k n s) ↔ t.touches L s := by
  simp only [List.cons_subset, List.nil_subset, and_true] at h
  simp [State.toStep, h]

@[simp] theorem State.touches_handoverBody (x : Ctx) (s : State) (h : [.gctl, .kp, .mss, .posted] ⊆ L) :
    t.touches L (handoverBody x s).s ↔ t.touches L s := by
  unfold handoverBody
  dsimp only
  (repeat' split) <;> simp_all [State.pair_eq_iff]

@[simp] theorem State.touches_setIdleEvent (s : State) (h : [.spn, .arb, .kp, .mss, .memories] ⊆ L) :
    t.touches L (setIdleEvent s) ↔ t.touches L s := by
  simp only [List.cons_subset, List.nil_subset, and_true] at h
  unfold setIdleEvent
  dsimp only
  (repeat' split) <;> simp [h]

@[simp] theorem State.touches_setLoadedEvent (s : State) (h : [.gctl, .queues, .arb, .kp, .mss, .posted, .memories] ⊆ L) :
    t.touches L (setLoadedEvent s) ↔ t.touches L s := by
  simp only [List.cons_subset, List.nil_subset, and_true] at h
  unfold setLoadedEvent
  (repeat' split) <;> simp [h]

@[simp] theorem State.touches_startMss (b : Bool) (s : State) (h : [.arb, .kp, .mss, .memories] ⊆ L) :
    t.touches L (State.startMss b s) ↔ t.touches L s := by
  simp only [List.cons_subset, List.nil_subset, and_true] at h
  simp [State.startMss, h]

@[simp] theorem State.touches_logBoot (kind : Byte) (set : Byte) (b : Bool) (failing : Option Nat) (s : State) (h : [.kp] ⊆ L) :
    t.touches L (State.logBoot kind set b failing s) ↔ t.touches L s := by
  simp only [List.cons_subset, List.nil_subset, and_true] at h
  simp [State.logBoot, h]

@[simp] theorem State.touches_reportLost (s : State) (h : [.kp] ⊆ L) :
    t.touches L (State.reportLost s) ↔ t.touches L s := by
  simp only [List.cons_subset, List.nil_subset, and_true] at h
  simp [State.reportLost, h]

@[simp] theorem State.touches_startTests (s : State) (h : [.tmp] ⊆ L) :
    t.touches L (State.startTests s) ↔ t.touches L s := by
  simp only [List.cons_subset, List.nil_subset, and_true] at h
  simp [State.startTests, h]

@[simp] theorem State.touches_stage (n : Nat) (s : State) (h : [.pwr] ⊆ L) :
    t.touches L (State.stage n s) ↔ t.touches L s := by
  simp only [List.cons_subset, List.nil_subset, and_true] at h
  simp [State.stage, h]

@[simp] theorem State.touches_mssBootEvent (s : State)
    (h : [.gctl, .queues, .led, .spn, .ks, .arb, .mem, .skn, .kp, .tmp, .mss, .pwr, .posted, .memories] ⊆ L) :
    t.touches L (mssBootEvent s) ↔ t.touches L s := by
  simp only [List.cons_subset, List.nil_subset, and_true] at h
  unfold mssBootEvent
  dsimp only
  (repeat' split) <;> simp [h]

@[simp] theorem State.touches_mssRebootBody (x : Ctx) (s : State)
    (h : [.gctl, .queues, .arb, .kp, .tmp, .life, .mss, .pwr, .posted, .memories] ⊆ L) :
    t.touches L (mssRebootBody x s).s ↔ t.touches L s := by
  simp only [List.cons_subset, List.nil_subset, and_true] at h
  unfold mssRebootBody
  dsimp only
  (repeat' split) <;> simp [h]

@[simp] theorem State.touches_rebootDoneEvent (s : State) (h : [.gctl, .queues, .mss, .posted] ⊆ L) :
    t.touches L (rebootDoneEvent s) ↔ t.touches L s := by
  simp only [List.cons_subset, List.nil_subset, and_true] at h
  unfold rebootDoneEvent
  dsimp only
  (repeat' split) <;> simp [h]

@[simp] theorem State.touches_commitSvBody (x : Ctx) (s : State) (h : [.kp, .life] ⊆ L) :
    t.touches L (commitSvBody x s).s ↔ t.touches L s := by
  simp only [List.cons_subset, List.nil_subset, and_true] at h
  unfold commitSvBody
  dsimp only
  (repeat' split) <;> simp [h]

@[simp] theorem State.touches_mssWatchdogEvent (s : State)
    (h : [.gctl, .queues, .arb, .kp, .tmp, .life, .mss, .pwr, .posted] ⊆ L) :
    t.touches L (mssWatchdogEvent s) ↔ t.touches L s := by
  simp only [List.cons_subset, List.nil_subset, and_true] at h
  simp [mssWatchdogEvent, h]

@[simp] theorem State.touches_grantReal (n : Nat) (s : State)
    (h : [.gctl, .queues, .led, .spn, .sl, .dig, .ks, .arb, .kp, .mss, .posted] ⊆ L) :
    t.touches L (State.grantReal n s) ↔ t.touches L s := by
  simp only [List.cons_subset, List.nil_subset, and_true] at h
  unfold State.grantReal
  (repeat' split) <;> simp [h]

@[simp] theorem State.touches_grantEvent (n : Nat) (arrivals : List Nat) (accept : Bool) (s : State)
    (h : [.gctl, .queues, .led, .spn, .sl, .dig, .ks, .arb, .kp, .mss, .posted] ⊆ L) :
    t.touches L (grantEvent n arrivals accept s) ↔ t.touches L s := by
  simp only [List.cons_subset, List.nil_subset, and_true] at h
  simp [grantEvent, h]

@[simp] theorem State.touches_waited (n : Nat) (since : Nat) (w : Nat) (s : State) (h : [.gctl, .mem, .tmp, .mss, .aot] ⊆ L) :
    t.touches L (State.waited n since w s) ↔ t.touches L s := by
  simp only [List.cons_subset, List.nil_subset, and_true] at h
  simp [State.waited, h]

@[simp] theorem State.touches_starveEvent (n : Nat) (i : Nat) (s : State)
    (h : [.gctl, .arb, .mem, .tmp, .mss, .posted, .aot] ⊆ L) :
    t.touches L (starveEvent n i s) ↔ t.touches L s := by
  simp only [List.cons_subset, List.nil_subset, and_true] at h
  unfold starveEvent
  dsimp only
  (repeat' split) <;> simp [h]

@[simp] theorem State.touches_endStuck (w : Stuck) (s : State)
    (h : [.gctl, .queues, .led, .ru, .spn, .ks, .arb, .mss, .posted] ⊆ L) :
    t.touches L (State.endStuck w s) ↔ t.touches L s := by
  simp only [List.cons_subset, List.nil_subset, and_true] at h
  unfold State.endStuck
  (repeat' split) <;> simp [h]

@[simp] theorem State.touches_endStuckSeal (w : Stuck) (s : State)
    (h : [.gctl, .queues, .led, .ru, .spn, .sl, .ks, .arb, .mss, .posted] ⊆ L) :
    t.touches L (State.endStuckSeal w s) ↔ t.touches L s := by
  simp only [List.cons_subset, List.nil_subset, and_true] at h
  unfold State.endStuckSeal
  (repeat' split) <;> simp [h]

@[simp] theorem State.touches_endStuckDigest (w : Stuck) (s : State)
    (h : [.gctl, .queues, .led, .ru, .spn, .dig, .ks, .arb, .mss, .posted] ⊆ L) :
    t.touches L (State.endStuckDigest w s) ↔ t.touches L s := by
  simp only [List.cons_subset, List.nil_subset, and_true] at h
  unfold State.endStuckDigest
  (repeat' split) <;> simp [h]

@[simp] theorem State.touches_endStuckJob (w : Stuck) (s : State)
    (h : [.gctl, .queues, .led, .ru, .spn, .ks, .arb, .kp, .mss, .posted] ⊆ L) :
    t.touches L (State.endStuckJob w s) ↔ t.touches L s := by
  simp only [List.cons_subset, List.nil_subset, and_true] at h
  simp [State.endStuckJob, h]

@[simp] theorem State.touches_watchdogEvent (w : Stuck) (s : State)
    (h : [.gctl, .queues, .led, .ru, .spn, .sl, .dig, .ks, .arb, .kp, .mss, .posted] ⊆ L) :
    t.touches L (watchdogEvent w s) ↔ t.touches L s := by
  simp only [List.cons_subset, List.nil_subset, and_true] at h
  simp [watchdogEvent, h]

@[simp] theorem State.touches_smbusEvent (m : Bytes) (s : State) (h : [.arb, .mss] ⊆ L) :
    t.touches L (smbusEvent m s) ↔ t.touches L s := by
  simp only [List.cons_subset, List.nil_subset, and_true] at h
  simp [smbusEvent, h]

@[simp] theorem State.touches_controlEvent (m : Bytes) (s : State) (h : [.mss, .posted] ⊆ L) :
    t.touches L (controlEvent m s) ↔ t.touches L s := by
  simp only [List.cons_subset, List.nil_subset, and_true] at h
  simp [controlEvent, h]

@[simp] theorem State.touches_dropPartial (s : State) (h : [.mss] ⊆ L) :
    t.touches L (dropPartial s) ↔ t.touches L s := by
  simp only [List.cons_subset, List.nil_subset, and_true] at h
  simp [dropPartial, h]

@[simp] theorem State.touches_spiFrameEvent (f : Bytes) (s : State) (h : [.arb, .mss] ⊆ L) :
    t.touches L (spiFrameEvent f s) ↔ t.touches L s := by
  simp only [List.cons_subset, List.nil_subset, and_true] at h
  simp [spiFrameEvent, h]

@[simp] theorem State.touches_spiPollEvent (s : State) (h : [.mss, .posted] ⊆ L) :
    t.touches L (spiPollEvent s) ↔ t.touches L s := by
  simp only [List.cons_subset, List.nil_subset, and_true] at h
  unfold spiPollEvent
  (repeat' split) <;> simp [h]

@[simp] theorem State.touches_svcEnEvent (level : Bool) (frameOpen : Bool) (s : State) (h : [.mss] ⊆ L) :
    t.touches L (svcEnEvent level frameOpen s) ↔ t.touches L s := by
  simp only [List.cons_subset, List.nil_subset, and_true] at h
  simp [svcEnEvent, h]

@[simp] theorem State.touches_takeSide (c : Cmd) (s : State) (h : [.gctl, .queues, .mss, .posted] ⊆ L) :
    t.touches L (State.takeSide c s) ↔ t.touches L s := by
  simp only [List.cons_subset, List.nil_subset, and_true] at h
  unfold State.takeSide
  dsimp only
  (repeat' split) <;> simp [h]

@[simp] theorem State.touches_commandTake (s : State) (h : [.gctl, .queues, .arb, .mss, .posted] ⊆ L) :
    t.touches L (commandTake s) ↔ t.touches L s := by
  simp only [List.cons_subset, List.nil_subset, and_true] at h
  unfold commandTake
  (repeat' split) <;> simp [h]

@[simp] theorem State.touches_sampleEvent (rs : List (BitVec 16)) (s : State) (h : [.kp, .mss] ⊆ L) :
    t.touches L (sampleEvent rs s) ↔ t.touches L s := by
  simp only [List.cons_subset, List.nil_subset, and_true] at h
  unfold sampleEvent
  split
  · rfl
  · dsimp only
    rw [State.touches_foldl]
    · simp [h]
    · intro s i
      (repeat' split) <;> simp [h]

@[simp] theorem State.touches_logWriteEvent (s : State) (h : [.arb, .kp, .memories] ⊆ L) :
    t.touches L (logWriteEvent s) ↔ t.touches L s := by
  simp only [List.cons_subset, List.nil_subset, and_true] at h
  unfold logWriteEvent
  (repeat' split) <;> simp [h]

@[simp] theorem State.touches_storePostEvent (s : State) (h : [.kp, .tmp] ⊆ L) :
    t.touches L (storePostEvent s) ↔ t.touches L s := by
  simp only [List.cons_subset, List.nil_subset, and_true] at h
  simp [storePostEvent, h]

@[simp] theorem State.touches_fetchEvent (q : QId) (ring : List Packet) (s : State) (h : [.gctl, .queues, .arb] ⊆ L) :
    t.touches L (fetchEvent q ring s) ↔ t.touches L s := by
  simp only [List.cons_subset, List.nil_subset, and_true] at h
  unfold fetchEvent
  dsimp only
  split
  · rfl
  · split
    next e => simp [State.touches_grantFor e, h]
    next => rfl

@[simp] theorem State.touches_failBegun (q : QId) (tag : BitVec 32) (s : State)
    (h : [.gctl, .queues, .led, .ru, .spn, .sl, .dig, .ks, .arb, .mss, .posted] ⊆ L) :
    t.touches L (State.failBegun q tag s) ↔ t.touches L s := by
  simp only [List.cons_subset, List.nil_subset, and_true] at h
  unfold State.failBegun
  (repeat' split) <;> simp [h]

@[simp] theorem State.touches_readCompletion (q : QId) (tag : BitVec 32) (r : ReadResult) (s : State)
    (h : [.gctl, .queues, .led, .ru, .spn, .sl, .dig, .ks, .arb, .mss, .posted] ⊆ L) :
    t.touches L (readCompletion q tag r s) ↔ t.touches L s := by
  simp only [List.cons_subset, List.nil_subset, and_true] at h
  unfold readCompletion
  (repeat' split) <;> simp [h]

@[simp] theorem State.touches_coalesceEvent (q : QId) (s : State) (h : [.gctl, .queues, .mem, .tmp, .mss, .posted, .aot] ⊆ L) :
    t.touches L (coalesceEvent q s) ↔ t.touches L s := by
  simp only [List.cons_subset, List.nil_subset, and_true] at h
  simp [coalesceEvent, h]

@[simp] theorem State.touches_drainEnd (q : QId) (s : State) (h : [.gctl, .queues, .led, .ru, .skn, .mss, .posted] ⊆ L) :
    t.touches L (drainEnd q s) ↔ t.touches L s := by
  simp only [List.cons_subset, List.nil_subset, and_true] at h
  unfold drainEnd
  (repeat' split) <;> simp [h]

@[simp] theorem State.touches_d3Entry (s : State) (h : [.gctl] ⊆ L) :
    t.touches L (d3Entry s) ↔ t.touches L s := by
  simp only [List.cons_subset, List.nil_subset, and_true] at h
  simp [d3Entry, h]

@[simp] theorem State.touches_d3Exit (s : State) (h : [.gctl, .ru, .posted] ⊆ L) :
    t.touches L (d3Exit s) ↔ t.touches L s := by
  simp only [List.cons_subset, List.nil_subset, and_true] at h
  simp [d3Exit, h]

@[simp] theorem State.touches_slewEnd (s : State) (h : [.gctl, .mem, .tmp, .mss, .aot] ⊆ L) :
    t.touches L (slewEnd s) ↔ t.touches L s := by
  simp only [List.cons_subset, List.nil_subset, and_true] at h
  simp [slewEnd, h]

@[simp] theorem State.touches_memAuth (addr : BitVec 64) (s : State)
    (h : [.gctl, .queues, .led, .ru, .spn, .sl, .dig, .ks, .arb, .skn, .kp, .tmp, .life, .mss, .card, .pwr, .posted] ⊆ L) :
    t.touches L (State.memAuth addr s) ↔ t.touches L s := by
  simp only [List.cons_subset, List.nil_subset, and_true] at h
  simp [State.memAuth, h]

@[simp] theorem State.touches_transferred (row : BitVec 20) (addr : BitVec 64) (r : EccResult) (s : State)
    (h : [.gctl, .queues, .led, .ru, .spn, .sl, .dig, .ks, .arb, .mem, .skn, .kp, .tmp, .life, .mss, .card, .pwr,
      .posted] ⊆ L) :
    t.touches L (State.transferred row addr r s).2 ↔ t.touches L s := by
  simp only [List.cons_subset, List.nil_subset, and_true] at h
  unfold State.transferred
  (repeat' split) <;> simp [h]

@[simp] theorem State.touches_readPair (r : EccResult) (s : State)
    (h : [.gctl, .queues, .led, .ru, .spn, .sl, .dig, .ks, .arb, .mem, .skn, .kp, .tmp, .life, .mss, .card, .pwr,
      .posted] ⊆ L) :
    t.touches L (readPair r s) ↔ t.touches L s := by
  simp only [List.cons_subset, List.nil_subset, and_true] at h
  unfold readPair
  dsimp only
  (repeat' split) <;> simp [h]

@[simp] theorem State.touches_fillEvent (n : Nat) (r : EccResult) (s : State)
    (h : [.gctl, .queues, .led, .ru, .spn, .sl, .dig, .ks, .arb, .mem, .skn, .kp, .tmp, .life, .mss, .card, .pwr,
      .posted] ⊆ L) :
    t.touches L (fillEvent n r s) ↔ t.touches L s := by
  simp only [List.cons_subset, List.nil_subset, and_true] at h
  simp [fillEvent, h]

@[simp] theorem State.touches_tableSwap (s : State) (h : [.gctl, .mem, .tmp, .mss, .aot] ⊆ L) :
    t.touches L (tableSwap s) ↔ t.touches L s := by
  simp only [List.cons_subset, List.nil_subset, and_true] at h
  simp [tableSwap, h]

@[simp] theorem State.touches_scrubEvent (row : BitVec 20) (r : EccResult) (s : State)
    (h : [.gctl, .queues, .led, .ru, .spn, .sl, .dig, .ks, .arb, .mem, .skn, .kp, .tmp, .life, .mss, .card, .pwr,
      .posted] ⊆ L) :
    t.touches L (scrubEvent row r s) ↔ t.touches L s := by
  simp only [List.cons_subset, List.nil_subset, and_true] at h
  simp [scrubEvent, h]

@[simp] theorem State.touches_writeMap (s : State) (h : [.arb, .kp] ⊆ L) :
    t.touches L (State.writeMap s) ↔ t.touches L s := by
  simp only [List.cons_subset, List.nil_subset, and_true] at h
  simp [State.writeMap, h]

@[simp] theorem State.touches_logSector (sector : Nat) (repl : Option Nat) (severity : Byte) (s : State) (h : [.kp] ⊆ L) :
    t.touches L (State.logSector sector repl severity s) ↔ t.touches L s := by
  simp only [List.cons_subset, List.nil_subset, and_true] at h
  simp [State.logSector, h]

@[simp] theorem State.touches_replaceSector (sector : Nat) (s : State) (h : [.arb, .kp, .memories] ⊆ L) :
    t.touches L (State.replaceSector sector s) ↔ t.touches L s := by
  simp only [List.cons_subset, List.nil_subset, and_true] at h
  unfold State.replaceSector
  (repeat' split) <;> simp [h]

@[simp] theorem State.touches_nextFrame (s : State) (h : [.arb, .kp, .memories] ⊆ L) :
    t.touches L (State.nextFrame s) ↔ t.touches L s := by
  simp only [List.cons_subset, List.nil_subset, and_true] at h
  unfold State.nextFrame
  (repeat' split) <;> simp [h]

@[simp] theorem State.touches_frameEvent (req : FlashReq) (s : State) (h : [.arb, .kp, .memories] ⊆ L) :
    t.touches L (frameEvent req s) ↔ t.touches L s := by
  simp only [List.cons_subset, List.nil_subset, and_true] at h
  simp [frameEvent, h]

@[simp] theorem State.touches_abandonFrame (w : FlashWrite) (s : State) (h : [.arb, .kp, .memories] ⊆ L) :
    t.touches L (State.abandonFrame w s) ↔ t.touches L s := by
  simp only [List.cons_subset, List.nil_subset, and_true] at h
  simp [State.abandonFrame, h]

@[simp] theorem State.touches_pageEvent (verified : Bool) (s : State) (h : [.arb, .kp, .memories] ⊆ L) :
    t.touches L (pageEvent verified s) ↔ t.touches L s := by
  simp only [List.cons_subset, List.nil_subset, and_true] at h
  unfold pageEvent
  (repeat' split) <;> simp [h]

@[simp] theorem State.touches_markerEvent (s : State) (h : [.arb, .kp, .memories] ⊆ L) :
    t.touches L (markerEvent s) ↔ t.touches L s := by
  simp only [List.cons_subset, List.nil_subset, and_true] at h
  unfold markerEvent
  (repeat' split) <;> simp [h]

@[simp] theorem State.touches_reclaimEvent (a : FlashArea) (s : State) (h : [.kp, .memories] ⊆ L) :
    t.touches L (reclaimEvent a s) ↔ t.touches L s := by
  simp only [List.cons_subset, List.nil_subset, and_true] at h
  simp [reclaimEvent, h]

@[simp] theorem State.touches_eraseEnd (blank : Bool) (s : State) (h : [.arb, .kp, .memories] ⊆ L) :
    t.touches L (eraseEnd blank s) ↔ t.touches L s := by
  simp only [List.cons_subset, List.nil_subset, and_true] at h
  unfold eraseEnd
  (repeat' split) <;> simp [h]

@[simp] theorem State.touches_tripEvent (s : State) (h : [.kp] ⊆ L) :
    t.touches L (tripEvent s) ↔ t.touches L s := by
  simp only [List.cons_subset, List.nil_subset, and_true] at h
  simp [tripEvent, h]

@[simp] theorem State.touches_releaseEvent (s : State) (h : [.arb, .kp, .memories] ⊆ L) :
    t.touches L (releaseEvent s) ↔ t.touches L s := by
  simp only [List.cons_subset, List.nil_subset, and_true] at h
  simp [releaseEvent, h]

@[simp] theorem State.touches_tearErase (s : State) (h : [.ks, .kp, .memories] ⊆ L) :
    t.touches L (State.tearErase s) ↔ t.touches L s := by
  simp only [List.cons_subset, List.nil_subset, and_true] at h
  unfold State.tearErase
  (repeat' split) <;> simp [h]

@[simp] theorem State.touches_tearFrame (whole : Bool) (s : State) (h : [.ks, .kp, .memories] ⊆ L) :
    t.touches L (State.tearFrame whole s) ↔ t.touches L s := by
  simp only [List.cons_subset, List.nil_subset, and_true] at h
  unfold State.tearFrame
  (repeat' split) <;> simp [h]

@[simp] theorem State.touches_tearRecord (whole : Bool) (s : State) (h : [.ks, .kp, .memories] ⊆ L) :
    t.touches L (State.tearRecord whole s) ↔ t.touches L s := by
  simp only [List.cons_subset, List.nil_subset, and_true] at h
  unfold State.tearRecord
  (repeat' split) <;> simp [h]

@[simp] theorem State.touches_stopKeeper (whole : Bool) (s : State) (h : [.ks, .kp, .memories] ⊆ L) :
    t.touches L (State.stopKeeper whole s) ↔ t.touches L s := by
  simp only [List.cons_subset, List.nil_subset, and_true] at h
  simp [State.stopKeeper, h]

@[simp] theorem State.touches_beginRecall (s : State) (h : [.gctl, .kp] ⊆ L) :
    t.touches L (State.beginRecall s) ↔ t.touches L s := by
  simp only [List.cons_subset, List.nil_subset, and_true] at h
  simp [State.beginRecall, h]

@[simp] theorem State.touches_logConflict (off : Nat) (s : State) (h : [.kp] ⊆ L) :
    t.touches L (State.logConflict off s) ↔ t.touches L s := by
  simp only [List.cons_subset, List.nil_subset, and_true] at h
  simp [State.logConflict, h]

@[simp] theorem State.touches_repair (off : Nat) (bs : Bytes) (s : State) (h : [.arb, .kp, .memories] ⊆ L) :
    t.touches L (State.repair off bs s) ↔ t.touches L s := by
  simp only [List.cons_subset, List.nil_subset, and_true] at h
  simp [State.repair, h]

@[simp] theorem State.touches_resolve (ok : Bytes → Bool) (off : Nat) (n : Nat) (s : State) (h : [.arb, .kp, .memories] ⊆ L) :
    t.touches L (State.resolve ok off n s) ↔ t.touches L s := by
  simp only [List.cons_subset, List.nil_subset, and_true] at h
  simp [State.resolve, h]

@[simp] theorem State.touches_resolveRing (s : State) (ring : Nat) (h : [.arb, .kp, .memories] ⊆ L) :
    t.touches L (State.resolveRing s ring) ↔ t.touches L s := by
  simp only [List.cons_subset, List.nil_subset, and_true] at h
  simp [State.resolveRing, h]

@[simp] theorem State.touches_readFeram (s : State)
    (h : [.ks, .arb, .kp, .memories] ⊆ L) : t.touches L s.readFeram ↔ t.touches L s := by
  simp only [List.cons_subset, List.nil_subset, and_true] at h
  have hr : ∀ (l : List Nat) (p : Bytes → Bool) (off : Nat → Nat) len (u : State),
      t.touches L (l.foldl (fun s e => s.resolve p (off e) len) u) ↔ t.touches L u := by simp [h]
  have hb : ∀ (l : List Nat) (u : State), t.touches L (l.foldl State.resolveRing u) ↔ t.touches L u := by simp [h]
  have hmk : ∀ (u : State) k, t.touches L { u with ks := k } ↔ t.touches L u := by simp [h]
  unfold State.readFeram
  rw [hmk, hb, hr, hr, hr]

@[simp] theorem State.touches_recallStage (n : Nat) (s : State) (h : [.ks, .arb, .kp, .pwr, .memories] ⊆ L) :
    t.touches L (State.recallStage n s) ↔ t.touches L s := by
  simp only [List.cons_subset, List.nil_subset, and_true] at h
  unfold State.recallStage
  (repeat' split) <;> simp [h]

@[simp] theorem State.touches_recallStageEvent (s : State) (h : [.ks, .arb, .kp, .pwr, .memories] ⊆ L) :
    t.touches L (recallStageEvent s) ↔ t.touches L s := by
  simp only [List.cons_subset, List.nil_subset, and_true] at h
  simp [recallStageEvent, h]

@[simp] theorem State.touches_recallEndEvent (s : State) (h : [.gctl, .arb, .kp, .memories] ⊆ L) :
    t.touches L (recallEndEvent s) ↔ t.touches L s := by
  simp only [List.cons_subset, List.nil_subset, and_true] at h
  simp [recallEndEvent, h]

@[simp] theorem State.touches_minuteEvent (s : State) (h : [.arb, .kp] ⊆ L) :
    t.touches L (minuteEvent s) ↔ t.touches L s := by
  simp only [List.cons_subset, List.nil_subset, and_true] at h
  simp [minuteEvent, h]

@[simp] theorem State.touches_floorEvent (s : State) (h : [.arb, .kp] ⊆ L) :
    t.touches L (floorEvent s) ↔ t.touches L s := by
  simp only [List.cons_subset, List.nil_subset, and_true] at h
  simp [floorEvent, h]

@[simp] theorem State.touches_logRepair (off : Nat) (done : Bool) (s : State) (h : [.kp] ⊆ L) :
    t.touches L (State.logRepair off done s) ↔ t.touches L s := by
  simp only [List.cons_subset, List.nil_subset, and_true] at h
  simp [State.logRepair, h]

@[simp] theorem State.touches_spendEntry (e : Nat) (s : State) (h : [.ks, .arb, .kp] ⊆ L) :
    t.touches L (State.spendEntry e s) ↔ t.touches L s := by
  simp only [List.cons_subset, List.nil_subset, and_true] at h
  simp [State.spendEntry, h]

@[simp] theorem State.touches_scrubPage (page : Nat) (r : FeScrub) (s : State) (h : [.ks, .arb, .kp] ⊆ L) :
    t.touches L (State.scrubPage page r s) ↔ t.touches L s := by
  simp only [List.cons_subset, List.nil_subset, and_true] at h
  unfold State.scrubPage
  (repeat' split) <;> simp [h]

@[simp] theorem State.touches_feramScrubEvent (r : FeScrub) (s : State) (h : [.ks, .arb, .kp] ⊆ L) :
    t.touches L (feramScrubEvent r s) ↔ t.touches L s := by
  simp only [List.cons_subset, List.nil_subset, and_true] at h
  simp [feramScrubEvent, h]

@[simp] theorem State.touches_relocate (sector : Nat) (s : State) (h : [.arb, .kp, .memories] ⊆ L) :
    t.touches L (State.relocate sector s) ↔ t.touches L s := by
  simp only [List.cons_subset, List.nil_subset, and_true] at h
  unfold State.relocate
  (repeat' split) <;> simp [h]

@[simp] theorem State.touches_flashScrubEvent (weak : Bool) (s : State) (h : [.arb, .kp, .memories] ⊆ L) :
    t.touches L (flashScrubEvent weak s) ↔ t.touches L s := by
  simp only [List.cons_subset, List.nil_subset, and_true] at h
  simp [flashScrubEvent, h]

@[simp] theorem State.touches_endSideReplies (hs : List Held) (s : State) (h : [.gctl, .queues, .mss, .posted] ⊆ L) :
    t.touches L (State.endSideReplies hs s) ↔ t.touches L s := by
  simp only [List.cons_subset, List.nil_subset, and_true] at h
  simp [State.endSideReplies, h]

@[simp] theorem State.touches_finishTaken (s : State) (h : [.ks, .kp, .memories] ⊆ L) :
    t.touches L (State.finishTaken s) ↔ t.touches L s := by
  simp only [List.cons_subset, List.nil_subset, and_true] at h
  unfold State.finishTaken
  (repeat' split) <;> simp [h]

@[simp] theorem State.touches_cutResponse (s : State) (h : [.ks, .tmp, .mss] ⊆ L) :
    t.touches L (State.cutResponse s) ↔ t.touches L s := by
  simp only [List.cons_subset, List.nil_subset, and_true] at h
  simp [State.cutResponse, h]

@[simp] theorem State.touches_resetPlanes (s : State)
    (h : [.gctl, .queues, .epochBase, .domains, .led, .ru, .spn, .sl, .dig, .ks, .arb, .mem, .skn, .kp, .tmp, .mss, .card,
      .pwr, .posted, .memories, .ran] ⊆ L) :
    t.touches L (State.resetPlanes s) ↔ t.touches L s := by
  simp only [List.cons_subset, List.nil_subset, and_true] at h
  simp [State.resetPlanes, h]

@[simp] theorem State.touches_startPlanes (sknHead : Bool) (s : State) (h : [.ks, .skn, .tmp, .pwr] ⊆ L) :
    t.touches L (State.startPlanes sknHead s) ↔ t.touches L s := by
  simp only [List.cons_subset, List.nil_subset, and_true] at h
  simp [State.startPlanes, h]

@[simp] theorem State.touches_sysReset (bit : Nat) (kind : Nat) (s : State)
    (h : [.gctl, .queues, .epochBase, .domains, .led, .ru, .spn, .sl, .dig, .ks, .arb, .mem, .skn, .kp, .tmp, .mss, .card,
      .pwr, .posted, .memories, .ran] ⊆ L) :
    t.touches L (State.sysReset bit kind s) ↔ t.touches L s := by
  simp only [List.cons_subset, List.nil_subset, and_true] at h
  simp [State.sysReset, h]

@[simp] theorem State.touches_sysRstEvent (s : State)
    (h : [.gctl, .queues, .epochBase, .domains, .led, .ru, .spn, .sl, .dig, .ks, .arb, .mem, .skn, .kp, .tmp, .mss, .card,
      .pwr, .posted, .memories, .ran] ⊆ L) :
    t.touches L (sysRstEvent s) ↔ t.touches L s := by
  simp only [List.cons_subset, List.nil_subset, and_true] at h
  simp [sysRstEvent, h]

@[simp] theorem State.touches_sysReleaseEvent (sknHead : Bool) (s : State) (h : [.ks, .skn, .tmp, .pwr] ⊆ L) :
    t.touches L (sysReleaseEvent sknHead s) ↔ t.touches L s := by
  simp only [List.cons_subset, List.nil_subset, and_true] at h
  simp [sysReleaseEvent, h]

@[simp] theorem State.touches_supplyResetEvent (s : State)
    (h : [.gctl, .queues, .epochBase, .domains, .led, .ru, .spn, .sl, .dig, .ks, .arb, .mem, .skn, .kp, .tmp, .mss, .card,
      .pwr, .posted, .memories, .ran] ⊆ L) :
    t.touches L (supplyResetEvent s) ↔ t.touches L s := by
  simp only [List.cons_subset, List.nil_subset, and_true] at h
  simp [supplyResetEvent, h]

@[simp] theorem State.touches_supplyReleaseEvent (sknHead : Bool) (s : State) (h : [.ks, .skn, .tmp, .pwr] ⊆ L) :
    t.touches L (supplyReleaseEvent sknHead s) ↔ t.touches L s := by
  simp only [List.cons_subset, List.nil_subset, and_true] at h
  simp [supplyReleaseEvent, h]

@[simp] theorem State.touches_lifeResetEvent (s : State)
    (h : [.gctl, .queues, .epochBase, .domains, .led, .ru, .spn, .sl, .dig, .ks, .arb, .mem, .skn, .kp, .tmp, .life, .mss,
      .card, .pwr, .posted, .memories, .ran] ⊆ L) :
    t.touches L (lifeResetEvent s) ↔ t.touches L s := by
  simp only [List.cons_subset, List.nil_subset, and_true] at h
  simp [lifeResetEvent, h]

@[simp] theorem State.touches_resetMssFully (s : State) (h : [.arb, .kp, .tmp, .life, .mss] ⊆ L) :
    t.touches L (State.resetMssFully s) ↔ t.touches L s := by
  simp only [List.cons_subset, List.nil_subset, and_true] at h
  simp [State.resetMssFully, h]

@[simp] theorem State.touches_resetAll (whole : Bool) (s : State)
    (h : [.gctl, .queues, .epochBase, .domains, .led, .ru, .spn, .sl, .dig, .ks, .arb, .mem, .skn, .kp, .tmp, .life, .mss,
      .card, .pwr, .posted, .memories, .ran] ⊆ L) :
    t.touches L (State.resetAll whole s) ↔ t.touches L s := by
  simp only [List.cons_subset, List.nil_subset, and_true] at h
  simp [State.resetAll, h]

@[simp] theorem State.touches_porEvent (s : State)
    (h : [.gctl, .queues, .epochBase, .domains, .led, .ru, .spn, .sl, .dig, .ks, .arb, .mem, .skn, .kp, .tmp, .life, .mss,
      .card, .pwr, .posted, .memories, .ran] ⊆ L) :
    t.touches L (porEvent s) ↔ t.touches L s := by
  simp only [List.cons_subset, List.nil_subset, and_true] at h
  simp [porEvent, h]

@[simp] theorem State.touches_loseBackup (s : State) (h : [.gctl, .ks, .tmp, .aot] ⊆ L) :
    t.touches L (State.loseBackup s) ↔ t.touches L s := by
  unfold State.loseBackup
  dsimp only
  (repeat' split) <;> simp_all [State.pair_eq_iff]

@[simp] theorem State.touches_powerFailEvent (vholdInSpec : Bool) (cellPresent : Bool) (s : State)
    (h : [.gctl, .queues, .epochBase, .domains, .led, .ru, .spn, .sl, .dig, .ks, .arb, .mem, .skn, .kp, .tmp, .life, .mss,
      .card, .pwr, .posted, .memories, .aot, .ran] ⊆ L) :
    t.touches L (powerFailEvent vholdInSpec cellPresent s) ↔ t.touches L s := by
  simp only [List.cons_subset, List.nil_subset, and_true] at h
  simp [powerFailEvent, h]

@[simp] theorem State.touches_checkBackup (s : State) (h : [.kp, .tmp] ⊆ L) :
    t.touches L (State.checkBackup s) ↔ t.touches L s := by
  unfold State.checkBackup
  dsimp only
  (repeat' split) <;> simp_all [State.pair_eq_iff]

@[simp] theorem State.touches_porReleaseEvent (sknHead : Bool) (v18 : Bool) (s : State)
    (h : [.gctl, .ks, .skn, .kp, .tmp, .mss, .card, .pwr] ⊆ L) :
    t.touches L (porReleaseEvent sknHead v18 s) ↔ t.touches L s := by
  simp only [List.cons_subset, List.nil_subset, and_true] at h
  simp [porReleaseEvent, h]

@[simp] theorem State.touches_linkReset (bit : Nat) (kind : Nat) (s : State)
    (h : [.gctl, .queues, .epochBase, .led, .ru, .spn, .sl, .dig, .ks, .arb, .skn, .kp, .mss, .pwr, .posted] ⊆ L) :
    t.touches L (State.linkReset bit kind s) ↔ t.touches L s := by
  simp only [List.cons_subset, List.nil_subset, and_true] at h
  simp [State.linkReset, h]

@[simp] theorem State.touches_perstEvent (s : State)
    (h : [.gctl, .queues, .epochBase, .led, .ru, .spn, .sl, .dig, .ks, .arb, .skn, .kp, .mss, .pwr, .posted] ⊆ L) :
    t.touches L (perstEvent s) ↔ t.touches L s := by
  simp only [List.cons_subset, List.nil_subset, and_true] at h
  simp [perstEvent, h]

@[simp] theorem State.touches_trainLink (s : State) (h : [.gctl] ⊆ L) :
    t.touches L (State.trainLink s) ↔ t.touches L s := by
  simp only [List.cons_subset, List.nil_subset, and_true] at h
  simp [State.trainLink, h]

@[simp] theorem State.touches_perstReleaseEvent (s : State) (h : [.gctl] ⊆ L) :
    t.touches L (perstReleaseEvent s) ↔ t.touches L s := by
  simp only [List.cons_subset, List.nil_subset, and_true] at h
  simp [perstReleaseEvent, h]

@[simp] theorem State.touches_flrEvent (s : State)
    (h : [.gctl, .queues, .epochBase, .led, .ru, .spn, .sl, .dig, .ks, .arb, .skn, .kp, .mss, .pwr, .posted] ⊆ L) :
    t.touches L (flrEvent s) ↔ t.touches L s := by
  simp only [List.cons_subset, List.nil_subset, and_true] at h
  simp [flrEvent, h]

@[simp] theorem State.touches_pllsUp (s : State) (h : [.gctl, .spn, .tmp, .pwr] ⊆ L) :
    t.touches L (State.pllsUp s) ↔ t.touches L s := by
  simp only [List.cons_subset, List.nil_subset, and_true] at h
  simp [State.pllsUp, h]

@[simp] theorem State.touches_pllCheck (pll : Pll) (locked : Bool) (s : State)
    (h : [.gctl, .queues, .led, .ru, .spn, .sl, .dig, .ks, .arb, .skn, .kp, .tmp, .life, .mss, .card, .pwr, .posted] ⊆ L) :
    t.touches L (pllCheck pll locked s) ↔ t.touches L s := by
  simp only [List.cons_subset, List.nil_subset, and_true] at h
  simp [pllCheck, h]

@[simp] theorem State.touches_katAtStart (pass : Nat → Bool) (s : State) (n : Nat) (h : [.gctl, .spn, .arb, .kp, .posted] ⊆ L) :
    t.touches L (State.katAtStart pass s n) ↔ t.touches L s := by
  simp only [List.cons_subset, List.nil_subset, and_true] at h
  simp [State.katAtStart, h]

@[simp] theorem State.touches_testsAtStart (entropyOk : Bool) (kats : BitVec 40) (s : State)
    (h : [.gctl, .spn, .ks, .arb, .kp, .pwr, .posted] ⊆ L) :
    t.touches L (testsAtStart entropyOk kats s) ↔ t.touches L s := by
  simp only [List.cons_subset, List.nil_subset, and_true] at h
  simp [testsAtStart, h]

@[simp] theorem State.touches_firstShare (s : State) (h : [.ks] ⊆ L) :
    t.touches L (State.firstShare s) ↔ t.touches L s := by
  simp only [List.cons_subset, List.nil_subset, and_true] at h
  simp [State.firstShare, h]

@[simp] theorem State.touches_rootEvent (s : State) (h : [.ks, .pwr] ⊆ L) :
    t.touches L (rootEvent s) ↔ t.touches L s := by
  simp only [List.cons_subset, List.nil_subset, and_true] at h
  simp [rootEvent, h]

@[simp] theorem State.touches_trainingEnd (trained : Bool) (s : State) (h : [.mem, .kp] ⊆ L) :
    t.touches L (trainingEnd trained s) ↔ t.touches L s := by
  simp only [List.cons_subset, List.nil_subset, and_true] at h
  simp [trainingEnd, h]

@[simp] theorem State.touches_initEnd (s : State) (h : [.mem, .pwr] ⊆ L) :
    t.touches L (initEnd s) ↔ t.touches L s := by
  simp only [List.cons_subset, List.nil_subset, and_true] at h
  simp [initEnd, h]

@[simp] theorem State.touches_loadSets (b : Bool) (s : State) (h : [.kp, .mss] ⊆ L) :
    t.touches L (State.loadSets b s) ↔ t.touches L s := by
  simp only [List.cons_subset, List.nil_subset, and_true] at h
  simp [State.loadSets, h]

@[simp] theorem State.touches_bootEvent (s : State) (h : [.arb, .kp, .mss, .pwr, .memories] ⊆ L) :
    t.touches L (bootEvent s) ↔ t.touches L s := by
  simp only [List.cons_subset, List.nil_subset, and_true] at h
  unfold bootEvent
  dsimp only
  (repeat' split) <;> simp [h]

@[simp] theorem State.touches_archiveEvent (s : State) (h : [.ru, .sl, .ks, .pwr] ⊆ L) :
    t.touches L (archiveEvent s) ↔ t.touches L s := by
  simp only [List.cons_subset, List.nil_subset, and_true] at h
  simp [archiveEvent, h]

@[simp] theorem State.touches_logCandidates (cs : List CommitRec) (s : State) (h : [.kp] ⊆ L) :
    t.touches L (State.logCandidates cs s) ↔ t.touches L s := by
  simp only [List.cons_subset, List.nil_subset, and_true] at h
  unfold State.logCandidates
  (repeat' split) <;> simp [h]

@[simp] theorem State.touches_adopt (r : CommitRec) (s : State) (h : [.led, .ru] ⊆ L) :
    t.touches L (State.adopt r s) ↔ t.touches L s := by
  simp only [List.cons_subset, List.nil_subset, and_true] at h
  simp [State.adopt, h]

@[simp] theorem State.touches_recoveryGroup (tot : Totals) (s : State) (h : [.led] ⊆ L) :
    t.touches L (State.recoveryGroup tot s) ↔ t.touches L s := by
  simp only [List.cons_subset, List.nil_subset, and_true] at h
  simp [State.recoveryGroup, h]

@[simp] theorem State.touches_recoverLedger (s : State) (h : [.gctl, .queues, .led, .ru, .skn, .kp, .mss, .posted] ⊆ L) :
    t.touches L (State.recoverLedger s) ↔ t.touches L s := by
  simp only [List.cons_subset, List.nil_subset, and_true] at h
  unfold State.recoverLedger
  dsimp only
  (repeat' split) <;> simp [h]

@[simp] theorem State.touches_reloadCurve (s : State) (slot : Nat) (h : [.spn, .ks, .kp] ⊆ L) :
    t.touches L (State.reloadCurve s slot) ↔ t.touches L s := by
  simp only [List.cons_subset, List.nil_subset, and_true] at h
  unfold State.reloadCurve
  (repeat' split) <;> simp [h]

@[simp] theorem State.touches_reloadCurves (s : State) (h : [.spn, .ks, .kp] ⊆ L) :
    t.touches L (State.reloadCurves s) ↔ t.touches L s := by
  simp only [List.cons_subset, List.nil_subset, and_true] at h
  simp [State.reloadCurves, h]

@[simp] theorem State.touches_recoveryEvent (s : State)
    (h : [.gctl, .queues, .led, .ru, .spn, .ks, .skn, .kp, .mss, .pwr, .posted] ⊆ L) :
    t.touches L (recoveryEvent s) ↔ t.touches L s := by
  simp only [List.cons_subset, List.nil_subset, and_true] at h
  simp [recoveryEvent, h]

@[simp] theorem State.touches_readyEvent (s : State) (h : [.gctl, .kp, .pwr] ⊆ L) :
    t.touches L (readyEvent s) ↔ t.touches L s := by
  simp only [List.cons_subset, List.nil_subset, and_true] at h
  simp [readyEvent, h]

@[simp] theorem State.touches_idleEvent (u : Byte) (s : State) (h : [.pwr] ⊆ L) :
    t.touches L (idleEvent u s) ↔ t.touches L s := by
  simp only [List.cons_subset, List.nil_subset, and_true] at h
  simp [idleEvent, h]

@[simp] theorem State.touches_dozeEvent (s : State) (h : [.gctl, .mem, .skn, .tmp, .mss, .pwr, .aot] ⊆ L) :
    t.touches L (dozeEvent s) ↔ t.touches L s := by
  simp only [List.cons_subset, List.nil_subset, and_true] at h
  simp [dozeEvent, h]

@[simp] theorem State.touches_wakeEvent (src : WakeSrc) (s : State) (h : [.pwr] ⊆ L) :
    t.touches L (wakeEvent src s) ↔ t.touches L s := by
  simp only [List.cons_subset, List.nil_subset, and_true] at h
  unfold wakeEvent
  (repeat' split) <;> simp [h]

@[simp] theorem State.touches_applyHeld (s : State) (w : HeldWrite)
    (h : [.gctl, .queues, .led, .ru, .spn, .sl, .dig, .ks, .arb, .mem, .skn, .kp, .tmp, .life, .mss, .card, .pwr,
      .posted] ⊆ L) :
    t.touches L (State.applyHeld s w) ↔ t.touches L s := by
  simp only [List.cons_subset, List.nil_subset, and_true] at h
  unfold State.applyHeld
  (repeat' split) <;> simp [h]

@[simp] theorem State.touches_wakeEnd (s : State)
    (h : [.gctl, .queues, .led, .ru, .spn, .sl, .dig, .ks, .arb, .mem, .skn, .kp, .tmp, .life, .mss, .card, .pwr, .posted,
      .aot] ⊆ L) :
    t.touches L (wakeEnd s) ↔ t.touches L s := by
  simp only [List.cons_subset, List.nil_subset, and_true] at h
  simp [wakeEnd, h]

@[simp] theorem State.touches_flushPlanes (s : State) (h : [.led, .ru] ⊆ L) :
    t.touches L (State.flushPlanes s) ↔ t.touches L s := by
  simp only [List.cons_subset, List.nil_subset, and_true] at h
  simp [State.flushPlanes, h]

@[simp] theorem State.touches_resetUnits (s : State) (h : [.spn, .sl, .dig, .ran] ⊆ L) :
    t.touches L (State.resetUnits s) ↔ t.touches L s := by
  simp only [List.cons_subset, List.nil_subset, and_true] at h
  simp [State.resetUnits, h]

@[simp] theorem State.touches_losePool (n : PoolId) (s : State)
    (h : [.gctl, .queues, .led, .ru, .spn, .sl, .dig, .ks, .arb, .skn, .kp, .tmp, .life, .mss, .card, .pwr, .posted] ⊆ L) :
    t.touches L (State.losePool n s) ↔ t.touches L s := by
  simp only [List.cons_subset, List.nil_subset, and_true] at h
  simp [State.losePool, h]

@[simp] theorem State.touches_dataResetEvent (bad : Option PoolId) (s : State)
    (h : [.gctl, .queues, .led, .ru, .spn, .sl, .dig, .ks, .arb, .mem, .skn, .kp, .tmp, .life, .mss, .card, .pwr, .posted,
      .aot, .ran] ⊆ L) :
    t.touches L (dataResetEvent bad s) ↔ t.touches L s := by
  simp only [List.cons_subset, List.nil_subset, and_true] at h
  unfold dataResetEvent
  (repeat' split) <;> simp [h]

theorem State.touches_partBody {p : Packet} {body : Ctx → State → Out} (e : partBody p = some body) (x : Ctx) (s : State)
    (h : [.gctl, .queues, .led, .ru, .spn, .sl, .dig, .ks, .arb, .skn, .kp, .mss, .posted, .memories, .ran] ⊆ L) :
    t.touches L (body x s).s ↔ t.touches L s := by
  simp only [List.cons_subset, List.nil_subset, and_true] at h
  unfold partBody at e
  split at e <;> cases e <;> simp [h]

@[simp] theorem State.touches_partDone (c : Cmd) (rest : List Part) (cyc : Nat) (s : State)
    (h : [.gctl, .queues, .led, .ru, .spn, .sl, .dig, .ks, .arb, .skn, .kp, .mss, .posted, .memories, .ran] ⊆ L) :
    t.touches L (s.partDone c rest cyc) ↔ t.touches L s := by
  simp only [List.cons_subset, List.nil_subset, and_true] at h
  unfold State.partDone
  split
  next x body hx e =>
    have hb := fun x s => State.touches_partBody (L := L) (t := t) e x s (by simp [h])
    split <;> simp [h, hb]
  next => rfl

@[simp] theorem State.touches_spindleJobEndEvent (n : Nat) (glitch : BitVec 512) (s : State)
    (h : [.gctl, .queues, .led, .ru, .spn, .sl, .dig, .ks, .arb, .skn, .kp, .mss, .posted, .memories, .ran] ⊆ L) :
    t.touches L (spindleJobEndEvent n glitch s) ↔ t.touches L s := by
  simp only [List.cons_subset, List.nil_subset, and_true] at h
  unfold spindleJobEndEvent
  dsimp only
  (repeat' split) <;> simp [h]

end

end Sys2Proof.Machine
end

section
/-! PROOFS. The frame of every row, and that every command on units the device has answers. -/

namespace Sys2Proof.Machine

set_option Elab.async false

/-- The parts of a component. -/
def Component.aspects : Component → List Aspect
  | .gctl => [.gctl] | .queues => [.queues] | .epochBase => [.epochBase] | .domains => [.domains] | .led => [.led] | .ru => [.ru]
  | .spn => [.spn, .ran] | .sl => [.sl] | .dig => [.dig] | .ks => [.ks] | .arb => [.arb] | .mem => [.mem] | .skn => [.skn]
  | .kp => [.kp, .memories] | .tmp => [.tmp, .aot] | .life => [.life, .fuses] | .mss => [.mss] | .card => [.card] | .pwr => [.pwr]
  | .posted => [.posted] | .pending => [.pending]

/-- The component that a part belongs to. -/
def Aspect.component : Aspect → Component
  | .gctl => .gctl | .queues => .queues | .epochBase => .epochBase | .domains => .domains | .led => .led | .ru => .ru
  | .spn => .spn | .sl => .sl | .dig => .dig | .ks => .ks | .arb => .arb | .mem => .mem | .skn => .skn | .kp => .kp | .tmp => .tmp
  | .life => .life | .mss => .mss | .card => .card | .pwr => .pwr | .posted => .posted | .pending => .pending
  | .memories => .kp | .fuses => .life | .aot => .tmp | .ran => .spn

theorem Component.of_mem_aspects {p : Component} {a : Aspect} (h : a ∈ p.aspects) : a.component = p := by
  cases p
  case spn | kp | tmp | life =>
    obtain rfl | rfl := List.mem_pair.1 h <;> rfl
  all_goals
    cases List.mem_singleton.1 h
    rfl

theorem Keeper.eq_of_others {k l : Keeper} (h : k.others = l.others) (hm : (k.fe0, k.fe1, k.flash) = (l.fe0, l.fe1, l.flash)) :
    k = l := by
  cases k
  cases l
  simp_all [Keeper.others]

theorem Life.eq_of_others {k l : Life} (h : k.others = l.others) (hm : (k.serial, k.count) = (l.serial, l.count)) : k = l := by
  cases k
  cases l
  simp_all [Life.others]

theorem Tamper.eq_of_others {k l : Tamper} (h : k.others = l.others) (hm : k.aotAcc = l.aotAcc) : k = l := by
  cases k
  cases l
  simp_all [Tamper.others]

theorem SpindleUnit.eq_of_others {k l : SpindleUnit} (h : k.others = l.others) (hm : k.ran = l.ran) : k = l := by
  cases k
  cases l
  simp_all [SpindleUnit.others]

/-- The rows that write to a memory of the keeper die. -/
def writesMemories : Instr → Bool
  | .curveLoadLoad .. | .curveLoadClear .. | .keyLoadBlob .. | .keyGenerate .. | .mapSet .. | .nodeMemberAdmit .. |
    .nodeMemberRetire .. | .enrol .. | .nvmRawWrite .. | .fwStageBegin .. | .fwStageChunk .. | .fwStageEnd .. |
    .fwActivateMssReboot .. | .settingSet .. | .settingDefault .. | .commitBank0Written .. | .commitDurable .. |
    .genTableWriteDurable .. | .checkpointRootDurable .. | .spindleJobEnd .. | .skeinGroupReceive .. |
    .skeinPacketReceive .. | .lifecyclePlaneReset .. | .por .. | .planeSupplyReset .. | .sysRst .. | .powerFailure .. |
    .vholdRelease .. | .commitDomainStop .. | .recallStageEnd .. | .recallEnd .. | .mssBoot .. | .controlPlaneBoot .. |
    .handoverSetIdle .. | .handoverSetLoaded .. | .eventLogWrite .. | .flashFrameWrite .. | .flashPageProgramDone .. |
    .flashMarkerDone .. | .flashSectorReclaim .. | .flashEraseDone .. | .flashScrub .. => true
  | _ => false

/-- The rows that blow a fuse. -/
def blowsFuses : Instr → Bool
  | .lifecycle .. | .enrol .. => true
  | _ => false

/-- The rows in which the always-on clock goes on. -/
def movesClock : Instr → Bool
  | .coalescingTimeout .. | .timeSlewEnd .. | .starvationFlag .. | .commitBoundary .. | .lockLapse .. | .memoryTableSwap ..
    | .powerFailure .. | .dozeEntry .. | .dozeWakeEnd .. | .dataPlaneDrainEnd .. => true
  | _ => false

/-- The rows in which a firmware command has a program run. -/
def runsPrograms : Instr → Bool
  | .poolCreateRecover .. | .poolLoad .. | .poolFreezeRecovery .. | .ledgerAuditTotals .. | .writeOff .. | .admitSerial .. |
    .pubkeyLoad .. | .curveLoadLoad .. | .keyLoadBlob .. | .keyGenerate .. | .keyReplace .. | .spindleJobEnd .. |
    .skeinGroupReceive .. | .skeinPacketReceive .. | .routedCommand .. | .lifecyclePlaneReset .. | .por .. |
    .planeSupplyReset .. | .sysRst .. | .powerFailure .. | .dataPlaneDrainEnd .. => true
  | _ => false

/-- A row touches a part of the state. -/
def touchedBy (c : Instr) (a : Aspect) : Bool :=
  (mayChange c).contains a.component &&
    match a with
    | .memories => writesMemories c
    | .fuses => blowsFuses c
    | .aot => movesClock c
    | .ran => runsPrograms c
    | _ => true

/-- Every part of the state. -/
def allAspects : List Aspect :=
  [.gctl, .queues, .epochBase, .domains, .led, .ru, .spn, .sl, .dig, .ks, .arb, .mem, .skn, .kp, .tmp, .life, .mss, .card, .pwr,
   .posted, .pending, .memories, .fuses, .aot, .ran]

/-- The parts of the state that a row touches. -/
def mayTouch (c : Instr) : List Aspect := allAspects.filter (touchedBy c)

@[simp] theorem mem_mayTouch {c : Instr} {a : Aspect} : a ∈ mayTouch c ↔ touchedBy c a = true := by
  have ha : a ∈ allAspects := by cases a <;> decide
  simp [mayTouch, ha]

theorem subset_mayTouch {c : Instr} {K : List Aspect} (h : K.all (touchedBy c) = true) : K ⊆ mayTouch c :=
  fun _ ha => mem_mayTouch.2 (List.all_eq_true.1 h _ ha)

/-- The outcome is a next state that differs from `s` in listed components only. -/
def Within (L : List Aspect) (s : State) (o : Host.Outcome State Fault Refusal) : Prop := ∃ t, o = .next t ∧ s.touches L t

section
variable {L : List Aspect} {s t : State} {f : State → State}

theorem within_sub {K : List Aspect} (hK : K ⊆ L) (h : s.touches K t) : Within L s (.next t) :=
  ⟨t, rfl, fun p hp => h p fun hk => hp (hK hk)⟩

theorem within_event (h : s.touches L t ↔ s.touches L s) : Within L s (.next t) := ⟨t, rfl, h.2 (State.touches_self L s)⟩

/-- A packet's row touches what its body does, and what taking and answering a packet does. -/
theorem within_op {op : BitVec 16} {sub : Option Byte} {body : Ctx → State → Out} {c : Cmd}
    (hb : ∀ x u, s.touches L (body x u).s ↔ s.touches L u)
    (h : [.gctl, .queues, .led, .arb, .mss, .posted] ⊆ L) : Within L s (.next (runOp op sub body c s)) :=
  within_event (State.touches_runOp op sub body c s hb h)

theorem within_op_spindled {op : BitVec 16} {sub : Option Byte} {body : Ctx → State → Out} {c : Cmd}
    (hb : ∀ x u, s.touches L (body x u).s ↔ s.touches L u)
    (h : [.gctl, .queues, .led, .spn, .ks, .arb, .mss, .posted, .ran] ⊆ L) :
    Within L s (.next (runOp op sub (spindled body) c s)) :=
  within_event (State.touches_runOp_spindled op sub body c s hb h)

theorem within_card {op : BitVec 16} {sub : Option Byte} {body : Ctx → State → Out} {c : Cmd}
    (hb : ∀ x u, s.touches L (body x u).s ↔ s.touches L u)
    (h : [.gctl, .queues, .led, .arb, .mss, .posted] ⊆ L) : Within L s (.next (onCard op sub body c s)) :=
  within_event (State.touches_onCard op sub body c s hb h)

/-- The rows of the spindle instruction set touch the spindle, or what a job fault touches. -/
theorem within_isa {sp : BitVec 6} {g : Spindle → Option Spindle} {o : Host.Outcome State Fault Refusal}
    (ho : o = runIsa sp g s) (hn : sp.toNat < 40) (h : [.gctl, .queues, .led, .ru, .spn, .ks, .arb, .kp, .mss, .posted] ⊆ L) : Within L s o := by
  subst ho
  simp only [List.cons_subset, List.nil_subset, and_true] at h
  unfold runIsa
  rw [if_neg (Nat.not_le.2 hn)]
  dsimp only
  (repeat' split) <;> exact within_event (by simp [h])

theorem within_then {p : Prop} [Decidable p] {o e : Host.Outcome State Fault Refusal} (hp : p) (h : Within L s o) :
    Within L s (if p then o else e) := (if_pos hp).symm ▸ h

theorem within_else {p : Prop} [Decidable p] {o e : Host.Outcome State Fault Refusal} (hp : ¬ p) (h : Within L s e) :
    Within L s (if p then o else e) := (if_neg hp).symm ▸ h

theorem within_onSpindle {sp : BitVec 6} (hn : sp.toNat < 40) (h : s.touches L (f s) ↔ s.touches L s) :
    Within L s (onSpindle sp f s) := by
  rw [onSpindle, if_neg (Nat.not_le.2 hn)]
  exact within_event h
end

section
variable {c : Instr}

theorem Instr.spindle_lt {n : BitVec 6} (hw : c.wf = true) (h : c.spindle = some n) : n.toNat < 40 := by
  simp_all [Instr.wf]

theorem Instr.arbiter_lt {n : BitVec 6} (hw : c.wf = true) (h : c.arbiter = some n) : n.toNat < 34 := by
  simp_all [Instr.wf]

theorem Instr.source_lt {n : BitVec 5} (hw : c.wf = true) (h : c.source = some n) : n.toNat < 25 := by
  simp_all [Instr.wf]

theorem Instr.sealCtx_lt {n : Nat} (hw : c.wf = true) (h : c.sealCtx = some n) : n < 40960 := by
  simp_all [Instr.wf]

end

/-- Every row on units the device has answers a next state, in which only what it may change has changed. -/
theorem exec_within {c : Instr} (s : State) (hw : c.wf = true) : Within (mayTouch c) s (exec c s) := by
  cases c
  case nop => exact within_op (fun x u => State.touches_nopBody x u) (subset_mayTouch rfl)
  case queueCreate =>
    exact within_op (fun x u => State.touches_queueCreateBody x u (subset_mayTouch rfl)) (subset_mayTouch rfl)
  case queueDelete =>
    exact within_op (fun x u => State.touches_queueEndBody _ _ x u (subset_mayTouch rfl)) (subset_mayTouch rfl)
  case queueReset =>
    exact within_op (fun x u => State.touches_queueEndBody _ _ x u (subset_mayTouch rfl)) (subset_mayTouch rfl)
  case domainConfig =>
    exact within_op (fun x u => State.touches_domainConfigBody x u (subset_mayTouch rfl)) (subset_mayTouch rfl)
  case getInfo => exact within_op (fun x u => State.touches_getInfoBody x u) (subset_mayTouch rfl)
  case timeSet => exact within_op (fun x u => State.touches_timeSetBody x u (subset_mayTouch rfl)) (subset_mayTouch rfl)
  case lockAcquire =>
    exact within_op (fun x u => State.touches_lockAcquireBody x u (subset_mayTouch rfl)) (subset_mayTouch rfl)
  case lockRelease =>
    exact within_op (fun x u => State.touches_lockReleaseBody x u (subset_mayTouch rfl)) (subset_mayTouch rfl)
  case poolCreateNew =>
    exact within_op (fun x u => State.touches_poolCreateNewBody x u (subset_mayTouch rfl)) (subset_mayTouch rfl)
  case poolCreateRecover =>
    exact within_op_spindled (fun x u => State.touches_poolCreateRecoverBody x u (subset_mayTouch rfl)) (subset_mayTouch rfl)
  case poolLoad =>
    exact within_op_spindled (fun x u => State.touches_poolLoadBody x u (subset_mayTouch rfl)) (subset_mayTouch rfl)
  case issue => exact within_op (fun x u => State.touches_issueBody x u (subset_mayTouch rfl)) (subset_mayTouch rfl)
  case spoil => exact within_op (fun x u => State.touches_spoilBody _ x u (subset_mayTouch rfl)) (subset_mayTouch rfl)
  case void => exact within_op (fun x u => State.touches_spoilBody _ x u (subset_mayTouch rfl)) (subset_mayTouch rfl)
  case reclaim => exact within_op (fun x u => State.touches_reclaimBody x u (subset_mayTouch rfl)) (subset_mayTouch rfl)
  case poolQuery => exact within_op (fun x u => State.touches_poolQueryBody x u) (subset_mayTouch rfl)
  case poolFreezeSet =>
    exact within_op (fun x u => State.touches_poolFreezeSetBody x u (subset_mayTouch rfl)) (subset_mayTouch rfl)
  case poolFreezeClear =>
    exact within_op (fun x u => State.touches_poolFreezeClearBody x u (subset_mayTouch rfl)) (subset_mayTouch rfl)
  case poolFreezeRecovery =>
    exact within_op_spindled (fun x u => State.touches_poolFreezeRecoveryBody x u (subset_mayTouch rfl)) (subset_mayTouch rfl)
  case poolRetire =>
    exact within_op (fun x u => State.touches_poolRetireBody x u (subset_mayTouch rfl)) (subset_mayTouch rfl)
  case exportCard =>
    exact within_card (fun x u => State.touches_exportCardBody x u (subset_mayTouch rfl)) (subset_mayTouch rfl)
  case importCard =>
    exact within_card (fun x u => State.touches_importCardBody x u (subset_mayTouch rfl)) (subset_mayTouch rfl)
  case transferOut =>
    exact within_op (fun x u => State.touches_transferOutBody x u (subset_mayTouch rfl)) (subset_mayTouch rfl)
  case reconcileTransfer =>
    exact within_op (fun x u => State.touches_reconcileBody x u (subset_mayTouch rfl)) (subset_mayTouch rfl)
  case reconcileSlip =>
    exact within_card (fun x u => State.touches_reconcileBody x u (subset_mayTouch rfl)) (subset_mayTouch rfl)
  case ledgerAuditSum => exact within_op (fun x u => State.touches_ledgerAuditSumBody x u) (subset_mayTouch rfl)
  case ledgerAuditClearStrip =>
    exact within_op (fun x u => State.touches_ledgerAuditClearStripBody x u (subset_mayTouch rfl)) (subset_mayTouch rfl)
  case ledgerAuditTotals =>
    exact within_op_spindled (fun x u => State.touches_ledgerAuditTotalsBody x u (subset_mayTouch rfl)) (subset_mayTouch rfl)
  case writeOff =>
    exact within_op_spindled (fun x u => State.touches_writeOffBody x u (subset_mayTouch rfl)) (subset_mayTouch rfl)
  case admitSerial =>
    exact within_op_spindled (fun x u => State.touches_admitBody _ x u (subset_mayTouch rfl)) (subset_mayTouch rfl)
  case lookup => exact within_op (fun x u => State.touches_lookupBody _ x u (subset_mayTouch rfl)) (subset_mayTouch rfl)
  case enrolExternal =>
    exact within_op (fun x u => State.touches_enrolExternalBody _ x u (subset_mayTouch rfl)) (subset_mayTouch rfl)
  case checkpoint =>
    exact within_op (fun x u => State.touches_checkpointBody x u (subset_mayTouch rfl)) (subset_mayTouch rfl)
  case rebuildBegin =>
    exact within_op (fun x u => State.touches_rebuildBeginBody x u (subset_mayTouch rfl)) (subset_mayTouch rfl)
  case rebuildFeed =>
    exact within_op (fun x u => State.touches_rebuildFeedBody x u (subset_mayTouch rfl)) (subset_mayTouch rfl)
  case rebuildEnd =>
    exact within_op (fun x u => State.touches_rebuildEndBody x u (subset_mayTouch rfl)) (subset_mayTouch rfl)
  case journalAck =>
    exact within_op (fun x u => State.touches_journalAckBody x u (subset_mayTouch rfl)) (subset_mayTouch rfl)
  case purgeEntry =>
    exact within_op (fun x u => State.touches_purgeEntryBody _ x u (subset_mayTouch rfl)) (subset_mayTouch rfl)
  case purgePool =>
    exact within_op (fun x u => State.touches_purgePoolBody x u (subset_mayTouch rfl)) (subset_mayTouch rfl)
  case ctxOpen => exact within_op (fun x u => State.touches_ctxOpenBody x u (subset_mayTouch rfl)) (subset_mayTouch rfl)
  case sealData => exact within_op (fun x u => State.touches_sealBody _ x u (subset_mayTouch rfl)) (subset_mayTouch rfl)
  case sealFinal => exact within_op (fun x u => State.touches_sealBody _ x u (subset_mayTouch rfl)) (subset_mayTouch rfl)
  case openVerify =>
    exact within_op (fun x u => State.touches_openVerifyBody x u (subset_mayTouch rfl)) (subset_mayTouch rfl)
  case ctxSave => exact within_op (fun x u => State.touches_ctxSaveBody x u (subset_mayTouch rfl)) (subset_mayTouch rfl)
  case ctxRestore =>
    exact within_op (fun x u => State.touches_ctxRestoreBody x u (subset_mayTouch rfl)) (subset_mayTouch rfl)
  case ctxClose => exact within_op (fun x u => State.touches_ctxCloseBody x u (subset_mayTouch rfl)) (subset_mayTouch rfl)
  case sign => exact within_op (fun x u => State.touches_signBody x u (subset_mayTouch rfl)) (subset_mayTouch rfl)
  case verify => exact within_op (fun x u => State.touches_verifyBody x u (subset_mayTouch rfl)) (subset_mayTouch rfl)
  case pubkeyLoad =>
    exact within_op_spindled (fun x u => State.touches_pubkeyLoadBody x u (subset_mayTouch rfl)) (subset_mayTouch rfl)
  case bnJob => exact within_op (fun x u => State.touches_bnJobBody x u (subset_mayTouch rfl)) (subset_mayTouch rfl)
  case bnAbort => exact within_op (fun x u => State.touches_bnAbortBody x u (subset_mayTouch rfl)) (subset_mayTouch rfl)
  case curveLoadLoad =>
    exact within_op_spindled (fun x u => State.touches_curveLoadLoadBody x u (subset_mayTouch rfl)) (subset_mayTouch rfl)
  case curveLoadClear =>
    exact within_op (fun x u => State.touches_curveLoadClearBody x u (subset_mayTouch rfl)) (subset_mayTouch rfl)
  case hashInit => exact within_op (fun x u => State.touches_hashInitBody x u (subset_mayTouch rfl)) (subset_mayTouch rfl)
  case hashData => exact within_op (fun x u => State.touches_hashDataBody x u (subset_mayTouch rfl)) (subset_mayTouch rfl)
  case hashFinal =>
    exact within_op (fun x u => State.touches_hashFinalBody x u (subset_mayTouch rfl)) (subset_mayTouch rfl)
  case hashCompare =>
    exact within_op (fun x u => State.touches_hashCompareBody x u (subset_mayTouch rfl)) (subset_mayTouch rfl)
  case hashToKey =>
    exact within_op (fun x u => State.touches_hashToKeyBody x u (subset_mayTouch rfl)) (subset_mayTouch rfl)
  case hashClose =>
    exact within_op (fun x u => State.touches_hashCloseBody x u (subset_mayTouch rfl)) (subset_mayTouch rfl)
  case keyLoadBlob =>
    exact within_op_spindled (fun x u => State.touches_keyLoadBody x u (subset_mayTouch rfl)) (subset_mayTouch rfl)
  case keyGenerate =>
    exact within_op_spindled (fun x u => State.touches_keyGenerateBody x u (subset_mayTouch rfl)) (subset_mayTouch rfl)
  case keyWrapRewrap =>
    exact within_op (fun x u => State.touches_keyWrapRewrapBody x u (subset_mayTouch rfl)) (subset_mayTouch rfl)
  case keyWrapClear =>
    exact within_op (fun x u => State.touches_keyWrapClearBody x u (subset_mayTouch rfl)) (subset_mayTouch rfl)
  case keyWrapDmk =>
    exact within_op (fun x u => State.touches_keyWrapDmkBody x u (subset_mayTouch rfl)) (subset_mayTouch rfl)
  case keyReplace =>
    exact within_op_spindled (fun x u => State.touches_keyReplaceBody x u (subset_mayTouch rfl)) (subset_mayTouch rfl)
  case keyInvalidateDmk =>
    exact within_op (fun x u => State.touches_keyInvalidateDmkBody x u (subset_mayTouch rfl)) (subset_mayTouch rfl)
  case keyInvalidateEntry =>
    exact within_op (fun x u => State.touches_keyInvalidateEntryBody x u (subset_mayTouch rfl)) (subset_mayTouch rfl)
  case keyInvalidateFree =>
    exact within_op (fun x u => State.touches_keyInvalidateFreeBody x u (subset_mayTouch rfl)) (subset_mayTouch rfl)
  case keyEvict => exact within_op (fun x u => State.touches_keyEvictBody x u (subset_mayTouch rfl)) (subset_mayTouch rfl)
  case keyQuerySlot =>
    exact within_op (fun x u => State.touches_keyQuerySlotBody x u (subset_mayTouch rfl)) (subset_mayTouch rfl)
  case keyQueryEntry => exact within_op (fun x u => State.touches_keyQueryEntryBody x u) (subset_mayTouch rfl)
  case keyQuerySummary => exact within_op (fun x u => State.touches_keyQuerySummaryBody x u) (subset_mayTouch rfl)
  case nodeRegRead =>
    exact within_sub (K := [.gctl, .queues, .led, .ru, .spn, .sl, .dig, .ks, .arb, .mem, .skn, .kp, .tmp, .life, .mss, .card, .pwr, .posted]) (subset_mayTouch rfl) (by simp)
  case nodeRegWrite =>
    exact within_sub (K := [.gctl, .queues, .led, .ru, .spn, .sl, .dig, .ks, .arb, .mem, .skn, .kp, .tmp, .life, .mss, .card, .pwr, .posted]) (subset_mayTouch rfl) (by simp)
  case mapSet => exact within_op (fun x u => State.touches_mapSetBody x u (subset_mayTouch rfl)) (subset_mayTouch rfl)
  case mapGet => exact within_op (fun x u => State.touches_mapGetBody x u) (subset_mayTouch rfl)
  case nodeMemberAdmit =>
    exact within_op (fun x u => State.touches_nodeMemberBody x u (subset_mayTouch rfl)) (subset_mayTouch rfl)
  case nodeMemberRetire =>
    exact within_op (fun x u => State.touches_nodeMemberBody x u (subset_mayTouch rfl)) (subset_mayTouch rfl)
  case cardInfoReport => exact within_op (fun x u => State.touches_cardReportBody x u) (subset_mayTouch rfl)
  case cardInfoIdentify =>
    exact within_card (fun x u => State.touches_cardIdentifyBody x u (subset_mayTouch rfl)) (subset_mayTouch rfl)
  case cardFormat =>
    exact within_card (fun x u => State.touches_cardFormatBody x u (subset_mayTouch rfl)) (subset_mayTouch rfl)
  case cardRead =>
    exact within_card (fun x u => State.touches_cardReadBody x u (subset_mayTouch rfl)) (subset_mayTouch rfl)
  case cardClear =>
    exact within_card (fun x u => State.touches_cardClearBody x u (subset_mayTouch rfl)) (subset_mayTouch rfl)
  case cardAudit =>
    exact within_card (fun x u => State.touches_cardAuditBody x u (subset_mayTouch rfl)) (subset_mayTouch rfl)
  case sensorRead => exact within_op (fun x u => State.touches_sensorReadBody x u) (subset_mayTouch rfl)
  case logRead => exact within_op (fun x u => State.touches_logReadBody x u) (subset_mayTouch rfl)
  case challenge =>
    exact within_op (fun x u => State.touches_challengeBody x u (subset_mayTouch rfl)) (subset_mayTouch rfl)
  case lifecycle =>
    exact within_op (fun x u => State.touches_lifecycleBody x u (subset_mayTouch rfl)) (subset_mayTouch rfl)
  case unitServiceRemove =>
    exact within_op (fun x u => State.touches_unitServiceBody x u (subset_mayTouch rfl)) (subset_mayTouch rfl)
  case unitServiceReturn =>
    exact within_op (fun x u => State.touches_unitServiceBody x u (subset_mayTouch rfl)) (subset_mayTouch rfl)
  case unitServiceSpareRow =>
    exact within_op (fun x u => State.touches_unitServiceBody x u (subset_mayTouch rfl)) (subset_mayTouch rfl)
  case enrol => exact within_op (fun x u => State.touches_enrolBody x u (subset_mayTouch rfl)) (subset_mayTouch rfl)
  case tamperConfigRead => exact within_op (fun x u => State.touches_tamperReadBody x u) (subset_mayTouch rfl)
  case tamperConfigWrite =>
    exact within_op (fun x u => State.touches_tamperWriteBody x u (subset_mayTouch rfl)) (subset_mayTouch rfl)
  case tamperRelease =>
    exact within_op (fun x u => State.touches_tamperReleaseBody x u (subset_mayTouch rfl)) (subset_mayTouch rfl)
  case nvmRawRead =>
    exact within_op (fun x u => State.touches_rawReadBody x u (subset_mayTouch rfl)) (subset_mayTouch rfl)
  case nvmRawWrite =>
    exact within_op (fun x u => State.touches_rawWriteBody x u (subset_mayTouch rfl)) (subset_mayTouch rfl)
  case nvmPasswordSet =>
    exact within_op (fun x u => State.touches_passwordSetBody x u (subset_mayTouch rfl)) (subset_mayTouch rfl)
  case keeperStatus => exact within_op (fun x u => State.touches_keeperStatusBody x u) (subset_mayTouch rfl)
  case fwStageBegin =>
    exact within_op (fun x u => State.touches_stageBeginBody x u (subset_mayTouch rfl)) (subset_mayTouch rfl)
  case fwStageChunk =>
    exact within_op (fun x u => State.touches_stageChunkBody x u (subset_mayTouch rfl)) (subset_mayTouch rfl)
  case fwStageEnd =>
    exact within_op (fun x u => State.touches_stageEndBody x u (subset_mayTouch rfl)) (subset_mayTouch rfl)
  case fwStageAbandon =>
    exact within_op (fun x u => State.touches_stageAbandonBody x u (subset_mayTouch rfl)) (subset_mayTouch rfl)
  case fwActivateHandover =>
    exact within_op (fun x u => State.touches_handoverBody x u (subset_mayTouch rfl)) (subset_mayTouch rfl)
  case fwActivateMssReboot =>
    exact within_op (fun x u => State.touches_mssRebootBody x u (subset_mayTouch rfl)) (subset_mayTouch rfl)
  case fwActivateCommitSv =>
    exact within_op (fun x u => State.touches_commitSvBody x u (subset_mayTouch rfl)) (subset_mayTouch rfl)
  case fwStatus => exact within_op (fun x u => State.touches_fwStatusBody x u) (subset_mayTouch rfl)
  case settingGet => exact within_op (fun x u => State.touches_settingGetBody x u) (subset_mayTouch rfl)
  case settingSet =>
    exact within_op (fun x u => State.touches_settingSetBody x u (subset_mayTouch rfl)) (subset_mayTouch rfl)
  case settingDefault =>
    exact within_op (fun x u => State.touches_settingDefaultBody x u (subset_mayTouch rfl)) (subset_mayTouch rfl)
  case doorbellSqTail => 
    refine within_sub (K := [.gctl, .queues, .arb, .pwr, .posted]) (subset_mayTouch rfl) ?_
    split <;> simp
  case doorbellCqHead => exact within_event (State.touches_bar2 _ _ _ (subset_mayTouch rfl))
  case bar4DoorbellWrite => exact within_event (State.touches_bar4 _ _ _ (subset_mayTouch rfl))
  case gctlEnWrite => exact within_sub (K := [.gctl, .queues, .arb, .pwr]) (subset_mayTouch rfl) (by simp)
  case aqReset =>
    exact within_sub (K := [.gctl, .queues, .led, .ru, .skn, .mss, .pwr, .posted]) (subset_mayTouch rfl) (by simp)
  case evtTest => exact within_sub (K := [.gctl, .pwr, .posted]) (subset_mayTouch rfl) (by simp)
  case jrnlEnWrite => exact within_sub (K := [.gctl, .ru, .pwr, .posted]) (subset_mayTouch rfl) (by simp)
  case arbCounterClear => exact within_sub (K := [.arb, .pwr]) (subset_mayTouch rfl) (by simp)
  case starveClear => exact within_sub (K := [.arb, .pwr]) (subset_mayTouch rfl) (by simp)
  case msSwapRequest => exact within_sub (K := [.mem, .pwr]) (subset_mayTouch rfl) (by simp)
  case swapE => exact within_sub (K := [.skn, .pwr]) (subset_mayTouch rfl) (by simp)
  case swapW => exact within_sub (K := [.skn, .pwr]) (subset_mayTouch rfl) (by simp)
  case sknEnWrite => exact within_sub (K := [.skn, .pwr]) (subset_mayTouch rfl) (by simp)
  case dozeRequest => exact within_sub (K := [.pwr]) (subset_mayTouch rfl) (by simp)
  case dataPlaneReset => exact within_sub (K := [.pwr]) (subset_mayTouch rfl) (by simp)
  case mssReset =>
    exact within_sub (K := [.gctl, .queues, .arb, .kp, .tmp, .life, .mss, .pwr, .posted]) (subset_mayTouch rfl) (by simp)
  case registerWrite => exact within_event (State.touches_anyWrite _ _ _ _ (subset_mayTouch rfl))
  case dbErrQRead => exact within_event (State.touches_anyRead _ _ _ (subset_mayTouch rfl))
  case ledgerRefusedRead => exact within_event (State.touches_anyRead _ _ _ (subset_mayTouch rfl))
  case regStashRead => exact within_event (State.touches_anyRead _ _ _ (subset_mayTouch rfl))
  case regOpsRead => exact within_event (State.touches_anyRead _ _ _ (subset_mayTouch rfl))
  case spnJobsRead => exact within_event (State.touches_anyRead _ _ _ (subset_mayTouch rfl))
  case spnEventsRead => exact within_event (State.touches_anyRead _ _ _ (subset_mayTouch rfl))
  case sealMissRead => exact within_event (State.touches_anyRead _ _ _ (subset_mayTouch rfl))
  case sealEvtRead => exact within_event (State.touches_anyRead _ _ _ (subset_mayTouch rfl))
  case digEvtRead => exact within_event (State.touches_anyRead _ _ _ (subset_mayTouch rfl))
  case digUtilRead => exact within_event (State.touches_anyRead _ _ _ (subset_mayTouch rfl))
  case ksEvtRead => exact within_event (State.touches_anyRead _ _ _ (subset_mayTouch rfl))
  case arbWdogCntRead => exact within_event (State.touches_anyRead _ _ _ (subset_mayTouch rfl))
  case msEccRead => exact within_event (State.touches_anyRead _ _ _ (subset_mayTouch rfl))
  case sknCensusRead => exact within_event (State.touches_anyRead _ _ _ (subset_mayTouch rfl))
  case tmpCountRead => exact within_event (State.touches_anyRead _ _ _ (subset_mayTouch rfl))
  case tmpTestRead => exact within_event (State.touches_anyRead _ _ _ (subset_mayTouch rfl))
  case cardErrsRead => exact within_event (State.touches_anyRead _ _ _ (subset_mayTouch rfl))
  case pwrDozeCntRead => exact within_event (State.touches_anyRead _ _ _ (subset_mayTouch rfl))
  case gctlCycleLoRead => exact within_event (State.touches_anyRead _ _ _ (subset_mayTouch rfl))
  case ledgerLoRead => exact within_event (State.touches_anyRead _ _ _ (subset_mayTouch rfl))
  case regLoRead => exact within_event (State.touches_anyRead _ _ _ (subset_mayTouch rfl))
  case sealLoRead => exact within_event (State.touches_anyRead _ _ _ (subset_mayTouch rfl))
  case digLoRead => exact within_event (State.touches_anyRead _ _ _ (subset_mayTouch rfl))
  case packetFetch => exact within_event (State.touches_fetchEvent _ _ _ (subset_mayTouch rfl))
  case packetDecode => exact within_event (State.touches_decodeNext _ _ (subset_mayTouch rfl))
  case dispatch => exact within_event (State.touches_dispatchNext _ _ (subset_mayTouch rfl))
  case hostReadCompletion => exact within_event (State.touches_readCompletion _ _ _ _ (subset_mayTouch rfl))
  case coalescingTimeout => exact within_event (State.touches_coalesceEvent _ _ (subset_mayTouch rfl))
  case queueDrainEnd => exact within_event (State.touches_drainEnd _ _ (subset_mayTouch rfl))
  case d3hotEntry => exact within_event (State.touches_d3Entry _ (subset_mayTouch rfl))
  case d3hotExit => exact within_event (State.touches_d3Exit _ (subset_mayTouch rfl))
  case timeSlewEnd => exact within_event (State.touches_slewEnd _ (subset_mayTouch rfl))
  case arbiterGrant =>
    exact within_then (Instr.arbiter_lt hw rfl) (within_event (State.touches_grantEvent _ _ _ _ (subset_mayTouch rfl)))
  case starvationFlag =>
    exact within_then (Instr.arbiter_lt hw rfl) (within_event (State.touches_starveEvent _ _ _ (subset_mayTouch rfl)))
  case watchdogFire =>
    exact within_then (Instr.arbiter_lt hw rfl) (within_event (State.touches_watchdogEvent _ _ (subset_mayTouch rfl)))
  case commitBoundary => exact within_event (State.touches_boundaryEvent _ (subset_mayTouch rfl))
  case commitUnitTake => exact within_event (State.touches_takeEvent _ (subset_mayTouch rfl))
  case commitBank0Written => exact within_event (State.touches_bank0Event _ (subset_mayTouch rfl))
  case commitDurable => exact within_event (State.touches_durableEvent _ (subset_mayTouch rfl))
  case genTableWriteDurable => exact within_event (State.touches_genDurableEvent _ (subset_mayTouch rfl))
  case checkpointRootDurable => exact within_event (State.touches_rootDurableEvent _ (subset_mayTouch rfl))
  case forcedRecordRoom => exact within_event (State.touches_forcedRoomEvent _ (subset_mayTouch rfl))
  case lockLapse => exact within_event (State.touches_lapseEvent _ _ (subset_mayTouch rfl))
  case registerOperation => exact within_event (State.touches_regAcceptEvent _ _ (subset_mayTouch rfl))
  case registerReadPair => exact within_event (State.touches_readPair _ _ (subset_mayTouch rfl))
  case registerWriteBack => exact within_event (State.touches_writeBackBucketEvent _ (subset_mayTouch rfl))
  case checkpointStagingCopy => exact within_event (State.touches_stagingEvent _ _ (subset_mayTouch rfl))
  case checkpointRootFormed => exact within_event (State.touches_rootFormedEvent _ (subset_mayTouch rfl))
  case spindleJobEnd =>
    exact within_onSpindle (Instr.spindle_lt hw rfl) (State.touches_spindleJobEndEvent _ _ _ (subset_mayTouch rfl))
  case yieldPoint => exact within_onSpindle (Instr.spindle_lt hw rfl) (State.touches_yieldAt _ _ (subset_mayTouch rfl))
  case shadowSaveEnd => exact within_onSpindle (Instr.spindle_lt hw rfl) (State.touches_saveEnd _ _ (subset_mayTouch rfl))
  case shadowRestoreEnd =>
    exact within_onSpindle (Instr.spindle_lt hw rfl) (State.touches_restoreEnd _ _ (subset_mayTouch rfl))
  case knownAnswerTestEnd => 
    dsimp only [exec, execKnownAnswerTestEnd]
    refine within_else (Nat.not_le.2 (Instr.spindle_lt hw rfl)) ?_
    exact within_sub (K := [.gctl, .queues, .led, .spn, .ks, .arb, .mem, .skn, .kp, .mss, .posted]) (subset_mayTouch rfl) (by simp)
  case entropyBufferRefill =>
    exact within_onSpindle (Instr.spindle_lt hw rfl) (State.touches_refillEvent _ _ (subset_mayTouch rfl))
  case sealBlockAdmit =>
    exact within_else (Nat.not_le.2 (Instr.sealCtx_lt hw rfl)) (within_event (State.touches_blockAdmitEvent _ _ (subset_mayTouch rfl)))
  case sealBlockOut => exact within_event (State.touches_blockOutEvent _ (subset_mayTouch rfl))
  case sealTagFormed =>
    exact within_else (Nat.not_le.2 (Instr.sealCtx_lt hw rfl)) (within_event (State.touches_tagFormedEvent _ _ (subset_mayTouch rfl)))
  case contextCacheFill =>
    exact within_then (Instr.sealCtx_lt hw rfl) (within_event (State.touches_fillEvent _ _ _ (subset_mayTouch rfl)))
  case digestBlockDone => exact within_event (State.touches_digestBlockEvent _ _ (subset_mayTouch rfl))
  case sweepVisit => exact within_event (State.touches_sweepEvent _ (subset_mayTouch rfl))
  case entropyHealthFail => exact within_event (State.touches_healthFailEvent _ _ _ (subset_mayTouch rfl))
  case entropyReseed => exact within_event (State.touches_reseedEvent _ (subset_mayTouch rfl))
  case memoryTableSwap => exact within_event (State.touches_tableSwap _ (subset_mayTouch rfl))
  case scrubRead => exact within_event (State.touches_scrubEvent _ _ _ (subset_mayTouch rfl))
  case rowSpare => exact within_sub (K := [.mem, .kp]) (subset_mayTouch rfl) (by simp)
  case rowSpareDone => exact within_event (State.touches_rowSpared _ _ (subset_mayTouch rfl))
  case skeinTrainingDone => exact within_event (State.touches_trainingEvent _ _ _ _ (subset_mayTouch rfl))
  case skeinReconciliation =>
    exact within_sub (K := [.gctl, .queues, .led, .spn, .ks, .arb, .mem, .skn, .kp, .mss, .posted]) (subset_mayTouch rfl) (by simp)
  case skeinGroupReceive => exact within_event (State.touches_groupEvent _ _ _ _ _ (subset_mayTouch rfl))
  case skeinLinkFailure =>
    exact within_sub (K := [.gctl, .queues, .led, .spn, .ks, .arb, .mem, .skn, .kp, .mss, .posted]) (subset_mayTouch rfl) (by simp)
  case skeinPacketReceive => exact within_event (State.touches_packetEvent _ _ _ (subset_mayTouch rfl))
  case skeinForward => exact within_event (State.touches_drainEgress _ _ (subset_mayTouch rfl))
  case censusMarker => exact within_event (State.touches_censusEvent _ _ _ (subset_mayTouch rfl))
  case ringEnumeration => exact within_event (State.touches_enumerationEvent _ _ _ _ (subset_mayTouch rfl))
  case memberJoin => exact within_event (State.touches_joinEvent _ _ _ _ (subset_mayTouch rfl))
  case heartbeat => exact within_event (State.touches_heartbeatEvent _ _ (subset_mayTouch rfl))
  case lowRateReturn => exact within_event (State.touches_fullRateEvent _ _ (subset_mayTouch rfl))
  case bwTableSwap => exact within_event (State.touches_bwSwapEvent _ _ (subset_mayTouch rfl))
  case skeinRemoteHostAccess => exact within_event (State.touches_remoteAccess _ _ _ (subset_mayTouch rfl))
  case routedCommand => exact within_event (State.touches_routedCommandEvent _ _ _ _ (subset_mayTouch rfl))
  case routedReply => exact within_event (State.touches_routedReplyEvent _ _ _ (subset_mayTouch rfl))
  case routedTimeout => exact within_event (State.touches_routedTimeoutEvent _ _ (subset_mayTouch rfl))
  case transferReceive => exact within_event (State.touches_transferReceiveEvent _ _ _ _ _ _ (subset_mayTouch rfl))
  case transferAnswer => exact within_event (State.touches_transferAnswerEvent _ _ _ (subset_mayTouch rfl))
  case transferTimeout => exact within_event (State.touches_transferTimeoutEvent _ _ (subset_mayTouch rfl))
  case transferDoneReceive => exact within_event (State.touches_transferDoneEvent _ _ (subset_mayTouch rfl))
  case transferQueryReceive => exact within_event (State.touches_transferQueryEvent _ _ _ (subset_mayTouch rfl))
  case reconcileAnswer => exact within_event (State.touches_reconcileAnswerEvent _ _ _ (subset_mayTouch rfl))
  case mapSwitch => exact within_event (State.touches_mapSwitchEvent _ (subset_mayTouch rfl))
  case memberUnreachable => exact within_event (State.touches_unreachableEvent _ _ (subset_mayTouch rfl))
  case memberRejoin => exact within_event (State.touches_rejoinEvent _ _ (subset_mayTouch rfl))
  case cardDetectChange => exact within_event (State.touches_cardDetectEvent _ _ (subset_mayTouch rfl))
  case cardCmd1Retry => exact within_event (State.touches_cmd1Event _ _ (subset_mayTouch rfl))
  case cardBusyEnd => exact within_event (State.touches_busyEndEvent _ _ (subset_mayTouch rfl))
  case cardBusyTimeout => exact within_event (State.touches_busyTimeoutEvent _ (subset_mayTouch rfl))
  case cardReadTimeout => exact within_event (State.touches_readTimeoutEvent _ (subset_mayTouch rfl))
  case tamperAlarm =>
    exact within_then (Instr.source_lt hw rfl) (within_event (State.touches_alarmEvent _ _ _ (subset_mayTouch rfl)))
  case tamperClearsEnd =>
    exact within_sub (K := [.gctl, .queues, .led, .ru, .spn, .sl, .ks, .arb, .mem, .skn, .kp, .tmp, .mss, .pwr, .posted]) (subset_mayTouch rfl) (by simp)
  case secretsErase => exact within_event (State.touches_eraseEvent _ (subset_mayTouch rfl))
  case bbramClearPulseEnd =>
    exact within_sub (K := [.gctl, .queues, .led, .ru, .spn, .sl, .ks, .arb, .mem, .skn, .kp, .tmp, .mss, .pwr, .posted]) (subset_mayTouch rfl) (by simp)
  case contextStoreWipeBegin => exact within_event (State.touches_wipeBeginEvent _ (subset_mayTouch rfl))
  case contextStoreWipeEnd =>
    exact within_sub (K := [.gctl, .queues, .led, .ru, .spn, .sl, .ks, .arb, .mem, .skn, .kp, .tmp, .mss, .pwr, .posted]) (subset_mayTouch rfl) (by simp)
  case holdSelfRelease => exact within_event (State.touches_dwellEndEvent _ (subset_mayTouch rfl))
  case builtInTestStart => exact within_event (State.touches_testStartEvent _ (subset_mayTouch rfl))
  case builtInTestEnd => exact within_event (State.touches_testEndEvent _ _ (subset_mayTouch rfl))
  case backupAlarm =>
    exact within_then (Instr.source_lt hw rfl) (within_event (State.touches_backupEvent _ _ _ (subset_mayTouch rfl)))
  case lifecyclePlaneReset => exact within_event (State.touches_lifeResetEvent _ (subset_mayTouch rfl))
  case por => exact within_event (State.touches_porEvent _ (subset_mayTouch rfl))
  case porRelease => exact within_event (State.touches_porReleaseEvent _ _ _ (subset_mayTouch rfl))
  case planeSupplyReset => exact within_event (State.touches_supplyResetEvent _ (subset_mayTouch rfl))
  case sysRst => exact within_event (State.touches_sysRstEvent _ (subset_mayTouch rfl))
  case perst => exact within_event (State.touches_perstEvent _ (subset_mayTouch rfl))
  case perstRelease => exact within_event (State.touches_perstReleaseEvent _ (subset_mayTouch rfl))
  case functionLevelReset => exact within_event (State.touches_flrEvent _ (subset_mayTouch rfl))
  case powerFailure => exact within_event (State.touches_powerFailEvent _ _ _ (subset_mayTouch rfl))
  case vholdTrip => exact within_event (State.touches_tripEvent _ (subset_mayTouch rfl))
  case vholdRelease => exact within_event (State.touches_releaseEvent _ (subset_mayTouch rfl))
  case commitDomainStop => exact within_sub (K := [.ks, .kp, .memories]) (subset_mayTouch rfl) (by simp)
  case commitDomainPowerUp => exact within_sub (K := [.gctl, .kp]) (subset_mayTouch rfl) (by simp)
  case mssWatchdog => exact within_event (State.touches_mssWatchdogEvent _ (subset_mayTouch rfl))
  case pllStartCheck => exact within_event (State.touches_pllCheck _ _ _ (subset_mayTouch rfl))
  case entropyStartupTestsEnd => exact within_event (State.touches_testsAtStart _ _ _ (subset_mayTouch rfl))
  case recallStageEnd => exact within_event (State.touches_recallStageEvent _ (subset_mayTouch rfl))
  case recallEnd => exact within_event (State.touches_recallEndEvent _ (subset_mayTouch rfl))
  case mssBoot => exact within_event (State.touches_mssBootEvent _ (subset_mayTouch rfl))
  case rootDerive => exact within_event (State.touches_rootEvent _ (subset_mayTouch rfl))
  case dramTrainingEnd => exact within_event (State.touches_trainingEnd _ _ (subset_mayTouch rfl))
  case dramInitEnd => exact within_event (State.touches_initEnd _ (subset_mayTouch rfl))
  case controlPlaneBoot => exact within_event (State.touches_bootEvent _ (subset_mayTouch rfl))
  case archiveLoad => exact within_event (State.touches_archiveEvent _ (subset_mayTouch rfl))
  case ledgerRecovery => exact within_event (State.touches_recoveryEvent _ (subset_mayTouch rfl))
  case startupReady => exact within_event (State.touches_readyEvent _ (subset_mayTouch rfl))
  case dozeEntry => exact within_event (State.touches_dozeEvent _ (subset_mayTouch rfl))
  case dozeWake => exact within_event (State.touches_wakeEvent _ _ (subset_mayTouch rfl))
  case dozeWakeEnd => exact within_event (State.touches_wakeEnd _ (subset_mayTouch rfl))
  case dataPlaneDrainEnd => exact within_event (State.touches_dataResetEvent _ _ (subset_mayTouch rfl))
  case handoverSetIdle => exact within_event (State.touches_setIdleEvent _ (subset_mayTouch rfl))
  case handoverSetLoaded =>
    exact within_sub (K := [.gctl, .queues, .led, .spn, .ks, .arb, .mem, .skn, .kp, .mss, .posted, .memories]) (subset_mayTouch rfl) (by simp)
  case mssRebootDone => exact within_event (State.touches_rebootDoneEvent _ (subset_mayTouch rfl))
  case smbusMessage => exact within_event (State.touches_smbusEvent _ _ (subset_mayTouch rfl))
  case mctpControlMessage => exact within_event (State.touches_controlEvent _ _ (subset_mayTouch rfl))
  case mctpReassemblyTimeout => exact within_event (State.touches_dropPartial _ (subset_mayTouch rfl))
  case smbusTimeout => exact within_event (State.touches_dropPartial _ (subset_mayTouch rfl))
  case spiCommandFrame => exact within_event (State.touches_spiFrameEvent _ _ (subset_mayTouch rfl))
  case spiPollFrame => exact within_event (State.touches_spiPollEvent _ (subset_mayTouch rfl))
  case svcEnChange => exact within_event (State.touches_svcEnEvent _ _ _ (subset_mayTouch rfl))
  case managementCommandTake => exact within_event (State.touches_commandTake _ (subset_mayTouch rfl))
  case sensorSample => exact within_event (State.touches_sampleEvent _ _ (subset_mayTouch rfl))
  case eventLogWrite => exact within_event (State.touches_logWriteEvent _ (subset_mayTouch rfl))
  case backupStorePost => exact within_event (State.touches_storePostEvent _ (subset_mayTouch rfl))
  case flashFrameWrite => exact within_event (State.touches_frameEvent _ _ (subset_mayTouch rfl))
  case flashPageProgramDone => exact within_event (State.touches_pageEvent _ _ (subset_mayTouch rfl))
  case flashMarkerDone => exact within_event (State.touches_markerEvent _ (subset_mayTouch rfl))
  case flashSectorReclaim => exact within_event (State.touches_reclaimEvent _ _ (subset_mayTouch rfl))
  case flashEraseDone => exact within_event (State.touches_eraseEnd _ _ (subset_mayTouch rfl))
  case mssFeramRecord => exact within_event (State.touches_mssRecordEvent _ _ _ (subset_mayTouch rfl))
  case operatingTimeTick => exact within_event (State.touches_minuteEvent _ (subset_mayTouch rfl))
  case timeFloorTick => exact within_event (State.touches_floorEvent _ (subset_mayTouch rfl))
  case feramScrub => exact within_event (State.touches_feramScrubEvent _ _ (subset_mayTouch rfl))
  case flashScrub => exact within_event (State.touches_flashScrubEvent _ _ (subset_mayTouch rfl))
  case sysRstRelease => exact within_event (State.touches_sysReleaseEvent _ _ (subset_mayTouch rfl))
  case planeSupplyResetRelease => exact within_event (State.touches_supplyReleaseEvent _ _ (subset_mayTouch rfl))
  case sourceInactive =>
    exact within_then (Instr.source_lt hw rfl) (within_event (State.touches_inactiveEvent _ _ (subset_mayTouch rfl)))
  case idleEntry => exact within_event (State.touches_idleEvent _ _ (subset_mayTouch rfl))
  case cardReadData => exact within_event (State.touches_cardDataEvent _ _ (subset_mayTouch rfl))
  case sealContextWriteBack => exact within_event (State.touches_writeBackEvent _ (subset_mayTouch rfl))
  case poolTableWriteThrough => exact within_event (State.touches_writeThroughEvent _ _ (subset_mayTouch rfl))
  case entropyRestartTestsEnd =>
    exact within_sub (K := [.gctl, .queues, .led, .spn, .ks, .arb, .mem, .skn, .kp, .mss, .posted]) (subset_mayTouch rfl) (by simp)
  case rnd =>
    dsimp only [exec, execRnd]
    obtain ⟨t, ht, hL⟩ := within_isa (L := [.gctl, .queues, .led, .ru, .spn, .ks, .arb, .kp, .mss, .posted]) rfl (Instr.spindle_lt hw rfl) (by decide)
    rw [ht]
    refine within_sub (K := [.gctl, .queues, .led, .ru, .spn, .ks, .arb, .kp, .mss, .posted]) (subset_mayTouch rfl) ((State.touches.iff hL (List.Subset.refl _)).2 ?_)
    split <;> simp
  all_goals
    dsimp only [exec, execSpindleNop, execAdd, execAddc, execSub, execSubc, execCmp, execSel, execAnd, execOr, execXor, execFsr, execBit, execMov, execClr, execLdi, execOutw, execMul, execMac, execMull, execMacl, execAccld, execAccadd, execAccsh, execAcclo, execAcchi, execAccx, execSetlc, execLoop, execSetix, execAddix, execJmp, execCall, execRet, execHalt, execKey, execSpindleUndefinedCode]
    exact within_isa rfl (Instr.spindle_lt hw rfl) (subset_mayTouch rfl)

/-- The parts that make up a component. -/
theorem State.sameAt_of_agree {s t : State} {p : Component} (h : ∀ a ∈ p.aspects, s.agree t a) : s.sameAt t p := by
  cases p
  case kp =>
    have h1 : t.kp.others = s.kp.others := h .kp (by decide)
    have h2 : (t.kp.fe0, t.kp.fe1, t.kp.flash) = (s.kp.fe0, s.kp.fe1, s.kp.flash) := h .memories (by decide)
    exact Keeper.eq_of_others h1 h2
  case life =>
    have h1 : t.life.others = s.life.others := h .life (by decide)
    have h2 : (t.life.serial, t.life.count) = (s.life.serial, s.life.count) := h .fuses (by decide)
    exact Life.eq_of_others h1 h2
  case tmp =>
    have h1 : t.tmp.others = s.tmp.others := h .tmp (by decide)
    exact Tamper.eq_of_others h1 (h .aot (by decide))
  case spn =>
    have h1 : t.spn.others = s.spn.others := h .spn (by decide)
    exact SpindleUnit.eq_of_others h1 (h .ran (by decide))
  all_goals exact h _ (List.mem_singleton.2 rfl)

/-- A part that a row touches belongs to a component that it may change. -/
theorem not_mem_mayTouch {c : Instr} {p : Component} {a : Aspect} (hp : p ∉ mayChange c) (ha : a ∈ p.aspects) : a ∉ mayTouch c := by
  rw [mem_mayTouch]
  unfold touchedBy
  rw [Component.of_mem_aspects ha, List.contains_eq_mem, decide_eq_false hp, Bool.false_and]
  exact Bool.false_ne_true

/-- Settles O60: a command that answers numbers only units the device has, and its row's frame holds. -/
theorem everyCommandHasItsFrame : Obligations.EveryCommandHasItsFrame := by
  intro c s t h p hp
  by_cases hw : c.wf = true
  · obtain ⟨u, hu, hL⟩ := exec_within s hw
    cases hu.symm.trans h
    exact State.sameAt_of_agree fun a ha => hL a (not_mem_mayTouch hp ha)
  · rw [exec_ill_formed s (Bool.eq_false_of_not_eq_true hw)] at h
    cases h

/-- No row lists the commands that wait among what it may change. -/
theorem pending_not_mem_mayChange (c : Instr) : Component.pending ∉ mayChange c := by
  unfold mayChange
  split <;> decide

/-- Settles O52, by the frames of all rows: none of them holds the commands that wait. -/
theorem everyCommandAnswers : Obligations.EveryCommandAnswers := by
  intro c s hw
  obtain ⟨t, ht, hL⟩ := exec_within s hw
  exact ⟨t, ht, hL .pending (not_mem_mayTouch (pending_not_mem_mayChange c) (List.mem_singleton.2 rfl))⟩

end Sys2Proof.Machine
end

section
/-! PROOFS. The canonical form of the memories of the keeper die (R293, R296): every operation of the record controller keeps it. -/

namespace Sys2Proof.Machine

set_option Elab.async false

/-- The two banks and the flash are in canonical form. -/
def Keeper.wf (k : Keeper) : Prop :=
  Memory.wf feBlank k.fe0 = true ∧ Memory.wf feBlank k.fe1 = true ∧ Memory.wf flBlank k.flash = true

section
variable {k : Keeper}

theorem Keeper.wf_flash {m : Memory} (hk : k.wf) (hm : Memory.wf flBlank m = true) : Keeper.wf { k with flash := m } :=
  ⟨hk.1, hk.2.1, hm⟩

@[simp] theorem Keeper.wf_feWrite (bank : Bool) (off : Nat) (bs : Bytes) (hk : k.wf) : (k.feWrite bank off bs).wf := by
  obtain ⟨h0, h1, hf⟩ := hk
  cases bank
  · exact ⟨writeBytes_wf bs off h0, h1, hf⟩
  · exact ⟨h0, writeBytes_wf bs off h1, hf⟩

@[simp] theorem Keeper.wf_program (sector off : Nat) (bs : Bytes) (hk : k.wf) : (k.program sector off bs).wf :=
  Keeper.wf_flash hk (programBytes_wf bs _ hk.2.2)

@[simp] theorem Keeper.wf_eraseSector (sector : Nat) (hk : k.wf) : (k.eraseSector sector).wf :=
  ⟨hk.1, hk.2.1, eraseRange_wf _ _ hk.2.2⟩

@[simp] theorem Keeper.wf_setArea (a : FlashArea) (x : Append) : (k.setArea a x).wf ↔ k.wf := by
  cases a <;> rfl

@[simp] theorem Keeper.wf_noted (req : FlashReq) : (k.noted req).wf ↔ k.wf := by
  unfold Keeper.noted
  split <;> rfl

@[simp] theorem Keeper.wf_suspend (on : Bool) : (k.suspend on).wf ↔ k.wf := Iff.rfl

@[simp] theorem Keeper.wf_startErase : k.startErase.wf ↔ k.wf := by
  unfold Keeper.startErase
  (repeat' split) <;> rfl

@[simp] theorem Keeper.wf_openSector (a : FlashArea) : (k.openSector a).wf ↔ k.wf := by
  unfold Keeper.openSector
  dsimp only
  split <;> simp

@[simp] theorem Keeper.wf_shut (a : FlashArea) : (k.shut a).wf ↔ k.wf := by
  unfold Keeper.shut
  dsimp only
  split <;> simp

@[simp] theorem Keeper.wf_closeSector (a : FlashArea) (hk : k.wf) : (k.closeSector a).wf := by
  simp [Keeper.closeSector, hk]

@[simp] theorem Keeper.wf_makeRoom (a : FlashArea) (n : Nat) (hk : k.wf) : (k.makeRoom a n).wf := by
  unfold Keeper.makeRoom
  dsimp only
  (repeat' split) <;> simp [hk]

/-- A change of fields other than the memories. -/
theorem Keeper.wf_of_eq {k' : Keeper} (h0 : k'.fe0 = k.fe0) (h1 : k'.fe1 = k.fe1) (hf : k'.flash = k.flash)
    (hk : k.wf) : k'.wf := by
  rw [Keeper.wf, h0, h1, hf]
  exact hk

@[simp] theorem Keeper.wf_startFrame (req : FlashReq) (hk : k.wf) : (k.startFrame req).wf := by
  unfold Keeper.startFrame
  dsimp only
  have hm := Keeper.wf_makeRoom req.area (frameLen req.payload.length) hk
  split
  · exact hm
  · exact Keeper.wf_of_eq rfl rfl rfl ((Keeper.wf_setArea _ _).2 hm)

@[simp] theorem Keeper.wf_finishFrame (hk : k.wf) : k.finishFrame.wf := by
  unfold Keeper.finishFrame
  split
  · exact hk
  · exact (Keeper.wf_noted _).2 (Keeper.wf_flash hk (programBytes_wf _ _ (programBytes_wf _ _ hk.2.2)))

@[simp] theorem Keeper.wf_copyFrame (a : FlashArea) (f : FrameAt) (hk : k.wf) : (Keeper.copyFrame a k f).wf := by
  unfold Keeper.copyFrame
  dsimp only
  split <;> simp [hk]

/-- A fold of an operation that keeps the canonical form keeps it. -/
@[simp] theorem Keeper.wf_foldl {α : Type} {f : Keeper → α → Keeper} (l : List α) (hf : ∀ k a, k.wf → (f k a).wf) (hk : k.wf) :
    (l.foldl f k).wf := by
  induction l generalizing k with
  | nil => exact hk
  | cons a l ih => exact ih (hf k a hk)

theorem Keeper.wf_ite (c : Prop) [Decidable c] {x y : Keeper} (hx : x.wf) (hy : y.wf) : (if c then x else y).wf := by
  split
  · exact hx
  · exact hy

@[simp] theorem Keeper.wf_retire (a : FlashArea) (sec : Nat) (hk : k.wf) : (k.retire a sec).wf := by
  unfold Keeper.retire
  have hs : (if (k.area a).sector = sec then k.shut a else k).wf := Keeper.wf_ite _ ((Keeper.wf_shut a).2 hk) hk
  have hl := fun l x => Keeper.wf_foldl l (fun k f => Keeper.wf_copyFrame (k := k) a f) ((Keeper.wf_setArea a x).2 hs)
  exact Keeper.wf_of_eq rfl rfl rfl (Keeper.wf_ite _ (hl _ _) (Keeper.wf_program _ _ _ (hl _ _)))

@[simp] theorem Keeper.wf_reclaim (a : FlashArea) (hk : k.wf) : (k.reclaim a).wf := by
  unfold Keeper.reclaim
  split <;> simp [hk]

@[simp] theorem Keeper.wf_erased (sector : Nat) (hk : k.wf) : (k.erased sector).wf := by
  unfold Keeper.erased
  dsimp only
  split <;> simp [hk]

@[simp] theorem Keeper.wf_eraseNow (sec : Nat) (hk : k.wf) : (Keeper.eraseNow sec k).wf :=
  Keeper.wf_erased sec (Keeper.wf_of_eq rfl rfl rfl hk)

@[simp] theorem Keeper.wf_refill (a : FlashArea) (n : Nat) (hk : k.wf) : (Keeper.refill a n k).wf := by
  unfold Keeper.refill
  dsimp only
  (repeat' split) <;> simp [hk]

@[simp] theorem Keeper.wf_prepare (req : FlashReq) (hk : k.wf) : (Keeper.prepare req k).wf :=
  Keeper.wf_refill _ _ (Keeper.wf_refill _ _ (Keeper.wf_refill _ _ hk))

@[simp] theorem Keeper.wf_writeFrame (req : FlashReq) (hk : k.wf) : (k.writeFrame req).wf :=
  Keeper.wf_finishFrame (Keeper.wf_startFrame req (Keeper.wf_prepare req hk))

@[simp] theorem Keeper.wf_flush (hk : k.wf) : k.flush.wf :=
  Keeper.wf_foldl _ (fun _ req => Keeper.wf_writeFrame req) (Keeper.wf_of_eq rfl rfl rfl (Keeper.wf_finishFrame hk))

@[simp] theorem Keeper.wf_moveSector (sector n : Nat) (sound : Bool) (hk : k.wf) : (k.moveSector sector n sound).wf := by
  unfold Keeper.moveSector
  refine Keeper.wf_flash hk ?_
  split
  · exact eraseRange_wf _ _ (programBytes_wf _ _ (eraseRange_wf _ _ hk.2.2))
  · exact programBytes_wf _ _ (eraseRange_wf _ _ hk.2.2)

theorem Keeper.wf_flRelocated (n : Nat) (hk : k.wf) : Keeper.wf { k with flRelocated := n } := hk

theorem sectorsProgram_flash_wf (at_ : Nat → Nat) (l : List (Byte × Nat)) {m : Memory} (hm : Memory.wf flBlank m = true) :
    Memory.wf flBlank (l.foldl (fun m p => programBytes m (at_ p.2) [p.1]) m) = true := by
  induction l generalizing m with
  | nil => exact hm
  | cons p l ih => exact ih (programBytes_wf _ _ hm)

@[simp] theorem Keeper.wf_sectorsProgram (first off : Nat) (bs : Bytes) (hk : k.wf) : (k.sectorsProgram first off bs).wf :=
  Keeper.wf_flash hk (sectorsProgram_flash_wf (fun i => k.addr (first + (off + i) / 65536) ((off + i) % 65536)) _ hk.2.2)

@[simp] theorem Keeper.wf_eraseBank (n : Nat) (hk : k.wf) : (k.eraseBank n).wf :=
  Keeper.wf_foldl _ (fun _ _ => Keeper.wf_eraseSector _) hk

@[simp] theorem Keeper.wf_readMap : k.readMap.wf ↔ k.wf := by
  simp only [Keeper.wf, Keeper.readMap]

@[simp] theorem Keeper.wf_scanHeaders (a : FlashArea) : (k.scanHeaders a).wf ↔ k.wf := by
  cases a <;> rfl

@[simp] theorem Keeper.wf_walkArea (a : FlashArea) : (k.walkArea a).wf ↔ k.wf := Keeper.wf_setArea _ _

@[simp] theorem Keeper.wf_walkRecords : k.walkRecords.wf ↔ k.wf :=
  (Keeper.wf_walkArea .archive).trans (Keeper.wf_walkArea .config)

end

end Sys2Proof.Machine
end

section
/-! PROOFS. The invariant (R29, R293, R296, R338) is kept by the state functions whose frame reaches its parts. -/

namespace Sys2Proof.Machine

set_option Elab.async false

/-- The invariant of every state that a command's step passes through, with a bound that the count of blown fuses has reached. -/
def State.sound (n : Nat) (s : State) : Prop := s.kp.wf ∧ s.lifeInv ∧ s.tmp.aotAcc < 390625 ∧ n ≤ s.life.count.toNat

/-- Every part but those that the invariant speaks of. -/
def harmless : List Aspect :=
  [.gctl, .queues, .epochBase, .domains, .led, .ru, .spn, .sl, .dig, .ks, .arb, .mem, .skn, .kp, .tmp, .life, .mss, .card, .pwr,
   .posted, .pending, .ran]

@[simp] theorem mem_harmless {a : Aspect} : a ∈ harmless ↔ a ≠ .memories ∧ a ≠ .fuses ∧ a ≠ .aot := by
  cases a <;> decide

/-- The invariant, in the form in which the frames of the state functions carry it on. -/
abbrev State.safe (n : Nat) (s : State) : Prop := ∃ t : State, t.sound n ∧ t.touches harmless s

section
variable {n : Nat} {s t : State}

theorem State.sound_of_touches (ht : t.sound n) (h : t.touches harmless s) : s.sound n := by
  have hm : s.agree t .memories := (h .memories (by decide)).symm
  have hf : s.agree t .fuses := (h .fuses (by decide)).symm
  have ha : s.agree t .aot := (h .aot (by decide)).symm
  simp only [State.agree, Prod.mk.injEq] at hm hf ha
  simpa only [State.sound, Keeper.wf, State.lifeInv, hm, hf, ha] using ht

theorem State.safe_iff : s.safe n ↔ s.sound n :=
  ⟨fun ⟨_, ht, h⟩ => State.sound_of_touches ht h, fun h => ⟨s, h, State.touches_self _ s⟩⟩

/-- The keeper's state replaced by one whose memories are in canonical form. -/
theorem State.safe_setKp {k : Keeper} (hs : s.safe n) (hk : s.kp.wf → k.wf) : State.safe n { s with kp := k } := by
  obtain ⟨hm, h⟩ := State.safe_iff.1 hs
  exact State.safe_iff.2 ⟨hk hm, h⟩

/-- A change that keeps the canonical form of the memories and leaves the fuses and the always-on clock. -/
theorem State.safe_congr (hs : s.safe n) (hk : s.kp.wf → t.kp.wf) (hl : t.life = s.life) (ha : t.tmp.aotAcc = s.tmp.aotAcc) :
    t.safe n := by
  obtain ⟨hm, hf, hc, hn⟩ := State.safe_iff.1 hs
  exact State.safe_iff.2 ⟨hk hm, by rwa [State.lifeInv, hl], by rwa [ha], by rwa [hl]⟩

/-- A change of the life-cycle unit that leaves the fuses. -/
theorem State.safe_setLife {l : Life} (hs : s.safe n) (h1 : l.serial = s.life.serial) (h2 : l.count = s.life.count) :
    State.safe n { s with life := l } := by
  obtain ⟨hm, ⟨hf, h5⟩, ha, hc⟩ := State.safe_iff.1 hs
  exact State.safe_iff.2 ⟨hm, ⟨h1.trans hf, h2 ▸ h5⟩, ha, h2 ▸ hc⟩

theorem State.safe_foldl {α : Type} {f : State → α → State} (l : List α) (hf : ∀ s a, s.safe n → (f s a).safe n)
    (hs : s.safe n) :
    (l.foldl f s).safe n := by
  induction l generalizing s with
  | nil => exact hs
  | cons a l ih => exact ih (hf s a hs)

theorem State.safe_ite (c : Prop) [Decidable c] (hs : s.safe n) (ht : t.safe n) : (if c then s else t).safe n := by
  split
  · exact hs
  · exact ht

end

section
variable {N : Nat}
@[simp] theorem State.safe_lapsed (n : Nat) (s : State) (hs : s.safe N) :
    State.safe N (s.lapsed n) := by
  obtain ⟨hm, hf, -, hn⟩ := State.safe_iff.1 hs
  exact State.safe_iff.2 ⟨hm, hf, Nat.mod_lt _ (by decide), hn⟩

@[simp] theorem State.safe_advanceTo (t : Nat) (s : State) (hs : s.safe N) :
    State.safe N (s.advanceTo t) := by
  unfold State.advanceTo
  split
  · exact State.safe_congr (State.safe_lapsed (t - s.now) s hs) id rfl rfl
  · exact hs

@[simp] theorem State.safe_tick (s : State) (hs : s.safe N) :
    State.safe N (State.tick s) := by
  simp [State.tick, State.safe, hs]

@[simp] theorem State.safe_cuWrite (s : State) (bank : Bool) (r : CuReq) (hs : s.safe N) :
    State.safe N (s.cuWrite bank r) := by
  exact State.safe_setKp hs (Keeper.wf_feWrite _ _ _)

@[simp] theorem State.safe_flashNow (req : FlashReq) (s : State) (hs : s.safe N) :
    State.safe N (s.flashNow req) := by
  have h : State.safe N { s with kp := s.kp.flush.writeFrame req } := State.safe_setKp hs (by simp +contextual)
  unfold State.flashNow
  simp [State.safe, h]

@[simp] theorem State.safe_curveLoadLoadBody (x : Ctx) (s : State) (hs : s.safe N) :
    State.safe N (curveLoadLoadBody x s).s := by
  unfold curveLoadLoadBody withData
  dsimp only
  (repeat' split) <;> simp [State.safe, hs]

@[simp] theorem State.safe_curveLoadClearBody (x : Ctx) (s : State) (hs : s.safe N) :
    State.safe N (curveLoadClearBody x s).s := by
  unfold curveLoadClearBody
  (repeat' split) <;> simp [State.safe, hs]

@[simp] theorem State.safe_installDmk (d : Dom) (v : BitVec 256) (root : BitVec 256) (s : State) (hs : s.safe N) :
    State.safe N (State.installDmk d v root s).1 := by
  simp [State.installDmk, State.safe, hs]

@[simp] theorem State.safe_loadDmkBlob (x : Ctx) (h' : BlobHead) (wk : BitVec 128) (bs : Bytes) (s : State) (hs : s.safe N) :
    State.safe N (loadDmkBlob x h' wk bs s).s := by
  unfold loadDmkBlob
  dsimp only
  (repeat' split) <;> simp [State.safe, hs]

@[simp] theorem State.safe_keyLoadBody (x : Ctx) (s : State) (hs : s.safe N) :
    State.safe N (keyLoadBody x s).s := by
  unfold keyLoadBody withData
  dsimp only
  (repeat' split) <;> simp_all [State.safe, State.pair_eq_iff]

@[simp] theorem State.safe_generateDmk (x : Ctx) (s : State) (hs : s.safe N) :
    State.safe N (generateDmk x s).s := by
  unfold generateDmk
  dsimp only
  (repeat' split) <;> simp [State.safe, hs]

@[simp] theorem State.safe_keyGenerateBody (x : Ctx) (s : State) (hs : s.safe N) :
    State.safe N (keyGenerateBody x s).s := by
  unfold keyGenerateBody withData
  dsimp only
  (repeat' split) <;> simp_all [State.safe, State.pair_eq_iff]

@[simp] theorem State.safe_bank0Event (s : State) (hs : s.safe N) :
    State.safe N (bank0Event s) := by
  unfold bank0Event
  (repeat' split) <;> simp [State.safe, hs]

@[simp] theorem State.safe_bank1 (r : CuReq) (s : State) (hs : s.safe N) :
    State.safe N (State.bank1 r s) := by
  simp [State.bank1, State.safe, hs]

@[simp] theorem State.safe_durableEvent (s : State) (hs : s.safe N) :
    State.safe N (durableEvent s) := by
  unfold durableEvent
  split
  · simp [State.safe, hs]
  · refine State.safe_congr (s := State.doAll _ (s.bank1 _)) ?_ Keeper.wf_startErase.2 rfl rfl
    simp [State.safe, hs]
  · simp [State.safe, hs]
  · exact hs

@[simp] theorem State.safe_rearchive (n : Nat) (s : State) (hs : s.safe N) :
    State.safe N (State.rearchive n s) := by
  unfold State.rearchive
  (repeat' split) <;> simp [State.safe, hs]

@[simp] theorem State.safe_genEffect (w : GenThen) (s : State) (hs : s.safe N) :
    State.safe N (State.genEffect w s) := by
  unfold State.genEffect
  (repeat' split) <;> simp [State.safe, hs]

@[simp] theorem State.safe_genDurableEvent (s : State) (hs : s.safe N) :
    State.safe N (genDurableEvent s) := by
  unfold genDurableEvent
  (repeat' split) <;> simp [State.safe, hs]

@[simp] theorem State.safe_rootDurableEvent (s : State) (hs : s.safe N) :
    State.safe N (rootDurableEvent s) := by
  unfold rootDurableEvent
  dsimp only
  (repeat' split) <;> simp [State.safe, hs]

@[simp] theorem State.safe_boundaryEvent (s : State) (hs : s.safe N) :
    State.safe N (boundaryEvent s) := by
  have h := State.safe_advanceTo (max s.now s.led.nextBoundary) s hs
  refine State.safe_congr (s := (s.advanceTo (max s.now s.led.nextBoundary)).closeGroup) ?_ id rfl rfl
  simp [State.safe, h]

@[simp] theorem State.safe_lapseEvent (n : PoolId) (s : State) (hs : s.safe N) :
    State.safe N (lapseEvent n s) := by
  unfold lapseEvent
  (repeat' split) <;> simp [State.safe, hs]

@[simp] theorem State.safe_storeMap (m : Tab (BitVec 6)) (version : BitVec 64) (s : State) (hs : s.safe N) :
    State.safe N (State.storeMap m version s) := by
  simp [State.storeMap, State.safe, hs]

@[simp] theorem State.safe_mapSetBody (x : Ctx) (s : State) (hs : s.safe N) :
    State.safe N (mapSetBody x s).s := by
  unfold mapSetBody withData
  dsimp only
  (repeat' split) <;> simp [State.safe, hs]

@[simp] theorem State.safe_mapAnswered (src : BitVec 6) (conflict : Option Nat) (s : State) (hs : s.safe N) :
    State.safe N (State.mapAnswered src conflict s) := by
  unfold State.mapAnswered
  dsimp only
  (repeat' split) <;> simp [State.safe, hs]

@[simp] theorem State.safe_mapControl (src : BitVec 6) (bs : Bytes) (s : State) (hs : s.safe N) :
    State.safe N (State.mapControl src bs s) := by
  unfold State.mapControl
  (repeat' split) <;> simp [State.safe, hs]

@[simp] theorem State.safe_storeMembers (s : State) (hs : s.safe N) :
    State.safe N (State.storeMembers s) := by
  simp [State.storeMembers, State.safe, hs]

@[simp] theorem State.safe_storeRetired (s : State) (hs : s.safe N) :
    State.safe N (State.storeRetired s) := by
  simp [State.storeRetired, State.safe, hs]

@[simp] theorem State.safe_admitMember (x : Ctx) (n : BitVec 6) (serial : BitVec 64) (s : State) (hs : s.safe N) :
    State.safe N (admitMember x n serial s).s := by
  unfold admitMember
  (repeat' split) <;> simp [State.safe, hs]

@[simp] theorem State.safe_retireMember (x : Ctx) (n : BitVec 6) (serial : BitVec 64) (s : State) (hs : s.safe N) :
    State.safe N (retireMember x n serial s).s := by
  have h : ∀ k, State.safe N (State.storeRetired (State.storeMembers { s with skn := k })) :=
    fun _ => State.safe_storeRetired _ (State.safe_storeMembers _ (State.safe_congr hs id rfl rfl))
  unfold retireMember
  (repeat' split) <;> simp [State.safe, hs, h]

@[simp] theorem State.safe_nodeMemberBody (x : Ctx) (s : State) (hs : s.safe N) :
    State.safe N (nodeMemberBody x s).s := by
  unfold nodeMemberBody
  (repeat' split) <;> simp [State.safe, hs]

@[simp] theorem State.safe_memberControl (bs : Bytes) (s : State) (hs : s.safe N) :
    State.safe N (State.memberControl bs s) := by
  unfold State.memberControl
  dsimp only
  (repeat' split) <;> simp [State.safe, hs]

@[simp] theorem State.safe_deliver (p : SkPacket) (s : State) (hs : s.safe N) :
    State.safe N (State.deliver p s) := by
  unfold State.deliver
  (repeat' split) <;> simp [State.safe, hs]

@[simp] theorem State.safe_gather (p : SkPacket) (s : State) (hs : s.safe N) :
    State.safe N (State.gather p s) := by
  unfold State.gather
  (repeat' split) <;> simp [State.safe, hs]

@[simp] theorem State.safe_acceptPacket (w : Port) (p : SkPacket) (s : State) (hs : s.safe N) :
    State.safe N (State.acceptPacket w p s) := by
  simp [State.acceptPacket, State.safe, hs]

@[simp] theorem State.safe_acceptWaiting (n : Nat) (s : State) (hs : s.safe N) :
    State.safe N (State.acceptWaiting n s) := by
  induction n generalizing s with
  | zero => exact hs
  | succ n ih =>
    unfold State.acceptWaiting
    split
    · exact hs
    · exact ih _ (State.safe_acceptPacket _ _ _ (State.safe_congr hs id rfl rfl))

@[simp] theorem State.safe_packetEvent (w : Port) (p : SkPacket) (s : State) (hs : s.safe N) :
    State.safe N (packetEvent w p s) := by
  have h : ∀ k, (s.setPort w k).safe N := fun k => by simp [State.safe, hs]
  unfold packetEvent
  dsimp only
  (repeat' split) <;> simp [State.safe, h, hs]

@[simp] theorem State.safe_takeFlits (w : Port) (n : Nat) (s : State) (hs : s.safe N) :
    State.safe N (State.takeFlits w n s) := by
  induction n generalizing s with
  | zero => exact hs
  | succ n ih =>
    have h : ∀ k, (s.setPort w k).safe N := fun k => by simp [State.safe, hs]
    unfold State.takeFlits
    dsimp only
    split
    · exact hs
    · split
      · exact ih _ (State.safe_packetEvent _ _ _ (h _))
      · exact ih _ (h _)

@[simp] theorem State.safe_groupEvent (w : Port) (gseq : BitVec 32) (cipher : Bytes) (tag : Bytes) (s : State) (hs : s.safe N) :
    State.safe N (groupEvent w gseq cipher tag s) := by
  unfold groupEvent
  dsimp only
  (repeat' split) <;> simp [State.safe, hs]

@[simp] theorem State.safe_writeBoot (r : BootRec) (s : State) (hs : s.safe N) :
    State.safe N (State.writeBoot r s) := by
  unfold State.writeBoot
  dsimp only
  (repeat' split) <;> simp [State.safe, hs]

@[simp] theorem State.safe_blow (n : Nat) (s : State) (hn : N ≤ n ∧ n ≤ 5) (hs : s.safe N) :
    State.safe N  (s.blow n) := by
  have h : State.safe N { s with life := { s.life with count := BitVec.ofNat 3 n } } := by
    obtain ⟨hm, hf, ha, hc⟩ := State.safe_iff.1 hs
    have hv : (BitVec.ofNat 3 n).toNat = n := Nat.mod_eq_of_lt (by omega)
    exact State.safe_iff.2 ⟨hm, ⟨hf.1, hv.trans_le hn.2⟩, ha, hn.1.trans_eq hv.symm⟩
  have he : State.safe N (State.eraseBelow n { s with life := { s.life with count := BitVec.ofNat 3 n } }) := by simp [State.safe, h]
  have hmk : ∀ (u : State) c, u.safe N → State.safe N { u with tmp := { u.tmp with cfg := c } } :=
    fun u c hu => State.safe_congr hu id rfl rfl
  exact State.safe_ite _ (hmk _ _ he) he

@[simp] theorem State.safe_transition (dst : Nat) (s : State) (hn : N ≤ dst ∧ dst ≤ 5) (hs : s.safe N) :
    State.safe N  (s.transition dst) := by
  have h : State.safe N (State.blow dst (if dst = 4 then s.makeShare 4 else s)) :=
    State.safe_blow _ _ hn (State.safe_ite _ (by simp [State.safe, hs]) hs)
  simp [State.transition, State.safe, h]

theorem transitionBy_bounds {a d : Nat} {o : Bool} (h : transitionBy a d = some o) : a ≤ d ∧ d ≤ 5 := by
  unfold transitionBy at h
  split at h
  · omega
  · split at h
    · omega
    · cases h

@[simp] theorem State.safe_lifecycleBody (x : Ctx) (s : State) (hs : s.safe N) : State.safe N (lifecycleBody x s).s := by
  have hN : N ≤ s.life.count.toNat := (State.safe_iff.1 hs).2.2.2
  have ha : ∀ o l, State.safe N (State.authority { s with life := { s.life with challenge := l } } o).1 := fun o l => by
    simp [State.safe, hs]
  unfold lifecycleBody withData
  dsimp only
  split
  · simp [State.safe, hs]
  · split
    next ht _ =>
      obtain ⟨hle, h5⟩ := transitionBy_bounds ht
      split
      next u he =>
        have hu : u.safe N := (State.pair_eq_iff.1 he).1 ▸ ha _ _
        simp [State.safe, hu]
      next u q z he =>
        have hu : u.safe N := (State.pair_eq_iff.1 he).1 ▸ ha _ _
        (repeat' split)
        · simp [State.safe, hu]
        · simp [State.safe, hu]
        · exact State.safe_transition _ _ ⟨hN.trans hle, h5⟩ hu
    next => simp [State.safe, hs]

@[simp] theorem State.safe_archiveKey (root : BitVec 256) (n : Nat) (typ : Byte) (q : Parent) (lin : BitVec 16 × BitVec 32)
    (material : Bytes) (id : Bytes) (s : State) (hs : s.safe N) :
    State.safe N (State.archiveKey root n typ q lin material id s) := by
  simp [State.archiveKey, State.safe, hs]

@[simp] theorem State.safe_archiveSecret (root : BitVec 256) (n : Nat) (lin : BitVec 16 × BitVec 32) (s : State)
    (hs : s.safe N) :
    State.safe N (State.archiveSecret root n lin s) := by
  unfold State.archiveSecret
  (repeat' split) <;> simp [State.safe, hs]

@[simp] theorem State.safe_archiveFpk (root : BitVec 256) (s : State) (hs : s.safe N) :
    State.safe N (State.archiveFpk root s) := by
  unfold State.archiveFpk
  (repeat' split) <;> simp [State.safe, hs]

@[simp] theorem State.safe_installOwner (bs : Bytes) (s : State) (hs : s.safe N) :
    State.safe N (s.installOwner bs) := by
  have hd : s.deriveOwner.safe N := by simp [State.safe, hs]
  have hr : ∀ (u : State) k, u.safe N → (u.drawn k).safe N := fun u k hu => by simp [State.safe, hu]
  have hmk : ∀ (u : State) k r, u.safe N → State.safe N { u with ks := k, ru := r } :=
    fun u k r hu => State.safe_congr hu id rfl rfl
  unfold State.installOwner
  dsimp only
  split
  · exact hd
  · refine hmk _ _ _ (State.safe_archiveFpk _ _ (State.safe_archiveSecret _ _ _ _ (State.safe_installDmk _ _ _ _ (hr _ _ ?_))))
    exact State.safe_archiveKey _ _ _ _ _ _ _ _ (State.safe_archiveKey _ _ _ _ _ _ _ _ hd)

@[simp] theorem State.safe_enrolBody (x : Ctx) (s : State) (hs : s.safe N) :
    State.safe N (enrolBody x s).s := by
  have hN : N ≤ s.life.count.toNat := (State.safe_iff.1 hs).2.2.2
  have hj : ∀ u : State, u.safe N → u.startJournal.safe N := fun u hu => by simp [State.safe, hu]
  have hl : ∀ (u : State) a b c d, u.safe N → ((u.log a b c d).planReset).safe N := fun u a b c d hu => by simp [State.safe, hu]
  have hk : ∀ (u : State) k, u.safe N → (u.makeShare k).safe N := fun u k hu => by simp [State.safe, hu]
  have ht : ∀ (u : State) c, u.safe N → State.safe N { u with tmp := { u.tmp with canary := c } } :=
    fun u c hu => State.safe_congr hu id rfl rfl
  have hd : ∀ (u : State) st, u.safe N → State.safe N (x.denied u st).s := fun u st hu => by simp [State.safe, hu]
  have hc : State.safe N { s with life := { s.life with challenge := none } } := State.safe_setLife hs rfl rfl
  unfold enrolBody withData
  dsimp only
  split
  · simp [State.safe, hs]
  · split
    · exact hd _ _ hs
    · split
      · exact hd _ _ hs
      · split
        · exact hd _ _ hc
        · split
          · exact hd _ _ hc
          · refine hj _ (ht _ _ ?_)
            split
            next h1 =>
              exact hl _ _ _ _ _ (State.safe_blow 2 _ ⟨by omega, by decide⟩
                (State.safe_installOwner _ _ (State.safe_setLife (hk _ _ hc) rfl rfl)))
            next => exact State.safe_installOwner _ _ (State.safe_setLife (hk _ _ hc) rfl rfl)

@[simp] theorem State.safe_rawWriteBody (x : Ctx) (s : State) (hs : s.safe N) :
    State.safe N (rawWriteBody x s).s := by
  unfold rawWriteBody withData
  dsimp only
  (repeat' split) <;> simp_all [State.safe, State.pair_eq_iff]

@[simp] theorem State.safe_settingSetBody (x : Ctx) (s : State) (hs : s.safe N) :
    State.safe N (settingSetBody x s).s := by
  unfold settingSetBody withData
  dsimp only
  (repeat' split) <;> simp [State.safe, hs]

@[simp] theorem State.safe_settingDefaultBody (x : Ctx) (s : State) (hs : s.safe N) :
    State.safe N (settingDefaultBody x s).s := by
  unfold settingDefaultBody
  dsimp only
  (repeat' split) <;> simp [State.safe, hs]

@[simp] theorem State.safe_stageBeginBody (x : Ctx) (s : State) (hs : s.safe N) :
    State.safe N (stageBeginBody x s).s := by
  have he : ∀ n, State.safe N { s with kp := s.kp.eraseBank n } := fun n => State.safe_setKp hs (Keeper.wf_eraseBank n)
  have hw : ∀ n b r, State.safe N (State.writeBoot r (State.noteErases b { s with kp := s.kp.eraseBank n })) :=
    fun n b r => State.safe_writeBoot _ _ (by simp [State.safe, he])
  unfold stageBeginBody
  dsimp only
  (repeat' split)
  · simp [State.safe, hs]
  · simp [State.safe, hs]
  · exact State.safe_congr (hw _ _ _) id rfl rfl

@[simp] theorem State.safe_stageChunkBody (x : Ctx) (s : State) (hs : s.safe N) :
    State.safe N (stageChunkBody x s).s := by
  unfold stageChunkBody withData
  dsimp only
  (repeat' split)
  any_goals simp [State.safe, hs]
  exact State.safe_congr hs (Keeper.wf_sectorsProgram _ _ _) rfl rfl

@[simp] theorem State.safe_stageEndBody (x : Ctx) (s : State) (hs : s.safe N) :
    State.safe N (stageEndBody x s).s := by
  unfold stageEndBody
  (repeat' split) <;> simp [State.safe, hs]

@[simp] theorem State.safe_setIdleEvent (s : State) (hs : s.safe N) :
    State.safe N (setIdleEvent s) := by
  unfold setIdleEvent
  dsimp only
  (repeat' split) <;> simp [State.safe, hs]

@[simp] theorem State.safe_setLoadedEvent (s : State) (hs : s.safe N) :
    State.safe N (setLoadedEvent s) := by
  unfold setLoadedEvent
  (repeat' split) <;> simp [State.safe, hs]

@[simp] theorem State.safe_startMss (b : Bool) (s : State) (hs : s.safe N) :
    State.safe N (s.startMss b) := by
  have hl : ∀ (u : State) a b c d, u.safe N → (u.log a b c d).safe N := fun u a b c d hu => by simp [State.safe, hu]
  have hp : ∀ u : State, u.safe N → u.applySettings.safe N := fun u hu => by simp [State.safe, hu]
  unfold State.startMss
  refine hp _ (State.safe_foldl _ (fun u p hu => ?_) (State.safe_congr hs id rfl rfl))
  exact hl _ _ _ _ _ (State.safe_ite _ (State.safe_flashNow _ _ hu) hu)

@[simp] theorem State.safe_mssBootEvent (s : State) (hs : s.safe N) :
    State.safe N (mssBootEvent s) := by
  have hl : ∀ (u : State) a b c d, u.safe N → (State.logBoot a b c d u).safe N := fun u a b c d hu => by simp [State.safe, hu]
  have hb : ∀ (u : State) b, u.safe N → ((((u.startMss b).stage 5).startTests).reportLost.resumeService).safe N :=
    fun u b hu => by
    simp [State.safe, hu]
  have hm : ∀ (u : State) m, u.safe N → State.safe N { u with mss := m } := fun u m hu => State.safe_congr hu id rfl rfl
  unfold mssBootEvent
  dsimp only
  split
  · exact hs
  · split
    · exact hb _ _ (hl _ _ _ _ _ (hm _ _ hs))
    · split
      · refine hb _ _ (hl _ _ _ _ _ (State.safe_ite _ (State.safe_writeBoot _ _ ?_) ?_)) <;>
          exact hm _ _ (hl _ _ _ _ _ (hm _ _ hs))
      · refine hm _ _ (hl _ _ _ _ _ (State.safe_ite _ (State.safe_writeBoot _ _ ?_) ?_)) <;>
          exact hm _ _ (hl _ _ _ _ _ (hm _ _ hs))

@[simp] theorem State.safe_mssRebootBody (x : Ctx) (s : State) (hs : s.safe N) :
    State.safe N (mssRebootBody x s).s := by
  unfold mssRebootBody
  dsimp only
  (repeat' split) <;> simp [State.safe, hs]

@[simp] theorem State.safe_commitSvBody (x : Ctx) (s : State) (hs : s.safe N) :
    State.safe N (commitSvBody x s).s := by
  unfold commitSvBody
  dsimp only
  (repeat' split) <;> simp [State.safe, hs]

@[simp] theorem State.safe_waited (n : Nat) (since : Nat) (w : Nat) (s : State) (hs : s.safe N) :
    State.safe N (State.waited n since w s) := by
  unfold State.waited
  (repeat' split) <;> simp [State.safe, hs]

@[simp] theorem State.safe_starveEvent (n : Nat) (i : Nat) (s : State) (hs : s.safe N) :
    State.safe N (starveEvent n i s) := by
  unfold starveEvent
  dsimp only
  (repeat' split) <;> simp [State.safe, hs]

@[simp] theorem State.safe_logWriteEvent (s : State) (hs : s.safe N) :
    State.safe N (logWriteEvent s) := by
  unfold logWriteEvent
  (repeat' split)
  · exact hs
  · exact hs
  · exact State.safe_flashNow _ _ (State.safe_congr hs Keeper.wf_flush rfl rfl)

@[simp] theorem State.safe_coalesceEvent (q : QId) (s : State) (hs : s.safe N) :
    State.safe N (coalesceEvent q s) := by
  unfold coalesceEvent
  dsimp only
  (repeat' split) <;> simp [State.safe, hs]

@[simp] theorem State.safe_slewEnd (s : State) (hs : s.safe N) :
    State.safe N (slewEnd s) := by
  simp [slewEnd, State.safe, hs]

@[simp] theorem State.safe_tableSwap (s : State) (hs : s.safe N) :
    State.safe N (tableSwap s) := by
  have h := State.safe_advanceTo s.mem.swapAt s hs
  unfold tableSwap
  dsimp only
  (repeat' split)
  · exact hs
  · exact State.safe_congr h id rfl rfl
  · exact h

@[simp] theorem State.safe_replaceSector (sector : Nat) (s : State) (hs : s.safe N) :
    State.safe N (s.replaceSector sector) := by
  have hl : ∀ (u : State) a b c, u.safe N → (u.logSector a b c).safe N := fun u a b c hu => by simp [State.safe, hu]
  have hw : ∀ u : State, u.safe N → u.writeMap.safe N := fun u hu => by simp [State.safe, hu]
  unfold State.replaceSector
  dsimp only
  split
  · exact hl _ _ _ _ (hw _ (State.safe_setKp hs (Keeper.wf_moveSector _ _ _)))
  · refine hl _ _ _ _ (State.safe_setKp hs fun hk => Keeper.wf_of_eq rfl rfl rfl ?_)
    split
    · exact (Keeper.wf_setArea _ _).2 hk
    · exact hk

@[simp] theorem State.safe_nextFrame (s : State) (hs : s.safe N) :
    State.safe N (s.nextFrame) := by
  unfold State.nextFrame
  dsimp only
  split
  next req rest _ =>
    have h : State.safe N { s with kp := ({ s.kp with frames := rest }.prepare req).startFrame req } :=
      State.safe_setKp hs fun hk => Keeper.wf_startFrame _ (Keeper.wf_prepare _ hk)
    split
    · exact hs
    · simp [State.safe, h]
  next => exact State.safe_setKp hs (Keeper.wf_suspend _).2

@[simp] theorem State.safe_frameEvent (req : FlashReq) (s : State) (hs : s.safe N) :
    State.safe N (frameEvent req s) := by
  unfold frameEvent
  (repeat' split)
  · exact hs
  · exact State.safe_congr hs id rfl rfl
  · exact State.safe_nextFrame _ (State.safe_congr hs id rfl rfl)

@[simp] theorem State.safe_abandonFrame (w : FlashWrite) (s : State) (hs : s.safe N) :
    State.safe N (s.abandonFrame w) := by
  exact State.safe_nextFrame _ (State.safe_congr hs (Keeper.wf_shut _).2 rfl rfl)

@[simp] theorem State.safe_pageEvent (verified : Bool) (s : State) (hs : s.safe N) :
    State.safe N (pageEvent verified s) := by
  unfold pageEvent
  split
  · exact hs
  next w _ =>
    have hp : ∀ f, State.safe N { s with kp := { s.kp with flash := programBytes s.kp.flash (w.addr + w.done) w.page, frame := f } } :=
      fun f => State.safe_setKp hs fun hk => ⟨hk.1, hk.2.1, programBytes_wf _ _ hk.2.2⟩
    have hr := fun n => State.safe_replaceSector n s hs
    dsimp only
    split
    · exact hs
    · split
      · split
        · exact State.safe_abandonFrame _ _ (hp _)
        · exact State.safe_congr (hp none) id rfl rfl
      · split
        · refine State.safe_setKp (hr _) fun hk => Keeper.wf_startFrame _ (Keeper.wf_prepare _ ?_)
          exact Keeper.wf_of_eq rfl rfl rfl ((Keeper.wf_setArea _ _).2 hk)
        · exact State.safe_congr (hr _) id rfl rfl

@[simp] theorem State.safe_markerEvent (s : State) (hs : s.safe N) :
    State.safe N (markerEvent s) := by
  unfold markerEvent
  (repeat' split)
  · exact hs
  · exact State.safe_nextFrame _ (State.safe_setKp hs fun hk =>
      (Keeper.wf_noted _).2 ⟨hk.1, hk.2.1, programBytes_wf _ _ hk.2.2⟩)
  · exact hs

@[simp] theorem State.safe_reclaimEvent (a : FlashArea) (s : State) (hs : s.safe N) :
    State.safe N (reclaimEvent a s) := by
  unfold reclaimEvent
  (repeat' split)
  · exact hs
  · exact State.safe_setKp hs Keeper.wf_startErase.2
  · exact State.safe_setKp hs fun hk => Keeper.wf_startErase.2 (Keeper.wf_reclaim _ hk)

@[simp] theorem State.safe_eraseEnd (blank : Bool) (s : State) (hs : s.safe N) :
    State.safe N (eraseEnd blank s) := by
  have h0 : State.safe N { s with kp := { s.kp with erase := none } } := State.safe_setKp hs id
  have hb : ∀ sec, State.safe N { s with kp := Keeper.erased { s.kp with erase := none } sec } :=
    fun sec => State.safe_setKp hs fun hk => Keeper.wf_erased sec hk
  have he : ∀ sec, State.safe N (State.replaceSector sec { s with kp := Keeper.eraseSector { s.kp with erase := none } sec }) :=
    fun sec => State.safe_replaceSector sec _ (State.safe_setKp hs fun hk => Keeper.wf_eraseSector sec hk)
  have hn : ∀ b (u : State), u.safe N → State.safe N { u.noteErases b with kp := (u.noteErases b).kp.startErase } :=
    fun b u hu => State.safe_setKp (by simp [State.safe, hu]) Keeper.wf_startErase.2
  unfold eraseEnd
  dsimp only
  split
  · refine hn _ _ ?_
    (repeat' split)
    · exact hb _
    · exact he _
    · exact State.safe_congr (he _) id rfl rfl
  · exact hs

@[simp] theorem State.safe_releaseEvent (s : State) (hs : s.safe N) :
    State.safe N (releaseEvent s) := by
  have h : State.safe N { s with kp := { s.kp with tripped := false } } := State.safe_setKp hs id
  exact State.safe_setKp (State.safe_ite _ (State.safe_nextFrame _ h) h) Keeper.wf_startErase.2

@[simp] theorem State.safe_tearErase (s : State) (hs : s.safe N) :
    State.safe N s.tearErase := by
  unfold State.tearErase
  split
  · exact hs
  · have h : ∀ a bs, State.safe N { s with kp := { s.kp with flash := writeBytes flBlank s.kp.flash a bs, erase := none } } :=
      fun a bs => State.safe_setKp hs fun hk => ⟨hk.1, hk.2.1, writeBytes_wf _ _ hk.2.2⟩
    simp [State.safe, h]

@[simp] theorem State.safe_tearFrame (whole : Bool) (s : State) (hs : s.safe N) :
    State.safe N (s.tearFrame whole) := by
  unfold State.tearFrame
  split
  · exact hs
  · have h : ∀ a bs, State.safe N { s with kp := { s.kp with flash := programBytes s.kp.flash a bs, frame := none } } :=
      fun a bs => State.safe_setKp hs fun hk => ⟨hk.1, hk.2.1, programBytes_wf _ _ hk.2.2⟩
    simp [State.safe, h]

@[simp] theorem State.safe_tearRecord (whole : Bool) (s : State) (hs : s.safe N) :
    State.safe N (s.tearRecord whole) := by
  unfold State.tearRecord
  split
  · exact hs
  next r second _ =>
    have hw : ((s.cuWrite false r).cuWrite true r).safe N := State.safe_cuWrite _ _ _ (State.safe_cuWrite _ _ _ hs)
    have hg : ∀ (k : Keeper), (s.kp.wf → k.wf) → State.safe N { s with kp := { k with cu := none } } :=
      fun k hk => State.safe_setKp hs hk
    have hd : ∀ u : State, u.safe N → (u.drawn 1).safe N := fun u hu => by simp [State.safe, hu]
    dsimp only
    split
    · refine State.safe_setKp ?_ id
      split
      · exact State.safe_congr hw id rfl rfl
      · exact hw
    · refine hd _ (hg _ fun hk => Keeper.wf_ite _ ?_ ?_)
      · exact Keeper.wf_feWrite _ _ _ hk
      · exact Keeper.wf_feWrite _ _ _ (Keeper.wf_feWrite _ _ _ hk)

@[simp] theorem State.safe_stopKeeper (whole : Bool) (s : State) (hs : s.safe N) :
    State.safe N (s.stopKeeper whole) := by
  exact State.safe_setKp (State.safe_tearErase _ (State.safe_tearFrame _ _ (State.safe_tearRecord _ _ hs))) id

@[simp] theorem State.safe_repair (off : Nat) (bs : Bytes) (s : State) (hs : s.safe N) :
    State.safe N (s.repair off bs) := by
  have h : (s.logConflict off).safe N := by simp [State.safe, hs]
  unfold State.repair
  dsimp only
  split
  · simp [State.safe, hs]
  · exact State.safe_setKp h fun hk => Keeper.wf_feWrite _ _ _ (Keeper.wf_feWrite _ _ _ hk)

@[simp] theorem State.safe_resolve (ok : Bytes → Bool) (off : Nat) (n : Nat) (s : State) (hs : s.safe N) :
    State.safe N (State.resolve ok off n s) := by
  unfold State.resolve
  dsimp only
  (repeat' split) <;> simp [State.safe, hs]

@[simp] theorem State.safe_resolveRing (s : State) (ring : Nat) (hs : s.safe N) :
    State.safe N (State.resolveRing s ring) := by
  unfold State.resolveRing
  dsimp only
  (repeat' split) <;> simp [State.safe, hs]

@[simp] theorem State.safe_readFeram (s : State) (hs : s.safe N) :
    State.safe N s.readFeram := by
  have hr : ∀ (l : List Nat) (p : Bytes → Bool) (off : Nat → Nat) len (u : State), u.safe N →
      (l.foldl (fun s e => s.resolve p (off e) len) u).safe N :=
    fun l p off len u hu => State.safe_foldl l (fun s e => State.safe_resolve p (off e) len s) hu
  have hmk : ∀ (u : State) k, u.safe N → State.safe N { u with ks := k } := fun u k hu => State.safe_congr hu id rfl rfl
  unfold State.readFeram
  refine hmk _ _ (State.safe_foldl _ State.safe_resolveRing ?_)
  refine hr _ _ (fun off => off) _ _ ?_
  exact hr _ _ rootOff _ _ (hr _ _ genOff _ _ hs)

@[simp] theorem State.safe_recallStage (n : Nat) (s : State) (hs : s.safe N) :
    State.safe N (s.recallStage n) := by
  unfold State.recallStage
  split
  · exact State.safe_setKp hs Keeper.wf_readMap.2
  · exact State.safe_readFeram s hs
  · exact State.safe_setKp hs fun hk => (Keeper.wf_scanHeaders _).2 ((Keeper.wf_scanHeaders _).2 ((Keeper.wf_scanHeaders _).2 hk))
  · have h : State.safe N { s with kp := s.kp.walkRecords } := State.safe_setKp hs Keeper.wf_walkRecords.2
    simp [State.safe, h]
  · exact hs

@[simp] theorem State.safe_recallStageEvent (s : State) (hs : s.safe N) :
    State.safe N (recallStageEvent s) := by
  unfold recallStageEvent
  dsimp only
  (repeat' split) <;> simp [State.safe, hs]

@[simp] theorem State.safe_recallEndEvent (s : State) (hs : s.safe N) :
    State.safe N (recallEndEvent s) := by
  have hw : ∀ g, State.safe N { s with kp := { s.kp.walkArea .log with stage := 0 }, gctl := g } :=
    fun g => State.safe_congr hs (Keeper.wf_walkArea _).2 rfl rfl
  unfold recallEndEvent
  dsimp only
  split
  · exact hs
  · refine State.safe_setKp ?_ Keeper.wf_startErase.2
    split
    · have h := hw { s.gctl with recalling := false, time := BitVec.ofNat 32 (Keeper.ringValue { s.kp.walkArea .log with stage := 0 } 2) }
      simp [State.safe, h]
    · simp [State.safe, hw]

@[simp] theorem State.safe_relocate (sector : Nat) (s : State) (hs : s.safe N) : State.safe N (s.relocate sector) := by
  have hl : ∀ (u : State) a b c, u.safe N → (u.logSector a b c).safe N := fun u a b c hu => by simp [State.safe, hu]
  have hw : ∀ u : State, u.safe N → u.writeMap.safe N := fun u hu => by simp [State.safe, hu]
  unfold State.relocate
  split
  · split
    · exact hl _ _ _ _ (State.safe_setKp
        (State.safe_setKp hs fun hk => Keeper.wf_startErase.2 (Keeper.wf_retire _ _ hk)) (Keeper.wf_flRelocated _))
    · exact hs
  · generalize (if sector < 411 then sector else _) = orig
    dsimp only
    split
    · exact hs
    · split
      · exact hl _ _ _ _ (hw _ (State.safe_setKp hs fun hk => Keeper.wf_flRelocated _ (Keeper.wf_moveSector _ _ _ hk)))
      · exact hl _ _ _ _ hs

@[simp] theorem State.safe_flashScrubEvent (weak : Bool) (s : State) (hs : s.safe N) :
    State.safe N (flashScrubEvent weak s) := by
  unfold flashScrubEvent
  (repeat' split) <;> simp [State.safe, hs]

@[simp] theorem State.safe_finishTaken (s : State) (hs : s.safe N) :
    State.safe N (State.finishTaken s) := by
  unfold State.finishTaken
  (repeat' split) <;> simp [State.safe, hs]

@[simp] theorem State.safe_resetPlanes (s : State) (hs : s.safe N) :
    State.safe N (State.resetPlanes s) := by
  simp [State.resetPlanes, State.safe, hs]

@[simp] theorem State.safe_sysReset (bit : Nat) (kind : Nat) (s : State) (hs : s.safe N) :
    State.safe N (State.sysReset bit kind s) := by
  simp [State.sysReset, State.safe, hs]

@[simp] theorem State.safe_sysRstEvent (s : State) (hs : s.safe N) :
    State.safe N (sysRstEvent s) := by
  unfold sysRstEvent
  (repeat' split) <;> simp [State.safe, hs]

@[simp] theorem State.safe_supplyResetEvent (s : State) (hs : s.safe N) :
    State.safe N (supplyResetEvent s) := by
  unfold supplyResetEvent
  (repeat' split) <;> simp [State.safe, hs]

@[simp] theorem State.safe_lifeResetEvent (s : State) (hs : s.safe N) :
    State.safe N (lifeResetEvent s) := by
  unfold lifeResetEvent
  (repeat' split) <;> simp [State.safe, hs]

@[simp] theorem State.safe_resetAll (whole : Bool) (s : State) (hs : s.safe N) :
    State.safe N (s.resetAll whole) := by
  have h : State.safe N (State.resetPlanes (State.stopKeeper whole { s with mss := { s.mss with running := none } })) :=
    State.safe_resetPlanes _ (State.safe_stopKeeper _ _ (State.safe_congr hs id rfl rfl))
  refine State.safe_congr (s := State.resetMssFully _) (by simp [State.safe, h]) id rfl rfl

@[simp] theorem State.safe_porEvent (s : State) (hs : s.safe N) :
    State.safe N (porEvent s) := by
  unfold porEvent
  (repeat' split) <;> simp [State.safe, hs]

@[simp] theorem State.safe_loseBackup (s : State) (hs : s.safe N) :
    State.safe N s.loseBackup := by
  obtain ⟨hm, hf, -, hn⟩ := State.safe_iff.1 hs
  exact State.safe_iff.2 ⟨hm, hf, show 0 < 390625 by decide, hn⟩

@[simp] theorem State.safe_powerFailEvent (vholdInSpec : Bool) (cellPresent : Bool) (s : State) (hs : s.safe N) :
    State.safe N (powerFailEvent vholdInSpec cellPresent s) := by
  unfold powerFailEvent
  (repeat' split) <;> simp [State.safe, hs]

@[simp] theorem State.safe_bootEvent (s : State) (hs : s.safe N) :
    State.safe N (bootEvent s) := by
  unfold bootEvent
  dsimp only
  (repeat' split) <;> simp [State.safe, hs]

@[simp] theorem State.safe_dozeEvent (s : State) (hs : s.safe N) :
    State.safe N (dozeEvent s) := by
  unfold dozeEvent
  split
  · exact hs
  · exact State.safe_congr (State.safe_advanceTo _ s hs) id rfl rfl

@[simp] theorem State.safe_wakeEnd (s : State) (hs : s.safe N) :
    State.safe N (wakeEnd s) := by
  have ht : ∀ u : State, u.safe N → u.trainLink.safe N := fun u hu => by simp [State.safe, hu]
  unfold wakeEnd
  dsimp only
  split
  · exact hs
  · refine State.safe_foldl _ (fun s w hs => by simp [State.safe, hs]) (ht _ ?_)
    exact State.safe_congr (State.safe_advanceTo _ s hs) id rfl rfl

@[simp] theorem State.safe_dataResetEvent (bad : Option PoolId) (s : State) (hs : s.safe N) :
    State.safe N (dataResetEvent bad s) := by
  have ha : ∀ t, (State.advanceTo t (s.flushPlanes.resetUnits.clearArbiters 9 17)).safe N :=
    fun t => State.safe_advanceTo t _ (by simp [State.safe, hs])
  have hc : ∀ (u : State) n, u.safe N → (u.causeBit n).safe N := fun u n hu => by simp [State.safe, hu]
  have hl : ∀ (u : State) a b c d, u.safe N → (u.log a b c d).safe N := fun u a b c d hu => by simp [State.safe, hu]
  have hp : ∀ (u : State) n, u.safe N → (u.losePool n).safe N := fun u n hu => by simp [State.safe, hu]
  unfold dataResetEvent
  dsimp only
  split
  · exact hs
  · refine hl _ _ _ _ _ ?_
    split
    · exact hp _ _ (hc _ _ (State.safe_congr (ha _) id rfl rfl))
    · exact hc _ _ (State.safe_congr (ha _) id rfl rfl)

theorem State.safe_partBody {p : Packet} {body : Ctx → State → Out} (e : partBody p = some body) (x : Ctx) (s : State)
    (hs : s.safe N) : State.safe N (body x s).s := by
  unfold partBody at e
  split at e <;> cases e <;> simp [State.safe, hs]

@[simp] theorem State.safe_partDone (c : Cmd) (rest : List Part) (cyc : Nat) (s : State) (hs : s.safe N) :
    State.safe N (s.partDone c rest cyc) := by
  unfold State.partDone
  split
  next x body hx e =>
    have hb := State.safe_partBody e x s hs
    split
    · simp [State.safe, hs]
    · have h : ∀ u, State.safe N { (body x s).s with spn := u } := fun u => State.safe_congr hb id rfl rfl
      simp [State.safe, h]
  next => exact hs

@[simp] theorem State.safe_spindleJobEndEvent (n : Nat) (glitch : BitVec 512) (s : State) (hs : s.safe N) :
    State.safe N (spindleJobEndEvent n glitch s) := by
  unfold spindleJobEndEvent
  dsimp only
  (repeat' split) <;> simp [State.safe, hs]

end

end Sys2Proof.Machine
end

section
/-! PROOFS. No program is left over from a command (R143), and every step keeps the invariant. -/

namespace Sys2Proof.Machine

set_option Elab.async false

/-- Every part but the programs that a firmware command has run. -/
def notRan : List Aspect :=
  [.gctl, .queues, .epochBase, .domains, .led, .ru, .spn, .sl, .dig, .ks, .arb, .mem, .skn, .kp, .tmp, .life, .mss, .card, .pwr,
   .posted, .pending, .memories, .fuses, .aot]

@[simp] theorem mem_notRan {a : Aspect} : a ∈ notRan ↔ a ≠ .ran := by
  cases a <;> decide

/-- No program is left over from a command, in the form in which the frames of the state functions carry it on. -/
abbrev State.clear (s : State) : Prop := ∃ t : State, t.spn.ran = [] ∧ t.touches notRan s

theorem State.clear_iff {s : State} : s.clear ↔ s.spn.ran = [] := by
  refine ⟨fun ⟨t, ht, h⟩ => ?_, fun h => ⟨s, h, State.touches_self _ s⟩⟩
  have hr : s.spn.ran = t.spn.ran := h .ran (by decide)
  rw [hr, ht]

section

@[simp] theorem State.clear_ended (s : State)  :
    State.clear s.ended := by
  have h : State.clear { s with spn := { s.spn with ran := [] } } := State.clear_iff.2 rfl
  simp [State.ended, State.clear, h]

@[simp] theorem State.clear_spindled (body : Ctx → State → Out) (x : Ctx) (s : State) (hs : s.clear) :
    State.clear (spindled body x s).s := by
  unfold spindled
  dsimp only
  split
  next h => exact State.clear_iff.2 h
  next =>
    split
    · exact State.clear_ended _
    · simp [State.clear, hs]

@[simp] theorem State.clear_runOp (op : BitVec 16) (sub : Option Byte) (body : Ctx → State → Out) (c : Cmd) (s : State)
    (hb : ∀ x s, s.clear → State.clear (body x s).s) (hs : s.clear) : State.clear (runOp op sub body c s) := by
  unfold runOp
  dsimp only
  (repeat' split) <;> simp [State.clear, hb, hs]

@[simp] theorem State.clear_routedCommandEvent (src : BitVec 6) (tag : BitVec 32) (c : Cmd) (s : State) (hs : s.clear) :
    State.clear (routedCommandEvent src tag c s) := by
  unfold routedCommandEvent
  dsimp only
  (repeat' split) <;> simp [State.clear, hs]

@[simp] theorem State.clear_deliver (p : SkPacket) (s : State) (hs : s.clear) :
    State.clear (State.deliver p s) := by
  unfold State.deliver
  (repeat' split) <;> simp [State.clear, hs]

@[simp] theorem State.clear_gather (p : SkPacket) (s : State) (hs : s.clear) :
    State.clear (State.gather p s) := by
  unfold State.gather
  (repeat' split) <;> simp [State.clear, hs]

@[simp] theorem State.clear_acceptPacket (w : Port) (p : SkPacket) (s : State) (hs : s.clear) :
    State.clear (State.acceptPacket w p s) := by
  simp [State.acceptPacket, State.clear, hs]

@[simp] theorem State.clear_acceptWaiting (n : Nat) (s : State) (hs : s.clear) :
    State.clear (State.acceptWaiting n s) := by
  induction n generalizing s with
  | zero => exact hs
  | succ n ih =>
    have h : ∀ k, State.clear { s with skn := k } := fun k => by simp [State.clear, hs]
    unfold State.acceptWaiting
    split
    · exact hs
    · exact ih _ (State.clear_acceptPacket _ _ _ (h _))

@[simp] theorem State.clear_packetEvent (w : Port) (p : SkPacket) (s : State) (hs : s.clear) :
    State.clear (packetEvent w p s) := by
  have h : ∀ k, (s.setPort w k).clear := fun k => by simp [State.clear, hs]
  unfold packetEvent
  dsimp only
  (repeat' split) <;> simp [State.clear, h, hs]

@[simp] theorem State.clear_takeFlits (w : Port) (n : Nat) (s : State) (hs : s.clear) :
    State.clear (State.takeFlits w n s) := by
  induction n generalizing s with
  | zero => exact hs
  | succ n ih =>
    have h : ∀ k, (s.setPort w k).clear := fun k => by simp [State.clear, hs]
    unfold State.takeFlits
    dsimp only
    split
    · exact hs
    · split
      · exact ih _ (State.clear_packetEvent _ _ _ (h _))
      · exact ih _ (h _)

@[simp] theorem State.clear_groupEvent (w : Port) (gseq : BitVec 32) (cipher : Bytes) (tag : Bytes) (s : State) (hs : s.clear) :
    State.clear (groupEvent w gseq cipher tag s) := by
  unfold groupEvent
  dsimp only
  (repeat' split) <;> simp [State.clear, hs]

@[simp] theorem State.clear_resetPlanes (s : State)  :
    State.clear s.resetPlanes := by
  have hc : ∀ (u : State) l, u.clear → State.clear ((u.cutResponse.endHandover 3 stHandoverAborted).endSideReplies l) :=
    fun u l hu => by simp [State.clear, hu]
  have hm : ∀ (u : State) m g, u.clear → State.clear { u with mss := m, gctl := g } :=
    fun u m g hu => by simp [State.clear, hu]
  exact hm _ _ _ (hc _ _ (State.clear_iff.2 rfl))

@[simp] theorem State.clear_sysReset (bit : Nat) (kind : Nat) (s : State) (hs : s.clear) :
    State.clear (State.sysReset bit kind s) := by
  simp [State.sysReset, State.clear, hs]

@[simp] theorem State.clear_sysRstEvent (s : State) (hs : s.clear) :
    State.clear (sysRstEvent s) := by
  unfold sysRstEvent
  (repeat' split) <;> simp [State.clear, hs]

@[simp] theorem State.clear_supplyResetEvent (s : State) (hs : s.clear) :
    State.clear (supplyResetEvent s) := by
  unfold supplyResetEvent
  (repeat' split) <;> simp [State.clear, hs]

@[simp] theorem State.clear_lifeResetEvent (s : State) (hs : s.clear) :
    State.clear (lifeResetEvent s) := by
  unfold lifeResetEvent
  (repeat' split) <;> simp [State.clear, hs]

@[simp] theorem State.clear_resetAll (whole : Bool) (s : State) (hs : s.clear) :
    State.clear (State.resetAll whole s) := by
  simp [State.resetAll, State.clear, hs]

@[simp] theorem State.clear_porEvent (s : State) (hs : s.clear) :
    State.clear (porEvent s) := by
  unfold porEvent
  (repeat' split) <;> simp [State.clear, hs]

@[simp] theorem State.clear_powerFailEvent (vholdInSpec : Bool) (cellPresent : Bool) (s : State) (hs : s.clear) :
    State.clear (powerFailEvent vholdInSpec cellPresent s) := by
  unfold powerFailEvent
  (repeat' split) <;> simp [State.clear, hs]

@[simp] theorem State.clear_resetUnits (s : State)  :
    State.clear s.resetUnits := by
  exact State.clear_iff.2 rfl

@[simp] theorem State.clear_dataResetEvent (bad : Option PoolId) (s : State) (hs : s.clear) :
    State.clear (dataResetEvent bad s) := by
  unfold dataResetEvent
  (repeat' split) <;> simp [State.clear, hs]

@[simp] theorem State.clear_partDone (c : Cmd) (rest : List Part) (cyc : Nat) (s : State) (hs : s.clear) :
    State.clear (s.partDone c rest cyc) := by
  unfold State.partDone
  split
  next x body hx e =>
    split
    · simp [State.clear, hs]
    · have h : State.clear { (body x s).s with spn := { (body x s).s.spn with ran := [] } } := State.clear_iff.2 rfl
      simp [State.clear, h]
  next => exact hs

@[simp] theorem State.clear_spindleJobEndEvent (n : Nat) (glitch : BitVec 512) (s : State) (hs : s.clear) :
    State.clear (spindleJobEndEvent n glitch s) := by
  unfold spindleJobEndEvent
  dsimp only
  (repeat' split) <;> simp [State.clear, hs]

end

section
variable {N : Nat}

theorem State.safe_runOp {op : BitVec 16} {sub : Option Byte} {body : Ctx → State → Out} {c : Cmd} {s : State}
    (hb : ∀ x s, s.safe N → State.safe N (body x s).s) (hs : s.safe N) : State.safe N (runOp op sub body c s) := by
  unfold runOp
  dsimp only
  (repeat' split) <;> simp [State.safe, hb, hs]

theorem State.safe_spindled {body : Ctx → State → Out} (hb : ∀ x s, s.safe N → State.safe N (body x s).s) (x : Ctx) (s : State)
    (hs : s.safe N) : State.safe N (spindled body x s).s := by
  unfold spindled
  dsimp only
  (repeat' split) <;> simp [State.safe, hb, hs]

/-- The rows in whose frame the invariant's parts are not all left out. -/
def movesInvariant (c : Instr) : Bool := writesMemories c || blowsFuses c || movesClock c

theorem exec_safe_of_frame {c : Instr} {s t : State} (hw : c.wf = true) (hc : movesInvariant c = false) (h : exec c s = .next t)
    (hs : s.safe N) : t.safe N := by
  obtain ⟨u, hu, hL⟩ := exec_within s hw
  cases hu.symm.trans h
  refine ⟨s, State.safe_iff.1 hs, fun a ha => hL a fun hm => ?_⟩
  rw [mem_mayTouch] at hm
  simp only [movesInvariant, Bool.or_eq_false_iff] at hc
  obtain ⟨⟨hwm, hbf⟩, hmc⟩ := hc
  rw [mem_harmless] at ha
  cases a <;> simp_all [touchedBy]

/-- Every row keeps the invariant; those whose frame reaches its parts are gone through one by one. -/
theorem exec_safe {c : Instr} {s t : State} (hw : c.wf = true) (h : exec c s = .next t) (hs : s.safe N) : t.safe N := by
  cases hc : movesInvariant c
  · exact exec_safe_of_frame hw hc h hs
  · cases c
    case curveLoadClear | mapSet | nodeMemberAdmit | nodeMemberRetire | lifecycle | enrol | nvmRawWrite | fwStageBegin
        | fwStageChunk | fwStageEnd | fwActivateMssReboot | settingSet | settingDefault =>
      cases h
      exact State.safe_runOp (fun x s hs => by simp [State.safe, hs]) hs
    case curveLoadLoad | keyLoadBlob | keyGenerate =>
      cases h
      exact State.safe_runOp (State.safe_spindled fun x s hs => by simp [State.safe, hs]) hs
    case coalescingTimeout | timeSlewEnd | commitBoundary | commitBank0Written | commitDurable | genTableWriteDurable |
        checkpointRootDurable | lockLapse | memoryTableSwap | skeinGroupReceive | skeinPacketReceive |
        lifecyclePlaneReset | por | planeSupplyReset | sysRst | powerFailure | vholdRelease | commitDomainStop
        | recallStageEnd | recallEnd | mssBoot | controlPlaneBoot | dozeEntry | dozeWakeEnd |
        dataPlaneDrainEnd | handoverSetIdle | handoverSetLoaded | eventLogWrite | flashFrameWrite |
        flashPageProgramDone | flashMarkerDone | flashSectorReclaim | flashEraseDone | flashScrub =>
      cases h
      simp [State.safe, hs]
    case spindleJobEnd =>
      cases (if_neg (Nat.not_le.2 (Instr.spindle_lt hw rfl))).symm.trans h
      simp [State.safe, hs]
    case starvationFlag =>
      cases (if_pos (Instr.arbiter_lt hw rfl)).symm.trans h
      simp [State.safe, hs]
    all_goals cases hc

theorem exec_clear_of_frame {c : Instr} {s t : State} (hw : c.wf = true) (hc : runsPrograms c = false) (h : exec c s = .next t)
    (hs : s.clear) : t.clear := by
  obtain ⟨u, hu, hL⟩ := exec_within s hw
  cases hu.symm.trans h
  refine ⟨s, State.clear_iff.1 hs, fun a ha => hL a fun hm => ?_⟩
  rw [mem_mayTouch] at hm
  rw [mem_notRan, not_not] at ha
  cases ha
  simp [touchedBy, hc] at hm

/-- No row leaves a program that its command has had run. -/
theorem exec_clear {c : Instr} {s t : State} (hw : c.wf = true) (h : exec c s = .next t) (hs : s.clear) : t.clear := by
  cases hc : runsPrograms c
  · exact exec_clear_of_frame hw hc h hs
  · cases c
    case poolCreateRecover | poolLoad | poolFreezeRecovery | ledgerAuditTotals | writeOff | admitSerial | pubkeyLoad |
        curveLoadLoad | keyLoadBlob | keyGenerate | keyReplace =>
      cases h
      exact State.clear_runOp _ _ _ _ _ (fun x s hs => State.clear_spindled _ x s hs) hs
    case skeinGroupReceive | skeinPacketReceive | routedCommand | lifecyclePlaneReset | por | planeSupplyReset | sysRst
        | powerFailure | dataPlaneDrainEnd =>
      cases h
      simp [State.clear, hs]
    case spindleJobEnd =>
      cases (if_neg (Nat.not_le.2 (Instr.spindle_lt hw rfl))).symm.trans h
      simp [State.clear, hs]
    all_goals cases hc

end

theorem exec_wf_of_next {c : Instr} {s t : State} (h : exec c s = .next t) : c.wf = true := by
  cases hw : c.wf
  · rw [exec_ill_formed s hw] at h
    cases h
  · rfl

/-- Settles O59: a step is the command in front, whose row keeps the invariant, or a clock cycle. -/
theorem everyStepKeepsTheInvariant : Obligations.EveryStepKeepsTheInvariant := by
  intro s t hm hl ⟨ha, hr⟩ h
  have hs : s.safe s.life.count.toNat := State.safe_iff.2 ⟨hm, hl, ha, le_rfl⟩
  have hc : s.clear := State.clear_iff.2 hr
  have ht : t.safe s.life.count.toNat ∧ t.clear := by
    unfold step at h
    split at h
    next =>
      cases h
      exact ⟨by simp [State.safe, hs], by simp [State.clear, hc]⟩
    next c rest _ =>
      have hp : State.safe s.life.count.toNat { s with pending := rest } := State.safe_congr hs id rfl rfl
      exact ⟨exec_safe (exec_wf_of_next h) h hp, exec_clear (exec_wf_of_next h) h (State.clear_iff.2 hr)⟩
  obtain ⟨hm', hl', ha', hn⟩ := State.safe_iff.1 ht.1
  exact ⟨hm', hl', ⟨ha', State.clear_iff.1 ht.2⟩, hn⟩

end Sys2Proof.Machine
end

section
/-! PROOFS. Reading a register (R27, R8): the word answered and what the read changes. -/

namespace Sys2Proof.Machine

set_option Elab.async false

/-- A 32-bit read while the planes run and DOZE holds nothing back answers the word and has its effect. -/
theorem State.anyRead_of_awake {s : State} (h : s.awake) (a : BitVec 20) : s.anyRead a 4 = s.readNow a.toNat := by
  obtain ⟨h1, h2⟩ := h
  simp [State.anyRead, State.hostRead, h1, h2]

theorem State.anyRead_unsupported (s : State) (a : BitVec 20) {n : Nat} (h : n ≠ 4) : s.anyRead a n = s.emit .unsupported := by
  simp [State.anyRead, h]

/-- A row that reads a register answers the word that the register reads, then has the effect of the read. -/
theorem completes_read {i : Instr} {s u : State} {a : BitVec 20} {w : BitVec 32} (hs : s.awake)
    (hi : exec i s = .next (s.anyRead a 4)) (he : s.readEffect a.toNat = u) (hw : s.regRead a.toNat = w) :
    Completes i s fun t => t = u.emit (.barRead w) :=
  ⟨_, hi, by rw [State.anyRead_of_awake hs, State.readNow, he, hw]⟩

theorem completes_badRead {i : Instr} {s : State} {a : BitVec 20} {n : Nat} (hn : n ≠ 4)
    (hi : exec i s = .next (s.anyRead a n)) : Completes i s fun t => t = s.emit .unsupported :=
  ⟨_, hi, State.anyRead_unsupported s a hn⟩

theorem loHalf_toNat (x : BitVec 64) : loHalf x.toNat = x.extractLsb' 0 32 := by
  apply BitVec.eq_of_toNat_eq
  simp [loHalf]

theorem hiHalf_toNat (x : BitVec 64) : hiHalf x.toNat = x.extractLsb' 32 32 := by
  apply BitVec.eq_of_toNat_eq
  simp [hiHalf, Nat.shiftRight_eq_div_pow]

/-- A word of four fields at any positions. -/
theorem word_four (w x y z i j k l : Nat) :
    word [(i, w), (j, x), (k, y), (l, z)] = BitVec.ofNat 32 (w * 2 ^ i + x * 2 ^ j + y * 2 ^ k + z * 2 ^ l) := by
  simp [word]

theorem toNat_append_add {m n : Nat} (a : BitVec m) (b : BitVec n) : (a ++ b).toNat = a.toNat * 2 ^ n + b.toNat := by
  rw [BitVec.toNat_append, ← Nat.shiftLeft_add_eq_or_of_lt b.isLt, Nat.shiftLeft_eq]

theorem word_bytes (a b c d : BitVec 8) :
    word [(0, d.toNat), (8, c.toNat), (16, b.toNat), (24, a.toNat)] = (a ++ b ++ c ++ d : BitVec 32) := by
  have hn : (a ++ b ++ c ++ d : BitVec 32).toNat = d.toNat * 2 ^ 0 + c.toNat * 2 ^ 8 + b.toNat * 2 ^ 16 + a.toNat * 2 ^ 24 := by
    rw [toNat_append_add, toNat_append_add, toNat_append_add]
    ring
  rw [word_four, ← hn, BitVec.ofNat_toNat, BitVec.setWidth_eq]

/-- Settles O40, by the effect and the word of each address. -/
theorem registerReadsAnswerAndClear : Obligations.RegisterReadsAnswerAndClear := by
  intro s j p a hs hj hp ha
  subst hj hp ha
  refine ⟨?_, ?_, ?_, ?_, ?_, ?_, ?_, ?_, ?_, ?_, ?_, ?_, ?_, ?_, ?_, ?_, ?_, ?_, ?_, ?_, ?_, ?_, ?_, ?_⟩
  case refine_6 => exact completes_read hs rfl rfl (word_bytes _ _ _ _)
  case refine_19 => exact completes_read hs rfl (by rw [← hiHalf_toNat]; rfl) (loHalf_toNat _)
  case refine_20 => exact completes_read hs rfl (by rw [← hiHalf_toNat]; rfl) (loHalf_toNat _)
  case refine_21 =>
    rintro w v rfl
    cases w <;> exact completes_read hs rfl rfl rfl
  case refine_22 =>
    rintro w v rfl
    cases w <;> exact completes_read hs rfl rfl rfl
  case refine_23 =>
    rintro w v rfl
    cases w <;> exact completes_read hs rfl rfl rfl
  case refine_24 =>
    intro n w x y hn i hi
    fin_cases hi <;> exact completes_badRead hn rfl
  all_goals exact completes_read hs rfl rfl rfl

end Sys2Proof.Machine
end

section
/-! PROOFS. Doorbells (R33, R34, R276): which writes are accepted, and what a refused one leaves. -/

namespace Sys2Proof.Machine

set_option Elab.async false

/-- Raising an event sets its bit and touches beside it only the messages pending and what D3hot holds back. -/
theorem State.raise_gctl (bit : Nat) (s : State) :
    (s.raise bit).gctl =
      { s.gctl with evtStat := setBit s.gctl.evtStat bit true, d3held := (s.raise bit).gctl.d3held, pba := (s.raise bit).gctl.pba } := by
  unfold State.raise
  dsimp only
  split
  · rw [State.sendMsix_gctl]
  · rfl

theorem getLsbD_setBit {w : Nat} (v : BitVec w) (i : Nat) (b : Bool) (h : i < w) : (setBit v i b).getLsbD i = b := by
  cases b <;> simp [setBit, h]

/-- The epoch that a doorbell carries. -/
theorem fieldOf_epoch (v : BitVec 32) (e : BitVec 16) : BitVec.ofNat 16 (fieldOf v 16 16) = e ↔ v.toNat / 65536 = e.toNat := by
  have := v.isLt
  have := e.isLt
  rw [← BitVec.toNat_inj]
  simp only [fieldOf, bitsAt, BitVec.toNat_ofNat]
  omega

/-- What a refused doorbell leaves. -/
theorem State.doorbellError_leaves (q : QId) (cause : BitVec 2) (epoch : Bool) (s : State) :
    (s.doorbellError q cause epoch).queues = s.queues ∧
    (s.doorbellError q cause epoch).gctl.dbCount = satAdd s.gctl.dbCount 1 ∧
    (s.doorbellError q cause epoch).gctl.dbQueue = q ∧ (s.doorbellError q cause epoch).gctl.dbEpoch = epoch ∧
    (s.doorbellError q cause epoch).gctl.dbCause = cause ∧ (s.doorbellError q cause epoch).gctl.evtStat.getLsbD evDbErr = true := by
  unfold State.doorbellError
  rw [State.raise_gctl]
  refine ⟨by simp, rfl, rfl, rfl, rfl, ?_⟩
  exact getLsbD_setBit _ _ _ (by decide)

/-- A doorbell that no check refuses moves the tail or the head. -/
theorem State.doorbell_accepted {q : QId} {tail : Bool} {v : BitVec 32} {s : State}
    (h : doorbellFault (s.queue q) tail v = none) :
    s.doorbell q tail v = (s.setQueue q (if tail then { s.queue q with sqTail := BitVec.ofNat 12 v.toNat }
      else { s.queue q with cqHead := BitVec.ofNat 12 v.toNat })).sync 0 := by
  simp only [State.doorbell, h]

theorem State.doorbell_refused {q : QId} {tail epoch : Bool} {v : BitVec 32} {cause : BitVec 2} {s : State}
    (h : doorbellFault (s.queue q) tail v = some (cause, epoch)) : s.doorbell q tail v = s.doorbellError q cause epoch := by
  simp only [State.doorbell, h]

/-- A submission tail goes through when its epoch is right, it lies in the ring, and it does not go back. -/
theorem doorbellFault_tail {x : Queue} {v : BitVec 32} {i : BitVec 12} (hi : i = BitVec.ofNat 12 v.toNat) (hx : x.st ≠ .absent)
    (he : v.toNat / 65536 = x.epoch.toNat) (hn : i.toNat < x.sqSize) :
    doorbellFault x true v =
      if ringSpan x.sqSize x.sqHead i < ringSpan x.sqSize x.sqHead x.sqTail then some (1, false) else none := by
  subst hi
  simp only [doorbellFault, hx, (fieldOf_epoch v x.epoch).mpr he, if_true, if_false, ne_eq, not_true]
  rw [if_neg (by omega)]

theorem doorbellFault_head {x : Queue} {v : BitVec 32} {i : BitVec 12} (hi : i = BitVec.ofNat 12 v.toNat) (hx : x.st ≠ .absent)
    (he : v.toNat / 65536 = x.epoch.toNat) (hn : i.toNat < x.cqSize) :
    doorbellFault x false v =
      if ringSpan x.cqSize x.cqHead x.cqTail < ringSpan x.cqSize x.cqHead i then some (2, false) else none := by
  subst hi
  simp only [doorbellFault, hx, (fieldOf_epoch v x.epoch).mpr he, if_false, ne_eq, not_true, Bool.false_eq_true]
  rw [if_neg (by omega)]

theorem doorbellFault_range {x : Queue} {v : BitVec 32} {tail : Bool} (hx : x.st ≠ .absent)
    (he : v.toNat / 65536 = x.epoch.toNat) (hn : (if tail then x.sqSize else x.cqSize) ≤ (BitVec.ofNat 12 v.toNat).toNat) :
    doorbellFault x tail v = some (0, false) := by
  simp only [doorbellFault, hx, (fieldOf_epoch v x.epoch).mpr he, if_false, ne_eq, not_true]
  rw [if_pos hn]

theorem doorbellFault_epoch {x : Queue} {v : BitVec 32} (tail : Bool) (hx : x.st ≠ .absent)
    (he : v.toNat / 65536 ≠ x.epoch.toNat) : doorbellFault x tail v = some (0, true) := by
  have hf : ¬BitVec.ofNat 16 (fieldOf v 16 16) = x.epoch := fun h => he ((fieldOf_epoch v x.epoch).mp h)
  simp [doorbellFault, hx, hf]

theorem doorbellFault_absent {x : Queue} (v : BitVec 32) (tail : Bool) (hx : x.st = .absent) :
    doorbellFault x tail v = some (0, false) := by
  simp [doorbellFault, hx]

theorem doorbellOffset_append (q : QId) (tail : Bool) : doorbellOffset q tail = q ++ (if tail then 0#4 else 4#4) := by
  have hq : (q.toNat <<< 4) % 2 ^ 18 = q.toNat <<< 4 :=
    Nat.mod_eq_of_lt (by rw [Nat.shiftLeft_eq]; have := q.isLt; omega)
  apply BitVec.eq_of_toNat_eq
  cases tail <;>
    simp only [doorbellOffset, BitVec.toNat_or, BitVec.toNat_shiftLeft, BitVec.toNat_setWidth, BitVec.toNat_append,
      Nat.mod_eq_of_lt (Nat.lt_trans q.isLt (by decide : 2 ^ 14 < 2 ^ 18)), hq] <;> rfl

theorem doorbellOffset_queue (q : QId) (tail : Bool) : (doorbellOffset q tail).extractLsb' 4 14 = q := by
  rw [doorbellOffset_append]
  exact BitVec.extractLsb'_append_eq_left

theorem doorbellOffset_mod (q : QId) (tail : Bool) : (doorbellOffset q tail).toNat % 16 = if tail then 0 else 4 := by
  rw [doorbellOffset_append, toNat_append_add]
  cases tail <;> simp

/-- A doorbell write of BAR2 while the planes run, outside D3hot. -/
theorem State.bar2_doorbell {s : State} (hs : s.awake) (hd : s.gctl.d3hot = false) (q : QId) (tail : Bool) (v : BitVec 32) :
    s.bar2 (doorbellOffset q tail) v = s.doorbell q tail v := by
  obtain ⟨h1, h2⟩ := hs
  cases tail <;> simp [State.bar2, h1, h2, hd, doorbellOffset_queue, doorbellOffset_mod]

/-- The queue and the place in its page of a BAR4 address. -/
theorem bar4_address (n : BitVec 6) (q : QId) :
    (n ++ q ++ 0#4).extractLsb' 18 6 = n ∧ (n ++ q ++ 0#4).extractLsb' 4 14 = q ∧
    (n ++ q ++ 0#4).setWidth 18 = doorbellOffset q true ∧ (n ++ q ++ 0#4).toNat % 2 ^ 18 = 16 * q.toNat := by
  have hn : (n ++ q ++ 0#4).toNat = 2 ^ 18 * n.toNat + 16 * q.toNat := by
    rw [toNat_append_add, toNat_append_add]
    simp only [BitVec.toNat_ofNat]
    omega
  have hq := q.isLt
  have hn' := n.isLt
  refine ⟨?_, ?_, ?_, by rw [hn]; omega⟩
  · apply BitVec.eq_of_toNat_eq
    rw [BitVec.extractLsb'_toNat, hn, Nat.shiftRight_eq_div_pow]
    omega
  · apply BitVec.eq_of_toNat_eq
    rw [BitVec.extractLsb'_toNat, hn, Nat.shiftRight_eq_div_pow]
    omega
  · rw [doorbellOffset_append]
    apply BitVec.eq_of_toNat_eq
    rw [BitVec.toNat_setWidth, hn, toNat_append_add]
    simp only [if_true, BitVec.toNat_ofNat]
    omega

/-- A doorbell row, by the doorbell it writes. -/
def doorbellRow (q : QId) (v : BitVec 32) (tail : Bool) : Instr := if tail then .doorbellSqTail q v none else .doorbellCqHead q v

theorem exec_doorbellRow {s : State} (hs : s.awake) (hd : s.gctl.d3hot = false) (q : QId) (v : BitVec 32) (tail : Bool) :
    exec (doorbellRow q v tail) s = .next (s.doorbell q tail v) := by
  rw [← State.bar2_doorbell hs hd]
  cases tail <;> rfl

section
variable {s : State} {q : QId} {v : BitVec 32} {x : Queue} {i : BitVec 12} (hs : s.awake) (hd : s.gctl.d3hot = false)
  (hx : x = s.queue q) (hi : i = BitVec.ofNat 12 v.toNat)
include hs hd hx

/-- A doorbell that a check refuses changes no queue and is counted, with its cause. -/
theorem completes_doorbell_refused {tail epoch : Bool} {cause : BitVec 2} (hf : doorbellFault x tail v = some (cause, epoch)) :
    Completes (doorbellRow q v tail) s fun t =>
      t.queues = s.queues ∧ t.gctl.dbCount = satAdd s.gctl.dbCount 1 ∧ t.gctl.dbQueue = q ∧ t.gctl.dbEpoch = epoch ∧
      t.gctl.dbCause = cause ∧ t.gctl.evtStat.getLsbD evDbErr = true := by
  subst hx
  refine ⟨_, exec_doorbellRow hs hd q v tail, ?_⟩
  rw [State.doorbell_refused hf]
  exact State.doorbellError_leaves q cause epoch s

theorem completes_doorbell_accepted {tail : Bool} (hf : doorbellFault x tail v = none) :
    Completes (doorbellRow q v tail) s fun t =>
      t = (s.setQueue q (if tail then { x with sqTail := BitVec.ofNat 12 v.toNat }
        else { x with cqHead := BitVec.ofNat 12 v.toNat })).sync 0 := by
  subst hx
  exact ⟨_, exec_doorbellRow hs hd q v tail, State.doorbell_accepted hf⟩

include hi in
/-- A 64-bit doorbell write moves the tail, then the head. -/
theorem completes_doorbell_both (hst : x.st ≠ .absent) (he : v.toNat / 65536 = x.epoch.toNat) {w : BitVec 32} {j : BitVec 12}
    (hj : j = BitVec.ofNat 12 w.toNat) (hw : w.toNat / 65536 = x.epoch.toNat) (hin : i.toNat < x.sqSize)
    (hri : ringSpan x.sqSize x.sqHead x.sqTail ≤ ringSpan x.sqSize x.sqHead i) (hjn : j.toNat < x.cqSize)
    (hrj : ringSpan x.cqSize x.cqHead j ≤ ringSpan x.cqSize x.cqHead x.cqTail) :
    Completes (.doorbellSqTail q v (some w)) s fun t => t.queue q = { x with sqTail := i, cqHead := j } ∧
      (∀ r, r ≠ q → t.queue r = s.queue r) ∧ t.gctl = s.gctl := by
  have hf : doorbellFault (s.queue q) true v = none := by
    rw [← hx, doorbellFault_tail hi hst he hin, if_neg (by omega)]
  have hq : ((s.setQueue q { x with sqTail := i }).sync 0).queue q = { x with sqTail := i } := by
    rw [State.queue_congr (s := s.setQueue q { x with sqTail := i }) (by simp) (by simp), State.queue_setQueue]
  have hf' : doorbellFault (((s.setQueue q { x with sqTail := i }).sync 0).queue q) false w = none := by
    rw [hq, doorbellFault_head (x := { x with sqTail := i }) hj hst hw hjn, if_neg (by simpa using hrj)]
  have ha : ((s.setQueue q { x with sqTail := i }).sync 0).awake := by
    simpa [State.awake, State.planesHeld, State.asleep] using hs
  have h1 : s.bar2 (doorbellOffset q true) v = (s.setQueue q { x with sqTail := i }).sync 0 := by
    rw [State.bar2_doorbell hs hd, State.doorbell_accepted hf, ← hx, ← hi, if_pos rfl]
  refine ⟨(((s.setQueue q { x with sqTail := i }).sync 0).setQueue q { x with sqTail := i, cqHead := j }).sync 0, ?_, ?_, ?_, ?_⟩
  · simp only [exec, execDoorbellSqTail, h1]
    rw [State.bar2_doorbell ha (by simpa using hd), State.doorbell_accepted hf', hq, ← hj, if_neg (by decide)]
  · rw [State.queue_congr (s := ((s.setQueue q { x with sqTail := i }).sync 0).setQueue q { x with sqTail := i, cqHead := j })
      (by simp) (by simp), State.queue_setQueue]
  · intro r hr
    rw [State.queue_congr (s := ((s.setQueue q { x with sqTail := i }).sync 0).setQueue q { x with sqTail := i, cqHead := j })
      (by simp) (by simp), State.queue_setQueue_ne _ _ _ _ hr,
      State.queue_congr (s := s.setQueue q { x with sqTail := i }) (by simp) (by simp), State.queue_setQueue_ne _ _ _ _ hr]
  · simp

end

theorem Completes.mono {i : Instr} {s : State} {P Q : State → Prop} (h : Completes i s P) (hpq : ∀ t, P t → Q t) :
    Completes i s Q := by
  obtain ⟨t, ht, hp⟩ := h
  exact ⟨t, ht, hpq t hp⟩

/-- A BAR4 write that the planes, D3hot and DOZE let through reaches the port. -/
theorem exec_bar4 {s : State} (hs : s.awake) (hd : s.gctl.d3hot = false) (a : BitVec 24) (v : BitVec 32) :
    exec (.bar4DoorbellWrite a v) s = .next (s.bar4Now a v) := by
  obtain ⟨h1, h2⟩ := hs
  simp [exec, execBar4DoorbellWrite, State.bar4, h1, h2, hd]

theorem State.sendTo_queues (k : SkKind) (n : BitVec 6) (tag : BitVec 32) (p : Bytes) (s : State) :
    (s.sendTo k n tag p).queues = s.queues ∧ (s.sendTo k n tag p).gctl = s.gctl := by
  have h : s.touches [.skn, .posted] (s.sendTo k n tag p) := by simp
  exact ⟨h .queues (by decide), h .gctl (by decide)⟩

/-- Settles O38, by the checks of a doorbell and the three ways in: BAR2 of 32 or 64 bits, and BAR4. -/
theorem doorbellsAdvanceOrAreRefused : Obligations.DoorbellsAdvanceOrAreRefused := by
  intro s q v x i hs hd hx hi
  refine ⟨fun hst he => ⟨?_, ?_, ?_, ?_, ?_, ?_⟩, ?_, ?_, ?_, ?_, ?_⟩
  · intro hn hr
    have := completes_doorbell_accepted (tail := true) hs hd hx
      (by rw [doorbellFault_tail hi hst he hn, if_neg (by omega)])
    simpa [doorbellRow, hi] using this
  · intro hn hr
    have := completes_doorbell_accepted (tail := false) hs hd hx
      (by rw [doorbellFault_head hi hst he hn, if_neg (by omega)])
    simpa [doorbellRow, hi] using this
  · intro w j hj hw hin hri hjn hrj
    exact completes_doorbell_both hs hd hx hi hst he hj hw hin hri hjn hrj
  · intro k hk hn
    obtain rfl | rfl : k = (0, .doorbellSqTail q v none) ∨ k = (1, .doorbellCqHead q v) := by simpa using hk
    · exact completes_doorbell_refused (tail := true) hs hd hx (doorbellFault_range hst he (hi ▸ hn))
    · exact completes_doorbell_refused (tail := false) hs hd hx (doorbellFault_range hst he (hi ▸ hn))
  · intro hn hr
    exact (completes_doorbell_refused (tail := true) hs hd hx
      (by rw [doorbellFault_tail hi hst he hn, if_pos hr])).mono fun t ⟨h1, h2, _, h4, h5, _⟩ => ⟨h1, h2, h4, h5⟩
  · intro hn hr
    exact (completes_doorbell_refused (tail := false) hs hd hx
      (by rw [doorbellFault_head hi hst he hn, if_pos hr])).mono fun t ⟨h1, h2, _, h4, h5, _⟩ => ⟨h1, h2, h4, h5⟩
  · intro k hk hst he
    obtain ⟨tail, rfl⟩ : ∃ tail, k = doorbellRow q v tail := by
      obtain rfl | rfl : k = .doorbellSqTail q v none ∨ k = .doorbellCqHead q v := by simpa using hk
      exacts [⟨true, rfl⟩, ⟨false, rfl⟩]
    exact (completes_doorbell_refused hs hd hx (doorbellFault_epoch tail hst he)).mono
      fun t ⟨h1, h2, h3, h4, _, h6⟩ => ⟨h1, h2, h3, h4, h6⟩
  · intro k hk hst
    obtain ⟨tail, rfl⟩ : ∃ tail, k = doorbellRow q v tail := by
      obtain rfl | rfl : k = .doorbellSqTail q v none ∨ k = .doorbellCqHead q v := by simpa using hk
      exacts [⟨true, rfl⟩, ⟨false, rfl⟩]
    exact completes_doorbell_refused hs hd hx (doorbellFault_absent v tail hst)
  · intro hh hst he hn hr
    have hf : doorbellFault (s.queue q) true v = none := by
      rw [← hx, doorbellFault_tail hi hst he hn, if_neg (by omega)]
    obtain ⟨ha, -, hb, -⟩ := bar4_address s.skn.nodeId q
    refine ⟨_, exec_bar4 hs hd _ v, ?_⟩
    simp only [State.bar4Now, hh, ha, hb, State.bar2_doorbell hs hd, State.doorbell_accepted hf, Bool.not_true, if_true,
      Bool.false_eq_true, if_false, hx, hi]
  · intro n hh hn
    obtain ⟨ha, hb, -, hc⟩ := bar4_address n q
    refine ⟨fun hr => ⟨_, exec_bar4 hs hd _ v, ?_⟩, fun hr => ⟨_, exec_bar4 hs hd _ v, ?_⟩⟩
    · simp only [State.bar4Now, hh, ha, hn, hr, hc, Bool.not_true, Bool.false_eq_true, if_true, if_false, and_true]
      obtain ⟨h1, h2⟩ := State.sendTo_queues .doorbell n 0 (leBytes 4 (16 * q.toNat) ++ leBytes 4 v.toNat) s
      exact ⟨h1, by rw [h2]⟩
    · simp only [State.bar4Now, hh, ha, hb, hn, hr, Bool.not_true, Bool.false_eq_true, if_false]
      obtain ⟨h1, h2, -, -, -, h6⟩ := State.doorbellError_leaves q 0 false s
      exact ⟨h1, h2, h6⟩
  · intro a hh
    exact ⟨_, exec_bar4 hs hd a v, by simp [State.bar4Now, hh]⟩

end Sys2Proof.Machine
end

section
/-! PROOFS. Rows whose packet runs: a command is completed from what its body answers. -/

namespace Sys2Proof.Machine

set_option Elab.async false

section
variable {op : BitVec 16} {sub : Option Byte} {c : Cmd} {s : State} {f : Fetched} {i : Instr} {body : Ctx → State → Out} {o : Out}
  {P : State → Prop}

/-- A row whose body answers at once, with the command's queue left as it was: the packet is answered. -/
theorem completes_now (h : Runs op sub c s f) (hi : exec i s = .next (runOp op sub body c s))
    (ho : body (s.ctxRun op sub c f) (s.begun op sub c f) = o) (hw : o.when_ = .now)
    (hq : o.s.queue c.q = (s.begun op sub c f).queue c.q)
    (hP : (o.finish (s.ctxRun op sub c f)).answers c.q f o.status o.inl → P (o.finish (s.ctxRun op sub c f))) : Completes i s P := by
  refine ⟨_, by rw [hi, runOp_runs h, ho], hP (finish_answers h o hw hq)⟩

/-- A row whose body answers with the open group. -/
theorem completes_group (h : Runs op sub c s f) (hi : exec i s = .next (runOp op sub body c s))
    (ho : body (s.ctxRun op sub c f) (s.begun op sub c f) = o) (hw : o.when_ = .group) (hs : o.status = 0)
    (hP : (o.finish (s.ctxRun op sub c f)).answersDurable c.q f o.inl → P (o.finish (s.ctxRun op sub c f))) : Completes i s P :=
  ⟨_, by rw [hi, runOp_runs h, ho], hP (finish_answersDurable h o hw hs)⟩

/-- A row whose reply comes later. -/
theorem completes_later (h : Runs op sub c s f) (hi : exec i s = .next (runOp op sub body c s))
    (ho : body (s.ctxRun op sub c f) (s.begun op sub c f) = o) (hw : o.when_ = .later) (hP : P o.s) : Completes i s P :=
  ⟨_, by rw [hi, runOp_runs h, ho, Out.finish, hw], hP⟩

/-- The result of a body that answers at once is written to its place, cut to `out_len`. -/
theorem finish_wrote (h : Runs op sub c s f) (o : Out) (hw : o.when_ = .now)
    (hq : o.s.queue c.q = (s.begun op sub c f).queue c.q) (hr : o.result ≠ [])
    (hl : 0 < (rowPacket op sub c.pkt).outLen.toNat) :
    Posted.hostWrite (rowPacket op sub c.pkt).outPtr (o.result.take (rowPacket op sub c.pkt).outLen.toNat) ∈
      (o.finish (s.ctxRun op sub c f)).sent := by
  have hk : (((s.ctxRun op sub c f).held o.status o.cyc o.inl o.result)).write =
      some ((rowPacket op sub c.pkt).outPtr, o.result.take (rowPacket op sub c.pkt).outLen.toNat) := by
    simp [Ctx.held, State.ctxRun, State.ctxOf, hr]
  have hn : o.result.take (rowPacket op sub c.pkt).outLen.toNat ≠ [] := by
    simp only [ne_eq, List.take_eq_nil_iff, not_or]
    exact ⟨by omega, hr⟩
  simp only [Out.finish, hw]
  rw [State.postReply_host _ _ h.host, State.sent_mssDone]
  refine State.postHost_result _ _ { f with running := true } _ _ ?_ hk hn
  simpa [Ctx.held, State.ctxRun, State.ctxOf, hq] using h.inflight

/-- Setting a byte leaves the bits outside it. -/
theorem Packet.setByte_extract (p : Packet) (k : Nat) (b : Byte) {lo w : Nat} (h : lo + w ≤ 8 * (k - 32) ∨ 8 * (k - 32) + 8 ≤ lo) :
    (p.setByte k b).inl.extractLsb' lo w = p.inl.extractLsb' lo w := by
  apply BitVec.eq_of_getLsbD_eq
  intro i hi
  simp only [Packet.setByte, BitVec.getLsbD_extractLsb', BitVec.getLsbD_or, BitVec.getLsbD_and, BitVec.getLsbD_not,
    BitVec.getLsbD_shiftLeft, BitVec.getLsbD_setWidth, hi, decide_true, Bool.true_and]
  by_cases hw : lo + i < 256
  · rcases h with h | h
    · have : lo + i < 8 * (k - 32) := by omega
      simp [this, hw]
    · have h1 : ¬lo + i < 8 * (k - 32) := by omega
      have h2 : (255#256).getLsbD (lo + i - 8 * (k - 32)) = false := by
        rw [BitVec.getLsbD_ofNat, Nat.testBit_eq_false_of_lt, Bool.and_false]
        exact lt_of_lt_of_le (by decide : 255 < 2 ^ 8) (Nat.pow_le_pow_right (by decide) (by omega))
      have h3 : b.getLsbD (lo + i - 8 * (k - 32)) = false := BitVec.getLsbD_of_ge _ _ (by omega)
      simp [h1, h2, h3, hw]
  · simp [hw, BitVec.getLsbD_of_ge _ _ (Nat.not_lt.mp hw)]

theorem Packet.setByte_field (p : Packet) (b : Byte) {k j n : Nat}
    (h : 8 * (j - 32) + 8 * n ≤ 8 * (k - 32) ∨ 8 * (k - 32) + 8 ≤ 8 * (j - 32)) :
    (p.setByte k b).field j n = p.field j n := by
  have hb (q : Packet) : q.field j n = (q.inl.extractLsb' (8 * (j - 32)) (8 * n)).toNat := by
    rw [BitVec.extractLsb'_toNat, Nat.shiftRight_eq_div_pow]
    rfl
  rw [hb, hb, Packet.setByte_extract p k b h]

@[simp] theorem rowPacket_outPtr (op : BitVec 16) (sub : Option Byte) (p : Packet) : (rowPacket op sub p).outPtr = p.outPtr := by
  cases sub with
  | none => rfl
  | some b =>
    refine Packet.setByte_extract { p with opcode := op } (opByte op) b (Or.inr ?_)
    unfold opByte
    split <;> omega

@[simp] theorem rowPacket_outLen (op : BitVec 16) (sub : Option Byte) (p : Packet) : (rowPacket op sub p).outLen = p.outLen := by
  cases sub <;> simp [rowPacket, Packet.setByte]
@[simp] theorem rowPacket_handleA (op : BitVec 16) (sub : Option Byte) (p : Packet) : (rowPacket op sub p).handleA = p.handleA := by
  cases sub <;> simp [rowPacket, Packet.setByte]
@[simp] theorem rowPacket_handleB (op : BitVec 16) (sub : Option Byte) (p : Packet) : (rowPacket op sub p).handleB = p.handleB := by
  cases sub <;> simp [rowPacket, Packet.setByte]
@[simp] theorem rowPacket_dataLen (op : BitVec 16) (sub : Option Byte) (p : Packet) : (rowPacket op sub p).dataLen = p.dataLen := by
  cases sub <;> simp [rowPacket, Packet.setByte]
@[simp] theorem rowPacket_locked (op : BitVec 16) (sub : Option Byte) (p : Packet) : (rowPacket op sub p).locked = p.locked := by
  cases sub <;> simp [rowPacket, Packet.setByte, Packet.locked]
@[simp] theorem rowPacket_none_field (op : BitVec 16) (p : Packet) (k n : Nat) : (rowPacket op none p).field k n = p.field k n := rfl
@[simp] theorem rowPacket_none_byteAt (op : BitVec 16) (p : Packet) (k : Nat) : (rowPacket op none p).byteAt k = p.byteAt k := rfl

@[simp] theorem State.ctxRun_c (op : BitVec 16) (sub : Option Byte) (c : Cmd) (f : Fetched) (s : State) :
    (s.ctxRun op sub c f).c = { c with pkt := rowPacket op sub c.pkt } := rfl
@[simp] theorem State.ctxRun_dom (op : BitVec 16) (sub : Option Byte) (c : Cmd) (f : Fetched) (s : State) :
    (s.ctxRun op sub c f).dom = (s.queue c.q).dom := rfl
@[simp] theorem State.ctxRun_epoch (op : BitVec 16) (sub : Option Byte) (c : Cmd) (f : Fetched) (s : State) :
    (s.ctxRun op sub c f).epoch = (s.queue c.q).epoch := rfl
@[simp] theorem State.ctxRun_id (op : BitVec 16) (sub : Option Byte) (c : Cmd) (f : Fetched) (s : State) :
    (s.ctxRun op sub c f).id = f.id := rfl

/-- A body that changes nothing and answers at once answers its packet with its result written, and nothing else changes. -/
theorem completes_query (h : Runs op sub c s f) (hi : exec i s = .next (runOp op sub body c s))
    (hl : reachesLedger op.toNat = false) {cyc : Nat} {inl : BitVec 64} {result : Bytes}
    (ho : body (s.ctxRun op sub c f) (s.begun op sub c f) = { s := s.begun op sub c f, cyc, inl, result }) :
    Completes i s fun t => t.answers c.q f 0 inl ∧ s.answersOnly t c.q ∧
      (result ≠ [] → 0 < c.pkt.outLen.toNat → Posted.hostWrite c.pkt.outPtr (result.take c.pkt.outLen.toNat) ∈ t.sent) := by
  refine completes_now h hi ho rfl rfl fun ha => ⟨ha, finish_answersOnly _ rfl hl rfl, fun hr hn => ?_⟩
  simpa using finish_wrote h { s := s.begun op sub c f, cyc, inl, result } rfl rfl hr (by simpa using hn)

end

/-! ## The journal's acknowledgement (R130) -/

/-- A write of a journal record to the ring leaves the ring's base and depth. -/
theorem State.toRing_ring (n : Nat) (b : Bytes) (s : State) :
    (s.toRing n b).ru.jrn.base = s.ru.jrn.base ∧ (s.toRing n b).ru.jrn.depth = s.ru.jrn.depth := by
  unfold State.toRing
  dsimp only
  split <;> simp

theorem State.foldl_toRing_ring (l : List (Nat × Bytes)) (s : State) :
    (l.foldl (fun s p => s.toRing p.1 p.2) s).ru.jrn.base = s.ru.jrn.base ∧
    (l.foldl (fun s p => s.toRing p.1 p.2) s).ru.jrn.depth = s.ru.jrn.depth := by
  induction l generalizing s with
  | nil => exact ⟨rfl, rfl⟩
  | cons p l ih =>
    obtain ⟨h1, h2⟩ := ih (s.toRing p.1 p.2)
    obtain ⟨h3, h4⟩ := State.toRing_ring p.1 p.2 s
    exact ⟨h1.trans h3, h2.trans h4⟩

/-- Enabling the ring, and what it flushes, leaves its base and depth. -/
theorem State.writeJournalEn_ring (en : Bool) (s : State) :
    (s.writeJournalEn en).ru.jrn.base = s.ru.jrn.base ∧ (s.writeJournalEn en).ru.jrn.depth = s.ru.jrn.depth := by
  unfold State.writeJournalEn State.flushJournal
  dsimp only
  split
  · exact State.foldl_toRing_ring _ _
  · exact ⟨rfl, rfl⟩

/-- An acknowledgement up to the highest sequence written raises *ack*, and never lowers it. -/
theorem journalAckBody_of_le {x : Ctx} {s : State} (h : x.c.pkt.field 32 8 ≤ s.ru.jrn.written) :
    journalAckBody x s =
      { s := { s with ru := { s.ru with jrn := { s.ru.jrn with ack := max s.ru.jrn.ack (x.c.pkt.field 32 8) } } }, cyc := 58 } := by
  simp [journalAckBody, Nat.not_lt.mpr h]

theorem journalAckBody_of_lt {x : Ctx} {s : State} (h : s.ru.jrn.written < x.c.pkt.field 32 8) :
    journalAckBody x s = x.refused s stBadParameter := by
  simp [journalAckBody, h]

/-- Settles O55, by the sequence acknowledged against the highest written, and by the writes of the ring's registers. -/
theorem journalAckOnlyRises : Obligations.JournalAckOnlyRises := by
  refine ⟨fun c s f v h hv => ⟨fun hw ha => ?_, fun hw ha => ?_, fun hw => ?_⟩, fun s v hs hen => ⟨?_, ?_, ?_⟩⟩
  · refine completes_now h rfl (journalAckBody_of_le (by simpa [← hv] using hw)) rfl rfl fun hans => ⟨?_, hans⟩
    simp [← hv, Nat.max_eq_right (Nat.le_of_lt ha)]
  · refine completes_now h rfl (journalAckBody_of_le (by simpa [← hv] using hw)) rfl rfl fun hans => ⟨?_, hans⟩
    simp [← hv, Nat.max_eq_left ha]
  · exact completes_now h rfl (journalAckBody_of_lt (by simpa [← hv] using hw)) rfl rfl fun hans => ⟨by simp [Ctx.refused, Out.stop], hans⟩
  · exact ⟨_, rfl, by rw [State.anyWrite_of_awake hs rfl]; simp [State.regWrite, State.writeRegister, hen]⟩
  · exact ⟨_, rfl, by rw [State.anyWrite_of_awake hs rfl]; simp [State.regWrite, State.writeRegister, hen]⟩
  · refine ⟨_, rfl, ?_⟩
    rw [State.anyWrite_of_awake hs rfl]
    simp only [State.regWrite, State.writeRegister]
    have := State.writeJournalEn_ring (v.getLsbD 8) { s with ru := { s.ru with jrn := { s.ru.jrn with
      depth := s.ru.jrn.depth, ackGate := v.getLsbD 9 } } }
    simpa [hen] using this

end Sys2Proof.Machine
end

section
/-! PROOFS. Queries: what a report reads is the same where its packet's effect begins. -/

namespace Sys2Proof.Machine

set_option Elab.async false

section
variable (op : BitVec 16) (sub : Option Byte) (c : Cmd) (f : Fetched) (s : State)

/-- The MSS is as it was where it does not carry the packet out. -/
theorem State.begun_mss_same (h : forMss op = false) : (s.begun op sub c f).mss = s.mss := by
  simp [State.begun, h]

@[simp] theorem State.begun_pool (n : PoolId) : (s.begun op sub c f).pool n = s.pool n :=
  State.pool_congr (State.begun_pools op sub c f s) n

@[simp] theorem State.begun_gen (e : Nat) : (s.begun op sub c f).gen e = s.gen e := by simp [State.gen]

end

/-! ## Queues of a domain -/

/-- Changing an entry that a table holds leaves what a test on the other parts counts. -/
theorem Tab.length_filter_put {α : Type} {t : Tab α} {k : Nat} {v w : α} {P : Nat × α → Bool} (hf : t.find k = some v)
    (hP : P (k, w) = P (k, v)) : ((t.put k w).filter P).length = (t.filter P).length := by
  induction t with
  | nil => simp [Tab.find] at hf
  | cons p t ih =>
    obtain ⟨j, u⟩ := p
    simp only [Tab.find] at hf
    simp only [Tab.put]
    split at hf
    · obtain rfl := Option.some.inj hf
      subst j
      simp [List.filter_cons, hP]
      split <;> rfl
    · split at hf
      · simp at hf
      · rw [if_neg ‹_›, if_neg ‹_›]
        simp only [List.filter_cons]
        split
        · simp [ih hf]
        · exact ih hf

/-- A queue that is there is in the table. -/
theorem State.find_queue {s : State} {q : QId} (h : (s.queue q).st ≠ .absent) : s.queues.find q.toNat = some (s.queue q) := by
  unfold State.queue Tab.get at *
  cases hf : s.queues.find q.toNat with
  | none => simp [hf] at h
  | some x => rfl

theorem State.begun_queues (op : BitVec 16) (sub : Option Byte) (c : Cmd) (f : Fetched) (s : State) :
    (s.begun op sub c f).queues = (s.setFetched c.q { f with running := true }).queues := by
  unfold State.begun
  dsimp only
  split <;> simp

theorem State.begun_queueCount {op : BitVec 16} {sub : Option Byte} {c : Cmd} {f : Fetched} {s : State}
    (h : Runs op sub c s f) (d : Dom) : (s.begun op sub c f).queueCount d = s.queueCount d := by
  unfold State.queueCount
  rw [State.begun_queues]
  exact Tab.length_filter_put (State.find_queue h.live) rfl

/-! ## `NOP` and `GET_INFO` (R58, R60) -/

theorem length_slice (bs : Bytes) (k n : Nat) : (slice bs k n).length = n := by
  simp [slice]

theorem State.infoPage_ne_nil (s : State) (n : Nat) : s.infoPage n ≠ [] := by
  have h (bs : Bytes) : slice bs 0 256 ≠ [] := fun e => by
    have := length_slice bs 0 256
    simp [e] at this
  unfold State.infoPage
  split
  · exact h _
  · exact h _
  · exact h _
  · intro e
    have := congrArg List.length e
    simp at this

/-- A page reads nothing that the beginning of the command's effect changes. -/
theorem State.infoPage_begun {c : Cmd} {f : Fetched} {s : State} (h : Runs 0x0105 none c s f) (n : Nat) :
    (s.begun 0x0105 none c f).infoPage n = s.infoPage n := by
  have hm : (s.begun 0x0105 none c f).mss = s.mss := State.begun_mss_same _ _ _ _ _ rfl
  have hl : (s.begun 0x0105 none c f).led = s.led := State.begun_led_same _ _ _ _ _ rfl
  simp only [State.infoPage, State.infoIdentity, State.unitCounts, State.inService, State.gctlRev, State.subsystemId,
    State.revRelease, State.setOf, State.settingBytes, State.isOut, hm, hl, State.begun_gctl, State.begun_queueCount h, State.begun_skn,
    State.begun_spn, State.begun_life, State.begun_ru, State.begun_arb, State.begun_kp] <;> rfl

/-- Settles O1, by what each body reads. -/
theorem adminQueriesComplete : Obligations.AdminQueriesComplete := by
  refine fun c s f => ⟨fun h => ?_, fun h hn => ?_⟩
  · exact (completes_query (body := nopBody) (inl := s.gctl.cycle) (result := []) h rfl rfl (by simp [nopBody]; rfl)).mono
      fun t ⟨ha, ho, _⟩ => ⟨ha, ho⟩
  · exact (completes_query (body := getInfoBody) (inl := 0) (result := s.infoPage (c.pkt.byteAt 32).toNat) h rfl rfl
      (by rw [← State.infoPage_begun h]; rfl)).mono
      fun t ⟨ha, ho, hw⟩ => ⟨ha, ho, hw (State.infoPage_ne_nil _ _) hn⟩

/-! ## `KEY_QUERY` (R239) -/

/-- A slot that reads well is read without a change. -/
theorem State.readSlot_ok {s : State} {n : Nat} {k : Slot} (h : (s.readSlot n).2 = .ok k) : s.readSlot n = (s, .ok k) := by
  unfold State.readSlot at h ⊢
  cases hs : s.slot n with
  | none => simp [hs] at h
  | some k' =>
    simp only [hs] at h ⊢
    split_ifs at h ⊢
    all_goals simp_all

/-- What a read of a slot answers depends on the key store only. -/
theorem State.readSlot_congr {s t : State} (h : t.ks = s.ks) (n : Nat) : (t.readSlot n).2 = (s.readSlot n).2 := by
  unfold State.readSlot State.gensOk State.slot State.gen
  rw [h]
  split
  · rfl
  · (repeat' split) <;> rfl

theorem GenEntry.bytes_ne_nil (e : Nat) (g : GenEntry) : g.bytes e ≠ [] := by
  unfold GenEntry.bytes
  split <;> simp [leBytes]

/-- Settles O27, by the slot, the entry and the tables that each query reads. -/
theorem keyQueriesReport : Obligations.KeyQueriesReport := by
  refine fun c s f hn => ⟨?_, ?_, fun h => ?_⟩
  · rintro p k rfl h hk
    have hr := State.readSlot_ok ((State.readSlot_congr (State.begun_ks 0x0707 (some 0) c f s) _).trans hk)
    have ho : keyQuerySlotBody (s.ctxRun 0x0707 (some 0) c f) (s.begun 0x0707 (some 0) c f) =
        { s := s.begun 0x0707 (some 0) c f, cyc := 96
          result := slotRecord (hIndex (rowPacket 0x0707 (some 0) c.pkt).handleA) k } := by
      simp only [keyQuerySlotBody, State.ctxRun_c, hr]
    exact (completes_query h rfl rfl ho).mono
      fun t ⟨ha, ho, hw⟩ => ⟨ha, ho, by simpa using hw (by simp [slotRecord, leBytes]) hn⟩
  · rintro p e rfl rfl h
    have ho : keyQueryEntryBody (s.ctxRun 0x0707 (some 1) c f) (s.begun 0x0707 (some 1) c f) =
        { s := s.begun 0x0707 (some 1) c f, cyc := 96
          result := (s.gen ((rowPacket 0x0707 (some 1) c.pkt).field 34 2)).bytes ((rowPacket 0x0707 (some 1) c.pkt).field 34 2) } := by
      simp only [keyQueryEntryBody, State.ctxRun_c, State.begun_gen]
    exact (completes_query h rfl rfl ho).mono
      fun t ⟨ha, ho, hw⟩ => ⟨ha, ho, by simpa using hw (GenEntry.bytes_ne_nil _ _) hn⟩
  · have ho : keyQuerySummaryBody (s.ctxRun 0x0707 (some 2) c f) (s.begun 0x0707 (some 2) c f) =
        { s := s.begun 0x0707 (some 2) c f, cyc := 96
          result := leBytes 2 (s.slotCount .valid) ++ leBytes 2 (s.slotCount .corrupt) ++ leBytes 2 s.entriesUsed ++
            leBytes 2 s.ks.dmks.length ++ leBytes 8 s.ks.revs.toNat } := by
      simp only [keyQuerySummaryBody, State.slotCount, State.entriesUsed, State.begun_ks]
    exact (completes_query h rfl rfl ho).mono fun t ⟨ha, ho, hw⟩ => ⟨ha, ho, by simpa using hw (by simp [leBytes]) hn⟩

end Sys2Proof.Machine
end

section
/-! PROOFS. The ledger: a change of a pool with its record, and a certificate that passes. -/

namespace Sys2Proof.Machine

set_option Elab.async false

/-! ## A change of a pool (R68) -/

/-- What moved stays moved through a step that leaves the pools and the live totals. -/
theorem State.poolMoved_congr {s u t t' : State} {n : PoolId} {d : Delta} {f : Pool → Pool} (h : u.poolMoved t n d f)
    (hs : u.led.pools = s.led.pools ∧ u.led.live = s.led.live) (ht : t'.led.pools = t.led.pools ∧ t'.led.live = t.led.live) :
    s.poolMoved t' n d f := by
  obtain ⟨p, tot, h1, h2, h3, h4, h5, h6⟩ := h
  have hu (m : PoolId) : u.pool m = s.pool m := State.pool_congr hs.1 m
  have hp (m : PoolId) : t'.pool m = t.pool m := State.pool_congr ht.1 m
  exact ⟨p, tot, (hu n).symm.trans h1, (hp n).trans h2, h3, h4, by rw [ht.2, ← hs.2]; exact h5,
    fun m hm => by rw [hp, h6 m hm, hu]⟩

theorem State.pool_putPool_ne {n m : PoolId} (p : Pool) (s : State) (h : m ≠ n) : (s.putPool n p).pool m = s.pool m := by
  have hne : m.toNat ≠ n.toNat := fun e => h (BitVec.eq_of_toNat_eq e)
  simp [State.pool, State.putPool, Tab.find_put_ne _ _ hne]

/-- A change that the checker lets through moves the pool and the live totals, and touches the ledger's pools only. -/
theorem State.change_moves {s : State} {n : PoolId} {d : Delta} (f : Pool → Pool) (h : s.checkerPasses n d) :
    s.change n d f = ((s.change n d f).1, true) ∧ s.poolMoved (s.change n d f).1 n d f ∧ s.touches [.led] (s.change n d f).1 ∧
      (s.change n d f).1.led.group = s.led.group ∧ (s.change n d f).1.led.locks = s.led.locks := by
  obtain ⟨p, tot, live, hp, hc, he⟩ := State.change_passes f h
  obtain ⟨hm, hl, -, hs⟩ := checked_some hc
  rw [he]
  refine ⟨rfl, ⟨p, tot, hp, State.pool_putPool _ _ _, hm, hs, hl, fun m hm => ?_⟩, by simp, rfl, rfl⟩
  rw [State.pool_putPool_ne _ _ hm]
  rfl

section
variable (op : BitVec 16) (sub : Option Byte) (c : Cmd) (f : Fetched) {s : State}

theorem State.checkerPasses_begun {n : PoolId} {d : Delta} (h : s.checkerPasses n d) : (s.begun op sub c f).checkerPasses n d := by
  simpa [State.checkerPasses] using h

theorem State.gateRefusal_of_admits (h : s.admits) : gateRefusal s = none := by
  obtain ⟨h1, h2⟩ := h
  simp [gateRefusal, firstFail, h1, h2]

theorem State.admits_congr {t : State} (h : s.admits) (hr : t.ru = s.ru) (hk : t.kp = s.kp) : t.admits := by
  unfold State.admits State.room State.ringDepth State.supplyLow at *
  rwa [hr, hk]

theorem State.admits_begun (h : s.admits) : (s.begun op sub c f).admits :=
  State.admits_congr h (State.begun_ru _ _ _ _ _) (State.begun_kp _ _ _ _ _)

/-- The freezes of the device and of a pool are the same where a command's effect begins. -/
@[simp] theorem State.begun_deviceFrozen : (s.begun op sub c f).deviceFrozen = s.deviceFrozen := by
  unfold State.deviceFrozen
  rw [State.begun_led]

@[simp] theorem State.begun_isFrozen (p : Pool) : (s.begun op sub c f).isFrozen p = s.isFrozen p := by
  simp [State.isFrozen]

@[simp] theorem State.begun_isOpen (p : Pool) : (s.begun op sub c f).isOpen p = s.isOpen p := by
  simp [State.isOpen]

end

/-! ## A certificate that passes (R72) -/

/-- A slot that serves a use is read without a change. -/
theorem State.useSlot_ok {s : State} {n bit : Nat} {k : Slot} (h : (s.useSlot n bit).2 = .ok k) : s.useSlot n bit = (s, .ok k) := by
  unfold State.useSlot at h ⊢
  split at h
  next s' k' hr =>
    have hs := State.readSlot_ok (congrArg Prod.snd hr)
    rw [hr] at hs
    obtain ⟨rfl, -⟩ := Prod.mk.injEq _ _ _ _ ▸ hs
    split at h <;> simp_all
  next => exact State.readSlot_ok h

/-- Whether a slot serves a use depends on the key store only. -/
theorem State.useSlot_congr {s t : State} (h : t.ks = s.ks) (n bit : Nat) : (t.useSlot n bit).2 = (s.useSlot n bit).2 := by
  have hr := State.readSlot_congr h n
  unfold State.useSlot
  rcases ht : t.readSlot n with ⟨t', e | k⟩ <;> rcases hs : s.readSlot n with ⟨s', e' | k'⟩ <;> simp only [ht, hs] at hr
  · exact hr
  · cases hr
  · cases hr
  · cases hr
    dsimp only
    split <;> rfl

theorem State.slotServes_congr {s t : State} {n bit : Nat} {k : Slot} (h : t.ks = s.ks) (hs : s.slotServes n bit k) :
    t.useSlot n bit = (t, .ok k) :=
  State.useSlot_ok ((State.useSlot_congr h n bit).trans hs)

/-- A certificate that passes has its signature verified by one program of a verify spindle. -/
theorem State.certCheck_passes {s : State} {x : Ctx} {kind pool slot : Nat} {prior : Bool} {bs : Bytes}
    (h : (s.certCheck x kind pool slot prior bs).2 = none) :
    ∃ p : Part, p.signing = false ∧ s.certCheck x kind pool slot prior bs = ((s.hashed 3).usedSpindle p, none) := by
  unfold State.certCheck at h ⊢
  split at h
  · cases h
  · split at h
    · cases h
    next s' k hk =>
      obtain rfl : s' = s := by
        have := State.useSlot_ok (congrArg Prod.snd hk)
        exact (congrArg Prod.fst hk).symm.trans (congrArg Prod.fst this)
      split at h
      · cases h
      next cv hcv =>
        exact ⟨{ signing := false, len := lenVerify k.attr.curve.toNat cv.w, key := 0 }, rfl, by simp_all⟩

/-- A program that a firmware command had run ends within the command's own step. -/
theorem spindled_one {body : Ctx → State → Out} {x : Ctx} {s : State} {o : Out} {p : Part} (ho : body x s = o)
    (hr : o.s.spn.ran = [p]) (ha : x.c.async = false) (hi : (s.idleSpindle p.signing).isSome = true)
    (hj : s.jobsStopped p.signing = false) :
    spindled body x s = { o with s := ({ o.s with spn := { o.s.spn with ran := [] } } : State).countIdle p.signing } := by
  simp [spindled, ho, hr, ha, State.partsRun, hi, hj, State.ended]

/-! ## Rows that answer with the open group -/

section
variable {op : BitVec 16} {sub : Option Byte} {c : Cmd} {s : State} {f : Fetched} {i : Instr} {body : Ctx → State → Out} {o : Out}
  {P : State → Prop}

/-- From `s` to `t`, a reply joins what waits for the open group, and nothing else changed but what `L` lists. -/
def State.replyWaits (L : List Aspect) (s t : State) : Prop :=
  s.touches (.led :: L) t ∧ ∃ a, t.led = { s.led with group := { s.led.group with after := s.led.group.after ++ a } }

theorem Out.finish_replyWaits (x : Ctx) (o : Out) (hw : o.when_ = .group) : o.s.replyWaits [] (o.finish x) := by
  refine ⟨?_, ?_⟩
  · rw [Out.finish, hw]
    simp
  · exact ⟨_, by rw [Out.finish, hw]⟩

/-- A row whose body answers with the open group. -/
theorem completes_recorded (h : Runs op sub c s f) (hi : exec i s = .next (runOp op sub body c s))
    (ho : body (s.ctxRun op sub c f) (s.begun op sub c f) = o) (hw : o.when_ = .group) (hs : o.status = 0)
    (hP : ∀ t, t.answersDurable c.q f o.inl → o.s.replyWaits [] t → P t) : Completes i s P :=
  completes_group h hi ho hw hs fun ha => hP _ ha (Out.finish_replyWaits _ o hw)

/-- A firmware command's one program on a verify spindle ends within the command's step, and changes the spindles only. -/
theorem spindled_verified (hp : s.programsRun c false) {p : Part} (hsig : p.signing = false)
    (ho : body (s.ctxRun op sub c f) (s.begun op sub c f) = o) (hr : o.s.spn.ran = [p]) :
    ∃ v, spindled body (s.ctxRun op sub c f) (s.begun op sub c f) = { o with s := v } ∧ o.s.touches [.spn, .ran] v := by
  obtain ⟨hasync, hidle, hstop, -⟩ := hp
  refine ⟨({ o.s with spn := { o.s.spn with ran := [] } } : State).countIdle false, ?_, by simp⟩
  rw [spindled_one ho hr hasync, hsig]
  · rw [hsig]
    simpa [State.idleSpindle, State.spindle] using hidle
  · rw [hsig]
    simpa [State.jobsStopped, State.holding] using hstop

/-- A row whose body has one program verified on a spindle, and answers with the open group. -/
theorem completes_verified (h : Runs op sub c s f) (hi : exec i s = .next (runOp op sub (spindled body) c s))
    (hp : s.programsRun c false) {p : Part} (hsig : p.signing = false)
    (ho : body (s.ctxRun op sub c f) (s.begun op sub c f) = o) (hr : o.s.spn.ran = [p]) (hw : o.when_ = .group) (hs : o.status = 0)
    (hP : ∀ t, t.answersDurable c.q f o.inl → o.s.replyWaits [.spn, .ran] t → P t) : Completes i s P := by
  obtain ⟨v, hu, hv⟩ := spindled_verified hp hsig ho hr
  refine completes_recorded h hi hu hw hs fun t ha ⟨ht, a, hl⟩ => hP t ha ⟨?_, a, ?_⟩
  · exact (ht.iff (by decide)).mpr ((hv.iff (by decide)).mpr (State.touches_self _ _))
  · have h1 : v.led = o.s.led := hv .led (by decide)
    rw [hl]
    simp only [h1]

/-- A row whose body has one program verified on a spindle, and sees to its reply itself. -/
theorem completes_verified_later (h : Runs op sub c s f) (hi : exec i s = .next (runOp op sub (spindled body) c s))
    (hp : s.programsRun c false) {p : Part} (hsig : p.signing = false)
    (ho : body (s.ctxRun op sub c f) (s.begun op sub c f) = o) (hr : o.s.spn.ran = [p]) (hw : o.when_ = .later)
    (hP : ∀ t, o.s.touches [.spn, .ran] t → P t) : Completes i s P := by
  obtain ⟨v, hu, hv⟩ := spindled_verified hp hsig ho hr
  exact completes_later h hi hu hw (hP v hv)

end

end Sys2Proof.Machine
end

section
/-! PROOFS. Pools: loading, reclaiming and writing off (R71, R76, R82). -/

namespace Sys2Proof.Machine

set_option Elab.async false

theorem State.ctxRun_data {op : BitVec 16} {sub : Option Byte} {c : Cmd} {f : Fetched} {s : State} :
    (s.ctxRun op sub c f).data = c.bytes := by
  simp [Ctx.data, Cmd.bytes]

theorem State.ctxRun_pool {op : BitVec 16} {sub : Option Byte} {c : Cmd} {f : Fetched} {s : State} :
    (s.ctxRun op sub c f).pool = c.poolA := by
  simp [Ctx.pool, Cmd.poolA]

/-- A body that reads its payload runs on it where the read did not fail. -/
theorem withData_ok {op : BitVec 16} {sub : Option Byte} {c : Cmd} {f : Fetched} {s : State} (h : c.memErr = none) (u : State)
    (k : Bytes → Out) : withData (s.ctxRun op sub c f) u k = k c.bytes := by
  simp [withData, Ctx.readFailed, h, State.ctxRun_data]

section
variable {op : BitVec 16} {sub : Option Byte} {c : Cmd} {s : State} {f : Fetched} {i : Instr} {body : Ctx → State → Out} {n : PoolId}
  {d : Delta} {g : Pool → Pool} {r : JRec} {cyc : Nat} {inl : BitVec 64} {u w : State}

/-- A pool's change with one record, of which a reply waits: what moved, and what it took of the journal. -/
theorem State.change_recorded {L : List Aspect} {t : State} (hc : s.checkerPasses n d)
    (hu : u.led.pools = s.led.pools ∧ u.led.live = s.led.live) (hr : u.ru = s.ru)
    (hw : (u.change n d g).1.touches [.skn] w) (ht : (w.chain r).replyWaits L t) (hL : .ru ∉ L) :
    s.poolMoved t n d g ∧ t.ru.jrn.seq = s.ru.jrn.seq + 1 := by
  have hcu : u.checkerPasses n d := by simpa [State.checkerPasses, State.pool, hu.1, hu.2] using hc
  obtain ⟨-, hm, htu, -⟩ := State.change_moves g hcu
  obtain ⟨htt, a, hl⟩ := ht
  have hwl : w.led = (u.change n d g).1.led := hw .led (by decide)
  have hwr : w.ru = (u.change n d g).1.ru := hw .ru (by decide)
  have hur : (u.change n d g).1.ru = u.ru := htu .ru (by decide)
  have htr : t.ru = (w.chain r).ru := htt .ru (by simpa using hL)
  refine ⟨State.poolMoved_congr hm hu ?_, ?_⟩
  · rw [hl]
    simp [hwl]
  · rw [htr, State.chain_seq, hwr, hur, hr]

/-- A command whose change of a pool is verified and recorded, and answered once it is durable. -/
theorem completes_certified (h : Runs op sub c s f) (hi : exec i s = .next (runOp op sub (spindled body) c s))
    (hp : s.programsRun c false) {part : Part} (hsig : part.signing = false) (hc : s.checkerPasses n d)
    (hw : ((((s.begun op sub c f).hashed 3).usedSpindle part).change n d g).1.touches [.skn] w)
    (ho : body (s.ctxRun op sub c f) (s.begun op sub c f) = { s := w.chain r, cyc, inl, when_ := .group }) :
    Completes i s fun t => s.poolMoved t n d g ∧ t.skn = w.skn ∧ t.ru.jrn.seq = s.ru.jrn.seq + 1 ∧ t.answersDurable c.q f inl := by
  have hcu : (((s.begun op sub c f).hashed 3).usedSpindle part).checkerPasses n d := State.checkerPasses_begun op sub c f hc
  obtain ⟨-, -, htu, -⟩ := State.change_moves g hcu
  have hran : (w.chain r).spn.ran = [part] := by
    have h1 : (((s.begun op sub c f).hashed 3).usedSpindle part).touches [.led, .skn, .gctl, .ru, .posted] (w.chain r) := by
      simp only [State.touches_chain, (by decide : ([.gctl, .led, .ru, .posted] : List Aspect) ⊆ [.led, .skn, .gctl, .ru, .posted])]
      exact (hw.iff (by decide)).mpr ((htu.iff (by decide)).mpr (State.touches_self _ _))
    have h2 := h1 .ran (by decide)
    simpa [State.agree, State.usedSpindle, State.hashed, hp.2.2.2] using h2
  refine completes_verified h hi hp hsig ho hran rfl rfl fun t ha ht => ?_
  obtain ⟨h1, h2⟩ := State.change_recorded hc ⟨by simp [State.usedSpindle, State.hashed], by simp [State.usedSpindle, State.hashed]⟩
    (by simp [State.usedSpindle, State.hashed]) hw ht (by decide)
  refine ⟨h1, ?_, h2, ha⟩
  have hk : t.skn = (w.chain r).skn := ht.1 .skn (by decide)
  rw [hk, State.chain_skn]

end

section
variable {x : Ctx} {s : State} {p : Pool}

/-- `RECLAIM` of units voided: the change and its record. -/
theorem reclaimBody_passes (hp : s.pool x.pool = some p) (ho : s.isOpen p = true) (hr : p.reissue = true)
    (hv : x.c.pkt.field 32 4 ≤ p.v) (ha : s.admits)
    (hc : s.checkerPasses x.pool { a := x.c.pkt.field 32 4, v := -(x.c.pkt.field 32 4 : Int) }) :
    reclaimBody x s =
      { s := (s.change x.pool { a := x.c.pkt.field 32 4, v := -(x.c.pkt.field 32 4 : Int) } id).1.chain
          { typ := 0x07, pool := x.pool, delta := BitVec.ofNat 32 (x.c.pkt.field 32 4) }
        cyc := 2084, inl := inlAt 0 (p.a + x.c.pkt.field 32 4), when_ := .group } := by
  obtain ⟨hv', -⟩ := State.change_moves id hc
  rw [reclaimBody, hp, hv']
  simp [ho, hr, Nat.not_lt.mpr hv, State.gateRefusal_of_admits ha]

/-- `POOL_LOAD` under a certificate that passes: the change and its record. -/
theorem poolLoadBody_passes {op : BitVec 16} {sub : Option Byte} {c : Cmd} {f : Fetched} {z : State}
    (hx : x = z.ctxRun op sub c f) (hm : c.memErr = none) (hp : s.pool x.pool = some p) (ho : s.isOpen p = true) (ha : s.admits)
    (hcert : (s.certCheck x 1 x.pool.toNat p.slot.toNat (leAt c.bytes 32 5 == p.l) c.bytes).2 = none)
    (hc : s.checkerPasses x.pool { l := leAt c.bytes 28 4, a := leAt c.bytes 28 4 }) :
    ∃ part : Part, part.signing = false ∧ poolLoadBody x s =
      { s := (((s.hashed 3).usedSpindle part).change x.pool { l := leAt c.bytes 28 4, a := leAt c.bytes 28 4 } id).1.chain
          { typ := 0x02, pool := x.pool, fp := fpOf (sm3First 16 (slice c.bytes 0 160)), delta := BitVec.ofNat 32 (leAt c.bytes 28 4) }
        cyc := 44171, inl := inlAt 0 (p.l + leAt c.bytes 28 4), when_ := .group } := by
  obtain ⟨part, hsig, hpass⟩ := State.certCheck_passes hcert
  refine ⟨part, hsig, ?_⟩
  have hcu : ((s.hashed 3).usedSpindle part).checkerPasses x.pool { l := leAt c.bytes 28 4, a := leAt c.bytes 28 4 } := hc
  obtain ⟨hv, -⟩ := State.change_moves id hcu
  have hg : gateRefusal ((s.hashed 3).usedSpindle part) = none := State.gateRefusal_of_admits ha
  rw [poolLoadBody, hp]
  subst hx
  dsimp only
  rw [withData_ok hm, if_neg (by simp [ho]), hpass]
  dsimp only
  rw [hg, hv]

/-- Where the units of a `WRITE_OFF` come from: A, or T of a transfer (R71, R82). -/
def writeOffDelta (fromT : Bool) (u : Nat) : Delta := if fromT then { t := -(u : Int), w := u } else { a := -(u : Int), w := u }

/-- `WRITE_OFF` under a certificate that passes: the change, the transfer freed where the units come from T, and the record. -/
theorem writeOffBody_passes {op : BitVec 16} {sub : Option Byte} {c : Cmd} {f : Fetched} {z : State} {fromT : Bool}
    (hx : x = z.ctxRun op sub c f) (hm : c.memErr = none) (hp : s.pool x.pool = some p) (ho : s.isFrozen p = false) (ha : s.admits)
    (hf : (leAt c.bytes 14 1 == 5) = fromT)
    (hrow : fromT = true → (s.writeOffRow x.pool (BitVec.ofNat 64 (leAt c.bytes 20 8))).isSome = true)
    (hcert : (s.certCheck x 2 x.pool.toNat p.slot.toNat (leAt c.bytes 32 5 == p.w) c.bytes).2 = none)
    (hc : s.checkerPasses x.pool (writeOffDelta fromT (leAt c.bytes 28 4))) :
    ∃ part : Part, part.signing = false ∧ writeOffBody x s =
      { s := (if fromT then (((s.hashed 3).usedSpindle part).change x.pool (writeOffDelta fromT (leAt c.bytes 28 4)) id).1.freeTransfer
            ((s.writeOffRow x.pool (BitVec.ofNat 64 (leAt c.bytes 20 8))).getD 16384)
          else (((s.hashed 3).usedSpindle part).change x.pool (writeOffDelta fromT (leAt c.bytes 28 4)) id).1).chain
          { typ := 0x0E, flags := if fromT then 5 else 0, pool := x.pool, delta := BitVec.ofNat 32 (leAt c.bytes 28 4) }
        cyc := 44171, inl := inlAt 0 (leAt c.bytes 28 4), when_ := .group } := by
  obtain ⟨part, hsig, hpass⟩ := State.certCheck_passes hcert
  refine ⟨part, hsig, ?_⟩
  have hcu : ((s.hashed 3).usedSpindle part).checkerPasses x.pool (writeOffDelta fromT (leAt c.bytes 28 4)) := hc
  obtain ⟨hv, -⟩ := State.change_moves id hcu
  have hg : gateRefusal ((s.hashed 3).usedSpindle part) = none := State.gateRefusal_of_admits ha
  have hprior : (leAt c.bytes 32 5 == p.w && (!fromT || (s.writeOffRow x.pool (BitVec.ofNat 64 (leAt c.bytes 20 8))).isSome)) =
      (leAt c.bytes 32 5 == p.w) := by
    cases fromT with
    | false => simp
    | true => simp [hrow rfl]
  rw [writeOffBody, hp]
  subst hx
  dsimp only
  rw [withData_ok hm, if_neg (by simp [ho]), hf, hprior, hpass]
  dsimp only
  rw [hg]
  dsimp only
  rw [← writeOffDelta, hv]

end

/-- Settles O5, each command by its change of the pool, with the verification of the certificate where one is carried. -/
theorem poolsLoadReclaimAndWriteOff : Obligations.PoolsLoadReclaimAndWriteOff := by
  intro c s f n p u hn hp ha
  subst hn
  refine ⟨fun h ho hm hu hcert hc hrun => ?_, fun h ho hr hu hv hc => ?_, fun h ho hm hu hf hcert hc hrun => ?_,
    fun row h ho hm hu hf hrow hsort hcert hc hrun => ?_⟩
  · subst hu
    obtain ⟨part, hsig, hb⟩ := poolLoadBody_passes (s := s.begun 0x0202 none c f) rfl hm (by simpa [State.ctxRun_pool] using hp)
      (by simpa using ho) (State.admits_begun _ _ _ _ ha) (by simpa [State.ctxRun_pool, certPasses] using hcert)
      (by simpa [State.ctxRun_pool] using State.checkerPasses_begun _ _ _ _ hc)
    rw [State.ctxRun_pool] at hb
    exact (completes_certified h rfl hrun hsig hc (State.touches_self _ _) hb).mono fun t ⟨h1, _, h3, h4⟩ => ⟨h1, h3, h4⟩
  · subst hu
    have hb := reclaimBody_passes (x := s.ctxRun 0x0207 none c f) (s := s.begun 0x0207 none c f)
      (by simpa [State.ctxRun_pool] using hp) (by simpa using ho) hr hv (State.admits_begun _ _ _ _ ha)
      (by simpa [State.ctxRun_pool] using State.checkerPasses_begun _ _ _ _ hc)
    rw [State.ctxRun_pool] at hb
    refine completes_recorded h rfl hb rfl rfl fun t hd ht => ?_
    obtain ⟨h1, h2⟩ := State.change_recorded hc ⟨State.begun_pools .., State.begun_live ..⟩ (State.begun_ru ..)
      (State.touches_self _ _) ht (by decide)
    exact ⟨h1, h2, hd⟩
  · subst hu
    obtain ⟨part, hsig, hb⟩ := writeOffBody_passes (s := s.begun 0x0210 none c f) (fromT := false) rfl hm
      (by simpa [State.ctxRun_pool] using hp) (by simpa using ho) (State.admits_begun _ _ _ _ ha) (by simpa using hf) (by simp)
      (by simpa [State.ctxRun_pool, certPasses] using hcert)
      (by simpa [State.ctxRun_pool, writeOffDelta] using State.checkerPasses_begun _ _ _ _ hc)
    rw [State.ctxRun_pool] at hb
    exact (completes_certified h rfl hrun hsig hc (State.touches_self _ _) hb).mono
      fun t ⟨h1, h2, h3, h4⟩ => ⟨h1, by simp [h2, State.usedSpindle, State.hashed], h3, h4⟩
  · subst hu
    have hrow' : (s.begun 0x0210 none c f).writeOffRow c.poolA (BitVec.ofNat 64 (leAt c.bytes 20 8)) = some row := by
      simpa [State.writeOffRow, State.transferRow] using hrow
    obtain ⟨part, hsig, hb⟩ := writeOffBody_passes (x := s.ctxRun 0x0210 none c f) (s := s.begun 0x0210 none c f) (fromT := true) rfl hm
      (by simpa [State.ctxRun_pool] using hp) (by simpa using ho) (State.admits_begun _ _ _ _ ha) (by simpa using hf)
      (fun _ => by rw [State.ctxRun_pool, hrow']; rfl)
      (by simpa [State.ctxRun_pool, certPasses] using hcert)
      (by simpa [State.ctxRun_pool, writeOffDelta] using State.checkerPasses_begun _ _ _ _ hc)
    rw [State.ctxRun_pool, hrow'] at hb
    refine (completes_certified h rfl hrun hsig hc (by simp [writeOffDelta]) hb).mono fun t ⟨h1, h2, h3, h4⟩ => ⟨h1, ?_, h3, h4⟩
    rw [h2]
    simpa [State.freeTransfer, State.usedSpindle, State.hashed] using Tab.find_del hsort row

end Sys2Proof.Machine
end

section
/-! PROOFS. Pools: creating, and replacing from a RECOVERY certificate (R81, R101). -/

namespace Sys2Proof.Machine

set_option Elab.async false

/-- A record written to the ring touches of the control block only what D3hot holds back. -/
theorem State.toRing_gctl (n : Nat) (b : Bytes) (s : State) :
    (s.toRing n b).gctl = { s.gctl with d3held := (s.toRing n b).gctl.d3held, pba := (s.toRing n b).gctl.pba } := by
  unfold State.toRing
  dsimp only
  split
  · exact State.post_gctl _ _
  · rfl

theorem State.chain_gctl (r : JRec) (s : State) :
    (s.chain r).gctl = { s.gctl with d3held := (s.chain r).gctl.d3held, pba := (s.chain r).gctl.pba } := by
  unfold State.chain
  dsimp only
  rw [State.groupChange_gctl, State.toRing_gctl]

/-- An event raised before a record is chained stands in the status. -/
theorem State.chain_raise_evt (r : JRec) (bit : Nat) (s : State) (h : bit < 11) (f : State → State)
    (hf : (f (s.raise bit)).gctl = (s.raise bit).gctl) : ((f (s.raise bit)).chain r).gctl.evtStat.getLsbD bit = true := by
  rw [State.chain_gctl, hf, State.raise_gctl]
  exact getLsbD_setBit _ _ _ h

/-- A pool's record and the live totals put in the place of those before. -/
def State.replaced (n : PoolId) (new : Pool) (live : Totals) (s : State) : State :=
  ({ s with led := { s.led with live } } : State).putPool n new

theorem State.replaced_pool (n : PoolId) (new : Pool) (live : Totals) (s : State) :
    (s.replaced n new live).pool n = some new ∧ ∀ m, m ≠ n → (s.replaced n new live).pool m = s.pool m :=
  ⟨State.pool_putPool _ _ _, fun _ hm => State.pool_putPool_ne _ _ hm⟩

/-- A pool's record replaced, where the certificate's counters and the totals pass. -/
theorem State.replacePool_passes {s : State} {n : PoolId} {new : Pool} (h : (s.replacePool n new).2 = true) :
    ∃ live, (s.replacePool n new).1.led.live = live ∧ ∀ t : State, t.led.pools = s.led.pools → t.led.live = s.led.live →
      t.replacePool n new = (t.replaced n new live, true) := by
  have hc (t : State) (hp : t.led.pools = s.led.pools) : t.pool n = s.pool n := State.pool_congr hp n
  unfold State.replacePool at h ⊢
  dsimp only at h ⊢
  split at h
  next live hl =>
    split at h
    next hw =>
      refine ⟨live, ?_, fun t hp hv => ?_⟩
      · rw [if_pos hw]
        rfl
      · rw [hc t hp, hv, hl]
        dsimp only
        rw [if_pos hw]
        rfl
    · cases h
  · cases h

section
variable {x : Ctx} {s : State}

/-- `POOL_CREATE` mode 0 for an absent pool with a slot that serves certificates (R81). -/
theorem poolCreateNewBody_passes {k : Slot} (hs : s.led.scour = false) (hk : s.useSlot (hIndex x.c.pkt.handleB) useCert = (s, .ok k))
    (hn : s.pool x.pool = none) (ha : s.admits) :
    poolCreateNewBody x s =
      { s := s.createPool x.pool (newPool x.dom (x.c.pkt.field 36 5) (x.c.pkt.field 41 5)
          (hIndex x.c.pkt.handleB % 4096 + (x.c.pkt.field 34 2 / 4096 % 4) * 4096)) false
        cyc := 2332, when_ := .group } := by
  simp [poolCreateNewBody, hs, hk, hn, State.gateRefusal_of_admits ha]

/-- A pool created: its record, and every other pool as it was. -/
theorem State.createPool_pool (n : PoolId) (p : Pool) (b : Bool) (s : State) :
    (s.createPool n p b).pool n = some p ∧ (∀ m, m ≠ n → (s.createPool n p b).pool m = s.pool m) ∧
    (s.createPool n p b).ru.jrn.seq = s.ru.jrn.seq + 1 := by
  have hc (m : PoolId) : (s.createPool n p b).pool m = (s.putPool n p).pool m := State.pool_congr (by simp [State.createPool]) m
  refine ⟨(hc n).trans (State.pool_putPool _ _ _), fun m hm => (hc m).trans (State.pool_putPool_ne _ _ hm), ?_⟩
  simp [State.createPool]

/-- What a reply that waits leaves of the pools and of the journal. -/
theorem State.replyWaits_pool {L : List Aspect} {t : State} (h : s.replyWaits L t) (m : PoolId) : t.pool m = s.pool m := by
  obtain ⟨-, a, hl⟩ := h
  exact State.pool_congr (by rw [hl]) m

theorem State.replyWaits_ru {L : List Aspect} {t : State} (h : s.replyWaits L t) (hL : .ru ∉ L) : t.ru = s.ru :=
  h.1 .ru (by simpa using hL)

theorem State.replyWaits_gctl {L : List Aspect} {t : State} (h : s.replyWaits L t) (hL : .gctl ∉ L) : t.gctl = s.gctl :=
  h.1 .gctl (by simpa using hL)

/-- The totals are settled only where they agree with the durable ones (R101). -/
theorem State.settleTotals_apart (h : s.led.live.agrees s.led.durable.tot = false) : s.settleTotals = s := by
  simp [State.settleTotals, h]

/-- `POOL_CREATE` mode 1 under a certificate that passes (R81, R101). -/
theorem poolCreateRecoverBody_passes {op : BitVec 16} {sub : Option Byte} {c : Cmd} {f : Fetched} {z : State} {k : Slot}
    (hx : x = z.ctxRun op sub c f) (hm : c.memErr = none) (hn : s.pool x.pool = none) (ha : s.admits)
    (hcert : (s.certCheck x 3 x.pool.toNat 2 (leAt c.bytes 20 8 == s.led.fseq) c.bytes).2 = none)
    (hk : s.slotServes (certPool c.bytes).slot.toNat useCert k)
    {live : Totals} (hrep : ∀ t : State, t.led.pools = s.led.pools → t.led.live = s.led.live →
      t.replacePool x.pool (certPool c.bytes) = (t.replaced x.pool (certPool c.bytes) live, true))
    (ht : live.agrees s.led.durable.tot = false) :
    ∃ part : Part, part.signing = false ∧ poolCreateRecoverBody x s =
      { s := (((((s.hashed 3).usedSpindle part).replaced x.pool (certPool c.bytes) live).raise evFrozen).createPool x.pool
          (certPool c.bytes) true).noteApplied
        cyc := 43343, when_ := .group } := by
  obtain ⟨part, hsig, hpass⟩ := State.certCheck_passes hcert
  refine ⟨part, hsig, ?_⟩
  have hk' : ((s.hashed 3).usedSpindle part).useSlot (certPool c.bytes).slot.toNat useCert = ((s.hashed 3).usedSpindle part, .ok k) :=
    State.slotServes_congr (by simp [State.usedSpindle, State.hashed]) hk
  have hg : gateRefusal ((s.hashed 3).usedSpindle part) = none := State.gateRefusal_of_admits ha
  have hn' : ((s.hashed 3).usedSpindle part).pool x.pool = none := hn
  rw [poolCreateRecoverBody]
  subst hx
  dsimp only
  rw [withData_ok hm, hpass]
  dsimp only
  rw [hk']
  dsimp only
  rw [hg]
  dsimp only
  rw [hn', hrep ((s.hashed 3).usedSpindle part) rfl rfl]
  dsimp only
  rw [if_neg (by simp), State.settleTotals_apart]
  simp [State.noteApplied, State.createPool, State.usedSpindle, State.hashed, State.putPool, State.replaced, ← ht]

end

/-- Settles O4, each mode by the pool it makes and its record. -/
theorem poolsAreCreated : Obligations.PoolsAreCreated := by
  intro c s f n k hn hp ha
  subst hn
  refine ⟨?_, fun h hm hcert hk hr hrun ht => ?_⟩
  · rintro p rfl h hs hk
    have hb := poolCreateNewBody_passes (x := s.ctxRun 0x0201 (some 0) c f) (s := s.begun 0x0201 (some 0) c f) (k := k)
      (by rw [State.begun_led]; exact hs) (State.slotServes_congr (State.begun_ks ..) hk) (by simpa [State.ctxRun_pool] using hp)
      (State.admits_begun _ _ _ _ ha)
    rw [State.ctxRun_pool] at hb
    refine completes_recorded h rfl hb rfl rfl fun t hd hw => ?_
    obtain ⟨h1, h2, h3⟩ := State.createPool_pool c.poolA (newPool (s.queue c.q).dom ((rowPacket 0x0201 (some 0) c.pkt).field 36 5)
      ((rowPacket 0x0201 (some 0) c.pkt).field 41 5) (hIndex (rowPacket 0x0201 (some 0) c.pkt).handleB % 4096 +
        ((rowPacket 0x0201 (some 0) c.pkt).field 34 2 / 4096 % 4) * 4096)) false (s.begun 0x0201 (some 0) c f)
    refine ⟨(State.replyWaits_pool hw _).trans h1, fun m hm => ?_, ?_, hd⟩
    · rw [State.replyWaits_pool hw, State.ctxRun_dom]
      exact (h2 m hm).trans (State.begun_pool ..)
    · rw [State.replyWaits_ru hw (by decide)]
      exact h3.trans (by rw [State.begun_ru])
  · obtain ⟨live, hlive, hrep⟩ := State.replacePool_passes hr
    obtain ⟨part, hsig, hb⟩ := poolCreateRecoverBody_passes (x := s.ctxRun 0x0201 (some 1) c f) (s := s.begun 0x0201 (some 1) c f)
      (k := k) (live := live) rfl hm (by simpa [State.ctxRun_pool] using hp) (State.admits_begun _ _ _ _ ha)
      (by
        rw [State.begun_led, State.ctxRun_pool]
        exact hcert)
      ((State.useSlot_congr (State.begun_ks ..) _ _).trans hk)
      (by
        intro t h1 h2
        rw [State.ctxRun_pool]
        exact hrep t (by simpa using h1) (by simpa using h2))
      (by rw [State.begun_led, ← hlive]; exact ht)
    rw [State.ctxRun_pool] at hb
    refine completes_verified h rfl hrun hsig hb ?_ rfl rfl fun t hd hw => ?_
    · simpa [State.noteApplied, State.createPool, State.usedSpindle, State.hashed, State.putPool, State.replaced] using hrun.2.2.2
    · obtain ⟨h1, h2, h3⟩ := State.createPool_pool c.poolA (certPool c.bytes) true
        (((((s.begun 0x0201 (some 1) c f).hashed 3).usedSpindle part).replaced c.poolA (certPool c.bytes) live).raise evFrozen)
      refine ⟨(State.replyWaits_pool hw _).trans h1, fun m hm => ?_, ?_, ?_, hd⟩
      · rw [State.replyWaits_pool hw]
        refine (h2 m hm).trans ((State.pool_congr (congrArg Ledger.pools (State.raise_led ..)) m).trans ?_)
        exact ((State.replaced_pool c.poolA (certPool c.bytes) live _).2 m hm).trans (State.begun_pool ..)
      · rw [State.replyWaits_gctl hw (by decide)]
        exact State.chain_raise_evt _ evFrozen _ (by decide) (fun u => u.putPool c.poolA (certPool c.bytes)) rfl
      · rw [State.replyWaits_ru hw (by decide)]
        refine h3.trans ?_
        simp [State.replaced, State.putPool, State.usedSpindle, State.hashed]

end Sys2Proof.Machine
end

section
/-! PROOFS. Queries and audits of the ledger (R101, R102). -/

namespace Sys2Proof.Machine

set_option Elab.async false

theorem Pool.bytes_ne_nil (p : Pool) : p.bytes ≠ [] := by simp [Pool.bytes]

section
variable {op : BitVec 16} {sub : Option Byte} {c : Cmd} {s : State} {f : Fetched}

/-- A result written to its place. -/
theorem State.wrote_of {t : State} {bs : Bytes} (h : Posted.hostWrite c.pkt.outPtr (bs.take c.pkt.outLen.toNat) ∈ t.sent) :
    t.wrote c bs := h

theorem State.auditBytes_congr {t : State} (h : t.led = s.led) : t.auditBytes = s.auditBytes := by
  simp [State.auditBytes, h]

theorem State.auditInline_congr {t : State} (hp : t.led.pools = s.led.pools) (hd : t.led.durable = s.led.durable) :
    t.auditInline = s.auditInline := by
  simp [State.auditInline, hp, hd]

theorem lockSummary_congr {t : State} (h : t.led = s.led) (hg : t.gctl = s.gctl) (n : PoolId) : lockSummary t n = lockSummary s n := by
  simp only [lockSummary, State.lock, State.now, h, hg]

theorem State.stranded_congr {t : State} (h : t.led = s.led) (hs : t.spn = s.spn) (n : PoolId) : t.stranded n = s.stranded n := by
  simp only [State.stranded, State.pool, State.lock, State.issuesInFlight, h, hs]

/-- The STRIP freeze ended in the open group, and nothing else. -/
def State.stripEnded (s : State) : State := ({ s with led := { s.led with strip := false } } : State).groupChange

/-- Where no pool has stranded units, the end of the STRIP freeze leaves the pools. -/
theorem State.clearStrip_pools (h : ∀ x ∈ s.led.pools, s.stranded (BitVec.ofNat 16 x.1) = 0) :
    s.clearStrip = s.stripEnded := by
  unfold State.clearStrip
  dsimp only
  split
  · rfl
  · have hf : ∀ l : List (Nat × Pool), (∀ x ∈ l, s.stranded (BitVec.ofNat 16 x.1) = 0) →
        l.foldl (fun s p =>
          if !p.2.frozen && decide (0 < s.stranded (BitVec.ofNat 16 p.1)) then s.force (.thaw (BitVec.ofNat 16 p.1) 0 []) else s)
          ({ s with led := { s.led with strip := false } } : State).groupChange =
        ({ s with led := { s.led with strip := false } } : State).groupChange := by
      intro l hl
      induction l with
      | nil => rfl
      | cons p l ih =>
        have h0 : (({ s with led := { s.led with strip := false } } : State).groupChange).stranded (BitVec.ofNat 16 p.1) = 0 :=
          hl p (by simp)
        rw [List.foldl_cons, h0]
        simpa using ih fun x hx => hl x (by simp [hx])
    exact hf _ h

/-- `LEDGER_AUDIT` op 1 where the sums agree with the durable totals and nothing is stranded. -/
theorem ledgerAuditClearStripBody_passes {x : Ctx} (hs : s.led.strip = true) (ha : (sumPools s.led.pools).agrees s.led.durable.tot = true)
    (h : ∀ x ∈ s.led.pools, s.stranded (BitVec.ofNat 16 x.1) = 0) :
    ledgerAuditClearStripBody x s =
      { s := s.stripEnded, cyc := 67666, inl := inlAt 0 1, result := s.stripEnded.auditBytes, when_ := .group } := by
  have hi : s.stripEnded.auditInline = inlAt 0 1 := by
    have : s.stripEnded.auditInline = s.auditInline := State.auditInline_congr rfl rfl
    rw [this, State.auditInline, ha]
    rfl
  rw [ledgerAuditClearStripBody, if_neg (by simp [hs]), if_pos ha, State.clearStrip_pools h, ← hi]

/-- The open group with the totals of an owner certificate (R101 step 4). -/
def State.totalsGiven (tot : Totals) (s : State) : State :=
  (({ s with led := { s.led with group := { s.led.group with setTotals := some tot } } } : State).groupChange).noteApplied

/-- What a `TOTALS` certificate that passes gives the open group (R101 step 4). -/
theorem ledgerAuditTotalsBody_passes {x : Ctx} {z : State} (hx : x = z.ctxRun op sub c f) (hm : c.memErr = none)
    (ht : s.led.totals = true) (hcert : (s.certCheck x 4 0 2 (leAt c.bytes 20 8 == s.led.fseq) c.bytes).2 = none)
    (hs : (totalsOf fun k => leAt c.bytes (28 + 6 * k) 6).sound = true) :
    ∃ (part : Part) (v : State), part.signing = false ∧ v.spn = ((s.hashed 3).usedSpindle part).spn ∧
      v.led.group.setTotals = some (totalsOf fun k => leAt c.bytes (28 + 6 * k) 6) ∧ v.led.group.change = true ∧
      v.auditInline = s.auditInline ∧
      ledgerAuditTotalsBody x s = { s := v, cyc := 108677, inl := v.auditInline, result := v.auditBytes, when_ := .group } := by
  obtain ⟨part, hsig, hpass⟩ := State.certCheck_passes hcert
  refine ⟨part, ((s.hashed 3).usedSpindle part).totalsGiven (totalsOf fun k => leAt c.bytes (28 + 6 * k) 6), hsig, rfl, rfl, rfl,
    rfl, ?_⟩
  subst hx
  rw [ledgerAuditTotalsBody, if_neg (by simp [ht]), withData_ok hm, hpass]
  dsimp only
  rw [if_neg (by simp [hs])]
  rfl

end

/-- Settles O8: the two queries read only, op 1 ends the freeze where nothing is stranded, op 2 by the certificate's totals. -/
theorem ledgerQueriesAndAudits : Obligations.LedgerQueriesAndAudits := by
  refine fun c s f => ⟨fun p h hp hn => ?_, fun h hn => ?_, fun h hs ha h1 h2 hst => ?_, fun tot h ht hm hcert htot hs hrun => ?_⟩
  · have hl : (s.begun 0x0208 none c f).led = s.led := State.begun_led_same _ _ _ _ _ rfl
    have ho : poolQueryBody (s.ctxRun 0x0208 none c f) (s.begun 0x0208 none c f) =
        { s := s.begun 0x0208 none c f, cyc := 96, result := p.bytes ++ lockSummary s c.poolA } := by
      simp only [poolQueryBody, State.ctxRun_pool, State.begun_pool, hp, lockSummary_congr hl (State.begun_gctl ..)]
    exact (completes_query h rfl rfl ho).mono fun t ⟨ha, ho, hw⟩ => ⟨ha, ho, hw (by simp [Pool.bytes_ne_nil]) hn⟩
  · have hl : (s.begun 0x020F (some 0) c f).led = s.led := State.begun_led_same _ _ _ _ _ rfl
    have ho : ledgerAuditSumBody (s.ctxRun 0x020F (some 0) c f) (s.begun 0x020F (some 0) c f) =
        { s := s.begun 0x020F (some 0) c f, cyc := 65746, inl := s.auditInline, result := s.auditBytes } := by
      rw [ledgerAuditSumBody, State.auditBytes_congr hl, State.auditInline_congr (s := s) (by rw [hl]) (by rw [hl])]
    exact (completes_query h rfl rfl ho).mono fun t ⟨ha, ho, hw⟩ =>
      ⟨ha, ho, by simpa using hw (by simp [State.auditBytes, leBytes, Totals.list]) hn⟩
  · have hl : (s.begun 0x020F (some 1) c f).led = s.led := State.begun_led_same _ _ _ _ _ rfl
    have ho := ledgerAuditClearStripBody_passes (x := s.ctxRun 0x020F (some 1) c f) (s := s.begun 0x020F (some 1) c f)
      (by rw [hl, hs]) (by rw [hl, ha]) (by rw [hl]; exact fun x hx => (State.stranded_congr hl (State.begun_spn ..) _).trans (hst x hx))
    refine completes_recorded h rfl ho rfl rfl fun t hd ⟨_, a, hw⟩ => ⟨?_, ?_, hd⟩
    · rw [hw]
      rfl
    · rw [hw, ← hl]
      rfl
  · subst htot
    obtain ⟨part, v, hsig, hv, hg, hch, hi, hb⟩ := ledgerAuditTotalsBody_passes (x := s.ctxRun 0x020F (some 2) c f)
      (s := s.begun 0x020F (some 2) c f) rfl hm (by rw [State.begun_led]; exact ht) (by rw [State.begun_led]; exact hcert) hs
    have hin : v.auditInline = inlAt 0 ((sumPools s.led.pools).agrees s.led.durable.tot).toNat := by
      rw [hi, State.auditInline, State.begun_led]
    rw [hin] at hb
    refine completes_verified h rfl hrun hsig hb ?_ rfl rfl fun t hd ⟨_, a, hw⟩ => ⟨?_, ?_, hd⟩
    · simp [hv, State.usedSpindle, State.hashed, hrun.2.2.2]
    · rw [hw, ← hg]
    · rw [hw, ← hch]

end Sys2Proof.Machine
end

section
/-! PROOFS. Freezing, thawing and retiring pools (R90, R91, R101). -/

namespace Sys2Proof.Machine

set_option Elab.async false

/-! ## What a table holds after a write -/

theorem Tab.mem_put {α : Type} {t : Tab α} {k : Nat} {v : α} {p : Nat × α} (h : p ∈ t.put k v) : p = (k, v) ∨ p ∈ t := by
  induction t with
  | nil => simpa [Tab.put] using h
  | cons q t ih =>
    obtain ⟨j, w⟩ := q
    simp only [Tab.put] at h
    split at h
    · rcases List.mem_cons.mp h with h | h <;> simp_all
    · split at h
      · rcases List.mem_cons.mp h with h | h <;> simp_all
      · rcases List.mem_cons.mp h with h | h
        · exact Or.inr (by simp [h])
        · rcases ih h with h | h <;> simp_all

theorem Tab.mem_of_find {α : Type} {t : Tab α} {k : Nat} {v : α} (h : t.find k = some v) : (k, v) ∈ t := by
  induction t with
  | nil => simp [Tab.find] at h
  | cons q t ih =>
    obtain ⟨j, w⟩ := q
    simp only [Tab.find] at h
    split at h
    · simp_all
    · split at h
      · cases h
      · exact List.mem_cons_of_mem _ (ih h)

section
variable {op : BitVec 16} {sub : Option Byte} {c : Cmd} {s : State} {f : Fetched}

@[simp] theorem rowPacket_opcode (op : BitVec 16) (sub : Option Byte) (p : Packet) : (rowPacket op sub p).opcode = op := by
  cases sub <;> simp [rowPacket, Packet.setByte]

/-- A command that reserves no units leaves a pool on which none runs as it is (R75, R90). -/
theorem State.poolBusy_begun (h : Runs op sub c s f) {n : PoolId} (hr : reservesOn n f.pkt = false) (hb : s.poolBusy n = false) :
    (s.begun op sub c f).poolBusy n = false := by
  simp only [State.poolBusy, List.any_eq_false, Bool.not_eq_true] at hb ⊢
  intro p hp
  rw [State.begun_queues, State.setFetched, State.setQueue] at hp
  rcases Tab.mem_put hp with rfl | hp
  · intro g hg
    obtain ⟨g', hg', rfl⟩ := List.mem_map.mp hg
    split
    · simp [hr]
    · exact hb _ (Tab.mem_of_find (State.find_queue h.live)) g' hg'
  · exact hb p hp

/-- A lock is the same where a command's effect begins, but for its lease. -/
theorem State.lock_begun (n : PoolId) :
    (s.begun op sub c f).lock n = s.lock n ∨
      ∃ k d, s.lock n = some k ∧ (s.begun op sub c f).lock n = some { k with deadline := d } := by
  have ht (u : State) (hu : u.led = s.led) : (u.touchLock c.q (rowPacket op sub c.pkt)).lock n = s.lock n ∨
      ∃ k d, s.lock n = some k ∧ (u.touchLock c.q (rowPacket op sub c.pkt)).lock n = some { k with deadline := d } := by
    have hn (m : PoolId) : u.lock m = s.lock m := by simp [State.lock, hu]
    unfold State.touchLock
    split
    · exact Or.inl (hn n)
    next m hm =>
      split
      · exact Or.inl (hn n)
      next k hk =>
        split
        · by_cases hnm : n = m
          · subst hnm
            exact Or.inr ⟨k, u.now + k.lease * 800000, (hn n).symm.trans hk, by simp only [State.lock, Tab.find_put]⟩
          · have hne : n.toNat ≠ m.toNat := fun e => hnm (BitVec.eq_of_toNat_eq e)
            exact Or.inl (by simp only [State.lock, Tab.find_put_ne _ _ hne, hu])
        · exact Or.inl (hn n)
  unfold State.begun
  dsimp only
  split
  · exact ht _ (State.setFetched_led ..)
  · exact ht _ (State.setFetched_led ..)

theorem State.lock_begun_none {n : PoolId} (hn : s.lock n = none) : (s.begun op sub c f).lock n = none := by
  rcases State.lock_begun (op := op) (sub := sub) (c := c) (s := s) (f := f) n with h | ⟨k, d, h, -⟩
  · exact h.trans hn
  · simp [hn] at h

theorem State.stranded_begun (n : PoolId) : (s.begun op sub c f).stranded n = s.stranded n := by
  have hu : ((s.begun op sub c f).lock n).map (·.units) = (s.lock n).map (·.units) := by
    rcases State.lock_begun (op := op) (sub := sub) (c := c) (s := s) (f := f) n with h | ⟨k, d, h, h'⟩
    · rw [h]
    · rw [h, h']
      rfl
  simp only [State.stranded, State.begun_pool, hu, State.issuesInFlight, State.begun_spn]

theorem State.forcesNow_begun (h : s.forcesNow) : (s.begun op sub c f).forcesNow := by
  unfold State.forcesNow State.forcedRoom State.ringDepth at *
  rwa [State.begun_ru]

/-- A forced record that has room and that none waits before is chained at once (R128). -/
theorem State.force_now {g : Forced} (h : s.forcesNow) : s.force g = s.doForced g := by
  simp [State.force, h.1, h.2]

/-- A reply that joins what waits for the open group. -/
theorem State.afterGroup_answersDurable (h : Runs op sub c s f) {u : State} {cyc : Nat} {inl : BitVec 64} {result : Bytes} :
    (u.afterGroup [.reply ((s.ctxRun op sub c f).held 0 cyc inl result)]).answersDurable c.q f inl :=
  ⟨(s.ctxRun op sub c f).held 0 cyc inl result, by simp [State.afterGroup], rfl, rfl, by simp [Ctx.held, h.pkt], rfl, rfl⟩

theorem State.answersDurable_congr {t u : State} {q : QId} {inl : BitVec 64} (h : u.answersDurable q f inl)
    (hg : t.led.group = u.led.group) : t.answersDurable q f inl := by
  obtain ⟨k, hk, hr⟩ := h
  exact ⟨k, by rwa [hg], hr⟩

/-- What a freeze does at once (R90). -/
theorem State.freezePool_eq {n : PoolId} {causes : Byte} {after : List After} {p : Pool} (hp : s.pool n = some p) :
    s.freezePool n causes after = (((s.putPool n (p.withCauses (p.status ||| causes))).raise evFrozen).chain
      { typ := 0x0F, flags := (p.withCauses (p.status ||| causes)).status, pool := n }).afterGroup after := by
  simp [State.freezePool, hp]

theorem State.freezePool_pool {n : PoolId} {causes : Byte} {after : List After} {p : Pool} (hp : s.pool n = some p) :
    (s.freezePool n causes after).pool n = some (p.withCauses (p.status ||| causes)) ∧
    (∀ m, m ≠ n → (s.freezePool n causes after).pool m = s.pool m) ∧
    (s.freezePool n causes after).gctl.evtStat.getLsbD evFrozen = true ∧
    (s.freezePool n causes after).ru.jrn.seq = s.ru.jrn.seq + 1 := by
  rw [State.freezePool_eq hp]
  have hc (m : PoolId) : (((((s.putPool n (p.withCauses (p.status ||| causes))).raise evFrozen).chain
      { typ := 0x0F, flags := (p.withCauses (p.status ||| causes)).status, pool := n })).afterGroup after).pool m =
      (s.putPool n (p.withCauses (p.status ||| causes))).pool m :=
    State.pool_congr (by simp [State.afterGroup]) m
  refine ⟨(hc n).trans (State.pool_putPool _ _ _), fun m hm => (hc m).trans (State.pool_putPool_ne _ _ hm), ?_, by simp⟩
  exact State.chain_raise_evt _ evFrozen _ (by decide) id rfl

/-- What a thaw does at once where no unit is stranded (R90). -/
theorem State.thawPool_eq {n : PoolId} {causes : Byte} {after : List After} {p : Pool} (hp : s.pool n = some p)
    (hs : s.stranded n = 0) :
    s.thawPool n causes after = ((s.putPool n (p.withCauses (p.status &&& ~~~causes))).chain
      { typ := 0x10, flags := (p.withCauses (p.status &&& ~~~causes)).status, pool := n, delta := 0 }).afterGroup after := by
  have hu : (s.putPool n (p.withCauses (p.status &&& ~~~causes))).stranded n = 0 := by
    rw [State.stranded, hp] at hs
    rw [State.stranded, State.pool_putPool]
    exact hs
  simp [State.thawPool, hp, hu]

theorem State.thawPool_pool {n : PoolId} {causes : Byte} {after : List After} {p : Pool} (hp : s.pool n = some p)
    (hs : s.stranded n = 0) :
    (s.thawPool n causes after).pool n = some (p.withCauses (p.status &&& ~~~causes)) ∧
    (∀ m, m ≠ n → (s.thawPool n causes after).pool m = s.pool m) ∧
    (s.thawPool n causes after).ru.jrn.seq = s.ru.jrn.seq + 1 := by
  rw [State.thawPool_eq hp hs]
  have hc (m : PoolId) : (((s.putPool n (p.withCauses (p.status &&& ~~~causes))).chain
      { typ := 0x10, flags := (p.withCauses (p.status &&& ~~~causes)).status, pool := n, delta := 0 }).afterGroup after).pool m =
      (s.putPool n (p.withCauses (p.status &&& ~~~causes))).pool m :=
    State.pool_congr (by simp [State.afterGroup]) m
  exact ⟨(hc n).trans (State.pool_putPool _ _ _), fun m hm => (hc m).trans (State.pool_putPool_ne _ _ hm), by simp⟩

/-- The check of a certificate's prior value is one of those it passes (R72). -/
theorem State.certCheck_prior {x : Ctx} {kind pool slot : Nat} {prior : Bool} {bs : Bytes}
    (h : (s.certCheck x kind pool slot prior bs).2 = none) : prior = true := by
  unfold State.certCheck at h
  split at h
  · cases h
  next hr =>
    cases prior with
    | true => rfl
    | false =>
      simp only [certRefusal, firstFail] at hr
      (repeat' split at hr) <;> simp_all

/-- A pool's record replaced from a RECOVERY certificate, with its FREEZE record (R101 step 2). -/
def State.recordReplaced (n : PoolId) (new : Pool) (live : Totals) (after : List After) (s : State) : State :=
  ((((s.replaced n new live).raise evFrozen).chain { typ := 0x0F, flags := new.status, pool := n }).afterGroup after).noteApplied

theorem State.recordReplaced_led (n : PoolId) (new : Pool) (live : Totals) (after : List After) (s : State) :
    (s.recordReplaced n new live after).led = { (s.replaced n new live).led with
      group := { (s.replaced n new live).led.group with change := true, after := (s.replaced n new live).led.group.after ++ after }
      applied := true } := by
  simp [State.recordReplaced, State.noteApplied, State.afterGroup]

theorem State.recordReplaced_pool (n : PoolId) (new : Pool) (live : Totals) (after : List After) (s : State) :
    (s.recordReplaced n new live after).pool n = some new ∧
    ∀ m, m ≠ n → (s.recordReplaced n new live after).pool m = s.pool m := by
  have hc (m : PoolId) : (s.recordReplaced n new live after).pool m = (s.replaced n new live).pool m :=
    State.pool_congr (by rw [State.recordReplaced_led]) m
  obtain ⟨h1, h2⟩ := State.replaced_pool n new live s
  exact ⟨(hc n).trans h1, fun m hm => (hc m).trans (h2 m hm)⟩

theorem State.recordReplaced_live (n : PoolId) (new : Pool) (live : Totals) (after : List After) (s : State) :
    (s.recordReplaced n new live after).led.live = live ∧ (s.recordReplaced n new live after).led.durable = s.led.durable := by
  rw [State.recordReplaced_led]
  exact ⟨rfl, rfl⟩

theorem State.recordReplaced_evt (n : PoolId) (new : Pool) (live : Totals) (after : List After) (s : State) :
    (s.recordReplaced n new live after).gctl.evtStat.getLsbD evFrozen = true := by
  rw [State.recordReplaced, State.noteApplied_gctl, State.afterGroup_gctl]
  exact State.chain_raise_evt _ evFrozen (s.replaced n new live) (by decide) id rfl

theorem State.recordReplaced_seq (n : PoolId) (new : Pool) (live : Totals) (after : List After) (s : State) :
    (s.recordReplaced n new live after).ru.jrn.seq = s.ru.jrn.seq + 1 ∧ (s.recordReplaced n new live after).spn = s.spn := by
  have hr : (s.replaced n new live).ru = s.ru := rfl
  have hs : (s.replaced n new live).spn = s.spn := rfl
  simp [State.recordReplaced, State.noteApplied, State.afterGroup, hr, hs]

/-- What the replacement of a record does at once (R101 step 2). -/
theorem State.replaceForced_eq {n : PoolId} {new : Pool} {ref : Nat} {h : Held} {live : Totals} (hr : ref = s.led.fseq)
    (hrep : s.replacePool n new = (s.replaced n new live, true)) :
    s.replaceForced n new ref h = s.recordReplaced n new live [.reply h] := by
  simp [State.replaceForced, hr, hrep, State.recordReplaced]

/-- The change of a retirement that the checker lets through (R91). -/
theorem State.retirePool_eq {n : PoolId} {h : Held} {p : Pool} (hp : s.pool n = some p)
    (hc : s.checkerPasses n { a := -(p.a : Int), w := p.a }) :
    s.retirePool n h = ((((s.change n { a := -(p.a : Int), w := p.a } fun p => { p with st := 3 }).1.unpledge 1).chain
      { typ := 0x11, pool := n, delta := BitVec.ofNat 32 p.a }).afterGroup [.reply { h with inl := inlAt 0 p.a }]) := by
  obtain ⟨hv, -⟩ := State.change_moves (fun p => { p with st := 3 }) hc
  have ha : ((s.pool n).map (·.a)).getD 0 = p.a := by simp [hp]
  simp only [State.retirePool, ha]
  rw [hv]

end

section
variable {x : Ctx} {s : State} {p : Pool}

theorem poolFreezeSetBody_now (hp : s.pool x.pool = some p) (hh : p.host = false) (hb : s.poolBusy x.pool = false)
    (hf : s.forcesNow) :
    poolFreezeSetBody x s =
      { s := s.freezePool x.pool 4 [.reply (x.held 0 2060 (inlAt 0 (p.status ||| 4).toNat) [])], cyc := 2060, when_ := .later } := by
  simp [poolFreezeSetBody, hp, hh, hb, State.force_now hf, State.doForced]

theorem poolFreezeClearBody_now (hp : s.pool x.pool = some p) (hh : p.host = true) (hf : s.forcesNow) :
    poolFreezeClearBody x s =
      { s := s.thawPool x.pool 4 [.reply (x.held 0 2060 (inlAt 0 (p.status &&& ~~~4#8).toNat) [])], cyc := 2060, when_ := .later } := by
  simp [poolFreezeClearBody, hp, hh, State.force_now hf, State.doForced]

/-- `POOL_RETIRE` of a pool that no command reserves on (R91). -/
theorem poolRetireBody_now (hp : s.pool x.pool = some p) (h2 : p.st ≠ 2) (h3 : p.st ≠ 3) (hl : s.lock x.pool = none)
    (ht : p.t = 0) (hf : s.isFrozen p = false) (hb : s.poolBusy x.pool = false) (ha : s.admits) :
    poolRetireBody x s =
      { s := ((s.putPool x.pool { p with st := 2 }).pledge 1).retirePool x.pool (x.held 0 2100 0 []), cyc := 2100, when_ := .later } := by
  have hb' : ((s.putPool x.pool { p with st := 2 }).pledge 1).poolBusy x.pool = false := hb
  have hff : firstFail [((s.lock x.pool).isNone, stLockHeld), (decide (p.t = 0), stInDoubt), (!s.isFrozen p, stPoolFrozen)] = none := by
    simp [firstFail, hl, ht, hf]
  rw [poolRetireBody, hp]
  dsimp only
  rw [if_neg h3, if_neg h2, hff]
  dsimp only
  rw [State.gateRefusal_of_admits ha]
  dsimp only
  rw [if_neg (by rw [hb']; exact Bool.false_ne_true)]

/-- `POOL_FREEZE` op 2 under a certificate that passes (R101 step 2). -/
theorem poolFreezeRecoveryBody_now {op : BitVec 16} {sub : Option Byte} {c : Cmd} {f : Fetched} {z : State} {new : Pool} {live : Totals}
    (hx : x = z.ctxRun op sub c f) (hp : s.pool x.pool = some p)
    (hnew : new = { (certPool c.bytes).withCauses ((p.status &&& 4) ||| 0x20) with st := p.st }) (hm : c.memErr = none)
    (hc : (p.rebuild || p.checker || p.recovering || s.led.totals) = true)
    (hcert : (s.certCheck x 3 x.pool.toNat 2 (leAt c.bytes 20 8 == s.led.fseq) c.bytes).2 = none) (hf : s.forcesNow)
    (hrep : ∀ t : State, t.led.pools = s.led.pools → t.led.live = s.led.live →
      t.replacePool x.pool new = (t.replaced x.pool new live, true))
    (ht : live.agrees s.led.durable.tot = false) :
    ∃ part : Part, part.signing = false ∧ poolFreezeRecoveryBody x s =
      { s := ((s.hashed 3).usedSpindle part).recordReplaced x.pool new live [.reply (x.held 0 43071 (inlAt 0 new.status.toNat) [])]
        cyc := 43071, when_ := .later } := by
  obtain ⟨part, hsig, hpass⟩ := State.certCheck_passes hcert
  refine ⟨part, hsig, ?_⟩
  have hr : leAt c.bytes 20 8 = s.led.fseq := by simpa using State.certCheck_prior hcert
  have hrep' := hrep ((s.hashed 3).usedSpindle part) rfl rfl
  have hf' : ((s.hashed 3).usedSpindle part).forcesNow := hf
  obtain ⟨hl, hd⟩ := State.recordReplaced_live x.pool new live
    [.reply (x.held 0 43071 (inlAt 0 new.status.toNat) [])] ((s.hashed 3).usedSpindle part)
  have hset := State.settleTotals_apart (by rw [hl, hd]; exact ht)
  rw [poolFreezeRecoveryBody, hp]
  subst hx
  dsimp only
  rw [hc, withData_ok hm, hpass]
  dsimp only
  rw [← hnew, hrep']
  dsimp only
  rw [State.force_now hf', State.doForced, State.replaceForced_eq (s := (s.hashed 3).usedSpindle part) hr hrep', hset]
  rfl

end

/-- `POOL_FREEZE` op 2 (R101). -/
theorem completes_poolFreezeRecovery {c : Cmd} {s : State} {f : Fetched} {p new : Pool} (hp : s.pool c.poolA = some p)
    (hnew : new = { (certPool c.bytes).withCauses ((p.status &&& 4) ||| 0x20) with st := p.st }) (hrun : s.programsRun c false)
    (h : Runs 0x0209 (some 2) c s f) (hc : (p.rebuild || p.checker || p.recovering || s.led.totals) = true) (hm : c.memErr = none)
    (hcert : certPasses 0x0209 (some 2) c s f 3 c.poolA.toNat 2 (leAt c.bytes 20 8 == s.led.fseq) c.bytes) (hf : s.forcesNow)
    (hr : (s.replacePool c.poolA new).2 = true) (ht : (s.replacePool c.poolA new).1.led.live.agrees s.led.durable.tot = false) :
    Completes (.poolFreezeRecovery c) s fun t =>
      t.pool c.poolA = some new ∧ (∀ m, m ≠ c.poolA → t.pool m = s.pool m) ∧ t.gctl.evtStat.getLsbD evFrozen = true ∧
      t.ru.jrn.seq = s.ru.jrn.seq + 1 ∧ t.answersDurable c.q f (inlAt 0 new.status.toNat) := by
  obtain ⟨live, hlive, hrep⟩ := State.replacePool_passes hr
  have hp' : (s.begun 0x0209 (some 2) c f).pool c.poolA = some p := (State.begun_pool ..).trans hp
  obtain ⟨part, hsig, ho⟩ := poolFreezeRecoveryBody_now (x := s.ctxRun 0x0209 (some 2) c f) (s := s.begun 0x0209 (some 2) c f)
    (live := live) rfl (by rw [State.ctxRun_pool]; exact hp') hnew hm (by rw [State.begun_led]; exact hc)
    (by rw [State.begun_led, State.ctxRun_pool]; exact hcert) (State.forcesNow_begun hf)
    (by
      intro t h1 h2
      rw [State.ctxRun_pool]
      exact hrep t (by simpa using h1) (by simpa using h2))
    (by rw [State.begun_led, ← hlive]; exact ht)
  rw [State.ctxRun_pool] at ho
  obtain ⟨h1, h2⟩ := State.recordReplaced_pool c.poolA new live
    [.reply ((s.ctxRun 0x0209 (some 2) c f).held 0 43071 (inlAt 0 new.status.toNat) [])]
    (((s.begun 0x0209 (some 2) c f).hashed 3).usedSpindle part)
  have h3 := State.recordReplaced_evt c.poolA new live
    [.reply ((s.ctxRun 0x0209 (some 2) c f).held 0 43071 (inlAt 0 new.status.toNat) [])]
    (((s.begun 0x0209 (some 2) c f).hashed 3).usedSpindle part)
  obtain ⟨h4, h7⟩ := State.recordReplaced_seq c.poolA new live
    [.reply ((s.ctxRun 0x0209 (some 2) c f).held 0 43071 (inlAt 0 new.status.toNat) [])]
    (((s.begun 0x0209 (some 2) c f).hashed 3).usedSpindle part)
  refine completes_verified_later h rfl hrun hsig ho ?_ rfl fun t hv => ?_
  · rw [h7]
    simp [State.usedSpindle, State.hashed, hrun.2.2.2]
  have hled := hv .led (by decide)
  have hgctl := hv .gctl (by decide)
  have hru := hv .ru (by decide)
  simp only [State.agree] at hled hgctl hru
  refine ⟨(State.pool_congr (by rw [hled]) _).trans h1,
    fun m hm => (State.pool_congr (by rw [hled]) m).trans ((h2 m hm).trans (State.begun_pool ..)), by rw [hgctl]; exact h3, ?_, ?_⟩
  · rw [hru, h4]
    simp [State.usedSpindle, State.hashed]
  · refine State.answersDurable_congr (u := ?_) ?_ (by rw [hled])
    exact State.afterGroup_answersDurable (u := (((((s.begun 0x0209 (some 2) c f).hashed 3).usedSpindle part).replaced c.poolA new
      live).raise evFrozen).chain { typ := 0x0F, flags := new.status, pool := c.poolA }) (cyc := 43071) (result := []) h

/-- Settles O7, by what each forced record does at once. -/
theorem poolsFreezeThawAndRetire : Obligations.PoolsFreezeThawAndRetire := by
  intro c s f n p hn hp
  subst hn
  refine ⟨fun h hh hb hf => ?_, fun h hh hs hf => ?_, ?_, fun h h2 h3 hl ht hfr hb ha hc => ?_⟩
  · have hpkt : reservesOn c.poolA f.pkt = false := by simp [h.pkt, reservesOn]
    have hp' : (s.begun 0x0209 (some 0) c f).pool c.poolA = some p := (State.begun_pool ..).trans hp
    have ho := poolFreezeSetBody_now (x := s.ctxRun 0x0209 (some 0) c f) (s := s.begun 0x0209 (some 0) c f)
      (by rw [State.ctxRun_pool]; exact hp') hh (by rw [State.ctxRun_pool]; exact State.poolBusy_begun h hpkt hb)
      (State.forcesNow_begun hf)
    rw [State.ctxRun_pool] at ho
    refine completes_later h rfl ho rfl ?_
    obtain ⟨h1, h2, h3, h4⟩ := State.freezePool_pool (causes := 4) (after := _) hp'
    refine ⟨h1, fun m hm => (h2 m hm).trans (State.begun_pool ..), h3, h4.trans (by rw [State.begun_ru]), ?_⟩
    rw [State.freezePool_eq hp']
    exact State.afterGroup_answersDurable h
  · have hp' : (s.begun 0x0209 (some 1) c f).pool c.poolA = some p := (State.begun_pool ..).trans hp
    have hs' : (s.begun 0x0209 (some 1) c f).stranded c.poolA = 0 := (State.stranded_begun _).trans hs
    have ho := poolFreezeClearBody_now (x := s.ctxRun 0x0209 (some 1) c f) (s := s.begun 0x0209 (some 1) c f)
      (by rw [State.ctxRun_pool]; exact hp') hh (State.forcesNow_begun hf)
    rw [State.ctxRun_pool] at ho
    refine completes_later h rfl ho rfl ?_
    obtain ⟨h1, h2, h3⟩ := State.thawPool_pool (causes := 4) (after := _) hp' hs'
    refine ⟨h1, fun m hm => (h2 m hm).trans (State.begun_pool ..), h3.trans (by rw [State.begun_ru]), ?_⟩
    rw [State.thawPool_eq hp' hs']
    exact State.afterGroup_answersDurable h
  · intro new hnew hrun h hc hm hcert hf hr ht
    exact completes_poolFreezeRecovery hp hnew hrun h hc hm hcert hf hr ht
  · have hp' : (s.begun 0x020A none c f).pool c.poolA = some p := (State.begun_pool ..).trans hp
    have hpkt : reservesOn c.poolA f.pkt = false := by simp [h.pkt, reservesOn]
    have ho := poolRetireBody_now (x := s.ctxRun 0x020A none c f) (s := s.begun 0x020A none c f)
      (by rw [State.ctxRun_pool]; exact hp') h2 h3 (by rw [State.ctxRun_pool]; exact State.lock_begun_none hl) ht
      (by rw [State.begun_isFrozen]; exact hfr) (by rw [State.ctxRun_pool]; exact State.poolBusy_begun h hpkt hb)
      (State.admits_begun _ _ _ _ ha)
    rw [State.ctxRun_pool] at ho
    refine completes_later h rfl ho rfl ?_
    have hpu : (((s.begun 0x020A none c f).putPool c.poolA { p with st := 2 }).pledge 1).pool c.poolA = some { p with st := 2 } :=
      State.pool_putPool _ _ _
    have hcu : (((s.begun 0x020A none c f).putPool c.poolA { p with st := 2 }).pledge 1).checkerPasses c.poolA
        { a := -(p.a : Int), w := p.a } := by
      obtain ⟨p₁, hp₁, hc₁⟩ := hc
      obtain rfl : p₁ = p := Option.some.inj (hp₁.symm.trans hp)
      refine ⟨_, hpu, ?_⟩
      have hl : (((s.begun 0x020A none c f).putPool c.poolA { p₁ with st := 2 }).pledge 1).led.live = s.led.live :=
        State.begun_live ..
      rw [hl]
      exact hc₁
    obtain ⟨-, hm, hv, -⟩ := State.change_moves (fun p => { p with st := 3 }) hcu
    rw [State.retirePool_eq hpu hcu]
    refine ⟨?_, ?_, ?_⟩
    · obtain ⟨p', tot, hp₁, hp₂, h5, h6, h7, h8⟩ := hm
      obtain rfl : p' = { p with st := 2 } := Option.some.inj (hp₁.symm.trans hpu)
      have hpool (u : State) (m : PoolId) (r : JRec) (a : List After) : (((u.unpledge 1).chain r).afterGroup a).pool m = u.pool m :=
        State.pool_congr (by simp [State.afterGroup, State.unpledge]) m
      refine ⟨p, tot, hp, (hpool _ _ _ _).trans hp₂, h5, h6, ?_, fun m hm => (hpool _ _ _ _).trans ((h8 m hm).trans ?_)⟩
      · simpa [State.afterGroup, State.unpledge, State.pledge] using h7
      · exact (State.pool_putPool_ne _ _ hm).trans (State.begun_pool ..)
    · simp [State.afterGroup, State.unpledge, State.pledge]
    · exact State.afterGroup_answersDurable (cyc := 2100) (result := []) h

end Sys2Proof.Machine
end

section
/-! PROOFS. Spoiling and voiding tickets (R82), on the register's places. -/

namespace Sys2Proof.Machine

set_option Elab.async false

/-! ## Places of the register -/

theorem getElem?_setAt {α : Type} (l : List α) (k : Nat) (v : α) (h : k < l.length) : (setAt l k v)[k]? = some v := by
  induction l generalizing k with
  | nil => simp at h
  | cons w l ih =>
    cases k with
    | zero => rfl
    | succ k => exact ih k (by simpa using h)

/-- A bucket put into the buffer is the bucket as the register stands. -/
theorem Register.bucket_putBucket (b : Nat) (es : List Entry) (r : Register) : (r.putBucket b es).bucket b = es := by
  unfold Register.putBucket
  split
  next h =>
    have : (r.wbuf.map fun p => if p.1 = b then (b, es) else p).find? (·.1 == b) = some (b, es) := by
      generalize r.wbuf = l at h
      induction l with
      | nil => simp at h
      | cons p l ih =>
        by_cases hp : p.1 = b
        · simp [hp]
        · simp only [List.any_cons, Bool.or_eq_true, beq_iff_eq, hp, false_or] at h
          simpa [hp] using ih h
    simp [Register.bucket, this]
  next h =>
    have hn : ∀ p ∈ r.wbuf, ¬p.1 = b := fun p hp e => h (List.any_eq_true.mpr ⟨p, hp, by simp [e]⟩)
    have hfind (l : List (Nat × List Entry)) (hl : ∀ p ∈ l, ¬p.1 = b) : (l ++ [(b, es)]).find? (·.1 == b) = some (b, es) := by
      rw [List.find?_append, List.find?_eq_none.mpr (by simpa using hl)]
      simp
    dsimp only
    split
    next p rest hw =>
      split
      · have := hfind rest fun q hq => hn q (by rw [hw]; exact List.mem_cons_of_mem _ hq)
        simp [Register.bucket, this]
      · simp [Register.bucket, hfind _ hn]
    next hw => simp [Register.bucket, hw]

/-- An entry that a lookup found is written over at its place. -/
theorem Register.entryAt_setEntry {r : Register} {fp : BitVec 128} {e : Entry} {place : Place} (h : r.find fp = some (e, place))
    (e' : Entry) : (r.setEntry place e').entryAt place = some e' := by
  have hin (b k : Nat) (hk : findIn fp (r.bucket b) = some k) : k < (r.bucket b).length := by
    unfold findIn at hk
    obtain ⟨p, hp, rfl⟩ := Option.map_eq_some_iff.mp hk
    have := List.mem_of_find?_eq_some hp
    exact (List.mem_zipIdx this).2.1.trans_eq (by simp)
  have hb (b k : Nat) (hk : findIn fp (r.bucket b) = some k) : (r.setEntry (.bucket b k) e').entryAt (.bucket b k) = some e' := by
    simp only [Register.setEntry, Register.entryAt, Register.bucket_putBucket]
    exact getElem?_setAt _ _ _ (hin b k hk)
  unfold Register.find at h
  dsimp only at h
  split at h
  next x hx =>
    obtain ⟨k, hk, rfl⟩ := Option.map_eq_some_iff.mp hx
    cases h
    exact hb _ _ hk
  next =>
    split at h
    next x hx =>
      obtain ⟨k, hk, rfl⟩ := Option.map_eq_some_iff.mp hx
      cases h
      exact hb _ _ hk
    next =>
      obtain ⟨p, -, hp⟩ := Option.map_eq_some_iff.mp h
      cases hp
      simp [Register.setEntry, Register.entryAt]

/-- A lookup through the engine answers from the register only. -/
theorem State.regFind_eq {s : State} {fp : BitVec 128} {x : Entry × Place} (h : (s.regFind fp).2 = some x) (t : State)
    (ht : t.ru = s.ru) :
    t.regFind fp = ({ t with ru := { t.ru with reg := (s.ru.reg.operate (.lookup fp)).1 } }, some x) ∧
      (s.ru.reg.operate (.lookup fp)).1.find fp = some x := by
  have h' : (s.ru.reg.operate (.lookup fp)).1.find fp = some x := h
  exact ⟨by simp only [State.regFind, State.regRun, ht, h'], h'⟩

/-- The key that `REG_CFG` names is read without a change where it serves. -/
theorem State.fpk_ok {s : State} {k : Slot} (h : s.slotServes s.ru.reg.fpkSlot.toNat useFingerprint k) : s.fpk = (s, .ok k.key256) := by
  simp only [State.fpk, State.useSlot_ok h]

/-- Where `SPOIL` and `VOID` move a unit to (R82). -/
def spoilDelta (void : Bool) : Delta := if void then { i := -1, v := 1 } else { i := -1, s := 1 }
def spoiledEntry (void : Bool) (e : Entry) (t : BitVec 32) : Entry :=
  { e with state := if void then stVoided else stSpoiled, time := t }

/-- An entry written over at its place, its change in the record that is chained with it. -/
def State.entryChanged (place : Place) (e : Entry) (r : JRec) (fp : BitVec 128) (s : State) : State :=
  ((({ s with ru := { s.ru with reg := s.ru.reg.setEntry place e } } : State).chain r).noteChange fp)

/-- A record chained leaves the register. -/
theorem State.chain_reg (r : JRec) (s : State) : (s.chain r).ru.reg = s.ru.reg := by
  unfold State.chain State.toRing
  dsimp only
  split <;> simp

theorem State.entryChanged_leaves (place : Place) (e : Entry) (r : JRec) (fp : BitVec 128) (s : State) :
    (s.entryChanged place e r fp).ru.reg.entryAt place = (s.ru.reg.setEntry place e).entryAt place ∧
    (s.entryChanged place e r fp).ru.jrn.seq = s.ru.jrn.seq + 1 ∧
    (s.entryChanged place e r fp).led.pools = s.led.pools ∧ (s.entryChanged place e r fp).led.live = s.led.live := by
  refine ⟨?_, ?_, ?_, ?_⟩
  · cases place <;> simp [State.entryChanged, State.noteChange, State.chain_reg, Register.entryAt, Register.bucket]
  all_goals simp [State.entryChanged, State.noteChange]

section
variable {x : Ctx} {s : State} {p : Pool} {fp : BitVec 128} {e : Entry} {place : Place} {void : Bool}

/-- `SPOIL` and `VOID` of a ticket issued here and never let in (R82). -/
theorem spoilBody_passes {u : State} (hp : s.pool x.pool = some p) (hf : s.isFrozen p = false) (ha : s.admits)
    (ht : s.ticketFp x.pool (BitVec.ofNat 40 (x.c.pkt.field 32 5)) fp) (hr : (u.regFind fp).2 = some (e, place)) (hu : u.ru = s.ru)
    (hst : e.state = stIssued) (had : e.admits = 0) (hc : s.checkerPasses x.pool (spoilDelta void)) :
    ∃ r v, spoilBody void x s = { s := v.entryChanged place (spoiledEntry void e v.gctl.time) r fp, cyc := 2156, when_ := .group } ∧
      v.gctl = s.gctl ∧ s.poolMoved v x.pool (spoilDelta void) id ∧ v.ru.reg.find fp = some (e, place) ∧ v.ru.jrn.seq = s.ru.jrn.seq := by
  obtain ⟨k, hk, rfl⟩ := ht
  obtain ⟨hfind, hreg⟩ := State.regFind_eq hr s hu.symm
  generalize hv : ({ s with ru := { s.ru with reg := (u.ru.reg.operate (.lookup (fingerprint k.key256
    (ticketIdentity s.node x.pool (BitVec.ofNat 40 (x.c.pkt.field 32 5)))))).1 } } : State) = v at hfind
  have hvc : v.checkerPasses x.pool (spoilDelta void) := by
    subst hv
    exact hc
  have hvg : gateRefusal v = none := by
    subst hv
    exact State.gateRefusal_of_admits ha
  have hvgctl : v.gctl = s.gctl := by
    subst hv
    rfl
  obtain ⟨hch, hm, htv, -, -⟩ := State.change_moves id hvc
  have hgctl := htv .gctl (by decide)
  have hru := htv .ru (by decide)
  simp only [State.agree] at hgctl hru
  refine ⟨{ typ := if void then 0x06 else 0x05, pool := x.pool, serial := BitVec.ofNat 40 (x.c.pkt.field 32 5)
            node := (v.change x.pool (spoilDelta void) id).1.node
            fp := fingerprint k.key256 (ticketIdentity s.node x.pool (BitVec.ofNat 40 (x.c.pkt.field 32 5))), delta := 1 },
    (v.change x.pool (spoilDelta void) id).1, ?_, hgctl.trans hvgctl, ?_, ?_, ?_⟩
  · rw [spoilBody, hp]
    dsimp only
    rw [hf, State.fpk_ok hk]
    dsimp only
    rw [hfind]
    dsimp only
    rw [if_neg (by simp), if_neg (by simp [hst, had]), hvg]
    dsimp only
    rw [← spoilDelta, hch]
    dsimp only
    simp only [State.entryChanged, spoiledEntry, State.node]
  · refine State.poolMoved_congr hm ?_ ⟨rfl, rfl⟩
    subst hv
    exact ⟨rfl, rfl⟩
  · rw [hru, ← hv]
    exact hreg
  · rw [hru, ← hv]

end

theorem State.ticketFp_congr {s t : State} {n : PoolId} {serial : Serial} {fp : BitVec 128} (h : s.ticketFp n serial fp)
    (hk : t.ks = s.ks) (hr : t.ru = s.ru) (hs : t.skn = s.skn) : t.ticketFp n serial fp := by
  obtain ⟨k, hk', hf⟩ := h
  refine ⟨k, ?_, ?_⟩
  · unfold State.slotServes at *
    rw [State.useSlot_congr hk, hr]
    exact hk'
  · simpa [State.node, hs] using hf

/-- A ticket of this device, issued and never let in, is spoiled or voided by one command. -/
theorem completes_spoil {op : BitVec 16} {void : Bool} {i : Instr} {c : Cmd} {s : State} {f : Fetched} {p : Pool}
    {fp : BitVec 128} {e : Entry} {place : Place} (h : Runs op none c s f)
    (hi : exec i s = .next (runOp op none (spoilBody void) c s)) (hp : s.pool c.poolA = some p) (ha : s.admits)
    (hf : s.isFrozen p = false) (ht : s.ticketFp c.poolA (BitVec.ofNat 40 (c.pkt.field 32 5)) fp)
    (hr : (s.regFind fp).2 = some (e, place)) (hst : e.state = stIssued) (had : e.admits = 0)
    (hc : s.checkerPasses c.poolA (spoilDelta void)) :
    Completes i s fun t => t.ru.reg.entryAt place = some (spoiledEntry void e s.gctl.time) ∧
      s.poolMoved t c.poolA (spoilDelta void) id ∧ t.ru.jrn.seq = s.ru.jrn.seq + 1 ∧ t.answersDurable c.q f 0 := by
  obtain ⟨r, v, hb, hg, hm, hreg, hseq⟩ := spoilBody_passes (x := s.ctxRun op none c f) (s := s.begun op none c f) (void := void)
    (by rw [State.ctxRun_pool, State.begun_pool]; exact hp) (by rw [State.begun_isFrozen]; exact hf) (State.admits_begun _ _ _ _ ha)
    (by
      rw [State.ctxRun_pool]
      exact State.ticketFp_congr ht (State.begun_ks ..) (State.begun_ru ..) (State.begun_skn ..))
    hr (State.begun_ru ..).symm hst had (by rw [State.ctxRun_pool]; exact State.checkerPasses_begun _ _ _ _ hc)
  rw [State.ctxRun_pool] at hm
  rw [hg, State.begun_gctl] at hb
  rw [State.begun_ru] at hseq
  obtain ⟨h1, h2, h3, h4⟩ := v.entryChanged_leaves place (spoiledEntry void e s.gctl.time) r fp
  refine completes_recorded h hi hb rfl rfl fun t hd hw => ⟨?_, ?_, ?_, hd⟩
  · rw [State.replyWaits_ru hw (by decide), h1]
    exact Register.entryAt_setEntry hreg _
  · obtain ⟨-, a, hl⟩ := hw
    exact State.poolMoved_congr hm ⟨State.begun_pools .., State.begun_live ..⟩ ⟨by rw [hl]; exact h3, by rw [hl]; exact h4⟩
  · rw [State.replyWaits_ru hw (by decide), h2, hseq]

/-- Settles O6: both commands are one change of an entry and of a counter. -/
theorem ticketsAreSpoiledAndVoided : Obligations.TicketsAreSpoiledAndVoided := by
  intro c s f n p fp e place hn hp ha hf ht hr hst had
  subst hn
  exact ⟨fun h hc => completes_spoil (void := false) h rfl hp ha hf ht hr hst had hc,
    fun h hc => completes_spoil (void := true) h rfl hp ha hf ht hr hst had hc⟩

end Sys2Proof.Machine
end

section
/-! PROOFS. Locks on pools (R83, R84). -/

namespace Sys2Proof.Machine

set_option Elab.async false

section
variable {op : BitVec 16} {sub : Option Byte} {c : Cmd} {s : State} {f : Fetched}

/-- A command begins with the ledger as it is where no lock is held on the pool it names. -/
theorem State.begun_led_unlocked (h : ∀ n, (opInfo op).bind (namedPool (rowPacket op sub c.pkt)) = some n → s.lock n = none) :
    (s.begun op sub c f).led = s.led := by
  have ht (u : State) (hu : u.led = s.led) : (u.touchLock c.q (rowPacket op sub c.pkt)).led = s.led := by
    have hl (n : PoolId) : u.lock n = s.lock n := by simp [State.lock, hu]
    unfold State.touchLock
    rw [rowPacket_opcode]
    split
    · exact hu
    next n hn =>
      rw [hl, h n hn]
      exact hu
  unfold State.begun
  dsimp only
  split
  · exact ht _ (State.setFetched_led ..)
  · exact ht _ (State.setFetched_led ..)

end

section
variable {x : Ctx} {s : State} {n : PoolId} {p : Pool} {u : Nat}

/-- The lock that `LOCK_ACQUIRE` records (R83). -/
def State.acquired (x : Ctx) (n : PoolId) (p : Pool) (u : Nat) (s : State) : Lock :=
  { gen := s.led.lockGen.get n.toNat 0 + 1, q := x.c.q, epoch := x.epoch, first := p.next, next := p.next, last := p.next + u - 1
    units := u, lease := leaseOf x.c.pkt, deadline := s.now + leaseOf x.c.pkt * 800000 }

/-- A lock recorded, with its generation. -/
def State.withLock (n : PoolId) (k : Lock) (s : State) : State :=
  { s with led := { s.led with locks := s.led.locks.put n.toNat k, lockGen := s.led.lockGen.put n.toNat k.gen } }

theorem lockAcquireBody_passes (hn : n = BitVec.ofNat 16 (hIndex x.c.pkt.handleA)) (hu : u = x.c.pkt.field 32 4)
    (hp : s.pool n = some p) (hr : lockRefusal s x n u p = none) (hc : s.checkerPasses n { a := -(u : Int), r := u }) :
    ∃ v r, s.poolMoved v n { a := -(u : Int), r := u } (fun p => { p with next := p.next + u }) ∧ v.ru = s.ru ∧
      v.led.locks = s.led.locks ∧ v.led.lockGen = s.led.lockGen ∧
      lockAcquireBody x s =
        { s := (v.withLock n (v.acquired x n p u)).chain r, cyc := 2014
          inl := inlAt 0 (lockHandle n (v.acquired x n p u)).toNat ||| inlAt 4 (p.next % 2 ^ 32), when_ := .group } := by
  obtain ⟨hch, hm, ht, -, hl⟩ := State.change_moves (fun p => { p with next := p.next + u }) hc
  refine ⟨_, { typ := 0x08, pool := n, serial := BitVec.ofNat 40 p.next, delta := BitVec.ofNat 32 u }, hm, ht .ru (by decide), hl,
    ?_, ?_⟩
  · obtain ⟨p', tot, live, -, -, he⟩ := State.change_passes (fun p => { p with next := p.next + u }) hc
    rw [he]
    rfl
  · subst hn hu
    simp only [lockAcquireBody, hp, hr]
    rw [hch]
    rfl

/-- The lock of a pool that is not frozen, ended: its units go back to A (R84). -/
theorem State.endLock_thawed {k : Lock} {flags : Byte} (hk : s.lock n = some k) (hp : s.pool n = some p) (hf : s.isFrozen p = false)
    (hc : s.checkerPasses n { a := k.units, r := -(k.units : Int) }) :
    ∃ v r, s.poolMoved v n { a := k.units, r := -(k.units : Int) } id ∧ v.ru = s.ru ∧ v.led.locks = s.led.locks.del n.toNat ∧
      s.endLock n flags [] = (v.chain r).afterGroup [] := by
  generalize hw : ({ s with led := { s.led with locks := s.led.locks.del n.toNat } } : State) = w
  have hpw : w.pool n = some p := by
    subst hw
    exact hp
  have hfw : (w.pool n).any w.isFrozen = false := by
    rw [hpw]
    subst hw
    exact hf
  have hcw : w.checkerPasses n { a := k.units, r := -(k.units : Int) } := by
    subst hw
    exact hc
  obtain ⟨hch, hm, ht, -, hl⟩ := State.change_moves id hcw
  have hru : (w.change n { a := k.units, r := -(k.units : Int) } id).1.ru = w.ru := ht .ru (by decide)
  refine ⟨_, { typ := 0x09, flags, pool := n, serial := BitVec.ofNat 40 k.next, delta := BitVec.ofNat 32 k.units },
    State.poolMoved_congr hm ?_ ⟨rfl, rfl⟩, ?_, ?_, ?_⟩
  · subst hw
    exact ⟨rfl, rfl⟩
  · rw [hru, ← hw]
  · rw [hl, ← hw]
  · rw [State.endLock, hk]
    dsimp only
    rw [hw, hfw]
    simp only [Bool.false_eq_true, if_false]
    rw [hch]
    rfl

/-- `LOCK_RELEASE` by the lock's owner (R84). -/
theorem lockReleaseBody_passes {k : Lock} {v : State} {r : JRec} (hn : n = BitVec.ofNat 16 (hIndex x.c.pkt.handleA % 65536))
    (hk : s.lock n = some k) (hg : k.gen.toNat = hIndex x.c.pkt.handleA / 65536) (hf : k.first % 2 ^ 32 = x.c.pkt.field 32 4)
    (hq : k.q = x.c.q) (he : k.epoch = x.epoch) (hr : s.room 1 = true) (hp : s.pool n = some p)
    (hc : s.checkerPasses n { a := k.units, r := -(k.units : Int) })
    (hv : s.endLock n 1 [] = (v.chain r).afterGroup []) (hm : s.poolMoved v n { a := k.units, r := -(k.units : Int) } id) :
    lockReleaseBody x s = { s := (v.chain r).afterGroup [], cyc := 2002, inl := inlAt 0 k.units, when_ := .group } := by
  obtain ⟨hch, -⟩ := State.change_moves id hc
  have hin : ((((v.chain r).afterGroup []).pool n).map (·.a)).getD 0 - p.a = k.units := by
    obtain ⟨p', tot, hp', hpv, hmv, -⟩ := hm
    obtain rfl : p' = p := Option.some.inj (hp'.symm.trans hp)
    have hpool : ((v.chain r).afterGroup []).pool n = v.pool n := State.pool_congr (by simp [State.afterGroup]) n
    have ha := hmv.2.2.1
    rw [hpool, hpv]
    simp only [Option.map_some, Option.getD_some, id, Pool.withTotals]
    simp only [Pool.totals] at ha
    omega
  have hg' : ¬(k.gen.toNat ≠ hIndex x.c.pkt.handleA / 65536 ∨ k.first % 2 ^ 32 ≠ x.c.pkt.field 32 4) := fun h => h.elim (· hg) (· hf)
  have ho : (k.q == x.c.q && k.epoch == x.epoch) = true := by simp [hq, he]
  simp only [lockReleaseBody, ← hn, hk]
  rw [if_neg hg', ho, hr, hp, hch]
  simp only [Bool.not_true, Bool.false_and, Bool.and_false, Bool.false_eq_true, if_false, if_true, hv]
  rw [Option.map_some, Option.getD_some, hin]

end

/-- Where a lock is recorded and a record chained, a reply that waits leaves the lock as it is. -/
theorem State.replyWaits_lock {L : List Aspect} {s t : State} (h : s.replyWaits L t) (m : PoolId) : t.lock m = s.lock m := by
  obtain ⟨-, a, hl⟩ := h
  simp [State.lock, hl]

theorem PoolId.toNat_ne {m n : PoolId} (h : m ≠ n) : m.toNat ≠ n.toNat := fun e => h (BitVec.eq_of_toNat_eq e)

theorem State.lock_withLock (n : PoolId) (k : Lock) (s : State) :
    (s.withLock n k).lock n = some k ∧ ∀ m, m ≠ n → (s.withLock n k).lock m = s.lock m :=
  ⟨by simp [State.lock, State.withLock], fun m hm => by simp [State.lock, State.withLock, Tab.find_put_ne _ _ (PoolId.toNat_ne hm)]⟩

theorem State.lock_chain (r : JRec) (s : State) (m : PoolId) : (s.chain r).lock m = s.lock m := by simp [State.lock]

/-- `LOCK_ACQUIRE` (R83). -/
theorem completes_lockAcquire {c : Cmd} {s : State} {f : Fetched} {p : Pool} {n : PoolId} {u : Nat}
    (hn : n = BitVec.ofNat 16 (hIndex c.pkt.handleA)) (hu : u = c.pkt.field 32 4) (h : Runs 0x0107 none c s f)
    (hp : s.pool n = some p) (ho : s.isOpen p = true) (hl : s.lock n = none)
    (hlen : (s.locksOf c.q (s.queue c.q).epoch).length < 255) (hr : s.room 1 = true) (hlow : s.supplyLow = false) (hua : u ≤ p.a)
    (hser : p.next + u ≤ p.limit + 1) (hc : s.checkerPasses n { a := -(u : Int), r := u }) :
    Completes (.lockAcquire c) s fun t =>
      s.poolMoved t n { a := -(u : Int), r := u } (fun p => { p with next := p.next + u }) ∧
      (∃ k, t.lock n = some k ∧ k.q = c.q ∧ k.epoch = (s.queue c.q).epoch ∧ k.first = p.next ∧ k.next = p.next ∧
        k.last = p.next + u - 1 ∧ k.units = u ∧ k.gen = s.led.lockGen.get n.toNat 0 + 1 ∧
        t.answersDurable c.q f (inlAt 0 (lockHandle n k).toNat ||| inlAt 4 (p.next % 2 ^ 32))) ∧
      (∀ m, m ≠ n → t.lock m = s.lock m) ∧ t.ru.jrn.seq = s.ru.jrn.seq + 1 := by
  have hled : (s.begun 0x0107 none c f).led = s.led := by
    refine State.begun_led_unlocked fun m hm => ?_
    have hm' : some (BitVec.ofNat 16 (hIndex c.pkt.handleA)) = some m := hm
    rw [← Option.some.inj hm', ← hn]
    exact hl
  have href : lockRefusal (s.begun 0x0107 none c f) (s.ctxRun 0x0107 none c f) n u p = none := by
    have h1 : ((s.begun 0x0107 none c f).lock n).isNone = true := by rw [State.lock, hled, ← State.lock, hl]; rfl
    have h2 : (s.begun 0x0107 none c f).locksOf c.q (s.queue c.q).epoch = s.locksOf c.q (s.queue c.q).epoch := by
      rw [State.locksOf, hled]
      rfl
    obtain ⟨h3, h4⟩ := State.admits_begun 0x0107 none c f ⟨hr, hlow⟩
    simp only [lockRefusal, State.begun_isOpen, State.ctxRun_c, State.ctxRun_epoch, firstFail, ho, h1, h2, h3, h4, hlen, hua, hser,
      decide_true, Bool.not_false, if_true]
  obtain ⟨v, r, hm, hru, hlk, hgen, hb⟩ := lockAcquireBody_passes (x := s.ctxRun 0x0107 none c f) hn hu
    ((State.begun_pool ..).trans hp) href (State.checkerPasses_begun _ _ _ _ hc)
  obtain ⟨h1, h2⟩ := State.lock_withLock n (v.acquired (s.ctxRun 0x0107 none c f) n p u) v
  refine completes_recorded h rfl hb rfl rfl fun t hd hw => ⟨?_, ⟨v.acquired (s.ctxRun 0x0107 none c f) n p u, ?_, rfl, rfl, rfl, rfl,
    rfl, rfl, ?_, hd⟩, fun m hm => ?_, ?_⟩
  · obtain ⟨-, a, hl⟩ := hw
    refine State.poolMoved_congr hm ⟨State.begun_pools .., State.begun_live ..⟩ ?_
    rw [hl]
    simp [State.withLock]
  · rw [State.replyWaits_lock hw, State.lock_chain, h1]
  · rw [State.acquired, hgen, hled]
  · rw [State.replyWaits_lock hw, State.lock_chain, h2 m hm, State.lock, hlk, hled]
    rfl
  · rw [State.replyWaits_ru hw (by decide), State.chain_seq]
    simp [State.withLock, hru]

/-- `LOCK_RELEASE` of the lock's owner (R84). -/
theorem completes_lockRelease {c : Cmd} {s : State} {f : Fetched} {p : Pool} {n : PoolId} {k : Lock}
    (hn : n = BitVec.ofNat 16 (hIndex c.pkt.handleA % 65536)) (h : Runs 0x0108 none c s f) (hk : s.lock n = some k)
    (hg : k.gen.toNat = hIndex c.pkt.handleA / 65536) (hf : k.first % 2 ^ 32 = c.pkt.field 32 4) (hq : k.q = c.q)
    (he : k.epoch = (s.queue c.q).epoch) (hr : s.room 1 = true) (hp : s.pool n = some p) (hfr : s.isFrozen p = false)
    (hsort : Tab.sorted s.led.locks = true) (hc : s.checkerPasses n { a := k.units, r := -(k.units : Int) }) :
    Completes (.lockRelease c) s fun t =>
      s.poolMoved t n { a := k.units, r := -(k.units : Int) } id ∧ t.lock n = none ∧
      (∀ m, m ≠ n → t.lock m = s.lock m) ∧ t.answersDurable c.q f (inlAt 0 k.units) ∧ t.ru.jrn.seq = s.ru.jrn.seq + 1 := by
  have hled : (s.begun 0x0108 none c f).led = s.led := State.begun_led_same _ _ _ _ _ rfl
  have hk' : (s.begun 0x0108 none c f).lock n = some k := by rw [State.lock, hled]; exact hk
  have hr' : (s.begun 0x0108 none c f).room 1 = true := by
    unfold State.room State.ringDepth at *
    rwa [State.begun_ru]
  have hp' : (s.begun 0x0108 none c f).pool n = some p := (State.begun_pool ..).trans hp
  have hc' := State.checkerPasses_begun 0x0108 none c f hc
  obtain ⟨v, r, hm, hru, hlk, hv⟩ := State.endLock_thawed (flags := 1) hk' hp' ((State.begun_isFrozen ..).trans hfr) hc'
  have hb := lockReleaseBody_passes (x := s.ctxRun 0x0108 none c f) hn hk' hg hf hq he hr' hp' hc' hv hm
  rw [hled] at hlk
  have hlock (m : PoolId) : ((v.chain r).afterGroup []).lock m = (s.led.locks.del n.toNat).find m.toNat := by
    simp [State.lock, State.afterGroup, hlk]
  refine completes_recorded h rfl hb rfl rfl fun t hd hw => ⟨?_, ?_, fun m hm => ?_, hd, ?_⟩
  · obtain ⟨-, a, hl⟩ := hw
    refine State.poolMoved_congr hm ⟨State.begun_pools .., State.begun_live ..⟩ ?_
    rw [hl]
    simp [State.afterGroup]
  · rw [State.replyWaits_lock hw, hlock]
    exact Tab.find_del hsort _
  · rw [State.replyWaits_lock hw, hlock]
    exact Tab.find_del_ne hsort (PoolId.toNat_ne hm)
  · rw [State.replyWaits_ru hw (by decide)]
    simp [State.afterGroup, hru]

/-- Settles O3, by the change, the lock and the record of each command. -/
theorem locksTakeAndReturnUnits : Obligations.LocksTakeAndReturnUnits :=
  fun _ _ _ _ => ⟨fun _ _ hn hu h hp ho hl hlen hr hlow hua hser hc => completes_lockAcquire hn hu h hp ho hl hlen hr hlow hua hser hc,
    fun _ _ hn h hk hg hf hq he hr hp hfr hsort hc => completes_lockRelease hn h hk hg hf hq he hr hp hfr hsort hc⟩

end Sys2Proof.Machine
end

section
/-! PROOFS. Queues and domains (R34, R38, R59, R62). -/

namespace Sys2Proof.Machine

set_option Elab.async false

theorem State.queue_sendMsix_any (v : BitVec 11) (s : State) (r : QId) : (s.sendMsix v).queue r = s.queue r :=
  State.queue_congr (by simp) (by simp) r

section
variable {s : State} {q : QId} {x : Queue} {delete : Bool} {h : Held}

/-- A queue with nothing in flight whose end has begun (R62 steps 1 to 3). -/
def Queue.ending_ (delete : Bool) (x : Queue) : Queue :=
  { x with st := if delete then .deleting else .resetting, chainOpen := false, inflight := [], ending := none }

/-- The queue that its end leaves (R62 step 5). -/
def Queue.ended (delete : Bool) (x : Queue) : Queue :=
  if delete then { x with st := .absent, ending := none } else x.renewed

theorem State.abortQueued_idle {st : QueueSt} (hx : x = s.queue q) (hi : x.inflight = []) :
    s.abortQueued q st = (s.setQueue q { x with st, chainOpen := false, inflight := [] }, 0) := by
  subst hx
  simp [State.abortQueued, hi]

@[simp] theorem State.setQueue_setQueue (q : QId) (x y : Queue) (s : State) : (s.setQueue q x).setQueue q y = s.setQueue q y := by
  have hp : (s.queues.put q.toNat x).put q.toNat y = s.queues.put q.toNat y := by
    generalize s.queues = t
    induction t with
    | nil => simp [Tab.put]
    | cons p t ih =>
      obtain ⟨j, w⟩ := p
      simp only [Tab.put]
      (repeat' split) <;> simp_all [Tab.put]
  simp [State.setQueue, hp]

/-- What follows when the last packet is gone: no lock to end, and the queue ended at once. -/
theorem State.endQueue_idle {e : Ending} (hl : s.locksOf q (s.queue q).epoch = []) (hf : s.ru.jrn.forced = []) :
    s.endQueue q e = (s.setQueue q { s.queue q with ending := none }).finishQueue q e 0 := by
  have hll : s.locksLeft q (s.queue q).epoch = [] := by simp [State.locksLeft, hl]
  simp [State.endQueue, hll, State.endLocks, State.forceLast, hf, State.doForced]

/-- The last step of a queue's end that a command waits for, where no lock was released. -/
theorem State.finishQueue_idle (hx : x = s.queue q) :
    ∃ w : State, s.finishQueue q { h := some h, delete, aborted := 0 } 0 =
        w.postReply (({ h := some h, delete, aborted := 0 } : Ending).reply 0 (x.epoch + 1) h) ∧
      w.queue q = x.ended delete ∧ ∀ r, r ≠ q → w.queue r = s.queue r := by
  subst hx
  refine ⟨_, rfl, ?_, fun r hr => ?_⟩
  · dsimp only
    split
    · rw [State.queue_sendMsix_any, State.queue_setQueue]
      rfl
    · rw [State.queue_setQueue]
      rfl
  · dsimp only
    split
    · rw [State.queue_sendMsix_any, State.queue_setQueue_ne _ _ _ _ hr]
    · rw [State.queue_setQueue_ne _ _ _ _ hr]

/-- The end of a queue that has nothing in flight and owns no lock: the queue as its end leaves it, then the reply. -/
theorem State.beginEnding_idle (hx : x = s.queue q) (hi : x.inflight = []) (hl : s.locksOf q x.epoch = []) (hf : s.ru.jrn.forced = []) :
    ∃ w : State, s.beginEnding q delete (some h) =
        w.postReply (({ h := some h, delete, aborted := 0 } : Ending).reply 0 (x.epoch + 1) h) ∧
      w.queue q = (x.ending_ delete).ended delete ∧ ∀ r, r ≠ q → w.queue r = s.queue r := by
  have hb : s.beginEnding q delete (some h) =
      (s.setQueue q (x.ending_ delete)).finishQueue q { h := some h, delete, aborted := 0 } 0 := by
    rw [State.beginEnding, State.abortQueued_idle hx hi]
    dsimp only
    rw [State.queue_setQueue]
    dsimp only
    rw [if_pos List.isEmpty_nil, State.endQueue_idle (s := s.setQueue q _) (by rw [State.queue_setQueue]; exact hl) hf,
      State.queue_setQueue, State.setQueue_setQueue]
    rfl
  obtain ⟨w, h1, h2, h3⟩ := State.finishQueue_idle (s := s.setQueue q (x.ending_ delete)) (q := q) (delete := delete) (h := h)
    (x := x.ending_ delete) (State.queue_setQueue _ _ _).symm
  exact ⟨w, hb.trans h1, h2, fun r hr => (h3 r hr).trans (State.queue_setQueue_ne _ _ _ _ hr)⟩

end

section
variable {c : Cmd} {s : State} {f : Fetched} {q : QId}

/-- The reply of a queue's end, on the queue of the command that asked for it. -/
theorem State.ending_answers {op : BitVec 16} {w : State} {cyc : Nat} {e : Ending} {epoch : BitVec 16} (h : Runs op none c s f)
    (hw : w.queue c.q = (s.begun op none c f).queue c.q) :
    (w.postReply (e.reply 0 epoch ((s.ctxRun op none c f).held 0 cyc 0 []))).answers c.q f 0
      (inlAt 0 e.aborted ||| inlAt 2 0 ||| (if e.delete then 0 else inlAt 4 epoch.toNat)) := by
  obtain ⟨r, h1, h2, h3, h4, h5⟩ := State.postReply_answers (e.reply 0 epoch ((s.ctxRun op none c f).held 0 cyc 0 [])) w
    { f with running := true } h.host (by
      rw [show (e.reply 0 epoch ((s.ctxRun op none c f).held 0 cyc 0 [])).q = c.q from rfl, hw]
      exact h.inflight) (by simp [Ending.reply, Ctx.held, h.pkt])
  exact ⟨r, h1, h2, h3, h4, h5⟩

theorem completes_queueEnd {op : BitVec 16} {i : Instr} {delete : Bool} {cyc : Nat} (h : Runs op none c s f)
    (hi : exec i s = .next (runOp op none (queueEndBody delete cyc) c s)) (hl : reachesLedger op.toNat = false)
    (hq : q = BitVec.ofNat 14 (hIndex c.pkt.handleA)) (hne : q ≠ c.q)
    (hst : (s.queue q).st = .active) (hfl : (s.queue q).inflight = []) (hlk : s.locksOf q (s.queue q).epoch = [])
    (hf : s.ru.jrn.forced = []) (hdel : delete = true → q ≠ 0) :
    Completes i s fun t => t.queue q = ((s.queue q).ending_ delete).ended delete ∧
      t.answers c.q f 0 (if delete then 0 else inlAt 4 ((s.queue q).epoch + 1).toNat) := by
  have hled := State.begun_led_same op none c f s hl
  have hqb : (s.begun op none c f).queue q = s.queue q := State.queue_begun_ne _ _ _ _ _ _ hne
  obtain ⟨w, h1, h2, h3⟩ := State.beginEnding_idle (s := s.begun op none c f) (delete := delete)
    (h := (s.ctxRun op none c f).held 0 cyc 0 []) hqb.symm hfl (by rw [State.locksOf, hled]; exact hlk) (by rw [State.begun_ru]; exact hf)
  have hb : queueEndBody delete cyc (s.ctxRun op none c f) (s.begun op none c f) =
      { s := (s.begun op none c f).beginEnding q delete (some ((s.ctxRun op none c f).held 0 cyc 0 [])), cyc, when_ := .later } := by
    have hc : ¬(q = c.q ∨ ((s.begun op none c f).queue q).st ≠ .active ∨ (delete = true ∧ q = 0)) := by
      rw [hqb]
      rintro (h | h | ⟨h, h'⟩)
      exacts [hne h, h hst, hdel h h']
    simp only [queueEndBody, State.ctxRun_c, rowPacket_handleA, ← hq]
    rw [if_neg hc]
  refine completes_later h hi hb rfl ?_
  rw [h1]
  refine ⟨(State.queue_postReply_ne _ _ _ hne).trans h2, ?_⟩
  have := State.ending_answers (cyc := cyc) (e := { h := some ((s.ctxRun op none c f).held 0 cyc 0 []), delete, aborted := 0 })
    (epoch := (s.queue q).epoch + 1) h (h3 c.q (Ne.symm hne))
  simpa [inlAt] using this

end

section
variable {c : Cmd} {s : State} {f : Fetched}

@[simp] theorem State.begun_policy (op : BitVec 16) (sub : Option Byte) (c : Cmd) (f : Fetched) (s : State) (d : Dom) :
    (s.begun op sub c f).policy d = s.policy d := by
  simp [State.policy]

theorem queueParamsOk_begun {op : BitVec 16} {sub : Option Byte} (h : Runs op sub c s f) (p : Packet) :
    queueParamsOk (s.begun op sub c f) p = queueParamsOk s p := by
  simp only [queueParamsOk, State.begun_policy, State.begun_queueCount h]

theorem policyOk_begun {op : BitVec 16} {sub : Option Byte} (h : Runs op sub c s f) (d : Dom) (v : Policy) :
    policyOk (s.begun op sub c f) d v = policyOk s d v := by
  simp only [policyOk, State.begun_queueCount h]

/-- `QUEUE_CREATE` of an absent queue (R34, R59). -/
theorem completes_queueCreate {q : QId} (hq : q = BitVec.ofNat 14 (hIndex c.pkt.handleA)) (h : Runs 0x0101 none c s f) (h0 : q ≠ 0)
    (hst : (s.queue q).st = .absent) (hp : queueParamsOk s c.pkt = true) :
    Completes (.queueCreate c) s fun t =>
      t.queue q = newQueue c.pkt ((s.queue q).epoch + 1) ∧ (t.queue q).st = .active ∧
      t.answers c.q f 0 (inlAt 0 ((s.queue q).epoch + 1).toNat) := by
  have hne : q ≠ c.q := fun e => h.live (e ▸ hst)
  have hqb : (s.begun 0x0101 none c f).queue q = s.queue q := State.queue_begun_ne _ _ _ _ _ _ hne
  have hb : queueCreateBody (s.ctxRun 0x0101 none c f) (s.begun 0x0101 none c f) =
      { s := (s.begun 0x0101 none c f).setQueue q (newQueue c.pkt ((s.queue q).epoch + 1)), cyc := 238
        inl := inlAt 0 ((s.queue q).epoch + 1).toNat } := by
    have hc : ¬(q = 0 ∨ (s.queue q).st ≠ .absent) := fun h => h.elim h0 (· hst)
    have hp' : queueParamsOk (s.begun 0x0101 none c f) (rowPacket 0x0101 none c.pkt) = true := (queueParamsOk_begun h _).trans hp
    simp only [queueCreateBody, State.ctxRun_c, rowPacket_handleA, ← hq, hqb]
    rw [if_neg hc, hp']
    rfl
  refine completes_now h rfl hb rfl (State.queue_setQueue_ne _ _ _ _ (Ne.symm hne)) fun ha => ?_
  have hk (o : Out) (hw : o.when_ = .now) : (o.finish (s.ctxRun 0x0101 none c f)).queue q = o.s.queue q := by
    simp only [Out.finish, hw]
    exact State.queue_postReply_ne _ _ _ hne
  rw [hk _ rfl, State.queue_setQueue]
  exact ⟨rfl, rfl, ha⟩

/-- `DOMAIN_CONFIG` of a policy that is in order (R38). -/
theorem completes_domainConfig (h : Runs 0x0104 none c s f) (hm : c.memErr = none)
    (hp : policyOk s (c.pkt.byteAt 32) (policyOf c.bytes) = true) :
    Completes (.domainConfig c) s fun t =>
      t.policy (c.pkt.byteAt 32) = policyOf c.bytes ∧ (∀ d, d ≠ c.pkt.byteAt 32 → t.policy d = s.policy d) ∧ t.answers c.q f 0 0 := by
  have hb : domainConfigBody (s.ctxRun 0x0104 none c f) (s.begun 0x0104 none c f) =
      { s := ({ s.begun 0x0104 none c f with
          domains := (s.begun 0x0104 none c f).domains.put (c.pkt.byteAt 32).toNat (policyOf c.bytes) } : State).sync 0, cyc := 366 } := by
    rw [domainConfigBody, withData_ok hm]
    simp only [State.ctxRun_c, rowPacket_none_byteAt, policyOk_begun h, hp, Bool.not_true, Bool.false_eq_true, if_false]
  refine completes_now h rfl hb rfl (State.queue_congr (by simp) (by simp) _) fun ha => ?_
  refine ⟨by simp [State.policy], fun d hd => ?_, ha⟩
  have hne : d.toNat ≠ (c.pkt.byteAt 32).toNat := fun e => hd (BitVec.eq_of_toNat_eq e)
  simp [State.policy, Tab.get_put_ne _ _ _ hne]

end

/-- Settles O2: creation and configuration by their checks, the end of an idle queue by the steps of its reset. -/
theorem queuesAndDomainsAreSetUp : Obligations.QueuesAndDomainsAreSetUp := by
  refine ⟨fun c s f => ⟨fun q hq h h0 hst hp => completes_queueCreate hq h h0 hst hp, fun h hm hp => completes_domainConfig h hm hp⟩,
    fun c s f q hq hne hst hfl hlk hf => ⟨fun h => ?_, fun h h0 => ?_⟩⟩
  · refine (completes_queueEnd (delete := false) h rfl rfl hq hne hst hfl hlk hf (by simp)).mono fun t ⟨ht, ha⟩ => ?_
    rw [ht]
    exact ⟨rfl, rfl, rfl, rfl, rfl, rfl, rfl, rfl, ha⟩
  · refine (completes_queueEnd (delete := true) h rfl rfl hq hne hst hfl hlk hf fun _ => h0).mono fun t ⟨ht, ha⟩ => ?_
    rw [ht]
    exact ⟨rfl, rfl, ha⟩

end Sys2Proof.Machine
end

section
/-! PROOFS. Exports, transfers and imports (R284, R379, R380). -/

namespace Sys2Proof.Machine

set_option Elab.async false

/-- A record chained leaves the records pledged. -/
theorem State.chain_pledged (r : JRec) (s : State) : (s.chain r).ru.jrn.pledged = s.ru.jrn.pledged := by
  unfold State.chain State.toRing
  dsimp only
  split <;> simp

/-- The first phase of an `EXPORT_CARD` whose change passes (R284 step 2, R379). -/
theorem State.phaseOne_passes {s : State} {n : PoolId} {u row : Nat} {serial : Serial} {hash : BitVec 64} {t : Transfer}
    (hc : s.checkerPasses n { a := -(u : Int), t := u }) :
    ∃ v, s.phaseOne n u serial hash row t = (v, true) ∧ s.poolMoved v n { a := -(u : Int), t := u } id ∧
      v.ru.jrn.seq = s.ru.jrn.seq + 1 ∧ v.ru.jrn.pledged = s.ru.jrn.pledged + 1 ∧ v.skn.transfers.find row = some t := by
  obtain ⟨hch, hm, -⟩ := State.change_moves id hc
  have he : s.phaseOne n u serial hash row t =
      ((((s.change n { a := -(u : Int), t := u } id).1.chain
        { typ := 0x0A, pool := n, serial, fp := hash ++ t.id, delta := BitVec.ofNat 32 u }).pledge 1).setTransfer row t, true) := by
    simp only [State.phaseOne]
    rw [hch]
  refine ⟨_, he, State.poolMoved_congr hm ⟨rfl, rfl⟩ ?_, ?_, ?_, ?_⟩
  · simp [State.setTransfer, State.pledge]
  · simp [State.setTransfer, State.pledge]
  · simp [State.setTransfer, State.pledge, State.chain_pledged]
  · simp [State.setTransfer]

section
variable {x : Ctx} {s : State} {p : Pool} {u row : Nat}

/-- The checks of an `EXPORT_CARD` that all pass (R79, R284, R379). -/
theorem exportRefusal_passes (ho : s.isOpen p = true) (hl : p.exclusive = false ∨ s.lock x.pool = none) {j : Nat} (hr : s.room j = true)
    (hlow : s.supplyLow = false) (hu : u ≤ p.a) : exportRefusal s x p j u = none := by
  have hl' : (x.c.pkt.locked || !p.exclusive || (s.lock x.pool).isNone || (x.ownLock s).isSome) = true := by
    rcases hl with h | h <;> simp [h]
  simp [exportRefusal, firstFail, ho, hl', hr, hlow, hu]

/-- `TRANSFER_OUT` (R284). -/
theorem transferOutBody_passes {dest : BitVec 6} (hu : u = x.c.pkt.field 36 4) (hd : nodeOf (x.c.pkt.byteAt 32) = some dest)
    (hreach : s.reaches dest = true) (hp : s.pool x.pool = some p) (href : exportRefusal s x p 2 u = none) (hrow : s.freeRow = some row)
    (hc : s.checkerPasses x.pool { a := -(u : Int), t := u }) :
    ∃ (v : State) (t : Transfer), (s.poolMoved v x.pool { a := -(u : Int), t := u } id ∧ v.ru.jrn.seq = s.ru.jrn.seq + 1 ∧
      v.ru.jrn.pledged = s.ru.jrn.pledged + 1 ∧ v.skn.transfers.find row = some t) ∧ t.kind = 1 ∧ t.st = 1 ∧ t.pool = x.pool ∧
      t.units = BitVec.ofNat 32 u ∧ t.peer = dest.setWidth 8 ∧ t.id = s.nextXferId ∧
      transferOutBody x s = { s := v.afterGroup [.transferSend (x.held 0 4096 s.nextXferId []) row], cyc := 4096, when_ := .later } := by
  subst hu
  obtain ⟨v, hv, hleaves⟩ := State.phaseOne_passes (serial := 0) (hash := 0) (row := row)
    (t := { id := s.nextXferId, kind := 1, st := 1, pool := x.pool, units := BitVec.ofNat 32 (x.c.pkt.field 36 4)
            peer := dest.setWidth 8, dom := p.dom, peerPool := BitVec.ofNat 16 (x.c.pkt.field 34 2), time := s.gctl.time
            jseq := BitVec.ofNat 64 (s.ru.jrn.seq + 1), card := 0 }) hc
  refine ⟨v, _, hleaves, rfl, rfl, rfl, rfl, rfl, rfl, ?_⟩
  simp only [transferOutBody, hd, hreach, hp, href, hrow, Bool.not_true, Bool.false_eq_true, if_false]
  rw [hv]

/-- `EXPORT_CARD` (R379). -/
theorem exportCardBody_passes {slot : Nat} {k : BitVec 256 × BitVec 32} (hu : u = x.c.pkt.field 32 4) (hp : s.pool x.pool = some p)
    (href : exportRefusal s x p 2 u = none) (hself : x.c.pkt.field 40 8 ≠ s.life.serial.toNat) (hrdy : s.card.ready = true)
    (hwp : s.card.wp = false) (hfmt : s.card.formatted = true) (hslot : lowestFrom (fun k => !s.card.used k) 256 0 = some slot)
    (hrow : s.freeRow = some row) (hk : s.exportKeys p.dom = (s, .ok k)) (hc : s.checkerPasses x.pool { a := -(u : Int), t := u }) :
    ∃ (v : State) (t : Transfer), (s.poolMoved v x.pool { a := -(u : Int), t := u } id ∧ v.ru.jrn.seq = s.ru.jrn.seq + 1 ∧
      v.ru.jrn.pledged = s.ru.jrn.pledged + 1 ∧ v.skn.transfers.find row = some t) ∧ t.kind = 2 ∧ t.st = 1 ∧ t.pool = x.pool ∧
      t.units = BitVec.ofNat 32 u ∧ t.id = s.nextXferId ∧
      ∃ card, exportCardBody x s =
        { s := (v.afterGroup [.exportCard (x.held 0 4212 s.nextXferId []) row (BitVec.ofNat 64 (x.c.pkt.field 40 8))]).setCard card
          cyc := 4212, when_ := .later } := by
  subst hu
  obtain ⟨v, hv, hleaves⟩ := State.phaseOne_passes (serial := BitVec.ofNat 40 slot) (hash := cidHash s.card.cid) (row := row)
    (t := { id := s.nextXferId, kind := 2, st := 1, pool := x.pool, units := BitVec.ofNat 32 (x.c.pkt.field 32 4)
            peer := 0, dom := p.dom, peerPool := BitVec.ofNat 16 (x.c.pkt.field 36 2), time := s.gctl.time
            jseq := BitVec.ofNat 64 (s.ru.jrn.seq + 1)
            card := BitVec.ofNat 256 ((cidHash s.card.cid).toNat + slot * 2 ^ 64) }) hc
  have hff : firstFail [(decide (x.c.pkt.field 40 8 ≠ s.life.serial.toNat), stBadParameter), (s.card.ready, stCardAbsent),
      (!s.card.wp, stCardProtected), (s.card.formatted, stSlipInvalid)] = none := by
    simp [firstFail, hself, hrdy, hwp, hfmt]
  refine ⟨v, _, hleaves, rfl, rfl, rfl, rfl, rfl, { v.card with op := some (.exportDue row 0) }, ?_⟩
  simp only [exportCardBody, hp, href, hff, hslot, hrow, hk]
  rw [hv]
  rfl

/-- `IMPORT_CARD` of a slip that passes every check (R380). -/
theorem importCardBody_passes {v : Slip} (hp : s.pool x.pool = some p) (ho : s.isOpen p = true) (hr : s.room 1 = true)
    (hrdy : s.card.ready = true) (hn : x.c.pkt.field 32 4 < 256) (hfmt : s.card.formatted = true)
    (hv : slipOf (s.card.block (slipBlock (x.c.pkt.field 32 4))) = some v)
    (hs : slipRefusal s x.pool p (x.c.pkt.field 32 4) v = none) (hq : s.sequenceOk v = true)
    (hrow : (s.markRow v.serial v.kcv).isSome = true ∨ s.freeRow.isSome = true)
    (hc : s.checkerPasses x.pool { m := v.units.toNat, a := v.units.toNat }) :
    ∃ w, s.poolMoved w x.pool { m := v.units.toNat, a := v.units.toNat } id ∧ w.ru.jrn.seq = s.ru.jrn.seq + 1 ∧
      importCardBody x s = { s := w, cyc := 2310, inl := inlAt 0 v.units.toNat, when_ := .group } := by
  obtain ⟨hch, hm, ht, -, -⟩ := State.change_moves (fun p => p) hc
  generalize (s.change x.pool { m := v.units.toNat, a := v.units.toNat } fun p => p).1 = u at hch hm ht
  have hru : u.ru = s.ru := ht .ru (by decide)
  have hff : firstFail [(s.isOpen p, stPoolFrozen), (s.room 1, stBackpressure), (s.card.ready, stCardAbsent),
      (decide (x.c.pkt.field 32 4 < 256), stBadParameter), (s.card.formatted, stSlipInvalid)] = none := by
    simp [firstFail, ho, hr, hrdy, hn, hfmt]
  have hnone (o : Option (Nat × Transfer)) : o.isNone = !o.isSome := by cases o <;> rfl
  have hrow' : ((s.markRow v.serial v.kcv).isNone && s.freeRow.isNone) = false := by
    rcases hrow with h | h
    · rw [hnone, h]
      rfl
    · rw [Option.isNone_eq_false_iff.mpr h, Bool.and_false]
  have hnote (w : State) : ((w.noteImport v.serial v.kcv w.gctl.time w.ru.jrn.seq v.id).admitted 66).led = w.led ∧
      ((w.noteImport v.serial v.kcv w.gctl.time w.ru.jrn.seq v.id).admitted 66).ru = w.ru := by
    have h1 : w.touches [.skn, .sl] ((w.noteImport v.serial v.kcv w.gctl.time w.ru.jrn.seq v.id).admitted 66) := by simp
    exact ⟨h1 .led (by decide), h1 .ru (by decide)⟩
  obtain ⟨h1, h2⟩ := hnote (u.chain { typ := 0x0C, flags := 1, pool := x.pool, node := v.node, fp := v.serial ++ v.id,
                                         delta := v.units, aux := v.kcv })
  refine ⟨_, State.poolMoved_congr hm ⟨rfl, rfl⟩ ⟨by rw [h1]; simp, by rw [h1]; simp⟩, by rw [h2]; simp [hru], ?_⟩
  simp only [importCardBody, hp, hff, hv, hs, hq, hrow', Bool.not_true, Bool.false_eq_true, if_false]
  rw [hch]

end

section
variable {c : Cmd} {s : State} {f : Fetched}

/-- A card command runs when the card interface is idle. -/
theorem onCard_idle (op : BitVec 16) (sub : Option Byte) (body : Ctx → State → Out) (h : s.card.op = none) :
    onCard op sub body c s = runOp op sub body c s := by
  simp [onCard, h]

theorem State.room_begun (op : BitVec 16) (sub : Option Byte) (j : Nat) : (s.begun op sub c f).room j = s.room j := by
  unfold State.room State.ringDepth
  rw [State.begun_ru]

theorem State.supplyLow_begun (op : BitVec 16) (sub : Option Byte) : (s.begun op sub c f).supplyLow = s.supplyLow := by
  simp [State.supplyLow]

theorem exportRefusal_begun {op : BitVec 16} {sub : Option Byte} {p : Pool} {j u : Nat} (ho : s.isOpen p = true)
    (hl : p.exclusive = false ∨ s.lock c.poolA = none) (hr : s.room j = true) (hlow : s.supplyLow = false) (hu : u ≤ p.a) :
    exportRefusal (s.begun op sub c f) (s.ctxRun op sub c f) p j u = none :=
  exportRefusal_passes ((State.begun_isOpen ..).trans ho)
    (by rw [State.ctxRun_pool]; exact hl.imp_right State.lock_begun_none) ((State.room_begun ..).trans hr)
    ((State.supplyLow_begun ..).trans hlow) hu

theorem State.nextXferId_begun (op : BitVec 16) (sub : Option Byte) : (s.begun op sub c f).nextXferId = s.nextXferId := by
  simp [State.nextXferId, State.node]

theorem State.freeRow_begun (op : BitVec 16) (sub : Option Byte) : (s.begun op sub c f).freeRow = s.freeRow := by
  simp [State.freeRow]

/-- The keys of an `EXPORT_CARD`, read without a change. -/
theorem State.exportKeys_ok {d : Dom} {k : BitVec 256 × BitVec 32} {t : State} (h : (s.exportKeys d).2 = .ok k) (hk : t.ks = s.ks) :
    t.exportKeys d = (t, .ok k) := by
  have hd : t.dmk d = s.dmk d := by simp [State.dmk, hk]
  have hu := State.useSlot_congr hk 3 useJournal
  unfold State.exportKeys at h ⊢
  rw [hd]
  cases hm : s.dmk d with
  | none => simp [hm] at h
  | some m =>
    simp only [hm] at h ⊢
    rcases hs : s.useSlot 3 useJournal with ⟨s', e | k'⟩
    · simp [hs] at h
    · have ht := State.useSlot_ok (hu.trans (congrArg Prod.snd hs))
      simp only [hs] at h
      simp only [ht]
      exact congrArg (Prod.mk t) h

theorem slipRefusal_begun (op : BitVec 16) (sub : Option Byte) (n : PoolId) (p : Pool) (k : Nat) (v : Slip) :
    slipRefusal (s.begun op sub c f) n p k v = slipRefusal s n p k v := by
  simp only [slipRefusal, State.slipKeyOf, State.dmk, State.begun_life, State.begun_card, State.begun_ks]

theorem State.sequenceOk_begun (op : BitVec 16) (sub : Option Byte) (v : Slip) :
    (s.begun op sub c f).sequenceOk v = s.sequenceOk v := by
  simp only [State.sequenceOk, State.imported, State.markRow, State.begun_skn]

theorem State.markRow_begun (op : BitVec 16) (sub : Option Byte) (a : BitVec 64) (b : BitVec 32) :
    (s.begun op sub c f).markRow a b = s.markRow a b := by
  simp only [State.markRow, State.begun_skn]

/-- What an `EXPORT_CARD` or a transfer leaves behind its first phase. -/
theorem State.exported_leaves {u v t : State} {n : PoolId} {d : Delta} {row : Nat} {z : Transfer} {a : List After}
    (hu : (u.led.pools = s.led.pools ∧ u.led.live = s.led.live) ∧ u.ru = s.ru)
    (hv : u.poolMoved v n d id ∧ v.ru.jrn.seq = u.ru.jrn.seq + 1 ∧ v.ru.jrn.pledged = u.ru.jrn.pledged + 1 ∧
      v.skn.transfers.find row = some z)
    (ht : t.led = (v.afterGroup a).led ∧ t.ru = v.ru ∧ t.skn = v.skn) :
    s.poolMoved t n d id ∧ t.ru.jrn.seq = s.ru.jrn.seq + 1 ∧ t.ru.jrn.pledged = s.ru.jrn.pledged + 1 ∧
      t.skn.transfers.find row = some z ∧ ∀ y ∈ a, y ∈ t.led.group.after := by
  obtain ⟨hup, hur⟩ := hu
  obtain ⟨h1, h2, h3, h4⟩ := hv
  obtain ⟨hl, hr, hk⟩ := ht
  refine ⟨State.poolMoved_congr h1 hup ⟨by rw [hl]; rfl, by rw [hl]; rfl⟩, by rw [hr, h2, hur], by rw [hr, h3, hur],
    by rw [hk, h4], fun y hy => ?_⟩
  rw [hl]
  exact List.mem_append_right _ hy

end

/-- Settles O9: the three commands by the checks they pass, and by what one change of the pool leaves. -/
theorem exportsTransfersAndImports : Obligations.ExportsTransfersAndImports := by
  intro c s f n p hn hp ho
  subst hn
  refine ⟨?_, ?_, ?_⟩
  · intro u slot row k hu h hop hl hr hlow hua hself hrdy hwp hfmt hslot hrow hk hc
    obtain ⟨v, z, hv, z1, z2, z3, z4, z5, card, hb⟩ := exportCardBody_passes (x := s.ctxRun 0x020B none c f)
      (s := s.begun 0x020B none c f) (u := u) hu (by rw [State.ctxRun_pool]; exact (State.begun_pool ..).trans hp)
      (exportRefusal_begun ho hl hr hlow hua) (by rw [State.begun_life]; exact hself) (by rw [State.begun_card]; exact hrdy)
      (by rw [State.begun_card]; exact hwp) (by rw [State.begun_card]; exact hfmt) (by rw [State.begun_card]; exact hslot)
      ((State.freeRow_begun ..).trans hrow) (State.exportKeys_ok hk (State.begun_ks ..))
      (by rw [State.ctxRun_pool]; exact State.checkerPasses_begun _ _ _ _ hc)
    rw [State.ctxRun_pool] at hv z3
    rw [State.nextXferId_begun] at z5 hb
    refine completes_later h (by rw [← onCard_idle _ _ _ hop]; rfl) hb rfl ?_
    obtain ⟨h1, h2, h3, h4, h5⟩ := State.exported_leaves (s := s) (t := State.setCard card (v.afterGroup
      [.exportCard ((s.ctxRun 0x020B none c f).held 0 4212 s.nextXferId []) row (BitVec.ofNat 64 (c.pkt.field 40 8))]))
      ⟨⟨State.begun_pools .., State.begun_live ..⟩, State.begun_ru ..⟩ hv ⟨rfl, rfl, rfl⟩
    refine ⟨h1, h2, h3, ⟨z, h4, z1, z2, z3, z4, z5⟩, (s.ctxRun 0x020B none c f).held 0 4212 s.nextXferId [], h5 _ ?_, rfl, rfl⟩
    exact List.mem_singleton_self _
  · intro u row dest hu h hd hreach hl hr hlow hua hrow hc
    obtain ⟨v, z, hv, z1, z2, z3, z4, z5, z6, hb⟩ := transferOutBody_passes (x := s.ctxRun 0x020D none c f)
      (s := s.begun 0x020D none c f) (u := u) hu hd (by simpa [State.reaches] using hreach)
      (by rw [State.ctxRun_pool]; exact (State.begun_pool ..).trans hp) (exportRefusal_begun ho hl hr hlow hua)
      ((State.freeRow_begun ..).trans hrow) (by rw [State.ctxRun_pool]; exact State.checkerPasses_begun _ _ _ _ hc)
    rw [State.ctxRun_pool] at hv z3
    rw [State.nextXferId_begun] at z6 hb
    refine completes_later h rfl hb rfl ?_
    obtain ⟨h1, h2, h3, h4, h5⟩ := State.exported_leaves (s := s) (t := v.afterGroup
      [.transferSend ((s.ctxRun 0x020D none c f).held 0 4096 s.nextXferId []) row])
      ⟨⟨State.begun_pools .., State.begun_live ..⟩, State.begun_ru ..⟩ hv ⟨rfl, rfl, rfl⟩
    refine ⟨h1, h2, h3, ⟨z, h4, z1, z2, z3, z4, z5, z6⟩, (s.ctxRun 0x020D none c f).held 0 4096 s.nextXferId [], h5 _ ?_, rfl, rfl⟩
    exact List.mem_singleton_self _
  · intro v h hop hr hrdy hslot hfmt hv hsr hq hrow hc
    obtain ⟨w, hm, hseq, hb⟩ := importCardBody_passes (x := s.ctxRun 0x020C none c f) (s := s.begun 0x020C none c f) (v := v)
      (by rw [State.ctxRun_pool]; exact (State.begun_pool ..).trans hp) ((State.begun_isOpen ..).trans ho)
      ((State.room_begun ..).trans hr) (by rw [State.begun_card]; exact hrdy) hslot (by rw [State.begun_card]; exact hfmt)
      (by rw [State.begun_card]; exact hv) (by rw [State.ctxRun_pool, slipRefusal_begun]; exact hsr)
      ((State.sequenceOk_begun ..).trans hq) (by rw [State.markRow_begun, State.freeRow_begun]; exact hrow)
      (by rw [State.ctxRun_pool]; exact State.checkerPasses_begun _ _ _ _ hc)
    rw [State.ctxRun_pool] at hm
    refine completes_recorded h (by rw [← onCard_idle _ _ _ hop]; rfl) hb rfl rfl fun t hd hw => ⟨?_, ?_, hd⟩
    · obtain ⟨-, a, hl⟩ := hw
      exact State.poolMoved_congr hm ⟨State.begun_pools .., State.begun_live ..⟩ ⟨by rw [hl], by rw [hl]⟩
    · rw [State.replyWaits_ru hw (by decide), hseq, State.begun_ru]

end Sys2Proof.Machine
end

section
/-! PROOFS. Transfers settle (R284, R285, R381). -/

namespace Sys2Proof.Machine

set_option Elab.async false

/-! ## What a packet sent leaves of the Skein unit -/

/-- The Skein unit but for its ports and the sequences it sends next. -/
def State.sameNode (s t : State) : Prop :=
  t.skn = { s.skn with east := t.skn.east, west := t.skn.west, txSeq := t.skn.txSeq }

theorem State.sameNode.trans {s t u : State} (h : s.sameNode t) (k : t.sameNode u) : s.sameNode u := by
  unfold State.sameNode at *
  rw [k, h]

theorem State.sameNode_of_skn {s t : State} (h : t.skn = s.skn) : s.sameNode t := by
  unfold State.sameNode
  rw [h]

theorem State.sameNode_setPort (w : Port) (p : SkPort) (s : State) : s.sameNode (s.setPort w p) := by
  cases w <;> rfl

theorem State.sameNode_setPort_emit (w : Port) (p : SkPort) (x : Posted) (s : State) : s.sameNode ((s.setPort w p).emit x) :=
  (State.sameNode_setPort w p s).trans (State.sameNode_of_skn (by simp))

theorem State.sameNode_sendGroup (w : Port) (bs : Bytes) (s : State) : s.sameNode (s.sendGroup w bs) := by
  unfold State.sendGroup
  dsimp only
  split
  · rfl
  · exact State.sameNode_setPort_emit _ _ _ _

theorem State.sameNode_formGroups (w : Port) (n : Nat) (bs : Bytes) (s : State) : s.sameNode (s.formGroups w n bs) := by
  induction n generalizing bs s with
  | zero => exact State.sameNode_setPort _ _ _
  | succ n ih =>
    unfold State.formGroups
    split
    · exact State.sameNode_setPort _ _ _
    · exact (State.sameNode_sendGroup _ _ _).trans (ih _ _)

theorem State.sameNode_fillGroup (w : Port) (s : State) : s.sameNode (s.fillGroup w) := by
  unfold State.fillGroup
  dsimp only
  split
  · rfl
  · exact State.sameNode_formGroups _ _ _ _

theorem State.sameNode_transmit (w : Port) (p : SkPacket) (s : State) : s.sameNode (s.transmit w p) :=
  (State.sameNode_setPort_emit _ _ _ _).trans (State.sameNode_formGroups _ _ _ _)

theorem State.sameNode_freeFlits (w : Option Port) (p : SkPacket) (s : State) : s.sameNode (s.freeFlits w p) := by
  cases w with
  | none => rfl
  | some w => exact State.sameNode_setPort_emit _ _ _ _

theorem State.sameNode_drainTurns (w : Port) (n : Nat) (s : State) : s.sameNode (s.drainTurns w n) := by
  induction n generalizing s with
  | zero => rfl
  | succ n ih =>
    unfold State.drainTurns
    dsimp only
    split
    · rfl
    · exact (((State.sameNode_setPort _ _ _).trans (State.sameNode_transmit _ _ _)).trans
        (State.sameNode_freeFlits _ _ _)).trans (ih _)

theorem State.sameNode_sendOn (w : Port) (p : SkPacket) (s : State) : s.sameNode (s.sendOn w p) :=
  ((State.sameNode_setPort _ _ _).trans (State.sameNode_drainTurns _ _ _)).trans (State.sameNode_fillGroup _ _)

/-- A fold of steps that each keep the node keeps it. -/
theorem State.sameNode_foldl {α : Type} {g : State → α → State} (h : ∀ (s : State) a, s.sameNode (g s a)) (l : List α) (s : State) :
    s.sameNode (l.foldl g s) := by
  induction l generalizing s with
  | nil => rfl
  | cons a l ih => exact (h s a).trans (ih _)

theorem State.sameNode_sendBy (ws : List Port) (kind : SkKind) (dest : Nat) (tag : BitVec 32) (bs : Bytes) (s : State) :
    s.sameNode (s.sendBy ws kind dest tag bs) :=
  State.sameNode.trans (t := { s with skn := { s.skn with txSeq := _ } }) rfl
    (State.sameNode_foldl (fun _ _ => State.sameNode_sendOn _ _ _) _ _)

theorem State.sameNode_sendTo (kind : SkKind) (dest : BitVec 6) (tag : BitVec 32) (bs : Bytes) (s : State) :
    s.sameNode (s.sendTo kind dest tag bs) :=
  State.sameNode_foldl (fun _ _ => State.sameNode_sendBy _ _ _ _ _ _) _ _

/-! ## The second phase -/

/-- The change that settles a transfer: its units leave T for X, or return to A. -/
def settleDelta (confirm : Bool) (u : BitVec 32) : Delta :=
  if confirm then { t := -(u.toNat : Int), x := u.toNat } else { t := -(u.toNat : Int), a := u.toNat }

/-- The second phase of a pledged transfer whose change passes (R284 step 4, R381). -/
theorem State.phaseTwo_passes {s : State} {confirm : Bool} {row : Nat} {t : Transfer} {serial : Serial} {hash : BitVec 64}
    {after : List After} (hs : Tab.sorted s.skn.transfers = true) (hc : s.checkerPasses t.pool (settleDelta confirm t.units)) :
    ∃ v, s.phaseTwo confirm true row t serial hash after = (v, true) ∧ s.poolMoved v t.pool (settleDelta confirm t.units) id ∧
      v.skn.transfers.find row = none ∧ v.ru.jrn.seq = s.ru.jrn.seq + 1 ∧ ∀ a ∈ after, a ∈ v.led.group.after := by
  obtain ⟨hch, hm, ht, -⟩ := State.change_moves id hc
  have he : s.phaseTwo confirm true row t serial hash after =
      ((((((s.change t.pool (settleDelta confirm t.units) id).1.unpledge 1).freeTransfer row).chain
        { typ := if confirm then 0x0B else 0x0D, pool := t.pool, serial, fp := hash ++ t.id, delta := t.units }).afterGroup after),
        true) := by
    dsimp only [State.phaseTwo]
    rw [show (if confirm then ({ t := -(t.units.toNat : Int), x := t.units.toNat } : Delta)
      else { t := -(t.units.toNat : Int), a := t.units.toNat }) = settleDelta confirm t.units from rfl]
    rw [hch]
    rfl
  generalize (s.change t.pool (settleDelta confirm t.units) id).1 = u at hch hm ht he
  refine ⟨_, he, State.poolMoved_congr hm ⟨rfl, rfl⟩ ⟨?_, ?_⟩, ?_, ?_, fun a ha => List.mem_append_right _ ha⟩
  · simp [State.afterGroup, State.freeTransfer, State.unpledge]
  · simp [State.afterGroup, State.freeTransfer, State.unpledge]
  · have hk : u.skn = s.skn := ht .skn (by decide)
    simp [State.afterGroup, State.freeTransfer, State.unpledge, hk, Tab.find_del hs]
  · have hr : u.ru = s.ru := ht .ru (by decide)
    simp [State.afterGroup, State.freeTransfer, State.unpledge, hr]

/-- A settled transfer leaves its change, its freed record and its DONE. -/
theorem State.settleTransfer_passes {s : State} {w : XferWait} {confirm : Bool} {h : Held} {x : Transfer}
    (hx : s.skn.transfers.find w.row = some x) (hs : Tab.sorted s.skn.transfers = true)
    (hc : s.checkerPasses x.pool (settleDelta confirm x.units)) :
    s.poolMoved (s.settleTransfer w confirm h) x.pool (settleDelta confirm x.units) id ∧
      (s.settleTransfer w confirm h).skn.transfers.find w.row = none ∧
      (s.settleTransfer w confirm h).ru.jrn.seq = s.ru.jrn.seq + 1 ∧
      After.transferDone h x.peer x.id ∈ (s.settleTransfer w confirm h).led.group.after := by
  obtain ⟨v, hv, h1, h2, h3, h4⟩ := State.phaseTwo_passes (row := w.row) (serial := 0) (hash := 0)
    (after := [.transferDone h x.peer x.id]) hs hc
  have he : s.settleTransfer w confirm h = v := by
    simp only [State.settleTransfer, hx]
    rw [hv]
  rw [he]
  exact ⟨h1, h2, h3, h4 _ (List.mem_singleton_self _)⟩

/-- The same of a card transfer (R381). -/
theorem State.cardPhaseTwo_passes {s : State} {confirm : Bool} {row : Nat} {h : Held} {x : Transfer}
    (hx : s.skn.transfers.find row = some x) (hs : Tab.sorted s.skn.transfers = true)
    (hc : s.checkerPasses x.pool (settleDelta confirm x.units)) :
    s.poolMoved (s.cardPhaseTwo confirm row h) x.pool (settleDelta confirm x.units) id ∧
      (s.cardPhaseTwo confirm row h).skn.transfers.find row = none ∧
      (s.cardPhaseTwo confirm row h).ru.jrn.seq = s.ru.jrn.seq + 1 ∧
      After.reply h ∈ (s.cardPhaseTwo confirm row h).led.group.after := by
  obtain ⟨v, hv, h1, h2, h3, h4⟩ := State.phaseTwo_passes (row := row) (serial := xferSlot x) (hash := xferHash x)
    (after := [.reply h]) hs hc
  have he : s.cardPhaseTwo confirm row h = v := by
    simp only [State.cardPhaseTwo, hx]
    rw [hv]
  rw [he]
  exact ⟨h1, h2, h3, h4 _ (List.mem_singleton_self _)⟩

/-! ## Reconciling -/

section
variable {x : Ctx} {s : State} {row : Nat} {z : Transfer} {p : Pool}

/-- The checks common to both forms of `RECONCILE`. -/
theorem reconcile_gates (hp : s.pool z.pool = some p) (hf : s.isFrozen p = false) (ha : s.admits)
    {l : List (Bool × BitVec 16)} :
    firstFail (((s.pool z.pool).all fun p => !s.isFrozen p, stPoolFrozen) :: (s.room 1, stBackpressure) ::
      (!s.supplyLow, stSupplyLow) :: l) = firstFail l := by
  obtain ⟨h1, h2⟩ := ha
  simp [firstFail, hp, hf, h1, h2]

/-- `RECONCILE` of a Skein transfer in DOUBT asks its peer (R285). -/
theorem reconcileBody_asks (hr : s.transferRow (BitVec.ofNat 64 (x.c.pkt.field 32 8)) = some (row, z)) (hst : z.st = 2)
    (hk : z.kind = 1) (hreach : s.reaches (z.peer.setWidth 6) = true) (hp : s.pool z.pool = some p) (hf : s.isFrozen p = false)
    (ha : s.admits) :
    reconcileBody x s =
      { s := State.sendTo .query (z.peer.setWidth 6) 0 (leBytes 8 z.id.toNat)
          { s.pledge 1 with skn := { s.skn with xwait := s.skn.xwait ++ [(z.id, { h := x.held 0 2280 0 [], row, query := true })] } }
        cyc := 2280, when_ := .later } := by
  simp only [reconcileBody, hr, hk, if_true, reconcileSkein, hst, ne_eq, not_true_eq_false, if_false, hreach,
    Bool.not_true, Bool.false_eq_true]
  rw [reconcile_gates hp hf ha]
  rfl

/-- `RECONCILE` of a slip in DOUBT whose slot holds its CONFIRM marker (R381). -/
theorem reconcileBody_confirms {v : Slip} {k : BitVec 128}
    (hr : s.transferRow (BitVec.ofNat 64 (x.c.pkt.field 32 8)) = some (row, z)) (hst : z.st = 2)
    (hk : z.kind = 2) (hp : s.pool z.pool = some p) (hf : s.isFrozen p = false) (ha : s.admits)
    (hrdy : s.card.ready = true) (hcid : cidHash s.card.cid = xferHash z) (hv : s.slipFor z = some (v, k))
    (hm : validMarker k v (s.card.block (markerBlock (xferSlot z).toNat)) = some 2) :
    reconcileBody x s =
      { s := (s.pledge 1).cardPhaseTwo true row (x.held 0 2280 (inlAt 0 1) []), cyc := 2280, when_ := .later } := by
  have h1 : ¬(z.kind = 1) := by rw [hk]; decide
  have h2 : z.kind = 2 ∧ z.st ≠ 3 := ⟨hk, by rw [hst]; decide⟩
  have h3 : firstFail [(s.card.ready && cidHash s.card.cid == xferHash z, stCardAbsent)] = none := by
    simp [firstFail, hrdy, hcid]
  simp only [reconcileBody, hr, if_neg h1]
  rw [if_pos h2]
  simp only [reconcileSlip, hst, ne_eq, not_true_eq_false, if_false, hv, hm, if_true]
  rw [reconcile_gates hp hf ha, h3]
  rfl

end

/-! ## The events -/

section

/-- Waits dropped leave the transfers. -/
theorem State.settle_dropWait {s : State} {i : BitVec 64} {w : XferWait} {confirm : Bool} {h : Held} {x : Transfer}
    (hx : s.skn.transfers.find w.row = some x) (hs : Tab.sorted s.skn.transfers = true)
    (hc : s.checkerPasses x.pool (settleDelta confirm x.units)) :
    s.poolMoved ((s.dropWait i).settleTransfer w confirm h) x.pool (settleDelta confirm x.units) id ∧
      ((s.dropWait i).settleTransfer w confirm h).skn.transfers.find w.row = none ∧
      ((s.dropWait i).settleTransfer w confirm h).ru.jrn.seq = s.ru.jrn.seq + 1 ∧
      After.transferDone h x.peer x.id ∈ ((s.dropWait i).settleTransfer w confirm h).led.group.after :=
  State.settleTransfer_passes (s := s.dropWait i) hx hs hc

variable {s : State} {id : BitVec 64}

/-- A TRANSFER packet that passes its checks (R284 step 3). -/
theorem transferReceive_takes {src : BitVec 6} {dom : Dom} {n : PoolId} {u : BitVec 32} {row : Nat}
    (h3 : s.xferOf id 3 = false) (h4 : s.xferOf id 4 = false) (hi : importRefusal s dom n = none) (hrow : s.freeRow = some row)
    (hc : s.checkerPasses n { m := u.toNat, a := u.toNat }) :
    s.poolMoved (transferReceiveEvent src id dom n u s) n { m := u.toNat, a := u.toNat } (fun p => p) ∧
      (transferReceiveEvent src id dom n u s).ru.jrn.seq = s.ru.jrn.seq + 1 ∧
      (∃ x, (transferReceiveEvent src id dom n u s).skn.transfers.find row = some x ∧ x.id = id ∧ x.kind = 3 ∧ x.pool = n ∧ x.units = u) ∧
      After.accept src id ∈ (transferReceiveEvent src id dom n u s).led.group.after := by
  obtain ⟨hch, hm, ht, -⟩ := State.change_moves (fun p => p) hc
  generalize (s.change n { m := u.toNat, a := u.toNat } fun p => p).1 = v at hch hm ht
  have hfree (r : JRec) : (v.chain r).freeRow = some row := by
    rw [← hrow]
    unfold State.freeRow
    rw [State.chain_skn, show v.skn = s.skn from ht .skn (by decide)]
  have he : ∃ (r : JRec) (x : Transfer), transferReceiveEvent src id dom n u s = ((v.chain r).setTransfer row x).afterGroup [.accept src id] ∧
      x.id = id ∧ x.kind = 3 ∧ x.pool = n ∧ x.units = u := by
    let r : JRec := { typ := 0x0C, pool := n, node := src.setWidth 8, fp := idFp id, delta := u }
    refine ⟨r, { id, kind := 3, st := 1, pool := n, units := u, peer := src.setWidth 8, dom, peerPool := 0
                 time := (v.chain r).gctl.time, jseq := BitVec.ofNat 64 (v.chain r).ru.jrn.seq, card := 0 }, ?_, rfl, rfl, rfl, rfl⟩
    simp only [transferReceiveEvent, h3, h4, hi, Bool.false_eq_true, if_false]
    rw [hch]
    simp only [hfree, Option.getD_some]
    rfl
  obtain ⟨r, x, he, hx⟩ := he
  rw [he]
  refine ⟨State.poolMoved_congr hm ⟨rfl, rfl⟩ ⟨?_, ?_⟩, ?_, ⟨x, by simp [State.afterGroup, State.setTransfer], hx⟩, ?_⟩
  · simp [State.afterGroup, State.setTransfer]
  · simp [State.afterGroup, State.setTransfer]
  · simp [State.afterGroup, State.setTransfer, show v.ru = s.ru from ht .ru (by decide)]
  · simp [State.afterGroup]

/-- No answer to a transfer leaves it in DOUBT (R285). -/
theorem transferTimeout_doubts {w : XferWait} {x : Transfer} (hw : s.skn.xwait.find? (·.1 == id) = some (id, w))
    (hq : w.query = false) (hx : s.skn.transfers.find w.row = some x) :
    (transferTimeoutEvent id s).skn.transfers.find w.row = some { x with st := 2 } ∧
      (transferTimeoutEvent id s).ru.jrn.pledged = s.ru.jrn.pledged - 1 ∧
      (∀ v, (id, v) ∉ (transferTimeoutEvent id s).skn.xwait) ∧ (transferTimeoutEvent id s).led = s.led := by
  have he : transferTimeoutEvent id s = (((s.dropWait id).unpledge 1).setTransfer w.row { x with st := 2 }).postReply
      (w.h.fail stInDoubt w.h.cycles.toNat) := by
    have hx' : ((s.dropWait id).unpledge 1).skn.transfers.find w.row = some x := hx
    simp only [transferTimeoutEvent, hw, hq, hx', Bool.false_eq_true, if_false]
  have ht : ∀ u : State, u.touches [.gctl, .queues, .mss, .posted] (u.postReply (w.h.fail stInDoubt w.h.cycles.toNat)) := fun u => by simp
  rw [he]
  generalize hu : ((s.dropWait id).unpledge 1).setTransfer w.row { x with st := 2 } = u
  rw [show (u.postReply _).skn = u.skn from ht u .skn (by decide), show (u.postReply _).ru = u.ru from ht u .ru (by decide),
    show (u.postReply _).led = u.led from ht u .led (by decide)]
  subst hu
  refine ⟨Tab.find_put _ _ _, rfl, fun v hv => ?_, rfl⟩
  simp [State.setTransfer, State.unpledge, State.dropWait] at hv

/-- DONE frees the record (R284 step 6). -/
theorem transferDone_frees {row : Nat} {x : Transfer} (h3 : s.xferOf id 3 = true) (hf : s.forcesNow)
    (hs : Tab.sorted s.skn.transfers = true)
    (hx : (s.skn.transfers.find? fun p => p.2.id == id && (p.2.kind == 3 || p.2.kind == 4)) = some (row, x)) :
    (transferDoneEvent id s).skn.transfers.find row = none ∧ (transferDoneEvent id s).ru.jrn.seq = s.ru.jrn.seq + 1 := by
  have he : transferDoneEvent id s = s.closeTransfer id := by
    rw [transferDoneEvent, h3, Bool.true_or, if_pos rfl, State.force_now hf]
    rfl
  rw [he, State.closeTransfer, hx]
  simp [State.freeTransfer, Tab.find_del hs]

/-- QUERY of an unknown transfer leaves a tombstone (R285). -/
theorem transferQuery_tombstone {src : BitVec 6} {row : Nat} (h3 : s.xferOf id 3 = false) (h4 : s.xferOf id 4 = false)
    (hf : s.forcesNow) (hrow : s.freeRow = some row) :
    (∃ x, (transferQueryEvent src id s).skn.transfers.find row = some x ∧ x.id = id ∧ x.kind = 4) ∧
      (transferQueryEvent src id s).ru.jrn.seq = s.ru.jrn.seq + 1 ∧
      After.tombstone src id ∈ (transferQueryEvent src id s).led.group.after := by
  have he : transferQueryEvent src id s = s.makeTombstone src id := by
    rw [transferQueryEvent, h3, h4, State.force_now hf]
    rfl
  rw [he, State.makeTombstone, hrow]
  simp [State.afterGroup, State.setTransfer]

end

section
variable {c : Cmd} {s : State} {f : Fetched}

theorem State.admits_begun' (op : BitVec 16) (sub : Option Byte) (h : s.admits) : (s.begun op sub c f).admits :=
  ⟨(State.room_begun ..).trans h.1, (State.supplyLow_begun ..).trans h.2⟩

theorem State.transferRow_begun (op : BitVec 16) (sub : Option Byte) (i : BitVec 64) :
    (s.begun op sub c f).transferRow i = s.transferRow i := by
  simp [State.transferRow]

theorem State.slipFor_begun (op : BitVec 16) (sub : Option Byte) (z : Transfer) : (s.begun op sub c f).slipFor z = s.slipFor z := by
  simp only [State.slipFor, State.slipKeyOf, State.dmk, State.begun_life, State.begun_card, State.begun_ks]

end

/-- Settles O10: the two forms of `RECONCILE` by the checks they pass, each event by the second phase or the forced record it
makes. -/
theorem transfersSettle : Obligations.TransfersSettle := by
  refine ⟨?_, fun s id => ⟨?_, ?_, ?_, ?_, ?_, ?_, ?_⟩⟩
  · intro c s f row x p hr hst hp hf ha
    refine ⟨fun h hk hreach => ?_, fun v k h hop hk hx hs hrdy hcid hv hm hc => ?_⟩
    · have hb := reconcileBody_asks (x := s.ctxRun 0x020E none c f) (s := s.begun 0x020E none c f)
        ((State.transferRow_begun ..).trans hr) hst hk (by simpa [State.reaches] using hreach)
        ((State.begun_pool ..).trans hp) ((State.begun_isFrozen ..).trans hf) (State.admits_begun' _ _ ha)
      refine completes_later h rfl hb rfl ?_
      have hn : ∀ v : State, v.touches [.skn, .posted] (v.sendTo .query (x.peer.setWidth 6) 0 (leBytes 8 x.id.toNat)) := by simp
      refine ⟨?_, { h := (s.ctxRun 0x020E none c f).held 0 2280 0 [], row, query := true }, ?_, rfl, rfl, rfl, rfl⟩
      · rw [show (State.sendTo .query (x.peer.setWidth 6) 0 (leBytes 8 x.id.toNat) _).ru = _ from hn _ .ru (by decide)]
        simp [State.pledge]
      · rw [State.sameNode_sendTo]
        simp
    · have hb := reconcileBody_confirms (x := s.ctxRun 0x020E none c f) (s := s.begun 0x020E none c f)
        ((State.transferRow_begun ..).trans hr) hst hk
        ((State.begun_pool ..).trans hp) ((State.begun_isFrozen ..).trans hf) (State.admits_begun' _ _ ha)
        (by rw [State.begun_card]; exact hrdy) (by rw [State.begun_card]; exact hcid) ((State.slipFor_begun ..).trans hv)
        (by rw [State.begun_card]; exact hm)
      refine completes_later h (by rw [← onCard_idle _ _ _ hop]; rfl) hb rfl ?_
      obtain ⟨h1, h2, h3, h4⟩ := State.cardPhaseTwo_passes (s := (s.begun 0x020E none c f).pledge 1) (confirm := true)
        (h := (s.ctxRun 0x020E none c f).held 0 2280 (inlAt 0 1) [])
        (by simpa [State.pledge] using hx) (by simpa [State.pledge] using hs)
        (State.checkerPasses_begun (op := 0x020E) (sub := none) (c := c) (f := f) hc)
      exact ⟨State.poolMoved_congr h1 ⟨State.begun_pools .., State.begun_live ..⟩ ⟨rfl, rfl⟩, h2,
        by rw [h3]; simp [State.pledge], _, h4, rfl, rfl, by simp [Ctx.held, h.pkt], rfl, rfl⟩
  · exact fun src dom n u row h3 h4 hi hrow hc => ⟨_, rfl, transferReceive_takes h3 h4 hi hrow hc⟩
  · intro w x hw hx hs hc
    refine ⟨_, rfl, ?_⟩
    simp only [transferAnswerEvent, hw]
    exact State.settle_dropWait (confirm := true) hx hs hc
  · intro w x st hw hx hs hc
    refine ⟨_, rfl, ?_⟩
    simp only [transferAnswerEvent, hw]
    obtain ⟨h1, h2, h3, -⟩ := State.settle_dropWait (i := id) (confirm := false) (h := w.h.fail st w.h.cycles.toNat) hx hs hc
    exact ⟨h1, h2, h3⟩
  · intro w x hw hx hs hc
    refine ⟨_, rfl, ?_⟩
    simp only [reconcileAnswerEvent, hw]
    obtain ⟨h1, h2, h3, -⟩ := State.settle_dropWait (i := id) (confirm := true) (h := { w.h with inl := inlAt 0 1 }) hx hs hc
    exact ⟨h1, h2, h3⟩
  · exact fun w x hw hq hx => ⟨_, rfl, transferTimeout_doubts hw hq hx⟩
  · exact fun row x h3 hf hs hx => ⟨_, rfl, transferDone_frees h3 hf hs hx⟩
  · exact fun src row h3 h4 hf hrow => ⟨_, rfl, transferQuery_tombstone h3 h4 hf hrow⟩

end Sys2Proof.Machine
end

section
/-! PROOFS. Routed commands (R280, R281). -/

namespace Sys2Proof.Machine

set_option Elab.async false

/-- A reply posted for a wait that has left the routed commands. -/
theorem State.postReply_routed {s : State} {h : Held} {f : Fetched} {n : Nat} (hv : h.via = .host)
    (hf : (s.queue h.q).inflight.find? (·.id == h.id) = some f) (ht : h.tag = f.pkt.tag) (hs : Tab.sorted s.skn.routed = true) :
    (State.postReply h { s with skn := { s.skn with routed := s.skn.routed.del n } }).answers h.q f h.status h.inl ∧
      (State.postReply h { s with skn := { s.skn with routed := s.skn.routed.del n } }).skn.routed.find n = none := by
  refine ⟨State.postReply_answers h _ f hv hf ht, ?_⟩
  have hk : ∀ u : State, u.touches [.gctl, .queues, .mss, .posted] (u.postReply h) := fun u => by simp
  rw [show (State.postReply h _).skn = _ from hk _ .skn (by decide)]
  exact Tab.find_del hs n

/-- A routed command whose body answers at once sends its reply back (R280). -/
theorem routedCommandEvent_now {s : State} {src : BitVec 6} {tag : BitVec 32} {c : Cmd} {body : Ctx → State → Out} {i : OpInfo}
    {x : Ctx} (hx : x = { c, epoch := 0, dom := c.dom, id := 0, unit := 0xFF, sqHead := 0, chainEnd := false, keys := (s.policy c.dom).keys })
    (hb : routedBody c.pkt = some body) (hi : opInfo c.pkt.opcode = some i) (hd : decodeRest s c.q c.dom c.pkt i .host = none)
    (hw : (body x s).when_ = .now) :
    routedCommandEvent src tag c s =
      (body x s).s.ended.routedSend src tag (x.held (body x s).status (body x s).cyc (body x s).inl (body x s).result) := by
  subst hx
  simp only [routedCommandEvent, hb, hi, hd, hw]

/-- Settles O11: a command that came in by its body, a reply or none by the wait it ends. -/
theorem routedCommandsAreAnswered : Obligations.RoutedCommandsAreAnswered := by
  refine fun s tag => ⟨?_, ?_, ?_⟩
  · exact fun src c body i x hx hb hi hd hw => ⟨_, rfl, routedCommandEvent_now hx hb hi hd hw⟩
  · intro k r f hk hv hf ht hs
    refine ⟨_, rfl, ?_⟩
    simp only [routedReplyEvent, hk]
    split
    · exact State.postReply_routed (h := { k.h with write := none, truncated := false, resultLen := 0, status := r.status, inl := r.inl,
                                                    arbWait := sat 32 (k.h.arbWait.toNat + r.arbWaits) }) hv hf ht hs
    · exact State.postReply_routed (h := { k.h.withResult r.result with
        status := r.status, inl := r.inl, arbWait := sat 32 (k.h.arbWait.toNat + r.arbWaits) }) hv hf ht hs
  · intro k f hk hv hf ht hs
    refine ⟨_, rfl, ?_⟩
    simp only [routedTimeoutEvent, hk]
    exact State.postReply_routed (h := k.h.fail stNodeUnreachable k.h.cycles.toNat) hv hf ht hs

end Sys2Proof.Machine
end

section
/-! PROOFS. A small device on which statements are evaluated, and an admission behind a run of its own context (R117, R191). -/

namespace Sys2Proof.Machine

set_option Elab.async false

/-! ## A small device -/

/-- A packet with its opcode, its handles and inline parameters given as values at byte offsets. -/
def smallPacket (op : BitVec 16) (a b : BitVec 32) (inl : List (Nat × Nat)) (dataLen outLen : BitVec 32) : Packet :=
  { opcode := op, flags := 0, tag := 7, handleA := a, handleB := b, dataPtr := 0x1000, dataLen, outLen
    inl := BitVec.ofNat 256 (inl.map fun x => x.2 * 256 ^ (x.1 - 32)).sum }

/-- The packet in flight on queue 0, dispatched to command core 0. -/
def smallFetched (p : Packet) : Fetched :=
  { id := 5, pkt := p, sqHead := 1, stage := .dispatched 0, linked := false, prior := none, running := false, slot := 0, phase := true
    onHold := false, keys := (startPolicy 0).keys, since := 0 }

/-- A reply of another packet that waits. -/
def smallHeld : Held :=
  { q := 0, via := .host, id := 9, tag := 8, status := 0, unit := 0, chainEnd := false, truncated := false, notify := false
    sqHead := 1, resultLen := 0, cycles := 0, arbWait := 0, inl := 0, write := none }

/-- A key of domain 0 with its check. -/
def smallKey (typ : Byte) (usage : BitVec 16) (v : BitVec 512) : Slot :=
  let k : Slot :=
    { s0 := v, s1 := 0, q := 0, z := 0, st := .valid
      attr := { typ, usage, curve := 0, dom := 0, parent := 0, parentGen := 0, lineage := 0, lineageGen := 0, origin := 1, kcv := 0 }
      icv := 0, loaded := 0, id := [], domGen := 0 }
  { k with icv := k.check }

theorem smallKey_check (typ : Byte) (usage : BitVec 16) (v : BitVec 512) : (smallKey typ usage v).check = (smallKey typ usage v).icv := by
  simp only [smallKey, Slot.check]

/-- A pool with 50 units available and 40 issued. -/
def smallPool : Pool :=
  { l := 90, m := 0, a := 50, r := 0, i := 40, s := 0, v := 0, t := 0, x := 0, w := 0, next := 41, limit := 1000, dom := 0, st := 1
    host := false, rebuild := false, checker := false, recovering := false, slot := 16, reissue := true, exclusive := false }

/-- A device that is up, with that pool as pool 3, an open journal, and a fingerprint key in slot 5. -/
def smallDevice : State :=
  { State.reset with
    gctl := { Gctl.reset with en := true, ready := true, recalling := false, perstLow := false }
    life := { Life.reset with serial := 7 }
    mss := { MssUnit.reset with st := .running }
    kp := { Keeper.reset with stage := 0 }
    led := { Ledger.reset with pools := [(3, smallPool)], live := smallPool.totals }
    ru := { RegUnit.reset with
      jrn := { RegUnit.reset.jrn with en := true }
      reg := { RegUnit.reset.reg with fpkSlot := 5 } }
    ks := { KeyUnit.reset with slots := [(5, smallKey 3 0x0800 10)], root := 1, entIn := true, seeded := true } }

/-- The device with a packet in flight on queue 0. -/
def State.withPacket (p : Packet) (s : State) : State := s.setQueue 0 { Queue.admin with inflight := [smallFetched p] }

/-- `Runs` as a check. -/
def runsCheck (op : BitVec 16) (sub : Option Byte) (c : Cmd) (s : State) (f : Fetched) : Bool :=
  decide (c.via = .host) && decide ((s.queue c.q).st ≠ .absent) &&
  decide ((s.queue c.q).ready (rowPacket op sub c.pkt) = some f) && (s.queue c.q).ringTurn f &&
  !s.holdsBack (rowPacket op sub c.pkt) && decide (s.taken c.q (rowPacket op sub c.pkt) = none) && !forMss op

theorem Runs.of_check {op : BitVec 16} {sub : Option Byte} {c : Cmd} {s : State} {f : Fetched} (h : runsCheck op sub c s f = true) :
    Runs op sub c s f := by
  simp only [runsCheck, Bool.and_eq_true, decide_eq_true_eq, Bool.not_eq_true'] at h
  obtain ⟨⟨⟨⟨⟨⟨h1, h2⟩, h3⟩, h4⟩, h5⟩, h6⟩, h7⟩ := h
  exact ⟨h1, h2, h3, h4, h5, h6, fun h => by simp [h7] at h⟩

/-- A slot that is in order serves. -/
theorem State.slotServes_of_slot {s : State} {n bit : Nat} {k : Slot} (h : s.slot n = some k) (hc : k.check = k.icv)
    (hv : k.st = .valid ∧ s.gensOk k = true ∧ k.attr.usage.getLsbD bit = true) : s.slotServes n bit k := by
  obtain ⟨h1, h2, h3⟩ := hv
  simp [State.slotServes, State.useSlot, State.readSlot, h, hc, h1, h2, h3]

/-- A run of which nothing is left outside or inside the pipeline ends at once where its context is settled (R191). -/
theorem State.settleCtx_formTag {s : State} {n : Nat} {r : SealRun} {k : SealCtx} (hr : s.runOf n = some r) (hk : s.sealCtx n = some k)
    (hf : s.sl.fills.contains n = false) (hb : r.nextBlock.isSome = false) (hp : (s.sl.pipe.any (·.1 == n)) = false) :
    s.settleCtx n = s.formTag r k := by
  have hfill : s.fillDone n = s := by
    rw [State.fillDone, hf]
    rfl
  have hfuel : s.drainFuel n = (2 * (r.aad.length + r.data.length) + 2 * s.sl.pipe.length + 5) + 1 := by simp [State.drainFuel, hr]
  rw [State.settleCtx, hr, hfill, hfuel, State.drainRun, hr, hk]
  simp only [Option.isNone_some, Bool.false_eq_true, if_false, hb, hp]

/-- The `ISSUE` of a pool that is gone fails at its change, whatever the register answers (R80). -/
theorem State.completeIssue_absent {s : State} {r : IssueRun} {tail : Bytes} {cyc : Nat} {h : Held} {k : Slot}
    (hk : s.slotServes s.ru.reg.fpkSlot.toNat useFingerprint k) (hp : s.pool r.pool = none)
    (hi : (s.ru.reg.operate (.insert (issueEntry s r (fingerprint k.key256 (ticketIdentity s.node r.pool r.serial))))).2 = .ok) :
    s.completeIssue r tail cyc h = s.countRefused.failIssue r stConservation cyc h := by
  have hchange (t : State) (ht : t.led = s.led) (d : Delta) : t.change r.pool d id = (t.countRefused, false) := by
    have : t.pool r.pool = none := by rw [← hp, State.pool, State.pool, ht]
    simp only [State.change, this]
  simp only [State.completeIssue, State.fpk_ok hk, State.regRun]
  rw [show s.ru.reg.operate (.insert (issueEntry s r (fingerprint k.key256 (ticketIdentity s.node r.pool r.serial)))) =
    ((s.ru.reg.operate (.insert (issueEntry s r (fingerprint k.key256 (ticketIdentity s.node r.pool r.serial))))).1, .ok) from
    Prod.ext rfl hi]
  dsimp only
  rw [hchange s rfl, hchange _ (by rfl)]

/-- A device on which the failed `ISSUE` of a context has ended: its context is at rest, its record chained (R80, R191). -/
def State.issueFailed (n : Nat) (k : SealCtx) (i : IssueRun) (cyc : Nat) (h : Held) (s : State) : State :=
  ((s.dropRun n).setCtx n k.rested).countRefused.failIssue i stConservation cyc h

section
variable {s : State} {n cyc : Nat} {r : SealRun} {i : IssueRun} {k : SealCtx} {key : Slot}

/-- Settling a context whose `ISSUE` has only its tag left, and whose pool is gone. -/
theorem State.settleCtx_issueFailed (hr : s.runOf n = some r) (hi : r.kind = .ticket i cyc) (hk : s.sealCtx n = some k)
    (hf : s.sl.fills.contains n = false) (hb : r.nextBlock.isSome = false) (hpipe : (s.sl.pipe.any (·.1 == n)) = false)
    (hkey : s.slotServes s.ru.reg.fpkSlot.toNat useFingerprint key) (hp : s.pool i.pool = none)
    (hins : (s.ru.reg.operate (.insert (issueEntry s i (fingerprint key.key256 (ticketIdentity s.node i.pool i.serial))))).2 = .ok) :
    s.settleCtx n = s.issueFailed n k i cyc r.h := by
  have hn : r.ctx = n := by simpa using List.find?_some hr
  rw [State.settleCtx_formTag hr hk hf hb hpipe]
  unfold State.formTag
  simp only [hi, hn]
  have hkey' : ((s.dropRun n).setCtx n k.rested).slotServes s.ru.reg.fpkSlot.toNat useFingerprint key :=
    (State.useSlot_congr (s := s) (t := (s.dropRun n).setCtx n k.rested) rfl _ _).trans hkey
  exact State.completeIssue_absent hkey' hp hins

theorem State.issueFailed_leaves (hp : s.pool i.pool = none) (h : Held) :
    (s.issueFailed n k i cyc h).ru.jrn.seq = s.ru.jrn.seq + 1 ∧ (s.issueFailed n k i cyc h).ru.reg = s.ru.reg ∧
    (s.issueFailed n k i cyc h).led.pools = s.led.pools ∧ (s.issueFailed n k i cyc h).ks = s.ks ∧
    (s.issueFailed n k i cyc h).spn = s.spn ∧ (s.issueFailed n k i cyc h).sl.ctxs = s.sl.ctxs.put n k.rested := by
  have hp' : (((s.dropRun n).setCtx n k.rested).countRefused).pool i.pool = none := hp
  have he : ∃ rec, s.issueFailed n k i cyc h =
      ((((((s.dropRun n).setCtx n k.rested).countRefused).countRefused).unpledge 1).chain rec).afterGroup
        [.reply (h.fail stConservation cyc)] := by
    refine ⟨{ typ := 0x04, flags := stConservation.setWidth 8, pool := i.pool, serial := i.serial, node := s.node
              delta := if (if i.locked then 2 else 0) + 1 = 1 ∨ (if i.locked then 2 else 0) + 1 = 2 then 1 else 0
              aux := BitVec.ofNat 32 ((if i.locked then 2 else 0) + 1) }, ?_⟩
    unfold State.issueFailed State.failIssue State.abandon
    simp only [State.change, hp', Option.any_none, Bool.false_eq_true, if_false]
    rfl
  obtain ⟨rec, he⟩ := he
  rw [he]
  refine ⟨?_, ?_, ?_, ?_, ?_, ?_⟩ <;> simp [State.afterGroup, State.unpledge, State.chain_reg, State.countRefused, State.setCtx, State.dropRun]

end

/-- The admission of a ticket that its checks let in chains one record. -/
theorem admitTicketHere_seq {x : Ctx} {s v : State} {bs : Bytes} {mode : Byte} {tl : Nat} {fpk : BitVec 256} {e : Entry} {place : Place}
    (hm : x.c.pkt.byteAt 33 = mode) (htl : (if mode = 1 then 64 else if mode = 2 then 16 else 8) = tl) (hl : s.lateChecks x = none)
    (he : admitEarly s x.pool = none)
    (ha : s.ticketAuth x.c.pkt mode (bs.take (bs.length - tl)) (bs.drop (bs.length - tl)) = (v, .ok true)) (hk : v.fpk = (v, .ok fpk))
    (hf : (v.regFind (fingerprint fpk (ticketIdentity ((slice (bs.take (bs.length - tl)) 23 1).headD 0) x.pool
      (BitVec.ofNat 40 (leAt (bs.take (bs.length - tl)) 12 5))))).2 = some (e, place))
    (hlate : ∀ w : State, w.led.pools = v.led.pools → admitLate w x.pool mode e = none) :
    (admitTicketHere bs x s).when_ = .group ∧ (admitTicketHere bs x s).s.ru.jrn.seq = v.ru.jrn.seq + 1 ∧
      (admitTicketHere bs x s).s.spn = v.spn := by
  subst hm htl
  obtain ⟨hfind, -⟩ := State.regFind_eq hf v rfl
  simp only [admitTicketHere, hl, he, ha, hk, admitEntry]
  rw [hfind]
  dsimp only
  rw [hlate _ (by rfl)]
  refine ⟨rfl, ?_, ?_⟩
  · simp [State.noteChange]
  · simp [State.noteChange]

theorem exec_admitSerial (c : Cmd) (s : State) :
    exec (.admitSerial c) s = .next (runOp 0x0301 none (spindled (admitBody false)) c s) := rfl

/-- A register command whose owner is this node runs here (R280). -/
theorem State.onOwner_here (x : Ctx) (here : Bool) (bs : Bytes) (cyc : Nat) (s : State) (k : State → Out) :
    s.onOwner x here (some s.skn.nodeId) bs cyc k = k s := by
  simp [State.onOwner]

theorem spindled_none {body : Ctx → State → Out} {x : Ctx} {s : State} (hran : (body x s).s.spn.ran = []) :
    spindled body x s = body x s := by
  rw [spindled]
  dsimp only
  rw [hran]

theorem Out.finish_seq {x : Ctx} {o : Out} (h : o.when_ = .group) : (o.finish x).ru.jrn.seq = o.s.ru.jrn.seq := by
  rw [Out.finish, h]

/-- The check of a ticket's tag, once its context is settled. -/
theorem State.ticketAuth_settled {s v : State} {p : Packet} {n : Nat} {mode : Byte} {signed tail : Bytes} {k : SealCtx}
    (hn : hIndex p.handleB = n) (hm : mode ≠ 1) (hs : s.settleCtx n = v) (hk : v.sealCtx n = some k) (hst : k.st ≠ ctBroken)
    (hperm : k.permits mode.toNat = true) (htag : (k.gmac mode.toNat (slice signed 0 24) (signed.drop 24) == tail) = true) :
    s.ticketAuth p mode signed tail = ((v.cacheUse n).admitted (1 + ceilDiv signed.length 16), .ok true) := by
  subst hn
  rw [State.ticketAuth, if_neg hm, hs]
  dsimp only
  rw [hk]
  dsimp only
  rw [if_neg hst, hperm, htag]
  rfl

/-- A Boolean answer as a check. -/
theorem eq_ok_true {ε : Type} {e : Except ε Bool} (h : (match e with | .ok b => b | .error _ => false) = true) : e = .ok true := by
  cases e with
  | ok b => exact congrArg _ h
  | error _ => cases h

/-! ## An admission whose context still has an ISSUE in the pipeline -/

namespace AdmitBehindIssue

/-- The open TICKET context 1, under key 11. -/
def context : SealCtx :=
  { key := 11, ekJ0 := 0, salt := 0, inv := 0, blk := 0, ghash := 0, aadLen := 0, dataLen := 0, declLen := 0, declAad := 0
    usage := usTicket, st := 1, dom := 0, format := 1, printer := 0, keySlot := 18, ordered := false, inflight := false
    nonce := 0, invCur := 0 }

/-- Ticket 12 of pool 3, its fingerprint and its register entry. -/
def header : Bytes := ticketHeader smallDevice 2 3 12 0
def fp : BitVec 128 := fingerprint (smallKey 3 0x0800 10).key256 (ticketIdentity 0 3 12)
def entry : Entry := { fp, pool := 3, serial := 12, state := stIssued, admits := 0, limit := 1, node := 0, flags := 2, time := 0 }

/-- `ADMIT` of that ticket with its GMAC tag. -/
def command : Cmd :=
  { pkt := smallPacket 0x0301 0x01000003 0x03000001 [(32, 0), (33, 2)] 40 0, data := header ++ context.gmac 2 header [] }

/-- An `ISSUE` of serial 41, from a pool that is gone, whose blocks have passed and whose tag is due. -/
def issue : IssueRun := { pool := 9, serial := 41, locked := false, header := [], admitLimit := 1, mode := 2, time := 0 }
def run : SealRun :=
  { ctx := 1, kind := .ticket issue 0
    was := context, j0 := false, aad := [], data := [], outPtr := 0, entered := true, h := smallHeld }

/-- The device with the ticket issued, the context open, and that run in its pipeline. -/
def state : State :=
  State.withPacket command.pkt
    { smallDevice with
      ru := { smallDevice.ru with reg := { smallDevice.ru.reg with stash := [(0, entry)] } }
      sl := { smallDevice.sl with ctxs := [(1, context)], runs := [run] } }

theorem slot_five : state.slot 5 = some (smallKey 3 0x0800 10) := by
  rfl

theorem slot_five_valid : (smallKey 3 0x0800 10).st = .valid ∧ state.gensOk (smallKey 3 0x0800 10) = true ∧
    (smallKey 3 0x0800 10).attr.usage.getLsbD useFingerprint = true := by decide +kernel

theorem serves : state.slotServes 5 useFingerprint (smallKey 3 0x0800 10) :=
  State.slotServes_of_slot slot_five (smallKey_check _ _ _) slot_five_valid

/-- The packet taken, and the context of its body. -/
def begun : State := state.begun 0x0301 none command (smallFetched command.pkt)
def body : Ctx := state.ctxRun 0x0301 none command (smallFetched command.pkt)

theorem runs : Runs 0x0301 none command state (smallFetched command.pkt) := Runs.of_check (by decide +kernel)

theorem begun_serves : begun.slotServes begun.ru.reg.fpkSlot.toNat useFingerprint (smallKey 3 0x0800 10) := by
  have hr : begun.ru = state.ru := State.begun_ru ..
  rw [hr]
  exact (State.useSlot_congr (State.begun_ks ..) _ _).trans serves

/-- The device with that run ended, before the packet was taken and after. -/
theorem state_settles : state.settleCtx 1 = state.issueFailed 1 context issue 0 smallHeld :=
  State.settleCtx_issueFailed (r := run) (by decide +kernel) rfl (by decide +kernel) (by decide +kernel) rfl (by decide +kernel) serves
    (by decide +kernel) (by decide +kernel)

theorem begun_settles : begun.settleCtx 1 = begun.issueFailed 1 context issue 0 smallHeld :=
  State.settleCtx_issueFailed (r := run) (by decide +kernel) rfl (by decide +kernel) (by decide +kernel) rfl (by decide +kernel)
    begun_serves (by decide +kernel) (by decide +kernel)

theorem rested_at (s : State) (hp : s.pool issue.pool = none) : (s.issueFailed 1 context issue 0 smallHeld).sealCtx 1 = some context.rested := by
  obtain ⟨-, -, -, -, -, h⟩ := State.issueFailed_leaves (s := s) (n := 1) (k := context) (cyc := 0) hp smallHeld
  rw [State.sealCtx, h, Tab.find_put]

/-- The ticket's tag is right, whatever has settled its context. -/
theorem authentic {s : State} (hs : s.settleCtx 1 = s.issueFailed 1 context issue 0 smallHeld) (hp : s.pool issue.pool = none) :
    s.ticketAuth (rowPacket 0x0301 none command.pkt) 2 (command.bytes.take (command.bytes.length - 16))
      (command.bytes.drop (command.bytes.length - 16)) =
      (((s.issueFailed 1 context issue 0 smallHeld).cacheUse 1).admitted
        (1 + ceilDiv (command.bytes.take (command.bytes.length - 16)).length 16), .ok true) :=
  State.ticketAuth_settled (by decide +kernel) (by decide) hs (rested_at s hp) (by decide) (by decide +kernel) (by decide +kernel)

theorem body_here : admitBody false body begun = admitTicketHere command.bytes body begun := by
  have hnode : nodeOf ((slice command.bytes 23 1).headD 0) = some begun.skn.nodeId := by decide +kernel
  rw [admitBody]
  refine (withData_ok rfl begun _).trans ?_
  rw [if_neg (by decide +kernel), if_neg (by decide +kernel), hnode]
  exact State.onOwner_here _ _ _ _ _ _

theorem body_packet : body.c.pkt = rowPacket 0x0301 none command.pkt := by decide +kernel
theorem body_fp : fingerprint (smallKey 3 0x0800 10).key256 (ticketIdentity ((slice (command.bytes.take (command.bytes.length - 16)) 23 1).headD 0)
    body.pool (BitVec.ofNat 40 (leAt (command.bytes.take (command.bytes.length - 16)) 12 5))) = fp := by decide +kernel
theorem begun_seq : begun.ru.jrn.seq = 0 := by decide +kernel
theorem begun_ran : begun.spn.ran = [] := by decide +kernel

theorem exec_begun : exec (.admitSerial command) state = .next ((spindled (admitBody false) body begun).finish body) := by
  rw [exec_admitSerial, runOp_runs runs, ← begun, ← body]

/-- The ticket passes the last checks of R117 on the pools of the device. -/
theorem late (v : State) (hv : v.led.pools = begun.led.pools) (w : State) (hw : w.led.pools = v.led.pools) :
    admitLate w body.pool 2 entry = none := by
  have hstale : w.staleFor body.pool = begun.staleFor body.pool := by rw [State.staleFor, State.staleFor, State.pool, State.pool, hw, hv]
  rw [admitLate, hstale]
  decide +kernel

/-- The admission chains its record behind the run's. -/
theorem chains_two : ∃ t, exec (.admitSerial command) state = .next t ∧ t.ru.jrn.seq = 2 := by
  have hp : begun.pool issue.pool = none := by decide +kernel
  generalize hv : ((begun.issueFailed 1 context issue 0 smallHeld).cacheUse 1).admitted
    (1 + ceilDiv (command.bytes.take (command.bytes.length - 16)).length 16) = v
  have ha := authentic begun_settles hp
  rw [hv, ← body_packet] at ha
  obtain ⟨hseq, hreg, hpools, hks, hspn, -⟩ := State.issueFailed_leaves (s := begun) (n := 1) (k := context) (cyc := 0) hp smallHeld
  have hcache : (begun.issueFailed 1 context issue 0 smallHeld).touches [.sl] v := by simp [← hv]
  have hru : v.ru = (begun.issueFailed 1 context issue 0 smallHeld).ru := hcache .ru (by decide)
  have hled : v.led = (begun.issueFailed 1 context issue 0 smallHeld).led := hcache .led (by decide)
  have hpv : v.led.pools = begun.led.pools := by rw [hled, hpools]
  have hkv : v.ks = begun.ks := (show v.ks = _ from hcache .ks (by decide)).trans hks
  have hkey : v.slotServes v.ru.reg.fpkSlot.toNat useFingerprint (smallKey 3 0x0800 10) := by
    rw [hru, hreg]
    exact (State.useSlot_congr hkv _ _).trans begun_serves
  have hfind : (v.regFind fp).2 = some (entry, .stash 0) := by
    show (v.ru.reg.operate (.lookup fp)).1.find fp = _
    rw [hru, hreg]
    decide +kernel
  obtain ⟨hw, hs, hsp⟩ := admitTicketHere_seq (x := body) (bs := command.bytes) (tl := 16) (mode := 2) (by decide +kernel) (by decide)
    (by decide +kernel) (by decide +kernel) ha (State.fpk_ok hkey) (by rw [body_fp]; exact hfind) (late v hpv)
  have hran : (admitTicketHere command.bytes body begun).s.spn.ran = [] := by
    rw [hsp, show v.spn.ran = _ from hcache .ran (by decide), hspn, begun_ran]
  have hspin : spindled (admitBody false) body begun = admitTicketHere command.bytes body begun :=
    (spindled_none (by rw [body_here]; exact hran)).trans body_here
  refine ⟨_, exec_begun, ?_⟩
  rw [hspin, Out.finish_seq hw, hs, hru, hseq, begun_seq]

end AdmitBehindIssue

open AdmitBehindIssue in
/-- Refutes O13: the statement leaves out that the ticket's context has no run. An `ADMIT` under a context whose `ISSUE` is still in
the pipeline ends that run first (R191), which chains a record of its own before the admission's. -/
theorem not_registerAdmitsLooksUpAndEnrols : ¬ Obligations.RegisterAdmitsLooksUpAndEnrols := by
  intro h
  obtain ⟨-, h2, -⟩ := h command state (smallFetched command.pkt) fp entry (.stash 0) 3 smallPool (smallKey 3 0x0800 10)
    (by decide +kernel) serves
  obtain ⟨t, ht, -, hseq, -⟩ := h2 2 16 (by decide +kernel) (by decide +kernel) (Runs.of_check (by decide +kernel)) rfl
    (by decide +kernel) (by decide) (by decide) (by decide +kernel) (by decide +kernel) (by decide +kernel) (by decide +kernel)
    (by decide +kernel) (by decide +kernel) (by decide +kernel) (by decide +kernel)
    (by rw [authentic state_settles (by decide +kernel)]) (by decide +kernel) (by decide +kernel)
    (by decide +kernel) (by decide +kernel) (by decide +kernel) (by decide +kernel) (by decide +kernel) (fun h => absurd h (by decide))
  obtain ⟨u, hu, h2⟩ := chains_two
  have h0 : state.ru.jrn.seq = 0 := by decide +kernel
  cases hu.symm.trans ht
  omega

end Sys2Proof.Machine
end

section
/-! PROOFS. A checkpoint cut behind an accepted register operation (R114, R131). -/

namespace Sys2Proof.Machine

set_option Elab.async false

/-- The snapshot of a checkpoint holds the stash with every accepted operation done (R114). -/
theorem State.cut_stash (x : Ctx) (s : State) : ∃ k, (s.cut x).ru.ckpt = some k ∧ k.stash = s.ru.reg.settled.stash := by
  refine ⟨_, rfl, ?_⟩
  dsimp only
  rw [State.chain_reg]

theorem checkpointBody_cuts {x : Ctx} {s : State} {k : Slot} (hc : s.ru.ckpt = none) (hk : s.slotServes 3 useJournal k)
    (hr : s.room 1 = true) : checkpointBody x s = { s := s.cut x, cyc := 0, when_ := .later } := by
  rw [checkpointBody, hc, State.useSlot_ok hk]
  dsimp only
  rw [hr]
  rfl

/-- The snapshot that `CHECKPOINT` takes. -/
theorem checkpoint_snapshot {c : Cmd} {s t : State} {f : Fetched} {k : Slot} (h : Runs 0x0304 none c s f) (hc : s.ru.ckpt = none)
    (hk : s.slotServes 3 useJournal k) (hr : s.room 1 = true) (ht : exec (.checkpoint c) s = .next t) :
    ∃ v, t.ru.ckpt = some v ∧ v.stash = s.ru.reg.settled.stash := by
  have hb := checkpointBody_cuts (x := s.ctxRun 0x0304 none c f) (s := s.begun 0x0304 none c f) (by rw [State.begun_ru]; exact hc)
    ((State.useSlot_congr (State.begun_ks ..) 3 useJournal).trans hk) ((State.room_begun ..).trans hr)
  obtain ⟨u, hu, v, hv, hs⟩ : Completes (.checkpoint c) s fun t => ∃ v, t.ru.ckpt = some v ∧ v.stash = s.ru.reg.settled.stash := by
    refine completes_later h rfl hb rfl ?_
    obtain ⟨v, hv, hs⟩ := State.cut_stash (s.ctxRun 0x0304 none c f) (s.begun 0x0304 none c f)
    exact ⟨v, hv, by rw [hs, State.begun_ru]⟩
  cases hu.symm.trans ht
  exact ⟨v, hv, hs⟩

namespace CheckpointBehindFree

/-- An entry in the stash, and an operation accepted that frees it. -/
def entry : Entry := { freeEntry with fp := 1, state := stExternal, limit := 1 }
def command : Cmd := { pkt := smallPacket 0x0304 0 0 [] 0 4096, data := [] }
def state : State :=
  State.withPacket command.pkt
    { smallDevice with
      ks := { smallDevice.ks with slots := [(3, smallKey 3 0x1000 9)] }
      ru := { smallDevice.ru with reg := { smallDevice.ru.reg with stash := [(0, entry)], accepted := [.free 1] } } }

theorem serves : state.slotServes 3 useJournal (smallKey 3 0x1000 9) :=
  State.slotServes_of_slot (by rfl) (smallKey_check _ _ _) (by decide +kernel)

theorem stash_settled : state.ru.reg.settled.stash ≠ state.ru.reg.stash := by decide +kernel

end CheckpointBehindFree

open CheckpointBehindFree in
/-- Refutes O14: the snapshot's stash is said to be the stash as it stands, but every operation accepted before the cut is done first
(R114), so an accepted FREE of an entry in the stash takes it out of the snapshot. -/
theorem not_purgeCheckpointAndRebuild : ¬ Obligations.PurgeCheckpointAndRebuild := by
  intro h
  obtain ⟨-, -, hck⟩ := h.1 command state (smallFetched command.pkt) 0 smallPool (by decide +kernel)
  have hruns : Runs 0x0304 none command state (smallFetched command.pkt) := Runs.of_check (by decide +kernel)
  have hnone : state.ru.ckpt = none := by decide +kernel
  have hroom : state.room 1 = true := by decide +kernel
  obtain ⟨t, ht, -, -, x, hx, -, -, hstash, -⟩ := hck _ hruns hnone serves hroom
  obtain ⟨v, hv, hs⟩ := checkpoint_snapshot hruns hnone serves hroom ht
  cases hv.symm.trans hx
  exact stash_settled (hs.symm.trans hstash)

end Sys2Proof.Machine
end

section
/-! PROOFS. Register and checkpoint events (R65, R113, R114, R132, R133). -/

namespace Sys2Proof.Machine

set_option Elab.async false

section
variable {s : State}

/-- The read pair of the oldest accepted operation, in a register slot. -/
theorem readPair_next {op : RegOp} {rest : List RegOp} (hs : s.slotIs s.now 0 = true) (ha : s.ru.reg.accepted = op :: rest)
    (r : EccResult) {u : State} (hu : s.transferred (Config.dramRow 0 (bucketsOf (opFp op)).1)
      (Config.dramAddress 0 (bucketsOf (opFp op)).1) r = (true, u)) (hru : u.ru = s.ru) :
    readPair r s = { u with ru := { u.ru with reg :=
      (({ s.ru.reg with accepted := rest, ops := satAdd s.ru.reg.ops 1 } : Register).run op).1 } } := by
  have hn : s.ru.reg.nextBucket = some (bucketsOf (opFp op)).1 := by simp [Register.nextBucket, ha]
  simp only [readPair, hs, if_true, hn, hu, hru, ha]
  rfl

/-- Outside a register slot nothing is read. -/
theorem readPair_elsewhere (hs : s.slotIs s.now 0 = false) (r : EccResult) : readPair r s = s := by
  simp [readPair, hs]

/-- An arbiter's ports brought up to date send nothing. -/
theorem State.sent_sync (n : Nat) (s : State) : (s.sync n).sent = s.sent := by
  simp [State.sent]

theorem State.sent_image (o : Posted) (a b : Nat) (r : RegUnit) (q : Keeper) :
    o ∈ State.sent { ((s.post o).hashed a).admitted b with ru := r, kp := q } :=
  (State.sent_post o s o).mpr (.inr rfl)

/-- What the event leaves: the image posted, the snapshot with its root, its record on the way to the keeper die. -/
def State.rootFormed (k x : Ckpt) (o : Posted) (s : State) : State :=
  let u := ((s.post o).hashed treeBlocks).admitted imageBlocks
  State.sync 21 { u with ru := { u.ru with ckpt := some x }, kp := { u.kp with queue := u.kp.queue ++ [.root k.id x.record.bytes] } }

theorem rootFormedEvent_eq {k x : Ckpt} {chunks : List (Bytes × Bytes)} (hk : s.ru.ckpt = some k) (hr : k.root = none)
    (hc : chunks = k.chunks (ckptKey (s.journalKey.getD 0) k.id) s.node)
    (hx : x = { k with root := some (imageRoot (k.header s.node) chunks), staged := [] }) :
    rootFormedEvent s = s.rootFormed k x (.hostWrite k.outPtr (imageBytes (k.header s.node) chunks)) := by
  rw [rootFormedEvent, hk]
  dsimp only
  rw [if_neg (by rw [hr]; decide), hx, hc, State.rootFormed]

/-- A checkpoint whose root is formed: the image goes to the host, the record to the keeper die. -/
theorem rootFormed_leaves {k x : Ckpt} {chunks : List (Bytes × Bytes)} (hk : s.ru.ckpt = some k) (hr : k.root = none)
    (hc : chunks = k.chunks (ckptKey (s.journalKey.getD 0) k.id) s.node)
    (hx : x = { k with root := some (imageRoot (k.header s.node) chunks), staged := [] }) :
    (rootFormedEvent s).ru.ckpt = some x ∧ (rootFormedEvent s).kp.queue = s.kp.queue ++ [.root k.id x.record.bytes] ∧
      Posted.hostWrite k.outPtr (imageBytes (k.header s.node) chunks) ∈ (rootFormedEvent s).sent := by
  rw [rootFormedEvent_eq hk hr hc hx, State.rootFormed]
  generalize treeBlocks = a, imageBlocks = b
  have hu (o : Posted) : (((s.post o).hashed a).admitted b).kp = s.kp := by simp [State.hashed, State.admitted]
  refine ⟨?_, ?_, ?_⟩
  · rw [State.sync_ru]
  · rw [State.sync_kp, hu]
  · rw [State.sent_sync]
    exact State.sent_image _ _ _ _ _

end

/-- Settles O16: each event by what it writes. -/
theorem registerAndCheckpointEvents : Obligations.RegisterAndCheckpointEvents := by
  refine fun s => ⟨fun op => ⟨_, rfl, rfl⟩, ?_, ?_, ?_, ?_, ?_, ?_⟩
  · rintro op rest row g hs ha rfl rfl
    refine ⟨⟨_, rfl, ?_⟩, ⟨_, rfl, ?_⟩⟩
    · rw [readPair_next hs ha .clean rfl rfl]
      exact ⟨rfl, rfl⟩
    · rw [readPair_next hs ha .corrected rfl rfl]
      refine ⟨rfl, rfl, ?_⟩
      exact Tab.get_put _ _ _ _
  · exact fun hs r => ⟨_, rfl, readPair_elsewhere hs r⟩
  · intro b es rest hs hw
    have he : writeBackBucketEvent s =
        { s with ru := { s.ru with reg := { s.ru.reg with wbuf := rest, buckets := s.ru.reg.buckets.put b es } } } := by
      simp only [writeBackBucketEvent, hs, if_true, hw]
    refine ⟨_, rfl, ?_⟩
    rw [he]
    exact ⟨rfl, Tab.find_put _ _ _⟩
  · intro n p hn hs hp
    have he : writeThroughEvent n s = { s with led := { s.led with
        dram := s.led.dram.put n.toNat p, pendingWt := s.led.pendingWt.filter (· != n.toNat) } } := by
      simp only [writeThroughEvent, hn, hs, Bool.and_self, if_true, hp]
    refine ⟨_, rfl, ?_⟩
    rw [he]
    exact ⟨Tab.find_put _ _ _, by simp, rfl⟩
  · intro k u hk hs h1 h2 h3 h4 h5
    refine ⟨_, rfl, ?_⟩
    have h1' : ¬unitChunk u < k.leavesAt s.now := by omega
    have h2' : ¬1030 < unitChunk u := by omega
    have h4' : u ∉ k.staged := by simpa using h4
    simp [stagingEvent, hk, hs, h3, h1', h2', h4', h5]
  · exact fun k x chunks hk hr hc hx => ⟨_, rfl, rootFormed_leaves hk hr hc hx⟩

end Sys2Proof.Machine
end

section
/-! PROOFS. A card that leaves while an `EXPORT_CARD`'s first step is not durable (R373, R379). -/

namespace Sys2Proof.Machine

set_option Elab.async false

/-- A device whose card slot holds an `EXPORT_CARD` that waits for its first step. -/
def cardExporting : State := { State.reset with card := { CardUnit.reset with op := some (.exportDue 0 0) } }

theorem cardExporting_removed : (match exec (.cardDetectChange none) cardExporting with
    | .next t => t.card.op.isSome | _ => false) = true := by decide +kernel

/-- Refutes O12: a removal is said to leave the slot without an operation, but an `EXPORT_CARD` whose first step is not durable yet stays
there with the status that has ended it (R379). -/
theorem not_cardCommandsAndEvents : ¬ Obligations.CardCommandsAndEvents := by
  intro h
  obtain ⟨-, hremoval, -⟩ := h.2 cardExporting
  obtain ⟨t, ht, -, -, -, hop, -⟩ := hremoval
  have hsome := cardExporting_removed
  rw [ht] at hsome
  simp [hop] at hsome

end Sys2Proof.Machine
end

section
/-! PROOFS. Events of the seal pipeline (R179, R192, R193). -/

namespace Sys2Proof.Machine

set_option Elab.async false

/-! ## An arbiter brought up to date twice -/

/-- Requesters put one after another. -/
theorem Tab.get_foldl_put {α : Type} (v : Nat → α) (ids : List Nat) (t : Tab α) (i : Nat) (d : α) :
    (ids.foldl (fun t i => t.put i (v i)) t).get i d = if i ∈ ids then v i else t.get i d := by
  induction ids generalizing t with
  | nil => simp
  | cons j ids ih =>
    rw [List.foldl_cons, ih]
    by_cases hi : i ∈ ids
    · simp [hi]
    · by_cases hj : i = j
      · subst hj
        simp [hi]
      · simp [hi, hj, Tab.get_put_ne _ _ _ hj]

theorem Tab.mem_foldl_put {α : Type} (v : Nat → α) (ids : List Nat) (t : Tab α) {p : Nat × α}
    (h : p ∈ ids.foldl (fun t i => t.put i (v i)) t) : p.1 ∈ ids ∨ p ∈ t := by
  induction ids generalizing t with
  | nil => exact .inr h
  | cons j ids ih =>
    rcases ih _ h with hi | hi
    · exact .inl (List.mem_cons_of_mem _ hi)
    · rcases Tab.mem_put hi with rfl | ht
      · exact .inl (List.mem_cons_self ..)
      · exact .inr ht

theorem Requester.length_sync (stamp k : Nat) (r : Requester) : (r.sync stamp k).parked.length = k := by
  simp only [Requester.sync, List.length_append, List.length_drop, List.length_replicate]
  omega

/-- What the requesters ask does not depend on the arbiters. -/
theorem State.asks_setArbiter (m n : Nat) (a : Arbiter) (s : State) : (s.setArbiter m a).asks n = s.asks n := rfl

/-- The requesters that an arbiter has to bring up to date. -/
def Arbiter.stale (a : Arbiter) (asks : List Nat) : List Nat :=
  (asks ++ a.reqs.map Prod.fst).dedup.filter fun i => asks.count i != (a.req i).parked.length

theorem State.sync_stale {n : Nat} {s : State} {asks : List Nat} (h : s.asks n = some asks) :
    s.sync n = if ((s.arbiter n).stale asks).isEmpty then s else s.setArbiter n { s.arbiter n with
      reqs := ((s.arbiter n).stale asks).foldl (fun t i => t.put i (((s.arbiter n).req i).sync (s.stamp n) (asks.count i)))
        (s.arbiter n).reqs } := by
  rw [State.sync, h]
  rfl

/-- Nothing is left to bring up to date. -/
theorem Arbiter.stale_synced (a : Arbiter) (asks : List Nat) (stamp : Nat) :
    Arbiter.stale { a with reqs := (a.stale asks).foldl (fun t i => t.put i ((a.req i).sync stamp (asks.count i))) a.reqs } asks = [] := by
  rw [Arbiter.stale, List.filter_eq_nil_iff]
  intro i hi
  rw [bne_iff_ne, ne_eq, not_not]
  conv_rhs => rw [Arbiter.req, Tab.get_foldl_put fun i => (a.req i).sync stamp (asks.count i)]
  split
  · exact (Requester.length_sync ..).symm
  next hn =>
    by_contra hne
    refine hn (List.mem_filter.mpr ⟨List.mem_dedup.mpr (List.mem_append.mpr ?_), by simpa [Arbiter.req] using hne⟩)
    rcases List.mem_append.mp (List.mem_dedup.mp hi) with h | h
    · exact .inl h
    · obtain ⟨p, hp, rfl⟩ := List.mem_map.mp h
      rcases Tab.mem_foldl_put (fun i => (a.req i).sync stamp (asks.count i)) _ _ hp with h | h
      · exact absurd h hn
      · exact .inr (List.mem_map_of_mem h)

theorem State.sync_sync (n : Nat) (s : State) : (s.sync n).sync n = s.sync n := by
  cases h : s.asks n with
  | none => simp [State.sync, h]
  | some asks =>
    rw [State.sync_stale h]
    split
    next he => rw [State.sync_stale h, if_pos he]
    next =>
      rw [State.sync_stale ((State.asks_setArbiter ..).trans h), State.arbiter, State.setArbiter]
      simp only [Tab.get_put, Arbiter.stale_synced, List.isEmpty_nil, if_true]

/-! ## Runs and contexts -/

section
variable {s : State} {n : Nat} {r : SealRun} {k : SealCtx}

theorem State.ctx_of_runOf (h : s.runOf n = some r) : r.ctx = n := by simpa using List.find?_some h

theorem State.runOf_dropRun (n : Nat) (s : State) : (s.dropRun n).runOf n = none := by
  simp [State.runOf, State.dropRun, List.find?_eq_none]

theorem State.runOf_setRun (h : s.runOf n = some r) (q : SealRun) (hq : q.ctx = n) : (s.setRun q).runOf n = some q := by
  subst hq
  have hmap (l : List SealRun) : (l.find? (·.ctx == q.ctx)) = some r →
      (l.map fun p => if p.ctx = q.ctx then q else p).find? (·.ctx == q.ctx) = some q := by
    intro hl
    induction l with
    | nil => simp at hl
    | cons p l ih =>
      by_cases hp : p.ctx = q.ctx
      · simp [hp]
      · simp only [List.find?_cons, hp, List.map_cons, if_false] at hl ⊢
        simp only [beq_eq_false_iff_ne.mpr hp] at hl ⊢
        exact ih hl
  exact hmap _ h

/-- The next block of a run keeps its context. -/
theorem SealRun.nextBlock_ctx {r' : SealRun} {aad : Bool} {bs : Bytes} (h : r.nextBlock = some (r', aad, bs)) : r'.ctx = r.ctx := by
  unfold SealRun.nextBlock at h
  split at h
  · cases h
    rfl
  · split at h
    · cases h
      rfl
    · split at h
      · cases h
        rfl
      · cases h

/-- A run's next block enters the pipeline (R192). -/
theorem State.admitBlock_leaves {r' : SealRun} {aad : Bool} {bs : Bytes} (h : r.nextBlock = some (r', aad, bs)) :
    (s.admitBlock r).sl.pipe = s.sl.pipe ++ [(r.ctx, aad, bs)] ∧ (s.admitBlock r).runOf r.ctx = some r' ∧
      (s.admitBlock r).sl.blocks = s.sl.blocks + 1 ∧ (s.admitBlock r).sl.ctxs = s.sl.ctxs := by
  simp only [State.admitBlock, h, State.sync_sl, State.admitted, State.runOf]
  refine ⟨trivial, ?_, rfl, trivial⟩
  rw [List.find?_append, List.find?_eq_none.mpr (by simp)]
  simp [SealRun.nextBlock_ctx h]

/-- The block of the run whose turn it is enters the pipeline. -/
theorem blockAdmitEvent_turn (ht : s.sealTurn r) :
    ∃ u : State, u.sl = s.sl ∧ blockAdmitEvent r.ctx s = u.admitBlock r := by
  unfold State.sealTurn at ht
  obtain ⟨⟨i, a⟩, hch, hrun⟩ := Option.bind_eq_some_iff.mp ht
  refine ⟨(s.sync 14).grantTo 14 i a, by simp [State.grantTo], ?_⟩
  simp only [blockAdmitEvent]
  rw [ht]
  simp only [if_true, State.admitNext, State.sync_sync, hch, hrun]

/-- A block of authenticated data leaves the pipeline. -/
theorem State.blockOut_aad {bs : Bytes} {rest : List (Nat × Bool × Bytes)} (hr : s.runOf n = some r) (hk : s.sealCtx n = some k)
    (hp : s.sl.pipe = (n, true, bs) :: rest) :
    s.blockOut = ({ s with sl := { s.sl with pipe := rest } } : State).setCtx n (k.absorb bs) := by
  have hr' : ({ s with sl := { s.sl with pipe := rest } } : State).runOf n = some r := hr
  have hk' : ({ s with sl := { s.sl with pipe := rest } } : State).sealCtx n = some k := hk
  simp only [State.blockOut, hp, hr', hk', if_true]

/-- The ciphertext of a block on its way to the host, and its run one block on. -/
def State.cipherOut (r : SealRun) (k : SealCtx) (bs : Bytes) (rest : List (Nat × Bool × Bytes)) (s : State) : State :=
  State.setRun { r with outPtr := r.outPtr + BitVec.ofNat 64 (k.seals bs).2.length }
    (State.setCtx r.ctx (k.seals bs).1 (State.post (.hostWrite r.outPtr (k.seals bs).2) { s with sl := { s.sl with pipe := rest } }))

/-- A block of data leaves the pipeline sealed. -/
theorem State.blockOut_data {bs : Bytes} {rest : List (Nat × Bool × Bytes)} (hr : s.runOf n = some r) (hk : s.sealCtx n = some k)
    (hkind : r.kind = .final ∨ r.kind = .data) (hp : s.sl.pipe = (n, false, bs) :: rest) :
    s.blockOut = s.cipherOut r k bs rest := by
  have hr' : ({ s with sl := { s.sl with pipe := rest } } : State).runOf n = some r := hr
  have hk' : ({ s with sl := { s.sl with pipe := rest } } : State).sealCtx n = some k := hk
  have hn := State.ctx_of_runOf hr
  subst hn
  rcases hkind with h | h <;> simp only [State.blockOut, hp, hr', hk', h, Bool.false_eq_true, if_false, State.cipherOut]

theorem State.cipherOut_leaves (hr : s.runOf n = some r) (bs : Bytes) (rest : List (Nat × Bool × Bytes)) :
    (s.cipherOut r k bs rest).sl.pipe = rest ∧ (s.cipherOut r k bs rest).sealCtx n = some (k.seals bs).1 ∧
      Posted.hostWrite r.outPtr (k.seals bs).2 ∈ (s.cipherOut r k bs rest).sent ∧
      (s.cipherOut r k bs rest).runOf n = some { r with outPtr := r.outPtr + BitVec.ofNat 64 (k.seals bs).2.length } ∧
      ∀ q, (s.cipherOut r k bs rest).queue q = s.queue q := by
  have hn := State.ctx_of_runOf hr
  subst hn
  refine ⟨?_, ?_, ?_, ?_, ?_⟩
  · simp [State.cipherOut, State.setRun, State.setCtx]
  · simp [State.cipherOut, State.setRun, State.setCtx, State.sealCtx]
  · exact (State.sent_post (.hostWrite r.outPtr (k.seals bs).2) { s with sl := { s.sl with pipe := rest } } _).mpr (.inr rfl)
  · refine State.runOf_setRun (r := r) ?_ _ rfl
    rw [← hr]
    simp [State.runOf, State.setCtx]
  · intro q
    simp [State.cipherOut, State.setRun, State.setCtx, State.queue]

/-- A command that is not `SEAL_DATA` goes on once its block has left. -/
theorem State.dataDone_other {u : State} (hr : u.runOf n = some r) (hkind : r.kind ≠ .data) : u.dataDone n = u := by
  have hk : (r.kind == SealKind.data) = false := beq_eq_false_iff_ne.mpr hkind
  unfold State.dataDone
  rw [hr]
  split
  next h h' =>
    cases h
    rw [hk]
    rfl
  · rfl

/-- The tag of a `SEAL_FINAL` is formed and its command answered (R193). -/
theorem State.formTag_final (hr : s.runOf n = some r) (hk : r.kind = .final) :
    s.formTag r k = State.postReply r.h (State.setCtx n (sealEnd true k) (State.post (.hostWrite r.outPtr k.tag) (s.dropRun n))) := by
  have hn := State.ctx_of_runOf hr
  subst hn
  simp only [State.formTag, hk]

/-- A `SEAL_DATA` whose last block has left is answered (R193). -/
theorem State.formTag_data (hr : s.runOf n = some r) (hk : r.kind = .data) :
    s.formTag r k = State.postReply r.h (State.setCtx n (sealEnd false k) (s.dropRun n)) := by
  have hn := State.ctx_of_runOf hr
  subst hn
  simp only [State.formTag, hk]

/-- What a reply posted leaves behind it. -/
theorem State.sent_postReply (h : Held) (s : State) (hv : h.via = .host) {x : Posted} (hx : x ∈ s.sent) : x ∈ (s.postReply h).sent := by
  rw [State.postReply_host h s hv, State.sent_mssDone]
  exact State.sent_postHost h s x hx

/-- The last block of a `SEAL_DATA` leaves, and the command is answered. -/
theorem blockOutEvent_last {bs : Bytes} {f : Fetched} (hr : s.runOf n = some r) (hk : s.sealCtx n = some k) (hkind : r.kind = .data)
    (hp : s.sl.pipe = [(n, false, bs)]) (hj : r.j0 = false) (ha : r.aad = []) (hd : r.data = []) (hv : r.h.via = .host)
    (hf : (s.queue r.h.q).inflight.find? (·.id == r.h.id) = some f) (ht : r.h.tag = f.pkt.tag) :
    (blockOutEvent s).sl.pipe = [] ∧ (blockOutEvent s).runOf n = none ∧
      (blockOutEvent s).sealCtx n = some (sealEnd false (k.seals bs).1) ∧
      Posted.hostWrite r.outPtr (k.seals bs).2 ∈ (blockOutEvent s).sent ∧ (blockOutEvent s).answers r.h.q f r.h.status r.h.inl := by
  obtain ⟨h1, h2, h3, h4, h5⟩ := State.cipherOut_leaves (k := k) hr bs []
  generalize hu : s.cipherOut r k bs [] = u at h1 h2 h3 h4 h5
  have hdr : u.drained { r with outPtr := r.outPtr + BitVec.ofNat 64 (k.seals bs).2.length } = true := by
    simp [State.drained, hj, ha, hd, h1]
  have he : blockOutEvent s = State.postReply r.h (State.setCtx n (sealEnd false (k.seals bs).1) (u.dropRun n)) := by
    simp only [blockOutEvent, hp]
    rw [State.blockOut_data hr hk (.inr hkind) hp, hu, State.dataDone, h4, h2]
    dsimp only
    rw [if_pos (by rw [hdr, hkind]; rfl)]
    exact State.formTag_data h4 hkind
  rw [he]
  refine ⟨?_, ?_, ?_, ?_, ?_⟩
  · simp [State.setCtx, State.dropRun, h1]
  · have hrun (v : State) : (v.postReply r.h).runOf n = v.runOf n := by simp [State.runOf]
    rw [hrun]
    exact State.runOf_dropRun n u
  · simp [State.sealCtx, State.setCtx]
  · exact State.sent_postReply _ _ hv h3
  · exact State.postReply_answers _ _ _ hv (by rw [← hf, ← h5]; rfl) ht

/-- The tag of a drained `SEAL_FINAL` is formed. -/
theorem tagFormedEvent_final {f : Fetched} (hr : s.runOf n = some r) (hk : s.sealCtx n = some k) (hd : s.drained r = true)
    (hkind : r.kind = .final) (hv : r.h.via = .host) (hf : (s.queue r.h.q).inflight.find? (·.id == r.h.id) = some f)
    (ht : r.h.tag = f.pkt.tag) :
    (tagFormedEvent n s).sealCtx n = some (sealEnd true k) ∧ Posted.hostWrite r.outPtr k.tag ∈ (tagFormedEvent n s).sent ∧
      (tagFormedEvent n s).runOf n = none ∧ (tagFormedEvent n s).answers r.h.q f r.h.status r.h.inl := by
  have he : tagFormedEvent n s =
      State.postReply r.h (State.setCtx n (sealEnd true k) (State.post (.hostWrite r.outPtr k.tag) (s.dropRun n))) := by
    simp only [tagFormedEvent, hr, hk]
    rw [if_pos (by rw [hd, hkind]; rfl)]
    exact State.formTag_final hr hkind
  rw [he]
  refine ⟨?_, ?_, ?_, ?_⟩
  · simp [State.sealCtx, State.setCtx]
  · refine State.sent_postReply _ _ hv ?_
    exact (State.sent_post (.hostWrite r.outPtr k.tag) (s.dropRun n) _).mpr (.inr rfl)
  · have hrun : ∀ v : State, (v.postReply r.h).runOf n = v.runOf n := fun v => by simp [State.runOf]
    rw [hrun, ← State.runOf_dropRun n s]
    simp [State.runOf, State.setCtx]
  · exact State.postReply_answers _ _ _ hv (by rw [← hf]; simp [State.setCtx, State.dropRun, State.queue]) ht

/-- A fill brings a context's record into the cache (R179). -/
theorem fillEvent_clean (hf : s.sl.fills.contains n = true) (hs : s.slotIs (s.now - 14) 1 = true) :
    fillEvent n .clean s = ({ s with sl := { s.sl with fills := s.sl.fills.filter (· != n) } } : State).cacheLine n := by
  simp only [fillEvent, hf, hs, Bool.not_true, Bool.or_self, Bool.false_eq_true, if_false, State.transferred, State.fillDone, if_true]

theorem fills_filtered (l : List Nat) (n : Nat) : (l.filter (· != n)).contains n = false := by
  simp

end

/-- Settles O20: each event by what it leaves of the pipeline, the runs and the contexts. -/
theorem sealPipelineEvents : Obligations.SealPipelineEvents := by
  intro s n hn
  have hin : ¬40960 ≤ n := by omega
  refine ⟨?_, ?_, ?_, ?_, ?_, ⟨_, rfl, rfl⟩⟩
  · rintro r r' aad bs ht rfl hb
    obtain ⟨u, hu, he⟩ := blockAdmitEvent_turn ht
    refine ⟨blockAdmitEvent r.ctx s, if_neg hin, ?_⟩
    obtain ⟨h1, h2, h3, h4⟩ := State.admitBlock_leaves (s := u) hb
    rw [he]
    exact ⟨by rw [h1, hu], h2, by rw [h3, hu], by rw [h4, hu]⟩
  · intro r k bs rest hr hk hkind
    have hnd : r.kind ≠ .data := by simp [hkind]
    refine ⟨fun hp => ⟨_, rfl, ?_⟩, fun hp => ⟨_, rfl, ?_⟩⟩
    · simp only [blockOutEvent, hp]
      have hr' : (({ s with sl := { s.sl with pipe := rest } } : State).setCtx n (k.absorb bs)).runOf n = some r := hr
      rw [State.blockOut_aad hr hk hp, State.dataDone_other hr' hnd]
      exact ⟨rfl, by simp [State.sealCtx, State.setCtx], rfl⟩
    · obtain ⟨h1, h2, h3, h4, -⟩ := State.cipherOut_leaves (k := k) hr bs rest
      simp only [blockOutEvent, hp]
      rw [State.blockOut_data hr hk (.inl hkind) hp, State.dataDone_other h4 hnd]
      exact ⟨h1, h2, h3, h4⟩
  · exact fun r k bs f hr hk hkind hp hj ha hd hv hf ht => ⟨_, rfl, blockOutEvent_last hr hk hkind hp hj ha hd hv hf ht⟩
  · exact fun r k f hr hk hd hkind hv hf ht => ⟨_, if_neg hin, tagFormedEvent_final hr hk hd hkind hv hf ht⟩
  · intro hf hs
    refine ⟨fun hl => ⟨_, if_pos hn, ?_⟩, fun v hl hv => ⟨_, if_pos hn, ?_⟩⟩
    · rw [fillEvent_clean hf hs, State.cacheLine, if_pos hl]
      exact ⟨fills_filtered _ _, rfl, rfl, rfl⟩
    · have hv' : ({ s with sl := { s.sl with fills := s.sl.fills.filter (· != n) } } : State).victim = some v := hv
      have hl' : ¬s.sl.cache.length < 4096 := by omega
      rw [fillEvent_clean hf hs, State.cacheLine, if_neg hl', hv']
      exact ⟨fills_filtered _ _, rfl, rfl, rfl⟩

end Sys2Proof.Machine
end

section
/-! PROOFS. A key made from the digest of another domain's context (R210). -/

namespace Sys2Proof.Machine

set_option Elab.async false

namespace KeyOfOtherDomain

/-- `HASH_TO_KEY` of context 0, with no data. -/
def command : Cmd := { pkt := smallPacket 0x0605 0 0 [] 0 0, data := [] }

/-- The device with that context, of domain 5, between two blocks; the command comes on queue 0, of domain 0. -/
def state : State := State.withPacket command.pkt (smallDevice.setDig 0 { idleDig 5 false with st := 2 })

/-- The slot taken is the lowest the policy lets it take. -/
def slot : Nat := (state.freeSlot (smallFetched command.pkt).keys).getD 0

theorem slot_free : state.freeSlot (smallFetched command.pkt).keys = some slot := by decide +kernel

theorem key_domain : (match exec (.hashToKey command) state with
    | .next t => (t.slot slot).any fun v => v.attr.dom == 5 | _ => false) = true := by decide +kernel

end KeyOfOtherDomain

open KeyOfOtherDomain in
/-- Refutes O21: the key that `HASH_TO_KEY` makes belongs to the domain of the context (R210), which the statement takes for the
queue's without a hypothesis that says so. -/
theorem not_digestsAreComputed : ¬ Obligations.DigestsAreComputed := by
  intro h
  obtain ⟨-, -, -, hopen⟩ := h.1 command state (smallFetched command.pkt) 0 (by decide +kernel) (by decide) (by decide +kernel)
  obtain ⟨-, -, hblocks⟩ := hopen rfl (by decide +kernel)
  obtain ⟨-, -, hkey⟩ := hblocks ⟨rfl, by decide +kernel⟩
  obtain ⟨t, ht, -, -, v, hv, -, -, -, hdom, -⟩ := hkey _ slot _ (Runs.of_check (by decide +kernel)) rfl (.inl (by decide +kernel))
    slot_free rfl
  have hkey := key_domain
  rw [ht] at hkey
  have hqueue : (state.queue command.q).dom = 0 := by decide +kernel
  simp [hv, hdom, hqueue] at hkey

end Sys2Proof.Machine
end

section
/-! PROOFS. A signature that fails its verification while its packet waits for the spindle's return (R156, R262). -/

namespace Sys2Proof.Machine

set_option Elab.async false

/-- `SIGN` asks for its job on a signing spindle. -/
theorem signBody_runs {x : Ctx} {s : State} {slot : Slot} {k : SignKey} (hm : x.readFailed = false)
    (hs : s.slotServes (hIndex x.c.pkt.handleA) (if x.c.pkt.byteAt 32 = 0 then useSign else useSignDigest) slot)
    (hk : signKey s slot = some k) :
    (signBody x s).when_ = .later ∧
      (signBody x s).s = (s.hashed (digestBlocks (x.c.pkt.byteAt 32) x.data.length)).runJob
        { prog := .sign k.cv (digestOf (x.c.pkt.byteAt 32) k.z x.data) k.d 0 k.qx k.qy (lenVerify k.num k.cv.w)
          len := lenSign k.num k.cv.w, what := .sign
          h := x.held 0 (120 + 17 * digestBlocks (x.c.pkt.byteAt 32) x.data.length + lenSign k.num k.cv.w + lenVerify k.num k.cv.w) 0
            (zeros (2 * k.cv.bytes))
          cyc := 120 + 17 * digestBlocks (x.c.pkt.byteAt 32) x.data.length + lenSign k.num k.cv.w + lenVerify k.num k.cv.w + x.c.waits.total
          glitch := x.c.glitch, yielded := false } x.c.async := by
  simp only [signBody, withData, hm, Bool.false_eq_true, if_false, State.useSlot_ok hs, hk]
  exact ⟨trivial, trivial⟩

namespace SignWhileReturning

/-- A curve of 19 points: y² = x³ + 2x + 2 over the field of 17, with the base point (5, 1). -/
def curve : Curve := { w := 8, p := 17, a := 2, b := 2, gx := 5, gy := 1, n := 19 }

/-- The key 2 on that curve, with its public point (6, 3). -/
def signer : Slot :=
  let k : Slot :=
    { s0 := BitVec.ofNat 512 (2 <<< 504), s1 := 0, q := pointOf 8 6 3, z := 0, st := .valid
      attr := { typ := 5, usage := 3, curve := 1, dom := 0, parent := 0, parentGen := 0, lineage := 0, lineageGen := 0, origin := 1
                kcv := 0 }
      icv := 0, loaded := 0, id := [], domGen := 0 }
  { k with icv := k.check }

theorem signer_check : signer.check = signer.icv := by simp only [signer, Slot.check]

def key : SignKey := { cv := curve, num := 1, d := 2, qx := 6, qy := 3, z := 0 }

/-- `SIGN` of the digest 6, with a fault injected into its output latch. -/
def command : Cmd :=
  { pkt := smallPacket 0x0501 0x02000014 0 [(32, 1)] 32 2, data := beBytes 32 6, glitch := 1 }

/-- The reply of the same packet, taken for that of a `UNIT_SERVICE` that returns spindle 0. -/
def waiting : Held := { smallHeld with id := 5, tag := 7 }

/-- The device with its spindles in service, entropy in spindle 0, the key in slot 20, and that reply waiting. -/
def state : State :=
  State.withPacket command.pkt
    { smallDevice with
      ks := { smallDevice.ks with slots := [(20, signer)] }
      arb := { smallDevice.arb with returning := [(spindleCode 0, waiting)] }
      spn := { SpindleUnit.reset with
        curves := [(1, { cv := curve, valid := true })]
        sp := (Vector.replicate 40 { resetSpindle with svc := .inService }).set 0
          { resetSpindle with svc := .inService, ent := [1, 5, 7, 9] } } }

def signature : SignOut := signatureOf key (digestOf 1 0 command.bytes) ((state.fillEntropy 0).spindle 0).ent

theorem runs : Runs 0x0501 none command state (smallFetched command.pkt) := Runs.of_check (by decide +kernel)

theorem serves : state.slotServes (hIndex command.pkt.handleA) useSignDigest signer :=
  State.slotServes_of_slot (by rfl) signer_check (by decide +kernel)

/-- The packet taken, the context of its body, and the job it asks for. -/
def begun : State := state.begun 0x0501 none command (smallFetched command.pkt)
def body : Ctx := state.ctxRun 0x0501 none command (smallFetched command.pkt)
def job : Job :=
  { prog := .sign key.cv (digestOf (body.c.pkt.byteAt 32) key.z body.data) key.d 0 key.qx key.qy (lenVerify key.num key.cv.w)
    len := lenSign key.num key.cv.w, what := .sign
    h := body.held 0 (120 + 17 * digestBlocks (body.c.pkt.byteAt 32) body.data.length + lenSign key.num key.cv.w + lenVerify key.num key.cv.w)
      0 (zeros (2 * key.cv.bytes))
    cyc := 120 + 17 * digestBlocks (body.c.pkt.byteAt 32) body.data.length + lenSign key.num key.cv.w + lenVerify key.num key.cv.w +
      body.c.waits.total
    glitch := body.c.glitch, yielded := false }

/-- A reply with the status of a signature that fails its verification. -/
def selfCheck (o : Posted) : Bool := match o with
  | .reply _ _ r => r.status == stSelfCheck
  | _ => false

theorem no_selfCheck : (((begun.hashed (digestBlocks (body.c.pkt.byteAt 32) body.data.length)).runJob job body.c.async).sent.any selfCheck) = false := by
  decide +kernel

theorem begun_serves : begun.slotServes (hIndex body.c.pkt.handleA) (if body.c.pkt.byteAt 32 = 0 then useSign else useSignDigest) signer := by
  have hslot : hIndex body.c.pkt.handleA = hIndex command.pkt.handleA := by decide +kernel
  rw [if_neg (by decide +kernel), hslot]
  exact (State.useSlot_congr (State.begun_ks ..) _ _).trans serves

/-- No reply tells of the failed signature. -/
theorem sends_other : ∃ t, exec (.sign command) state = .next t ∧ t.sent.any selfCheck = false := by
  obtain ⟨hw, hs⟩ := signBody_runs (x := body) (s := begun) (slot := signer) (k := key) (by decide +kernel) begun_serves (by decide +kernel)
  obtain ⟨t, ht, hsent⟩ : Completes (.sign command) state fun t => t.sent.any selfCheck = false := by
    refine completes_later runs rfl rfl hw ?_
    show ((signBody body begun).s.sent.any selfCheck) = false
    rw [hs]
    exact no_selfCheck
  exact ⟨t, ht, hsent⟩

end SignWhileReturning

open SignWhileReturning in
/-- Refutes O22: a signature that fails its verification takes its spindle to the test, which first answers a `UNIT_SERVICE` that
waits for that spindle's return (R262). Nothing keeps the reply that waits there from being the packet's own, and then `SIGN` is not
answered with `STATUS_SIGN_SELF_CHECK_FAIL`. -/
theorem not_signaturesAndBigNumbers : ¬ Obligations.SignaturesAndBigNumbers := by
  intro h
  obtain ⟨hsign, -⟩ := h.1 command state (smallFetched command.pkt) signer key 1 0 (by decide +kernel) rfl (by decide +kernel)
  obtain ⟨-, hnow⟩ := hsign _ rfl runs serves (by decide +kernel) (by decide +kernel)
  obtain ⟨-, hfail⟩ := hnow 8 signature _ _ rfl (by decide +kernel) (by decide +kernel) (by decide +kernel) (by decide +kernel) rfl
    (by decide +kernel) rfl rfl
  obtain ⟨t, ht, ⟨r, hr, -, hstatus, -⟩, -⟩ := hfail (by decide +kernel)
  obtain ⟨u, hu, hnone⟩ := sends_other
  cases hu.symm.trans ht
  have hany : t.sent.any selfCheck = true := List.any_eq_true.mpr ⟨_, hr, by simp [selfCheck, hstatus]⟩
  exact absurd (hnone.symm.trans hany) (by decide)

end Sys2Proof.Machine
end

section
/-! PROOFS. The sequencer's instructions: jumps, words that enter and leave a spindle, the faults of a job, and the codes. -/

namespace Sys2Proof.Machine

set_option Elab.async false

/-! ## What a fault leaves of its spindle -/

section
variable {n m : Nat} {s : State}

theorem State.spindle_setSpindle_ne (h : m ≠ n) (p : Spindle) : (s.setSpindle m p).spindle n = s.spindle n := by
  simp [State.spindle, State.setSpindle, List.getD_eq_getElem?_getD, List.getElem?_set_ne h]

theorem State.spindle_congr {t : State} (h : t.spn = s.spn) (n : Nat) : t.spindle n = s.spindle n := by rw [State.spindle, h]; rfl

theorem State.spindle_drawn (k : Nat) : (s.drawn k).spindle n = s.spindle n := rfl

theorem State.spindle_setParked (b : Bool) (js : List Job) : (s.setParked b js).spindle n = s.spindle n := by
  cases b <;> rfl

theorem State.spindle_fillEntropy_ne (h : m ≠ n) : (s.fillEntropy m).spindle n = s.spindle n := by
  unfold State.fillEntropy
  dsimp only
  split
  · rw [State.spindle_drawn, State.spindle_setSpindle_ne h]
  · rfl

theorem State.spindle_startJob_ne (h : m ≠ n) (j : Job) : (s.startJob m j).spindle n = s.spindle n := by
  unfold State.startJob
  dsimp only
  rw [State.spindle_setSpindle_ne h]
  split
  · exact State.spindle_fillEntropy_ne h
  · rfl

theorem lowestFrom_sound {f : Nat → Bool} {fuel k r : Nat} (h : lowestFrom f fuel k = some r) : f r = true := by
  induction fuel generalizing k with
  | zero => cases h
  | succ fuel ih =>
    rw [lowestFrom] at h
    split at h
    next hf => exact Option.some.inj h ▸ hf
    next => exact ih h

/-- A job is started on an idle spindle only. -/
theorem State.idle_of_idleFor {g : Prog} (h : s.idleFor g = some m) : (s.spindle m).idle = true := by
  unfold State.idleFor State.idleSpindle at h
  split at h
  · have hm := lowestFrom_sound h
    exact (Bool.and_eq_true_iff.mp hm).1
  · split at h <;> exact lowestFrom_sound h

/-- What granting a parked job is: nothing, or the start of a job on an idle spindle. -/
theorem State.grantParked_cases (k : Bool) (s : State) :
    s.grantParked k = s ∨ ∃ i a js j, ∃ m, (s.spindle m).idle = true ∧
      s.grantParked k = (((s.sync (spindleArb k)).grantTo (spindleArb k) i a).setParked k js).startJob m j := by
  unfold State.grantParked
  split
  next i a _ =>
    dsimp only
    split
    next j _ =>
      split
      next m hm =>
        split
        · exact .inl rfl
        · exact .inr ⟨i, a, _, j, m, State.idle_of_idleFor hm, rfl⟩
      next => exact .inl rfl
    next => exact .inl rfl
  next => exact .inl rfl

/-- A spindle that is not in service is not given a parked job. -/
theorem State.spindle_grantParked (h : (s.spindle n).svc ≠ .inService) (k : Bool) : (s.grantParked k).spindle n = s.spindle n := by
  obtain he | ⟨i, a, js, j, m, hm, he⟩ := State.grantParked_cases k s
  · rw [he]
  · have hne : m ≠ n := by
      rintro rfl
      simp [Spindle.idle, h] at hm
    rw [he, State.spindle_startJob_ne hne, State.spindle_setParked]
    exact State.spindle_congr (by simp) n

theorem State.spindle_leaveDone (m : Nat) : (s.leaveDone m).spindle n = s.spindle n := by
  unfold State.leaveDone
  dsimp only
  split
  · split
    · exact State.spindle_congr (by simp) n
    · rfl
  · rfl

theorem State.spindle_serviceChange (code cause : Nat) (b : Bool) : (s.serviceChange code cause b).spindle n = s.spindle n :=
  State.spindle_congr (by simp [State.serviceChange]) n

theorem State.spindle_returned (code : Nat) (b : Bool) : (s.returned code b).spindle n = s.spindle n := by
  unfold State.returned
  split
  · rfl
  · exact State.spindle_congr (by simp) n

theorem State.spindle_toTest (hn : n < 40) (cause : Nat) :
    (s.toTest n cause).spindle n = { s.spindle n with svc := .testing, why := BitVec.ofNat 3 cause } := by
  have h : (s.toTest n cause).spindle n = (((s.setSpindle n
      { s.spindle n with svc := .testing, why := BitVec.ofNat 3 cause }).serviceChange (spindleCode n) cause false).returned
        (spindleCode n) false).spindle n := rfl
  rw [h, State.spindle_returned, State.spindle_serviceChange]
  exact State.spindle_setSpindle _ _ hn

/-- A spindle out of service that is freed is cleared. -/
theorem State.spindle_freeSpindle (hn : n < 40) (h : (s.spindle n).svc ≠ .inService) :
    (s.freeSpindle n).spindle n =
      { s.spindle n with lane := clearLane, out := Vector.replicate 4 0, keyOp := 0, job := none
                         restoring := (s.spindle n).shadow.isSome } := by
  unfold State.freeSpindle
  dsimp only
  have hs := State.spindle_setSpindle (s := s) (p := { s.spindle n with
    lane := clearLane, out := Vector.replicate 4 0, keyOp := 0, job := none, restoring := (s.spindle n).shadow.isSome }) hn
  generalize s.setSpindle n _ = u at hs ⊢
  have h1 := State.spindle_grantParked (s := u) (n := n) (by rw [hs]; exact h) true
  have h2 := State.spindle_grantParked (s := u.grantParked true) (n := n) (by rw [h1, hs]; exact h) false
  rw [State.spindle_leaveDone, h2, h1, hs]

/-! ## Which units a fault takes out of service -/

theorem State.isOut_congr {t : State} (h : t.arb.out = s.arb.out) (k : Nat) : t.isOut k = s.isOut k := by rw [State.isOut, h]; rfl

theorem State.out_fillEntropy (m : Nat) : (s.fillEntropy m).arb.out = s.arb.out := by
  unfold State.fillEntropy
  dsimp only
  split <;> rfl

theorem State.out_startJob (m : Nat) (j : Job) : (s.startJob m j).arb.out = s.arb.out := by
  unfold State.startJob
  dsimp only
  split
  · exact State.out_fillEntropy m
  · rfl

theorem State.out_setArbiter (m : Nat) (a : Arbiter) : (s.setArbiter m a).arb.out = s.arb.out := rfl

theorem State.out_sync (m : Nat) : (s.sync m).arb.out = s.arb.out := by
  unfold State.sync
  split
  · rfl
  · dsimp only
    split <;> rfl

theorem State.out_setParked (b : Bool) (js : List Job) : (s.setParked b js).arb.out = s.arb.out := by
  cases b <;> rfl

theorem State.out_grantParked (k : Bool) : (s.grantParked k).arb.out = s.arb.out := by
  obtain he | ⟨i, a, js, j, m, -, he⟩ := State.grantParked_cases k s
  · rw [he]
  · rw [he, State.out_startJob, State.out_setParked, State.grantTo, State.out_setArbiter, State.out_sync]

theorem State.out_leaveDone (m : Nat) : (s.leaveDone m).arb.out = s.arb.out := by
  unfold State.leaveDone
  dsimp only
  split
  · split
    · rw [State.postReply_arb]
    · rfl
  · rfl

theorem State.out_freeSpindle (m : Nat) : (s.freeSpindle m).arb.out = s.arb.out := by
  unfold State.freeSpindle
  dsimp only
  rw [State.out_leaveDone, State.out_grantParked, State.out_grantParked]
  rfl

theorem State.isOut_toTest (cause : Nat) (hn : n < 40) : (s.toTest n cause).isOut (spindleCode n) = true := by
  have hout : (s.toTest n cause).arb.out = setBit s.arb.out (spindleCode n) true := by
    have h : (s.toTest n cause).arb.out = (((s.setSpindle n
        { s.spindle n with svc := .testing, why := BitVec.ofNat 3 cause }).serviceChange (spindleCode n) cause false).returned
          (spindleCode n) false).arb.out := rfl
    rw [h]
    unfold State.returned
    split
    · simp [State.serviceChange, State.setSpindle]
    · rw [State.postReply_arb]
      simp [State.serviceChange, State.setSpindle]
  rw [State.isOut, hout]
  exact getLsbD_setBit s.arb.out (spindleCode n) true (by unfold spindleCode; omega)

/-! ## What stays sent -/

theorem State.sent_startJob (m : Nat) (j : Job) : (s.startJob m j).sent = s.sent := by
  unfold State.startJob State.fillEntropy
  dsimp only
  split
  · split <;> rfl
  · rfl

theorem State.sent_setParked (b : Bool) (js : List Job) : (s.setParked b js).sent = s.sent := by
  cases b <;> rfl

theorem State.sent_grantParked (k : Bool) : (s.grantParked k).sent = s.sent := by
  obtain he | ⟨i, a, js, j, m, -, he⟩ := State.grantParked_cases k s
  · rw [he]
  · rw [he, State.sent_startJob, State.sent_setParked]
    exact State.sent_sync _ s

/-- A reply, whichever way it goes, leaves what was sent before. -/
theorem State.sent_grows_postReply (h : Held) {x : Posted} (hx : x ∈ s.sent) : x ∈ (s.postReply h).sent := by
  cases hv : h.via with
  | host => exact State.sent_postReply h s hv hx
  | smbus =>
    unfold State.postReply
    rw [hv]
    dsimp only
    split
    · simp only [State.sent, List.mem_append] at hx ⊢
      tauto
    · exact hx
  | spi =>
    unfold State.postReply
    rw [hv]
    dsimp only
    split <;> exact hx

theorem State.sent_grows_returned (code : Nat) (b : Bool) {x : Posted} (hx : x ∈ s.sent) : x ∈ (s.returned code b).sent := by
  unfold State.returned
  split
  · exact hx
  · exact State.sent_grows_postReply _ hx

theorem State.sent_grows_leaveDone (m : Nat) {x : Posted} (hx : x ∈ s.sent) : x ∈ (s.leaveDone m).sent := by
  unfold State.leaveDone
  dsimp only
  split
  · split
    · exact State.sent_grows_postReply _ hx
    · exact hx
  · exact hx

theorem State.sent_grows_raise (bit : Nat) {x : Posted} (hx : x ∈ s.sent) : x ∈ (s.raise bit).sent := by
  unfold State.raise
  dsimp only
  split
  · exact State.sent_sendMsix _ _ x hx
  · exact hx

theorem State.sent_grows_serviceChange (code cause : Nat) (b : Bool) {x : Posted} (hx : x ∈ s.sent) :
    x ∈ (s.serviceChange code cause b).sent := by
  have hlog (u : State) (c : BitVec 16) (p v : Byte) (d : Bytes) : (u.log c p v d).sent = u.sent := by simp [State.sent]
  rw [State.serviceChange, hlog]
  exact State.sent_grows_raise evUnitSvc hx

theorem State.sent_grows_toTest (cause : Nat) {x : Posted} (hx : x ∈ s.sent) : x ∈ (s.toTest n cause).sent := by
  have h : x ∈ ((s.setSpindle n { s.spindle n with svc := .testing, why := BitVec.ofNat 3 cause }).serviceChange
      (spindleCode n) cause false).sent := State.sent_grows_serviceChange _ _ _ hx
  exact State.sent_grows_returned (spindleCode n) false h

theorem State.sent_grows_freeSpindle (m : Nat) {x : Posted} (hx : x ∈ s.sent) : x ∈ (s.freeSpindle m).sent := by
  unfold State.freeSpindle
  dsimp only
  apply State.sent_grows_leaveDone
  rw [State.sent_grantParked, State.sent_grantParked]
  exact hx

/-- The failure of a job that is no `ISSUE` is its reply. -/
theorem State.failJob_of_plain {j : Job} (hw : ∀ r, j.what ≠ .issue r) (st : BitVec 16) (cyc : Nat) (s : State) :
    s.failJob j st cyc = s.postReply (j.h.fail st cyc) := by
  unfold State.failJob
  split
  next r hr => exact absurd hr (hw r)
  next => rfl

theorem State.faultJob_eq (n : Nat) (s : State) : ∃ u : State, s.faultJob n = (u.toTest n causeVas).freeSpindle n ∧
    ∀ j, (s.spindle n).job = some j → u = s.failJob j stJobAborted j.early := by
  refine ⟨match (s.spindle n).job with | some j => s.failJob j stJobAborted j.early | none => s, rfl, fun j hj => ?_⟩
  rw [hj]

/-- A job that faults is answered, and its spindle leaves for its test (R151). -/
theorem State.faultJob_faulted (hn : n < 40) (s : State) : s.jobFaulted (s.faultJob n) n := by
  obtain ⟨u, hu, hj⟩ := State.faultJob_eq n s
  have hspin := State.spindle_freeSpindle (s := u.toTest n causeVas) hn (by simp [State.spindle_toTest hn])
  rw [State.spindle_toTest hn] at hspin
  rw [hu]
  refine ⟨by rw [hspin], by rw [hspin], by rw [hspin], ?_, fun j f hjob hw hv hf ht => ?_⟩
  · rw [State.isOut_congr (State.out_freeSpindle n)]
    exact State.isOut_toTest causeVas hn
  · obtain ⟨r, hr, hfields⟩ := State.postReply_answers (j.h.fail stJobAborted j.early) s f hv hf ht
    rw [← State.failJob_of_plain hw, ← hj j hjob] at hr
    exact ⟨r, State.sent_grows_freeSpindle n (State.sent_grows_toTest causeVas hr), hfields⟩

end

end Sys2Proof.Machine
end

section
/-! PROOFS. The codes of the spindle's instructions, and its sequencer's rows. -/

namespace Sys2Proof.Machine

set_option Elab.async false

/-! ## A word's fields -/

section
variable (code : BitVec 6) (d a b : BitVec 7) (m : BitVec 5) (n : BitVec 2) (imm : BitVec 16) (imm' : BitVec 12)

theorem formatA_fields :
    (formatA code d a b m).extractLsb' 26 6 = code ∧ (formatA code d a b m).extractLsb' 19 7 = d ∧
    (formatA code d a b m).extractLsb' 12 7 = a ∧ (formatA code d a b m).extractLsb' 5 7 = b ∧
    (formatA code d a b m).extractLsb' 0 5 = m := by
  have h : formatA code d a b m = (code ++ d ++ a ++ b ++ m : BitVec (6 + 7 + 7 + 7 + 5)) := rfl
  rw [h]
  simp (disch := decide) only [BitVec.extractLsb'_append_eq_of_le, BitVec.extractLsb'_append_eq_of_add_le,
    BitVec.extractLsb'_eq_self, Nat.reduceSub, and_self]

theorem formatB_fields :
    (code ++ d ++ imm' ++ 0#7).extractLsb' 26 6 = code ∧ (code ++ d ++ imm' ++ 0#7).extractLsb' 19 7 = d ∧
    (code ++ d ++ imm' ++ 0#7).extractLsb' 7 12 = imm' := by
  simp (disch := decide) only [BitVec.extractLsb'_append_eq_of_le, BitVec.extractLsb'_append_eq_of_add_le,
    BitVec.extractLsb'_eq_self, Nat.reduceSub, and_self]

theorem formatC_fields :
    (formatC code n imm).extractLsb' 26 6 = code ∧ (formatC code n imm).extractLsb' 24 2 = n ∧
    (formatC code n imm).extractLsb' 0 16 = imm := by
  have h : formatC code n imm = (code ++ n ++ 0#8 ++ imm : BitVec (6 + 2 + 8 + 16)) := rfl
  rw [h]
  simp (disch := decide) only [BitVec.extractLsb'_append_eq_of_le, BitVec.extractLsb'_append_eq_of_add_le,
    BitVec.extractLsb'_eq_self, Nat.reduceSub, and_self]

end

/-- A word is one of a listed code, or decodes to the row of undefined codes. -/
theorem spindleDefined_or (sp : BitVec 6) (w : BitVec 32) :
    spindleDefined w = true ∨ spindleInstr sp w = .spindleUndefinedCode sp w := by
  refine or_iff_not_imp_right.mpr fun h => ?_
  unfold spindleDefined
  unfold spindleInstr at h ⊢
  dsimp only at h ⊢
  generalize (w.extractLsb' 26 6).toNat = k at h ⊢
  split at h
  case h_37 => exact absurd rfl h
  all_goals rfl

/-- Decoding takes back what encoding made of an instruction. -/
theorem spindleInstr_spindleWord {i : Instr} {sp : BitVec 6} {w : BitVec 32} (hi : i.program = some sp)
    (hw : spindleWord i = some w) : spindleInstr sp w = i := by
  cases i with
  | spindleNop _ d a b m | add _ d a b m | addc _ d a b m | sub _ d a b m | subc _ d a b m | cmp _ d a b m | sel _ d a b m
  | and _ d a b m | or _ d a b m | xor _ d a b m | fsr _ d a b m | bit _ d a b m | mov _ d a b m | clr _ d a b m
  | outw _ d a b m | mul _ d a b m | mac _ d a b m | mull _ d a b m | macl _ d a b m | accld _ d a b m | accadd _ d a b m
  | accsh _ d a b m | acclo _ d a b m | acchi _ d a b m | accx _ d a b m | rnd _ d a b m | key _ d a b m =>
    cases hi
    obtain rfl := Option.some.inj hw
    simp only [spindleInstr, formatA_fields]
    rfl
  | setlc _ n imm | loop _ n imm | setix _ n imm | addix _ n imm | jmp _ n imm | call _ n imm | ret _ n imm | halt _ n imm =>
    cases hi
    obtain rfl := Option.some.inj hw
    simp only [spindleInstr, formatC_fields]
    rfl
  | ldi _ d imm =>
    cases hi
    obtain rfl := Option.some.inj hw
    simp only [spindleInstr, formatB_fields]
    rfl
  | spindleUndefinedCode _ v =>
    cases hi
    rw [spindleWord] at hw
    split at hw
    · cases hw
    next hdef =>
      cases hw
      exact (spindleDefined_or sp w).resolve_left hdef
  | _ => cases hi

/-! ## The rows of the sequencer -/

section
variable {s : State} {sp : BitVec 6} {p : Spindle}

/-- A row that moves its spindle on as stated. -/
theorem completes_spindle (h : s.spindleFetches sp p) {i : Instr} {f : Spindle → Option Spindle} {p' : Spindle}
    (hi : exec i s = runIsa sp f s) (hf : f p = some p') : Completes i s (· = s.setSpindle sp.toNat p') :=
  ⟨_, hi.trans (runIsa_some h hf), rfl⟩

/-- A row that moves its lane on as stated. -/
theorem completes_lane (h : s.spindleFetches sp p) {i : Instr} {f : Spindle → Option Spindle} {l : Lane}
    (hi : exec i s = runIsa sp f s) (hf : f p = some { p with lane := l }) : Completes i s (· = s.withLane sp l) := by
  obtain ⟨t, ht, heq⟩ := completes_spindle h hi hf
  exact ⟨t, ht, by rw [heq, State.withLane, h.2.1]⟩

/-- A row that its spindle cannot run faults the job. -/
theorem completes_fault (hn : sp.toNat < 40) (hp : s.spindle sp.toNat = p) (hhalt : p.halted = none) {i : Instr}
    {f : Spindle → Option Spindle} (hi : exec i s = runIsa sp f s) (hf : fetchOk sp.toNat p.lane = true → f p = none) :
    Completes i s (s.jobFaulted · sp.toNat) := by
  have hnone : isaStep sp.toNat f (s.spindle sp.toNat) = none := by
    rw [hp, isaStep, hhalt]
    simp only [Option.isSome_none, Bool.false_eq_true, if_false]
    split
    next hfetch => exact hf hfetch
    next => rfl
  have hfault : s.jobFaulted (s.faultJob sp.toNat) sp.toNat := State.faultJob_faulted hn s
  have hexec : exec i s = .next (s.faultJob sp.toNat) := by rw [hi, runIsa_eq hn, hnone, Option.elim_none]
  exact ⟨_, hexec, hfault⟩

/-- A buffer that holds a word, or a spindle that takes none, is left alone by `RND`. -/
theorem State.entropyReady_held (h : sp.toNat < 8 → (s.spindle sp.toNat).ent ≠ []) : s.entropyReady sp.toNat = s := by
  unfold State.entropyReady
  split
  next hc => exact absurd (List.isEmpty_iff.mp hc.2.1) (h hc.1)
  next => rfl

/-- An empty buffer of a signing spindle is filled by `RND`, from the source's next word on. -/
theorem State.entropyReady_empty (h : s.spindleFetches sp p) (hsign : sp.toNat < 8) (hent : p.ent = []) :
    ∃ rest, (s.entropyReady sp.toNat).spindle sp.toNat = { p with ent := Config.entropy s.ks.draws :: rest } := by
  obtain ⟨hn, hp, hhalt, hfetch⟩ := h
  have hready : s.entropyReady sp.toNat = s.entropyFor sp.toNat := by simp [State.entropyReady, hsign, hp, hent, hhalt, hfetch]
  rw [hready, State.entropyFor]
  split
  next hok =>
    have hfill : s.fillEntropy sp.toNat = (s.setSpindle sp.toNat
        { p with ent := (List.range 4).map fun i => Config.entropy (s.ks.draws + i) }).drawn 4 := by
      simp [State.fillEntropy, hsign, hok, hp, hent]
    refine ⟨[Config.entropy (s.ks.draws + 1), Config.entropy (s.ks.draws + 2), Config.entropy (s.ks.draws + 3)], ?_⟩
    rw [hfill, State.spindle_drawn, State.spindle_setSpindle _ _ hn]
    rfl
  next =>
    refine ⟨[], ?_⟩
    rw [State.spindle_drawn, State.spindle_setSpindle _ _ hn, hp]

theorem takeEntropy_some {n : Nat} {d : BitVec 7} (hpc : p.lane.pc ≠ 0xFFF) :
    takeEntropy n d p = some { p with
      lane := (p.lane.put d (if n < 8 then p.ent.headD 0 else 0)).onward 8, ent := if n < 8 then p.ent.drop 1 else p.ent } := by
  rw [takeEntropy, Lane.next_of_ne (by exact hpc)]
  rfl

theorem takeKey_some {n : Nat} {d : BitVec 7} {m : BitVec 5} (hpc : p.lane.pc ≠ 0xFFF) :
    takeKey n d m p = some { p with
      lane := (p.lane.put d (if n < 8 then p.keyOp.extractLsb' (256 * (m.extractLsb' 0 1).toNat) 256 else 0)).onward 4 } := by
  rw [takeKey, Lane.next_of_ne (by exact hpc)]
  rfl

theorem keyWord_eq (k : BitVec 512) (m : BitVec 5) :
    k.extractLsb' (256 * (m.extractLsb' 0 1).toNat) 256 = BitVec.ofNat 256 (k.toNat / 2 ^ (256 * (m.toNat % 2))) := by
  rw [toNat_selector]
  apply BitVec.eq_of_toNat_eq
  simp [Nat.shiftRight_eq_div_pow]

theorem index_add (i : BitVec 7) (imm : BitVec 16) : i + imm.setWidth 7 = BitVec.ofNat 7 (i.toNat + imm.toNat) := by
  apply BitVec.eq_of_toNat_eq
  simp

theorem haltStatus_eq (imm : BitVec 16) (e : Bool) :
    haltStatus imm e = BitVec.ofNat 2 (if e then imm.toNat % 4 else imm.toNat / 4 % 4) := by
  apply BitVec.eq_of_toNat_eq
  cases e <;> simp [haltStatus, Nat.shiftRight_eq_div_pow]

variable (d a b : BitVec 7) (m : BitVec 5) (n : BitVec 2) (imm : BitVec 16)

theorem completes_outw (h : s.spindleFetches sp p) (hpc : p.lane.pc ≠ 0xFFF) :
    Completes (.outw sp d a b m) s fun t =>
      t = s.setSpindle sp.toNat { p with
        lane := p.lane.onward 1, out := p.out.setIfInBounds (m.toNat % 4) (p.lane.srcA a m) } := by
  refine completes_spindle h (rfl : execOutw sp d a b m s = _) ?_
  rw [low_selector, laneOp, Lane.next_of_ne (by exact hpc), BitVec.toNat_ofNat]
  simp [Lane.timed, Lane.onward]

theorem completes_rnd (h : s.spindleFetches sp p) (hpc : p.lane.pc ≠ 0xFFF) (hent : sp.toNat < 8 → p.ent ≠ []) :
    Completes (.rnd sp d a b m) s fun t =>
      t = s.setSpindle sp.toNat { p with
        lane := (p.lane.put d (if sp.toNat < 8 then p.ent.headD 0 else 0)).onward 8
        ent := if sp.toNat < 8 then p.ent.drop 1 else p.ent } := by
  refine completes_spindle h ?_ (takeEntropy_some hpc)
  rw [exec_rnd, State.entropyReady_held (by rwa [h.2.1])]

theorem completes_rnd_empty (h : s.spindleFetches sp p) (hpc : p.lane.pc ≠ 0xFFF) (hsign : sp.toNat < 8) (hent : p.ent = []) :
    Completes (.rnd sp d a b m) s fun t =>
      (t.spindle sp.toNat).lane = (p.lane.put d (Config.entropy s.ks.draws)).onward 8 := by
  obtain ⟨rest, hready⟩ := State.entropyReady_empty h hsign hent
  obtain ⟨hn, hp, hhalt, hfetch⟩ := h
  have hrun := runIsa_some (f := takeEntropy sp.toNat d) ⟨hn, hready, hhalt, hfetch⟩ (takeEntropy_some hpc)
  refine ⟨_, (exec_rnd sp d a b m s).trans hrun, ?_⟩
  beta_reduce
  rw [State.spindle_setSpindle _ _ hn, if_pos hsign]
  rfl

theorem completes_loop_done (h : s.spindleFetches sp p) (hpc : p.lane.pc ≠ 0xFFF) (hlc : p.lane.lcAt n = 0) :
    Completes (.loop sp n imm) s (· = s.withLane sp (p.lane.onward 1)) := by
  refine completes_lane h (rfl : execLoop sp n imm s = _) ?_
  rw [if_pos hlc, laneOp, Lane.next_of_ne (by exact hpc)]
  rfl

end

/-- Settles O37: each row goes through the sequencer's rule or faults the job; the codes by their fields. -/
theorem spindleSequencerInstructions : Obligations.SpindleSequencerInstructions := by
  unfold Obligations.SpindleSequencerInstructions
  rintro s sp p l d a b m n imm hn hp hhalt rfl
  refine ⟨fun hfetch hpc => ?_, fun hfetch => ?_, fun w hw => ?_, fun w hw hfetch => ?_, fun i w => spindleInstr_spindleWord,
    fun hfetch => ?_, fun hstack => ?_, fun hstack => ?_, fun hpc => ?_⟩
  · have h : s.spindleFetches sp p := ⟨hn, hp, hhalt, hfetch⟩
    refine ⟨?_, ?_, ?_, completes_loop_done n imm h hpc, completes_outw d a b m h hpc, ?_, completes_rnd_empty d a b m h hpc, ?_⟩
    · exact completes_laneOp h hpc rfl (fun _ => rfl) rfl
    · exact completes_laneOp h hpc rfl (fun _ => rfl) rfl
    · refine completes_laneOp h hpc rfl (fun _ => rfl) ?_
      rw [← index_add]
      rfl
    · rintro v hent rfl
      exact completes_rnd d a b m h hpc hent
    · rintro v rfl
      rw [← keyWord_eq]
      exact completes_lane h (exec_key sp d a b m s) (takeKey_some hpc)
  · have h : s.spindleFetches sp p := ⟨hn, hp, hhalt, hfetch⟩
    refine ⟨fun hlc => ?_, ?_, fun hstack => ?_, fun r rest hstack => ?_, ?_⟩
    · exact completes_lane h (rfl : execLoop sp n imm s = _) (if_neg hlc)
    · exact completes_lane h (rfl : execJmp sp n imm s = _) rfl
    · exact completes_lane h (rfl : execCall sp n imm s = _) (if_neg (Nat.not_le.mpr hstack))
    · refine completes_lane h (rfl : execRet sp n imm s = _) ?_
      rw [hstack]
      rfl
    · rw [← haltStatus_eq]
      exact completes_spindle h (rfl : execHalt sp n imm s = _) rfl
  · exact completes_fault hn hp hhalt (rfl : execSpindleUndefinedCode sp w s = _) fun _ => if_neg (by rw [hw]; decide)
  · obtain ⟨t, ht, heq⟩ := completes_spindle (i := .spindleUndefinedCode sp w) ⟨hn, hp, hhalt, hfetch⟩
      (rfl : execSpindleUndefinedCode sp w s = _) (if_pos hw)
    refine ⟨t, ht, ?_⟩
    rw [heq, ← hp, State.setSpindle_spindle s hn]
  · exact completes_fault hn hp hhalt (rfl : execJmp sp n imm s = _) fun h => absurd h (by rw [hfetch]; decide)
  · exact completes_fault hn hp hhalt (rfl : execCall sp n imm s = _) fun _ => if_pos hstack
  · exact completes_fault hn hp hhalt (rfl : execRet sp n imm s = _) fun _ => by rw [hstack]
  · refine completes_fault hn hp hhalt (rfl : execMov sp d a b m s = _) fun _ => ?_
    simp [wordOp, laneOp, Lane.next, Lane.put, Lane.timed, hpc]

end Sys2Proof.Machine
end

section
/-! PROOFS. Commands that come over the side-band and service ports. -/

namespace Sys2Proof.Machine

set_option Elab.async false

@[simp] theorem rowPacket_tag (op : BitVec 16) (sub : Option Byte) (p : Packet) : (rowPacket op sub p).tag = p.tag := by
  cases sub <;> simp [rowPacket, Packet.setByte]

section
variable {op : BitVec 16} {sub : Option Byte} {body : Ctx → State → Out} {c : Cmd} {s : State} {i : Instr} {P : State → Prop}

/-- What the body of a side command runs with. -/
def sideRun (op : BitVec 16) (sub : Option Byte) (c : Cmd) : Ctx := sideCtx c (rowPacket op sub c.pkt)

/-- The state in which the body of a side command runs. -/
def State.sideBegun (op : BitVec 16) (sub : Option Byte) (c : Cmd) (s : State) : State :=
  { s with mss := { s.mss with running := some (c.via, { c with pkt := rowPacket op sub c.pkt }), begun := true } }

@[simp] theorem sideRun_data : (sideRun op sub c).data = c.bytes := by simp [Ctx.data, sideRun, sideCtx, Cmd.bytes]

theorem State.judgeSide_sideBegun (p : Packet) (via : Transport) :
    (s.sideBegun op sub c).judgeSide p via = s.judgeSide p via := rfl

theorem runOp_side (h : RunsSide op sub c s) :
    runOp op sub body c s = (body (sideRun op sub c) (s.sideBegun op sub c)).finish (sideRun op sub c) := by
  obtain ⟨hside, hup, hfree, hjudged⟩ := h
  have hst : (s.mss.st == .running || s.mss.st == .romOnly) = true := by simpa using hup
  have htakes : s.mssTakes c.via c (rowPacket op sub c.pkt) = true := by simp [State.mssTakes, hfree]
  have hdata : s.sideData c = c.data := by simp [State.sideData, hfree]
  rw [← State.judgeSide_sideBegun (op := op) (sub := sub) (c := c)] at hjudged
  unfold runOp
  dsimp only
  split
  next hv => exact absurd hv hside
  next =>
    rw [hst, htakes, hdata]
    simp only [Bool.and_self, if_true]
    split
    next st hst => exact absurd (hst.symm.trans hjudged) (by simp)
    next => rfl

/-- The reply of a side command that the MSS runs goes back over its port. -/
theorem State.postReply_sideAnswers {h : Held} {u : State} {d : Cmd} (hside : c.via ≠ .host) (hvia : h.via = c.via)
    (hrun : u.mss.running = some (c.via, d)) (hd : d.pkt.tag = h.tag) (htag : h.tag = c.pkt.tag) {out : Bytes}
    (hout : (h.write.map Prod.snd).getD [] = out.take c.pkt.outLen.toNat) :
    (u.postReply h).sideAnswers c h.status h.inl out := by
  have hruns : u.sideRuns h = true := by simp [State.sideRuns, hrun, hvia, hd]
  refine ⟨h, htag, rfl, rfl, hout, ?_⟩
  cases hv : c.via with
  | host => exact absurd hv hside
  | smbus =>
    rw [hv] at hvia
    simp [State.postReply, hvia, hruns]
  | spi =>
    rw [hv] at hvia
    simp [State.postReply, hvia, hruns]

/-- A side row whose body answers at once. -/
theorem completes_side (h : RunsSide op sub c s) (hi : exec i s = .next (runOp op sub body c s)) {o : Out}
    (ho : body (sideRun op sub c) (s.sideBegun op sub c) = o) (hw : o.when_ = .now)
    (hrun : o.s.mss.running = (s.sideBegun op sub c).mss.running)
    (hP : ∀ r, (o.s.postReply r).sideAnswers c o.status o.inl o.result → P (o.s.postReply r)) : Completes i s P := by
  have hfin : o.finish (sideRun op sub c) = o.s.postReply ((sideRun op sub c).held o.status o.cyc o.inl o.result) := by
    simp [Out.finish, hw]
  refine ⟨_, by rw [hi, runOp_side h, ho, hfin], ?_⟩
  refine hP _ (State.postReply_sideAnswers h.side rfl hrun rfl (by simp [sideRun, sideCtx, Ctx.held]) ?_)
  by_cases hr : o.result.isEmpty
  · simp [Ctx.held, List.isEmpty_iff.mp hr]
  · simp [Ctx.held, hr, sideRun, sideCtx]

/-- A side row whose reply comes later. -/
theorem completes_side_later (h : RunsSide op sub c s) (hi : exec i s = .next (runOp op sub body c s)) {o : Out}
    (ho : body (sideRun op sub c) (s.sideBegun op sub c) = o) (hw : o.when_ = .later) (hP : P o.s) : Completes i s P := by
  have hfin : o.finish (sideRun op sub c) = o.s := by simp [Out.finish, hw]
  exact ⟨_, by rw [hi, runOp_side h, ho, hfin], hP⟩

theorem withData_side (hm : c.memErr = none) (u : State) (k : Bytes → Out) :
    withData (sideRun op sub c) u k = k c.bytes := by
  simp [withData, Ctx.readFailed, sideRun, sideCtx, hm, ← sideRun_data (op := op) (sub := sub)]

end

/-! ## The working copy of a record -/

section
variable {s : State} {key : Nat} {payload : Bytes}

/-- A frame that its area takes at once goes out of the queue at once, and its record stands. -/
theorem Keeper.flush_idle {k : Keeper} (hf : k.frame = none) (hq : k.frames = []) : k.flush = k := by
  cases k
  simp_all [Keeper.flush, Keeper.finishFrame]

theorem Keeper.writeFrame_records {k : Keeper} (hfit : (k.area .config).fits (frameLen payload.length) = true) :
    (k.writeFrame (configReq key payload)).records = (k.noted (configReq key payload)).records := by
  have hprep : k.prepare (configReq key payload) = k := by simp [Keeper.prepare, Keeper.refill, configReq, hfit]
  rw [Keeper.writeFrame, hprep]
  simp [Keeper.startFrame, Keeper.makeRoom, configReq, hfit, Keeper.finishFrame, Keeper.noted, Keeper.setArea]

/-- A record of the commit unit's MSS path leaves the working copies. -/
theorem State.mssWrite_records (off : Nat) (bs : Bytes) (after : List After) (u : State) :
    (u.mssWrite off bs after).kp.records = u.kp.records := by
  unfold State.mssWrite
  dsimp only
  split
  · rfl
  · rw [State.sync_kp]

/-- Noting erases in their ring leaves the working copies. -/
theorem State.noteErases_records (n : Nat) (u : State) : (u.noteErases n).kp.records = u.kp.records := by
  unfold State.noteErases State.wearWrite
  split
  · rfl
  · dsimp only
    rw [State.mssWrite_records]

theorem State.flashNow_mss (req : FlashReq) (u : State) : (u.flashNow req).mss = u.mss :=
  (State.touches_flashNow (L := [.arb, .kp, .memories]) req u (by simp)).mpr (State.touches_self _ u) .mss (by decide)

theorem State.flashNow_record (h : s.flashTakes .config payload.length) (hp : payload ≠ []) (hkey : key < 2 ^ 32) :
    (s.flashNow (configReq key payload)).kp.records.find key = some payload := by
  obtain ⟨hf, hq, hfit⟩ := h
  have hmod : key % 4294967296 = key := Nat.mod_eq_of_lt hkey
  rw [State.flashNow, State.noteErases_records, Keeper.flush_idle hf hq]
  dsimp only
  rw [Keeper.writeFrame_records hfit]
  simp [Keeper.noted, configReq, hp, hmod]

theorem State.flashNow_delete (h : s.flashTakes .config 0) (hs : Tab.sorted s.kp.records = true) (hkey : key < 2 ^ 32) :
    (s.flashNow (configReq key [])).kp.records.find key = none := by
  obtain ⟨hf, hq, hfit⟩ := h
  have hmod : key % 4294967296 = key := Nat.mod_eq_of_lt hkey
  rw [State.flashNow, State.noteErases_records, Keeper.flush_idle hf hq]
  dsimp only
  rw [Keeper.writeFrame_records (payload := []) hfit]
  simp [Keeper.noted, configReq, hmod, Tab.find_del hs]

end

end Sys2Proof.Machine
end

section
/-! PROOFS. Raw access to the keeper die (R316, R317, R357). -/

namespace Sys2Proof.Machine

set_option Elab.async false

section
variable {op : BitVec 16} {sub : Option Byte} {c : Cmd} {s : State} {r : Nat} {pw : Bytes}

/-- The state after a password that matches: the region's failures are forgotten. -/
def State.unlockedRegion (r : Nat) (s : State) : State := { s with kp := { s.kp with regionFails := s.kp.regionFails.del r } }

theorem State.passwordOk_sideBegun (h : (s.passwordOk r pw).2 = true) :
    (s.sideBegun op sub c).passwordOk r pw = ((s.sideBegun op sub c).unlockedRegion r, true) := by
  unfold State.passwordOk at h ⊢
  split at h
  · cases h
  next hlock =>
    split at h
    next hpw => exact (if_neg hlock).trans (if_pos hpw)
    next => cases h

/-- Where nothing waits for the commit unit, an MSS record is its one request. -/
theorem State.mssWrite_queue (h : s.kp.queue = []) (off : Nat) (bs : Bytes) (after : List After) :
    (s.mssWrite off bs after).kp.queue = [.mss off bs after] := by
  simp [State.mssWrite, h]

theorem State.mssWrite_queue_unlocked (h : s.kp.queue = []) (off : Nat) (bs : Bytes) (after : List After) :
    (((s.sideBegun op sub c).unlockedRegion r).mssWrite off bs after).kp.queue = [.mss off bs after] :=
  State.mssWrite_queue (s := (s.sideBegun op sub c).unlockedRegion r) h off bs after

theorem rawReadBody_passes {bs : Bytes} {x : Ctx} (hr : r = (x.c.pkt.byteAt 32).toNat) (href : rawRefusal s r false = none)
    {u : State} (hpw : s.passwordOk r (rawPassword x.c.pkt false []) = (u, true)) (hrange : rawRangeOk x r = true)
    (hbs : u.rawBytes r (x.c.pkt.byteAt 33).toNat (x.c.pkt.field 36 4) (x.c.pkt.field 44 2) = .ok bs) :
    rawReadBody x s = { s := u, cyc := x.cyc 64, result := bs } := by
  subst hr
  simp only [rawReadBody, href, hpw, hrange, hbs, Bool.not_true, Bool.false_eq_true, if_false]

theorem rawWriteBody_record (hm : c.memErr = none) (hr : r = ((sideRun op sub c).c.pkt.byteAt 32).toNat) (h7 : r ≠ 7)
    (href : rawRefusal s r true = none) {u : State}
    (hpw : s.passwordOk r (rawPassword (sideRun op sub c).c.pkt (r == 7) c.bytes) = (u, true))
    (hrange : rawRangeOk (sideRun op sub c) r = true)
    (hrec : mssRecordOk (0x18100 + (sideRun op sub c).c.pkt.field 36 4) c.bytes.length = true) :
    rawWriteBody (sideRun op sub c) s =
      { s := u.mssWrite (0x18100 + (sideRun op sub c).c.pkt.field 36 4) c.bytes
          [.reply ((sideRun op sub c).held 0 ((sideRun op sub c).cyc 64) 0 [])], cyc := 64, when_ := .later } := by
  subst hr
  simp only [rawWriteBody, withData_side hm, href, hpw, hrange, hrec, h7, Bool.not_true, Bool.or_self, Bool.false_eq_true, if_false]

theorem rawWriteBody_frame (hm : c.memErr = none) (hr : ((sideRun op sub c).c.pkt.byteAt 32).toNat = 7)
    (href : rawRefusal s 7 true = none) {u : State}
    (hpw : s.passwordOk 7 (rawPassword (sideRun op sub c).c.pkt true c.bytes) = (u, true)) (hnvm : u.nvmStatus = none)
    (hlen : ¬ (c.bytes.length < 2 ∨ rawLimit (sideRun op sub c).c.via < c.bytes.length)) {key : Nat}
    (hkey : key = (sideRun op sub c).c.pkt.field 56 4) :
    rawWriteBody (sideRun op sub c) s =
      { s := u.flashNow (configReq key (c.bytes.drop 2)), cyc := (sideRun op sub c).cyc 64 } := by
  subst hkey
  simp only [rawWriteBody, withData_side hm, hr, href, hpw, hnvm, hlen, beq_self_eq_true, if_true, if_false]

theorem passwordSetBody_passes (hm : c.memErr = none) (hr : r = ((sideRun op sub c).c.pkt.byteAt 32).toNat)
    (href : rawRefusal s r false = none) {u : State}
    (hpw : s.passwordOk r (rawPassword (sideRun op sub c).c.pkt false []) = (u, true)) :
    passwordSetBody (sideRun op sub c) s =
      { s := u.mssWrite (verifierOff (r / 3)) (wordBlock (writeAt (u.blockNow (verifierOff (r / 3)) (defaultVerifiers (r / 3)))
          (16 * (r % 3)) (regionVerifier (slice c.bytes 0 16) r)))
          [.reply ((sideRun op sub c).held 0 ((sideRun op sub c).cyc 64) 0 [])], cyc := 64, when_ := .later } := by
  subst hr
  simp only [passwordSetBody, withData_side hm, href, hpw]

end

section
variable {c : Cmd} {s : State} {r : Nat}

theorem completes_nvmRawRead {bs : Bytes} (hr : r = (c.pkt.byteAt 32).toNat) (h : RunsSide 0x0A09 none c s)
    (href : rawRefusal s r false = none) (hsorted : Tab.sorted s.kp.regionFails = true)
    (hpw : (s.passwordOk r (rawPassword (rowPacket 0x0A09 none c.pkt) false [])).2 = true)
    (hrange : rawRangeOk (sideRun 0x0A09 none c) r = true)
    (hbs : s.rawBytes r (c.pkt.byteAt 33).toNat (c.pkt.field 36 4) (c.pkt.field 44 2) = .ok bs) :
    Completes (.nvmRawRead c) s fun t =>
      t.sideAnswers c 0 0 bs ∧ t.kp = { s.kp with regionFails := t.kp.regionFails } ∧ t.kp.regionFails.get r 0 = 0 := by
  have hbody := rawReadBody_passes (x := sideRun 0x0A09 none c) (s := s.sideBegun 0x0A09 none c) hr href
    (State.passwordOk_sideBegun hpw) hrange hbs
  refine completes_side h rfl hbody rfl rfl fun t ht => ⟨ht, ?_, ?_⟩
  · rw [State.postReply_kp]
    rfl
  · rw [State.postReply_kp]
    simp [State.unlockedRegion, State.sideBegun, Tab.get, Tab.find_del hsorted]

theorem completes_nvmRawWrite_record (hr : r = (c.pkt.byteAt 32).toNat) (h : RunsSide 0x0A0A none c s) (hm : c.memErr = none)
    (href : rawRefusal s r true = none) (hpw : (s.passwordOk r (rawPassword (rowPacket 0x0A0A none c.pkt) (r == 7) c.bytes)).2 = true)
    (h7 : r ≠ 7) (hrange : rawRangeOk (sideRun 0x0A0A none c) r = true)
    (hrec : mssRecordOk (0x18100 + c.pkt.field 36 4) c.bytes.length = true) (hq : s.kp.queue = []) :
    Completes (.nvmRawWrite c) s fun t =>
      ∃ h, t.kp.queue = [.mss (0x18100 + c.pkt.field 36 4) c.bytes [.reply h]] ∧ h.via = c.via ∧ h.tag = c.pkt.tag ∧ h.status = 0 := by
  have hbody := rawWriteBody_record (s := s.sideBegun 0x0A0A none c) hm hr h7 href (State.passwordOk_sideBegun hpw) hrange hrec
  exact completes_side_later h rfl hbody rfl ⟨_, State.mssWrite_queue_unlocked hq _ _ _, rfl, rfl, rfl⟩

theorem completes_nvmRawWrite_frame (hr : r = (c.pkt.byteAt 32).toNat) (h : RunsSide 0x0A0A none c s) (hm : c.memErr = none)
    (href : rawRefusal s r true = none) (hpw : (s.passwordOk r (rawPassword (rowPacket 0x0A0A none c.pkt) (r == 7) c.bytes)).2 = true)
    (h7 : r = 7) (hnvm : s.nvmStatus = none) (hlen : 2 < c.bytes.length) (hlim : c.bytes.length ≤ rawLimit c.via)
    (hfl : s.flashTakes .config (c.bytes.length - 2)) :
    Completes (.nvmRawWrite c) s fun t =>
      t.kp.records.find (c.pkt.field 56 4) = some (c.bytes.drop 2) ∧ t.sideAnswers c 0 0 [] := by
  subst h7
  have hbody := rawWriteBody_frame (op := 0x0A0A) (sub := none) (s := s.sideBegun 0x0A0A none c) hm hr.symm href (State.passwordOk_sideBegun hpw) hnvm
    (by rw [not_or]; exact ⟨by omega, Nat.not_lt.mpr hlim⟩) (key := c.pkt.field 56 4) rfl
  refine completes_side h rfl hbody rfl ?_ fun t ht => ⟨?_, ht⟩
  · rw [State.flashNow_mss]
    rfl
  · rw [State.postReply_kp]
    have htakes : ((s.sideBegun 0x0A0A none c).unlockedRegion 7).flashTakes .config (c.bytes.drop 2).length := by
      rw [List.length_drop]
      exact hfl
    have hne : c.bytes.drop 2 ≠ [] := by
      rw [← List.length_pos_iff, List.length_drop]
      omega
    have hk : c.pkt.field 56 4 < 2 ^ 32 := field_four_lt c.pkt 56
    have hrec := State.flashNow_record htakes hne hk
    dsimp only
    exact hrec

theorem completes_nvmPasswordSet (hr : r = (c.pkt.byteAt 32).toNat) (h : RunsSide 0x0A0B none c s) (hm : c.memErr = none)
    (href : rawRefusal s r false = none)
    (hpw : (s.passwordOk r (rawPassword (rowPacket 0x0A0B none c.pkt) false [])).2 = true) (hq : s.kp.queue = []) :
    Completes (.nvmPasswordSet c) s fun t =>
      ∃ h, t.kp.queue = [.mss (verifierOff (r / 3)) (wordBlock (writeAt (s.blockNow (verifierOff (r / 3)) (defaultVerifiers (r / 3)))
        (16 * (r % 3)) (regionVerifier (slice c.bytes 0 16) r))) [.reply h]] ∧ h.via = c.via ∧ h.tag = c.pkt.tag ∧ h.status = 0 := by
  have hbody := passwordSetBody_passes (s := s.sideBegun 0x0A0B none c) hm hr href (State.passwordOk_sideBegun hpw)
  exact completes_side_later h rfl hbody rfl ⟨_, State.mssWrite_queue_unlocked hq _ _ _, rfl, rfl, rfl⟩

end

/-- Settles O32: each body with its checks passed, on the state that the matching password leaves. -/
theorem rawKeeperAccess : Obligations.RawKeeperAccess := by
  unfold Obligations.RawKeeperAccess
  rintro c s p r hr
  refine ⟨?_, ?_, ?_⟩
  · rintro bs rfl h href hsorted hpw hrange hbs
    exact completes_nvmRawRead hr h href hsorted hpw hrange hbs
  · rintro rfl h hm href hpw
    exact ⟨completes_nvmRawWrite_frame hr h hm href hpw, completes_nvmRawWrite_record hr h hm href hpw⟩
  · rintro rfl h hm href hpw hq
    exact completes_nvmPasswordSet hr h hm href hpw hq

end Sys2Proof.Machine
end

section
/-! PROOFS. Transitions of the life cycle and enrolment (R339 to R344). -/

namespace Sys2Proof.Machine

set_option Elab.async false

/-! ## Who authorises -/

section
variable {s t : State} {owner : Bool} {v : (Nat × Nat) × Digest}

/-- An authority that is found is found without a change. -/
theorem State.authority_ok (h : (s.authority owner).2 = some v) : s.authority owner = (s, some v) := by
  cases owner with
  | false => exact congrArg (Prod.mk s) h
  | true =>
    unfold State.authority at h ⊢
    simp only [if_true] at h ⊢
    split at h
    next u k hr =>
      have hs := State.readSlot_ok (congrArg Prod.snd hr)
      rw [hr] at hs
      obtain ⟨rfl, -⟩ := Prod.mk.injEq _ _ _ _ ▸ hs
      exact congrArg (Prod.mk u) h
    next => cases h

theorem State.authority_congr (h : t.ks = s.ks) : (t.authority owner).2 = (s.authority owner).2 := by
  cases owner with
  | false => rfl
  | true =>
    have hr := State.readSlot_congr h 2
    unfold State.authority
    simp only [if_true]
    rcases ht : t.readSlot 2 with ⟨t', e | k⟩ <;> rcases hs : s.readSlot 2 with ⟨s', e' | k'⟩ <;> simp only [ht, hs] at hr
    · rfl
    · cases hr
    · cases hr
    · cases hr
      rfl

end

/-! ## `LIFECYCLE` -/

/-- The state with the challenge consumed. -/
def State.challenged (s : State) : State := { s with life := { s.life with challenge := none } }

theorem State.blow_count (n : Nat) (s : State) : (s.blow n).life = { s.life with count := BitVec.ofNat 3 n } := by
  unfold State.blow
  dsimp only
  split <;> rfl

theorem State.transition_life (dst : Nat) (s : State) :
    (s.transition dst).life = { s.life with count := BitVec.ofNat 3 dst, resetDue := true } := by
  unfold State.transition State.planReset
  dsimp only
  rw [State.log_life, State.blow_count]
  split <;> rfl

/-- A queue's record comes from the queues and the epoch base. -/
theorem State.queue_of_touches {L : List Aspect} {s t : State} (h : s.touches L t) (hq : .queues ∉ L) (he : .epochBase ∉ L) (q : QId) :
    t.queue q = s.queue q :=
  State.queue_congr (h .queues hq) (h .epochBase he) q

theorem State.transition_queue (dst : Nat) (s : State) (q : QId) : (s.transition dst).queue q = s.queue q := by
  have h : s.touches [.ks, .kp, .tmp, .life, .fuses] (s.transition dst) := by simp
  exact State.queue_of_touches h (by decide) (by decide) q

theorem lifecycleBody_passes {x : Ctx} {s : State} {dst : Byte} {owner : Bool} {ch : BitVec 128} {q : Nat × Nat} {z : Digest}
    {bs : Bytes} (hdst : dst = x.c.pkt.byteAt 32) (hdata : ∀ k, withData x s k = k bs)
    (hby : transitionBy s.life.count.toNat dst.toNat = some owner) (hch : s.life.challenge = some ch)
    (hauth : s.challenged.authority owner = (s.challenged, some (q, z)))
    (hok : sm2Verify curve0 (sm2E z (authMessage s.challenged dst ch)) (beNat (slice bs 0 32)) (beNat (slice bs 32 32)) q.1 q.2 = true)
    (hhold : s.challenged.holding = false) :
    lifecycleBody x s = { s := s.challenged.transition dst.toNat, cyc := x.cyc 64, inl := inlAt 0 dst.toNat } := by
  unfold State.challenged at hauth hok hhold ⊢
  subst hdst
  simp only [lifecycleBody, hdata, hby, hch, hauth, hok, hhold, Bool.not_true, Bool.false_eq_true, if_false]

/-! ## `ENROL` -/

section
variable {s : State}

theorem State.flashNow_ks (req : FlashReq) (s : State) : (s.flashNow req).ks = s.ks :=
  (State.touches_flashNow (L := [.arb, .kp, .memories]) req s (by simp)).mpr (State.touches_self _ s) .ks (by decide)

theorem State.genWrite_ks (g : GenWrite) (s : State) : (s.genWrite g).ks = s.ks :=
  (State.touches_genWrite (L := [.arb, .kp]) g s (by simp)).mpr (State.touches_self _ s) .ks (by decide)

theorem State.drawn_root (n : Nat) (s : State) : (s.drawn n).ks.root = s.ks.root := rfl

theorem State.loadReserved_root (root : BitVec 256) (n : Nat) (bs : Bytes) (s : State) :
    (s.loadReserved root n bs).ks.root = s.ks.root := by
  unfold State.loadReserved
  dsimp only
  split <;> rfl

theorem State.archiveKey_root (root : BitVec 256) (n : Nat) (typ : Byte) (q : Parent) (lin : BitVec 16 × BitVec 32)
    (material id : Bytes) (s : State) : (s.archiveKey root n typ q lin material id).ks.root = s.ks.root := by
  unfold State.archiveKey
  dsimp only
  rw [State.loadReserved_root, State.flashNow_ks]
  rfl

theorem State.archiveSecret_root (root : BitVec 256) (n : Nat) (lin : BitVec 16 × BitVec 32) (s : State) :
    (s.archiveSecret root n lin).ks.root = s.ks.root := by
  unfold State.archiveSecret
  split
  · rw [State.archiveKey_root]
    rfl
  · rfl

theorem State.archiveFpk_root (root : BitVec 256) (s : State) : (s.archiveFpk root).ks.root = s.ks.root := by
  unfold State.archiveFpk
  split
  · exact State.archiveSecret_root ..
  · dsimp only
    rw [State.genWrite_ks, State.archiveSecret_root]

theorem State.installDmk_root (d : Dom) (v root : BitVec 256) (s : State) : (s.installDmk d v root).1.ks.root = s.ks.root := by
  unfold State.installDmk
  dsimp only
  rw [State.genWrite_ks, State.flashNow_ks]
  rfl

/-- With the owner's share made, the owner root is the root of the hierarchy. -/
theorem State.installOwner_root {b : BitVec 256} (h : s.ks.shares.find 3 = some b) (bs : Bytes) : (s.installOwner bs).ks.root = 3 := by
  have hroot : s.deriveOwner.ks.root = 3 := by simp [State.deriveOwner, h]
  unfold State.installOwner
  dsimp only
  split
  · exact hroot
  · rw [State.archiveFpk_root, State.archiveSecret_root, State.installDmk_root]
    rw [State.drawn_root, State.archiveKey_root, State.archiveKey_root, hroot]

theorem State.startJournal_seq (s : State) : s.startJournal.ru.jrn.seq = 0 := by
  unfold State.startJournal
  dsimp only
  rw [State.closeGroup_ru]

theorem State.installOwner_life (bs : Bytes) (s : State) : (s.installOwner bs).life = s.life := by
  have h : s.touches [.ru, .ks, .arb, .kp, .memories] (s.installOwner bs) := by simp
  exact Life.eq_of_others (h .life (by decide)) (h .fuses (by decide))

theorem State.installOwner_mss (bs : Bytes) (s : State) : (s.installOwner bs).mss = s.mss := by
  have h : s.touches [.ru, .ks, .arb, .kp, .memories] (s.installOwner bs) := by simp
  exact h .mss (by decide)

/-- The keys of an enrolment: the owner's share and hash, and what step 3 of R343 installs. -/
def State.enrolOwner (bs : Bytes) (s : State) : State :=
  let u := s.challenged.makeShare 3
  State.installOwner bs { u with life := { u.life with ownerHash := some (sm3 (slice bs 28 64)) } }

/-- The fuses of a first enrolment. -/
def State.enrolFuses (s : State) : State := ((s.blow 2).log 0x0017 2 3 [1, 2]).planReset

/-- The end of an enrolment. -/
def State.enrolEnd (s : State) : State := ({ s with tmp := { s.tmp with canary := .valid } } : State).startJournal

theorem State.enrolOwner_life (bs : Bytes) (s : State) :
    (s.enrolOwner bs).life = { s.life with challenge := none, ownerHash := some (sm3 (slice bs 28 64)) } := by
  rw [State.enrolOwner, State.installOwner_life]
  rfl

theorem State.enrolOwner_mss (bs : Bytes) (s : State) : (s.enrolOwner bs).mss = s.mss := by
  rw [State.enrolOwner, State.installOwner_mss]
  rfl

theorem State.enrolOwner_root (bs : Bytes) (s : State) : (s.enrolOwner bs).ks.root = 3 := by
  unfold State.enrolOwner
  refine State.installOwner_root (b := s.draw) ?_ bs
  simp [State.makeShare, State.challenged, State.drawn, State.draw]

theorem State.enrolFuses_life (s : State) : s.enrolFuses.life = { s.life with count := 2, resetDue := true } := by
  unfold State.enrolFuses State.planReset
  dsimp only
  rw [State.log_life, State.blow_count]
  rfl

theorem State.enrolFuses_mss (s : State) : s.enrolFuses.mss = s.mss := by
  unfold State.enrolFuses State.planReset State.blow
  dsimp only
  rw [State.log_mss]
  split <;> rfl

theorem State.enrolFuses_root (s : State) : s.enrolFuses.ks.root = s.ks.root := by
  unfold State.enrolFuses State.planReset State.blow
  dsimp only
  rw [State.log_ks]
  split <;> rfl

theorem State.enrolEnd_life (s : State) : s.enrolEnd.life = s.life := by simp [State.enrolEnd, State.startJournal]
theorem State.enrolEnd_mss (s : State) : s.enrolEnd.mss = s.mss := by simp [State.enrolEnd, State.startJournal]
theorem State.enrolEnd_ks (s : State) : s.enrolEnd.ks = s.ks := by simp [State.enrolEnd, State.startJournal]
theorem State.enrolEnd_canary (s : State) : s.enrolEnd.tmp.canary = .valid := by simp [State.enrolEnd, State.startJournal]
theorem State.enrolEnd_seq (s : State) : s.enrolEnd.ru.jrn.seq = 0 := State.startJournal_seq _

/-- What an enrolment's reply reports: the check value of the journal's key. -/
def State.journalKcv (s : State) : Nat := ((s.slot 3).map fun k => k.attr.kcv.toNat).getD 0

variable {op : BitVec 16} {sub : Option Byte} {c : Cmd}

theorem enrolBody_first {x : Ctx} {bs : Bytes} (hdata : ∀ k, withData x s k = k bs) (hnvm : s.nvmStatus = none)
    (hn : s.life.count.toNat = 1) (hok : packageOk s bs = true) (hhold : s.holding = false) :
    enrolBody x s =
      { s := (s.enrolOwner bs).enrolFuses.enrolEnd, cyc := x.cyc 64
        inl := inlAt 0 (s.enrolOwner bs).enrolFuses.enrolEnd.journalKcv } := by
  have hhold' : s.challenged.holding = false := hhold
  unfold State.challenged at hhold'
  simp only [enrolBody, hdata, hnvm, hn, hok, hhold', decide_true, Bool.true_or, Bool.not_true, OfNat.one_ne_ofNat, or_self,
    false_and, decide_false, Bool.false_and, Bool.or_self, Bool.false_eq_true, if_true, if_false]
  rfl

theorem enrolBody_again {x : Ctx} {bs : Bytes} (hdata : ∀ k, withData x s k = k bs) (hnvm : s.nvmStatus = none)
    (hn : s.life.count.toNat = 2 ∨ s.life.count.toNat = 3) (hshare : s.ks.shares.find 3 = none) (howner : s.life.ownerHash.isSome = true)
    (hok : packageOk s bs = true) (hhold : s.holding = false) :
    enrolBody x s =
      { s := (s.enrolOwner bs).enrolEnd, cyc := x.cyc 64, inl := inlAt 0 (s.enrolOwner bs).enrolEnd.journalKcv } := by
  have hhold' : s.challenged.holding = false := hhold
  have hn1 : s.life.count.toNat ≠ 1 := by omega
  have hnone : s.life.ownerHash.isNone = false := by simpa using howner
  unfold State.challenged at hhold'
  simp only [enrolBody, hdata, hnvm, hn, hn1, hshare, hnone, hok, hhold', and_self, decide_true, Bool.or_true, Bool.not_true, Bool.and_false,
    Bool.or_self, Bool.false_eq_true, if_false]
  rfl

end

/-! ## The obligation -/

section
variable {c : Cmd} {s : State}

theorem completes_lifecycle {f : Fetched} {dst : Byte} {owner : Bool} {ch : BitVec 128} {q : Nat × Nat} {z : Digest}
    (hdst : dst = c.pkt.byteAt 32) (h : Runs 0x0A04 none c s f) (hm : c.memErr = none)
    (hby : transitionBy s.life.count.toNat dst.toNat = some owner) (hch : s.life.challenge = some ch)
    (hauth : (s.authority owner).2 = some (q, z))
    (hok : sm2Verify curve0 (sm2E z (authMessage s dst ch)) (beNat (slice c.bytes 0 32)) (beNat (slice c.bytes 32 32)) q.1 q.2 = true)
    (hhold : s.holding = false) :
    Completes (.lifecycle c) s fun t =>
      t.life.count = BitVec.ofNat 3 dst.toNat ∧ t.life.challenge = none ∧ t.life.resetDue = true ∧
      t.answers c.q f 0 (inlAt 0 dst.toNat) := by
  have hlife := State.begun_life 0x0A04 none c f s
  have hks : (s.begun 0x0A04 none c f).challenged.ks = s.ks := State.begun_ks 0x0A04 none c f s
  have hauth' := State.authority_ok ((State.authority_congr hks).trans hauth)
  have hbody := lifecycleBody_passes (x := s.ctxRun 0x0A04 none c f) (s := s.begun 0x0A04 none c f) (bs := c.bytes) (dst := dst)
    (by rw [State.ctxRun_c]; exact hdst) (withData_ok hm _) (by rw [hlife]; exact hby) (by rw [hlife]; exact hch)
    hauth' (by rw [← hok]; simp [authMessage, State.challenged])
    (by rw [← hhold]; simp [State.holding, State.challenged])
  refine completes_now h rfl hbody rfl ?_ fun ha => ⟨?_, ?_, ?_, ha⟩
  · exact State.transition_queue _ _ _
  · rw [Out.finish_life]
    simp [State.transition_life]
  · rw [Out.finish_life]
    simp [State.transition_life, State.challenged]
  · rw [Out.finish_life]
    simp [State.transition_life]

theorem completes_enrol_first (h : RunsSide 0x0A06 none c s) (hm : c.memErr = none) (hnvm : s.nvmStatus = none)
    (hok : packageOk s c.bytes = true) (hhold : s.holding = false) (hn : s.life.count.toNat = 1) :
    Completes (.enrol c) s fun t =>
      t.life.count = 2 ∧ t.life.resetDue = true ∧ t.life.challenge = none ∧
      t.life.ownerHash = some (sm3 (slice c.bytes 28 64)) ∧ t.tmp.canary = .valid ∧ t.ks.root = 3 ∧
      t.ru.jrn.seq = 0 ∧ t.sideAnswers c 0 (inlAt 0 t.journalKcv) [] := by
  have hbody := enrolBody_first (s := s.sideBegun 0x0A06 none c) (x := sideRun 0x0A06 none c) (withData_side hm _) hnvm hn hok hhold
  refine completes_side h rfl hbody rfl ?_ fun t ht => ?_
  · dsimp only
    rw [State.enrolEnd_mss, State.enrolFuses_mss, State.enrolOwner_mss]
  · dsimp only at ht ⊢
    simp only [State.postReply_life, State.postReply_tmp, State.postReply_ks, State.postReply_ru, State.enrolEnd_life,
      State.enrolFuses_life, State.enrolOwner_life, State.enrolEnd_canary, State.enrolEnd_seq, State.enrolEnd_ks, State.enrolFuses_root,
      State.enrolOwner_root]
    refine ⟨trivial, trivial, trivial, trivial, trivial, trivial, trivial, ?_⟩
    have hkcv (u : State) : (u.postReply t).journalKcv = u.journalKcv := by simp [State.journalKcv, State.slot]
    rw [hkcv]
    exact ht

theorem completes_enrol_again (h : RunsSide 0x0A06 none c s) (hm : c.memErr = none) (hnvm : s.nvmStatus = none)
    (hok : packageOk s c.bytes = true) (hhold : s.holding = false) (hn : s.life.count.toNat = 2 ∨ s.life.count.toNat = 3)
    (hshare : s.ks.shares.find 3 = none) (howner : s.life.ownerHash.isSome = true) :
    Completes (.enrol c) s fun t =>
      t.life.count = s.life.count ∧ t.life.challenge = none ∧ t.life.ownerHash = some (sm3 (slice c.bytes 28 64)) ∧
      t.tmp.canary = .valid ∧ t.ks.root = 3 ∧ t.sideAnswers c 0 (inlAt 0 t.journalKcv) [] := by
  have hbody := enrolBody_again (s := s.sideBegun 0x0A06 none c) (x := sideRun 0x0A06 none c) (withData_side hm _) hnvm hn hshare howner
    hok hhold
  refine completes_side h rfl hbody rfl ?_ fun t ht => ?_
  · dsimp only
    rw [State.enrolEnd_mss, State.enrolOwner_mss]
  · dsimp only at ht ⊢
    simp only [State.postReply_life, State.postReply_tmp, State.postReply_ks, State.enrolEnd_life, State.enrolOwner_life,
      State.enrolEnd_canary, State.enrolEnd_ks, State.enrolOwner_root]
    refine ⟨rfl, trivial, trivial, trivial, trivial, ?_⟩
    have hkcv (u : State) : (u.postReply t).journalKcv = u.journalKcv := by simp [State.journalKcv, State.slot]
    rw [hkcv]
    exact ht

end

/-- Settles O31: the transition by its authority, the enrolment by what its steps make. -/
theorem lifeCycleAdvances : Obligations.LifeCycleAdvances := by
  unfold Obligations.LifeCycleAdvances
  refine fun c s => ⟨fun f dst owner ch q z hdst h hm hby hch hauth hok hhold => ?_, fun h hm hnvm hok hhold => ⟨fun hn => ?_,
    fun hn hshare howner => ?_⟩⟩
  · exact completes_lifecycle hdst h hm hby hch hauth hok hhold
  · exact completes_enrol_first h hm hnvm hok hhold hn
  · exact completes_enrol_again h hm hnvm hok hhold hn hshare howner

end Sys2Proof.Machine
end

section
/-! PROOFS. The management reports, the challenge, and the tamper commands (R319, R320, R322, R329, R356, R358, R364, R370). -/

namespace Sys2Proof.Machine

set_option Elab.async false

section
variable {c : Cmd} {s : State} {f : Fetched}

theorem sensors_ne_nil (s : State) : (s.mss.sensors.toList.flatMap fun v => leBytes 2 v.toNat) ≠ [] := by
  have hlen : s.mss.sensors.toList.length = 16 := s.mss.sensors.length_toList
  cases h : s.mss.sensors.toList with
  | nil => simp [h] at hlen
  | cons v l => simp [leBytes]

/-- What the MSS holds besides the command it runs is there when a command of its begins. -/
theorem State.begun_mss_parts {op : BitVec 16} (hop : forMss op = true) (sub : Option Byte) (c : Cmd) (f : Fetched) (s : State) :
    ∃ r, (s.begun op sub c f).mss = { s.mss with running := r, begun := true } :=
  ⟨_, State.begun_mss hop sub c f s⟩

/-- What `FW_STATUS` reports (R364). -/
def State.firmwareReport (step outcome : Byte) (s : State) : Bytes :=
  [BitVec.ofNat 8 s.mss.boot.cpB.toNat, BitVec.ofNat 8 s.mss.boot.mssB.toNat] ++ s.mss.boot.states.toList ++
    (List.range 4).flatMap s.kp.bankEntry ++ [BitVec.ofNat 8 s.life.cpSv, BitVec.ofNat 8 s.life.mssSv, step, outcome] ++
    zeros 32 ++ leBytes 2 s.mss.discarded.toNat

theorem fwStatusBody_passes {x : Ctx} (hread : s.readStatus = none) {step outcome : Byte}
    (h : (step, outcome) = (match s.mss.ho with | some h => (BitVec.ofNat 8 h.step, 0) | none => (s.mss.hoStep, s.mss.hoOutcome))) :
    fwStatusBody x s = { s, cyc := x.cyc 64, result := s.firmwareReport step outcome } := by
  cases hho : s.mss.ho with
  | none =>
    rw [hho] at h
    cases h
    simp only [fwStatusBody, hread, hho, Option.map_none, Option.getD_none, Option.isSome_none, Bool.false_eq_true, if_false]
    rfl
  | some k =>
    rw [hho] at h
    cases h
    simp only [fwStatusBody, hread, hho, Option.map_some, Option.getD_some, Option.isSome_some, if_true]
    rfl

theorem settingGetBody_passes {x : Ctx} {d : Bytes} (hread : s.readStatus = none) (hd : settingDefault (x.c.pkt.field 36 4) = some d) :
    settingGetBody x s = { s, cyc := x.cyc 64, result := s.settingBytes (x.c.pkt.field 36 4) d } := by
  simp only [settingGetBody, hread, hd]

theorem logReadBody_passes {x : Ctx} (hread : s.readStatus = none) {rs : List Bytes}
    (hrs : rs = (s.kp.logRecords.filter fun r => decide (x.c.pkt.field 32 8 ≤ leAt r 0 8)).take (x.c.pkt.byteAt 40).toNat) :
    logReadBody x s =
      { s, cyc := x.cyc 64, result := rs.flatten, inl := BitVec.ofNat 64 ((rs.head?.map fun r => leAt r 0 8).getD 0) } := by
  subst hrs
  simp only [logReadBody, hread]

theorem completes_sensorRead (hn : 0 < c.pkt.outLen.toNat) (h : Runs 0x0A01 none c s f) :
    Completes (.sensorRead c) s fun t =>
      t.answers c.q f 0 0 ∧ s.answersOnly t c.q ∧ t.wrote c (s.mss.sensors.toList.flatMap fun v => leBytes 2 v.toNat) := by
  obtain ⟨r, hmss⟩ := State.begun_mss_parts (op := 0x0A01) (by decide) none c f s
  have hbody : sensorReadBody (s.ctxRun 0x0A01 none c f) (s.begun 0x0A01 none c f) =
      { s := s.begun 0x0A01 none c f, cyc := (s.ctxRun 0x0A01 none c f).cyc 64
        result := s.mss.sensors.toList.flatMap fun v => leBytes 2 v.toNat } := by
    rw [sensorReadBody, hmss]
  exact (completes_query h rfl rfl hbody).mono fun t ⟨ha, ho, hw⟩ => ⟨ha, ho, hw (sensors_ne_nil s) hn⟩

theorem completes_logRead (hn : 0 < c.pkt.outLen.toNat) {rs : List Bytes} (h : Runs 0x0A02 none c s f) (hread : s.readStatus = none)
    (hrs : rs = (s.kp.logRecords.filter fun r => decide (c.pkt.field 32 8 ≤ leAt r 0 8)).take (c.pkt.byteAt 40).toNat) :
    Completes (.logRead c) s fun t =>
      t.answers c.q f 0 (BitVec.ofNat 64 ((rs.head?.map fun r => leAt r 0 8).getD 0)) ∧ s.answersOnly t c.q ∧
      (rs.flatten ≠ [] → t.wrote c rs.flatten) := by
  have hread' : (s.begun 0x0A02 none c f).readStatus = none := by rw [← hread]; simp [State.readStatus]
  have hbody := logReadBody_passes (x := s.ctxRun 0x0A02 none c f) hread' (rs := rs) (by rw [State.begun_kp]; exact hrs)
  exact (completes_query h rfl rfl hbody).mono fun t ⟨ha, ho, hw⟩ => ⟨ha, ho, fun hne => hw hne hn⟩

theorem completes_keeperStatus (hn : 0 < c.pkt.outLen.toNat) (h : Runs 0x0A0C none c s f) :
    Completes (.keeperStatus c) s fun t => t.answers c.q f 0 0 ∧ s.answersOnly t c.q ∧ t.wrote c s.keeperRecord := by
  have hl : (s.begun 0x0A0C none c f).led = s.led := State.begun_led_same _ _ _ _ _ rfl
  have hrec : (s.begun 0x0A0C none c f).keeperRecord = s.keeperRecord := by
    simp only [State.keeperRecord, State.begun_kp, State.begun_gctl, hl]
  refine (completes_query (body := keeperStatusBody) (inl := 0) (result := s.keeperRecord) h rfl rfl (by rw [← hrec]; rfl)).mono
    fun t ⟨ha, ho, hw⟩ => ⟨ha, ho, hw (List.cons_ne_nil _ _) hn⟩

theorem completes_fwStatus (hn : 0 < c.pkt.outLen.toNat) {step outcome : Byte} (h : Runs 0x0A0F none c s f) (hread : s.readStatus = none)
    (hho : (step, outcome) = (match s.mss.ho with | some h => (BitVec.ofNat 8 h.step, 0) | none => (s.mss.hoStep, s.mss.hoOutcome))) :
    Completes (.fwStatus c) s fun t =>
      t.answers c.q f 0 0 ∧ s.answersOnly t c.q ∧
      t.wrote c (s.firmwareReport step outcome) := by
  obtain ⟨r, hmss⟩ := State.begun_mss_parts (op := 0x0A0F) (by decide) none c f s
  have hread' : (s.begun 0x0A0F none c f).readStatus = none := by rw [← hread]; simp [State.readStatus]
  have hbody := fwStatusBody_passes (x := s.ctxRun 0x0A0F none c f) hread' (step := step) (outcome := outcome) (by rw [hmss]; exact hho)
  have hrep : (s.begun 0x0A0F none c f).firmwareReport step outcome = s.firmwareReport step outcome := by
    simp only [State.firmwareReport, hmss, State.begun_kp, State.begun_life]
  rw [hrep] at hbody
  exact (completes_query h rfl rfl hbody).mono fun t ⟨ha, ho, hw⟩ => ⟨ha, ho, hw (List.cons_ne_nil _ _) hn⟩

theorem completes_settingGet (hn : 0 < c.pkt.outLen.toNat) {d : Bytes} (h : Runs 0x0A10 (some 0) c s f) (hread : s.readStatus = none)
    (hd : settingDefault ((rowPacket 0x0A10 (some 0) c.pkt).field 36 4) = some d)
    (hne : s.settingBytes ((rowPacket 0x0A10 (some 0) c.pkt).field 36 4) d ≠ []) :
    Completes (.settingGet c) s fun t =>
      t.answers c.q f 0 0 ∧ s.answersOnly t c.q ∧ t.wrote c (s.settingBytes ((rowPacket 0x0A10 (some 0) c.pkt).field 36 4) d) := by
  have hread' : (s.begun 0x0A10 (some 0) c f).readStatus = none := by rw [← hread]; simp [State.readStatus]
  have hset (key : Nat) : (s.begun 0x0A10 (some 0) c f).settingBytes key d = s.settingBytes key d := by simp [State.settingBytes]
  have hbody := settingGetBody_passes (x := s.ctxRun 0x0A10 (some 0) c f) hread' hd
  rw [hset] at hbody
  exact (completes_query h rfl rfl hbody).mono fun t ⟨ha, ho, hw⟩ => ⟨ha, ho, hw hne hn⟩

theorem completes_challenge (hn : 0 < c.pkt.outLen.toNat) {v : BitVec 128} (hv : v = s.draw.setWidth 128) (h : Runs 0x0A03 none c s f) :
    Completes (.challenge c) s fun t =>
      t.life = { s.life with challenge := some v } ∧ t.ks.draws = s.ks.draws + 1 ∧ t.answers c.q f 0 0 ∧
      t.wrote c (leBytes 16 v.toNat) := by
  have hdraw : (s.begun 0x0A03 none c f).draw = s.draw := by simp [State.draw]
  have hbody : challengeBody (s.ctxRun 0x0A03 none c f) (s.begun 0x0A03 none c f) =
      { s := ({ s.begun 0x0A03 none c f with life := { s.life with challenge := some v } } : State).drawn 1
        cyc := (s.ctxRun 0x0A03 none c f).cyc 64, result := leBytes 16 v.toNat } := by
    rw [challengeBody, hdraw, hv, State.begun_life]
  refine completes_now h rfl hbody rfl rfl fun ha => ⟨?_, ?_, ha, ?_⟩
  · rw [Out.finish_life]
    rfl
  · rw [Out.finish_ks, ← State.begun_ks 0x0A03 none c f s]
    rfl
  · exact State.wrote_of (by simpa using finish_wrote h _ rfl rfl (by simp [leBytes]) (by simpa using hn))

theorem completes_tamperConfigRead (h : RunsSide 0x0A07 (some 0) c s) :
    Completes (.tamperConfigRead c) s fun t => t.sideAnswers c 0 0 (leBytes 64 s.tmp.cfg.toNat) ∧ t.tmp = s.tmp :=
  completes_side h rfl (o := { s := s.sideBegun 0x0A07 (some 0) c, cyc := (sideRun 0x0A07 (some 0) c).cyc 64
                               result := leBytes 64 s.tmp.cfg.toNat }) rfl rfl rfl fun t ht => ⟨ht, by rw [State.postReply_tmp]; rfl⟩

theorem tamperWriteBody_passes {bs : Bytes} {x : Ctx} (hdata : ∀ k, withData x s k = k bs) (hok : tamperRecordOk bs = true)
    (hweak : s.life.count = 3 ∨ s.life.count = 5 → weakens (leBytes 64 s.tmp.cfg.toNat) bs = false)
    (hfloor : s.life.count = 3 → belowFloor bs = false) :
    tamperWriteBody x s =
      { s := { s with tmp := { s.tmp with cfg := BitVec.ofNat 512 (leNat (tamperStored bs)) } }, cyc := x.cyc 64 } := by
  have hlow : ¬ ((s.life.count = 3 || s.life.count = 5) && weakens (leBytes 64 s.tmp.cfg.toNat) bs ||
      s.life.count = 3 && belowFloor bs) = true := by
    simp only [Bool.or_eq_true, Bool.and_eq_true, decide_eq_true_eq]
    rintro (⟨hc, hw⟩ | ⟨hc, hb⟩)
    · rw [hweak hc] at hw
      cases hw
    · rw [hfloor hc] at hb
      cases hb
  simp only [tamperWriteBody, hdata, hok, hlow, Bool.not_true, Bool.false_eq_true, if_false]

theorem completes_tamperConfigWrite (h : RunsSide 0x0A07 (some 1) c s) (hm : c.memErr = none) (hok : tamperRecordOk c.bytes = true)
    (hweak : s.life.count = 3 ∨ s.life.count = 5 → weakens (leBytes 64 s.tmp.cfg.toNat) c.bytes = false)
    (hfloor : s.life.count = 3 → belowFloor c.bytes = false) :
    Completes (.tamperConfigWrite c) s fun t =>
      t.tmp = { s.tmp with cfg := BitVec.ofNat 512 (leNat (tamperStored c.bytes)) } ∧ t.sideAnswers c 0 0 [] := by
  have hbody := tamperWriteBody_passes (s := s.sideBegun 0x0A07 (some 1) c) (x := sideRun 0x0A07 (some 1) c) (withData_side hm _)
    hok hweak hfloor
  exact completes_side h rfl hbody rfl rfl fun t ht => ⟨by rw [State.postReply_tmp]; rfl, ht⟩

theorem completes_tamperRelease_none (h : RunsSide 0x0A08 none c s) (hl : s.tmp.level = 0) :
    Completes (.tamperRelease c) s fun t => t.tmp = s.tmp ∧ t.sideAnswers c 0 0 [] := by
  have hl' : (s.sideBegun 0x0A08 none c).tmp.level = 0 := hl
  have hbody : tamperReleaseBody (sideRun 0x0A08 none c) (s.sideBegun 0x0A08 none c) =
      { s := s.sideBegun 0x0A08 none c, cyc := (sideRun 0x0A08 none c).cyc 64 } := by
    rw [tamperReleaseBody, if_pos hl']
  exact completes_side h rfl hbody rfl rfl fun t ht => ⟨by rw [State.postReply_tmp]; rfl, ht⟩

theorem completes_tamperRelease_tests (h : RunsSide 0x0A08 none c s) (hl : s.tmp.level ≠ 0) (hsrc : s.holdSource = false)
    (hst : s.tmp.stage = .idle) (hrel : s.tmp.releasing = false) :
    Completes (.tamperRelease c) s fun t =>
      t.tmp.releasing = true ∧ t.tmp.release.isSome = true ∧ t.tmp.tests = allSources ∧ t.tmp.testing = true ∧
      t.tmp.level = s.tmp.level := by
  have hl' : (s.sideBegun 0x0A08 none c).tmp.level ≠ 0 := hl
  have hsrc' : ¬ (s.sideBegun 0x0A08 none c).holdSource = true := by
    rw [show (s.sideBegun 0x0A08 none c).holdSource = s.holdSource from rfl, hsrc]
    decide
  have hst' : ¬ (s.sideBegun 0x0A08 none c).tmp.stage ≠ .idle := not_not.mpr hst
  have hrel' : ¬ (s.sideBegun 0x0A08 none c).tmp.releasing = true := by
    rw [show (s.sideBegun 0x0A08 none c).tmp.releasing = s.tmp.releasing from rfl, hrel]
    decide
  have hbody : tamperReleaseBody (sideRun 0x0A08 none c) (s.sideBegun 0x0A08 none c) =
      { s := State.startRelease (some ((sideRun 0x0A08 none c).held 0 ((sideRun 0x0A08 none c).cyc 64) 0 []))
          (s.sideBegun 0x0A08 none c), cyc := 64, when_ := .later } := by
    rw [tamperReleaseBody, if_neg hl', if_neg hsrc', if_neg hst', if_neg hrel']
  exact completes_side_later h rfl hbody rfl ⟨rfl, rfl, rfl, rfl, rfl⟩

end

/-- Settles O30: the reports by what each reads, the tamper commands by what each body makes. -/
theorem managementReportsAndTamperCommands : Obligations.ManagementReportsAndTamperCommands := by
  unfold Obligations.ManagementReportsAndTamperCommands
  refine ⟨fun c s f hn => ⟨completes_sensorRead hn, fun rs h hread hrs => ?_, completes_keeperStatus hn,
    fun step outcome h hread hho => ?_, ?_, fun v hv h => completes_challenge hn hv h⟩,
    fun c s => ⟨completes_tamperConfigRead, completes_tamperConfigWrite, fun h => ⟨completes_tamperRelease_none h,
      completes_tamperRelease_tests h⟩⟩⟩
  · exact completes_logRead hn h hread hrs
  · exact completes_fwStatus hn h hread hho
  · rintro p d rfl h hread hd hne
    exact completes_settingGet hn h hread hd hne

end Sys2Proof.Machine
end

section
/-! PROOFS. Firmware staging and activation, security versions and settings (R361 to R370). -/

namespace Sys2Proof.Machine

set_option Elab.async false

section
variable {op : BitVec 16} {sub : Option Byte} {c : Cmd} {s : State} {f : Fetched}

/-! ## What a command of the MSS leaves of it -/

theorem State.postReply_mss_host (h : Held) (s : State) (hv : h.via = .host) :
    ∃ r, (s.postReply h).mss = { s.mss with running := r } := by
  rw [State.postReply_host h s hv]
  unfold State.mssDone
  split
  · split
    · exact ⟨none, by rw [State.postHost_mss]⟩
    · exact ⟨_, State.postHost_mss h s⟩
  · exact ⟨_, State.postHost_mss h s⟩

/-- A host command's end changes nothing of the MSS but what it runs. -/
theorem finish_mss_host (h : Runs op sub c s f) (o : Out) :
    ∃ r, (o.finish (s.ctxRun op sub c f)).mss = { o.s.mss with running := r } := by
  unfold Out.finish
  split
  · exact State.postReply_mss_host _ _ h.host
  · exact ⟨_, rfl⟩
  · exact ⟨_, rfl⟩

/-- A row of the MSS whose body answers at once. -/
theorem completes_now_mss {i : Instr} {body : Ctx → State → Out} {P : State → Prop} {o : Out} (h : Runs op sub c s f)
    (hi : exec i s = .next (runOp op sub body c s)) (ho : body (s.ctxRun op sub c f) (s.begun op sub c f) = o) (hw : o.when_ = .now)
    (hq : o.s.queue c.q = (s.begun op sub c f).queue c.q)
    (hP : ∀ t r, t = o.finish (s.ctxRun op sub c f) → t.mss = { o.s.mss with running := r } → t.answers c.q f o.status o.inl → P t) :
    Completes i s P := by
  obtain ⟨r, hr⟩ := finish_mss_host h o
  exact completes_now h hi ho hw hq fun ha => hP _ r rfl hr ha

theorem State.flashNow_queue (req : FlashReq) (s : State) (q : QId) : (s.flashNow req).queue q = s.queue q := by
  have h : s.touches [.arb, .kp, .memories] (s.flashNow req) := by simp
  exact State.queue_of_touches h (by decide) (by decide) q

theorem State.writeBoot_mss (r : BootRec) (s : State) : (s.writeBoot r).mss = { s.mss with boot := r } := by
  unfold State.writeBoot
  dsimp only
  split
  · rw [State.flashNow_mss]
  · rfl

theorem State.writeBoot_queue (r : BootRec) (s : State) (q : QId) : (s.writeBoot r).queue q = s.queue q := by
  have h : s.touches [.arb, .kp, .mss, .memories] (s.writeBoot r) := by simp
  exact State.queue_of_touches h (by decide) (by decide) q

theorem State.noteErases_mss (n : Nat) (s : State) : (s.noteErases n).mss = s.mss := by
  have h : s.touches [.arb, .kp] (s.noteErases n) := by simp
  exact h .mss (by decide)

theorem State.noteErases_queue (n : Nat) (s : State) (q : QId) : (s.noteErases n).queue q = s.queue q := by
  have h : s.touches [.arb, .kp] (s.noteErases n) := by simp
  exact State.queue_of_touches h (by decide) (by decide) q

theorem State.log_queue (code : BitVec 16) (a b : Byte) (d : Bytes) (s : State) (q : QId) : (s.log code a b d).queue q = s.queue q :=
  State.queue_congr (by simp) (by simp) q

/-! ## Staging (R363) -/

/-- The state of a staging session begun. -/
def State.stagingBegun (t : Staging) (n : Nat) (s : State) : State :=
  let u := ({ s with kp := s.kp.eraseBank n } : State).noteErases s.kp.eraseCount
  let v := u.writeBoot (u.mss.boot.mark n 0)
  { v with mss := { v.mss with staging := some t } }

theorem State.stagingBegun_mss (t : Staging) (n : Nat) (s : State) :
    (s.stagingBegun t n).mss = { s.mss with boot := s.mss.boot.mark n 0, staging := some t } := by
  unfold State.stagingBegun
  dsimp only
  rw [State.writeBoot_mss, State.noteErases_mss]

theorem State.stagingBegun_queue (t : Staging) (n : Nat) (s : State) (q : QId) : (s.stagingBegun t n).queue q = s.queue q := by
  have h : (s.stagingBegun t n).queue q = ((({ s with kp := s.kp.eraseBank n } : State).noteErases s.kp.eraseCount).writeBoot
      ((({ s with kp := s.kp.eraseBank n } : State).noteErases s.kp.eraseCount).mss.boot.mark n 0)).queue q := rfl
  rw [h, State.writeBoot_queue, State.noteErases_queue]
  rfl

theorem stageBeginBody_passes {x : Ctx} {kind n : Nat} {b : Bool} (hkind : kind = (x.c.pkt.byteAt 33).toNat) (hb : b = s.mss.boot.spare kind)
    (hn : n = bankNo kind b) (hk : kind = 1 ∨ kind = 2) (hnvm : s.nvmStatus = none) (hst : s.mss.staging = none)
    (hho : kind = 1 → s.mss.ho = none) (hbad : s.kp.bankBad n = false) :
    stageBeginBody x s = { s := s.stagingBegun { kind := BitVec.ofNat 8 kind, bankB := b, next := 0, via := x.c.via } n
                           cyc := x.cyc 64 } := by
  have hok : kindOk kind = true := by simpa [kindOk] using hk
  have hho' : (kind == 1 && s.mss.ho.isSome) = false := by
    by_cases h1 : kind = 1
    · simp [hho h1]
    · simp [h1]
  subst hn hb hkind
  simp only [stageBeginBody, hnvm, hok, hst, hho', hbad, Option.isSome_none, Bool.not_true, Bool.or_self, Bool.false_eq_true, if_false]
  rfl

theorem State.session_eq {x : Ctx} {g : Staging} (hg : s.mss.staging = some g) (hk : g.kind = x.c.pkt.byteAt 33) (hv : g.via = x.c.via) :
    s.session x = some g := by
  simp [State.session, hg, hk, hv]

theorem stageChunkBody_passes {x : Ctx} {bs : Bytes} {g : Staging} (hdata : ∀ k, withData x s k = k bs) (hnvm : s.nvmStatus = none)
    (hs : s.session x = some g) (hnext : x.c.pkt.field 36 4 = g.next) (hal : g.next % 256 = 0)
    (hroom : g.next + bs.length ≤ bankSize (bankNo g.kind.toNat g.bankB)) :
    stageChunkBody x s =
      { s := { s with kp := s.kp.sectorsProgram (bankSectors (bankNo g.kind.toNat g.bankB)).1 g.next bs
                      mss := { s.mss with staging := some { g with next := g.next + bs.length } } }, cyc := x.cyc 64 } := by
  have hno : ¬ (x.c.pkt.field 36 4 ≠ g.next ∨ g.next % 256 ≠ 0 ∨ bankSize (bankNo g.kind.toNat g.bankB) < g.next + bs.length) := by
    rintro (h | h | h)
    · exact h hnext
    · exact h hal
    · exact absurd hroom (Nat.not_le.mpr h)
  simp only [stageChunkBody, hdata, hnvm, hs, hno, if_false]

/-- The state of a staging session ended. -/
def State.stagingEnded (g : Staging) (s : State) : State :=
  let u : State := { s with mss := { s.mss with staging := none } }
  (u.writeBoot (u.mss.boot.mark (bankNo g.kind.toNat g.bankB) 1)).log 0x0040 2 0
    ([g.kind, BitVec.ofNat 8 g.bankB.toNat] ++ leBytes 4 g.next)

theorem State.stagingEnded_mss (g : Staging) (s : State) :
    (s.stagingEnded g).mss = { s.mss with staging := none, boot := s.mss.boot.mark (bankNo g.kind.toNat g.bankB) 1 } := by
  unfold State.stagingEnded
  dsimp only
  rw [State.log_mss, State.writeBoot_mss]

theorem State.stagingEnded_queue (g : Staging) (s : State) (q : QId) : (s.stagingEnded g).queue q = s.queue q := by
  unfold State.stagingEnded
  dsimp only
  rw [State.log_queue, State.writeBoot_queue]
  rfl

theorem stageEndBody_passes {x : Ctx} {g : Staging} (hnvm : s.nvmStatus = none) (hs : s.session x = some g)
    (hnext : x.c.pkt.field 36 4 = g.next) : stageEndBody x s = { s := s.stagingEnded g, cyc := x.cyc 64 } := by
  simp only [stageEndBody, hnvm, hs, hnext, ne_eq, not_true, if_false]
  rfl

theorem stageAbandonBody_passes {x : Ctx} {g : Staging} (hs : s.session x = some g) :
    stageAbandonBody x s = { s := { s with mss := { s.mss with staging := none } }, cyc := x.cyc 64 } := by
  simp only [stageAbandonBody, hs]

/-! ## Activation (R365, R366, R368) -/

/-- The state of a handover begun. -/
def State.handingOver (k : Handover) (s : State) : State :=
  let u := (s.log 0x0042 2 0 [1, 0]).raise evHandover
  State.assign 0 { u with mss := { u.mss with ho := some k } }

/-- An event raised shows in the event status. -/
theorem State.raise_evtStat (bit : Nat) (s : State) (h : bit < 11) : (s.raise bit).gctl.evtStat.getLsbD bit = true := by
  rw [State.raise_gctl]
  exact getLsbD_setBit _ _ _ h

theorem handoverBody_passes {x : Ctx} (hbank : s.mss.boot.state (bankNo 1 (s.mss.boot.spare 1)) = 1) (hho : s.mss.ho = none) :
    handoverBody x s =
      { s := s.handingOver { step := 3, plan := s.gctl.sliceOwner, failing := 0, back := false, paused := s.holding
                             h := x.held 0 (x.cyc 64) 0 [] }, cyc := 64, when_ := .later } := by
  simp only [handoverBody, hbank, hho, ne_eq, not_true, Option.isSome_none, Bool.false_eq_true, or_self, if_false]
  rfl

theorem commitSvBody_passes {x : Ctx} {kind v : Nat} (hkind : kind = (x.c.pkt.byteAt 33).toNat) (hk : kind = 1 ∨ kind = 2)
    (hv : s.runningSv kind = some v) :
    commitSvBody x s =
      { s := ({ s with life := if kind = 1 then { s.life with cpSv := max v s.life.cpSv } else { s.life with mssSv := max v s.life.mssSv } }
              : State).log 0x0044 2 1 [BitVec.ofNat 8 kind, BitVec.ofNat 8 (max v (s.life.sv kind))], cyc := x.cyc 64 } := by
  have hok : kindOk kind = true := by simpa [kindOk] using hk
  subst hkind
  simp only [commitSvBody, hok, hv, if_true]
  rcases hk with h1 | h2
  · rw [h1]
    rfl
  · rw [h2]
    rfl

/-! ## The rows -/

/-- The session of a host's packet, in the state in which the packet begins. -/
theorem State.session_begun (hop : forMss op = true) (h : Runs op sub c s f) {g : Staging} (hg : s.mss.staging = some g)
    (hk : g.kind = (rowPacket op sub c.pkt).byteAt 33) (hv : g.via = .host) :
    (s.begun op sub c f).session (s.ctxRun op sub c f) = some g :=
  State.session_eq (by rw [State.begun_mss hop]; exact hg) hk (hv.trans h.host.symm)

theorem completes_fwStageBegin {kind n : Nat} {b : Bool} (hkind : kind = ((rowPacket 0x0A0D (some 0) c.pkt).byteAt 33).toNat)
    (hb : b = s.mss.boot.spare kind) (hn : n = bankNo kind b) (hk : kind = 1 ∨ kind = 2) (h : Runs 0x0A0D (some 0) c s f)
    (hnvm : s.nvmStatus = none) (hst : s.mss.staging = none) (hho : kind = 1 → s.mss.ho = none) (hbad : s.kp.bankBad n = false) :
    Completes (.fwStageBegin c) s fun t =>
      t.mss.staging = some { kind := BitVec.ofNat 8 kind, bankB := b, next := 0, via := .host } ∧
      t.mss.boot = s.mss.boot.mark n 0 ∧ t.answers c.q f 0 0 := by
  have hmss := State.begun_mss (op := 0x0A0D) (by decide) (some 0) c f s
  have hbody := stageBeginBody_passes (x := s.ctxRun 0x0A0D (some 0) c f) (s := s.begun 0x0A0D (some 0) c f) hkind
    (by rw [hmss]; exact hb) hn hk ((State.begun_nvmStatus ..).trans hnvm) (by rw [hmss]; exact hst) (by rw [hmss]; exact hho)
    (by rw [State.begun_kp]; exact hbad)
  refine completes_now_mss h rfl hbody rfl (State.stagingBegun_queue _ _ _ _) fun t r _ hr ha => ?_
  rw [hr, State.stagingBegun_mss, hmss]
  exact ⟨congrArg (fun v => some ({ kind := BitVec.ofNat 8 kind, bankB := b, next := 0, via := v } : Staging)) h.host, rfl, ha⟩

theorem completes_fwStageChunk {g : Staging} (hg : s.mss.staging = some g) (hk : g.kind = (rowPacket 0x0A0D (some 1) c.pkt).byteAt 33)
    (hv : g.via = .host) (h : Runs 0x0A0D (some 1) c s f) (hm : c.memErr = none) (hnvm : s.nvmStatus = none)
    (hnext : (rowPacket 0x0A0D (some 1) c.pkt).field 36 4 = g.next) (hal : g.next % 256 = 0)
    (hroom : g.next + c.bytes.length ≤ bankSize (bankNo g.kind.toNat g.bankB)) :
    Completes (.fwStageChunk c) s fun t =>
      t.kp = s.kp.sectorsProgram (bankSectors (bankNo g.kind.toNat g.bankB)).1 g.next c.bytes ∧
      t.mss.staging = some { g with next := g.next + c.bytes.length } ∧ t.answers c.q f 0 0 := by
  have hbody := stageChunkBody_passes (x := s.ctxRun 0x0A0D (some 1) c f) (s := s.begun 0x0A0D (some 1) c f) (withData_ok hm _)
    ((State.begun_nvmStatus ..).trans hnvm) (State.session_begun (by decide) h hg hk hv) hnext hal hroom
  refine completes_now_mss h rfl hbody rfl rfl fun t r ht hr ha => ⟨?_, ?_, ha⟩
  · rw [ht, Out.finish_kp, ← State.begun_kp 0x0A0D (some 1) c f s]
  · rw [hr]

theorem completes_fwStageEnd {g : Staging} (hg : s.mss.staging = some g) (hk : g.kind = (rowPacket 0x0A0D (some 2) c.pkt).byteAt 33)
    (hv : g.via = .host) (h : Runs 0x0A0D (some 2) c s f) (hnvm : s.nvmStatus = none)
    (hnext : (rowPacket 0x0A0D (some 2) c.pkt).field 36 4 = g.next) :
    Completes (.fwStageEnd c) s fun t =>
      t.mss.staging = none ∧ t.mss.boot = s.mss.boot.mark (bankNo g.kind.toNat g.bankB) 1 ∧ t.answers c.q f 0 0 := by
  have hbody := stageEndBody_passes (x := s.ctxRun 0x0A0D (some 2) c f) (s := s.begun 0x0A0D (some 2) c f)
    ((State.begun_nvmStatus ..).trans hnvm) (State.session_begun (by decide) h hg hk hv) hnext
  refine completes_now_mss h rfl hbody rfl (State.stagingEnded_queue _ _ _) fun t r _ hr ha => ?_
  rw [hr, State.stagingEnded_mss, State.begun_mss (by decide)]
  exact ⟨rfl, rfl, ha⟩

theorem completes_fwStageAbandon {g : Staging} (hg : s.mss.staging = some g) (hk : g.kind = (rowPacket 0x0A0D (some 3) c.pkt).byteAt 33)
    (hv : g.via = .host) (h : Runs 0x0A0D (some 3) c s f) :
    Completes (.fwStageAbandon c) s fun t => t.mss.staging = none ∧ t.mss.boot = s.mss.boot ∧ t.answers c.q f 0 0 := by
  have hbody := stageAbandonBody_passes (State.session_begun (by decide) h hg hk hv)
  refine completes_now_mss h rfl hbody rfl rfl fun t r _ hr ha => ?_
  rw [hr, State.begun_mss (by decide)]
  exact ⟨rfl, rfl, ha⟩

theorem completes_fwActivateHandover (h : Runs 0x0A0E (some 0) c s f)
    (hbank : s.mss.boot.state (bankNo 1 (s.mss.boot.spare 1)) = 1) (hho : s.mss.ho = none) :
    Completes (.fwActivateHandover c) s fun t =>
      t.gctl.sliceOwner = 0 ∧ t.gctl.evtStat.getLsbD evHandover = true ∧
      ∃ k, t.mss.ho = some k ∧ k.step = 3 ∧ k.plan = s.gctl.sliceOwner ∧ k.back = false ∧ k.paused = s.holding ∧ k.h.q = c.q ∧
        k.h.id = f.id := by
  have hmss := State.begun_mss (op := 0x0A0E) (by decide) (some 0) c f s
  have hbody := handoverBody_passes (x := s.ctxRun 0x0A0E (some 0) c f) (s := s.begun 0x0A0E (some 0) c f)
    (by rw [hmss]; exact hbank) (by rw [hmss]; exact hho)
  refine completes_later h rfl hbody rfl ⟨rfl, ?_, _, rfl, rfl, ?_, rfl, ?_, rfl, rfl⟩
  · exact State.raise_evtStat _ _ (by decide)
  · rw [State.begun_gctl]
  · simp [State.holding]

/-- A reply, whichever way it goes, leaves the record of the banks. -/
theorem State.postReply_boot (h : Held) (s : State) : (s.postReply h).mss.boot = s.mss.boot := by
  cases hv : h.via with
  | host =>
    obtain ⟨r, hr⟩ := State.postReply_mss_host h s hv
    rw [hr]
  | smbus =>
    rw [State.postReply, hv]
    dsimp only
    split <;> rfl
  | spi =>
    rw [State.postReply, hv]
    dsimp only
    split <;> rfl

/-- A handover cut off by a reset leaves the record of the banks. -/
theorem State.cutHandover_boot (s : State) : s.cutHandover.mss.boot = s.mss.boot := by
  unfold State.cutHandover
  split
  · rfl
  · have himage (b : Bool) (r : Option Running) : (s.setImage b r).mss.boot = s.mss.boot := by cases b <;> rfl
    unfold State.endHandover
    split
    · exact himage _ _
    · dsimp only
      rw [State.postReply_boot, State.raise_mss, State.log_mss]
      exact himage _ _

theorem State.resetMss_boot (kind : Nat) (s : State) : (s.resetMss kind).mss.boot = s.mss.boot := by
  have h : (s.resetMss kind).mss.boot = (s.cutHandover.logReset kind).mss.boot := rfl
  rw [h, State.logReset, State.log_mss, State.cutHandover_boot]

theorem completes_fwActivateMssReboot_boots (h : Runs 0x0A0E (some 1) c s f) (hnvm : s.nvmStatus = none)
    (hbank : s.mss.boot.state (bankNo 2 (s.mss.boot.spare 2)) = 1) :
    Completes (.fwActivateMssReboot c) s fun t =>
      t.mss.boot = s.mss.boot.swap 2 ∧ t.mss.st = .booting ∧ t.mss.update = true ∧ t.mss.running = none ∧
      t.mss.staging = none ∧ ∃ h, t.mss.reboot = some h ∧ h.q = c.q ∧ h.id = f.id := by
  have hbody := mssRebootBody_of_staged (x := s.ctxRun 0x0A0E (some 1) c f) (s := s.begun 0x0A0E (some 1) c f) h.host
    ((State.begun_nvmStatus ..).trans hnvm) (by rwa [State.begun_mss (by decide)])
  refine completes_later h rfl hbody rfl ⟨?_, rfl, rfl, rfl, rfl, _, rfl, rfl, rfl⟩
  have hboot (u : State) (r : Held) : (u.updatedMss r).mss.boot = u.mss.boot.swap 2 := by
    have h1 : (u.updatedMss r).mss.boot = ((u.writeBoot (u.mss.boot.swap 2)).resetMss rkMssUpdate).mss.boot := rfl
    rw [h1, State.resetMss_boot, State.writeBoot_mss]
  rw [hboot, State.begun_mss (by decide)]

theorem completes_fwActivateCommitSv {kind v : Nat} (hkind : kind = ((rowPacket 0x0A0E (some 2) c.pkt).byteAt 33).toNat)
    (hk : kind = 1 ∨ kind = 2) (h : Runs 0x0A0E (some 2) c s f) (hv : s.runningSv kind = some v) :
    Completes (.fwActivateCommitSv c) s fun t =>
      t.life = (if kind = 1 then { s.life with cpSv := max v s.life.cpSv } else { s.life with mssSv := max v s.life.mssSv }) ∧
      t.answers c.q f 0 0 := by
  have hrun : (s.begun 0x0A0E (some 2) c f).runningSv kind = s.runningSv kind := by
    simp only [State.runningSv, State.begun_mss (op := 0x0A0E) (by decide)]
  have hbody := commitSvBody_passes (x := s.ctxRun 0x0A0E (some 2) c f) (s := s.begun 0x0A0E (some 2) c f) hkind hk (hrun.trans hv)
  rw [State.begun_life] at hbody
  refine completes_now h rfl hbody rfl ?_ fun ha => ⟨?_, ha⟩
  · rw [State.log_queue]
    rfl
  · rw [Out.finish_life, State.log_life]

/-! ## Settings (R370) -/

theorem State.applySettings_queue (s : State) (q : QId) : s.applySettings.queue q = s.queue q := rfl
theorem State.applySettings_kp (s : State) : s.applySettings.kp = s.kp := rfl

theorem settingSetBody_passes {x : Ctx} {key : Nat} {bs d : Bytes} (hdata : ∀ k, withData x s k = k bs) (hkey : key = x.c.pkt.field 36 4)
    (hnvm : s.nvmStatus = none) (hd : settingDefault key = some d) (hlen : bs.length = d.length) (hok : settingOk key bs = true) :
    settingSetBody x s =
      { s := (s.flashNow (configReq key (leBytes 2 s.schema ++ bs))).applySettings, cyc := x.cyc 64 } := by
  subst hkey
  simp only [settingSetBody, hdata, hnvm, hd, hlen, hok, ne_eq, not_true, Bool.not_true, Bool.false_eq_true, if_false]

theorem settingDefaultBody_passes {x : Ctx} {key : Nat} {d : Bytes} (hkey : key = x.c.pkt.field 36 4)
    (hnvm : s.nvmStatus = none) (hd : settingDefault key = some d) :
    settingDefaultBody x s =
      { s := (if (s.kp.records.find key).isSome then s.flashNow (configReq key []) else s).applySettings, cyc := x.cyc 64 } := by
  subst hkey
  simp only [settingDefaultBody, hnvm, hd]

theorem completes_settingSet {key : Nat} {d : Bytes} (hkey : key = (rowPacket 0x0A10 (some 1) c.pkt).field 36 4)
    (hnvm : s.nvmStatus = none) (hd : settingDefault key = some d) (h : Runs 0x0A10 (some 1) c s f) (hm : c.memErr = none)
    (hlen : c.bytes.length = d.length) (hok : settingOk key c.bytes = true) (hfl : s.flashTakes .config (d.length + 2)) :
    Completes (.settingSet c) s fun t => t.kp.records.find key = some (leBytes 2 s.schema ++ c.bytes) ∧ t.answers c.q f 0 0 := by
  have hschema : (s.begun 0x0A10 (some 1) c f).schema = s.schema := by
    simp only [State.schema, State.begun_mss (op := 0x0A10) (by decide)]
  have hbody := settingSetBody_passes (x := s.ctxRun 0x0A10 (some 1) c f) (s := s.begun 0x0A10 (some 1) c f) (withData_ok hm _) hkey
    ((State.begun_nvmStatus ..).trans hnvm) hd hlen hok
  rw [hschema] at hbody
  have htakes : (s.begun 0x0A10 (some 1) c f).flashTakes .config (leBytes 2 s.schema ++ c.bytes).length := by
    have hl : (leBytes 2 s.schema ++ c.bytes).length = d.length + 2 := by simp [leBytes, hlen]
    rw [hl]
    simpa [State.flashTakes] using hfl
  have hlt : key < 2 ^ 32 := hkey ▸ field_four_lt _ _
  refine completes_now h rfl hbody rfl ?_ fun ha => ⟨?_, ha⟩
  · dsimp only
    rw [State.applySettings_queue, State.flashNow_queue]
  · rw [Out.finish_kp, State.applySettings_kp]
    exact State.flashNow_record htakes (by simp [leBytes]) hlt

theorem completes_settingDefault {key : Nat} {d : Bytes} (hkey : key = (rowPacket 0x0A10 (some 2) c.pkt).field 36 4)
    (hnvm : s.nvmStatus = none) (hd : settingDefault key = some d) (h : Runs 0x0A10 (some 2) c s f) (hfl : s.flashTakes .config 0)
    (hsorted : Tab.sorted s.kp.records = true) :
    Completes (.settingDefault c) s fun t => t.kp.records.find key = none ∧ t.answers c.q f 0 0 := by
  have hbody := settingDefaultBody_passes (x := s.ctxRun 0x0A10 (some 2) c f) (s := s.begun 0x0A10 (some 2) c f) hkey
    ((State.begun_nvmStatus ..).trans hnvm) hd
  have hkp := State.begun_kp 0x0A10 (some 2) c f s
  have htakes : (s.begun 0x0A10 (some 2) c f).flashTakes .config 0 := by simpa [State.flashTakes] using hfl
  have hlt : key < 2 ^ 32 := hkey ▸ field_four_lt _ _
  by_cases hrec : ((s.begun 0x0A10 (some 2) c f).kp.records.find key).isSome
  · rw [if_pos hrec] at hbody
    refine completes_now h rfl hbody rfl ?_ fun ha => ⟨?_, ha⟩
    · dsimp only
      rw [State.applySettings_queue, State.flashNow_queue]
    · rw [Out.finish_kp, State.applySettings_kp]
      exact State.flashNow_delete htakes (hkp ▸ hsorted) hlt
  · rw [if_neg hrec] at hbody
    refine completes_now h rfl hbody rfl rfl fun ha => ⟨?_, ha⟩
    rw [Out.finish_kp, State.applySettings_kp]
    exact Option.not_isSome_iff_eq_none.mp hrec

end

/-- Settles O33: each body with its checks passed, and what its steps leave of the MSS. -/
theorem firmwareAndSettings : Obligations.FirmwareAndSettings := by
  unfold Obligations.FirmwareAndSettings
  refine fun c s f p => ⟨?_, fun g n hg hk hv hn => ⟨?_, ?_, ?_⟩, completes_fwActivateHandover, completes_fwActivateMssReboot_boots, ?_,
    fun key d hkey hnvm hd => ⟨?_, ?_⟩⟩
  · rintro kind n b rfl hkind hb hn hk h hnvm hst hho hbad
    exact completes_fwStageBegin hkind hb hn hk h hnvm hst hho hbad
  · rintro rfl h hm hnvm hnext hal hroom
    subst hn
    exact completes_fwStageChunk hg hk hv h hm hnvm hnext hal hroom
  · rintro rfl h hnvm hnext
    subst hn
    exact completes_fwStageEnd hg hk hv h hnvm hnext
  · rintro rfl h
    exact completes_fwStageAbandon hg hk hv h
  · rintro kind v rfl hkind hk h hv
    exact completes_fwActivateCommitSv hkind hk h hv
  · rintro rfl h hm hlen hok hfl
    exact completes_settingSet hkey hnvm hd h hm hlen hok hfl
  · rintro rfl h hfl hsorted
    exact completes_settingDefault hkey hnvm hd h hfl hsorted

end Sys2Proof.Machine
end

section
/-! PROOFS. What traffic leaves of a Skein link, and what a change of service leaves of the rest. -/

namespace Sys2Proof.Machine

set_option Elab.async false

/-! ## Links under traffic -/

/-- A port but for what the packets and groups that it carries change. -/
def SkPort.link (k : SkPort) : SkPort :=
  { k with txGroup := 0, txFlits := [], slot := 0, replay := [], egress := [], vcs := Vector.replicate 5 resetVc }

/-- Both links are as they were, whatever was sent on them. -/
def State.sameLinks (s t : State) : Prop := ∀ w, (t.port w).link = (s.port w).link

theorem State.sameLinks.refl (s : State) : s.sameLinks s := fun _ => rfl

theorem State.sameLinks.trans {s t u : State} (h : s.sameLinks t) (k : t.sameLinks u) : s.sameLinks u :=
  fun w => (k w).trans (h w)

theorem State.port_setPort (w : Port) (p : SkPort) (s : State) : (s.setPort w p).port w = p := by
  cases w <;> rfl

theorem State.port_setPort_ne {w v : Port} (h : v ≠ w) (p : SkPort) (s : State) : (s.setPort w p).port v = s.port v := by
  cases w <;> cases v
  · exact absurd rfl h
  · rfl
  · rfl
  · exact absurd rfl h

theorem State.port_emit (x : Posted) (s : State) (w : Port) : (s.emit x).port w = s.port w := by
  cases w <;> rfl

theorem State.sameLinks_setPort {w : Port} {p : SkPort} {s : State} (h : p.link = (s.port w).link) : s.sameLinks (s.setPort w p) := by
  intro v
  by_cases hv : v = w
  · rw [hv, State.port_setPort, h]
  · rw [State.port_setPort_ne hv]

/-- Traffic that begins by writing a port, with its link as it was. -/
theorem State.sameLinks_of_setPort {w : Port} {p : SkPort} {s t : State} (h : (s.setPort w p).sameLinks t) (hp : p.link = (s.port w).link) :
    s.sameLinks t :=
  (State.sameLinks_setPort hp).trans h

theorem State.sameLinks_emit (x : Posted) (s : State) : s.sameLinks (s.emit x) := fun w => by rw [State.port_emit]

theorem State.sameLinks_sendGroup (w : Port) (bs : Bytes) (s : State) : s.sameLinks (s.sendGroup w bs) := by
  unfold State.sendGroup
  dsimp only
  split
  · exact .refl s
  · exact State.sameLinks_of_setPort (State.sameLinks_emit _ _) rfl

theorem State.sameLinks_formGroups (w : Port) (n : Nat) (bs : Bytes) (s : State) : s.sameLinks (s.formGroups w n bs) := by
  induction n generalizing bs s with
  | zero => exact State.sameLinks_setPort rfl
  | succ n ih =>
    unfold State.formGroups
    split
    · exact State.sameLinks_setPort rfl
    · exact (State.sameLinks_sendGroup _ _ _).trans (ih _ _)

theorem State.sameLinks_fillGroup (w : Port) (s : State) : s.sameLinks (s.fillGroup w) := by
  unfold State.fillGroup
  dsimp only
  split
  · exact .refl s
  · exact State.sameLinks_formGroups _ _ _ _

theorem State.sameLinks_transmit (w : Port) (p : SkPacket) (s : State) : s.sameLinks (s.transmit w p) :=
  State.sameLinks_of_setPort ((State.sameLinks_emit _ _).trans (State.sameLinks_formGroups _ _ _ _)) rfl

theorem State.sameLinks_freeFlits (w : Option Port) (p : SkPacket) (s : State) : s.sameLinks (s.freeFlits w p) := by
  cases w with
  | none => exact .refl s
  | some w => exact State.sameLinks_of_setPort (State.sameLinks_emit _ _) rfl

theorem State.sameLinks_drainTurns (w : Port) (n : Nat) (s : State) : s.sameLinks (s.drainTurns w n) := by
  induction n generalizing s with
  | zero => exact .refl s
  | succ n ih =>
    unfold State.drainTurns
    dsimp only
    split
    · exact .refl s
    · exact State.sameLinks_of_setPort
        (((State.sameLinks_transmit _ _ _).trans (State.sameLinks_freeFlits _ _ _)).trans (ih _)) rfl

theorem State.sameLinks_drainEgress (w : Port) (s : State) : s.sameLinks (s.drainEgress w) :=
  (State.sameLinks_drainTurns _ _ _).trans (State.sameLinks_fillGroup _ _)

theorem State.sameLinks_sendOn (w : Port) (p : SkPacket) (s : State) : s.sameLinks (s.sendOn w p) :=
  State.sameLinks_of_setPort (State.sameLinks_drainEgress _ _) rfl

theorem State.sameNode_drainEgress (w : Port) (s : State) : s.sameNode (s.drainEgress w) :=
  (State.sameNode_drainTurns _ _ _).trans (State.sameNode_fillGroup _ _)

theorem State.sameLinks_reroute (w : Port) (s : State) : s.sameLinks (s.reroute w) := by
  unfold State.reroute
  dsimp only
  split
  · exact .refl s
  · exact State.sameLinks_of_setPort (State.sameLinks_of_setPort (State.sameLinks_drainEgress _ _) rfl) rfl

theorem State.sameNode_reroute (w : Port) (s : State) : s.sameNode (s.reroute w) := by
  unfold State.reroute
  dsimp only
  split
  · rfl
  · exact ((State.sameNode_setPort _ _ _).trans (State.sameNode_setPort _ _ _)).trans (State.sameNode_drainEgress _ _)

/-- A port that leaves service: a chain is left, and the port's state is as asked. -/
theorem State.portOut_out (w : Port) (st : PortSt) (s : State) :
    ((s.portOut w st).port w).inService = false ∧ ((s.portOut w st).port w).st = st ∧ (s.portOut w st).skn.ring = false := by
  have hlink : ((s.portOut w st).port w).link = ({ s.port w with inService := false, st } : SkPort).link := by
    refine (State.sameLinks_reroute w _ w).trans ?_
    cases w <;> rfl
  have hring := State.sameNode_reroute w
    { s.setPort w { s.port w with inService := false, st } with
      skn := { (s.setPort w { s.port w with inService := false, st }).skn with ring := false } }
  exact ⟨congrArg SkPort.inService hlink, congrArg SkPort.st hlink, congrArg SkeinUnit.ring hring⟩

/-! ## A change of service -/

section
variable {s t : State} {code cause : Nat} {b : Bool}

theorem State.serviceChange_arb (code cause : Nat) (b : Bool) (s : State) :
    (s.serviceChange code cause b).arb =
      { s.arb with out := setBit s.arb.out code (!b), lastCause := BitVec.ofNat 3 cause, lastIn := b, lastUnit := BitVec.ofNat 8 code } := by
  simp [State.serviceChange]

theorem State.isOut_serviceChange (h : code < 128) : (s.serviceChange code cause b).isOut code = !b := by
  rw [State.isOut, State.serviceChange_arb]
  exact getLsbD_setBit _ _ _ h

theorem State.serviceChange_evtStat : (s.serviceChange code cause b).gctl.evtStat.getLsbD evUnitSvc = true := by
  unfold State.serviceChange
  dsimp only
  rw [State.log_gctl]
  exact State.raise_evtStat _ _ (by decide)

theorem State.serviceChange_spn : (s.serviceChange code cause b).spn = s.spn := by simp [State.serviceChange]
theorem State.serviceChange_ks : (s.serviceChange code cause b).ks = s.ks := by simp [State.serviceChange]
theorem State.serviceChange_skn : (s.serviceChange code cause b).skn = s.skn := by simp [State.serviceChange]
theorem State.serviceChange_mem : (s.serviceChange code cause b).mem = s.mem := by simp [State.serviceChange]

theorem State.serviceChange_queue (q : QId) : (s.serviceChange code cause b).queue q = s.queue q :=
  State.queue_congr (by simp [State.serviceChange]) (by simp [State.serviceChange]) q

/-- How many units are in service depends on the units and the service controller. -/
theorem State.unitOut_congr (hs : t.spn = s.spn) (hk : t.ks = s.ks) (hn : t.skn = s.skn) (ha : t.arb.out = s.arb.out) (code : Nat) :
    t.unitOut code = s.unitOut code := by
  have hport (w : Port) : t.port w = s.port w := by cases w <;> simp only [State.port, hn]
  simp only [State.unitOut, State.spindle, State.isOut, hs, hk, ha, hport]

theorem State.unitsIn_congr (hs : t.spn = s.spn) (hk : t.ks = s.ks) (hn : t.skn = s.skn) (ha : t.arb.out = s.arb.out) (code : Nat) :
    t.unitsIn code = s.unitsIn code := by
  simp only [State.unitsIn, State.unitOut_congr hs hk hn ha]

end

end Sys2Proof.Machine
end

section
/-! PROOFS. Units leave and enter service (R255 to R263). -/

namespace Sys2Proof.Machine

set_option Elab.async false

theorem Packet.setByte_byteAt (p : Packet) (k : Nat) (b : Byte) (hk : 32 ≤ k) (hk' : k < 64) : (p.setByte k b).byteAt k = b := by
  apply BitVec.eq_of_getLsbD_eq
  intro i hi
  have hlt : 8 * (k - 32) + i < 256 := by omega
  have hmask : (255#256).getLsbD i = true := by
    have hall : 255#256 = (BitVec.allOnes 8).setWidth 256 := by decide
    rw [hall, BitVec.getLsbD_setWidth, BitVec.getLsbD_allOnes]
    simp [hi]
    omega
  simp [Packet.setByte, Packet.byteAt, hi, hlt, hmask]

theorem rowPacket_service_op (b : Byte) (p : Packet) : (rowPacket 0x0A05 (some b) p).byteAt 32 = b :=
  Packet.setByte_byteAt _ 32 b (by decide) (by decide)

theorem State.port_congr {s t : State} (h : t.skn = s.skn) (w : Port) : t.port w = s.port w := by
  cases w <;> simp only [State.port, h]

section
variable {c : Cmd} {s : State} {f : Fetched} {sub : Option Byte} {code : Nat}

/-! ## In the state in which the command begins -/

theorem State.begun_service_mss : (s.begun 0x0A05 sub c f).mss = s.mss := State.begun_mss_same _ _ _ _ _ rfl

theorem State.begun_unitOut (code : Nat) : (s.begun 0x0A05 sub c f).unitOut code = s.unitOut code :=
  State.unitOut_congr (State.begun_spn ..) (State.begun_ks ..) (State.begun_skn ..) (by rw [State.begun_arb]) code

theorem State.begun_lastCore (code : Nat) : (s.begun 0x0A05 sub c f).lastCore code = s.lastCore code := by
  simp only [State.lastCore, State.isOut, State.begun_arb, State.begun_gctl]

theorem State.begun_serviceWaits (op code : Nat) : serviceWaits op code (s.begun 0x0A05 sub c f) = serviceWaits op code s := by
  simp only [serviceWaits, State.holding, State.begun_service_mss, State.begun_arb, State.begun_tmp]

theorem serviceWaits_remove (hst : s.mss.st = .running) (hret : s.arb.returning.find code = none) (hho : code < 16 → s.mss.ho = none) :
    serviceWaits 0 code s = false := by
  by_cases h : code < 16
  · simp [serviceWaits, hst, hret, hho h]
  · simp [serviceWaits, hst, hret, h]

theorem serviceWaits_return (hst : s.mss.st = .running) (hret : s.arb.returning.find code = none) (hhold : s.holding = false) :
    serviceWaits 1 code s = false := by
  simp [serviceWaits, hst, hret, hhold]

/-! ## The body, by what it comes to -/

theorem unitServiceBody_removed {x : Ctx} {u : State} (hop : x.c.pkt.byteAt 32 = 0) (hcode : code = (x.c.pkt.byteAt 33).toNat)
    (hw : serviceWaits 0 code u = false) (hout : u.unitOut code = true) : unitServiceBody x u = .service x u code 0 := by
  subst hcode
  simp [unitServiceBody, hop, hw, hout]

theorem unitServiceBody_remove {x : Ctx} {u : State} (hop : x.c.pkt.byteAt 32 = 0) (hcode : code = (x.c.pkt.byteAt 33).toNat)
    (hw : serviceWaits 0 code u = false) (hin : u.unitOut code = false) (hlast : u.lastCore code = false) :
    unitServiceBody x u = removeUnit x code u := by
  subst hcode
  simp [unitServiceBody, hop, hw, hin, hlast]

theorem unitServiceBody_returned {x : Ctx} {u : State} (hop : x.c.pkt.byteAt 32 = 1) (hcode : code = (x.c.pkt.byteAt 33).toNat)
    (hw : serviceWaits 1 code u = false) (hin : u.unitOut code = false) : unitServiceBody x u = .service x u code 1 := by
  subst hcode
  simp [unitServiceBody, hop, hw, hin]

theorem unitServiceBody_return {x : Ctx} {u : State} (hop : x.c.pkt.byteAt 32 = 1) (hcode : code = (x.c.pkt.byteAt 33).toNat)
    (hw : serviceWaits 1 code u = false) (hout : u.unitOut code = true) : unitServiceBody x u = returnUnit x code u := by
  subst hcode
  simp [unitServiceBody, hop, hw, hout]

/-! ## A row that answers at once with the unit's state -/

theorem completes_service {i : Instr} {u : State} {st spare : Nat} {P : State → Prop} (h : Runs 0x0A05 sub c s f)
    (hi : exec i s = .next (runOp 0x0A05 sub unitServiceBody c s))
    (hbody : unitServiceBody (s.ctxRun 0x0A05 sub c f) (s.begun 0x0A05 sub c f) = .service (s.ctxRun 0x0A05 sub c f) u code st)
    (hq : u.queue c.q = (s.begun 0x0A05 sub c f).queue c.q) (hmem : u.mem = s.mem)
    (hspare : spare = s.sparesLeft (rowChannel (BitVec.ofNat 20 ((rowPacket 0x0A05 sub c.pkt).field 36 4))))
    (hP : ∀ t : State, t.arb = u.arb → t.spn = u.spn → t.ks = u.ks → t.skn = u.skn → t.gctl.evtStat = u.gctl.evtStat →
      t.answers c.q f 0 (serviceInline st (t.unitsIn code) spare) → P t) : Completes i s P := by
  have hx : (s.ctxRun 0x0A05 sub c f).spares u = spare := by
    rw [hspare, Ctx.spares, State.sparesLeft, hmem]
    rfl
  refine completes_now h hi hbody rfl hq fun ha => ?_
  have hfin : (Out.service (s.ctxRun 0x0A05 sub c f) u code st).finish (s.ctxRun 0x0A05 sub c f) =
      u.postReply ((s.ctxRun 0x0A05 sub c f).held 0 ((s.ctxRun 0x0A05 sub c f).cyc 142)
        (serviceInline st (u.unitsIn code) ((s.ctxRun 0x0A05 sub c f).spares u)) []) := rfl
  rw [hfin] at ha ⊢
  refine hP _ (State.postReply_arb _ _) (State.postReply_spn _ _) (State.postReply_ks _ _) (State.postReply_skn _ _) ?_ ?_
  · rw [State.postReply_gctl]
  · have hunits := State.unitsIn_congr (State.postReply_spn ((s.ctxRun 0x0A05 sub c f).held 0 ((s.ctxRun 0x0A05 sub c f).cyc 142)
      (serviceInline st (u.unitsIn code) ((s.ctxRun 0x0A05 sub c f).spares u)) []) u) (State.postReply_ks _ _) (State.postReply_skn _ _)
      (congrArg ArbUnit.out (State.postReply_arb _ _)) code
    rw [hunits, ← hx]
    exact ha

/-! ## Removal -/

/-- The spindle's state once it has left by command. -/
theorem State.spindleLeft {n : Nat} (hn : n < 40) (u : State) :
    (((u.setSpindle n { u.spindle n with svc := .out, why := 0 }).serviceChange (spindleCode n) causeCommand false).spindle n) =
      { u.spindle n with svc := .out, why := 0 } := by
  rw [State.spindle_serviceChange, State.spindle_setSpindle _ _ hn]

section
variable {spare : Nat} (hcode : code = ((rowPacket 0x0A05 (some 0) c.pkt).byteAt 33).toNat)
  (hspare : spare = s.sparesLeft (rowChannel (BitVec.ofNat 20 ((rowPacket 0x0A05 (some 0) c.pkt).field 36 4))))
  (hret : s.arb.returning.find code = none) (h : Runs 0x0A05 (some 0) c s f) (hst : s.mss.st = .running)
  (hho : code < 16 → s.mss.ho = none)
include hcode hspare hret h hst hho

theorem completes_unitServiceRemove_out (hout : s.unitOut code = true) :
    Completes (.unitServiceRemove c) s fun t =>
      t.arb = s.arb ∧ t.spn = s.spn ∧ t.answers c.q f 0 (serviceInline 0 (s.unitsIn code) spare) := by
  have hbody := unitServiceBody_removed (x := s.ctxRun 0x0A05 (some 0) c f) (u := s.begun 0x0A05 (some 0) c f)
    (rowPacket_service_op _ _) hcode ((State.begun_serviceWaits _ _).trans (serviceWaits_remove hst hret hho))
    ((State.begun_unitOut _).trans hout)
  refine completes_service h rfl hbody rfl (State.begun_mem ..) hspare fun t harb hspn hks hskn _ ha => ?_
  rw [State.begun_arb] at harb
  rw [State.begun_spn] at hspn
  rw [State.begun_ks] at hks
  rw [State.begun_skn] at hskn
  rw [State.unitsIn_congr hspn hks hskn (congrArg ArbUnit.out harb)] at ha
  exact ⟨harb, hspn, ha⟩

variable (hin : s.unitOut code = false) (hlast : s.lastCore code = false)
include hin hlast

omit hspare h in
theorem unitServiceBody_removes : unitServiceBody (s.ctxRun 0x0A05 (some 0) c f) (s.begun 0x0A05 (some 0) c f) =
    removeUnit (s.ctxRun 0x0A05 (some 0) c f) code (s.begun 0x0A05 (some 0) c f) :=
  unitServiceBody_remove (rowPacket_service_op _ _) hcode ((State.begun_serviceWaits _ _).trans (serviceWaits_remove hst hret hho))
    ((State.begun_unitOut _).trans hin) ((State.begun_lastCore _).trans hlast)

theorem completes_unitServiceRemove_plain (hlt : code < 128) (hsp : code < 0x20 ∨ 0x48 ≤ code) (h52 : code ≠ 0x52) (h60 : code ≠ 0x60)
    (h61 : code ≠ 0x61) :
    Completes (.unitServiceRemove c) s fun t =>
      t.isOut code = true ∧ t.gctl.evtStat.getLsbD evUnitSvc = true ∧
      t.arb.lastUnit = (rowPacket 0x0A05 (some 0) c.pkt).byteAt 33 ∧ t.arb.lastIn = false ∧
      t.answers c.q f 0 (serviceInline 0 (t.unitsIn code) spare) := by
  have hbody := unitServiceBody_removes (f := f) hcode hret hst hho hin hlast
  rw [removeUnit, if_neg (by omega), if_neg h52, if_neg (by omega)] at hbody
  refine completes_service h rfl hbody (State.serviceChange_queue _) (State.serviceChange_mem.trans (State.begun_mem ..)) hspare
    fun t harb _ _ _ hev ha => ⟨?_, ?_, ?_, ?_, ha⟩
  · rw [State.isOut_congr (congrArg ArbUnit.out harb), State.isOut_serviceChange hlt]
    rfl
  · rw [hev]
    exact State.serviceChange_evtStat
  · rw [harb, State.serviceChange_arb, hcode]
    simp
  · rw [harb, State.serviceChange_arb]

theorem completes_unitServiceRemove_source (h52 : code = 0x52) :
    Completes (.unitServiceRemove c) s fun t =>
      t.ks = { s.ks with entIn := false } ∧ t.isOut code = true ∧ t.answers c.q f 0 (serviceInline 0 0 spare) := by
  have hbody := unitServiceBody_removes (f := f) hcode hret hst hho hin hlast
  rw [removeUnit, if_neg (by omega), if_pos h52] at hbody
  refine completes_service h rfl hbody (State.serviceChange_queue _) (State.serviceChange_mem.trans (State.begun_mem ..)) hspare
    fun t harb _ hks _ _ ha => ?_
  rw [State.serviceChange_ks] at hks
  have hks' : t.ks = { s.ks with entIn := false } := by
    rw [hks, ← State.begun_ks 0x0A05 (some 0) c f s]
  have hunits : t.unitsIn code = 0 := by
    simp [State.unitsIn, State.unitOut, kindOf, h52, hks']
  rw [hunits] at ha
  refine ⟨hks', ?_, ha⟩
  rw [State.isOut_congr (congrArg ArbUnit.out harb), State.isOut_serviceChange (by omega)]
  rfl

theorem completes_unitServiceRemove_port (hport : code = 0x60 ∨ code = 0x61) :
    Completes (.unitServiceRemove c) s fun t =>
      (t.port (portOf code)).inService = false ∧ t.skn.ring = false ∧ t.isOut code = true ∧
      t.answers c.q f 0 (serviceInline 0 (t.unitsIn code) spare) := by
  have hbody := unitServiceBody_removes (f := f) hcode hret hst hho hin hlast
  rw [removeUnit, if_neg (by omega), if_neg (by omega), if_pos hport] at hbody
  generalize hst' : ((s.begun 0x0A05 (some 0) c f).port (portOf code)).st = st at hbody
  have hframe : (s.begun 0x0A05 (some 0) c f).touches [.skn, .posted] ((s.begun 0x0A05 (some 0) c f).portOut (portOf code) st) := by
    simp
  refine completes_service h rfl hbody ?_ ?_ hspare fun t harb _ _ hskn _ ha => ⟨?_, ?_, ?_, ha⟩
  · rw [State.serviceChange_queue]
    exact State.queue_of_touches hframe (by decide) (by decide) _
  · rw [State.serviceChange_mem]
    exact (hframe .mem (by decide)).trans (State.begun_mem ..)
  all_goals obtain ⟨hserv, -, hring⟩ := State.portOut_out (portOf code) st (s.begun 0x0A05 (some 0) c f)
  · rw [State.serviceChange_skn] at hskn
    rw [State.port_congr hskn, hserv]
  · rw [hskn, State.serviceChange_skn, hring]
  · rw [State.isOut_congr (congrArg ArbUnit.out harb), State.isOut_serviceChange (by omega)]
    rfl

theorem completes_unitServiceRemove_idle {n : Nat} (hn : n < 40) (hcn : code = spindleCode n) (hjobs : (s.spindle n).jobsHeld = []) :
    Completes (.unitServiceRemove c) s fun t =>
      (t.spindle n).svc = .out ∧ t.isOut code = true ∧ t.answers c.q f 0 (serviceInline 0 (t.unitsIn code) spare) := by
  have hbody := unitServiceBody_removes (f := f) hcode hret hst hho hin hlast
  have hrange : 0x20 ≤ code ∧ code < 0x48 := by rw [hcn, spindleCode]; omega
  have hnum : code - 0x20 = n := by rw [hcn, spindleCode]; omega
  have hsp : (s.begun 0x0A05 (some 0) c f).spindle n = s.spindle n := State.spindle_congr (State.begun_spn ..) n
  have hempty : ((s.begun 0x0A05 (some 0) c f).spindle n).jobsHeld.isEmpty = true := by rw [hsp, hjobs]; rfl
  rw [removeUnit, if_pos hrange, hnum, removeSpindle] at hbody
  dsimp only at hbody
  rw [if_pos hempty, ← hcn] at hbody
  refine completes_service h rfl hbody (State.serviceChange_queue _) (State.serviceChange_mem.trans (State.begun_mem ..)) hspare
    fun t harb hspn _ _ _ ha => ⟨?_, ?_, ha⟩
  · rw [State.spindle_congr hspn, hcn, State.spindleLeft hn]
  · rw [State.isOut_congr (congrArg ArbUnit.out harb), State.isOut_serviceChange (by omega)]
    rfl

theorem completes_unitServiceRemove_busy {n : Nat} (hn : n < 40) (hcn : code = spindleCode n) (hjobs : (s.spindle n).jobsHeld ≠ []) :
    Completes (.unitServiceRemove c) s fun t =>
      (t.spindle n).svc = .out ∧ (t.spindle n).job = (s.spindle n).job ∧ t.isOut code = true ∧
      ∃ h, t.arb.leaving.find code = some h ∧ h.q = c.q ∧ h.id = f.id ∧ h.status = 0 ∧
        h.inl = serviceInline 0 (t.unitsIn code) spare := by
  have hbody := unitServiceBody_removes (f := f) hcode hret hst hho hin hlast
  have hrange : 0x20 ≤ code ∧ code < 0x48 := by rw [hcn, spindleCode]; omega
  have hnum : code - 0x20 = n := by rw [hcn, spindleCode]; omega
  have hsp : (s.begun 0x0A05 (some 0) c f).spindle n = s.spindle n := State.spindle_congr (State.begun_spn ..) n
  have hheld : ¬ ((s.begun 0x0A05 (some 0) c f).spindle n).jobsHeld.isEmpty = true := by
    rw [hsp, List.isEmpty_iff]
    exact hjobs
  rw [removeUnit, if_pos hrange, hnum, removeSpindle] at hbody
  dsimp only at hbody
  rw [if_neg hheld, ← hcn] at hbody
  have hleft := State.spindleLeft hn (s.begun 0x0A05 (some 0) c f)
  rw [← hcn, hsp] at hleft
  generalize hu : ((s.begun 0x0A05 (some 0) c f).setSpindle n { (s.begun 0x0A05 (some 0) c f).spindle n with svc := .out, why := 0 }).serviceChange
    code causeCommand false = u at hbody
  rw [hsp] at hu
  rw [hu] at hleft
  refine completes_later h rfl hbody rfl ⟨?_, ?_, ?_, _, Tab.find_put .., rfl, rfl, rfl, ?_⟩
  · have hsvc : (u.spindle n).svc = .out := by rw [hleft]
    exact hsvc
  · have hjob : (u.spindle n).job = (s.spindle n).job := by rw [hleft]
    exact hjob
  · rw [← hu]
    exact State.isOut_serviceChange (by omega)
  · have hmem : u.mem = s.mem := by
      rw [← hu, State.serviceChange_mem]
      exact State.begun_mem ..
    have hx : (s.ctxRun 0x0A05 (some 0) c f).spares u = spare := by
      rw [hspare, Ctx.spares, State.sparesLeft, hmem]
      rfl
    rw [Ctx.held, hx]
    rfl

end

/-! ## Return -/

section
variable {spare : Nat} (hcode : code = ((rowPacket 0x0A05 (some 1) c.pkt).byteAt 33).toNat)
  (hspare : spare = s.sparesLeft (rowChannel (BitVec.ofNat 20 ((rowPacket 0x0A05 (some 1) c.pkt).field 36 4))))
  (hret : s.arb.returning.find code = none) (h : Runs 0x0A05 (some 1) c s f) (hst : s.mss.st = .running) (hhold : s.holding = false)
include hcode hspare hret h hst hhold

theorem completes_unitServiceReturn_in (hin : s.unitOut code = false) :
    Completes (.unitServiceReturn c) s fun t =>
      t.arb = s.arb ∧ t.spn = s.spn ∧ t.answers c.q f 0 (serviceInline 1 (s.unitsIn code) spare) := by
  have hbody := unitServiceBody_returned (x := s.ctxRun 0x0A05 (some 1) c f) (u := s.begun 0x0A05 (some 1) c f)
    (rowPacket_service_op _ _) hcode ((State.begun_serviceWaits _ _).trans (serviceWaits_return hst hret hhold))
    ((State.begun_unitOut _).trans hin)
  refine completes_service h rfl hbody rfl (State.begun_mem ..) hspare fun t harb hspn hks hskn _ ha => ?_
  rw [State.begun_arb] at harb
  rw [State.begun_spn] at hspn
  rw [State.begun_ks] at hks
  rw [State.begun_skn] at hskn
  rw [State.unitsIn_congr hspn hks hskn (congrArg ArbUnit.out harb)] at ha
  exact ⟨harb, hspn, ha⟩

variable (hout : s.unitOut code = true)
include hout

omit hspare h in
theorem unitServiceBody_returns : unitServiceBody (s.ctxRun 0x0A05 (some 1) c f) (s.begun 0x0A05 (some 1) c f) =
    returnUnit (s.ctxRun 0x0A05 (some 1) c f) code (s.begun 0x0A05 (some 1) c f) :=
  unitServiceBody_return (rowPacket_service_op _ _) hcode ((State.begun_serviceWaits _ _).trans (serviceWaits_return hst hret hhold))
    ((State.begun_unitOut _).trans hout)

theorem completes_unitServiceReturn_plain (hlt : code < 128) (hsp : code < 0x20 ∨ 0x48 ≤ code) (h52 : code ≠ 0x52) (h60 : code ≠ 0x60)
    (h61 : code ≠ 0x61) :
    Completes (.unitServiceReturn c) s fun t =>
      t.isOut code = false ∧ t.gctl.evtStat.getLsbD evUnitSvc = true ∧ t.arb.lastIn = true ∧
      t.answers c.q f 0 (serviceInline 1 (t.unitsIn code) spare) := by
  have hbody := unitServiceBody_returns (f := f) hcode hret hst hhold hout
  rw [returnUnit, if_neg (by omega), if_neg h52, if_neg (by omega)] at hbody
  refine completes_service h rfl hbody (State.serviceChange_queue _) (State.serviceChange_mem.trans (State.begun_mem ..)) hspare
    fun t harb _ _ _ hev ha => ⟨?_, ?_, ?_, ha⟩
  · rw [State.isOut_congr (congrArg ArbUnit.out harb), State.isOut_serviceChange hlt]
    rfl
  · rw [hev]
    exact State.serviceChange_evtStat
  · rw [harb, State.serviceChange_arb]

omit hspare in
/-- A return whose reply waits for the unit's test. -/
theorem completes_waitReturn {u : State} {P : State → Prop}
    (hu : returnUnit (s.ctxRun 0x0A05 (some 1) c f) code (s.begun 0x0A05 (some 1) c f) = waitReturn (s.ctxRun 0x0A05 (some 1) c f) code u)
    (hP : ∀ t : State, t.ks = u.ks → t.skn = u.skn → t.spn = u.spn →
      (∃ h, t.arb.returning.find code = some h ∧ h.q = c.q ∧ h.id = f.id) → P t) : Completes (.unitServiceReturn c) s P := by
  have hbody := (unitServiceBody_returns (f := f) hcode hret hst hhold hout).trans hu
  exact completes_later h rfl hbody rfl (hP _ rfl rfl rfl ⟨_, Tab.find_put .., rfl, rfl⟩)

omit hspare in
theorem completes_unitServiceReturn_source (h52 : code = 0x52) :
    Completes (.unitServiceReturn c) s fun t =>
      t.ks = { s.ks with entTesting := true } ∧ ∃ h, t.arb.returning.find code = some h ∧ h.q = c.q ∧ h.id = f.id := by
  refine completes_waitReturn hcode hret h hst hhold hout
    (by rw [returnUnit, if_neg (by omega), if_pos h52]) fun t hks _ _ hwait => ⟨?_, hwait⟩
  rw [hks, ← State.begun_ks 0x0A05 (some 1) c f s]

omit hspare in
theorem completes_unitServiceReturn_port {w : Port} (hport : code = 0x60 ∨ code = 0x61) (hw : w = portOf code)
    (hheld : (s.port w).heldDown = false) (hdown : (s.port w).st = .down) :
    Completes (.unitServiceReturn c) s fun t =>
      (t.port w).st = .training ∧ (t.port w).inService = false ∧
      ∃ h, t.arb.returning.find code = some h ∧ h.q = c.q ∧ h.id = f.id := by
  subst hw
  have hp : (s.begun 0x0A05 (some 1) c f).port (portOf code) = s.port (portOf code) := State.port_congr (State.begun_skn ..) _
  have hserv : (s.port (portOf code)).inService = false := by
    rw [State.unitOut, if_neg (by omega), if_neg (by omega), if_pos hport] at hout
    simpa using hout
  refine completes_waitReturn (u := (s.begun 0x0A05 (some 1) c f).setPort (portOf code) { s.port (portOf code) with st := .training })
    hcode hret h hst hhold hout ?_ fun t _ hskn _ hwait => ⟨?_, ?_, hwait⟩
  · rw [returnUnit, if_neg (by omega), if_neg (by omega), if_pos hport]
    simp only [hp, hheld, hdown, Bool.false_eq_true, if_false, true_or, if_true]
  · rw [State.port_congr hskn, State.port_setPort]
  · rw [State.port_congr hskn, State.port_setPort]
    exact hserv

omit hspare in
theorem completes_unitServiceReturn_spindle {n : Nat} (hn : n < 40) (hcn : code = spindleCode n) :
    Completes (.unitServiceReturn c) s fun t =>
      (t.spindle n).svc = .testing ∧ t.spn.katRunning = true ∧ t.spn.katSpindle = BitVec.ofNat 6 n ∧
      ∃ h, t.arb.returning.find code = some h ∧ h.q = c.q ∧ h.id = f.id := by
  have hrange : 0x20 ≤ code ∧ code < 0x48 := by rw [hcn, spindleCode]; omega
  have hnum : code - 0x20 = n := by rw [hcn, spindleCode]; omega
  refine completes_waitReturn hcode hret h hst hhold hout (by rw [returnUnit, if_pos hrange, hnum]) fun t _ _ hspn hwait =>
    ⟨?_, by rw [hspn], by rw [hspn], hwait⟩
  rw [State.spindle_congr hspn]
  exact congrArg Spindle.svc (State.spindle_setSpindle (n := n) _ (s.begun 0x0A05 (some 1) c f) hn)

end

/-! ## Spare rows -/

section
variable {row : BitVec 20}

theorem rowChannel_lt (row : BitVec 20) : rowChannel row < 4 := Nat.mod_lt _ (by decide)

/-- A row's copy starts where its channel has a spare left. -/
theorem State.spareRow_starts (hcopy : s.mem.copying.contains row = false) (hspared : s.mem.spared.contains row = false)
    (hleft : s.sparesLeft (rowChannel row) ≠ 0) :
    (s.spareRow row).mem.copying = s.mem.copying ++ [row] ∧
      (s.spareRow row).sparesLeft (rowChannel row) = s.sparesLeft (rowChannel row) - 1 := by
  have hmem : (s.spareRow row).mem = { s.mem with
      spare := s.mem.spare.setIfInBounds (rowChannel row) (s.sparesLeft (rowChannel row) - 1), copying := s.mem.copying ++ [row] } := by
    simp only [State.spareRow, hcopy, hspared, hleft, Bool.or_self, Bool.false_eq_true, if_false, State.log_mem]
  refine ⟨by rw [hmem], ?_⟩
  have hlt := rowChannel_lt row
  simp [State.sparesLeft, hmem, hlt]

theorem completes_unitServiceSpareRow (hcopy : s.mem.copying.contains row = false) (hspared : s.mem.spared.contains row = false)
    (hleft : s.sparesLeft (rowChannel row) ≠ 0) (hrow : row = BitVec.ofNat 20 ((rowPacket 0x0A05 (some 2) c.pkt).field 36 4))
    (h : Runs 0x0A05 (some 2) c s f) (hst : s.mss.st = .running) :
    Completes (.unitServiceSpareRow c) s fun t =>
      t.mem.copying = s.mem.copying ++ [row] ∧ t.sparesLeft (rowChannel row) = s.sparesLeft (rowChannel row) - 1 ∧
      ∃ h, t.arb.leaving.find (rowKey row) = some h ∧ h.q = c.q ∧ h.id = f.id := by
  have hmem := State.begun_mem 0x0A05 (some 2) c f s
  have hleft' : (s.begun 0x0A05 (some 2) c f).sparesLeft (rowChannel row) = s.sparesLeft (rowChannel row) := by
    rw [State.sparesLeft, hmem]
    rfl
  obtain ⟨hcop, hsp⟩ := State.spareRow_starts (s := s.begun 0x0A05 (some 2) c f) (by rw [hmem]; exact hcopy) (by rw [hmem]; exact hspared)
    (by rw [hleft']; exact hleft)
  rw [hmem] at hcop
  rw [hleft'] at hsp
  have hin : ((s.begun 0x0A05 (some 2) c f).spareRow row).mem.copying.contains row = true := by rw [hcop]; simp
  have hop : ((s.ctxRun 0x0A05 (some 2) c f).c.pkt.byteAt 32).toNat = 2 := congrArg BitVec.toNat (rowPacket_service_op 2 c.pkt)
  have hbody : unitServiceBody (s.ctxRun 0x0A05 (some 2) c f) (s.begun 0x0A05 (some 2) c f) =
      spareBody (s.ctxRun 0x0A05 (some 2) c f) row (s.begun 0x0A05 (some 2) c f) := by
    have hrow' : BitVec.ofNat 20 ((s.ctxRun 0x0A05 (some 2) c f).c.pkt.field 36 4) = row := hrow.symm
    simp only [unitServiceBody, hop, hrow', if_true, State.begun_service_mss, hst]
    rfl
  rw [spareBody] at hbody
  dsimp only at hbody
  rw [if_pos hin] at hbody
  exact completes_later h rfl hbody rfl ⟨hcop, hsp, _, Tab.find_put .., rfl, rfl⟩

theorem completes_rowSpare (hcopy : s.mem.copying.contains row = false) (hspared : s.mem.spared.contains row = false)
    (hleft : s.sparesLeft (rowChannel row) ≠ 0) (hcorr : 3 ≤ s.mem.corrections.get row.toNat 0) :
    Completes (.rowSpare row) s fun t =>
      t.mem.copying = s.mem.copying ++ [row] ∧ t.sparesLeft (rowChannel row) = s.sparesLeft (rowChannel row) - 1 :=
  ⟨_, congrArg Host.Outcome.next (if_pos hcorr), State.spareRow_starts hcopy hspared hleft⟩

/-- The copy of a row that ends in a scrub slot. -/
theorem State.rowSpared_done (hcopy : s.mem.copying.contains row = true) (hslot : s.slotIs (s.now - 4) 4 = true) :
    (s.rowSpared row).mem.spared = s.mem.spared ++ [row] ∧ (s.rowSpared row).mem.copying = s.mem.copying.erase row ∧
    (s.rowSpared row).gctl.evtStat.getLsbD evUnitSvc = true ∧
    ∀ h g, s.arb.leaving.find (rowKey row) = some h → h.via = .host →
      (s.queue h.q).inflight.find? (·.id == h.id) = some g → h.tag = g.pkt.tag → (s.rowSpared row).answers h.q g h.status h.inl := by
  unfold State.rowSpared
  rw [if_neg (by rw [hcopy, hslot]; decide)]
  dsimp only
  split
  next r hr =>
    rw [State.postReply_mem, State.serviceChange_mem, State.postReply_gctl]
    refine ⟨rfl, rfl, State.serviceChange_evtStat, fun h g hh hv hf ht => ?_⟩
    cases hr.symm.trans hh
    refine State.postReply_answers _ _ _ hv ?_ ht
    rw [State.serviceChange_queue]
    exact hf
  next hr =>
    rw [State.serviceChange_mem]
    exact ⟨rfl, rfl, State.serviceChange_evtStat, fun h g hh => by rw [hr] at hh; cases hh⟩

theorem completes_rowSpareDone_waits (hslot : s.slotIs (s.now - 4) 4 = false) : Completes (.rowSpareDone row) s fun t => t = s := by
  refine ⟨_, rfl, ?_⟩
  rw [State.rowSpared, if_pos (by rw [hslot]; simp)]

end

end

/-- Settles O34: removal and return by the kind of unit, the copy of a row by its slot. -/
theorem unitsEnterAndLeaveService : Obligations.UnitsEnterAndLeaveService := by
  unfold Obligations.UnitsEnterAndLeaveService
  refine fun c s f p code n spare hcode hspare hret => ⟨?_, ?_, fun row hcopy hspared hleft => ⟨?_, ?_, fun hcorr => ?_⟩,
    fun row hcopy => ⟨fun hslot => ⟨_, rfl, State.rowSpared_done hcopy hslot⟩, completes_rowSpareDone_waits⟩⟩
  · rintro rfl h hst hho
    refine ⟨completes_unitServiceRemove_out hcode hspare hret h hst hho, fun hin hlast => ⟨fun hlt hsp h52 h60 h61 => ?_, fun h52 => ?_,
      fun hport => ?_, fun hcn hn => ⟨fun hjobs => ?_, fun hjobs => ?_⟩⟩⟩
    · exact completes_unitServiceRemove_plain hcode hspare hret h hst hho hin hlast hlt hsp h52 h60 h61
    · exact completes_unitServiceRemove_source hcode hspare hret h hst hho hin hlast h52
    · exact completes_unitServiceRemove_port hcode hspare hret h hst hho hin hlast hport
    · exact completes_unitServiceRemove_idle hcode hspare hret h hst hho hin hlast hn hcn hjobs
    · exact completes_unitServiceRemove_busy hcode hspare hret h hst hho hin hlast hn hcn hjobs
  · rintro rfl h hst hhold
    refine ⟨completes_unitServiceReturn_in hcode hspare hret h hst hhold, fun hout => ⟨fun hlt hsp h52 h60 h61 => ?_, fun h52 => ?_,
      fun w hport hw hheld hdown => ?_, fun hcn hn => ?_⟩⟩
    · exact completes_unitServiceReturn_plain hcode hspare hret h hst hhold hout hlt hsp h52 h60 h61
    · exact completes_unitServiceReturn_source hcode hret h hst hhold hout h52
    · exact completes_unitServiceReturn_port hcode hret h hst hhold hout hport hw hheld hdown
    · exact completes_unitServiceReturn_spindle hcode hret h hst hhold hout hn hcn
  · rintro rfl hrow h hst
    exact completes_unitServiceSpareRow hcopy hspared hleft hrow h hst
  · exact completes_rowSpare hcopy hspared hleft
  · exact ⟨_, congrArg Host.Outcome.next (if_neg (Nat.not_le.mpr hcorr)), rfl⟩

end Sys2Proof.Machine
end

section
/-! PROOFS. Public keys and curves load (R166 to R169). -/

namespace Sys2Proof.Machine

set_option Elab.async false

section
variable {c : Cmd} {s : State} {f : Fetched}

/-! ## Slots and curves -/

theorem State.slot_putSlot (n : Nat) (k : Slot) (s : State) : (s.putSlot n k).slot n = some k := Tab.find_put ..

theorem State.slot_putSlot_ne {n m : Nat} (h : m ≠ n) (k : Slot) (s : State) : (s.putSlot n k).slot m = s.slot m :=
  Tab.find_put_ne _ _ h

theorem State.slot_congr {t : State} (h : t.ks = s.ks) (n : Nat) : t.slot n = s.slot n := by rw [State.slot, h]; rfl

theorem State.newSlot_value (st : SlotSt) (v : BitVec 512) (q : BitVec 1024) (z : BitVec 256) (attr : KeyAttr) :
    (s.newSlot st v q z attr).value = v := by
  simp [State.newSlot, Slot.value]

theorem State.curve_congr {t : State} (h : t.spn.curves = s.spn.curves) (n : Nat) : t.curve n = s.curve n := by
  simp only [State.curve, h]

theorem State.freeSlot_congr {t : State} (h : t.ks = s.ks) (keys : BitVec 256) : t.freeSlot keys = s.freeSlot keys := by
  simp only [State.freeSlot, State.slot_congr h]

/-! ## `PUBKEY_LOAD` -/

/-- The program that checks a point. -/
def onCurvePart (num w : Nat) : Part := { signing := false, len := lenOnCurve num w, key := 0 }

theorem pubkeyLoadBody_ran {x : Ctx} {u : State} {bs : Bytes} {cv : Curve} (hdata : ∀ v k, withData x v k = k bs)
    (hcv : u.curve (x.c.pkt.byteAt 32).toNat = some cv) (hran : u.spn.ran = []) :
    (pubkeyLoadBody x u).s.spn.ran = [onCurvePart (x.c.pkt.byteAt 32).toNat cv.w] := by
  simp only [pubkeyLoadBody, hcv, hdata]
  split
  · simp [Ctx.refused, Out.stop, State.usedSpindle, hran, onCurvePart]
  · split <;> simp [Ctx.refused, Out.stop, State.usedSpindle, State.hashed, State.putSlot, hran, onCurvePart]

/-- The blocks hashed for the Z of a loaded key. -/
def pubkeyBlocks (cv : Curve) (bs : Bytes) : Nat := ceilDiv (11 + (bs.drop (2 * cv.bytes)).length + 6 * cv.bytes) 64

theorem pubkeyLoadBody_passes {x : Ctx} {u : State} {bs : Bytes} {cv : Curve} {n : Nat} {pt : Nat × Nat} {usage : BitVec 16}
    (hdata : ∀ v k, withData x v k = k bs) (hcv : u.curve (x.c.pkt.byteAt 32).toNat = some cv) (hpt : pt = pointAt cv.w bs)
    (hon : onCurve cv pt.1 pt.2 = true) (hn : u.freeSlot x.keys = some n) (husage : usage = BitVec.ofNat 16 (x.c.pkt.field 34 2)) :
    pubkeyLoadBody x u =
      { s := State.hashed (pubkeyBlocks cv bs) (State.putSlot n (u.newSlot .valid 0 (pointOf cv.w pt.1 pt.2) (sm2Z cv (bs.drop (2 * cv.bytes)) pt.1 pt.2)
          (pubAttr usage (x.c.pkt.byteAt 32) x.dom cv.w pt.1 pt.2)) (u.usedSpindle (onCurvePart (x.c.pkt.byteAt 32).toNat cv.w)))
        cyc := 210 + lenOnCurve (x.c.pkt.byteAt 32).toNat cv.w + 17 * pubkeyBlocks cv bs
        inl := inlAt 0 (0x02000000 + n) ||| inlAt 4 (leNat ((digestBytes (sm2Z cv (bs.drop (2 * cv.bytes)) pt.1 pt.2)).take 4)) } := by
  subst hpt husage
  have hn' : (u.usedSpindle (onCurvePart (x.c.pkt.byteAt 32).toNat cv.w)).freeSlot x.keys = some n := hn
  unfold onCurvePart at hn'
  simp only [pubkeyLoadBody, hcv, hdata, hon, hn', Bool.not_true, Bool.false_eq_true, if_false]
  rfl

theorem completes_pubkeyLoad {cv : Curve} {n : Nat} {pt : Nat × Nat} {usage : BitVec 16} (h : Runs 0x0503 none c s f)
    (hm : c.memErr = none) (hcv : s.curve (c.pkt.byteAt 32).toNat = some cv) (hpt : pt = pointAt cv.w c.bytes)
    (hon : onCurve cv pt.1 pt.2 = true) (hn : s.freeSlot f.keys = some n) (husage : usage = BitVec.ofNat 16 (c.pkt.field 34 2))
    (hp : s.programsRun c false) :
    Completes (.pubkeyLoad c) s fun t =>
      (∃ k, t.slot n = some k ∧ k.st = .valid ∧ k.value = 0 ∧ k.q = pointOf cv.w pt.1 pt.2 ∧
        k.z = sm2Z cv (c.bytes.drop (2 * cv.bytes)) pt.1 pt.2 ∧
        k.attr = pubAttr usage (c.pkt.byteAt 32) (s.queue c.q).dom cv.w pt.1 pt.2) ∧ (∀ m, m ≠ n → t.slot m = s.slot m) ∧
      t.answers c.q f 0 (inlAt 0 (0x02000000 + n) |||
        inlAt 4 (leNat ((digestBytes (sm2Z cv (c.bytes.drop (2 * cv.bytes)) pt.1 pt.2)).take 4))) := by
  have hks := State.begun_ks 0x0503 none c f s
  have hspn := State.begun_spn 0x0503 none c f s
  have hcv' : (s.begun 0x0503 none c f).curve (c.pkt.byteAt 32).toNat = some cv := by
    rw [State.curve_congr (by rw [hspn])]
    exact hcv
  have hbody := pubkeyLoadBody_passes (x := s.ctxRun 0x0503 none c f) (u := s.begun 0x0503 none c f) (withData_ok hm) hcv' hpt hon
    ((State.freeSlot_congr hks _).trans hn) husage
  have hran := pubkeyLoadBody_ran (x := s.ctxRun 0x0503 none c f) (u := s.begun 0x0503 none c f) (withData_ok hm) hcv'
    (by rw [hspn]; exact hp.2.2.2)
  obtain ⟨v, hv, hframe⟩ := spindled_verified hp (p := onCurvePart (c.pkt.byteAt 32).toNat cv.w) rfl hbody (by rw [← hbody]; exact hran)
  refine completes_now h rfl hv rfl ?_ fun ha => ⟨?_, fun m hm' => ?_, ha⟩
  · exact State.queue_of_touches hframe (by decide) (by decide) _
  all_goals rw [State.slot_congr (Out.finish_ks _ _), State.slot_congr (hframe .ks (by decide))]
  · refine ⟨_, State.slot_putSlot .., rfl, State.newSlot_value .., rfl, rfl, ?_⟩
    exact congrArg (fun d => pubAttr usage (c.pkt.byteAt 32) d cv.w pt.1 pt.2) (State.ctxRun_dom ..)
  · refine (State.slot_putSlot_ne hm' _ _).trans ?_
    exact State.slot_congr hks m

/-- A command of one part that may take its time asks for a spindle with the state its body leaves. -/
theorem spindled_async {body : Ctx → State → Out} {x : Ctx} {s : State} {p : Part} (ha : x.c.async = true)
    (hr : (body x s).s.spn.ran = [p]) :
    spindled body x s = { s := s.requestPart x ((body x s).cyc + x.c.waits.total - 0) p [], cyc := 0, when_ := .later } := by
  simp [spindled, hr, ha]

/-- A part of a command that is asked of an idle spindle starts there. -/
theorem State.requestPart_starts {x : Ctx} {cyc n : Nat} {p : Part} {u : State} (hp : p.signing = false)
    (hstop : u.jobsStopped false = false) (hidle : u.idleSpindle false = some n) (hn : n < 40) :
    (u.requestPart x cyc p []).ks = u.ks ∧ (u.requestPart x cyc p []).spn.ran = u.spn.ran ∧
    ∃ j, ((u.requestPart x cyc p []).spindle n).job = some j ∧ j.prog = .part false p.key ∧ j.len = p.len ∧ j.h.q = x.c.q ∧ j.h.id = x.id := by
  have hfor (k : Nat) : u.idleFor (.part false k) = some n := by simpa [State.idleFor, Prog.signs, Prog.signing] using hidle
  have hgrant (a b : Nat) : (u.grantAtOnce a b).ks = u.ks ∧ (u.grantAtOnce a b).spn = u.spn := by simp
  simp only [State.requestPart, hp, hstop, Bool.false_eq_true, if_false, State.request, hfor, Prog.signing]
  simp only [State.startJob, Prog.signs, Bool.false_eq_true, if_false]
  refine ⟨(hgrant _ _).1, (State.ran_setSpindle _ _ _).trans (congrArg SpindleUnit.ran (hgrant _ _).2), ?_⟩
  rw [State.spindle_setSpindle _ _ hn]
  exact ⟨_, rfl, rfl, rfl, rfl, rfl⟩

theorem lowestFrom_lt {g : Nat → Bool} {fuel k r : Nat} (h : lowestFrom g fuel k = some r) : r < k + fuel := by
  induction fuel generalizing k with
  | zero => cases h
  | succ fuel ih =>
    rw [lowestFrom] at h
    split at h
    · cases h
      omega
    · have := ih h
      omega

theorem State.idleSpindle_lt {signing : Bool} {n : Nat} (h : s.idleSpindle signing = some n) : n < 40 := by
  unfold State.idleSpindle at h
  split at h
  · exact lt_of_lt_of_le (lowestFrom_lt h) (by decide)
  · exact lowestFrom_lt h

theorem completes_pubkeyLoad_async {cv : Curve} {n : Nat} (h : Runs 0x0503 none c s f) (hm : c.memErr = none)
    (hcv : s.curve (c.pkt.byteAt 32).toNat = some cv) (hasync : c.async = true) (hstop : s.jobsStopped false = false)
    (hidle : s.idleSpindle false = some n) (hran : s.spn.ran = []) :
    Completes (.pubkeyLoad c) s fun t =>
      t.ks = s.ks ∧ t.spn.ran = [] ∧
      ∃ j, (t.spindle n).job = some j ∧ j.prog = .part false 0 ∧ j.len = lenOnCurve (c.pkt.byteAt 32).toNat cv.w ∧
        j.h.q = c.q ∧ j.h.id = f.id := by
  have hspn := State.begun_spn 0x0503 none c f s
  have hcv' : (s.begun 0x0503 none c f).curve (c.pkt.byteAt 32).toNat = some cv := by
    rw [State.curve_congr (by rw [hspn])]
    exact hcv
  have hran' := pubkeyLoadBody_ran (x := s.ctxRun 0x0503 none c f) (u := s.begun 0x0503 none c f) (withData_ok hm) hcv'
    (by rw [hspn]; exact hran)
  have hstop' : (s.begun 0x0503 none c f).jobsStopped false = false := by
    have heq : (s.begun 0x0503 none c f).jobsStopped false = s.jobsStopped false := by
      simp only [State.jobsStopped, State.holding, State.begun_tmp]
    rw [heq, hstop]
  have hidle' : (s.begun 0x0503 none c f).idleSpindle false = some n := by
    rw [← hidle]
    simp only [State.idleSpindle, State.spindle_congr hspn]
  have hbody := spindled_async (s := s.begun 0x0503 none c f) (x := s.ctxRun 0x0503 none c f) hasync hran'
  obtain ⟨hks, hr, j, hj, hprog, hlen, hq, hid⟩ := State.requestPart_starts (x := s.ctxRun 0x0503 none c f) (cyc := _)
    (p := onCurvePart (c.pkt.byteAt 32).toNat cv.w) rfl hstop' hidle' (State.idleSpindle_lt hidle)
  refine completes_later h rfl hbody rfl ⟨hks.trans (State.begun_ks ..), hr.trans (by rw [hspn]; exact hran), j, hj, hprog, hlen, hq, hid⟩

/-! ## `CURVE_LOAD` -/

/-- The program that checks a curve record. -/
def curveCheckPart (bs : Bytes) : Part := { signing := false, len := curveCheckLen (leAt bs 2 2), key := 0 }

/-- The state in which a curve's check has run. -/
def State.curveChecked (bs : Bytes) (s : State) : State := (s.drawn 128).usedSpindle (curveCheckPart bs)

/-- A curve put in force. -/
def State.withCurve (slot : Nat) (bs : Bytes) (s : State) : State :=
  let u := s.flashNow (configReq (curveKey slot) bs)
  { u with spn := { u.spn with curves := u.spn.curves.put slot { cv := curveOf bs, valid := true } } }

theorem curveLoadLoadBody_passes {x : Ctx} {u : State} {bs : Bytes} {slot : Byte} (hslot : slot = x.c.pkt.byteAt 33)
    (hfree : (u.spn.curves.get slot.toNat { cv := curve0, valid := false }).valid = false) (hdata : ∀ k, withData x u k = k bs)
    (hnvm : u.nvmStatus = none) (hok : curveCheck u.ks.draws slot bs = 0) :
    curveLoadLoadBody x u = { s := (u.curveChecked bs).withCurve slot.toNat bs, cyc := 1232 + curveCheckLen (leAt bs 2 2) } := by
  subst hslot
  have hnvm' : (u.curveChecked bs).nvmStatus = none := by
    rw [← hnvm]
    rfl
  unfold State.curveChecked curveCheckPart at hnvm'
  unfold State.withCurve State.curveChecked curveCheckPart
  simp only [curveLoadLoadBody, hfree, hdata, hok, hnvm', Bool.false_eq_true, if_false, ne_eq, not_true]

theorem curveLoadLoadBody_fails {x : Ctx} {u : State} {bs : Bytes} {slot : Byte} {n : Nat} (hslot : slot = x.c.pkt.byteAt 33)
    (hfree : (u.spn.curves.get slot.toNat { cv := curve0, valid := false }).valid = false) (hdata : ∀ k, withData x u k = k bs)
    (hn : n ≠ 0) (hbad : curveCheck u.ks.draws slot bs = n) :
    curveLoadLoadBody x u =
      { s := u.curveChecked bs, status := stBadParameter, cyc := 1232 + curveCheckLen (leAt bs 2 2), inl := inlAt 0 n } := by
  subst hslot
  simp only [curveLoadLoadBody, hfree, hdata, hbad, hn, Bool.false_eq_true, if_false, ne_eq, not_false_iff, if_true]
  rfl

theorem State.flashNow_spn (req : FlashReq) (u : State) : (u.flashNow req).spn = u.spn := by
  have h : u.touches [.arb, .kp, .memories] (u.flashNow req) := by simp
  exact SpindleUnit.eq_of_others (h .spn (by decide)) (h .ran (by decide))

theorem State.countIdle_curves (signing : Bool) (u : State) : (u.countIdle signing).spn.curves = u.spn.curves := by
  unfold State.countIdle
  split
  · rfl
  · rfl

/-- A body of one program that runs within the command: the rest of its outcome stands, and the curves stay. -/
theorem spindled_kept {body : Ctx → State → Out} {op : BitVec 16} {sub : Option Byte} {o : Out} (hp : s.programsRun c false) {p : Part}
    (hsig : p.signing = false) (ho : body (s.ctxRun op sub c f) (s.begun op sub c f) = o) (hr : o.s.spn.ran = [p]) :
    ∃ v, spindled body (s.ctxRun op sub c f) (s.begun op sub c f) = { o with s := v } ∧ v.spn.curves = o.s.spn.curves ∧
      o.s.touches [.spn, .ran] v := by
  obtain ⟨v, hv, hframe⟩ := spindled_verified hp hsig ho hr
  obtain ⟨hasync, hidle, hstop, -⟩ := hp
  have hone := spindled_one ho hr hasync (by rw [hsig]; simpa [State.idleSpindle, State.spindle] using hidle)
    (by rw [hsig]; simpa [State.jobsStopped, State.holding] using hstop)
  refine ⟨v, hv, ?_, hframe⟩
  have heq : v = _ := congrArg Out.s (hv.symm.trans hone)
  rw [heq]
  exact State.countIdle_curves ..

theorem State.withCurve_curves (slot : Nat) (bs : Bytes) (u : State) :
    (u.withCurve slot bs).spn.curves = u.spn.curves.put slot { cv := curveOf bs, valid := true } := by
  simp only [State.withCurve, State.flashNow_spn]

theorem State.withCurve_curve {slot : Nat} (hslot : slot ≠ 0) (bs : Bytes) (u : State) :
    (u.withCurve slot bs).curve slot = some (curveOf bs) := by
  rw [State.curve, if_neg hslot, State.withCurve_curves, Tab.find_put]
  rfl

theorem State.withCurve_curve_ne {slot m : Nat} (h : m ≠ slot) (bs : Bytes) (u : State) :
    (u.withCurve slot bs).curve m = u.curve m := by
  simp only [State.curve, State.withCurve_curves, Tab.find_put_ne _ _ h]

theorem State.withCurve_touches (slot : Nat) (bs : Bytes) (u : State) : u.touches [.spn, .arb, .kp, .memories] (u.withCurve slot bs) := by
  simp [State.withCurve]

theorem State.withCurve_ran (slot : Nat) (bs : Bytes) (u : State) : (u.withCurve slot bs).spn.ran = u.spn.ran := by
  simp only [State.withCurve, State.flashNow_spn]

theorem State.curveChecked_curves (bs : Bytes) (u : State) : (u.curveChecked bs).spn.curves = u.spn.curves := rfl

theorem State.curveChecked_ran {bs : Bytes} {u : State} (hran : u.spn.ran = []) : (u.curveChecked bs).spn.ran = [curveCheckPart bs] := by
  simp [State.curveChecked, State.usedSpindle, State.drawn, hran]

/-- What the state in which a checked curve is in force keeps and has. -/
theorem State.withCurve_checked {slot : Nat} (hslot : slot ≠ 0) (bs : Bytes) {u : State} (hran : u.spn.ran = []) :
    ∃ w, (u.curveChecked bs).withCurve slot bs = w ∧ w.spn.ran = [curveCheckPart bs] ∧ w.curve slot = some (curveOf bs) ∧
      (∀ m, m ≠ slot → w.curve m = u.curve m) ∧ w.ks.draws = u.ks.draws + 128 ∧ ∀ q, w.queue q = u.queue q := by
  have htouch := State.withCurve_touches slot bs (u.curveChecked bs)
  refine ⟨_, rfl, ?_, State.withCurve_curve hslot .., fun m hm => State.withCurve_curve_ne hm .., ?_, fun q => ?_⟩
  · rw [State.withCurve_ran]
    exact State.curveChecked_ran hran
  · rw [(htouch .ks (by decide) : State.ks _ = _)]
    rfl
  · exact State.queue_of_touches htouch (by decide) (by decide) _

theorem completes_curveLoadLoad {slot : Byte} (hslot : slot = (rowPacket 0x0506 (some 0) c.pkt).byteAt 33)
    (h : Runs 0x0506 (some 0) c s f) (hne : slot ≠ 0)
    (hfree : (s.spn.curves.get slot.toNat { cv := curve0, valid := false }).valid = false) (hm : c.memErr = none)
    (hnvm : s.nvmStatus = none) (hp : s.programsRun c false) (hok : curveCheck s.ks.draws slot c.bytes = 0) :
    Completes (.curveLoadLoad c) s fun t =>
      t.curve slot.toNat = some (curveOf c.bytes) ∧ t.ks.draws = s.ks.draws + 128 ∧
      (∀ m, m ≠ slot.toNat → t.curve m = s.curve m) ∧ t.answers c.q f 0 0 := by
  have hks := State.begun_ks 0x0506 (some 0) c f s
  have hspn := State.begun_spn 0x0506 (some 0) c f s
  have hne' : slot.toNat ≠ 0 := fun h0 => hne (BitVec.eq_of_toNat_eq h0)
  have hbody := curveLoadLoadBody_passes (x := s.ctxRun 0x0506 (some 0) c f) (u := s.begun 0x0506 (some 0) c f) hslot
    (by rw [hspn]; exact hfree) (withData_ok hm _) ((State.begun_nvmStatus ..).trans hnvm) (by rw [hks]; exact hok)
  obtain ⟨w, hw, hran, hin, hout, hdraws, hqueue⟩ := State.withCurve_checked hne' c.bytes (u := s.begun 0x0506 (some 0) c f)
    ((congrArg SpindleUnit.ran hspn).trans hp.2.2.2)
  rw [hw] at hbody
  obtain ⟨v, hv, hcurves, hframe⟩ := spindled_kept hp rfl hbody hran
  have hcurve (m : Nat) : v.curve m = w.curve m := State.curve_congr hcurves m
  refine completes_now h rfl hv rfl ?_ fun ha => ⟨?_, ?_, fun m hm' => ?_, ha⟩
  · exact (State.queue_of_touches hframe (by decide) (by decide) _).trans (hqueue _)
  · rw [State.curve_congr (congrArg SpindleUnit.curves (Out.finish_spn _ _)), hcurve, hin]
  · rw [Out.finish_ks, (hframe .ks (by decide) : v.ks = w.ks), hdraws, hks]
  · rw [State.curve_congr (congrArg SpindleUnit.curves (Out.finish_spn _ _)), hcurve, hout m hm']
    exact State.curve_congr (congrArg SpindleUnit.curves hspn) m

theorem completes_curveLoadLoad_fails {slot : Byte} {n : Nat} (hslot : slot = (rowPacket 0x0506 (some 0) c.pkt).byteAt 33)
    (h : Runs 0x0506 (some 0) c s f)
    (hfree : (s.spn.curves.get slot.toNat { cv := curve0, valid := false }).valid = false) (hm : c.memErr = none)
    (hp : s.programsRun c false) (hn : n ≠ 0) (hbad : curveCheck s.ks.draws slot c.bytes = n) :
    Completes (.curveLoadLoad c) s fun t =>
      t.spn.curves = s.spn.curves ∧ t.kp = s.kp ∧ t.answers c.q f stBadParameter (inlAt 0 n) := by
  have hks := State.begun_ks 0x0506 (some 0) c f s
  have hspn := State.begun_spn 0x0506 (some 0) c f s
  have hbody := curveLoadLoadBody_fails (x := s.ctxRun 0x0506 (some 0) c f) (u := s.begun 0x0506 (some 0) c f) hslot
    (by rw [hspn]; exact hfree) (withData_ok hm _) hn (by rw [hks]; exact hbad)
  obtain ⟨v, hv, hcurves, hframe⟩ := spindled_kept hp rfl hbody
    (State.curveChecked_ran (u := s.begun 0x0506 (some 0) c f) ((congrArg SpindleUnit.ran hspn).trans hp.2.2.2))
  refine completes_now h rfl hv rfl ?_ fun ha => ⟨?_, ?_, ha⟩
  · exact State.queue_of_touches hframe (by decide) (by decide) _
  · rw [Out.finish_spn]
    exact (hcurves.trans (State.curveChecked_curves ..)).trans (congrArg SpindleUnit.curves hspn)
  · rw [Out.finish_kp]
    exact ((Keeper.eq_of_others (hframe .kp (by decide)) (hframe .memories (by decide))).trans (State.begun_kp ..))

/-- A curve taken out of force. -/
def State.withoutCurve (slot : Nat) (s : State) : State :=
  let u := s.flashNow (configReq (curveKey slot) [])
  { u with spn := { u.spn with curves := u.spn.curves.del slot } }

theorem State.withoutCurve_curves (slot : Nat) (u : State) : (u.withoutCurve slot).spn.curves = u.spn.curves.del slot := by
  simp only [State.withoutCurve, State.flashNow_spn]

theorem State.withoutCurve_queue (slot : Nat) (u : State) (q : QId) : (u.withoutCurve slot).queue q = u.queue q := by
  have h : u.touches [.spn, .arb, .kp, .memories] (u.withoutCurve slot) := by simp [State.withoutCurve]
  exact State.queue_of_touches h (by decide) (by decide) q

theorem curveLoadClearBody_passes {x : Ctx} {u : State} {slot : Nat} (hslot : slot = (x.c.pkt.byteAt 33).toNat)
    (hnvm : u.nvmStatus = none) : curveLoadClearBody x u = { s := u.withoutCurve slot, cyc := 240 } := by
  subst hslot
  simp only [curveLoadClearBody, hnvm]
  rfl

theorem completes_curveLoadClear {slot : Nat} (hslot : slot = ((rowPacket 0x0506 (some 1) c.pkt).byteAt 33).toNat)
    (h : Runs 0x0506 (some 1) c s f) (hne : slot ≠ 0) (hsorted : Tab.sorted s.spn.curves = true) (hnvm : s.nvmStatus = none) :
    Completes (.curveLoadClear c) s fun t =>
      t.curve slot = none ∧ (∀ m, m ≠ slot → t.curve m = s.curve m) ∧ t.answers c.q f 0 0 := by
  have hspn := State.begun_spn 0x0506 (some 1) c f s
  have hbody := curveLoadClearBody_passes (x := s.ctxRun 0x0506 (some 1) c f) (u := s.begun 0x0506 (some 1) c f) hslot
    ((State.begun_nvmStatus ..).trans hnvm)
  have hcurves : ((s.begun 0x0506 (some 1) c f).withoutCurve slot).spn.curves = s.spn.curves.del slot := by
    rw [State.withoutCurve_curves, hspn]
  refine completes_now h rfl hbody rfl (State.withoutCurve_queue ..) fun ha => ⟨?_, fun m hm => ?_, ha⟩
  all_goals rw [State.curve_congr (congrArg SpindleUnit.curves (Out.finish_spn _ _))]
  · rw [State.curve, if_neg hne, hcurves, Tab.find_del hsorted]
    rfl
  · simp only [State.curve, hcurves, Tab.find_del_ne hsorted hm]

end

/-- Settles O23: each load is its body's equation where its checks pass, and its one program ends within the command's step. -/
theorem publicKeysAndCurvesLoad : Obligations.PublicKeysAndCurvesLoad := by
  unfold Obligations.PublicKeysAndCurvesLoad
  intro c s f
  refine ⟨fun cv n pt usage h hm hcv hpt hon hn husage hp => completes_pubkeyLoad h hm hcv hpt hon hn husage hp,
    fun cv n h hm hcv hasync hstop hidle hran => completes_pubkeyLoad_async h hm hcv hasync hstop hidle hran, ?_, ?_⟩
  · intro slot p hpkt h hslot hne hfree hm hnvm hp
    subst hpkt
    exact ⟨fun hok => completes_curveLoadLoad hslot h hne hfree hm hnvm hp hok,
      fun n hn hbad => completes_curveLoadLoad_fails hslot h hfree hm hp hn hbad⟩
  · intro slot p hpkt h hslot hne hsorted hnvm
    subst hpkt
    exact completes_curveLoadClear hslot h hne hsorted hnvm

end Sys2Proof.Machine
end

section
/-! PROOFS. A domain master key loaded while the archive area waits for an erase (R226, R299, R305). -/

namespace Sys2Proof.Machine

set_option Elab.async false

/-- The body of `KEY_LOAD_BLOB` of a transport blob that passes its checks. -/
theorem keyLoadBody_dmk {x : Ctx} {s : State} {bs m : Bytes} {wk : BitVec 128} {root : BitVec 256}
    (hdata : ∀ k, withData x s k = k bs) (hrefusal : blobRefusal s x.dom bs = none) (htyp : (blobHead bs).typ = 8)
    (hparent : s.blobParent x.c.pkt (blobHead bs) x.dom = (s, .ok wk)) (hfree : s.dmk ((blobHead bs).lineage.setWidth 8) = none)
    (hunwrap : unwrapBlob wk (slice bs 0 128) (bs.drop 128) = some m) (hroot : s.rootKey = some root) (hnvm : s.nvmStatus = none) :
    keyLoadBody x s =
      { s := (s.installDmk ((blobHead bs).lineage.setWidth 8) (BitVec.ofNat 256 (beNat (slice m 0 32))) root).1
        cyc := 243 + 4 * ceilDiv (blobHead bs).idLen.toNat 16, inl := keyInline none (kcvOf 8 m) } := by
  have hlineage (b : Bool) : s.lineageOf (blobHead bs) x.dom b = some none := by simp [State.lineageOf, htyp]
  have h5 : ¬((blobHead bs).typ = 5 ∧ (!s.spindlesIn 0 8 || s.isOut 0x51) = true) := fun h => absurd (htyp.symm.trans h.1) (by decide)
  simp only [keyLoadBody, hdata, hrefusal, if_neg h5, hparent, hlineage, if_pos htyp, loadDmkBlob, hfree, hunwrap, hroot, hnvm,
    Option.isSome_none, Bool.false_eq_true, if_false]

theorem State.blobParent_transport {s : State} {p : Packet} {h : BlobHead} {dom : Dom} {k : Slot} (hp : h.parent = 0xFFFE ∧ h.parentGen = 0)
    (hs : s.slot 4 = some k) (hc : k.check = k.icv) (hv : k.st = .valid ∧ s.gensOk k = true) :
    s.blobParent p h dom = (s, .ok (wrapKey (blockBytes k.key128) 0xFFFE 0)) := by
  simp [State.blobParent, hp.1, hp.2, State.readSlot, hs, hc, hv.1, hv.2]

/-- A record of the MSS requests the commit unit. -/
theorem State.mssWrite_queue_ne (off : Nat) (bs : Bytes) (after : List After) (s : State) : (s.mssWrite off bs after).kp.queue ≠ [] := by
  unfold State.mssWrite
  dsimp only
  split
  · next h =>
    intro he
    have hq : s.kp.queue = [] := by simpa using he
    simp [hq] at h
  · simp

theorem State.wearWrite_queue_ne (ring v : Nat) (s : State) : (s.wearWrite ring v).kp.queue ≠ [] := by
  unfold State.wearWrite
  dsimp only
  exact State.mssWrite_queue_ne _ _ _ _

theorem State.genWrite_queue (g : GenWrite) (s : State) : (s.genWrite g).kp.queue = s.kp.queue ++ [.gen g] := by
  simp [State.genWrite]

theorem State.gensOk_congr {s t : State} (h : t.ks = s.ks) (k : Slot) : t.gensOk k = s.gensOk k := by
  simp only [State.gensOk, State.gen, h]

/-- A record of a command whose area had to erase a sector first also requests the write of the wear ring (R299). -/
theorem State.flashNow_wears {req : FlashReq} {s : State} (h : (s.kp.flush.writeFrame req).eraseCount ≠ s.kp.eraseCount) :
    (s.flashNow req).kp.queue ≠ [] := by
  rw [State.flashNow, State.noteErases, if_neg h]
  exact State.wearWrite_queue_ne _ _ _

theorem State.installDmk_queue {d : Dom} {v root : BitVec 256} {s : State}
    (h : ∀ payload, (s.kp.flush.writeFrame (archiveReq (archiveDmk d) payload)).eraseCount ≠ s.kp.eraseCount) (g : CuReq) :
    (s.installDmk d v root).1.kp.queue ≠ [g] := by
  have hne (payload : Bytes) : (((s.drawn 1).putDmk d v).flashNow (archiveReq (archiveDmk d) payload)).kp.queue ≠ [] :=
    State.flashNow_wears (h payload)
  rw [State.installDmk]
  dsimp only
  rw [State.genWrite_queue]
  intro hq
  have hlen := congrArg List.length hq
  simp only [List.length_append, List.length_singleton] at hlen
  exact hne _ (List.eq_nil_of_length_eq_zero (Nat.succ_injective hlen))

theorem Keeper.openSector_erases (k : Keeper) (a : FlashArea) : (k.openSector a).erases = k.erases := by
  rw [Keeper.openSector]
  split
  · rfl
  · cases a <;> rfl

theorem Keeper.makeRoom_erases (k : Keeper) (a : FlashArea) (n : Nat) : (k.makeRoom a n).erases = k.erases := by
  rw [Keeper.makeRoom]
  split
  · rfl
  · rw [Keeper.openSector_erases]
    split
    · cases a <;> rfl
    · rfl

theorem Keeper.startFrame_erases (k : Keeper) (req : FlashReq) : (k.startFrame req).erases = k.erases := by
  rw [Keeper.startFrame]
  dsimp only
  split
  · exact Keeper.makeRoom_erases ..
  · rw [← Keeper.makeRoom_erases k req.area (frameLen req.payload.length)]
    cases req.area <;> rfl

theorem Keeper.finishFrame_erases (k : Keeper) : k.finishFrame.erases = k.erases := by
  rw [Keeper.finishFrame]
  split
  · rfl
  · next w _ =>
    rw [Keeper.noted]
    cases w.req.area <;> rfl

/-- Only the erases that a frame waits for are counted. -/
theorem Keeper.writeFrame_eraseCount (k : Keeper) (req : FlashReq) : (k.writeFrame req).eraseCount = (k.prepare req).eraseCount := by
  rw [Keeper.eraseCount, Keeper.writeFrame, Keeper.finishFrame_erases, Keeper.startFrame_erases, Keeper.eraseCount]

theorem State.installDmk_ran (d : Dom) (v root : BitVec 256) (s : State) : (s.installDmk d v root).1.spn.ran = s.spn.ran := by
  have h : s.touches [.ks, .arb, .kp, .memories] (s.installDmk d v root).1 := by simp
  exact h .ran (by decide)

/-- What `KEY_LOAD_BLOB` of such a blob leaves to the commit unit. -/
theorem exec_keyLoadDmk {c : Cmd} {s t : State} {f : Fetched} {u : State} {x : Ctx} {h : BlobHead} {wk : BitVec 128} {m : Bytes} {d : Dom}
    {root : BitVec 256} (hruns : Runs 0x0701 none c s f) (hm : c.memErr = none) (hu : s.begun 0x0701 none c f = u)
    (hx : s.ctxRun 0x0701 none c f = x) (hhead : blobHead c.bytes = h)
    (hrefusal : blobRefusal u x.dom c.bytes = none) (htyp : h.typ = 8) (hd : h.lineage.setWidth 8 = d)
    (hparent : u.blobParent x.c.pkt h x.dom = (u, .ok wk)) (hfree : u.dmk d = none)
    (hunwrap : unwrapBlob wk (slice c.bytes 0 128) (c.bytes.drop 128) = some m) (hroot : u.rootKey = some root)
    (hnvm : u.nvmStatus = none) (hran : u.spn.ran = []) (ht : exec (.keyLoadBlob c) s = .next t) :
    t.kp.queue = (u.installDmk d (BitVec.ofNat 256 (beNat (slice m 0 32))) root).1.kp.queue := by
  subst hhead hd hu hx
  have hbody := keyLoadBody_dmk (x := s.ctxRun 0x0701 none c f) (withData_ok hm _) hrefusal htyp hparent hfree hunwrap hroot hnvm
  have hdry : (keyLoadBody (s.ctxRun 0x0701 none c f) (s.begun 0x0701 none c f)).s.spn.ran = [] := by
    rw [hbody]
    dsimp only
    rw [State.installDmk_ran, hran]
  have hrun : exec (.keyLoadBlob c) s = .next (runOp 0x0701 none (spindled keyLoadBody) c s) := rfl
  rw [hrun, runOp_runs hruns, spindled_none hdry, hbody] at ht
  injection ht with ht
  rw [← ht, Out.finish_kp]

/-! ## An archive area whose next sector waits for its erase -/

namespace ArchiveShort

/-- The transport key, which wraps the key loaded. -/
def transportKey : Slot := smallKey 1 0x2000 11

def wrappingKey : BitVec 128 := wrapKey (blockBytes transportKey.key128) 0xFFFE 0

/-- The blob of the master key of domain 9. -/
def blob : Bytes := dmkBlob wrappingKey 0xFFFE 9 77 1

/-- `KEY_LOAD_BLOB` of that blob. -/
def command : Cmd := { pkt := smallPacket 0x0701 0 0 [] 128 0, data := blob }

/-- The device with its root and the transport key, and the archive area without a sector: the one it has left waits for its erase. -/
def state : State := State.withPacket command.pkt
  { smallDevice with
    ks := { smallDevice.ks with root := 1, slots := [(0, smallKey 3 0 (44 * 2 ^ 256)), (4, transportKey)] }
    kp := { smallDevice.kp with archive := { freshArea 403 8 with blank := [] }, eraseQueue := [403] } }

theorem runs : Runs 0x0701 none command state (smallFetched command.pkt) := Runs.of_check (by decide +kernel)

theorem head : (blobHead command.bytes).parent = 0xFFFE ∧ (blobHead command.bytes).parentGen = 0 ∧ (blobHead command.bytes).typ = 8 ∧
    (blobHead command.bytes).lineage = 9 := by decide +kernel

theorem unwraps : unwrapBlob wrappingKey (slice command.bytes 0 128) (command.bytes.drop 128) = some (digestBytes 77 ++ zeros 32) := by
  decide +kernel

theorem checks : command.memErr = none ∧ blobRefusal state 0 command.bytes = none ∧ state.dmk 9 = none ∧ state.rootKey = some 44 ∧
    state.nvmStatus = none ∧ state.spn.ran = [] ∧ state.kp.queue = [] := by decide +kernel

/-- The state and the context with which the body runs. -/
def begun : State := state.begun 0x0701 none command (smallFetched command.pkt)
def context : Ctx := state.ctxRun 0x0701 none command (smallFetched command.pkt)

theorem begunChecks : blobRefusal begun context.dom command.bytes = none ∧ begun.dmk 9 = none ∧ begun.rootKey = some 44 ∧
    begun.nvmStatus = none ∧ begun.spn.ran = [] := by decide +kernel

theorem slot4 : state.slot 4 = some transportKey := rfl

theorem erases (payload : Bytes) :
    (state.kp.flush.writeFrame (archiveReq (archiveDmk 9) payload)).eraseCount ≠ state.kp.eraseCount := by
  have h : (state.kp.flush.prepare (archiveReq (archiveDmk 9) payload)).eraseCount = 1 := rfl
  rw [Keeper.writeFrame_eraseCount, h]
  decide

end ArchiveShort

open ArchiveShort in
/-- Refutes O24: where the archive area has no room, the blob's record waits for an erase, whose wear ring is written too (R299,
R305), so the generation-table entry is not the only write that the commit unit is asked for. -/
theorem not_keyBlobsLoad : ¬ Obligations.KeyBlobsLoad := by
  unfold Obligations.KeyBlobsLoad
  intro h
  obtain ⟨hmem, hrefusal, hdmk, hroot, hnvm, hran, hqueue⟩ := checks
  obtain ⟨hp, hg, ht, hl⟩ := head
  have hparent (u : State) (p : Packet) (hu : u.ks = state.ks) :
      u.blobParent p (blobHead command.bytes) 0 = (u, .ok wrappingKey) :=
    State.blobParent_transport ⟨hp, hg⟩ ((State.slot_congr hu 4).trans slot4) (smallKey_check ..)
      ⟨rfl, by rw [State.gensOk_congr hu]; decide +kernel⟩
  obtain ⟨t, hexec, -, -, -, hq, -⟩ := (h command state (smallFetched command.pkt) 0 _ wrappingKey _ rfl runs hmem hrefusal rfl
    (congrArg Prod.snd (hparent _ _ rfl)) unwraps).2 44 9 none ht (by simp [State.lineageOf, ht]) (by rw [hl]; rfl) hdmk hroot hnvm hran
  obtain ⟨hrefusal', hdmk', hroot', hnvm', hran'⟩ := begunChecks
  have hqueue' := exec_keyLoadDmk runs hmem rfl rfl rfl hrefusal' ht (by rw [hl]; rfl) (hparent _ _ (State.begun_ks ..)) hdmk' unwraps hroot'
    hnvm' hran' hexec
  refine State.installDmk_queue ?_ _ (hqueue'.symm.trans (hq.trans (by rw [hqueue]; rfl)))
  rw [State.begun_kp]
  exact erases

end Sys2Proof.Machine
end

section
/-! PROOFS. A member that finds its head again in D3hot (R289, R36). -/

namespace Sys2Proof.Machine

set_option Elab.async false

namespace RejoinInD3hot

/-- A member that had lost its head, in D3hot, with a journal record that is not written yet. -/
def state : State :=
  { smallDevice with
    gctl := { smallDevice.gctl with d3hot := true }
    skn := { smallDevice.skn with head := false, lost := [0], cutOff := true }
    ru := { smallDevice.ru with jrn := { smallDevice.ru.jrn with en := true, unwritten := [(1, [])] } } }

theorem starts : state.skn.head = false ∧ state.skn.lost.contains 0 = true ∧ state.ru.jrn.en = true := by decide +kernel

theorem record_kept : (rejoinEvent 0 state).ru.jrn.unwritten = [(1, [])] := by decide +kernel

end RejoinInD3hot

open RejoinInD3hot in
/-- Refutes O28: in D3hot nothing goes to the host, so a member that reaches its head again keeps the journal records that are not
written. -/
theorem not_nodesMapAndMembers : ¬ Obligations.NodesMapAndMembers := by
  unfold Obligations.NodesMapAndMembers
  intro ⟨_, h⟩
  obtain ⟨-, -, -, -, -, -, -, hrejoin, -⟩ := h state
  obtain ⟨hhead, hlost, hen⟩ := starts
  obtain ⟨t, hexec, -, -, -, hwritten⟩ := hrejoin hhead hlost
  have hrun : exec (.memberRejoin 0) state = .next (rejoinEvent 0 state) := rfl
  injection hrun.symm.trans hexec with hexec
  have hempty := hwritten hen
  rw [← hexec, record_kept] at hempty
  exact List.cons_ne_nil _ _ hempty

end Sys2Proof.Machine
end

section
/-! PROOFS. A reclaim while the replacement map waits for the commit unit (R305, R307). -/

namespace Sys2Proof.Machine

set_option Elab.async false

namespace ReclaimBehindMap

/-- The log has two used sectors and no blank one, and a block of the replacement map requests the commit unit. -/
def state : State :=
  { smallDevice with
    kp := { smallDevice.kp with
      log := { freshArea 288 99 with sector := 289, used := [288, 289], blank := [] }, queue := [.mss replaceOff [] []] } }

theorem starts : state.nvmStatus = none ∧ state.kp.log.used = [288, 289] ∧ state.kp.log.blank.length ≤ areaSpare .log ∧
    state.kp.log.sector ≠ 288 ∧ state.kp.erase = none ∧ state.kp.eraseQueue = [] ∧ state.kp.failedSectors = [] := by decide +kernel

theorem no_erase : (reclaimEvent .log state).kp.erase = none := by decide +kernel

end ReclaimBehindMap

open ReclaimBehindMap in
/-- Refutes O50: while a replacement map is not written no erase starts (R307), so the sector that a reclaim gives up waits. -/
theorem not_keeperDieStoresRecords : ¬ Obligations.KeeperDieStoresRecords := by
  unfold Obligations.KeeperDieStoresRecords
  intro h
  obtain ⟨-, -, -, hreclaim, -⟩ := h state
  obtain ⟨hnvm, hused, hblank, hsector, herase, hqueue, hfailed⟩ := starts
  obtain ⟨t, hexec, ht, -⟩ := hreclaim 288 289 [] hnvm hused hblank hsector herase hqueue hfailed
  have hrun : exec (.flashSectorReclaim .log) state = .next (reclaimEvent .log state) := rfl
  injection hrun.symm.trans hexec with hexec
  rw [← hexec, no_erase] at ht
  cases ht

end Sys2Proof.Machine
end

section
/-! PROOFS. The ports of the MSS, its sensors and the event log (R336, R349 to R353, R356, R360). -/

namespace Sys2Proof.Machine

set_option Elab.async false

section
variable {s : State}

/-! ## What an arbiter's operations keep -/

/-- A grant changes the arbiters' tables only. -/
theorem State.grant_eq (n : Nat) (s : State) : ∃ a, s.grant n = { s with arb := { s.arb with arbs := a } } := by
  unfold State.grant
  split
  · exact ⟨s.arb.arbs, rfl⟩
  · exact ⟨_, rfl⟩

/-! ## The side-band port -/

theorem smbusEvent_takes {m : Bytes} (hup : s.mssUp = true) (heid : s.mss.eid ≠ 0) (hm : messageOk m = true) (h : s.mss.smbus.length < 4) :
    smbusEvent m s = ({ s with mss := { s.mss with smbus := s.mss.smbus ++ [m] } } : State).park 26 [0] := by
  have heid' : (s.mss.eid == 0) = false := by simpa using heid
  simp only [smbusEvent, hup, heid', hm, h, Bool.not_true, Bool.or_false, Bool.false_eq_true, if_false, if_true]

theorem smbusEvent_discards {m : Bytes} (hup : s.mssUp = true) (heid : s.mss.eid ≠ 0) (hm : messageOk m = true)
    (h : 4 ≤ s.mss.smbus.length) :
    smbusEvent m s = { s with mss := { s.mss with discarded := satAdd s.mss.discarded 1 } } := by
  have heid' : (s.mss.eid == 0) = false := by simpa using heid
  simp only [smbusEvent, hup, heid', hm, Nat.not_lt.mpr h, Bool.not_true, Bool.or_false, Bool.false_eq_true, if_false]

theorem completes_smbusMessage {m : Bytes} (hup : s.mssUp = true) (heid : s.mss.eid ≠ 0) (hm : messageOk m = true)
    (h : s.mss.smbus.length < 4) :
    Completes (.smbusMessage m) s fun t =>
      t.mss.smbus = s.mss.smbus ++ [m] ∧ t.mss.discarded = s.mss.discarded ∧ t.queues = s.queues := by
  refine ⟨_, rfl, ?_⟩
  rw [smbusEvent_takes hup heid hm h]
  exact ⟨rfl, rfl, rfl⟩

theorem controlReply_assigns {flags op eid e : Byte} {rest : Bytes} (hop : (op &&& 3).toNat ≤ 1) (h : ¬(eid = 0 ∨ eid = 0xFF)) :
    controlReply ([0x00, flags, 0x01, op, eid] ++ rest) e = ([0x00, flags &&& 0x1F, 0x01, 0x00, 0x00, eid, 0x00], eid) :=
  calc controlReply ([0x00, flags, 0x01, op, eid] ++ rest) e
    _ = if 1 < (op &&& 3).toNat then ([0x00, flags &&& 0x1F, 0x01] ++ [0x02], e)
        else if eid = 0 ∨ eid = 0xFF then ([0x00, flags &&& 0x1F, 0x01] ++ [0x02], e)
        else ([0x00, flags &&& 0x1F, 0x01] ++ [0x00, 0x00, eid, 0x00], eid) := rfl
    _ = _ := by rw [if_neg (Nat.not_lt.mpr hop), if_neg h]; rfl

theorem controlEvent_assigns {flags op eid : Byte} {rest : Bytes} (hup : s.mssUp = true) (hf : flags.getLsbD 7 = true)
    (hop : (op &&& 3).toNat ≤ 1) (h0 : eid ≠ 0) (h1 : eid ≠ 0xFF) :
    controlEvent ([0x00, flags, 0x01, op, eid] ++ rest) s =
      ({ s with mss := { s.mss with eid } } : State).emit (.smbus [0x00, flags &&& 0x1F, 0x01, 0x00, 0x00, eid, 0x00]) := by
  have hlen : decide (([0x00, flags, 0x01, op, eid] ++ rest).length < 3) = false := by simp
  have hgo : ¬(!s.mssUp || decide (([0x00, flags, 0x01, op, eid] ++ rest).length < 3) ||
      (slice ([0x00, flags, 0x01, op, eid] ++ rest) 0 1).headD 0 != 0 ||
      !((slice ([0x00, flags, 0x01, op, eid] ++ rest) 1 1).headD 0).getLsbD 7) = true := by
    rw [hup, hlen]
    simp only [show (slice ([0x00, flags, 0x01, op, eid] ++ rest) 0 1).headD 0 = 0 from rfl,
      show (slice ([0x00, flags, 0x01, op, eid] ++ rest) 1 1).headD 0 = flags from rfl, hf]
    decide
  rw [controlEvent]
  dsimp only
  rw [if_neg hgo, controlReply_assigns hop (not_or.mpr ⟨h0, h1⟩)]

/-! ## The service port -/

theorem spiFrameEvent_takes {f : Bytes} (hen : s.mss.svcEn = true) (hup : s.mssUp = true) (hok : spiFrameOk f = true)
    (hfree : s.spiBusy = false) :
    spiFrameEvent f s =
      ({ s with mss := { s.mss with spiWaiting := some (slice f 4 (leAt f 2 2)), spiOut := none, spiErr := false } } : State).park 26 [1] := by
  simp [spiFrameEvent, hen, hup, hok, hfree]

theorem spiFrameEvent_bad {f : Bytes} (hen : s.mss.svcEn = true) (hup : s.mssUp = true) (hok : spiFrameOk f = false) :
    spiFrameEvent f s = { s with mss := { s.mss with spiErr := true } } := by
  simp [spiFrameEvent, hen, hup, hok]

/-! ## Taking a command -/

/-- What a port's command is judged by is neither in the ports' buffers nor at the arbiters. -/
theorem State.judgeSide_idle {p : Packet} {via : Transport} (m : MssUnit) (a : Tab Arbiter) (hst : m.st = s.mss.st) :
    ({ s with mss := m, arb := { s.arb with arbs := a } } : State).judgeSide p via = s.judgeSide p via := by
  rw [State.judgeSide, State.judgeSide]
  dsimp only
  rw [hst]
  rfl

theorem State.takeSide_judged {c : Cmd} {u : State} (h : u.judgeSide c.pkt c.via = none) :
    u.takeSide c = { u with mss := { u.mss with running := some (c.via, c), begun := false } } := by
  have hj : ({ u with mss := { u.mss with running := some (c.via, (sideCtx c c.pkt).c), begun := false } } : State).judgeSide c.pkt c.via = none := h
  rw [State.takeSide]
  dsimp only
  rw [hj]
  rfl

theorem commandTake_message {m : Bytes} {rest : List Bytes} (hup : s.mssUp = true) (hfree : s.mss.running = none)
    (hport : s.portChoice = some 0) (hm : s.mss.smbus = m :: rest) (hj : s.judgeSide (messageCmd m).pkt .smbus = none) :
    ∃ a, commandTake s =
      { s with mss := { s.mss with smbus := rest, running := some (.smbus, messageCmd m), begun := false }
               arb := { s.arb with arbs := a } } := by
  obtain ⟨a, ha⟩ := State.grant_eq 26 { s with mss := { s.mss with smbus := rest } }
  have hnone : s.mss.running.isSome = false := by rw [hfree]; rfl
  refine ⟨a, ?_⟩
  simp only [commandTake, hup, hnone, hport, hm, Bool.not_true, Bool.or_false, Bool.false_eq_true, if_false]
  rw [ha, State.takeSide_judged]
  · rfl
  · exact (State.judgeSide_idle (s := s) { s.mss with smbus := rest } a rfl).trans hj

theorem commandTake_forwarded {c : Cmd} {rest : List Cmd} (hup : s.mssUp = true) (hfree : s.mss.running = none)
    (hport : s.portChoice = none) (hf : s.mss.forwarded = c :: rest) (hst : s.mss.st = .running) :
    commandTake s = { s with mss := { s.mss with forwarded := rest, running := some (.host, c), begun := false } } := by
  simp [commandTake, hup, hfree, hport, hf, hst]

/-! ## Sensors -/

theorem toList_ofFn_getD {rs : List (BitVec 16)} (h : rs.length = 16) (d : Nat → BitVec 16) :
    (Vector.ofFn fun i : Fin 16 => rs.getD i.val (d i.val)).toList = rs := by
  refine List.ext_getElem (by simp [h]) fun i h1 h2 => ?_
  simp [h2]

/-- A fold of steps that each leave a part of the state leaves it. -/
theorem State.foldl_keeps {α β : Type} {g : State → α → State} {part : State → β} (hg : ∀ s a, part (g s a) = part s) (l : List α) (s : State) :
    part (l.foldl g s) = part s := by
  induction l generalizing s with
  | nil => rfl
  | cons a l ih => exact (ih _).trans (hg s a)

/-- What a sample does for one sensor: an excursion that was not there before is logged. -/
def State.noteSensor (limits : List (Int × Int)) (old new : List (BitVec 16)) (s : State) (i : Nat) : State :=
  match outside (limits.getD i (0, 0)) (sensorValue i (new.getD i 0)) with
  | none => s
  | some high =>
    if outside (limits.getD i (0, 0)) (sensorValue i (old.getD i 0)) = some high then s
    else s.log Config.sensorCode 2 1 (leBytes 32 (Config.sensorDetail i high (new.getD i 0)).toNat)

theorem State.noteSensor_keeps (limits : List (Int × Int)) (old new : List (BitVec 16)) (s : State) (i : Nat) :
    (s.noteSensor limits old new i).mss = s.mss ∧ (s.noteSensor limits old new i).queues = s.queues := by
  rw [State.noteSensor]
  split
  · exact ⟨rfl, rfl⟩
  · split
    · exact ⟨rfl, rfl⟩
    · exact ⟨State.log_mss .., State.log_queues ..⟩

theorem State.noteSensors_keep (limits : List (Int × Int)) (old new : List (BitVec 16)) (l : List Nat) (s : State) :
    (l.foldl (State.noteSensor limits old new) s).mss = s.mss ∧ (l.foldl (State.noteSensor limits old new) s).queues = s.queues :=
  ⟨State.foldl_keeps (part := State.mss) (fun u i => (u.noteSensor_keeps limits old new i).1) l s,
    State.foldl_keeps (part := State.queues) (fun u i => (u.noteSensor_keeps limits old new i).2) l s⟩

theorem sampleEvent_samples {rs : List (BitVec 16)} (hst : s.mss.st = .running) (h : rs.length = 16) :
    (sampleEvent rs s).mss.sensors.toList = rs ∧ (sampleEvent rs s).queues = s.queues := by
  obtain ⟨new, hnew, hlist⟩ : ∃ new : Vector (BitVec 16) 16,
      (Vector.ofFn fun i : Fin 16 => rs.getD i.val (s.mss.sensors.toList.getD i.val 0)) = new ∧ new.toList = rs :=
    ⟨_, rfl, toList_ofFn_getD h fun i => s.mss.sensors.toList.getD i 0⟩
  have hsample : sampleEvent rs s = (List.range 16).foldl (State.noteSensor s.limits s.mss.sensors.toList new.toList)
      { s with mss := { s.mss with sensors := new } } := by
    subst hnew
    exact if_neg (by simp [hst])
  obtain ⟨hm, hq⟩ := State.noteSensors_keep s.limits s.mss.sensors.toList new.toList (List.range 16)
    { s with mss := { s.mss with sensors := new } }
  rw [hsample]
  exact ⟨(congrArg (fun m => m.sensors.toList) hm).trans hlist, hq⟩

/-! ## The event log -/

/-- Where the log takes a frame at once, it goes to the append point with the next sequence. -/
theorem Keeper.writeFrame_log {k : Keeper} {payload : Bytes} (hfit : k.log.fits (frameLen payload.length) = true) :
    let k' := k.writeFrame { area := .log, kind := 0x01, key := 0, payload }
    k'.posts = k.posts ∧ k'.log = { k.log with off := k.log.off + frameLen payload.length, frameSeq := k.log.frameSeq + 1 } ∧
      k'.fe0 = k.fe0 ∧ k'.fe1 = k.fe1 ∧ k'.erases = k.erases := by
  have hrefill : k.refill .log (frameLen payload.length) = k := by simp [Keeper.refill, Keeper.area, hfit]
  have hroom : k.makeRoom .log (frameLen payload.length) = k := if_pos hfit
  dsimp only
  simp only [Keeper.writeFrame, Keeper.prepare, hrefill, Keeper.startFrame, hroom, Keeper.area, hfit, Bool.not_true, Bool.false_eq_true,
    if_false]
  exact ⟨rfl, rfl, rfl, rfl, rfl⟩

theorem State.flashNow_log {u : State} {payload : Bytes} (h : u.flashTakes .log payload.length) :
    (u.flashNow { area := .log, kind := 0x01, key := 0, payload }).kp = u.kp.writeFrame { area := .log, kind := 0x01, key := 0, payload } := by
  obtain ⟨hframe, hframes, hfit⟩ := h
  obtain ⟨-, -, -, -, herases⟩ := Keeper.writeFrame_log (k := u.kp) hfit
  have hcount : (u.kp.writeFrame { area := .log, kind := 0x01, key := 0, payload }).eraseCount = u.kp.eraseCount := by
    rw [Keeper.eraseCount, herases, Keeper.eraseCount]
  rw [State.flashNow, Keeper.flush_idle hframe hframes, State.noteErases, if_pos hcount]

theorem logWriteEvent_writes {e : Event} {rest : List Event} (hnvm : s.nvmStatus = none) (hst : s.mss.st = .running)
    (hposts : s.kp.posts = e :: rest) (hf : s.flashTakes .log (e.bytes (s.kp.log.frameSeq + 1)).length) :
    (logWriteEvent s).kp.posts = rest ∧ (logWriteEvent s).kp.log.frameSeq = s.kp.log.frameSeq + 1 ∧
      (logWriteEvent s).kp.log.off = s.kp.log.off + frameLen (e.bytes (s.kp.log.frameSeq + 1)).length ∧
      (logWriteEvent s).kp.fe0 = s.kp.fe0 ∧ (logWriteEvent s).kp.fe1 = s.kp.fe1 := by
  obtain ⟨hframe, hframes, hfit⟩ := hf
  have hevent : logWriteEvent s = ({ s with kp := { s.kp with posts := rest } } : State).flashNow
      { area := .log, kind := 0x01, key := 0, payload := e.bytes (s.kp.log.frameSeq + 1) } := by
    simp only [logWriteEvent, hnvm, hst, hposts, Option.isSome_none, bne_self_eq_false, Bool.or_self, Bool.false_eq_true, if_false,
      Keeper.flush_idle hframe hframes]
  obtain ⟨hp, hl, h0, h1, -⟩ := Keeper.writeFrame_log (k := { s.kp with posts := rest }) hfit
  rw [hevent, State.flashNow_log (u := { s with kp := { s.kp with posts := rest } }) ⟨hframe, hframes, hfit⟩]
  exact ⟨hp, congrArg Append.frameSeq hl, congrArg Append.off hl, h0, h1⟩

/-! ## What the backup domain stored -/

theorem State.log_posts {u : State} (h : (u.gctl.recalling || u.mss.st != .running) = false) (code : BitVec 16) (plane severity : Byte)
    (detail : Bytes) : (u.log code plane severity detail).kp.posts.length = u.kp.posts.length + 1 := by
  simp [State.log, h]

theorem State.foldl_log_posts {α : Type} {u : State} (h : (u.gctl.recalling || u.mss.st != .running) = false) (code : BitVec 16)
    (plane severity : Byte) (detail : α → Bytes) (l : List α) :
    (l.foldl (fun u a => u.log code plane severity (detail a)) u).kp.posts.length = u.kp.posts.length + l.length := by
  induction l generalizing u with
  | nil => rfl
  | cons a l ih =>
    have h' : ((u.log code plane severity (detail a)).gctl.recalling || (u.log code plane severity (detail a)).mss.st != .running) = false := by
      rwa [State.log_gctl, State.log_mss]
    rw [List.foldl_cons, ih h', State.log_posts h, List.length_cons]
    omega

theorem storePostEvent_posts (hst : s.mss.st = .running) (hrec : s.gctl.recalling = false) :
    (storePostEvent s).tmp.store = [] ∧ (storePostEvent s).tmp.overflow = 0 ∧ (storePostEvent s).tmp.level = s.tmp.level ∧
      (storePostEvent s).kp.posts.length = s.kp.posts.length + s.tmp.store.length + (if s.tmp.overflow = 0 then 0 else 1) := by
  have hopen : (s.gctl.recalling || s.mss.st != .running) = false := by simp [hst, hrec]
  have hgo : ¬(s.mss.st != .running) = true := by simp [hst]
  have hposts := State.foldl_log_posts hopen 0x0013 3 3 (fun r => leBytes 16 r.toNat) s.tmp.store
  have hgctl : (s.tmp.store.foldl (fun u r => u.log 0x0013 3 3 (leBytes 16 r.toNat)) s).gctl = s.gctl :=
    State.foldl_keeps (part := State.gctl) (fun u r => State.log_gctl ..) ..
  have hmss : (s.tmp.store.foldl (fun u r => u.log 0x0013 3 3 (leBytes 16 r.toNat)) s).mss = s.mss :=
    State.foldl_keeps (part := State.mss) (fun u r => State.log_mss ..) ..
  have htmp : (s.tmp.store.foldl (fun u r => u.log 0x0013 3 3 (leBytes 16 r.toNat)) s).tmp = s.tmp :=
    State.foldl_keeps (part := State.tmp) (fun u r => State.log_tmp ..) ..
  rw [storePostEvent, if_neg hgo]
  dsimp only
  generalize s.tmp.store.foldl (fun u r => u.log 0x0013 3 3 (leBytes 16 r.toNat)) s = u at hposts hgctl hmss htmp
  split
  · exact ⟨rfl, rfl, congrArg Tamper.level htmp, hposts⟩
  · have hopen' : (u.gctl.recalling || u.mss.st != .running) = false := by rwa [hgctl, hmss]
    exact ⟨rfl, rfl, congrArg Tamper.level ((State.log_tmp ..).trans htmp), by rw [State.log_posts hopen', hposts]⟩

end

/-! ## Polls and the enable pin -/

/-- Settles O49: what each port takes, discards or answers is read off its event; the idle MSS takes the port that the arbiter chose. -/
theorem portsAndTheEventLog : Obligations.PortsAndTheEventLog := by
  unfold Obligations.PortsAndTheEventLog
  intro s
  refine ⟨?message, ?control, ⟨_, rfl, rfl⟩, ⟨_, rfl, rfl⟩, ?frame, ?poll, ?enable, ?take, ?sample, ?write, ?store⟩
  case message =>
    intro m hup heid hm
    exact ⟨completes_smbusMessage hup heid hm, fun h => ⟨_, rfl, smbusEvent_discards hup heid hm h⟩⟩
  case control =>
    intro flags op eid rest hup hf hop h0 h1
    refine ⟨_, rfl, ?_⟩
    rw [controlEvent_assigns hup hf hop h0 h1]
    exact ⟨rfl, rfl⟩
  case frame =>
    intro f
    refine ⟨fun hoff => ⟨_, rfl, ?_⟩, fun hen hup => ⟨fun hok hfree => ⟨_, rfl, ?_⟩, fun hok => ⟨_, rfl, ?_⟩⟩⟩
    · simp [spiFrameEvent, hoff]
    · rw [spiFrameEvent_takes hen hup hok hfree]
      exact ⟨rfl, rfl, rfl, rfl⟩
    · exact spiFrameEvent_bad hen hup hok
  case poll =>
    intro hen hup
    refine ⟨fun herr => ⟨_, rfl, ?_⟩, fun f herr hout => ⟨_, rfl, ?_⟩⟩
    · simp [spiPollEvent, hen, hup, herr, State.emit]
    · simp [spiPollEvent, hen, hup, herr, hout, State.emit]
  case enable => exact fun level open_ => ⟨_, rfl, rfl, rfl, rfl⟩
  case take =>
    intro hup hfree
    refine ⟨fun m rest hport hm hj => ⟨_, rfl, ?_⟩, fun c rest hport hf hst => ⟨_, rfl, ?_⟩⟩
    · obtain ⟨a, ha⟩ := commandTake_message hup hfree hport hm hj
      rw [ha]
      exact ⟨rfl, messageCmd m, rfl, rfl, rfl⟩
    · rw [commandTake_forwarded hup hfree hport hf hst]
      exact ⟨rfl, rfl⟩
  case sample => exact fun rs hst h => ⟨_, rfl, sampleEvent_samples hst h⟩
  case write => exact fun e rest hnvm hst hposts hf => ⟨_, rfl, logWriteEvent_writes hnvm hst hposts hf⟩
  case store => exact fun hst hrec => ⟨_, rfl, storePostEvent_posts hst hrec⟩

end Sys2Proof.Machine
end

section
/-! PROOFS. Start-up, stage by stage (R99, R137, R213 to R219, R306, R311 to R313, R348, R368, R391, R400, R401). -/

namespace Sys2Proof.Machine

set_option Elab.async false

section
variable {s : State}

/-! ## Stages -/

theorem State.stage_eq (n : Nat) (s : State) : ∃ l, s.stage n = { s with pwr := { s.pwr with stages := l } } ∧ n ∈ l := by
  unfold State.stage
  split
  · next h => exact ⟨s.pwr.stages, rfl, by simpa using h⟩
  · exact ⟨_, rfl, by simp⟩

theorem State.done_stage (n : Nat) (s : State) : (s.stage n).done n = true := by
  obtain ⟨l, hl, hn⟩ := State.stage_eq n s
  rw [hl]
  simpa [State.done] using hn

/-! ## Recall -/

theorem State.recallStage_queues (n : Nat) (s : State) : (s.recallStage n).queues = s.queues := by
  have h : s.touches [.ks, .arb, .kp, .pwr, .memories] (s.recallStage n) := by simp
  exact h .queues (by decide)

theorem recallStageEvent_ends {n : Nat} (h1 : 1 ≤ n) (h4 : n ≤ 4) (hn : s.kp.stage = n) :
    recallStageEvent s = { (s.recallStage n) with kp := { (s.recallStage n).kp with stage := n + 1 } } := by
  have hgo : ¬(s.kp.stage = 0 ∨ 5 ≤ s.kp.stage) := by omega
  rw [recallStageEvent]
  dsimp only
  rw [if_neg hgo, hn]

theorem State.mssWrite_stage (off : Nat) (bs : Bytes) (after : List After) (s : State) : (s.mssWrite off bs after).kp.stage = s.kp.stage := by
  unfold State.mssWrite
  dsimp only
  split
  · rfl
  · rw [State.sync_kp]

theorem State.wearWrite_stage (ring v : Nat) (s : State) : (s.wearWrite ring v).kp.stage = s.kp.stage := by
  unfold State.wearWrite
  dsimp only
  rw [State.mssWrite_stage]

theorem State.log_stage (code : BitVec 16) (plane severity : Byte) (detail : Bytes) (s : State) :
    (s.log code plane severity detail).kp.stage = s.kp.stage := by
  unfold State.log
  dsimp only
  split <;> rfl

theorem State.reportLost_stage (s : State) : s.reportLost.kp.stage = s.kp.stage := by
  unfold State.reportLost
  split
  · rfl
  · rw [State.log_stage]

theorem Keeper.startErase_stage (k : Keeper) : k.startErase.stage = k.stage := by
  unfold Keeper.startErase
  split
  · split <;> rfl
  · rfl

/-- What the end of the recall does once RECALL is cleared: it counts the power-on, reports lost posts and starts an erase due. -/
def State.recalled (s : State) : State :=
  { ((s.wearWrite 0 (s.kp.ringValue 0 + 1)).reportLost) with kp := ((s.wearWrite 0 (s.kp.ringValue 0 + 1)).reportLost).kp.startErase }

theorem State.recalled_keeps (s : State) : s.recalled.kp.stage = s.kp.stage ∧ s.recalled.gctl = s.gctl := by
  have hg : s.touches [.arb, .kp] (s.wearWrite 0 (s.kp.ringValue 0 + 1)).reportLost := by simp
  have hgctl := hg .gctl (by decide)
  have hstage := (State.reportLost_stage (s.wearWrite 0 (s.kp.ringValue 0 + 1))).trans (State.wearWrite_stage 0 (s.kp.ringValue 0 + 1) s)
  rw [State.recalled]
  generalize (s.wearWrite 0 (s.kp.ringValue 0 + 1)).reportLost = u at hgctl hstage
  exact ⟨(Keeper.startErase_stage u.kp).trans hstage, hgctl⟩

/-- The state with RECALL cleared and the log's append point found. -/
def State.recallCleared (s : State) : State :=
  { s with kp := { s.kp.walkArea .log with stage := 0 }, gctl := { s.gctl with recalling := false } }

theorem Keeper.ringTop_congr {k l : Keeper} (h0 : k.fe0 = l.fe0) (h1 : k.fe1 = l.fe1) (bank : Bool) (ring : Nat) :
    k.ringTop bank ring = l.ringTop bank ring := by
  have hfe : k.fe bank = l.fe bank := by cases bank <;> assumption
  simp only [Keeper.ringTop, Keeper.feRead, hfe]

theorem Keeper.walkArea_fe (a : FlashArea) (k : Keeper) : (k.walkArea a).fe0 = k.fe0 ∧ (k.walkArea a).fe1 = k.fe1 := by
  unfold Keeper.walkArea Keeper.setArea
  cases a <;> exact ⟨rfl, rfl⟩

theorem State.recallCleared_fe (s : State) : s.recallCleared.kp.fe0 = s.kp.fe0 ∧ s.recallCleared.kp.fe1 = s.kp.fe1 := by
  obtain ⟨h0, h1⟩ := Keeper.walkArea_fe .log s.kp
  rw [State.recallCleared]
  generalize s.kp.walkArea .log = k at h0 h1
  exact ⟨h0, h1⟩

theorem State.recallCleared_ringValue (s : State) : s.recallCleared.kp.ringValue 2 = s.kp.ringValue 2 := by
  obtain ⟨h0, h1⟩ := State.recallCleared_fe s
  rw [Keeper.ringValue, Keeper.ringTop_congr h0 h1, Keeper.ringTop_congr h0 h1, Keeper.ringValue]

/-- The time is not below the floor stored. -/
def State.floored (s : State) : State :=
  if s.gctl.time.toNat < s.kp.ringValue 2 then { s with gctl := { s.gctl with time := BitVec.ofNat 32 (s.kp.ringValue 2) } } else s

theorem recallEndEvent_eq (h5 : s.kp.stage = 5) : recallEndEvent s = s.recallCleared.floored.recalled := by
  rw [recallEndEvent, if_neg (not_not.mpr h5)]
  dsimp only
  rw [State.recallCleared, State.floored, State.recalled]

/-- The recall's end raises the time to the floor stored. -/
theorem recallEndEvent_ends (h5 : s.kp.stage = 5) (hlt : s.kp.ringValue 2 < 2 ^ 32) :
    (recallEndEvent s).kp.stage = 0 ∧ (recallEndEvent s).gctl.recalling = false ∧
      (recallEndEvent s).gctl.time.toNat = max s.gctl.time.toNat (s.kp.ringValue 2) := by
  have htime : s.recallCleared.gctl.time = s.gctl.time := rfl
  rw [recallEndEvent_eq h5, State.floored, State.recallCleared_ringValue, htime]
  split
  · next h =>
    rw [(State.recalled_keeps _).1, (State.recalled_keeps _).2]
    exact ⟨rfl, rfl, by rw [BitVec.toNat_ofNat, Nat.mod_eq_of_lt hlt, Nat.max_eq_right h.le]⟩
  · next h =>
    rw [(State.recalled_keeps _).1, (State.recalled_keeps _).2]
    exact ⟨rfl, rfl, (Nat.max_eq_left (Nat.not_lt.mp h)).symm⟩

/-! ## PLLs and the tests -/

theorem State.startTests_fired (s : State) : s.startTests.tmp.fired = s.tmp.fired ∧ s.startTests.pwr = s.pwr := by
  unfold State.startTests
  split <;> exact ⟨rfl, rfl⟩

theorem State.trainLink_eq (s : State) : ∃ g, s.trainLink = { s with gctl := g } := by
  unfold State.trainLink
  split
  · exact ⟨_, rfl⟩
  · exact ⟨s.gctl, rfl⟩

theorem State.pllsUp_ends (hact : s.pwr.st = .active) (hc : s.pwr.corePll = true) (hm : s.pwr.memPll = true) (h2 : s.done 2 = false) :
    s.pllsUp.pwr.corePll = true ∧ s.pllsUp.done 2 = true ∧ s.pllsUp.tmp.fired = s.tmp.fired := by
  obtain ⟨l, hl, hin⟩ := State.stage_eq 2 s
  obtain ⟨g, hg⟩ := State.trainLink_eq (s.stage 2)
  have hgo : (s.pwr.st == .active && s.pwr.corePll && s.pwr.memPll && !s.done 2) = true := by simp [hact, hc, hm, h2]
  have hin' : l.contains 2 = true := by simpa using hin
  rw [State.pllsUp, if_pos hgo]
  dsimp only
  rw [hg, hl]
  split
  · refine ⟨?_, ?_, (State.startTests_fired _).1⟩
    · rw [(State.startTests_fired _).2]
      exact hc
    · rw [State.done, (State.startTests_fired _).2]
      exact hin'
  · exact ⟨hc, hin', rfl⟩

theorem State.storeEvent_eq (src : BitVec 5) (resp : Nat) (detail : Byte) (backup : Bool) (s : State) :
    (s.storeEvent src resp detail backup).pwr = s.pwr ∧ (s.storeEvent src resp detail backup).tmp.fired = s.tmp.fired ∧
      (s.storeEvent src resp detail backup).tmp.level = s.tmp.level := by
  unfold State.storeEvent
  dsimp only
  split <;> exact ⟨rfl, rfl, rfl⟩

/-- An alarm whose response is not above the level in force is recorded only. -/
theorem State.alarm_recorded {src : BitVec 5} {detail : Byte} (h : s.responseOf src.toNat ≤ s.tmp.level.toNat) :
    (s.alarm src detail).pwr = s.pwr ∧ (s.alarm src detail).tmp.fired = setBit s.tmp.fired src.toNat true := by
  unfold State.alarm
  dsimp only
  split
  · rw [if_pos (by rw [(State.storeEvent_eq ..).2.2, State.log_tmp]; exact h)]
    exact ⟨(State.storeEvent_eq ..).1.trans (State.log_pwr ..), (State.storeEvent_eq ..).2.1.trans (congrArg Tamper.fired (State.log_tmp ..))⟩
  · rw [if_pos (by rw [State.log_tmp]; exact h)]
    exact ⟨State.log_pwr .., congrArg Tamper.fired (State.log_tmp ..)⟩

theorem alarmEvent_recorded {src : BitVec 5} {detail : Byte} (hoff : s.tmp.active.getLsbD src.toNat = false)
    (hw : s.unwatched src.toNat = false) (ht : s.tmp.testing = false) (h : s.responseOf src.toNat ≤ s.tmp.level.toNat) :
    (alarmEvent src detail s).pwr = s.pwr ∧ (alarmEvent src detail s).tmp.fired = setBit s.tmp.fired src.toNat true := by
  simp only [alarmEvent, hoff, hw, ht, Bool.or_self, Bool.false_and, Bool.false_eq_true, if_false]
  exact State.alarm_recorded (s := { s with tmp := { s.tmp with active := setBit s.tmp.active src.toNat true, testing := false } }) h

/-! ## The start-up tests of the spindles (R157, R233) -/

theorem State.isOut_serviceChange_out (code cause : Nat) {k : Nat} (hk : s.isOut k = true) :
    (s.serviceChange code cause false).isOut k = true := by
  rw [State.isOut] at hk
  rw [State.isOut, State.serviceChange_arb]
  simp [setBit, hk]

theorem State.katAtStart_svc {pass : Nat → Bool} {n : Nat} (hn : n < 40) (s : State) :
    ((s.katAtStart pass n).spindle n).svc = if pass n then .inService else .out := by
  unfold State.katAtStart
  dsimp only
  split
  · rw [State.spindle_setSpindle _ _ hn]
  · rw [State.spindle_serviceChange, State.spindle_setSpindle _ _ hn]

theorem State.katAtStart_ne {pass : Nat → Bool} {n m : Nat} (h : n ≠ m) (s : State) : (s.katAtStart pass n).spindle m = s.spindle m := by
  unfold State.katAtStart
  dsimp only
  split
  · exact State.spindle_setSpindle_ne h _
  · rw [State.spindle_serviceChange, State.spindle_setSpindle_ne h]

theorem State.katAtStart_isOut {pass : Nat → Bool} {n k : Nat} (h : s.isOut k = true) : (s.katAtStart pass n).isOut k = true := by
  unfold State.katAtStart
  dsimp only
  split
  · exact h
  · exact State.isOut_serviceChange_out (s := s.setSpindle n _) _ _ h

theorem State.katsAtStart_svc (pass : Nat → Bool) {n : Nat} (l : List Nat) (hn : n < 40) (s : State)
    (h : n ∈ l ∨ (s.spindle n).svc = if pass n then .inService else .out) :
    ((l.foldl (State.katAtStart pass) s).spindle n).svc = if pass n then .inService else .out := by
  induction l generalizing s with
  | nil => simpa using h
  | cons m l ih =>
    refine ih _ ?_
    by_cases hm : m = n
    · subst hm
      exact .inr (State.katAtStart_svc hn s)
    · rw [State.katAtStart_ne hm]
      simpa [Ne.symm hm] using h

theorem State.katsAtStart_isOut (pass : Nat → Bool) {k : Nat} (l : List Nat) (s : State) (h : s.isOut k = true) :
    (l.foldl (State.katAtStart pass) s).isOut k = true := by
  induction l generalizing s with
  | nil => exact h
  | cons m l ih => exact ih _ (State.katAtStart_isOut h)

/-- The spindles are tested at start-up. -/
def State.startTested (kats : BitVec 40) (s : State) : State :=
  (List.range 40).foldl (State.katAtStart fun n => kats.getLsbD n) s

theorem State.startTested_keeps (kats : BitVec 40) (s : State) : (s.startTested kats).ks = s.ks := by
  have h : s.touches [.gctl, .spn, .arb, .kp, .posted] (s.startTested kats) := by simp [State.startTested]
  exact h .ks (by decide)

/-- With its end stage 3 of start-up has ended. -/
def State.testsEnded (kats : BitVec 40) (s : State) : State :=
  ({ s with spn := { s.spn with katPass := kats == BitVec.allOnes 40, katRunning := false } } : State).stage 3

theorem State.testsEnded_eq (kats : BitVec 40) (s : State) :
    (s.testsEnded kats).done 3 = true ∧ (s.testsEnded kats).ks = s.ks ∧ (s.testsEnded kats).arb = s.arb ∧
      (s.testsEnded kats).spn = { s.spn with katPass := kats == BitVec.allOnes 40, katRunning := false } := by
  refine ⟨State.done_stage 3 _, ?_⟩
  obtain ⟨l, hl, -⟩ := State.stage_eq 3
    ({ s with spn := { s.spn with katPass := kats == BitVec.allOnes 40, katRunning := false } } : State)
  rw [State.testsEnded, hl]
  exact ⟨rfl, rfl, rfl⟩

theorem testsAtStart_eq {ok : Bool} {kats : BitVec 40} (hact : s.pwr.st = .active) (h2 : s.done 2 = true) (h3 : s.done 3 = false) :
    ∃ u : State, testsAtStart ok kats s = (u.startTested kats).testsEnded kats ∧ u.ks.entIn = ok ∧ u.ks.seeded = ok ∧
      (ok = false → u.isOut 0x52 = true) := by
  have hgo : ¬(s.pwr.st != .active || !s.done 2 || s.done 3) = true := by simp [hact, h2, h3]
  rw [testsAtStart, if_neg hgo]
  dsimp only
  cases ok with
  | true =>
    rw [if_pos rfl]
    exact ⟨_, rfl, rfl, rfl, fun h => by cases h⟩
  | false =>
    rw [if_neg Bool.false_ne_true]
    exact ⟨_, rfl, by rw [State.serviceChange_ks], by rw [State.serviceChange_ks], fun _ => State.isOut_serviceChange (by decide)⟩

theorem testsAtStart_ends {ok : Bool} {kats : BitVec 40} (hact : s.pwr.st = .active) (h2 : s.done 2 = true) (h3 : s.done 3 = false) :
    (testsAtStart ok kats s).done 3 = true ∧ (testsAtStart ok kats s).ks.entIn = ok ∧ (testsAtStart ok kats s).ks.seeded = ok ∧
      (testsAtStart ok kats s).spn.katPass = (kats == BitVec.allOnes 40) ∧ (ok = false → (testsAtStart ok kats s).isOut 0x52 = true) ∧
      ∀ n, n < 40 → ((testsAtStart ok kats s).spindle n).svc = if kats.getLsbD n then .inService else .out := by
  obtain ⟨u, hu, hent, hseed, hout⟩ := testsAtStart_eq (ok := ok) (kats := kats) hact h2 h3
  obtain ⟨hdone, hks, harb, hspn⟩ := State.testsEnded_eq kats (u.startTested kats)
  have hks' := hks.trans (State.startTested_keeps kats u)
  rw [hu]
  refine ⟨hdone, by rw [hks', hent], by rw [hks', hseed], by rw [hspn], fun h => ?_, fun n hn => ?_⟩
  · rw [State.isOut_congr (congrArg ArbUnit.out harb)]
    exact State.katsAtStart_isOut _ _ _ (hout h)
  · have hsp : ((u.startTested kats).testsEnded kats).spindle n = (u.startTested kats).spindle n := by
      rw [State.spindle, hspn]
      rfl
    rw [hsp]
    exact State.katsAtStart_svc _ _ hn _ (.inl (by simpa using hn))

/-! ## The root, the DRAM and the control plane (R213 to R217, R362) -/

theorem State.deriveMemoryKeys_slots (s : State) :
    s.deriveMemoryKeys.slot 0 = s.slot 0 ∧ s.deriveMemoryKeys.ks.root = s.ks.root ∧ s.deriveMemoryKeys.ks.mnonce.isSome = true ∧
      ∃ k, s.deriveMemoryKeys.slot 1 = some k ∧ k.st = .valid := by
  unfold State.deriveMemoryKeys
  dsimp only
  split
  · next h => exact ⟨State.slot_putSlot_ne (by decide) _ _, rfl, h, _, State.slot_putSlot .., rfl⟩
  · exact ⟨State.slot_putSlot_ne (by decide) _ _, rfl, rfl, _, State.slot_putSlot .., rfl⟩

theorem rootEvent_derives {b : BitVec 256} (hdue : s.due 7 [3, 6] = true) (hent : s.entropyOk = true) (hb : s.share = some b)
    (hn : s.life.count.toNat < 5) :
    (rootEvent s).done 7 = true ∧ (rootEvent s).ks.root.toNat = rootOfLife s.life.count.toNat % 8 ∧
      (rootEvent s).ks.mnonce.isSome = true ∧
      (∃ k, (rootEvent s).slot 0 = some k ∧ k.st = .valid ∧
        k.value = wide (rootFrom s.ks.fuse b (BitVec.ofNat 8 (rootOfLife s.life.count.toNat)))) ∧
      ∃ k, (rootEvent s).slot 1 = some k ∧ k.st = .valid := by
  have hshare : s.firstShare = s := if_neg fun h => by simp [hb] at h
  obtain ⟨u, hu, hroot, hslot⟩ : ∃ u, s.deriveRoot = u ∧ u.ks.root.toNat = rootOfLife s.life.count.toNat % 8 ∧
      ∃ k, u.slot 0 = some k ∧ k.st = .valid ∧
        k.value = wide (rootFrom s.ks.fuse b (BitVec.ofNat 8 (rootOfLife s.life.count.toNat))) := by
    refine ⟨_, rfl, ?_⟩
    unfold State.deriveRoot
    dsimp only
    rw [if_pos hn, hb]
    exact ⟨by simp, _, State.slot_putSlot .., rfl, State.newSlot_value ..⟩
  obtain ⟨h0, hr, hm, h1⟩ := State.deriveMemoryKeys_slots u
  obtain ⟨l, hl, -⟩ := State.stage_eq 7 u.deriveMemoryKeys
  have hevent : rootEvent s = u.deriveMemoryKeys.stage 7 := by
    rw [rootEvent, if_pos (by rw [hdue, hent]; rfl), hshare, hu]
  rw [hevent]
  refine ⟨State.done_stage 7 _, ?_, ?_, ?_, ?_⟩ <;> rw [hl]
  · exact (congrArg BitVec.toNat hr).trans hroot
  · exact hm
  · obtain ⟨k, hk, hv⟩ := hslot
    exact ⟨k, h0.trans hk, hv⟩
  · exact h1

/-- A log message changes the keeper die only. -/
theorem State.log_eq (code : BitVec 16) (plane severity : Byte) (detail : Bytes) (s : State) :
    ∃ k, s.log code plane severity detail = { s with kp := k } := by
  unfold State.log
  dsimp only
  split <;> exact ⟨_, rfl⟩

theorem State.loadSets_mss (b : Bool) (s : State) :
    (s.loadSets b).mss = { s.mss with setA := s.loaded b, setB := s.loaded b } := by
  have hlog (u : State) (set : Byte) : (u.logBoot 1 set b none).mss = u.mss := by
    have h : u.touches [.kp] (u.logBoot 1 set b none) := by simp
    exact h .mss (by decide)
  rw [State.loadSets]
  generalize s.loaded b = r
  rw [hlog, hlog]
  rfl

theorem State.loaded_ok {b : Bool} (hok : s.imageCheck 1 b = none) : s.loaded b = some (s.imageRelease 1 b) := by
  unfold State.loaded
  generalize s.imageRelease 1 b = r
  split
  · rfl
  · next h => cases hok.symm.trans h

theorem bootEvent_loads (hdue : s.due 9 [6] = true) (hst : s.mss.st = .running) (hok : s.imageCheck 1 s.mss.boot.cpB = none) :
    (bootEvent s).done 9 = true ∧ (bootEvent s).mss.setA = some (s.imageRelease 1 s.mss.boot.cpB) ∧
      (bootEvent s).mss.setB = some (s.imageRelease 1 s.mss.boot.cpB) ∧ (bootEvent s).mss.boot = s.mss.boot := by
  have hgo : ¬(!s.due 9 [6] || s.mss.st != .running) = true := by simp [hdue, hst]
  have hloaded := State.loaded_ok hok
  have hevent : bootEvent s = (s.loadSets s.mss.boot.cpB).stage 9 := by
    rw [bootEvent, if_neg hgo]
    dsimp only
    rw [hok]
  have hmss := State.loadSets_mss s.mss.boot.cpB s
  obtain ⟨l, hl, -⟩ := State.stage_eq 9 (s.loadSets s.mss.boot.cpB)
  rw [hevent]
  refine ⟨State.done_stage 9 _, ?_⟩
  rw [hl]
  dsimp only
  rw [hmss, hloaded]
  exact ⟨rfl, rfl, rfl⟩

/-! ## The archive and the ledger's recovery (R99, R137) -/

theorem archiveEvent_loads {root : BitVec 256} (hdue : s.due 10 [8] = true) (hup : s.keeperUp = true) (hroot : s.rootKey = some root) :
    (archiveEvent s).done 10 = true ∧ (archiveEvent s).ks.archiveLoaded = true ∧ (archiveEvent s).ru.reg.fpkSlot = 5 := by
  obtain ⟨v, hv, hks, hru⟩ : ∃ v, s.loadArchive = v ∧ v.ks.archiveLoaded = true ∧ v.ru.reg.fpkSlot = 5 := by
    refine ⟨_, rfl, ?_⟩
    rw [State.loadArchive, hroot]
    exact ⟨rfl, rfl⟩
  obtain ⟨l, hl, -⟩ := State.stage_eq 10 v.seatSaves
  rw [archiveEvent, if_pos (by rw [hdue, hup]; rfl), hv]
  refine ⟨State.done_stage 10 _, ?_⟩
  rw [hl]
  exact ⟨hks, hru⟩

theorem State.logCandidates_eq (cs : List CommitRec) (s : State) : ∃ k, s.logCandidates cs = { s with kp := k } := by
  unfold State.logCandidates
  split
  · split
    · exact ⟨s.kp, rfl⟩
    · exact State.log_eq ..
  · exact ⟨s.kp, rfl⟩

/-- What follows the recovery group: the curves and the cluster's records are loaded again. -/
theorem recoveryEvent_eq {u : State} (hdue : s.due 11 [9, 10] = true) (hup : s.keeperUp = true) (hu : s.recoverLedger = u) :
    (recoveryEvent s).done 11 = true ∧ (recoveryEvent s).led = { u.led with recovered := !u.ru.rb.needed } ∧ (recoveryEvent s).ru = u.ru := by
  have hframe : u.touches [.spn, .ks, .kp, .skn] u.reloadCurves.loadCluster := by simp
  have hled : u.reloadCurves.loadCluster.led = u.led := hframe .led (by decide)
  have hru : u.reloadCurves.loadCluster.ru = u.ru := hframe .ru (by decide)
  rw [recoveryEvent, if_pos (by rw [hdue, hup]; rfl), hu]
  generalize u.reloadCurves.loadCluster = v at hled hru
  obtain ⟨l, hl, -⟩ := State.stage_eq 11 { v with led := { v.led with recovered := !v.ru.rb.needed } }
  refine ⟨State.done_stage 11 _, ?_⟩
  dsimp only
  rw [hl]
  exact ⟨by rw [← hled, ← hru], hru⟩

theorem State.recoverLedger_blank (hc : s.kp.candidates = []) (hlost : s.rootsLost = false) (hfree : s.deviceFrozen = false) :
    s.recoverLedger = s := by
  have hlog : s.logCandidates [] = s := rfl
  simp only [State.recoverLedger, hc, hlog, hlost, hfree, Bool.false_eq_true, if_false]

theorem State.recoverLedger_rebuild {r : CommitRec} (hc : s.kp.candidates.find? (·.tot.sound) = some r) (hlost : s.rootsLost = false)
    (hkey : s.journalKey.isSome = true) :
    s.recoverLedger.led.durable = r ∧ s.recoverLedger.ru.rb.needed = true ∧ s.recoverLedger.ru.jrn.seq = r.jseq := by
  rw [State.recoverLedger]
  dsimp only
  obtain ⟨k, hk⟩ := State.logCandidates_eq s.kp.candidates s
  rw [hk]
  cases hcs : s.kp.candidates with
  | nil => rw [hcs] at hc; cases hc
  | cons first rest =>
    rw [hcs] at hc
    have hlost' : (State.adopt r { s with kp := k }).rootsLost = false := hlost
    have hkey' : (State.adopt r { s with kp := k }).journalKey.isSome = true := hkey
    dsimp only
    rw [hc]
    dsimp only
    rw [hlost', hkey']
    exact ⟨rfl, rfl, rfl⟩

/-! ## The MSS boots and reports (R348, R368) -/

theorem State.sync_waiting (n : Nat) (s : State) : (s.sync n).arb.waiting = s.arb.waiting := by
  unfold State.sync
  split
  · rfl
  · dsimp only
    split <;> rfl

theorem State.mssWrite_waiting (off : Nat) (bs : Bytes) (after : List After) (s : State) :
    (s.mssWrite off bs after).arb.waiting = s.arb.waiting := by
  unfold State.mssWrite
  dsimp only
  split
  · rfl
  · rw [State.sync_waiting]

theorem State.flashNow_waiting (req : FlashReq) (s : State) : (s.flashNow req).arb.waiting = s.arb.waiting := by
  unfold State.flashNow State.noteErases State.wearWrite
  split
  · rfl
  · dsimp only
    rw [State.mssWrite_waiting]

/-- A setting whose schema the image does not share is deleted, and that is logged (R370). -/
def State.dropSetting (s : State) (p : Nat × Bytes) : State :=
  (if s.nvmStatus.isNone then s.flashNow (configReq p.1 []) else s).log 0x0043 2 1 (leBytes 4 p.1 ++ slice p.2 0 2)

theorem State.dropSetting_keeps (s : State) (p : Nat × Bytes) :
    (s.dropSetting p).mss = s.mss ∧ (s.dropSetting p).arb.waiting = s.arb.waiting := by
  rw [State.dropSetting, State.log_mss, State.log_arb]
  split
  · exact ⟨State.flashNow_mss .., State.flashNow_waiting ..⟩
  · exact ⟨rfl, rfl⟩

theorem State.startMss_starts (b : Bool) (s : State) :
    (∃ a, (s.startMss b).mss = { s.mss with st := .running, mss := some (s.imageRelease 2 b), smbAddr := a }) ∧
      (s.startMss b).arb.waiting = s.arb.waiting := by
  obtain ⟨v, l, hv, hm, ha⟩ : ∃ (v : State) (l : List (Nat × Bytes)), s.startMss b = (l.foldl State.dropSetting v).applySettings ∧
      v.mss = { s.mss with st := .running, mss := some (s.imageRelease 2 b) } ∧ v.arb = s.arb := ⟨_, _, rfl, rfl, rfl⟩
  have hmss : (l.foldl State.dropSetting v).mss = v.mss := State.foldl_keeps (part := State.mss) (fun u p => (u.dropSetting_keeps p).1) l v
  have hwait : (l.foldl State.dropSetting v).arb.waiting = v.arb.waiting :=
    State.foldl_keeps (part := fun u => u.arb.waiting) (fun u p => (u.dropSetting_keeps p).2) l v
  rw [hv]
  generalize l.foldl State.dropSetting v = w at hmss hwait
  refine ⟨⟨BitVec.setWidth 7 ((w.settingBytes keySmbus [0x62, 2]).headD 0), ?_⟩, ?_⟩
  · rw [State.applySettings, hmss, hm]
  · rw [← ha, ← hwait]
    rfl

theorem State.resumeService_idle (h : s.arb.waiting = []) : s.resumeService = s := by
  rw [State.resumeService, h, List.foldl_nil, ← h]

/-- The release and the checks of an image rest on the flash, the map of its sectors and the fuses. -/
theorem State.image_logBoot (kind set : Byte) (b b' : Bool) (f : Option Nat) (n : Nat) (s : State) :
    (s.logBoot kind set b f).imageRelease n b' = s.imageRelease n b' ∧ (s.logBoot kind set b f).imageCheck n b' = s.imageCheck n b' := by
  unfold State.logBoot State.log
  dsimp only
  split <;> exact ⟨rfl, rfl⟩

/-- What an image that boots does, with nothing to resume. -/
theorem State.booted (b : Bool) (h : s.arb.waiting = []) :
    ((((s.startMss b).stage 5).startTests).reportLost.resumeService).mss = (s.startMss b).mss ∧
      5 ∈ ((((s.startMss b).stage 5).startTests).reportLost.resumeService).pwr.stages := by
  have hwait := (State.startMss_starts b s).2
  obtain ⟨l, hl, hin⟩ := State.stage_eq 5 (s.startMss b)
  rw [hl]
  generalize s.startMss b = u at hwait
  have hframe (v : State) : v.touches [.tmp, .kp] v.startTests.reportLost := by simp
  have hidle := hframe { u with pwr := { u.pwr with stages := l } }
  generalize State.reportLost (State.startTests { u with pwr := { u.pwr with stages := l } }) = w at hidle
  have hmss : w.mss = u.mss := hidle .mss (by decide)
  have hpwr : w.pwr = { u.pwr with stages := l } := hidle .pwr (by decide)
  have harb : w.arb = u.arb := hidle .arb (by decide)
  have hw : w.arb.waiting = [] := by rw [harb, hwait, h]
  rw [State.resumeService_idle hw, hmss, hpwr]
  exact ⟨rfl, hin⟩

/-- The ROM has read the boot record and reports the bank it tries first. -/
def State.romReads (r : BootRec) (f : Option Nat) (s : State) : State :=
  ({ s with mss := { s.mss with boot := r } } : State).logBoot 2 2 r.mssB f

theorem State.romReads_eq (r : BootRec) (f : Option Nat) (s : State) : ∃ k, s.romReads r f = { s with mss := { s.mss with boot := r }, kp := k } := by
  unfold State.romReads State.logBoot
  exact State.log_eq _ _ _ _ _

theorem State.romReads_image (r : BootRec) (f : Option Nat) (n : Nat) (b : Bool) (s : State) :
    (s.romReads r f).imageRelease n b = s.imageRelease n b ∧ (s.romReads r f).imageCheck n b = s.imageCheck n b := by
  obtain ⟨hr, hc⟩ := State.image_logBoot 2 2 r.mssB b f n ({ s with mss := { s.mss with boot := r } } : State)
  exact ⟨hr, hc⟩

theorem mssBootEvent_boots {r : BootRec} (hst : s.mss.st = .booting) (hrec : s.gctl.recalling = false) (hpow : s.kp.powered = true)
    (hr : r = bootOf (s.kp.records.find bootKey)) (hok : s.imageCheck 2 r.mssB = none) :
    mssBootEvent s = (((((s.romReads r none).startMss r.mssB).stage 5).startTests).reportLost).resumeService := by
  have hgo : ¬(s.mss.st ≠ .booting ∨ (s.gctl.recalling ∧ s.kp.stage < 5) ∨ !s.kp.powered) := by simp [hst, hrec, hpow]
  have hfirst : ({ s with mss := { s.mss with boot := r } } : State).imageCheck 2 r.mssB = none := hok
  rw [mssBootEvent, if_neg hgo]
  dsimp only
  rw [← hr, hfirst]
  rfl

theorem mssBootEvent_runs {r : BootRec} (hst : s.mss.st = .booting) (hrec : s.gctl.recalling = false) (hpow : s.kp.powered = true)
    (hr : r = bootOf (s.kp.records.find bootKey)) (hok : s.imageCheck 2 r.mssB = none) (hidle : s.arb.waiting = []) :
    (mssBootEvent s).mss.st = .running ∧ (mssBootEvent s).mss.mss = some (s.imageRelease 2 r.mssB) ∧ (mssBootEvent s).mss.boot = r ∧
      5 ∈ (mssBootEvent s).pwr.stages := by
  obtain ⟨k, hk⟩ := State.romReads_eq r none s
  have himage := (State.romReads_image r none 2 r.mssB s).1
  have hwait : (s.romReads r none).arb.waiting = [] := by rw [hk]; exact hidle
  have hboot : (s.romReads r none).mss.boot = r := by rw [hk]
  obtain ⟨hmss, hstage⟩ := State.booted r.mssB hwait
  obtain ⟨a, ha⟩ := (State.startMss_starts r.mssB (s.romReads r none)).1
  rw [mssBootEvent_boots hst hrec hpow hr hok]
  refine ⟨?_, ?_, ?_, hstage⟩ <;> rw [hmss, ha]
  · rw [himage]
  · exact hboot

theorem mssBootEvent_stays {r : BootRec} (hst : s.mss.st = .booting) (hrec : s.gctl.recalling = false) (hpow : s.kp.powered = true)
    (hr : r = bootOf (s.kp.records.find bootKey)) (hbad : (s.imageCheck 2 r.mssB).isSome = true)
    (hbad' : (s.imageCheck 2 (!r.mssB)).isSome = true) (hup : s.mss.update = false) :
    (mssBootEvent s).mss.st = .romOnly ∧ (mssBootEvent s).pwr.stages = s.pwr.stages := by
  have hgo : ¬(s.mss.st ≠ .booting ∨ (s.gctl.recalling ∧ s.kp.stage < 5) ∨ !s.kp.powered) := by simp [hst, hrec, hpow]
  obtain ⟨f, hf⟩ := Option.isSome_iff_exists.mp hbad
  obtain ⟨g, hg⟩ := Option.isSome_iff_exists.mp hbad'
  have hfirst : ({ s with mss := { s.mss with boot := r } } : State).imageCheck 2 r.mssB = some f := hf
  have hup' (u : State) (hu : u.mss.update = s.mss.update) : ¬(u.mss.update = true) := by rw [hu, hup]; decide
  obtain ⟨k, hk⟩ := State.romReads_eq r (some f) s
  have hsecond := (State.romReads_image r (some f) 2 (!r.mssB) s).2.trans hg
  have hold : (s.romReads r (some f)).mss.update = s.mss.update ∧ (s.romReads r (some f)).pwr = s.pwr := by
    rw [hk]
    exact ⟨rfl, rfl⟩
  obtain ⟨v, hv⟩ : ∃ v, ({ s with mss := { s.mss with boot := r } } : State).logBoot 2 2 r.mssB (some f) = v := ⟨_, rfl⟩
  have hrom : s.romReads r (some f) = v := hv
  rw [hrom] at hsecond hold
  have hsecond' : ({ v with mss := { v.mss with rebootCheck := f } } : State).imageCheck 2 (!r.mssB) = some g := hsecond
  have hevent : mssBootEvent s = { (({ v with mss := { v.mss with rebootCheck := f } } : State).logBoot 2 2 (!r.mssB) (some g)) with
      mss := { (({ v with mss := { v.mss with rebootCheck := f } } : State).logBoot 2 2 (!r.mssB) (some g)).mss with st := .romOnly } } := by
    rw [mssBootEvent, if_neg hgo]
    dsimp only at hv hfirst ⊢
    rw [← hr, hfirst, hv]
    dsimp only at hsecond' ⊢
    rw [if_neg (hup' v hold.1), hsecond']
  have hframe : v.touches [.mss, .kp] (({ v with mss := { v.mss with rebootCheck := f } } : State).logBoot 2 2 (!r.mssB) (some g)) := by simp
  rw [hevent]
  exact ⟨rfl, congrArg PowerUnit.stages ((hframe .pwr (by decide)).trans hold.2)⟩

end

/-! ## Replies and the handover (R366 to R368) -/

section
variable {s : State}

/-- A reply, whichever way it goes, changes of the MSS what runs and the frame of the service port. -/
theorem State.postReply_update (h : Held) (s : State) :
    (s.postReply h).mss.update = s.mss.update ∧ (s.postReply h).mss.reboot = s.mss.reboot := by
  cases hv : h.via with
  | host =>
    obtain ⟨r, hr⟩ := State.postReply_mss_host h s hv
    rw [hr]
    exact ⟨rfl, rfl⟩
  | smbus =>
    rw [State.postReply, hv]
    dsimp only
    split <;> exact ⟨rfl, rfl⟩
  | spi =>
    rw [State.postReply, hv]
    dsimp only
    split <;> exact ⟨rfl, rfl⟩

theorem rebootDoneEvent_reports (hup : s.mss.update = true) (hst : s.mss.st = .running) :
    (rebootDoneEvent s).mss.update = false ∧ (rebootDoneEvent s).mss.reboot = none ∧
      ∀ h f, s.mss.reboot = some h → h.via = .host → (s.queue h.q).inflight.find? (·.id == h.id) = some f → h.tag = f.pkt.tag →
        (rebootDoneEvent s).answers h.q f (if s.mss.rebootCheck = 0 then 0 else stImageRejected) (inlAt 0 s.mss.rebootCheck) := by
  have hgo : ¬(!s.mss.update || !(s.mss.st == .running || s.mss.st == .romOnly)) = true := by simp [hup, hst]
  rw [rebootDoneEvent, if_neg hgo]
  dsimp only
  cases hr : s.mss.reboot with
  | none => exact ⟨rfl, rfl, fun _ _ h => nomatch h⟩
  | some h =>
    dsimp only
    rw [(State.postReply_update ..).1, (State.postReply_update ..).2]
    refine ⟨rfl, rfl, fun h' f hh hv hf ht => ?_⟩
    obtain rfl := Option.some.inj hh
    exact State.postReply_answers _ _ f hv hf ht

theorem setIdleEvent_loads {k : Handover} (hk : s.mss.ho = some k) (hback : k.back = false) (hp : k.paused = false) (h3 : k.step = 3)
    (hidle : s.setIdle true = true) (hok : s.imageCheck 1 (s.mss.boot.spare 1) = none) :
    (setIdleEvent s).mss.ho = some { k with step := 4 } ∧ (setIdleEvent s).gctl.sliceOwner = s.gctl.sliceOwner := by
  obtain ⟨u, hu⟩ : ∃ u, s.countIdle false = { s with spn := u } := by
    unfold State.countIdle
    split
    · exact ⟨_, rfl⟩
    · exact ⟨s.spn, rfl⟩
  have hok' : ({ s with spn := u } : State).imageCheck 1 (s.mss.boot.spare 1) = none := hok
  simp only [setIdleEvent, hk, hback, hp, h3, beq_self_eq_true, hidle, hu, hok', Bool.true_or, Bool.not_true, Bool.or_self,
    Bool.false_eq_true, if_false]
  exact ⟨by simp only [State.toStep, hback, hp], rfl⟩

theorem setLoadedEvent_moves {k : Handover} (hk : s.mss.ho = some k) (hback : k.back = false) (hp : k.paused = false) (h4 : k.step = 4) :
    setLoadedEvent s = ((s.setImage true (s.loaded !s.mss.boot.cpB)).assign (allSlices true)).toStep k 6 := by
  simp only [setLoadedEvent, hk, hback, hp, h4, Bool.false_eq_true, if_false]
  rfl

end

/-- Settles O48: each stage of start-up, read off its event; what earlier parts of an event leave, their frames say. -/
theorem startUpRunsStageByStage : Obligations.StartUpRunsStageByStage := by
  unfold Obligations.StartUpRunsStageByStage
  intro s
  refine ⟨?stages, ?recalled, ?boot, ?pll, ?unlocked, ?tests, ?testsFailed, ?root, ?dram, ?control, ?archive, ?ledger, ?ready, ?report, ?handover⟩
  case stages =>
    intro n h1 h4 hn
    refine ⟨_, rfl, ?_⟩
    rw [recallStageEvent_ends h1 h4 hn]
    exact ⟨rfl, State.recallStage_queues n s⟩
  case recalled => exact fun h5 hlt => ⟨_, rfl, recallEndEvent_ends h5 hlt⟩
  case boot =>
    intro r hst hrec hpow hr
    exact ⟨fun hok hidle => ⟨_, rfl, mssBootEvent_runs hst hrec hpow hr hok hidle⟩,
      fun hbad hbad' hup => ⟨_, rfl, mssBootEvent_stays hst hrec hpow hr hbad hbad' hup⟩⟩
  case pll =>
    intro hheld hact hmem h2
    refine ⟨_, rfl, ?_⟩
    rw [pllCheck, if_neg (by rw [hheld]; decide), if_pos rfl]
    exact State.pllsUp_ends (s := { s with pwr := s.pwr.usePll .core }) hact rfl hmem h2
  case unlocked =>
    intro hheld hoff hw ht h
    refine ⟨_, rfl, ?_⟩
    obtain ⟨hp, hf⟩ := alarmEvent_recorded (src := 8) (detail := 0) hoff hw ht h
    rw [pllCheck, if_neg (by rw [hheld]; decide), if_neg (by decide)]
    exact ⟨hp, (congrArg (·.getLsbD 8) hf).trans (getLsbD_setBit _ _ _ (by decide))⟩
  case tests =>
    intro hact h2 h3
    obtain ⟨hdone, hent, hseed, hpass, -, hsvc⟩ := testsAtStart_ends (ok := true) (kats := BitVec.allOnes 40) hact h2 h3
    exact ⟨_, rfl, hdone, hent, hseed, hpass.trans (by decide), fun n hn => (hsvc n hn).trans (by rw [BitVec.getLsbD_allOnes, decide_eq_true hn]; rfl)⟩
  case testsFailed =>
    intro hact h2 h3
    obtain ⟨hdone, hent, -, -, hout, hsvc⟩ := testsAtStart_ends (ok := false) (kats := 0) hact h2 h3
    exact ⟨_, rfl, hdone, hent, hout rfl, fun n hn => (hsvc n hn).trans (by simp)⟩
  case root => exact fun b hdue hent hb hn => ⟨_, rfl, rootEvent_derives hdue hent hb hn⟩
  case dram =>
    intro hdue
    refine ⟨⟨_, rfl, ?_⟩, ⟨_, rfl, ?_⟩, fun htr => ⟨_, rfl, ?_⟩⟩
    · rw [trainingEnd, hdue]
      rfl
    · rw [trainingEnd, hdue]
      exact ⟨State.log_mem .., State.log_pwr ..⟩
    · rw [initEnd, if_pos (by rw [hdue, htr]; rfl)]
      obtain ⟨l, hl, -⟩ := State.stage_eq 8 { s with mem := { s.mem with inited := true, selfRefresh := false } }
      refine ⟨State.done_stage 8 _, ?_⟩
      rw [hl]
      exact ⟨rfl, rfl⟩
  case control => exact fun hdue hst hok => ⟨_, rfl, bootEvent_loads hdue hst hok⟩
  case archive => exact fun root hdue hup hroot => ⟨_, rfl, archiveEvent_loads hdue hup hroot⟩
  case ledger =>
    refine fun hdue hup => ⟨fun hc hlost hfree => ⟨_, rfl, ?_⟩, fun r hr hlost hkey => ⟨_, rfl, ?_⟩⟩
    · obtain ⟨hdone, hled, hru⟩ := recoveryEvent_eq hdue hup (State.recoverLedger_blank hc hlost hfree)
      exact ⟨hdone, congrArg Ledger.recovered hled, congrArg (fun u => u.rb.needed) hru⟩
    · obtain ⟨hdur, hneed, hseq⟩ := State.recoverLedger_rebuild hr hlost hkey
      obtain ⟨hdone, hled, hru⟩ := recoveryEvent_eq hdue hup rfl
      exact ⟨hdone, (congrArg Ledger.recovered hled).trans (by rw [hneed]; rfl), (congrArg (fun u => u.rb.needed) hru).trans hneed,
        (congrArg Ledger.durable hled).trans hdur, (congrArg (fun u => u.jrn.seq) hru).trans hseq⟩
  case ready =>
    intro hdue hready
    refine ⟨_, rfl, ?_⟩
    obtain ⟨l, hl, hin⟩ := State.stage_eq 12 { s with gctl := { s.gctl with ready := true } }
    rw [readyEvent, if_pos (by rw [hdue, hready]; rfl)]
    dsimp only at hl ⊢
    rw [hl, State.log_gctl, State.log_queues, State.log_led, State.done, State.log_pwr]
    exact ⟨rfl, by simpa using hin, rfl, rfl⟩
  case report => exact fun hup hst => ⟨_, rfl, rebootDoneEvent_reports hup hst⟩
  case handover =>
    refine fun k hk hback hp => ⟨fun h3 hidle hok => ⟨_, rfl, setIdleEvent_loads hk hback hp h3 hidle hok⟩, fun h4 hidle => ⟨_, rfl, ?_⟩⟩
    rw [setLoadedEvent_moves hk hback hp h4]
    generalize s.loaded (!s.mss.boot.cpB) = r
    have hwait : (State.toStep k 6 (State.assign (allSlices true) (State.setImage true r s))).arb.waiting = [] := hidle
    rw [State.resumeService_idle hwait]
    exact ⟨rfl, rfl, rfl⟩

end Sys2Proof.Machine
end

section
/-! PROOFS. Seal contexts open, close and move (R180, R184, R189, R196 to R198). -/

namespace Sys2Proof.Machine

set_option Elab.async false

section
variable {s : State} {x : Ctx} {n : Nat}

/-! ## The contexts and their cache -/

theorem State.sealCtx_setCtx (n : Nat) (k : SealCtx) (s : State) : (s.setCtx n k).sealCtx n = some k := Tab.find_put ..

theorem State.sealCtx_setCtx_ne {m : Nat} (h : m ≠ n) (k : SealCtx) (s : State) : (s.setCtx n k).sealCtx m = s.sealCtx m :=
  Tab.find_put_ne _ _ h

theorem State.sealCtx_closeCtx (h : Tab.sorted s.sl.ctxs = true) (n : Nat) : (s.closeCtx n).sealCtx n = none := Tab.find_del h n

theorem State.sealCtx_closeCtx_ne (h : Tab.sorted s.sl.ctxs = true) {m : Nat} (hm : m ≠ n) : (s.closeCtx n).sealCtx m = s.sealCtx m :=
  Tab.find_del_ne h hm

/-- Bringing a context into the cache moves the cache's lists only. -/
theorem State.cacheLine_eq (n : Nat) (s : State) :
    ∃ a b d, s.cacheLine n = { s with sl := { s.sl with cache := a, evicted := b, fills := d } } := by
  unfold State.cacheLine
  dsimp only
  split
  · exact ⟨_, s.sl.evicted, s.sl.fills, rfl⟩
  · split
    · exact ⟨s.sl.cache, s.sl.evicted, _, rfl⟩
    · exact ⟨_, _, s.sl.fills, rfl⟩

theorem State.cacheUse_eq (n : Nat) (s : State) :
    ∃ a b d m, s.cacheUse n = { s with sl := { s.sl with cache := a, evicted := b, fills := d, miss := m } } := by
  unfold State.cacheUse
  split
  · exact ⟨_, s.sl.evicted, s.sl.fills, s.sl.miss, rfl⟩
  · split
    · next hfill =>
      obtain ⟨a, b, d, h⟩ := State.cacheLine_eq n { s with sl := { s.sl with fills := s.sl.fills.filter (· != n) } }
      rw [State.fillDone, if_pos hfill, h]
      exact ⟨a, b, d, s.sl.miss, rfl⟩
    · obtain ⟨a, b, d, h⟩ := State.cacheLine_eq n { s with sl := { s.sl with miss := satAdd s.sl.miss 1 } }
      exact ⟨a, b, d, _, h⟩

theorem State.cacheUse_keeps (n : Nat) (s : State) :
    (s.cacheUse n).sl.ctxs = s.sl.ctxs ∧ (s.cacheUse n).sl.sd = s.sl.sd ∧ (s.cacheUse n).ks = s.ks ∧ (s.cacheUse n).kp = s.kp ∧
      ∀ q, (s.cacheUse n).queue q = s.queue q := by
  obtain ⟨a, b, d, m, h⟩ := State.cacheUse_eq n s
  rw [h]
  exact ⟨rfl, rfl, rfl, rfl, fun _ => rfl⟩

/-- A context without a run needs no settling. -/
theorem State.settleCtx_idle (h : s.runOf n = none) : s.settleCtx n = s := by
  rw [State.settleCtx, h]
  rfl

/-! ## `CTX_OPEN` -/

/-- What a `CTX_OPEN` carries, by the context's use: the slot's permission and the bytes it reads. -/
inductive OpenArgsOk (x : Ctx) (s : State) : Byte → Nat → Bytes → Prop
  | seals : OpenArgsOk x s 1 useSeal []
  | opens {bs : Bytes} (hdata : ∀ k, withData x s k = k bs) (hlen : x.c.pkt.byteAt 33 = 0 → leAt bs 2 2 ≤ 16383) : OpenArgsOk x s 2 useOpen bs
  | ticket (h : s.pinned < 256) : OpenArgsOk x s 3 useTicket []

/-- A new context takes its place. -/
def State.placed (n : Nat) (k : SealCtx) (s : State) : State := ((s.setCtx n k).cacheLine n).admitted 1

theorem State.placed_keeps (n : Nat) (k : SealCtx) (s : State) :
    (s.placed n k).sealCtx n = some k ∧ (∀ m, m ≠ n → (s.placed n k).sealCtx m = s.sealCtx m) ∧ (s.placed n k).ks = s.ks ∧
      ∀ q, (s.placed n k).queue q = s.queue q := by
  obtain ⟨a, b, d, h⟩ := State.cacheLine_eq n (s.setCtx n k)
  rw [State.placed, h]
  exact ⟨State.sealCtx_setCtx n k s, fun m hm => State.sealCtx_setCtx_ne hm k s, rfl, fun _ => rfl⟩

theorem ctxOpenBody_opens {u : Byte} {bit : Nat} {bs : Bytes} {k : Slot} (hn : n = hIndex x.c.pkt.handleA) (hu : u = x.c.pkt.byteAt 32)
    (hfree : s.sealCtx n = none) (hrest : s.sl.restoring.find n = none) (hargs : OpenArgsOk x s u bit bs)
    (hk : s.slotServes (hIndex x.c.pkt.handleB) bit k) :
    ctxOpenBody x s =
      { s := (if u = 1 then s.drawn 1 else s).placed n (openedCtx s x k.key128 (hIndex x.c.pkt.handleB) bs).1
        cyc := if u = 3 then 240 else 257, result := (openedCtx s x k.key128 (hIndex x.c.pkt.handleB) bs).2 } := by
  subst hn
  have hslot := State.useSlot_ok hk
  cases hargs with
  | seals => simp [ctxOpenBody, State.placed, ← hu, hfree, hrest, hslot]
  | opens hdata hlen =>
    by_cases h : x.c.pkt.byteAt 33 = 0
    · simp [ctxOpenBody, State.placed, ← hu, hfree, hrest, hslot, hdata, h, hlen h]
    · simp [ctxOpenBody, State.placed, ← hu, hfree, hrest, hslot, hdata, show ¬(x.c.pkt.byteAt 33 = 0#8) from h]
  | ticket h => simp [ctxOpenBody, State.placed, ← hu, hfree, hrest, hslot, h]

theorem openedCtx_congr {s t : State} (hd : t.draw = s.draw) (hl : t.life = s.life) (x : Ctx) (key : BitVec 128) (slot : Nat) (bs : Bytes) :
    openedCtx t x key slot bs = openedCtx s x key slot bs := by
  simp only [openedCtx, hd, hl]

theorem openedCtx_record (s : State) (x : Ctx) (key : BitVec 128) (slot : Nat) (bs : Bytes) : (openedCtx s x key slot bs).2 ≠ [] := by
  unfold openedCtx
  dsimp only
  split
  · simp [sessionRecord]
  · split <;> simp [sessionRecord]

end

/-- The result of a body that answers at once is written. -/
theorem finish_writes {op : BitVec 16} {sub : Option Byte} {c : Cmd} {s : State} {f : Fetched} (h : Runs op sub c s f) (o : Out)
    (hw : o.when_ = .now) (hq : o.s.queue c.q = (s.begun op sub c f).queue c.q) (hr : o.result ≠ []) (hl : 0 < c.pkt.outLen.toNat) :
    (o.finish (s.ctxRun op sub c f)).wrote c o.result :=
  State.wrote_of (by simpa using finish_wrote h o hw hq hr (by simpa using hl))

theorem completes_ctxOpen {c : Cmd} {s : State} {f : Fetched} {n : Nat} {x : Ctx} {u : Byte} {bs : Bytes} {bit : Nat} {k : Slot}
    (hn : n = hIndex c.pkt.handleA) (hx : x = s.ctxRun 0x0401 none c f) (hu : u = c.pkt.byteAt 32) (h : Runs 0x0401 none c s f)
    (hfree : s.sealCtx n = none) (hrest : s.sl.restoring.find n = none) (hout : 0 < c.pkt.outLen.toNat)
    (hargs : OpenArgsOk x (s.begun 0x0401 none c f) u bit bs) (hk : s.slotServes (hIndex c.pkt.handleB) bit k) :
    Completes (.ctxOpen c) s fun t =>
      t.sealCtx n = some (openedCtx s x k.key128 (hIndex c.pkt.handleB) bs).1 ∧ t.answers c.q f 0 0 ∧
      t.wrote c (openedCtx s x k.key128 (hIndex c.pkt.handleB) bs).2 ∧
      t.ks.draws = s.ks.draws + (if u = 1 then 1 else 0) ∧ (∀ m, m ≠ n → t.sealCtx m = s.sealCtx m) := by
  subst hx
  have hks := State.begun_ks 0x0401 none c f s
  have hsl := State.begun_sl 0x0401 none c f s
  have hctx (m : Nat) : (s.begun 0x0401 none c f).sealCtx m = s.sealCtx m := by rw [State.sealCtx, hsl, State.sealCtx]
  have hbody := ctxOpenBody_opens (x := s.ctxRun 0x0401 none c f) (s := s.begun 0x0401 none c f) (n := n) (by simpa using hn) (by simpa using hu)
    ((hctx n).trans hfree) (by rw [hsl]; exact hrest) hargs (k := k)
    (by rw [State.ctxRun_c, rowPacket_handleB]; exact (State.useSlot_congr hks _ _).trans hk)
  have hopened : openedCtx (s.begun 0x0401 none c f) (s.ctxRun 0x0401 none c f) k.key128 (hIndex (s.ctxRun 0x0401 none c f).c.pkt.handleB) bs =
      openedCtx s (s.ctxRun 0x0401 none c f) k.key128 (hIndex c.pkt.handleB) bs := by
    rw [openedCtx_congr (s := s) (by rw [State.draw, hks, State.draw]) (State.begun_life ..)]
    simp
  rw [hopened] at hbody
  obtain ⟨v, hv, hvctx, hvks, hvq⟩ : ∃ v : State, (if u = 1 then (s.begun 0x0401 none c f).drawn 1 else s.begun 0x0401 none c f) = v ∧
      (∀ m, v.sealCtx m = s.sealCtx m) ∧ v.ks.draws = s.ks.draws + (if u = 1 then 1 else 0) ∧
      ∀ q, v.queue q = (s.begun 0x0401 none c f).queue q := by
    refine ⟨_, rfl, ?_⟩
    split
    · exact ⟨hctx, congrArg (fun k : KeyUnit => k.draws + 1) hks, fun _ => rfl⟩
    · exact ⟨hctx, congrArg KeyUnit.draws hks, fun _ => rfl⟩
  rw [hv] at hbody
  obtain ⟨hplaced, hother, hpks, hpq⟩ := State.placed_keeps n (openedCtx s (s.ctxRun 0x0401 none c f) k.key128 (hIndex c.pkt.handleB) bs).1 v
  have hq := (hpq c.q).trans (hvq c.q)
  refine completes_now h rfl hbody rfl hq fun ha => ⟨?_, ha, ?_, ?_, fun m hm => ?_⟩
  · rw [State.sealCtx, Out.finish_sl]
    exact hplaced
  · exact finish_writes h { s := _, cyc := _, result := _ } rfl hq (openedCtx_record _ _ _ _ _) hout
  · rw [Out.finish_ks, hpks, hvks]
  · rw [State.sealCtx, Out.finish_sl]
    exact (hother m hm).trans (hvctx m)

/-! ## `CTX_CLOSE` and `CTX_SAVE` -/

section
variable {x : Ctx} {s : State} {n : Nat} {k : SealCtx}

theorem ctxCloseBody_closes (hn : n = hIndex x.c.pkt.handleA) (hrun : s.runOf n = none) (hk : s.sealCtx n = some k) :
    ctxCloseBody x s = { s := s.closeCtx n, cyc := 88 } := by
  subst hn
  simp only [ctxCloseBody, State.settleCtx_idle hrun, hk, Option.isNone_some, Bool.false_eq_true, if_false]

theorem ctxSaveBody_clear (hn : n = hIndex x.c.pkt.handleA) (hrun : s.runOf n = none) (hk : s.sealCtx n = some k)
    (hform : x.c.pkt.byteAt 32 = 1) (hu : k.usage ≠ usTicket) :
    ctxSaveBody x s = { s := s.cacheUse n, cyc := 112, result := saveHead s 1 96 n k 0 ++ saveClear k } := by
  subst hn
  simp only [ctxSaveBody, State.settleCtx_idle hrun, hk, hform, if_true, ctxSaveClear, hu, if_false]

/-- The state that a wrapped save leaves. -/
def State.savedOut (n : Nat) (k : SealCtx) (no : BitVec 64) (s : State) : State :=
  if k.usage = usSeal then
    ({ ((s.drawn 1).cacheUse n).admitted 13 with
      sl := { (((s.drawn 1).cacheUse n).admitted 13).sl with sd := (((s.drawn 1).cacheUse n).admitted 13).sl.sd.put k.dom.toNat no } }
      : State).closeCtx n
  else ((s.drawn 1).cacheUse n).admitted 13

theorem ctxSaveBody_wrapped {wk : BitVec 128} {no : BitVec 64} {iv : BitVec 96} {head ct : Bytes} (hn : n = hIndex x.c.pkt.handleA)
    (hrun : s.runOf n = none) (hk : s.sealCtx n = some k) (hform : x.c.pkt.byteAt 32 ≠ 1) (hst : k.st ≠ ctBroken)
    (hkey : s.saveKey k.dom = some wk) (hno : no = (if k.usage = usSeal then s.saves k.dom + 1 else 0)) (hiv : iv = s.draw.setWidth 96)
    (hhead : head = saveHead s 2 208 n k no ++ beBytes 12 iv.toNat ++ zeros 4) (hct : ct = gcmStream wk iv (blockBytes k.key ++ k.tailBytes)) :
    ctxSaveBody x s = { s := s.savedOut n k no, cyc := 194, result := head ++ ct ++ gcmTag wk iv head ct } := by
  subst hn hct hhead hiv hno
  simp only [ctxSaveBody, State.settleCtx_idle hrun, hk, hform, if_false, ctxSaveWrapped, hst, hkey, State.savedOut]

theorem State.savedOut_keeps (no : BitVec 64) (hk : s.sealCtx n = some k) (hs : Tab.sorted s.sl.ctxs = true) :
    (s.savedOut n k no).sealCtx n = (if k.usage = usSeal then none else some k) ∧
      (k.usage = usSeal → (s.savedOut n k no).saves k.dom = no) ∧
      (∀ d, k.usage ≠ usSeal ∨ d ≠ k.dom → (s.savedOut n k no).saves d = s.saves d) ∧
      (∀ m, m ≠ n → (s.savedOut n k no).sealCtx m = s.sealCtx m) ∧ (s.savedOut n k no).ks = (s.drawn 1).ks ∧
      ∀ q, (s.savedOut n k no).queue q = s.queue q := by
  obtain ⟨a, b, d, m, hcache⟩ := State.cacheUse_eq n (s.drawn 1)
  rw [State.savedOut, hcache]
  by_cases hu : k.usage = usSeal
  · rw [if_pos hu, if_pos hu]
    refine ⟨Tab.find_del hs n, fun _ => ?_, fun d' hd => ?_, fun m hm => Tab.find_del_ne hs hm, rfl, fun _ => rfl⟩
    · exact Tab.get_put _ _ _ _
    · have hd' : d'.toNat ≠ k.dom.toNat := fun h => (hd.resolve_left (not_not.mpr hu)) (BitVec.eq_of_toNat_eq h)
      exact Tab.get_put_ne _ _ _ hd'
  · rw [if_neg hu, if_neg hu]
    exact ⟨hk, fun h => absurd h hu, fun _ _ => rfl, fun _ _ => rfl, rfl, fun _ => rfl⟩

end

section
variable {c : Cmd} {s : State} {f : Fetched} {n : Nat} {k : SealCtx}

theorem State.begun_sealCtx (op : BitVec 16) (sub : Option Byte) (c : Cmd) (f : Fetched) (s : State) (m : Nat) :
    (s.begun op sub c f).sealCtx m = s.sealCtx m := by
  rw [State.sealCtx, State.begun_sl, State.sealCtx]

theorem State.begun_runOf (op : BitVec 16) (sub : Option Byte) (c : Cmd) (f : Fetched) (s : State) (m : Nat) :
    (s.begun op sub c f).runOf m = s.runOf m := by
  rw [State.runOf, State.begun_sl, State.runOf]

theorem completes_ctxClose (hn : n = hIndex c.pkt.handleA) (h : Runs 0x0407 none c s f) (hk : s.sealCtx n = some k) (hrun : s.runOf n = none)
    (hs : Tab.sorted s.sl.ctxs = true) :
    Completes (.ctxClose c) s fun t =>
      t.sealCtx n = none ∧ t.answers c.q f 0 0 ∧ (∀ m, m ≠ n → t.sealCtx m = s.sealCtx m) := by
  have hbody := ctxCloseBody_closes (x := s.ctxRun 0x0407 none c f) (s := s.begun 0x0407 none c f) (n := n) (by simpa using hn)
    ((State.begun_runOf ..).trans hrun) ((State.begun_sealCtx ..).trans hk)
  have hs' : Tab.sorted (s.begun 0x0407 none c f).sl.ctxs = true := by rw [State.begun_sl]; exact hs
  refine completes_now h rfl hbody rfl rfl fun ha => ⟨?_, ha, fun m hm => ?_⟩ <;> rw [State.sealCtx, Out.finish_sl]
  · exact State.sealCtx_closeCtx hs' n
  · exact (State.sealCtx_closeCtx_ne hs' hm).trans (State.begun_sealCtx 0x0407 none c f s m)

theorem saveHead_congr {t : State} (hl : t.life = s.life) (hg : t.gctl = s.gctl) (form : Byte) (len n : Nat) (k : SealCtx) (no : BitVec 64) :
    saveHead t form len n k no = saveHead s form len n k no := by
  simp only [saveHead, hl, hg]

theorem completes_ctxSaveClear (hn : n = hIndex c.pkt.handleA) (h : Runs 0x0405 none c s f) (hrun : s.runOf n = none)
    (hk : s.sealCtx n = some k) (hform : c.pkt.byteAt 32 = 1) (hu : k.usage ≠ usTicket) (hout : 0 < c.pkt.outLen.toNat) :
    Completes (.ctxSave c) s fun t =>
      t.sl.ctxs = s.sl.ctxs ∧ t.sl.sd = s.sl.sd ∧ t.ks = s.ks ∧ t.answers c.q f 0 0 ∧ t.wrote c (saveHead s 1 96 n k 0 ++ saveClear k) := by
  have hbody := ctxSaveBody_clear (x := s.ctxRun 0x0405 none c f) (s := s.begun 0x0405 none c f) (n := n) (by simpa using hn)
    ((State.begun_runOf ..).trans hrun) ((State.begun_sealCtx ..).trans hk) (by simpa using hform) hu
  rw [saveHead_congr (State.begun_life ..) (State.begun_gctl ..)] at hbody
  obtain ⟨hctxs, hsd, hks, -, hqueue⟩ := State.cacheUse_keeps n (s.begun 0x0405 none c f)
  refine completes_now h rfl hbody rfl (hqueue c.q) fun ha => ⟨?_, ?_, ?_, ha, ?_⟩
  · rw [Out.finish_sl, hctxs, State.begun_sl]
  · rw [Out.finish_sl, hsd, State.begun_sl]
  · rw [Out.finish_ks, hks, State.begun_ks]
  · exact finish_writes h { s := _, cyc := _, result := _ } rfl (hqueue c.q) (by simp [saveHead]) hout

theorem State.saveKey_congr {t : State} (h : t.ks = s.ks) (d : Dom) : t.saveKey d = s.saveKey d := by
  simp only [State.saveKey, State.dmk, State.gen, h]

theorem completes_ctxSaveWrapped {wk : BitVec 128} {no : BitVec 64} {iv : BitVec 96} {head ct : Bytes} (hn : n = hIndex c.pkt.handleA)
    (h : Runs 0x0405 none c s f) (hrun : s.runOf n = none) (hk : s.sealCtx n = some k) (hform : c.pkt.byteAt 32 ≠ 1) (hst : k.st ≠ ctBroken)
    (hkey : s.saveKey k.dom = some wk) (hout : 0 < c.pkt.outLen.toNat) (hs : Tab.sorted s.sl.ctxs = true)
    (hno : no = (if k.usage = usSeal then s.saves k.dom + 1 else 0)) (hiv : iv = s.draw.setWidth 96)
    (hhead : head = saveHead s 2 208 n k no ++ beBytes 12 iv.toNat ++ zeros 4) (hct : ct = gcmStream wk iv (blockBytes k.key ++ k.tailBytes)) :
    Completes (.ctxSave c) s fun t =>
      t.sealCtx n = (if k.usage = usSeal then none else some k) ∧ t.answers c.q f 0 0 ∧ t.ks.draws = s.ks.draws + 1 ∧
      (k.usage = usSeal → t.saves k.dom = no) ∧ (∀ d, k.usage ≠ usSeal ∨ d ≠ k.dom → t.saves d = s.saves d) ∧
      (∀ m, m ≠ n → t.sealCtx m = s.sealCtx m) ∧ t.ks.slots = s.ks.slots ∧ t.ks.gens = s.ks.gens ∧
      t.wrote c (head ++ ct ++ gcmTag wk iv head ct) := by
  have hks := State.begun_ks 0x0405 none c f s
  have hsl := State.begun_sl 0x0405 none c f s
  have hsaves (d : Dom) : (s.begun 0x0405 none c f).saves d = s.saves d := by rw [State.saves, hsl, State.saves]
  have hctx := (State.begun_sealCtx 0x0405 none c f s n).trans hk
  have hbody := ctxSaveBody_wrapped (x := s.ctxRun 0x0405 none c f) (s := s.begun 0x0405 none c f) (no := no) (iv := iv) (head := head) (ct := ct) (by simpa using hn)
    ((State.begun_runOf ..).trans hrun) hctx (by simpa using hform) hst ((State.saveKey_congr hks _).trans hkey)
    (by rw [hsaves]; exact hno) (by rw [State.draw, hks]; exact hiv)
    (by rw [saveHead_congr (State.begun_life ..) (State.begun_gctl ..)]; exact hhead) hct
  obtain ⟨hplace, hsaved, hother, hctxs, hkeys, hqueue⟩ := State.savedOut_keeps (s := s.begun 0x0405 none c f) no hctx (by rw [hsl]; exact hs)
  have hkeys' : ((s.begun 0x0405 none c f).savedOut n k no).ks = (s.drawn 1).ks := by
    rw [hkeys, State.drawn, hks]
    rfl
  refine completes_now h rfl hbody rfl (hqueue c.q) fun ha => ⟨?_, ha, ?_, fun hu => ?_, fun d hd => ?_, fun m hm => ?_, ?_, ?_, ?_⟩
  · rw [State.sealCtx, Out.finish_sl]
    exact hplace
  · rw [Out.finish_ks, hkeys']
    rfl
  · rw [State.saves, Out.finish_sl]
    exact hsaved hu
  · rw [State.saves, Out.finish_sl]
    exact (hother d hd).trans (hsaves d)
  · rw [State.sealCtx, Out.finish_sl]
    exact (hctxs m hm).trans (State.begun_sealCtx ..)
  · rw [Out.finish_ks, hkeys', State.drawn]
  · rw [Out.finish_ks, hkeys', State.drawn]
  · exact finish_writes h { s := _, cyc := _, result := _ } rfl (hqueue c.q) (by simp [hhead, saveHead]) hout

end

/-! ## `CTX_RESTORE` -/

section
variable {x : Ctx} {s : State} {n : Nat} {k : SealCtx} {bs : Bytes}

theorem ctxRestoreBody_clear {inv : BitVec 64} (hn : n = hIndex x.c.pkt.handleA) (hrun : s.runOf n = none) (hk : s.sealCtx n = some k)
    (hdata : ∀ g, withData x s g = g bs) (hform : leAt bs 0 1 = 1) (hlen : bs.length = 96) (hver : leAt bs 1 1 = 1) (hl : leAt bs 2 2 = 96)
    (hserial : leAt bs 4 8 = s.life.serial.toNat) (hctx : leAt bs 12 4 = n) (huse : leAt bs 17 1 = k.usage.toNat) (hu : k.usage ≠ usTicket)
    (hst : k.st = ctIdle) (hidle : leAt bs 74 1 = 1) (hinv : inv = BitVec.ofNat 64 (leAt bs 36 8)) (hle : k.inv.toNat ≤ inv.toNat) :
    ctxRestoreBody x s = { s := (s.cacheUse n).setCtx n (if k.usage = usSeal ∨ k.ordered then { k with inv } else k), cyc := 94 } := by
  subst hn hinv
  have hagrees : ¬(4 ≤ bs.length ∧ leAt bs 2 2 ≠ bs.length) := fun h => h.2 (by rw [hl, hlen])
  have hlive : k.st ≠ ctBroken := by rw [hst]; decide
  simp only [ctxRestoreBody, hdata, State.settleCtx_idle hrun]
  rw [if_neg hagrees, if_pos hform, ctxRestoreClear, hk]
  dsimp only
  rw [if_neg hlive, if_pos ⟨hver, hl, hserial, hctx, huse, hu, hst, hidle, hle⟩]

/-- The checks of a wrapped record. -/
structure WrappedOk (x : Ctx) (s : State) (n : Nat) (bs : Bytes) (wk : BitVec 128) (iv : BitVec 96) (k : SealCtx) : Prop where
  ctx : n = hIndex x.c.pkt.handleA
  free : s.sealCtx n = none
  rest : s.sl.restoring.find n = none
  run : s.runOf n = none
  data : ∀ g, withData x s g = g bs
  form : leAt bs 0 1 = 2
  version : leAt bs 1 1 = 1
  len : leAt bs 2 2 = 208
  length : bs.length = 208
  dom : (slice bs 16 1).headD 0 = x.dom
  key : s.saveKey ((slice bs 16 1).headD 0) = some wk
  vector : iv = BitVec.ofNat 96 (beNat (slice bs 32 12))
  tag : gcmTag wk iv (slice bs 0 48) (slice bs 48 144) = slice bs 192 16
  made : k = Machine.ctxOf (blockOf (slice (gcmStream wk iv (slice bs 48 144)) 0 16)) (slice (gcmStream wk iv (slice bs 48 144)) 16 128)
  usage : k.usage = (slice bs 17 1).headD 0

variable {wk : BitVec 128} {iv : BitVec 96}

theorem ctxRestoreBody_wrapped (h : WrappedOk x s n bs wk iv k) : ctxRestoreBody x s = ctxRestoreWrapped x n bs s := by
  have hagrees : ¬(4 ≤ bs.length ∧ leAt bs 2 2 ≠ bs.length) := fun h' => h'.2 (by rw [h.len, h.length])
  have hform : leAt bs 0 1 ≠ 1 := by rw [h.form]; decide
  simp only [ctxRestoreBody, h.data, ← h.ctx, State.settleCtx_idle h.run]
  rw [if_neg hagrees, if_neg hform, if_pos h.form]

theorem WrappedOk.opens (h : WrappedOk x s n bs wk iv k) : ¬(s.sealCtx n).any (·.st == ctBroken) = true ∧
    ¬((s.sealCtx n).isSome = true ∨ (s.sl.restoring.find n).isSome = true ∨ leAt bs 1 1 ≠ 1 ∨ leAt bs 2 2 ≠ 208 ∨ bs.length < 208) := by
  simp [h.free, h.rest, h.version, h.len, h.length]

theorem ctxRestoreBody_kept (h : WrappedOk x s n bs wk iv k) (hu : k.usage ≠ usSeal) (hp : k.usage = usTicket → s.pinned < 256) :
    ctxRestoreBody x s = { s := ((s.admitted 13).setCtx n k).cacheLine n, cyc := 236 } := by
  have huse : ¬((slice bs 17 1).headD 0 = usSeal ∧ (leAt bs 4 8 ≠ s.life.serial.toNat ∨ (BitVec.ofNat 64 (leAt bs 20 8)).toNat ≤
      max (s.gen ((slice bs 16 1).headD 0).toNat).floor.toNat (s.genLast ((slice bs 16 1).headD 0).toNat).floor.toNat)) := by
    rw [← h.usage]
    exact fun h' => hu h'.1
  have hpin : ¬((slice bs 17 1).headD 0 = usTicket ∧ 256 ≤ s.pinned) := by
    rw [← h.usage]
    exact fun h' => absurd (hp h'.1) (Nat.not_lt.mpr h'.2)
  rw [ctxRestoreBody_wrapped h, ctxRestoreWrapped]
  dsimp only
  rw [if_neg h.opens.1, if_neg h.opens.2, if_neg huse, if_neg hpin, if_neg (not_not.mpr h.dom), h.key]
  dsimp only
  rw [← h.vector, if_neg (not_not.mpr h.tag), ← h.made, if_neg hu]

theorem ctxRestoreBody_floor (h : WrappedOk x s n bs wk iv k) (hu : k.usage = usSeal) (hserial : leAt bs 4 8 = s.life.serial.toNat)
    (hfloor : max (s.gen ((slice bs 16 1).headD 0).toNat).floor.toNat (s.genLast ((slice bs 16 1).headD 0).toNat).floor.toNat <
      (BitVec.ofNat 64 (leAt bs 20 8)).toNat) :
    ctxRestoreBody x s =
      { s := (State.genWrite
          { entry := ((slice bs 16 1).headD 0).toNat
            val := { s.genLast ((slice bs 16 1).headD 0).toNat with floor := BitVec.ofNat 64 (leAt bs 20 8) }
            check := none, what := .restore n, after := [.reply (x.held 0 2156 0 [])] }
          { s.admitted 13 with sl := { (s.admitted 13).sl with restoring := s.sl.restoring.put n k } }),
        cyc := 2156, when_ := .later } := by
  have huse : ¬((slice bs 17 1).headD 0 = usSeal ∧ (leAt bs 4 8 ≠ s.life.serial.toNat ∨ (BitVec.ofNat 64 (leAt bs 20 8)).toNat ≤
      max (s.gen ((slice bs 16 1).headD 0).toNat).floor.toNat (s.genLast ((slice bs 16 1).headD 0).toNat).floor.toNat)) :=
    fun h' => h'.2.elim (fun h'' => h'' hserial) (Nat.not_le.mpr hfloor)
  have hpin : ¬((slice bs 17 1).headD 0 = usTicket ∧ 256 ≤ s.pinned) := by
    rw [← h.usage, hu]
    exact fun h' => absurd h'.1 (by decide)
  rw [ctxRestoreBody_wrapped h, ctxRestoreWrapped]
  dsimp only
  rw [if_neg h.opens.1, if_neg h.opens.2, if_neg huse, if_neg hpin, if_neg (not_not.mpr h.dom), h.key]
  dsimp only
  rw [← h.vector, if_neg (not_not.mpr h.tag), ← h.made, if_pos hu]
  rfl

end

section
variable {c : Cmd} {s : State} {f : Fetched} {n : Nat} {k : SealCtx}

theorem completes_ctxRestoreClear {inv : BitVec 64} (hn : n = hIndex c.pkt.handleA) (hrun : s.runOf n = none) (h : Runs 0x0406 none c s f)
    (hm : c.memErr = none) (hform : leAt c.bytes 0 1 = 1) (hk : s.sealCtx n = some k) (hlen : c.bytes.length = 96)
    (hver : leAt c.bytes 1 1 = 1) (hl : leAt c.bytes 2 2 = 96) (hserial : leAt c.bytes 4 8 = s.life.serial.toNat)
    (hctx : leAt c.bytes 12 4 = n) (huse : leAt c.bytes 17 1 = k.usage.toNat) (hu : k.usage ≠ usTicket) (hst : k.st = ctIdle)
    (hidle : leAt c.bytes 74 1 = 1) (hinv : inv = BitVec.ofNat 64 (leAt c.bytes 36 8)) (hle : k.inv.toNat ≤ inv.toNat) :
    Completes (.ctxRestore c) s fun t =>
      t.sealCtx n = some (if k.usage = usSeal ∨ k.ordered then { k with inv } else k) ∧ t.answers c.q f 0 0 ∧
      (∀ m, m ≠ n → t.sealCtx m = s.sealCtx m) ∧ t.kp.queue = s.kp.queue := by
  have hbody := ctxRestoreBody_clear (x := s.ctxRun 0x0406 none c f) (s := s.begun 0x0406 none c f) (by simpa using hn)
    ((State.begun_runOf ..).trans hrun) ((State.begun_sealCtx ..).trans hk) (withData_ok hm _) hform hlen hver hl
    (by rw [State.begun_life]; exact hserial) hctx huse hu hst hidle hinv hle
  obtain ⟨hctxs, -, -, hkp, hqueue⟩ := State.cacheUse_keeps n (s.begun 0x0406 none c f)
  have hother (m : Nat) : ((s.begun 0x0406 none c f).cacheUse n).sealCtx m = s.sealCtx m := by
    rw [State.sealCtx, hctxs, State.begun_sl, State.sealCtx]
  refine completes_now h rfl hbody rfl (hqueue c.q) fun ha => ⟨?_, ha, fun m hm => ?_, ?_⟩
  · rw [State.sealCtx, Out.finish_sl]
    exact State.sealCtx_setCtx ..
  · rw [State.sealCtx, Out.finish_sl]
    exact (State.sealCtx_setCtx_ne hm _ _).trans (hother m)
  · rw [Out.finish_kp, State.setCtx_kp, hkp, State.begun_kp]

variable {wk : BitVec 128} {iv : BitVec 96}

theorem State.begun_genLast (op : BitVec 16) (sub : Option Byte) (c : Cmd) (f : Fetched) (s : State) (e : Nat) :
    (s.begun op sub c f).genLast e = s.genLast e := by
  simp only [State.genLast, State.genPending, State.begun_gen, State.begun_kp]

theorem completes_ctxRestoreKept (h : Runs 0x0406 none c s f) (hok : WrappedOk (s.ctxRun 0x0406 none c f) (s.begun 0x0406 none c f) n c.bytes wk iv k)
    (hu : k.usage ≠ usSeal) (hp : k.usage = usTicket → s.pinned < 256) :
    Completes (.ctxRestore c) s fun t =>
      t.sealCtx n = some k ∧ t.answers c.q f 0 0 ∧ (∀ m, m ≠ n → t.sealCtx m = s.sealCtx m) ∧ t.kp.queue = s.kp.queue := by
  have hpin : (s.begun 0x0406 none c f).pinned = s.pinned := by rw [State.pinned, State.begun_sl, State.pinned]
  have hbody := ctxRestoreBody_kept hok hu (by rw [hpin]; exact hp)
  obtain ⟨a, b, d, hcache⟩ := State.cacheLine_eq n (((s.begun 0x0406 none c f).admitted 13).setCtx n k)
  rw [hcache] at hbody
  refine completes_now h rfl hbody rfl rfl fun ha => ⟨?_, ha, fun m hm => ?_, ?_⟩
  · rw [State.sealCtx, Out.finish_sl]
    exact State.sealCtx_setCtx n k ((s.begun 0x0406 none c f).admitted 13)
  · rw [State.sealCtx, Out.finish_sl]
    exact (State.sealCtx_setCtx_ne hm k ((s.begun 0x0406 none c f).admitted 13)).trans (State.begun_sealCtx 0x0406 none c f s m)
  · rw [Out.finish_kp]
    exact congrArg Keeper.queue (State.begun_kp 0x0406 none c f s)

theorem completes_ctxRestoreFloor {dom : Dom} (h : Runs 0x0406 none c s f)
    (hok : WrappedOk (s.ctxRun 0x0406 none c f) (s.begun 0x0406 none c f) n c.bytes wk iv k) (hdom : dom = (slice c.bytes 16 1).headD 0)
    (hu : k.usage = usSeal) (hserial : leAt c.bytes 4 8 = s.life.serial.toNat)
    (hfloor : max (s.gen dom.toNat).floor.toNat (s.genLast dom.toNat).floor.toNat < (BitVec.ofNat 64 (leAt c.bytes 20 8)).toNat) :
    Completes (.ctxRestore c) s fun t =>
      t.sl.restoring.find n = some k ∧ t.sl.ctxs = s.sl.ctxs ∧
      ∃ g h, t.kp.queue = s.kp.queue ++ [.gen g] ∧ g.entry = dom.toNat ∧ g.what = .restore n ∧ g.after = [.reply h] ∧
        h.q = c.q ∧ h.id = f.id ∧ h.status = 0 ∧ g.val = { s.genLast dom.toNat with floor := BitVec.ofNat 64 (leAt c.bytes 20 8) } := by
  subst hdom
  have hbody := ctxRestoreBody_floor hok hu (by rw [State.begun_life]; exact hserial)
    (by rw [State.begun_gen, State.begun_genLast]; exact hfloor)
  rw [State.begun_genLast] at hbody
  have hsl (g : GenWrite) (u : State) : (u.genWrite g).sl = u.sl := by
    have hframe : u.touches [.arb, .kp] (u.genWrite g) := by simp
    exact hframe .sl (by decide)
  refine completes_later h rfl hbody rfl ⟨?_, ?_, _, (s.ctxRun 0x0406 none c f).held 0 2156 0 [],
    (State.genWrite_queue _ _).trans (congrArg (fun p : Keeper => p.queue ++ _) (State.begun_kp 0x0406 none c f s)),
    rfl, rfl, rfl, rfl, rfl, rfl, rfl⟩
  · rw [hsl]
    exact Tab.find_put ..
  · have hctxs : (s.begun 0x0406 none c f).sl.ctxs = s.sl.ctxs := congrArg SealUnit.ctxs (State.begun_sl 0x0406 none c f s)
    rw [hsl]
    exact hctxs

end

/-- Settles O18: each command by what its body does with the context, its place in the cache and, in the wrapped form, its save number. -/
theorem sealContextsOpenCloseAndMove : Obligations.SealContextsOpenCloseAndMove := by
  unfold Obligations.SealContextsOpenCloseAndMove
  refine ⟨fun c s f n x hn hx => ⟨?opens, ?closes⟩, fun c s f n hn hrun => ⟨?saveClear, ?saveWrapped, ?restoreClear, ?restoreWrapped⟩⟩
  case opens =>
    intro u bs bit k hu h hfree hrest hout hcase hk
    refine completes_ctxOpen hn hx hu h hfree hrest hout ?_ hk
    rcases hcase with ⟨rfl, rfl, rfl⟩ | ⟨rfl, rfl, rfl, hm, hlen⟩ | ⟨rfl, rfl, rfl, hp⟩
    · exact .seals
    · subst hx
      exact .opens (withData_ok hm _) (by simpa using hlen)
    · refine .ticket ?_
      rw [State.pinned, State.begun_sl]
      exact hp
  case closes => exact fun k h hk hrun hs => completes_ctxClose hn h hk hrun hs
  case saveClear => exact fun k h hk hform hu hout => completes_ctxSaveClear hn h hrun hk hform hu hout
  case saveWrapped =>
    exact fun k wk no iv head ct h hk hform hst hkey hout hs hno hiv hhead hct =>
      completes_ctxSaveWrapped hn h hrun hk hform hst hkey hout hs hno hiv hhead hct
  case restoreClear =>
    exact fun k inv h hm hform hk hlen hver hl hserial hctx huse hu hst hidle hinv hle =>
      completes_ctxRestoreClear hn hrun h hm hform hk hlen hver hl hserial hctx huse hu hst hidle hinv hle
  case restoreWrapped =>
    intro wk iv k dom h hm hform hfree hrest hver hl hlen hdom hd hkey hiv htag hk huse
    have hok : WrappedOk (s.ctxRun 0x0406 none c f) (s.begun 0x0406 none c f) n c.bytes wk iv k :=
      { ctx := by simpa using hn
        free := (State.begun_sealCtx ..).trans hfree
        rest := by rw [State.begun_sl]; exact hrest
        run := (State.begun_runOf ..).trans hrun
        data := withData_ok hm _
        form := hform, version := hver, len := hl, length := hlen
        dom := by rw [← hdom, State.ctxRun_dom]; exact hd
        key := by rw [← hdom, State.saveKey_congr (State.begun_ks ..)]; exact hkey
        vector := hiv, tag := htag, made := hk, usage := huse }
    exact ⟨fun hu hp => completes_ctxRestoreKept h hok hu hp,
      fun hu hserial hfloor => completes_ctxRestoreFloor h hok hdom hu hserial hfloor⟩

end Sys2Proof.Machine
end

section
/-! PROOFS. Skein links and their traffic (R265 to R277, R290). -/

namespace Sys2Proof.Machine

set_option Elab.async false

section
variable {s t u : State} {w : Port} {p : SkPacket}

/-! ## Virtual channels -/

theorem SkPort.vcAt_setVc {k : SkPort} {i : Nat} (h : i < 5) (v : Vc) : (k.setVc i v).vcAt i = v := by
  simp [SkPort.vcAt, SkPort.setVc, h]

theorem SkPort.vcAt_eachVc {k : SkPort} {i : Nat} (h : i < 5) (f : Nat → Vc → Vc) : (k.eachVc f).vcAt i = f i (k.vcAt i) := by
  simp [SkPort.vcAt, SkPort.eachVc, h]

/-! ## Groups that leave -/

/-- From `s` to `t` groups left by a port: its group sequence and the flits that wait for a group changed, and nothing sent was lost. -/
def State.sentGroups (w : Port) (s t : State) : Prop :=
  (∃ g fl, t.port w = { s.port w with txGroup := g, txFlits := fl }) ∧ (∀ v, v ≠ w → t.port v = s.port v) ∧
    ∀ x, x ∈ s.posted → x ∈ t.posted

theorem State.sentGroups.refl (w : Port) (s : State) : s.sentGroups w s := ⟨⟨_, _, rfl⟩, fun _ _ => rfl, fun _ h => h⟩

theorem State.sentGroups.trans (h : s.sentGroups w t) (h' : t.sentGroups w u) : s.sentGroups w u := by
  obtain ⟨⟨g, fl, hp⟩, ho, hx⟩ := h
  obtain ⟨⟨g', fl', hp'⟩, ho', hx'⟩ := h'
  exact ⟨⟨g', fl', by rw [hp', hp]⟩, fun v hv => (ho' v hv).trans (ho v hv), fun x h => hx' x (hx x h)⟩

theorem State.posted_setPort (w : Port) (k : SkPort) (s : State) : (s.setPort w k).posted = s.posted := by cases w <;> rfl

theorem State.posted_emit (x : Posted) (s : State) : (s.emit x).posted = s.posted ++ [x] := rfl

theorem State.sentGroups_setPort (g : BitVec 32) (fl : Bytes) :
    s.sentGroups w (s.setPort w { s.port w with txGroup := g, txFlits := fl }) :=
  ⟨⟨g, fl, State.port_setPort ..⟩, fun _ hv => State.port_setPort_ne hv .., fun x h => by rwa [State.posted_setPort]⟩

theorem State.sentGroups_sendGroup (bs : Bytes) (s : State) : s.sentGroups w (s.sendGroup w bs) := by
  unfold State.sendGroup
  dsimp only
  split
  · exact .refl w s
  · refine .trans (State.sentGroups_setPort _ (s.port w).txFlits) ⟨⟨_, _, State.port_emit ..⟩, fun v _ => State.port_emit .., fun x h => ?_⟩
    rw [State.posted_emit]
    exact List.mem_append_left _ h

theorem State.sentGroups_formGroups (n : Nat) (bs : Bytes) (s : State) : s.sentGroups w (s.formGroups w n bs) := by
  induction n generalizing bs s with
  | zero => exact State.sentGroups_setPort (s.port w).txGroup bs
  | succ n ih =>
    unfold State.formGroups
    split
    · exact State.sentGroups_setPort (s.port w).txGroup bs
    · exact (State.sentGroups_sendGroup _ s).trans (ih _ _)

theorem State.sentGroups_fillGroup (s : State) : s.sentGroups w (s.fillGroup w) := by
  unfold State.fillGroup
  dsimp only
  split
  · exact .refl w s
  · exact State.sentGroups_formGroups ..

/-- A packet that leaves: its flits against its channel's credits, and what leaves with it. -/
theorem State.transmit_sends (w : Port) (p : SkPacket) (s : State) :
    ∃ r sl, (s.setPort w { (s.port w).setVc p.vc.toNat (((s.port w).vcAt p.vc.toNat).send (skFlits p)) with replay := r, slot := sl }).sentGroups w
      (s.transmit w p) ∧ Posted.skein w p ∈ (s.transmit w p).posted := by
  refine ⟨_, _, .trans ⟨⟨_, _, State.port_emit ..⟩, fun v _ => State.port_emit .., fun x h => ?_⟩ (State.sentGroups_formGroups ..), ?_⟩
  · rw [State.posted_emit]
    exact List.mem_append_left _ h
  · refine (State.sentGroups_formGroups (w := w) _ _ _).2.2 _ ?_
    rw [State.posted_emit]
    exact List.mem_append_right _ (List.mem_singleton_self _)

/-- With no packet waiting a port only fills the group that is being formed. -/
theorem State.drainEgress_idle (h : (s.port w).egress = []) : s.drainEgress w = s.fillGroup w := by
  rw [State.drainEgress, h]
  rfl

theorem State.sentGroups_idle (h : (s.port w).egress = []) : s.sentGroups w (s.drainEgress w) := by
  rw [State.drainEgress_idle h]
  exact State.sentGroups_fillGroup s

/-! ## Training, reconciliation, failure (R268, R269, R274) -/

/-- The key of a link that has trained, by the port's end of it. -/
def trainedKey (w : Port) (kc : BitVec 256) (own peer : BitVec 64) (mine nonce : BitVec 128) : BitVec 128 :=
  match w with
  | .east => linkKey kc own peer mine nonce
  | .west => linkKey kc peer own nonce mine

theorem trainingEvent_trains {serial : BitVec 64} {nonce : BitVec 128} {k : Slot} (hst : (s.port w).st = .training)
    (hent : s.entropyOk = true) (hk : (s.readSlot s.skn.keySlot.toNat).2 = .ok k) (ht : k.attr.typ = 3) :
    trainingEvent w serial nonce s = (s.drawn 1).setPort w { s.port w with
      st := .reconciling, lanes := 2, myNonce := s.draw.setWidth 128, peerSerial := serial
      key := some (trainedKey w k.key256 s.life.serial serial (s.draw.setWidth 128) nonce)
      txGroup := 0, rxGroup := 0, tagFails := 0, txFlits := [], rxFlits := [] } := by
  have hgo : ¬((s.port w).st ≠ .training ∨ (!s.entropyOk) = true) := by simp [hst, hent]
  rw [trainingEvent, if_neg hgo, State.readSlot_ok hk]
  dsimp only
  rw [if_neg (not_not.mpr ht)]
  cases w <;> rfl

theorem State.returned_keeps (code : Nat) (b : Bool) (s : State) :
    (s.returned code b).skn = s.skn ∧ (s.returned code b).arb.waiting = s.arb.waiting := by
  have h : s.touches [.gctl, .queues, .arb, .mss, .posted] (s.returned code b) := by simp
  refine ⟨h .skn (by decide), ?_⟩
  unfold State.returned
  split
  · rfl
  · dsimp only
    rw [State.postReply_arb]

theorem State.portIn_enters (w : Port) (s : State) :
    (s.portIn w).skn = (s.setPort w { s.port w with st := .up, inService := true }).skn ∧ (s.portIn w).arb.waiting = s.arb.waiting := by
  unfold State.portIn
  dsimp only
  split
  · next h =>
    rw [h]
    cases w <;> exact ⟨rfl, rfl⟩
  · rw [(State.returned_keeps ..).1, (State.returned_keeps ..).2, State.logSkein, State.log_skn, State.log_arb, State.serviceChange_skn,
      State.serviceChange_arb]
    cases w <;> exact ⟨rfl, rfl⟩

/-- A port whose counters the peer has told, with nothing to send again. -/
def SkPort.reconciledBy (peer : List PeerCount) (k : SkPort) : SkPort :=
  { k.eachVc fun i v => v.reconciled (vcBuffer i) (peerAt peer i) with replay := [], egress := [] }

theorem SkPort.reconciledBy_vcAt {i : Nat} (hi : i < 5) (peer : List PeerCount) (k : SkPort) :
    (k.reconciledBy peer).vcAt i = (k.vcAt i).reconciled (vcBuffer i) (peerAt peer i) :=
  SkPort.vcAt_eachVc hi fun i v => v.reconciled (vcBuffer i) (peerAt peer i)

theorem reconcileEvent_eq {peer : List PeerCount} (hst : (s.port w).st = .reconciling) (hr : (s.port w).replay = [])
    (he : (s.port w).egress = []) :
    reconcileEvent w peer s = ((s.setPort w ((s.port w).reconciledBy peer)).portIn w).drainEgress w := by
  have hegress (f : Nat → Vc → Vc) : ((s.port w).eachVc f).egress = [] := he
  rw [reconcileEvent]
  dsimp only
  rw [if_neg (not_not.mpr hst), hr, List.filter_nil, List.map_nil, List.nil_append, hegress, SkPort.reconciledBy]

theorem reconcileEvent_reconciles {peer : List PeerCount} (hst : (s.port w).st = .reconciling) (hr : (s.port w).replay = [])
    (he : (s.port w).egress = []) (hwait : s.arb.waiting = []) :
    ((reconcileEvent w peer s).port w).st = .up ∧ ((reconcileEvent w peer s).port w).inService = true ∧
      (∀ i, i < 5 → ((reconcileEvent w peer s).port w).vcAt i = ((s.port w).vcAt i).reconciled (vcBuffer i) (peerAt peer i)) ∧
      (reconcileEvent w peer s).arb.waiting = [] := by
  have hevent := reconcileEvent_eq (peer := peer) hst hr he
  have hkv (i : Nat) (hi : i < 5) := SkPort.reconciledBy_vcAt hi peer (s.port w)
  generalize hk : (s.port w).reconciledBy peer = k at hevent hkv
  have hke : k.egress = [] := by rw [← hk]; rfl
  obtain ⟨hin, hw⟩ := State.portIn_enters w (s.setPort w k)
  have hport : ((s.setPort w k).portIn w).port w = { k with st := .up, inService := true } := by
    rw [State.port_congr hin, State.port_setPort, State.port_setPort]
  rw [hevent]
  generalize (s.setPort w k).portIn w = v at hport hw
  obtain ⟨⟨g, fl, hv⟩, -, -⟩ := State.sentGroups_idle (s := v) (w := w) (by rw [hport]; exact hke)
  have hframe : v.touches [.skn, .posted] (v.drainEgress w) := by simp
  have harb : (v.drainEgress w).arb = v.arb := hframe .arb (by decide)
  rw [hv, hport, harb, hw]
  refine ⟨rfl, rfl, hkv, ?_⟩
  cases w <;> exact hwait

theorem State.portOut_link (w : Port) (st : PortSt) (s : State) :
    ((s.portOut w st).port w).link = ({ s.port w with inService := false, st } : SkPort).link := by
  refine (State.sameLinks_reroute w _ w).trans ?_
  cases w <;> rfl

theorem linkFailureEvent_fails (hst : (s.port w).st ≠ .down) :
    ((linkFailureEvent w s).port w).key = none ∧ ((linkFailureEvent w s).port w).inService = false ∧ (linkFailureEvent w s).skn.ring = false ∧
      ((linkFailureEvent w s).port w).st = (if s.skn.autoReturn then .training else .down) ∧
      (linkFailureEvent w s).arb.waiting = s.arb.waiting := by
  obtain ⟨v, hv, hvk, hva, hvw⟩ : ∃ v, s.setPort w { s.port w with lanes := 0, key := none } = v ∧ (v.port w).key = none ∧
      v.skn.autoReturn = s.skn.autoReturn ∧ v.arb = s.arb := by
    refine ⟨_, rfl, by rw [State.port_setPort], ?_, ?_⟩ <;> cases w <;> rfl
  have hlink := State.portOut_link w (if v.skn.autoReturn then .training else .down) v
  obtain ⟨hin, hst', hring⟩ := State.portOut_out w (if v.skn.autoReturn then .training else .down) v
  have hkey : ((v.portOut w (if v.skn.autoReturn then .training else .down)).port w).key = none := (congrArg SkPort.key hlink).trans hvk
  have hframe : v.touches [.skn, .posted] (v.portOut w (if v.skn.autoReturn then .training else .down)) := by simp
  have harb : (v.portOut w (if v.skn.autoReturn then .training else .down)).arb = v.arb := hframe .arb (by decide)
  rw [hva] at hin hst' hring hkey harb
  generalize hu : v.portOut w (if s.skn.autoReturn then .training else .down) = u at hin hst' hring hkey harb
  have hchange : ∃ a : State, (if (s.port w).inService then u.serviceChange (portCode w) causeLink false else u) = a ∧ a.skn = u.skn ∧
      a.arb.waiting = u.arb.waiting := by
    refine ⟨_, rfl, ?_⟩
    split
    · exact ⟨State.serviceChange_skn, by rw [State.serviceChange_arb]⟩
    · exact ⟨rfl, rfl⟩
  obtain ⟨a, ha, hask, haw⟩ := hchange
  have hevent : linkFailureEvent w s = (a.logSkein w 0 (s.port w).peerSerial).returned (portCode w) false := by
    rw [linkFailureEvent, if_neg hst, ← ha, ← hu, ← hva, ← hv]
  have hskn : (linkFailureEvent w s).skn = u.skn := by
    rw [hevent, (State.returned_keeps ..).1, State.logSkein, State.log_skn, hask]
  rw [State.port_congr hskn, hskn]
  refine ⟨hkey, hin, hring, hst', ?_⟩
  rw [hevent, (State.returned_keeps ..).2, State.logSkein, State.log_arb, haw, harb, hvw]

/-! ## Enumeration and census (R265 to R267, R274) -/

theorem State.sameLinks_sendBy (ws : List Port) (kind : SkKind) (dest : Nat) (tag : BitVec 32) (bs : Bytes) (s : State) :
    s.sameLinks (s.sendBy ws kind dest tag bs) := by
  have hfold (f : State → Port → SkPacket) (l : List Port) (u : State) : u.sameLinks (l.foldl (fun v w => v.sendOn w (f v w)) u) := by
    induction l generalizing u with
    | nil => exact .refl u
    | cons w l ih => exact (State.sameLinks_sendOn w _ u).trans (ih _)
  exact State.sameLinks.trans (t := { s with skn := { s.skn with txSeq := s.skn.txSeq.put (seqKey dest kind.vc) (s.skn.txSeq.get (seqKey dest kind.vc) 1 + 1) } })
    (fun w => by cases w <;> rfl)
    (hfold (fun v w => { dest := BitVec.ofNat 8 dest, src := v.node, vc := BitVec.ofNat 8 kind.vc, kind := Config.skeinType kind.num
                         flags := skFlags w false, seq := s.skn.txSeq.get (seqKey dest kind.vc) 1, tag, payload := bs }) ws _)

theorem enumerationEvent_learns {returned : Bool} {reach : BitVec 7} (hen : s.skn.en = true) :
    (enumerationEvent returned reach none s).skn.ring = returned ∧ (enumerationEvent returned reach none s).skn.reach = reach ∧
      (enumerationEvent returned reach none s).skn.nodes = reach := by
  simp [enumerationEvent, hen]

theorem State.holdDown_holds (w : Port) (event : Nat) (serial : BitVec 64) (s : State) :
    ((s.holdDown w event serial).port w).heldDown = true ∧ ((s.holdDown w event serial).port w).st = .down ∧
      ((s.holdDown w event serial).port w).inService = false ∧ (s.holdDown w event serial).skn.ring = false ∧
      (s.holdDown w event serial).skn.reach = s.skn.reach := by
  obtain ⟨hin, hst, hring⟩ := State.portOut_out w .down s
  have hreach : (s.portOut w .down).skn.reach = s.skn.reach := by
    refine (congrArg SkeinUnit.reach (State.sameNode_reroute w _)).trans ?_
    cases w <;> rfl
  rw [State.holdDown]
  dsimp only
  generalize s.portOut w .down = u at hin hst hring hreach
  have hskn : ((u.setPort w { u.port w with heldDown := true }).logSkein w event serial).skn = (u.setPort w { u.port w with heldDown := true }).skn := by
    rw [State.logSkein, State.log_skn]
  rw [State.port_congr hskn, hskn, State.port_setPort]
  refine ⟨rfl, hst, hin, ?_, ?_⟩
  · rw [← hring]
    cases w <;> rfl
  · rw [← hreach]
    cases w <;> rfl

theorem enumerationEvent_second {returned : Bool} {reach : BitVec 7} (hen : s.skn.en = true) (hhead : s.skn.head = true) :
    (enumerationEvent returned reach (some w) s).skn.reach = reach ∧ ((enumerationEvent returned reach (some w) s).port w).heldDown = true ∧
      ((enumerationEvent returned reach (some w) s).port w).st = .down ∧ ((enumerationEvent returned reach (some w) s).port w).inService = false ∧
      (enumerationEvent returned reach (some w) s).skn.ring = false := by
  have hcast : (s.cast s.upPorts .enumerate []).skn.head = true := (congrArg SkeinUnit.head (State.sameNode_sendBy s.upPorts .enumerate 0xFF 0 [] s)).trans hhead
  obtain ⟨u, hu, hreach⟩ : ∃ u : State, enumerationEvent returned reach (some w) s = u.holdDown w 2 (u.port w).peerSerial ∧ u.skn.reach = reach := by
    rw [enumerationEvent, if_neg (by rw [hen]; decide), if_pos hhead]
    dsimp only
    rw [if_pos hcast]
    exact ⟨_, rfl, rfl⟩
  obtain ⟨hheld, hst, hin, hring, hr⟩ := State.holdDown_holds w 2 (u.port w).peerSerial u
  rw [hu]
  exact ⟨hr.trans hreach, hheld, hst, hin, hring⟩

/-- The port of a link whose counters agree. -/
def SkPort.counted (peer : List PeerCount) (k : SkPort) : SkPort :=
  { k.eachVc fun i v => v.reconciled (vcBuffer i) (peerAt peer i) with mismatched := false }

theorem SkPort.counted_vcAt {i : Nat} (hi : i < 5) (peer : List PeerCount) (k : SkPort) :
    (k.counted peer).vcAt i = (k.vcAt i).reconciled (vcBuffer i) (peerAt peer i) :=
  SkPort.vcAt_eachVc hi fun i v => v.reconciled (vcBuffer i) (peerAt peer i)

/-- The state once a census marker that agrees has passed a port. -/
def State.counted (w : Port) (peer : List PeerCount) (s : State) : State :=
  ({ s with skn := { s.skn with rounds := if s.firstUp = w then satAdd s.skn.rounds 1 else s.skn.rounds } } : State).setPort w
    ((s.port w).counted peer)

theorem State.counted_eq (w : Port) (peer : List PeerCount) (s : State) :
    (s.counted w peer).port w = (s.port w).counted peer ∧ (s.counted w peer).skn.head = s.skn.head ∧
      (s.counted w peer).skn.rounds = (if s.firstUp = w then satAdd s.skn.rounds 1 else s.skn.rounds) ∧
      (s.counted w peer).skn.mismatch = s.skn.mismatch := by
  refine ⟨State.port_setPort .., ?_⟩
  cases w <;> exact ⟨rfl, rfl, rfl⟩

theorem censusEvent_counts {peer : List PeerCount} (hst : (s.port w).st = .up) (hin : (s.port w).inService = true)
    (hok : censusOk (s.port w) peer = true) :
    (censusEvent w peer s).skn.rounds = (if s.firstUp = w then satAdd s.skn.rounds 1 else s.skn.rounds) ∧
      (censusEvent w peer s).skn.mismatch = s.skn.mismatch ∧ ((censusEvent w peer s).port w).mismatched = false ∧
      (s.skn.head = false → (s.port w).egress = [] →
        ∀ i, i < 5 → ((censusEvent w peer s).port w).vcAt i = ((s.port w).vcAt i).reconciled (vcBuffer i) (peerAt peer i)) := by
  have hgo : ¬((s.port w).st ≠ .up ∨ (!(s.port w).inService) = true) := by simp [hst, hin]
  have hevent : censusEvent w peer s = (if ((s.counted w peer).drainEgress w).skn.head && ((s.counted w peer).drainEgress w).firstUp == w then
      ((s.counted w peer).drainEgress w).broadcast .census [] else (s.counted w peer).drainEgress w) := by
    rw [censusEvent]
    dsimp only
    rw [if_neg hgo, if_pos hok, State.counted, SkPort.counted]
  obtain ⟨hport, hhead, hrounds, hmis⟩ := State.counted_eq w peer s
  have hnode : (s.counted w peer).sameNode (censusEvent w peer s) := by
    rw [hevent]
    split
    · exact (State.sameNode_drainEgress _ _).trans (State.sameNode_sendBy _ _ _ _ _ _)
    · exact State.sameNode_drainEgress _ _
  have hlinks : (s.counted w peer).sameLinks (censusEvent w peer s) := by
    rw [hevent]
    split
    · exact (State.sameLinks_drainEgress _ _).trans (State.sameLinks_sendBy _ _ _ _ _ _)
    · exact State.sameLinks_drainEgress _ _
  refine ⟨(congrArg SkeinUnit.rounds hnode).trans hrounds, (congrArg SkeinUnit.mismatch hnode).trans hmis, ?_, fun hh he i hi => ?_⟩
  · exact (congrArg SkPort.mismatched (hlinks w)).trans (by rw [hport]; rfl)
  · have hidle := State.sentGroups_idle (s := s.counted w peer) (w := w) (by rw [hport]; exact he)
    have hhead' : ((s.counted w peer).drainEgress w).skn.head = false :=
      (congrArg SkeinUnit.head (State.sameNode_drainEgress w (s.counted w peer))).trans (hhead.trans hh)
    obtain ⟨⟨g, fl, hk⟩, -, -⟩ := hidle
    rw [hevent, hhead', Bool.false_and, if_neg Bool.false_ne_true, hk, hport]
    exact SkPort.counted_vcAt hi peer (s.port w)

theorem censusEvent_differs {peer : List PeerCount} (hst : (s.port w).st = .up) (hin : (s.port w).inService = true)
    (hok : censusOk (s.port w) peer = false) (hm : (s.port w).mismatched = false) :
    censusEvent w peer s = ({ s with skn := { s.skn with mismatch := satAdd s.skn.mismatch 1 } } : State).setPort w
      { s.port w with st := .training, mismatched := true } := by
  simp only [censusEvent, hst, hin, hok, hm, ne_eq, not_true, Bool.not_true, Bool.false_eq_true, or_self, if_false]

/-! ## Low rate and bandwidth tables (R275, R290) -/

theorem heartbeatEvent_beats (hst : (s.port w).st = .lowRate) (hheld : 1 ≤ ((s.port w).vcAt 4).held) :
    ((((heartbeatEvent w s)).port w).vcAt 4).held = ((s.port w).vcAt 4).held - 1 ∧
      (((heartbeatEvent w s).port w).vcAt 4).sent = ((s.port w).vcAt 4).sent + 1 ∧
      ∃ p, Posted.skein w p ∈ (heartbeatEvent w s).posted ∧ p.src = s.node ∧ p.vc = 4 ∧ p.payload = [] := by
  have hgo : ¬((s.port w).st ≠ .lowRate ∨ ((s.port w).vcAt 4).held < 1) := by simp [hst]; omega
  obtain ⟨p, hp, hsrc, hvc, hpay⟩ : ∃ p : SkPacket, heartbeatEvent w s = (s.transmit w p).fillGroup w ∧ p.src = s.node ∧ p.vc = 4 ∧
      p.payload = [] := by
    rw [heartbeatEvent]
    dsimp only
    rw [if_neg hgo]
    exact ⟨_, rfl, rfl, rfl, rfl⟩
  obtain ⟨r, sl, hsent, hmem⟩ := State.transmit_sends w p s
  have hflits : skFlits p = 1 := by rw [skFlits, hpay]; rfl
  obtain ⟨⟨g, fl, hport⟩, -, -⟩ := hsent.trans (State.sentGroups_fillGroup _)
  have hvc4 : ((heartbeatEvent w s).port w).vcAt 4 = ((s.port w).vcAt 4).send 1 := by
    rw [hp, hport, State.port_setPort, hflits, hvc]
    exact SkPort.vcAt_setVc (i := 4) (by decide) _
  rw [hvc4]
  refine ⟨rfl, rfl, p, ?_, hsrc, hvc, hpay⟩
  rw [hp]
  exact (State.sentGroups_fillGroup (w := w) _).2.2 _ hmem

theorem bwSwapEvent_swaps (h : (s.port w).swap = true) :
    (bwSwapEvent w s).port w = (if bwOk (s.port w).shadow then { s.port w with live := (s.port w).shadow, swap := false, bad := false }
      else { s.port w with swap := false, bad := true }) := by
  rw [bwSwapEvent]
  dsimp only
  rw [if_neg (by rw [h]; decide)]
  split <;> rw [State.port_setPort]

/-! ## Groups that arrive (R268, R269) -/

theorem groupIv_eq (w : Port) (gseq : BitVec 32) {dir : BitVec 32} (hd : dir = (match w with | .east => 0x57 | .west => 0x45)) :
    groupIv (w == .east) gseq = dir ++ gseq.setWidth 64 := by
  subst hd
  cases w <;> rfl

theorem groupEvent_good {gseq : BitVec 32} {cipher tag : Bytes} {key : BitVec 128} {dir : BitVec 32}
    (hd : dir = (match w with | .east => 0x57 | .west => 0x45)) (hk : (s.port w).key = some key) (htag : (gcmTag key (dir ++ gseq.setWidth 64) [] cipher).take 12 = tag) :
    groupEvent w gseq cipher tag s = (if gseq = (s.port w).rxGroup then
        State.takeFlits w 24 (s.setPort w { s.port w with
          tagFails := 0, rxGroup := gseq + 1, rxFlits := (s.port w).rxFlits ++ gcmStream key (dir ++ gseq.setWidth 64) cipher })
      else s.setPort w { s.port w with tagFails := 0 }) := by
  rw [groupEvent]
  dsimp only
  rw [hk]
  dsimp only
  rw [groupIv_eq w gseq hd, if_pos htag, ite_not]

theorem groupEvent_bad {gseq : BitVec 32} {cipher tag : Bytes} {key : BitVec 128} {dir : BitVec 32} {n : Nat}
    (hd : dir = (match w with | .east => 0x57 | .west => 0x45)) (hk : (s.port w).key = some key) (htag : (gcmTag key (dir ++ gseq.setWidth 64) [] cipher).take 12 ≠ tag)
    (hn : n = (if (s.port w).failGroup = gseq then (s.port w).tagFails + 1 else 1)) :
    groupEvent w gseq cipher tag s = (if 8 ≤ n then linkFailureEvent w (s.setPort w { s.port w with tagFails := 0 })
      else (s.setPort w { s.port w with tagFails := n, failGroup := gseq }).emit (.replay w gseq)) := by
  subst hn
  rw [groupEvent]
  dsimp only
  rw [hk]
  dsimp only
  rw [groupIv_eq w gseq hd, if_neg htag]

/-! ## Packets that arrive (R270 to R273) -/

/-- A packet's flits lie in the receive buffer. -/
def State.received (w : Port) (p : SkPacket) (s : State) : State :=
  s.setPort w ((s.port w).setVc p.vc.toNat { (s.port w).vcAt p.vc.toNat with
    accepted := ((s.port w).vcAt p.vc.toNat).accepted + BitVec.ofNat 32 (skFlits p)
    occupied := ((s.port w).vcAt p.vc.toNat).occupied + skFlits p })

theorem State.skn_setPort (w : Port) (k : SkPort) (s : State) :
    (s.setPort w k).skn.rxSeq = s.skn.rxSeq ∧ (s.setPort w k).skn.rxBuf = s.skn.rxBuf ∧ (s.setPort w k).skn.parts = s.skn.parts ∧
      (s.setPort w k).node = s.node ∧ (s.setPort w k).carries p = s.carries p := by
  cases w <;> exact ⟨rfl, rfl, rfl, rfl, rfl⟩

/-- A packet that a port takes in. -/
structure State.takesIn (s : State) (w : Port) (p : SkPacket) : Prop where
  up : (s.port w).isUp = true
  vc : p.vc.toNat < 5
  len : p.payload.length ≤ 1072
  room : s.hasRoom w p = true
  carries : s.carries p = true

theorem packetEvent_eq (h : s.takesIn w p) :
    packetEvent w p s = (if p.dest ≠ s.node ∧ p.dest ≠ 0xFF then (s.received w p).transit w (some w) p
      else if p.seq < s.skn.rxSeq.get (rxKey p) 1 ∨ p.src = s.node then (s.received w p).freeFlits (some w) p
      else if s.inTurn p then State.acceptWaiting 256 ((s.received w p).acceptPacket w p)
      else { s.received w p with skn := { (s.received w p).skn with rxBuf := s.skn.rxBuf ++ [(w, p)] } }) := by
  have hgo : ¬((!(s.port w).isUp) = true ∨ 5 ≤ p.vc.toNat ∨ skPayload < p.payload.length ∨ (!s.hasRoom w p) = true) := by
    have hvc := h.vc
    have hlen := h.len
    simp [h.up, h.room, skPayload]
    omega
  obtain ⟨hseq, hbuf, -, hnode, hcarries⟩ := State.skn_setPort (p := p) w ((s.port w).setVc p.vc.toNat { (s.port w).vcAt p.vc.toNat with
    accepted := ((s.port w).vcAt p.vc.toNat).accepted + BitVec.ofNat 32 (skFlits p)
    occupied := ((s.port w).vcAt p.vc.toNat).occupied + skFlits p }) s
  have hturn (u : State) (hu : u.skn.rxSeq = s.skn.rxSeq) : u.inTurn p = s.inTurn p := by rw [State.inTurn, hu, State.inTurn]
  rw [packetEvent]
  dsimp only
  rw [if_neg hgo, hcarries, h.carries, if_neg (by decide), hnode, hturn _ hseq, hseq, hbuf]
  cases w <;> rfl

theorem State.received_port (hvc : p.vc.toNat < 5) :
    ((s.received w p).port w).vcAt p.vc.toNat = { (s.port w).vcAt p.vc.toNat with
      accepted := ((s.port w).vcAt p.vc.toNat).accepted + BitVec.ofNat 32 (skFlits p)
      occupied := ((s.port w).vcAt p.vc.toNat).occupied + skFlits p } := by
  rw [State.received, State.port_setPort, SkPort.vcAt_setVc hvc]

theorem otherPort_ne (w : Port) : otherPort w ≠ w := by cases w <;> decide

theorem State.transit_on (ho : (s.port (otherPort w)).isUp = true) (f : Option Port) :
    s.transit w f p = s.setPort (otherPort w) { s.port (otherPort w) with egress := (s.port (otherPort w)).egress ++ [(f, p)] } := by
  rw [State.transit]
  dsimp only
  rw [if_pos ho, if_neg (otherPort_ne w)]

theorem packetEvent_on (h : s.takesIn w p) (hd : p.dest ≠ s.node) (hb : p.dest ≠ 0xFF) (ho : (s.port (otherPort w)).isUp = true) :
    ((packetEvent w p s).port (otherPort w)).egress = (s.port (otherPort w)).egress ++ [(some w, p)] ∧
      (((packetEvent w p s).port w).vcAt p.vc.toNat).accepted = ((s.port w).vcAt p.vc.toNat).accepted + BitVec.ofNat 32 (skFlits p) := by
  have hport : (s.received w p).port (otherPort w) = s.port (otherPort w) := State.port_setPort_ne (otherPort_ne w) _ _
  rw [packetEvent_eq h, if_pos ⟨hd, hb⟩, State.transit_on (by rw [hport]; exact ho), State.port_setPort,
    State.port_setPort_ne (otherPort_ne w).symm, State.received_port h.vc, hport]
  exact ⟨rfl, rfl⟩

theorem packetEvent_waits (h : s.takesIn w p) (hd : p.dest = s.node) (hsrc : p.src ≠ s.node)
    (hseq : (s.skn.rxSeq.get (rxKey p) 1).toNat < p.seq.toNat) :
    (packetEvent w p s).skn.rxBuf = s.skn.rxBuf ++ [(w, p)] ∧ (packetEvent w p s).skn.rxSeq = s.skn.rxSeq := by
  have hnot : ¬(p.seq < s.skn.rxSeq.get (rxKey p) 1 ∨ p.src = s.node) := by
    rw [BitVec.lt_def]
    exact fun h' => h'.elim (fun h'' => by omega) hsrc
  have hne : ¬s.inTurn p = true := fun h' => by
    rw [beq_iff_eq.mp h'] at hseq
    omega
  rw [packetEvent_eq h, if_neg fun h' => h'.1 hd, if_neg hnot, if_neg hne]
  exact ⟨rfl, (State.skn_setPort (p := p) w _ s).1⟩

theorem State.freeFlits_frees (hvc : p.vc.toNat < 5) (s : State) :
    (((s.freeFlits (some w) p).port w).vcAt p.vc.toNat).freed = ((s.port w).vcAt p.vc.toNat).freed + BitVec.ofNat 32 (skFlits p) ∧
      Posted.credit w p.vc (skFlits p) ∈ (s.freeFlits (some w) p).posted ∧ (s.freeFlits (some w) p).skn.rxSeq = s.skn.rxSeq ∧
      (s.freeFlits (some w) p).skn.rxBuf = s.skn.rxBuf ∧ (s.freeFlits (some w) p).skn.parts = s.skn.parts := by
  obtain ⟨hseq, hbuf, hparts, -⟩ := State.skn_setPort (p := p) w ((s.port w).setVc p.vc.toNat { (s.port w).vcAt p.vc.toNat with
    freed := ((s.port w).vcAt p.vc.toNat).freed + BitVec.ofNat 32 (skFlits p)
    occupied := ((s.port w).vcAt p.vc.toNat).occupied - skFlits p }) s
  refine ⟨?_, List.mem_append_right _ (List.mem_singleton_self _), hseq, hbuf, hparts⟩
  rw [State.freeFlits, State.port_emit, State.port_setPort, SkPort.vcAt_setVc hvc]

theorem packetEvent_old (h : s.takesIn w p) (hd : p.dest = s.node) (hseq : p.seq.toNat < (s.skn.rxSeq.get (rxKey p) 1).toNat) :
    (packetEvent w p s).skn.rxBuf = s.skn.rxBuf ∧ (packetEvent w p s).skn.rxSeq = s.skn.rxSeq ∧ (packetEvent w p s).queues = s.queues ∧
      (packetEvent w p s).led = s.led ∧
      (((packetEvent w p s).port w).vcAt p.vc.toNat).freed = ((s.port w).vcAt p.vc.toNat).freed + BitVec.ofNat 32 (skFlits p) ∧
      Posted.credit w p.vc (skFlits p) ∈ (packetEvent w p s).posted := by
  have hframe : s.touches [.skn, .posted] ((s.received w p).freeFlits (some w) p) := by simp [State.received]
  obtain ⟨hfreed, hcredit, hrx, hbuf, -⟩ := State.freeFlits_frees (w := w) h.vc (s.received w p)
  rw [packetEvent_eq h, if_neg fun h' => h'.1 hd, if_pos (.inl (by rw [BitVec.lt_def]; exact hseq))]
  refine ⟨hbuf.trans (State.skn_setPort (p := p) w _ s).2.1, hrx.trans (State.skn_setPort (p := p) w _ s).1, hframe .queues (by decide),
    hframe .led (by decide), ?_, hcredit⟩
  rw [hfreed, State.received_port h.vc]

/-! ## A doorbell that arrives (R272, R33) -/

theorem State.doorbell_queues {a b : State} (hq : ∀ q, a.queue q = b.queue q) (hqs : a.queues = b.queues) (q : QId) (tail : Bool) (v : BitVec 32) :
    (a.doorbell q tail v).queues = (b.doorbell q tail v).queues := by
  unfold State.doorbell
  rw [hq q]
  dsimp only
  split
  · rw [(State.doorbellError_leaves ..).1, (State.doorbellError_leaves ..).1, hqs]
  · rw [State.sync_queues, State.sync_queues, State.setQueue, State.setQueue, hqs]

/-- What a doorbell does to the queues rests on the queues and on whether the planes are awake. -/
theorem State.bar2_queues {a b : State} (hqs : a.queues = b.queues) (he : a.epochBase = b.epochBase) (hg : a.gctl = b.gctl) (hp : a.pwr = b.pwr)
    (off : BitVec 18) (v : BitVec 32) : (a.bar2 off v).queues = (b.bar2 off v).queues := by
  have hq (q : QId) : a.queue q = b.queue q := State.queue_congr hqs he q
  have hheld : a.planesHeld = b.planesHeld := by rw [State.planesHeld, hp, State.planesHeld]
  have hasleep : a.asleep = b.asleep := by rw [State.asleep, hp, State.asleep]
  have hold (u : State) : (u.holdAccess (.bar2 off v) 1).queues = u.queues := by
    unfold State.holdAccess State.wake
    split <;> rfl
  unfold State.bar2
  rw [hheld, hg, hasleep]
  split
  · exact hqs
  · split
    · rw [hold, hold, hqs]
    · split
      · exact State.doorbell_queues hq hqs _ _ _
      · exact State.doorbell_queues hq hqs _ _ _
      · exact hqs

theorem State.raise_posted (bit : Nat) (s : State) {x : Posted} (h : x ∈ s.posted) : x ∈ (s.raise bit).posted := by
  unfold State.raise State.sendMsix State.post
  dsimp only
  split
  · split
    · exact h
    · split
      · exact h
      · exact List.mem_append_left _ h
  · exact h

theorem State.doorbell_posted (q : QId) (tail : Bool) (v : BitVec 32) (s : State) {x : Posted} (h : x ∈ s.posted) :
    x ∈ (s.doorbell q tail v).posted := by
  unfold State.doorbell
  dsimp only
  split
  · exact State.raise_posted _ _ h
  · rw [State.sync_posted]
    exact h

theorem State.bar2_posted (off : BitVec 18) (v : BitVec 32) (s : State) {x : Posted} (h : x ∈ s.posted) : x ∈ (s.bar2 off v).posted := by
  unfold State.bar2
  split
  · exact h
  · split
    · unfold State.holdAccess State.wake
      split <;> exact h
    · split
      · exact State.doorbell_posted _ _ _ _ h
      · exact State.doorbell_posted _ _ _ _ h
      · exact h

theorem State.acceptWaiting_none (n : Nat) (h : s.skn.rxBuf = []) : State.acceptWaiting n s = s := by
  cases n with
  | zero => rfl
  | succ n => rw [State.acceptWaiting, h, List.find?_nil]

/-- A packet that is whole is delivered. -/
theorem State.gather_delivers (hparts : s.skn.parts = []) (hlen : p.payload.length < 1072) : s.gather p = s.deliver p := by
  have hne : ¬p.payload.length = skPayload := by rw [skPayload]; omega
  have hs : ({ s with skn := { s.skn with parts := [] } } : State) = s := by rw [← hparts]
  rw [State.gather]
  dsimp only
  rw [if_neg hne, hparts, List.find?_nil, List.filter_nil, hs]
  rfl

theorem State.deliver_doorbell (h : packetKind p = some .doorbell) (s : State) :
    s.deliver p = s.bar2 (BitVec.ofNat 18 (leAt p.payload 0 4)) (BitVec.ofNat 32 (leAt p.payload 4 4)) := by
  rw [State.deliver, h]

/-- The state with the sequence of an accepted packet of no enumeration counted. -/
def State.sequenced (p : SkPacket) (s : State) : State := { s with skn := { s.skn with rxSeq := s.skn.rxSeq.put (rxKey p) (p.seq + 1) } }

theorem State.acceptPacket_doorbell (hk : packetKind p = some .doorbell) (hb : p.dest ≠ 0xFF) (hparts : s.skn.parts = [])
    (hvc : p.vc.toNat < 5) (hlen : p.payload.length < 1072) :
    s.acceptPacket w p = ((s.sequenced p).freeFlits (some w) p).bar2 (BitVec.ofNat 18 (leAt p.payload 0 4)) (BitVec.ofNat 32 (leAt p.payload 4 4)) := by
  have hnot : ¬(packetKind p = some .enumerate) := by rw [hk]; decide
  have hfree := (State.freeFlits_frees (w := w) hvc (s.sequenced p)).2.2.2.2
  rw [State.acceptPacket]
  dsimp only
  rw [if_neg hnot, if_neg fun h => hb h.1]
  exact (State.gather_delivers (s := (s.sequenced p).freeFlits (some w) p) (hfree.trans hparts) hlen).trans (State.deliver_doorbell hk _)

theorem packetEvent_doorbell (h : s.takesIn w p) (hd : p.dest = s.node) (hsrc : p.src ≠ s.node) (hseq : p.seq = s.skn.rxSeq.get (rxKey p) 1)
    (hbuf : s.skn.rxBuf = []) (hparts : s.skn.parts = []) (hlen : p.payload.length < 1072) (hk : packetKind p = some .doorbell) :
    (packetEvent w p s).queues = (s.bar2 (BitVec.ofNat 18 (leAt p.payload 0 4)) (BitVec.ofNat 32 (leAt p.payload 4 4))).queues ∧
      (packetEvent w p s).skn.rxSeq.get (rxKey p) 1 = s.skn.rxSeq.get (rxKey p) 1 + 1 ∧
      Posted.credit w p.vc (skFlits p) ∈ (packetEvent w p s).posted ∧
      (((packetEvent w p s).port w).vcAt p.vc.toNat).freed = ((s.port w).vcAt p.vc.toNat).freed + BitVec.ofNat 32 (skFlits p) := by
  have hbroad : p.dest ≠ 0xFF := by
    rw [hd, State.node]
    intro h'
    have := congrArg BitVec.toNat h'
    simp at this
    omega
  have hnot : ¬(p.seq < s.skn.rxSeq.get (rxKey p) 1 ∨ p.src = s.node) := by
    rw [hseq]
    exact fun h' => h'.elim (fun h'' => absurd h'' (by simp)) hsrc
  have hturn : s.inTurn p = true := beq_iff_eq.mpr hseq
  obtain ⟨-, hbuf', hparts', -⟩ := State.skn_setPort (p := p) w ((s.port w).setVc p.vc.toNat { (s.port w).vcAt p.vc.toNat with
    accepted := ((s.port w).vcAt p.vc.toNat).accepted + BitVec.ofNat 32 (skFlits p)
    occupied := ((s.port w).vcAt p.vc.toNat).occupied + skFlits p }) s
  have hrport := State.received_port (s := s) (w := w) h.vc
  have haccept := State.acceptPacket_doorbell (s := s.received w p) (w := w) hk hbroad (hparts'.trans hparts) h.vc hlen
  obtain ⟨hfreed, hcredit, hrx, hrbuf, -⟩ := State.freeFlits_frees (w := w) h.vc ((s.received w p).sequenced p)
  have hframe : s.touches [.skn, .posted] (((s.received w p).sequenced p).freeFlits (some w) p) := by simp [State.received, State.sequenced]
  rw [packetEvent_eq h, if_neg fun h' => h'.1 hd, if_neg hnot, if_pos hturn, haccept]
  generalize ((s.received w p).sequenced p).freeFlits (some w) p = y at hfreed hcredit hrx hrbuf hframe
  have hbar : y.touches [.gctl, .queues, .arb, .pwr, .posted]
      (y.bar2 (BitVec.ofNat 18 (leAt p.payload 0 4)) (BitVec.ofNat 32 (leAt p.payload 4 4))) := by simp
  have hskn := hbar .skn (by decide)
  have hempty : (y.bar2 (BitVec.ofNat 18 (leAt p.payload 0 4)) (BitVec.ofNat 32 (leAt p.payload 4 4))).skn.rxBuf = [] :=
    (congrArg SkeinUnit.rxBuf hskn).trans (hrbuf.trans (hbuf'.trans hbuf))
  rw [State.acceptWaiting_none 256 hempty, State.port_congr hskn]
  refine ⟨State.bar2_queues (hframe .queues (by decide)) (hframe .epochBase (by decide)) (hframe .gctl (by decide)) (hframe .pwr (by decide)) _ _,
    ?_, State.bar2_posted _ _ _ hcredit, ?_⟩
  · refine (congrArg (fun k : SkeinUnit => k.rxSeq.get (rxKey p) 1) hskn).trans ?_
    rw [hrx, ← hseq]
    exact Tab.get_put _ _ _ _
  · have hport : ((s.received w p).sequenced p).port w = (s.received w p).port w := by cases w <;> rfl
    rw [hfreed, hport, hrport]

/-! ## Packets that leave (R271, R273, R275) -/

/-- The one packet that waits has its turn exactly where its channel has the credits for it. -/
theorem SkPort.turn_single {k : SkPort} {e : Option Port × SkPacket} (he : k.egress = [e]) (hvc : e.2.vc.toNat < 5) :
    k.turn.bind k.first = if skFlits e.2 ≤ (k.vcAt e.2.vc.toNat).held then some e else none := by
  have hfirst (i : Nat) : k.first i = if e.2.vc.toNat = i then some e else none := by
    rw [SkPort.first, he, List.find?_singleton]
    simp only [beq_iff_eq]
  have hready (i : Nat) : k.ready i = (decide (e.2.vc.toNat = i) && decide (skFlits e.2 ≤ (k.vcAt e.2.vc.toNat).held)) := by
    rw [SkPort.ready, hfirst]
    by_cases h : e.2.vc.toNat = i
    · simp [h]
    · simp [h]
  by_cases hfit : skFlits e.2 ≤ (k.vcAt e.2.vc.toNat).held
  · have hturn : k.turn = some e.2.vc.toNat := by
      simp only [SkPort.turn, hready, hfit, decide_true, Bool.and_true, decide_eq_true_eq]
      split
      · next h => rw [h]
      · generalize e.2.vc.toNat = v at hvc
        interval_cases v <;> rfl
    rw [if_pos hfit, hturn, Option.bind_some, hfirst, if_pos rfl]
  · have hturn : k.turn = none := by
      simp [SkPort.turn, hready, hfit]
    rw [if_neg hfit, hturn, Option.bind_none]

theorem State.drainTurns_single {e : Option Port × SkPacket} (he : (s.port w).egress = [e]) (hst : (s.port w).st = .up)
    (hin : (s.port w).inService = true) (hvc : e.2.vc.toNat < 5) :
    s.drainTurns w 1 = if skFlits e.2 ≤ ((s.port w).vcAt e.2.vc.toNat).held then
      ((s.setPort w { s.port w with egress := [] }).transmit w e.2).freeFlits e.1 e.2 else s := by
  rw [State.drainTurns]
  dsimp only
  rw [hst, hin]
  simp only [BEq.rfl, Bool.and_self, if_true, SkPort.turn_single he hvc]
  by_cases hfit : skFlits e.2 ≤ ((s.port w).vcAt e.2.vc.toNat).held
  · rw [if_pos hfit, if_pos hfit, he]
    simp only [State.drainTurns, List.erase_cons_head]
  · rw [if_neg hfit, if_neg hfit]

theorem State.freeFlits_other {f : Option Port} (hf : f ≠ some w) (s : State) :
    (s.freeFlits f p).port w = s.port w ∧ ∀ x, x ∈ s.posted → x ∈ (s.freeFlits f p).posted := by
  cases f with
  | none => exact ⟨rfl, fun _ h => h⟩
  | some v =>
    have hv : w ≠ v := fun h => hf (congrArg some h.symm)
    rw [State.freeFlits]
    refine ⟨(State.port_emit ..).trans (State.port_setPort_ne hv _ _), fun x h => ?_⟩
    rw [State.posted_emit, State.posted_setPort]
    exact List.mem_append_left _ h

/-- The one packet that waits leaves where its channel has the credits. -/
theorem State.drainEgress_sends {e : Option Port × SkPacket} (he : (s.port w).egress = [e]) (hst : (s.port w).st = .up)
    (hin : (s.port w).inService = true) (hvc : e.2.vc.toNat < 5) (hf : e.1 ≠ some w)
    (hfit : skFlits e.2 ≤ ((s.port w).vcAt e.2.vc.toNat).held) :
    Posted.skein w e.2 ∈ (s.drainEgress w).posted ∧ ((s.drainEgress w).port w).egress = [] ∧
      (((s.drainEgress w).port w).vcAt e.2.vc.toNat).sent = ((s.port w).vcAt e.2.vc.toNat).sent + BitVec.ofNat 32 (skFlits e.2) ∧
      (((s.drainEgress w).port w).vcAt e.2.vc.toNat).held = ((s.port w).vcAt e.2.vc.toNat).held - skFlits e.2 := by
  have hdrain : s.drainEgress w = (((s.setPort w { s.port w with egress := [] }).transmit w e.2).freeFlits e.1 e.2).fillGroup w := by
    rw [State.drainEgress, he, List.length_singleton, State.drainTurns_single he hst hin hvc, if_pos hfit]
  obtain ⟨r, sl, ⟨⟨g, fl, hport⟩, -, -⟩, hmem⟩ := State.transmit_sends w e.2 (s.setPort w { s.port w with egress := [] })
  obtain ⟨hkeep, hposted⟩ := State.freeFlits_other (p := e.2) hf ((s.setPort w { s.port w with egress := [] }).transmit w e.2)
  obtain ⟨⟨g', fl', hfill⟩, -, hmore⟩ := State.sentGroups_fillGroup (w := w)
    (((s.setPort w { s.port w with egress := [] }).transmit w e.2).freeFlits e.1 e.2)
  rw [State.port_setPort, State.port_setPort] at hport
  have hvcAt : ((s.drainEgress w).port w).vcAt e.2.vc.toNat = ((s.port w).vcAt e.2.vc.toNat).send (skFlits e.2) := by
    rw [hdrain, hfill, hkeep, hport]
    exact SkPort.vcAt_setVc hvc _
  refine ⟨?_, ?_, ?_, ?_⟩
  · rw [hdrain]
    exact hmore _ (hposted _ hmem)
  · rw [hdrain, hfill, hkeep, hport]
    rfl
  · rw [hvcAt]
    rfl
  · rw [hvcAt]
    rfl

theorem State.drainEgress_stays {e : Option Port × SkPacket} (he : (s.port w).egress = [e]) (hst : (s.port w).st = .up)
    (hin : (s.port w).inService = true) (hvc : e.2.vc.toNat < 5) (hfit : ((s.port w).vcAt e.2.vc.toNat).held < skFlits e.2)
    (hfl : (s.port w).txFlits = []) : s.drainEgress w = s := by
  rw [State.drainEgress, he, List.length_singleton, State.drainTurns_single he hst hin hvc, if_neg (Nat.not_le.mpr hfit), State.fillGroup, hfl]
  rfl

/-- One packet to a node leaves by its way (R277). -/
theorem State.sendTo_sends {kind : SkKind} {node : BitVec 6} {tag : BitVec 32} {bs : Bytes} (hw : s.wayTo node = w) (hst : (s.port w).st = .up)
    (hin : (s.port w).inService = true) (he : (s.port w).egress = []) (hlen : bs.length < 1072) (hvc : kind.vc < 5)
    (hfit : 1 + ceilDiv (bs.length - 48) 64 ≤ ((s.port w).vcAt kind.vc).held) :
    ∃ p, Posted.skein w p ∈ (s.sendTo kind node tag bs).posted ∧ p.dest = node.setWidth 8 ∧ p.payload = bs := by
  have hparts : skParts bs = [bs] := by
    have hzero : bs.length / skPayload = 0 := Nat.div_eq_of_lt hlen
    have hmin : min skPayload (bs.length - skPayload * 0) = bs.length := by rw [skPayload]; omega
    rw [skParts, hzero]
    simp [List.range_succ, slice, Nat.min_eq_right (show bs.length ≤ skPayload from hlen.le)]
  rw [State.sendTo, hparts, List.foldl_cons, List.foldl_nil, hw]
  obtain ⟨u, p, hu, hport, hdest, hpvc, hpay⟩ : ∃ (u : State) (p : SkPacket), s.sendBy [w] kind node.toNat tag bs = u.sendOn w p ∧
      u.port w = s.port w ∧ p.dest = BitVec.ofNat 8 node.toNat ∧ p.vc = BitVec.ofNat 8 kind.vc ∧ p.payload = bs :=
    ⟨_, _, rfl, by cases w <;> rfl, rfl, rfl, rfl⟩
  have hn : p.vc.toNat = kind.vc := by
    rw [hpvc, BitVec.toNat_ofNat, Nat.mod_eq_of_lt (by omega)]
  have hsend := State.drainEgress_sends (s := u.setPort w { u.port w with egress := (u.port w).egress ++ [(none, p)] }) (w := w) (e := (none, p))
    (by rw [State.port_setPort, hport, he]; rfl) (by rw [State.port_setPort, hport]; exact hst) (by rw [State.port_setPort, hport]; exact hin)
    (by rw [hn]; exact hvc) (by simp) (by rw [State.port_setPort, hport, hn, skFlits, hpay]; exact hfit)
  refine ⟨p, ?_, ?_, hpay⟩
  · rw [hu]
    exact hsend.1
  · rw [hdest]
    apply BitVec.eq_of_toNat_eq
    simp

end

theorem remoteAccess_head {s : State} (hhead : s.skn.head = true) (node : BitVec 6) (a : HostAccess) :
    remoteAccess node a s = (match a with
      | .read _ _ data => s.sendTo .readDone node 0 data
      | .write addr data => s.post (.hostWrite addr data)
      | .msix v => s.sendMsix v
      | .journal addr r => s.post (.hostWrite addr r)) := by
  cases a <;> exact if_neg (by rw [hhead]; decide)

/-- Settles O29: the links by the port that each event sets, the traffic by the one packet that moves. -/
theorem skeinLinksAndTraffic : Obligations.SkeinLinksAndTraffic := by
  unfold Obligations.SkeinLinksAndTraffic
  refine ⟨fun s w => ⟨?training, ?reconciliation, ?failure, ?enumeration, ?second, ?census, ?heartbeat, ?fullRate, ?swap⟩,
    fun s w => ⟨?group, ?keyless, ?packet, ?noRoom, ?forward, ?remote⟩⟩
  case training =>
    intro serial nonce k hst hent hk ht
    refine ⟨_, rfl, ?_⟩
    rw [trainingEvent_trains hst hent hk ht]
    beta_reduce
    rw [State.port_setPort]
    refine ⟨rfl, rfl, rfl, ?_, ?_⟩ <;> cases w <;> rfl
  case reconciliation =>
    intro peer hst hr he hwait
    obtain ⟨hup, hin, hvc, hidle⟩ := reconcileEvent_reconciles (peer := peer) hst hr he hwait
    refine ⟨_, rfl, ?_⟩
    rw [State.resumeService_idle hidle]
    exact ⟨hup, hin, hvc⟩
  case failure =>
    intro cause hst hwait
    obtain ⟨hkey, hin, hring, hst', hidle⟩ := linkFailureEvent_fails hst
    refine ⟨_, rfl, ?_⟩
    rw [State.resumeService_idle (hidle.trans hwait)]
    exact ⟨hkey, hin, hring, hst'⟩
  case enumeration => exact fun returned reach hen => ⟨_, rfl, enumerationEvent_learns hen⟩
  case second => exact fun returned reach hen hhead => ⟨_, rfl, enumerationEvent_second hen hhead⟩
  case census =>
    intro peer hst hin
    refine ⟨fun hok => ⟨_, rfl, censusEvent_counts hst hin hok⟩, fun hok hm => ⟨_, rfl, ?_⟩⟩
    rw [censusEvent_differs hst hin hok hm]
    beta_reduce
    rw [State.port_setPort]
    refine ⟨?_, rfl, rfl⟩
    cases w <;> rfl
  case heartbeat =>
    intro hst
    refine ⟨fun hheld => ⟨_, rfl, heartbeatEvent_beats hst hheld⟩, fun hheld => ⟨_, rfl, ?_⟩⟩
    exact if_pos (.inr (by omega))
  case fullRate =>
    intro hst
    refine ⟨_, rfl, ?_⟩
    beta_reduce
    rw [fullRateEvent]
    dsimp only
    rw [if_pos hst, State.port_setPort]
  case swap => exact fun h => ⟨_, rfl, bwSwapEvent_swaps h⟩
  case group =>
    intro gseq cipher tag key dir hk hd
    refine ⟨fun htag => ⟨_, rfl, groupEvent_good hd hk htag⟩, fun n htag hn => ⟨fun hlt => ⟨_, rfl, ?_⟩, fun hle hst => ⟨_, rfl, ?_⟩⟩⟩
    · rw [groupEvent_bad hd hk htag hn, if_neg (Nat.not_le.mpr hlt)]
    · rw [groupEvent_bad hd hk htag hn, if_pos hle]
      obtain ⟨hkey, hin, hring, -⟩ := linkFailureEvent_fails (s := s.setPort w { s.port w with tagFails := 0 }) (w := w)
        (by rw [State.port_setPort]; exact hst)
      exact ⟨hkey, hin, hring⟩
  case keyless =>
    intro gseq cipher tag hk
    refine ⟨_, rfl, ?_⟩
    rw [groupEvent]
    dsimp only
    rw [hk]
  case packet =>
    intro p next hup hvc hlen hroom hcarries hnext
    subst hnext
    have h : s.takesIn w p := ⟨hup, hvc, hlen, hroom, hcarries⟩
    exact ⟨fun hd hb ho => ⟨_, rfl, packetEvent_on h hd hb ho⟩, fun hd hsrc hseq => ⟨_, rfl, packetEvent_waits h hd hsrc hseq⟩,
      fun hd _ hseq => ⟨_, rfl, packetEvent_old h hd hseq⟩,
      fun hd hsrc hseq hbuf hparts hlen' hk => ⟨_, rfl, packetEvent_doorbell h hd hsrc hseq hbuf hparts hlen' hk⟩⟩
  case noRoom =>
    intro p _ _ hroom
    exact ⟨_, rfl, if_pos (.inr (.inr (.inr (by rw [hroom]; rfl))))⟩
  case forward =>
    intro f p he hst hin hvc hf
    exact ⟨fun hfit => ⟨_, rfl, State.drainEgress_sends he hst hin hvc hf hfit⟩,
      fun hfit hfl => ⟨_, rfl, State.drainEgress_stays he hst hin hvc hfit hfl⟩⟩
  case remote =>
    intro hhead
    refine ⟨fun node addr bs => ⟨_, rfl, ?_⟩, fun node addr r => ⟨_, rfl, ?_⟩, fun node v hv => ⟨_, rfl, ?_⟩,
      fun node addr len bs hst hin he hlen hfit => ⟨_, rfl, ?_⟩⟩ <;> rw [remoteAccess_head hhead]
    · exact (State.sent_post _ _ _).mpr (.inr rfl)
    · exact (State.sent_post _ _ _).mpr (.inr rfl)
    · dsimp only
      rw [State.sendMsix, if_neg (by rw [hv]; decide)]
      exact (State.sent_post _ _ _).mpr (.inr rfl)
    · exact State.sendTo_sends rfl hst hin he hlen (by decide) hfit

end Sys2Proof.Machine
end

section
/-! PROOFS. Packets move through their stages (R25, R32, R35, R36, R44 to R46, R50, R57, R59, R61, R62). -/

namespace Sys2Proof.Machine

set_option Elab.async false

section
variable {s : State} {q : QId} {x : Queue} {f : Fetched}

/-! ## Fetch (R36) -/

/-- The queue once a packet of it has been granted its fetch. -/
def State.grantedQueue (q : QId) (p : Packet) (s : State) : Queue := (s.queue q).land s.gctl.nextId .granted false p

theorem State.grantFetch_queue (q : QId) (p : Packet) (s : State) :
    (s.grantFetch q p).queue q = s.grantedQueue q p ∧ ∀ r, r ≠ q → (s.grantFetch q p).queue r = s.queue r :=
  ⟨State.queue_setQueue .., fun _ hr => State.queue_setQueue_ne _ _ _ _ hr⟩

theorem State.grantFetches_length (q : QId) (ps : List Packet) (s : State) :
    ((ps.foldl (fun s p => s.grantFetch q p) s).queue q).inflight.length = (s.queue q).inflight.length + ps.length := by
  induction ps generalizing s with
  | nil => rfl
  | cons p ps ih =>
    rw [List.foldl_cons, ih, (State.grantFetch_queue q p s).1]
    simp only [State.grantedQueue, Queue.land, List.length_append, List.length_cons, List.length_nil]
    omega

theorem fetchEvent_fetches {t : State} (hr : s.queueReady q = true) (ht : (s.sync 0).grantFor 0 q.toNat = some t) (ps : List Packet) :
    fetchEvent q ps s =
      ((ps.take (min 8 (min (s.queue q).unfetched (s.queue q).freeSlots))).foldl (fun s p => s.grantFetch q p) t).sync 0 := by
  rw [fetchEvent, if_neg (by rw [hr]; decide), ht]

theorem fetchEvent_stays (h : s.queueReady q = false ∨ (s.sync 0).grantFor 0 q.toNat = none) (ps : List Packet) : fetchEvent q ps s = s := by
  rw [fetchEvent]
  split
  · rfl
  · next hr =>
    have hready : s.queueReady q = true := by simpa using hr
    rw [h.resolve_left (by rw [hready]; decide)]

/-- A grant of the fetch arbiter leaves the queues and the next packet's number. -/
theorem State.grantFor_keeps {t : State} (ht : (s.sync 0).grantFor 0 q.toNat = some t) :
    (∀ r, t.queue r = s.queue r) ∧ t.gctl = s.gctl := by
  obtain ⟨a, ha⟩ := State.grantFor_eq ht
  rw [ha]
  exact ⟨fun r => State.queue_congr (by simp) (by simp) r, by simp⟩

theorem State.queue_sync (n : Nat) (s : State) (r : QId) : (s.sync n).queue r = s.queue r := State.queue_congr (by simp) (by simp) r

theorem fetchEvent_one {t : State} (hx : x = s.queue q) (hr : s.queueReady q = true) (ht : (s.sync 0).grantFor 0 q.toNat = some t) (p : Packet) :
    (∃ f, ((fetchEvent q [p] s).queue q).inflight = x.inflight ++ [f] ∧ f.pkt = p ∧ f.stage = .granted ∧ f.slot = x.cqRes ∧ f.id = s.gctl.nextId) ∧
      ((fetchEvent q [p] s).queue q).sqHead = ringNext x.sqSize x.sqHead ∧
      ((fetchEvent q [p] s).queue q).cqRes = ringNext x.cqSize x.cqRes ∧ ∀ r, r ≠ q → (fetchEvent q [p] s).queue r = s.queue r := by
  subst hx
  have hpos : min 8 (min (s.queue q).unfetched (s.queue q).freeSlots) ≠ 0 := by
    simp only [State.queueReady, Bool.and_eq_true, decide_eq_true_eq] at hr
    omega
  obtain ⟨n, hn⟩ := Nat.exists_eq_succ_of_ne_zero hpos
  obtain ⟨hq, hg⟩ := State.grantFor_keeps ht
  rw [fetchEvent_fetches hr ht, hn, List.take_succ_cons, List.take_nil, List.foldl_cons, List.foldl_nil]
  refine ⟨?_, ?_, ?_, fun r hne => ?_⟩
  all_goals rw [State.queue_sync]
  · rw [(State.grantFetch_queue q p t).1, State.grantedQueue, hq, hg]
    exact ⟨_, rfl, rfl, rfl, rfl, rfl⟩
  · rw [(State.grantFetch_queue q p t).1, State.grantedQueue, hq]
    rfl
  · rw [(State.grantFetch_queue q p t).1, State.grantedQueue, hq]
    rfl
  · rw [(State.grantFetch_queue q p t).2 r hne, hq]

theorem fetchEvent_length {t : State} (hx : x = s.queue q) (hr : s.queueReady q = true) (ht : (s.sync 0).grantFor 0 q.toNat = some t)
    (ps : List Packet) :
    ((fetchEvent q ps s).queue q).inflight.length = x.inflight.length + min ps.length (min 8 (min x.unfetched x.freeSlots)) := by
  rw [fetchEvent_fetches hr ht, State.queue_sync, State.grantFetches_length, (State.grantFor_keeps ht).1, List.length_take, ← hx,
    Nat.min_comm ps.length]

/-! ## Decode (R45 to R47) -/

theorem State.setFetched_inflight (q : QId) (f : Fetched) (s : State) :
    ((s.setFetched q f).queue q).inflight = (s.queue q).inflight.map fun g => if g.id = f.id then f else g := by
  rw [State.setFetched, State.queue_setQueue]

theorem State.landNext_lands (hx : x = s.queue q) (hf : x.inflight.find? (·.stage == .granted) = some f) (he : x.ending = none) :
    s.landNext q = s.setFetched q { f with stage := .landed, onHold := s.holding && !holdExempt q f.pkt } := by
  subst hx
  rw [State.landNext, hf]
  dsimp only
  rw [if_neg (by rw [he]; decide)]

/-- With no packet on its way only the next landed one is decoded. -/
theorem State.decodeNext_landed (h : (s.queue q).inflight.find? (·.stage == .granted) = none) : s.decodeNext q = s.judgeNext q := by
  rw [State.decodeNext, State.landNext, h]

theorem State.decodeNext_lands (hx : x = s.queue q) (hf : x.inflight.find? (·.stage == .granted) = some f) (he : x.ending = none)
    (hone : ∀ g ∈ x.inflight, g.stage = .granted → g.id = f.id) :
    (s.setFetched q { f with stage := .landed, onHold := s.holding && !holdExempt q f.pkt }).decodeNext q = s.decodeNext q := by
  have hland := State.landNext_lands hx hf he
  have hnone : ((s.setFetched q { f with stage := .landed, onHold := s.holding && !holdExempt q f.pkt }).queue q).inflight.find?
      (·.stage == .granted) = none := by
    rw [State.setFetched_inflight, List.find?_eq_none]
    intro g hg
    obtain ⟨g', hg', hg''⟩ := List.mem_map.mp hg
    subst hx
    by_cases hid : g'.id = f.id
    · rw [if_pos hid] at hg''
      subst hg''
      simp
    · rw [if_neg hid] at hg''
      subst hg''
      exact fun h => hid (hone g' hg' (by simpa using h))
  rw [State.decodeNext_landed hnone, State.decodeNext, hland]

theorem Fetched.refusal_answers (hf : (s.queue q).inflight.find? (·.id == f.id) = some f) (st : BitVec 16) (g : Fetched)
    (hg : g.id = f.id ∧ g.pkt = f.pkt) : (s.postReply (g.refusal q st)).answers q f st 0 :=
  State.postReply_answers (g.refusal q st) s f rfl (by rw [show (g.refusal q st).id = f.id from hg.1]; exact hf)
    (by rw [show (g.refusal q st).tag = g.pkt.tag from rfl, hg.2])

theorem State.sent_judgeNext (q : QId) (s : State) {o : Posted} (h : o ∈ s.sent) : o ∈ (s.judgeNext q).sent := by
  unfold State.judgeNext
  split
  · exact h
  · split
    · exact h
    · split
      · exact State.sent_grows_postReply _ h
      · rw [State.sent_sync]
        exact h

theorem State.decodeNext_aborts (hx : x = s.queue q) (hf : x.inflight.find? (·.stage == .granted) = some f) (he : x.ending.isSome = true)
    (hid : x.inflight.find? (·.id == f.id) = some f) : (s.decodeNext q).answers q f stQueueResetAbort 0 := by
  subst hx
  have hland : s.landNext q = s.landAborted q f := by
    rw [State.landNext, hf]
    dsimp only
    rw [if_pos he]
  obtain ⟨r, hr, hrest⟩ := Fetched.refusal_answers hid stQueueResetAbort { f with linked := false } ⟨rfl, rfl⟩
  rw [State.decodeNext, hland]
  exact ⟨r, State.sent_judgeNext q _ hr, hrest⟩

theorem State.judgeNext_refuses {before : List Fetched} {st : BitVec 16} (hl : (s.queue q).nextLanded = some (before, f))
    (hw : f.waits before = false) (hid : (s.queue q).inflight.find? (·.id == f.id) = some f) (hj : s.judge q f = some st) :
    (s.judgeNext q).answers q f st 0 := by
  have hgo : s.judgeNext q = s.postReply (f.refusal q st) := by
    rw [State.judgeNext, hl]
    dsimp only
    rw [if_neg (by rw [hw]; decide), hj]
  rw [hgo]
  exact Fetched.refusal_answers hid st f ⟨rfl, rfl⟩

theorem State.judgeNext_decodes {before : List Fetched} (hx : x = s.queue q) (hl : x.nextLanded = some (before, f))
    (hw : f.waits before = false) (hj : s.judge q f = none) :
    ((s.judgeNext q).queue q).inflight = x.inflight.map (fun g => if g.id = f.id then
        { f with stage := .decoded, keys := (s.policy x.dom).keys, since := s.now } else g) ∧ (s.judgeNext q).posted = s.posted := by
  subst hx
  rw [State.judgeNext, hl]
  dsimp only
  rw [if_neg (by rw [hw]; decide), hj]
  dsimp only
  rw [State.queue_sync, State.setFetched_inflight, State.sync_posted]
  exact ⟨rfl, rfl⟩

/-! ## Dispatch (R57) -/

theorem State.dispatchNext_dispatches {u d : Nat} {a : Arbiter} (hx : x = s.queue q)
    (hf : x.inflight.find? (fun f => f.stage == .decoded && (s.unitFor q f.pkt).isSome) = some f)
    (hn : s.nextDispatch (s.dispatchArb q f.pkt) = some ((q, f), u, d, a)) :
    ((s.dispatchNext q).queue q).inflight = x.inflight.map (fun g => if g.id = f.id then { f with stage := .dispatched (BitVec.ofNat 8 u) } else g) ∧
      ∀ r, r ≠ q → (s.dispatchNext q).queue r = s.queue r := by
  subst hx
  have hgo : s.dispatchNext q = (((s.sync (s.dispatchArb q f.pkt)).grantTo (s.dispatchArb q f.pkt) d a).setFetched q
      { f with stage := .dispatched (BitVec.ofNat 8 u) }) := by
    rw [State.dispatchNext, hf]
    dsimp only
    rw [hn, State.dispatchAt, hn]
    simp
  have hq (r : QId) : ((s.sync (s.dispatchArb q f.pkt)).grantTo (s.dispatchArb q f.pkt) d a).queue r = s.queue r :=
    State.queue_congr (by simp) (by simp) r
  rw [hgo, State.setFetched_inflight, hq]
  exact ⟨rfl, fun r hr => (State.queue_setQueue_ne _ _ _ _ hr).trans (hq r)⟩

theorem State.dispatchNext_stays (hx : x = s.queue q)
    (hf : x.inflight.find? (fun f => f.stage == .decoded && (s.unitFor q f.pkt).isSome) = some f)
    (hn : s.nextDispatch (s.dispatchArb q f.pkt) = none) : s.dispatchNext q = s := by
  subst hx
  rw [State.dispatchNext, hf]
  dsimp only
  rw [hn]
  rfl

/-! ## Host reads, coalescing (R50, R59) -/

theorem readCompletion_fails {tag : BitVec 32} {u : Byte} {e : Nat} (hx : x = s.queue q)
    (hf : x.inflight.find? (fun f => !f.running && f.pkt.tag == tag && f.pkt.dataLen != 0) = some f) (hu : f.stage = .dispatched u)
    (hid : x.inflight.find? (·.id == f.id) = some f) :
    (readCompletion q tag (.failed e) s).answers q f stHostMemory 0 ∧ (readCompletion q tag (.failed e) s).led = s.led := by
  subst hx
  rw [readCompletion]
  dsimp only
  rw [hf]
  dsimp only
  rw [hu]
  exact ⟨State.postReply_answers _ s f rfl hid rfl, State.postReply_led ..⟩

theorem coalesceEvent_signals (hx : x = s.queue q) (hi : x.irqMode = 2 ∧ 0 < x.owed ∧ x.coalTime ≠ 0 ∧ x.st ≠ .absent)
    (hm : (s.msixEntry x.vector).getLsbD 96 = false) :
    (coalesceEvent q s).queue q = x.signalled ∧ Posted.msix x.vector ∈ (coalesceEvent q s).sent := by
  subst hx
  generalize hx : s.queue q = x at *
  have hmsix : ((s.advanceTo (x.owedSince + 1024 * x.coalTime.toNat)).setQueue q x.signalled).gctl.msix = s.gctl.msix := by
    unfold State.advanceTo
    split <;> rfl
  have hgo : coalesceEvent q s = ((s.advanceTo (x.owedSince + 1024 * x.coalTime.toNat)).setQueue q x.signalled).post (.msix x.vector) := by
    rw [coalesceEvent]
    dsimp only
    rw [hx, if_pos hi, State.sendMsix, State.msixEntry, hmsix, if_neg]
    rw [State.msixEntry] at hm
    rw [hm]
    decide
  rw [hgo]
  refine ⟨?_, (State.sent_post ..).mpr (.inr rfl)⟩
  exact (State.queue_post ..).trans (State.queue_setQueue ..)

/-! ## The end of a queue's drain (R62) -/

/-- A reply to a queue that has nothing in flight goes nowhere. -/
theorem State.queue_postReply_empty (h : Held) (s : State) (q : QId) (he : (s.queue q).inflight = []) :
    (s.postReply h).queue q = s.queue q := by
  by_cases hq : q = h.q
  · rw [State.postReply]
    split
    · subst hq
      have hdone : (State.mssDone h (s.postHost h)).queue h.q = (s.postHost h).queue h.q := State.queue_congr (by simp) (by simp) h.q
      rw [hdone, State.postHost]
      dsimp only
      rw [he]
      rfl
    all_goals
      dsimp only
      split <;> rfl
  · exact State.queue_postReply_ne h s q hq

/-- The queue once its reset is done, with the message for what it still owed sent. -/
def State.renewedQueue (q : QId) (s : State) : State :=
  let t := s.setQueue q (s.queue q).renewed
  if (s.queue q).irqMode != 0 && decide (0 < (s.queue q).owed) then t.sendMsix (s.queue q).vector else t

theorem State.renewedQueue_queue (q : QId) (s : State) :
    (s.renewedQueue q).queue q = (s.queue q).renewed ∧ ∀ r, r ≠ q → (s.renewedQueue q).queue r = s.queue r := by
  rw [State.renewedQueue]
  split
  · rw [State.queue_sendMsix_any, State.queue_setQueue]
    exact ⟨rfl, fun r hr => (State.queue_sendMsix_any ..).trans (State.queue_setQueue_ne _ _ _ _ hr)⟩
  · rw [State.queue_setQueue]
    exact ⟨rfl, fun r hr => State.queue_setQueue_ne _ _ _ _ hr⟩

/-- How the reset of a queue that owned no lock ends: its command is answered, or the bit of GCTL goes back. -/
def Ending.finish (e : Ending) (epoch : BitVec 16) (s : State) : State :=
  match e.h with
  | some h => s.postReply (e.reply 0 epoch h)
  | none => { s with gctl := { s.gctl with aqReset := false } }

theorem State.finishQueue_resets {e : Ending} (hd : e.delete = false) (s : State) :
    s.finishQueue q e 0 = e.finish ((s.queue q).epoch + 1) (s.renewedQueue q) := by
  rw [State.finishQueue, Ending.finish, State.renewedQueue, hd]
  simp only [Bool.not_false, Bool.true_and, Nat.lt_irrefl, decide_false, Bool.false_and, Bool.false_eq_true, if_false]
  rfl

theorem drainEnd_finishes {e : Ending} (hx : x = s.queue q) (he : x.ending = some e) (hi : x.inflight = [])
    (hl : s.locksOf q x.epoch = []) (hf : s.ru.jrn.forced = []) (hd : e.delete = false) :
    ∃ w : State, drainEnd q s = e.finish (x.epoch + 1) w ∧ w.queue q = { x with ending := none }.renewed ∧
      ∀ r, r ≠ q → w.queue r = s.queue r := by
  subst hx
  obtain ⟨h1, h2⟩ := State.renewedQueue_queue q (s.setQueue q { s.queue q with ending := none })
  refine ⟨(s.setQueue q { s.queue q with ending := none }).renewedQueue q, ?_, ?_, fun r hr => (h2 r hr).trans (State.queue_setQueue_ne _ _ _ _ hr)⟩
  · rw [drainEnd, he]
    dsimp only
    rw [if_pos (List.isEmpty_iff.mpr hi), State.endQueue_idle hl hf, State.finishQueue_resets hd, State.queue_setQueue]
  · rw [h1, State.queue_setQueue]

theorem Ending.finish_queue (e : Ending) (n : BitVec 16) (s : State) (q : QId) (he : (s.queue q).inflight = []) :
    (e.finish n s).queue q = s.queue q := by
  rw [Ending.finish]
  split
  · exact State.queue_postReply_empty _ _ _ he
  · rfl

theorem drainEnd_ends {e : Ending} (hx : x = s.queue q) (he : x.ending = some e) (hi : x.inflight = [])
    (hl : s.locksOf q x.epoch = []) (hf : s.ru.jrn.forced = []) (hd : e.delete = false) :
    ((drainEnd q s).queue q).st = .active ∧ ((drainEnd q s).queue q).epoch = x.epoch + 1 ∧ ((drainEnd q s).queue q).ending = none ∧
      (e.h = none → (drainEnd q s).gctl.aqReset = false) ∧
      ∀ h f, e.h = some h → h.via = .host → h.q ≠ q → (s.queue h.q).inflight.find? (·.id == h.id) = some f →
        h.tag = f.pkt.tag → (drainEnd q s).answers h.q f h.status (inlAt 0 e.aborted ||| inlAt 4 (x.epoch + 1).toNat) := by
  obtain ⟨w, hgo, hw, hother⟩ := drainEnd_finishes hx he hi hl hf hd
  have hq : (drainEnd q s).queue q = { x with ending := none }.renewed := by
    rw [hgo, Ending.finish_queue _ _ _ _ (by rw [hw]; rfl), hw]
  rw [hq]
  refine ⟨rfl, rfl, rfl, fun hn => ?_, fun h f hh hv hne hid htag => ?_⟩
  · rw [hgo, Ending.finish, hn]
  · rw [hgo, Ending.finish, hh]
    have hans := State.postReply_answers (e.reply 0 (x.epoch + 1) h) w f hv (by
      rw [show (e.reply 0 (x.epoch + 1) h).q = h.q from rfl, hother _ hne]; exact hid) htag
    have hinl : (e.reply 0 (x.epoch + 1) h).inl = inlAt 0 e.aborted ||| inlAt 4 (x.epoch + 1).toNat := by
      rw [Ending.reply, hd]
      simp [inlAt]
    rw [hinl] at hans
    exact hans

/-! ## D3hot (R61) and the slew of device time (R61) -/

/-- The state once the function is back in D0, before what was held is posted. -/
def State.inD0 (s : State) : State :=
  { s with gctl := { s.gctl with d3hot := false, d3held := [] }, ru := { s.ru with jrn := { s.ru.jrn with unwritten := [] } } }

/-- The journal records the ring takes when what was held is flushed. -/
def State.ringWrites (l : List (Nat × Bytes)) (s : State) : List Posted :=
  if s.ru.jrn.en && !s.skn.cutOff then l.map fun p => Posted.hostWrite (s.ringAddr p.1) p.2 else []

theorem State.toRing_inD0 (n : Nat) (b : Bytes) (s : State) (h : s.gctl.d3hot = false) :
    (s.toRing n b).posted = s.posted ++ s.ringWrites [(n, b)] ∧ (s.toRing n b).gctl = s.gctl ∧ (s.toRing n b).queues = s.queues ∧
      (s.toRing n b).led = s.led ∧ (s.toRing n b).skn = s.skn ∧ (s.toRing n b).ru.jrn.en = s.ru.jrn.en ∧
      (s.toRing n b).ru.jrn.base = s.ru.jrn.base ∧ (s.toRing n b).ru.jrn.depth = s.ru.jrn.depth := by
  rw [State.toRing, State.ringWrites, h]
  split
  · next hen =>
    simp only [Bool.not_false, Bool.and_true] at hen
    rw [if_pos hen, State.post, h]
    exact ⟨rfl, rfl, rfl, rfl, rfl, rfl, rfl, rfl⟩
  · next hen =>
    simp only [Bool.not_false, Bool.and_true] at hen
    rw [if_neg hen, List.append_nil]
    exact ⟨rfl, rfl, rfl, rfl, rfl, rfl, rfl, rfl⟩

theorem State.ringWrites_congr {t : State} (l : List (Nat × Bytes)) (hs : t.skn = s.skn) (he : t.ru.jrn.en = s.ru.jrn.en)
    (hb : t.ru.jrn.base = s.ru.jrn.base) (hd : t.ru.jrn.depth = s.ru.jrn.depth) : t.ringWrites l = s.ringWrites l := by
  simp only [State.ringWrites, State.ringAddr, State.ringDepth, hs, he, hb, hd]

theorem State.ringWrites_cons (p : Nat × Bytes) (l : List (Nat × Bytes)) (s : State) :
    s.ringWrites (p :: l) = s.ringWrites [p] ++ s.ringWrites l := by
  simp only [State.ringWrites]
  split <;> rfl

theorem State.foldl_toRing_inD0 (l : List (Nat × Bytes)) (s : State) (h : s.gctl.d3hot = false) :
    (l.foldl (fun s p => s.toRing p.1 p.2) s).posted = s.posted ++ s.ringWrites l ∧
      (l.foldl (fun s p => s.toRing p.1 p.2) s).gctl = s.gctl ∧
      (l.foldl (fun s p => s.toRing p.1 p.2) s).queues = s.queues ∧ (l.foldl (fun s p => s.toRing p.1 p.2) s).led = s.led := by
  induction l generalizing s with
  | nil => exact ⟨by simp [State.ringWrites], rfl, rfl, rfl⟩
  | cons p l ih =>
    obtain ⟨hp, hg, hq, hl, hs, he, hb, hd⟩ := State.toRing_inD0 p.1 p.2 s h
    obtain ⟨ip, ig, iq, il⟩ := ih (s.toRing p.1 p.2) (by rw [hg]; exact h)
    rw [List.foldl_cons]
    refine ⟨?_, ig.trans hg, iq.trans hq, il.trans hl⟩
    rw [ip, hp, State.ringWrites_congr l hs he hb hd, State.ringWrites_cons p l, List.append_assoc]

theorem d3Exit_posts (h : s.gctl.d3hot = true) :
    (d3Exit s).posted = s.posted ++ s.ringWrites s.ru.jrn.unwritten ++ s.gctl.d3held ∧ (d3Exit s).gctl.d3held = [] ∧
      (d3Exit s).gctl.d3hot = false ∧ (d3Exit s).queues = s.queues ∧ (d3Exit s).led = s.led := by
  obtain ⟨hp, hg, hq, hl⟩ := State.foldl_toRing_inD0 s.ru.jrn.unwritten s.inD0 rfl
  have hgo : d3Exit s = { s.ru.jrn.unwritten.foldl (fun s p => s.toRing p.1 p.2) s.inD0 with
      posted := (s.ru.jrn.unwritten.foldl (fun s p => s.toRing p.1 p.2) s.inD0).posted ++ s.gctl.d3held } := by
    rw [d3Exit, h]
    rfl
  rw [hgo]
  refine ⟨?_, ?_, ?_, hq, hl⟩
  · dsimp only
    rw [hp, State.ringWrites_congr (t := s.inD0) _ rfl rfl rfl rfl]
    rfl
  · dsimp only
    rw [hg]
    rfl
  · dsimp only
    rw [hg]
    rfl

theorem slewEnd_ends (h : s.tmp.aotAcc < 390625) :
    (slewEnd s).gctl.slew = 0 ∧ (slewEnd s).gctl.time = s.gctl.time ∧ (slewEnd s).queues = s.queues := by
  have hk : (s.tmp.aotCount.toNat % 32768 + (s.tmp.aotAcc + 16 * (800000000 * s.gctl.slew.toNat)) / 390625) / 32768 = s.gctl.slew.toNat := by
    omega
  have hgo : slewEnd s = s.advanceTo (s.now + 800000000 * s.gctl.slew.toNat) := rfl
  rw [hgo]
  refine ⟨?_, ?_, State.advanceTo_queues ..⟩
  all_goals
    rw [State.advanceTo, if_pos (Nat.le_add_right ..)]
    dsimp only
    rw [Nat.add_sub_cancel_left, State.lapsed]
    dsimp only
    rw [Gctl.seconds, hk]
    simp

end

/-- Settles O41: fetch, decode and dispatch move a packet by one stage each, and the events of the queues end what waits. -/
theorem packetsMoveThroughTheirStages : Obligations.PacketsMoveThroughTheirStages := by
  unfold Obligations.PacketsMoveThroughTheirStages
  intro s q x hx
  refine ⟨fun t' hr ht => ⟨fun p => ⟨_, rfl, fetchEvent_one hx hr ht p⟩, fun ps => ⟨_, rfl, fetchEvent_length hx hr ht ps⟩⟩,
    fun ps h => ⟨_, rfl, fetchEvent_stays h ps⟩,
    fun f hf => ⟨fun he hone => ⟨_, rfl, congrArg Host.Outcome.next (State.decodeNext_lands hx hf he hone)⟩,
      fun he hid => ⟨_, rfl, State.decodeNext_aborts hx hf he hid⟩⟩,
    fun f before hg hl hw hid => ?_,
    fun f hf => ⟨fun u d a hn => ⟨_, rfl, State.dispatchNext_dispatches hx hf hn⟩, fun hn => ⟨_, rfl, State.dispatchNext_stays hx hf hn⟩⟩,
    fun tag => ⟨fun bs => ⟨_, rfl, rfl⟩, fun f u e hf hu hid => ⟨_, rfl, readCompletion_fails hx hf hu hid⟩⟩,
    fun h2 ho hc ha hm => ⟨_, rfl, ?_⟩,
    fun e he hi hl hf hd => ⟨_, rfl, drainEnd_ends hx he hi hl hf hd⟩,
    ⟨_, rfl, rfl⟩, fun h => ⟨_, rfl, d3Exit_posts h⟩, fun h => ⟨_, rfl, slewEnd_ends h⟩⟩
  · have hgo : exec (.packetDecode q) s = .next (s.judgeNext q) := by
      rw [← State.decodeNext_landed (q := q) (by rw [← hx]; exact hg)]
      rfl
    rw [hx] at hl hid
    refine ⟨fun hh => ⟨_, hgo, State.judgeNext_refuses hl hw hid (by rw [State.judge, if_pos hh])⟩,
      fun st hj => ⟨_, hgo, State.judgeNext_refuses hl hw hid hj⟩, fun hj => ⟨_, hgo, ?_⟩⟩
    exact State.judgeNext_decodes hx (by rw [hx]; exact hl) hw hj
  · obtain ⟨hq, hsent⟩ := coalesceEvent_signals hx ⟨h2, ho, hc, ha⟩ hm
    refine ⟨?_, hsent, ?_⟩
    · exact congrArg Queue.owed hq
    · exact (congrArg Queue.inflight hq).trans rfl

end Sys2Proof.Machine
end

section
/-! PROOFS. `ISSUE` makes a ticket (R20, R77 to R80, R85, R183). -/

namespace Sys2Proof.Machine

set_option Elab.async false

/-! ## The two changes of an issued unit (R68, R76) -/

theorem moved_isSome {w c : Nat} {d : Int} : (moved w c d).isSome = true ↔ 0 ≤ (c : Int) + d ∧ (c : Int) + d < 2 ^ w := by
  rw [moved]
  split <;> simp_all

/-- Every counter stays within its width under a delta. -/
def Totals.fits (w : Nat) (d : Delta) (t : Totals) : Prop :=
  ∀ p ∈ [((t.l : Int), d.l), (t.m, d.m), (t.a, d.a), (t.r, d.r), (t.i, d.i), (t.s, d.s), (t.v, d.v), (t.t, d.t), (t.x, d.x), (t.w, d.w)],
    0 ≤ p.1 + p.2 ∧ p.1 + p.2 < 2 ^ w

theorem Totals.shift_isSome {w : Nat} {d : Delta} {t : Totals} : (t.shift w d).isSome = true ↔ t.fits w d := by
  simp only [Totals.fits, List.forall_mem_cons, List.not_mem_nil, false_implies, implies_true, and_true, ← moved_isSome]
  rw [Totals.shift]
  split
  · simp_all
  · next h =>
    simp only [Option.isSome_none, Bool.false_eq_true, false_iff]
    rintro ⟨h1, h2, h3, h4, h5, h6, h7, h8, h9, h10⟩
    obtain ⟨⟨_, e1⟩, ⟨_, e2⟩, ⟨_, e3⟩, ⟨_, e4⟩, ⟨_, e5⟩⟩ := And.intro (Option.isSome_iff_exists.mp h1)
      (And.intro (Option.isSome_iff_exists.mp h2) (And.intro (Option.isSome_iff_exists.mp h3)
      (And.intro (Option.isSome_iff_exists.mp h4) (Option.isSome_iff_exists.mp h5))))
    obtain ⟨⟨_, e6⟩, ⟨_, e7⟩, ⟨_, e8⟩, ⟨_, e9⟩, ⟨_, e10⟩⟩ := And.intro (Option.isSome_iff_exists.mp h6)
      (And.intro (Option.isSome_iff_exists.mp h7) (And.intro (Option.isSome_iff_exists.mp h8)
      (And.intro (Option.isSome_iff_exists.mp h9) (Option.isSome_iff_exists.mp h10))))
    exact h _ _ _ _ _ _ _ _ _ _ e1 e2 e3 e4 e5 e6 e7 e8 e9 e10

/-- A unit that went from A to R can go on to I where it could have gone from A to I at once. -/
theorem Totals.fits_issued {w : Nat} {t t' : Totals} (hm : t.movedBy { a := -1, r := 1 } t') (hr : t.fits w { a := -1, r := 1 })
    (hi : t.fits w { a := -1, i := 1 }) : t'.fits w { i := 1, r := -1 } := by
  simp only [Totals.fits, List.forall_mem_cons, List.not_mem_nil, false_implies, implies_true, and_true] at *
  obtain ⟨m1, m2, m3, m4, m5, m6, m7, m8, m9, m10⟩ := hm
  generalize (2 : Int) ^ w = b at *
  simp only at *
  omega

theorem checked_isSome {d : Delta} {p live : Totals} (hp : p.fits 40 d) (hl : live.fits 48 d) (hs : p.sound = true)
    (hs' : ∀ t, p.movedBy d t → t.sound = true) : (checked d p live).isSome = true := by
  obtain ⟨t, ht⟩ := Option.isSome_iff_exists.mp (Totals.shift_isSome.mpr hp)
  obtain ⟨l, hl⟩ := Option.isSome_iff_exists.mp (Totals.shift_isSome.mpr hl)
  rw [checked, hs, ht, hl]
  simp [hs' t (Totals.shift_some ht)]

theorem checked_fits {d : Delta} {p live : Totals} (h : (checked d p live).isSome = true) : p.fits 40 d ∧ live.fits 48 d := by
  rw [checked] at h
  split at h
  · cases h
  · split at h
    · next hp hl => exact ⟨Totals.shift_isSome.mp (Option.isSome_of_eq_some hp), Totals.shift_isSome.mp (Option.isSome_of_eq_some hl)⟩
    · cases h

theorem Totals.sound_iff {t : Totals} : t.sound = true ↔ t.l + t.m = t.a + t.r + t.i + t.s + t.v + t.t + t.x + t.w := by
  simp [Totals.sound]

section
variable {s u v w t : State} {n : PoolId} {g : Pool → Pool}

/-- The unit of a reservation passes the checker a second time where it could have been issued at once. -/
theorem State.checkerPasses_issued (hg : ∀ p, (g p).totals = p.totals) (hr : s.checkerPasses n { a := -1, r := 1 })
    (hi : s.checkerPasses n { a := -1, i := 1 }) : (s.change n { a := -1, r := 1 } g).1.checkerPasses n { i := 1, r := -1 } := by
  obtain ⟨p, tot, live, hp, hc, hv⟩ := State.change_passes g hr
  obtain ⟨p', hp', hc'⟩ := hi
  cases hp.symm.trans hp'
  obtain ⟨hm, hml, -, hs⟩ := checked_some hc
  obtain ⟨hf, hfl⟩ := checked_fits (Option.isSome_of_eq_some hc)
  obtain ⟨hf', hfl'⟩ := checked_fits hc'
  have htot : (g (p.withTotals tot)).totals = tot := hg _
  rw [hv]
  refine ⟨g (p.withTotals tot), State.pool_putPool .., ?_⟩
  rw [htot]
  refine checked_isSome (Totals.fits_issued hm hf hf') (Totals.fits_issued hml hfl hfl') hs fun t ht => ?_
  rw [Totals.sound_iff] at hs ⊢
  obtain ⟨m1, m2, m3, m4, m5, m6, m7, m8, m9, m10⟩ := ht
  simp only at *
  omega

/-- The two moves of an issued unit are one from A to I. -/
theorem State.poolMoved_issued (hg : ∀ (p : Pool) (a : Totals), (g p).withTotals a = g (p.withTotals a))
    (h1 : s.poolMoved u n { a := -1, r := 1 } g) (h2 : u.poolMoved t n { i := 1, r := -1 } id) : s.poolMoved t n { a := -1, i := 1 } g := by
  obtain ⟨p, tot, hp, hpu, hm, hs, hl, hother⟩ := h1
  obtain ⟨p', tot', hp', hpt, hm', hs', hl', hother'⟩ := h2
  cases hpu.symm.trans hp'
  refine ⟨p, tot', hp, ?_, ?_, hs', ?_, fun m hne => (hother' m hne).trans (hother m hne)⟩
  · rw [hpt, hg]
    rfl
  · have htot : (g (p.withTotals tot)).totals = tot := by
      have hself : (g (p.withTotals tot)).withTotals tot = g (p.withTotals tot) := hg _ _
      rw [← hself]
      rfl
    rw [htot] at hm'
    obtain ⟨m1, m2, m3, m4, m5, m6, m7, m8, m9, m10⟩ := hm
    obtain ⟨k1, k2, k3, k4, k5, k6, k7, k8, k9, k10⟩ := hm'
    simp only [Totals.movedBy] at *
    omega
  · obtain ⟨m1, m2, m3, m4, m5, m6, m7, m8, m9, m10⟩ := hl
    obtain ⟨k1, k2, k3, k4, k5, k6, k7, k8, k9, k10⟩ := hl'
    simp only [Totals.movedBy] at *
    omega

/-! ## The end of a GMAC `ISSUE`: entry, count and record (R20, R80) -/

/-- The register once an operation has run in it. -/
def State.registered (op : RegOp) (s : State) : State := { s with ru := { s.ru with reg := (s.ru.reg.operate op).1 } }

/-- The record of an issued ticket. -/
def IssueRun.record (r : IssueRun) (fp : BitVec 128) (s : State) : JRec :=
  { typ := 0x03, flags := if r.locked then 1 else 0, pool := r.pool, serial := r.serial, node := s.node, fp, delta := 1
    aux := BitVec.ofNat 32 (r.admitLimit.toNat + 256 * r.mode.toNat) }

variable {r : IssueRun} {h : Held} {cyc : Nat} {tail : Bytes} {fp : BitVec 128}

theorem State.completeIssue_eq (hfp : s.ticketFp r.pool r.serial fp) (hop : (s.ru.reg.operate (.insert (issueEntry s r fp))).2 = .ok)
    (hc : s.checkerPasses r.pool { i := 1, r := -1 }) (hv : v = ((s.registered (.insert (issueEntry s r fp))).change r.pool { i := 1, r := -1 } id).1) :
    s.completeIssue r tail cyc h =
      (((v.unpledge 1).chain (r.record fp v)).noteChange fp).afterGroup [.reply { h.withResult (r.header ++ tail) with cycles := sat 32 cyc }] := by
  obtain ⟨key, hkey, rfl⟩ := hfp
  have hrun : s.regRun (.insert (issueEntry s r (fingerprint key.key256 (ticketIdentity s.node r.pool r.serial)))) =
      (s.registered (.insert (issueEntry s r (fingerprint key.key256 (ticketIdentity s.node r.pool r.serial)))), .ok) := Prod.ext rfl hop
  obtain ⟨hpass, -⟩ := State.change_moves (s := s.registered (.insert (issueEntry s r (fingerprint key.key256
    (ticketIdentity s.node r.pool r.serial))))) id (n := r.pool) (d := { i := 1, r := -1 }) hc
  rw [State.completeIssue, State.fpk_ok hkey]
  dsimp only
  rw [hrun]
  dsimp only
  rw [hpass, ← hv]
  rfl

/-- What an `ISSUE` leaves that ends well: its unit counted, its entry in the register, its record chained, its reply waiting. -/
theorem State.completeIssue_issues (hfp : s.ticketFp r.pool r.serial fp) (hop : (s.ru.reg.operate (.insert (issueEntry s r fp))).2 = .ok)
    (hc : s.checkerPasses r.pool { i := 1, r := -1 }) (ht : t = s.completeIssue r tail cyc h) :
    s.poolMoved t r.pool { i := 1, r := -1 } id ∧
      t.ru.reg = { (s.ru.reg.operate (.insert (issueEntry s r fp))).1 with changed := t.ru.reg.changed } ∧
      t.ru.jrn.seq = s.ru.jrn.seq + 1 ∧ t.led.locks = s.led.locks ∧
      After.reply { h.withResult (r.header ++ tail) with cycles := sat 32 cyc } ∈ t.led.group.after := by
  obtain ⟨-, hm, htu, -, hlocks⟩ := State.change_moves (s := s.registered (.insert (issueEntry s r fp))) id (n := r.pool)
    (d := { i := 1, r := -1 }) hc
  have hru : ((s.registered (.insert (issueEntry s r fp))).change r.pool { i := 1, r := -1 } id).1.ru = (s.registered (.insert (issueEntry s r fp))).ru :=
    htu .ru (by decide)
  rw [State.completeIssue_eq hfp hop hc rfl] at ht
  generalize ((s.registered (.insert (issueEntry s r fp))).change r.pool { i := 1, r := -1 } id).1 = v at *
  have hled : (((v.unpledge 1).chain (r.record fp v)).noteChange fp).led = { v.led with group := { v.led.group with change := true } } :=
    State.chain_led _ _
  subst ht
  refine ⟨State.poolMoved_congr hm ⟨rfl, rfl⟩ ?_, ?_, ?_, ?_, ?_⟩
  · rw [State.afterGroup, hled]
    exact ⟨rfl, rfl⟩
  · have hreg : ((v.unpledge 1).chain (r.record fp v)).ru.reg = (s.ru.reg.operate (.insert (issueEntry s r fp))).1 := by
      rw [State.chain_reg]
      exact congrArg RegUnit.reg hru
    rw [← hreg]
    rfl
  · have hseq : ((v.unpledge 1).chain (r.record fp v)).ru.jrn.seq = v.ru.jrn.seq + 1 := State.chain_seq _ _
    rw [hru] at hseq
    exact hseq
  · rw [State.afterGroup, hled]
    exact hlocks
  · rw [State.afterGroup]
    simp

end

end Sys2Proof.Machine
end

section
/-! PROOFS. `ISSUE`: what it reserves, and the seal it goes on to (R77 to R80, R85, R183). -/

namespace Sys2Proof.Machine

set_option Elab.async false

/-! ## The reservation -/

/-- The state that a reservation makes: everything but the ledger is as it was. -/
structure State.Reserved (s v : State) : Prop where
  ks : v.ks = s.ks
  skn : v.skn = s.skn
  life : v.life = s.life
  gctl : v.gctl = s.gctl
  ru : v.ru = s.ru
  sl : v.sl = s.sl
  spn : v.spn = s.spn
  tmp : v.tmp = s.tmp

section
variable {c : Cmd} {s v w : State} {f : Fetched} {x : Ctx} {p : Pool} {n : PoolId} {serial m : Nat} {k : SealCtx} {run : IssueRun} {body : Bytes}

theorem State.reserved_begun (op : BitVec 16) (sub : Option Byte) (c : Cmd) (f : Fetched) (h : (s.begun op sub c f).touches [.led] v) :
    s.Reserved v where
  ks := (h .ks (by decide) : v.ks = _).trans (by simp)
  skn := (h .skn (by decide) : v.skn = _).trans (by simp)
  life := (Life.eq_of_others (h .life (by decide)) (h .fuses (by decide))).trans (by simp)
  gctl := (h .gctl (by decide) : v.gctl = _).trans (by simp)
  ru := (h .ru (by decide) : v.ru = _).trans (by simp)
  sl := (h .sl (by decide) : v.sl = _).trans (by simp)
  spn := (SpindleUnit.eq_of_others (h .spn (by decide)) (h .ran (by decide))).trans (by simp)
  tmp := (Tamper.eq_of_others (h .tmp (by decide)) (h .aot (by decide))).trans (by simp)

/-- The run of an `ISSUE` whose serial is reserved. -/
def Ctx.issueRun (x : Ctx) (serial : Nat) (s : State) : IssueRun :=
  { pool := x.pool, serial := BitVec.ofNat 40 serial, locked := x.c.pkt.locked
    header := ticketHeader s (x.c.pkt.byteAt 32) x.pool (BitVec.ofNat 40 serial) (x.c.pkt.field 34 2)
    admitLimit := x.c.pkt.byteAt 33, mode := x.c.pkt.byteAt 32, time := s.gctl.time }

theorem State.Reserved.issueRun (h : s.Reserved v) (x : Ctx) (serial : Nat) : x.issueRun serial v = x.issueRun serial s := by
  simp only [Ctx.issueRun, ticketHeader, State.node, h.skn, h.life, h.gctl]

theorem issueWith_seals {t : TicketSeal} (hl : x.c.pkt.locked = true → (x.ownLock s).isSome = true)
    (ht : s.ticketSeal x.c.pkt = (s, .ok t)) (hp : s.pool x.pool = some p) (hr : issueRefusal x s p = none)
    (hv : s.reserve x p = (v, some serial)) :
    issueWith x s body = { s := (v.pledge 1).issueSeal x t (x.issueRun serial v) body, cyc := 0, when_ := .later } := by
  have hlock : ¬ (x.c.pkt.locked && (x.ownLock s).isNone) = true := by
    rw [Bool.and_eq_true]
    rintro ⟨h1, h2⟩
    rw [Option.isNone_iff_eq_none] at h2
    have := hl h1
    rw [h2] at this
    cases this
  rw [issueWith]
  dsimp only
  rw [if_neg hlock, ht]
  dsimp only
  rw [hp]
  dsimp only
  rw [hr]
  dsimp only
  rw [hv]
  rfl

theorem State.ticketSeal_gmac {q : Packet} (hmode : q.byteAt 32 ≠ 1) (hrun : s.runOf (hIndex q.handleB) = none)
    (hk : s.sealCtx (hIndex q.handleB) = some k) (hb : k.st ≠ ctBroken) (hp : k.permits (q.byteAt 32).toNat = true) :
    s.ticketSeal q = (s, .ok (.gmac (hIndex q.handleB) k)) := by
  rw [State.ticketSeal]
  dsimp only
  rw [if_neg hmode, State.settleCtx_idle hrun, hk]
  dsimp only
  rw [if_neg hb, if_pos hp]

theorem State.ticketSeal_sm2 {q : Packet} {slot : Slot} {k : SignKey} (hmode : q.byteAt 32 = 1)
    (hs : s.slotServes (hIndex q.handleB) useSign slot) (hk : signKey s slot = some k) : s.ticketSeal q = (s, .ok (.sm2 k)) := by
  rw [State.ticketSeal]
  dsimp only
  rw [if_pos hmode, State.useSlot_ok hs]
  dsimp only
  rw [hk]

/-- An `ISSUE` of the pool's own units passes its checks, and takes one of them with the pool's next serial. -/
theorem issue_unlocked (hl : x.c.pkt.locked = false) (ho : s.isOpen p = true) (ha : s.admits)
    (hx : p.exclusive = false ∨ s.lock x.pool = none) (hu : 1 ≤ p.a) (hn : p.next ≤ p.limit) (hc : s.checkerPasses x.pool { a := -1, r := 1 }) :
    issueRefusal x s p = none ∧
      s.reserve x p = ((s.change x.pool { a := -1, r := 1 } (fun q => { q with next := p.next + 1 })).1, some p.next) := by
  obtain ⟨hroom, hsup⟩ := ha
  obtain ⟨hpass, -⟩ := State.change_moves (fun q => { q with next := p.next + 1 }) hc
  refine ⟨?_, by rw [State.reserve, hl, if_neg (by decide), hpass]⟩
  rcases hx with hx | hx <;> simp [issueRefusal, firstFail, hl, ho, hroom, hsup, hx, hu, hn]

/-- The state of a lock from which a unit is taken. -/
def State.lockTaken (n : PoolId) (l : Lock) (s : State) : State :=
  { s with led := { s.led with locks := s.led.locks.put n.toNat { l with units := l.units - 1, next := l.next + 1 } } }

/-- An `ISSUE` of a lock passes its checks, and takes one of its units with its next serial. -/
theorem issue_locked {l : Lock} (hl : x.c.pkt.locked = true) (ho : s.isOpen p = true) (ha : s.admits) (hk : s.lock x.pool = some l)
    (hq : l.q = x.c.q) (he : l.epoch = x.epoch) (hu : 1 ≤ l.units) :
    (x.ownLock s).isSome = true ∧ issueRefusal x s p = none ∧ s.reserve x p = (s.lockTaken x.pool l, some l.next) := by
  obtain ⟨hroom, hsup⟩ := ha
  have hown : x.ownLock s = some l := by simp [Ctx.ownLock, hk, hq, he]
  refine ⟨by rw [hown]; rfl, by simp [issueRefusal, firstFail, hl, ho, hroom, hsup, hk, hu], ?_⟩
  rw [State.reserve, hl, if_pos rfl, hk]
  rfl

/-! ## A GMAC seal made in one step -/

theorem issueEntry_congr {t : State} (h : t.skn = s.skn) (r : IssueRun) (fp : BitVec 128) : issueEntry t r fp = issueEntry s r fp := by
  simp only [issueEntry, State.node, h]

theorem State.ticketFp_of_fpkSlot {t : State} (hk : t.ks = s.ks) (hs : t.skn = s.skn) (hf : t.ru.reg.fpkSlot = s.ru.reg.fpkSlot) {sn : Serial}
    {fp : BitVec 128} (h : s.ticketFp n sn fp) : t.ticketFp n sn fp := by
  obtain ⟨key, hserve, hfp⟩ := h
  refine ⟨key, ?_, ?_⟩
  · rw [hf]
    exact (State.useSlot_congr hk ..).trans hserve
  · rw [State.node, hs]
    exact hfp

theorem State.quiet_congr {t : State} (h : t.sl = s.sl) : t.quiet 14 = s.quiet 14 := by
  have hasks : State.runAsks t = State.runAsks s := by
    funext r
    rw [State.runAsks, State.runAsks, h]
  simp only [State.quiet, State.asks, hasks, h]

/-- The state in which the seal of an `ISSUE` has been made. -/
def State.sealedNow (x : Ctx) (m blocks : Nat) (s : State) : State := ((s.pledge 1).cacheUse m).passed x.unit blocks

theorem State.issueSeal_now (ha : x.c.async = false) (hq : s.quiet 14 = true) :
    ∃ a b, (s.pledge 1).issueSeal x (.gmac m k) run body =
      (s.sealedNow x m (1 + ceilDiv (24 + body.length) 16)).completeIssue run (k.gmac run.mode.toNat run.header body) a
        (x.held 0 b (inlAt 0 run.serial.toNat) (zeros (24 + if run.mode = 2 then 16 else 8))) := by
  have hquiet : (s.pledge 1).quiet 14 = true := (State.quiet_congr rfl).trans hq
  rw [State.issueSeal, if_neg (by simp [ha, hquiet])]
  exact ⟨_, _, rfl⟩

theorem State.sealedNow_keeps (x : Ctx) (m b : Nat) (s : State) :
    (s.sealedNow x m b).ks = s.ks ∧ (s.sealedNow x m b).skn = s.skn ∧ (s.sealedNow x m b).ru = (s.pledge 1).ru ∧
      (s.sealedNow x m b).led = s.led := by
  have h : (s.pledge 1).touches [.sl, .arb] (s.sealedNow x m b) := by simp [State.sealedNow]
  exact ⟨h .ks (by decide), h .skn (by decide), h .ru (by decide), h .led (by decide)⟩

/-- An `ISSUE` under a TICKET context whose seal is made in one step, and whose entry the register takes. -/
structure IssuesGmac (c : Cmd) (s : State) (f : Fetched) (run : IssueRun) (k : SealCtx) (fp : BitVec 128) : Prop where
  runs : Runs 0x0203 none c s f
  memErr : c.memErr = none
  mode : c.pkt.byteAt 32 ≠ 1
  blocks : s.blocksPass c 14
  idle : s.runOf (hIndex c.pkt.handleB) = none
  ctx : s.sealCtx (hIndex c.pkt.handleB) = some k
  sound : k.st ≠ ctBroken
  permits : k.permits (c.pkt.byteAt 32).toNat = true
  names : s.ticketFp run.pool run.serial fp
  enters : (s.ru.reg.operate (.insert (issueEntry s run fp))).2 = .ok

/-- What such an `ISSUE` makes once its unit is reserved. -/
theorem completes_issueGmac {fp : BitVec 128} (hg : IssuesGmac c s f run k fp)
    (hlock : c.pkt.locked = true → ((s.ctxRun 0x0203 none c f).ownLock (s.begun 0x0203 none c f)).isSome = true)
    (hp : s.pool c.poolA = some p) (href : issueRefusal (s.ctxRun 0x0203 none c f) (s.begun 0x0203 none c f) p = none)
    (hv : (s.begun 0x0203 none c f).reserve (s.ctxRun 0x0203 none c f) p = (v, some serial))
    (hrun : run = (s.ctxRun 0x0203 none c f).issueRun serial s) (hkeep : s.Reserved v) (hc : v.checkerPasses run.pool { i := 1, r := -1 }) :
    Completes (.issue c) s fun t =>
      v.poolMoved t run.pool { i := 1, r := -1 } id ∧
        t.ru.reg = { (s.ru.reg.operate (.insert (issueEntry s run fp))).1 with changed := t.ru.reg.changed } ∧
        t.ru.jrn.seq = s.ru.jrn.seq + 1 ∧ t.led.locks = v.led.locks ∧
        ∃ a b, After.reply { ((s.ctxRun 0x0203 none c f).held 0 b (inlAt 0 run.serial.toNat)
            (zeros (24 + if run.mode = 2 then 16 else 8))).withResult (run.header ++ k.gmac run.mode.toNat run.header c.bytes) with
          cycles := sat 32 a } ∈ t.led.group.after := by
  obtain ⟨h, hm, hmode, hb, hrunOf, hk, hbr, hper, hfp, hop⟩ := hg
  have hseal := State.ticketSeal_gmac (s := s.begun 0x0203 none c f) (q := (s.ctxRun 0x0203 none c f).c.pkt) (k := k) (by simpa using hmode)
    (by simpa [State.begun_runOf] using hrunOf) (by simpa [State.begun_sealCtx] using hk) hbr (by simpa using hper)
  have hbody := issueWith_seals (body := c.bytes) (by simpa using hlock) hseal (by rw [State.ctxRun_pool, State.begun_pool]; exact hp) href hv
  rw [hkeep.issueRun, ← hrun] at hbody
  obtain ⟨hasync, hquiet⟩ := hb
  obtain ⟨a, b, hnow⟩ := State.issueSeal_now (s := v) (x := s.ctxRun 0x0203 none c f) (m := hIndex c.pkt.handleB) (k := k) (run := run)
    (body := c.bytes) (by simpa using hasync) ((State.quiet_congr hkeep.sl).trans hquiet)
  have hgo : issueBody (s.ctxRun 0x0203 none c f) (s.begun 0x0203 none c f) = _ := (withData_ok hm _ _).trans hbody
  refine completes_later h rfl hgo rfl ?_
  have hbh : (s.ctxRun 0x0203 none c f).c.pkt.handleB = c.pkt.handleB := by simp
  dsimp only
  rw [hbh, hnow]
  obtain ⟨hks, hskn, hru, hled⟩ := State.sealedNow_keeps (s.ctxRun 0x0203 none c f) (hIndex c.pkt.handleB) (1 + ceilDiv (24 + c.bytes.length) 16) v
  generalize hu : v.sealedNow (s.ctxRun 0x0203 none c f) (hIndex c.pkt.handleB) (1 + ceilDiv (24 + c.bytes.length) 16) = u at *
  have hreg : u.ru.reg = s.ru.reg := by
    rw [hru, ← hkeep.ru]
    rfl
  have hent : issueEntry u run fp = issueEntry s run fp := issueEntry_congr (hskn.trans hkeep.skn) run fp
  obtain ⟨h1, h2, h3, h4, h5⟩ := State.completeIssue_issues (s := u) (r := run) (fp := fp) (cyc := a) (tail := k.gmac run.mode.toNat run.header c.bytes)
    (h := (s.ctxRun 0x0203 none c f).held 0 b (inlAt 0 run.serial.toNat) (zeros (24 + if run.mode = 2 then 16 else 8)))
    (State.ticketFp_of_fpkSlot (hks.trans hkeep.ks) (hskn.trans hkeep.skn) (by rw [hreg]) hfp) (by rw [hent, hreg]; exact hop)
    (by simpa [State.checkerPasses, State.pool, hled] using hc) rfl
  refine ⟨State.poolMoved_congr h1 (by rw [hled]; exact ⟨rfl, rfl⟩) ⟨rfl, rfl⟩, ?_, ?_, h4.trans (by rw [hled]), a, b, h5⟩
  · rw [h2, hent, hreg]
  · rw [h3, hru, State.pledge]
    dsimp only
    rw [hkeep.ru]

end

end Sys2Proof.Machine
end

section
/-! PROOFS. `ISSUE` of the pool's own units and of a lock's, under each seal (R77 to R80, R85, R183). -/

namespace Sys2Proof.Machine

set_option Elab.async false

section
variable {c : Cmd} {s : State} {f : Fetched} {p : Pool} {n : PoolId} {serial : Serial} {k : SealCtx} {run : IssueRun} {fp : BitVec 128}

theorem Ctx.issueRun_ctxRun (sn : Nat) : (s.ctxRun 0x0203 none c f).issueRun sn s =
    { pool := c.poolA, serial := BitVec.ofNat 40 sn, locked := c.pkt.locked
      header := ticketHeader s (c.pkt.byteAt 32) c.poolA (BitVec.ofNat 40 sn) (c.pkt.field 34 2)
      admitLimit := c.pkt.byteAt 33, mode := c.pkt.byteAt 32, time := s.gctl.time } := by
  simp [Ctx.issueRun, State.ctxRun_pool]

/-- What an `ISSUE` of the pool's own units reserves. -/
theorem issue_reserves (hl : c.pkt.locked = false) (hp : s.pool c.poolA = some p) (ho : s.isOpen p = true) (ha : s.admits)
    (hx : p.exclusive = false ∨ s.lock c.poolA = none) (hu : 1 ≤ p.a) (hn : p.next ≤ p.limit) (hc : s.checkerPasses c.poolA { a := -1, r := 1 }) :
    ∃ v, issueRefusal (s.ctxRun 0x0203 none c f) (s.begun 0x0203 none c f) p = none ∧
      (s.begun 0x0203 none c f).reserve (s.ctxRun 0x0203 none c f) p = (v, some p.next) ∧ s.Reserved v ∧
      s.poolMoved v c.poolA { a := -1, r := 1 } (fun p => { p with next := p.next + 1 }) ∧
      (s.checkerPasses c.poolA { a := -1, i := 1 } → v.checkerPasses c.poolA { i := 1, r := -1 }) := by
  have hcb := State.checkerPasses_begun 0x0203 none c f hc
  obtain ⟨-, hm, ht, -⟩ := State.change_moves (fun q => { q with next := p.next + 1 }) hcb
  obtain ⟨h1, h2⟩ := issue_unlocked (x := s.ctxRun 0x0203 none c f) (s := s.begun 0x0203 none c f) (p := p) (by simpa using hl)
    (by simpa using ho) (State.admits_begun _ _ _ _ ha)
    (hx.imp id fun h => by rw [State.ctxRun_pool]; exact State.lock_begun_none h) hu hn (by rw [State.ctxRun_pool]; exact hcb)
  rw [State.ctxRun_pool] at h2
  refine ⟨_, h1, h2, State.reserved_begun _ _ _ _ ht, ?_, fun hi =>
    State.checkerPasses_issued (fun _ => rfl) hcb (State.checkerPasses_begun 0x0203 none c f hi)⟩
  obtain ⟨p', tot, hp', hv, hm', hs', hl', ho'⟩ := hm
  have hpp : p' = p := Option.some.inj (hp'.symm.trans (by simpa using hp))
  subst hpp
  exact ⟨p', tot, hp, hv, hm', hs', by simpa using hl', fun m hne => (ho' m hne).trans (by simp)⟩

/-- The result of an `ISSUE` under a context, cut to what its packet takes. -/
theorem issue_write {x : Ctx} {a b len : Nat} {inl : BitVec 64} {bs : Bytes} (hlen : 0 < len) :
    ({ (x.held 0 b inl (zeros len)).withResult bs with cycles := sat 32 a } : Held).write =
      some (x.c.pkt.outPtr, bs.take (min x.c.pkt.outLen.toNat len)) := by
  have hne : ¬ len = 0 := by omega
  simp [Ctx.held, Held.withResult, zeros, hne]

/-- A GMAC `ISSUE` of the pool's own units. -/
theorem completes_issueGmac_unlocked {len : Nat} {bs : Bytes} (hg : IssuesGmac c s f run k fp) (hp : s.pool c.poolA = some p)
    (ho : s.isOpen p = true) (ha : s.admits) (hrun : run = (s.ctxRun 0x0203 none c f).issueRun p.next s)
    (hlen : len = 24 + (if c.pkt.byteAt 32 = 2 then 16 else 8)) (hbs : bs = run.header ++ k.gmac (c.pkt.byteAt 32).toNat run.header c.bytes)
    (hl : c.pkt.locked = false) (hx : p.exclusive = false ∨ s.lock c.poolA = none) (hu : 1 ≤ p.a) (hn : p.next ≤ p.limit)
    (hc : s.checkerPasses c.poolA { a := -1, r := 1 }) (hi : s.checkerPasses c.poolA { a := -1, i := 1 }) :
    Completes (.issue c) s fun t =>
      s.poolMoved t c.poolA { a := -1, i := 1 } (fun p => { p with next := p.next + 1 }) ∧
      t.ru.reg = { (s.ru.reg.operate (.insert (issueEntry s run fp))).1 with changed := t.ru.reg.changed } ∧
      t.ru.jrn.seq = s.ru.jrn.seq + 1 ∧
      ∃ h, After.reply h ∈ t.led.group.after ∧ h.q = c.q ∧ h.id = f.id ∧ h.status = 0 ∧ h.inl = inlAt 0 run.serial.toNat ∧
        h.write = some (c.pkt.outPtr, bs.take (min c.pkt.outLen.toNat len)) := by
  obtain ⟨v, h1, h2, h3, h4, h5⟩ := issue_reserves (f := f) hl hp ho ha hx hu hn hc
  have hr := hrun.trans (Ctx.issueRun_ctxRun p.next)
  have hpool : run.pool = c.poolA := by rw [hr]
  have hrm : run.mode = c.pkt.byteAt 32 := by rw [hr]
  refine Completes.mono (completes_issueGmac hg (fun hh => by rw [hl] at hh; cases hh) hp h1 h2 hrun h3 (by rw [hpool]; exact h5 hi))
    fun t ht => ?_
  obtain ⟨k1, k2, k3, -, a, b, k5⟩ := ht
  rw [hpool] at k1
  refine ⟨State.poolMoved_issued (fun _ _ => rfl) h4 k1, k2, k3, _, k5, rfl, rfl, rfl, rfl, ?_⟩
  rw [issue_write (by omega), hrm, ← hbs, ← hlen]
  simp

theorem State.checkerPasses_of_pools {t : State} {d : Delta} (h : t.led.pools = s.led.pools ∧ t.led.live = s.led.live)
    (hc : s.checkerPasses n d) : t.checkerPasses n d := by
  obtain ⟨p, hp, hpass⟩ := hc
  exact ⟨p, (State.pool_congr h.1 n).trans hp, by rw [h.2]; exact hpass⟩

/-! ## `ISSUE` of a lock's units (R85, R86) -/

/-- A lock of its queue that a packet of the ledger names has its lease restarted. -/
theorem State.lock_begun_owned {l : Lock} (hl : c.pkt.locked = true) (hk : s.lock c.poolA = some l) (hq : l.q = c.q)
    (he : l.epoch = (s.queue c.q).epoch) :
    (s.begun 0x0203 none c f).lock c.poolA = some { l with deadline := s.now + l.lease * 800000 } := by
  have hname : (opInfo (rowPacket 0x0203 none c.pkt).opcode).bind (namedPool (rowPacket 0x0203 none c.pkt)) = some c.poolA := by
    rw [rowPacket_opcode]
    rfl
  have hepoch : ((s.setFetched c.q { f with running := true }).queue c.q).epoch = (s.queue c.q).epoch := by
    rw [State.setFetched, State.queue_setQueue]
  have hlk : (s.setFetched c.q { f with running := true }).lock c.poolA = some l := hk
  have hreach : reachesLedger (rowPacket 0x0203 none c.pkt).opcode.toNat = true := by
    rw [rowPacket_opcode]
    decide
  have hgo : (s.setFetched c.q { f with running := true }).touchLock c.q (rowPacket 0x0203 none c.pkt) =
      { s.setFetched c.q { f with running := true } with
        led := { s.led with locks := s.led.locks.put c.poolA.toNat { l with deadline := s.now + l.lease * 800000 } } } := by
    rw [State.touchLock, hname]
    dsimp only
    rw [hlk]
    dsimp only
    rw [if_pos (by rw [hreach, hepoch]; simp [hl, hq, he])]
    rfl
  have hbegun : (s.begun 0x0203 none c f).led = { s.led with locks := s.led.locks.put c.poolA.toNat { l with deadline := s.now + l.lease * 800000 } } := by
    have hmss : (s.begun 0x0203 none c f).led = ((s.setFetched c.q { f with running := true }).touchLock c.q (rowPacket 0x0203 none c.pkt)).led := by
      rw [State.begun]
      dsimp only
      split <;> rfl
    rw [hmss, hgo]
  rw [State.lock, hbegun]
  exact Tab.find_put ..

theorem State.lockTaken_touches (n : PoolId) (l : Lock) (s : State) : s.touches [.led] (s.lockTaken n l) := by simp [State.lockTaken]

/-- A GMAC `ISSUE` of a lock's units. -/
theorem completes_issueGmac_locked {l : Lock} (hg : IssuesGmac c s f run k fp) (hp : s.pool c.poolA = some p) (ho : s.isOpen p = true)
    (ha : s.admits) (hrun : run = (s.ctxRun 0x0203 none c f).issueRun l.next s) (hl : c.pkt.locked = true) (hk : s.lock c.poolA = some l)
    (hq : l.q = c.q) (he : l.epoch = (s.queue c.q).epoch) (hu : 1 ≤ l.units) (hc : s.checkerPasses c.poolA { i := 1, r := -1 }) :
    Completes (.issue c) s fun t =>
      s.poolMoved t c.poolA { i := 1, r := -1 } (fun p => p) ∧
      t.lock c.poolA = some { l with units := l.units - 1, next := l.next + 1, deadline := s.now + l.lease * 800000 } ∧
      t.ru.reg = { (s.ru.reg.operate (.insert (issueEntry s run fp))).1 with changed := t.ru.reg.changed } ∧
      t.ru.jrn.seq = s.ru.jrn.seq + 1 ∧ t.answersDurable c.q f (inlAt 0 run.serial.toNat) := by
  have hlock := State.lock_begun_owned (f := f) hl hk hq he
  obtain ⟨h1, h2, h3⟩ := issue_locked (x := s.ctxRun 0x0203 none c f) (s := s.begun 0x0203 none c f) (p := p)
    (l := { l with deadline := s.now + l.lease * 800000 }) (by simpa using hl) (by simpa using ho)
    (State.admits_begun _ _ _ _ ha) (by rw [State.ctxRun_pool]; exact hlock) (by simpa using hq) (by simpa using he) hu
  have hpool : run.pool = c.poolA := by rw [hrun, Ctx.issueRun_ctxRun]
  have hpools : ((s.begun 0x0203 none c f).lockTaken c.poolA { l with deadline := s.now + l.lease * 800000 }).led.pools = s.led.pools ∧
      ((s.begun 0x0203 none c f).lockTaken c.poolA { l with deadline := s.now + l.lease * 800000 }).led.live = s.led.live :=
    ⟨State.begun_pools .., State.begun_live ..⟩
  rw [State.ctxRun_pool] at h3
  refine Completes.mono (completes_issueGmac hg (fun _ => h1) hp h2 h3 hrun
    (State.reserved_begun _ _ _ _ (State.lockTaken_touches _ _ _)) (by rw [hpool]; exact State.checkerPasses_of_pools hpools hc)) fun t ht => ?_
  obtain ⟨k1, k2, k3, k4, a, b, k5⟩ := ht
  rw [hpool] at k1
  refine ⟨State.poolMoved_congr k1 hpools ⟨rfl, rfl⟩, ?_, k2, k3, _, k5, rfl, rfl, ?_, rfl, rfl⟩
  · rw [State.lock, k4]
    exact Tab.find_put ..
  · simp [Ctx.held, Held.withResult, hg.runs.pkt]

/-! ## A GMAC seal that the pipeline makes (R183, R192) -/

theorem State.askFill_runs (m : Nat) (s : State) : (s.askFill m).sl.runs = s.sl.runs := by
  unfold State.askFill
  split
  · obtain ⟨a, b, d, e, h⟩ := State.cacheUse_eq m s
    rw [h]
  · split <;> rfl

/-- A run that starts is its context's run; the ledger and the register unit stay. -/
theorem State.startRun_starts {r : SealRun} {s : State} (hn : s.runOf r.ctx = none) (k : SealCtx) :
    (s.startRun r k).runOf r.ctx = some r ∧ (s.startRun r k).led = s.led ∧ (s.startRun r k).ru = s.ru := by
  have ht : s.touches [.sl, .arb] (s.startRun r k) := by simp
  refine ⟨?_, ht .led (by decide), ht .ru (by decide)⟩
  have hsl : (s.startRun r k).sl.runs = s.sl.runs ++ [r] := by
    have hsync (u : State) : (u.sync 14).sl = u.sl := by simp
    rw [State.startRun]
    dsimp only
    rw [hsync]
    dsimp only
    rw [State.setCtx]
    dsimp only
    rw [State.askFill_runs]
  rw [State.runOf] at hn ⊢
  rw [hsl, List.find?_append, hn]
  simp

/-- An `ISSUE` that starts a run of the seal pipeline. -/
theorem completes_issueRun (h : Runs 0x0203 none c s f) (hm : c.memErr = none) (hp : s.pool c.poolA = some p) (ho : s.isOpen p = true)
    (ha : s.admits) (hrun : run = (s.ctxRun 0x0203 none c f).issueRun p.next s) (hmode : c.pkt.byteAt 32 ≠ 1) (hasync : c.async = true)
    (hrunOf : s.runOf (hIndex c.pkt.handleB) = none) (hk : s.sealCtx (hIndex c.pkt.handleB) = some k) (hb : k.st ≠ ctBroken)
    (hper : k.permits (c.pkt.byteAt 32).toNat = true) (hl : c.pkt.locked = false) (hx : p.exclusive = false ∨ s.lock c.poolA = none)
    (hu : 1 ≤ p.a) (hn : p.next ≤ p.limit) (hc : s.checkerPasses c.poolA { a := -1, r := 1 }) :
    Completes (.issue c) s fun t =>
      s.poolMoved t c.poolA { a := -1, r := 1 } (fun p => { p with next := p.next + 1 }) ∧
      t.ru.jrn.pledged = s.ru.jrn.pledged + 1 ∧ t.ru.reg = s.ru.reg ∧
      ∃ r cyc, t.runOf (hIndex c.pkt.handleB) = some r ∧ r.kind = .ticket run cyc ∧ r.aad = run.header ++ c.bytes ∧ r.data = [] ∧
        r.j0 = true ∧ r.h.q = c.q ∧ r.h.id = f.id := by
  obtain ⟨v, h1, h2, h3, h4, -⟩ := issue_reserves (f := f) hl hp ho ha hx hu hn hc
  have hbh : (s.ctxRun 0x0203 none c f).c.pkt.handleB = c.pkt.handleB := by simp
  have hseal := State.ticketSeal_gmac (s := s.begun 0x0203 none c f) (q := (s.ctxRun 0x0203 none c f).c.pkt) (k := k) (by simpa using hmode)
    (by simpa [State.begun_runOf] using hrunOf) (by simpa [State.begun_sealCtx] using hk) hb (by simpa using hper)
  have hbody := issueWith_seals (body := c.bytes) (by simp [hl]) hseal (by rw [State.ctxRun_pool, State.begun_pool]; exact hp) h1 h2
  rw [h3.issueRun, ← hrun, hbh] at hbody
  have hgo : issueBody (s.ctxRun 0x0203 none c f) (s.begun 0x0203 none c f) = _ := (withData_ok hm _ _).trans hbody
  refine completes_later h rfl hgo rfl ?_
  have hstart : ∃ r cyc kk, (v.pledge 1).issueSeal (s.ctxRun 0x0203 none c f) (.gmac (hIndex c.pkt.handleB) k) run c.bytes =
      (v.pledge 1).startRun r kk ∧ r.ctx = hIndex c.pkt.handleB ∧ r.kind = .ticket run cyc ∧ r.aad = run.header ++ c.bytes ∧ r.data = [] ∧
        r.j0 = true ∧ r.h.q = c.q ∧ r.h.id = f.id := by
    rw [State.issueSeal, if_pos (by simp [hasync])]
    exact ⟨_, _, _, rfl, rfl, rfl, rfl, rfl, rfl, rfl, rfl⟩
  obtain ⟨r, cyc, kk, hs, hctx, hr⟩ := hstart
  obtain ⟨hrun', hled, hru⟩ := State.startRun_starts (s := v.pledge 1) (r := r) (by
    rw [hctx, ← hrunOf]
    exact congrArg (fun sl : SealUnit => sl.runs.find? (·.ctx == hIndex c.pkt.handleB)) h3.sl) kk
  dsimp only
  rw [hs]
  refine ⟨State.poolMoved_congr h4 ⟨rfl, rfl⟩ (by rw [hled]; exact ⟨rfl, rfl⟩), ?_, ?_, r, cyc, by rw [← hctx]; exact hrun', hr⟩
  · rw [hru, ← h3.ru]
    rfl
  · rw [hru, ← h3.ru]
    rfl

/-! ## An SM2 seal on a signing spindle (R80, R145, R234) -/

/-- While the entropy source delivers, a sign program starts on the lowest idle signing spindle. -/
theorem State.idleFor_delivers {g : Prog} (he : s.entropyOk = true) (hg : g.signs = true) : s.idleFor g = s.idleSpindle true := by
  rw [State.idleFor, if_pos hg, State.idleSpindle, he]
  simp

/-- A sign job starts on the spindle that is idle for it. -/
theorem State.runJob_starts {j : Job} {m : Nat} (hstop : s.jobsStopped j.prog.signing = false)
    (hi : s.idleFor j.prog = some m) (hm : m < 40) :
    (∃ j', ((s.runJob j true).spindle m).job = some j' ∧ j'.what = j.what ∧ j'.len = j.len) ∧ (s.runJob j true).led = s.led ∧
      (s.runJob j true).ru = s.ru := by
  have hgo : s.runJob j true = (s.grantAtOnce (spindleArb j.prog.signing) (standardRequester j.h.unit)).startJob m j := by
    rw [State.runJob, if_neg (by rw [hstop]; decide), if_neg (by rw [hi]; simp), State.request]
    dsimp only
    rw [hi]
    rfl
  have ht : s.touches [.spn, .ks, .arb, .ran] (s.runJob j true) := by
    rw [hgo]
    simp
  refine ⟨?_, ht .led (by decide), ht .ru (by decide)⟩
  rw [hgo, State.startJob, State.spindle_setSpindle _ _ hm]
  exact ⟨_, rfl, rfl, rfl⟩

/-- An `ISSUE` that starts its signature. -/
theorem completes_issueSign {slot : Slot} {key : SignKey} {m : Nat} (h : Runs 0x0203 none c s f) (hm : c.memErr = none)
    (hp : s.pool c.poolA = some p) (ho : s.isOpen p = true) (ha : s.admits) (hrun : run = (s.ctxRun 0x0203 none c f).issueRun p.next s)
    (hmode : c.pkt.byteAt 32 = 1) (hasync : c.async = true) (hserve : s.slotServes (hIndex c.pkt.handleB) useSign slot)
    (hkey : signKey s slot = some key) (hidle : s.idleSpindle true = some m) (hhold : s.holding = false)
    (hl : c.pkt.locked = false) (hx : p.exclusive = false ∨ s.lock c.poolA = none) (hu : 1 ≤ p.a) (hn : p.next ≤ p.limit)
    (hc : s.checkerPasses c.poolA { a := -1, r := 1 }) :
    Completes (.issue c) s fun t =>
      s.poolMoved t c.poolA { a := -1, r := 1 } (fun p => { p with next := p.next + 1 }) ∧ t.ru.jrn.pledged = s.ru.jrn.pledged + 1 ∧
      ∃ j, (t.spindle m).job = some j ∧ j.what = .issue run ∧ j.len = lenSign key.num key.cv.w := by
  obtain ⟨v, h1, h2, h3, h4, -⟩ := issue_reserves (f := f) hl hp ho ha hx hu hn hc
  have hbh : (s.ctxRun 0x0203 none c f).c.pkt.handleB = c.pkt.handleB := by simp
  have hkey' : signKey (s.begun 0x0203 none c f) slot = some key := by
    rw [signKey, State.curve, State.begun_spn]
    exact hkey
  have hseal := State.ticketSeal_sm2 (s := s.begun 0x0203 none c f) (q := (s.ctxRun 0x0203 none c f).c.pkt) (slot := slot) (by simpa using hmode)
    (by rw [hbh]; exact (State.useSlot_congr (State.begun_ks ..) _ _).trans hserve) hkey'
  have hbody := issueWith_seals (body := c.bytes) (by simp [hl]) hseal (by rw [State.ctxRun_pool, State.begun_pool]; exact hp) h1 h2
  rw [h3.issueRun, ← hrun] at hbody
  have hgo : issueBody (s.ctxRun 0x0203 none c f) (s.begun 0x0203 none c f) = _ := (withData_ok hm _ _).trans hbody
  refine completes_later h rfl hgo rfl ?_
  have hjob : ∃ j n, (v.pledge 1).issueSeal (s.ctxRun 0x0203 none c f) (.sm2 key) run c.bytes = ((v.pledge 1).hashed n).runJob j true ∧
      j.prog.signs = true ∧ j.prog.signing = true ∧ j.what = .issue run ∧ j.len = lenSign key.num key.cv.w := by
    rw [State.issueSeal, State.ctxRun_c, hasync]
    exact ⟨_, _, rfl, rfl, rfl, rfl, rfl⟩
  obtain ⟨j, n, hs, hj1, hj2, hj3, hj4⟩ := hjob
  have hent : s.entropyOk = true := by
    have htaken := h.taken
    have hneed : needsEntropy (rowPacket 0x0203 none c.pkt) = true := by
      rw [needsEntropy, rowPacket_opcode, rowPacket_none_byteAt, hmode]
      rfl
    rw [State.holdsBack, hneed] at htaken
    simpa using (Bool.or_eq_false_iff.mp htaken).2
  have hspn : ((v.pledge 1).hashed n).spn = s.spn := h3.spn
  have hidle' : ((v.pledge 1).hashed n).idleFor j.prog = some m := by
    rw [State.idleFor_delivers _ hj1, ← hidle]
    · rw [State.idleSpindle, State.idleSpindle]
      simp only [State.spindle, hspn]
    · rw [← hent, State.entropyOk, State.entropyOk]
      rw [show ((v.pledge 1).hashed n).ks = s.ks from h3.ks]
  obtain ⟨⟨j', k1, k2, k3⟩, hled, hru⟩ := State.runJob_starts (s := (v.pledge 1).hashed n) (by
    rw [hj2, State.jobsStopped, if_pos rfl, ← hhold, State.holding, State.holding]
    rw [show ((v.pledge 1).hashed n).tmp = s.tmp from h3.tmp]) hidle' (State.idleSpindle_lt hidle)
  dsimp only
  rw [hs]
  refine ⟨State.poolMoved_congr h4 ⟨rfl, rfl⟩ (by rw [hled]; exact ⟨rfl, rfl⟩), ?_, j', k1, k2.trans hj3, k3.trans hj4⟩
  rw [hru, ← h3.ru]
  rfl

end

/-- Settles O17: with the unit and the serial reserved, an `ISSUE` makes its tag at once, or starts a run of the seal pipeline or a
signature. -/
theorem issueMakesATicket : Obligations.IssueMakesATicket := by
  unfold Obligations.IssueMakesATicket
  intro c s f n p serial run hn hrun h hm hp ho ha
  subst hn
  have hrunOf (sn : Nat) (hs : serial = BitVec.ofNat 40 sn) : run = (s.ctxRun 0x0203 none c f).issueRun sn s := by
    rw [Ctx.issueRun_ctxRun, hrun, hs]
  have hser : run.serial = serial := by rw [hrun]
  have hpool : run.pool = c.poolA := by rw [hrun]
  refine ⟨fun k fp bs len hmode hb hidle hk hbr hper hfp hop _ hlen hbs => ?_,
    fun k hmode hasync hidle hk hbr hper hl hx hs hu hlim hc =>
      completes_issueRun h hm hp ho ha (hrunOf _ hs) hmode hasync hidle hk hbr hper hl hx hu hlim hc,
    fun slot k m hmode hasync hserve hkey hsp hhold hl hx hs hu hlim hc =>
      completes_issueSign h hm hp ho ha (hrunOf _ hs) hmode hasync hserve hkey hsp hhold hl hx hu hlim hc⟩
  have hg : IssuesGmac c s f run k fp := ⟨h, hm, hmode, hb, hidle, hk, hbr, hper, by rw [hser, hpool]; exact hfp, hop⟩
  rw [← hser]
  exact ⟨fun hl hx hs hu hlim hc hi => completes_issueGmac_unlocked hg hp ho ha (hrunOf _ (hser.symm.trans hs)) hlen hbs hl hx hu hlim hc hi,
    fun l hl hk hq he hu hs hc => completes_issueGmac_locked hg hp ho ha (hrunOf _ (hser.symm.trans hs)) hl hk hq he hu hc⟩

end Sys2Proof.Machine
end

section
/-! PROOFS. What `KEY_GENERATE` draws, derives and tests is the same where its effect begins (R156, R226, R234, R237). -/

namespace Sys2Proof.Machine

set_option Elab.async false

section
variable {s t : State}

/-- Two states with the same key store and the same spindles. -/
structure State.SameKeys (s t : State) : Prop where
  ks : t.ks = s.ks
  spn : t.spn = s.spn

theorem State.SameKeys.curve (h : s.SameKeys t) (n : Nat) : t.curve n = s.curve n := State.curve_congr (by rw [h.spn]) n

theorem State.SameKeys.drawn (h : s.SameKeys t) (n : Nat) : (s.drawn n).SameKeys (t.drawn n) :=
  ⟨by rw [State.drawn, State.drawn, h.ks], h.spn⟩

theorem State.SameKeys.drawKey (h : s.SameKeys t) (typ : Byte) (cv : Curve) :
    (s.drawKey typ cv).1.SameKeys (t.drawKey typ cv).1 ∧ (t.drawKey typ cv).2 = (s.drawKey typ cv).2 := by
  have hlen : valueLen t typ 0 = valueLen s typ 0 := by simp only [valueLen, h.curve]
  rw [State.drawKey, State.drawKey, h.ks, hlen]
  split
  · exact ⟨h.drawn _, rfl⟩
  · exact ⟨h.drawn _, rfl⟩

theorem State.SameKeys.hashed (h : s.SameKeys t) (n : Nat) : (s.hashed n).SameKeys (t.hashed n) := ⟨h.ks, h.spn⟩

theorem State.SameKeys.usedSpindle (h : s.SameKeys t) (p : Part) : (s.usedSpindle p).SameKeys (t.usedSpindle p) :=
  ⟨h.ks, by rw [State.usedSpindle, State.usedSpindle, h.spn]⟩

theorem State.SameKeys.derived (h : s.SameKeys t) (num : Nat) (cv : Curve) (m id : Bytes) :
    (s.derived num cv m id).1.SameKeys (t.derived num cv m id).1 ∧ (t.derived num cv m id).2 = (s.derived num cv m id).2 := by
  rw [State.derived, State.derived]
  split
  · exact ⟨h.usedSpindle _, rfl⟩
  · exact ⟨(h.usedSpindle _).hashed _, rfl⟩

theorem State.SameKeys.finishKey (h : s.SameKeys t) (k : NewKey) :
    (s.finishKey k).1.SameKeys (t.finishKey k).1 ∧ (t.finishKey k).2 = (s.finishKey k).2 := by
  rw [State.finishKey, State.finishKey, h.curve]
  split
  · exact ⟨h, rfl⟩
  · cases s.curve k.attr.curve.toNat with
    | none => exact ⟨h, rfl⟩
    | some cv =>
      dsimp only
      obtain ⟨h1, h2⟩ := h.derived k.attr.curve.toNat cv k.material k.id
      rcases hs : s.derived k.attr.curve.toNat cv k.material k.id with ⟨s', _ | ⟨x, y, z⟩⟩
      all_goals
        rcases ht : t.derived k.attr.curve.toNat cv k.material k.id with ⟨t', o⟩
        rw [hs, ht] at h1 h2
        dsimp only at h1 h2
        subst h2
        exact ⟨h1, rfl⟩

theorem State.SameKeys.fillEntropy (h : s.SameKeys t) (n : Nat) : (s.fillEntropy n).SameKeys (t.fillEntropy n) := by
  have hp : t.spindle n = s.spindle n := State.spindle_congr h.spn n
  have he : t.entropyOk = s.entropyOk := by rw [State.entropyOk, State.entropyOk, h.ks]
  rw [State.fillEntropy, State.fillEntropy, hp, he, h.ks]
  split
  · refine State.SameKeys.drawn (s := s.setSpindle n _) (t := t.setSpindle n _) ⟨h.ks, ?_⟩ _
    rw [State.setSpindle, State.setSpindle, h.spn]
  · exact h

theorem State.SameKeys.idleSpindle (h : s.SameKeys t) (b : Bool) : t.idleSpindle b = s.idleSpindle b := by
  simp only [State.idleSpindle, State.spindle_congr h.spn]

/-- The spindle that makes a test signature, filled with entropy. -/
def State.tester (s : State) : Spindle := (s.fillEntropy ((s.idleSpindle true).getD 0)).spindle ((s.idleSpindle true).getD 0)

/-- The test signature, by the entropy that its spindle holds. -/
def State.testOut (cv : Curve) (material : Bytes) (s : State) : SignOut :=
  sm2Sign cv Config.testDigest.toNat (beNat (slice material 0 cv.bytes)) ((s.tester.ent.getD 0 0).toNat * 2 ^ 256 + (s.tester.ent.getD 1 0).toNat)

/-- The state in which it has been made. -/
def State.testMade (num : Nat) (cv : Curve) (material : Bytes) (s : State) : State :=
  ((s.fillEntropy ((s.idleSpindle true).getD 0)).setSpindle ((s.idleSpindle true).getD 0) { s.tester with ent := s.tester.ent.drop 3 }).usedSpindle
    { signing := true, len := lenSign num cv.w, key := beNat (slice material 0 cv.bytes) }

/-- The test signature verifies, with the fault that is injected. -/
def testVerifies (cv : Curve) (o : SignOut) (x y : Nat) (glitch : BitVec 512) : Bool :=
  sm2Verify cv Config.testDigest.toNat ((o.r ^^^ (glitch.toNat / 2 ^ 256)) % 2 ^ cv.w) ((o.s ^^^ (glitch.toNat % 2 ^ 256)) % 2 ^ cv.w) x y

theorem State.testSign_passed (num : Nat) (cv : Curve) (m : Bytes) (x y : Nat) (g : BitVec 512) (s : State) :
    (s.testSign num cv m x y g).2 = (!(s.testOut cv m).regen && testVerifies cv (s.testOut cv m) x y g) ∧
      ((s.testSign num cv m x y g).2 = true →
        (s.testSign num cv m x y g).1 = (s.testMade num cv m).usedSpindle { signing := false, len := lenVerify num cv.w, key := 0 }) := by
  have hgo : s.testSign num cv m x y g =
      if (s.testOut cv m).regen then (s.testMade num cv m, false)
      else if testVerifies cv (s.testOut cv m) x y g then
        ((s.testMade num cv m).usedSpindle { signing := false, len := lenVerify num cv.w, key := 0 }, true)
      else (((s.testMade num cv m).usedSpindle { signing := false, len := lenVerify num cv.w, key := 0 }).vasMark
        ((s.idleSpindle true).getD 0) ((s.idleSpindle false).getD 8), false) := rfl
  rw [hgo]
  cases hr : (s.testOut cv m).regen <;> cases hv : testVerifies cv (s.testOut cv m) x y g <;> simp

theorem State.SameKeys.testSign (h : s.SameKeys t) (num : Nat) (cv : Curve) (m : Bytes) (x y : Nat) (g : BitVec 512) :
    (t.testSign num cv m x y g).2 = (s.testSign num cv m x y g).2 := by
  have htester : t.tester = s.tester := by
    rw [State.tester, State.tester, h.idleSpindle]
    exact State.spindle_congr (h.fillEntropy _).spn _
  rw [(State.testSign_passed ..).1, (State.testSign_passed ..).1, State.testOut, State.testOut, htester]

/-! ## What they leave -/

theorem State.slots_drawKey (typ : Byte) (cv : Curve) (s : State) : (s.drawKey typ cv).1.ks.slots = s.ks.slots := by
  rw [State.drawKey]
  split <;> rfl

theorem State.slots_finishKey (k : NewKey) (s : State) : (s.finishKey k).1.ks = s.ks := by
  have h : s.touches [.spn, .dig, .ran] (s.finishKey k).1 := by simp
  exact h .ks (by decide)

theorem State.slots_fillEntropy (n : Nat) (s : State) : (s.fillEntropy n).ks.slots = s.ks.slots := by
  rw [State.fillEntropy]
  split <;> rfl

theorem State.slots_testMade (num : Nat) (cv : Curve) (m : Bytes) (s : State) : (s.testMade num cv m).ks.slots = s.ks.slots :=
  State.slots_fillEntropy _ s

/-- A test signature that passes leaves everything but the spindles and what the source has drawn. -/
theorem State.testSign_leaves {num : Nat} {cv : Curve} {m : Bytes} {x y : Nat} {g : BitVec 512} (h : (s.testSign num cv m x y g).2 = true) :
    (s.testSign num cv m x y g).1.ks.slots = s.ks.slots ∧ s.touches [.spn, .ks, .ran] (s.testSign num cv m x y g).1 := by
  rw [(State.testSign_passed ..).2 h]
  refine ⟨State.slots_testMade num cv m s, ?_⟩
  have hmade : s.touches [.spn, .ks, .ran] (s.testMade num cv m) := by simp [State.testMade]
  simpa using hmade

end

end Sys2Proof.Machine
end

section
/-! PROOFS. `KEY_GENERATE` (R234, R237). -/

namespace Sys2Proof.Machine

set_option Elab.async false

section
variable {x : Ctx} {s s' t u w : State} {bs m id blob : Bytes} {cv : Curve} {q : Parent} {alloc : Option (Nat × GenEntry)}
  {lin : BitVec 16 × BitVec 32} {slot : Option Nat} {typ : Byte} {k : NewKey} {extra : Nat} {h : BlobHead}

/-- The slot that a `KEY_GENERATE` fills, or none. -/
def SlotChosen (x : Ctx) (s : State) : Option Nat → Prop
  | none => (x.c.pkt.byteAt 38).getLsbD 0 = false
  | some n => (x.c.pkt.byteAt 38).getLsbD 0 = true ∧ s.target x.keys false (x.c.pkt.field 36 2) = .ok n

theorem keyGenerateBody_generates (hdata : ∀ k, withData x s k = k bs) (htyp : typ = x.c.pkt.byteAt 32) (h8 : typ ≠ 8)
    (h7 : typ = 7 → x.c.pkt.handleB = 0) (hcv : (if typ = 5 then s.curve (x.c.pkt.byteAt 33).toNat else some curve0) = some cv)
    (hq : s.parentOf x.c.pkt useWrap x.dom = (s, .ok q)) (ha : s.allocated typ ((x.c.pkt.byteAt 38).getLsbD 1) 0 x.dom = .ok alloc)
    (hl : s.generateLineage x alloc = .ok lin) (hd : s.drawKey typ cv = (s', m)) (hs : SlotChosen x s slot) :
    keyGenerateBody x s = generateWith x bs q cv slot alloc lin m s' := by
  have h7' : ¬ (typ = 7 ∧ x.c.pkt.handleB ≠ 0) := fun h => h.2 (h7 h.1)
  rw [keyGenerateBody]
  dsimp only
  rw [hdata]
  subst htyp
  rw [if_neg h8, if_neg h7', hcv]
  dsimp only
  rw [hq]
  dsimp only
  rw [ha]
  dsimp only
  rw [hl]
  dsimp only
  rw [hd]
  dsimp only
  cases slot with
  | none =>
    have hbit : (x.c.pkt.byteAt 38).getLsbD 0 = false := hs
    rw [hbit]
    rfl
  | some n =>
    obtain ⟨hbit, ht⟩ := hs
    rw [if_pos hbit, ht]

/-- A key written into the slot that is asked for, if one is. -/
def State.filled (slot : Option Nat) (st : SlotSt) (k : NewKey) (s : State) : State :=
  match slot with
  | some n => s.installKey n st k
  | none => s

/-- What an entry's write does where a slot waits for it. -/
def fillThen : Option Nat → GenThen
  | some n => .fill n
  | none => .nothing

/-- The state in which a generated key is written: after its test signature for an SM2 key. -/
def State.keyTested (x : Ctx) (cv : Curve) (m : Bytes) (k : NewKey) (s : State) : State × Bool :=
  if x.c.pkt.byteAt 32 = 5 then
    s.testSign (x.c.pkt.byteAt 33).toNat cv m (pointAt cv.w (beBytes (2 * cv.bytes) k.q.toNat)).1
      (pointAt cv.w (beBytes (2 * cv.bytes) k.q.toNat)).2 x.c.glitch
  else (s, true)

/-- What a `KEY_GENERATE` answers with: the blob, and the public point of an SM2 key. -/
def generated (x : Ctx) (cv : Curve) (blob : Bytes) (k : NewKey) : Bytes :=
  blob ++ if x.c.pkt.byteAt 32 = 5 then
    pointBytes cv.w (pointAt cv.w (beBytes (2 * cv.bytes) k.q.toNat)).1 (pointAt cv.w (beBytes (2 * cv.bytes) k.q.toNat)).2 else []

/-- The head of the blob of a generated key. -/
def Ctx.genHead (x : Ctx) (id : Bytes) (q : Parent) (lin : BitVec 16 × BitVec 32) (s : State) : BlobHead :=
  blobFor (x.c.pkt.byteAt 32) (BitVec.ofNat 16 (x.c.pkt.field 34 2)) (x.c.pkt.byteAt 33) id.length q lin.1 lin.2 (s.draw.setWidth 96)

theorem generateWith_passes (hh : h = x.genHead id q lin s)
    (hf : (s.drawn 1).finishKey (keyOfBlob h x.dom 1 m id) = (u, some (k, extra))) (ht : u.keyTested x cv m k = (w, true)) :
    (∃ cyc, generateWith x id q cv slot none lin m s =
      { s := w.filled slot .valid k, cyc, inl := keyInline slot k.attr.kcv, result := generated x cv (wrapBlob q.wk h id m) k }) ∧
    ∀ e g, ∃ cyc cyc', generateWith x id q cv slot (some (e, g)) lin m s =
      { s := (w.filled slot .reserved k).genWrite
          { entry := e, val := if x.c.pkt.byteAt 32 = 7 then g else { g with kcv := k.attr.kcv }, check := none, what := fillThen slot
            after := [.reply (x.held 0 cyc' (keyInline slot k.attr.kcv) (generated x cv (wrapBlob q.wk h id m) k))] }
        cyc, when_ := .later } := by
  subst hh
  rw [State.keyTested] at ht
  rw [Ctx.genHead] at hf
  refine ⟨?_, fun e g => ?_⟩
  · unfold generateWith
    dsimp only
    rw [hf]
    dsimp only
    rw [ht]
    cases slot <;> exact ⟨_, rfl⟩
  · unfold generateWith
    dsimp only
    rw [hf]
    dsimp only
    rw [ht]
    cases slot <;> exact ⟨_, _, rfl⟩

/-- What the test leaves that a generated key passes. -/
theorem State.keyTested_leaves (h : (s.keyTested x cv m k).2 = true) :
    (s.keyTested x cv m k).1.ks.slots = s.ks.slots ∧ s.touches [.spn, .ks, .ran] (s.keyTested x cv m k).1 := by
  rw [State.keyTested] at h ⊢
  split at h
  · next h5 =>
    rw [if_pos h5]
    exact State.testSign_leaves h
  · next h5 =>
    rw [if_neg h5]
    exact ⟨rfl, State.touches_self _ _⟩

theorem State.SameKeys.keyTested (h : s.SameKeys t) (x : Ctx) (cv : Curve) (m : Bytes) (k : NewKey) :
    (t.keyTested x cv m k).2 = (s.keyTested x cv m k).2 := by
  rw [State.keyTested, State.keyTested]
  split
  · exact h.testSign ..
  · rfl

/-- A body of which no program is left to run, or whose programs all find a spindle idle, leaves its state but for the spindles. -/
theorem spindled_runs {body : Ctx → State → Out} {x : Ctx} {s : State}
    (hp : (body x s).s.spn.ran = [] ∨ x.c.async = false ∧ ∀ ps, s.partsRun ps = true) :
    ∃ v, spindled body x s = { body x s with s := v } ∧ (body x s).s.touches [.spn, .ran] v := by
  rcases hr : (body x s).s.spn.ran with _ | ⟨p, ps⟩
  · exact ⟨(body x s).s, spindled_none hr, State.touches_self _ _⟩
  · rw [hr] at hp
    obtain ⟨ha, hps⟩ := hp.resolve_left (by simp)
    refine ⟨(body x s).s.ended, ?_, by simp⟩
    rw [spindled]
    dsimp only
    rw [hr]
    dsimp only
    rw [if_pos (by rw [ha, hps]; rfl)]

theorem State.partsRun_all (h1 : (s.idleSpindle true).isSome = true ∧ s.jobsStopped true = false)
    (h2 : (s.idleSpindle false).isSome = true ∧ s.jobsStopped false = false) (ps : List Part) : s.partsRun ps = true := by
  rw [State.partsRun, List.all_eq_true]
  intro p _
  cases hp : p.signing with
  | true => simp [h1.1, h1.2]
  | false => simp [h2.1, h2.2]

end

section
variable {c : Cmd} {s : State} {f : Fetched} {cv : Curve} {q : Parent} {alloc : Option (Nat × GenEntry)} {lin : BitVec 16 × BitVec 32}
  {slot : Option Nat} {k : NewKey} {extra : Nat}

/-- The context in which a `KEY_GENERATE` runs, and the key it draws. -/
def genCtx (c : Cmd) (f : Fetched) (s : State) : Ctx := s.ctxRun 0x0702 none c f
def State.genDraw (c : Cmd) (cv : Curve) (s : State) : State × Bytes := s.drawKey (c.pkt.byteAt 32) cv

/-- The head of its blob, and the key as the blob gives it. -/
def genHeadOf (c : Cmd) (f : Fetched) (cv : Curve) (q : Parent) (lin : BitVec 16 × BitVec 32) (s : State) : BlobHead :=
  (genCtx c f s).genHead c.bytes q lin (s.genDraw c cv).1
def State.genFinish (c : Cmd) (f : Fetched) (cv : Curve) (q : Parent) (lin : BitVec 16 × BitVec 32) (s : State) :
    State × Option (NewKey × Nat) :=
  ((s.genDraw c cv).1.drawn 1).finishKey (keyOfBlob (genHeadOf c f cv q lin s) (genCtx c f s).dom 1 (s.genDraw c cv).2 c.bytes)

/-- A `KEY_GENERATE` of a key that is not a domain master key, which passes its checks. -/
structure Generates (c : Cmd) (s : State) (f : Fetched) (cv : Curve) (q : Parent) (alloc : Option (Nat × GenEntry))
    (lin : BitVec 16 × BitVec 32) (k : NewKey) (extra : Nat) : Prop where
  runs : Runs 0x0702 none c s f
  memErr : c.memErr = none
  outLen : 0 < c.pkt.outLen.toNat
  ran : s.spn.ran = []
  notDmk : c.pkt.byteAt 32 ≠ 8
  kek : c.pkt.byteAt 32 = 7 → c.pkt.handleB = 0
  programs : c.pkt.byteAt 32 = 5 → s.programsRun c true ∧ s.programsRun c false
  curve : (if c.pkt.byteAt 32 = 5 then s.curve (c.pkt.byteAt 33).toNat else some curve0) = some cv
  parent : (s.parentOf (rowPacket 0x0702 none c.pkt) useWrap (s.queue c.q).dom).2 = .ok q
  entry : s.allocated (c.pkt.byteAt 32) ((c.pkt.byteAt 38).getLsbD 1) 0 (s.queue c.q).dom = .ok alloc
  lineage : s.generateLineage (genCtx c f s) alloc = .ok lin
  finish : (s.genFinish c f cv q lin).2 = some (k, extra)
  test : ((s.genFinish c f cv q lin).1.keyTested (genCtx c f s) cv (s.genDraw c cv).2 k).2 = true

/-- What such a command answers with. -/
def genResult (c : Cmd) (f : Fetched) (cv : Curve) (q : Parent) (lin : BitVec 16 × BitVec 32) (k : NewKey) (s : State) : Bytes :=
  generated (genCtx c f s) cv (wrapBlob q.wk (genHeadOf c f cv q lin s) c.bytes (s.genDraw c cv).2) k

theorem State.kekParent_ok {n bit : Nat} {dom : Dom} (h : (s.kekParent n bit dom).2 = .ok q) : s.kekParent n bit dom = (s, .ok q) := by
  rw [State.kekParent] at h ⊢
  rcases hu : s.useSlot n bit with ⟨v, e | key⟩
  · rw [hu] at h
    cases h
  · have hs := State.useSlot_ok (congrArg Prod.snd hu)
    obtain ⟨rfl, -⟩ := Prod.mk.injEq _ _ _ _ ▸ hu.symm.trans hs
    rw [hu] at h
    dsimp only at h ⊢
    split
    · next hbad => rw [if_pos hbad] at h; cases h
    · next hok =>
      rw [if_neg hok] at h
      exact Prod.ext rfl h

theorem State.parentOf_ok {p : Packet} {bit : Nat} {dom : Dom} (h : (s.parentOf p bit dom).2 = .ok q) : s.parentOf p bit dom = (s, .ok q) := by
  rw [State.parentOf] at h ⊢
  split
  · next hb =>
    rw [if_pos hb] at h
    exact Prod.ext rfl h
  · next hb =>
    rw [if_neg hb] at h
    exact State.kekParent_ok h

theorem State.kekParent_congr {t : State} (h : t.ks = s.ks) (n bit : Nat) (dom : Dom) :
    (t.kekParent n bit dom).2 = (s.kekParent n bit dom).2 := by
  have hg (e : Nat) : t.gen e = s.gen e := by rw [State.gen, State.gen, h]
  have hu := State.useSlot_congr h n bit
  rw [State.kekParent, State.kekParent]
  rcases ht : t.useSlot n bit with ⟨t', e | key⟩ <;> rcases hs : s.useSlot n bit with ⟨s', e' | key'⟩ <;> rw [ht, hs] at hu <;> cases hu
  · rfl
  · have h1 := congrArg Prod.fst (ht.symm.trans (State.useSlot_ok (congrArg Prod.snd ht)))
    have h2 := congrArg Prod.fst (hs.symm.trans (State.useSlot_ok (congrArg Prod.snd hs)))
    dsimp only at h1 h2
    subst h1 h2
    dsimp only
    split
    · rfl
    · simp only [hg]

theorem State.parentOf_congr {t : State} (h : t.ks = s.ks) (p : Packet) (bit : Nat) (dom : Dom) :
    (t.parentOf p bit dom).2 = (s.parentOf p bit dom).2 := by
  have hg (n : Nat) : t.gen n = s.gen n := by rw [State.gen, State.gen, h]
  rw [State.parentOf, State.parentOf]
  split
  · simp only [State.dmkParent, State.dmk, h, hg]
  · exact State.kekParent_congr h ..

end

end Sys2Proof.Machine
end

section
/-! PROOFS. What a `KEY_GENERATE` completes with, by whether it fills a slot and takes an entry (R237). -/

namespace Sys2Proof.Machine

set_option Elab.async false

section
variable {c : Cmd} {s u : State} {f : Fetched} {cv : Curve} {q : Parent} {alloc : Option (Nat × GenEntry)} {lin : BitVec 16 × BitVec 32}
  {slot : Option Nat} {k : NewKey} {extra : Nat}

theorem State.allocated_congr (h : u.ks = s.ks) (hk : u.kp = s.kp) (typ : Byte) (b : Bool) (kcv : BitVec 32) (dom : Dom) :
    u.allocated typ b kcv dom = s.allocated typ b kcv dom := by
  have hfree : u.freeEntry = s.freeEntry := by simp only [State.freeEntry, State.gen, h, hk]
  simp only [State.allocated, hfree, State.gen, h]

theorem State.generateLineage_congr (h : u.ks = s.ks) (x : Ctx) : u.generateLineage x alloc = s.generateLineage x alloc := by
  have hgen : State.gen u = State.gen s := funext fun e => by rw [State.gen, State.gen, h]
  cases alloc with
  | none =>
    unfold State.generateLineage
    rw [hgen]
  | some p => rfl

theorem State.target_congr (h : u.ks = s.ks) (keys : BitVec 256) (b : Bool) (n : Nat) : u.target keys b n = s.target keys b n := by
  simp only [State.target, State.freeSlot_congr h, State.slot_congr h]

theorem SlotChosen.congr {x : Ctx} (h : u.ks = s.ks) (hs : SlotChosen x s slot) : SlotChosen x u slot := by
  cases slot with
  | none => exact hs
  | some n => exact ⟨hs.1, (State.target_congr h ..).trans hs.2⟩

/-- The state in which a generated key is written: what the draw, the derivation and the test have left. -/
theorem Generates.body (hg : Generates c s f cv q alloc lin k extra) (hu : u = s.begun 0x0702 none c f)
    (hs : SlotChosen (genCtx c f s) s slot) :
    ∃ w : State, w.ks.slots = s.ks.slots ∧ u.touches [.spn, .ks, .dig, .ran] w ∧
      (c.pkt.byteAt 32 ≠ 5 → w.spn.ran = []) ∧
      (alloc = none → ∃ cyc, keyGenerateBody (genCtx c f s) u =
        { s := w.filled slot .valid k, cyc, inl := keyInline slot k.attr.kcv, result := genResult c f cv q lin k s }) ∧
      ∀ e g, alloc = some (e, g) → ∃ cyc cyc', keyGenerateBody (genCtx c f s) u =
        { s := (w.filled slot .reserved k).genWrite
            { entry := e, val := if c.pkt.byteAt 32 = 7 then g else { g with kcv := k.attr.kcv }, check := none, what := fillThen slot
              after := [.reply ((genCtx c f s).held 0 cyc' (keyInline slot k.attr.kcv) (genResult c f cv q lin k s))] }
          cyc, when_ := .later } := by
  have hks : u.ks = s.ks := by rw [hu]; exact State.begun_ks ..
  have hspn : u.spn = s.spn := by rw [hu]; exact State.begun_spn ..
  have hkp : u.kp = s.kp := by rw [hu]; exact State.begun_kp ..
  have hsame : s.SameKeys u := ⟨hks, hspn⟩
  have hpkt (j : Nat) : (genCtx c f s).c.pkt.byteAt j = c.pkt.byteAt j := by simp [genCtx]
  obtain ⟨hd1, hd2⟩ := hsame.drawKey (c.pkt.byteAt 32) cv
  obtain ⟨hf1, hf2⟩ := (hd1.drawn 1).finishKey (keyOfBlob (genHeadOf c f cv q lin s) (genCtx c f s).dom 1 (s.genDraw c cv).2 c.bytes)
  have hhead : genHeadOf c f cv q lin s = (genCtx c f s).genHead c.bytes q lin (u.drawKey (c.pkt.byteAt 32) cv).1 := by
    rw [genHeadOf, Ctx.genHead, Ctx.genHead, State.draw, State.draw, hd1.ks]
    rfl
  have hfin := hf2.trans hg.finish
  have htest := (hf1.keyTested (genCtx c f s) cv (s.genDraw c cv).2 k).trans hg.test
  have hbody := keyGenerateBody_generates (x := genCtx c f s) (s := u) (typ := c.pkt.byteAt 32) (slot := slot)
    (s' := (u.drawKey (c.pkt.byteAt 32) cv).1) (m := (u.drawKey (c.pkt.byteAt 32) cv).2) (withData_ok hg.memErr u) (hpkt 32).symm hg.notDmk
    (by simpa [genCtx] using hg.kek) (by rw [hpkt, hsame.curve]; exact hg.curve)
    (State.parentOf_ok ((State.parentOf_congr hks ..).trans (by simpa [genCtx] using hg.parent)))
    (by rw [hpkt, State.allocated_congr hks hkp]; simpa [genCtx] using hg.entry)
    ((State.generateLineage_congr hks _).trans hg.lineage) rfl (hs.congr hks)
  rw [hd2] at hbody
  obtain ⟨hslots, htouch⟩ := State.keyTested_leaves htest
  obtain ⟨hnone, hsome⟩ := generateWith_passes (slot := slot) hhead (Prod.ext rfl hfin) (Prod.ext rfl htest)
  refine ⟨_, hslots.trans ?_, ?_, fun h5 => ?_, fun ha => ?_, fun e g ha => ?_⟩
  · rw [State.slots_finishKey]
    exact (State.slots_drawKey ..).trans (congrArg KeyUnit.slots hks)
  · refine (htouch.iff (by decide)).mpr ?_
    simp
  · rw [State.keyTested, hpkt, if_neg h5]
    have hfk : (((u.drawKey (c.pkt.byteAt 32) cv).1.drawn 1).finishKey (keyOfBlob (genHeadOf c f cv q lin s) (genCtx c f s).dom 1 (s.genDraw c cv).2
        c.bytes)).1 = (u.drawKey (c.pkt.byteAt 32) cv).1.drawn 1 := by
      rw [State.finishKey, if_pos]
      simpa [keyOfBlob, genHeadOf, Ctx.genHead, blobFor, hpkt] using h5
    dsimp only
    rw [hfk]
    have hdraw : (u.drawKey (c.pkt.byteAt 32) cv).1.spn = u.spn := by
      rw [State.drawKey]
      split <;> rfl
    rw [State.drawn]
    dsimp only
    rw [hdraw, hspn, hg.ran]
  · subst ha
    rw [hbody]
    exact hnone
  · subst ha
    rw [hbody]
    have h := hsome e g
    rw [hpkt] at h
    exact h

/-- The programs of a generation run to their end, for its spindles are idle. -/
theorem Generates.spindled (hg : Generates c s f cv q alloc lin k extra) {o : Out}
    (hb : keyGenerateBody (genCtx c f s) (s.begun 0x0702 none c f) = o) (hr : c.pkt.byteAt 32 ≠ 5 → o.s.spn.ran = []) :
    ∃ v, Machine.spindled keyGenerateBody (genCtx c f s) (s.begun 0x0702 none c f) = { o with s := v } ∧ o.s.touches [.spn, .ran] v := by
  subst hb
  refine spindled_runs ?_
  by_cases h5 : c.pkt.byteAt 32 = 5
  · obtain ⟨⟨ha, hi, hj, -⟩, -, hi', hj', -⟩ := hg.programs h5
    have hidle (b : Bool) : (s.begun 0x0702 none c f).idleSpindle b = s.idleSpindle b := by
      simp only [State.idleSpindle, State.spindle, State.begun_spn]
    have hstop (b : Bool) : (s.begun 0x0702 none c f).jobsStopped b = s.jobsStopped b := by
      simp only [State.jobsStopped, State.holding, State.begun_tmp]
    exact .inr ⟨by simpa [genCtx] using ha, State.partsRun_all ⟨by rw [hidle]; exact hi, by rw [hstop]; exact hj⟩
      ⟨by rw [hidle]; exact hi', by rw [hstop]; exact hj'⟩⟩
  · exact .inl (hr h5)

theorem State.filled_touches (slot : Option Nat) (st : SlotSt) (k : NewKey) (s : State) : s.touches [.ks] (s.filled slot st k) := by
  cases slot <;> simp [State.filled]

/-- A key written into a slot is there, and in no other. -/
theorem State.filled_some (n : Nat) (st : SlotSt) (k : NewKey) (s : State) :
    (∃ v, (s.filled (some n) st k).slot n = some v ∧ v.st = st ∧ v.value = valueOf k.material ∧ v.attr = k.attr ∧ v.q = k.q ∧ v.z = k.z) ∧
      ∀ m, m ≠ n → (s.filled (some n) st k).slot m = s.slot m :=
  ⟨⟨_, State.slot_putSlot .., rfl, State.newSlot_value st _ k.q k.z k.attr, rfl, rfl, rfl⟩, fun _ hm => State.slot_putSlot_ne hm _ _⟩

theorem wrapBlob_ne_nil (wk : BitVec 128) (h : BlobHead) (id m : Bytes) : wrapBlob wk h id m ≠ [] := by
  intro hn
  have hlen := congrArg List.length hn
  simp [wrapBlob, zeros] at hlen

theorem genResult_ne_nil (c : Cmd) (f : Fetched) (cv : Curve) (q : Parent) (lin : BitVec 16 × BitVec 32) (k : NewKey) (s : State) :
    genResult c f cv q lin k s ≠ [] := fun h => wrapBlob_ne_nil _ _ _ _ (List.append_eq_nil_iff.mp h).1

/-- A generation that takes no entry answers at once. -/
theorem Generates.answers (hg : Generates c s f cv q none lin k extra) (hs : SlotChosen (genCtx c f s) s slot) :
    Completes (.keyGenerate c) s fun t =>
      t.answers c.q f 0 (keyInline slot k.attr.kcv) ∧ t.wrote c (genResult c f cv q lin k s) ∧
        ∃ w : State, w.ks.slots = s.ks.slots ∧ t.ks = (w.filled slot .valid k).ks := by
  obtain ⟨w, hslots, hw, hran, hnone, -⟩ := hg.body rfl hs
  obtain ⟨cyc, hb⟩ := hnone rfl
  have hfill := State.filled_touches slot .valid k w
  obtain ⟨v, hv, hvt⟩ := hg.spindled hb fun h5 => ((hfill .ran (by decide)).trans (hran h5))
  have hq : v.queue c.q = (s.begun 0x0702 none c f).queue c.q :=
    (State.queue_of_touches hvt (by decide) (by decide) c.q).trans
      ((State.queue_of_touches hfill (by decide) (by decide) c.q).trans (State.queue_of_touches hw (by decide) (by decide) c.q))
  refine completes_now hg.runs rfl hv rfl hq fun ha => ⟨ha, finish_writes hg.runs _ rfl hq (genResult_ne_nil c f cv q lin k s) hg.outLen, w, hslots, ?_⟩
  rw [Out.finish_ks]
  exact hvt .ks (by decide)

theorem State.kp_of_touches {L : List Aspect} {t : State} (h : s.touches L t) (hk : .kp ∉ L) (hm : .memories ∉ L) : t.kp = s.kp :=
  Keeper.eq_of_others (h .kp hk) (h .memories hm)

theorem State.genWrite_touches (g : GenWrite) (s : State) : s.touches [.arb, .kp] (s.genWrite g) := by simp

/-- A generation that takes an entry asks the commit unit for its write. -/
theorem Generates.asks {e : Nat} {g : GenEntry} (hg : Generates c s f cv q (some (e, g)) lin k extra)
    (hs : SlotChosen (genCtx c f s) s slot) :
    Completes (.keyGenerate c) s fun t =>
      s.writesEntry t c f e (if c.pkt.byteAt 32 = 7 then g else { g with kcv := k.attr.kcv }) none (fillThen slot) (keyInline slot k.attr.kcv)
          (genResult c f cv q lin k s) ∧
        ∃ w : State, w.ks.slots = s.ks.slots ∧ t.ks = (w.filled slot .reserved k).ks := by
  obtain ⟨w, hslots, hw, hran, -, hsome⟩ := hg.body rfl hs
  obtain ⟨cyc, cyc', hb⟩ := hsome e g rfl
  have hfill := State.filled_touches slot .reserved k w
  have hgen := State.genWrite_touches (GenWrite.mk e (if c.pkt.byteAt 32 = 7 then g else { g with kcv := k.attr.kcv }) none (fillThen slot)
    [.reply ((genCtx c f s).held 0 cyc' (keyInline slot k.attr.kcv) (genResult c f cv q lin k s))]) (w.filled slot .reserved k)
  obtain ⟨v, hv, hvt⟩ := hg.spindled hb fun h5 => (hgen .ran (by decide)).trans ((hfill .ran (by decide)).trans (hran h5))
  have hkp : (w.filled slot .reserved k).kp = s.kp :=
    (State.kp_of_touches hfill (by decide) (by decide)).trans ((State.kp_of_touches hw (by decide) (by decide)).trans (State.begun_kp ..))
  refine completes_later hg.runs rfl hv rfl ⟨⟨(genCtx c f s).held 0 cyc' (keyInline slot k.attr.kcv) (genResult c f cv q lin k s), ?_, rfl, rfl,
    by simp [Ctx.held, genCtx, hg.runs.pkt], rfl, rfl, ?_⟩, w, hslots, ?_⟩
  · exact (congrArg Keeper.queue (State.kp_of_touches hvt (by decide) (by decide))).trans
      ((State.genWrite_queue _ _).trans (congrArg (fun p : Keeper => p.queue ++ _) hkp))
  · simp [Ctx.held, genCtx]
  · exact (hvt .ks (by decide) : v.ks = _).trans (State.genWrite_ks _ _)

end

end Sys2Proof.Machine
end

section
/-! PROOFS. `KEY_GENERATE` of a domain master key, and `KEY_WRAP` (R237, R238). -/

namespace Sys2Proof.Machine

set_option Elab.async false

section
variable {s u : State} {x : Ctx} {d : Dom} {root v : BitVec 256} {bs m : Bytes} {q : Parent} {k : Slot}

/-! ## A domain master key (R216, R237) -/

theorem State.installDmk_ks (d : Dom) (v root : BitVec 256) (s : State) : (s.installDmk d v root).1.ks = ((s.drawn 1).putDmk d v).ks := by
  rw [State.installDmk]
  dsimp only
  rw [State.genWrite_ks, State.flashNow_ks]

theorem State.dmk_installDmk (d : Dom) (v root : BitVec 256) (s : State) :
    (s.installDmk d v root).1.dmk d = some v ∧ (∀ e, e ≠ d → (s.installDmk d v root).1.dmk e = s.dmk e) ∧
      (s.installDmk d v root).1.ks.slots = s.ks.slots := by
  refine ⟨?_, fun e he => ?_, by rw [State.installDmk_ks]; rfl⟩
  · rw [State.dmk, State.installDmk_ks, State.putDmk]
    simp [Tab.find_put]
  · have hne : e.toNat ≠ d.toNat := fun h => he (BitVec.eq_of_toNat_eq h)
    rw [State.dmk, State.installDmk_ks, State.putDmk]
    simp [Tab.find_put_ne _ _ hne, State.drawn, State.dmk]

theorem State.SameKeys.installDmk (h : s.SameKeys u) (d : Dom) (v root : BitVec 256) : (u.installDmk d v root).2 = (s.installDmk d v root).2 := by
  rw [State.installDmk, State.installDmk, State.draw, State.draw, h.ks]

theorem generateDmk_generates (hd : d = x.c.pkt.byteAt 42) (hr : s.rootKey = some root) (hn : s.nvmStatus = none)
    (hp : (s.gen d.toNat).present = false) (hf : s.dmk d = none) :
    generateDmk x s =
      { s := ((s.drawKey 8 curve0).1.installDmk d (BitVec.ofNat 256 (beNat (slice (s.drawKey 8 curve0).2 0 32))) root).1, cyc := 271
        inl := keyInline none (kcvOf 8 (s.drawKey 8 curve0).2)
        result := ((s.drawKey 8 curve0).1.installDmk d (BitVec.ofNat 256 (beNat (slice (s.drawKey 8 curve0).2 0 32))) root).2 } := by
  subst hd
  rw [generateDmk]
  dsimp only
  rw [hr, hn]
  dsimp only
  rw [hp, hf]
  rfl

theorem State.dmks_drawKey (typ : Byte) (cv : Curve) (s : State) : (s.drawKey typ cv).1.ks.dmks = s.ks.dmks := by
  rw [State.drawKey]
  split <;> rfl

theorem completes_generateDmk {c : Cmd} {f : Fetched} (h : Runs 0x0702 none c s f) (hm : c.memErr = none) (hout : 0 < c.pkt.outLen.toNat)
    (hran : s.spn.ran = []) (htyp : c.pkt.byteAt 32 = 8) (hd : d = c.pkt.byteAt 42) (hr : s.rootKey = some root) (hn : s.nvmStatus = none)
    (hp : (s.gen d.toNat).present = false) (hf : s.dmk d = none) (hv : v = BitVec.ofNat 256 (beNat (slice (s.drawKey 8 curve0).2 0 32))) :
    Completes (.keyGenerate c) s fun t =>
      t.dmk d = some v ∧ (∀ e, e ≠ d → t.dmk e = s.dmk e) ∧ t.ks.slots = s.ks.slots ∧
      t.wrote c ((s.drawKey 8 curve0).1.installDmk d v root).2 ∧ t.answers c.q f 0 (keyInline none (kcvOf 8 (s.drawKey 8 curve0).2)) := by
  subst hv
  have hks := State.begun_ks 0x0702 none c f s
  have hsame : s.SameKeys (s.begun 0x0702 none c f) := ⟨hks, State.begun_spn ..⟩
  obtain ⟨hd1, hd2⟩ := hsame.drawKey 8 curve0
  have hbody : keyGenerateBody (s.ctxRun 0x0702 none c f) (s.begun 0x0702 none c f) = generateDmk (s.ctxRun 0x0702 none c f) (s.begun 0x0702 none c f) := by
    rw [keyGenerateBody]
    dsimp only
    rw [withData_ok hm, if_pos (by simpa using htyp)]
  rw [generateDmk_generates (d := d) (root := root) (by simpa using hd) (by rw [State.rootKey, hks]; exact hr) ((State.begun_nvmStatus ..).trans hn)
    (by rw [State.gen, hks]; exact hp) (by rw [State.dmk, hks]; exact hf), hd2, hd1.installDmk] at hbody
  generalize BitVec.ofNat 256 (beNat (slice (s.drawKey 8 curve0).2 0 32)) = v at *
  have ht : (s.begun 0x0702 none c f).touches [.ks, .arb, .kp, .memories]
      (((s.begun 0x0702 none c f).drawKey 8 curve0).1.installDmk d v root).1 := by simp
  obtain ⟨h1, h2, h3⟩ := State.dmk_installDmk d v root ((s.begun 0x0702 none c f).drawKey 8 curve0).1
  have hdmks : ((s.begun 0x0702 none c f).drawKey 8 curve0).1.ks.dmks = s.ks.dmks :=
    (State.dmks_drawKey ..).trans (congrArg KeyUnit.dmks hks)
  have hother (e : Dom) : ((s.begun 0x0702 none c f).drawKey 8 curve0).1.dmk e = s.dmk e := by rw [State.dmk, State.dmk, hdmks]
  have hslots : ((s.begun 0x0702 none c f).drawKey 8 curve0).1.ks.slots = s.ks.slots := (State.slots_drawKey ..).trans (congrArg KeyUnit.slots hks)
  generalize (((s.begun 0x0702 none c f).drawKey 8 curve0).1.installDmk d v root).1 = w at *
  have hdry : (keyGenerateBody (s.ctxRun 0x0702 none c f) (s.begun 0x0702 none c f)).s.spn.ran = [] := by
    rw [hbody, (ht .ran (by decide) : w.spn.ran = _), State.begun_spn]
    exact hran
  have hgo := (spindled_none hdry).trans hbody
  have hq := State.queue_of_touches ht (by decide) (by decide) c.q
  have hdmk (e : Dom) (t : State) (ht : t.ks = w.ks) : t.dmk e = w.dmk e := by rw [State.dmk, State.dmk, ht]
  exact completes_now h rfl hgo rfl hq fun ha => ⟨(hdmk d _ (Out.finish_ks _ _)).trans h1,
    fun e he => (hdmk e _ (Out.finish_ks _ _)).trans ((h2 e he).trans (hother e)), by rw [Out.finish_ks]; exact h3.trans hslots,
    finish_writes h _ rfl hq (wrapBlob_ne_nil _ _ _ _) hout, ha⟩

/-! ## `KEY_WRAP` (R238) -/

theorem keyWrapRewrapBody_wraps (hk : (s.readSlot (hIndex x.c.pkt.handleA)).2 = .ok k) (hu : unwrappable (hIndex x.c.pkt.handleA) k = false)
    (h7 : k.attr.typ = 7 → x.c.pkt.handleB = 0) (hq : (s.parentOf x.c.pkt useWrap k.attr.dom).2 = .ok q) :
    keyWrapRewrapBody x s =
      { s := s.drawn 1, cyc := 191 + 4 * ceilDiv k.id.length 16
        result := wrapBlob q.wk (blobFor k.attr.typ k.attr.usage k.attr.curve k.id.length q k.attr.lineage k.attr.lineageGen (s.draw.setWidth 96))
          k.id k.bytes } := by
  rw [keyWrapRewrapBody]
  dsimp only
  rw [State.readSlot_ok hk]
  dsimp only
  rw [if_neg (by rw [hu]; decide), if_neg (fun h => h.2 (h7 h.1)), State.parentOf_ok hq]

theorem keyWrapDmkBody_wraps (hd : x.dom = 0) (hk : (s.readSlot 4).2 = .ok k) (hv : s.dmk (x.c.pkt.byteAt 42) = some v) :
    keyWrapDmkBody x s =
      { s := s.drawn 1, cyc := 191
        result := dmkBlob (wrapKey (blockBytes k.key128) 0xFFFE 0) 0xFFFE (x.c.pkt.byteAt 42) v (s.draw.setWidth 96) } := by
  rw [keyWrapDmkBody, if_neg (by simp [hd]), State.readSlot_ok hk]
  dsimp only
  rw [hv]

/-- The clear key of a `KEY_WRAP` op 1 is of a type and use that a host may give. -/
structure ClearKeyOk (x : Ctx) (s : State) : Prop where
  low : 1 ≤ (x.c.pkt.byteAt 32).toNat
  high : (x.c.pkt.byteAt 32).toNat ≤ 5
  usage : usageOk (x.c.pkt.byteAt 32) (BitVec.ofNat 16 (x.c.pkt.field 34 2)) x.dom = true
  noId : x.c.pkt.byteAt 32 ≠ 5 → x.c.pkt.byteAt 39 = 0
  curve : x.c.pkt.byteAt 32 = 5 → (s.curve (x.c.pkt.byteAt 33).toNat).isSome = true
  parent : x.c.pkt.handleB ≠ 0

theorem keyWrapClearBody_wraps (hc : ClearKeyOk x s) (hdata : ∀ k, withData x s k = k bs)
    (hq : s.kekParent (hIndex x.c.pkt.handleB) useClearImport x.dom = (s, .ok q))
    (he : x.c.pkt.field 40 2 ≠ 0 → 256 ≤ x.c.pkt.field 40 2 ∧ x.c.pkt.field 40 2 < 4096 ∧ (s.gen (x.c.pkt.field 40 2)).kind = 3 ∧
      (s.gen (x.c.pkt.field 40 2)).dom = x.dom ∧ genFull (s.gen (x.c.pkt.field 40 2)) = false) :
    keyWrapClearBody x s =
      { s := s.drawn 1, cyc := 225 + 4 * ceilDiv (bs.drop (valueLen s (x.c.pkt.byteAt 32) (x.c.pkt.byteAt 33).toNat)).length 16
        result := wrapBlob q.wk (blobFor (x.c.pkt.byteAt 32) (BitVec.ofNat 16 (x.c.pkt.field 34 2)) (x.c.pkt.byteAt 33)
          (bs.drop (valueLen s (x.c.pkt.byteAt 32) (x.c.pkt.byteAt 33).toNat)).length q (BitVec.ofNat 16 (x.c.pkt.field 40 2))
          (if x.c.pkt.field 40 2 = 0 then 0 else (s.gen (x.c.pkt.field 40 2)).gen + 1) (s.draw.setWidth 96))
          (bs.drop (valueLen s (x.c.pkt.byteAt 32) (x.c.pkt.byteAt 33).toNat))
          (slice (bs.take (valueLen s (x.c.pkt.byteAt 32) (x.c.pkt.byteAt 33).toNat)) 0 64) } := by
  obtain ⟨h1, h2, h3, h4, h5, h6⟩ := hc
  have hfirst : ¬ (¬(1 ≤ (x.c.pkt.byteAt 32).toNat ∧ (x.c.pkt.byteAt 32).toNat ≤ 5) ∨
      (!usageOk (x.c.pkt.byteAt 32) (BitVec.ofNat 16 (x.c.pkt.field 34 2)) x.dom) = true ∨ (x.c.pkt.byteAt 32 ≠ 5 ∧ x.c.pkt.byteAt 39 ≠ 0)) := by
    rintro (h | h | ⟨h, h'⟩)
    · exact h ⟨h1, h2⟩
    · simp [h3] at h
    · exact h' (h4 h)
  have hcurve : ¬ (x.c.pkt.byteAt 32 = 5 ∧ (s.curve (x.c.pkt.byteAt 33).toNat).isNone = true) := by
    rintro ⟨h, h'⟩
    have := h5 h
    simp_all
  have hline : ¬ (x.c.pkt.field 40 2 ≠ 0 ∧ (¬(256 ≤ x.c.pkt.field 40 2 ∧ x.c.pkt.field 40 2 < 4096) ∨ (s.gen (x.c.pkt.field 40 2)).kind ≠ 3 ∨
      (s.gen (x.c.pkt.field 40 2)).dom ≠ x.dom)) := by
    rintro ⟨h, h'⟩
    obtain ⟨a, b, d, e, -⟩ := he h
    rcases h' with h' | h' | h'
    · exact h' ⟨a, b⟩
    · exact h' d
    · exact h' e
  have hfull : ¬ (x.c.pkt.field 40 2 ≠ 0 ∧ genFull (s.gen (x.c.pkt.field 40 2)) = true) := by
    rintro ⟨h, h'⟩
    rw [(he h).2.2.2.2] at h'
    cases h'
  rw [keyWrapClearBody]
  dsimp only
  rw [hdata, if_neg hfirst, if_neg hcurve, if_neg h6, hq]
  dsimp only
  rw [if_neg hline, if_neg hfull]

/-- A body that draws one word and answers with a blob leaves the slots. -/
theorem completes_wrap {op : BitVec 16} {sub : Option Byte} {c : Cmd} {f : Fetched} {i : Instr} {body : Ctx → State → Out} {cyc : Nat} {blob : Bytes}
    (h : Runs op sub c s f) (hi : exec i s = .next (runOp op sub body c s)) (hout : 0 < c.pkt.outLen.toNat) (hne : blob ≠ [])
    (hb : body (s.ctxRun op sub c f) (s.begun op sub c f) = { s := (s.begun op sub c f).drawn 1, cyc, result := blob }) :
    Completes i s fun t => t.answers c.q f 0 0 ∧ t.ks.draws = s.ks.draws + 1 ∧ t.ks.slots = s.ks.slots ∧ t.wrote c blob := by
  have hks := State.begun_ks op sub c f s
  refine completes_now h hi hb rfl rfl fun ha => ⟨ha, ?_, ?_, finish_writes h _ rfl rfl hne hout⟩
  · rw [Out.finish_ks]
    exact congrArg (fun k : KeyUnit => k.draws + 1) hks
  · rw [Out.finish_ks, ← hks]
    rfl

end

/-- The material of a key stays when its point is derived. -/
theorem State.finishKey_material {s : State} {key k : NewKey} {extra : Nat} (h : (s.finishKey key).2 = some (k, extra)) :
    k.material = key.material := by
  rw [State.finishKey] at h
  split at h
  · cases h
    rfl
  · rcases hc : s.curve key.attr.curve.toNat with _ | cv
    · rw [hc] at h
      cases h
    · rw [hc] at h
      dsimp only at h
      rcases hd : s.derived key.attr.curve.toNat cv key.material key.id with ⟨v, _ | ⟨x, y, z⟩⟩
      · rw [hd] at h
        cases h
      · rw [hd] at h
        cases h
        rfl

end Sys2Proof.Machine
end

section
/-! PROOFS. Keys are generated and wrapped (R234, R237, R238). -/

namespace Sys2Proof.Machine

set_option Elab.async false

section
variable {c : Cmd} {s s' : State} {f : Fetched} {cv : Curve} {q : Parent} {alloc : Option (Nat × GenEntry)} {lin : BitVec 16 × BitVec 32}
  {m : Bytes} {k : NewKey} {extra : Nat} {pt : Nat × Nat}

theorem genCtx_byteAt (j : Nat) : (genCtx c f s).c.pkt.byteAt j = c.pkt.byteAt j := by simp [genCtx]

theorem slotChosen_some {n : Nat} (hbit : (c.pkt.byteAt 38).getLsbD 0 = true) (ht : s.target f.keys false (c.pkt.field 36 2) = .ok n) :
    SlotChosen (genCtx c f s) s (some n) := by
  have hfield : (genCtx c f s).c.pkt.field 36 2 = c.pkt.field 36 2 := by simp [genCtx]
  exact ⟨by rw [genCtx_byteAt]; exact hbit, by rw [hfield]; exact ht⟩

/-- The head of a generated blob, by the packet's own fields. -/
theorem genHeadOf_eq (hd : s.drawKey (c.pkt.byteAt 32) cv = (s', m)) : genHeadOf c f cv q lin s =
    blobFor (c.pkt.byteAt 32) (BitVec.ofNat 16 (c.pkt.field 34 2)) (c.pkt.byteAt 33) c.bytes.length q lin.1 lin.2 (s'.draw.setWidth 96) := by
  rw [genHeadOf, State.genDraw, hd]
  simp [Ctx.genHead, genCtx]

theorem genFinish_eq (hd : s.drawKey (c.pkt.byteAt 32) cv = (s', m)) :
    s.genFinish c f cv q lin = (s'.drawn 1).finishKey (keyOfBlob (genHeadOf c f cv q lin s) (s.queue c.q).dom 1 m c.bytes) := by
  rw [State.genFinish, State.genDraw, hd, genCtx, State.ctxRun_dom]

theorem genResult_eq (hd : s.drawKey (c.pkt.byteAt 32) cv = (s', m)) (hpt : pt = pointAt cv.w (beBytes (2 * cv.bytes) k.q.toNat)) :
    genResult c f cv q lin k s =
      wrapBlob q.wk (genHeadOf c f cv q lin s) c.bytes m ++ if c.pkt.byteAt 32 = 5 then pointBytes cv.w pt.1 pt.2 else [] := by
  subst hpt
  rw [genResult, generated, State.genDraw, hd, genCtx_byteAt]

theorem keyTested_passes {u : State} (hpt : pt = pointAt cv.w (beBytes (2 * cv.bytes) k.q.toNat))
    (ht : c.pkt.byteAt 32 = 5 → (u.testSign (c.pkt.byteAt 33).toNat cv m pt.1 pt.2 c.glitch).2 = true) :
    (u.keyTested (genCtx c f s) cv m k).2 = true := by
  subst hpt
  rw [State.keyTested, genCtx_byteAt, genCtx_byteAt]
  split
  · next h5 => exact ht h5
  · rfl

/-- The key that a generation has drawn is the one its slot holds. -/
theorem Generates.material (hg : Generates c s f cv q alloc lin k extra) (hd : s.drawKey (c.pkt.byteAt 32) cv = (s', m)) : k.material = m := by
  have h := hg.finish
  rw [genFinish_eq hd] at h
  exact State.finishKey_material h

/-- The slot that a generation fills holds its key, and every other slot is as it was. -/
theorem State.slots_filled {n : Nat} {st : SlotSt} {t w : State} (hw : w.ks.slots = s.ks.slots) (ht : t.ks = (w.filled (some n) st k).ks) :
    (∃ v, t.slot n = some v ∧ v.st = st ∧ v.value = valueOf k.material ∧ v.attr = k.attr ∧ v.q = k.q ∧ v.z = k.z) ∧
      ∀ j, j ≠ n → t.slot j = s.slot j := by
  obtain ⟨⟨v, h1, h2⟩, h3⟩ := State.filled_some n st k w
  have hslot (j : Nat) : t.slot j = (w.filled (some n) st k).slot j := State.slot_congr ht j
  exact ⟨⟨v, (hslot n).trans h1, h2⟩, fun j hj => (hslot j).trans ((h3 j hj).trans (by rw [State.slot, State.slot, hw]))⟩

end

/-- Settles O25: a generation draws, derives and tests its key as the state before it gives it, and `KEY_WRAP` answers with the blob of a key
that is in order. -/
theorem keysAreGeneratedAndWrapped : Obligations.KeysAreGeneratedAndWrapped := by
  unfold Obligations.KeysAreGeneratedAndWrapped
  refine ⟨?_, ?_⟩
  · intro c s f dom typ p hp hdom htyp h hm hout hran
    have hbyte : p.byteAt = c.pkt.byteAt := by rw [hp]; rfl
    have hfield : p.field = c.pkt.field := by rw [hp]; rfl
    have hhandle : p.handleB = c.pkt.handleB := by rw [hp]; rfl
    rw [hbyte] at htyp
    rw [hbyte, hfield, hhandle]
    subst hp hdom htyp
    refine ⟨?_, ?_⟩
    · intro cv q alloc lin s' m blob k extra pt h8 h7 hprog hcv hq ha hl hd hblob hfin hpt htest
      rw [← genHeadOf_eq (f := f) hd] at hblob hfin htest
      have hg : Generates c s f cv q alloc lin k extra :=
        { runs := h, memErr := hm, outLen := hout, ran := hran, notDmk := h8, kek := h7, programs := hprog, curve := hcv, parent := hq, entry := ha
          lineage := hl
          finish := by rw [genFinish_eq hd]; exact hfin
          test := by
            rw [genFinish_eq hd, State.genDraw, hd]
            exact keyTested_passes hpt htest }
      have hres := genResult_eq (f := f) (q := q) (lin := lin) (k := k) hd hpt
      rw [← hblob] at hres
      rw [← hg.material hd, ← hres]
      refine ⟨fun n hn hbit ht => ?_, fun hn hbit => ?_, fun e g hn hbit => ?_, fun e g n hn hbit ht => ?_⟩
      all_goals subst hn
      · refine Completes.mono (hg.answers (slotChosen_some hbit ht)) fun t ht => ?_
        obtain ⟨h1, h2, w, hw, hks⟩ := ht
        obtain ⟨h3, h4⟩ := State.slots_filled hw hks
        exact ⟨h1, h4, h2, h3⟩
      · refine Completes.mono (hg.answers (slot := none) (by rw [SlotChosen, genCtx_byteAt]; exact hbit)) fun t ht => ?_
        obtain ⟨h1, h2, w, hw, hks⟩ := ht
        exact ⟨h1, (congrArg KeyUnit.slots hks).trans hw, h2⟩
      · refine Completes.mono (hg.asks (slot := none) (by rw [SlotChosen, genCtx_byteAt]; exact hbit)) fun t ht => ?_
        obtain ⟨h1, w, hw, hks⟩ := ht
        exact ⟨(congrArg KeyUnit.slots hks).trans hw, h1⟩
      · refine Completes.mono (hg.asks (slotChosen_some hbit ht)) fun t ht => ?_
        obtain ⟨h1, w, hw, hks⟩ := ht
        obtain ⟨⟨v, h3, h4, h5, h6, -⟩, h7⟩ := State.slots_filled hw hks
        exact ⟨⟨v, h3, h4, h5, h6⟩, h7, h1⟩
    · intro root d m htyp hd hr hn hp hf hmv
      subst hmv
      exact completes_generateDmk h hm hout hran htyp hd hr hn hp hf rfl
  · intro c s f dom iv hdom hiv hout
    subst hdom hiv
    refine ⟨?_, ?_, ?_⟩
    · intro p k q hp h hk hu h7 hq
      subst hp
      have hks := State.begun_ks 0x0703 (some 0) c f s
      have hb := keyWrapRewrapBody_wraps (x := s.ctxRun 0x0703 (some 0) c f) (s := s.begun 0x0703 (some 0) c f)
        ((State.readSlot_congr hks _).trans hk) hu h7 ((State.parentOf_congr hks ..).trans hq)
      rw [State.draw, hks] at hb
      exact completes_wrap h rfl hout (wrapBlob_ne_nil _ _ _ _) hb
    · intro p typ usage q e len hp htyp husage he hlen h hm h1 h5 hus hid hcv hb hq hline
      subst hp htyp husage he
      have hks := State.begun_ks 0x0703 (some 1) c f s
      have hcurve (j : Nat) : (s.begun 0x0703 (some 1) c f).curve j = s.curve j := State.curve_congr (by rw [State.begun_spn]) j
      have hgen (j : Nat) : (s.begun 0x0703 (some 1) c f).gen j = s.gen j := by rw [State.gen, State.gen, hks]
      have hlen' : valueLen (s.begun 0x0703 (some 1) c f) ((rowPacket 0x0703 (some 1) c.pkt).byteAt 32)
          ((rowPacket 0x0703 (some 1) c.pkt).byteAt 33).toNat = len := by
        rw [hlen]
        simp only [valueLen, hcurve]
      have hdom : (s.ctxRun 0x0703 (some 1) c f).dom = (s.queue c.q).dom := State.ctxRun_dom ..
      have hok : ClearKeyOk (s.ctxRun 0x0703 (some 1) c f) (s.begun 0x0703 (some 1) c f) :=
        ⟨h1, h5, by rw [hdom]; exact hus, hid, fun h => by rw [hcurve]; exact hcv h, hb⟩
      have hbody := keyWrapClearBody_wraps (q := q) hok (withData_ok hm _)
        (by rw [hdom]; exact State.kekParent_ok ((State.kekParent_congr hks ..).trans hq))
        (by rw [hgen, hdom]; exact hline)
      have hpkt : (s.ctxRun 0x0703 (some 1) c f).c.pkt = rowPacket 0x0703 (some 1) c.pkt := by rw [State.ctxRun_c]
      rw [hpkt, hlen', hgen, State.draw, hks] at hbody
      exact completes_wrap h rfl hout (wrapBlob_ne_nil _ _ _ _) hbody
    · intro p tk v hp h hdom hk hv
      subst hp
      have hks := State.begun_ks 0x0703 (some 2) c f s
      have hb := keyWrapDmkBody_wraps (x := s.ctxRun 0x0703 (some 2) c f) (s := s.begun 0x0703 (some 2) c f) (v := v)
        ((State.ctxRun_dom ..).trans hdom) ((State.readSlot_congr hks _).trans hk) (by rw [State.dmk, hks]; exact hv)
      rw [State.draw, hks] at hb
      refine Completes.mono (completes_wrap h rfl hout (wrapBlob_ne_nil _ _ _ _) hb) fun t ht => ?_
      obtain ⟨h1, h2, -, h3⟩ := ht
      exact ⟨h1, h2, h3⟩

end Sys2Proof.Machine
end

section
/-! PROOFS. Spindles yield, test and refill (R143, R150, R156 to R158, R234, R257, R258). -/

namespace Sys2Proof.Machine

set_option Elab.async false

/-! ## A spindle freed while nothing waits for one (R145, R150) -/

/-- No job waits for a spindle, and no `UNIT_SERVICE` for one to leave. -/
structure State.SpindlesCalm (s : State) : Prop where
  sign : s.spn.signParked = []
  verify : s.spn.verifyParked = []
  leaving : s.arb.leaving = []

section
variable {s t : State} {n : Nat} {p : Spindle} {j : Job}

theorem State.SpindlesCalm.congr (h : s.SpindlesCalm) (h1 : t.spn.signParked = s.spn.signParked) (h2 : t.spn.verifyParked = s.spn.verifyParked)
    (h3 : t.arb.leaving = s.arb.leaving) : t.SpindlesCalm := ⟨h1.trans h.sign, h2.trans h.verify, h3.trans h.leaving⟩

theorem State.grantParked_none {k : Bool} (h : s.parkedJobs k = []) : s.grantParked k = s := by
  rw [State.grantParked]
  split
  · dsimp only
    rw [h]
    rfl
  · rfl

/-- The spindle once its job is gone. -/
def Spindle.freed (p : Spindle) : Spindle :=
  { p with lane := clearLane, out := Vector.replicate 4 0, keyOp := 0, job := none, restoring := p.shadow.isSome }

theorem State.freeSpindle_calm (h : s.SpindlesCalm) : s.freeSpindle n = s.setSpindle n (s.spindle n).freed := by
  have hgo : s.freeSpindle n = (((s.setSpindle n (s.spindle n).freed).grantParked true).grantParked false).leaveDone n := rfl
  have h1 : (s.setSpindle n (s.spindle n).freed).grantParked true = s.setSpindle n (s.spindle n).freed := State.grantParked_none h.sign
  have h2 : (s.setSpindle n (s.spindle n).freed).grantParked false = s.setSpindle n (s.spindle n).freed := State.grantParked_none h.verify
  have h3 : (s.setSpindle n (s.spindle n).freed).arb.leaving = [] := h.leaving
  rw [hgo, h1, h2, State.leaveDone]
  dsimp only
  rw [h3]
  rfl

/-- The state once a job has ended that is counted and whose spindle nothing waits for. -/
theorem State.jobEnded_eq (h : s.SpindlesCalm) (hn : n < 40) (hp : p = s.spindle n) (hs : p.shadow = none) :
    (s.countJob n).freeSpindle n = s.setSpindle n { p with lane := clearLane, out := Vector.replicate 4 0, keyOp := 0, job := none
                                                           restoring := false, jobs := satAdd p.jobs 1 } := by
  subst hp
  have hcount : (s.countJob n).SpindlesCalm := h.congr rfl rfl rfl
  rw [State.freeSpindle_calm hcount, State.countJob]
  rw [State.setSpindle_setSpindle, State.spindle_setSpindle _ _ hn, Spindle.freed]
  dsimp only
  rw [hs]
  rfl

/-- A job's end whose spindle does not save or restore. -/
theorem spindleJobEndEvent_ends (hp : p = s.spindle n) (hj : p.job = some j) (ht : p.taking = none) (hr : p.restoring = false)
    (g : BitVec 512) (hw : ∀ c a, j.what ≠ .part c a) : spindleJobEndEvent n g s = s.jobEnd n g false := by
  subst hp
  rw [spindleJobEndEvent, if_neg (by rw [ht, hr]; decide), hj]
  dsimp only
  split
  · next c rest hc => exact absurd hc (hw _ _)
  · rfl

theorem spindleJobEndEvent_part {c : Cmd} {rest : List Part} (hp : p = s.spindle n) (hj : p.job = some j) (ht : p.taking = none)
    (hr : p.restoring = false) (g : BitVec 512) (hw : j.what = .part c rest) :
    spindleJobEndEvent n g s = ((s.countJob n).freeSpindle n).partDone c rest j.cyc := by
  subst hp
  rw [spindleJobEndEvent, if_neg (by rw [ht, hr]; decide), hj]
  dsimp only
  rw [hw]

/-! ### The next program of a command (R143) -/

theorem State.partDone_none {c : Cmd} (h : s.resumed c = none) (rest : List Part) (cyc : Nat) : s.partDone c rest cyc = s := by
  rw [State.partDone, h]

theorem State.partDone_more {c : Cmd} {x : Ctx} {a : Part} {more : List Part} (h : s.resumed c = some x) (hb : (partBody c.pkt).isSome = true)
    (cyc : Nat) : s.partDone c (a :: more) cyc = s.requestPart x (cyc + a.len) a more := by
  obtain ⟨b, hb⟩ := Option.isSome_iff_exists.mp hb
  rw [State.partDone, h, hb]

theorem State.partDone_last {c : Cmd} {x : Ctx} {body : Ctx → State → Out} (h : s.resumed c = some x) (hb : partBody c.pkt = some body)
    (cyc : Nat) : s.partDone c [] cyc =
      ({ body x s with s := { (body x s).s with spn := { (body x s).s.spn with ran := [] } } } : Out).finish x := by
  rw [State.partDone, h, hb]

/-- A program of a command that is asked of an idle spindle starts there. -/
theorem State.requestPart_next {x : Ctx} {cyc m : Nat} {a : Part} (more : List Part) (hstop : s.jobsStopped a.signing = false)
    (hidle : s.idleSpindle a.signing = some m) :
    ∃ k, ((s.requestPart x cyc a more).spindle m).job = some k ∧ k.what = .part x.c more ∧ k.len = a.len ∧ k.cyc = cyc := by
  have hfor (key : Nat) : s.idleFor (.part a.signing key) = some m := by simpa [State.idleFor, Prog.signs, Prog.signing] using hidle
  simp only [State.requestPart, hstop, Bool.false_eq_true, if_false, State.request, hfor]
  simp only [State.startJob, Prog.signs, Bool.false_eq_true, if_false]
  rw [State.spindle_setSpindle _ _ (State.idleSpindle_lt hidle)]
  exact ⟨_, rfl, rfl, rfl, rfl⟩

/-! ### The end of a verify program and of a signature (R154 to R156) -/

theorem State.SpindlesCalm.postReply (h : s.SpindlesCalm) (r : Held) : (s.postReply r).SpindlesCalm :=
  h.congr (by simp) (by simp) (by simp)

/-- A verify program that ends with a reply leaves its spindle free and counted, and sends the reply. -/
theorem State.verifyJobEnd_replies {r : Held} {f : Fetched} (h : s.SpindlesCalm) (hn : n < 40) (hp : p = s.spindle n)
    (he : (s.countJob n).verifyEnd n j = (s.countJob n).postReply r) (hv : r.via = .host)
    (hf : (s.queue r.q).inflight.find? (·.id == r.id) = some f) (ht : r.tag = f.pkt.tag) :
    ((s.verifyJobEnd n j).spindle n).job = none ∧ ((s.verifyJobEnd n j).spindle n).lane = clearLane ∧
      ((s.verifyJobEnd n j).spindle n).jobs = satAdd p.jobs 1 ∧ (s.verifyJobEnd n j).answers r.q f r.status r.inl := by
  have hcount : (s.countJob n).SpindlesCalm := h.congr rfl rfl rfl
  have hspn : ((s.countJob n).postReply r).spindle n = { p with jobs := satAdd p.jobs 1 } := by
    rw [State.spindle_congr (t := (s.countJob n).postReply r) (s := s.countJob n) (by simp), State.countJob, State.spindle_setSpindle _ _ hn, hp]
  have hgo : s.verifyJobEnd n j = ((s.countJob n).postReply r).setSpindle n ({ p with jobs := satAdd p.jobs 1 } : Spindle).freed := by
    rw [State.verifyJobEnd, he, State.freeSpindle_calm (hcount.postReply r), hspn]
  obtain ⟨o, ho⟩ := State.postReply_answers r (s.countJob n) f hv hf ht
  rw [hgo, State.spindle_setSpindle _ _ hn]
  exact ⟨rfl, rfl, rfl, o, ho⟩

theorem State.jobEnd_verifies (hp : p = s.spindle n) (hj : p.job = some j) (hs : j.prog.signing = false) (g : BitVec 512) :
    s.jobEnd n g false = s.verifyJobEnd n j := by
  subst hp
  rw [State.jobEnd, hj]
  dsimp only
  rw [if_neg (by rw [hs]; decide)]

theorem lowestFrom_le {g : Nat → Bool} {fuel k r : Nat} (h : lowestFrom g fuel k = some r) : k ≤ r := by
  induction fuel generalizing k with
  | zero => cases h
  | succ fuel ih =>
    rw [lowestFrom] at h
    split at h
    · cases h
      exact le_rfl
    · exact (Nat.le_succ k).trans (ih h)

theorem lowestFrom_congr {g g' : Nat → Bool} {fuel k : Nat} (h : ∀ m, k ≤ m → g m = g' m) : lowestFrom g fuel k = lowestFrom g' fuel k := by
  induction fuel generalizing k with
  | zero => rfl
  | succ fuel ih => rw [lowestFrom, lowestFrom, h k le_rfl, ih fun m hm => h m (Nat.le_of_succ_le hm)]

/-- A signature that is made asks for its verification on an idle verify spindle. -/
theorem State.signJobEnd_asks {cv : Curve} {e d u qx qy lv vp : Nat} {g : BitVec 512} (h : s.SpindlesCalm) (hn : n < 8) (hp : p = s.spindle n)
    (hs : p.shadow = none) (hprog : j.prog = .sign cv e d u qx qy lv) (hvp : s.idleSpindle false = some vp) (hr : (sm2Sign cv e d u).regen = false) :
    ((s.signJobEnd n j g false).spindle n).job = none ∧ ((s.signJobEnd n j g false).spindle n).jobs = satAdd p.jobs 1 ∧
      ((s.signJobEnd n j g false).spindle vp).job = some
        { vasJob j n cv e qx qy lv (sm2Sign cv e d u).r (sm2Sign cv e d u).s (j.glitch ^^^ g) with began := some s.now } ∧
      (s.signJobEnd n j g false).posted = s.posted := by
  have hend := State.jobEnded_eq h (n := n) (by omega) hp hs
  obtain ⟨hlo, hhi⟩ : 8 ≤ vp ∧ vp < 40 := by
    rw [State.idleSpindle, if_neg (by decide)] at hvp
    exact ⟨lowestFrom_le hvp, lowestFrom_lt hvp⟩
  have hne : vp ≠ n := by omega
  generalize hr' : s.setSpindle n _ = r at hend
  have hgo : s.signJobEnd n j g false =
      (r.grantAtOnce (spindleArb false) (standardRequester j.h.unit)).startJob vp
        (vasJob j n cv e qx qy lv (sm2Sign cv e d u).r (sm2Sign cv e d u).s (j.glitch ^^^ g)) := by
    have hidle : r.idleFor (vasJob j n cv e qx qy lv (sm2Sign cv e d u).r (sm2Sign cv e d u).s (j.glitch ^^^ g)).prog = some vp := by
      have hfor : r.idleFor (vasJob j n cv e qx qy lv (sm2Sign cv e d u).r (sm2Sign cv e d u).s (j.glitch ^^^ g)).prog = r.idleSpindle false := rfl
      rw [hfor, ← hvp, State.idleSpindle, State.idleSpindle, if_neg (by decide), if_neg (by decide)]
      refine lowestFrom_congr fun m hm => ?_
      rw [← hr', State.spindle_setSpindle_ne (by omega)]
    rw [State.signJobEnd, hprog, hend]
    simp only
    rw [if_neg (by rw [hr]; decide), State.request, hidle]
    rfl
  have hvas : (vasJob j n cv e qx qy lv (sm2Sign cv e d u).r (sm2Sign cv e d u).s (j.glitch ^^^ g)).prog.signs = false := rfl
  have hgrant (m : Nat) : (r.grantAtOnce (spindleArb false) (standardRequester j.h.unit)).spindle m = r.spindle m := State.spindle_congr (by simp) m
  have hspn : r.spindle n = { p with lane := clearLane, out := Vector.replicate 4 0, keyOp := 0, job := none, restoring := false
                                     jobs := satAdd p.jobs 1 } := by
    rw [← hr', State.spindle_setSpindle _ _ (by omega)]
  rw [hgo]
  refine ⟨?_, ?_, ?_, ?_⟩
  · rw [State.spindle_startJob_ne hne, hgrant, hspn]
  · rw [State.spindle_startJob_ne hne, hgrant, hspn]
  · rw [State.startJob, hvas, State.spindle_setSpindle _ _ hhi]
    have hnow : (r.grantAtOnce (spindleArb false) (standardRequester j.h.unit)).now = s.now := by
      rw [State.now, State.now, ← hr']
      simp
    simp only [Bool.false_eq_true, if_false, hnow]
    rfl
  · have ht : r.touches [.spn, .arb, .ks] ((r.grantAtOnce (spindleArb false) (standardRequester j.h.unit)).startJob vp
        (vasJob j n cv e qx qy lv (sm2Sign cv e d u).r (sm2Sign cv e d u).s (j.glitch ^^^ g))) := by simp
    rw [(ht .posted (by decide) : _ = r.posted), ← hr']
    rfl

/-! ## Yields (R158) -/

theorem yieldAt_yields {k : Job} {rest : List Job} (hn : n < 8) (hp : p = s.spindle n) (hj : p.job = some j) (hy : j.yielded = false)
    (hs : p.shadow = none) (ht : p.taking = none) (hr : p.restoring = false) (hb : s.signersBusy = true) (hh : s.holding = false)
    (hk : shorter j.len s.spn.signParked = some (k, rest)) :
    ((yieldAt n s).spindle n).taking = some k ∧ ((yieldAt n s).spindle n).job = none ∧
      ((yieldAt n s).spindle n).yields = satAdd p.yields 1 ∧ (yieldAt n s).spn.signParked = rest ∧
      ∃ j', ((yieldAt n s).spindle n).shadow = some (p.lane, j') ∧ j'.yielded = true ∧ j'.prog = j.prog ∧ j'.h = j.h ∧
        j'.cyc = j.cyc + 32 + k.len := by
  subst hp
  rw [yieldAt]
  dsimp only
  rw [hj]
  dsimp only
  rw [if_pos (by simp [hn, hy, hs, ht, hr, hb, hh]), hk]
  dsimp only
  rw [State.spindle_setSpindle _ _ (by omega)]
  exact ⟨rfl, rfl, rfl, rfl, _, rfl, rfl, rfl, rfl, rfl⟩

/-- Filling an entropy buffer leaves the rest of its spindle. -/
theorem State.spindle_fillEntropy (hn : n < 40) (s : State) : ∃ e, (s.fillEntropy n).spindle n = { s.spindle n with ent := e } := by
  rw [State.fillEntropy]
  split
  · rw [State.spindle_drawn, State.spindle_setSpindle _ _ hn]
    exact ⟨_, rfl⟩
  · exact ⟨(s.spindle n).ent, rfl⟩

/-- The spindle on which a job has started. -/
theorem State.spindle_startJob (hn : n < 40) (j : Job) (s : State) :
    ∃ e k b, (s.startJob n j).spindle n = { s.spindle n with
        lane := clearLane, halted := none, keyOp := k, job := some { j with prog := b, began := some s.now }, ent := e } := by
  rw [State.startJob, State.spindle_setSpindle _ _ hn]
  split
  · obtain ⟨e, he⟩ := State.spindle_fillEntropy hn s
    have hnow : (s.fillEntropy n).now = s.now := by rw [State.now, State.now, State.fillEntropy_gctl]
    rw [he, hnow]
    exact ⟨_, _, _, rfl⟩
  · exact ⟨_, _, _, rfl⟩

theorem saveEnd_starts {k : Job} (hn : n < 40) (hp : p = s.spindle n) (hk : p.taking = some k) :
    ((saveEnd n s).spindle n).taking = none ∧ ((saveEnd n s).spindle n).lane = clearLane ∧ ((saveEnd n s).spindle n).shadow = p.shadow ∧
      ∃ j, ((saveEnd n s).spindle n).job = some j ∧ j.h = k.h ∧ j.what = k.what ∧ j.len = k.len := by
  subst hp
  have hgo : saveEnd n s = (s.setSpindle n { s.spindle n with taking := none }).startJob n k := by
    rw [saveEnd]
    dsimp only
    rw [hk]
  obtain ⟨e, key, b, he⟩ := State.spindle_startJob hn k (s.setSpindle n { s.spindle n with taking := none })
  rw [hgo, he, State.spindle_setSpindle _ _ hn]
  exact ⟨rfl, rfl, rfl, _, rfl, rfl, rfl, rfl⟩

theorem restoreEnd_resumes {l : Lane} (hn : n < 40) (hp : p = s.spindle n) (hr : p.restoring = true) (hs : p.shadow = some (l, j)) :
    ((restoreEnd n s).spindle n).lane = l ∧ ((restoreEnd n s).spindle n).job = some j ∧ ((restoreEnd n s).spindle n).shadow = none ∧
      ((restoreEnd n s).spindle n).restoring = false := by
  subst hp
  rw [restoreEnd, hr, hs]
  dsimp only
  rw [State.spindle_setSpindle _ _ hn]
  exact ⟨rfl, rfl, rfl, rfl⟩

/-! ## Known-answer tests (R157, R257, R262) -/

theorem State.returned_keeps_arb (code : Nat) (b : Bool) (s : State) :
    (s.returned code b).arb.waiting = s.arb.waiting ∧ (s.returned code b).arb.out = s.arb.out ∧
      (s.returned code b).gctl.evtStat = s.gctl.evtStat := by
  rw [State.returned]
  split
  · exact ⟨rfl, rfl, rfl⟩
  · dsimp only
    rw [State.postReply_arb, State.postReply_gctl]
    exact ⟨rfl, rfl, rfl⟩

theorem State.grantParked_keeps (k : Bool) (s : State) :
    (s.grantParked k).arb.waiting = s.arb.waiting ∧ (s.grantParked k).arb.out = s.arb.out ∧ (s.grantParked k).gctl = s.gctl ∧
      ∀ n < 40, ((s.grantParked k).spindle n).svc = (s.spindle n).svc := by
  have hgctl : (s.grantParked k).gctl = s.gctl := by
    have h : s.touches [.spn, .arb, .ks] (s.grantParked k) := by simp
    exact h .gctl (by decide)
  refine ⟨?_, State.out_grantParked k, hgctl, fun n hn => ?_⟩
  · obtain he | ⟨i, a, js, j, m, -, he⟩ := State.grantParked_cases k s
    · rw [he]
    · have hstart (u : State) : (u.startJob m j).arb = u.arb := by
        have h : u.touches [.spn, .ks] (u.startJob m j) := by simp
        exact h .arb (by decide)
      have hpark (u : State) : (u.setParked k js).arb = u.arb := by cases k <;> rfl
      rw [he, hstart, hpark]
      exact State.sync_waiting ..
  · obtain he | ⟨i, a, js, j, m, -, he⟩ := State.grantParked_cases k s
    · rw [he]
    · have hin : ((((s.sync (spindleArb k)).grantTo (spindleArb k) i a).setParked k js).spindle n) = s.spindle n := by
        rw [State.spindle_setParked]
        exact State.spindle_congr (by simp) n
      rw [he]
      by_cases hm : m = n
      · subst hm
        obtain ⟨e, key, b, hs⟩ := State.spindle_startJob hn j (((s.sync (spindleArb k)).grantTo (spindleArb k) i a).setParked k js)
        rw [hs, hin]
      · rw [State.spindle_startJob_ne hm, hin]

/-- The spindles with the answer of a test in. -/
def State.tested_ (n : Nat) (pass : Bool) (s : State) : State :=
  let u := s.setSpindle n { s.spindle n with svc := if pass then .inService else .out
                                             katFails := if pass then (s.spindle n).katFails else satAdd (s.spindle n).katFails 1 }
  { u with spn := { u.spn with katPass := pass, katRunning := u.spn.sp.toList.any fun (q : Spindle) => q.svc == SpSvc.testing } }

theorem katEnd_eq (hp : p = s.spindle n) (ht : p.svc = .testing) (pass : Bool) : ∃ cause,
    katEnd n pass s = if pass then ((((s.tested_ n pass).serviceChange (spindleCode n) cause pass).returned (spindleCode n) pass).grantParked
      true).grantParked false else ((s.tested_ n pass).serviceChange (spindleCode n) cause pass).returned (spindleCode n) pass := by
  subst hp
  rw [katEnd]
  dsimp only
  rw [if_neg (by rw [ht]; decide)]
  exact ⟨_, rfl⟩

/-- What a test's end leaves before the parked jobs are looked at. -/
theorem State.tested_serviceChange (hn : n < 40) (pass : Bool) (cause : Nat) (s : State) :
    ((((s.tested_ n pass).serviceChange (spindleCode n) cause pass).returned (spindleCode n) pass).spindle n =
        { s.spindle n with svc := if pass then .inService else .out
                           katFails := if pass then (s.spindle n).katFails else satAdd (s.spindle n).katFails 1 }) ∧
      (((s.tested_ n pass).serviceChange (spindleCode n) cause pass).returned (spindleCode n) pass).isOut (spindleCode n) = !pass ∧
      (((s.tested_ n pass).serviceChange (spindleCode n) cause pass).returned (spindleCode n) pass).gctl.evtStat.getLsbD evUnitSvc = true ∧
      (((s.tested_ n pass).serviceChange (spindleCode n) cause pass).returned (spindleCode n) pass).arb.waiting = s.arb.waiting := by
  obtain ⟨h1, h2, h3⟩ := State.returned_keeps_arb (spindleCode n) pass ((s.tested_ n pass).serviceChange (spindleCode n) cause pass)
  have hcode : spindleCode n < 128 := by
    rw [spindleCode]
    omega
  refine ⟨?_, ?_, ?_, ?_⟩
  · rw [State.spindle_returned, State.spindle_serviceChange]
    exact State.spindle_setSpindle _ _ hn
  · rw [State.isOut_congr h2]
    exact State.isOut_serviceChange hcode
  · rw [h3]
    exact State.serviceChange_evtStat
  · rw [h1, State.serviceChange_arb]
    rfl

theorem katEnd_passes (hn : n < 40) (hp : p = s.spindle n) (ht : p.svc = .testing) (hw : s.arb.waiting = []) :
    ((katEnd n true s).resumeService.spindle n).svc = .inService ∧ (katEnd n true s).resumeService.isOut (spindleCode n) = false ∧
      (katEnd n true s).resumeService.gctl.evtStat.getLsbD evUnitSvc = true := by
  obtain ⟨cause, he⟩ := katEnd_eq hp ht true
  rw [if_pos rfl] at he
  obtain ⟨k1, k2, k3, k4⟩ := State.tested_serviceChange hn true cause s
  generalize ((s.tested_ n true).serviceChange (spindleCode n) cause true).returned (spindleCode n) true = u at *
  obtain ⟨a1, a2, a3, a4⟩ := State.grantParked_keeps true u
  obtain ⟨b1, b2, b3, b4⟩ := State.grantParked_keeps false (u.grantParked true)
  rw [he, State.resumeService_idle (by rw [b1, a1, k4, hw])]
  refine ⟨?_, ?_, ?_⟩
  · rw [b4 n hn, a4 n hn, k1]
    rfl
  · rw [State.isOut_congr (b2.trans a2), k2]
    rfl
  · rw [b3, a3, k3]

theorem katEnd_fails (hn : n < 40) (hp : p = s.spindle n) (ht : p.svc = .testing) (hw : s.arb.waiting = []) :
    ((katEnd n false s).resumeService.spindle n).svc = .out ∧ ((katEnd n false s).resumeService.spindle n).katFails = satAdd p.katFails 1 ∧
      (katEnd n false s).resumeService.isOut (spindleCode n) = true ∧ (katEnd n false s).resumeService.gctl.evtStat.getLsbD evUnitSvc = true := by
  obtain ⟨cause, he⟩ := katEnd_eq hp ht false
  rw [if_neg (by decide)] at he
  obtain ⟨k1, k2, k3, k4⟩ := State.tested_serviceChange hn false cause s
  rw [he, State.resumeService_idle (by rw [k4, hw]), k1]
  subst hp
  exact ⟨rfl, rfl, k2, k3⟩

/-! ## Refills (R234) -/

theorem refillEvent_fills (hn : n < 8) (hp : p = s.spindle n) (hj : p.job = none) (he : s.entropyOk = true) (hl : p.ent.length ≤ 4) :
    ((refillEvent n s).spindle n).ent.length = 4 ∧ ((refillEvent n s).spindle n).ent.take p.ent.length = p.ent ∧
      (refillEvent n s).ks.draws = s.ks.draws + (4 - p.ent.length) := by
  subst hp
  rw [refillEvent, hj, Option.isNone_none, if_pos rfl, State.fillEntropy]
  rw [if_pos ⟨hn, he⟩, State.spindle_drawn, State.spindle_setSpindle _ _ (by omega)]
  refine ⟨?_, List.take_left, rfl⟩
  simp only [List.length_append, List.length_map, List.length_range]
  omega

end

theorem onSpindle_next {sp : BitVec 6} (h : sp.toNat < 40) (g : State → State) (s : State) : onSpindle sp g s = .next (g s) :=
  if_neg (Nat.not_le.mpr h)

/-- Settles O43: with no job parked a job's end frees its spindle and goes on to its reply, its verification or the command's next program; a
yield, a save, a restore, a test and a refill each set what they name of their spindle. -/
theorem spindlesYieldTestAndRefill : Obligations.SpindlesYieldTestAndRefill := by
  unfold Obligations.SpindlesYieldTestAndRefill
  intro s sp p n hsp hn hp
  subst hsp
  refine ⟨fun j f g hj hs ht hr h1 h2 h3 => ?_, fun h g => ⟨s, ?_, rfl⟩,
    fun j k rest hn8 hj hy hs ht hr hb hh hk => ⟨_, onSpindle_next hn _ s, yieldAt_yields hn8 hp hj hy hs ht hr hb hh hk⟩,
    fun k hk => ⟨_, onSpindle_next hn _ s, saveEnd_starts hn hp hk⟩,
    fun l j hr hs => ⟨_, onSpindle_next hn _ s, restoreEnd_resumes hn hp hr hs⟩,
    fun ht hw => ⟨⟨_, onSpindle_next hn (fun s => (katEnd sp.toNat true s).resumeService) s, katEnd_passes hn hp ht hw⟩,
      ⟨_, onSpindle_next hn (fun s => (katEnd sp.toNat false s).resumeService) s, katEnd_fails hn hp ht hw⟩⟩,
    fun hn8 hj he hl => ⟨_, onSpindle_next hn _ s, refillEvent_fills hn8 hp hj he hl⟩⟩
  · have hcalm : s.SpindlesCalm := ⟨h1, h2, h3⟩
    have hend := State.jobEnded_eq hcalm hn hp hs
    have hpart (c : Cmd) (rest : List Part) (hw : j.what = .part c rest) :
        exec (.spindleJobEnd sp g) s = .next (((s.countJob sp.toNat).freeSpindle sp.toNat).partDone c rest j.cyc) :=
      (onSpindle_next hn _ s).trans (congrArg Host.Outcome.next (spindleJobEndEvent_part hp hj ht hr g hw))
    have hown (hw : ∀ c a, j.what ≠ .part c a) : exec (.spindleJobEnd sp g) s = .next (s.jobEnd sp.toNat g false) :=
      (onSpindle_next hn _ s).trans (congrArg Host.Outcome.next (spindleJobEndEvent_ends hp hj ht hr g hw))
    refine ⟨fun r x hr' => ?_, fun code w cv ops hprog hw hv hf htag => ⟨_, hown hw, ?_⟩,
      fun cv e r v qx qy hw hprog hv hf htag => ⟨_, hown hw, ?_⟩, fun cv e d u qx qy lv vp hprog hw hn8 hvp hreg => ⟨_, hown hw, ?_⟩⟩
    · rw [← hr'] at hend
      rw [hend] at hpart
      exact ⟨fun c a more m hw hres hb hstop hidle => ⟨_, (hpart c _ hw).trans (congrArg Host.Outcome.next (State.partDone_more hres hb _)),
          State.requestPart_next more hstop hidle⟩,
        fun c body hw hres hb => ⟨_, (hpart c _ hw).trans (congrArg Host.Outcome.next (State.partDone_last hres hb _)), rfl⟩,
        fun c more hw hres => ⟨_, (hpart c _ hw).trans (congrArg Host.Outcome.next (State.partDone_none hres _ _)), rfl⟩⟩
    · rw [State.jobEnd_verifies hp hj (by rw [hprog]; rfl)]
      have hend' : ∃ wr, (s.countJob sp.toNat).verifyEnd sp.toNat j = (s.countJob sp.toNat).postReply
          { j.h with cycles := sat 32 j.cyc, inl := inlAt 0 (bnRun code.toNat w cv ops).flags ||| inlAt 1 sp.toNat, write := wr } := by
        rw [State.verifyEnd, hprog]
        exact ⟨_, rfl⟩
      obtain ⟨wr, hend'⟩ := hend'
      exact State.verifyJobEnd_replies hcalm hn hp hend' hv hf htag
    · rw [State.jobEnd_verifies hp hj (by rw [hprog]; rfl)]
      have hend' : (s.countJob sp.toNat).verifyEnd sp.toNat j = (s.countJob sp.toNat).postReply
          { j.h with status := if sm2Verify cv e r v qx qy then 0 else stSignatureReject, cycles := sat 32 j.cyc } := by
        rw [State.verifyEnd, hprog]
      exact State.verifyJobEnd_replies hcalm hn hp hend' hv hf htag
    · have hjob : s.jobEnd sp.toNat g false = s.signJobEnd sp.toNat j g false := by
        subst hp
        rw [State.jobEnd, hj]
        dsimp only
        rw [if_pos (by rw [hprog]; rfl)]
      rw [hjob]
      exact State.signJobEnd_asks hcalm hn8 hp hs hprog hvp hreg
  · have hstay : spindleJobEndEvent sp.toNat g s = s := by
      subst hp
      rw [spindleJobEndEvent]
      exact if_pos (by simpa using h)
    exact (onSpindle_next hn _ s).trans (congrArg Host.Outcome.next hstay)

end Sys2Proof.Machine
end

section
/-! PROOFS. Arbiters park and grant, flag starvation, and count the firings of their watchdogs (R243, R244, R246 to R250). -/

namespace Sys2Proof.Machine

set_option Elab.async false

/-! ## A request that nothing else competes with (R243, R244) -/

section
variable {s t : State} {n i : Nat} {a : Arbiter}

theorem Tab.filter_put_of_none {α : Type} {P : Nat × α → Bool} {k : Nat} {v : α} (hv : P (k, v) = true) :
    ∀ t : Tab α, t.filter P = [] → (t.put k v).filter P = [(k, v)]
  | [], _ => by simp [Tab.put, hv]
  | (j, w) :: rest, h => by
    obtain ⟨hjw, hrest⟩ : P (j, w) = false ∧ rest.filter P = [] := by
      rw [List.filter_cons] at h
      split at h
      · cases h
      · next hj => exact ⟨by simpa using hj, h⟩
    rw [Tab.put]
    split
    · rw [List.filter_cons_of_pos hv, hrest]
    · split
      · rw [List.filter_cons_of_pos hv, List.filter_cons_of_neg (by simp [hjw]), hrest]
      · rw [List.filter_cons_of_neg (by simp [hjw])]
        exact Tab.filter_put_of_none hv rest hrest

theorem Tab.find_mapVals {α β : Type} (f : Nat → α → β) (k : Nat) : ∀ t : Tab α, (t.mapVals f).find k = (t.find k).map (f k)
  | [] => rfl
  | (j, v) :: rest => by
    have hcons : Tab.mapVals f ((j, v) :: rest) = (j, f j v) :: Tab.mapVals f rest := rfl
    rw [hcons, Tab.find, Tab.find]
    split
    · next h => rw [h, Option.map_some]
    · split
      · rfl
      · exact Tab.find_mapVals f k rest

theorem State.arbiter_setArbiter (n : Nat) (a : Arbiter) (s : State) :
    (s.setArbiter n a).arbiter n = a ∧ ∀ m, m ≠ n → (s.setArbiter n a).arbiter m = s.arbiter m := by
  simp only [State.arbiter, State.setArbiter, Tab.get]
  exact ⟨by rw [Tab.find_put]; rfl, fun m hm => by rw [Tab.find_put_ne _ _ hm]⟩

theorem Arbiter.req_put (a : Arbiter) (i : Nat) (r : Requester) : ({ a with reqs := a.reqs.put i r } : Arbiter).req i = r := by
  simp only [Arbiter.req, Tab.get, Tab.find_put]
  rfl

/-- The arbiter at which one request more has parked. -/
def Arbiter.parkedOne (a : Arbiter) (i stamp : Nat) : Arbiter :=
  { a with reqs := a.reqs.put i { a.req i with parked := [{ since := stamp, starved := false }] } }

theorem Arbiter.idle_of_asking (ha : a.asking = []) (i : Nat) : (a.req i).parked = [] := by
  rw [Arbiter.req, Tab.get]
  rcases hf : a.reqs.find i with _ | r
  · rfl
  · have hmem := Tab.mem_of_find hf
    rw [Arbiter.asking, List.map_eq_nil_iff, List.filter_eq_nil_iff] at ha
    simpa using ha _ hmem

theorem State.park_one (ha : (s.arbiter n).asking = []) : s.park n [i] = s.setArbiter n ((s.arbiter n).parkedOne i (s.stamp n)) := by
  rw [State.park, List.foldl_cons, List.foldl_nil, State.setReq, Arbiter.idle_of_asking ha]
  rfl

theorem Arbiter.asking_parkedOne (ha : a.asking = []) (i stamp : Nat) : (a.parkedOne i stamp).asking = [i] := by
  rw [Arbiter.asking, List.map_eq_nil_iff] at ha
  rw [Arbiter.asking, Arbiter.parkedOne]
  dsimp only
  rw [Tab.filter_put_of_none rfl a.reqs ha]
  rfl

/-- The arbiter with the credits that step 1 of R243 leaves. -/
def Arbiter.credited (a : Arbiter) (i : Nat) : Arbiter := a.reload (fun _ => true) (fun _ r => r.weight) [i]

/-- With one requester asking, the credits are reloaded where it holds none. -/
theorem Arbiter.credited_req {r : Requester} (hr : a.reqs.find i = some r) (hw : r.weight ≠ 0) :
    (a.credited i).req i = (if r.credit = 0 then { r with credit := r.weight } else r) ∧ ((a.credited i).req i).credit ≠ 0 := by
  have hreq : a.req i = r := by
    rw [Arbiter.req, Tab.get, hr]
    rfl
  rw [Arbiter.credited, Arbiter.reload]
  by_cases hc : r.credit = 0
  · rw [if_neg (by simp [hreq, hc]), if_pos hc, Arbiter.req]
    simp only [if_true, Tab.get, Tab.find_mapVals, hr, Option.map_some, Option.getD_some]
    exact ⟨trivial, hw⟩
  · rw [if_pos (by rw [List.any_cons, hreq, bne_iff_ne.mpr hc, Bool.true_or]), if_neg hc, hreq]
    exact ⟨rfl, hc⟩

theorem nextAsking_one (p i : Nat) : nextAsking p [i] = some i := by
  rw [nextAsking]
  by_cases h : p ≤ i <;> simp [h]

theorem Arbiter.spend_req (a : Arbiter) (i : Nat) : (a.spend i).req i = { a.req i with credit := (a.req i).credit - 1 } :=
  Arbiter.req_put a i _

/-- An arbiter with one requester that asks and has weight chooses it. -/
theorem State.choose_one {r : Requester} (hn : n ≠ 0) (hn' : n ≠ 21) (ha : (s.arbiter n).asking = [i]) (hr : (s.arbiter n).reqs.find i = some r)
    (hw : r.weight ≠ 0) :
    ∃ b c, s.choose n = some (i, b) ∧ b.req i = { r with credit := c } := by
  obtain ⟨h1, h2⟩ := Arbiter.credited_req hr hw
  have hfil : ([i].filter fun j => (((s.arbiter n).credited i).req j).credit != 0) = [i] := by
    rw [List.filter_cons_of_pos (by simpa using h2), List.filter_nil]
  have hreq : ∃ c, ((s.arbiter n).credited i).req i = { r with credit := c } := by
    rw [h1]
    split
    · exact ⟨_, rfl⟩
    · exact ⟨r.credit, rfl⟩
  obtain ⟨c, hc⟩ := hreq
  have hpick : s.choose n = (nextAsking (s.arbiter n).pointer [i]).map fun j =>
      let b := ((s.arbiter n).credited i).spend j
      let more := decide (1 < (b.req j).parked.length)
      (j, { b with pointer := if (b.req j).credit = 0 || !more then j + 1 else j }) := by
    have hp : ((s.arbiter n).credited i).pointer = (s.arbiter n).pointer := by
      rw [Arbiter.credited, Arbiter.reload]
      split <;> rfl
    rw [State.choose, if_neg hn, State.pick]
    dsimp only
    rw [if_neg hn', ha, show (s.arbiter n).reload (fun _ => true) (fun _ r => r.weight) [i] = (s.arbiter n).credited i from rfl, hfil, hp]
  rw [hpick, nextAsking_one]
  refine ⟨_, c - 1, rfl, (Arbiter.spend_req _ i).trans ?_⟩
  rw [hc]

theorem satAdd_zero {w : Nat} (c : BitVec w) : satAdd c 0 = c := by
  rw [satAdd, if_pos (by simpa using c.isLt)]
  simp

theorem State.grantTo_arbiter (n i : Nat) (a : Arbiter) (s : State) :
    ((s.grantTo n i a).arbiter n).req i = (a.req i).granted (s.uncounted n) (s.waitOf n (((a.req i).parked.head?.map (·.since)).getD 0)) ∧
      ∀ m, m ≠ n → (s.grantTo n i a).arbiter m = s.arbiter m := by
  obtain ⟨h1, h2⟩ := State.arbiter_setArbiter n
    { a with reqs := a.reqs.put i ((a.req i).granted (s.uncounted n) (s.waitOf n (((a.req i).parked.head?.map (·.since)).getD 0))) } s
  exact ⟨by rw [State.grantTo, h1, Arbiter.req_put], h2⟩

/-- A request that parks where no other waits: it waits, counted from now. -/
theorem grantEvent_parks (ha : s.asks n = none) (hi : (s.arbiter n).asking = []) :
    grantEvent n [i] false s = s.setArbiter n ((s.arbiter n).parkedOne i (s.stamp n)) := by
  rw [grantEvent, ha, if_neg (by simp)]
  dsimp only
  rw [if_neg (by simp), State.park_one hi]

/-- A request that parks where no other waits is granted in the same step, without wait. -/
theorem grantEvent_grants (ha : s.asks n = none) (hi : (s.arbiter n).asking = []) (hw : ((s.arbiter n).req i).weight ≠ 0)
    (hu : s.uncounted n = false) (hr : s.arbRuns n = true) :
    ((grantEvent n [i] true s).arbiter n).req i = { (s.arbiter n).req i with
        parked := [], credit := (((grantEvent n [i] true s).arbiter n).req i).credit
        grants := satAdd ((s.arbiter n).req i).grants 1 } ∧
      ∀ m, m ≠ n → (grantEvent n [i] true s).arbiter m = s.arbiter m := by
  obtain ⟨hp, hother⟩ := State.arbiter_setArbiter n ((s.arbiter n).parkedOne i (s.stamp n)) s
  have hev : grantEvent n [i] true s = (s.setArbiter n ((s.arbiter n).parkedOne i (s.stamp n))).grant n := by
    rw [grantEvent, ha, if_neg (by simp)]
    dsimp only
    rw [State.park_one hi]
    exact if_pos (Bool.and_eq_true_iff.mpr ⟨rfl, hr⟩)
  have hn : n ≠ 0 := by
    rintro rfl
    cases ha
  have hn' : n ≠ 21 := by
    rintro rfl
    cases ha
  have hu' : (s.setArbiter n ((s.arbiter n).parkedOne i (s.stamp n))).uncounted n = false := by
    rw [State.uncounted, hp]
    exact hu
  have hwait : (s.setArbiter n ((s.arbiter n).parkedOne i (s.stamp n))).waitOf n (s.stamp n) = 0 := by
    rw [State.waitOf]
    exact if_pos rfl
  rw [hev]
  generalize hv : s.setArbiter n ((s.arbiter n).parkedOne i (s.stamp n)) = v at hp hother hu' hwait
  obtain ⟨b, c, hb, hbr⟩ := State.choose_one (s := v) (n := n) (i := i)
    (r := { (s.arbiter n).req i with parked := [{ since := s.stamp n, starved := false }] }) hn hn'
    (by rw [hp]; exact Arbiter.asking_parkedOne hi i _) (by rw [hp]; exact Tab.find_put _ _ _) hw
  obtain ⟨h1, h2⟩ := State.grantTo_arbiter n i b v
  have hg : v.grant n = v.grantTo n i b := by
    rw [State.grant, hb]
  rw [hg, h1, hbr, hu']
  refine ⟨?_, fun m hm => (h2 m hm).trans (hother m hm)⟩
  simp only [Requester.granted, List.head?_cons, Option.map_some, Option.getD_some, hwait, satAdd_zero]
  simp

/-! ## Arbiters that the model's own units ask -/

theorem grantEvent_dispatches {l : List Nat} {q : QId} {f : Fetched} {u d : Nat} (hn : n ∈ ([1, 2, 3] : List Nat))
    (hd : (s.sync n).nextDispatch n = some ((q, f), u, d, a)) :
    ((grantEvent n l true s).queue q).inflight =
      (s.queue q).inflight.map fun g => if g.id = f.id then { f with stage := .dispatched (BitVec.ofNat 8 u) } else g := by
  have hev : grantEvent n l true s = (((s.sync n).sync n).grantTo n d a).setFetched q { f with stage := .dispatched (BitVec.ofNat 8 u) } := by
    have hsome : (s.asks n).isSome = true := by
      simp only [List.mem_cons, List.not_mem_nil, or_false] at hn
      rcases hn with rfl | rfl | rfl <;> rfl
    have hreal : (s.sync n).grantReal n = (s.sync n).dispatchAt n := by
      simp only [List.mem_cons, List.not_mem_nil, or_false] at hn
      rcases hn with rfl | rfl | rfl <;> rfl
    rw [grantEvent, if_pos hsome]
    dsimp only
    rw [if_pos rfl, hreal, State.dispatchAt, hd]
  have hq : (((s.sync n).sync n).grantTo n d a).queue q = s.queue q := by
    have h : (((s.sync n).sync n).grantTo n d a).queue q = ((s.sync n).sync n).queue q := rfl
    rw [h, State.queue_sync, State.queue_sync]
  rw [hev, State.setFetched_inflight, hq]

end

/-! ## The counts of firings (R249, R250) -/

/-- The count of watchdog firings of each arbiter. -/
def State.dogs (s : State) (n : Nat) : BitVec 16 := (s.arbiter n).wdog

section
variable {s t : State} {n i : Nat} {a : Arbiter}

theorem State.dogs_of_arb (h : t.arb.arbs = s.arb.arbs) : t.dogs = s.dogs := by
  funext n
  rw [State.dogs, State.arbiter, h]
  rfl

theorem State.dogs_setArbiter (h : a.wdog = s.dogs n) : (s.setArbiter n a).dogs = s.dogs := by
  obtain ⟨h1, h2⟩ := State.arbiter_setArbiter n a s
  funext m
  by_cases hm : m = n
  · rw [hm, State.dogs, h1, h]
  · rw [State.dogs, h2 m hm]
    rfl

theorem State.dogs_grantTo (h : a.wdog = s.dogs n) (i : Nat) : (s.grantTo n i a).dogs = s.dogs := State.dogs_setArbiter h

theorem State.dogs_sync (n : Nat) (s : State) : (s.sync n).dogs = s.dogs := by
  unfold State.sync
  split
  · rfl
  · dsimp only
    split
    · rfl
    · exact State.dogs_setArbiter rfl

theorem Arbiter.reload_wdog (mine : Nat → Bool) (weight : Nat → Requester → Byte) (asks : List Nat) (a : Arbiter) :
    (a.reload mine weight asks).wdog = a.wdog := by
  rw [Arbiter.reload]
  split <;> rfl

/-- Choosing moves credits and pointer, not the count. -/
theorem State.wdog_of_pick (h : s.pick n = some (i, a)) : a.wdog = s.dogs n := by
  rw [State.pick] at h
  dsimp only at h
  split at h
  · obtain ⟨_, -, he⟩ := Option.map_eq_some_iff.mp h
    rw [← (Prod.mk.inj he).2]
    rfl
  · obtain ⟨_, -, he⟩ := Option.map_eq_some_iff.mp h
    rw [← (Prod.mk.inj he).2]
    exact Arbiter.reload_wdog ..

theorem State.dogs_setSpindle (n : Nat) (p : Spindle) (s : State) : (s.setSpindle n p).dogs = s.dogs := State.dogs_of_arb rfl

theorem State.dogs_startJob (n : Nat) (j : Job) (s : State) : (s.startJob n j).dogs = s.dogs := by
  have h : s.touches [.spn, .ks] (s.startJob n j) := by simp
  exact State.dogs_of_arb (congrArg (·.arbs) (h .arb (by decide) : _ = s.arb))

theorem State.dogs_grantParked (k : Bool) (s : State) : (s.grantParked k).dogs = s.dogs := by
  have hk : spindleArb k ≠ 0 := by cases k <;> decide
  unfold State.grantParked
  split
  next i a ha =>
    rw [State.choose, if_neg hk] at ha
    dsimp only
    split
    · split
      · split
        · rfl
        · rw [State.dogs_startJob, State.dogs_of_arb (s := (s.sync (spindleArb k)).grantTo (spindleArb k) i a) (by cases k <;> rfl),
            State.dogs_grantTo (State.wdog_of_pick ha), State.dogs_sync]
      · rfl
    · rfl
  next => rfl

theorem State.dogs_postReply (h : Held) (s : State) : (s.postReply h).dogs = s.dogs := State.dogs_of_arb (by rw [State.postReply_arb])

theorem State.dogs_failJob (j : Job) (st : BitVec 16) (cyc : Nat) (s : State) : (s.failJob j st cyc).dogs = s.dogs := by
  have h : s.touches [.gctl, .queues, .led, .ru, .mss, .posted] (s.failJob j st cyc) := by simp
  exact State.dogs_of_arb (congrArg (·.arbs) (h .arb (by decide) : _ = s.arb))

theorem State.dogs_failRun (r : SealRun) (st : BitVec 16) (s : State) : (s.failRun r st).dogs = s.dogs := by
  have h : s.touches [.gctl, .queues, .led, .ru, .mss, .posted] (s.failRun r st) := by simp
  exact State.dogs_of_arb (congrArg (·.arbs) (h .arb (by decide) : _ = s.arb))

theorem State.dogs_raise (bit : Nat) (s : State) : (s.raise bit).dogs = s.dogs := by
  have h : s.touches [.gctl, .posted] (s.raise bit) := by simp
  exact State.dogs_of_arb (congrArg (·.arbs) (h .arb (by decide) : _ = s.arb))

theorem State.dogs_log (c : BitVec 16) (p v : Byte) (d : Bytes) (s : State) : (s.log c p v d).dogs = s.dogs := by
  have h : s.touches [.kp] (s.log c p v d) := by simp
  exact State.dogs_of_arb (congrArg (·.arbs) (h .arb (by decide) : _ = s.arb))

theorem State.dogs_leaveDone (n : Nat) (s : State) : (s.leaveDone n).dogs = s.dogs := by
  unfold State.leaveDone
  dsimp only
  split
  · split
    · rw [State.dogs_postReply]
      exact State.dogs_of_arb rfl
    · rfl
  · rfl

theorem State.dogs_freeSpindle (n : Nat) (s : State) : (s.freeSpindle n).dogs = s.dogs := by
  unfold State.freeSpindle
  dsimp only
  rw [State.dogs_leaveDone, State.dogs_grantParked, State.dogs_grantParked, State.dogs_setSpindle]

theorem State.dogs_dropFrom (j : Job) (s : State) (n : Nat) : (s.dropFrom j n).dogs = s.dogs := by
  unfold State.dropFrom
  dsimp only
  split
  · exact State.dogs_freeSpindle n s
  · split
    · exact State.dogs_setSpindle ..
    · split
      · exact State.dogs_setSpindle ..
      · rfl

theorem State.dogs_cutJob (j : Job) (st : BitVec 16) (s : State) : (s.cutJob j st).dogs = s.dogs := by
  unfold State.cutJob
  dsimp only
  rw [State.dogs_failJob, State.foldl_keeps (part := State.dogs) (fun u m => State.dogs_dropFrom j u m)]
  exact State.dogs_of_arb rfl

theorem State.dogs_endStuck (w : Stuck) (s : State) : (s.endStuck w).dogs = s.dogs := by
  unfold State.endStuck
  split
  · exact State.dogs_cutJob ..
  · split
    · split
      · exact State.dogs_postReply ..
      · rfl
    · rfl

theorem State.dogs_cutRun (r : SealRun) (st : BitVec 16) (b : Bool) (s : State) : (s.cutRun r st b).dogs = s.dogs := by
  unfold State.cutRun
  dsimp only
  rw [State.dogs_sync, State.dogs_failRun]
  split
  · split
    · split <;> exact State.dogs_of_arb rfl
    · exact State.dogs_of_arb rfl
  · split
    · split <;> exact State.dogs_of_arb rfl
    · exact State.dogs_of_arb rfl
  · exact State.dogs_of_arb rfl
  · exact State.dogs_of_arb rfl

theorem State.dogs_cutDig (r : DigRun) (st : BitVec 16) (b : Bool) (s : State) : (s.cutDig r st b).dogs = s.dogs := by
  have h : (s.dropDig r.ctx).dogs = s.dogs := by
    rw [State.dropDig, State.dogs_sync]
    exact State.dogs_of_arb rfl
  rw [State.cutDig, State.dogs_postReply]
  split
  · exact (State.dogs_of_arb rfl).trans h
  · exact h

theorem State.dogs_endStuckSeal (w : Stuck) (s : State) : (s.endStuckSeal w).dogs = s.dogs := by
  unfold State.endStuckSeal
  split
  · exact State.dogs_cutRun ..
  · dsimp only
    rw [State.dogs_endStuck]
    split
    · split
      · exact State.dogs_of_arb rfl
      · rfl
    · rfl

theorem State.dogs_endStuckDigest (w : Stuck) (s : State) : (s.endStuckDigest w).dogs = s.dogs := by
  unfold State.endStuckDigest
  dsimp only
  split
  · exact State.dogs_cutDig ..
  · rw [State.dogs_endStuck]
    split
    · exact State.dogs_of_arb rfl
    · rfl

theorem State.dogs_abortSpindle (st : BitVec 16) (n : Nat) (s : State) : (s.abortSpindle st n).dogs = s.dogs := by
  rw [State.abortSpindle, State.foldl_keeps (part := State.dogs) (fun u j => State.dogs_failJob j st _ u), State.clearSpindle,
    State.dogs_setSpindle]

theorem State.dogs_returned (code : Nat) (b : Bool) (s : State) : (s.returned code b).dogs = s.dogs := by
  unfold State.returned
  split
  · rfl
  · rw [State.dogs_postReply]
    exact State.dogs_of_arb rfl

theorem State.dogs_toTest (n cause : Nat) (s : State) : (s.toTest n cause).dogs = s.dogs := by
  have h (u : State) : State.dogs { u with spn := { u.spn with katRunning := true, katSpindle := BitVec.ofNat 6 n } } = u.dogs :=
    State.dogs_of_arb rfl
  rw [State.toTest]
  dsimp only
  rw [h, State.dogs_returned, State.serviceChange]
  dsimp only
  rw [State.dogs_log, State.dogs_raise]
  exact State.dogs_of_arb rfl

theorem State.dogs_endStuckJob (w : Stuck) (s : State) : (s.endStuckJob w).dogs = s.dogs := by
  unfold State.endStuckJob
  dsimp only
  split
  · exact State.dogs_endStuck w s
  · rw [State.dogs_leaveDone, State.dogs_toTest, State.dogs_abortSpindle]

end

/-! ## Starvation -/

section
variable {s r : State} {n i : Nat} {p : Parked}

theorem State.waited_arb (n since w : Nat) (s : State) : (s.waited n since w).arb = s.arb := by
  have h : s.touches [.gctl, .mem, .tmp, .mss, .aot] (s.waited n since w) := by simp
  exact h .arb (by decide)

theorem State.arbiter_congr {t : State} (h : t.arb = s.arb) (n : Nat) : t.arbiter n = s.arbiter n := by
  rw [State.arbiter, h]
  rfl

theorem starveEvent_flags (hr : r = s.sync n) (hp : (((r.arbiter n).req i).parked.find? fun p => !p.starved) = some p)
    (ht : r.starveThreshold n i ≠ 0)
    (hw : r.starveThreshold n i < (r.waited n p.since (r.starveThreshold n i + 1)).waitOf n p.since) :
    ((((starveEvent n i s).arbiter n).req i).starve = true ∧ (starveEvent n i s).gctl.evtStat.getLsbD evStarve = true) ∧
      (((starveEvent n i s).arbiter n).req i).weight = ((r.arbiter n).req i).weight := by
  have hev : starveEvent n i s = ((r.waited n p.since (r.starveThreshold n i + 1)).setReq n i
      { ((r.waited n p.since (r.starveThreshold n i + 1)).arbiter n).req i with
        starve := true
        parked := (((r.waited n p.since (r.starveThreshold n i + 1)).arbiter n).req i).parked.map fun k =>
          if k = p then { k with starved := true } else k }).raise evStarve := by
    rw [starveEvent]
    dsimp only
    rw [← hr, hp]
    exact if_neg (by omega)
  rw [hev, State.arbiter_congr (State.raise_arb _ _), State.setReq]
  dsimp only
  rw [(State.arbiter_setArbiter ..).1, Arbiter.req_put, State.arbiter_congr (State.waited_arb ..)]
  exact ⟨⟨rfl, State.raise_evtStat _ _ (by decide)⟩, rfl⟩

theorem starveEvent_waits (hr : r = s.sync n) (hp : (((r.arbiter n).req i).parked.find? fun p => !p.starved) = some p)
    (ht : r.starveThreshold n i = 0 ∨ (r.waited n p.since (r.starveThreshold n i + 1)).waitOf n p.since ≤ r.starveThreshold n i) :
    starveEvent n i s = r := by
  rw [starveEvent]
  dsimp only
  rw [← hr, hp]
  exact if_pos (by omega)

end

/-! ## Watchdogs -/

section
variable {s : State} {w : Stuck} {f : Fetched} {u : Byte}

/-- The state in which the stuck command has ended (R250). -/
def State.unstuck (w : Stuck) (s : State) : State :=
  let n := w.arb.toNat
  if n = 12 ∨ n = 13 then s.endStuckJob w
  else if n = 14 ∨ n = 15 then s.endStuckSeal w
  else if n = 17 then s.endStuckDigest w
  else s.endStuck w

theorem State.dogs_unstuck (w : Stuck) (s : State) : (s.unstuck w).dogs = s.dogs := by
  unfold State.unstuck
  dsimp only
  split
  · exact State.dogs_endStuckJob w s
  · split
    · exact State.dogs_endStuckSeal w s
    · split
      · exact State.dogs_endStuckDigest w s
      · exact State.dogs_endStuck w s

/-- What a firing adds after the end of the command: the count, the event, a record. -/
def State.dogCounted (w : Stuck) (s : State) : State :=
  let n := w.arb.toNat
  ((s.setArbiter n { s.arbiter n with wdog := satAdd (s.arbiter n).wdog 1 }).raise evWatchdog).log 0x0021 1 2
    ([BitVec.ofNat 8 n, BitVec.ofNat 8 w.inst] ++ leBytes 2 w.req)

theorem watchdogEvent_fires (hw : watched w.arb.toNat = true) (hh : s.heldAt w = true ∨ s.tmp.stage = .clearing) :
    watchdogEvent w s = (s.unstuck w).dogCounted w := by
  have hgo : ¬(!watched w.arb.toNat || !(s.heldAt w || s.tmp.stage == .clearing)) = true := by
    rcases hh with h | h <;> simp [hw, h]
  rw [watchdogEvent]
  exact if_neg hgo

theorem watchdogEvent_stays (hh : s.heldAt w = false) (ht : s.tmp.stage ≠ .clearing) : watchdogEvent w s = s := by
  rw [watchdogEvent]
  exact if_pos (by simp [hh, ht])

theorem State.dogCounted_counts (w : Stuck) (s : State) :
    (s.dogCounted w).gctl.evtStat.getLsbD evWatchdog = true ∧ ((s.dogCounted w).arbiter w.arb.toNat).wdog = satAdd (s.dogs w.arb.toNat) 1 := by
  refine ⟨?_, ?_⟩
  · rw [State.dogCounted, State.log_gctl]
    exact State.raise_evtStat _ _ (by decide)
  · have h : (s.dogCounted w).dogs w.arb.toNat = satAdd (s.dogs w.arb.toNat) 1 := by
      rw [State.dogCounted]
      dsimp only
      rw [State.dogs_log, State.dogs_raise, State.dogs, (State.arbiter_setArbiter ..).1]
      rfl
    exact h

theorem State.dogCounted_keeps (w : Stuck) (s : State) :
    (∀ n, (s.dogCounted w).spindle n = s.spindle n) ∧ (∀ c, (s.dogCounted w).isOut c = s.isOut c) ∧
      ∀ x, x ∈ s.sent → x ∈ (s.dogCounted w).sent := by
  refine ⟨fun n => State.spindle_congr (by simp [State.dogCounted, State.setArbiter]) n,
    fun c => State.isOut_congr (by simp [State.dogCounted, State.setArbiter]) c, fun x hx => ?_⟩
  have hlog (u : State) (c : BitVec 16) (p v : Byte) (d : Bytes) : (u.log c p v d).sent = u.sent := by simp [State.sent]
  rw [State.dogCounted, hlog]
  exact State.sent_grows_raise _ hx

/-- A port's watchdog answers the command that is stuck there. -/
theorem State.unstuck_answers (hn : w.arb.toNat ∈ ([9, 10, 11, 18, 19] : List Nat)) (hj : s.jobOf w.q w.tag = none)
    (hf : ((s.queue w.q).inflight.find? fun f => !f.running && f.pkt.tag == w.tag) = some f) (hu : f.stage = .dispatched u)
    (hid : (s.queue w.q).inflight.find? (·.id == f.id) = some f) : (s.unstuck w).answers w.q f stWatchdog 0 := by
  have hstuck : s.unstuck w = s.endStuck w := by
    simp only [List.mem_cons, List.not_mem_nil, or_false] at hn
    rw [State.unstuck]
    rw [if_neg (by omega), if_neg (by omega), if_neg (by omega)]
  have hend : s.endStuck w = s.postReply { f.refusal w.q stWatchdog with
      cycles := if (opInfo f.pkt.opcode).any (·.fast) then 22 else 24, unit := u } := by
    rw [State.endStuck, hj]
    dsimp only
    rw [hf]
    dsimp only
    rw [hu]
  rw [hstuck, hend]
  exact State.postReply_answers _ s f rfl hid rfl

theorem State.spindle_abortSpindle {n : Nat} (hn : n < 40) (st : BitVec 16) (s : State) : ((s.abortSpindle st n).spindle n).job = none := by
  have hkeep (j : Job) (cyc : Nat) (v : State) : (v.failJob j st cyc).spn = v.spn := by
    have h : v.touches [.gctl, .queues, .led, .ru, .mss, .posted] (v.failJob j st cyc) := by simp
    exact SpindleUnit.eq_of_others (h .spn (by decide)) (h .ran (by decide))
  have hspn : (s.abortSpindle st n).spn = (s.clearSpindle n).spn :=
    State.foldl_keeps (part := State.spn) (fun u j => hkeep j _ u) _ _
  rw [State.spindle_congr hspn, State.clearSpindle, State.spindle_setSpindle _ _ hn]

/-- A watchdog at a spindle's port takes the spindle to its test. -/
theorem State.unstuck_tests (hn : w.arb.toNat ∈ ([12, 13] : List Nat)) (hh : (s.spindle (portSpindle w)).jobsHeld ≠ []) :
    ((s.unstuck w).spindle (portSpindle w)).svc = .testing ∧ ((s.unstuck w).spindle (portSpindle w)).job = none ∧
      (s.unstuck w).isOut (spindleCode (portSpindle w)) = true := by
  have hlt : portSpindle w < 40 := by
    rw [portSpindle]
    split <;> omega
  have hev : s.unstuck w =
      ((s.abortSpindle stWatchdog (portSpindle w)).toTest (portSpindle w) causeWatchdog).leaveDone (portSpindle w) := by
    simp only [List.mem_cons, List.not_mem_nil, or_false] at hn
    rw [State.unstuck]
    rw [if_pos hn, State.endStuckJob]
    exact if_neg (by simpa using hh)
  rw [hev, State.spindle_leaveDone, State.spindle_toTest hlt, State.isOut_congr (State.out_leaveDone _)]
  exact ⟨rfl, State.spindle_abortSpindle hlt _ s, State.isOut_toTest causeWatchdog hlt⟩

end

/-! ## The statement -/

/-- Settles O42, by what a lone request leaves at its arbiter, and by the frame of the watchdog counts under the end of a stuck command. -/
theorem arbitersGrantFlagAndWatch : Obligations.ArbitersGrantFlagAndWatch := by
  intro s
  refine ⟨?parks, ?asked, ?starved, ?watchdog, ?scrub⟩
  case parks =>
    rintro n i _ ha hn rfl hi
    refine ⟨⟨_, if_pos hn, ?_⟩, fun hw hu hr => ⟨_, if_pos hn, ?_⟩⟩
    · obtain ⟨h1, h2⟩ := State.arbiter_setArbiter n.toNat ((s.arbiter n.toNat).parkedOne i (s.stamp n.toNat)) s
      rw [grantEvent_parks ha hi, h1, Arbiter.parkedOne, Arbiter.req_put]
      exact ⟨rfl, rfl, h2⟩
    · obtain ⟨h1, h2⟩ := grantEvent_grants ha hi hw hu hr
      rw [h1]
      exact ⟨rfl, rfl, rfl, rfl, h2⟩
  case asked =>
    refine fun n l ha hn => ⟨⟨_, if_pos hn, ?_⟩, fun q f u d a hm hd => ⟨_, if_pos hn, grantEvent_dispatches hm hd⟩⟩
    rw [grantEvent, if_pos ha]
    rfl
  case starved =>
    rintro n i _ p r hn hr rfl hp
    refine ⟨fun ht hw => ⟨_, if_pos hn, ?_⟩, fun ht => ⟨_, if_pos hn, starveEvent_waits hr hp ht⟩⟩
    obtain ⟨⟨h1, h2⟩, h3⟩ := starveEvent_flags hr hp ht hw
    exact ⟨h1, h2, h3⟩
  case watchdog =>
    intro w hw
    have hn : w.arb.toNat < 34 := by
      rw [watched, decide_eq_true_iff] at hw
      omega
    refine ⟨fun hh => ⟨_, if_pos hn, ?_⟩, fun hh ht => ⟨_, if_pos hn, watchdogEvent_stays hh ht⟩⟩
    rw [watchdogEvent_fires hw hh]
    obtain ⟨h1, h2⟩ := State.dogCounted_counts w (s.unstuck w)
    obtain ⟨h3, h4, h5⟩ := State.dogCounted_keeps w (s.unstuck w)
    refine ⟨h1, h2.trans (by rw [State.dogs_unstuck]; rfl), fun f u hm hj hf hu hid => ?_, fun hm hh => ?_⟩
    · obtain ⟨r, hr, hfields⟩ := State.unstuck_answers hm hj hf hu hid
      exact ⟨r, h5 _ hr, hfields⟩
    · rw [h3, h4]
      exact State.unstuck_tests hm hh
  case scrub =>
    refine fun row => ⟨⟨_, rfl, ?_⟩, fun h => ⟨_, rfl, ?_⟩, fun h => ⟨_, rfl, ?_⟩⟩
    · rw [scrubEvent]
      split <;> rfl
    · rw [scrubEvent, h]
      rfl
    · rw [scrubEvent, if_pos h]
      exact ⟨rfl, by rw [State.transferred]; simp [Tab.get, Tab.find_put]⟩

end Sys2Proof.Machine
end

section
/-! PROOFS. The tamper responses, their erasures and the built-in tests (R322, R324, R326 to R337). -/

namespace Sys2Proof.Machine

set_option Elab.async false

section
variable {s t u : State} {src : BitVec 5} {d : Byte} {r : Nat}

/-! ## What a response leaves of the controller's record -/

/-- The controller's fields that a reset of the MSS and the stages of a response leave. -/
def Tamper.lasting (k : Tamper) : Tamper :=
  { k with stage := .idle, canary := .scoured, release := none, releasing := false, tests := [], testing := false
           suppressed := none, aotAcc := 0 }

def State.tampers (s : State) : Tamper := s.tmp.lasting

theorem Tamper.of_lasting {k l : Tamper} (h : k.lasting = l.lasting) :
    k.active = l.active ∧ k.fired = l.fired ∧ k.lastSource = l.lastSource ∧ k.lastTest = l.lastTest ∧ k.testFails = l.testFails ∧
      k.level = l.level ∧ k.latched = l.latched :=
  ⟨(congrArg Tamper.active h :), (congrArg Tamper.fired h :), (congrArg Tamper.lastSource h :), (congrArg Tamper.lastTest h :),
    (congrArg Tamper.testFails h :), (congrArg Tamper.level h :), (congrArg Tamper.latched h :)⟩

theorem State.tampers_of_touches {L : List Aspect} (h : s.touches L t) (hn : Aspect.tmp ∉ L) : t.tampers = s.tampers :=
  (congrArg Tamper.lasting (h .tmp hn : t.tmp.others = s.tmp.others) : t.tmp.others.lasting = s.tmp.others.lasting)

theorem State.tampers_raise (bit : Nat) (s : State) : (s.raise bit).tampers = s.tampers := by
  have h : s.touches [.gctl, .posted] (s.raise bit) := by simp
  exact State.tampers_of_touches h (by decide)

theorem State.tampers_cutHandover (s : State) : s.cutHandover.tampers = s.tampers := by
  have h : s.touches [.gctl, .queues, .kp, .mss, .posted] s.cutHandover := by simp
  exact State.tampers_of_touches h (by decide)

theorem State.tampers_pauseHandover (b : Bool) (s : State) : (s.pauseHandover b).tampers = s.tampers := by
  have h : s.touches [.mss] (s.pauseHandover b) := by simp
  exact State.tampers_of_touches h (by decide)

theorem State.tampers_wake (k : Byte) (s : State) : (s.wake k).tampers = s.tampers := by
  have h : s.touches [.pwr] (s.wake k) := by simp
  exact State.tampers_of_touches h (by decide)

theorem State.tampers_abortKeyOps (s : State) : s.abortKeyOps.tampers = s.tampers := by
  have h : s.touches [.gctl, .queues, .led, .ru, .spn, .sl, .ks, .kp, .mss, .posted] s.abortKeyOps := by simp
  exact State.tampers_of_touches h (by decide)

theorem State.tampers_stopUnits (s : State) : s.stopUnits.tampers = s.tampers := by
  have h : s.touches [.gctl, .queues, .led, .ru, .spn, .sl, .dig, .ks, .arb, .skn, .kp, .mss, .card, .posted] s.stopUnits := by simp
  exact State.tampers_of_touches h (by decide)

theorem State.tampers_eraseSecrets (s : State) : s.eraseSecrets.tampers = s.tampers := by
  have h : s.touches [.gctl, .queues, .spn, .sl, .dig, .ks, .arb, .skn, .kp, .mss, .posted] s.eraseSecrets := by simp
  exact State.tampers_of_touches h (by decide)

theorem State.tampers_tamperRecord (s : State) : s.tamperRecord.tampers = s.tampers := by
  have h : s.touches [.gctl, .led, .arb, .posted] s.tamperRecord := by simp
  exact State.tampers_of_touches h (by decide)

theorem State.tampers_eraseShares (s : State) : s.eraseShares.tampers = s.tampers := rfl

theorem State.tampers_holdMss (s : State) : s.holdMss.tampers = s.tampers := by
  have h1 (u : State) : u.touches [.gctl, .queues, .arb, .kp, .mss, .posted] (u.cutHandover.logReset rkMssTamper) := by simp
  have h2 (u : State) : u.touches [.arb, .pwr] ((u.clearArbiters 22 28).causeBit rcMss) := by simp
  have h : s.holdMss.tampers = (s.resetMss rkMssTamper).tampers := rfl
  rw [h, State.resetMss]
  dsimp only
  rw [State.tampers_of_touches (h2 _) (by decide), ← State.tampers_of_touches (h1 s) (by decide)]
  rfl

theorem State.tampers_if {c : Prop} [Decidable c] {f : State → State} (hf : ∀ u, (f u).tampers = u.tampers) (u : State) :
    (if c then f u else u).tampers = u.tampers := by
  split
  · exact hf u
  · rfl

/-- The level a response raises, before its stages run. -/
def State.leveled (r : Nat) (s : State) : State :=
  { s with tmp := { s.tmp with level := BitVec.ofNat 2 r, latched := s.tmp.latched || decide (2 ≤ r) } }

/-- What a response does at once: the aborts, and, in DEEP, the erasure. -/
def State.responds (r : Nat) (s : State) : State :=
  let u := (s.leveled r).raise evTamper
  let u := (if 2 ≤ r then u.cutHandover else u.pauseHandover true).wake 5
  let u := if s.tmp.level.toNat = 0 then u.abortKeyOps else u
  let u := if 2 ≤ r ∧ s.tmp.level.toNat < 2 then u.stopUnits else u
  let u := if r = 3 then u.holdMss else u
  if s.asleep && decide (2 ≤ r) then (if r = 3 then u.eraseSecrets.eraseShares else u.eraseSecrets) else u

theorem State.tampers_responds (r : Nat) (s : State) : (s.responds r).tampers = (s.leveled r).tampers := by
  have herase (u : State) : (if r = 3 then u.eraseSecrets.eraseShares else u.eraseSecrets).tampers = u.tampers := by
    split <;> exact State.tampers_eraseSecrets u
  have hpause (u : State) : (if 2 ≤ r then u.cutHandover else u.pauseHandover true).tampers = u.tampers := by
    split
    · exact State.tampers_cutHandover u
    · exact State.tampers_pauseHandover true u
  rw [State.responds]
  rw [State.tampers_if herase, State.tampers_if State.tampers_holdMss, State.tampers_if State.tampers_stopUnits,
    State.tampers_if State.tampers_abortKeyOps, State.tampers_wake, hpause, State.tampers_raise]

theorem State.respond_eq (r : Nat) (s : State) : s.respond r =
    if s.tmp.level.toNat < 2 then { (s.responds r) with tmp := { (s.responds r).tmp with stage := .clearing } }
    else if (s.responds r).tmp.stage = .clearing then s.responds r
    else { (s.responds r).tamperRecord with tmp := { (s.responds r).tamperRecord.tmp with
      stage := if (s.responds r).tmp.stage = .idle then .shares else (s.responds r).tmp.stage } } := (rfl)

/-- A response changes of what lasts only the level and the latch. -/
theorem State.respond_tampers (r : Nat) (s : State) : (s.respond r).tampers = (s.leveled r).tampers := by
  rw [State.respond_eq, ← State.tampers_responds r s]
  split
  · rfl
  · split
    · rfl
    · exact State.tampers_tamperRecord (s.responds r)

theorem State.respond_clearing (r : Nat) (h : s.tmp.level.toNat < 2) : (s.respond r).tmp.stage = .clearing := by
  rw [State.respond_eq, if_pos h]

/-! ## Alarms (R322, R324) -/

/-- An alarm as the controller records and logs it (R324). -/
def State.noted (src : BitVec 5) (d : Byte) (s : State) : State :=
  let u := { s with tmp := { s.tmp with
    fired := setBit s.tmp.fired src.toNat true, count := satAdd s.tmp.count 1, lastSource := src, lastDetail := d
    lastResp := BitVec.ofNat 2 (s.responseOf src.toNat), dwell := s.tmp.dwell && decide (s.responseOf src.toNat = 0) } }
  let u := u.log 0x0010 3 3 [src.setWidth 8, BitVec.ofNat 8 (s.responseOf src.toNat), d]
  if 2 ≤ s.responseOf src.toNat then u.storeEvent src (s.responseOf src.toNat) d false else u

theorem State.storeEvent_tmp (src : BitVec 5) (resp : Nat) (d : Byte) (b : Bool) (s : State) :
    ∃ l k, s.storeEvent src resp d b = { s with tmp := { s.tmp with store := l, overflow := k } } := by
  rw [State.storeEvent]
  dsimp only
  split
  · exact ⟨_, s.tmp.overflow, rfl⟩
  · exact ⟨s.tmp.store, _, rfl⟩

theorem State.noted_tmp (src : BitVec 5) (d : Byte) (s : State) : ∃ l k, (s.noted src d).tmp = { s.tmp with
    fired := setBit s.tmp.fired src.toNat true, count := satAdd s.tmp.count 1, lastSource := src, lastDetail := d
    lastResp := BitVec.ofNat 2 (s.responseOf src.toNat), dwell := s.tmp.dwell && decide (s.responseOf src.toNat = 0)
    store := l, overflow := k } := by
  rw [State.noted]
  dsimp only
  split
  · obtain ⟨l, k, h⟩ := State.storeEvent_tmp src (s.responseOf src.toNat) d false (State.log 0x0010 3 3
      [src.setWidth 8, BitVec.ofNat 8 (s.responseOf src.toNat), d] { s with tmp := { s.tmp with
        fired := setBit s.tmp.fired src.toNat true, count := satAdd s.tmp.count 1, lastSource := src, lastDetail := d
        lastResp := BitVec.ofNat 2 (s.responseOf src.toNat), dwell := s.tmp.dwell && decide (s.responseOf src.toNat = 0) } })
    refine ⟨l, k, ?_⟩
    rw [h, State.log_tmp]
  · exact ⟨s.tmp.store, s.tmp.overflow, State.log_tmp ..⟩

theorem State.noted_keeps (src : BitVec 5) (d : Byte) (s : State) : (s.noted src d).ks = s.ks ∧ (s.noted src d).led = s.led := by
  rw [State.noted]
  dsimp only
  split
  · obtain ⟨l, k, h⟩ := State.storeEvent_tmp src (s.responseOf src.toNat) d false (State.log 0x0010 3 3
      [src.setWidth 8, BitVec.ofNat 8 (s.responseOf src.toNat), d] { s with tmp := { s.tmp with
        fired := setBit s.tmp.fired src.toNat true, count := satAdd s.tmp.count 1, lastSource := src, lastDetail := d
        lastResp := BitVec.ofNat 2 (s.responseOf src.toNat), dwell := s.tmp.dwell && decide (s.responseOf src.toNat = 0) } })
    rw [h]
    exact ⟨State.log_ks .., State.log_led ..⟩
  · exact ⟨State.log_ks .., State.log_led ..⟩

theorem State.noted_level (src : BitVec 5) (d : Byte) (s : State) : (s.noted src d).tmp.level = s.tmp.level := by
  obtain ⟨l, k, h⟩ := State.noted_tmp src d s
  rw [h]

/-- An alarm with a response not above the level is recorded only. -/
theorem State.alarm_quiet (h : s.responseOf src.toNat ≤ s.tmp.level.toNat) (d : Byte) : s.alarm src d = s.noted src d := by
  have hl : s.responseOf src.toNat ≤ (s.noted src d).tmp.level.toNat := by rwa [State.noted_level]
  exact if_pos hl

/-- One above it starts or escalates the response. -/
theorem State.alarm_responds (h : s.tmp.level.toNat < s.responseOf src.toNat) (d : Byte) : ∃ b,
    s.alarm src d = ({ (s.noted src d) with tmp := { (s.noted src d).tmp with latched := b } } : State).respond (s.responseOf src.toNat) := by
  have hl : ¬s.responseOf src.toNat ≤ (s.noted src d).tmp.level.toNat := by
    rw [State.noted_level]
    omega
  have heq : s.alarm src d = (if (s.responseOf src.toNat = 1 && (s.noted src d).latchOf src.toNat) = true then
      ({ (s.noted src d) with tmp := { (s.noted src d).tmp with latched := true } } : State) else s.noted src d).respond
        (s.responseOf src.toNat) := if_neg hl
  rw [heq]
  split
  · exact ⟨true, rfl⟩
  · exact ⟨(s.noted src d).tmp.latched, rfl⟩

/-- What every alarm leaves recorded. -/
theorem State.alarm_notes (src : BitVec 5) (d : Byte) (s : State) :
    (s.alarm src d).tmp.active = s.tmp.active ∧ (s.alarm src d).tmp.fired = setBit s.tmp.fired src.toNat true ∧
      (s.alarm src d).tmp.lastSource = src ∧ (s.alarm src d).tmp.lastTest = s.tmp.lastTest ∧
      (s.alarm src d).tmp.testFails = s.tmp.testFails := by
  obtain ⟨l, k, hn⟩ := State.noted_tmp src d s
  rcases Nat.lt_or_ge s.tmp.level.toNat (s.responseOf src.toNat) with h | h
  · obtain ⟨b, hb⟩ := State.alarm_responds h d
    have ht : (s.alarm src d).tampers = _ := (congrArg State.tampers hb).trans (State.respond_tampers ..)
    obtain ⟨h1, h2, h3, h4, h5, -⟩ := Tamper.of_lasting ht
    simp only [State.leveled, hn] at h1 h2 h3 h4 h5
    exact ⟨h1, h2, h3, h4, h5⟩
  · rw [State.alarm_quiet h, hn]
    exact ⟨rfl, rfl, rfl, rfl, rfl⟩

theorem State.alarm_levels (h : s.tmp.level.toNat < s.responseOf src.toNat) (d : Byte) :
    (s.alarm src d).tmp.level.toNat = s.responseOf src.toNat ∧
      (2 ≤ s.responseOf src.toNat → (s.alarm src d).tmp.latched = true) ∧ (s.tmp.level.toNat < 2 → (s.alarm src d).tmp.stage = .clearing) := by
  have hr : s.responseOf src.toNat < 4 := by
    unfold State.responseOf bitsAt
    omega
  obtain ⟨b, hb⟩ := State.alarm_responds h d
  have ht : (s.alarm src d).tampers = _ := (congrArg State.tampers hb).trans (State.respond_tampers ..)
  obtain ⟨-, -, -, -, -, hlevel, hlatch⟩ := Tamper.of_lasting ht
  refine ⟨?_, fun h2 => ?_, fun h2 => ?_⟩
  · rw [hlevel]
    exact (BitVec.toNat_ofNat ..).trans (Nat.mod_eq_of_lt hr)
  · rw [hlatch]
    exact Bool.or_eq_true_iff.mpr (.inr (decide_eq_true h2))
  · rw [hb]
    exact State.respond_clearing _ (by rw [show _ = _ from State.noted_level src d s]; exact h2)

/-- The source's condition holds. -/
def State.activated (src : BitVec 5) (s : State) : State := { s with tmp := { s.tmp with active := setBit s.tmp.active src.toNat true } }

/-- An alarm of a source that is watched and not under test reaches the controller. -/
theorem alarmEvent_alarms (ha : s.tmp.active.getLsbD src.toNat = false) (hw : s.unwatched src.toNat = false) (ht : s.tmp.testing = false)
    (d : Byte) : alarmEvent src d s = (s.activated src).alarm src d := by
  rw [alarmEvent, if_neg (by rw [ha, hw]; decide)]
  exact if_neg (by rw [ht]; simp)

end

end Sys2Proof.Machine
end

section
/-! PROOFS. The stages of a tamper response, its release and the built-in tests (R326 to R337). -/

namespace Sys2Proof.Machine

set_option Elab.async false

section
variable {s : State}

/-! ## The tamper record and the erasures (R326, R327) -/

theorem State.closeGroup_flags (s : State) : s.closeGroup.led.strip = s.led.strip ∧ s.closeGroup.led.scour = s.led.scour := by
  rw [State.closeGroup]
  dsimp only
  split
  · rw [State.sync_led]
    exact ⟨rfl, rfl⟩
  · exact ⟨rfl, rfl⟩

theorem State.tamperRecord_flags (s : State) :
    s.tamperRecord.led.strip = true ∧ (s.tmp.level = 3 → s.tamperRecord.led.scour = true) := by
  have hout (u : State) (c : Bool) : (if c then u else u.raise evFrozen).led = u.led := by
    split
    · rfl
    · exact State.raise_led ..
  rw [State.tamperRecord]
  dsimp only
  rw [hout, (State.closeGroup_flags _).1, (State.closeGroup_flags _).2]
  refine ⟨rfl, fun h => ?_⟩
  rw [h]
  exact Bool.or_true _

theorem Tab.find_keep_none {α : Type} {f : Nat → α → Bool} {k : Nat} (hk : ∀ v, f k v = false) : ∀ t : Tab α, (t.keep f).find k = none
  | [] => rfl
  | (j, v) :: rest => by
    have ih := Tab.find_keep_none hk rest
    rw [Tab.keep] at ih ⊢
    rw [List.filter_cons]
    split
    · next hj =>
      have hne : j ≠ k := by
        rintro rfl
        simp [hk] at hj
      rw [Tab.find, if_neg hne]
      split
      · rfl
      · exact ih
    · exact ih

theorem State.eraseSecrets_erases (s : State) :
    (∀ n, n ≠ 1 → s.eraseSecrets.slot n = none) ∧ s.eraseSecrets.ks.dmks = [] ∧ s.eraseSecrets.ks.root = 0 ∧
      s.eraseSecrets.sl.ctxs = [] ∧ ∀ n, s.eraseSecrets.dig' n = closedDig := by
  have hdrop (u : State) : u.touches [.gctl, .queues, .arb, .skn, .kp, .mss, .posted] ((u.dropLink .east).dropLink .west) := by simp
  have hks (u : State) : ((u.dropLink .east).dropLink .west).ks = u.ks := hdrop u .ks (by decide)
  have hsl (u : State) : ((u.dropLink .east).dropLink .west).sl = u.sl := hdrop u .sl (by decide)
  have hdig (u : State) : ((u.dropLink .east).dropLink .west).dig = u.dig := hdrop u .dig (by decide)
  rw [State.eraseSecrets]
  refine ⟨fun n hn => ?_, ?_, ?_, ?_, fun n => ?_⟩
  · rw [State.slot, hks]
    exact Tab.find_keep_none (f := fun n _ => n == 1) (fun _ => by simpa using hn) _
  · rw [hks]
  · rw [hks]
  · rw [hsl]
  · rw [State.dig', hdig]
    rw [Vector.toList_replicate, List.getD_eq_getElem?_getD, List.getElem?_replicate]
    split <;> rfl

/-! ## Stages -/

theorem State.resumeRelease_none (h : s.tmp.release = none) : s.resumeRelease = s := by
  rw [State.resumeRelease]
  exact if_neg (by simp [h])

theorem State.resumeRelease_stage (h : s.tmp.stage ≠ .idle) : s.resumeRelease = s := by
  rw [State.resumeRelease]
  exact if_neg (by simp [h])

theorem State.startDwell_eq (s : State) : ∃ b, s.startDwell = { s with tmp := { s.tmp with dwell := b } } := by
  rw [State.startDwell]
  split
  · exact ⟨true, rfl⟩
  · exact ⟨s.tmp.dwell, rfl⟩

theorem State.responseDone_eq (s : State) : ∃ b m, s.responseDone = { s with tmp := { s.tmp with stage := .idle, dwell := b }, mss := m } := by
  rw [State.responseDone]
  dsimp only
  split
  · obtain ⟨b, h⟩ := State.startDwell_eq { s with tmp := { s.tmp with stage := .idle }, mss := { s.mss with st := .booting } }
    exact ⟨b, _, h⟩
  · obtain ⟨b, h⟩ := State.startDwell_eq { s with tmp := { s.tmp with stage := .idle } }
    exact ⟨b, s.mss, h⟩

theorem clearsEndEvent_holds (hst : s.tmp.stage = .clearing) (hc : s.coreRuns = true) (hl : s.tmp.level = 1) (hr : s.tmp.release = none) :
    ∃ b m, (clearsEndEvent s).resumeRelease = { s with tmp := { s.tmp with stage := .idle, dwell := b }, mss := m } := by
  have hev : clearsEndEvent s = s.responseDone := by
    rw [clearsEndEvent, if_neg (by simp [hst, hc]), if_pos (by rw [hl]; decide)]
  obtain ⟨b, m, h⟩ := State.responseDone_eq s
  refine ⟨b, m, ?_⟩
  rw [hev, h]
  exact State.resumeRelease_none hr

theorem clearsEndEvent_records (hst : s.tmp.stage = .clearing) (hc : s.coreRuns = true) (hl : 2 ≤ s.tmp.level.toNat) :
    (clearsEndEvent s).resumeRelease = { s.tamperRecord with tmp := { s.tamperRecord.tmp with stage := .erasing } } := by
  have hev : clearsEndEvent s = { s.tamperRecord with tmp := { s.tamperRecord.tmp with stage := .erasing } } := by
    rw [clearsEndEvent, if_neg (by simp [hst, hc]), if_neg (by omega)]
  rw [hev]
  exact State.resumeRelease_stage (by simp)

theorem pulseEndEvent_wiping (hl : s.tmp.level = 3) (hr : s.tmp.release = none) (hst : s.tmp.stage = .wiping) :
    (pulseEndEvent s).resumeRelease = s.eraseShares := by
  have hev : pulseEndEvent s = s.eraseShares := by
    rw [pulseEndEvent, if_neg (by simp [hl]), hst]
  rw [hev]
  exact State.resumeRelease_none hr

theorem pulseEndEvent_shares (hl : s.tmp.level = 3) (hr : s.tmp.release = none) (hst : s.tmp.stage = .shares) :
    ∃ b m, (pulseEndEvent s).resumeRelease =
      { s.eraseShares with tmp := { s.eraseShares.tmp with stage := .idle, dwell := b }, mss := m } := by
  have hev : pulseEndEvent s = s.eraseShares.responseDone := by
    rw [pulseEndEvent, if_neg (by simp [hl]), hst]
  obtain ⟨b, m, h⟩ := State.responseDone_eq s.eraseShares
  refine ⟨b, m, ?_⟩
  rw [hev, h]
  exact State.resumeRelease_none hr

/-- What the end of the wipe leaves: slot 1 empty, the DRAM in self-refresh. -/
def State.wiped (s : State) : State :=
  ({ s with sl := { s.sl with wiping := false }, mem := { s.mem with selfRefresh := true } } : State).emptySlot 1

theorem wipeEndEvent_strips (hst : s.tmp.stage = .wiping) (hl : s.tmp.level = 2) (hr : s.tmp.release = none) :
    ∃ b m, (wipeEndEvent s).resumeRelease = { s.wiped with tmp := { s.tmp with stage := .idle, dwell := b }, mss := m } := by
  have hev : wipeEndEvent s = s.wiped.responseDone := by
    rw [wipeEndEvent, if_neg (by simp [hst])]
    exact if_neg (by simp [State.emptySlot, hl])
  obtain ⟨b, m, h⟩ := State.responseDone_eq s.wiped
  refine ⟨b, m, ?_⟩
  rw [hev, h]
  exact State.resumeRelease_none hr

/-! ## Release and tests (R328 to R333) -/

section
variable {src : BitVec 5} {rest : List (BitVec 5)}

/-- A test's end as it is recorded and logged (R332). -/
def State.testNoted (src : BitVec 5) (rest : List (BitVec 5)) (pass : Bool) (s : State) : State :=
  ({ s with tmp := { s.tmp with
    tests := rest, testing := !rest.isEmpty, suppressed := none, lastTest := src
    testFails := if pass then s.tmp.testFails else satAdd s.tmp.testFails 1, testFailed := s.tmp.testFailed || !pass } } : State).log
      0x0011 2 (if pass then 0 else 2) [src.setWidth 8, if pass then 1 else 0]

theorem testEndEvent_eq (ht : s.tmp.testing = true) (hs : s.tmp.tests = src :: rest) (hn : s.tmp.suppressed = none) (pass : Bool) :
    testEndEvent pass s =
      let u := if pass then s.testNoted src rest pass else (s.testNoted src rest pass).alarm 24 (src.setWidth 8)
      if rest.isEmpty then u.testsDone else u := by
  rw [testEndEvent, ht, hs]
  dsimp only
  rw [hn]
  rfl

theorem testStartEvent_starts (ht : s.tmp.testing = false) (hm : s.mss.st = .running) :
    (testStartEvent s).tmp.testing = true ∧ (testStartEvent s).tmp.tests =
      if s.tmp.tests = [] then [BitVec.ofNat 5 ((s.tmp.lastTest.toNat + 1) % 25)] else s.tmp.tests := by
  have hgo : ¬(s.tmp.testing || s.mss.st != .running) = true := by simp [ht, hm]
  by_cases hn : s.tmp.tests = []
  · rw [testStartEvent, if_neg hgo, if_pos (by simp [hn]), if_pos hn]
    exact ⟨rfl, rfl⟩
  · rw [testStartEvent, if_neg hgo, if_neg (by simpa using hn), if_neg hn]
    exact ⟨rfl, rfl⟩

theorem State.testNoted_tmp (pass : Bool) (s : State) : (s.testNoted src rest pass).tmp = { s.tmp with
    tests := rest, testing := !rest.isEmpty, suppressed := none, lastTest := src
    testFails := if pass then s.tmp.testFails else satAdd s.tmp.testFails 1, testFailed := s.tmp.testFailed || !pass } := State.log_tmp ..

theorem State.holdSource_congr {t : State} (ha : t.tmp.active = s.tmp.active) (hc : t.tmp.cfg = s.tmp.cfg) :
    t.holdSource = s.holdSource := by
  rw [State.holdSource, ha]
  simp only [State.responseOf, hc]
  rfl

/-- Clearing HOLD on a device that is ready, with nothing to resume. -/
theorem State.clearLevel_hold (hl : s.tmp.level = 1) (hg : s.gctl.ready = true) (hw : s.arb.waiting = []) :
    s.clearLevel.tmp =
      { s.tmp with level := 0, latched := false, fired := 0, dwell := false, releasing := false, release := none } := by
  have hleave : s.leaveLevel s.tmp.level.toNat = s := by
    rw [State.leaveLevel, if_pos (by rw [hl]; simp)]
  have hpause (u : State) : u.touches [.mss] (u.pauseHandover false) := by simp
  have hgctl (u : State) : (u.pauseHandover false).gctl = u.gctl := hpause u .gctl (by decide)
  have harb (u : State) : (u.pauseHandover false).arb = u.arb := hpause u .arb (by decide)
  have htmp (u : State) : (u.pauseHandover false).tmp = u.tmp :=
    Tamper.eq_of_others (hpause u .tmp (by decide)) (hpause u .aot (by decide))
  rw [State.clearLevel]
  dsimp only
  rw [hleave, State.log_gctl, hgctl, if_pos hg, State.resumeService_idle (by rw [State.log_arb, harb]; exact hw), State.log_tmp, htmp]

/-- The last test of a release that passes clears HOLD. -/
theorem testEndEvent_releases (ht : s.tmp.testing = true) (hs : s.tmp.tests = [src]) (hn : s.tmp.suppressed = none)
    (hrel : s.tmp.releasing = true) (hf : s.tmp.testFailed = false) (hh : s.holdSource = false) (hst : s.tmp.stage = .idle)
    (hl : s.tmp.level = 1) (hg : s.gctl.ready = true) (hr : s.tmp.release = none) (hw : s.arb.waiting = []) :
    (testEndEvent true s).tmp = { (s.testNoted src [] true).tmp with
      level := 0, latched := false, fired := 0, dwell := false, releasing := false, release := none } := by
  have htmp := State.testNoted_tmp (src := src) (rest := []) true s
  have hev : testEndEvent true s = (s.testNoted src [] true).testsDone := testEndEvent_eq ht hs hn true
  have hgctl : (s.testNoted src [] true).gctl = s.gctl := State.log_gctl ..
  have harb : (s.testNoted src [] true).arb = s.arb := State.log_arb ..
  have hhold : (s.testNoted src [] true).holdSource = false := by
    rw [State.holdSource_congr (s := s) (by rw [htmp]) (by rw [htmp])]
    exact hh
  rw [hev]
  generalize s.testNoted src [] true = u at htmp hgctl harb hhold ⊢
  have hend : u.testsDone = u.clearLevel := by
    rw [State.testsDone, if_pos (by rw [htmp]; exact hrel), State.endRelease]
    dsimp only
    rw [if_pos (by rw [hhold, htmp]; simp [hf, hst]), show u.tmp.release = none by rw [htmp]; exact hr]
  rw [hend]
  exact State.clearLevel_hold (by rw [htmp]; exact hl) (by rw [hgctl]; exact hg) (by rw [harb]; exact hw)

end

/-! ## On backup alone (R335 to R337) -/

theorem backupEvent_stores {src : BitVec 5} (hm : src.toNat ∈ backupSources) (hb : s.pwr.st = .backup) (hlen : s.tmp.store.length < 8) (d : Byte) :
    (backupEvent src d s).tmp.store.length = s.tmp.store.length + 1 ∧
      (s.responseOf src.toNat = 3 → (backupEvent src d s).ks.shares = [] ∧ (backupEvent src d s).ks.mnonce = none ∧
        (backupEvent src d s).tmp.level = 3) ∧
      (s.responseOf src.toNat ≠ 3 → (backupEvent src d s).ks = s.ks ∧ (backupEvent src d s).tmp.level = s.tmp.level) := by
  have hstore (r : Nat) : ∃ x, s.storeEvent src r d true = { s with tmp := { s.tmp with store := s.tmp.store ++ [x] } } := by
    rw [State.storeEvent]
    exact ⟨_, if_pos hlen⟩
  obtain ⟨x, hx⟩ := hstore (s.responseOf src.toNat)
  rw [backupEvent, if_neg (by simp [hb, hm])]
  dsimp only
  rw [hx]
  split
  · next h3 => exact ⟨by simp [State.eraseShares], fun _ => ⟨rfl, rfl, rfl⟩, fun h => absurd h3 h⟩
  · next h3 => exact ⟨by simp, fun h => absurd h h3, fun _ => ⟨rfl, rfl⟩⟩

end

/-- Settles O44, by the record that every response leaves and by what each stage of a response does. -/
theorem tamperResponsesRun : Obligations.TamperResponsesRun := by
  intro s
  refine ⟨?alarms, ?inactive, ?clears, ?erase, ?pulse, ?wipeBegin, ?wipeEnd, ?dwell, ?testStart, ?testEnd, ?backup⟩
  case alarms =>
    rintro src d _ hsrc rfl ha hw ht
    have hev := alarmEvent_alarms ha hw ht d
    have hact : (setBit s.tmp.active src.toNat true).getLsbD src.toNat = true := getLsbD_setBit _ _ _ hsrc
    have hfired : (setBit s.tmp.fired src.toNat true).getLsbD src.toNat = true := getLsbD_setBit _ _ _ hsrc
    refine ⟨fun h => ⟨_, if_pos hsrc, ?_⟩, fun h => ⟨_, if_pos hsrc, ?_⟩⟩
    · rw [hev, State.alarm_quiet (s := s.activated src) h]
      obtain ⟨l, k, hn⟩ := State.noted_tmp src d (s.activated src)
      obtain ⟨hks, hled⟩ := State.noted_keeps src d (s.activated src)
      rw [hn]
      exact ⟨hact, hfired, rfl, rfl, rfl, rfl, rfl, hks, hled⟩
    · rw [hev]
      obtain ⟨h1, h2, -⟩ := State.alarm_notes src d (s.activated src)
      obtain ⟨h3, h4, h5⟩ := State.alarm_levels (s := s.activated src) h d
      exact ⟨by rw [h1]; exact hact, by rw [h2]; exact hfired, h3, h4, h5⟩
  case inactive =>
    intro src hsrc
    refine ⟨_, if_pos hsrc, ?_⟩
    obtain ⟨b, hb⟩ := State.startDwell_eq { s with tmp := { s.tmp with active := setBit s.tmp.active src.toNat false } }
    rw [inactiveEvent, hb]
    exact ⟨getLsbD_setBit _ _ _ hsrc, rfl, rfl, rfl, rfl⟩
  case clears =>
    intro hst hc
    refine ⟨fun hl hr => ⟨_, rfl, ?_⟩, fun hl => ⟨_, rfl, ?_⟩⟩
    · obtain ⟨b, m, h⟩ := clearsEndEvent_holds hst hc hl hr
      rw [h]
      exact ⟨rfl, hl, rfl, rfl⟩
    · rw [clearsEndEvent_records hst hc hl]
      exact ⟨rfl, State.tamperRecord_flags s⟩
  case erase =>
    intro hst
    refine ⟨_, rfl, ?_⟩
    rw [eraseEvent, if_pos hst]
    exact ⟨rfl, State.eraseSecrets_erases s⟩
  case pulse =>
    intro hl hr
    refine ⟨fun hst => ⟨_, rfl, ?_⟩, fun hst => ⟨_, rfl, ?_⟩⟩
    · rw [pulseEndEvent_wiping hl hr hst]
      exact ⟨rfl, rfl, rfl, hst⟩
    · obtain ⟨b, m, h⟩ := pulseEndEvent_shares hl hr hst
      rw [h]
      exact ⟨rfl, rfl, rfl, rfl⟩
  case wipeBegin =>
    intro hst
    refine ⟨_, rfl, ?_⟩
    rw [wipeBeginEvent, if_pos hst]
    exact ⟨rfl, rfl, rfl⟩
  case wipeEnd =>
    intro hst hl hr hsorted
    refine ⟨_, rfl, ?_⟩
    obtain ⟨b, m, h⟩ := wipeEndEvent_strips hst hl hr
    rw [h]
    exact ⟨rfl, rfl, Tab.find_del hsorted 1, rfl, hl⟩
  case dwell =>
    intro hd hl hlatch hh hst hm
    refine ⟨_, rfl, ?_⟩
    rw [dwellEndEvent, if_pos (by simp [hd, hl, hlatch, hh, hst, hm])]
    exact ⟨rfl, rfl, rfl, hl⟩
  case testStart => exact fun ht hm => ⟨_, rfl, testStartEvent_starts ht hm⟩
  case testEnd =>
    intro src rest ht hs hn
    refine ⟨fun hrest => ⟨_, rfl, ?_⟩, fun hrest => ⟨_, rfl, ?_⟩, fun hrest hrel hf hh hst hl hg hr hw => ⟨_, rfl, ?_⟩⟩
    · rw [testEndEvent_eq ht hs hn]
      dsimp only
      rw [if_neg (by simpa using hrest), if_pos rfl, State.testNoted_tmp]
      exact ⟨rfl, rfl, by simpa using hrest, rfl, rfl⟩
    · rw [testEndEvent_eq ht hs hn]
      dsimp only
      rw [if_neg (by simpa using hrest), if_neg (by decide)]
      obtain ⟨-, h2, h3, h4, h5⟩ := State.alarm_notes 24 (src.setWidth 8) (s.testNoted src rest false)
      rw [h2, h3, h4, h5, State.testNoted_tmp]
      exact ⟨rfl, rfl, getLsbD_setBit _ _ _ (by decide), rfl⟩
    · subst hrest
      rw [testEndEvent_releases ht hs hn hrel hf hh hst hl hg hr hw]
      exact ⟨rfl, rfl, rfl, rfl⟩
  case backup =>
    intro src d hm hb hlen
    have hsrc : src.toNat < 25 := by
      simp only [backupSources, List.mem_cons, List.not_mem_nil, or_false] at hm
      omega
    exact ⟨_, if_pos hsrc, backupEvent_stores hm hb hlen d⟩

end Sys2Proof.Machine
end

section
/-! PROOFS. What goes on once every queue is empty: no reply finds a queue (R63, R397). -/

namespace Sys2Proof.Machine

set_option Elab.async false

/-- From `s` to `t`, no queue with nothing in flight changed, and GCTL's enables and time, the enable of the journal ring and the domain
keys are as they were. -/
structure State.Settled (s t : State) : Prop where
  queue : ∀ q, (s.queue q).inflight = [] → t.queue q = s.queue q
  gctl : t.gctl.en = s.gctl.en ∧ t.gctl.ready = s.gctl.ready ∧ t.gctl.time = s.gctl.time
  jrn : t.ru.jrn.en = s.ru.jrn.en
  dmks : t.ks.dmks = s.ks.dmks

section
variable {s t u : State}

theorem State.Settled.refl (s : State) : s.Settled s := ⟨fun _ _ => rfl, ⟨rfl, rfl, rfl⟩, rfl, rfl⟩

theorem State.Settled.trans (h : s.Settled t) (k : t.Settled u) : s.Settled u where
  queue q hq := (k.queue q (by rw [h.queue q hq]; exact hq)).trans (h.queue q hq)
  gctl := ⟨k.gctl.1.trans h.gctl.1, k.gctl.2.1.trans h.gctl.2.1, k.gctl.2.2.trans h.gctl.2.2⟩
  jrn := k.jrn.trans h.jrn
  dmks := k.dmks.trans h.dmks

theorem State.Settled.foldl {α : Type} {g : State → α → State} (hg : ∀ v a, State.Settled v (g v a)) (l : List α) (s : State) :
    s.Settled (l.foldl g s) := by
  induction l generalizing s with
  | nil => exact .refl s
  | cons a l ih => exact (hg s a).trans (ih _)

/-- What changes none of the parts looked at. -/
theorem State.Settled.of_touches {L : List Aspect} (h : s.touches L t)
    (hn : (L.contains .queues || L.contains .epochBase || L.contains .gctl || L.contains .ru || L.contains .ks) = false) : s.Settled t := by
  simp only [Bool.or_eq_false_iff, List.contains_eq_mem, decide_eq_false_iff_not] at hn
  obtain ⟨⟨⟨⟨hq, he⟩, hg⟩, hr⟩, hk⟩ := hn
  have hgctl : t.gctl = s.gctl := h .gctl hg
  have hru : t.ru = s.ru := h .ru hr
  have hks : t.ks = s.ks := h .ks hk
  exact ⟨fun q _ => State.queue_of_touches h hq he q, by rw [hgctl]; exact ⟨rfl, rfl, rfl⟩, by rw [hru], by rw [hks]⟩

theorem State.settled_raise (bit : Nat) (s : State) : s.Settled (s.raise bit) where
  queue q _ := by
    have h : s.touches [.gctl, .posted] (s.raise bit) := by simp
    exact State.queue_of_touches h (by decide) (by decide) q
  gctl := by
    rw [State.raise_gctl]
    exact ⟨rfl, rfl, rfl⟩
  jrn := by rw [State.raise_ru]
  dmks := by rw [State.raise_ks]

theorem State.settled_postReply (h : Held) (s : State) : s.Settled (s.postReply h) where
  queue q hq := State.queue_postReply_empty h s q hq
  gctl := by
    rw [State.postReply_gctl]
    exact ⟨rfl, rfl, rfl⟩
  jrn := by rw [State.postReply_ru]
  dmks := by rw [State.postReply_ks]

theorem State.settled_log (c : BitVec 16) (p v : Byte) (d : Bytes) (s : State) : s.Settled (s.log c p v d) := by
  have h : s.touches [.kp] (s.log c p v d) := by simp
  exact .of_touches h (by decide)

/-- A change of parts that are not looked at. -/
theorem State.Settled.of_eq (hq : t.queues = s.queues) (he : t.epochBase = s.epochBase) (hg : t.gctl = s.gctl) (hr : t.ru.jrn.en = s.ru.jrn.en)
    (hk : t.ks.dmks = s.ks.dmks) : s.Settled t :=
  ⟨fun q _ => State.queue_congr hq he q, by rw [hg]; exact ⟨rfl, rfl, rfl⟩, hr, hk⟩

/-! ## The ledger and the journal (R63, R80, R84) -/

theorem State.settled_post (o : Posted) (s : State) : s.Settled (s.post o) where
  queue q _ := State.queue_congr (State.post_queues ..) (State.post_epochBase ..) q
  gctl := by
    unfold State.post
    split <;> exact ⟨rfl, rfl, rfl⟩
  jrn := by rw [State.post_ru]
  dmks := by rw [State.post_ks]

theorem State.settled_toRing (n : Nat) (b : Bytes) (s : State) : s.Settled (s.toRing n b) := by
  unfold State.toRing
  split
  · exact (State.settled_post _ s).trans (.of_eq rfl rfl rfl rfl rfl)
  · exact .of_eq rfl rfl rfl rfl rfl

theorem State.settled_chain (r : JRec) (s : State) : s.Settled (s.chain r) := by
  have hgroup (u : State) : u.Settled u.groupChange := .of_eq rfl rfl rfl rfl rfl
  have hseq (seq : Nat) (head : Digest) : s.Settled { s with ru := { s.ru with jrn := { s.ru.jrn with seq, head } } } :=
    .of_eq rfl rfl rfl rfl rfl
  exact ((hseq _ _).trans (State.settled_toRing _ _ _)).trans (hgroup _)

theorem State.settled_putPool (n : PoolId) (p : Pool) (s : State) : s.Settled (s.putPool n p) := .of_eq rfl rfl rfl rfl rfl

theorem State.settled_markChecker (n : PoolId) (p : Pool) (s : State) : s.Settled (s.markChecker n p) := by
  have hmark (g : Group) (u : State) : u.Settled { u with led := { u.led with group := g } } := .of_eq rfl rfl rfl rfl rfl
  exact ((State.settled_putPool n _ s).trans (hmark _ _)).trans (State.settled_raise _ _)

theorem State.settled_change (n : PoolId) (d : Delta) (f : Pool → Pool) (s : State) : s.Settled (s.change n d f).1 := by
  have hcount : s.Settled s.countRefused := .of_eq rfl rfl rfl rfl rfl
  have hlive (l : Totals) : s.Settled { s with led := { s.led with live := l } } := .of_eq rfl rfl rfl rfl rfl
  unfold State.change
  split
  · exact hcount
  · split
    · exact (hlive _).trans (State.settled_putPool ..)
    · dsimp only
      split
      · exact hcount
      · exact hcount.trans (State.settled_markChecker ..)

theorem State.settled_changed {n : PoolId} {d : Delta} {f : Pool → Pool} {ok : Bool} (h : s.change n d f = (t, ok)) : s.Settled t := by
  have hc := State.settled_change n d f s
  rwa [h] at hc

theorem State.settled_changeUnless (frozen : Bool) (n : PoolId) (d : Delta) (f : Pool → Pool) (s : State) :
    s.Settled (if frozen then (s, false) else s.change n d f).1 := by
  split
  · exact .refl s
  · exact State.settled_change ..

theorem State.settled_afterGroup (l : List After) (s : State) : s.Settled (s.afterGroup l) := .of_eq rfl rfl rfl rfl rfl
theorem State.settled_unpledge (n : Nat) (s : State) : s.Settled (s.unpledge n) := .of_eq rfl rfl rfl rfl rfl

theorem State.settled_endLock (n : PoolId) (flags : Byte) (l : List After) (s : State) : s.Settled (s.endLock n flags l) := by
  have hdel : s.Settled { s with led := { s.led with locks := s.led.locks.del n.toNat } } := .of_eq rfl rfl rfl rfl rfl
  unfold State.endLock
  split
  · exact .refl s
  · exact ((hdel.trans (State.settled_changeUnless ..)).trans (State.settled_chain _ _)).trans (State.settled_afterGroup _ _)

theorem State.settled_endLocks (flags : Byte) (ns : List PoolId) (s : State) : s.Settled (s.endLocks flags ns) := by
  refine State.Settled.foldl (fun v n => ?_) ns s
  unfold State.force
  split
  · exact State.settled_endLock n flags [] v
  · exact .of_eq rfl rfl rfl rfl rfl

theorem State.settled_abandon (r : IssueRun) (flags : Byte) (s : State) : s.Settled (s.abandon r flags) := by
  unfold State.abandon
  exact ((State.settled_changeUnless _ r.pool { a := 1, r := -1 } id s).trans (State.settled_unpledge _ _)).trans (State.settled_chain _ _)

theorem State.settled_afterFreeze (n : PoolId) (h : Held) (s : State) : s.Settled (s.afterFreeze n h) := by
  unfold State.afterFreeze
  dsimp only
  split
  · exact .of_eq rfl rfl rfl rfl rfl
  · exact State.settled_afterGroup ..

theorem State.settled_retirePool (n : PoolId) (h : Held) (s : State) : s.Settled (s.retirePool n h) := by
  unfold State.retirePool
  dsimp only
  split
  · next u heq =>
    have hc := State.settled_changed heq
    exact ((hc.trans (State.settled_unpledge _ _)).trans (State.settled_chain _ _)).trans (State.settled_afterGroup _ _)
  · next u heq =>
    have hc := State.settled_changed heq
    refine ((hc.trans ?_).trans (State.settled_unpledge _ _)).trans (State.settled_postReply _ _)
    split
    · exact State.settled_putPool ..
    · exact .refl _

theorem State.settled_releaseAll (s : State) : s.Settled s.releaseAll := by
  refine State.Settled.foldl (fun v n => ?_) _ s
  unfold State.releaseDrains
  split
  · exact .refl v
  · have hdrains : v.Settled { v with led := { v.led with drains := v.led.drains.filter (·.pool != n) } } := .of_eq rfl rfl rfl rfl rfl
    refine hdrains.trans (.foldl (fun w d => ?_) _ _)
    split
    · exact State.settled_afterFreeze ..
    · exact State.settled_retirePool ..
    · exact State.settled_afterGroup ..

/-! ## Jobs, runs, writes that end with the queues (R63, R163, R198, R240) -/

theorem State.settled_abandonJobs (s : State) : s.Settled s.abandonJobs := by
  have hclear (v : State) (n : Nat) : v.Settled (if (v.spindle n).jobsHeld.isEmpty then v else v.clearSpindle n) := by
    split
    · exact .refl v
    · exact .of_eq rfl rfl rfl rfl rfl
  have hpark (v : State) (k : SpindleUnit) : v.Settled { v with spn := k } := .of_eq rfl rfl rfl rfl rfl
  have hjob (v : State) (j : Job) : v.Settled (v.abandonJob j) := by
    unfold State.abandonJob
    split
    · exact State.settled_abandon ..
    · exact .refl v
  exact ((State.Settled.foldl hclear _ s).trans (hpark _ _)).trans (.foldl hjob _ _)

theorem State.settled_sync (n : Nat) (s : State) : s.Settled (s.sync n) := by
  have h : s.touches [.arb] (s.sync n) := by simp
  exact .of_touches h (by decide)

theorem State.settled_abandonRun (s : State) (r : SealRun) : s.Settled (s.abandonRun r) := by
  unfold State.abandonRun
  split
  · split
    · exact .of_eq rfl rfl rfl rfl rfl
    · exact .refl s
  · split
    · exact .of_eq rfl rfl rfl rfl rfl
    · exact .refl s
  · exact .of_eq rfl rfl rfl rfl rfl
  · exact State.Settled.trans (t := s.setCtx r.ctx { r.was with inflight := false }) (.of_eq rfl rfl rfl rfl rfl) (State.settled_abandon ..)

theorem State.settled_endSealRuns (s : State) : s.Settled s.endSealRuns := by
  have hunit (k : SealUnit) : s.Settled { s with sl := k } := .of_eq rfl rfl rfl rfl rfl
  rw [State.endSealRuns]
  exact ((hunit _).trans (.foldl State.settled_abandonRun _ _)).trans (State.settled_sync 14 _)

theorem State.settled_closeDigests (s : State) : s.Settled s.closeDigests := by
  have hunit (k : DigestUnit) : s.Settled { s with dig := k } := .of_eq rfl rfl rfl rfl rfl
  rw [State.closeDigests]
  exact (hunit _).trans (State.settled_sync 17 _)

theorem State.settled_dropGens (st : BitVec 16) (s : State) : s.Settled (s.dropGens st) := by
  have hafter (v : State) (a : After) : v.Settled (match a with
      | .reply h => v.postReply (h.fail st h.cycles.toNat)
      | _ => v) := by
    split
    · exact State.settled_postReply ..
    · exact .refl v
  have hgen (v : State) (g : GenWrite) : v.Settled (v.dropGen st g) := by
    unfold State.dropGen State.failAfter
    refine State.Settled.trans ?_ (.foldl hafter _ _)
    split
    · exact .of_eq rfl rfl rfl rfl rfl
    · exact .of_eq rfl rfl rfl rfl rfl
    · exact .of_eq rfl rfl rfl rfl rfl
    · exact .refl v
  have hkeep (k : Keeper) : s.Settled { s with kp := k } := .of_eq rfl rfl rfl rfl rfl
  rw [State.dropGens]
  exact (hkeep _).trans (.foldl hgen _ _)

/-- What a link reset does once the queues have ended. -/
def State.endRest (locks : List PoolId) (s : State) : State :=
  (((s.dropForwarded.abandonJobs.endLocks 4 locks).endSealRuns.closeDigests.abandonCheckpoint).dropGens stQueueResetAbort).releaseAll

theorem State.settled_endRest (locks : List PoolId) (s : State) : s.Settled (s.endRest locks) := by
  have hfwd : s.Settled s.dropForwarded := .of_eq rfl rfl rfl rfl rfl
  have hckpt (v : State) : v.Settled v.abandonCheckpoint := .of_eq rfl rfl rfl rfl rfl
  rw [State.endRest]
  exact (((((((hfwd.trans (State.settled_abandonJobs _)).trans (State.settled_endLocks 4 locks _)).trans (State.settled_endSealRuns _)).trans
    (State.settled_closeDigests _)).trans (hckpt _)).trans (State.settled_dropGens _ _)).trans (State.settled_releaseAll _))

/-! ## The queues themselves (R63) -/

theorem State.dropQueues_queue (s : State) (q : QId) : (s.dropQueues.queue q).inflight = [] ∧ (q ≠ 0 → (s.dropQueues.queue q).st = .absent) ∧
    ((s.queue q).st = .active → q = 0 → s.dropQueues.queue q = (s.queue q).renewed) := by
  have hq : s.dropQueues.queue q = ((s.queues.find q.toNat).map (Queue.afterLink q.toNat)).getD
      { Queue.admin with st := .absent, epoch := s.epochBase + 1 } := by
    rw [State.queue, State.dropQueues, Tab.get, Tab.find_mapVals]
  rw [hq, State.queue, Tab.get]
  rcases s.queues.find q.toNat with _ | x
  · exact ⟨rfl, fun _ => rfl, fun h => by cases h⟩
  · simp only [Option.map_some, Option.getD_some]
    rw [Queue.afterLink]
    split
    · next h =>
      have h0 : q = 0 := BitVec.eq_of_toNat_eq (by simpa using h.1)
      exact ⟨rfl, fun hn => absurd h0 hn, fun _ _ => rfl⟩
    · next h =>
      refine ⟨rfl, fun _ => rfl, fun hact h0 => absurd ⟨?_, ?_⟩ h⟩
      · rw [h0]
        rfl
      · rw [hact]
        decide

/-- The journal ring disabled. -/
def State.ringOff (s : State) : State := { s with ru := { s.ru with jrn := { s.ru.jrn with en := false } } }

theorem State.endAllQueues_eq (s : State) :
    s.endAllQueues = s.ringOff.dropQueues.endRest (s.led.locks.map fun p => BitVec.ofNat 16 p.1) := by
  rw [State.endAllQueues, State.endRest, State.ringOff]

theorem State.settled_linkReset (bit kind : Nat) (s : State) : s.ringOff.dropQueues.Settled (s.linkReset bit kind) := by
  have hlink (v : State) : v.Settled v.resetLink := ⟨fun _ _ => rfl, ⟨rfl, rfl, rfl⟩, rfl, rfl⟩
  have hcause (v : State) : v.Settled (v.causeBit bit) := .of_eq rfl rfl rfl rfl rfl
  rw [State.linkReset, State.endAllQueues_eq, State.logReset]
  exact (((State.settled_endRest _ _).trans (hlink _)).trans (hcause _)).trans (State.settled_log ..)

/-- What a link reset leaves of the queues and the enables. -/
theorem State.linkReset_ends (bit kind : Nat) (h : (s.queue 0).st = .active) :
    (s.linkReset bit kind).queue 0 = (s.queue 0).renewed ∧ (∀ q, q ≠ 0 → ((s.linkReset bit kind).queue q).st = .absent) ∧
      (s.linkReset bit kind).gctl.en = false ∧ (s.linkReset bit kind).ru.jrn.en = false ∧ (s.linkReset bit kind).ks.dmks = s.ks.dmks := by
  obtain ⟨hqueue, ⟨hen, -, -⟩, hjrn, hdmks⟩ := State.settled_linkReset bit kind s
  have hq (q : QId) := hqueue q (State.dropQueues_queue s.ringOff q).1
  refine ⟨(hq 0).trans ((State.dropQueues_queue s.ringOff 0).2.2 h rfl), fun q hn => ?_, hen, hjrn, hdmks⟩
  rw [hq q]
  exact (State.dropQueues_queue s.ringOff q).2.1 hn

end

end Sys2Proof.Machine
end

section
/-! PROOFS. The reset classes and the loss of main power (R63, R337, R369, R389, R396, R397, R399). -/

namespace Sys2Proof.Machine

set_option Elab.async false

section
variable {s t u : State}

/-! ## What the keeper die ends (R310) -/

theorem State.cuWrite_kp (s : State) (bank : Bool) (r : CuReq) : ∃ a b, s.cuWrite bank r = { s with kp := { s.kp with fe0 := a, fe1 := b } } := by
  rw [State.cuWrite]
  unfold Keeper.feWrite
  cases bank
  · exact ⟨_, s.kp.fe1, rfl⟩
  · exact ⟨s.kp.fe0, _, rfl⟩

/-- A record taken that completes: the banks, the generation table, the commit unit free. -/
theorem State.tearRecord_whole (s : State) : ∃ a b g,
    s.tearRecord true = { s with ks := { s.ks with gens := g }, kp := { s.kp with fe0 := a, fe1 := b, cu := none } } := by
  rw [State.tearRecord]
  split
  · next hcu => exact ⟨s.kp.fe0, s.kp.fe1, s.ks.gens, by rw [← hcu]⟩
  · next r _ hcu =>
    obtain ⟨a, b, h1⟩ := State.cuWrite_kp s false r
    obtain ⟨a', b', h2⟩ := State.cuWrite_kp (s.cuWrite false r) true r
    rw [if_pos rfl, h2, h1]
    cases r
    case gen g => exact ⟨_, _, _, rfl⟩
    all_goals exact ⟨a', b', s.ks.gens, rfl⟩

theorem State.finishTaken_eq (s : State) : ∃ a b g c,
    s.finishTaken = { s with ks := { s.ks with gens := g }, kp := { s.kp with fe0 := a, fe1 := b, cu := c } } ∧ (s.kp.cu = none → c = none) := by
  rw [State.finishTaken]
  split
  · exact ⟨s.kp.fe0, s.kp.fe1, s.ks.gens, s.kp.cu, rfl, id⟩
  · exact ⟨s.kp.fe0, s.kp.fe1, s.ks.gens, s.kp.cu, rfl, id⟩
  · exact ⟨s.kp.fe0, s.kp.fe1, s.ks.gens, s.kp.cu, rfl, id⟩
  · obtain ⟨a, b, g, h⟩ := State.tearRecord_whole s
    exact ⟨a, b, g, none, h, fun _ => rfl⟩

theorem State.tearRecord_cu (whole : Bool) (s : State) : (s.tearRecord whole).kp.cu = none := by
  cases whole
  · rw [State.tearRecord]
    split
    · next hcu => exact hcu
    · rfl
  · obtain ⟨a, b, g, h⟩ := State.tearRecord_whole s
    rw [h]

theorem State.tearFrame_kp (whole : Bool) (s : State) : (s.tearFrame whole).kp.cu = s.kp.cu ∧ (s.tearFrame whole).kp.frame = none := by
  rw [State.tearFrame]
  split
  · next hf => exact ⟨rfl, hf⟩
  · exact ⟨rfl, rfl⟩

theorem State.tearErase_kp (s : State) : s.tearErase.kp.cu = s.kp.cu ∧ s.tearErase.kp.frame = s.kp.frame := by
  have hblank (m : Memory) : (State.drawn 1 { s with kp := { s.kp with flash := m, erase := none } }).kp.cu = s.kp.cu ∧
      (State.drawn 1 { s with kp := { s.kp with flash := m, erase := none } }).kp.frame = s.kp.frame := ⟨rfl, rfl⟩
  rw [State.tearErase]
  split
  · exact ⟨rfl, rfl⟩
  · exact hblank _

theorem State.stopKeeper_stops (whole : Bool) (s : State) :
    (s.stopKeeper whole).kp.cu = none ∧ (s.stopKeeper whole).kp.frame = none ∧ (s.stopKeeper whole).kp.queue = [] := by
  obtain ⟨h1, h2⟩ := State.tearFrame_kp whole (s.tearRecord whole)
  obtain ⟨h3, h4⟩ := State.tearErase_kp ((s.tearRecord whole).tearFrame whole)
  rw [h1, State.tearRecord_cu] at h3
  rw [h2] at h4
  rw [State.stopKeeper]
  generalize ((s.tearRecord whole).tearFrame whole).tearErase = v at h3 h4 ⊢
  exact ⟨h3, h4, rfl⟩

/-! ## The planes (R397) -/

/-- Every unit of the planes at its reset values. -/
def State.planesOff (s : State) : State := { s with
  gctl := s.gctl.planeReset, queues := [], epochBase := 0, domains := [], led := .reset, ru := .reset, spn := .reset
  sl := .reset, dig := .reset, ks := s.ks.planeReset, arb := s.arb.planeReset, mem := .reset, skn := .reset
  card := { CardUnit.reset with v18 := s.card.v18 }, pwr := s.pwr.planeReset
  kp := { s.kp with queue := s.kp.queue.filter fun r => match r with | .mss .. | .refresh .. => true | _ => false } }

/-- What a reset of the planes ends elsewhere. -/
def State.planesLost (side : List Held) (s : State) : State := ((s.cutResponse).endHandover 3 stHandoverAborted).endSideReplies side

theorem State.resetPlanes_eq (s : State) : ∃ m e, s.resetPlanes =
    { (s.finishTaken.planesOff.planesLost (s.arb.leaving.map Prod.snd ++ s.arb.returning.map Prod.snd)) with mss := m, gctl := e } ∧
      e.ready = (s.finishTaken.planesOff.planesLost (s.arb.leaving.map Prod.snd ++ s.arb.returning.map Prod.snd)).gctl.ready ∧
      e.time = (s.finishTaken.planesOff.planesLost (s.arb.leaving.map Prod.snd ++ s.arb.returning.map Prod.snd)).gctl.time :=
  ⟨_, _, rfl, rfl, rfl⟩

theorem State.cutResponse_eq (s : State) : ∃ l m c, s.cutResponse =
    { s with ks := { s.ks with shares := l, mnonce := m }, tmp := { s.tmp with stage := .idle, canary := c }, mss := s.cutResponse.mss } := by
  have hshares (c : Prop) [Decidable c] (u : State) : ∃ l m k, (if c then u.eraseShares else u) =
      { u with ks := { u.ks with shares := l, mnonce := m }, tmp := { u.tmp with canary := k } } := by
    split
    · exact ⟨[], none, .scoured, rfl⟩
    · exact ⟨u.ks.shares, u.ks.mnonce, u.tmp.canary, rfl⟩
  have hmss (u : State) : ∃ m, (if u.mss.st = .down then { u with mss := { u.mss with st := .booting } } else u) = { u with mss := m } := by
    split
    · exact ⟨_, rfl⟩
    · exact ⟨u.mss, rfl⟩
  obtain ⟨l, m, k, h1⟩ := hshares (s.tmp.level = 3 ∧ s.tmp.canary ≠ .scoured) s
  obtain ⟨n, h2⟩ := hmss { s with ks := { s.ks with shares := l, mnonce := m }, tmp := { s.tmp with stage := .idle, canary := k } }
  have h : s.cutResponse =
      { s with ks := { s.ks with shares := l, mnonce := m }, tmp := { s.tmp with stage := .idle, canary := k }, mss := n } := by
    rw [State.cutResponse, h1]
    exact h2
  exact ⟨l, m, k, by rw [h]⟩

theorem State.settled_endHandover (outcome : Byte) (st : BitVec 16) (s : State) : s.Settled (s.endHandover outcome st) := by
  have hmss (m : MssUnit) : s.Settled { s with mss := m } := .of_eq rfl rfl rfl rfl rfl
  unfold State.endHandover
  split
  · exact .refl s
  · exact (((hmss _).trans (State.settled_log ..)).trans (State.settled_raise ..)).trans (State.settled_postReply ..)

theorem State.settled_endSideReplies (l : List Held) (s : State) : s.Settled (s.endSideReplies l) :=
  .foldl (fun v _ => State.settled_postReply _ v) _ s

theorem State.settled_planesLost (side : List Held) (s : State) : s.Settled (s.planesLost side) := by
  have hcut : s.Settled s.cutResponse := by
    obtain ⟨l, m, k, h⟩ := State.cutResponse_eq s
    rw [h]
    exact .of_eq rfl rfl rfl rfl rfl
  exact (hcut.trans (State.settled_endHandover ..)).trans (State.settled_endSideReplies ..)

theorem State.log_posts_eq (c : BitVec 16) (p v : Byte) (d : Bytes) (s : State) :
    ∃ a b, s.log c p v d = { s with kp := { s.kp with posts := a, postsLost := b } } := by
  rw [State.log]
  dsimp only
  split
  · exact ⟨s.kp.posts, _, rfl⟩
  · exact ⟨_, s.kp.postsLost, rfl⟩

theorem State.endHandover_kp (outcome : Byte) (st : BitVec 16) (s : State) :
    ∃ a b, (s.endHandover outcome st).kp = { s.kp with posts := a, postsLost := b } := by
  unfold State.endHandover
  split
  · exact ⟨s.kp.posts, s.kp.postsLost, rfl⟩
  · dsimp only
    rw [State.postReply_kp, State.raise_kp]
    obtain ⟨a, b, h⟩ := State.log_posts_eq _ _ _ _ _
    rw [h]
    exact ⟨a, b, rfl⟩

/-- What the end of a response, a handover and the side-band replies leaves of the rest. -/
theorem State.planesLost_keeps (side : List Held) (s : State) :
    (s.planesLost side).led = s.led ∧ (s.planesLost side).pwr = s.pwr ∧ (s.planesLost side).life = s.life ∧
      (s.planesLost side).ks.slots = s.ks.slots ∧ (s.planesLost side).ks.fuse = s.ks.fuse ∧
      (∃ c, (s.planesLost side).tmp = { s.tmp with stage := .idle, canary := c }) ∧
      ∃ a b, (s.planesLost side).kp = { s.kp with posts := a, postsLost := b } := by
  have hrest (v : State) : v.touches [.gctl, .queues, .kp, .mss, .posted] ((v.endHandover 3 stHandoverAborted).endSideReplies side) := by simp
  have hside (v : State) : v.touches [.gctl, .queues, .mss, .posted] (v.endSideReplies side) := by simp
  obtain ⟨l, m, c, hcut⟩ := State.cutResponse_eq s
  have h := hrest s.cutResponse
  obtain ⟨a, b, hkp⟩ := State.endHandover_kp 3 stHandoverAborted s.cutResponse
  have hled : (s.planesLost side).led = s.cutResponse.led := h .led (by decide)
  have hpwr : (s.planesLost side).pwr = s.cutResponse.pwr := h .pwr (by decide)
  have hlife : (s.planesLost side).life = s.cutResponse.life := Life.eq_of_others (h .life (by decide)) (h .fuses (by decide))
  have hks : (s.planesLost side).ks = s.cutResponse.ks := h .ks (by decide)
  have htmp : (s.planesLost side).tmp = s.cutResponse.tmp := Tamper.eq_of_others (h .tmp (by decide)) (h .aot (by decide))
  have hkp' : (s.planesLost side).kp = (s.cutResponse.endHandover 3 stHandoverAborted).kp :=
    Keeper.eq_of_others (hside _ .kp (by decide)) (hside _ .memories (by decide))
  rw [hled, hpwr, hlife, hks, htmp, hkp', hkp, hcut]
  exact ⟨rfl, rfl, rfl, rfl, rfl, ⟨c, rfl⟩, a, b, rfl⟩

/-- What a reset of the planes leaves of the state. -/
structure State.PlanesReset (s t : State) : Prop where
  queue : ∀ q, (t.queue q).st = .absent
  pools : t.led.pools = []
  slots : t.ks.slots = []
  fuse : t.ks.fuse = s.ks.fuse
  gctl : t.gctl.ready = false ∧ t.gctl.time = s.gctl.time
  pwr : t.pwr = s.pwr.planeReset
  life : t.life = s.life
  tmp : ∃ c, t.tmp = { s.tmp with stage := .idle, canary := c }
  flash : t.kp.flash = s.kp.flash
  keeper : s.kp.cu = none → s.kp.queue = [] → s.kp.frame = none → t.kp.cu = none ∧ t.kp.queue = [] ∧ t.kp.frame = none

theorem State.resetPlanes_resets (s : State) : s.PlanesReset s.resetPlanes := by
  obtain ⟨a, b, g, c, hfin, hcu⟩ := State.finishTaken_eq s
  obtain ⟨m, e, hres, hready, htime⟩ := State.resetPlanes_eq s
  generalize s.arb.leaving.map Prod.snd ++ s.arb.returning.map Prod.snd = side at hres hready htime
  rw [hfin] at hres hready htime
  obtain ⟨hqueue, ⟨-, hr, ht⟩, -, -⟩ := State.settled_planesLost side
    (State.planesOff { s with ks := { s.ks with gens := g }, kp := { s.kp with fe0 := a, fe1 := b, cu := c } })
  obtain ⟨hled, hpwr, hlife, hslots, hfuse, htmp, a', b', hkp⟩ := State.planesLost_keeps side
    (State.planesOff { s with ks := { s.ks with gens := g }, kp := { s.kp with fe0 := a, fe1 := b, cu := c } })
  generalize State.planesLost side _ = v at hres hready htime hqueue hr ht hled hpwr hlife hslots hfuse htmp hkp
  rw [hres]
  refine { queue := fun q => ?_, pools := ?_, slots := hslots, fuse := hfuse, gctl := ⟨hready.trans hr, htime.trans ht⟩, pwr := hpwr
           life := hlife, tmp := htmp, flash := ?_, keeper := fun h1 h2 h3 => ?_ }
  · exact (congrArg Queue.st (hqueue q rfl) :)
  · exact (congrArg Ledger.pools hled :)
  · exact (congrArg Keeper.flash hkp :)
  · refine ⟨(congrArg Keeper.cu hkp :).trans (hcu h1), (congrArg Keeper.queue hkp :).trans ?_, (congrArg Keeper.frame hkp :).trans h3⟩
    simp [State.planesOff, h2]

end

end Sys2Proof.Machine
end

section
/-! PROOFS. Each reset puts back what it resets (R63, R337, R369, R389, R396, R397, R399). -/

namespace Sys2Proof.Machine

set_option Elab.async false

section
variable {s t u : State} {bit kind : Nat}

/-! ## Resets of the planes -/

theorem State.sysReset_eq (bit kind : Nat) (s : State) : ∃ a b, s.sysReset bit kind = { s.resetPlanes with
    pwr := { s.resetPlanes.pwr with rstCause := setBit s.resetPlanes.pwr.rstCause bit true }
    kp := { s.resetPlanes.kp with posts := a, postsLost := b } } := by
  obtain ⟨a, b, h⟩ := State.log_posts_eq 0x0001 0 0 [(Config.resetDetail kind).1, (Config.resetDetail kind).2] (s.resetPlanes.causeBit bit)
  refine ⟨a, b, ?_⟩
  rw [State.sysReset, State.logReset, h]
  rfl

/-- What a reset that acts as `SYS_RST#` does leaves. -/
theorem State.sysReset_resets (hb : bit < 7) (kind : Nat) (s : State) :
    (∀ q, ((s.sysReset bit kind).queue q).st = .absent) ∧ (s.sysReset bit kind).led.pools = [] ∧ (s.sysReset bit kind).ks.slots = [] ∧
      (s.sysReset bit kind).gctl.ready = false ∧ (s.sysReset bit kind).gctl.time = s.gctl.time ∧
      (s.sysReset bit kind).pwr.st = .inReset ∧ (s.sysReset bit kind).pwr.rstCause.getLsbD bit = true ∧
      (s.sysReset bit kind).life = s.life ∧ (s.sysReset bit kind).kp.flash = s.kp.flash ∧
      (s.sysReset bit kind).tmp.level = s.tmp.level ∧ (s.sysReset bit kind).tmp.store = s.tmp.store ∧
      (s.sysReset bit kind).ks.fuse = s.ks.fuse := by
  obtain ⟨a, b, heq⟩ := State.sysReset_eq bit kind s
  have h := State.resetPlanes_resets s
  obtain ⟨c, htmp⟩ := h.tmp
  rw [heq]
  refine ⟨h.queue, h.pools, h.slots, h.gctl.1, h.gctl.2, ?_, getLsbD_setBit _ _ _ hb, h.life, h.flash, ?_, ?_, h.fuse⟩
  · rw [h.pwr]
    rfl
  · rw [htmp]
  · rw [htmp]

/-- The same from a state in which a ball of the power block has fallen. -/
theorem State.planes_reset (p : PowerUnit) (kind : Nat) (s : State) :
    (∀ q, ((State.sysReset rcSys kind { s with pwr := p }).queue q).st = .absent) ∧
      (State.sysReset rcSys kind { s with pwr := p }).led.pools = [] ∧ (State.sysReset rcSys kind { s with pwr := p }).ks.slots = [] ∧
      (State.sysReset rcSys kind { s with pwr := p }).gctl.ready = false ∧
      (State.sysReset rcSys kind { s with pwr := p }).gctl.time = s.gctl.time ∧
      (State.sysReset rcSys kind { s with pwr := p }).pwr.st = .inReset ∧
      (State.sysReset rcSys kind { s with pwr := p }).pwr.rstCause.getLsbD rcSys = true ∧
      (State.sysReset rcSys kind { s with pwr := p }).life.count = s.life.count ∧
      (State.sysReset rcSys kind { s with pwr := p }).kp.flash = s.kp.flash ∧
      (State.sysReset rcSys kind { s with pwr := p }).tmp.level = s.tmp.level ∧
      (State.sysReset rcSys kind { s with pwr := p }).tmp.store = s.tmp.store ∧
      (State.sysReset rcSys kind { s with pwr := p }).ks.fuse = s.ks.fuse := by
  obtain ⟨h1, h2, h3, h4, h5, h6, h7, h8, h9, h10, h11, h12⟩ := State.sysReset_resets (bit := rcSys) (by decide) kind { s with pwr := p }
  exact ⟨h1, h2, h3, h4, h5, h6, h7, congrArg Life.count h8, h9, h10, h11, h12⟩

theorem State.startPlanes_eq (head : Bool) (s : State) : ∃ l b, s.startPlanes head = { s with
    pwr := { s.pwr with st := .active, stages := 1 :: s.pwr.stages }, skn := { s.skn with head := head }
    ks := { s.ks with shares := l }, tmp := { s.tmp with dwell := b } } := by
  rw [State.startPlanes]
  obtain ⟨b, h⟩ := State.startDwell_eq (State.pruneShares { s with
    pwr := { s.pwr with st := .active, stages := 1 :: s.pwr.stages }, skn := { s.skn with head := head } })
  exact ⟨_, b, h⟩

theorem State.released_of (h : s.pwr.st = .inReset) (hp : s.pwr.porLow = false) (hs : s.pwr.sysLow = false) (hl : s.pwr.planeLow = false) :
    s.released = true := by
  rw [State.released, h, hp, hs, hl]
  rfl

theorem sysReleaseEvent_starts (hst : s.pwr.st = .inReset) (hp : s.pwr.porLow = false) (hs : s.pwr.sysLow = true)
    (hl : s.pwr.planeLow = false) (head : Bool) :
    sysReleaseEvent head s = State.startPlanes head { s with pwr := { s.pwr with sysLow := false } } := by
  rw [sysReleaseEvent, if_neg (by simp [hs])]
  exact if_pos (State.released_of (s := { s with pwr := { s.pwr with sysLow := false } }) hst hp rfl hl)

theorem supplyReleaseEvent_starts (hst : s.pwr.st = .inReset) (hp : s.pwr.porLow = false) (hs : s.pwr.sysLow = false)
    (hl : s.pwr.planeLow = true) (head : Bool) :
    supplyReleaseEvent head s = State.startPlanes head { s with pwr := { s.pwr with planeLow := false } } := by
  rw [supplyReleaseEvent, if_neg (by simp [hl])]
  exact if_pos (State.released_of (s := { s with pwr := { s.pwr with planeLow := false } }) hst hp hs rfl)

theorem sysReleaseEvent_holds (hs : s.pwr.sysLow = true) (hl : s.pwr.planeLow = true) (head : Bool) :
    sysReleaseEvent head s = { s with pwr := { s.pwr with sysLow := false } } := by
  rw [sysReleaseEvent, if_neg (by simp [hs])]
  exact if_neg (by simp [State.released, hl])

/-- Step 5 of a life-cycle transition: the planes are reset, and start where no other reset holds them. -/
theorem lifeResetEvent_resets (hd : s.life.resetDue = true) (hm : s.mainPower = true) : ∃ u : State,
    u = State.sysReset rcLc rkLife { s with life := { s.life with resetDue := false } } ∧
      (lifeResetEvent s = u ∨ lifeResetEvent s = u.startPlanes s.skn.head) := by
  refine ⟨_, rfl, ?_⟩
  have hev : lifeResetEvent s =
      if (State.sysReset rcLc rkLife { s with life := { s.life with resetDue := false } }).released then
        (State.sysReset rcLc rkLife { s with life := { s.life with resetDue := false } }).startPlanes s.skn.head
      else State.sysReset rcLc rkLife { s with life := { s.life with resetDue := false } } := if_neg (by simp [hd, hm])
  rw [hev]
  split
  · exact .inr rfl
  · exact .inl rfl

/-! ## Power-on reset and power failure -/

/-- What a reset of everything but the backup domain leaves. -/
theorem State.resetAll_resets (whole : Bool) (s : State) :
    (s.resetAll whole).pwr = { s.pwr.planeReset with rstCause := 1, porLow := true, stages := [] } ∧
      (∀ q, ((s.resetAll whole).queue q).st = .absent) ∧ (s.resetAll whole).led.pools = [] ∧
      ((s.resetAll whole).kp.cu = none ∧ (s.resetAll whole).kp.queue = [] ∧ (s.resetAll whole).kp.frame = none) ∧
      ((s.resetAll whole).tmp.level = s.tmp.level ∧ (s.resetAll whole).tmp.cfg = s.tmp.cfg) ∧
      (s.resetAll whole).gctl.time = s.gctl.time ∧ (s.resetAll whole).life.count = s.life.count ∧ (s.resetAll whole).mss.running = none := by
  have hkeep (v : State) : v.touches [.ks, .kp, .memories] (v.stopKeeper whole) := by simp
  obtain ⟨hcu, hframe, hqueue⟩ := State.stopKeeper_stops whole { s with mss := { s.mss with running := none } }
  have h := State.resetPlanes_resets (State.stopKeeper whole { s with mss := { s.mss with running := none } })
  have hk := hkeep { s with mss := { s.mss with running := none } }
  have hpwr : (State.stopKeeper whole { s with mss := { s.mss with running := none } }).pwr = s.pwr := hk .pwr (by decide)
  have hgctl : (State.stopKeeper whole { s with mss := { s.mss with running := none } }).gctl = s.gctl := hk .gctl (by decide)
  have hlife : (State.stopKeeper whole { s with mss := { s.mss with running := none } }).life = s.life :=
    Life.eq_of_others (hk .life (by decide)) (hk .fuses (by decide))
  have htmp : (State.stopKeeper whole { s with mss := { s.mss with running := none } }).tmp = s.tmp :=
    Tamper.eq_of_others (hk .tmp (by decide)) (hk .aot (by decide))
  rw [State.resetAll]
  generalize State.stopKeeper whole { s with mss := { s.mss with running := none } } = v at h hcu hframe hqueue hpwr hgctl hlife htmp ⊢
  obtain ⟨hq, hpools, -, -, ⟨-, htime⟩, hp, hl, ⟨c, ht⟩, -, hkp⟩ := h
  generalize v.resetPlanes = w at hq hpools htime hp hl ht hkp ⊢
  obtain ⟨h1, h2, h3⟩ := hkp hcu hqueue hframe
  refine ⟨?_, hq, hpools, ⟨h1, h2, h3⟩, ⟨?_, ?_⟩, htime.trans (by rw [hgctl]), ?_, rfl⟩
  · rw [← hpwr, ← hp]
    rfl
  · rw [← htmp]
    exact (congrArg Tamper.level ht :)
  · rw [← htmp]
    exact (congrArg Tamper.cfg ht :)
  · rw [← hlife, ← hl]
    rfl

theorem State.checkBackup_eq (s : State) : ∃ a b c, s.checkBackup =
    { s with kp := { s.kp with posts := a, postsLost := b }, tmp := { s.tmp with cfg := c } } := by
  unfold State.checkBackup
  dsimp only
  split
  · obtain ⟨a, b, h⟩ := State.log_posts_eq 0x0015 3 3 [] s
    rw [h]
    exact ⟨a, b, _, rfl⟩
  · split
    · exact ⟨s.kp.posts, s.kp.postsLost, s.tmp.cfg, rfl⟩
    · obtain ⟨a, b, h⟩ := State.log_posts_eq 0x0016 3 2 [] s
      rw [h]
      exact ⟨a, b, _, rfl⟩

/-- The state in which POR is released, before its checks (R388, R396). -/
def State.powered (v18 : Bool) (s : State) : State := { s.beginRecall with
  pwr := { s.pwr with porLow := false, st := .inReset }, card := { s.card with v18 }, mss := { s.mss with st := .booting }
  kp := { s.beginRecall.kp with tripped := s.kp.tripped && !(s.pwr.st == .backup) } }

/-- POR_RELEASE starts the planes where no other reset holds them. -/
theorem porReleaseEvent_starts (hp : s.pwr.porLow = true) (hs : s.pwr.sysLow = false) (hl : s.pwr.planeLow = false) (head v18 : Bool) :
    ∃ a b c, porReleaseEvent head v18 s = State.startPlanes head { (s.powered v18) with
      kp := { (s.powered v18).kp with posts := a, postsLost := b }, tmp := { s.tmp with cfg := c } } := by
  obtain ⟨a, b, c, h1⟩ := State.checkBackup_eq (s.powered v18)
  obtain ⟨a', b', h2⟩ := State.log_posts_eq 0x0001 0 0 [(Config.resetDetail rkPor).1, (Config.resetDetail rkPor).2] (s.powered v18).checkBackup
  have heq : (s.powered v18).checkBackup.logReset rkPor = { (s.powered v18) with
      kp := { (s.powered v18).kp with posts := a', postsLost := b' }, tmp := { s.tmp with cfg := c } } := by
    rw [State.logReset, h2, h1]
    rfl
  have hev : porReleaseEvent head v18 s = if ((s.powered v18).checkBackup.logReset rkPor).released
      then ((s.powered v18).checkBackup.logReset rkPor).startPlanes head else (s.powered v18).checkBackup.logReset rkPor :=
    if_neg (by simp [hp])
  refine ⟨a', b', c, ?_⟩
  rw [hev, heq]
  have hrel : State.released { (s.powered v18) with
      kp := { (s.powered v18).kp with posts := a', postsLost := b' }, tmp := { s.tmp with cfg := c } } = true :=
    State.released_of (by rfl) (by rfl) hs hl
  exact if_pos hrel

/-! ## Link resets -/

theorem perstEvent_resets (hlow : s.gctl.perstLow = false) (hp : s.planesHeld = false) : perstEvent s =
    State.linkReset rcPerst rkPerst { s with gctl := { s.gctl with perstLow := true, linkWidth := 0, linkRate := 0 } } := by
  rw [perstEvent, if_neg (by simp [hlow])]
  exact if_neg (by rw [show State.planesHeld { s with gctl := { s.gctl with perstLow := true, linkWidth := 0, linkRate := 0 } } = _ from hp]; simp)

theorem flrEvent_resets (hlow : s.gctl.perstLow = false) (hp : s.planesHeld = false) : flrEvent s = s.linkReset rcFlr rkFlr := by
  rw [flrEvent, if_neg (by simp [hlow, hp])]

/-- The cause of a link reset is noted, and the life cycle stays. -/
theorem State.linkReset_notes (hb : bit < 7) (kind : Nat) (s : State) :
    (s.linkReset bit kind).pwr.rstCause.getLsbD bit = true ∧ (s.linkReset bit kind).life = s.life := by
  have h (v : State) : v.touches [.gctl, .queues, .epochBase, .led, .ru, .spn, .sl, .dig, .ks, .arb, .skn, .kp, .mss, .pwr, .posted]
      (v.linkReset bit kind) := by simp
  refine ⟨?_, Life.eq_of_others (h s .life (by decide)) (h s .fuses (by decide))⟩
  rw [State.linkReset, State.logReset, State.log_pwr]
  exact getLsbD_setBit _ _ _ hb

/-- What a link reset leaves, also from a state whose link has gone down. -/
theorem State.link_reset {g : Gctl} (hu : u = { s with gctl := g }) (hb : bit < 7) (h : (s.queue 0).st = .active) (kind : Nat) :
    ((u.linkReset bit kind).queue 0).st = .active ∧ ((u.linkReset bit kind).queue 0).epoch = (s.queue 0).epoch + 1 ∧
      ((u.linkReset bit kind).queue 0).inflight = [] ∧ (∀ q, q ≠ 0 → ((u.linkReset bit kind).queue q).st = .absent) ∧
      (u.linkReset bit kind).gctl.en = false ∧ (u.linkReset bit kind).ru.jrn.en = false ∧
      (u.linkReset bit kind).pwr.rstCause.getLsbD bit = true ∧ (u.linkReset bit kind).ks.dmks = s.ks.dmks ∧
      (u.linkReset bit kind).life = s.life := by
  have hq : u.queue 0 = s.queue 0 := by rw [hu]; rfl
  obtain ⟨h1, h2, h3, h4, h5⟩ := State.linkReset_ends (s := u) bit kind (by rw [hq]; exact h)
  obtain ⟨h6, h7⟩ := State.linkReset_notes hb kind u
  rw [h1, hq]
  exact ⟨rfl, rfl, rfl, h2, h3, h4, h6, h5.trans (by rw [hu]), h7.trans (by rw [hu])⟩

/-! ## The reset of the MSS (R369) -/

theorem State.resetMss_resets (h : s.mss.ho = none) (kind : Nat) :
    (s.resetMss kind).mss.st = .booting ∧ (s.resetMss kind).mss.staging = none ∧ (s.resetMss kind).mss.running = none ∧
      (s.resetMss kind).life.challenge = none ∧ (s.resetMss kind).queues = s.queues ∧ (s.resetMss kind).led = s.led ∧
      (s.resetMss kind).ks = s.ks ∧ (s.resetMss kind).pwr.rstCause.getLsbD rcMss = true := by
  have hcut : s.cutHandover = s := by
    rw [State.cutHandover, h]
  obtain ⟨a, b, hlog⟩ := State.log_posts_eq 0x0001 0 0 [(Config.resetDetail kind).1, (Config.resetDetail kind).2] s
  rw [State.resetMss, hcut, State.logReset, hlog]
  exact ⟨rfl, rfl, rfl, rfl, rfl, rfl, rfl, getLsbD_setBit _ _ _ (by decide)⟩

end

/-- Settles O46: each reset is its common part, whose effect is a lemma, and what its own inputs hold. -/
theorem resetsPutBackWhatTheyReset : Obligations.ResetsPutBackWhatTheyReset := by
  intro s
  refine ⟨?planes, ?life, ?release, ?por, ?porRelease, ?power, ?link, ?perstUp, ?mss⟩
  case planes =>
    intro i c hi hm hs hl
    simp only [List.mem_cons, List.not_mem_nil, or_false, Prod.mk.injEq] at hi
    rcases hi with ⟨rfl, rfl⟩ | ⟨rfl, rfl⟩
    · refine ⟨_, rfl, ?_⟩
      rw [sysRstEvent, if_neg (by simp [hm, hs])]
      exact State.planes_reset { s.pwr with sysLow := true } rkSys s
    · refine ⟨_, rfl, ?_⟩
      rw [supplyResetEvent, if_neg (by simp [hm, hl])]
      exact State.planes_reset { s.pwr with planeLow := true } rkSupply s
  case life =>
    intro hd hm
    refine ⟨_, rfl, ?_⟩
    obtain ⟨u, hu, hev⟩ := lifeResetEvent_resets hd hm
    obtain ⟨h1, h2, -, h4, -, -, h7, h8, h9, -⟩ :=
      State.sysReset_resets (bit := rcLc) (by decide) rkLife { s with life := { s.life with resetDue := false } }
    rw [← hu] at h1 h2 h4 h7 h8 h9
    have hres : u.life.resetDue = false ∧ (∀ q, (u.queue q).st = .absent) ∧ u.led.pools = [] ∧ u.gctl.ready = false ∧
        u.pwr.rstCause.getLsbD rcLc = true ∧ u.life.count = s.life.count ∧ u.kp.flash = s.kp.flash :=
      ⟨by rw [h8], h1, h2, h4, h7, by rw [h8], h9⟩
    rcases hev with hev | hev
    · rw [hev]
      exact hres
    · obtain ⟨l, b, hstart⟩ := State.startPlanes_eq s.skn.head u
      rw [hev, hstart]
      exact hres
  case release =>
    intro head hst hp
    refine ⟨fun hs hl => ⟨_, rfl, ?_⟩, fun hs hl => ⟨_, rfl, ?_⟩, fun hs hl => ⟨_, rfl, ?_⟩⟩
    · obtain ⟨l, b, h⟩ := State.startPlanes_eq head { s with pwr := { s.pwr with sysLow := false } }
      rw [sysReleaseEvent_starts hst hp hs hl, h]
      exact ⟨rfl, rfl, rfl, List.mem_cons_self .., rfl⟩
    · obtain ⟨l, b, h⟩ := State.startPlanes_eq head { s with pwr := { s.pwr with planeLow := false } }
      rw [supplyReleaseEvent_starts hst hp hs hl, h]
      exact ⟨rfl, rfl, rfl, List.mem_cons_self .., rfl⟩
    · rw [sysReleaseEvent_holds hs hl]
      exact ⟨rfl, hst⟩
  case por =>
    intro hm
    refine ⟨_, rfl, ?_⟩
    obtain ⟨h1, h2, h3, ⟨h4, h5, h6⟩, ⟨h7, h8⟩, h9, h10, h11⟩ := State.resetAll_resets true s
    rw [porEvent, if_pos hm]
    exact ⟨by rw [h1], by rw [h1], by rw [h1]; rfl, h2, h3, h4, h5, h6, h7, h8, h9, h10, h11⟩
  case porRelease =>
    intro head v18 hp hs hl
    refine ⟨_, rfl, ?_⟩
    obtain ⟨a, b, c, hev⟩ := porReleaseEvent_starts hp hs hl head v18
    obtain ⟨l, d, h⟩ := State.startPlanes_eq head { (s.powered v18) with
      kp := { (s.powered v18).kp with posts := a, postsLost := b }, tmp := { s.tmp with cfg := c } }
    rw [hev, h]
    exact ⟨rfl, rfl, rfl, rfl, rfl, rfl, rfl, rfl, rfl⟩
  case power =>
    intro whole cell hb
    refine ⟨_, rfl, ?_⟩
    obtain ⟨-, -, -, ⟨h4, -, -⟩, ⟨h7, h8⟩, h9, h10, -⟩ := State.resetAll_resets whole s
    rw [powerFailEvent, if_neg hb]
    generalize s.resetAll whole = v at h4 h7 h8 h9 h10 ⊢
    cases cell
    · exact ⟨rfl, rfl, rfl, h4, h10, nofun, fun _ => ⟨rfl, rfl, rfl⟩⟩
    · exact ⟨rfl, rfl, rfl, h4, h10, fun _ => ⟨h7, h8, h9⟩, nofun⟩
  case link =>
    intro i c hi hlow hheld hact
    simp only [List.mem_cons, List.not_mem_nil, or_false, Prod.mk.injEq] at hi
    rcases hi with ⟨rfl, rfl⟩ | ⟨rfl, rfl⟩
    · refine ⟨_, rfl, ?_⟩
      rw [perstEvent_resets hlow hheld]
      exact State.link_reset rfl (by decide) hact rkPerst
    · refine ⟨_, rfl, ?_⟩
      rw [flrEvent_resets hlow hheld]
      exact State.link_reset (s := s) (u := s) (g := s.gctl) rfl (by decide) hact rkFlr
  case perstUp =>
    refine ⟨_, rfl, ?_⟩
    rw [perstReleaseEvent, State.trainLink]
    split
    · exact ⟨rfl, rfl, rfl, fun _ => ⟨rfl, rfl⟩⟩
    · next h => exact ⟨rfl, rfl, rfl, fun h2 => absurd (by simpa using h2) h⟩
  case mss =>
    intro hho hst
    refine ⟨_, rfl, ?_⟩
    rw [mssWatchdogEvent, if_pos (by simp [hst])]
    exact State.resetMss_resets hho rkMssWatchdog

end Sys2Proof.Machine
end
